-- ==== Sys2Proof/Word.lean ====
section
/-! DEFINITION. The plain words of the model: octets, 32-bit words, port and session numbers.
Nothing here carries behaviour. -/

namespace Sys2Proof

/-- One octet on a wire or in a memory. -/
abbrev Byte := BitVec 8
/-- A 16-bit word. -/
abbrev Half := BitVec 16
/-- A 32-bit word: a host-window word, an OTP word, a PD data object. -/
abbrev Word := BitVec 32
/-- A cable port C0 to C7. -/
abbrev CPort := Fin 8
/-- A switch port: 0-7 C0-C7, 8-11 X0-X3, 12 H, 13 M, 14 G, 15 L (Table 0-2). -/
abbrev SPort := Fin 16
/-- A chassis slot S0 to S3. -/
abbrev Slot := Fin 4
/-- A traffic class TC0 to TC7. -/
abbrev TClass := Fin 8
/-- A ZOP session number as the SESS field carries it (Table 4-3). -/
abbrev SessNo := BitVec 10

end Sys2Proof
end

