-- ==== Sys2Proof/Config.lean ====
section
/-! DEFINITION. What an implementation fixes and the spec leaves open (free values, no body), and the clock figures of
Table 1-2. -/

namespace Sys2Proof.Config

/-- A free value of the device: the nonces it draws (R119, R598), the scalar it draws (R585), and any other value the
spec leaves open. Nothing constrains it; the step applies it to a counter of State and advances the counter
(log entry 3). -/
opaque freeValue : Nat → BitVec 256

/-- A free value that depends on what it stands for: a quantity the spec names but gives no figure for (log entry 3). -/
opaque openFigure : String → Nat → Nat

/-- TTB tick, the period of the timebase domain (Table 1-2): the unit by which an idle step advances time. -/
def tickNs : Nat := 8

/-- One AON tick at 32.768 kHz, rounded up to 1 ns (Table 1-2, R628). -/
def aonTickNs : Nat := 30518

end Sys2Proof.Config
end

