-- ==== Sys2Proof/Syntax.lean ====
section
/-! DEFINITION. The commands of the block: one constructor per row of spec/opcode_table.json, and the operand types they
carry. The table gives no operand bits; what a row carries is what its rule says comes from outside the device
(log entry 4). Byte strings are in the order the wire carries them. -/

namespace Sys2Proof

/-- A monitored rail (Table 2-9, R43). -/
inductive Rail where
  | core | ser | hk
  deriving DecidableEq, Repr

/-- A VDDIO bank, or VCONN_IN, whose status element 8 of 0x0012 reports (Table 2-11). -/
inductive Bank where
  | h | f | s | n | vconn
  deriving DecidableEq, Repr

/-- Causes of a reset (LAST_RESET, Table 3-12). -/
inductive ResetCause where
  | por | resetN | rail | watchdog | glitch | hostRequest | debug
  deriving DecidableEq, Repr

/-- What one CC line shows (R195, Table 6-1). -/
inductive CcLine where
  | nothing | rd | ra | rpDefault | rp1A5 | rp3A0
  deriving DecidableEq, Repr

/-- A Type-C current level (RP_INITIAL, RP_DEAD_BATTERY, FRS_MAX). -/
inductive RpLevel where
  | default | a1_5 | a3_0
  deriving DecidableEq, Repr

/-- The transport a ZOP message came by, with its source (R127, Table 4-8): for a datagram its ingress port, addresses and ports
and the VID of its C-VLAN tag, for a Structured VDM its MessageID. -/
inductive Transport where
  | mailbox
  | udp (port : SPort) (v6 : Bool) (addr : BitVec 128) (srcPort : Half) (dstPort : Half) (dst : BitVec 128)
      (tag : Option (BitVec 12)) (fragment : Bool)
  | nguzo (chB : Bool) (frameId : BitVec 10)
  | pd (port : CPort) (id : BitVec 3)
  deriving DecidableEq, Repr

/-- A ZOP request as it reaches the engine: the fields of Table 4-3 but for OPCODE, which the row gives (`opcode` is used
where the row does not fix it), and what the engine already holds when it is admitted (R136). -/
structure ZReq where
  via     : Transport
  sess    : Half
  seq     : Half
  element : Byte
  object  : Half
  length  : Half
  payload : List Byte
  tag     : List Byte
  /-- Worst-case service time already queued in the engine, in microseconds (R136). -/
  queuedUs : Nat
  /-- Requests already waiting in this transport's queue (R136, Table 4-8). -/
  queued   : Nat
  deriving DecidableEq, Repr

/-- The resistance, in kilohm, that a guard check reads on each pin (Table 6-2). -/
structure PinKohm where
  cc1  : Nat
  cc2  : Nat
  sbu1 : Nat
  sbu2 : Nat
  vbus : Nat
  deriving DecidableEq, Repr

/-- A partner's answer to a structured VDM (R205, R208, R220). -/
inductive VdmAnswer where
  | ack (vdos : List Word)
  | nak
  | notSupported
  deriving DecidableEq, Repr

/-- The three exchanges of discovery, in their order (R208). -/
inductive Discovery where
  | identity | svids | modes
  deriving DecidableEq, Repr

/-- A VDM answer as it arrives: its MessageID, and what it says (R222, R253). -/
structure VdmReply where
  id     : BitVec 3
  answer : VdmAnswer
  deriving DecidableEq, Repr

/-- An answer of discovery, with the exchange that it answers (R208). -/
structure DiscoveryReply where
  id     : BitVec 3
  what   : Discovery
  answer : VdmAnswer
  deriving DecidableEq, Repr

/-- EXIT_MODE (R211, R220): the write of the element, or the pod's answer to the Exit Mode that went out. -/
inductive ExitEvent where
  | written (v : Bool)
  | answered (a : VdmReply)
  deriving DecidableEq, Repr

/-- An attach that the AON comparators of C0 or C1 see in DORMANT: whether VBUS rose, or Rd was seen (R70, Table 3-3). -/
structure CAttach where
  port : Fin 2
  vbus : Bool
  deriving DecidableEq, Repr

/-- A low of 8 macroticks on a channel, and whether the line rises in that very tick (R349). -/
structure LowRun where
  chB   : Bool
  rises : Bool
  deriving DecidableEq, Repr

/-- A send on a channel at a time in the cycle, in ns, as the guardian's gate sees it (R341, R342). -/
structure GateSend where
  chB : Bool
  at_ : Nat
  deriving DecidableEq, Repr

/-- Whether a timestamp was captured, and its error in ns (R380, R620). -/
structure Capture where
  captured : Bool
  err      : Int
  deriving DecidableEq, Repr

/-- How an attempt to clear a slot bus ends (R223): SDA high, SDA still low, or SCL low beyond the stretching limit. -/
inductive BusClear where
  | cleared | sdaLow | sclLow
  deriving DecidableEq, Repr

/-- Where a module sits: a cable port or a chassis slot (R215, R217). -/
inductive Place where
  | port (n : CPort)
  | slot (s : Slot)
  deriving DecidableEq, Repr

/-- How a cable answered SOP' and SOP'' Discover Identity (R203, R204). -/
inductive CableId where
  | none
  | answered (fiveAmp : Bool) (vmax : BitVec 2) (active : Bool)
  deriving DecidableEq, Repr

/-- An authentication request (R257-R259). -/
inductive AuthReq where
  | getDigests
  | getCertificate (slot : Nat) (offset length : Nat)
  | challenge (slot : Nat) (nonce : BitVec 256)
  | other
  deriving DecidableEq, Repr

/-- A received message with no command of its own (R251): one that Table 7-4 does not list, the BIST Carrier Mode of C2-C7,
EPR_KeepAlive_Ack, Not_Supported, Alert, a request for the next chunk of a message the device sends, the first chunk of a
longer message, EPR_Get_Source_Cap. -/
inductive OtherMsg where
  | unlisted | bistCarrier | eprKeepAliveAck | notSupported | alert | chunkRequest | firstChunk | eprGetSourceCap
  deriving DecidableEq, Repr

/-- The BIST modes of R251. -/
inductive BistMode where
  | carrier | testData
  deriving DecidableEq, Repr

/-- The answers of a source to EPR_Mode (R243, R245). -/
inductive EprAnswer where
  | enterAck | enterSucceeded | enterFailed | exit
  deriving DecidableEq, Repr

/-- A Nguzo frame as a channel receives it: the fields of Tables 9-1 and 9-2, the checks its bits passed, and when its
time reference edge and its last bit were sampled, in ns after the start of the current cycle (R315). -/
structure NgFrame where
  slotId    : BitVec 10
  cycle     : Byte
  length    : BitVec 6
  sync      : Bool
  start     : Bool
  null      : Bool
  epoch     : Bool
  reserved  : BitVec 4
  hcrc      : Byte
  payload   : List Byte
  crc       : Word
  /-- Delimiters correct and no coding violation (R315). -/
  codingOk  : Bool
  edgeNs    : Int
  endNs     : Int
  deriving DecidableEq, Repr

/-- An error-correction finding: a table or memory word in which a read found a single-bit or a double-bit error
(R431, R432, R470, R471, R500, R535-R537). `table` is the code of Table 5-6. -/
structure EccHit where
  table  : Byte
  index  : Nat
  double : Bool
  deriving DecidableEq, Repr

/-- The raw readings of one housekeeping round (R539, R540): VBUS in mV, current in mA and IBUS_RMS in mA of each cable
port, SRC_IN, VSYS, VCONN_IN in mV, core current in mA, PTAT temperature in Q16.16, and the counts of RO0-RO3. -/
structure RoundRecord where
  vbus    : List Nat
  ibus    : List Int
  rms     : List Nat
  srcIn   : Nat
  vsys    : Nat
  icore   : Nat
  ptat    : Int
  vconnIn : Nat
  ro      : List Nat
  deriving DecidableEq, Repr

/-- A time source (Table 10-1). -/
inductive TimeSource where
  | ptp | ppsIn | nguzo
  deriving DecidableEq, Repr

/-- A pin whose pulse ends (R367, R368). -/
inductive PulsePin where
  | ppsOut | epochOut0 | epochOut1
  deriving DecidableEq, Repr

/-- What a debug request asks of the sequencer (R599). -/
inductive DebugOp where
  | halt | step | run | sysReset
  deriving DecidableEq, Repr

/-- What a burn pass found once its further passes ended (R588, R589): the bits still weak, and the bits that should be 0
and read 1. -/
structure BurnResult where
  weak  : BitVec 39
  extra : BitVec 39
  deriving DecidableEq, Repr

/-- The commands of the block, one constructor per row of spec/opcode_table.json: those with operands in the table's order,
then those without. -/
inductive Instr where
  -- obligations
  | obligationClear (v : Bool)
  -- waking, reset, start-up
  | strapSampleA (levels : BitVec 5)
  | strapSampleB (levels : BitVec 5)
  | railOutOfRange (rail : Rail)
  | dormantRpWindow (opens : Bool)
  | dormantMoistureCheck (kohm0 kohm1 : Nat)
  | wakeCAttach (a : CAttach)
  | dormantTimerExpiry (also : BitVec 6)
  | targetWrite (v : Nat)
  | deadBatteryStart (vbus0 vbus1 : Nat) (rp : RpLevel)
  | sysResetRequest (v : Bool)
  | sysReset (cause : ResetCause)
  | portReset (ports : BitVec 8)
  | fabReset (v : Bool)
  | bootRelease (policy : BitVec 2)
  | blockValid (len : BitVec 13)
  | imageLoadDone (answers : Bool)
  -- object dictionary
  | read (q : ZReq)
  | write (q : ZReq)
  | bundleOpen (q : ZReq)
  | bundleAdd (q : ZReq)
  | bundleCommit (q : ZReq)
  | bundleAbort (q : ZReq)
  | subscribe (q : ZReq)
  | sessionOpen (q : ZReq)
  | sessionProveChallenge (q : ZReq)
  | sessionProveProof (q : ZReq)
  | sessionClose (q : ZReq)
  | notifyRequest (q : ZReq) (opcode : Byte)
  | deadlineAnswer (q : ZReq) (opcode : Byte)
  | bundleExpiry (sess : SessNo)
  | sessionIdleExpiry (sess : SessNo)
  | proofNonceExpiry (sess : SessNo)
  | notifySend (sess : SessNo) (object : Half) (element : Byte)
  | notifyPeriodic (sess : SessNo) (object : Half) (element : Byte)
  | journalAppend (programmed : Bool)
  | alarmAck (mask : BitVec 64)
  -- host window
  | qspiRead (addr : BitVec 24) (words : Nat) (cut : Bool)
  | qread (addr : BitVec 24) (words : Nat) (cut : Bool)
  | qspiWrite (addr : BitVec 24) (data : List Word) (cut : Bool)
  | qwrite (addr : BitVec 24) (data : List Word) (cut : Bool)
  | qspiBadOpcode (opcode : Byte)
  | registerWrite (addr : BitVec 24) (data : Word)
  | mbxDoorbell (data : Word)
  | otpReadCmd (word : BitVec 10)
  | otpProgramCmd (word : BitVec 10)
  | otpProgramDone (r : BurnResult)
  | tdmaRead (ecc : List EccHit)
  | tdmaWrite
  | tdmaInsert
  | tdmaDelete
  | tdmaSearch
  | tdmaLock
  | tdmaUnlock
  | lockExpired (table : Byte) (index : Nat)
  -- cable attach
  | ccAttach (n : CPort) (cc1 cc2 : CcLine) (cable : CableId)
  | ccDetach (n : CPort)
  | ccShortTest (n : CPort) (low : Bool)
  | ccShortRetest (n : CPort) (low : Bool)
  | guardCheck (n : CPort)
  | guardCheckDone (n : CPort) (k : PinKohm)
  | vconnFault (n : CPort)
  | discoverModes (n : CPort) (a : DiscoveryReply)
  | enterMode (n : CPort) (a : VdmReply)
  | identityRead (n : CPort) (a : VdmReply)
  | linkRate (n : CPort) (a : VdmReply)
  | epochSubscribe (n : CPort) (a : VdmReply)
  | podLinkUp (n : CPort)
  | linkUpTimeout (n : CPort)
  | vdmResponseTimeout (n : CPort)
  | reapply (p : Place) (v : Bool)
  | exitMode (n : CPort) (e : ExitEvent)
  | slotPoll (s : Slot) (ack : Bool)
  | slotReadDone (s : Slot) (block : List Byte)
  | slotReadRetry (s : Slot)
  | slotBusClear (s : Slot) (r : BusClear)
  | slotClampRetry (s : Slot) (r : BusClear)
  -- contracts
  | sourceCapabilities (n : CPort) (id : BitVec 3) (pdos : List Word)
  | renegotiate (n : CPort) (v : Bool)
  | request (n : CPort) (id : BitVec 3) (rdo : Word)
  | accept (n : CPort) (id : BitVec 3)
  | goodcrc (n : CPort) (id : BitVec 3)
  | psRdy (n : CPort) (id : BitVec 3)
  | waitReoffer (n : CPort)
  | tsrcTransition (n : CPort)
  | getSourceCap (n : CPort) (id : BitVec 3)
  | getSinkCap (n : CPort) (id : BitVec 3)
  | getStatus (n : CPort) (id : BitVec 3)
  | getPpsStatus (n : CPort) (id : BitVec 3)
  | unsupportedMessage (n : CPort) (id : BitVec 3) (m : OtherMsg)
  | prSwap (n : CPort) (id : BitVec 3)
  | drSwap (n : CPort) (id : BitVec 3)
  | vconnSwap (n : CPort) (id : BitVec 3)
  | frSwapSignal (n : CPort)
  | softReset (n : CPort)
  | hardReset (n : CPort) (received : Bool)
  | tsrcRecover (n : CPort)
  | eprModeEnter (n : CPort)
  | eprMode (n : CPort) (id : BitVec 3) (a : EprAnswer)
  | eprSourceCapabilities (n : CPort) (id : BitVec 3) (pdos : List Word)
  | eprKeepalive (n : CPort)
  | eprKeepaliveAckTimeout (n : CPort)
  | sinkPpsKeepalive (n : CPort)
  | sourcePpsTimeout (n : CPort)
  | senderResponseTimeout (n : CPort)
  | crcReceiveTimeout (n : CPort)
  | sourceCapabilityTimeout (n : CPort)
  | psTransitionTimeout (n : CPort)
  | errorRecovery (n : CPort)
  | securityRequest (n : CPort) (id : BitVec 3) (a : AuthReq)
  | challengeAuthDone (n : CPort)
  -- power path and ledger
  | shortDetect (n : CPort)
  | overcurrent (n : CPort)
  | overVoltage (n : CPort)
  | reverseCurrent (n : CPort)
  | shortRetry (n : CPort)
  | inrushDone (n : CPort)
  | inrushFail (n : CPort)
  | inrushRetry (n : CPort)
  | dischargeDone (n : CPort)
  | dischargeTimeout (n : CPort)
  | shepherdStep (took : Nat)
  | faultClear (n : CPort) (v : Bool)
  -- Nguzo bus
  | staticSlotTransmit (slot : Nat)
  | dynamicFrameTransmit (chB : Bool)
  | minislotBoundary (chB : Bool)
  | nguzoFrameReceived (chB : Bool) (f : NgFrame)
  | channelClamp (l : LowRun)
  | nitProbe (chB : Bool) (high : Bool)
  | guardTrip (g : GateSend)
  | enableChannel (chB : Bool) (v : Bool)
  | gatewayToBus (octets : List Byte)
  -- timebase
  | ptpSync (port : SPort) (octets : List Byte) (captured : Bool) (err : Int)
  | ptpFollowUp (port : SPort) (octets : List Byte)
  | ptpAnnounce (port : SPort) (octets : List Byte)
  | pdelayReq (port : SPort) (octets : List Byte) (captured : Bool) (err : Int)
  | pdelayResp (port : SPort) (octets : List Byte) (c : Capture)
  | timeSet (v : BitVec 64)
  | epochBoundary (k : Fin 16)
  | windowOpen (port : SPort) (n : Fin 8)
  | windowClose (port : SPort) (n : Fin 8)
  -- switch
  | frameDecision (port : SPort) (octets : List Byte) (rxOk : Bool) (firstNs : Nat) (ecc : List EccHit)
  | pauseResend (port : SPort)
  | transmitSelect (port : SPort) (eccDouble : Bool)
  | copyTransmitted (port : SPort) (eccDouble : Bool)
  | residueTimeout (frame : Nat)
  | pauseReceived (port : SPort) (quanta : Half)
  | pauseExpiry (port : SPort)
  | linkUp (port : SPort) (mbps : Nat)
  | linkDown (port : SPort)
  | phyPoll (port : SPort) (up : Bool)
  | mdioOp (op : Nat)
  | mdioDone (answered : Bool) (data : Half)
  -- station tables
  | agerVisit (place : Nat)
  | flush (port : SPort) (v : Bool)
  | flushFid (fid : Nat)
  | scrubPass (us : Nat) (ecc : List EccHit)
  -- routes
  | routeSecondPass (ecc : List EccHit)
  | routeAdd (sess : SessNo)
  | routeDelete (sess : SessNo)
  | editorWrite (v : Nat)
  | routeRepair (table : Byte) (index : Nat)
  -- heat and air
  | housekeepingRound (r : RoundRecord)
  | heatShed (n : CPort)
  | ceilingRelease (n : CPort)
  | fanReload (f : Fin 2)
  | tachEdge (f : Fin 2)
  | tachTimeout (f : Fin 2)
  | stallDetect (f : Fin 2)
  | stallClear (f : Fin 2)
  | commission (f : Fin 2) (v : Nat)
  | commissionStep (f : Fin 2)
  | restart (v : Bool)
  | retry (r : Fin 4) (v : Bool)
  -- fuses
  | append (sess : SessNo) (record : List Byte)
  | void (addr : Nat)
  | keyData (sess : SessNo) (key : BitVec 256)
  | keygen (sess : SessNo) (v : Bool)
  | revoke (mask : BitVec 12)
  | advance (sess : SessNo) (target : Nat)
  | rollbackAdvance (v : Nat)
  | unlockResp (resp : BitVec 256)
  -- rows added at the table's end
  | ccDebounce (n : CPort) (cc1 cc2 : CcLine)
  | drpToggle (n : CPort)
  | trySnkTimeout (n : CPort)
  | errorRecoveryDone (n : CPort)
  | sinkCapabilities (n : CPort) (id : BitVec 3) (pdos : List Word)
  | wait (n : CPort) (id : BitVec 3)
  | reject (n : CPort) (id : BitVec 3)
  | sinkRequestTimer (n : CPort)
  | chunkSenderTimeout (n : CPort)
  | hardResetCompleteTimeout (n : CPort)
  | getSourceCapExtended (n : CPort) (id : BitVec 3)
  | getSinkCapExtended (n : CPort) (id : BitVec 3)
  | getBatteryStatus (n : CPort) (id : BitVec 3)
  | bist (n : CPort) (id : BitVec 3) (m : BistMode)
  | cutThroughFrameEnd (port : SPort) (length : Nat) (bad : Bool)
  | pulseWidthEnd (pin : PulsePin)
  | pdelayReqInterval (port : SPort)
  | debugRequest (op : DebugOp)
  | bankSupplyChange (bank : Bank) (ok : Bool)
  | halfDuplex (port : SPort)
  -- obligations
  | shedOverrunCut
  | overrunCutRepeat
  -- waking, reset, start-up
  | aonPorRelease
  | porAssert
  | resetNAssert
  | resetNRise
  | railsInRange
  | railTimeout
  | railRetry
  | aonXtalFail
  | wakeNg
  | wakePpsIn
  | wakeHcsN
  | wakeLatchedBoot
  | idleHoldExpiry
  | activeDrainTimeout
  | dormantEntry
  | deadBatterySinkClose
  | vsysTakeover
  | watchdogExpiry
  | bootTimeout
  | freelistEccError
  | fabResetDone
  | refclkLock
  | refclkTimeout
  | otpCheckDone
  | hdrValid
  | imageEnd
  | imageVerifyDone
  | replayDone
  | bootDoneClear
  -- object dictionary
  | proofLockoutEnd
  -- host window
  | rdsr
  | rdid
  | tsnapTake
  | tsnapDone
  -- power path and ledger
  | droopStart
  | droopEnd
  | droopLimit
  | restoreCheck
  -- Nguzo bus
  | scheduleCycleStart
  | listenTimeout
  | cycleEnd
  -- timebase
  | ppsInEdge
  | ppsInTimeout
  | announceReceiptTimeout
  | holdoffExpiry
  | lockReached
  | ppsOutSecond
  -- switch
  | ageSweep
  -- station tables
  | learnRequest
  | stashDrain
  | flushDone
  -- routes
  | routeCommandDone
  | puntReceived
  -- shapers, tally
  | shaperRefill
  | tallyExport
  -- heat and air
  | modelStep
  | roundRecordLate
  | critAssert
  | critRelease
  | heartbeat
  | hostSilence
  -- fuses
  | unlockChal
  | unlockNonceExpiry
  | glitchTrip
  -- rows added at the table's end
  | ptpMasterInterval
  deriving DecidableEq, Repr

end Sys2Proof
end

