-- ==== Sys2Proof/WellFormed.lean ====
section
/-! DEFINITION. Which commands are well formed: the bounds that the rules put on what reaches the device, for the operands
whose types do not say it already. A command that is not well formed is one that nothing outside the device can send;
the meanings are total all the same. -/

namespace Sys2Proof

/-- A request carries a 8-octet tag or none, and at most as many octets as LEN can count (Table 4-3). -/
def ZReq.wellFormed (q : ZReq) : Bool :=
  (q.tag.isEmpty || q.tag.length == 8) && decide (q.payload.length < 65536)

/-- A power data object list of a capabilities message: one to seven objects in SPR, up to eleven in EPR (Table 7-4). -/
def pdosWellFormed (limit : Nat) (pdos : List Word) : Bool :=
  decide (1 ≤ pdos.length) && decide (pdos.length ≤ limit)

/-- A round record holds one reading for each of the eight cable ports and one count for each of RO0 to RO3 (R539). -/
def RoundRecord.wellFormed (r : RoundRecord) : Bool :=
  r.vbus.length == 8 && r.ibus.length == 8 && r.rms.length == 8 && r.ro.length == 4

/-- A frame reaches a port with a header at least, and shorter than the 16,384 octets that a receiver follows (R382). -/
def octetsWellFormed (o : List Byte) : Bool :=
  decide (14 ≤ o.length) && decide (o.length < 16384)

/-- A structured VDM answer carries at most six VDOs (Table 6-4). -/
def VdmAnswer.wellFormed : VdmAnswer → Bool
  | .ack vdos => decide (vdos.length ≤ 6)
  | .nak => true
  | .notSupported => true

/-- Well-formedness of a command. -/
def Instr.wellFormed : Instr → Bool
  | .read q | .write q | .bundleOpen q | .bundleAdd q | .bundleCommit q | .bundleAbort q | .subscribe q
  | .sessionOpen q | .sessionProveChallenge q | .sessionProveProof q | .sessionClose q => q.wellFormed
  | .notifyRequest q _ | .deadlineAnswer q _ => q.wellFormed
  | .sourceCapabilities _ _ pdos | .sinkCapabilities _ _ pdos => pdosWellFormed 7 pdos
  | .eprSourceCapabilities _ _ pdos => pdosWellFormed 11 pdos
  | .slotReadDone _ block => block.length == 256
  | .housekeepingRound r => r.wellFormed
  | .frameDecision _ octets _ _ _ => octetsWellFormed octets
  | .ptpSync _ octets _ _ | .ptpFollowUp _ octets | .ptpAnnounce _ octets | .pdelayReq _ octets _ _
  | .pdelayResp _ octets _ => octetsWellFormed octets
  | .discoverModes _ a => a.answer.wellFormed
  | .enterMode _ a | .identityRead _ a | .linkRate _ a | .epochSubscribe _ a | .exitMode _ (.answered a) => a.answer.wellFormed
  | .append _ record => decide (record.length ≤ 65535)
  | _ => true

end Sys2Proof
end

