-- ==== Sys2Proof/Machine/State.lean ====
section
/-! DEFINITION. The state of the block as plain data: one record per plane, the reasons a step can stop, and the state
after reset. Sparse tables are association lists in one canonical form (keys strictly rising, no entry equal to the
default), so equal contents are equal data. -/

namespace Sys2Proof.Machine

/-- A sparse table: key and value, keys strictly rising, unlisted keys at a default that the reader names. -/
abbrev Tbl (α : Type) := List (Nat × α)
/-- A memory of octets: the same form, as the host's cells. -/
abbrev Mem := List Host.Cell

/-! ### Reset, power and boot (chapters 2 and 3) -/

/-- The power states of R65. -/
inductive PowerState where
  | off | dormant | idle | active
  deriving DecidableEq, Repr

/-- The boot stages of Table 3-10; `down` stands for no boot in progress (OFF and DORMANT). -/
inductive Stage where
  | strapsS | railsS | refclk | otpCheck | hold | imageFlash | imageHost | verify | policy | waitHost | halt | replay
  | ready | noImage | down
  deriving DecidableEq, Repr

/-- A strap window in progress (R36): whether it samples all five straps, and sample A once taken. -/
structure StrapWindow where
  all     : Bool
  sampleA : Option (BitVec 5)
  deriving DecidableEq, Repr

/-- The AON domain and the supplies (R34-R63, Tables 2-11, 3-11, 3-12). Bits of the strap sets: [1:0] TCRIT, [2] AON_SEL,
[3] BOOT_SRC, [4] BOOT_HOLD. `rpSuppress0/1` say that C0 or C1 reads WET in DORMANT and `dryChecks0/1` count the dry checks
since (R69, R200); `dormTimer` is the dormant timer's setting in seconds, which POR alone clears (Table 3-6). -/
structure Aon where
  power        : PowerState
  window       : Option StrapWindow
  sampled      : BitVec 5
  floating     : BitVec 5
  overridden   : BitVec 5
  tcrit        : BitVec 2
  aonRc        : Bool
  bootHost     : Bool
  bootHold     : Bool
  xtalFail     : Bool
  pwrEn        : Bool
  coreOk       : Bool
  serOk        : Bool
  hkOk         : Bool
  bankH        : Bool
  bankF        : Bool
  bankS        : Bool
  bankN        : Bool
  vconnOk      : Bool
  clamp        : Bool
  railFails    : Nat
  railFailCount : Nat
  railSawTimeout : Bool
  refFails     : Nat
  refFailCount : Nat
  resetNLow    : Bool
  lastReset    : ResetCause
  sysResetCount : Nat
  lastWake     : BitVec 8
  wakeEnable   : BitVec 6
  wakeLatch    : BitVec 6
  rpWindow     : Bool
  rpSuppress0  : Bool
  rpSuppress1  : Bool
  dryChecks0   : Nat
  dryChecks1   : Nat
  dormTimer    : Nat
  dbPort       : Option (Fin 2)
  dbClosed     : Bool
  dbRp         : Option RpLevel
  preReg       : Bool
  hold0        : Bool
  hold1        : Bool
  glitchLatch  : Bool
  glitchTimes  : List Nat
  glitchHalt   : Bool
  fanPullDown  : Bool
  deriving DecidableEq, Repr

/-- Boot progress and the host image load (R88-R104, R164, Table 5-10). -/
structure Boot where
  stage       : Stage
  startAt     : Nat
  bootDone    : Bool
  blockTaken  : Bool
  hdrTaken    : Bool
  imageReject : Bool
  blockCount  : Nat
  header      : List Byte
  body        : List Byte
  order       : List Nat
  trying      : Nat
  image       : Nat
  version     : Nat
  rollback    : Nat
  bootTime    : Nat
  policyApplied : Nat
  replayCount : Nat
  otpAlarm    : Bool
  latched     : BitVec 6
  sysResetPending : Bool
  target      : Nat
  leaving     : Bool
  deriving DecidableEq, Repr

/-! ### Object dictionary (chapter 4) -/

/-- The four roles, in order (R114). -/
inductive Role where
  | observer | operator | commissioner | custodian
  deriving DecidableEq, Repr

/-- The cached last response of a session (R123, R124). -/
inductive Cache where
  | empty
  | full (octets : List Byte)
  | long (status : Byte)
  deriving DecidableEq, Repr

/-- One write of a bundle, with the role it was added under (R130, R132). -/
structure BWrite where
  object  : Nat
  element : Nat
  value   : List Byte
  role    : Role
  deriving DecidableEq, Repr

/-- A challenge outstanding on a session (R119). -/
structure Challenge where
  role    : Nat
  keySlot : Nat
  nc      : List Byte
  nd      : List Byte
  deriving DecidableEq, Repr

/-- One client session (R115-R128, Tables 4-7, 4-14). -/
structure Session where
  isOpen    : Bool
  role      : Role
  clientId  : List Byte
  highest   : Half
  window    : BitVec 32
  statuses  : List Byte
  cache     : Cache
  lastVia   : Nat
  ks        : Option (List Byte)
  challenge : Option Challenge
  notifySeq : Half
  lost      : Bool
  bundle    : Option (List BWrite)
  bState    : Nat
  bApply    : Nat
  bResult   : Nat
  bFail     : Nat
  bSerial   : Nat
  deriving DecidableEq, Repr

/-- A bundle scheduled for a cycle start (R131-R133), with the number of its commit. -/
structure Scheduled where
  sess   : Nat
  serial : Nat
  cycle  : Nat
  writes : List BWrite
  deriving DecidableEq, Repr

/-- A subscription (R141, R142). -/
structure Sub where
  sess     : Nat
  object   : Nat
  element  : Nat
  periodic : Bool
  interval : Nat
  via      : Transport
  seen     : List Byte
  changed  : Bool
  merged   : Bool
  deriving DecidableEq, Repr

/-- A persistent change not yet journaled: one element, or a bundle's group (R148). -/
structure JournalItem where
  values : List (Nat × Nat × List Byte)
  group  : Bool
  deriving DecidableEq, Repr

/-- The object dictionary engine. `cfg` holds the value of every writable element that is plain storage, keyed
object * 256 + element, as a little-endian number; an unlisted key has its default, which `dflt` overrides (R579).
`sel` holds the elements that are held per requesting session, keyed session * 2^24 + object * 256 + element. `commits` counts
the bundles committed; `sentTimes` holds when the notifications of the last second were sent (R142). -/
structure Od where
  cfg        : Tbl Nat
  dflt       : Tbl Nat
  sel        : Tbl Nat
  sessions   : Tbl Session
  scheduled  : List Scheduled
  commits    : Nat
  subs       : List Sub
  sentTimes  : List Nat
  executed   : Nat
  duplicate  : Nat
  stale      : Nat
  busy       : Nat
  integrity  : Nat
  sessionCnt : Nat
  malformed  : Nat
  failTimes  : List Nat
  proofFails : Nat
  lockout    : Bool
  alarmActive  : BitVec 64
  alarmLatched : BitVec 64
  alarmEvents : BitVec 64
  watchOd    : Nat
  watchDeadline : Nat
  watchOverrun  : Nat
  watchShed  : Nat
  watchLate  : Nat
  journalState : Nat
  generation : Nat
  fill       : Nat
  sector     : Nat
  serial     : Nat
  replaySkipped : Nat
  recordSkipped : Nat
  unclean    : Bool
  pendingJournal : List JournalItem
  lastCompact : Nat
  deriving DecidableEq, Repr

/-! ### Host window (chapter 5) -/

/-- A table DMA descriptor as the engine reads it once (Table 5-4, R189). -/
structure Desc where
  at_    : Nat
  cmd    : Nat
  table  : Nat
  flags  : Nat
  index  : Nat
  count  : Nat
  lockMs : Nat
  data   : Nat
  deriving DecidableEq, Repr

/-- A descriptor in progress: the record that is next, and the status and RESULT_INDEX so far (R177, R192). -/
structure DescRun where
  desc   : Desc
  next   : Nat
  status : Nat
  result : Nat
  deriving DecidableEq, Repr

/-- The host window's registers, buffers and memories (Tables 5-3, 5-10 to 5-13). `hiz` is 1 after a transaction that left
HIO0-HIO3 at high impedance because of an unknown opcode (R191); `tdmaPace` is how many records the table DMA engine gets through
at its next command, the model's own (log entry 33). -/
structure HostWin where
  xferStatus : Byte
  dummy      : BitVec 4
  otpData    : Word
  otpResult  : BitVec 4
  irqStatus  : BitVec 10
  irqEnable  : BitVec 10
  irqPort    : Word
  irqPortEn  : Word
  mbxBusy    : Bool
  mbxDone    : Bool
  mbxOverrun : Bool
  mbxNotReady : Bool
  rspLen     : BitVec 10
  mbxLen     : Nat
  ntfHead    : BitVec 11
  ntfTail    : BitVec 11
  reqBuf     : Mem
  rspBuf     : Mem
  ring       : Mem
  staging    : Mem
  snap       : Mem
  tdmaEnable : Bool
  ringSize   : BitVec 7
  ringBase   : BitVec 16
  tdmaTail   : BitVec 6
  tdmaHead   : BitVec 6
  tdmaStopped : Bool
  tdmaRun    : Option DescRun
  tdmaPace   : Nat
  expIndex   : BitVec 24
  expTable   : Byte
  snapClear  : Bool
  snapBusy   : Bool
  snapSet    : BitVec 2
  snapFirst  : BitVec 13
  snapCount  : BitVec 13
  snapTime   : BitVec 64
  snapSeq    : Word
  hiz        : Bool
  deriving DecidableEq, Repr

/-! ### Cable ports (chapters 6, 7, 8 and the port objects of chapter 15) -/

/-- TYPEC_STATE (Table 6-7). -/
inductive TypeC where
  | unattached | attachWait | attachedSrc | attachedSnk | trySnk | accessory | errorRecovery | ccShort
  deriving DecidableEq, Repr

/-- GUARD_STATE (Table 6-7). -/
inductive Wetness where
  | dry | damp | wet
  deriving DecidableEq, Repr

/-- POD_STATE (Table 6-7). -/
inductive PodState where
  | none | discovering | reading | linkUp | identBad | linkFail | failed | notAPod
  deriving DecidableEq, Repr

/-- The pod link exchange outstanding on a port (R208, R220). -/
inductive VdmStep where
  | idle | discoverIdentity | discoverSvids | discoverModes | enterMode | identity (offset : Nat) | linkRate (rate : Nat) | epoch (stream : Nat) | exitMode
  deriving DecidableEq, Repr

/-- Where the lane mux of C0 or C1 connects the selected pair (R205). -/
inductive MuxRoute where
  | nothing | lane | usb3
  deriving DecidableEq, Repr

/-- POWER_ROLE (Table 7-7). -/
inductive PowerRole where
  | none | source | sink
  deriving DecidableEq, Repr

/-- DATA_ROLE (Table 7-7). -/
inductive DataRole where
  | none | dfp | ufp
  deriving DecidableEq, Repr

/-- CONTRACT (Table 7-7). -/
inductive Contract where
  | none | implicit | spr | epr | typecOnly
  deriving DecidableEq, Repr

/-- PDO_KIND (Table 7-7). -/
inductive PdoKind where
  | fixed | pps | avs
  deriving DecidableEq, Repr

/-- FRS_STATE (Table 7-7). -/
inductive FrsState where
  | off | armed | swapped
  deriving DecidableEq, Repr

/-- EPR_STATE (Table 7-7). -/
inductive EprState where
  | off | entering | inEpr | refused
  deriving DecidableEq, Repr

/-- PATH_STATE (Table 8-4). -/
inductive PathState where
  | off | inrush | frozen | on | discharging | faultShort | faultOc | faultOv | faultReverse | latched | shed
  deriving DecidableEq, Repr

/-- SHED_CAUSE (Table 8-4). -/
inductive ShedCause where
  | none | ledger | overrun | critical
  deriving DecidableEq, Repr

/-- HEAT_STATE (Table 15-3). -/
inductive HeatState where
  | normal | derated | shed
  deriving DecidableEq, Repr

/-- The PD messages the device sends that the model names (Table 7-4). -/
inductive PdMsg where
  | goodCrc (id : BitVec 3)
  | accept | reject | wait | psRdy | softReset | notSupported
  | getSourceCap | getSinkCap | prSwap | frSwap
  | sourceCaps (pdos : List Word)
  | sinkCaps (pdos : List Word)
  | request (rdo : Word)
  | eprRequest (rdo : Word) (pdo : Word)
  | eprMode (enter : Bool) (pdp : Nat)
  | eprKeepAlive
  | alert (ado : Word)
  | status (octets : List Byte) (mismatch : Bool)
  | ppsStatus (octets : List Byte)
  | batteryStatus (bsdo : Word)
  | sourceCapsExt
  | sinkCapsExt
  | vdm (header : Word) (vdos : List Word)
  | cableIdentity (second : Bool)
  | security (chunk size : Nat) (octets : List Byte)
  | chunkRequest (chunk : Nat)
  | bist (carrier : Bool)
  deriving DecidableEq, Repr

/-- How far the reading of an e-marked cable has come: Discover Identity on SOP', then on SOP'' where the cable is active (R203). -/
inductive CableAsk where
  | notAsked | near | far | answered
  deriving DecidableEq, Repr

/-- What a port waits for after a message it sent (R254, R255). -/
inductive Await where
  | nothing | capsAnswer | requestAnswer | psRdy | swapAnswer | sinkCaps | eprAck | eprAnswer | softResetAnswer | sourceCaps
  deriving DecidableEq, Repr

/-- A contract being negotiated: object position, whether Capability Mismatch was set, its kind, voltage in mV, operating current in mA, and the power booked
for it in mW (R231, R233, R237). -/
structure Nego where
  pos     : Nat
  mismatch : Bool
  kind    : PdoKind
  mv      : Nat
  ma      : Nat
  booking : Nat
  epr     : Bool
  deriving DecidableEq, Repr

/-- The Nguzo slots and channels that the profile in force reserves (R16, Table 6-10). -/
structure NgShare where
  slots    : Nat
  channels : Nat
  deriving DecidableEq, Repr

/-- A chunked message that the port sends: what is left after the chunks sent, and the number of the next chunk (R255). -/
structure Chunks where
  left : List Byte
  next : Nat
  deriving DecidableEq, Repr

/-- Where a port stands in the fault ladder (R300, R303): a fault that no step has taken, an Alert whose GoodCRC a Hard Reset
follows, and a short behind LATCHED. -/
structure Ladder where
  due        : Bool
  alertReset : Bool
  short      : Bool
  deriving DecidableEq, Repr

/-- A cable port: Type-C and guard, pod link, contract, power path and heat. -/
structure Cable where
  typec       : TypeC
  orientation : Nat
  cc1         : CcLine
  cc2         : CcLine
  rpNow       : Nat
  presentRp   : Bool
  guard       : Wetness
  guardLast   : Nat
  guardRuns   : Bool
  guardReverse : Bool
  guardAfterAttach : Bool
  guardFresh  : Bool
  vbusWait    : Bool
  dryCount    : Nat
  vconn       : Nat
  cableBits   : Byte
  emark       : Byte
  cableAsk    : CableAsk
  accessory   : Nat
  usb2Closed  : Bool
  usb2Conflict : Bool
  ccShortCount : Nat
  muxRoute    : MuxRoute
  pod         : PodState
  podOpen     : Bool
  vdm         : VdmStep
  vdmTries    : Nat
  modeVdo     : Word
  identBuf    : List Byte
  identTries  : Nat
  identity    : List Byte
  profileId   : Nat
  profileOn   : Bool
  ceiling     : Option Nat
  rank        : Nat
  profRate    : Nat
  profStream  : Nat
  ng          : NgShare
  laneRate    : Nat
  laneOn      : Bool
  powerRole   : PowerRole
  dataRole    : DataRole
  contract    : Contract
  pdoKind     : PdoKind
  pos         : Nat
  mv          : Nat
  ma          : Nat
  booked      : Nat
  reserved    : Nat
  offerMw     : Nat
  offer       : List Word
  offerHeld   : Bool
  mismatch    : Bool
  nego        : Option Nego
  awaiting    : Await
  lastSent    : Option PdMsg
  txQueue     : List PdMsg
  retries     : Nat
  txId        : BitVec 3
  txIdP       : BitVec 3
  txIdPP      : BitVec 3
  rxId        : Option (BitVec 3)
  rxIdP       : Option (BitVec 3)
  rxIdPP      : Option (BitVec 3)
  capsSent    : Nat
  hardResets  : Nat
  recoveries  : Nat
  frs         : FrsState
  frsPartner  : Nat
  epr         : EprState
  hardResetCount : Nat
  softResetCount : Nat
  retryFailCount : Nat
  ppsTimeoutCount : Nat
  pdFail      : Bool
  partnerCaps : List Word
  swapping    : Nat
  swapOpen    : Bool
  vconnSource : Bool
  ocpEvent    : Bool
  otpEvent    : Bool
  authBusy    : Bool
  authSlot    : Nat
  authNonce   : BitVec 256
  chunks      : Chunks
  bist        : Option BistMode
  drpRp       : Bool
  restored    : Bool
  resetting   : Bool
  firstRefused : Bool
  path        : PathState
  claim       : Nat
  shedCause   : ShedCause
  ladder      : Ladder
  gateOn      : Bool
  discharge   : Bool
  windowEnd   : Nat
  frozenAt    : Nat
  vctl        : Nat
  ilim        : Nat
  vcorr       : Int
  vbus        : Nat
  ibus        : Int
  ibusRms     : Nat
  shortCount  : Nat
  ocCount     : Nat
  ovCount     : Nat
  reverseCount : Nat
  inrushFailCount : Nat
  dischargeFail : Nat
  retriesLeft : Nat
  ocTimes     : List Nat
  ovTimes     : List Nat
  revTimes    : List Nat
  heat        : HeatState
  thermCeil   : Option Nat
  sinkCeil    : Option Nat
  derateCount : Nat
  lastDerate  : Option Nat
  hotSince    : Option Nat
  coolSince   : Option Nat
  deriving DecidableEq, Repr

/-- A chassis slot (Table 6-8). -/
structure SlotRec where
  state     : Nat
  profileId : Nat
  profileOn : Bool
  identity  : List Byte
  clampCount : Nat
  nacks     : Nat
  tries     : Nat
  clears    : Nat
  booked    : Nat
  ng        : NgShare
  deriving DecidableEq, Repr

/-- The shepherd (chapter 8): the ledger's entries live with their ports, slots and objects; here is what the steps keep.
`deficit` says that the last step left a deficit, of which the host has been told (R291). -/
structure Shepherd where
  stepDue     : Bool
  stepCount   : Nat
  deficit     : Bool
  restoreSet  : List Nat
  restoreSince : Option Nat
  overrun     : Bool
  shedEventAt : Nat
  droop       : Bool
  droopCount  : Nat
  freezeMax   : Nat
  srcIn       : Nat
  critical    : Bool
  critCount   : Nat
  authCount   : Nat
  authErrors  : Nat
  deriving DecidableEq, Repr

/-! ### Nguzo bus (chapter 9) -/

/-- NODE_STATE (Tables 9-3, 9-6). -/
inductive NodeState where
  | off | listen | coldstart | integrating | synchronised
  deriving DecidableEq, Repr

/-- STATE of a channel object (Table 9-7). -/
inductive ChanState where
  | off | joining | synchronised | clamped | recovering
  deriving DecidableEq, Repr

/-- One Nguzo channel (R315, R323, R352, R353, Table 9-7). -/
structure Chan where
  state       : ChanState
  enabled     : Bool
  rxValid     : Nat
  codingErr   : Nat
  hcrcErr     : Nat
  crcErr      : Nat
  contentErr  : Nat
  boundaryErr : Nat
  clampCount  : Nat
  outlier     : Nat
  txFrames    : Nat
  position    : Nat
  minislot    : Nat
  busyUntil   : Nat
  sawSync     : Bool
  deriving DecidableEq, Repr

/-- A TO_BUS buffer's frame (R345): its payload and its EPOCH flag. -/
structure BusFrame where
  payload : List Byte
  epoch   : Bool
  at_     : Nat
  sentA   : Bool
  sentB   : Bool
  deriving DecidableEq, Repr

/-- A valid copy taken in the current cycle (R339, R340, R343): slot or frame ID, the frame CRC, the channel, when its last bit was
sampled, and from and to which number (exclusive) the switch knows the Ethernet frame built of it. -/
structure Taken where
  id    : Nat
  crc   : Word
  chB   : Bool
  endNs : Int
  built : Nat × Nat
  deriving DecidableEq, Repr

/-- A ZOP message unpacked from a frame that was taken (R144): its channel, its frame ID and its octets. -/
structure NgMsg where
  chB    : Bool
  id     : Nat
  octets : List Byte
  deriving DecidableEq, Repr

/-- The Nguzo node, its channels and its gateway (Tables 9-6, 9-8). `inbox` holds the ZOP messages that wait for the engine. -/
structure Nguzo where
  node       : NodeState
  cycle      : Byte
  chA        : Chan
  chB        : Chan
  devEven    : List (Nat × Option Int)
  devOdd     : List (Nat × Option Int)
  keepersSeen : Nat
  offsetCorr : Int
  rateCorr   : Int
  missing    : Nat
  joinCycle  : Bool
  fullOk     : Bool
  coldCycles : Nat
  syncLost   : Nat
  coldstartCount : Nat
  coldstartAbort : Nat
  anchorConflict : Nat
  guardTrip  : Nat
  tripCycles : List Nat
  taken      : List Taken
  buffers    : Tbl BusFrame
  dupDiscard : Nat
  abMismatch : Nat
  toBusDrop  : Nat
  overwritten : Nat
  fromBus    : Nat
  toBus      : Nat
  pendEnA    : Option Bool
  pendEnB    : Option Bool
  usedInDouble : Bool
  zopA       : List (List Byte)
  zopB       : List (List Byte)
  inbox      : List NgMsg
  ended      : Bool
  deriving DecidableEq, Repr

/-! ### Timebase, epochs and the schedule (chapter 10) -/

/-- STATE of 0x6000 (Table 10-5). -/
inductive TimeState where
  | freerun | locking | locked | holdover
  deriving DecidableEq, Repr

/-- An epoch stream in force (R369, R370). Times are ns of schedule time. -/
structure Epoch where
  enabled : Bool
  anchor  : Int
  base    : Nat
  period  : Nat
  next    : Int
  count   : Nat
  marks   : BitVec 8
  resub   : BitVec 8
  deriving DecidableEq, Repr

/-- PTP of one port: peer-delay measurement (R366). -/
structure PtpPort where
  peerDelay : Nat
  reqSeq    : Nat
  reqTx     : Option Nat
  respRx    : Option (Int × Int)
  deriving DecidableEq, Repr

/-- The timebase, its sources, PTP and the schedule in force. `tb` counts 2^-32 ns: 64 bits of TAI nanoseconds, 16 bits of
fraction and the 16 further bits kept below it (chapter 10, Counter). -/
structure TimeBase where
  tb        : BitVec 96
  rateTrim  : Int
  lag       : Int
  /-- The part of the lag that a step in the tick of a cycle start left, which that start does not drain (R378). -/
  lateLag   : Int
  cycleIndex : Nat
  inForce   : Tbl Nat
  state     : TimeState
  source    : Option TimeSource
  everSelected : Bool
  timeSet   : Bool
  qualPtp   : Option Nat
  qualPps   : Option Nat
  qualNg    : Option Nat
  ppsPhase  : Int
  slewing   : Bool
  stepCount : Nat
  syncSlotMissing : Nat
  ppsLast   : Option Nat
  ppsGood   : Nat
  ppsBad    : Nat
  ppsReject : Nat
  ptpSlave  : Bool
  ptpMaster : List Byte
  ptpGood   : Nat
  ptpOffset : Int
  ptpSyncRx : Option (Nat × Int × Int)
  tsMissed  : Nat
  ptpSeq    : Nat
  ptpPorts  : Tbl PtpPort
  trimLog   : List Int
  ppsOut    : Bool
  epochOut0 : Bool
  epochOut1 : Bool
  ppsSecond : Nat
  epochs    : Tbl Epoch
  deriving DecidableEq, Repr

/-! ### Fabric, buffers and queues (chapter 11) -/

/-- A frame sent to port M with reason ROUTE_DEPTH (1) or TABLE_FAULT (2) (R500, R502). -/
structure Punt where
  reason : Nat
  vrf    : Nat
  family : Nat
  inPort : Nat
  dst    : List Byte
  deriving DecidableEq, Repr

/-- A queued copy of a frame (R390, R391). `frame` names the stored frame; `fold`, `common`, `head` are its charges. -/
structure Copy where
  frame   : Nat
  cells   : Nat
  fold    : Nat
  common  : Nat
  head    : Nat
  stamp   : Nat
  fromPort : Nat
  octets  : List Byte
  tagVid  : Option Nat
  pcp     : Option Nat
  mirror  : Bool
  cut     : Bool
  punt    : Option Punt
  deriving DecidableEq, Repr

/-- A residue copy waiting for admission (R397-R400). -/
structure ResCopy where
  port : Nat
  cls  : Nat
  copy : Copy
  deriving DecidableEq, Repr

/-- A frame's residue, one of 256 slots, oldest first (R397). -/
structure Residue where
  frame    : Nat
  deadline : Nat
  copies   : List ResCopy
  deriving DecidableEq, Repr

/-- An egress queue (p, c) with its shaper and scheduler state (R390, R519-R524). TOKENS are in 2^-16 byte. -/
structure Queue where
  copies  : List Copy
  foldUse : Nat
  comUse  : Nat
  tokens  : Int
  carry   : Nat
  rate    : Nat
  burst   : Nat
  wire    : Bool
  deficit : Nat
  deriving DecidableEq, Repr

/-- A switch port (Table 11-3) with its port shaper. `cutFrom` is the port whose frame it is sending as it arrives, `cutIn` whether a
frame that arrives here is being cut through. -/
structure SwPort where
  link      : Bool
  speed     : Nat
  fenced    : Bool
  phyDown   : Bool
  sending   : Option (Nat × Copy)
  pausedUntil : Option Nat
  xoff      : Bool
  headUse   : Nat
  openWin   : Option Nat
  lastDrop  : Nat
  halfDuplex : Nat
  pauseIgnored : Nat
  cutBad    : Nat
  cutFrom   : Option Nat
  cutIn     : Bool
  tokens    : Int
  carry     : Nat
  rate      : Nat
  burst     : Nat
  wire      : Bool
  member    : Nat
  fresh     : Bool
  applied   : Nat
  limitHit  : Nat
  movesIn   : Nat
  deriving DecidableEq, Repr

/-- What a frame waiting at port L for its second pass keeps beside its copy in a queue of that port: the rest of its
candidate list (R490, R498). -/
structure LoopFrame where
  frame  : Nat
  cls    : Nat
  vrf    : Nat
  cands  : List Nat
  deriving DecidableEq, Repr

/-- The switch core. Queues are keyed 8 * port + class; counters of the tally are keyed as Tables 14-4 and 14-5 number
their entries. -/
structure Fabric where
  ports      : Tbl SwPort
  queues     : Tbl Queue
  residues   : List Residue
  nextFrame  : Nat
  resetting  : Bool
  foldCapped : Nat
  eccCorrected : Nat
  eccDouble  : Nat
  mirCopies  : Tbl Nat
  mirDrops   : Tbl Nat
  loop       : List LoopFrame
  puntQ      : List Punt
  refills    : Nat
  pendingShape : List Nat
  set0       : Tbl Nat
  set1       : Tbl Nat
  set2       : Tbl Nat
  depthMax   : Tbl Nat
  exportSeq  : Nat
  tallyLost  : Nat
  tallyLostFlag : Bool
  eccZeroed  : Nat
  mdioStatus : Nat
  mdioOp     : Nat
  deriving DecidableEq, Repr

/-! ### Tables (chapters 12 to 14) -/

/-- A station entry (Table 12-1). -/
structure Station where
  mac     : BitVec 48
  fid     : BitVec 12
  static_ : Bool
  flock   : Bool
  age     : BitVec 3
  dest    : BitVec 12
  deriving DecidableEq, Repr

/-- A VLAN entry (Table 12-2). -/
structure Vlan where
  members  : BitVec 16
  untagged : BitVec 16
  flood    : BitVec 16
  fid      : BitVec 12
  profile  : BitVec 16
  valid    : Bool
  learn    : Bool
  deriving DecidableEq, Repr

/-- A flock record (R449). -/
structure Flock where
  members : BitVec 16
  valid   : Bool
  deriving DecidableEq, Repr

/-- A learn request waiting in the learn queue (R451). -/
structure LearnReq where
  mac  : BitVec 48
  fid  : BitVec 12
  port : Nat
  deriving DecidableEq, Repr

/-- A mordant bit held on a bucket, node or group, with the end of its lifetime (R184, R185). -/
structure Lock where
  table  : Nat
  index  : Nat
  ends   : Nat
  deriving DecidableEq, Repr

/-- A flush in progress or withheld from a locked bucket (R460, R462): its selector is a port or an FID. -/
structure FlushSel where
  byPort : Bool
  value  : Nat
  deriving DecidableEq, Repr

/-- The station, VLAN and flock tables (chapter 12). Ways are keyed bucket * 4 + way. -/
structure StationTab where
  ways      : Tbl Station
  stash     : Tbl Station
  vlans     : Tbl Vlan
  flocks    : Tbl Flock
  learnQ    : List LearnReq
  victim    : Nat
  drainNext : Nat
  locks     : List Lock
  flushing  : List FlushSel
  deferred  : List (Nat × FlushSel)
  relocations : Nat
  learnOverflow : Nat
  learnFull : Nat
  moveBlocked : Nat
  moveDeferred : Nat
  eccCorrected : Nat
  eccDouble : Nat
  scrubUs   : Nat
  poison    : List (Nat × Nat)
  deriving DecidableEq, Repr

/-- An IPv6 entry (Table 13-2). -/
structure V6Entry where
  prefix_ : BitVec 128
  length  : Nat
  vrf     : Nat
  nextHop : BitVec 12
  deriving DecidableEq, Repr

/-- A next-hop record (Table 13-3). -/
structure NextHop where
  dmac    : BitVec 48
  vid     : BitVec 12
  port    : BitVec 4
  valid   : Bool
  drop    : Bool
  keepTtl : Bool
  deriving DecidableEq, Repr

/-- A prefix the sequencer keeps in OD mode (chapter 13, Who edits the tables). -/
structure Route where
  vrf    : Nat
  v6     : Bool
  addr   : BitVec 128
  length : Nat
  nh     : Nat
  deriving DecidableEq, Repr

/-- A route command running (R494). -/
structure RouteCmd where
  add   : Bool
  sess  : Nat
  route : Route
  deriving DecidableEq, Repr

/-- Route lookup (chapter 13). Trie entries are raw words (Table 13-1); pool entries are keyed node * 256 + entry. -/
structure RouteTab where
  first    : Tbl Word
  pool0    : Tbl Word
  pool1    : Tbl Word
  ways6    : Tbl V6Entry
  bloom    : Tbl Bool
  count6   : Tbl Nat
  hops     : Tbl NextHop
  routes   : List Route
  running  : Option RouteCmd
  routed   : Tbl Nat
  recirculated : Nat
  depth    : Nat
  fault    : Nat
  lastPunt : List Byte
  causes   : Tbl Nat
  victim   : Nat
  deriving DecidableEq, Repr

/-- A policer (Table 14-3); TOKENS in 2^-16 byte, and when it was last charged or written (R514). -/
structure Policer where
  rate   : Nat
  burst  : Nat
  enable : Bool
  wire   : Bool
  tokens : Nat
  carry  : Nat
  last   : Nat
  deriving DecidableEq, Repr

/-- The classifier and the policers (chapter 14). Rules are 96-octet records kept as numbers, little-endian. -/
structure ClassTab where
  rules    : Tbl Nat
  policers : Tbl Policer
  eccDouble : Nat
  deriving DecidableEq, Repr

/-! ### Heat and air (chapter 15) -/

/-- A ring-oscillator sensor (R541-R543). TEMP is Q16.16. -/
structure Sensor where
  temp   : Int
  failed : Bool
  cause  : Nat
  count  : Nat
  disagree : Nat
  deriving DecidableEq, Repr

/-- A fan channel (Table 15-5). While a commissioning step measures, `commSum` is the integral of the speed in RPM ns up to
the instant `commN`. -/
structure Fan where
  wanted   : Nat
  newDuty  : Bool
  applied  : Nat
  appliedPeriod : Nat
  period   : Nat
  fraction : Nat
  highTicks : Nat
  rpm      : Nat
  edges    : List Nat
  lastEdge : Option Nat
  stall    : Bool
  fullRpm  : Nat
  commState : Nat
  commKind : Nat
  commStep : Nat
  commDuty : Nat
  commLow  : Nat
  commHigh : Nat
  commSum  : Nat
  commN    : Nat
  commFound : List Nat
  base     : List Nat
  now      : List Nat
  ageing   : Nat
  deriving DecidableEq, Repr

/-- The thermal model, sensors, critical comparator and fans. Node temperatures are in 2^-32 degree C, powers in pW
(log entry 19). -/
structure Heat where
  fault     : Bool
  t         : List Int
  pred      : List Int
  power     : List Nat
  headroom  : Int
  sensors   : Tbl Sensor
  fans      : Tbl Fan
  silent    : Bool
  lastRound : Option RoundRecord
  fresh     : Bool
  lastStepAt : Nat
  round     : Nat
  vsys      : Nat
  icore     : Nat
  vconnIn   : Nat
  ptat      : Int
  gateSince : Option Nat
  deriving DecidableEq, Repr

/-! ### Fuses (chapter 16) -/

/-- What a burn in progress will do when it ends (R584-R591, R596, R604). -/
inductive BurnKind where
  | word | logical | record (bank : Nat) (header len : Nat) | voidRec | key (slot : Nat) (check : List Byte)
  | keygen (slot : Nat) (pub : List Byte) | revoke | rollback | lifecycle | scrap
  deriving DecidableEq, Repr

/-- A burn in progress: the words still to burn, address and value (log entry 24), and who asked. -/
structure Burn where
  kind  : BurnKind
  todo  : List (Nat × BitVec 39)
  host  : Bool
  failed : Nat
  deriving DecidableEq, Repr

/-- The OTP array and custody. `array` holds the 39 bits of each physical word as the normal reference reads them, data in [31:0];
unlisted words are blank. `marginal` holds the bits of a word that are weak: their three readings do not agree (R588).
`firstVariant` is the variant of the first OTP_CHECK after POR (R34). -/
structure Otp where
  array     : Tbl (BitVec 39)
  marginal  : Tbl (BitVec 39)
  variant   : Nat
  firstVariant : Option Nat
  lifecycle : Nat
  burn      : Option Burn
  result    : Nat
  condFail  : BitVec 4
  corrected : Nat
  failed    : Nat
  suspect   : Nat
  integrity : Bool
  badSlots  : BitVec 8
  keyCheck  : List Byte
  authPub   : Tbl (List Byte)
  nonce     : Option (List Byte)
  unlockFails : Nat
  debugOpen : Bool
  halted    : Bool
  glitchSincePor : Nat
  wordEcc   : Tbl Nat
  deriving DecidableEq, Repr

/-! ### The device -/

/-- What the device reports to the host with no register bit of its own (log entry 35): a profile applied or refused in a
slot (R16, R17, R286), and a ledger left short with nothing more to shed (R291). -/
inductive HostNotice where
  | slotProfile (s : Nat) (applied : Bool)
  | ledgerDeficit
  deriving DecidableEq, Repr

/-- How a frame in transmission ends otherwise than with its own FCS: with the FCS inverted (R411), or with an error code group
(R425, R432). -/
inductive FrameEnd where
  | fcsInverted | errorCode
  deriving DecidableEq, Repr

/-- What the block puts on a wire or reports to whoever commanded it, in order, during one command (log entry 5). -/
inductive Emission where
  | zop (via : Transport) (octets : List Byte)
  | status (code : Byte)
  | window (words : List Word)
  | octets (b : List Byte)
  | pd (n : CPort) (m : PdMsg)
  | pdHardReset (n : CPort)
  | frame (port : Nat) (octets : List Byte)
  | pause (port : Nat) (quanta : Nat)
  | nguzo (chB : Bool) (octets : List Byte)
  | cc (n : CPort) (presented : Nat)
  | i2c (s : Slot) (what : Nat)
  | mdio (what : Nat) (phy : Nat) (reg : Nat)
  | journal (octets : List Byte)
  | tap (value : List Byte)
  | notice (what : HostNotice)
  | frameEnd (port : Nat) (how : FrameEnd)
  | udp (port : SPort) (v6 : Bool) (src dst : BitVec 128) (octets : List Byte)
  deriving DecidableEq, Repr

/-- The events a running timer awaits; a row that is an expiry acts only when its timer is armed and due. -/
inductive Timer where
  | railTimeout | railRetry | refTimeout | xtal | bootLimit | watchdog | dormant | latchedBoot | idleHold | drain
  | fabReset | sessionIdle (s : Nat) | nonce (s : Nat) | lockout | bundle (s : Nat) | notify (s o e : Nat)
  | journal | respSent | snap
  | ccDebounce (n : Nat) | ccShort (n : Nat) | ccShortRe (n : Nat) | guard (n : Nat) | guardEnd (n : Nat)
  | vdm (n : Nat) | linkUp (n : Nat) | slotPoll (s : Nat) | slotRetry (s : Nat) | clampRetry (s : Nat) | busClear (s : Nat)
  | waitReoffer (n : Nat) | tsrc (n : Nat) | tsrcRecover (n : Nat) | eprKeep (n : Nat) | sinkKeep (n : Nat)
  | srcPps (n : Nat) | sender (n : Nat) | crcRx (n : Nat) | srcCap (n : Nat) | psTrans (n : Nat) | sinkReq (n : Nat)
  | chunk (n : Nat) | chunkResp (n : Nat) | hardDone (n : Nat) | errRec (n : Nat) | tryWait (n : Nat) | noResponse (n : Nat) | auth (n : Nat)
  | drp (n : Nat) | window (n : Nat) | shortRetry (n : Nat) | inrushRetry (n : Nat) | discharge (n : Nat)
  | overrun | restore | droopMax
  | listen | ppsIn | announce | holdoff | lockWait | ppsPulse | epochPulse (k : Nat) | pdelay (p : Nat) | ptpMaster
  | pause (p : Nat) | pauseOff (p : Nat) | sweep | residue (f : Nat) | phy (p : Nat) | stash | flushEnd | scrub
  | refill | exports | route | round | stepLate | tach (f : Nat) | stall (f : Nat) | unstall (f : Nat) | heartbeat
  | comm (f : Nat) | unlockNonce | mordant (t i : Nat) | fanReload (f : Nat)
  deriving DecidableEq, Repr

/-- The device: every plane, the boot flash, the clock in ns, the running timers, the counter of free values and the last
command's emissions. -/
structure Dev where
  now     : Nat
  free    : Nat
  timers  : List (Timer × Nat)
  out     : List Emission
  flash   : Mem
  aon     : Aon
  boot    : Boot
  od      : Od
  hw      : HostWin
  cables  : Tbl Cable
  slots   : Tbl SlotRec
  shep    : Shepherd
  ng      : Nguzo
  tm      : TimeBase
  fab     : Fabric
  st      : StationTab
  rt      : RouteTab
  cls     : ClassTab
  heat    : Heat
  otp     : Otp
  deriving DecidableEq, Repr

/-- The state: the device, and the commands waiting, first in, first out. -/
structure State where
  dev     : Dev
  pending : List Instr
  deriving DecidableEq, Repr

/-- Why a step stops with a fault. -/
inductive Fault where
  /-- Raised by no meaning and not by the step: the spec gives every command of the table an effect in every state, if only
  that nothing happens. Safe. -/
  | noSuchEvent
  deriving DecidableEq, Repr

/-- Why a step is refused. -/
inductive Refusal where
  /-- A command that has no meaning yet, rejected by its mnemonic; raised by the arms of the dispatch. Safe. -/
  | notModelled (mnemonic : String)
  deriving DecidableEq, Repr

/-! ### Defaults of the sparse tables, and the state after reset -/

/-- A session that is closed, its window as a fresh opening leaves it (R116). -/
def Session.fresh : Session :=
  { isOpen := false, role := .observer, clientId := [], highest := 0, window := 0xFFFFFFFF,
    statuses := List.replicate 32 (0x1C : Byte), cache := .empty, lastVia := 4, ks := none, challenge := none,
    notifySeq := 1, lost := false, bundle := none, bState := 0, bApply := 0, bResult := 0, bFail := 0, bSerial := 0 }

/-- Nothing reserved, nothing to send, no fault. -/
def NgShare.none : NgShare := { slots := 0, channels := 0 }
@[inherit_doc NgShare.none] def Chunks.none : Chunks := { left := [], next := 0 }
@[inherit_doc NgShare.none] def Ladder.clear : Ladder := { due := false, alertReset := false, short := false }

/-- A cable port after POR (Table 3-6 and the defaults of Tables 6-7, 7-7, 8-4, 15-3). -/
def Cable.reset : Cable :=
  { typec := .unattached, orientation := 0, cc1 := .nothing, cc2 := .nothing, rpNow := 0, presentRp := false,
    guard := .dry, guardLast := 0xFFFFFFFF, guardRuns := false, guardReverse := false, guardAfterAttach := false,
    guardFresh := false, vbusWait := false,
    dryCount := 0, vconn := 0, cableBits := 0, emark := 0, cableAsk := .notAsked, accessory := 0, usb2Closed := false,
    usb2Conflict := false, ccShortCount := 0, muxRoute := .nothing, pod := .none, podOpen := false, vdm := .idle,
    vdmTries := 0, modeVdo := 0, identBuf := [], identTries := 0, identity := [], profileId := 0, profileOn := false,
    ceiling := none, rank := 8, profRate := 1, profStream := 0xFF, ng := NgShare.none, laneRate := 0, laneOn := false, powerRole := .none,
    dataRole := .none, contract := .none, pdoKind := .fixed, pos := 0, mv := 0, ma := 0, booked := 0, reserved := 0, offerMw := 0, offer := [],
    offerHeld := false, mismatch := false, nego := none, awaiting := .nothing, lastSent := none, txQueue := [], retries := 0, txId := 0, txIdP := 0,
    txIdPP := 0, rxId := none, rxIdP := none, rxIdPP := none, capsSent := 0, hardResets := 0, recoveries := 0,
    frs := .off, frsPartner := 0, epr := .off, hardResetCount := 0, softResetCount := 0, retryFailCount := 0,
    ppsTimeoutCount := 0, pdFail := false, partnerCaps := [], swapping := 0, swapOpen := false,
    vconnSource := false, ocpEvent := false, otpEvent := false, authBusy := false, authSlot := 0, authNonce := 0,
    chunks := Chunks.none, bist := none, drpRp := false, restored := false, resetting := false, firstRefused := false, path := .off, claim := 0,
    shedCause := .none, ladder := Ladder.clear, gateOn := false, discharge := false, windowEnd := 0, frozenAt := 0,
    vctl := 0, ilim := 0, vcorr := 0, vbus := 0, ibus := 0, ibusRms := 0, shortCount := 0,
    ocCount := 0, ovCount := 0, reverseCount := 0, inrushFailCount := 0, dischargeFail := 0, retriesLeft := 3,
    ocTimes := [], ovTimes := [], revTimes := [], heat := .normal, thermCeil := none, sinkCeil := none,
    derateCount := 0, lastDerate := none, hotSince := none, coolSince := none }

/-- A slot after POR (Table 6-8). -/
def SlotRec.reset : SlotRec :=
  { state := 0, profileId := 0, profileOn := false, identity := [], clampCount := 0, nacks := 0, tries := 0, clears := 0, booked := 0, ng := NgShare.none }

/-- A Nguzo channel after POR (Table 9-7). -/
def Chan.reset : Chan :=
  { state := .off, enabled := false, rxValid := 0, codingErr := 0, hcrcErr := 0, crcErr := 0, contentErr := 0,
    boundaryErr := 0, clampCount := 0, outlier := 0, txFrames := 0, position := 0, minislot := 0,
    busyUntil := 0, sawSync := false }

/-- A TO_BUS buffer's default; an unlisted key is an empty buffer. -/
def BusFrame.none : BusFrame := { payload := [], epoch := false, at_ := 0, sentA := false, sentB := false }

/-- An epoch stream after POR (Table 10-6). -/
def Epoch.reset : Epoch :=
  { enabled := false, anchor := 0, base := 0, period := 200000, next := 0, count := 0, marks := 0, resub := 0 }

/-- A PTP port before any measurement. -/
def PtpPort.reset : PtpPort := { peerDelay := 0, reqSeq := 0, reqTx := none, respRx := none }

/-- A switch port after POR (Table 11-3). The port shaper is off, its burst the default of Table 14-7. -/
def SwPort.reset : SwPort :=
  { link := false, speed := 0, fenced := false, phyDown := false, sending := none, pausedUntil := none, xoff := false,
    headUse := 0, openWin := none, lastDrop := 0, halfDuplex := 0, pauseIgnored := 0, cutBad := 0, cutFrom := none, cutIn := false,
    tokens := 0, carry := 0, rate := 0, burst := 16384, wire := false, member := 7, fresh := true, applied := 0,
    limitHit := 0, movesIn := 0 }

/-- An egress queue after POR. -/
def Queue.reset : Queue :=
  { copies := [], foldUse := 0, comUse := 0, tokens := 0, carry := 0, rate := 0, burst := 16384, wire := false,
    deficit := 0 }

/-- An absent station entry: no such entry is stored, because a stored way is a valid one. -/
def Station.none : Station := { mac := 0, fid := 0, static_ := false, flock := false, age := 0, dest := 0 }
/-- The VLAN entry that reads as zero. -/
def Vlan.zero : Vlan := { members := 0, untagged := 0, flood := 0, fid := 0, profile := 0, valid := false, learn := false }
/-- The flock record that reads as zero. -/
def Flock.zero : Flock := { members := 0, valid := false }
/-- An absent IPv6 way. -/
def V6Entry.none : V6Entry := { prefix_ := 0, length := 0, vrf := 0, nextHop := 0 }
/-- A cleared next-hop record: VID has the default of Table 13-7. -/
def NextHop.zero : NextHop := { dmac := 0, vid := 1, port := 0, valid := false, drop := false, keepTtl := false }
/-- The policer that reads as zero. -/
def Policer.zero : Policer :=
  { rate := 0, burst := 0, enable := false, wire := false, tokens := 0, carry := 0, last := 0 }
/-- A sensor before its first round. -/
def Sensor.reset : Sensor := { temp := 0, failed := false, cause := 0, count := 0, disagree := 0 }
/-- A fan channel after POR (Table 15-5). -/
def Fan.reset : Fan :=
  { wanted := 1024, newDuty := false, applied := 1024, appliedPeriod := 0, period := 0, fraction := 0, highTicks := 160,
    rpm := 0, edges := [], lastEdge := none, stall := false, fullRpm := 6000, commState := 0, commKind := 0, commStep := 0,
    commDuty := 0, commLow := 0, commHigh := 0, commSum := 0, commN := 0, commFound := [], base := [], now := [],
    ageing := 0 }

/-- The AON domain while POR is held: nothing is powered, no strap sampled; the board's bank supplies and VCONN_IN are in range
until a command says otherwise (log entry 6). -/
def Aon.reset : Aon :=
  { power := .off, window := none, sampled := 0, floating := 0, overridden := 0, tcrit := 0, aonRc := true,
    bootHost := false, bootHold := false, xtalFail := false, pwrEn := false, coreOk := false, serOk := false,
    hkOk := false, bankH := true, bankF := true, bankS := true, bankN := true, vconnOk := true, clamp := false,
    railFails := 0, railFailCount := 0, railSawTimeout := false, refFails := 0, refFailCount := 0, resetNLow := false,
    lastReset := .por, sysResetCount := 0, lastWake := 0, wakeEnable := 0x37, wakeLatch := 0,
    rpWindow := false, rpSuppress0 := false, rpSuppress1 := false, dryChecks0 := 0, dryChecks1 := 0, dormTimer := 0, dbPort := none, dbClosed := false, dbRp := none, preReg := false, hold0 := false, hold1 := false,
    glitchLatch := false, glitchTimes := [], glitchHalt := false, fanPullDown := false }

/-- No boot in progress. -/
def Boot.reset : Boot :=
  { stage := .down, startAt := 0, bootDone := false, blockTaken := false, hdrTaken := false,
    imageReject := false, blockCount := 0, header := [], body := [], order := [], trying := 0,
    image := 0, version := 0, rollback := 0, bootTime := 0, policyApplied := 0, replayCount := 0, otpAlarm := false,
    latched := 0, sysResetPending := false, target := 0, leaving := false }

/-- The object dictionary engine after POR: every element at its default, no session open but 0 and 1 (R115). -/
def Od.reset : Od :=
  { cfg := [], dflt := [], sel := [], sessions := [], scheduled := [], commits := 0, subs := [], sentTimes := [], executed := 0, duplicate := 0,
    stale := 0, busy := 0, integrity := 0, sessionCnt := 0, malformed := 0, failTimes := [], proofFails := 0,
    lockout := false, alarmActive := 0, alarmLatched := 0, alarmEvents := 0, watchOd := 0, watchDeadline := 0, watchOverrun := 0,
    watchShed := 0, watchLate := 0, journalState := 0, generation := 0, fill := 0, sector := 0, serial := 0,
    replaySkipped := 0, recordSkipped := 0, unclean := false, pendingJournal := [], lastCompact := 0 }

/-- The host window after POR (the Reset column of Tables 5-10 to 5-13). -/
def HostWin.reset : HostWin :=
  { xferStatus := 0, dummy := 8, otpData := 0, otpResult := 0, irqStatus := 0, irqEnable := 1, irqPort := 0,
    irqPortEn := 0, mbxBusy := false, mbxDone := false, mbxOverrun := false, mbxNotReady := false, rspLen := 0,
    mbxLen := 0, ntfHead := 0, ntfTail := 0, reqBuf := [], rspBuf := [], ring := [], staging := [],
    snap := [], tdmaEnable := false, ringSize := 0, ringBase := 0, tdmaTail := 0, tdmaHead := 0, tdmaStopped := false,
    tdmaRun := none, tdmaPace := 1, expIndex := 0, expTable := 0, snapClear := false, snapBusy := false, snapSet := 0, snapFirst := 0, snapCount := 0,
    snapTime := 0, snapSeq := 0, hiz := false }

/-- The shepherd after POR: no port books anything. -/
def Shepherd.reset : Shepherd :=
  { stepDue := false, stepCount := 0, deficit := false, restoreSet := [], restoreSince := none, overrun := false,
    shedEventAt := 0, droop := false, droopCount := 0, freezeMax := 0, srcIn := 0, critical := false,
    critCount := 0, authCount := 0, authErrors := 0 }

/-- The Nguzo node after POR (Table 9-6). -/
def Nguzo.reset : Nguzo :=
  { node := .off, cycle := 0, chA := Chan.reset, chB := Chan.reset, devEven := [], devOdd := [],
    keepersSeen := 0, offsetCorr := 0, rateCorr := 0, missing := 0, joinCycle := false, fullOk := false,
    coldCycles := 0, syncLost := 0, coldstartCount := 0, coldstartAbort := 0, anchorConflict := 0,
    guardTrip := 0, tripCycles := [], taken := [], buffers := [], dupDiscard := 0, abMismatch := 0, toBusDrop := 0,
    overwritten := 0, fromBus := 0, toBus := 0, pendEnA := none, pendEnB := none, usedInDouble := false, zopA := [], zopB := [], inbox := [],
    ended := false }

/-- The timebase after POR: 0 in FREERUN with no lag (chapter 10, At the edges). -/
def TimeBase.reset : TimeBase :=
  { tb := 0, rateTrim := 0, lag := 0, lateLag := 0, cycleIndex := 0, inForce := [], state := .freerun, source := none,
    everSelected := false, timeSet := false, qualPtp := none, qualPps := none, qualNg := none,
    ppsPhase := 0, slewing := false, stepCount := 0, syncSlotMissing := 0, ppsLast := none, ppsGood := 0, ppsBad := 0,
    ppsReject := 0, ptpSlave := false, ptpMaster := [], ptpGood := 0, ptpOffset := 0, ptpSyncRx := none, tsMissed := 0,
    ptpSeq := 0, ptpPorts := [], trimLog := [], ppsOut := false, epochOut0 := false, epochOut1 := false, ppsSecond := 0,
    epochs := [] }

/-- The switch core after POR. -/
def Fabric.reset : Fabric :=
  { ports := [], queues := [], residues := [], nextFrame := 0, resetting := false, foldCapped := 0, eccCorrected := 0,
    eccDouble := 0, mirCopies := [], mirDrops := [], loop := [], puntQ := [], refills := 0, pendingShape := [],
    set0 := [], set1 := [], set2 := [], depthMax := [], exportSeq := 0, tallyLost := 0, tallyLostFlag := false,
    eccZeroed := 0, mdioStatus := 0, mdioOp := 0 }

/-- The VLAN table of R448, masked with the port presence vector `present`. -/
def vlanDefaults (present : BitVec 16) : Tbl Vlan :=
  [(1, { members := 0x7FFF &&& present, untagged := 0x7FFF &&& present, flood := 0x7FFF &&& present, fid := 1,
         profile := 0, valid := true, learn := true }),
   (4094, { members := 0x2000, untagged := 0, flood := 0x2000, fid := 4094, profile := 0, valid := true,
            learn := true })]

/-- The station, VLAN and flock tables after POR (R448); the device runs as DEGRADED until its first OTP_CHECK (R34). -/
def StationTab.reset : StationTab :=
  { ways := [], stash := [], vlans := vlanDefaults 0xF30F, flocks := [], learnQ := [], victim := 0, drainNext := 0,
    locks := [], flushing := [], deferred := [], relocations := 0, learnOverflow := 0, learnFull := 0, moveBlocked := 0,
    moveDeferred := 0, eccCorrected := 0, eccDouble := 0, scrubUs := 0, poison := [] }

/-- The route tables after POR. -/
def RouteTab.reset : RouteTab :=
  { first := [], pool0 := [], pool1 := [], ways6 := [], bloom := [], count6 := [], hops := [], routes := [],
    running := none, routed := [], recirculated := 0, depth := 0, fault := 0, lastPunt := [], causes := [],
    victim := 0 }

/-- The classifier and the policers after POR. -/
def ClassTab.reset : ClassTab := { rules := [], policers := [], eccDouble := 0 }

/-- Heat and air after POR. -/
def Heat.reset : Heat :=
  { fault := false, t := List.replicate 16 0, pred := List.replicate 16 0, power := List.replicate 16 0, headroom := 0,
    sensors := [], fans := [], silent := false, lastRound := none, fresh := false, lastStepAt := 0, round := 0, vsys := 0,
    icore := 0, vconnIn := 0, ptat := 0, gateSince := none }

/-- The fuses of a blank part, read by no OTP_CHECK yet: the device runs as DEGRADED (R13), lifecycle BLANK (R582). -/
def Otp.reset : Otp :=
  { array := [], marginal := [], variant := 3, firstVariant := none, lifecycle := 0, burn := none, result := 0, condFail := 0, corrected := 0, failed := 0,
    suspect := 0, integrity := false, badSlots := 0, keyCheck := [], authPub := [], nonce := none, unlockFails := 0,
    debugOpen := false, halted := false, glitchSincePor := 0, wordEcc := [] }

/-- The device with POR held (R71, Table 3-6): OFF, every plane cleared, the boot flash erased. -/
def Dev.reset : Dev :=
  { now := 0, free := 0, timers := [], out := [], flash := [], aon := Aon.reset, boot := Boot.reset, od := Od.reset,
    hw := HostWin.reset, cables := [], slots := [], shep := Shepherd.reset, ng := Nguzo.reset, tm := TimeBase.reset,
    fab := Fabric.reset, st := StationTab.reset, rt := RouteTab.reset, cls := ClassTab.reset, heat := Heat.reset,
    otp := Otp.reset }

/-- The machine right after a power-on reset, before VSYS rises: log entry 6 names every value the spec does not give. -/
def State.reset : State := { dev := Dev.reset, pending := [] }

end Sys2Proof.Machine
end

