-- ==== Sys2Proof/Machine/Ops.lean ====
section
/-! DEFINITION. The named operations over tables, memories, timers and octet strings that every meaning is built from. -/

namespace Sys2Proof.Machine

/-! ### Sparse tables -/

/-- The value listed under a key. -/
def tfind {α : Type} : Tbl α → Nat → Option α
  | [], _ => none
  | (k, v) :: t, i => if k == i then some v else tfind t i

/-- The value of a key, the default where the table lists none. -/
def tget {α : Type} (dflt : α) (t : Tbl α) (i : Nat) : α := (tfind t i).getD dflt

/-- Put a value under a key, keeping the keys in rising order. -/
def tput {α : Type} : Tbl α → Nat → α → Tbl α
  | [], i, v => [(i, v)]
  | (k, w) :: t, i, v => if i < k then (i, v) :: (k, w) :: t else if i == k then (i, v) :: t else (k, w) :: tput t i v

/-- Take a key out of a table. -/
def terase {α : Type} : Tbl α → Nat → Tbl α
  | [], _ => []
  | (k, w) :: t, i => if i == k then terase t i else (k, w) :: terase t i

/-- Set a key; the default is not listed. -/
def tset {α : Type} [DecidableEq α] (dflt : α) (t : Tbl α) (i : Nat) (v : α) : Tbl α :=
  if v = dflt then terase t i else tput t i v

/-- Whether every key of a table is above `lo` and the keys rise, and no entry is the default. -/
def twfFrom {α : Type} [DecidableEq α] (dflt : α) : Nat → Tbl α → Bool
  | _, [] => true
  | lo, (k, v) :: t => decide (lo ≤ k) && decide (v ≠ dflt) && twfFrom dflt (k + 1) t

/-- The canonical form of a table. -/
def twf {α : Type} [DecidableEq α] (dflt : α) (t : Tbl α) : Bool := twfFrom dflt 0 t

/-! ### Memories -/

/-- What an unlisted octet of erased flash reads as. -/
def erased : Byte := 0xFF

/-- One octet of a memory. -/
def byteAt (dflt : Byte) (m : Mem) (a : Nat) : Byte := tget dflt m a

/-- Write one octet of a memory. -/
def setByte (dflt : Byte) (m : Mem) (a : Nat) (b : Byte) : Mem := tset dflt m a b

/-- `n` octets of a memory from an address on. -/
def readBytes (dflt : Byte) (m : Mem) (a n : Nat) : List Byte := (List.range n).map fun i => byteAt dflt m (a + i)

/-- Write octets into a memory from an address on. -/
def writeBytes (dflt : Byte) : Mem → Nat → List Byte → Mem
  | m, _, [] => m
  | m, a, b :: bs => writeBytes dflt (setByte dflt m a b) (a + 1) bs

/-- The canonical form of a memory. -/
def Memory.wf (dflt : Byte) (m : Mem) : Bool := twf dflt m

/-! ### Numbers and octets -/

/-- `n` octets of a number, little-endian (R107). -/
def leBytes : Nat → Nat → List Byte
  | 0, _ => []
  | n + 1, v => BitVec.ofNat 8 v :: leBytes n (v / 256)

/-- The number that octets spell, little-endian. -/
def leNat : List Byte → Nat
  | [] => 0
  | b :: bs => b.toNat + 256 * leNat bs

/-- `n` octets of a number, most significant first. -/
def beBytes (n v : Nat) : List Byte := (leBytes n v).reverse

/-- The number that octets spell, most significant first. -/
def beNat (bs : List Byte) : Nat := leNat bs.reverse

/-- Bits `[hi:lo]` of a number. -/
def bits (v hi lo : Nat) : Nat := v / 2 ^ lo % 2 ^ (hi + 1 - lo)

/-- Bit `i` of a number. -/
def bit (v i : Nat) : Bool := v.testBit i

/-- A number with bit `i` set to `b`. -/
def setBit (v i : Nat) (b : Bool) : Nat :=
  if v.testBit i == b then v else if b then v + 2 ^ i else v - 2 ^ i

/-- A Bool as the number 0 or 1. -/
def b2n (b : Bool) : Nat := if b then 1 else 0

/-- Two's complement of `w` bits. -/
def toTwos (w : Nat) (i : Int) : Nat := (i % (2 ^ w : Int)).toNat

/-- The signed reading of `w` bits. -/
def ofTwos (w v : Nat) : Int := if v < 2 ^ (w - 1) then (v : Int) else (v : Int) - (2 ^ w : Int)

/-- Division rounded to the nearest, halves away from zero (R629). -/
def divRound (n : Int) (k : Nat) : Int :=
  if 0 ≤ n then (2 * n + k) / (2 * k : Int) else -((2 * -n + k) / (2 * k : Int))

/-- Division rounded up. -/
def divUp (n k : Nat) : Nat := (n + k - 1) / k

/-- Add one to a counter that saturates at 2^32 - 1 (R27). -/
def satInc (n : Nat) : Nat := min (n + 1) 0xFFFFFFFF

/-- Drop the first element that satisfies `p`. -/
def eraseFirst {α : Type} (p : α → Bool) : List α → List α
  | [] => []
  | a :: l => if p a then l else a :: eraseFirst p l

/-- The list with element `i` replaced by `f` of it. -/
def modifyNth {α : Type} : List α → Nat → (α → α) → List α
  | [], _, _ => []
  | a :: l, 0, f => f a :: l
  | a :: l, n + 1, f => a :: modifyNth l n f

/-- One step of a reflected CRC with polynomial `poly`. -/
def crcBits (poly : Word) : Nat → Word → Word
  | 0, c => c
  | n + 1, c => crcBits poly n (if c.getLsbD 0 then (c >>> 1) ^^^ poly else c >>> 1)

/-- The running value of CRC-32C over octets. -/
def crc32cRun : List Byte → Word → Word
  | [], c => c
  | b :: bs, c => crc32cRun bs (crcBits 0x82F63B78 8 (c ^^^ b.zeroExtend 32))

/-- CRC-32C (chapter 0): Castagnoli, reflected, initial value and final complement 0xFFFF_FFFF. -/
def crc32c (bs : List Byte) : Word := crc32cRun bs 0xFFFFFFFF ^^^ 0xFFFFFFFF

/-! ### Time, timers and emissions -/

/-- Nanoseconds in a microsecond, a millisecond and a second. -/
def us : Nat := 1000
@[inherit_doc us] def ms : Nat := 1000000
@[inherit_doc us] def sec : Nat := 1000000000

/-- Arm a timer for an instant, replacing an earlier arming. -/
def armAt (t : Timer) (at_ : Nat) (d : Dev) : Dev :=
  { d with timers := (d.timers.filter fun x => x.1 ≠ t) ++ [(t, at_)] }

/-- Arm a timer `ns` from now. -/
def arm (t : Timer) (ns : Nat) (d : Dev) : Dev := armAt t (d.now + ns) d

/-- Stop a timer. -/
def disarm (t : Timer) (d : Dev) : Dev := { d with timers := d.timers.filter fun x => x.1 ≠ t }

/-- Whether a timer runs. -/
def armed (t : Timer) (d : Dev) : Bool := d.timers.any fun x => x.1 == t

/-- Whether a timer runs and its instant has come. -/
def due (t : Timer) (d : Dev) : Bool := d.timers.any fun x => x.1 == t && decide (x.2 ≤ d.now)

/-- Whether a timer runs and its instant is past. -/
def overdue (t : Timer) (d : Dev) : Bool := d.timers.any fun x => x.1 == t && decide (x.2 < d.now)

/-- The time a timer still has to run. -/
def timeLeft (t : Timer) (d : Dev) : Nat :=
  match d.timers.find? fun x => x.1 == t with
  | some x => x.2 - d.now
  | none => 0

/-- Draw a free value: the next one, and the counter advanced (log entry 3). -/
def drawFree (d : Dev) : BitVec 256 × Dev := (Config.freeValue d.free, { d with free := d.free + 1 })

/-- The events of a sliding window of 60 s, with one at `now` added. -/
def slide (times : List Nat) (now : Nat) : List Nat := (times.filter fun t => decide (now < t + 60 * sec)) ++ [now]

/-! ### Variant, presence and capacities (Tables 0-1 to 0-3, 1-5) -/

/-- PORT_PRESENT of a variant. -/
def portPresent : Nat → BitVec 16
  | 0 => 0xFFFF
  | 1 => 0xF33F
  | _ => 0xF30F

/-- UNIT_PRESENT of a variant. -/
def unitPresent : Nat → Nat
  | 0 => 0x01FF
  | 1 => 0x01F7
  | _ => 0x00A1

/-- The port presence vector in force. -/
def present (d : Dev) : BitVec 16 := portPresent d.otp.variant

/-- Whether switch port `p` is present. -/
def hasPort (d : Dev) (p : Nat) : Bool := (present d).getLsbD p

/-- Whether the unit of UNIT_PRESENT bit `i` is present. -/
def hasUnit (d : Dev) (i : Nat) : Bool := bit (unitPresent d.otp.variant) i

/-- Whether the device runs with the SX7220 unit set. -/
def isSmall (d : Dev) : Bool := decide (2 ≤ d.otp.variant)

/-- The units whose balls Table 2-7 puts in a safe state where the variant lacks them. -/
inductive BallUnit where
  | c4 | c5 | c6 | c7 | x2 | x3 | nguzoB | fan1
  deriving DecidableEq, Repr

/-- The balls of such a unit, grouped as Table 2-7 groups them. -/
inductive Ball where
  | gate | isp | vbus | cc | sbu | dp | dn | vctl | ilim | tx | rx | ngTx | ngTxen | ngRx | fanPwm | fanTach
  deriving DecidableEq, Repr

/-- What a ball does in its safe state. -/
inductive BallState where
  | toVss | highZ | zeroVolts | driverOff | terminationOff | high | low | pulledUpIgnored | ignored
  deriving DecidableEq, Repr

/-- Table 2-7: the safe state of an absent unit's balls. -/
def safeBalls : BallUnit → List (Ball × BallState)
  | .c4 | .c5 | .c6 | .c7 =>
    [(.gate, .toVss), (.isp, .highZ), (.vbus, .highZ), (.cc, .highZ), (.sbu, .highZ), (.dp, .highZ), (.dn, .highZ),
     (.vctl, .zeroVolts), (.ilim, .zeroVolts), (.tx, .driverOff), (.rx, .terminationOff)]
  | .x2 | .x3 => [(.tx, .driverOff), (.rx, .terminationOff)]
  | .nguzoB => [(.ngTx, .high), (.ngTxen, .low), (.ngRx, .pulledUpIgnored)]
  | .fan1 => [(.fanPwm, .highZ), (.fanTach, .ignored)]

/-- Whether a variant lacks a unit of Table 2-7. -/
def lacksBalls (v : Nat) : BallUnit → Bool
  | .c6 | .c7 | .x2 | .x3 => decide (1 ≤ v)
  | .c4 | .c5 | .nguzoB | .fan1 => decide (2 ≤ v)

/-- The variant that governs the balls: from POR to the first OTP_CHECK that of the SX7220, then the variant found there, and
while a later OTP_CHECK has the device run as DEGRADED that (R34). -/
def ballVariant (d : Dev) : Nat :=
  match d.otp.firstVariant with
  | none => 2
  | some v => if d.otp.variant = 3 then 3 else v

/-- What Table 2-7 holds a unit's balls at, or none while the unit drives them itself (R34). -/
def heldBalls (d : Dev) (u : BallUnit) : Option (List (Ball × BallState)) :=
  if lacksBalls (ballVariant d) u then some (safeBalls u) else none

/-- Whether a unit's balls are held in their safe state (R34). -/
def unitHeld (d : Dev) (u : BallUnit) : Bool := lacksBalls (ballVariant d) u

/-- The unit of Table 2-7 whose balls a cable or switch port uses. -/
def unitOfPort : Nat → Option BallUnit
  | 4 => some .c4
  | 5 => some .c5
  | 6 => some .c6
  | 7 => some .c7
  | 10 => some .x2
  | 11 => some .x3
  | _ => none

/-- Whether a port's balls are held in their safe state (R34): it drives nothing, and its inputs are ignored. -/
def portHeld (d : Dev) (p : Nat) : Bool := (unitOfPort p).any (unitHeld d)

/-! ### Emissions -/

/-- Whether the bank that an emission leaves by is out of range, so that its outputs are high impedance (R32): port 12 and
MDIO are on VDDIO_H, the flash on VDDIO_F, the slots and the test port on VDDIO_S, the bus on VDDIO_N. -/
def bankSilent (a : Aon) : Emission → Bool
  | .frame p _ | .pause p _ | .frameEnd p _ => p == 12 && !a.bankH
  | .mdio .. | .window _ | .octets _ => !a.bankH
  | .journal _ => !a.bankF
  | .i2c .. | .tap _ => !a.bankS
  | .nguzo .. => !a.bankN
  | _ => false

/-- Whether the balls that an emission leaves by are held in their safe state (R34). -/
def heldSilent (d : Dev) : Emission → Bool
  | .frame p _ | .pause p _ | .frameEnd p _ => portHeld d p
  | .pd n _ | .pdHardReset n | .cc n _ => portHeld d n.val
  | .nguzo chB _ => chB && unitHeld d .nguzoB
  | _ => false

/-- Put something on a wire. -/
def emit (e : Emission) (d : Dev) : Dev :=
  if bankSilent d.aon e || heldSilent d e then d else { d with out := d.out ++ [e] }

/-- R32: the inputs of a bank that is out of range are ignored. -/
def whileBank (ok : Aon → Bool) (f : Dev → Dev) (d : Dev) : Dev := if ok d.aon then f d else d

/-- What a switch port receives is ignored while its balls are held in their safe state (R34), and on port 12, which is on
VDDIO_H, while that bank is out of range (R32). -/
def whilePort (p : Nat) (f : Dev → Dev) (d : Dev) : Dev :=
  if portHeld d p then d else whileBank (fun a => p != 12 || a.bankH) f d

/-- What a Nguzo channel receives is ignored while VDDIO_N is out of range (R32), and on channel B while its balls are held in
their safe state (R34). -/
def whileBus (chB : Bool) (f : Dev → Dev) (d : Dev) : Dev :=
  if chB && unitHeld d .nguzoB then d else whileBank (·.bankN) f d

/-- Station table capacity, policers and client sessions. -/
def stationEntries (d : Dev) : Nat := if isSmall d then 16384 else 65536
@[inherit_doc stationEntries] def policerCount (d : Dev) : Nat := if isSmall d then 512 else 2048
@[inherit_doc stationEntries] def sessionCount (d : Dev) : Nat := if isSmall d then 256 else 1024

/-! ### Access to the planes -/

/-- Cable port `n`. -/
def cable (d : Dev) (n : Nat) : Cable := tget Cable.reset d.cables n

/-- Change cable port `n`. -/
def setCable (n : Nat) (f : Cable → Cable) (d : Dev) : Dev :=
  { d with cables := tset Cable.reset d.cables n (f (cable d n)) }

/-- Chassis slot `s`. -/
def slotOf (d : Dev) (s : Nat) : SlotRec := tget SlotRec.reset d.slots s

/-- Change chassis slot `s`. -/
def setSlot (s : Nat) (f : SlotRec → SlotRec) (d : Dev) : Dev :=
  { d with slots := tset SlotRec.reset d.slots s (f (slotOf d s)) }

/-- Switch port `p`. -/
def swPort (d : Dev) (p : Nat) : SwPort := tget SwPort.reset d.fab.ports p

/-- Change switch port `p`. -/
def setSwPort (p : Nat) (f : SwPort → SwPort) (d : Dev) : Dev :=
  { d with fab := { d.fab with ports := tset SwPort.reset d.fab.ports p (f (swPort d p)) } }

/-- Egress queue (p, c). -/
def queueOf (d : Dev) (p c : Nat) : Queue := tget Queue.reset d.fab.queues (8 * p + c)

/-- Change egress queue (p, c). -/
def setQueue (p c : Nat) (f : Queue → Queue) (d : Dev) : Dev :=
  { d with fab := { d.fab with queues := tset Queue.reset d.fab.queues (8 * p + c) (f (queueOf d p c)) } }

/-- Fan channel `f`. -/
def fanOf (d : Dev) (f : Nat) : Fan := tget Fan.reset d.heat.fans f

/-- Change fan channel `f`. -/
def setFan (f : Nat) (g : Fan → Fan) (d : Dev) : Dev :=
  { d with heat := { d.heat with fans := tset Fan.reset d.heat.fans f (g (fanOf d f)) } }

/-- Session `s`. Sessions 0 and 1 are always open (Table 4-7). -/
def sessionOf (d : Dev) (s : Nat) : Session := tget Session.fresh d.od.sessions s

/-- Change session `s`. -/
def setSession (s : Nat) (f : Session → Session) (d : Dev) : Dev :=
  { d with od := { d.od with sessions := tset Session.fresh d.od.sessions s (f (sessionOf d s)) } }

/-- Change the AON domain, the boot record, the engine, the host window. -/
def onAon (f : Aon → Aon) (d : Dev) : Dev := { d with aon := f d.aon }
@[inherit_doc onAon] def onBoot (f : Boot → Boot) (d : Dev) : Dev := { d with boot := f d.boot }
@[inherit_doc onAon] def onOd (f : Od → Od) (d : Dev) : Dev := { d with od := f d.od }
@[inherit_doc onAon] def onHw (f : HostWin → HostWin) (d : Dev) : Dev := { d with hw := f d.hw }

/-- Set bits of IRQ_STATUS (R175). -/
def raiseIrq (i : Nat) (d : Dev) : Dev := onHw (fun h => { h with irqStatus := h.irqStatus ||| BitVec.ofNat 10 (2 ^ i) }) d

/-- Set bit `i` of IRQ_PORT (Table 5-11). -/
def raiseIrqPort (i : Nat) (d : Dev) : Dev := onHw (fun h => { h with irqPort := h.irqPort ||| BitVec.ofNat 32 (2 ^ i) }) d

/-- Record an event alarm: its bit of ACTIVE is 1 in this tick alone, LATCHED keeps it, and IRQ_STATUS.ALARM rises with it
(R633). -/
def eventAlarm (i : Nat) (d : Dev) : Dev :=
  let b := BitVec.ofNat 64 (2 ^ i)
  let fresh := !d.od.alarmLatched.getLsbD i
  let d := onOd (fun o => { o with alarmEvents := o.alarmEvents ||| b, alarmLatched := o.alarmLatched ||| b }) d
  if fresh then raiseIrq 7 d else d

/-- The tick of the event alarms is over: their bits of ACTIVE are 0 again (R633). -/
def endEvents (d : Dev) : Dev := onOd (fun o => { o with alarmEvents := 0 }) d

/-- ACTIVE: the condition alarms that hold, and the events of this tick (R633, Table 4-15). -/
def activeAlarms (d : Dev) : BitVec 64 := d.od.alarmActive ||| d.od.alarmEvents

/-- Whether MGT and the engine run: after REFCLK, in any stage of boot and in IDLE and ACTIVE. -/
def mgtRuns (d : Dev) : Bool :=
  match d.boot.stage with
  | .down | .strapsS | .railsS | .refclk => false
  | _ => true

/-- Whether the TTB domain runs: from step REPLAY, and in HALT (Tables 3-1, 3-7, 3-9). -/
def ttbRuns (d : Dev) : Bool :=
  match d.boot.stage with
  | .replay | .ready | .halt => true
  | _ => false

/-- Whether the object dictionary engine serves requests: from READY, or under HALT (R95, R163). -/
def odServes (d : Dev) : Bool :=
  match d.boot.stage with
  | .ready | .halt => true
  | _ => false

/-- Whether a boot is in progress that will reach READY or a waiting stage. -/
def booting (d : Dev) : Bool :=
  match d.boot.stage with
  | .down | .ready | .halt => false
  | _ => true

/-- Whether the fabric domains run (Table 3-1). -/
def fabricRuns (d : Dev) : Bool := d.aon.power == .active

/-! ### The passing of time (log entry 2) -/

/-- `ns` nanoseconds pass: the clock advances, and the timebase by as much at its rate with RATE_TRIM while its domain runs. -/
def elapse (ns : Nat) (d : Dev) : Dev :=
  let tm := d.tm
  let adv : Int := ((Config.tickNs : Int) * 2 ^ 32 + tm.rateTrim) * ns / Config.tickNs
  { d with now := d.now + ns, tm := if ttbRuns d then { tm with tb := tm.tb + BitVec.ofInt 96 adv } else tm }

/-- The time that a running timer still has passes. -/
def reach (t : Timer) (d : Dev) : Dev := elapse (timeLeft t d) d

/-- A timer expires, if it runs: its instant is reached, it stops, and `f` follows. A timer that does not run cannot expire. -/
def onExpiry (t : Timer) (f : Dev → Dev) (d : Dev) : Dev := if armed t d then f (disarm t (reach t d)) else d

/-- One TTB tick of the idle block: 8 ns pass. -/
def idleTick (s : State) : State := { s with dev := elapse Config.tickNs (endEvents s.dev) }

end Sys2Proof.Machine
end

