-- ==== Sys2Proof/Machine/OtpFacts.lean ====
section
/-! DEFINITION. What the OTP array holds: words and their check bits, logical words by majority, and the records of the banks
(chapter 16, R575-R583, R593, Tables 16-1 to 16-5). -/

namespace Sys2Proof.Machine

/-! ### Words -/

/-- The 7 check bits of a data word. The spec fixes of the code only that a blank word is a codeword; the rest is a free value
(log entry 15). -/
def otpCheckBits (data : Nat) : Nat := if data = 0 then 0 else Config.openFigure "otp-secded" data % 128

/-- The 39 bits that a data word is burned as. -/
def codeword (data : Nat) : Nat := data % 2 ^ 32 + 2 ^ 32 * otpCheckBits (data % 2 ^ 32)

/-- Whether 39 bits are a codeword. -/
def isCodeword (w : Nat) : Bool := codeword (w % 2 ^ 32) == w

/-- The 39 bits of a physical word. -/
def otpRaw (d : Dev) (a : Nat) : Nat := (tget 0 d.otp.array a).toNat

/-- The bits of a physical word that are weak (R588), and those that read 1 at all three references. -/
def otpWeak (d : Dev) (a : Nat) : BitVec 39 := tget 0 d.otp.marginal a
@[inherit_doc otpWeak] def otpFirm (d : Dev) (a : Nat) : Nat := (tget 0 d.otp.array a &&& ~~~otpWeak d a).toNat

/-- The bits of a physical word that read 1 at the normal or the high-margin reference: a weak bit that reads 0 at normal reads 1
at high-margin (R587; log entry 24). -/
def otpSeen (d : Dev) (a : Nat) : Nat := (tget 0 d.otp.array a ||| otpWeak d a).toNat

/-- The data of a word after any single-bit correction, and 0 clean, 1 corrected, 2 uncorrectable. -/
def eccRead (w : Nat) : Nat × Nat :=
  if isCodeword w then (w % 2 ^ 32, 0)
  else
    match (List.range 39).find? fun i => isCodeword (w ^^^ 2 ^ i) with
    | some i => ((w ^^^ 2 ^ i) % 2 ^ 32, 1)
    | none => (w % 2 ^ 32, 2)

/-- A word of a bank with ECC. -/
def otpWord (d : Dev) (a : Nat) : Nat × Nat := eccRead (otpRaw d a)

/-- Bits of a physical word come to read as given. -/
def setRaw (a w : Nat) (d : Dev) : Dev :=
  { d with otp := { d.otp with array := tset 0 d.otp.array a (BitVec.ofNat 39 w) } }

/-- Bits `w` of a physical word have been pulsed; of them `weak` are left weak. -/
def setWeak (a : Nat) (w weak : BitVec 39) (d : Dev) : Dev :=
  { d with otp := { d.otp with marginal := tset 0 d.otp.marginal a ((otpWeak d a &&& ~~~w) ||| weak) } }

/-- The physical word of copy `c` of logical word `l`. -/
def copyAddr (l c : Nat) : Nat := 192 + 21 * c + l

/-- A logical word, by majority (R580). -/
def logical (d : Dev) (l : Nat) : Nat :=
  let a := otpRaw d (copyAddr l 0) % 2 ^ 32
  let b := otpRaw d (copyAddr l 1) % 2 ^ 32
  let c := otpRaw d (copyAddr l 2) % 2 ^ 32
  (a &&& b) ||| (a &&& c) ||| (b &&& c)

/-- The number of 1 bits of a number below 2^`w`. -/
def onesIn (w v : Nat) : Nat := ((List.range w).filter fun i => bit v i).length

/-- The lifecycle state that the word burned says (R582). -/
def lifecycleBurned (d : Dev) : Nat :=
  let w := logical d 0
  ([4, 3, 2, 1].find? fun i => decide (5 ≤ onesIn 8 (bits w (8 * i - 1) (8 * i - 8)))).getD 0

/-- The anti-rollback counter, GLITCH and UNLOCK counts (Table 16-4). -/
def rollbackCount (d : Dev) : Nat := ([3, 4, 5, 6].map fun l => onesIn 32 (logical d l)).sum
@[inherit_doc rollbackCount] def glitchCount (d : Dev) : Nat := onesIn 32 (logical d 7) + onesIn 32 (logical d 8)
@[inherit_doc rollbackCount] def unlockCount (d : Dev) : Nat := onesIn 32 (logical d 9)

/-! ### Banks and records -/

/-- The banks that hold records (Table 16-1). -/
inductive OtpBank where
  | factory | customer | patch
  deriving DecidableEq, Repr

/-- The first word of a bank and the word after its last. -/
def bankFirst : OtpBank → Nat
  | .factory => 0
  | .customer => 256
  | .patch => 768
@[inherit_doc bankFirst] def bankEnd : OtpBank → Nat
  | .factory => 128
  | .customer => 768
  | .patch => 1024

/-- Whether Table 16-3 defines a KIND for a bank. -/
def kindDefined (b : OtpBank) (kind : Nat) : Bool :=
  match b with
  | .factory => [0x80, 0x81, 0x82, 0x83, 0x84, 0x85].contains kind
  | .customer => [0x01, 0x02, 0x03, 0x05, 0x06].contains kind
  | .patch => kind == 0xC0

/-- Whether a record's TAG and payload are as Table 16-3 gives them (R578). -/
def wellFormedRecord (kind tag : Nat) (p : List Nat) : Bool :=
  let n := p.length
  let p0 := p.headD 0
  if kind = 0x01 ∨ kind = 0x80 then tag == 0 && n == 1 && decide (p0 < 3)
  else if kind = 0x02 then tag == 0 && n == 1 && decide (p0 < 16)
  else if kind = 0x03 then tag == 0 && n == 1 && decide (p0 < 2 ^ 16)
  else if kind = 0x05 then decide (tag ≤ 1) && n == 8
  else if kind = 0x06 then tag == 0 && decide (1 ≤ n)
  else if kind = 0x81 then tag == 0 && n == 2
  else if kind = 0x82 then tag == 0 && n == 2 && decide (p.getD 1 0 < 2 ^ 16)
  else if kind = 0x83 then decide (tag ≤ 3) && n == 2 && p0 != p.getD 1 0
  else if kind = 0x84 then decide (tag ≤ 3) && decide (1 ≤ n)
  else if kind = 0x85 then decide (tag ≤ 3) && n == 9 && decide (p.getD 8 0 < 256)
  else kind == 0xC0 && decide (16 ≤ n)

/-- STATUS words (Table 16-2). -/
def statusSuspect : Nat := 0x5A5A0001
@[inherit_doc statusSuspect] def statusVoid : Nat := 0x5A5A0002

/-- The octets of words, each little-endian. -/
def wordOctets (l : List Nat) : List Byte := l.flatMap fun w => leBytes 4 w

/-- What a walk says of a record. -/
inductive RecState where
  | good | suspect | void | bad
  deriving DecidableEq, Repr

/-- A record met by a walk. -/
structure OtpRec where
  addr    : Nat
  kind    : Nat
  tag     : Nat
  payload : List Nat
  state   : RecState
  deriving DecidableEq, Repr

/-- The end of a walk: the records in order, the word after the last, whether the bank is unreadable, and the words that a
single-bit correction repaired. -/
structure Walk where
  recs       : List OtpRec
  next       : Nat
  unreadable : Bool
  corrected  : Nat
  deriving DecidableEq, Repr

/-- Judge the record whose header word `h` stands at `a`, the words read through `rd` (R578). -/
def judge (rd : Nat → Nat × Nat) (a h : Nat) : OtpRec × Nat :=
  let len := h / 2 ^ 16 % 256
  let ws := (List.range (len + 3)).map fun i => rd (a + i)
  let data := ws.map (·.1)
  let body := data.take (len + 1)
  let status := data.getD (len + 2) 0
  let statusOk := (ws.getD (len + 2) (0, 0)).2 != 2
  let eccOk := ws.all fun w => w.2 != 2
  let crcOk := (crc32c (wordOctets body)).toNat == data.getD (len + 1) 0
  let payload := body.drop 1
  let kind := h / 2 ^ 24
  let tag := h % 2 ^ 16
  let state : RecState :=
    if statusOk && status == statusVoid then .void
    else if eccOk && crcOk && (status == 0 || status == statusSuspect) && wellFormedRecord kind tag payload then
      (if status = 0 then .good else .suspect)
    else .bad
  ({ addr := a, kind := kind, tag := tag, payload := payload, state := state }, (ws.filter fun w => w.2 == 1).length)

/-- Walk a bank from `a` on, its words read through `rd` (R577). The fuel is the number of words. -/
def walkFrom (rd : Nat → Nat × Nat) (b : OtpBank) : Nat → Nat → Walk
  | 0, a => ⟨[], a, false, 0⟩
  | n + 1, a =>
    if bankEnd b ≤ a then ⟨[], a, false, 0⟩
    else
      let h := rd a
      let len := h.1 / 2 ^ 16 % 256
      if h.2 ≠ 2 ∧ h.1 = 0 then ⟨[], a, false, b2n (h.2 == 1)⟩
      else if h.2 = 2 ∨ kindDefined b (h.1 / 2 ^ 24) = false ∨ 62 < len ∨ bankEnd b < a + len + 3 then ⟨[], a, true, 0⟩
      else
        let r := judge rd a h.1
        let w := walkFrom rd b n (a + len + 3)
        ⟨r.1 :: w.recs, w.next, w.unreadable, r.2 + w.corrected⟩

/-- Walk a bank. -/
def walk (d : Dev) (b : OtpBank) : Walk := walkFrom (otpWord d) b (bankEnd b - bankFirst b) (bankFirst b)

/-- Whether a record may be used. -/
def usable (r : OtpRec) : Bool := r.state == .good || r.state == .suspect

/-- The payload of the record of a KIND and TAG in force: the latest good one (R578). -/
def recordOf (d : Dev) (b : OtpBank) (kind tag : Nat) : Option (List Nat) :=
  ((walk d b).recs.reverse.find? fun r => usable r && r.kind == kind && r.tag == tag).map (·.payload)

/-- The unique ID and the base MAC address; zero where no good record gives them (R593). -/
def uid (d : Dev) : List Byte := wordOctets ((recordOf d .factory 0x81 0).getD [0, 0])
@[inherit_doc uid] def baseMac (d : Dev) : List Byte := (wordOctets ((recordOf d .factory 0x82 0).getD [0, 0])).take 6

/-- Whether BASE_MAC is valid: UDP ZOP stays off until it is (R593). -/
def baseMacValid (d : Dev) : Bool := (recordOf d .factory 0x82 0).isSome

/-- Whether an image key index is valid, and its compressed point (R592, Table 16-4). -/
def imageKey (d : Dev) (i : Nat) : Option (List Byte) :=
  if bit (logical d 1) i then none else (recordOf d .factory 0x85 i).map fun p => (wordOctets p).take 33

/-- The words of a key slot (Table 16-5), and whether one of them fails ECC. -/
def keyWords (d : Dev) (slot : Nat) : List (Nat × Nat) := (List.range 8).map fun i => otpWord d (128 + 8 * slot + i)
@[inherit_doc keyWords] def keyEccBad (d : Dev) (slot : Nat) : Bool := (keyWords d slot).any fun w => w.2 == 2

/-- Whether a slot would be usable but for its ECC, and whether it is usable (R583, R595). -/
def keyPresent (d : Dev) (slot : Nat) : Bool :=
  bit (logical d 2) slot && !bit (logical d 1) (4 + slot) && (d.otp.lifecycle == 1 || d.otp.lifecycle == 2)
@[inherit_doc keyPresent] def keyUsable (d : Dev) (slot : Nat) : Bool :=
  keyPresent d slot && !keyEccBad d slot && !d.otp.badSlots.getLsbD slot

/-- The 32 octets of a usable key; only the crypto engine reads them (R576). -/
def keyOctets (d : Dev) (slot : Nat) : Option (List Byte) :=
  if keyUsable d slot then some (wordOctets ((keyWords d slot).map (·.1))) else none

/-- The key that proves a role (1 Operator, 2 Commissioner, 3 Custodian) by its slot 0 or 1 (Table 16-5). -/
def roleKey (d : Dev) (role slot : Nat) : Option (List Byte) :=
  if 1 ≤ role ∧ role ≤ 3 ∧ slot ≤ 1 then keyOctets d (2 * (role - 1) + slot) else none

/-- BOOT_POLICY in force after an integrity alarm: 0 HALT, 1 CONTINUE_DEFAULTS, 2 WAIT_HOST (R594). -/
def bootPolicy (d : Dev) : Nat :=
  if (walk d .customer).unreadable then 2
  else
    match recordOf d .customer 0x01 0 with
    | some p => p.headD 2
    | none => 2

/-- STRAP_OVERRIDE: the values of AON_SEL and BOOT_SRC that OTP gives (R40). -/
def strapOverride (d : Dev) : Option Bool × Option Bool :=
  match recordOf d .customer 0x02 0 with
  | some p =>
    let w := p.headD 0
    (if bit w 0 then some (bit w 1) else none, if bit w 2 then some (bit w 3) else none)
  | none => (none, none)

/-- POD_SVID, where a record gives one. -/
def podSvid (d : Dev) : Nat :=
  match recordOf d .customer 0x03 0 with
  | some p => p.headD 0
  | none => 0x2B7A

/-- AUTH_DIGEST of a slot (R257). -/
def authDigest (d : Dev) (slot : Nat) : Option (List Byte) := (recordOf d .customer 0x05 slot).map wordOctets

end Sys2Proof.Machine
end

