-- ==== Sys2Proof/Machine/Crypto.lean ====
section
/-! DEFINITION. The crypto engine: SHA-256, HMAC-SHA-256 and ECDSA over P-256, which chapters 3, 4, 7 and 16 name (log entry 16). -/

namespace Sys2Proof.Machine

/-! ### SHA-256 -/

/-- The round constants. -/
def shaK : List Word :=
  [0x428A2F98, 0x71374491, 0xB5C0FBCF, 0xE9B5DBA5, 0x3956C25B, 0x59F111F1, 0x923F82A4, 0xAB1C5ED5]
    ++ [0xD807AA98, 0x12835B01, 0x243185BE, 0x550C7DC3, 0x72BE5D74, 0x80DEB1FE, 0x9BDC06A7, 0xC19BF174]
    ++ [0xE49B69C1, 0xEFBE4786, 0x0FC19DC6, 0x240CA1CC, 0x2DE92C6F, 0x4A7484AA, 0x5CB0A9DC, 0x76F988DA]
    ++ [0x983E5152, 0xA831C66D, 0xB00327C8, 0xBF597FC7, 0xC6E00BF3, 0xD5A79147, 0x06CA6351, 0x14292967]
    ++ [0x27B70A85, 0x2E1B2138, 0x4D2C6DFC, 0x53380D13, 0x650A7354, 0x766A0ABB, 0x81C2C92E, 0x92722C85]
    ++ [0xA2BFE8A1, 0xA81A664B, 0xC24B8B70, 0xC76C51A3, 0xD192E819, 0xD6990624, 0xF40E3585, 0x106AA070]
    ++ [0x19A4C116, 0x1E376C08, 0x2748774C, 0x34B0BCB5, 0x391C0CB3, 0x4ED8AA4A, 0x5B9CCA4F, 0x682E6FF3]
    ++ [0x748F82EE, 0x78A5636F, 0x84C87814, 0x8CC70208, 0x90BEFFFA, 0xA4506CEB, 0xBEF9A3F7, 0xC67178F2]

/-- The initial hash value. -/
def shaInit : List Word := [0x6A09E667, 0xBB67AE85, 0x3C6EF372, 0xA54FF53A, 0x510E527F, 0x9B05688C, 0x1F83D9AB, 0x5BE0CD19]

/-- Octets grouped into big-endian words. -/
def beWords : List Byte → List Word
  | a :: b :: c :: e :: l => (a ++ b ++ c ++ e) :: beWords l
  | _ => []

/-- The message schedule, newest word first, extended by `n` words. -/
def shaExtend : Nat → List Word → List Word
  | 0, w => w
  | n + 1, w =>
    let x := w.getD 14 0
    let y := w.getD 1 0
    let s0 := x.rotateRight 7 ^^^ x.rotateRight 18 ^^^ (x >>> 3)
    let s1 := y.rotateRight 17 ^^^ y.rotateRight 19 ^^^ (y >>> 10)
    shaExtend n ((w.getD 15 0 + s0 + w.getD 6 0 + s1) :: w)

/-- The eight working variables. -/
structure ShaVars where
  a : Word
  b : Word
  c : Word
  e : Word
  f : Word
  g : Word
  h : Word
  i : Word
  deriving DecidableEq, Repr

/-- One round. -/
def shaRound (v : ShaVars) (kw : Word) : ShaVars :=
  let s1 := v.f.rotateRight 6 ^^^ v.f.rotateRight 11 ^^^ v.f.rotateRight 25
  let ch := (v.f &&& v.g) ^^^ (~~~v.f &&& v.h)
  let t1 := v.i + s1 + ch + kw
  let s0 := v.a.rotateRight 2 ^^^ v.a.rotateRight 13 ^^^ v.a.rotateRight 22
  let maj := (v.a &&& v.b) ^^^ (v.a &&& v.c) ^^^ (v.b &&& v.c)
  ⟨t1 + s0 + maj, v.a, v.b, v.c, v.e + t1, v.f, v.g, v.h⟩

/-- One block of 16 words. -/
def shaBlock (h : List Word) (block : List Word) : List Word :=
  let w := (shaExtend 48 block.reverse).reverse
  let g (i : Nat) : Word := h.getD i 0
  let v := (List.zipWith (fun k x => k + x) shaK w).foldl shaRound ⟨g 0, g 1, g 2, g 3, g 4, g 5, g 6, g 7⟩
  List.zipWith (fun x y => x + y) h [v.a, v.b, v.c, v.e, v.f, v.g, v.h, v.i]

/-- The blocks of a list of words. -/
def shaBlocks : Nat → List Word → List Word → List Word
  | 0, h, _ => h
  | n + 1, h, w => shaBlocks n (shaBlock h (w.take 16)) (w.drop 16)

/-- SHA-256. -/
def sha256 (m : List Byte) : List Byte :=
  let z := (119 - m.length % 64) % 64
  let padded := m ++ [0x80] ++ List.replicate z 0 ++ beBytes 8 (8 * m.length)
  (shaBlocks (padded.length / 64) shaInit (beWords padded)).flatMap fun w => beBytes 4 w.toNat

/-- HMAC-SHA-256. -/
def hmac (key msg : List Byte) : List Byte :=
  let k0 := if 64 < key.length then sha256 key else key
  let k := k0 ++ List.replicate (64 - k0.length) 0
  sha256 (k.map (fun b => b ^^^ 0x5C) ++ sha256 (k.map (fun b => b ^^^ 0x36) ++ msg))

/-! ### P-256 -/

/-- The field prime, the group order, the coefficient b and the base point. -/
def p256P : Nat := 0xFFFFFFFF00000001000000000000000000000000FFFFFFFFFFFFFFFFFFFFFFFF
@[inherit_doc p256P] def p256N : Nat := 0xFFFFFFFF00000000FFFFFFFFFFFFFFFFBCE6FAADA7179E84F3B9CAC2FC632551
@[inherit_doc p256P] def p256B : Nat := 0x5AC635D8AA3A93E7B3EBBD55769886BC651D06B0CC53B0F63BCE3C3E27D2604B
@[inherit_doc p256P] def p256G : Option (Nat × Nat) :=
  some (0x6B17D1F2E12C4247F8BCE6E563A440F277037D812DEB33A0F4A13945D898C296,
        0x4FE342E2FE1A7F9B8EE7EB4A7C0F9E162BCE33576B315ECECBB6406837BF51F5)

/-- A power in a field, by the exponent's bits; `n` bounds their number. -/
def powMod (m : Nat) : Nat → Nat → Nat → Nat
  | 0, _, _ => 1
  | n + 1, a, e => let h := powMod m n (a * a % m) (e / 2); if e % 2 = 1 then a * h % m else h

/-- The inverse in a prime field. -/
def invMod (m a : Nat) : Nat := powMod m 256 (a % m) (m - 2)

/-- The sum of two points; `none` is the point at infinity. -/
def ecAdd (a b : Option (Nat × Nat)) : Option (Nat × Nat) :=
  match a, b with
  | none, q => q
  | q, none => q
  | some (x, y), some (u, v) =>
    let p := p256P
    if x = u ∧ (y + v) % p = 0 then none
    else
      let l := if x = u then (3 * x * x + (p - 3)) * invMod p (2 * y) % p else (v + (p - y)) * invMod p (u + (p - x)) % p
      let r := (l * l + (p - x) + (p - u)) % p
      some (r, (l * ((x + (p - r)) % p) + (p - y)) % p)

/-- A multiple of a point, by the scalar's bits; `n` bounds their number. -/
def ecMul : Nat → Nat → Option (Nat × Nat) → Option (Nat × Nat)
  | 0, _, _ => none
  | n + 1, k, q => let h := ecMul n (k / 2) (ecAdd q q); if k % 2 = 1 then ecAdd q h else h

/-- A compressed point of 33 octets. -/
def decompress (o : List Byte) : Option (Nat × Nat) :=
  let p := p256P
  let x := beNat (o.drop 1)
  let c := (x * x * x + (p - 3) * x + p256B) % p
  let y := powMod p 256 c ((p + 1) / 4)
  let sign := (o.headD 0).toNat
  if (sign ≠ 2 ∧ sign ≠ 3) ∨ p ≤ x ∨ y * y % p ≠ c then none
  else some (x, if y % 2 = sign % 2 then y else p - y)

/-- Whether a 64-octet signature (r then s) over a message is the key's. -/
def ecdsaVerify (key msg sig : List Byte) : Bool :=
  let r := beNat (sig.take 32)
  let s := beNat ((sig.drop 32).take 32)
  match decompress key with
  | none => false
  | some q =>
    if r = 0 ∨ s = 0 ∨ p256N ≤ r ∨ p256N ≤ s then false
    else
      let e := beNat (sha256 msg)
      let w := invMod p256N s
      match ecAdd (ecMul 256 (e * w % p256N) p256G) (ecMul 256 (r * w % p256N) (some q)) with
      | none => false
      | some (x, _) => x % p256N == r

/-- A signature by a secret scalar with a drawn one: r then s. -/
def ecdsaSign (priv k : Nat) (msg : List Byte) : List Byte :=
  let e := beNat (sha256 msg)
  match ecMul 256 k p256G with
  | none => List.replicate 64 0
  | some (x, _) =>
    let r := x % p256N
    beBytes 32 r ++ beBytes 32 (invMod p256N k * ((e + r * priv) % p256N) % p256N)

/-- A drawn scalar: 1 to the order less 1. -/
def drawScalar (d : Dev) : Nat × Dev :=
  let r := drawFree d
  (r.1.toNat % (p256N - 1) + 1, r.2)

/-- The public key of a secret scalar: x then y. -/
def publicOf (priv : Nat) : List Byte :=
  match ecMul 256 priv p256G with
  | some (x, y) => beBytes 32 x ++ beBytes 32 y
  | none => List.replicate 64 0

end Sys2Proof.Machine
end

