-- ==== Sys2Proof/Machine/OdTable.lean ====
section
/-! DEFINITION. The object dictionary's tables: which objects and elements there are, with type, roles, flags, default and
range (Tables 0-2, 1-6, 2-11, 3-11, 3-12, 4-12 to 4-14, 6-7 to 6-10, 7-7, 7-8, 8-4 to 8-6, 9-5 to 9-8, 10-5, 10-6, 11-3 to
11-6, 12-3 to 12-5, 13-5 to 13-7, 14-7 to 14-9, 15-3 to 15-5, 16-10). Limits that depend on other state are in OdCheck. -/

namespace Sys2Proof.Machine

/-- The element types of Table 4-1; a BITSET carries its size in bytes. -/
inductive Ty where
  | bool | u8 | u16 | u32 | u64 | i16 | i32 | q16 | enum | bitset (bytes : Nat) | time64 | octets (n : Nat) | string (n : Nat)
  deriving DecidableEq, Repr

/-- An element: type, Read and Write roles (0 to 3, or 255 for none), flags ([0] persistent, [1] subscribable), default and
range. For a BITSET `hi` is the mask of defined bits; OCTETS, STRING and types wider than 4 bytes carry no range. -/
structure Elem where
  ty    : Ty
  rd    : Nat
  wr    : Nat
  flags : Nat
  dflt  : Nat
  lo    : Int
  hi    : Int
  deriving DecidableEq, Repr

/-- One element row of a table. -/
def elem (ty : Ty) (rd wr flags dflt : Nat) (lo hi : Int) : Elem := ⟨ty, rd, wr, flags, dflt, lo, hi⟩

/-- A row that names several elements in succession. -/
def elemRun (first n : Nat) (e : Elem) : List (Nat × Elem) := (List.range n).map fun i => (first + i, e)

/-- The kinds of object, in the order of their numbers. -/
inductive ObjKind where
  | identity | capability | strap | power | resetBoot | alarm | watch | service | view
  | counters | bundle | journal | proof | cable | slot | guard | profile | contract
  | device | path | ledger | source | bus | node | channel | gateway | map
  | time | sources | ptp | pins | epoch | staticSlot | dynamic | windows | port
  | class | buffer | mirror | mdio | vlanPort | station | vlan | routePort | vrf
  | routeService | routeCommand | nextHop | shaping | classifier | template | policer | portTally | exports
  | pairTally | queueTally | model | heatNode | portHeat | sensor | critical | fan | heartbeat
  | otpStatus | otpRecord | otpKeys | lifecycle | portRound | round
  deriving DecidableEq, Repr

/-- Each kind with its base object number, its stride and how many instances it has. -/
def objBases : List (ObjKind × Nat × Nat × Nat) :=
  [(.identity, 0x0000, 0x1, 1), (.capability, 0x0010, 0x1, 1), (.strap, 0x0012, 0x1, 1), (.power, 0x0014, 0x1, 1),
   (.resetBoot, 0x0016, 0x1, 1), (.alarm, 0x0020, 0x1, 1), (.watch, 0x0030, 0x1, 1), (.service, 0x1000, 0x1, 1),
   (.view, 0x1010, 0x1, 1), (.counters, 0x1020, 0x1, 1), (.bundle, 0x1030, 0x1, 1), (.journal, 0x1040, 0x1, 1)] ++
  [(.proof, 0x1050, 0x1, 1), (.cable, 0x2000, 0x40, 8), (.slot, 0x2200, 0x40, 4), (.guard, 0x2300, 0x1, 1),
   (.profile, 0x2400, 0x1, 32), (.contract, 0x3000, 0x40, 8), (.device, 0x3200, 0x1, 1), (.path, 0x4000, 0x40, 8),
   (.ledger, 0x4200, 0x1, 1), (.source, 0x4300, 0x1, 1), (.bus, 0x5000, 0x1, 1), (.node, 0x5010, 0x1, 1)] ++
  [(.channel, 0x5020, 0x1, 2), (.gateway, 0x5080, 0x1, 1), (.map, 0x5100, 0x1, 128), (.time, 0x6000, 0x1, 1),
   (.sources, 0x6010, 0x1, 1), (.ptp, 0x6020, 0x1, 1), (.pins, 0x6030, 0x1, 1), (.epoch, 0x6040, 0x1, 16),
   (.staticSlot, 0x6101, 0x1, 64), (.dynamic, 0x6180, 0x1, 64), (.windows, 0x6400, 0x40, 16), (.port, 0x7000, 0x40, 16)] ++
  [(.class, 0x7400, 0x1, 8), (.buffer, 0x7410, 0x1, 1), (.mirror, 0x7420, 0x1, 4), (.mdio, 0x7430, 0x1, 1),
   (.vlanPort, 0x8000, 0x40, 16), (.station, 0x8400, 0x1, 1), (.vlan, 0x8600, 0x1, 1), (.routePort, 0x9000, 0x40, 16),
   (.vrf, 0x9400, 0x1, 4), (.routeService, 0x9500, 0x1, 1), (.routeCommand, 0x9600, 0x1, 1), (.nextHop, 0x9700, 0x1, 1)] ++
  [(.shaping, 0xA000, 0x40, 16), (.classifier, 0xA400, 0x1, 1), (.template, 0xA440, 0x1, 32), (.policer, 0xA500, 0x1, 1),
   (.portTally, 0xB000, 0x40, 16), (.exports, 0xB400, 0x1, 1), (.pairTally, 0xB500, 0x1, 1), (.queueTally, 0xB800, 0x40, 16),
   (.model, 0xC000, 0x1, 1), (.heatNode, 0xC100, 0x1, 16), (.portHeat, 0xC200, 0x40, 8), (.sensor, 0xC400, 0x1, 4)] ++
  [(.critical, 0xC500, 0x1, 1), (.fan, 0xC600, 0x1, 2), (.heartbeat, 0xC700, 0x1, 1), (.otpStatus, 0xD000, 0x1, 1),
   (.otpRecord, 0xD010, 0x1, 1), (.otpKeys, 0xD020, 0x1, 1), (.lifecycle, 0xD030, 0x1, 1), (.portRound, 0xE000, 0x40, 8),
   (.round, 0xE400, 0x1, 1)]

/-- Elements of 0x0000. -/
def elemsIdentity : List (Nat × Elem) :=
  [(0, elem (.string 16) 0 255 0 2222067458459229250899 0 0),
   (1, elem (.string 8) 0 255 0 0 0 0),
   (2, elem .u8 0 255 0 0 0 255),
   (3, elem (.octets 8) 0 255 0 0 0 0),
   (4, elem (.octets 6) 0 255 0 0 0 0)]

/-- Elements of 0x0010. -/
def elemsCapability : List (Nat × Elem) :=
  [(0, elem .enum 0 255 0 0 0 3),
   (1, elem (.bitset 2) 0 255 0 0 0 65535),
   (2, elem (.bitset 2) 0 255 0 0 0 511),
   (3, elem .u32 0 255 0 0 16384 65536),
   (4, elem .u16 0 255 0 0 512 2048),
   (5, elem .u16 0 255 0 0 256 1024),
   (6, elem .u16 0 255 0 0 0 16384),
   (7, elem .u16 0 255 0 0 0 4096)]

/-- Elements of 0x0012. -/
def elemsStrap : List (Nat × Elem) :=
  [(0, elem .u8 0 255 0 0 105 135),
   (1, elem .enum 0 255 0 0 0 1),
   (2, elem .enum 0 255 0 0 0 1),
   (3, elem .bool 0 255 0 0 0 1),
   (4, elem (.bitset 1) 0 255 0 0 0 31),
   (5, elem (.bitset 1) 0 255 0 0 0 31),
   (6, elem (.bitset 1) 0 255 0 0 0 12),
   (7, elem .u16 0 255 0 0 0 65535),
   (8, elem (.bitset 1) 0 255 0 0 0 255),
   (9, elem .bool 0 255 0 0 0 1)]

/-- Elements of 0x0014. -/
def elemsPower : List (Nat × Elem) :=
  [(0, elem .enum 0 255 2 1 1 3),
   (1, elem .enum 0 1 0 0 0 3),
   (2, elem (.bitset 1) 0 255 0 0 0 31),
   (3, elem (.bitset 1) 0 2 1 55 0 63),
   (4, elem .u32 0 1 1 0 0 86400),
   (5, elem (.bitset 1) 0 255 0 0 0 255),
   (6, elem .u16 0 1 1 1000 100 60000),
   (7, elem .enum 0 255 0 0 0 3)]

/-- Elements of 0x0016. -/
def elemsResetBoot : List (Nat × Elem) :=
  [(0, elem .enum 0 255 0 0 0 6),
   (1, elem .u32 0 255 0 0 0 4294967295),
   (2, elem .enum 0 255 0 0 0 2),
   (3, elem .u32 0 255 0 0 0 4294967295),
   (4, elem .u32 0 255 0 0 0 4294967295),
   (5, elem .enum 0 255 0 0 0 3),
   (6, elem .u16 0 255 0 0 0 65535),
   (7, elem .u16 0 255 0 0 0 65535),
   (8, elem .bool 0 2 0 0 0 1),
   (9, elem (.bitset 1) 0 1 0 0 0 255),
   (10, elem .bool 0 2 0 0 0 1)]

/-- Elements of 0x0020. -/
def elemsAlarm : List (Nat × Elem) :=
  [(0, elem (.bitset 8) 0 255 0 0 0 4194303),
   (1, elem (.bitset 8) 0 255 0 0 0 4194303),
   (2, elem (.bitset 8) 0 1 0 0 0 4194303)]

/-- Elements of 0x0030. -/
def elemsWatch : List (Nat × Elem) :=
  [(0, elem .u32 0 255 0 0 0 4294967295),
   (1, elem .u32 0 255 0 0 0 4294967295),
   (2, elem .u32 0 255 0 0 0 4294967295),
   (3, elem .u32 0 255 0 0 0 4294967295),
   (4, elem .u32 0 255 0 0 0 4294967295),
   (5, elem .bool 0 1 0 0 0 1)]

/-- Elements of 0x1000. -/
def elemsService : List (Nat × Elem) :=
  [(0, elem .bool 0 2 1 1 0 1),
   (1, elem .u32 0 2 1 0 0 4294967295),
   (2, elem (.octets 16) 0 2 1 0 0 0),
   (3, elem .u16 0 2 1 0 0 4094),
   (4, elem .bool 0 2 1 1 0 1),
   (5, elem .bool 0 2 1 1 0 1),
   (6, elem .u16 0 2 1 300 10 3600),
   (7, elem .u16 0 1 1 10000 100 60000)]

/-- Elements of 0x1010. -/
def elemsView : List (Nat × Elem) :=
  [(0, elem .u16 0 0 0 0 0 1023),
   (1, elem .enum 0 255 0 0 0 1),
   (2, elem .enum 0 255 0 0 0 3),
   (3, elem (.octets 8) 2 255 0 0 0 0),
   (4, elem .u16 0 255 0 0 0 65535),
   (5, elem .enum 0 255 0 0 0 4)]

/-- Elements of 0x1020. -/
def elemsCounters : List (Nat × Elem) :=
  elemRun 0 8 (elem .u32 0 255 0 0 0 4294967295)

/-- Elements of 0x1030. -/
def elemsBundle : List (Nat × Elem) :=
  [(0, elem .enum 0 255 0 0 0 4),
   (1, elem .u32 0 255 0 0 0 4294967295),
   (2, elem .u8 0 255 0 0 0 255),
   (3, elem .u8 0 255 0 0 0 31)]

/-- Elements of 0x1040. -/
def elemsJournal : List (Nat × Elem) :=
  [(0, elem .enum 0 255 0 0 0 2),
   (1, elem .u32 0 255 0 0 0 4294967295),
   (2, elem .u32 0 255 0 0 0 4294967295),
   (3, elem .u16 0 255 0 0 0 65535)]

/-- Elements of 0x1050. -/
def elemsProof : List (Nat × Elem) :=
  [(0, elem .u32 0 255 0 0 0 4294967295),
   (1, elem .u16 0 255 0 0 0 65535)]

/-- Elements of 0x2000+0x40n. -/
def elemsCable : List (Nat × Elem) :=
  [(0, elem .enum 0 255 0 0 0 7),
   (1, elem .enum 0 255 0 0 0 2),
   (2, elem .enum 0 2 1 3 0 3),
   (3, elem .enum 0 2 1 0 0 2),
   (4, elem .enum 0 255 0 0 0 2),
   (5, elem .u32 0 255 0 4294967295 0 4294967295),
   (6, elem .enum 0 255 0 0 0 2),
   (7, elem (.bitset 1) 0 255 0 0 0 31),
   (8, elem .enum 0 2 1 0 0 2),
   (9, elem .bool 0 2 1 1 0 1),
   (10, elem .enum 0 255 0 0 0 7),
   (11, elem .u8 0 255 0 0 0 31),
   (12, elem (.octets 256) 0 255 0 0 0 0),
   (13, elem .enum 0 255 0 0 0 2),
   (14, elem .bool 0 255 0 0 0 1),
   (15, elem .u16 0 255 0 0 0 65535),
   (16, elem .bool 0 1 0 0 0 1),
   (17, elem .bool 0 1 0 0 0 1)]

/-- Elements of 0x2200+0x40s. -/
def elemsSlot : List (Nat × Elem) :=
  [(0, elem .bool 0 2 1 1 0 1),
   (1, elem .enum 0 255 0 0 0 4),
   (2, elem .enum 0 2 1 0 0 1),
   (3, elem .u32 0 2 1 2000 0 30000),
   (4, elem .u8 0 255 0 0 0 31),
   (5, elem (.octets 256) 0 255 0 0 0 0),
   (6, elem .u16 0 255 0 0 0 65535),
   (7, elem .bool 0 1 0 0 0 1)]

/-- Elements of 0x2300. -/
def elemsGuard : List (Nat × Elem) :=
  [(0, elem .u16 0 2 1 400 100 1000),
   (1, elem .u16 0 2 1 30 10 600),
   (2, elem .u16 0 255 0 11130 0 65535),
   (3, elem .u32 0 2 1 2500 500 7500),
   (4, elem .u16 0 2 1 4094 1 4094)]

/-- Elements of 0x2400+p. -/
def elemsProfile : List (Nat × Elem) :=
  [(0, elem .bool 0 2 1 0 0 1),
   (1, elem .u16 0 2 1 0 0 65535),
   (2, elem .u16 0 2 1 65535 0 65535),
   (3, elem .u16 0 2 1 0 0 65535),
   (4, elem (.bitset 2) 0 2 1 4095 0 4095),
   (5, elem .u32 0 2 1 0 0 100000),
   (6, elem .u8 0 2 1 8 1 15),
   (7, elem .u16 0 2 1 1 1 4094),
   (8, elem .u8 0 2 1 0 0 7),
   (9, elem .u8 0 2 1 0 0 31),
   (10, elem .u16 0 2 1 16 0 1024),
   (11, elem .u8 0 2 1 0 0 8),
   (12, elem .enum 0 2 1 0 0 3),
   (13, elem .u8 0 2 1 255 0 255),
   (14, elem .enum 0 2 1 2 1 2)]

/-- Elements of 0x3000+0x40n. -/
def elemsContract : List (Nat × Elem) :=
  [(0, elem .enum 0 255 0 0 0 2),
   (1, elem .enum 0 255 0 0 0 2),
   (2, elem .enum 0 255 0 0 0 4),
   (3, elem .enum 0 255 0 0 0 2),
   (4, elem .u32 0 255 0 0 0 4294967295),
   (5, elem .u32 0 255 0 0 0 4294967295),
   (6, elem .u32 0 255 0 0 0 4294967295),
   (7, elem .u32 0 255 0 0 0 4294967295),
   (8, elem (.bitset 1) 0 2 1 15 0 15),
   (9, elem .u16 0 2 1 20000 5000 21000),
   (10, elem .u16 0 2 1 3000 500 5000),
   (11, elem .enum 0 2 1 0 0 1),
   (12, elem .u16 0 2 1 20000 5000 48000),
   (13, elem .u16 0 2 1 3000 500 5000),
   (14, elem .u16 0 1 0 9000 3300 48000),
   (15, elem .bool 0 2 1 0 0 1),
   (16, elem (.bitset 1) 0 2 1 15 0 15),
   (17, elem .bool 0 2 1 0 0 1),
   (18, elem .enum 0 2 1 2 1 3),
   (19, elem .enum 0 255 0 0 0 2)] ++
  [(20, elem .bool 0 1 0 0 0 1),
   (21, elem .u16 0 255 0 0 0 65535),
   (22, elem .u16 0 255 0 0 0 65535),
   (23, elem .u16 0 255 0 0 0 65535),
   (24, elem .u16 0 255 0 0 0 65535),
   (25, elem .bool 0 255 0 0 0 1),
   (26, elem (.octets 44) 0 255 0 0 0 0),
   (27, elem .enum 0 255 0 0 0 3)]

/-- Elements of 0x3200. -/
def elemsDevice : List (Nat × Elem) :=
  [(0, elem .bool 0 1 0 0 0 1),
   (1, elem .u16 0 1 0 65535 0 65535),
   (2, elem .enum 0 1 0 3 0 3),
   (3, elem .bool 0 2 1 1 0 1),
   (4, elem (.bitset 1) 0 255 0 0 0 3),
   (5, elem .u32 0 255 0 0 0 4294967295),
   (6, elem .u32 0 255 0 0 0 4294967295)]

/-- Elements of 0x4000+0x40n. -/
def elemsPath : List (Nat × Elem) :=
  [(0, elem .enum 0 255 0 0 0 10),
   (1, elem .u8 0 255 0 8 1 15),
   (2, elem .u32 0 255 0 0 0 4294967295),
   (3, elem .u32 0 255 0 0 0 4294967295),
   (4, elem .i32 0 255 0 0 (-2147483648) 2147483647),
   (5, elem .u16 0 2 1 7500 4000 10000),
   (6, elem .u8 0 2 1 125 105 150),
   (7, elem .u8 0 2 1 10 1 100),
   (8, elem .u16 0 2 1 1000 100 5000),
   (9, elem .u8 0 2 1 10 1 50),
   (10, elem .u16 0 255 0 0 0 65535),
   (11, elem .u16 0 255 0 0 0 65535),
   (12, elem .u16 0 255 0 0 0 65535),
   (13, elem .u16 0 255 0 0 0 65535),
   (14, elem .u16 0 255 0 0 0 65535),
   (15, elem .u16 0 255 0 0 0 65535),
   (16, elem .u8 0 255 0 3 0 3),
   (17, elem .bool 0 1 0 0 0 1),
   (18, elem .enum 0 255 0 0 0 3)]

/-- Elements of 0x4200. -/
def elemsLedger : List (Nat × Elem) :=
  [(0, elem .u32 0 255 0 0 0 4294967295),
   (1, elem .u32 0 255 0 14000 0 4294967295),
   (2, elem .i32 0 255 2 0 (-2147483648) 2147483647),
   (3, elem .u32 0 1 0 0 0 200000),
   (4, elem .u32 0 2 1 10000 0 100000),
   (5, elem .u32 0 2 1 4000 1000 10000),
   (6, elem .u32 0 2 1 2000 0 50000),
   (7, elem .u16 0 2 1 5 1 60),
   (8, elem (.bitset 1) 0 255 0 0 0 255),
   (9, elem .u32 0 255 0 0 0 4294967295),
   (10, elem .bool 0 255 0 0 0 1)]

/-- Elements of 0x4300. -/
def elemsSource : List (Nat × Elem) :=
  [(0, elem .u32 0 255 0 0 0 4294967295),
   (1, elem .u16 0 2 1 5500 3000 24000),
   (2, elem .u32 0 255 0 0 0 4294967295),
   (3, elem .u32 0 255 0 0 0 4294967295)]

/-- Elements of 0x5000. -/
def elemsBus : List (Nat × Elem) :=
  [(0, elem .bool 0 2 1 0 0 1),
   (1, elem .bool 0 2 1 0 0 1),
   (2, elem .u16 0 2 1 1000 250 16000),
   (3, elem .u8 0 2 1 16 2 64),
   (4, elem .u16 0 2 1 40 0 65535),
   (5, elem .u8 0 2 1 16 0 63),
   (6, elem .u8 0 2 1 2 1 8),
   (7, elem .u16 0 2 1 80 0 511),
   (8, elem .u8 0 2 1 4 2 16),
   (9, elem .u8 0 2 1 1 1 15),
   (10, elem .u8 0 2 1 0 0 255),
   (11, elem .bool 0 2 1 1 0 1),
   (12, elem .u8 0 2 1 1 1 64),
   (13, elem .u16 0 2 1 100 0 2000),
   (14, elem .u16 0 2 1 100 0 2000),
   (15, elem .u16 0 2 1 1500 100 5000),
   (16, elem .u16 0 2 1 150 10 500),
   (17, elem .u8 0 2 1 2 1 16),
   (18, elem .u8 0 2 1 3 1 15)]

/-- Elements of 0x5010. -/
def elemsNode : List (Nat × Elem) :=
  [(0, elem .enum 0 255 2 0 0 4),
   (1, elem .enum 0 255 0 0 0 1),
   (2, elem .u8 0 255 0 0 0 255),
   (3, elem .u16 0 255 0 40 0 65535),
   (4, elem .u8 0 255 0 0 0 4),
   (5, elem .i32 0 255 0 0 (-2147483648) 2147483647),
   (6, elem .i32 0 255 0 0 (-2147483648) 2147483647),
   (7, elem .u32 0 255 0 0 0 4294967295),
   (8, elem .u32 0 255 0 0 0 4294967295),
   (9, elem .u32 0 255 0 0 0 4294967295),
   (10, elem .u32 0 255 0 0 0 4294967295),
   (11, elem .u32 0 255 0 0 0 4294967295)]

/-- Elements of 0x5020, 0x5021. -/
def elemsChannel : List (Nat × Elem) :=
  [(0, elem .enum 0 255 0 0 0 4),
   (1, elem .u32 0 255 0 0 0 4294967295),
   (2, elem .u32 0 255 0 0 0 4294967295),
   (3, elem .u32 0 255 0 0 0 4294967295),
   (4, elem .u32 0 255 0 0 0 4294967295),
   (5, elem .u32 0 255 0 0 0 4294967295),
   (6, elem .u32 0 255 0 0 0 4294967295),
   (7, elem .u16 0 255 0 0 0 65535),
   (8, elem .u32 0 255 0 0 0 4294967295),
   (9, elem .u32 0 255 0 0 0 4294967295)]

/-- Elements of 0x5080. -/
def elemsGateway : List (Nat × Elem) :=
  [(0, elem .u16 0 2 1 34997 1536 65535),
   (1, elem .u32 0 255 0 0 0 4294967295),
   (2, elem .u32 0 255 0 0 0 4294967295),
   (3, elem .u32 0 255 0 0 0 4294967295),
   (4, elem .u32 0 255 0 0 0 4294967295),
   (5, elem .u32 0 255 0 0 0 4294967295),
   (6, elem .u32 0 255 0 0 0 4294967295)]

/-- Elements of 0x5100+g. -/
def elemsMap : List (Nat × Elem) :=
  [(0, elem .bool 0 2 1 0 0 1),
   (1, elem .u16 0 2 1 1 1 899),
   (2, elem .enum 0 2 1 0 0 1),
   (3, elem (.octets 6) 0 2 1 0 0 0),
   (4, elem .u16 0 2 1 1 1 4094),
   (5, elem .u8 0 2 1 7 0 7)]

/-- Elements of 0x6000. -/
def elemsTime : List (Nat × Elem) :=
  [(0, elem .enum 0 255 2 0 0 3),
   (1, elem .enum 0 255 0 0 0 3),
   (2, elem .time64 0 255 0 0 0 0),
   (3, elem .i32 0 255 0 0 (-2147483648) 2147483647),
   (4, elem .i32 0 255 0 0 (-2147483648) 2147483647),
   (5, elem .u32 0 255 0 0 0 4294967295),
   (6, elem .time64 0 2 0 0 0 0),
   (7, elem .u32 0 255 0 0 0 4294967295),
   (8, elem .u32 0 255 0 0 0 4294967295)]

/-- Elements of 0x6010. -/
def elemsSources : List (Nat × Elem) :=
  [(0, elem .u16 0 2 1 801 0 4095),
   (1, elem .u16 0 2 1 10 0 600),
   (2, elem .u32 0 2 1 100000 1000 1000000000),
   (3, elem .u16 0 2 1 100 10 500),
   (4, elem (.bitset 1) 0 255 0 0 0 7),
   (5, elem .u16 0 2 1 16 1 600)]

/-- Elements of 0x6020. -/
def elemsPtp : List (Nat × Elem) :=
  [(0, elem .enum 0 2 1 0 0 2),
   (1, elem .u8 0 2 1 8 8 12),
   (2, elem .bool 0 2 1 0 0 1),
   (3, elem .bool 0 2 1 0 0 1),
   (4, elem (.bitset 2) 0 2 1 7936 0 7936),
   (5, elem .i32 0 255 0 0 (-2147483648) 2147483647),
   (6, elem .u32 0 255 0 0 0 4294967295),
   (7, elem .u32 0 2 1 1000 50 1000000),
   (8, elem .u32 0 255 0 0 0 4294967295)]

/-- Elements of 0x6030. -/
def elemsPins : List (Nat × Elem) :=
  [(0, elem .bool 0 2 1 0 0 1),
   (1, elem .u16 0 2 1 0 0 10000),
   (2, elem .enum 0 2 1 2 0 2),
   (3, elem .u16 0 2 1 100 1 500),
   (4, elem .u32 0 255 0 0 0 4294967295),
   (5, elem .u8 0 2 1 255 0 255),
   (6, elem .u8 0 2 1 255 0 255),
   (7, elem .u16 0 2 1 1000 1 65535),
   (8, elem .u16 0 2 1 34998 1536 65535)]

/-- Elements of 0x6040+k. -/
def elemsEpoch : List (Nat × Elem) :=
  [(0, elem .bool 0 2 1 0 0 1),
   (1, elem .u32 0 2 1 200000 10 3600000000),
   (2, elem .u32 0 2 1 0 0 3599999999),
   (3, elem .u32 0 255 2 0 0 4294967295),
   (4, elem (.bitset 1) 0 255 0 0 0 255)]

/-- Elements of 0x6100+s. -/
def elemsStaticSlot : List (Nat × Elem) :=
  [(0, elem .enum 0 2 1 0 0 3),
   (1, elem .bool 0 2 1 0 0 1)]

/-- Elements of 0x6180+i. -/
def elemsDynamic : List (Nat × Elem) :=
  [(0, elem .bool 0 2 1 0 0 1),
   (1, elem .u16 0 2 1 65 65 1023),
   (2, elem .u16 0 2 1 1 0 510),
   (3, elem .enum 0 2 1 0 0 3),
   (4, elem .bool 0 2 1 0 0 1)]

/-- Elements of 0x6400+0x40p. -/
def elemsWindows : List (Nat × Elem) :=
  [(0, elem .u8 0 2 1 0 0 8)] ++
  elemRun 1 8 (elem .u32 0 2 1 0 0 4294967295) ++
  elemRun 9 8 (elem .u32 0 2 1 1000 0 4294967295)

/-- Elements of 0x7000+0x40p. -/
def elemsPort : List (Nat × Elem) :=
  [(0, elem .bool 0 2 1 1 0 1),
   (1, elem .enum 0 2 1 2 0 5),
   (2, elem .bool 0 2 1 1 0 1),
   (3, elem .bool 0 255 0 0 0 1),
   (4, elem .u16 0 255 0 0 0 65535),
   (5, elem .u16 0 2 1 1522 64 9216),
   (6, elem .bool 0 255 0 0 0 1),
   (7, elem .bool 0 2 1 1 0 1),
   (8, elem .bool 0 2 1 0 0 1),
   (9, elem .bool 0 2 1 0 0 1),
   (10, elem .u16 0 2 1 256 16 2048),
   (11, elem .u16 0 2 1 128 0 2047),
   (12, elem .u16 0 2 1 40 8 512),
   (13, elem .u16 0 2 1 65535 1 65535),
   (14, elem (.bitset 1) 0 255 0 0 0 3),
   (15, elem .u8 0 2 1 255 0 255),
   (16, elem .enum 0 2 1 0 0 1)] ++
  elemRun 17 8 (elem .u16 0 2 1 8 0 1024) ++
  elemRun 25 8 (elem .u16 0 255 0 0 0 65535) ++
  [(33, elem .u16 0 255 0 0 0 65535),
   (34, elem .u8 0 255 0 0 0 255),
   (35, elem .u32 0 255 0 0 0 4294967295),
   (36, elem .u32 0 255 0 0 0 4294967295),
   (37, elem .u32 0 255 0 0 0 4294967295)]

/-- Elements of 0x7400+c. -/
def elemsClass : List (Nat × Elem) :=
  [(0, elem .enum 0 2 1 3 0 6),
   (1, elem .u32 0 2 1 100000 16 1000000),
   (2, elem .u32 0 2 1 1000 1 100000)]

/-- Elements of 0x7410. -/
def elemsBuffer : List (Nat × Elem) :=
  [(0, elem .u16 0 255 0 0 0 65535),
   (1, elem .u16 0 255 0 0 0 65535),
   (2, elem .u16 0 2 1 1024 512 6144),
   (3, elem .u16 0 255 0 0 0 256),
   (4, elem .u32 0 255 0 0 0 4294967295),
   (5, elem .u32 0 255 0 0 0 4294967295),
   (6, elem .u32 0 255 0 0 0 4294967295)]

/-- Elements of 0x7420+m. -/
def elemsMirror : List (Nat × Elem) :=
  [(0, elem .bool 0 2 1 0 0 1),
   (1, elem (.bitset 2) 0 2 1 0 0 65535),
   (2, elem (.bitset 2) 0 2 1 0 0 65535),
   (3, elem .u8 0 2 1 12 0 12),
   (4, elem .u16 0 2 1 0 0 1522),
   (5, elem .u8 0 2 1 0 0 7),
   (6, elem .u32 0 255 0 0 0 4294967295),
   (7, elem .u32 0 255 0 0 0 4294967295)]

/-- Elements of 0x7430. -/
def elemsMdio : List (Nat × Elem) :=
  [(0, elem .enum 0 2 1 0 0 1),
   (1, elem .u8 0 2 1 0 0 31),
   (2, elem .u8 0 2 1 1 0 31),
   (3, elem .u16 0 2 1 0 0 65535),
   (4, elem .u16 0 2 1 0 0 65535),
   (5, elem .enum 0 2 1 0 1 2),
   (6, elem .enum 0 255 0 0 0 2)]

/-- Elements of 0x8000+0x40p. -/
def elemsVlanPort : List (Nat × Elem) :=
  [(0, elem .u16 0 2 1 1 1 4094),
   (1, elem .enum 0 2 1 0 0 2),
   (2, elem .bool 0 2 1 1 0 1),
   (3, elem .bool 0 2 1 1 0 1),
   (4, elem .u32 0 2 1 0 0 65536),
   (5, elem .u32 0 255 0 0 0 4294967295),
   (6, elem .u32 0 255 0 0 0 4294967295),
   (7, elem .u32 0 255 0 0 0 4294967295),
   (8, elem .bool 0 1 1 0 0 1)]

/-- Elements of 0x8400. -/
def elemsStation : List (Nat × Elem) :=
  [(0, elem .u32 0 2 1 300 1 65535),
   (1, elem .bool 0 2 1 1 0 1),
   (2, elem .u32 0 255 2 0 0 4294967295),
   (3, elem .u8 0 255 0 0 0 32),
   (4, elem .u32 0 255 0 0 0 4294967295),
   (5, elem .u32 0 255 0 0 0 4294967295),
   (6, elem .u32 0 255 0 0 0 4294967295),
   (7, elem .u32 0 255 0 0 0 4294967295),
   (8, elem .u32 0 255 0 0 0 4294967295),
   (9, elem .u32 0 255 0 0 0 4294967295),
   (10, elem .u16 0 1 1 65535 0 4095),
   (11, elem .bool 0 255 0 0 0 1),
   (12, elem .u32 0 255 0 0 0 4294967295),
   (13, elem .u32 0 255 0 0 0 4294967295),
   (14, elem .u32 0 255 0 0 0 4294967295)]

/-- Elements of 0x8600. -/
def elemsVlan : List (Nat × Elem) :=
  [(0, elem .u16 0 0 0 1 1 4094),
   (1, elem (.bitset 2) 0 2 0 0 0 65535),
   (2, elem (.bitset 2) 0 2 0 0 0 65535),
   (3, elem (.bitset 2) 0 2 0 0 0 65535),
   (4, elem .u16 0 2 0 0 0 4095),
   (5, elem .bool 0 2 0 0 0 1),
   (6, elem .bool 0 2 0 0 0 1),
   (7, elem (.bitset 2) 0 255 0 0 0 65535)]

/-- Elements of 0x9000+0x40p. -/
def elemsRoutePort : List (Nat × Elem) :=
  [(0, elem .bool 0 2 1 0 0 1),
   (1, elem .u8 0 2 1 0 0 3)]

/-- Elements of 0x9400+v. -/
def elemsVrf : List (Nat × Elem) :=
  [(0, elem .bool 0 2 1 0 0 1),
   (1, elem (.octets 6) 0 2 1 0 0 0),
   (2, elem .u16 0 2 1 65535 0 65535),
   (3, elem .u16 0 2 1 65535 0 65535),
   (4, elem (.octets 16) 0 255 0 0 0 0),
   (5, elem .u32 0 255 0 0 0 4294967295)]

/-- Elements of 0x9500. -/
def elemsRouteService : List (Nat × Elem) :=
  [(0, elem .enum 0 3 1 0 0 1),
   (1, elem .u16 0 255 0 1024 0 65535),
   (2, elem .u16 0 255 0 1024 0 65535),
   (3, elem .u16 0 255 0 0 0 65535),
   (4, elem .u32 0 255 0 0 0 4294967295),
   (5, elem .u32 0 255 0 0 0 4294967295),
   (6, elem .u32 0 255 0 0 0 4294967295),
   (7, elem (.octets 20) 0 255 0 0 0 0)] ++
  elemRun 8 6 (elem .u32 0 255 0 0 0 4294967295)

/-- Elements of 0x9600. -/
def elemsRouteCommand : List (Nat × Elem) :=
  [(0, elem .u8 0 1 0 0 0 3),
   (1, elem .enum 0 1 0 0 0 1),
   (2, elem (.octets 16) 0 1 0 0 0 0),
   (3, elem .u8 0 1 0 0 1 128),
   (4, elem .u16 0 1 0 0 0 4095),
   (5, elem .enum 0 255 0 0 0 3),
   (6, elem .enum 0 1 0 0 1 2)]

/-- Elements of 0x9700. -/
def elemsNextHop : List (Nat × Elem) :=
  [(0, elem .u16 0 0 0 0 0 4095),
   (1, elem (.octets 6) 0 2 0 0 0 0),
   (2, elem .u16 0 2 0 1 1 4094),
   (3, elem .u8 0 2 0 0 0 13),
   (4, elem (.bitset 1) 0 2 0 0 0 7)]

/-- Elements of 0xA000+0x40p. -/
def elemsShaping : List (Nat × Elem) :=
  [(0, elem .u8 0 2 1 0 0 7),
   (1, elem .bool 0 2 1 0 0 1),
   (2, elem .u32 0 2 1 16434824 0 16777215),
   (3, elem .bool 0 2 1 0 0 1),
   (4, elem .u32 0 2 1 16434824 0 16777215),
   (5, elem .u16 0 2 1 65535 0 65535),
   (6, elem .u8 0 2 1 20 0 63),
   (7, elem (.bitset 1) 0 2 1 63 0 255)] ++
  elemRun 8 8 (elem .u8 0 2 1 16 1 127) ++
  [(16, elem .u32 0 2 1 0 0 20000000),
   (17, elem .u32 0 2 1 16384 256 16777215),
   (18, elem .enum 0 2 1 0 0 1)] ++
  elemRun 19 8 (elem .u32 0 2 1 0 0 20000000) ++
  elemRun 27 8 (elem .u32 0 2 1 16384 256 16777215) ++
  [(35, elem (.bitset 1) 0 2 1 0 0 255),
   (36, elem .u32 0 255 0 0 0 4294967295),
   (37, elem .u32 0 255 0 0 0 4294967295)]

/-- Elements of 0xA400. -/
def elemsClassifier : List (Nat × Elem) :=
  [(0, elem .u8 0 2 1 6 0 7),
   (1, elem .u16 0 255 0 0 0 65535),
   (2, elem .u32 0 255 0 0 0 4294967295),
   (3, elem .u16 0 0 0 0 0 1023),
   (4, elem (.octets 96) 0 2 0 0 0 0)]

/-- Elements of 0xA440+t. -/
def elemsTemplate : List (Nat × Elem) :=
  [(0, elem .bool 0 2 1 0 0 1),
   (1, elem .u32 0 2 1 1000 64 2500000),
   (2, elem .u32 0 2 1 4096 64 16777215),
   (3, elem .enum 0 2 1 0 0 1)]

/-- Elements of 0xA500. -/
def elemsPolicer : List (Nat × Elem) :=
  [(0, elem .u16 0 0 0 0 0 2047),
   (1, elem .u32 0 2 0 0 0 2500000),
   (2, elem .u32 0 2 0 0 0 16777215),
   (3, elem (.bitset 1) 0 2 0 0 0 3),
   (4, elem .u32 0 255 0 0 0 4294967295)]

/-- Elements of 0xB000+0x40p. -/
def elemsPortTally : List (Nat × Elem) :=
  elemRun 0 32 (elem .u64 0 255 0 0 0 0)

/-- Elements of 0xB400. -/
def elemsExport : List (Nat × Elem) :=
  [(0, elem .bool 0 2 1 0 0 1),
   (1, elem .u16 0 2 1 1000 10 60000),
   (2, elem .enum 0 2 1 0 0 2),
   (3, elem .u16 0 2 1 0 0 8191),
   (4, elem .u16 0 2 1 512 1 8192),
   (5, elem .bool 0 2 1 0 0 1),
   (6, elem (.octets 6) 0 2 1 5457795587 0 0),
   (7, elem .u16 0 2 1 34999 1536 65535),
   (8, elem .u8 0 2 1 1 0 7),
   (9, elem .u32 0 255 0 0 0 4294967295),
   (10, elem .u32 0 255 0 0 0 4294967295),
   (11, elem .u32 0 255 0 0 0 4294967295)]

/-- Elements of 0xB500. -/
def elemsPairTally : List (Nat × Elem) :=
  [(0, elem .u16 0 0 0 0 0 8191),
   (1, elem .u64 0 255 0 0 0 18446744073709551615),
   (2, elem .u64 0 255 0 0 0 18446744073709551615),
   (3, elem .bool 0 1 0 0 0 1)]

/-- Elements of 0xB800+0x40p. -/
def elemsQueueTally : List (Nat × Elem) :=
  elemRun 0 32 (elem .u64 0 255 0 0 0 18446744073709551615)

/-- Elements of 0xC000. -/
def elemsModel : List (Nat × Elem) :=
  [(0, elem .enum 0 255 2 0 0 1),
   (1, elem .q16 0 1 0 2621440 (-2621440) 5570560),
   (2, elem .u8 0 2 1 5 1 30),
   (3, elem .u8 0 2 1 5 1 30),
   (4, elem .u16 0 2 1 10 1 600),
   (5, elem .q16 0 255 0 0 (-2147483648) 2147483647),
   (6, elem .bool 0 2 0 0 0 1),
   (7, elem .u32 0 2 1 5000 0 100000),
   (8, elem .q16 0 2 1 655 66 65536),
   (9, elem (.octets 8) 0 2 1 1125899906875392 0 0)]

/-- Elements of 0xC100+i. -/
def elemsHeatNode : List (Nat × Elem) :=
  [(0, elem .q16 0 255 0 0 (-2147483648) 2147483647),
   (1, elem .q16 0 255 2 0 (-2147483648) 2147483647),
   (2, elem .u32 0 255 0 0 0 4294967295),
   (3, elem .q16 0 2 1 0 66 65536000),
   (4, elem .q16 0 2 1 0 0 6553600),
   (5, elem .q16 0 2 1 0 0 6553600),
   (6, elem .u32 0 2 1 0 0 1000000),
   (7, elem .u8 0 2 1 0 40 150),
   (8, elem .u32 0 2 1 0 0 50000)]

/-- Elements of 0xC200+0x40n. -/
def elemsPortHeat : List (Nat × Elem) :=
  [(0, elem .enum 0 255 0 0 0 2),
   (1, elem .u32 0 255 0 4294967295 0 4294967295),
   (2, elem .u32 0 255 0 4294967295 0 4294967295),
   (3, elem .u8 0 255 0 0 0 255),
   (4, elem .u32 0 255 0 0 0 4294967295)]

/-- Elements of 0xC400+r. -/
def elemsSensor : List (Nat × Elem) :=
  [(0, elem .q16 0 255 0 0 (-2147483648) 2147483647),
   (1, elem .enum 0 255 0 0 0 1),
   (2, elem .enum 0 255 0 0 0 2),
   (3, elem .u32 0 255 0 0 0 4294967295),
   (4, elem .bool 0 1 0 0 0 1)]

/-- Elements of 0xC500. -/
def elemsCritical : List (Nat × Elem) :=
  [(0, elem .enum 0 255 2 0 0 1),
   (1, elem .u32 0 255 0 0 0 4294967295),
   (2, elem .q16 0 255 0 0 (-2147483648) 2147483647),
   (3, elem .u8 0 2 1 105 80 120)]

/-- Elements of 0xC600+f. -/
def elemsFan : List (Nat × Elem) :=
  [(0, elem .enum 0 2 1 0 0 1),
   (1, elem .u16 0 1 0 1024 0 1024),
   (2, elem .u16 0 255 0 1024 0 1024),
   (3, elem .u32 0 255 0 0 0 4294967295),
   (4, elem .u32 0 255 0 0 0 4294967295),
   (5, elem .u32 0 255 0 0 0 4294967295),
   (6, elem .u8 0 2 1 2 1 4),
   (7, elem .u16 0 2 1 500 100 10000),
   (8, elem .u8 0 2 1 5 1 60),
   (9, elem .bool 0 255 0 0 0 1),
   (10, elem .enum 0 2 1 0 0 1),
   (11, elem .u16 0 2 1 256 0 1024),
   (12, elem .u8 0 2 1 30 2 100),
   (13, elem .u8 0 2 1 5 1 99),
   (14, elem .u32 0 255 0 6000 0 4294967295),
   (15, elem .enum 0 2 0 0 0 2),
   (16, elem .enum 0 255 0 0 0 5),
   (17, elem (.octets 16) 0 255 0 0 0 0),
   (18, elem (.octets 16) 0 255 0 0 0 0),
   (19, elem .u16 0 255 0 0 0 65535)]

/-- Elements of 0xC700. -/
def elemsHeartbeat : List (Nat × Elem) :=
  [(0, elem .u16 0 2 1 0 0 60000),
   (1, elem .bool 0 1 0 0 0 1),
   (2, elem .bool 0 255 2 0 0 1)]

/-- Elements of 0xD000. -/
def elemsOtpStatus : List (Nat × Elem) :=
  [(0, elem .enum 0 255 0 0 0 6),
   (1, elem (.bitset 1) 0 255 0 0 0 15),
   (2, elem .u16 0 255 0 0 0 65535),
   (3, elem .u16 0 255 0 0 0 65535),
   (4, elem .u16 0 255 0 0 0 65535),
   (5, elem .u16 0 255 0 0 0 65535),
   (6, elem .u16 0 255 0 0 0 65535),
   (7, elem .u16 0 255 0 0 0 65535)]

/-- Elements of 0xD010. -/
def elemsOtpRecord : List (Nat × Elem) :=
  [(0, elem .enum 0 0 0 0 0 1),
   (1, elem (.octets 252) 0 3 0 0 0 0),
   (2, elem .u16 0 0 0 256 0 1023),
   (3, elem .u32 0 255 0 0 0 4294967295),
   (4, elem .u16 0 3 0 0 0 1023),
   (5, elem .enum 0 255 0 0 0 2)]

/-- Elements of 0xD020. -/
def elemsOtpKeys : List (Nat × Elem) :=
  [(0, elem .u8 0 0 0 0 0 7),
   (1, elem (.octets 32) 255 3 0 0 0 0),
   (2, elem .bool 0 3 0 0 0 1),
   (3, elem (.octets 4) 0 255 0 0 0 0),
   (4, elem (.octets 64) 0 255 0 0 0 0),
   (5, elem (.bitset 1) 0 255 0 0 0 255),
   (6, elem (.bitset 2) 0 3 0 0 0 4095)]

/-- Elements of 0xD030. -/
def elemsLifecycle : List (Nat × Elem) :=
  [(0, elem .enum 0 255 0 0 0 4),
   (1, elem .enum 0 3 0 0 1 4),
   (2, elem .u8 0 255 0 0 0 128),
   (3, elem .u8 0 3 0 0 1 128),
   (4, elem .u8 0 255 0 0 0 64),
   (5, elem .u16 0 255 0 0 0 65535),
   (6, elem .u8 0 255 0 0 0 32),
   (7, elem .enum 0 255 0 0 0 2)]

/-- Elements of 0xE000+0x40n. -/
def elemsPortRound : List (Nat × Elem) :=
  [(0, elem .u32 0 255 0 0 0 4294967295),
   (1, elem .i32 0 255 0 0 (-2147483648) 2147483647),
   (2, elem .u32 0 255 0 0 0 4294967295)]

/-- Elements of 0xE400. -/
def elemsRound : List (Nat × Elem) :=
  [(0, elem .u32 0 255 0 0 0 4294967295),
   (1, elem .u32 0 255 0 0 0 4294967295),
   (2, elem .u32 0 255 0 0 0 4294967295),
   (3, elem .u32 0 255 0 0 0 4294967295),
   (4, elem .u32 0 255 0 0 0 4294967295)]

/-- The elements of each kind. -/
def ObjKind.elems : ObjKind → List (Nat × Elem)
  | .identity => elemsIdentity
  | .capability => elemsCapability
  | .strap => elemsStrap
  | .power => elemsPower
  | .resetBoot => elemsResetBoot
  | .alarm => elemsAlarm
  | .watch => elemsWatch
  | .service => elemsService
  | .view => elemsView
  | .counters => elemsCounters
  | .bundle => elemsBundle
  | .journal => elemsJournal
  | .proof => elemsProof
  | .cable => elemsCable
  | .slot => elemsSlot
  | .guard => elemsGuard
  | .profile => elemsProfile
  | .contract => elemsContract
  | .device => elemsDevice
  | .path => elemsPath
  | .ledger => elemsLedger
  | .source => elemsSource
  | .bus => elemsBus
  | .node => elemsNode
  | .channel => elemsChannel
  | .gateway => elemsGateway
  | .map => elemsMap
  | .time => elemsTime
  | .sources => elemsSources
  | .ptp => elemsPtp
  | .pins => elemsPins
  | .epoch => elemsEpoch
  | .staticSlot => elemsStaticSlot
  | .dynamic => elemsDynamic
  | .windows => elemsWindows
  | .port => elemsPort
  | .class => elemsClass
  | .buffer => elemsBuffer
  | .mirror => elemsMirror
  | .mdio => elemsMdio
  | .vlanPort => elemsVlanPort
  | .station => elemsStation
  | .vlan => elemsVlan
  | .routePort => elemsRoutePort
  | .vrf => elemsVrf
  | .routeService => elemsRouteService
  | .routeCommand => elemsRouteCommand
  | .nextHop => elemsNextHop
  | .shaping => elemsShaping
  | .classifier => elemsClassifier
  | .template => elemsTemplate
  | .policer => elemsPolicer
  | .portTally => elemsPortTally
  | .exports => elemsExport
  | .pairTally => elemsPairTally
  | .queueTally => elemsQueueTally
  | .model => elemsModel
  | .heatNode => elemsHeatNode
  | .portHeat => elemsPortHeat
  | .sensor => elemsSensor
  | .critical => elemsCritical
  | .fan => elemsFan
  | .heartbeat => elemsHeartbeat
  | .otpStatus => elemsOtpStatus
  | .otpRecord => elemsOtpRecord
  | .otpKeys => elemsOtpKeys
  | .lifecycle => elemsLifecycle
  | .portRound => elemsPortRound
  | .round => elemsRound

end Sys2Proof.Machine
end

