-- ==== Sys2Proof/Machine/OdBase.lean ====
section
/-! DEFINITION. Looking an element up: which object a number names, which elements exist on the variant, defaults that depend
on the instance, and the value of an element that is plain storage (Table 4-1, R2, R109, R148, R435, R538, R579). -/

namespace Sys2Proof.Machine

/-- Encoded size in octets; for a STRING its maximum (Table 4-1). -/
def Ty.size : Ty → Nat
  | .bool | .u8 | .enum => 1
  | .u16 | .i16 => 2
  | .u32 | .i32 | .q16 => 4
  | .u64 | .time64 => 8
  | .bitset n | .octets n | .string n => n

/-- The kind and instance an object number names. -/
def objAt (obj : Nat) : Option (ObjKind × Nat) :=
  objBases.findSome? fun b =>
    let off := obj - b.2.1
    if b.2.1 ≤ obj ∧ off % b.2.2.1 = 0 ∧ off / b.2.2.1 < b.2.2.2 then some (b.1, off / b.2.2.1) else none

/-- Whether an object of a kind is absent on the variant (Tables 0-1 to 0-3). -/
def kindAbsent (d : Dev) (k : ObjKind) (n : Nat) : Bool :=
  match k with
  | .cable | .contract | .path | .portHeat | .portRound | .port | .vlanPort | .shaping | .portTally | .queueTally
  | .windows => !hasPort d n
  | .routePort => !hasPort d n || !hasUnit d 2
  | .vrf | .routeService | .routeCommand | .nextHop => !hasUnit d 2
  | .channel => n == 1 && !hasUnit d 1
  | .model | .heatNode => !hasUnit d 4
  | .fan => n == 1 && !hasUnit d 6
  | _ => false

/-- Whether an element of a present object belongs to an absent unit (R2, R109, R504), or is taken away by the
variant (GATE_DERATE_C where there is a heat model, R574). -/
def elemAbsent (d : Dev) (k : ObjKind) (n el : Nat) : Bool :=
  match k with
  | .vrf => (el == 3 || el == 4) && !hasUnit d 3
  | .bus => el == 1 && !hasUnit d 1
  | .contract => n == 1 && (el == 15 || el == 27) && !hasUnit d 8
  | .critical => el == 3 && hasUnit d 4
  | _ => false

/-- Whether a feature that the instance lacks takes an element away: it answers NO_ELEMENT (Table 6-7's SS_ROUTE, R271, Table 15-3's SINK_CEILING,
R435, R538). -/
def elemMissing (k : ObjKind) (n el : Nat) : Bool :=
  match k with
  | .port => (!(decide (8 ≤ n) && decide (n ≤ 12)) && (el == 2 || (decide (8 ≤ el) && decide (el ≤ 16))))
      || (n == 12 && (el == 2 || el == 15 || el == 16))
  | .shaping => decide (13 ≤ n) && decide (el ≤ 5)
  | .cable => decide (2 ≤ n) && el == 9
  | .portHeat => decide (2 ≤ n) && el == 2
  | .contract => decide (2 ≤ n) && ((decide (11 ≤ el) && decide (el ≤ 19)) || el == 27)
  | _ => false

/-- The descriptor of an element, if the tables give it to this instance. -/
def elemOf (k : ObjKind) (n el : Nat) : Option Elem :=
  if elemMissing k n el then none else (k.elems.find? fun x => x.1 == el).map (·.2)

/-- Status codes that existence can answer (Table 4-6, R2). -/
def exOk : Nat := 0x00
@[inherit_doc exOk] def exNoObject : Nat := 0x10
@[inherit_doc exOk] def exNoElement : Nat := 0x11
@[inherit_doc exOk] def exAbsent : Nat := 0x16

/-- Whether an object and element exist: OK, NO_OBJECT, NO_ELEMENT or ABSENT. -/
def odStatus (d : Dev) (obj el : Nat) : Nat :=
  match objAt obj with
  | none => exNoObject
  | some (k, n) =>
    if kindAbsent d k n then exAbsent
    else if (elemOf k n el).isNone then exNoElement
    else if elemAbsent d k n el then exAbsent
    else exOk

/-- The descriptor of an element that exists. -/
def odElem (d : Dev) (obj el : Nat) : Option Elem :=
  match objAt obj with
  | none => none
  | some (k, n) => if kindAbsent d k n || elemAbsent d k n el then none else elemOf k n el

/-- The existing elements of an object, in order. -/
def elementsOf (d : Dev) (k : ObjKind) (n : Nat) : List Nat :=
  if kindAbsent d k n then []
  else (k.elems.map (·.1)).filter fun el => !elemMissing k n el && !elemAbsent d k n el

/-- Every object, with its number, kind and instance. -/
def allObjects : List (Nat × ObjKind × Nat) :=
  objBases.flatMap fun b => (List.range b.2.2.2).map fun i => (b.2.1 + i * b.2.2.1, b.1, i)

/-- The lowest-numbered object above `obj` that has an existing element, and its first element. -/
def nextObject (d : Dev) (obj : Nat) : Option (Nat × Nat) :=
  allObjects.foldl (fun best o =>
    if o.1 ≤ obj then best
    else
      match best with
      | some b => if o.1 < b.1 then ((elementsOf d o.2.1 o.2.2).head?.map fun e => (o.1, e)).or best else best
      | none => (elementsOf d o.2.1 o.2.2).head?.map fun e => (o.1, e)) none

/-- NEXT of R109: the next existing object and element, 0xFFFF at the end. -/
def nextElement (d : Dev) (obj el : Nat) : Nat × Nat :=
  let here := match objAt obj with
    | some (k, n) => (elementsOf d k n).find? fun e => decide (el < e)
    | none => none
  match here with
  | some e => (obj, e)
  | none => (nextObject d obj).getD (0xFFFF, 0)

/-- The FLAGS of an element of one instance: profiles set the folds, PVID, DEFAULT_TC and POLICER of a cable port, so there
they are not persistent (R435, R472, R538). -/
def odFlags (obj el : Nat) (e : Elem) : Nat :=
  let volatile : Bool := match objAt obj with
    | some (.port, n) => decide (n < 8) && decide (17 ≤ el) && decide (el ≤ 24)
    | some (.vlanPort, n) => decide (n < 8) && el == 0
    | some (.shaping, n) => decide (n < 8) && (el == 0 || el == 5)
    | _ => false
  if volatile && bit e.flags 0 then e.flags - 1 else e.flags

/-- The rows of Table 15-2: C, G_UP and G_AIR in 2^-16, R_NODE in µΩ, LIMIT in °C. -/
def heatTable : List (Nat × Nat × Nat × Nat × Nat) :=
  let conn := (32768, 655, 328, 10000, 70)
  let fet := (13107, 3277, 655, 10000, 125)
  let port := (32768, 786, 328, 20000, 70)
  [(1311, 52429, 0, 0, 125), (1966, 65536, 0, 0, 125), (1311, 52429, 0, 0, 125), (3277, 131072, 0, 0, 125),
   (1310720, 98304, 0, 0, 105), fet, conn, fet, conn, port, port, port, port, port, port, (13107200, 0, 0, 0, 60)]

/-- Table 15-2: C, G_UP, G_AIR (Q16.16), R_NODE and LIMIT of a thermal node. -/
def nodeDefault (i : Nat) : Nat × Nat × Nat × Nat × Nat := heatTable.getD i (0, 0, 0, 0, 0)

/-- Defaults that depend on the instance, the variant (R340) or the die. Node 15's G_UP is G_NAT's 0.5 W/K: Table 15-2 refers it to R545 (DEDUCED,
log entry 23). -/
def defaultOf (d : Dev) (obj el : Nat) : Nat :=
  match objAt obj with
  | none => 0
  | some (k, n) =>
    let base := match elemOf k n el with
      | some e => e.dflt
      | none => 0
    match k, el with
    | .port, 0 => if 8 ≤ n ∧ n ≤ 12 then 0 else 1
    | .port, 1 => if n < 8 then 0 else if n < 12 then 2 else if n = 12 then 3 else 5
    | .class, 1 => if n = 7 then 2000 else base
    | .class, 2 => if n = 7 then 100 else base
    | .ptp, 4 => base &&& (present d).toNat
    | .vlanPort, 3 => if n ≤ 12 then 1 else 0
    | .shaping, 1 => if 8 ≤ n then 1 else 0
    | .vrf, 1 => leNat (beBytes 6 ((beNat (baseMac d) + 1 + n) % 2 ^ 48))
    | .cable, 2 => if n < 2 then 1 else 3
    | .cable, 8 => if n = 0 then 1 else if n = 1 then 2 else 0
    | .staticSlot, _ => if n = 0 then (if el = 0 ∧ hasUnit d 1 then 3 else 1) else 0
    | .dynamic, 0 => if n = 0 then 1 else 0
    | .dynamic, 1 => if n = 0 then 900 else 65
    | .dynamic, 2 => if n = 0 then 0 else 1
    | .dynamic, 3 => if n ≠ 0 then 0 else if hasUnit d 1 then 3 else 1
    | .dynamic, 4 => if n = 0 then 1 else 0
    | .heatNode, 3 => (nodeDefault n).1
    | .heatNode, 4 => if n = 15 then 32768 else (nodeDefault n).2.1
    | .heatNode, 5 => (nodeDefault n).2.2.1
    | .heatNode, 6 => (nodeDefault n).2.2.2.1
    | .heatNode, 7 => (nodeDefault n).2.2.2.2
    | .heatNode, 8 => if n = 4 then 2000 else 0
    | _, _ => base

/-- The key of an element in the stores of the engine. -/
def elKey (obj el : Nat) : Nat := obj * 256 + el

/-- The default in force: an OBJECT_DEFAULT record overrides the table (R579). -/
def odDefault (d : Dev) (obj el : Nat) : Nat :=
  match tfind d.od.dflt (elKey obj el) with
  | some v => v
  | none => defaultOf d obj el

/-- The value of an element that is plain storage. -/
def cfg (d : Dev) (obj el : Nat) : Nat :=
  match tfind d.od.cfg (elKey obj el) with
  | some v => v
  | none => odDefault d obj el

/-- Whether a BOOL element is 1. -/
def cfgOn (d : Dev) (obj el : Nat) : Bool := cfg d obj el != 0

/-- Store an element; a value equal to the default is not listed. -/
def setCfg (obj el v : Nat) (d : Dev) : Dev :=
  onOd (fun o => { o with cfg := if v = odDefault d obj el then terase o.cfg (elKey obj el) else tput o.cfg (elKey obj el) v }) d

/-- The key of an element held per requesting session. -/
def selKey (s obj el : Nat) : Nat := s * 2 ^ 24 + elKey obj el

/-- The value of an element held per requesting session, and its change. -/
def sel (d : Dev) (s obj el : Nat) : Nat := (tfind d.od.sel (selKey s obj el)).getD (odDefault d obj el)
@[inherit_doc sel] def setSel (s obj el v : Nat) (d : Dev) : Dev :=
  onOd (fun o => { o with sel := if v = odDefault d obj el then terase o.sel (selKey s obj el)
                                 else tput o.sel (selKey s obj el) v }) d

end Sys2Proof.Machine
end

