-- ==== Sys2Proof/Machine/Otp.lean ====
section
/-! DEFINITION. Programming the fuses, the start-up integrity check, keys, lifecycle, debug unlock and the glitch response
(chapter 16, R576-R604, R634). -/

namespace Sys2Proof.Machine

/-- Change the OTP record. -/
def onOtp (f : Otp → Otp) (d : Dev) : Dev := { d with otp := f d.otp }

/-- RESULT codes (Table 16-10 and HW_OTP_STATUS). -/
def oOk : Nat := 0
@[inherit_doc oOk] def oOccupied : Nat := 1
@[inherit_doc oOk] def oNotMonotonic : Nat := 2
@[inherit_doc oOk] def oWeakBit : Nat := 3
@[inherit_doc oOk] def oAccess : Nat := 4
@[inherit_doc oOk] def oRunning : Nat := 5
@[inherit_doc oOk] def oFull : Nat := 6
@[inherit_doc oOk] def oEccError : Nat := 7

/-- Report a result on the path that asked. -/
def otpResult (host : Bool) (r : Nat) (d : Dev) : Dev :=
  if host then onHw (fun h => { h with otpResult := BitVec.ofNat 4 r }) d else onOtp (fun o => { o with result := r }) d

/-! ### Reading (R576, R634) -/

/-- A READ of a word address: the value, whether it is allowed, and the ECC outcome. -/
def otpReadWord (d : Dev) (a : Nat) : Nat × Bool × Nat :=
  if 128 ≤ a ∧ a < 192 then (0, false, 0)
  else if 192 ≤ a ∧ a < 256 then (if a ≤ 212 then (logical d (a - 192), true, 0) else (0, false, 0))
  else let w := otpWord d a; (w.1, true, w.2)

/-- OTP_READ_CMD. -/
def otpReadCmd (a : Nat) (d : Dev) : Dev :=
  let r := otpReadWord d a
  onHw (fun h => { h with otpData := BitVec.ofNat 32 r.1,
                          otpResult := BitVec.ofNat 4 (if !r.2.1 then oAccess else if r.2.2 = 2 then oEccError else oOk) }) d

/-- Words free after the last record of a bank; 0 while it is unreadable (R590). -/
def bankFree (d : Dev) (b : OtpBank) : Nat :=
  let w := walk d b
  if w.unreadable then 0 else bankEnd b - w.next

/-! ### Conditions and the start of a burn (R586, R587, R581) -/

/-- COND_FAIL: the first condition of R586 that fails, 0 when none does. -/
def firstCond (d : Dev) (permitted : Bool) : Nat :=
  if d.heat.vsys < 3300 ∨ !d.aon.hkOk then 1
  else if d.heat.ptat < -20 * 65536 ∨ 110 * 65536 < d.heat.ptat ∨ d.shep.critical then 2
  else if d.otp.lifecycle = 4 then 4
  else if !permitted then 8
  else 0

/-- Whether a word carries ECC, and so is burned only when blank. -/
def hasEcc (a : Nat) : Bool := !(decide (192 ≤ a) && decide (a < 256))

/-- The words that give logical word `l` the value `v`, copy by copy, where a copy reads a bit of it as 0 or weak (R581). -/
def logicalTodo (d : Dev) (l v : Nat) : List (Nat × BitVec 39) :=
  ([0, 1, 2].filter fun c => otpFirm d (copyAddr l c) ||| v != otpFirm d (copyAddr l c)).map fun c =>
    (copyAddr l c, BitVec.ofNat 39 v)

/-- A burn ends: the result, and what its kind does then. -/
def endBurn (b : Burn) (r : Nat) (d : Dev) : Dev :=
  let d := otpResult b.host r (onOtp (fun o => { o with burn := none }) d)
  match b.kind with
  | .key _ check => if r = oOk then onOtp (fun o => { o with keyCheck := check }) d else d
  | .keygen slot pub => if r = oOk then onOtp (fun o => { o with authPub := tset [] o.authPub slot pub }) d else d
  | .lifecycle | .scrap => onBoot (fun x => { x with sysResetPending := true }) d
  | _ => d

/-- The STATUS word of the record that a physical word belongs to. -/
def statusWordOf (d : Dev) (a : Nat) : Option Nat :=
  [OtpBank.factory, .customer, .patch].findSome? fun b =>
    ((walk d b).recs.find? fun r => decide (r.addr ≤ a) && decide (a ≤ r.addr + r.payload.length + 2)).map
      fun r => r.addr + r.payload.length + 2

/-- A word of a burn ended other than OK (R589, R590): a record being appended is voided, the record of a single word marked
SUSPECT, a key left without its KEYS_PRESENT bit; a logical word and a scrapped keys bank go on. -/
def burnFailed (b : Burn) (a r : Nat) (rest : List (Nat × BitVec 39)) (d : Dev) : Dev :=
  let mark (s v : Nat) : Dev :=
    if s = a ∨ otpSeen d s ≠ 0 then endBurn b r d
    else onOtp (fun o => { o with burn := some { b with todo := [(s, BitVec.ofNat 39 (codeword v))], failed := r } }) d
  match b.kind with
  | .record _ header len => mark (header + len + 2) statusVoid
  | .word =>
    match statusWordOf d a with
    | some s => mark s statusSuspect
    | none => endBurn b r d
  | _ =>
    if hasEcc a ∧ b.kind ≠ .scrap then endBurn b r d
    else if rest = [] then endBurn b (if b.kind = .scrap then oOk else r) d
    else onOtp (fun o => { o with burn := some { b with todo := rest, failed := r } }) d

/-- The burn goes on with its next word, or ends; a word with ECC that is not blank is not burned (R587). -/
def burnNext (b : Burn) (d : Dev) : Dev :=
  match b.todo with
  | [] => endBurn b (if b.kind = .scrap then oOk else b.failed) d
  | (a, _) :: rest =>
    if hasEcc a && otpSeen d a != 0 && b.kind ≠ .scrap then burnFailed b a oOccupied rest d
    else onOtp (fun o => { o with burn := some b }) d

/-- Start a burn whose conditions hold: RESULT reads RUNNING (R590). -/
def startBurn (kind : BurnKind) (host : Bool) (todo : List (Nat × BitVec 39)) (d : Dev) : Dev :=
  let d := if host then d else otpResult false oRunning d
  burnNext { kind := kind, todo := todo, host := host, failed := oOk } d

/-- Run a programming command under R586, with what its own path and target permit. -/
def underConds (host permitted : Bool) (f : Dev → Dev) (d : Dev) : Dev :=
  let c := firstCond d permitted
  let d := onOtp (fun o => { o with condFail := BitVec.ofNat 4 c }) d
  if c = 0 then f d else otpResult host oAccess d

/-- Give a logical word a value, monotonically (R581). -/
def burnLogical (kind : BurnKind) (host : Bool) (l v : Nat) (d : Dev) : Dev :=
  if logical d l &&& v ≠ logical d l then otpResult host oNotMonotonic d
  else startBurn kind host (logicalTodo d l v) d

/-- Table 16-6, host window column. -/
def hostMayProgram (d : Dev) (a : Nat) : Bool :=
  if a < 128 then d.otp.lifecycle == 0
  else if a < 193 then false
  else decide (d.otp.lifecycle ≤ 1) && (decide (a ≤ 212) || decide (256 ≤ a))

/-- OTP_PROGRAM_CMD: the word of HW_OTP_DATA. -/
def otpProgramCmd (a : Nat) (d : Dev) : Dev :=
  if d.otp.burn.isSome then d
  else
    let data := d.hw.otpData.toNat
    underConds true (hostMayProgram d a) (fun d =>
      if 192 ≤ a ∧ a < 256 then burnLogical .logical true (a - 192) data d
      else if otpSeen d a ≠ 0 then otpResult true oOccupied d
      else startBurn .word true [(a, BitVec.ofNat 39 (codeword data))] d) d

/-- OTP_PROGRAM_DONE: the word being burned has had its passes (R588, R589). A bit still weak reads at the normal reference as a
free value says (log entry 3). -/
def otpProgramDone (r : BurnResult) (d : Dev) : Dev :=
  match d.otp.burn with
  | none => d
  | some b =>
    match b.todo with
    | [] => endBurn b (if b.kind = .scrap then oOk else b.failed) d
    | (a, w) :: rest =>
      let weak := r.weak &&& w
      let bad := weak != 0 || r.extra != 0
      let f := drawFree d
      let d := if bad then f.2 else d
      let reads := BitVec.ofNat 39 (otpRaw d a) ||| (w &&& ~~~weak) ||| (weak &&& f.1.setWidth 39) ||| r.extra
      let d := setWeak a w weak (setRaw a reads.toNat d)
      if bad then burnFailed b a oWeakBit rest (eventAlarm 19 d)
      else burnNext { b with todo := rest } d

/-- R602: a reset during a burn: the pulse in progress completes and no other starts, so the word being burned holds some of
its bits. -/
def abandonBurn (d : Dev) : Dev :=
  match d.otp.burn with
  | none => d
  | some b =>
    let d := onOtp (fun o => { o with burn := none }) d
    match b.todo with
    | [] => d
    | (a, w) :: _ =>
      let f := drawFree d
      setRaw a (BitVec.ofNat 39 (otpRaw d a) ||| (w &&& f.1.setWidth 39)).toNat f.2

/-! ### Records (R590, R591) -/

/-- Octets as words, each little-endian; octets short of a word are none. -/
def leWords : List Byte → List Nat
  | a :: b :: c :: e :: l => leNat [a, b, c, e] :: leWords l
  | _ => []

/-- APPEND of a record into the bank that BANK of the session names (R590). -/
def otpAppend (sess : Nat) (record : List Byte) (d : Dev) : Dev :=
  let b : OtpBank := if sel d sess 0xD010 0 = 1 then .patch else .customer
  let ws := leWords record
  let h := ws.headD 0
  let kind := h / 2 ^ 24
  let len := h / 2 ^ 16 % 256
  let payload := ws.drop 1
  underConds false true (fun d =>
    if record.length % 4 ≠ 0 ∨ ws = [] ∨ kindDefined b kind = false ∨ len ≠ payload.length
        ∨ wellFormedRecord kind (h % 2 ^ 16) payload = false then otpResult false oAccess d
    else
      let w := walk d b
      if w.unreadable ∨ bankEnd b < w.next + len + 3 then otpResult false oFull d
      else
        let crc := (crc32c (wordOctets ws)).toNat
        let todo := (ws ++ [crc]).zipIdx.map fun x => (w.next + x.2, BitVec.ofNat 39 (codeword x.1))
        startBurn (.record (if b = .patch then 1 else 0) w.next len) false todo d) d

/-- VOID of the record whose header stands at an address of the customer bank (R591, Table 16-6). -/
def otpVoid (a : Nat) (d : Dev) : Dev :=
  underConds false true (fun d =>
    match (walk d .customer).recs.find? fun r => r.addr == a && usable r with
    | none => otpResult false oAccess d
    | some r =>
      let s := a + r.payload.length + 2
      if otpSeen d s ≠ 0 then otpResult false oOccupied d
      else startBurn .voidRec false [(s, BitVec.ofNat 39 (codeword statusVoid))] d) d

/-! ### Keys (R584, R585) -/

/-- Burn a key into a blank slot, then its KEYS_PRESENT bit. -/
def burnKey (kind : BurnKind) (slot : Nat) (key : List Byte) (d : Dev) : Dev :=
  if (List.range 8).any fun i => otpSeen d (128 + 8 * slot + i) != 0 then otpResult false oOccupied d
  else
    let words := (leWords key).zipIdx.map fun x => (128 + 8 * slot + x.2, BitVec.ofNat 39 (codeword x.1))
    startBurn kind false (words ++ logicalTodo d 2 (logical d 2 ||| 2 ^ slot)) d

/-- The ASCII octets of a short label. -/
def ascii (l : List Nat) : List Byte := l.map fun n => BitVec.ofNat 8 n

/-- KEY_DATA (R584): 32 octets, most significant first as the write carries them. -/
def otpKeyData (sess : Nat) (key : Nat) (d : Dev) : Dev :=
  let slot := sel d sess 0xD020 0
  let k := beBytes 32 key
  underConds false (sess == 0 && decide (d.otp.lifecycle ≤ 2) && decide (slot ≤ 5)) (fun d =>
    burnKey (.key slot ((hmac k (ascii [0x5A, 0x43, 0x48, 0x4B] ++ uid d)).take 4)) slot k d) d

/-- KEYGEN (R585): a scalar drawn inside the crypto engine. -/
def otpKeygen (sess : Nat) (v : Bool) (d : Dev) : Dev :=
  if !v then d
  else
    let slot := sel d sess 0xD020 0
    underConds false (sess == 0 && decide (d.otp.lifecycle ≤ 2) && (slot == 6 || slot == 7)) (fun d =>
      let r := drawScalar d
      burnKey (.keygen slot (publicOf r.1)) slot (beBytes 32 r.1) r.2) d

/-- REVOKE (R581): logical word 1. -/
def otpRevoke (mask : Nat) (d : Dev) : Dev :=
  underConds false true (fun d => burnLogical .revoke false 1 mask d) d

/-! ### Lifecycle and rollback (R596, R597, R604) -/

/-- Whether Table 16-8 gives a transition and its condition holds; sessions by their number. -/
def mayAdvance (d : Dev) (sess target : Nat) : Bool :=
  let good (kind tag : Nat) := (recordOf d .factory kind tag).isSome
  match d.otp.lifecycle, target with
  | 0, 1 => sess == 0 && good 0x80 0 && good 0x81 0 && good 0x82 0 && [0, 1, 2, 3].all (good 0x83)
  | 1, 2 => sess == 0 && (keyUsable d 4 || keyUsable d 5) && (recordOf d .customer 0x01 0).isSome
  | 2, 3 => true
  | 1, 4 => sess == 0
  | 2, 4 => true
  | 3, 4 => sess == 0
  | _, _ => false

/-- The keys bank burned solid (R597). -/
def scrapTodo : List (Nat × BitVec 39) := (List.range 64).map fun i => (128 + i, BitVec.allOnes 39)

/-- ADVANCE. -/
def otpAdvance (sess target : Nat) (d : Dev) : Dev :=
  underConds false (mayAdvance d sess target) (fun d =>
    let v := logical d 0 ||| 0xFF * 2 ^ (8 * (target - 1))
    if target = 4 then startBurn .scrap false (scrapTodo ++ logicalTodo d 0 v) d
    else startBurn .lifecycle false (logicalTodo d 0 v) d) d

/-- ROLLBACK_ADVANCE: the thermometer of logical words 3 to 6; no greater than the counter, nothing burns. -/
def otpRollback (v : Nat) (d : Dev) : Dev :=
  if v ≤ rollbackCount d then otpResult false oOk d
  else
    underConds false true (fun d =>
      startBurn .rollback false ([0, 1, 2, 3].flatMap fun i =>
        logicalTodo d (3 + i) (logical d (3 + i) ||| (2 ^ v - 1) / 2 ^ (32 * i) % 2 ^ 32)) d) d

/-- Burn the next bit of a thermometer of `n` logical words from `l` on, at once, each copy of its word brought up to the result
(R581, R598, R600). -/
def burnThermometer (l n : Nat) (d : Dev) : Dev :=
  let count := ((List.range n).map fun i => onesIn 32 (logical d (l + i))).sum
  if 32 * n ≤ count then d
  else
    match (List.range (32 * n)).find? fun i => !bit (logical d (l + i / 32)) (i % 32) with
    | none => d
    | some i =>
      let v := logical d (l + i / 32) ||| 2 ^ (i % 32)
      [0, 1, 2].foldl (fun d c =>
        let a := copyAddr (l + i / 32) c
        setWeak a (BitVec.ofNat 39 v) 0 (setRaw a (otpRaw d a ||| v) d)) d

/-! ### Debug (R598, R599) -/

/-- DEBUG_STATE: 0 closed, 1 open, 2 locked out (Tables 16-7, 16-10). -/
def debugState (d : Dev) : Nat :=
  if d.otp.lifecycle ≠ 2 ∨ d.otp.debugOpen then 1 else if 3 ≤ d.otp.unlockFails then 2 else 0

/-- UNLOCK_CHAL: the UID and a fresh nonce, or zeros after three failures. -/
def unlockChal (d : Dev) : Dev :=
  if !mgtRuns d then d
  else if 3 ≤ d.otp.unlockFails then emit (.tap (List.replicate 24 0)) d
  else
    let r := drawFree d
    let nonce := beBytes 16 (r.1.toNat % 2 ^ 128)
    arm .unlockNonce (10 * sec) (emit (.tap (uid d ++ nonce)) (onOtp (fun o => { o with nonce := some nonce }) r.2))

/-- Whether the nonce's 10 s have passed; a response in the very tick counts (R22). -/
def noncePast (d : Dev) : Bool := d.timers.any fun t => t.1 == .unlockNonce && decide (t.2 < d.now)

/-- UNLOCK_RESP: opens internal debug in FIELD, or counts a failure. -/
def unlockResp (resp : Nat) (d : Dev) : Dev :=
  if !mgtRuns d then d
  else
    let ok : Bool := match d.otp.nonce with
      | some n =>
        !noncePast d && d.otp.lifecycle == 2 && [4, 5].any fun s =>
          match keyOctets d s with
          | some k => hmac k (ascii [0x5A, 0x44, 0x42, 0x47] ++ uid d ++ n) == beBytes 32 resp
          | none => false
      | none => false
    let d := disarm .unlockNonce (onOtp (fun o => { o with nonce := none }) d)
    if ok then burnThermometer 9 1 (onOtp (fun o => { o with debugOpen := true }) d)
    else onOtp (fun o => { o with unlockFails := o.unlockFails + 1 }) d

/-- UNLOCK_NONCE_EXPIRY. -/
def unlockNonceExpiry (d : Dev) : Dev := onExpiry .unlockNonce (onOtp fun o => { o with nonce := none }) d

/-! ### OTP_CHECK (R13, R592-R595, R600) -/

/-- Whether a PATCH record's signature verifies with some valid image key. -/
def patchVerifies (d : Dev) (r : OtpRec) : Bool :=
  let n := r.payload.length - 16
  let h := r.kind * 2 ^ 24 + r.payload.length * 2 ^ 16 + r.tag
  [0, 1, 2, 3].any fun i =>
    match imageKey d i with
    | some k => ecdsaVerify k (wordOctets (h :: r.payload.take n)) (wordOctets (r.payload.drop n))
    | none => false

/-- The required factory records (R592). -/
def requiredRecords : List (Nat × Nat) :=
  [(0x80, 0), (0x81, 0), (0x82, 0), (0x83, 0), (0x83, 1), (0x83, 2), (0x83, 3), (0x84, 0), (0x84, 1), (0x84, 2), (0x84, 3)]

/-- The variant that OTP names: 0 to 2, and 3 DEGRADED when it names none (R13). -/
def variantOf (d : Dev) : Nat :=
  match recordOf d .factory 0x80 0 with
  | some p => if (walk d .factory).unreadable then 3 else p.headD 3
  | none => 3

/-- The integrity check: what it reads, counts, and raises. -/
def otpCheck (d : Dev) : Dev :=
  let d := onOtp (fun o => { o with
    lifecycle := lifecycleBurned d, variant := variantOf d,
    firstVariant := some (o.firstVariant.getD (variantOf d)) }) d
  let wf := walk d .factory
  let wc := walk d .customer
  let wp := walk d .patch
  let recs := wf.recs ++ wc.recs ++ wp.recs
  let bad := (recs.filter fun r => r.state == .bad).length
  let slotsBad := (List.range 8).filter fun s => bit (logical d 2) s && keyEccBad d s
  let keyCorrected := ((List.range 64).filter fun i => (otpWord d (128 + i)).2 == 1).length
  let missing := !wf.unreadable && requiredRecords.any fun r => (recordOf d .factory r.1 r.2).isNone
  let integrity := decide (0 < bad) || wf.unreadable || wc.unreadable || wp.unreadable || missing
    || slotsBad.any (keyPresent d) || wp.recs.any fun r => usable r && !patchVerifies d r
  let d := onOtp (fun o =>
    { o with corrected := min 0xFFFF (wf.corrected + wc.corrected + wp.corrected + keyCorrected),
             failed := min 0xFFFF bad, suspect := min 0xFFFF (recs.filter fun r => r.state == .suspect).length,
             integrity := integrity,
             badSlots := o.badSlots ||| BitVec.ofNat 8 (slotsBad.map fun s => 2 ^ s).sum }) d
  let d := onBoot (fun b => { b with otpAlarm := integrity }) d
  if d.aon.glitchLatch then
    eventAlarm 18 (burnThermometer 7 2 (onOtp (fun o => { o with glitchSincePor := min (o.glitchSincePor + 1) 0xFFFF })
      (onAon (fun a => { a with glitchLatch := false }) d)))
  else d

/-- AON's part of a glitch (R600, R601): the event is latched, and the fourth within 60 s halts every boot until POR. -/
def glitchLatched (d : Dev) : Dev :=
  onAon (fun a =>
    let l := slide a.glitchTimes d.now
    { a with glitchLatch := true, glitchTimes := l, glitchHalt := a.glitchHalt || decide (4 ≤ l.length) }) d

/-- The OTP record after a SYS reset: fuses, what OTP_CHECK read, and what lasts until POR stand. -/
def otpSysReset (o : Otp) : Otp :=
  { Otp.reset with array := o.array, marginal := o.marginal, variant := o.variant, firstVariant := o.firstVariant, lifecycle := o.lifecycle, badSlots := o.badSlots,
                   unlockFails := o.unlockFails, glitchSincePor := o.glitchSincePor }

/-- The OTP record after POR: the fuses alone. -/
def otpPorReset (o : Otp) : Otp := { Otp.reset with array := o.array, marginal := o.marginal }

end Sys2Proof.Machine
end

