-- ==== Sys2Proof/Machine/Frame.lean ====
section
/-! DEFINITION. Reading and building Ethernet frames. Frame octets run from the destination address to the last octet before
the frame check sequence, which hardware checks and appends (log entry 4). -/

namespace Sys2Proof.Machine

/-- The length L of a frame: its octets and the four of the FCS (chapter 11, Ports and rates). -/
def frameLen (o : List Byte) : Nat := o.length + 4

/-- The octet at an offset; 0 past the end. -/
def oct (o : List Byte) (i : Nat) : Nat := (o.getD i 0).toNat

/-- A big-endian field of a frame. -/
def fieldBe (o : List Byte) (off n : Nat) : Nat := beNat ((o.drop off).take n)

/-- Destination and source address as numbers, the first octet most significant. -/
def frameDa (o : List Byte) : Nat := fieldBe o 0 6
@[inherit_doc frameDa] def frameSa (o : List Byte) : Nat := fieldBe o 6 6

/-- The broadcast address, and whether an address is a group address. -/
def broadcastMac : Nat := 0xFFFFFFFFFFFF
@[inherit_doc broadcastMac] def isGroup (mac : Nat) : Bool := bit mac 40

/-- Whether the frame carries a C-VLAN tag, and the tag's control information. -/
def isTagged (o : List Byte) : Bool := fieldBe o 12 2 == 0x8100
@[inherit_doc isTagged] def tagTci (o : List Byte) : Nat := if isTagged o then fieldBe o 14 2 else 0

/-- VID, PCP and DEI of the tag; 0 when untagged. -/
def tagVidOf (o : List Byte) : Nat := tagTci o % 4096
@[inherit_doc tagVidOf] def tagPcp (o : List Byte) : Nat := tagTci o / 8192
@[inherit_doc tagVidOf] def tagDei (o : List Byte) : Bool := bit (tagTci o) 12

/-- The VID that a frame's tag carries, 0 for none. -/
def frameVid (o : List Byte) : Nat := if isTagged o then tagVidOf o else 0

/-- EtherType after any C-VLAN tag, and the octets after it. -/
def frameType (o : List Byte) : Nat := if isTagged o then fieldBe o 16 2 else fieldBe o 12 2
@[inherit_doc frameType] def framePayload (o : List Byte) : List Byte := if isTagged o then o.drop 18 else o.drop 14

/-- The frame with its tag removed, or with the tag `tci` in place of any it had. -/
def untag (o : List Byte) : List Byte := if isTagged o then o.take 12 ++ o.drop 16 else o
@[inherit_doc untag] def retag (tci : Nat) (o : List Byte) : List Byte :=
  let u := untag o
  u.take 12 ++ beBytes 2 0x8100 ++ beBytes 2 tci ++ u.drop 12

/-- One's complement sum of 16-bit words, folded to 16 bits. -/
def onesFold (v : Nat) : Nat := let a := v % 65536 + v / 65536; a % 65536 + a / 65536

/-- The sum of the 16-bit words of an octet string, most significant octet first. -/
def sum16 : List Byte → Nat
  | [] => 0
  | [a] => a.toNat * 256
  | a :: b :: l => a.toNat * 256 + b.toNat + sum16 l

/-- The cells of 256 octets that a frame of length L takes. -/
def cellsOf (len : Nat) : Nat := divUp len 256

end Sys2Proof.Machine
end

