-- ==== Sys2Proof/Machine/Tally.lean ====
section
/-! DEFINITION. The tally: counting, drops, error findings in tables, and the two captures of counters (R433, R470, R471,
R500, R525-R532, R535-R537, R186, R187). -/

namespace Sys2Proof.Machine

/-! ### Counting -/

/-- A counter of the tally wraps modulo 2^64 (R525). -/
def tallyWrap : Nat := 2 ^ 64

/-- The counters of a set: SET 0 is keyed 2 * pair for frames and 2 * pair + 1 for bytes. -/
def counterOf (d : Dev) (set_ i : Nat) : Nat :=
  match set_ with
  | 0 => tget 0 d.fab.set0 i
  | 1 => tget 0 d.fab.set1 i
  | _ => if i % 4 = 3 then tget 0 d.fab.depthMax (i / 4) else tget 0 d.fab.set2 i

/-- Set a counter of the tally. -/
def setCounter (set_ i v : Nat) (d : Dev) : Dev :=
  let f := d.fab
  { d with fab :=
    match set_ with
    | 0 => { f with set0 := tset 0 f.set0 i v }
    | 1 => { f with set1 := tset 0 f.set1 i v }
    | _ => if i % 4 = 3 then { f with depthMax := tset 0 f.depthMax (i / 4) v } else { f with set2 := tset 0 f.set2 i v } }

/-- Add to a counter of the tally. -/
def addCounter (set_ i n : Nat) (d : Dev) : Dev := setCounter set_ i ((counterOf d set_ i + n) % tallyWrap) d

/-- Add to counter `i` of port `p` (Table 14-4). -/
def countPort (p i n : Nat) (d : Dev) : Dev := addCounter 1 (32 * p + i) n d

/-- Add to counter `i` of queue (p, c) (Table 14-5). -/
def countQueue (p c i n : Nat) (d : Dev) : Dev := addCounter 2 (4 * (8 * p + c) + i) n d

/-- A discard is counted once, at index 10 + code of the port's set, and LAST_DROP records it (R433, R526). -/
def dropAt (p code : Nat) (d : Dev) : Dev :=
  setSwPort p (fun w => { w with lastDrop := code }) (countPort p (10 + code) 1 d)

/-- A discard of a copy of queue (p, c), counted at egress (R526, R527). -/
def dropCopy (p c code : Nat) (d : Dev) : Dev := countQueue p c 2 1 (dropAt p code d)

/-- Count a received frame, or a transmitted copy, of length `len` and destination `da` (R526). -/
def countRx (p len da : Nat) (d : Dev) : Dev :=
  let d := countPort p 1 len (countPort p 0 1 d)
  if da = broadcastMac then countPort p 5 1 d else if isGroup da then countPort p 4 1 d else d
@[inherit_doc countRx] def countTx (p c len da : Nat) (d : Dev) : Dev :=
  let d := countQueue p c 1 len (countQueue p c 0 1 (countPort p 3 len (countPort p 2 1 d)))
  if da = broadcastMac then countPort p 7 1 d else if isGroup da then countPort p 6 1 d else d

/-! ### Error findings -/

/-- Change the station tables, the route tables, the classifier, the fabric record. -/
def onSt (f : StationTab → StationTab) (d : Dev) : Dev := { d with st := f d.st }
@[inherit_doc onSt] def onRt (f : RouteTab → RouteTab) (d : Dev) : Dev := { d with rt := f d.rt }
@[inherit_doc onSt] def onCls (f : ClassTab → ClassTab) (d : Dev) : Dev := { d with cls := f d.cls }
@[inherit_doc onSt] def onFab (f : Fabric → Fabric) (d : Dev) : Dev := { d with fab := f d.fab }

/-- Whether an entry of a table holds a double-bit error. -/
def poisoned (d : Dev) (table index : Nat) : Bool := d.st.poison.contains (table, index)

/-- A write of an entry ends its poison (R471, R500, R535, R536). -/
def unpoison (table index : Nat) (d : Dev) : Dev :=
  onSt (fun t => { t with poison := t.poison.filter fun x => x ≠ (table, index) }) d

/-- What a single-bit or double-bit finding does (R470, R471, R500, R535-R537): the first is corrected and counted; the second
poisons a table entry and raises alarm bit [6], or zeroes a counter word. The counts of rules, policers and routes rise when
a frame meets the entry. Findings in counter set n carry table 0xB0 + n,
and a corrected word of the buffer (R431) carries 0xC0 (log entry 4). -/
def eccFind (h : EccHit) (d : Dev) : Dev :=
  let t := h.table.toNat
  if t = 0xC0 then
    if h.double then d else onFab (fun f => { f with eccCorrected := satInc f.eccCorrected }) d
  else if !h.double then onSt (fun s => { s with eccCorrected := satInc s.eccCorrected }) d
  else if 0xB0 ≤ t then
    onFab (fun f => { f with eccZeroed := satInc f.eccZeroed }) (setCounter (t - 0xB0) h.index 0 d)
  else if poisoned d t h.index then d
  else
    let d := eventAlarm 6 (onSt (fun s => { s with poison := s.poison ++ [(t, h.index)] }) d)
    if t < 0x10 then onSt (fun s => { s with eccDouble := satInc s.eccDouble }) d
    else d

/-- All the findings of one command, in order. -/
def eccFindAll (hs : List EccHit) (d : Dev) : Dev := hs.foldl (fun d h => eccFind h d) d

/-! ### Captures (R186, R187, R528-R532) -/

/-- The entries of each set: pairs, port counters, queue counters. -/
def setEntries (set_ : Nat) : Nat := if set_ = 0 then 8192 else 512

/-- The counters of entry `i` of a set: a pair of SET 0 holds two. -/
def entryCounters (set_ i : Nat) : List Nat := if set_ = 0 then [2 * i, 2 * i + 1] else [i]

/-- The counters of entries `first` to `first + count - 1`. -/
def rangeCounters (set_ first count : Nat) : List Nat :=
  (List.range count).flatMap fun k => entryCounters set_ (first + k)

/-- What a counter restarts from when a capture clears it: DEPTH_MAX from the queue's depth, every other from 0 (R527). -/
def clearedTo (d : Dev) (set_ i : Nat) : Nat :=
  if set_ = 2 ∧ i % 4 = 3 then
    let q := queueOf d (i / 4 / 8) (i / 4 % 8)
    q.foldUse + q.comUse
  else 0

/-- Clear the counters of a capture. -/
def clearCounters (set_ : Nat) (l : List Nat) (d : Dev) : Dev := l.foldl (fun d i => setCounter set_ i (clearedTo d set_ i) d) d

/-- The timebase in whole nanoseconds of TAI. -/
def taiNs (d : Dev) : Nat := d.tm.tb.toNat / 2 ^ 32

/-- A host TAKE (R186, R187, R528): ignored while BUSY; a range past the set's end sets BAD_VALUE. -/
def tsnapTake (d : Dev) : Dev :=
  let h := d.hw
  let set_ := h.snapSet.toNat
  let first := h.snapFirst.toNat
  let count := h.snapCount.toNat
  if h.snapBusy then d
  else if setEntries set_ < first + count then
    raiseIrq 9 (onHw (fun h => { h with xferStatus := h.xferStatus ||| 0x80 }) d)
  else
    let l := rangeCounters set_ first count
    let octets := l.flatMap fun i => leBytes 8 (counterOf d set_ i)
    let d := onHw (fun h => { h with
      snap := writeBytes 0 h.snap 0 octets, snapBusy := true, snapTime := BitVec.ofNat 64 (taiNs d),
      snapSeq := h.snapSeq + 1 }) d
    let d := arm .snap (200 * us) d
    if h.snapClear then clearCounters set_ l d else d

/-- The copy completes: BUSY clears and TSNAP_DONE is set (R187). -/
def tsnapDone (d : Dev) : Dev :=
  if d.hw.snapBusy then raiseIrq 6 (disarm .snap (onHw (fun h => { h with snapBusy := false }) d)) else d

end Sys2Proof.Machine
end

