-- ==== Sys2Proof/Machine/StationTab.lean ====
section
/-! DEFINITION. Station, VLAN and flock tables: hashes, lookup, insertion by relocation, learning, moves, ageing, flushing and
the mordant bits as hardware sees them (chapter 12, R436-R471, R184, R185). -/

namespace Sys2Proof.Machine

/-! ### Hashes and buckets (R437, R438) -/

/-- Rotate a `w`-bit value left by `r`. -/
def rotl (w r x : Nat) : Nat := (x * 2 ^ r) % 2 ^ w + x / 2 ^ (w - r)

/-- Chunk `i` of the key of a MAC and FID. -/
def keyChunk (mac fid i : Nat) : Nat := (fid * 2 ^ 48 + mac) / 2 ^ (13 * i) % 8192

/-- H0 of R437. -/
def hash0 (mac fid : Nat) : Nat :=
  keyChunk mac fid 0 ^^^ keyChunk mac fid 1 ^^^ keyChunk mac fid 2 ^^^ keyChunk mac fid 3 ^^^ keyChunk mac fid 4

/-- H1 of R437. -/
def hash1 (mac fid : Nat) : Nat :=
  keyChunk mac fid 0 ^^^ rotl 13 1 (keyChunk mac fid 1) ^^^ rotl 13 2 (keyChunk mac fid 2)
    ^^^ rotl 13 3 (keyChunk mac fid 3) ^^^ rotl 13 4 (keyChunk mac fid 4)

/-- Buckets in each half. -/
def halfBuckets (d : Dev) : Nat := if isSmall d then 2048 else 8192

/-- The two candidate buckets of a key. -/
def bucketsOf (d : Dev) (mac fid : Nat) : Nat × Nat :=
  let b := halfBuckets d
  (hash0 mac fid % b, b + hash1 mac fid % b)

/-! ### Mordant bits (R184, R461) -/

/-- Table codes of Table 5-6. -/
def tStation : Nat := 0x01
@[inherit_doc tStation] def tStash : Nat := 0x02
@[inherit_doc tStation] def tVlan : Nat := 0x03
@[inherit_doc tStation] def tFlock : Nat := 0x04
@[inherit_doc tStation] def tFirst : Nat := 0x10
@[inherit_doc tStation] def tPool0 : Nat := 0x11
@[inherit_doc tStation] def tPool1 : Nat := 0x12
@[inherit_doc tStation] def tHash6 : Nat := 0x18
@[inherit_doc tStation] def tBloom : Nat := 0x19
@[inherit_doc tStation] def tNextHop : Nat := 0x1A
@[inherit_doc tStation] def tRule : Nat := 0x20
@[inherit_doc tStation] def tPolicer : Nat := 0x21

/-- What a lock of a table covers: a first-stage lock covers the aligned group of 256 entries. -/
def lockUnit (table index : Nat) : Nat := if table = tFirst then index / 256 else index

/-- Whether the mordant bit that covers an entry is set. -/
def isLocked (d : Dev) (table index : Nat) : Bool :=
  d.st.locks.any fun l => l.table == table && l.index == lockUnit table index

/-! ### Lookup (R440, R471) -/

/-- Whether a station entry has this key. -/
def Station.has (e : Station) (mac fid : Nat) : Bool := e.mac.toNat == mac && e.fid.toNat == fid

/-- The location of a key, as RESULT_INDEX reports it (R468); a poisoned entry never hits. -/
def stationFind (d : Dev) (mac fid : Nat) : Option Nat :=
  let b := bucketsOf d mac fid
  let locs := [4 * b.1, 4 * b.1 + 1, 4 * b.1 + 2, 4 * b.1 + 3, 4 * b.2, 4 * b.2 + 1, 4 * b.2 + 2, 4 * b.2 + 3]
  let hit (e : Option Station) : Bool := match e with
    | some e => e.has mac fid
    | none => false
  match locs.find? fun i => hit (tfind d.st.ways i) && !poisoned d tStation i with
  | some i => some i
  | none =>
    (d.st.stash.find? fun x => x.2.has mac fid && !poisoned d tStash x.1).map fun x => 0x10000 + x.1

/-- The entry at a location. -/
def stationAt (d : Dev) (loc : Nat) : Option Station :=
  if 0x10000 ≤ loc then tfind d.st.stash (loc - 0x10000) else tfind d.st.ways loc

/-- Write the entry at a location. -/
def putStation (loc : Nat) (e : Station) (d : Dev) : Dev :=
  if 0x10000 ≤ loc then
    unpoison tStash (loc - 0x10000) (onSt (fun t => { t with stash := tput t.stash (loc - 0x10000) e }) d)
  else unpoison tStation loc (onSt (fun t => { t with ways := tput t.ways loc e }) d)

/-- Remove the entry at a location. -/
def dropStation (loc : Nat) (d : Dev) : Dev :=
  if 0x10000 ≤ loc then
    unpoison tStash (loc - 0x10000) (onSt (fun t => { t with stash := terase t.stash (loc - 0x10000) }) d)
  else unpoison tStation loc (onSt (fun t => { t with ways := terase t.ways loc }) d)

/-- Whether a location may be changed: its bucket, or the stash, is not locked (R461, R463). -/
def locFree (d : Dev) (loc : Nat) : Bool :=
  if 0x10000 ≤ loc then !isLocked d tStash 0 else !isLocked d tStation (loc / 4)

/-! ### Insertion and relocation (R454-R456, R486) -/

/-- What the path search needs to know of a table: how a bucket's ways are held. -/
structure Cuckoo where
  occupied : List Nat
  other    : List (Nat × Nat)
  locked   : List Nat
  deriving DecidableEq, Repr

/-- The lowest free way of a bucket. -/
def freeWay (c : Cuckoo) (b : Nat) : Option Nat :=
  ([0, 1, 2, 3].find? fun w => !c.occupied.contains (4 * b + w))

/-- The other bucket of the entry in a way. -/
def otherOf (c : Cuckoo) (way : Nat) : Nat := ((c.other.find? fun x => x.1 == way).map (·.2)).getD 0

/-- Steps 4 to 6 of R454 from a bucket: the ways of a path, nearest first, and the free way it ends in. -/
def pathFrom (c : Cuckoo) (victim : Nat) : Nat → Nat → List Nat → List Nat → Option (List Nat × Nat)
  | 0, _, _, _ => none
  | fuel + 1, b, seen, path =>
    let ways := [0, 1, 2, 3].map fun i => 4 * b + (victim + i) % 4
    match ways.find? fun w => !c.locked.contains (otherOf c w) && !seen.contains (otherOf c w) with
    | none => none
    | some w =>
      let o := otherOf c w
      match freeWay c o with
      | some f => some (path ++ [w], 4 * o + f)
      | none => pathFrom c victim fuel o (seen ++ [o]) (path ++ [w])

/-- Where a key with buckets `b0` and `b1` goes (R454): the moves to make, far end first, and its own way. -/
def placeKey (c : Cuckoo) (victim b0 b1 : Nat) : Option (List (Nat × Nat) × Nat) :=
  let free (b : Nat) : Option Nat := if c.locked.contains b then none else (freeWay c b).map fun w => 4 * b + w
  match free b0 with
  | some w => some ([], w)
  | none =>
    match free b1 with
    | some w => some ([], w)
    | none =>
      let start := if c.locked.contains b0 then b1 else b0
      if c.locked.contains start then none
      else
        match pathFrom c victim 16 start [start] [] with
        | none => none
        | some (path, last) =>
          some ((path.zip (path.tail ++ [last])).reverse, path.headD 0)

/-- The station table as the path search sees it. A poisoned way has no key to follow and stays where it is (log entry 49). -/
def stationCuckoo (d : Dev) : Cuckoo :=
  { occupied := d.st.ways.map (·.1)
    other := d.st.ways.map fun x =>
      let b := bucketsOf d x.2.mac.toNat x.2.fid.toNat
      (x.1, if poisoned d tStation x.1 then x.1 / 4 else if x.1 / 4 = b.1 then b.2 else b.1)
    locked := (d.st.locks.filter fun l => l.table == tStation).map (·.index) }

/-- One move of a commit (R455). -/
def moveWay (m : Nat × Nat) (d : Dev) : Dev :=
  match tfind d.st.ways m.1 with
  | some e => dropStation m.1 (putStation m.2 e d)
  | none => d

/-- Insert an entry into the table by R454, or, where `stash` allows it, into the stash (R456); the location used. VICTIM
advances after every attempt. -/
def stationInsert (e : Station) (stash : Bool) (d : Dev) : Option Nat × Dev :=
  let b := bucketsOf d e.mac.toNat e.fid.toNat
  let r := placeKey (stationCuckoo d) d.st.victim b.1 b.2
  let d := onSt (fun t => { t with victim := (t.victim + 1) % 4 }) d
  match r with
  | some (moves, way) =>
    let d := moves.foldl (fun d m => moveWay m d) d
    (some way, putStation way e (onSt (fun t =>
      { t with relocations := min (t.relocations + moves.length) 0xFFFFFFFF }) d))
  | none =>
    if !stash then (none, d)
    else
      match if isLocked d tStash 0 then none else (List.range 32).find? fun s => (tfind d.st.stash s).isNone with
      | some s => (some (0x10000 + s), putStation (0x10000 + s) e d)
      | none => (none, onSt (fun t => { t with learnFull := satInc t.learnFull }) d)

/-! ### VLANs (R444-R448) -/

/-- A VLAN entry as stored. -/
def vlanOf (d : Dev) (vid : Nat) : Vlan := tget Vlan.zero d.st.vlans vid

/-- Change a VLAN entry. -/
def setVlan (vid : Nat) (f : Vlan → Vlan) (d : Dev) : Dev :=
  onSt (fun t => { t with vlans := tset Vlan.zero t.vlans vid (f (vlanOf d vid)) }) d

/-- The effective fields of R444. -/
def vlanValid (v : Vlan) : Bool := v.valid || v.profile != 0
@[inherit_doc vlanValid] def vlanMembers (d : Dev) (v : Vlan) : BitVec 16 := (v.members ||| v.profile) &&& present d
@[inherit_doc vlanValid] def vlanUntagged (v : Vlan) : BitVec 16 := v.untagged ||| v.profile
@[inherit_doc vlanValid] def vlanFlood (d : Dev) (v : Vlan) : BitVec 16 := (v.flood ||| v.profile) &&& vlanMembers d v
@[inherit_doc vlanValid] def vlanFid (v : Vlan) (vid : Nat) : Nat := if v.valid then v.fid.toNat else vid
@[inherit_doc vlanValid] def vlanLearns (v : Vlan) : Bool := if v.valid then v.learn else vlanValid v

/-- Write a VLAN entry's fields but for PROFILE_MEMBERS, masked as R9 and R443. -/
def writeVlan (vid : Nat) (members untagged flood : Nat) (fid : Nat) (valid learn : Bool) (d : Dev) : Dev :=
  let p := present d
  unpoison tVlan vid (setVlan vid (fun v =>
    { v with members := BitVec.ofNat 16 members &&& p, untagged := BitVec.ofNat 16 untagged &&& p,
             flood := BitVec.ofNat 16 flood &&& p, fid := BitVec.ofNat 12 fid, valid := valid, learn := learn }) d)

/-- A profile's VLAN is applied to cable port `n` (R445): its bit moves to that entry, and PVID follows. -/
def applyProfileVlan (n vid : Nat) (d : Dev) : Dev :=
  let m : BitVec 16 := BitVec.ofNat 16 (2 ^ n)
  let d := onSt (fun t => { t with vlans :=
    (t.vlans.map fun x => (x.1, { x.2 with profile := x.2.profile &&& ~~~m })).filter fun x => x.2 ≠ Vlan.zero }) d
  setCfg (0x8000 + 0x40 * n) 0 vid (setVlan vid (fun v => { v with profile := v.profile ||| m }) d)

/-- At detach the bit is cleared, and PVID keeps its value (R445). -/
def clearProfileVlan (n : Nat) (d : Dev) : Dev :=
  let m : BitVec 16 := BitVec.ofNat 16 (2 ^ n)
  onSt (fun t => { t with vlans :=
    (t.vlans.map fun x => (x.1, { x.2 with profile := x.2.profile &&& ~~~m })).filter fun x => x.2 ≠ Vlan.zero }) d

/-- A flock record as stored. -/
def flockOf (d : Dev) (i : Nat) : Flock := tget Flock.zero d.st.flocks i

/-! ### Learning (R450-R453, R458) -/

/-- Whether an entry is dynamic and learned on port `p`. -/
def dynamicOn (p : Nat) (e : Station) : Bool := !e.static_ && !e.flock && e.dest.toNat == p

/-- LEARNED of a port. -/
def learnedOn (d : Dev) (p : Nat) : Nat :=
  (d.st.ways.filter fun x => dynamicOn p x.2).length + (d.st.stash.filter fun x => dynamicOn p x.2).length

/-- A source address is offered for learning on port `p` (R451, R458, R461, R462). A dynamic entry that names a flock is on no port:
it is neither refreshed nor moved (log entry 49). -/
def offerLearn (p mac fid : Nat) (d : Dev) : Dev :=
  match stationFind d mac fid with
  | none =>
    if d.st.learnQ.length < 256 then
      onSt (fun t => { t with learnQ := t.learnQ ++ [{ mac := BitVec.ofNat 48 mac, fid := BitVec.ofNat 12 fid, port := p }] }) d
    else onSt (fun t => { t with learnOverflow := satInc t.learnOverflow }) d
  | some loc =>
    match stationAt d loc with
    | none => d
    | some e =>
      if e.static_ then
        if !e.flock && e.dest.toNat == p then d
        else onSt (fun t => { t with moveBlocked := satInc t.moveBlocked }) d
      else if e.flock then d
      else if e.dest.toNat = p then if locFree d loc then putStation loc { e with age := 7 } d else d
      else if locFree d loc then
        setSwPort p (fun w => { w with movesIn := satInc w.movesIn })
          (putStation loc { e with dest := BitVec.ofNat 12 p, age := 7 } d)
      else onSt (fun t => { t with moveDeferred := satInc t.moveDeferred }) d

/-- A learn request is taken from the queue (R452, R453, R461, R466). -/
def learnStep (d : Dev) : Dev :=
  match d.st.learnQ with
  | [] => d
  | q :: rest =>
    let d := onSt (fun t => { t with learnQ := rest }) d
    let limit := cfg d (0x8000 + 0x40 * q.port) 4
    match stationFind d q.mac.toNat q.fid.toNat with
    | some loc =>
      match stationAt d loc with
      | some e => if !e.static_ && locFree d loc then putStation loc { e with age := 7 } d else d
      | none => d
    | none =>
      if limit ≠ 0 ∧ limit ≤ learnedOn d q.port then
        setSwPort q.port (fun w => { w with limitHit := satInc w.limitHit }) d
      else
        (stationInsert { mac := q.mac, fid := q.fid, static_ := false, flock := false, age := 7,
                         dest := BitVec.ofNat 12 q.port } true d).2

/-- Once every 1 ms the next stash entry in round-robin order is tried for a place in the table (R457, R463). -/
def stashDrain (d : Dev) : Dev :=
  let n := d.st.drainNext
  if isLocked d tStash 0 then d
  else
    match (List.range 32).find? fun i =>
        (tfind d.st.stash ((n + i) % 32)).isSome && !poisoned d tStash ((n + i) % 32) with
    | none => d
    | some i =>
      let s := (n + i) % 32
      let d := onSt (fun t => { t with drainNext := (s + 1) % 32 }) d
      match tfind d.st.stash s with
      | none => d
      | some e =>
        let r := stationInsert e false d
        match r.1 with
        | some _ => dropStation (0x10000 + s) r.2
        | none => r.2

/-! ### Ageing and flushing (R459-R463) -/

/-- Whether the entry at a location is poisoned. -/
def stationPoisoned (d : Dev) (loc : Nat) : Bool :=
  if 0x10000 ≤ loc then poisoned d tStash (loc - 0x10000) else poisoned d tStation loc

/-- One entry as the ager treats it; a poisoned one is left to the scrubber. -/
def ageEntry (loc : Nat) (d : Dev) : Dev :=
  match stationAt d loc with
  | none => d
  | some e =>
    if e.static_ || stationPoisoned d loc then d
    else if e.age = 0 then dropStation loc d else putStation loc { e with age := e.age - 1 } d

/-- The ager visits place `i`: bucket i, or past the buckets, stash entry i - 2B (R459, R461, R463). -/
def agerVisit (i : Nat) (d : Dev) : Dev :=
  let n := 2 * halfBuckets d
  if cfg d 0x8400 1 = 0 then d
  else if i < n then
    if isLocked d tStation i then d
    else [0, 1, 2, 3].foldl (fun d w => ageEntry (4 * i + w) d) d
  else if i < n + 32 then if isLocked d tStash 0 then d else ageEntry (0x10000 + (i - n)) d
  else d

/-- Whether a flush removes an entry. -/
def flushes (f : FlushSel) (e : Station) : Bool :=
  !e.static_ && !e.flock && (if f.byPort then e.dest.toNat == f.value else e.fid.toNat == f.value)

/-- The buckets that are locked, and 0x10000 for a locked stash: a flush marks them, and applies when their mordant bit clears
(R462). -/
def flushMarks (d : Dev) : List Nat :=
  ((d.st.locks.filter fun l => l.table == tStation).map (·.index)) ++ (if isLocked d tStash 0 then [0x10000] else [])

/-- A flush starts (R460): every bucket and the stash are visited; locked ones are marked. FLUSH_BUSY reads 1 until it
completes (log entry 10 on when entries go). -/
def flushStart (f : FlushSel) (d : Dev) : Dev :=
  let marks := flushMarks d
  arm .flushEnd ms (onSt (fun t =>
    { t with
      ways := t.ways.filter fun x => !flushes f x.2 || isLocked d tStation (x.1 / 4)
      stash := t.stash.filter fun x => !flushes f x.2 || isLocked d tStash 0
      flushing := t.flushing ++ [f]
      deferred := t.deferred ++ marks.map fun b => (b, f) }) d)

/-- Flush the dynamic entries of a port. -/
def flushPort (p : Nat) (d : Dev) : Dev := flushStart { byPort := true, value := p } d

/-- The flush has visited every place, and FLUSH_BUSY clears (R460). -/
def flushDone (d : Dev) : Dev :=
  if d.st.flushing = [] then d else disarm .flushEnd (onSt (fun t => { t with flushing := [] }) d)

/-- A bucket's mordant bit has cleared: the flushes that passed it apply (R462). -/
def applyDeferred (b : Nat) (d : Dev) : Dev :=
  let fs := (d.st.deferred.filter fun x => x.1 == b).map (·.2)
  onSt (fun t =>
    { t with
      ways := t.ways.filter fun x => !(decide (x.1 / 4 = b) && fs.any fun f => flushes f x.2)
      stash := if b = 0x10000 then t.stash.filter fun x => !(fs.any fun f => flushes f x.2) else t.stash
      deferred := t.deferred.filter fun x => x.1 != b }) d

/-! ### Locks (R184, R185, R192) -/

/-- Clear a mordant bit. -/
def unlock (table index : Nat) (d : Dev) : Dev :=
  let u := lockUnit table index
  let d := disarm (.mordant table u) (onSt (fun t =>
    { t with locks := t.locks.filter fun l => !(l.table == table && l.index == u) }) d)
  if table = tStation then applyDeferred u d else if table = tStash then applyDeferred 0x10000 d else d

/-- Set a mordant bit, or restart its lifetime; false when 256 bits are set already (LOCK_FULL). -/
def lock (table index msLife : Nat) (d : Dev) : Bool × Dev :=
  let u := lockUnit table index
  if !isLocked d table index && decide (256 ≤ d.st.locks.length) then (false, d)
  else
    (true, arm (.mordant table u) (msLife * ms) (onSt (fun t =>
      { t with locks := (t.locks.filter fun l => !(l.table == table && l.index == u))
                          ++ [{ table := table, index := u, ends := d.now + msLife * ms }] }) d))

/-- A mordant lifetime ends (R185): the bit clears, TDMA_EXPIRED records it, and the interrupt and alarm are raised. -/
def lockExpired (table index : Nat) (d : Dev) : Dev :=
  onExpiry (.mordant table index) (fun d =>
    if isLocked d table (if table = tFirst then 256 * index else index) then
      let d := unlock table (if table = tFirst then 256 * index else index) d
      let d := onHw (fun h => { h with expIndex := BitVec.ofNat 24 (if table = tFirst then 256 * index else index),
                                       expTable := BitVec.ofNat 8 table }) d
      eventAlarm 5 (raiseIrq 5 d)
    else d) d

/-! ### Scrubbing (R469, R471) -/

/-- The scrubber's pass ends (R469-R471): its findings are handled, and each poisoned station way or stash entry whose bucket
is not locked is written as zero. -/
def scrubPass (us_ : Nat) (ecc : List EccHit) (d : Dev) : Dev :=
  let d := eccFindAll ecc d
  let gone := d.st.poison.filter fun x =>
    (x.1 == tStation && !isLocked d tStation (x.2 / 4)) || (x.1 == tStash && !isLocked d tStash 0)
  let d := gone.foldl (fun d x => dropStation (if x.1 = tStash then 0x10000 + x.2 else x.2) d) d
  onSt (fun t => { t with scrubUs := us_ % 2 ^ 32 }) d

end Sys2Proof.Machine
end

