-- ==== Sys2Proof/Machine/RouteTab.lean ====
section
/-! DEFINITION. Route tables: the IPv4 trie, the IPv6 hash with its Bloom filters and present lengths, next hops, the OD editor's
prefix list, and what a route lookup answers (chapter 13, R474-R505). -/

namespace Sys2Proof.Machine

/-- What a lookup ends in: a next hop, the VRF's default, or a poisoned or malformed entry (R481, R483, R500). -/
inductive TrieEnd where
  | hop (nh : Nat)
  | default
  | fault
  deriving DecidableEq, Repr

/-! ### The IPv4 trie (R480-R483) -/

/-- The kind bits and the payload of a trie entry (Table 13-1). -/
def trieKind (w : Word) : Nat := w.toNat / 2 ^ 30
@[inherit_doc trieKind] def trieVal (w : Word) : Nat := w.toNat % 2 ^ 30

/-- A LEAF, NODE or SPLIT entry. -/
def leafWord (nh : Nat) : Word := BitVec.ofNat 32 (2 ^ 30 + nh % 4096)
@[inherit_doc leafWord] def nodeWord (n : Nat) : Word := BitVec.ofNat 32 (2 ^ 31 + n % 1024)
@[inherit_doc leafWord] def splitWord (n : Nat) : Word := BitVec.ofNat 32 (2 ^ 31 + 2 ^ 30 + n % 1024)

/-- A lookup of address `a` in VRF `v` (R481): a malformed entry is handled as a poisoned one (R483). -/
def trieLookup (d : Dev) (v a : Nat) : TrieEnd :=
  let i1 := a / 65536
  let w1 := tget 0 d.rt.first i1
  let stage3 (n : Nat) : TrieEnd :=
    let i := n * 256 + a % 256
    let w := tget 0 d.rt.pool1 i
    if poisoned d tPool1 i then .fault
    else match trieKind w with
      | 0 => .default
      | 1 => .hop (trieVal w % 4096)
      | _ => .fault
  let stage2 (n : Nat) : TrieEnd :=
    let i := n * 256 + a / 256 % 256
    let w := tget 0 d.rt.pool0 i
    if poisoned d tPool0 i then .fault
    else match trieKind w with
      | 0 => .default
      | 1 => .hop (trieVal w % 4096)
      | 2 => stage3 (trieVal w % 1024)
      | _ => .fault
  if poisoned d tFirst i1 then .fault
  else match trieKind w1 with
    | 0 => .default
    | 1 => .hop (trieVal w1 % 4096)
    | 2 => stage2 (trieVal w1 % 1024)
    | _ => if trieVal w1 % 4 = 0 then stage2 (trieVal w1 % 1024 + v) else .fault

/-! ### IPv6 hashes and filters (R485-R488) -/

/-- A prefix with the bits beyond `len` cleared. -/
def maskTo (addr len : Nat) : Nat := addr / 2 ^ (128 - len) * 2 ^ (128 - len)

/-- Word `i` of a 128-bit prefix, w0 first. -/
def prefixWord (p i : Nat) : Nat := p / 2 ^ (112 - 16 * i) % 65536

/-- F and G of R485 over a masked prefix. -/
def foldF (p : Nat) : Nat := (List.range 8).foldl (fun acc i => acc ^^^ prefixWord p i) 0
@[inherit_doc foldF] def foldG (p : Nat) : Nat := (List.range 8).foldl (fun acc i => acc ^^^ rotl 16 i (prefixWord p i)) 0

/-- The two buckets and the three Bloom bits of a prefix (R485). -/
def buckets6 (vrf len p : Nat) : Nat × Nat :=
  let t := 256 * vrf + len
  let v0 := foldF p ^^^ t
  let v1 := foldG p ^^^ t
  ((v0 ^^^ (v0 / 512)) % 512, 512 + (v1 ^^^ (v1 / 512)) % 512)
@[inherit_doc buckets6] def bloomBits (vrf len p : Nat) : List Nat :=
  let t := 256 * vrf + len
  [foldF p ^^^ t, foldG p ^^^ t, foldF p ^^^ rotl 16 8 (foldG p) ^^^ t].map fun v => (v ^^^ (v / 4096)) % 4096

/-- The filter record of a VRF and length (R486). -/
def bloomFilter (vrf len : Nat) : Nat := 8 * vrf + (len - 1) / 16

/-- Whether a filter bit is set. -/
def bloomGet (d : Dev) (filter bit_ : Nat) : Bool := tget false d.rt.bloom (4096 * filter + bit_)

/-- Set filter bits. -/
def bloomSet (filter : Nat) (l : List Nat) (d : Dev) : Dev :=
  onRt (fun r => { r with bloom := l.foldl (fun b i => tset false b (4096 * filter + i) true) r.bloom }) d

/-- Valid entries of a VRF and length. -/
def count6 (d : Dev) (vrf len : Nat) : Nat := tget 0 d.rt.count6 (256 * vrf + len)

/-- PRESENT6 of a VRF: bit len - 1 for each length with an entry. -/
def present6 (d : Dev) (vrf : Nat) : Nat :=
  (List.range 128).foldl (fun acc i => acc + (if count6 d vrf (i + 1) = 0 then 0 else 2 ^ i)) 0

/-- Change a count. -/
def addCount6 (vrf len : Nat) (f : Nat → Nat) (d : Dev) : Dev :=
  onRt (fun r => { r with count6 := tset 0 r.count6 (256 * vrf + len) (f (count6 d vrf len)) }) d

/-- The way that holds a key. -/
def find6 (d : Dev) (vrf len p : Nat) : Option Nat :=
  let b := buckets6 vrf len p
  [4 * b.1, 4 * b.1 + 1, 4 * b.1 + 2, 4 * b.1 + 3, 4 * b.2, 4 * b.2 + 1, 4 * b.2 + 2, 4 * b.2 + 3].find? fun i =>
    match tfind d.rt.ways6 i with
    | some e => e.vrf == vrf && e.length == len && e.prefix_.toNat == p
    | none => false

/-- An entry becomes valid in a way: its Bloom bits are set and it is counted (R487). -/
def put6 (way : Nat) (e : V6Entry) (d : Dev) : Dev :=
  let d := bloomSet (bloomFilter e.vrf e.length) (bloomBits e.vrf e.length e.prefix_.toNat) d
  unpoison tHash6 way (addCount6 e.vrf e.length (· + 1) (onRt (fun r => { r with ways6 := tput r.ways6 way e }) d))

/-- An entry is removed from a way: the count falls, and no Bloom bit clears (R487). -/
def drop6 (way : Nat) (d : Dev) : Dev :=
  match tfind d.rt.ways6 way with
  | none => unpoison tHash6 way d
  | some e =>
    unpoison tHash6 way (addCount6 e.vrf e.length (· - 1) (onRt (fun r => { r with ways6 := terase r.ways6 way }) d))

/-- The IPv6 table as the path search sees it; a poisoned way stays where it is (log entry 49). -/
def cuckoo6 (d : Dev) : Cuckoo :=
  { occupied := d.rt.ways6.map (·.1)
    other := d.rt.ways6.map fun x =>
      let b := buckets6 x.2.vrf x.2.length x.2.prefix_.toNat
      (x.1, if poisoned d tHash6 x.1 then x.1 / 4 else if x.1 / 4 = b.1 then b.2 else b.1)
    locked := (d.st.locks.filter fun l => l.table == tHash6).map (·.index) }

/-- INSERT by R486: the way used, none when no path is found. Relocation changes neither counts nor filters. -/
def insert6 (e : V6Entry) (d : Dev) : Option Nat × Dev :=
  let b := buckets6 e.vrf e.length e.prefix_.toNat
  let r := placeKey (cuckoo6 d) d.rt.victim b.1 b.2
  let d := onRt (fun r => { r with victim := (r.victim + 1) % 4 }) d
  match r with
  | none => (none, d)
  | some (moves, way) =>
    let d := moves.foldl (fun d m =>
      match tfind d.rt.ways6 m.1 with
      | some x => onRt (fun r => { r with ways6 := tput (terase r.ways6 m.1) m.2 x }) d
      | none => d) d
    (some way, put6 way e d)

/-- The candidate list of R489: lengths from 128 down whose PRESENT6 bit and Bloom bits are set. -/
def candidates6 (d : Dev) (v a : Nat) : List Nat :=
  ((List.range 128).map fun i => 128 - i).filter fun len =>
    count6 d v len != 0 && (bloomBits v len (maskTo a len)).all fun b => bloomGet d (bloomFilter v len) b

/-- One probe: a hit, a poisoned way with no hit beside it, or a miss (R489, R500). -/
def probe6 (d : Dev) (v a len : Nat) : Option TrieEnd :=
  let p := maskTo a len
  let b := buckets6 v len p
  let ways := [0, 1, 2, 3].flatMap fun w => [4 * b.1 + w, 4 * b.2 + w]
  match find6 d v len p with
  | some way =>
    if poisoned d tHash6 way then some .fault
    else match tfind d.rt.ways6 way with
      | some e => some (.hop e.nextHop.toNat)
      | none => none
  | none => if ways.any fun w => poisoned d tHash6 w then some .fault else none

/-- A pass of at most `n` probes: how it ends, or the candidates that remain. -/
def pass6 (d : Dev) (v a : Nat) : Nat → List Nat → TrieEnd ⊕ List Nat
  | _, [] => .inl .default
  | 0, c :: cs => .inr (c :: cs)
  | n + 1, c :: cs =>
    match probe6 d v a c with
    | some r => .inl r
    | none => pass6 d v a n cs

/-! ### Next hops and causes (R491, R503) -/

/-- A next-hop record. -/
def hopOf (d : Dev) (i : Nat) : NextHop := tget NextHop.zero d.rt.hops i

/-- Write a next-hop record whole. -/
def setHop (i : Nat) (f : NextHop → NextHop) (d : Dev) : Dev :=
  unpoison tNextHop i (onRt (fun r => { r with hops := tset NextHop.zero r.hops i (f (hopOf d i)) }) d)

/-- The causes of Table 13-4, as elements of 0x9500. -/
def causeNoRoute : Nat := 8
@[inherit_doc causeNoRoute] def causeTtl : Nat := 9
@[inherit_doc causeNoRoute] def causeHdr : Nat := 10
@[inherit_doc causeNoRoute] def causeUnroutable : Nat := 11
@[inherit_doc causeNoRoute] def causeNhDrop : Nat := 12
@[inherit_doc causeNoRoute] def causeTooBig : Nat := 13

/-- A ROUTE drop: once under its cause, and as reason 0x08 at the ingress port (R503). -/
def routeDrop (p cause : Nat) (d : Dev) : Dev :=
  dropAt p 0x08 (onRt (fun r => { r with causes := tset 0 r.causes cause (satInc (tget 0 r.causes cause)) }) d)

/-! ### The OD editor (R492-R494, chapter 13 Capacity) -/

/-- Whether a route covers an IPv4 address in a VRF. -/
def covers4 (v a : Nat) (r : Route) : Bool :=
  !r.v6 && r.vrf == v && a / 2 ^ (32 - r.length) == r.addr.toNat / 2 ^ (32 - r.length)

/-- The longest prefix of the list that covers an address, among those of length at most `maxLen`. -/
def best4 (l : List Route) (v a maxLen : Nat) : Option Route :=
  (l.filter fun r => covers4 v a r && decide (r.length ≤ maxLen)).foldl (fun best r =>
    match best with
    | some b => if b.length < r.length then some r else some b
    | none => some r) none

/-- The leaf-pushed entry for an address. -/
def leafFor (l : List Route) (v a maxLen : Nat) : Word :=
  match best4 l v a maxLen with
  | some r => leafWord r.nh
  | none => 0

/-- Whether the list holds a prefix longer than `len` inside the block of that length at `a`. -/
def deeper4 (l : List Route) (v a len : Nat) : Bool :=
  l.any fun r => !r.v6 && r.vrf == v && decide (len < r.length) && r.addr.toNat / 2 ^ (32 - len) == a / 2 ^ (32 - len)

/-- What a build has allocated: pool-1 nodes, groups of four pool-0 nodes, single pool-0 nodes, and first-stage entries.
Equal nodes are shared (log entry 11). -/
structure TrieBuild where
  nodes1 : List (List Word)
  groups : List (List (List Word))
  single : List (List Word)
  first  : List (Nat × Word)
  deriving DecidableEq, Repr

/-- The index of an element, appended when it is not there. -/
def shareIn {α : Type} [DecidableEq α] (x : α) (l : List α) : Nat × List α :=
  match l.findIdx? fun y => y = x with
  | some i => (i, l)
  | none => (l.length, l ++ [x])

/-- A pool-0 node for VRF `v` and the /16 block `b`, with the pool-1 nodes it needs. -/
def buildNode0 (l : List Route) (v b : Nat) (n1 : List (List Word)) : List Word × List (List Word) :=
  (List.range 256).foldl (fun acc e =>
    let a := (b * 256 + e) * 256
    if deeper4 l v a 24 then
      let words := (List.range 256).map fun i => leafFor l v (a + i) 32
      let r := shareIn words acc.2
      (acc.1 ++ [nodeWord r.1], r.2)
    else (acc.1 ++ [leafFor l v a 24], acc.2)) ([], n1)

/-- Add a /16 block: a LEAF while all VRFs agree, a shared NODE, or a SPLIT where they differ. -/
def buildBlock (l : List Route) (t : TrieBuild) (b : Nat) : TrieBuild :=
  let a := b * 65536
  let flat (v : Nat) : Bool := !deeper4 l v a 16
  let leaf (v : Nat) : Word := leafFor l v a 16
  if [0, 1, 2, 3].all (fun v => flat v && leaf v == leaf 0) then { t with first := t.first ++ [(b, leaf 0)] }
  else
    let r := [0, 1, 2, 3].foldl (fun acc v =>
      let n := buildNode0 l v b acc.2
      (acc.1 ++ [n.1], n.2)) (([] : List (List Word)), t.nodes1)
    if r.1.all fun n => n == r.1.headD [] then
      let s := shareIn (r.1.headD []) t.single
      { t with nodes1 := r.2, single := s.2, first := t.first ++ [(b, nodeWord (1023 - s.1))] }
    else
      let g := shareIn r.1 t.groups
      { t with nodes1 := r.2, groups := g.2, first := t.first ++ [(b, splitWord (4 * g.1))] }

/-- The /16 blocks that the list touches, rising. -/
def touchedBlocks (l : List Route) : List Nat :=
  (l.filter fun r => !r.v6).foldl (fun acc r =>
    let n := 2 ^ (16 - min 16 r.length)
    let b0 := r.addr.toNat / 65536 / n * n
    (List.range n).foldl (fun acc i => (tput acc (b0 + i) ())) acc) ([] : Tbl Unit) |>.map (·.1)

/-- The whole trie of a prefix list. -/
def buildTrie (l : List Route) : TrieBuild :=
  (touchedBlocks l).foldl (buildBlock l) { nodes1 := [], groups := [], single := [], first := [] }

/-- Whether a build fits its pools. -/
def TrieBuild.fits (t : TrieBuild) : Bool :=
  decide (4 * t.groups.length + t.single.length ≤ 1024) && decide (t.nodes1.length ≤ 1024)

/-- The words of a node in a pool table, zero words not listed. -/
def poolPut (p : Tbl Word) (node : Nat) (ws : List Word) : Tbl Word :=
  (ws.zip (List.range 256)).foldl (fun p x => tset 0 p (node * 256 + x.2) x.1) p

/-- Store a build into the tables. -/
def storeTrie (t : TrieBuild) (d : Dev) : Dev :=
  let pool1 := (t.nodes1.zip (List.range 1024)).foldl (fun p x => poolPut p x.2 x.1) []
  let pool0 := (t.groups.zip (List.range 256)).foldl (fun p g =>
    (g.1.zip [0, 1, 2, 3]).foldl (fun p x => poolPut p (4 * g.2 + x.2) x.1) p) []
  let pool0 := (t.single.zip (List.range 1024)).foldl (fun p x => poolPut p (1023 - x.2) x.1) pool0
  onRt (fun r => { r with first := (t.first.filter fun x => x.2 ≠ 0), pool0 := pool0, pool1 := pool1 }) d

/-- Free nodes of pools 0 and 1 in OD mode; 0 in HOST (Table 13-6). -/
def poolFree (d : Dev) (pool : Nat) : Nat :=
  if cfg d 0x9500 0 = 1 then 0
  else
    let t := buildTrie d.rt.routes
    if pool = 0 then 1024 - (4 * t.groups.length + t.single.length) else 1024 - t.nodes1.length

/-- Whether two routes name the same prefix. -/
def sameRoute (a b : Route) : Bool := a.vrf == b.vrf && a.v6 == b.v6 && a.addr == b.addr && a.length == b.length

/-- RESULT codes of 0x9600. -/
def rDone : Nat := 0
@[inherit_doc rDone] def rRunning : Nat := 1
@[inherit_doc rDone] def rFull : Nat := 2
@[inherit_doc rDone] def rNotFound : Nat := 3

/-- The running command ends with a result, which its session reads, and a prefix list (R494, R504). -/
def routeEnd (result : Nat) (l : List Route) (d : Dev) : Dev :=
  let d := match d.rt.running with
    | some c => setSel c.sess 0x9600 5 result d
    | none => d
  disarm .route (onRt (fun r => { r with running := none, routes := l }) d)

/-- A route command completes (R494): an IPv4 change rebuilds the trie, an IPv6 change edits the hash. -/
def routeCommandDone (d : Dev) : Dev :=
  match d.rt.running with
  | none => d
  | some c =>
    let r := c.route
    let old := d.rt.routes
    let rest := old.filter fun x => !sameRoute x r
    let found := old.any fun x => sameRoute x r
    if c.add then
      let l := rest ++ [r]
      if r.v6 then
        match find6 d r.vrf r.length r.addr.toNat with
        | some way =>
          routeEnd rDone l (onRt (fun t => { t with ways6 :=
            (t.ways6.map fun x => if x.1 = way then (x.1, { x.2 with nextHop := BitVec.ofNat 12 r.nh }) else x) }) d)
        | none =>
          let i := insert6 { prefix_ := r.addr, length := r.length, vrf := r.vrf, nextHop := BitVec.ofNat 12 r.nh } d
          match i.1 with
          | some _ => routeEnd rDone l i.2
          | none => routeEnd rFull old i.2
      else
        let t := buildTrie l
        if t.fits then routeEnd rDone l (storeTrie t d) else routeEnd rFull old d
    else if !found then routeEnd rNotFound old d
    else if r.v6 then
      match find6 d r.vrf r.length r.addr.toNat with
      | some way => routeEnd rDone rest (drop6 way d)
      | none => routeEnd rDone rest d
    else routeEnd rDone rest (storeTrie (buildTrie rest) d)

/-- Every route table and the OD prefix list are cleared (R492). -/
def clearRoutes (d : Dev) : Dev :=
  onSt (fun t => { t with poison := (t.poison.filter fun x => decide (x.1 < tFirst) || decide (tBloom < x.1)) })
    (onRt (fun r => { r with first := [], pool0 := [], pool1 := [], ways6 := [], bloom := [], count6 := [], routes := [] }) d)

/-- In OD mode the sequencer rewrites a poisoned route entry from its prefix list (R501). -/
def routeRepair (table index : Nat) (d : Dev) : Dev :=
  if cfg d 0x9500 0 = 0 && (table == tFirst || table == tPool0 || table == tPool1 || table == tHash6) then
    unpoison table index d
  else d

/-- The sequencer receives a punted frame (R502): LAST_PUNT records it, and ROUTE_DEPTH counts it. -/
def puntReceived (d : Dev) : Dev :=
  match d.fab.puntQ with
  | [] => d
  | x :: rest =>
    let octets := leBytes 1 x.reason ++ leBytes 1 x.vrf ++ leBytes 1 x.family ++ leBytes 1 x.inPort
      ++ (x.dst ++ List.replicate 16 0).take 16
    onFab (fun f => { f with puntQ := rest }) (onRt (fun r =>
      { r with lastPunt := octets, depth := if x.reason = 1 then satInc r.depth else r.depth }) d)

end Sys2Proof.Machine
end

