-- ==== Sys2Proof/Machine/Classify.lean ====
section
/-! DEFINITION. The classifier and the policers (chapter 14, R506-R517, R535, R536). -/

namespace Sys2Proof.Machine

/-! ### The key (R508, Table 14-1) -/

/-- FAMILY of a frame: 0 other, 1 IPv4, 2 IPv6. -/
def frameFamily (o : List Byte) : Nat := if frameType o = 0x0800 then 1 else if frameType o = 0x86DD then 2 else 0

/-- The octets of the header after the IP header, where the key reads ports: IPv4 by IHL, IPv6 after 40. -/
def l4Octets (o : List Byte) : List Byte :=
  let p := framePayload o
  if frameFamily o = 1 then p.drop (4 * (oct p 0 % 16)) else p.drop 40

/-- The 40 octets of the classifier key of a frame received on port `p` and assigned VID `vid`. -/
def classKey (p vid : Nat) (o : List Byte) : List Byte :=
  let f := frameFamily o
  let ip := framePayload o
  let notFirst := f = 1 ∧ fieldBe ip 6 2 % 8192 ≠ 0
  let proto := if f = 1 then oct ip 9 else if f = 2 then oct ip 6 else 0
  let tos := if f = 1 then oct ip 1 else if f = 2 then fieldBe ip 0 2 / 16 % 256 else 0
  let src := if f = 1 then (ip.drop 12).take 4 else if f = 2 then (ip.drop 8).take 8 else []
  let dst := if f = 1 then (ip.drop 16).take 4 else if f = 2 then (ip.drop 24).take 8 else []
  let pad (n : Nat) (l : List Byte) : List Byte := (l ++ List.replicate n 0).take n
  let ports := (proto = 6 ∨ proto = 17) ∧ ¬notFirst ∧ f ≠ 0
  let l4 := l4Octets o
  leBytes 1 (p % 16 + 16 * f + (if isTagged o then 64 else 0) + (if notFirst then 128 else 0))
    ++ leBytes 1 (if isTagged o then tagPcp o + (if tagDei o then 8 else 0) else 0)
    ++ leBytes 2 vid ++ o.take 12 ++ leBytes 2 (frameType o) ++ leBytes 1 tos ++ leBytes 1 proto
    ++ pad 8 src ++ pad 8 dst
    ++ leBytes 2 (if ports then fieldBe l4 0 2 else 0) ++ leBytes 2 (if ports then fieldBe l4 2 2 else 0)

/-! ### Rules (R509, Table 14-2) -/

/-- Fields of a rule record: VALUE, MASK, and the octet at an offset. -/
def ruleValue (r : Nat) : Nat := r % 2 ^ 320
@[inherit_doc ruleValue] def ruleMask (r : Nat) : Nat := r / 2 ^ 320 % 2 ^ 320
@[inherit_doc ruleValue] def ruleOct (r off : Nat) : Nat := r / 2 ^ (8 * off) % 256

/-- The flags of byte 80. -/
def ruleFlag (r i : Nat) : Bool := bit (ruleOct r 80) i
/-- TC, PCP, POLICER, MIRROR, COUNT_MODE and COUNTER of a rule. -/
def ruleTc (r : Nat) : Nat := ruleOct r 81 % 8
@[inherit_doc ruleTc] def rulePcp (r : Nat) : Nat := ruleOct r 81 / 16 % 8
@[inherit_doc ruleTc] def rulePolicer (r : Nat) : Nat := (ruleOct r 82 + 256 * ruleOct r 83) % 2048
@[inherit_doc ruleTc] def ruleMirror (r : Nat) : Nat := ruleOct r 84 % 4
@[inherit_doc ruleTc] def ruleCountMode (r : Nat) : Nat := ruleOct r 85
@[inherit_doc ruleTc] def ruleCounter (r : Nat) : Nat := (ruleOct r 86 + 256 * ruleOct r 87) % 8192

/-- Whether a rule matches a key. -/
def ruleMatches (r key : Nat) : Bool := ruleFlag r 0 && ((key ^^^ ruleValue r) &&& ruleMask r) == 0

/-- What the search of the rules finds: the rule in force, none, or a poisoned rule reached first (R509, R535). -/
inductive RuleEnd where
  | rule (i : Nat) (r : Nat)
  | none
  | poisoned
  deriving DecidableEq, Repr

/-- The search of R509: lowest number first. -/
def ruleSearch (d : Dev) (key : Nat) : RuleEnd :=
  let hit := d.cls.rules.find? fun x => !poisoned d tRule x.1 && ruleMatches x.2 key
  let bad := (d.st.poison.filter fun x => x.1 == tRule).map (·.2)
  match hit with
  | some x => if bad.any fun i => decide (i < x.1) then .poisoned else .rule x.1 x.2
  | none => if bad = [] then .none else .poisoned

/-- Whether a rule record is in range (R512). -/
def ruleInRange (d : Dev) (r : Nat) : Bool :=
  decide (ruleOct r 82 + 256 * ruleOct r 83 < policerCount d) && decide (ruleOct r 84 < 4)
    && decide (ruleOct r 86 + 256 * ruleOct r 87 < 8192)

/-- Write a rule whole. -/
def writeRule (i r : Nat) (d : Dev) : Dev :=
  unpoison tRule i (onCls (fun c => { c with rules := tset 0 c.rules i r }) d)

/-- Rules with VALID = 1. -/
def rulesValid (d : Dev) : Nat := (d.cls.rules.filter fun x => ruleFlag x.2 0).length

/-! ### Policers (R513-R517) -/

/-- A policer. -/
def policerOf (d : Dev) (i : Nat) : Policer := tget Policer.zero d.cls.policers i

/-- Change a policer. -/
def setPolicer (i : Nat) (f : Policer → Policer) (d : Dev) : Dev :=
  onCls (fun c => { c with policers := tset Policer.zero c.policers i (f (policerOf d i)) }) d

/-- The bucket brought up to an instant (R514): tokens in 2^-16 byte, the remainder carried. -/
def accrue (now : Nat) (p : Policer) : Policer :=
  let num := p.rate * (now - p.last) * 65536 + p.carry
  { p with tokens := min (p.burst * 65536) (p.tokens + num / 8000000), carry := num % 8000000, last := now }

/-- Police a length: whether it conforms, and the bucket after. -/
def police (now len : Nat) (p : Policer) : Bool × Policer :=
  let p := accrue now p
  if len * 65536 ≤ p.tokens then (true, { p with tokens := p.tokens - len * 65536 }) else (false, p)

/-- A policer record as the table DMA engine reads it (Table 14-3), with the tokens it holds now. -/
def policerOctets (d : Dev) (i : Nat) : List Byte :=
  let p := accrue d.now (policerOf d i)
  leBytes 4 p.rate ++ leBytes 4 p.burst ++ leBytes 1 (b2n p.enable + 2 * b2n p.wire) ++ leBytes 3 0
    ++ leBytes 4 (p.tokens / 65536)

/-- A write of a policer record: tokens up to now accrue at the old RATE and are replaced by min(TOKENS, BURST) (R516). -/
def writePolicer (i rate burst flags tokens : Nat) (d : Dev) : Dev :=
  unpoison tPolicer i (setPolicer i (fun _ =>
    { rate := rate, burst := burst, enable := bit flags 0, wire := bit flags 1, tokens := 65536 * min tokens burst,
      carry := 0, last := d.now }) d)

/-- The object's write of one field: tokens accrue at the old RATE; lowering BURST clips them (Table 14-8). -/
def changePolicer (i : Nat) (f : Policer → Policer) (d : Dev) : Dev :=
  unpoison tPolicer i (setPolicer i (fun p =>
    let p := f (accrue d.now p)
    { p with tokens := min p.tokens (p.burst * 65536) }) d)

/-- A profile's policer template is applied to cable port `n` (R517). -/
def applyTemplate (n template : Nat) (d : Dev) : Dev :=
  let obj := 0xA440 + template
  let i := policerCount d - 8 + n
  if cfg d obj 0 = 1 then
    setCfg (0xA000 + 0x40 * n) 5 i
      (writePolicer i (cfg d obj 1) (cfg d obj 2) (1 + 2 * cfg d obj 3) (cfg d obj 2) d)
  else setCfg (0xA000 + 0x40 * n) 5 0xFFFF d

end Sys2Proof.Machine
end

