-- ==== Sys2Proof/Machine/TimeFacts.lean ====
section
/-! DEFINITION. Schedule time, the cycle, the schedule in force, and the codes of the timebase's objects (chapter 10, R357-R359,
R369-R374). -/

namespace Sys2Proof.Machine

/-- The cycle period P in ns (R358). -/
def cyclePeriod (d : Dev) : Nat := cfg d 0x5000 2 * 1000

/-- Schedule time S: the timebase minus SCHED_LAG. -/
def schedNs (d : Dev) : Int := (taiNs d : Int) - d.tm.lag

/-- The offset of S in its cycle, and the schedule cycle count (R358). -/
def cyclePhase (d : Dev) : Nat := (schedNs d % (cyclePeriod d : Int)).toNat
@[inherit_doc cyclePhase] def cycleCount (d : Dev) : Nat := (schedNs d / (cyclePeriod d : Int) % (2 ^ 32 : Int)).toNat

/-- Whether a lag drained at the last cycle start has taken S back before it; the cycle that began then is the present one (R359). -/
def behindStart (d : Dev) : Bool := (cycleCount d + 1) % 2 ^ 32 == d.tm.cycleIndex

/-- Whether a cycle start has come that SCHEDULE_CYCLE_START has not yet taken. -/
def startDue (d : Dev) : Bool := cycleCount d != d.tm.cycleIndex && !behindStart d

/-- How far S is into the cycle that began last, in ns. -/
def cycleInto (d : Dev) : Int := (cyclePhase d : Int) - (if behindStart d then cyclePeriod d else 0)

/-- The timebase comes `ns` further (log entry 2): the local time that this takes at the rate in force passes. -/
def passTai (ns : Nat) (d : Dev) : Dev :=
  let rate : Int := (Config.tickNs : Int) * 2 ^ 32 + d.tm.rateTrim
  elapse (divUp (ns * 2 ^ 32 * Config.tickNs) rate.toNat) d

/-- Time passes until schedule time is `s`, and until the offset in the cycle is `o`, in this cycle or in the next. -/
def passSched (s : Int) (d : Dev) : Dev := if schedNs d < s then passTai (s - schedNs d).toNat d else d
@[inherit_doc passSched] def passCycle (o : Nat) (d : Dev) : Dev :=
  let ph := cyclePhase d
  passTai (if ph < o then o - ph else o + cyclePeriod d - ph) d

/-- Whether an element's writes take effect at a cycle start: the schedule table, the gateway entries, and elements 13-18 of
0x5000 (R346, R350, R372). -/
def shadowed (obj el : Nat) : Bool :=
  (obj == 0x5000 && decide (13 ≤ el)) || (decide (0x5100 ≤ obj) && decide (obj ≤ 0x517F)) ||
  (decide (0x6101 ≤ obj) && decide (obj ≤ 0x6140)) || (decide (0x6180 ≤ obj) && decide (obj ≤ 0x61BF))
    || (decide (0x6400 ≤ obj) && decide (obj ≤ 0x67C0))

/-- An element of the schedule as it is in force. -/
def force (d : Dev) (obj el : Nat) : Nat := (tfind d.tm.inForce (elKey obj el)).getD (odDefault d obj el)

/-- The shadows take effect (R372). -/
def applySchedule (d : Dev) : Dev :=
  { d with tm := { d.tm with inForce := d.od.cfg.filter fun x => shadowed (x.1 / 256) (x.1 % 256) } }

/-- WINDOWS, OPEN_n and CLOSE_n of a port in force (R373). -/
def winCount (d : Dev) (p : Nat) : Nat := force d (0x6400 + 0x40 * p) 0
@[inherit_doc winCount] def winOpenAt (d : Dev) (p n : Nat) : Nat := force d (0x6400 + 0x40 * p) (1 + n)
@[inherit_doc winCount] def winCloseAt (d : Dev) (p n : Nat) : Nat := force d (0x6400 + 0x40 * p) (9 + n)

/-- The longest window of a port. -/
def longestWindow (d : Dev) (p : Nat) : Nat :=
  (List.range (winCount d p)).foldl (fun m n => max m (winCloseAt d p n - winOpenAt d p n)) 0

/-- The time from now to the next OPEN of a port: later in this cycle, or the first of the next. -/
def nextOpenIn (d : Dev) (p : Nat) : Nat :=
  let ph := cyclePhase d
  (List.range (winCount d p)).foldl (fun m n =>
    let o := winOpenAt d p n
    min m (if ph ≤ o then o - ph else o + cyclePeriod d - ph)) (2 * cyclePeriod d)

/-- Epoch stream k. -/
def epochOf (d : Dev) (k : Nat) : Epoch := tget Epoch.reset d.tm.epochs k

/-- Change epoch stream k. -/
def setEpoch (k : Nat) (f : Epoch → Epoch) (d : Dev) : Dev :=
  { d with tm := { d.tm with epochs := tset Epoch.reset d.tm.epochs k (f (epochOf d k)) } }

/-- Change the timebase record. -/
def onTm (f : TimeBase → TimeBase) (d : Dev) : Dev := { d with tm := f d.tm }

/-- The time that `octets` take at `mbps`, in ns, rounded up. -/
def wireNs (octets mbps : Nat) : Nat := if mbps = 0 then 0 else divUp (octets * 8000) mbps

/-- STATE and SOURCE codes of 0x6000. -/
def TimeState.code : TimeState → Nat
  | .freerun => 0 | .locking => 1 | .locked => 2 | .holdover => 3
@[inherit_doc TimeState.code] def TimeSource.code : TimeSource → Nat
  | .ptp => 1 | .ppsIn => 2 | .nguzo => 3

/-- The QUALITY octet of an epoch tag (Table 10-3). -/
def epochQuality (d : Dev) : Nat := d.tm.state.code + (if d.tm.lag = 0 then 0 else 4)

/-- R371: whether an epoch mark due on cable port `p` keeps other frames from starting now. -/
def markGuard (d : Dev) (p mbps : Nat) : Bool :=
  decide (p < 8) && (cable d p).pod == .linkUp && !(swPort d p).fenced &&
  (List.range 16).any fun k =>
    let e := epochOf d k
    e.enabled && e.marks.getLsbD p && decide (e.next - (wireNs 1542 mbps : Int) < schedNs d) && decide (schedNs d ≤ e.next)

end Sys2Proof.Machine
end

