-- ==== Sys2Proof/Machine/Fabric.lean ====
section
/-! DEFINITION. The switch core: cells and accounts, admission, residues, headroom and PAUSE, mirrors, fences and link events,
the scheduler and its shapers (chapter 11, R382-R433; chapter 14, R515, R518-R524). -/

namespace Sys2Proof.Machine

/-! ### Ports (Table 11-1) -/

/-- The object of switch port p, its VLAN and its shaping objects. -/
def portObj (p : Nat) : Nat := 0x7000 + 0x40 * p
@[inherit_doc portObj] def vlanPortObj (p : Nat) : Nat := 0x8000 + 0x40 * p
@[inherit_doc portObj] def shapeObj (p : Nat) : Nat := 0xA000 + 0x40 * p

/-- Whether a port has PAUSE: X0-X3 and H. -/
def hasPause (p : Nat) : Bool := decide (8 ≤ p) && decide (p ≤ 12)

/-- Whether a port's link is up: the internal ports' always is (log entry 12). -/
def linkIsUp (d : Dev) (p : Nat) : Bool := decide (13 ≤ p) || (swPort d p).link

/-- The data rate in force. -/
def portSpeed (d : Dev) (p : Nat) : Nat := if p = 13 ∨ p = 14 then 2000 else if p = 15 then 20000 else (swPort d p).speed

/-- Whether frames may go to or come from a port. -/
def portUp (d : Dev) (p : Nat) : Bool := hasPort d p && linkIsUp d p && cfgOn d (portObj p) 0

/-- MAX_FRAME of a port. -/
def maxFrame (d : Dev) (p : Nat) : Nat := cfg d (portObj p) 5

/-- The ports of a set, rising. -/
def portsOf (m : BitVec 16) : List Nat := (List.range 16).filter fun p => m.getLsbD p

/-- The set of one port. -/
def onePort (p : Nat) : BitVec 16 := BitVec.ofNat 16 (2 ^ p)

/-! ### Cells and accounts (R387-R391) -/

/-- F(p, c). -/
def foldOf (d : Dev) (p c : Nat) : Nat := cfg d (portObj p) (17 + c)

/-- The headroom of a port in force: HEADROOM while PAUSE_TX is 1. -/
def headroomOf (d : Dev) (p : Nat) : Nat := if hasPause p && cfgOn d (portObj p) 8 then cfg d (portObj p) 12 else 0

/-- Cells of all folds and headrooms of present ports. -/
def claimedCells (d : Dev) : Nat :=
  ((portsOf (present d)).map fun p => ((List.range 8).map fun c => foldOf d p c).sum + headroomOf d p).sum

/-- COMMON_SIZE (R387). -/
def commonSize (d : Dev) : Nat := 12288 - 576 - claimedCells d

/-- COMMON_USED (R390). -/
def commonUsed (d : Dev) : Nat := (d.fab.queues.map fun x => x.2.comUse).sum

/-- DEPTH_c of a queue. -/
def depthOf (d : Dev) (p c : Nat) : Nat := (queueOf d p c).foldUse + (queueOf d p c).comUse

/-- The threshold factor of a class, in eighths. -/
def alpha8 (d : Dev) (c : Nat) : Nat := 2 ^ cfg d (0x7400 + c) 0

/-- The admission test of R390 of `n` cells against a fold of `f`: the cells taken from the fold and from common. -/
def admission (d : Dev) (p c n f : Nat) : Option (Nat × Nat) :=
  let q := queueOf d p c
  let a := min n (f - q.foldUse)
  let k := n - a
  if k = 0 then some (a, 0)
  else if 8 * (q.comUse + k : Int) ≤ alpha8 d c * ((commonSize d : Int) - commonUsed d) then some (a, k) else none

/-- Every copy that holds a charge: those queued, and those in transmission. -/
def chargedCopies (d : Dev) : List Copy :=
  (d.fab.queues.flatMap fun x => x.2.copies) ++ d.fab.ports.filterMap fun x => x.2.sending.map (·.2)

/-- U_i: the charge of every copy of a frame received on port i (R417). -/
def ingressUsed (d : Dev) (i : Nat) : Nat :=
  ((chargedCopies d).map fun c => if c.fromPort = i then c.fold + c.common + c.head else 0).sum

/-! ### PAUSE (R417-R421) -/

/-- Send a PAUSE frame and count it. -/
def sendPause (p quanta : Nat) (d : Dev) : Dev := emit (.pause p quanta) (countPort p 9 1 d)

/-- Half the quanta time of a port. -/
def halfQuantaNs (d : Dev) (p : Nat) : Nat :=
  if portSpeed d p = 0 then 0 else cfg d (portObj p) 13 * 256 * 1000 / portSpeed d p

/-- XOFF and XON as the ingress use of a port moves (R417). -/
def pauseCheck (d : Dev) (p : Nat) : Dev :=
  if !(portUp d p && cfgOn d (portObj p) 8) then
    if (swPort d p).xoff then disarm (.pause p) (setSwPort p (fun w => { w with xoff := false }) d) else d
  else
    let u := ingressUsed d p
    if (swPort d p).xoff then
      if u ≤ cfg d (portObj p) 11 then
        disarm (.pause p) (sendPause p 0 (setSwPort p (fun w => { w with xoff := false }) d))
      else d
    else if cfg d (portObj p) 10 ≤ u then
      arm (.pause p) (halfQuantaNs d p) (sendPause p (cfg d (portObj p) 13) (setSwPort p (fun w => { w with xoff := true }) d))
    else d

/-- The test of every port that can pause its partner. -/
def pauseCheckAll (d : Dev) : Dev := [8, 9, 10, 11, 12].foldl pauseCheck d

/-- Half the quanta time has passed with U above XON_CELLS: PAUSE is sent again (R417). -/
def pauseResend (p : Nat) (d : Dev) : Dev :=
  onExpiry (.pause p) (fun d =>
    if (swPort d p).xoff && decide (cfg d (portObj p) 11 < ingressUsed d p) then
      arm (.pause p) (halfQuantaNs d p) (sendPause p (cfg d (portObj p) 13) d)
    else pauseCheck d p) d

/-- A PAUSE is received (R419, R420). -/
def pauseReceived (p quanta : Nat) (d : Dev) : Dev :=
  if hasPause p && portUp d p && cfgOn d (portObj p) 9 then
    let d := countPort p 8 1 d
    if quanta = 0 then disarm (.pauseOff p) (setSwPort p (fun w => { w with pausedUntil := none }) d)
    else
      let ns := if portSpeed d p = 0 then 0 else quanta * 512 * 1000 / portSpeed d p
      arm (.pauseOff p) ns (setSwPort p (fun w => { w with pausedUntil := some (d.now + ns) }) d)
  else setSwPort p (fun w => { w with pauseIgnored := satInc w.pauseIgnored }) d

/-! ### Queues, charges and residues (R397-R401) -/

/-- Put a copy into queue (p, c) with its charges. -/
def enqueue (p c : Nat) (x : Copy) (d : Dev) : Dev :=
  let d := setQueue p c (fun q =>
    { q with copies := q.copies ++ [x], foldUse := q.foldUse + x.fold, comUse := q.comUse + x.common }) d
  let d := setSwPort x.fromPort (fun w => { w with headUse := w.headUse + x.head }) d
  let i := 4 * (8 * p + c) + 3
  if counterOf d 2 i < depthOf d p c then setCounter 2 i (depthOf d p c) d else d

/-- Give back a copy's charges (R391). -/
def giveBack (p c : Nat) (x : Copy) (d : Dev) : Dev :=
  setSwPort x.fromPort (fun w => { w with headUse := w.headUse - x.head })
    (setQueue p c (fun q => { q with foldUse := q.foldUse - x.fold, comUse := q.comUse - x.common }) d)

/-- Whether queue (p, c) holds a residue copy (R398). -/
def holdsResidue (d : Dev) (p c : Nat) : Bool := d.fab.residues.any fun r => r.copies.any fun x => x.port == p && x.cls == c

/-- One residue copy is tested again; a queue already passed over stays blocked (R398, R399). -/
def retestCopy (p c : Nat) (comFell : Bool) (acc : Dev × List (Nat × Nat) × List ResCopy) (x : ResCopy) :
    Dev × List (Nat × Nat) × List ResCopy :=
  let d := acc.1
  let blocked := acc.2.1
  if blocked.contains (x.port, x.cls) then (d, blocked, acc.2.2 ++ [x])
  else
    match if comFell || (x.port == p && x.cls == c) then admission d x.port x.cls x.copy.cells (foldOf d x.port x.cls) else none with
    | some (a, k) => (enqueue x.port x.cls { x.copy with fold := a, common := k } d, blocked, acc.2.2)
    | none => (d, (x.port, x.cls) :: blocked, acc.2.2 ++ [x])

/-- Residue copies are tested again, oldest first, after queue (p, c) releases a charge (R399, R427). -/
def retest (p c : Nat) (comFell : Bool) (d : Dev) : Dev :=
  let r := d.fab.residues.foldl (fun (acc : Dev × List (Nat × Nat) × List Residue) res =>
    let s := res.copies.foldl (retestCopy p c comFell) (acc.1, acc.2.1, [])
    (s.1, s.2.1, if s.2.2 = [] then acc.2.2 else acc.2.2 ++ [{ res with copies := s.2.2 }])) (d, [], [])
  let kept := r.2.2
  let gone := d.fab.residues.filter fun x => !(kept.any fun y => y.frame == x.frame)
  gone.foldl (fun d x => disarm (.residue x.frame) d) (onFab (fun f => { f with residues := kept }) r.1)

/-- A copy's charges are released: residues are tested again, and PAUSE follows (R391, R399, R417). -/
def release (p c : Nat) (x : Copy) (d : Dev) : Dev :=
  pauseCheckAll (retest p c (decide (0 < x.common)) (giveBack p c x d))

/-- A queued copy at the head of queue (p, c) is discarded with a reason; one held for a second pass goes with its list. -/
def dropHead (p c code : Nat) (d : Dev) : Dev :=
  match (queueOf d p c).copies with
  | [] => d
  | x :: rest =>
    let d := onFab (fun f => { f with loop := f.loop.filter fun y => p != 15 || y.frame != x.frame }) d
    release p c x (dropCopy p c code (setQueue p c (fun q => { q with copies := rest }) d))

/-- Every copy of queue (p, c) is discarded with a reason. -/
def dropQueue (p c code : Nat) (d : Dev) : Dev :=
  (List.range (queueOf d p c).copies.length).foldl (fun d _ => dropHead p c code d) d

/-- Every residue copy for a port is dropped with a reason. -/
def dropResidues (p code : Nat) (d : Dev) : Dev :=
  let hit := d.fab.residues.flatMap fun r => r.copies.filter fun x => x.port == p
  let d := hit.foldl (fun d x => dropCopy p x.cls code d) d
  onFab (fun f => { f with residues := (f.residues.map fun r =>
    { r with copies := r.copies.filter fun x => x.port != p }).filter fun r => r.copies ≠ [] }) d

/-- Everything queued to a port goes: its queues and its residue copies. -/
def dropPort (p code : Nat) (d : Dev) : Dev :=
  let d := dropResidues p code d
  (List.range 8).foldl (fun d c => dropQueue p c code d) d

/-- A transmission ends without its frame: the copy's charge is released. -/
def endSending (p : Nat) (d : Dev) : Dev :=
  match (swPort d p).sending with
  | none => d
  | some (c, x) => release p c x (setSwPort p (fun w => { w with sending := none, cutFrom := none }) d)

/-- RESIDUE_TIMEOUT of a frame elapses (R400). -/
def residueTimeout (frame : Nat) (d : Dev) : Dev :=
  onExpiry (.residue frame) (fun d =>
    match d.fab.residues.find? fun r => r.frame == frame with
    | none => d
    | some r =>
      let d := r.copies.foldl (fun d x => dropCopy x.port x.cls 0x0D d) d
      onFab (fun f => { f with residues := f.residues.filter fun x => x.frame != frame }) d) d

/-! ### Fences and links (R422-R426) -/

/-- Whether a fence stops a copy (R414, R424). -/
def fenceStops (d : Dev) (p : Nat) (x : Copy) : Bool := (swPort d p).fenced && (x.mirror || x.fromPort != 13)

/-- The shepherd fences or unfences a cable port: a copy in transmission that the fence stops is ended and counted (R422,
R425). -/
def setFence (p : Nat) (on_ : Bool) (d : Dev) : Dev :=
  let d := setSwPort p (fun w => { w with fenced := on_ }) d
  match (swPort d p).sending with
  | some (c, x) => if on_ && fenceStops d p x then emit (.frameEnd p .errorCode) (endSending p (dropCopy p c 0x0A d)) else d
  | none => d

/-- A port's link goes down, or its ADMIN_ENABLE is written 0: queued and residue copies are dropped, and its learned stations
flushed (R426, R460). -/
def portDown (p : Nat) (d : Dev) : Dev :=
  flushPort p (dropPort p 0x10 (endSending p (disarm (.pauseOff p) (setSwPort p (fun w => { w with pausedUntil := none }) d))))

/-- The link of a port goes down. -/
def linkDown (p : Nat) (d : Dev) : Dev :=
  if (swPort d p).link then portDown p (setSwPort p (fun w => { w with link := false, speed := 0 }) d) else d

/-- The data rates that MODE allows an external port (Table 11-1). -/
def modeAllows (mode mbps : Nat) : Bool :=
  match mode with
  | 1 => mbps == 10 || mbps == 100 || mbps == 1000
  | 2 => mbps == 1000
  | 3 => mbps == 2500
  | 4 => mbps == 1000
  | _ => false

/-- The link of an X port or of H comes up (R426), unless its PHY reports link down (R385). A cable port's link is its pod
link's. -/
def linkUp (p mbps : Nat) (d : Dev) : Dev :=
  if hasPause p && hasPort d p && fabricRuns d && !(swPort d p).phyDown && modeAllows (cfg d (portObj p) 1) mbps
  then setSwPort p (fun w => { w with link := true, speed := mbps }) d
  else d

/-- Auto-negotiation resolves half duplex: the link stays down and HALF_DUPLEX is counted (R382). -/
def halfDuplexEvent (p : Nat) (d : Dev) : Dev :=
  let mode := cfg d (portObj p) 1
  if 8 ≤ p ∧ p ≤ 11 ∧ hasPort d p ∧ cfgOn d (portObj p) 2 ∧ (mode = 1 ∨ mode = 2) then
    setSwPort p (fun w => { w with halfDuplex := satInc w.halfDuplex }) (linkDown p d)
  else d

/-- The 10 ms poll of an external PHY (R385). -/
def phyPoll (p : Nat) (up : Bool) (d : Dev) : Dev :=
  if 8 ≤ p ∧ p ≤ 11 ∧ hasPort d p ∧ cfg d (portObj p) 15 ≠ 0xFF ∧ mgtRuns d then
    let d := emit (.mdio 1 (cfg d (portObj p) 15) (if cfgOn d (portObj p) 16 then 0x10001 else 1)) d
    let d := setSwPort p (fun w => { w with phyDown := !up }) d
    if up then d else linkDown p d
  else d

/-! ### Ageing (R394-R396) -/

/-- Whether a copy is a stray. -/
def isStray (d : Dev) (c : Nat) (x : Copy) : Bool := decide (cfg d (0x7400 + c) 1 * us < d.now - x.stamp)

/-- Whether the head of a queue is a stray. -/
def headIsStray (d : Dev) (k : Nat) : Bool :=
  match (queueOf d (k / 8) (k % 8)).copies with
  | x :: _ => isStray d (k % 8) x
  | [] => false

/-- Strays are discarded from the heads of the queues until no head is one; `n` bounds their number. -/
def sweepHeads : Nat → Dev → Dev
  | 0, d => d
  | n + 1, d =>
    match (List.range 128).find? (headIsStray d) with
    | some k => sweepHeads n (dropHead (k / 8) (k % 8) 0x0F d)
    | none => d

/-- The copies queued, and those that wait in a residue. -/
def waitingCopies (d : Dev) : Nat :=
  (d.fab.queues.map fun q => q.2.copies.length).sum + (d.fab.residues.map fun r => r.copies.length).sum

/-- Every 8 µs the head copies of the 128 queues are tested (R396), those that a release brings in from a residue with them. -/
def ageSweep (d : Dev) : Dev :=
  if !(fabricRuns d || d.boot.leaving) then d else sweepHeads (waitingCopies d) d

/-! ### Mirrors (R412-R416, R430) -/

/-- A copy for mirror session `m`, with the frame as received or transmitted. -/
def mirrorCopy (m : Nat) (o : List Byte) (stamp fromPort : Nat) (d : Dev) : Dev :=
  let obj := 0x7420 + m
  if cfg d obj 0 = 0 then d
  else
    let dest := cfg d obj 3
    let c := cfg d obj 5
    let t := cfg d obj 4
    let o := if t ≠ 0 ∧ t < frameLen o then o.take (t - 4) else o
    let n := cellsOf (frameLen o)
    let fail (d : Dev) : Dev :=
      dropAt dest 0x12 (onFab (fun f => { f with mirDrops := tset 0 f.mirDrops m (satInc (tget 0 f.mirDrops m)) }) d)
    if !portUp d dest || (swPort d dest).fenced then fail d
    else if c = 7 ∧ winCount d dest ≠ 0 ∧ longestWindow d dest < wireNs (frameLen o + 8) (portSpeed d dest) then
      dropCopy dest c 0x0B d
    else
      match admission d dest c n 0 with
      | none => fail d
      | some (_, k) =>
        let id := d.fab.nextFrame
        let x : Copy :=
          { frame := id, cells := n, fold := 0, common := k, head := 0, stamp := stamp, fromPort := fromPort, octets := o,
            tagVid := none, pcp := none, mirror := true, cut := false, punt := none }
        pauseCheckAll (enqueue dest c x (onFab (fun f =>
          { f with nextFrame := id + 1, mirCopies := tset 0 f.mirCopies m (satInc (tget 0 f.mirCopies m)) }) d))

/-- The mirror sessions that take a port's received (1) or transmitted (2) frames. -/
def mirrorsOf (d : Dev) (el p : Nat) : List Nat := [0, 1, 2, 3].filter fun m => bit (cfg d (0x7420 + m) el) p

/-- Ingress or egress mirror copies of a frame. -/
def mirrorAll (el p : Nat) (o : List Byte) (stamp fromPort : Nat) (d : Dev) : Dev :=
  (mirrorsOf d el p).foldl (fun d m => mirrorCopy m o stamp fromPort d) d

/-! ### Egress octets and lengths (R447, R515, R518) -/

/-- Field `i` of a map of three-bit fields (PCP_MAP, PCP_OUT_MAP). -/
def map3 (m i : Nat) : Nat := m / 2 ^ (3 * i) % 8

/-- A copy as it leaves port `p` in class `c`. -/
def egressOctets (d : Dev) (p c : Nat) (x : Copy) : List Byte :=
  match x.tagVid with
  | none => x.octets
  | some vid =>
    if (vlanUntagged (vlanOf d vid)).getLsbD p then untag x.octets
    else
      let kept := isTagged x.octets
      let pcp := match x.pcp with
        | some v => v
        | none => if !kept || cfgOn d (shapeObj p) 3 then map3 (cfg d (shapeObj p) 4) c else tagPcp x.octets
      retag (pcp * 8192 + (if kept && tagDei x.octets then 4096 else 0) + vid) x.octets

/-- ℓ of a transmitted frame in FRAME or WIRE mode (R515). -/
def egressLen (d : Dev) (p : Nat) (wire : Bool) (o : List Byte) : Nat :=
  frameLen o + (if wire then cfg d (shapeObj p) 6 else 0)

/-! ### Shapers (R519-R522) -/

/-- Tokens and carry after one refill. -/
def refillTokens (rate burst : Nat) (tokens : Int) (carry : Nat) : Int × Nat :=
  let num := rate * 65536 + carry
  (min (tokens + (num / 8000 : Nat)) (burst * 65536 : Nat), num % 8000)

/-- The shadows of port `p` take effect at a refill (R521). -/
def applyShapers (p refill : Nat) (d : Dev) : Dev :=
  let obj := shapeObj p
  let d := (List.range 8).foldl (fun d c =>
    setQueue p c (fun q =>
      { q with rate := cfg d obj (19 + c), burst := cfg d obj (27 + c), wire := bit (cfg d obj 35) c,
               tokens := min q.tokens (cfg d obj (27 + c) * 65536 : Nat) }) d) d
  setSwPort p (fun w =>
    { w with rate := cfg d obj 16, burst := cfg d obj 17, wire := cfgOn d obj 18,
             tokens := min w.tokens (cfg d obj 17 * 65536 : Nat), applied := refill }) d

/-- One refill (R519): pending shaper writes take effect, then every shaper that is on gains RATE / 8,000 bytes. -/
def shaperRefill (d : Dev) : Dev :=
  if !(fabricRuns d || d.boot.leaving) || d.fab.resetting then d
  else
    let n := (d.fab.refills + 1) % 2 ^ 32
    let pend := d.fab.pendingShape
    let d := onFab (fun f => { f with refills := n, pendingShape := [] }) d
    let d := pend.foldl (fun d p => applyShapers p n d) d
    onFab (fun f =>
      { f with
        queues := f.queues.map fun x =>
          if x.2.rate = 0 then x
          else
            let r := refillTokens x.2.rate x.2.burst x.2.tokens x.2.carry
            (x.1, { x.2 with tokens := r.1, carry := r.2 })
        ports := f.ports.map fun x =>
          if x.2.rate = 0 then x
          else
            let r := refillTokens x.2.rate x.2.burst x.2.tokens x.2.carry
            (x.1, { x.2 with tokens := r.1, carry := r.2 }) }) d

/-- Whether TC7 of a port is exempt from its shapers (R522). -/
def shaperExempt (d : Dev) (p c : Nat) : Bool := c == 7 && winCount d p != 0

/-- Shaper-ready (R520); a shaper with RATE 0 is off. -/
def shaperReady (d : Dev) (p c : Nat) : Bool :=
  let q := queueOf d p c
  let w := swPort d p
  shaperExempt d p c || ((q.rate == 0 || decide (0 ≤ q.tokens)) && (w.rate == 0 || decide (0 ≤ w.tokens)))

/-- A starting copy is charged to both shapers that are on (R520). -/
def chargeShapers (p c : Nat) (o : List Byte) (d : Dev) : Dev :=
  if shaperExempt d p c then d
  else
    let d := setQueue p c (fun q =>
      if q.rate = 0 then q else { q with tokens := q.tokens - (egressLen d p q.wire o * 65536 : Nat) }) d
    setSwPort p (fun w =>
      if w.rate = 0 then w else { w with tokens := w.tokens - (egressLen d p w.wire o * 65536 : Nat) }) d

/-! ### The scheduler (R402-R405, R419, R428, R429, R523, R524) -/

/-- Whether class `c` may start on port `p` now: inside a window TC7 alone, outside every window the others (R402-R405). -/
def classMayStart (d : Dev) (p c : Nat) : Bool :=
  winCount d p == 0 || (if (swPort d p).openWin.isSome then c == 7 else c != 7)

/-- Whether a copy fits before CLOSE, or before the next OPEN (R402, R403). -/
def copyFits (d : Dev) (p c : Nat) (o : List Byte) : Bool :=
  if winCount d p = 0 then true
  else
    match (swPort d p).openWin with
    | some n => decide (cyclePhase d + wireNs (frameLen o + 8) (portSpeed d p) ≤ winCloseAt d p n)
    | none => c != 7 && decide (wireNs (frameLen o + 20) (portSpeed d p) ≤ nextOpenIn d p)

/-- What the head of a queue would do when selected: `none` when the queue is not eligible, `some false` when the copy is
discarded, `some true` when it is sent. -/
def headState (d : Dev) (p c : Nat) : Option Bool :=
  match (queueOf d p c).copies with
  | [] => none
  | x :: _ =>
    if !classMayStart d p c || !shaperReady d p c then none
    else if fenceStops d p x || isStray d c x then some false
    else if copyFits d p c (egressOctets d p c x) then some true
    else none

/-- The members of the DWRR group of a port, from the highest class number down. -/
def groupOf (d : Dev) (p : Nat) : List Nat := [7, 6, 5, 4, 3, 2, 1, 0].filter fun c => bit (cfg d (shapeObj p) 7) c

/-- The member after `m` in the group's order, wrapping round. -/
def nextMember (g : List Nat) (m : Nat) : Nat := ((g.find? fun c => decide (c < m)).getD (g.headD m))

/-- One DWRR selection (R524): the member that sends, with the deficits it leaves. -/
def dwrr (p : Nat) (g : List Nat) : Nat → Dev → Option Nat × Dev
  | 0, d => (none, d)
  | fuel + 1, d =>
    let w := swPort d p
    let m := w.member
    let d := if (queueOf d p m).copies = [] then setQueue p m (fun q => { q with deficit := 0 }) d else d
    match if g.contains m then headState d p m else none with
    | none => dwrr p g fuel (setSwPort p (fun w => { w with member := nextMember g m, fresh := true }) d)
    | some false => (some m, d)
    | some true =>
      let d := if w.fresh then
          setSwPort p (fun w => { w with fresh := false })
            (setQueue p m (fun q => { q with deficit := q.deficit + cfg d (shapeObj p) (8 + m) * 256 }) d)
        else d
      let len := match (queueOf d p m).copies with
        | x :: _ => egressLen d p w.wire (egressOctets d p m x)
        | [] => 0
      if len ≤ (queueOf d p m).deficit then (some m, setQueue p m (fun q => { q with deficit := q.deficit - len }) d)
      else dwrr p g fuel (setSwPort p (fun w => { w with member := nextMember g m, fresh := true }) d)

/-- The queue that a selection takes (R523): the highest level with an eligible queue, a strict class or the group. -/
def pickQueue (p : Nat) (d : Dev) : Option Nat × Dev :=
  let g := groupOf d p
  let level (c : Nat) : Bool :=
    if g.contains c then c == g.headD 8 && g.any fun m => (headState d p m).isSome else (headState d p c).isSome
  match [7, 6, 5, 4, 3, 2, 1, 0].find? level with
  | none => (none, d)
  | some c => if g.contains c then dwrr p g 4096 d else (some c, d)

/-- A double-bit error in the buffer (R432). -/
def bufferEcc (d : Dev) : Dev := eventAlarm 7 (onFab (fun f => { f with eccDouble := satInc f.eccDouble }) d)

/-- A copy starts on its port: shapers are charged, the copy is counted and mirrored, and its frame leaves. -/
def startCopy (p c : Nat) (x : Copy) (d : Dev) : Dev :=
  let o := egressOctets d p c x
  let d := chargeShapers p c o d
  let d := countTx p c (frameLen o) (frameDa o) d
  let d := if x.cut then countPort p 10 1 d else d
  let d := emit (.frame p o) (setSwPort p (fun w => { w with sending := some (c, x) }) d)
  if x.mirror then d else mirrorAll 2 p o x.stamp x.fromPort d

/-- Whether a port can start a frame now: it sends, is not paused or sending already, and holds no place for an epoch mark
(R371, R419). -/
def canStart (d : Dev) (p : Nat) : Bool :=
  (fabricRuns d || d.boot.leaving) && !d.fab.resetting && p != 15 && portUp d p && (swPort d p).sending.isNone
    && (swPort d p).pausedUntil.isNone && !markGuard d p (portSpeed d p)

/-- One selection on port `p` (R429): the copy is discarded for the fence or for age, or started; an error found in its cells
before the start discards it (R432). -/
def transmitSelect (p : Nat) (ecc : Bool) (d : Dev) : Dev :=
  if !canStart d p then d
  else
    let r := pickQueue p d
    match r.1 with
    | none => d
    | some c =>
      let d := r.2
      match (queueOf d p c).copies with
      | [] => d
      | x :: rest =>
        if fenceStops d p x then dropHead p c 0x0A d
        else if isStray d c x then dropHead p c 0x0F d
        else if ecc then bufferEcc (dropHead p c 0x11 d)
        else startCopy p c x (setQueue p c (fun q => { q with copies := rest }) d)

/-- The last octet of a copy is read for transmission (R391): its charge is released; an error found after the start ends it
(R432). A frame that reaches port M with a reason waits for the sequencer (R502). -/
def copyTransmitted (p : Nat) (ecc : Bool) (d : Dev) : Dev :=
  match (swPort d p).sending with
  | none => d
  | some (c, x) =>
    let d := if ecc then emit (.frameEnd p .errorCode) (bufferEcc (dropCopy p c 0x11 d)) else d
    let d := match x.punt with
      | some pt => if p = 13 ∧ !ecc then onFab (fun f => { f with puntQ := f.puntQ ++ [pt] }) d else d
      | none => d
    endSending p d

/-- The egress of a cut-through frame that has ended at ingress: the copy's charge falls to its own cells, what a lowered fold moved
to common first (R410), and on an error its FCS goes out inverted (R411). -/
def cutEgressEnd (q len : Nat) (bad : Bool) (d : Dev) : Dev :=
  match (swPort d q).sending with
  | none => d
  | some (c, x) =>
    let n := min x.cells (cellsOf len)
    let extra := x.fold + x.common - n
    let com := min x.common extra
    let fold := min x.fold (extra - com)
    let d := setSwPort q (fun w =>
      { w with cutFrom := none, sending := some (c, { x with cells := n, fold := x.fold - fold, common := x.common - com }) })
      (setQueue q c (fun z => { z with foldUse := z.foldUse - fold, comUse := z.comUse - com }) d)
    let d := pauseCheckAll (retest q c (decide (0 < com)) d)
    if bad then emit (.frameEnd q .fcsInverted) (setSwPort q (fun w => { w with cutBad := satInc w.cutBad }) d) else d

/-- A cut-through frame ends at ingress on port `from` (R410, R411): its egress, if the copy still leaves there, follows, and an
error counts RX_ERROR at the ingress. -/
def cutThroughFrameEnd (from_ len : Nat) (bad : Bool) (d : Dev) : Dev :=
  if !(swPort d from_).cutIn then d
  else
    let d := setSwPort from_ (fun w => { w with cutIn := false }) d
    let d := match (List.range 16).find? fun q => (swPort d q).cutFrom == some from_ with
      | some q => cutEgressEnd q len bad d
      | none => d
    if bad then dropAt from_ 0x01 d else d

/-! ### Configuration effects and leaving ACTIVE -/

/-- The excess of a lowered fold moves to common, from the copy in transmission and the head of the queue first (R389, log entry
13). -/
def rechargeList : List Copy → Nat → List Copy
  | [], _ => []
  | x :: l, excess =>
    let take := min x.fold excess
    { x with fold := x.fold - take, common := x.common + take } :: rechargeList l (excess - take)

@[inherit_doc rechargeList] def rechargeFold (p c : Nat) (d : Dev) : Dev :=
  let excess := (queueOf d p c).foldUse - foldOf d p c
  let moved (l : List Copy) : Nat := min excess ((l.map fun x => x.fold).sum)
  let out := match (swPort d p).sending with
    | some (k, x) => if k = c then [x] else []
    | none => []
  let d := match rechargeList out excess with
    | x :: _ => setSwPort p (fun w => { w with sending := some (c, x) }) d
    | [] => d
  setQueue p c (fun q =>
    let all := moved (out ++ q.copies)
    { q with copies := rechargeList q.copies (excess - moved out), foldUse := q.foldUse - all, comUse := q.comUse + all }) d

/-- What is still queued 1 ms after leaving ACTIVE is dropped (R73). -/
def drainDrop (d : Dev) : Dev :=
  (List.range 16).foldl (fun d p => dropPort p 0x13 (endSending p d)) d

end Sys2Proof.Machine
end

