-- ==== Sys2Proof/Machine/Decision.lean ====
section
/-! DEFINITION. The decision of a received frame: MAC checks, fence, VLAN, learning, classification, policing, routing,
destination set, admission, cut-through and mirrors, and the second pass through port L (R384, R393, R408-R420, R441-R451,
R474-R479, R489-R500, R506-R513). -/

namespace Sys2Proof.Machine

/-! ### VLAN and destination (R441-R446) -/

/-- The VID that R446 assigns to a frame whose C-VLAN tag carries `tag`, 0 standing for no tag too; none when the tag or ACCEPT
drops the frame. -/
def assignVid (d : Dev) (p tag : Nat) : Option Nat :=
  let acc := cfg d (vlanPortObj p) 1
  if tag ≠ 0 then if tag = 4095 ∨ acc = 2 then none else some tag
  else if acc = 1 then none else some (cfg d (vlanPortObj p) 0)

/-- How a frame's VLAN ingress test ends (R446, R471). -/
inductive VlanEnd where
  | vid (v : Nat)
  | drop
  | fault
  deriving DecidableEq, Repr

/-- The VLAN ingress test of a frame with that tag. -/
def vlanIngress (d : Dev) (p tag : Nat) : VlanEnd :=
  match assignVid d p tag with
  | none => .drop
  | some v =>
    let e := vlanOf d v
    if poisoned d tVlan v then .fault
    else if !vlanValid e then .drop
    else if cfgOn d (vlanPortObj p) 2 && !(vlanMembers d e).getLsbD p then .drop
    else .vid v

/-- A destination set, and whether the frame is replicated to it. -/
structure Dests where
  ports : BitVec 16
  many  : Bool
  deriving DecidableEq, Repr

/-- The destination set of a bridged frame (R441, R442). -/
def bridgeDests (d : Dev) (vid : Nat) (o : List Byte) : Dests :=
  let e := vlanOf d vid
  let members := vlanMembers d e
  let flood : Dests := ⟨vlanFlood d e, true⟩
  let da := frameDa o
  if da = beNat (baseMac d) then ⟨onePort 13, false⟩
  else if da = broadcastMac then ⟨members, true⟩
  else
    match (stationFind d da (vlanFid e vid)).bind (stationAt d) with
    | none => flood
    | some s =>
      if s.flock then
        let i := s.dest.toNat
        let f := flockOf d i
        if f.valid && !poisoned d tFlock i then ⟨f.members &&& members, true⟩ else flood
      else ⟨onePort (s.dest.toNat % 16) &&& members, false⟩

/-! ### Routing (R474-R479, R489-R491) -/

/-- The VRF of a port, when the frame is addressed to its router (R441, R474). -/
def routerVrf (d : Dev) (p : Nat) (o : List Byte) : Option Nat :=
  let v := cfg d (0x9000 + 0x40 * p) 1
  if hasUnit d 2 && decide (p ≤ 12) && cfgOn d (0x9000 + 0x40 * p) 0 && cfgOn d (0x9400 + v) 0
      && frameDa o == beNat (leBytes 6 (cfg d (0x9400 + v) 1)) && frameDa o != beNat (baseMac d)
  then some v else none

/-- R476: the cause for which a routed frame's header drops it. -/
def headerCause (d : Dev) (o : List Byte) : Option Nat :=
  let ip := framePayload o
  if frameType o = 0x0800 then
    let ihl := oct ip 0 % 16
    let dst := fieldBe ip 16 4
    if oct ip 0 / 16 ≠ 4 ∨ ihl < 5 ∨ ip.length < 4 * ihl ∨ onesFold (sum16 (ip.take (4 * ihl))) ≠ 0xFFFF
        ∨ ip.length < fieldBe ip 2 2 then some causeHdr
    else if dst / 2 ^ 24 = 0 ∨ dst / 2 ^ 24 = 127 ∨ dst / 2 ^ 28 = 14 ∨ dst = 0xFFFFFFFF then some causeUnroutable
    else none
  else
    let dst := fieldBe ip 24 16
    if oct ip 0 / 16 ≠ 6 ∨ ip.length < 40 ∨ ip.length < 40 + fieldBe ip 4 2 then some causeHdr
    else if dst = 0 ∨ dst = 1 ∨ dst / 2 ^ 118 = 0xFE80 / 64 ∨ dst / 2 ^ 120 = 255 ∨ !hasUnit d 3 then some causeUnroutable
    else none

/-- The destination address of a routed packet. -/
def routeDst (o : List Byte) : Nat :=
  if frameType o = 0x0800 then fieldBe (framePayload o) 16 4 else fieldBe (framePayload o) 24 16

/-- The TTL or hop limit. -/
def routeTtl (o : List Byte) : Nat := if frameType o = 0x0800 then oct (framePayload o) 8 else oct (framePayload o) 7

/-- The IP packet with its TTL or hop limit decreased, the IPv4 checksum updated by RFC 1624 (R478). -/
def decTtl (v4 : Bool) (ip : List Byte) : List Byte :=
  if v4 then
    let m := fieldBe ip 8 2
    let m' := m - 256
    let hc := fieldBe ip 10 2
    let hc' := 0xFFFF - onesFold ((0xFFFF - hc) + (0xFFFF - m) + m')
    ip.take 8 ++ beBytes 2 m' ++ beBytes 2 hc' ++ ip.drop 12
  else ip.take 7 ++ leBytes 1 (oct ip 7 - 1) ++ ip.drop 8

/-- The frame rewritten for a next hop (R478). -/
def rewrite (d : Dev) (v : Nat) (h : NextHop) (o : List Byte) : List Byte :=
  let ip := framePayload o
  let head := if isTagged o then (o.drop 12).take 6 else (o.drop 12).take 2
  beBytes 6 h.dmac.toNat ++ leBytes 6 (cfg d (0x9400 + v) 1) ++ head
    ++ (if h.keepTtl then ip else decTtl (frameType o == 0x0800) ip)

/-- Where a routed frame goes. -/
inductive RouteEnd where
  | to (o : List Byte) (vid : Nat) (ports : BitVec 16)
  | drop (cause : Nat)
  | fault
  | again (cands : List Nat)
  deriving DecidableEq, Repr

/-- What a next hop does with a frame of class `c` (R477-R479, R491, R500). -/
def throughHop (d : Dev) (v c nh : Nat) (pcp : Option Nat) (o : List Byte) : RouteEnd :=
  let h := hopOf d nh
  if poisoned d tNextHop nh then .fault
  else if !h.valid || h.drop then .drop causeNhDrop
  else if !h.keepTtl && decide (routeTtl o ≤ 1) then .drop causeTtl
  else
    let o' := rewrite d v h o
    let vid := h.vid.toNat
    let p := h.port.toNat
    let x : Copy := { frame := 0, cells := 0, fold := 0, common := 0, head := 0, stamp := 0, fromPort := 0, octets := o',
                      tagVid := some vid, pcp := pcp, mirror := false, cut := false, punt := none }
    if maxFrame d p < frameLen (egressOctets d p c x) then .drop causeTooBig
    else .to o' vid (onePort p &&& vlanMembers d (vlanOf d vid))

/-- How a lookup's end leads on: a next hop, the VRF's default, or a fault (R481, R489, R500). -/
def afterLookup (d : Dev) (v c : Nat) (pcp : Option Nat) (o : List Byte) (defEl : Nat) : TrieEnd → RouteEnd
  | .hop nh => throughHop d v c nh pcp o
  | .fault => .fault
  | .default =>
    let nh := cfg d (0x9400 + v) defEl
    if nh = 0xFFFF then .drop causeNoRoute else throughHop d v c nh pcp o

/-- The first pass of a routed frame. -/
def routeFirst (d : Dev) (v c : Nat) (pcp : Option Nat) (o : List Byte) : RouteEnd :=
  match headerCause d o with
  | some cause => .drop cause
  | none =>
    if frameType o = 0x0800 then afterLookup d v c pcp o 2 (trieLookup d v (routeDst o))
    else
      match pass6 d v (routeDst o) 6 (candidates6 d v (routeDst o)) with
      | .inl r => afterLookup d v c pcp o 3 r
      | .inr rest => .again rest

/-! ### Admission of a decided frame (R393 step 6, R397-R401, R406, R418) -/

/-- A frame ready for admission. -/
structure Ready where
  octets : List Byte
  vid    : Nat
  cls    : Nat
  pcp    : Option Nat
  inPort : Nat
  stamp  : Nat
  many   : Bool
  punt   : Option Punt
  deriving DecidableEq, Repr

/-- A copy of a frame, charged with nothing yet. -/
def Ready.copy (r : Ready) (frame : Nat) : Copy :=
  { frame := frame, cells := cellsOf (frameLen r.octets), fold := 0, common := 0, head := 0, stamp := r.stamp,
    fromPort := r.inPort, octets := r.octets, tagVid := some r.vid, pcp := r.pcp, mirror := false, cut := false,
    punt := r.punt }

/-- Whether the ingress port's headroom takes a copy that failed (R418). -/
def headroomTakes (d : Dev) (i n : Nat) : Bool :=
  (swPort d i).xoff && decide ((swPort d i).headUse + n ≤ headroomOf d i)

/-- A failing replicated copy joins its frame's residue, or is dropped when no slot is free (R397, R401). -/
def toResidue (q c : Nat) (x : Copy) (d : Dev) : Dev :=
  match d.fab.residues.any fun r => r.frame == x.frame with
  | true => onFab (fun f => { f with residues := f.residues.map fun r =>
      if r.frame == x.frame then { r with copies := r.copies ++ [{ port := q, cls := c, copy := x }] } else r }) d
  | false =>
    if 256 ≤ d.fab.residues.length then dropCopy q c 0x0E d
    else
      let t := cfg d (0x7400 + c) 2 * us
      arm (.residue x.frame) t (onFab (fun f =>
        { f with residues := f.residues ++ [{ frame := x.frame, deadline := d.now + t,
                                              copies := [{ port := q, cls := c, copy := x }] }] }) d)

/-- One destination of a decided frame (R393 step 6, R398, R406, R418). -/
def admitTo (r : Ready) (frame q : Nat) (d : Dev) : Dev :=
  let x := r.copy frame
  let c := r.cls
  if c = 7 ∧ winCount d q ≠ 0 ∧ longestWindow d q < wireNs (frameLen r.octets + 8) (portSpeed d q) then dropCopy q c 0x0B d
  else if r.many && holdsResidue d q c then toResidue q c x d
  else
    match admission d q c x.cells (foldOf d q c) with
    | some (a, k) => enqueue q c { x with fold := a, common := k } d
    | none =>
      if headroomTakes d r.inPort x.cells then enqueue q c { x with head := x.cells } d
      else if r.many then toResidue q c x d
      else dropCopy q c 0x0C d

/-- Step 4 of R393: the set masked to present ports, without the ingress port and ports that are down, and without fenced
ports, each counted FENCED_OUT, unless the frame came from port M. -/
def maskDests (p : Nat) (ports : BitVec 16) (d : Dev) : List Nat × Dev :=
  let l := (portsOf (ports &&& present d)).filter fun q => q != p && portUp d q
  let f := if p = 13 then [] else l.filter fun q => (swPort d q).fenced
  (l.filter fun q => !f.contains q, f.foldl (fun d q => dropAt q 0x0A d) d)

/-- Whether a TC7 unicast copy is cut through (R408), decided when its first 128 octets are usable (R392). -/
def cutsThrough (d : Dev) (r : Ready) (routed policed : Bool) (q : Nat) : Bool :=
  let p := r.inPort
  let sp := portSpeed d p
  let n := cellsOf (maxFrame d q)
  let fits := winCount d q == 0 || (match (swPort d q).openWin with
    | some w => decide (cyclePhase d + wireNs (maxFrame d q + 8) (portSpeed d q) ≤ winCloseAt d q w)
    | none => false)
  r.cls == 7 && !r.many && !routed && !policed && r.punt.isNone && cfgOn d (portObj p) 7 && cfgOn d (portObj q) 7 && decide (p ≤ 12) && decide (q ≤ 12)
    && sp == portSpeed d q && (sp == 1000 || sp == 2500)
    && (queueOf d q 7).copies == [] && canStart d q && fits
    && decide ((queueOf d q 7).foldUse + n ≤ foldOf d q 7)

/-- A cut-through copy is handed to the egress at once, charged ⌈MAX_FRAME / 256⌉ cells of its fold (R409, R410). -/
def cutCopy (r : Ready) (frame q : Nat) (d : Dev) : Dev :=
  let n := cellsOf (maxFrame d q)
  let x := { r.copy frame with cells := n, fold := n, cut := true }
  let d := setQueue q 7 (fun z => { z with foldUse := z.foldUse + n }) d
  let i := 4 * (8 * q + 7) + 3
  let d := if counterOf d 2 i < depthOf d q 7 then setCounter 2 i (depthOf d q 7) d else d
  setSwPort r.inPort (fun w => { w with cutIn := true })
    (setSwPort q (fun w => { w with cutFrom := some r.inPort }) (startCopy q 7 x d))

/-- Steps 4 and 6 of R393 for a frame with its destination set. -/
def finishDecision (r : Ready) (ports : BitVec 16) (routed policed : Bool) (d : Dev) : Dev :=
  let m := maskDests r.inPort ports d
  let d := m.2
  if m.1 = [] then dropAt r.inPort 0x09 d
  else
    let frame := d.fab.nextFrame
    let d := onFab (fun f => { f with nextFrame := frame + 1 }) d
    match m.1 with
    | [q] =>
      if cutsThrough d r routed policed q then cutCopy r frame q d
      else pauseCheckAll (admitTo r frame q d)
    | l => pauseCheckAll (l.foldl (fun d q => admitTo r frame q d) d)

/-- A frame goes to port M with a reason (R490, R500). -/
def puntFrame (r : Ready) (reason v : Nat) (d : Dev) : Dev :=
  let dst := (framePayload r.octets).drop (if frameType r.octets = 0x0800 then 16 else 24)
  let n := if frameType r.octets = 0x0800 then 4 else 16
  let pt : Punt := { reason := reason, vrf := v, family := if n = 4 then 0 else 1, inPort := r.inPort, dst := dst.take n }
  finishDecision { r with punt := some pt, many := false } (onePort 13) true false d

/-- A lookup that met a poisoned or malformed entry (R500). -/
def tableFault (r : Ready) (v : Nat) (d : Dev) : Dev :=
  puntFrame r 2 v (eventAlarm 6 (onRt (fun t => { t with fault := satInc t.fault }) d))

/-- A frame that needs a second pass is admitted to port L with the rest of its list (R490, R499). -/
def toLoop (r : Ready) (v : Nat) (rest : List Nat) (d : Dev) : Dev :=
  let frame := d.fab.nextFrame
  let d := onFab (fun f => { f with nextFrame := frame + 1 }) d
  let x := r.copy frame
  match admission d 15 r.cls x.cells (foldOf d 15 r.cls) with
  | none => dropCopy 15 r.cls 0x0C d
  | some (a, k) =>
    let d := enqueue 15 r.cls { x with fold := a, common := k } d
    let d := onFab (fun f => { f with loop := f.loop ++ [{ frame := frame, cls := r.cls, vrf := v, cands := rest }] }) d
    pauseCheckAll (onRt (fun t => { t with recirculated := satInc t.recirculated }) d)

/-- A routed frame goes where its lookup says; ROUTED counts it when it is forwarded. -/
def routeOn (r : Ready) (v : Nat) (e : RouteEnd) (d : Dev) : Dev :=
  match e with
  | .drop cause => routeDrop r.inPort cause d
  | .fault => tableFault r v d
  | .again rest => toLoop r v rest d
  | .to o vid ports =>
    let d := onRt (fun t => { t with routed := tset 0 t.routed v (satInc (tget 0 t.routed v)) }) d
    finishDecision { r with octets := o, vid := vid, many := false } ports true false d

/-! ### Classification and policing of a frame (R506-R513) -/

/-- DEFAULT_TC and the trusted PCP of a port (R506 steps 1 and 2). -/
def portClass (d : Dev) (p : Nat) (o : List Byte) : Nat :=
  if cfgOn d (shapeObj p) 1 && isTagged o then map3 (cfg d (shapeObj p) 2) (tagPcp o) else cfg d (shapeObj p) 0

/-- COUNT of a rule (R511): mode 0 ALL, 1 PASSED, 2 POLICED. -/
def countRule (r len mode : Nat) (d : Dev) : Dev :=
  if ruleFlag r 6 && ruleCountMode r == mode then
    addCounter 0 (2 * ruleCounter r + 1) len (addCounter 0 (2 * ruleCounter r) 1 d)
  else d

/-- Police a frame by policer `i` (R513-R516, R536): whether it passes, whether it was policed, and the device after. -/
def policeFrame (i p len : Nat) (d : Dev) : Bool × Bool × Dev :=
  let x := policerOf d i
  if i = 0xFFFF then (true, false, d)
  else if poisoned d tPolicer i then
    (false, true, eventAlarm 6 (onCls (fun c => { c with eccDouble := satInc c.eccDouble }) d))
  else if !x.enable then (true, false, d)
  else
    let r := police d.now (len + if x.wire then cfg d (shapeObj p) 6 else 0) x
    (r.1, true, setPolicer i (fun _ => r.2) d)

/-- How classification and policing of a frame end. -/
structure ClassEnd where
  drop    : Nat
  cls     : Nat
  pcp     : Option Nat
  policed : Bool
  mirror  : Option Nat
  deriving DecidableEq, Repr

/-- Classify and police a frame received on ports 0-12; `drop` is 0 when it goes on (R506-R513, R535, R536). -/
def classify (p vid : Nat) (o : List Byte) (d : Dev) : ClassEnd × Dev :=
  let base := portClass d p o
  let len := frameLen o
  match ruleSearch d (leNat (classKey p vid o)) with
  | .poisoned =>
    (⟨0x06, base, none, false, none⟩, eventAlarm 6 (onCls (fun c => { c with eccDouble := satInc c.eccDouble }) d))
  | .none =>
    let r := policeFrame (cfg d (shapeObj p) 5) p len d
    (⟨if r.1 then 0 else 0x07, base, none, r.2.1, none⟩, r.2.2)
  | .rule _ r =>
    let d := countRule r len 0 d
    if ruleFlag r 1 then (⟨0x06, base, none, false, none⟩, d)
    else
      let c := if ruleFlag r 2 then ruleTc r else base
      let pcp := if ruleFlag r 3 then some (rulePcp r) else none
      let m := if ruleFlag r 5 then some (ruleMirror r) else none
      let q := policeFrame (if ruleFlag r 4 then rulePolicer r else cfg d (shapeObj p) 5) p len d
      (⟨if q.1 then 0 else 0x07, c, pcp, q.2.1, m⟩, countRule r len (if q.1 then 1 else 2) q.2.2)

/-! ### The decision (R393) -/

/-- Learning from a frame that passed the fence and the VLAN test (R450). -/
def learnFrom (p vid : Nat) (o : List Byte) (d : Dev) : Dev :=
  let sa := frameSa o
  if isGroup sa || sa == 0 || !vlanLearns (vlanOf d vid) || !cfgOn d (vlanPortObj p) 3 then d
  else offerLearn p sa (vlanFid (vlanOf d vid) vid) d

/-- Whether the destination set of a frame on a fenced port is exactly port M (R423). -/
def fenceAdmits (d : Dev) (p : Nat) (o : List Byte) : Bool :=
  match vlanIngress d p (frameVid o) with
  | .vid v => (routerVrf d p o).isNone && (bridgeDests d v o).ports == onePort 13
  | _ => false

/-- Steps 2 to 6 for a frame that passed the MAC checks; `tc` is the class of a frame from port G (R507). -/
def decideFrame (p tc : Nat) (o : List Byte) (stamp : Nat) (d : Dev) : Dev :=
  let fenced := (swPort d p).fenced
  if fenced && !fenceAdmits d p o then dropAt p 0x03 d
  else
    match vlanIngress d p (frameVid o) with
    | .drop => dropAt p 0x04 d
    | .fault => dropAt p 0x05 d
    | .vid vid =>
      let d := learnFrom p vid o d
      let r := if p = 13 then (⟨0, cfg d 0xA400 0, none, false, none⟩, d)
        else if p = 14 then (⟨0, tc, none, false, none⟩, d)
        else if fenced then ((⟨0, portClass d p o, none, false, none⟩ : ClassEnd), d)
        else classify p vid o d
      let c := r.1
      let d := r.2
      let ready : Ready := { octets := o, vid := vid, cls := c.cls, pcp := c.pcp, inPort := p, stamp := stamp, many := false,
                             punt := none }
      let d := if c.drop ≠ 0 then dropAt p c.drop d
        else
          match routerVrf d p o with
          | some v =>
            if frameType o = 0x0800 ∨ frameType o = 0x86DD then routeOn ready v (routeFirst d v c.cls c.pcp o) d
            else finishDecision ready (onePort 12) false c.policed d
          | none =>
            let b := bridgeDests d vid o
            finishDecision { ready with many := b.many } b.ports false c.policed d
      match c.mirror with
      | some m => mirrorCopy m o stamp p d
      | none => d

/-- MAC Control frames are never forwarded (R420): a PAUSE is acted on or ignored. -/
def macControl (p : Nat) (o : List Byte) (d : Dev) : Dev :=
  if cfgOn d (portObj p) 9 && hasPause p then
    if fieldBe o 14 2 = 1 then pauseReceived p (fieldBe o 16 2) d else d
  else setSwPort p (fun w => { w with pauseIgnored := satInc w.pauseIgnored }) d

/-- A frame received on port `p` is decided (R384, R392, R393): `tc` is the class of a frame from port G. -/
def receiveFrame (p tc : Nat) (o : List Byte) (rxOk : Bool) (stamp : Nat) (d : Dev) : Dev :=
  if !fabricRuns d || p == 15 || !portUp d p then d
  else
    let len := frameLen o
    let d := countRx p len (frameDa o) d
    if d.fab.resetting then dropAt p 0x14 d
    else if maxFrame d p < len then dropAt p 0x02 d
    else if !rxOk || decide (len < 64) then dropAt p 0x01 d
    else
      let d := if frameType o = 0x8808 ∧ !isTagged o then macControl p o d else decideFrame p tc o stamp d
      mirrorAll 1 p o stamp p d

/-- The class that the gateway's FROM_BUS entry gives a frame from port G, by the frame ID of its encapsulation (R343, R507). -/
def gatewayClass (d : Dev) (o : List Byte) : Nat :=
  let id := leNat ((framePayload o).take 2) % 1024
  match (List.range 128).find? fun g => force d (0x5100 + g) 0 == 1 && force d (0x5100 + g) 1 == id && force d (0x5100 + g) 2 == 0 with
  | some g => force d (0x5100 + g) 5
  | none => 0

/-- FRAME_DECISION, with the errors its lookups found. -/
def frameDecision (p : Nat) (o : List Byte) (rxOk : Bool) (firstNs : Nat) (ecc : List EccHit) (d : Dev) : Dev :=
  if !fabricRuns d then d
  else receiveFrame p (gatewayClass d o) o rxOk (min firstNs d.now) (eccFindAll ecc d)

/-! ### The second pass (R490, R498) -/

/-- A frame re-enters at port L and probes the rest of its list; what its queue at port L held is released. -/
def secondPass (ecc : List EccHit) (d : Dev) : Dev :=
  if !fabricRuns d || d.fab.resetting then d
  else
    let d := eccFindAll ecc d
    let pick := pickQueue 15 d
    match pick.1 with
    | none => d
    | some c =>
      let d := pick.2
      match (queueOf d 15 c).copies with
      | [] => d
      | x :: rest =>
        if isStray d c x then dropHead 15 c 0x0F d
        else
          let d := setQueue 15 c (fun q => { q with copies := rest }) d
          let d := mirrorAll 2 15 x.octets x.stamp x.fromPort (countTx 15 c (frameLen x.octets) (frameDa x.octets) d)
          let l := d.fab.loop.find? fun f => f.frame == x.frame
          let d := release 15 c x (onFab (fun f => { f with loop := f.loop.filter fun y => y.frame != x.frame }) d)
          match l with
          | none => d
          | some f =>
            let r : Ready := { octets := x.octets, vid := x.tagVid.getD 0, cls := c, pcp := x.pcp, inPort := x.fromPort,
                               stamp := x.stamp, many := false, punt := none }
            if cfg d (0x9400 + f.vrf) 0 = 0 then routeDrop r.inPort causeUnroutable d
            else
              match pass6 d f.vrf (routeDst x.octets) 6 f.cands with
              | .inr _ => puntFrame r 1 f.vrf d
              | .inl e => routeOn r f.vrf (afterLookup d f.vrf c x.pcp x.octets 3 e) d

/-! ### The frames the device sends itself -/

/-- A tally frame is placed directly in queue (12, TC) (R530). -/
def placeTally (o : List Byte) (d : Dev) : Dev :=
  let c := cfg d 0xB400 8
  let n := cellsOf (frameLen o)
  let frame := d.fab.nextFrame
  match if portUp d 12 then admission d 12 c n (foldOf d 12 c) else none with
  | none => onFab (fun f => { f with tallyLost := satInc f.tallyLost, tallyLostFlag := true }) d
  | some (a, k) =>
    let x : Copy := { frame := frame, cells := n, fold := a, common := k, head := 0, stamp := d.now, fromPort := 13,
                      octets := o, tagVid := none, pcp := none, mirror := false, cut := false, punt := none }
    enqueue 12 c x (onFab (fun f => { f with nextFrame := frame + 1, tallyLostFlag := false }) d)

/-- The octets of one tally frame (R529, Table 14-6). -/
def tallyFrame (d : Dev) (seq part parts set_ flags first count time : Nat) (entries : List Byte) : List Byte :=
  leBytes 6 (cfg d 0xB400 6) ++ baseMac d ++ beBytes 2 (cfg d 0xB400 7)
    ++ leBytes 4 seq ++ leBytes 2 part ++ leBytes 2 parts ++ leBytes 1 set_ ++ leBytes 1 flags ++ leBytes 2 first
    ++ leBytes 2 count ++ leBytes 2 0 ++ leBytes 8 time ++ entries

/-- The captured counters are sent in entry order, part by part; the LOST flag of a frame tells of one dropped before it. -/
def sendParts (seq parts set_ clear time : Nat) : List (Nat × Nat × List Byte) → Nat → Dev → Dev
  | [], _, d => d
  | (first, count, entries) :: l, part, d =>
    let flags := clear + 2 * b2n d.fab.tallyLostFlag
    sendParts seq parts set_ clear time l (part + 1)
      (placeTally (tallyFrame d seq part parts set_ flags first count time entries) d)

/-- One export capture (R529-R532). -/
def tallyCapture (d : Dev) : Dev :=
  let set_ := cfg d 0xB400 2
  let first := cfg d 0xB400 3
  let count := min (cfg d 0xB400 4) (setEntries set_ - first)
  let perEntry := if set_ = 0 then 2 else 1
  let n := min 184 ((maxFrame d 12 - 42) / 8) / perEntry
  let parts := if n = 0 then 0 else divUp count n
  let chunk (i : Nat) : Nat × Nat × List Byte :=
    let k := min n (count - i * n)
    (first + i * n, k, (rangeCounters set_ (first + i * n) k).flatMap fun j => leBytes 8 (counterOf d set_ j))
  let chunks := (List.range parts).map chunk
  let clear := cfg d 0xB400 5
  let time := taiNs d
  let seq := (d.fab.exportSeq + 1) % 2 ^ 32
  let d := onFab (fun f => { f with exportSeq := seq }) d
  let d := if clear = 1 then clearCounters set_ (rangeCounters set_ first count) d else d
  sendParts seq parts set_ clear time chunks 0 d

/-- Every INTERVAL while EXPORT_ENABLE is 1 (R529). -/
def tallyExport (d : Dev) : Dev :=
  onExpiry .exports (fun d =>
    if !cfgOn d 0xB400 0 then d
    else
      let d := if fabricRuns d && !d.fab.resetting then tallyCapture d else d
      arm .exports (cfg d 0xB400 1 * ms) d) d

/-- A write of OP starts an MDIO access (R386). -/
def mdioStart (op : Nat) (d : Dev) : Dev :=
  let devad := cfg d 0x7430 2
  let reg := if cfg d 0x7430 0 = 1 then 0x10000 * devad + cfg d 0x7430 3 else cfg d 0x7430 3
  emit (.mdio op (cfg d 0x7430 1) reg) (onFab (fun f => { f with mdioStatus := 1, mdioOp := op }) d)

/-- The MDIO access completes (R386). -/
def mdioDone (answered : Bool) (data : Nat) (d : Dev) : Dev :=
  if d.fab.mdioStatus ≠ 1 then d
  else if d.fab.mdioOp = 2 then onFab (fun f => { f with mdioStatus := 0 }) d
  else if answered then setCfg 0x7430 4 data (onFab (fun f => { f with mdioStatus := 0 }) d)
  else setCfg 0x7430 4 0xFFFF (onFab (fun f => { f with mdioStatus := 2 }) d)

end Sys2Proof.Machine
end

