-- ==== Sys2Proof/Machine/Timebase.lean ====
section
/-! DEFINITION. The timebase: steps and the schedule lag, sources and their selection, PTP, the pins, the epochs and the egress
windows (chapter 10, R357-R380). -/

namespace Sys2Proof.Machine

/-! ### Steps (R359, R360) -/

/-- Add `delta` ns to the counter; a step is no crossing of a whole second. -/
def stepTime (delta : Int) (d : Dev) : Dev :=
  let d := onTm (fun t => { t with tb := t.tb + BitVec.ofInt 96 (delta * 2 ^ 32) }) d
  onTm (fun t => { t with ppsSecond := taiNs d / sec }) d

/-- R359: a step goes through the lag, so that schedule time does not jump. One that comes in the tick of a cycle start is applied
after that start (R378). -/
def stepThroughLag (delta : Int) (d : Dev) : Dev :=
  let late := if startDue d then delta else 0
  stepTime delta (onTm (fun t => { t with lag := t.lag + delta, lateLag := t.lateLag + late }) d)

/-- R359: what a cycle start leaves of a lag. -/
def drained (busOff : Bool) (lag : Int) : Int :=
  if busOff then 0 else if 0 ≤ lag then lag - min 50 lag else lag + min 50 (-lag)

/-- R359: SCHED_LAG is brought towards 0 at a cycle start, but for a step of that very tick (R378). -/
def lagDrain (d : Dev) : Dev :=
  let busOff := d.ng.chA.state == .off && d.ng.chB.state == .off
  onTm (fun t => { t with lag := drained busOff (t.lag - t.lateLag) + t.lateLag, lateLag := 0 }) d

/-! ### Sources (Table 10-1, R361-R364) -/

/-- A time source from its code in PRIORITY. -/
def sourceOf : Nat → Option TimeSource
  | 1 => some .ptp
  | 2 => some .ppsIn
  | 3 => some .nguzo
  | _ => none

/-- The ranked sources of PRIORITY. -/
def priorities (d : Dev) : List TimeSource :=
  let v := cfg d 0x6010 0
  [v % 16, v / 16 % 16, v / 256 % 16].filterMap sourceOf

/-- Since when a source has been qualified. -/
def qualSince (d : Dev) : TimeSource → Option Nat
  | .ptp => d.tm.qualPtp
  | .ppsIn => d.tm.qualPps
  | .nguzo => d.tm.qualNg

/-- Record since when a source has been qualified. -/
def setQual (s : TimeSource) (q : Option Nat) (d : Dev) : Dev :=
  match s with
  | .ptp => onTm (fun t => { t with qualPtp := q }) d
  | .ppsIn => onTm (fun t => { t with qualPps := q }) d
  | .nguzo => onTm (fun t => { t with qualNg := q }) d

/-- The last phase offset measured against a source, in ns: positive when the timebase is ahead. -/
def offsetOf (d : Dev) : TimeSource → Int
  | .ptp => d.tm.ptpOffset
  | .ppsIn => d.tm.ppsPhase
  | .nguzo => 0

/-- The bound of RATE_TRIM (R357), and the part of it that a slew may use (R362): SLEW_MAX ppm. -/
def trimMax : Nat := 17179869
@[inherit_doc trimMax] def slewTrim (d : Dev) : Nat := min trimMax (cfg d 0x6010 3 * 8 * 2 ^ 32 / 1000000)

/-- The rate that disciplines the timebase is the device's own choice: a free value within its bound (log entry 3). -/
def drawTrim (d : Dev) : Dev :=
  let bound := if d.tm.slewing then slewTrim d else trimMax
  let r := drawFree d
  onTm (fun t => { t with rateTrim := (r.1.toNat % (2 * bound + 1) : Int) - bound }) r.2

/-- The residual offset of the selected source has a new value: LOCKING runs its 16 s below LOCK_LIMIT (R362). -/
def residual (v : Int) (d : Dev) : Dev :=
  if d.tm.state ≠ .locking then d
  else if v.natAbs < cfg d 0x6020 7 then (if armed .lockWait d then d else arm .lockWait (16 * sec) d)
  else disarm .lockWait d

/-- R362: a source is selected; a small offset is slewed, a larger one stepped through the lag. The keepers' rate is that of the bus
arithmetic (R360). -/
def selectSource (s : TimeSource) (d : Dev) : Dev :=
  let off := offsetOf d s
  let d := disarm .lockWait (onTm (fun t =>
    { t with source := some s, everSelected := true, state := .locking, slewing := off.natAbs ≤ cfg d 0x6010 2 }) d)
  if d.tm.slewing then (if s = .nguzo then residual off d else drawTrim (residual off d))
  else residual 0 (stepThroughLag (-off) (onTm (fun t => { t with stepCount := satInc t.stepCount }) d))

/-- R361, R364: no source is qualified. -/
def noSource (d : Dev) : Dev :=
  if d.tm.everSelected then
    let l := d.tm.trimLog.take (cfg d 0x6010 5)
    disarm .lockWait (onTm (fun t =>
      { t with source := none, slewing := false, state := .holdover,
               rateTrim := if l = [] then t.rateTrim else divRound l.sum l.length }) d)
  else onTm (fun t => { t with source := none, state := .freerun }) d

/-- How PRIORITY ranks a source: the lower, the earlier. -/
def rankOf (d : Dev) (s : TimeSource) : Nat := (priorities d).findIdx fun x => x == s

/-- Whether a source has stayed qualified for HOLDOFF. -/
def heldOff (d : Dev) (s : TimeSource) : Bool :=
  match qualSince d s with
  | some t => decide (t + cfg d 0x6010 1 * sec ≤ d.now)
  | none => false

/-- The selected source is gone: the next qualified source, or a higher one that has stayed qualified for HOLDOFF (R361,
R377). -/
def replaceSource (gone : TimeSource) (d : Dev) : Dev :=
  let q := (priorities d).filter fun s => (qualSince d s).isSome
  match (q.find? fun s => decide (rankOf d gone < rankOf d s) || heldOff d s).or q.head? with
  | some s => selectSource s d
  | none => noSource d

/-- Select again after a qualification changed (R361). -/
def reselect (d : Dev) : Dev :=
  match d.tm.source with
  | some s => if (qualSince d s).isSome && (priorities d).contains s then d else replaceSource s d
  | none =>
    match (priorities d).find? fun s => (qualSince d s).isSome with
    | some s => selectSource s d
    | none => d

/-- HOLDOFF_EXPIRY: a source that ranks above the selected one has stayed qualified for HOLDOFF (R361). -/
def holdoffExpiry (d : Dev) : Dev :=
  match d.tm.source with
  | none => d
  | some s =>
    let above := (priorities d).filter fun x => decide (rankOf d x < rankOf d s)
    match above.find? fun x => heldOff d x with
    | some x => selectSource x d
    | none =>
      match above.find? fun x => (qualSince d x).isSome with
      | some x => selectSource x (elapse (((qualSince d x).getD 0) + cfg d 0x6010 1 * sec - d.now) d)
      | none => d

/-- A source qualifies, or is disqualified. A source of higher rank than the selected one waits for HOLDOFF. -/
def qualify (s : TimeSource) (d : Dev) : Dev :=
  if (qualSince d s).isSome then d
  else
    let d := reselect (setQual s (some d.now) d)
    if cfg d 0x6010 1 = 0 then holdoffExpiry d else d
@[inherit_doc qualify] def disqualify (s : TimeSource) (d : Dev) : Dev :=
  if (qualSince d s).isNone then d else reselect (setQual s none d)

/-- LOCK_REACHED: the residual offset stayed below LOCK_LIMIT for 16 s (R362). -/
def lockReached (d : Dev) : Dev :=
  onExpiry .lockWait (fun d =>
    if d.tm.state = .locking then onTm (fun t => { t with state := .locked, slewing := false }) d else d) d

/-- SYNC_MODE (R363): whether the device is an ANCHOR. -/
def isAnchor (d : Dev) : Bool := d.tm.source == some .ptp || d.tm.source == some .ppsIn

/-- TIME_SET (R365): a step to the value written. -/
def timeSetTo (v : Nat) (d : Dev) : Dev :=
  onTm (fun t => { t with timeSet := true, stepCount := satInc t.stepCount }) (stepThroughLag ((v : Int) - taiNs d) d)

/-! ### PPS_IN -/

/-- A rising edge of PPS_IN (Table 10-1, R361, R376). -/
def ppsInEdge (d : Dev) : Dev :=
  if !ttbRuns d || !cfgOn d 0x6030 0 then d
  else
    let t : Int := (taiNs d : Int) - cfg d 0x6030 1
    let second := divRound t sec
    let phase : Int := t - second * sec
    let good : Bool := match d.tm.ppsLast with
      | some l => decide ((d.now : Int) - l - sec ≤ 100000 ∧ (sec : Int) + l - d.now ≤ 100000)
      | none => false
    let outside := decide (100000 < phase.natAbs)
    let d := arm .ppsIn (1100 * ms) (onTm (fun t =>
      { t with ppsLast := some d.now, ppsPhase := phase,
               ppsGood := if good then t.ppsGood + 1 else 1,
               ppsBad := if outside then t.ppsBad + 1 else 0,
               ppsReject := if outside then satInc t.ppsReject else t.ppsReject }) d)
    let d := if d.tm.source = some .ppsIn then drawTrim (residual phase d) else d
    if 3 ≤ d.tm.ppsBad ∧ d.tm.qualPps.isSome then disqualify .ppsIn (onTm (fun t => { t with ppsGood := 0 }) d)
    else if 3 ≤ d.tm.ppsGood ∧ (d.tm.state ≠ .freerun ∨ d.tm.timeSet) then
      qualify .ppsIn (if d.tm.qualPps.isNone then onTm (fun t => { t with ppsBad := 0 }) d else d)
    else d

/-- PPS_IN_TIMEOUT: no edge within 1.1 s of the one before. -/
def ppsInTimeout (d : Dev) : Dev :=
  onExpiry .ppsIn (fun d => disqualify .ppsIn (onTm (fun t => { t with ppsGood := 0, ppsLast := none }) d)) d

/-! ### PTP (R366, R380, Table 10-2): fields by their places in IEEE 1588-2019 (log entry 14) -/

/-- A message's type, domain, flags, correction (2^-16 ns), sequence and timestamp (ns), from the frame that carries it. -/
def ptpType (o : List Byte) : Nat := oct (framePayload o) 0 % 16
@[inherit_doc ptpType] def ptpDomain (o : List Byte) : Nat := oct (framePayload o) 4
@[inherit_doc ptpType] def ptpTwoStep (o : List Byte) : Bool := bit (oct (framePayload o) 6) 1
@[inherit_doc ptpType] def ptpCorrection (o : List Byte) : Int := ofTwos 64 (fieldBe (framePayload o) 8 8)
@[inherit_doc ptpType] def ptpSequence (o : List Byte) : Nat := fieldBe (framePayload o) 30 2
@[inherit_doc ptpType] def ptpStamp (o : List Byte) : Nat :=
  fieldBe (framePayload o) 34 6 * sec + fieldBe (framePayload o) 40 4

/-- The identity of the port that sent a message. -/
def ptpSender (o : List Byte) : List Byte := ((framePayload o).drop 20).take 10

/-- Nanoseconds of a correction field. -/
def correctionNs (o : List Byte) : Int := ptpCorrection o / 65536

/-- PROFILE, its domain, PTP_PORT, and whether a port is in TC_PORTS. -/
def ptpOn (d : Dev) : Bool := cfg d 0x6020 0 != 0
@[inherit_doc ptpOn] def ptpDomainOf (d : Dev) : Nat := if cfg d 0x6020 0 = 2 then 254 else 0
@[inherit_doc ptpOn] def ptpPort (d : Dev) : Nat := cfg d 0x6020 1
@[inherit_doc ptpOn] def isTcPort (d : Dev) (p : Nat) : Bool := bit (cfg d 0x6020 4) p && hasPort d p

/-- Whether PTP acts on messages of a port at all, and whether a frame is a message that it takes: on Layer 2 alone. -/
def ptpActs (d : Dev) (p : Nat) : Bool := ttbRuns d && ptpOn d && decide (8 ≤ p) && decide (p ≤ 12) && hasPort d p
@[inherit_doc ptpActs] def ptpTakes (d : Dev) (p : Nat) (o : List Byte) : Bool := ptpActs d p && frameType o == 0x88F7

/-- The timestamp of an event message that passes a port now: the timebase, within ±4 ns, or ±8 ns on H in RGMII; `err` is by how
much it is off. -/
def stampNow (d : Dev) (p : Nat) (err : Int) : Int :=
  let bound := if p = 12 ∧ cfg d 0x7300 1 = 4 then 8 else 4
  taiNs d + max (-bound) (min bound err)

/-- The PTP record of a port, and its change. -/
def ptpOf (d : Dev) (p : Nat) : PtpPort := tget PtpPort.reset d.tm.ptpPorts p
@[inherit_doc ptpOf] def setPtp (p : Nat) (f : PtpPort → PtpPort) (d : Dev) : Dev :=
  onTm (fun t => { t with ptpPorts := tset PtpPort.reset t.ptpPorts p (f (tget PtpPort.reset t.ptpPorts p)) }) d

/-- The frame with `add` (2^-16 ns) added to its correction field. -/
def addCorrection (add : Int) (o : List Byte) : List Byte :=
  let head := o.length - (framePayload o).length
  o.take (head + 8) ++ beBytes 8 (toTwos 64 (ptpCorrection o + add)) ++ o.drop (head + 16)

/-- The transparent clock passes a Sync on to the other ports of TC_PORTS; its residence time there is not ours to say
(log entry 3). An event message that was not captured goes on without correction (R380). -/
def forwardEvent (p : Nat) (o : List Byte) (captured : Bool) (d : Dev) : Dev :=
  if !isTcPort d p then d
  else
    ((List.range 16).filter fun q => q != p && isTcPort d q && portUp d q && !(swPort d q).fenced).foldl (fun d q =>
      if captured then
        let r := drawFree d
        emit (.frame q (addCorrection ((r.1.toNat % 2 ^ 48 : Int) + (ptpOf d p).peerDelay * 65536) o)) r.2
      else emit (.frame q o) d) d

/-- A measured offset from the master (Table 10-1): 16 within LOCK_LIMIT qualify PTP, one above ten times it ends that. -/
def ptpMeasured (off : Int) (d : Dev) : Dev :=
  let limit := cfg d 0x6020 7
  let ok := decide (off.natAbs ≤ limit)
  let d := onTm (fun t => { t with ptpOffset := off, ptpGood := if ok then t.ptpGood + 1 else 0 }) d
  let d := if d.tm.source = some .ptp then drawTrim (residual off d) else d
  if 10 * limit < off.natAbs then disqualify .ptp d
  else if 16 ≤ d.tm.ptpGood then qualify .ptp d
  else d

/-- Whether the ordinary clock takes a message: on PTP_PORT, in the domain, in SLAVE, from its master. -/
def fromMaster (d : Dev) (p : Nat) (o : List Byte) : Bool :=
  p == ptpPort d && ptpDomain o == ptpDomainOf d && d.tm.ptpSlave && ptpSender o == d.tm.ptpMaster.drop 16

/-- An event message whose timestamp could not be captured is counted and goes on (R380). -/
def notCaptured (p : Nat) (o : List Byte) (d : Dev) : Dev :=
  forwardEvent p o false (onTm (fun t => { t with tsMissed := satInc t.tsMissed }) d)

/-- PTP_SYNC; its receive time is the timebase's, off by no more than the accuracy of the port. -/
def ptpSync (p : Nat) (o : List Byte) (captured : Bool) (err : Int) (d : Dev) : Dev :=
  let rx := stampNow d p err
  if !ptpTakes d p o || ptpType o != 0 then d
  else if !captured then notCaptured p o d
  else
    let d := forwardEvent p o true d
    if !fromMaster d p o then d
    else if ptpTwoStep o then
      onTm (fun t => { t with ptpSyncRx := some (ptpSequence o, rx, correctionNs o) }) d
    else ptpMeasured (rx - ptpStamp o - correctionNs o - (ptpOf d p).peerDelay) d

/-- A peer-delay measurement is complete: half of the round trip less the time in the peer. -/
def setPeerDelay (p : Nat) (round inPeer : Int) (d : Dev) : Dev :=
  setPtp p (fun x => { x with peerDelay := ((round - inPeer) / 2).toNat, reqTx := none, respRx := none }) d

/-- PTP_FOLLOW_UP: Follow_Up of a two-step Sync, or Pdelay_Resp_Follow_Up of a two-step response. -/
def ptpFollowUp (p : Nat) (o : List Byte) (d : Dev) : Dev :=
  if !ptpTakes d p o then d
  else if ptpType o = 0xA then
    let x := ptpOf d p
    match x.reqTx, x.respRx with
    | some t1, some (t4, t2) =>
      if ptpSequence o = x.reqSeq then setPeerDelay p (t4 - t1) (ptpStamp o + correctionNs o - t2) d else d
    | _, _ => d
  else if ptpType o ≠ 8 then d
  else if !fromMaster d p o then d
  else
    match d.tm.ptpSyncRx with
    | some (seq, rx, corr) =>
      if seq = ptpSequence o then
        ptpMeasured (rx - ptpStamp o - correctionNs o - corr - (ptpOf d p).peerDelay)
          (onTm (fun t => { t with ptpSyncRx := none }) d)
      else d
    | none => d

/-- What best master clock selection compares: the grandmaster's figures, the steps removed and the sender, in their order of
precedence. -/
def announceKey (o : List Byte) : List Byte := ((framePayload o).drop 47).take 16 ++ ptpSender o

/-- The device's own figures in that comparison; the spec leaves them to the profile (log entry 14). -/
def ownKey (d : Dev) : List Byte := (List.range 26).map fun i => BitVec.ofNat 8 (Config.openFigure "ptp-dataset" (26 * d.tm.state.code + i))

/-- PTP_ANNOUNCE: the best master is followed on PTP_PORT, and the receipt timeout of three intervals starts again. -/
def ptpAnnounce (p : Nat) (o : List Byte) (d : Dev) : Dev :=
  if !ptpTakes d p o || p != ptpPort d || ptpType o != 0xB || ptpDomain o != ptpDomainOf d then d
  else
    let k := announceKey o
    let better := cfg d 0x6020 2 = 0 ∨ beNat k < beNat (ownKey d)
    if ¬ better then d
    else
      let sameMaster := d.tm.ptpSlave && k.drop 16 == d.tm.ptpMaster.drop 16
      let replaces := !d.tm.ptpSlave || decide (beNat k < beNat d.tm.ptpMaster)
      if sameMaster || replaces then
        arm .announce (3 * sec) (onTm (fun t =>
          { t with ptpSlave := true, ptpMaster := k, ptpGood := if sameMaster then t.ptpGood else 0,
                   ptpSyncRx := if sameMaster then t.ptpSyncRx else none }) d)
      else d

/-- ANNOUNCE_RECEIPT_TIMEOUT: PTP is disqualified, and the port is no slave. -/
def announceTimeout (d : Dev) : Dev :=
  onExpiry .announce (fun d =>
    disqualify .ptp (onTm (fun t => { t with ptpSlave := false, ptpGood := 0, ptpSyncRx := none, ptpMaster := [] }) d)) d

/-- The peer-delay and the other multicast addresses of PTP over Ethernet. -/
def pdelayDa : List Byte := [0x01, 0x80, 0xC2, 0x00, 0x00, 0x0E]
@[inherit_doc pdelayDa] def ptpDa : List Byte := [0x01, 0x1B, 0x19, 0x00, 0x00, 0x00]

/-- The octets of ten that identify a port of the device as a PTP sender; the profile leaves them open. -/
def ownIdentity (d : Dev) (p : Nat) : List Byte :=
  (List.range 8).map (fun i => BitVec.ofNat 8 (Config.openFigure "ptp-clock-identity" (leNat (baseMac d) * 8 + i))) ++ beBytes 2 p

/-- The frame of a PTP message. -/
def ptpFrame (d : Dev) (p : Nat) (da : List Byte) (type flags : Nat) (corr : Int) (seq : Nat) (body : List Byte) : List Byte :=
  da ++ baseMac d ++ beBytes 2 0x88F7
    ++ ([BitVec.ofNat 8 type, 0x12] ++ beBytes 2 (34 + body.length) ++ [BitVec.ofNat 8 (ptpDomainOf d), 0] ++ beBytes 2 flags
        ++ beBytes 8 (toTwos 64 corr) ++ beBytes 4 0 ++ ownIdentity d p ++ beBytes 2 seq ++ [0, 0]) ++ body

/-- A timestamp field of ten octets. -/
def stampOctets (ns : Nat) : List Byte := beBytes 6 (ns / sec) ++ beBytes 4 (ns % sec)

/-- The TLV that PROFILE requires of an Announce (R366): none under IEC/IEEE 61850-9-3; under IEEE C37.238-2017 its own, with values
that are the profile's to say (log entry 14). -/
def profileTlv (d : Dev) : List Byte :=
  if cfg d 0x6020 0 = 2 then
    [0x00, 0x03, 0x00, 0x12, 0x1C, 0x12, 0x9D, 0x00, 0x00, 0x02] ++
      (List.range 12).map fun i => BitVec.ofNat 8 (Config.openFigure "ptp-tlv" (12 * d.tm.state.code + i))
  else []

/-- PDELAY_REQ: a port of TC_PORTS answers, one-step or two-step; how long the answer takes is not ours to say. -/
def pdelayReq (p : Nat) (o : List Byte) (captured : Bool) (err : Int) (d : Dev) : Dev :=
  let rx := (stampNow d p err).toNat
  if !ptpTakes d p o || ptpType o != 2 then d
  else if !captured then notCaptured p o d
  else if !isTcPort d p then d
  else
    let r := drawFree d
    let turn := r.1.toNat % 2 ^ 32
    let d := r.2
    if cfg d 0x6020 3 = 1 then
      emit (.frame p (ptpFrame d p pdelayDa 0xA 0 (ptpCorrection o) (ptpSequence o) (stampOctets (rx + turn) ++ ptpSender o)))
        (emit (.frame p (ptpFrame d p pdelayDa 3 0x0200 0 (ptpSequence o) (stampOctets rx ++ ptpSender o))) d)
    else
      emit (.frame p (ptpFrame d p pdelayDa 3 0 (ptpCorrection o + turn * 65536) (ptpSequence o)
        (stampOctets 0 ++ ptpSender o))) d

/-- PDELAY_RESP: the answer to the port's own request. -/
def pdelayResp (p : Nat) (o : List Byte) (captured : Bool) (err : Int) (d : Dev) : Dev :=
  let x := ptpOf d p
  let rx := stampNow d p err
  if !ptpTakes d p o || ptpType o != 3 then d
  else if !captured then notCaptured p o d
  else if ptpSequence o != x.reqSeq then d
  else
    match x.reqTx with
    | none => d
    | some t1 =>
      if ptpTwoStep o then setPtp p (fun x => { x with respRx := some (rx, ptpStamp o - correctionNs o) }) d
      else setPeerDelay p (rx - t1) (correctionNs o) d

/-- PDELAY_REQ_INTERVAL: every second, each PTP port sends a request. -/
def pdelayReqInterval (p : Nat) (d : Dev) : Dev :=
  onExpiry (.pdelay p) (fun d =>
    if !ptpActs d p || !(isTcPort d p || p == ptpPort d) then d
    else
      let seq := ((ptpOf d p).reqSeq + 1) % 65536
      let d := setPtp p (fun x => { x with reqSeq := seq, reqTx := some (taiNs d), respRx := none }) d
      arm (.pdelay p) sec (emit (.frame p (ptpFrame d p pdelayDa 2 0 0 seq (stampOctets 0 ++ List.replicate 10 0))) d)) d

/-- PTP_MASTER_INTERVAL: every second, a master sends Announce and Sync (R366). -/
def ptpMasterInterval (d : Dev) : Dev :=
  onExpiry .ptpMaster (fun d =>
    if !ptpOn d then d
    else
      let d := arm .ptpMaster sec d
      let p := ptpPort d
      if !ptpActs d p || cfg d 0x6020 2 = 0 || d.tm.ptpSlave then d
      else
        let seq := d.tm.ptpSeq
        let announce := ptpFrame d p ptpDa 0xB 0 0 seq (stampOctets 0 ++ beBytes 3 0 ++ (ownKey d).take 16 ++ [0x20] ++ profileTlv d)
        let sync := ptpFrame d p ptpDa 0 0 0 seq (stampOctets (taiNs d))
        emit (.frame p sync) (emit (.frame p announce) (onTm (fun t => { t with ptpSeq := (seq + 1) % 65536 }) d))) d

/-- A write of PROFILE: its intervals start or stop; PTP off is no slave. -/
def ptpProfileChanged (d : Dev) : Dev :=
  if ptpOn d then
    let d := [8, 9, 10, 11, 12].foldl (fun d p => if armed (.pdelay p) d then d else arm (.pdelay p) sec d) d
    if armed .ptpMaster d then d else arm .ptpMaster sec d
  else
    let d := [8, 9, 10, 11, 12].foldl (fun d p => disarm (.pdelay p) d) d
    disqualify .ptp (disarm .announce (disarm .ptpMaster (onTm (fun t =>
      { t with ptpSlave := false, ptpMaster := [], ptpGood := 0, ptpSyncRx := none }) d)))

/-! ### Pins (R367, R368) -/

/-- PPS_OUT_SECOND: the timebase crossed a whole second. In LOCKED the rate of the second is kept for the mean of R364. -/
def ppsOutSecond (d : Dev) : Dev :=
  if !ttbRuns d then d
  else
    let d := if taiNs d / sec = d.tm.ppsSecond then passTai (sec - taiNs d % sec) d else d
    let s := taiNs d / sec
    let locked := d.tm.state == .locked || d.tm.state == .holdover
    let d := onTm (fun t =>
      { t with ppsSecond := s,
               trimLog := if t.state = .locked then (t.rateTrim :: t.trimLog).take 600 else t.trimLog }) d
    let mode := cfg d 0x6030 2
    if mode = 1 ∨ (mode = 2 ∧ locked) then arm .ppsPulse (cfg d 0x6030 3 * ms) (onTm (fun t => { t with ppsOut := true }) d)
    else d

/-- PPS_OUT and its pulse stop (R367). -/
def ppsOutLow (d : Dev) : Dev := disarm .ppsPulse (onTm (fun t => { t with ppsOut := false }) d)

/-- EPOCH_OUT0 or EPOCH_OUT1 falls, and its pulse stops. -/
def epochOutLow (n : Nat) (d : Dev) : Dev :=
  disarm (.epochPulse n) (onTm (fun t => if n = 0 then { t with epochOut0 := false } else { t with epochOut1 := false }) d)

/-- A pin whose OUTn_STREAM is 0xFF or names a disabled stream stays low (R368). -/
def epochPinsFollow (d : Dev) : Dev :=
  [0, 1].foldl (fun d n =>
    let k := cfg d 0x6030 (5 + n)
    if k < 16 ∧ (epochOf d k).enabled then d else epochOutLow n d) d

/-- PULSE_WIDTH_END. -/
def pulseWidthEnd (pin : PulsePin) (d : Dev) : Dev :=
  match pin with
  | .ppsOut => onExpiry .ppsPulse (onTm fun t => { t with ppsOut := false }) d
  | .epochOut0 => onExpiry (.epochPulse 0) (onTm fun t => { t with epochOut0 := false }) d
  | .epochOut1 => onExpiry (.epochPulse 1) (onTm fun t => { t with epochOut1 := false }) d

/-! ### Epochs (R369-R371) -/

/-- COUNT of a stream at an instant of S: that of the last boundary at or before it (R369). -/
def countAt (e : Epoch) (s : Int) : Nat := (((e.base : Int) + (s - e.anchor) / (e.period : Int)) % (2 ^ 32 : Int)).toNat

/-- A stream placed at an instant of S: its COUNT there, and its first boundary at or after it (R369). -/
def epochPlaced (s : Int) (e : Epoch) : Epoch :=
  { e with count := countAt e s, next := e.anchor - (e.anchor - s) / (e.period : Int) * e.period }

/-- ENABLE of the streams takes effect at a cycle start (R369, R372); a pin whose stream stops falls (R368). -/
def epochEnables (d : Dev) : Dev :=
  epochPinsFollow <| (List.range 16).foldl (fun d k =>
    let on_ := cfgOn d (0x6040 + k) 0
    let e := epochOf d k
    if on_ == e.enabled then d
    else if !on_ then
      setEpoch k (fun e => { e with enabled := false }) d
    else
      let a : Int := cfg d (0x6040 + k) 2 * us
      let p : Nat := cfg d (0x6040 + k) 1 * us
      setEpoch k (fun e =>
        epochPlaced (schedNs d - cycleInto d) { e with enabled := true, anchor := a, base := 0, period := p }) d) d

/-- After a jump of schedule time the streams go on from where it has come (R369). -/
def epochsRebase (d : Dev) : Dev :=
  (List.range 16).foldl (fun d k =>
    if (epochOf d k).enabled then setEpoch k (epochPlaced (schedNs d)) d else d) d

/-- The octets of an epoch mark (Tables 10-3, 10-4). -/
def markOctets (d : Dev) (k count : Nat) (at_ : Int) (period : Nat) : List Byte :=
  [0x03, 0x5A, 0x4F, 0x45, 0x00, BitVec.ofNat 8 k] ++ baseMac d ++ beBytes 2 (cfg d 0x6030 8)
    ++ leBytes 4 count ++ leBytes 1 k ++ leBytes 1 (epochQuality d) ++ leBytes 2 0
    ++ leBytes 8 (toTwos 64 at_) ++ leBytes 4 (period / us) ++ leBytes 26 0

/-- The pin OUTn of a stream rises for the lesser of OUT_WIDTH and half the PERIOD (R368). -/
def epochPin (n k period : Nat) (d : Dev) : Dev :=
  if cfg d 0x6030 (5 + n) ≠ k then d
  else
    arm (.epochPulse n) (min (cfg d 0x6030 7 * us) (period / 2))
      (onTm (fun t => if n = 0 then { t with epochOut0 := true } else { t with epochOut1 := true }) d)

/-- EPOCH_BOUNDARY of stream k (R368-R371): COUNT, the pins, the marks, and a new PERIOD. -/
def epochBoundary (k : Nat) (d : Dev) : Dev :=
  let e := epochOf d k
  if !ttbRuns d || !e.enabled then d
  else
    let d := passSched e.next d
    let count := countAt e e.next
    let p := cfg d (0x6040 + k) 1 * us
    let changed := p != e.period
    let d := setEpoch k (fun e =>
      { e with count := count, anchor := if changed then e.next else e.anchor, base := if changed then count else e.base,
               period := p, next := e.next + p, resub := if changed then e.marks else e.resub }) d
    let d := epochPin 1 k p (epochPin 0 k p d)
    ((List.range 8).filter fun n =>
        e.marks.getLsbD n && (cable d n).pod == .linkUp && !(swPort d n).fenced && fabricRuns d && !d.fab.resetting).foldl
      (fun d n => emit (.frame n (markOctets d k count e.next p)) d) d

/-! ### Windows (R373) -/

/-- Whether window n of a port is open at this phase of the cycle. -/
def windowIsOpen (d : Dev) (p n : Nat) : Bool :=
  decide (n < winCount d p) && decide (winOpenAt d p n ≤ cyclePhase d) && decide (cyclePhase d < winCloseAt d p n)

/-- WINDOW_OPEN and WINDOW_CLOSE. -/
def windowOpen (p n : Nat) (d : Dev) : Dev :=
  if hasPort d p && ttbRuns d && decide (n < winCount d p) then
    setSwPort p (fun w => { w with openWin := some n }) (if windowIsOpen d p n then d else passCycle (winOpenAt d p n) d)
  else d
@[inherit_doc windowOpen] def windowClose (p n : Nat) (d : Dev) : Dev :=
  if (swPort d p).openWin = some n then
    setSwPort p (fun w => { w with openWin := none }) (if windowIsOpen d p n then passCycle (winCloseAt d p n) d else d)
  else d

end Sys2Proof.Machine
end

