-- ==== Sys2Proof/Machine/Nguzo.lean ====
section
/-! DEFINITION. The Nguzo node: frames and their validity, node states, synchronisation arithmetic, the two segments, the clamp,
the guardian and the gateway (chapter 9, R305-R356, R375). -/

namespace Sys2Proof.Machine

/-! ### The node, its channels, and the bus parameters -/

/-- Change the Nguzo record. -/
def onNg (f : Nguzo → Nguzo) (d : Dev) : Dev := { d with ng := f d.ng }

/-- Channel A, or B. -/
def chan (d : Dev) (chB : Bool) : Chan := if chB then d.ng.chB else d.ng.chA

/-- Change a channel. -/
def setChan (chB : Bool) (f : Chan → Chan) (d : Dev) : Dev :=
  onNg (fun n => if chB then { n with chB := f n.chB } else { n with chA := f n.chA }) d

/-- Change both channels. -/
def bothChans (f : Chan → Chan) (d : Dev) : Dev := setChan true f (setChan false f d)

/-- A bus parameter; elements 13-18 as they are in force (R350). -/
def busPar (d : Dev) (el : Nat) : Nat := if 13 ≤ el then force d 0x5000 el else cfg d 0x5000 el

/-- The length of a static slot, of the static segment and of a minislot, in ns. -/
def slotNs (d : Dev) : Nat := busPar d 4 * us
@[inherit_doc slotNs] def staticNs (d : Dev) : Nat := busPar d 3 * slotNs d
@[inherit_doc slotNs] def minislotNs (d : Dev) : Nat := busPar d 8 * us

/-- NIT in macroticks for the parameters of 0x5000 (R317). -/
def nitMt (d : Dev) : Int := (busPar d 2 : Int) - busPar d 3 * busPar d 4 - busPar d 7 * busPar d 8

/-- Whether the device is a keeper, and whether it may send SYNC frames (R375). -/
def isKeeper (d : Dev) : Bool := decide (busPar d 10 ≤ 3)
@[inherit_doc isKeeper] def ownsSyncSlot (d : Dev) : Bool :=
  isKeeper d && force d (0x6100 + busPar d 12) 1 == 1 && force d (0x6100 + busPar d 12) 0 != 0

/-- Whether CHANNELS of a schedule entry includes a channel. -/
def onChannel (channels : Nat) (chB : Bool) : Bool := bit channels (b2n chB)

/-! ### Frames (R307-R314, Tables 9-1, 9-2) -/

/-- One step of the header CRC-8 (R311). -/
def crc8Bits : Nat → Byte → Byte
  | 0, c => c
  | n + 1, c => crc8Bits n (if c.getLsbD 7 then (c <<< 1) ^^^ 0x2F else c <<< 1)

/-- CRC-8 over octets, most significant bit first, initial value and final exclusive-OR 0xFF (R311). -/
def crc8 (o : List Byte) : Byte := (o.foldl (fun c b => crc8Bits 8 (c ^^^ b)) 0xFF) ^^^ 0xFF

/-- The first four header octets (Table 9-2); the flags octet holds SYNC, START, NULL, EPOCH in bits 7 to 4. -/
def headerOctets (id cycle len flags : Nat) : List Byte :=
  [BitVec.ofNat 8 (id / 4), BitVec.ofNat 8 (id % 4 * 64 + cycle / 4), BitVec.ofNat 8 (cycle % 4 * 64 + len % 64),
   BitVec.ofNat 8 flags]

/-- Header, payload and CRC of a frame as they go on the line (R307, R310-R313). -/
def frameOctets (id cycle flags : Nat) (payload : List Byte) : List Byte :=
  let h := headerOctets id cycle (payload.length / 4) flags
  let body := h ++ [crc8 h] ++ payload
  body ++ leBytes 4 (crc32c body).toNat

/-- The header octets a received frame spelled, and its body under the frame CRC. -/
def ngHeader (f : NgFrame) : List Byte :=
  headerOctets f.slotId.toNat f.cycle.toNat f.length.toNat
    (128 * b2n f.sync + 64 * b2n f.start + 32 * b2n f.null + 16 * b2n f.epoch + f.reserved.toNat)

/-- R314. -/
def ngFlagsOk (f : NgFrame) : Bool :=
  (!f.sync || decide (f.slotId.toNat ≤ 64)) && (!f.start || f.sync) &&
  (!f.null || (decide (f.slotId.toNat ≤ 64) && f.payload.all fun b => b == 0))

/-! ### Node states (Table 9-3, R320, R328) -/

/-- Enter LISTEN: the listen timer starts, nothing is sent, every running channel is JOINING. -/
def enterListen (d : Dev) : Dev :=
  let k := if isKeeper d then busPar d 10 else 0
  let d := onNg (fun n => { n with node := .listen, coldCycles := 0, devEven := [], devOdd := [], joinCycle := false,
                                   fullOk := false }) d
  let d := bothChans (fun c => if c.enabled && c.state == .synchronised then { c with state := .joining } else c) d
  arm .listen ((2 + k) * cyclePeriod d) d

/-- Every state leaves for OFF when both channels are disabled or the device leaves ACTIVE. -/
def ngStop (d : Dev) : Dev :=
  let d := onNg (fun n => { n with node := .off, coldCycles := 0, devEven := [], devOdd := [], missing := 0, taken := [],
                                   tripCycles := [] }) d
  disqualify .nguzo (disarm .listen (bothChans (fun c => { c with state := .off }) d))

/-- The state in which an enabled channel starts. -/
def chanStart (d : Dev) : ChanState := if d.ng.node = .synchronised then .recovering else .joining

/-- A pending write of ENABLE_A or ENABLE_B takes effect (R320). -/
def applyEnable (chB v : Bool) (d : Dev) : Dev :=
  let c := chan d chB
  let d := onNg (fun n => if chB then { n with pendEnB := none } else { n with pendEnA := none }) d
  if v == c.enabled then d
  else if v then
    setChan chB (fun c => { c with enabled := true, sawSync := false,
                                   state := if d.ng.node = .off then .off else chanStart d }) d
  else setChan chB (fun c => { c with enabled := false, state := .off }) d

/-- The node follows which channels are enabled and whether the device is ACTIVE (Table 9-3). -/
def nodeFollows (d : Dev) : Dev :=
  let any := d.ng.chA.enabled || d.ng.chB.enabled
  if d.ng.node = .off then
    if any && fabricRuns d then enterListen (bothChans (fun c => if c.enabled then { c with state := .joining } else c) d) else d
  else if any && fabricRuns d then d
  else ngStop d

/-- Both pending writes take effect. -/
def applyEnables (d : Dev) : Dev :=
  let d := match d.ng.pendEnA with
    | some v => applyEnable false v d
    | none => d
  let d := match d.ng.pendEnB with
    | some v => applyEnable true v d
    | none => d
  nodeFollows d

/-- A write of ENABLE_A or ENABLE_B: at once in OFF and LISTEN, otherwise at the next cycle start (R320). -/
def writeEnable (chB v : Bool) (d : Dev) : Dev :=
  let d := onNg (fun n => if chB then { n with pendEnB := some v } else { n with pendEnA := some v }) d
  if d.ng.node = .off ∨ d.ng.node = .listen then applyEnables d else d

/-- The device enters ACTIVE: the enabled channels start. -/
def ngStart (d : Dev) : Dev :=
  applyEnables (onNg (fun n => { n with pendEnA := some (cfgOn d 0x5000 0),
                                        pendEnB := some (cfgOn d 0x5000 1 && hasUnit d 1) }) d)

/-- The node loses sync (R354, R355). -/
def loseSync (d : Dev) : Dev :=
  disqualify .nguzo (enterListen (onNg (fun n => { n with syncLost := satInc n.syncLost, missing := 0 }) d))

/-- LISTEN_TIMEOUT (R328): a node with permission coldstarts; a keeper whose SYNC_SLOT is not its own does not (R375). -/
def listenTimeout (d : Dev) : Dev :=
  onExpiry .listen (fun d =>
    if d.ng.node ≠ .listen then d
    else if cfgOn d 0x5000 11 && (!isKeeper d || ownsSyncSlot d) then
      onNg (fun n => { n with node := .coldstart, coldCycles := 0, coldstartCount := satInc n.coldstartCount }) d
    else enterListen d) d

/-! ### Sending (R322, R324, R329) -/

/-- A frame goes out on a channel. -/
def sendBus (chB : Bool) (id flags : Nat) (payload : List Byte) (d : Dev) : Dev :=
  emit (.nguzo chB (frameOctets id d.ng.cycle.toNat flags payload))
    (setChan chB (fun c => { c with txFrames := satInc c.txFrames }) d)

/-- The TO_BUS buffer of a frame ID, and its change. -/
def busBuffer (d : Dev) (id : Nat) : BusFrame := tget BusFrame.none d.ng.buffers id
@[inherit_doc busBuffer] def setBuffer (id : Nat) (x : BusFrame) (d : Dev) : Dev :=
  onNg (fun n => { n with buffers := tset BusFrame.none n.buffers id x }) d

/-- Whether an enabled gateway entry names a frame ID and a direction, and which. -/
def gatewayEntry (d : Dev) (id dir : Nat) : Option Nat :=
  (List.range 128).find? fun g =>
    force d (0x5100 + g) 0 == 1 && force d (0x5100 + g) 1 == id && force d (0x5100 + g) 2 == dir

/-- Whether a buffer holds a frame completed 2 µs before now or earlier (R345). -/
def bufferReady (d : Dev) (id : Nat) : Bool :=
  (gatewayEntry d id 1).isSome && (busBuffer d id).at_ != 0 && decide ((busBuffer d id).at_ - 1 + 2 * us ≤ d.now)

/-- The flags octet of SYNC, START, NULL and EPOCH. -/
def flagsOf (sync start null epoch : Bool) : Nat := 128 * b2n sync + 64 * b2n start + 32 * b2n null + 16 * b2n epoch

/-- Words of zeros. -/
def nullPayload (d : Dev) : List Byte := List.replicate (4 * busPar d 5) 0

/-- Whether the schedule gives a static slot to the device, and whether it is its SYNC_SLOT. -/
def ownsSlot (d : Dev) (slot : Nat) : Bool :=
  force d (0x6100 + slot) 1 == 1 && decide (1 ≤ slot) && decide (slot ≤ busPar d 3)
@[inherit_doc ownsSlot] def isSyncSlot (d : Dev) (slot : Nat) : Bool := isKeeper d && slot == busPar d 12

/-- Whether the node may send on a channel: SYNCHRONISED there, or in a START cycle of its coldstart (R329, R332). -/
def maySend (d : Dev) (chB : Bool) : Bool :=
  match d.ng.node with
  | .synchronised => (chan d chB).state == .synchronised
  | .coldstart => (chan d chB).enabled && (chan d chB).state == .joining && decide (1 ≤ d.ng.coldCycles) &&
      decide (d.ng.coldCycles ≤ 4)
  | _ => false

/-- The channels on which the device sends in a static slot: its own, while it may send; a coldstarting node in SYNC_SLOT alone. -/
def slotChannels (d : Dev) (slot : Nat) : List Bool :=
  [false, true].filter fun b => ownsSlot d slot && onChannel (force d (0x6100 + slot) 0) b && maySend d b
    && (d.ng.node == .synchronised || isSyncSlot d slot)

/-- STATIC_SLOT_TRANSMIT at the action point of a slot (R322, R329): the gateway's new data, else a NULL frame; SYNC in SYNC_SLOT,
with START during a coldstart. -/
def staticSlotTransmit (slot : Nat) (d : Dev) : Dev :=
  let on_ := slotChannels d slot
  let sync := isSyncSlot d slot
  let start := d.ng.node == .coldstart
  let x := busBuffer d slot
  if on_ = [] then d
  else if bufferReady d slot then
    let d := on_.foldl (fun d b => sendBus b slot (flagsOf sync start false x.epoch) x.payload d) d
    setBuffer slot BusFrame.none (onNg (fun n => { n with toBus := satInc n.toBus }) d)
  else on_.foldl (fun d b => sendBus b slot (flagsOf sync start true false) (nullPayload d) d) d

/-- As many waiting messages as fit one payload, and the rest (R144): each padded to four octets. -/
def packMessages : Nat → List (List Byte) → List Byte × List (List Byte)
  | _, [] => ([], [])
  | room, m :: l =>
    let n := 4 * divUp m.length 4
    if n ≤ room then
      let r := packMessages (room - n) l
      (m ++ List.replicate (n - m.length) 0 ++ r.1, r.2)
    else ([], m :: l)

/-- The dynamic entry that holds a channel's current position (R323). -/
def entryAt (d : Dev) (chB : Bool) : Option Nat :=
  (List.range 64).find? fun i =>
    force d (0x6180 + i) 0 == 1 && onChannel (force d (0x6180 + i) 3) chB && force d (0x6180 + i) 2 == (chan d chB).position

/-- Whether a frame of `words` words that starts at the current minislot's action point ends in time (R316, R324). -/
def dynamicFits (d : Dev) (chB : Bool) (words : Nat) : Bool :=
  decide ((chan d chB).minislot * minislotNs d + busPar d 9 * us + (105 + 32 * words) * 40 + minislotNs d
            ≤ busPar d 7 * minislotNs d)

/-- Whether a frame holds the channel at the current minislot: the position counter has not passed it (R323). -/
def channelHeld (d : Dev) (chB : Bool) : Bool := decide ((chan d chB).minislot * minislotNs d < (chan d chB).busyUntil)

/-- The frame sent holds its channel until its end delimiter has ended and a macrotick more (R323). -/
def holdChannel (chB : Bool) (words : Nat) (d : Dev) : Dev :=
  setChan chB (fun c => { c with busyUntil := c.minislot * minislotNs d + busPar d 9 * us + (105 + 32 * words) * 40 + us }) d

/-- DYNAMIC_FRAME_TRANSMIT at a minislot's action point (R324), on a channel that no frame holds: a ZOP frame for ID 900, else the
gateway's. -/
def dynamicFrameTransmit (chB : Bool) (d : Dev) : Dev :=
  if d.ng.node ≠ .synchronised ∨ (chan d chB).state ≠ .synchronised ∨ channelHeld d chB then d
  else
    match entryAt d chB with
    | none => d
    | some i =>
      let id := force d (0x6180 + i) 1
      if force d (0x6180 + i) 4 = 0 then d
      else if id = 900 then
        let q := if chB then d.ng.zopB else d.ng.zopA
        let r := packMessages 252 q
        let payload := if r.1.length ≤ 248 then r.1 ++ leBytes 4 0 else r.1
        if q = [] ∨ dynamicFits d chB (payload.length / 4) = false then d
        else
          holdChannel chB (payload.length / 4) (sendBus chB 900 0 payload
            (onNg (fun n => if chB then { n with zopB := r.2 } else { n with zopA := r.2 }) d))
      else
        let x := busBuffer d id
        let done := if chB then x.sentB else x.sentA
        if !bufferReady d id || done || !dynamicFits d chB (x.payload.length / 4) then d
        else
          let x' := if chB then { x with sentB := true } else { x with sentA := true }
          let other := onChannel (force d (0x6180 + i) 3) (!chB) && (chan d (!chB)).state == .synchronised
          let emptied := !other || (x'.sentA && x'.sentB)
          let first := !(x.sentA || x.sentB)
          let d := holdChannel chB (x.payload.length / 4) (sendBus chB id (flagsOf false false false x.epoch) x.payload d)
          let d := setBuffer id (if emptied then BusFrame.none else x') d
          if first then onNg (fun n => { n with toBus := satInc n.toBus }) d else d

/-- MINISLOT_BOUNDARY: the position counter rises unless a frame still holds the channel (R323). The command comes at every
minislot boundary at which no received frame is on the line (log entry 4). -/
def minislotBoundary (chB : Bool) (d : Dev) : Dev :=
  if d.ng.node = .off ∨ (chan d chB).enabled = false then d
  else
    setChan chB (fun c =>
      let m := c.minislot + 1
      { c with minislot := m, position := if c.busyUntil ≤ m * minislotNs d then c.position + 1 else c.position }) d

/-! ### Receiving (R315, R327, R330-R333, R338-R343) -/

/-- The test that a frame fails first, as the counter that takes it (R315). -/
inductive FrameFault where
  | coding | hcrc | crc | content | boundary
  deriving DecidableEq, Repr

/-- Count the test a frame failed. -/
def countFault (chB : Bool) (f : FrameFault) (d : Dev) : Dev :=
  setChan chB (fun c =>
    match f with
    | .coding => { c with codingErr := satInc c.codingErr }
    | .hcrc => { c with hcrcErr := satInc c.hcrcErr }
    | .crc => { c with crcErr := satInc c.crcErr }
    | .content => { c with contentErr := satInc c.contentErr }
    | .boundary => { c with boundaryErr := satInc c.boundaryErr }) d

/-- The static slot in which a frame's time reference edge falls, if it falls in the static segment. -/
def slotAt (d : Dev) (f : NgFrame) : Option Nat :=
  if 0 ≤ f.edgeNs ∧ f.edgeNs < staticNs d then some (f.edgeNs.toNat / slotNs d + 1) else none

/-- The tests that need no time and no cycle counter: coding and the two CRCs. -/
def bitFault (f : NgFrame) : Option FrameFault :=
  let h := ngHeader f
  if !f.codingOk then some .coding
  else if crc8 h != f.hcrc then some .hcrc
  else if crc32c (h ++ [f.hcrc] ++ f.payload) != f.crc then some .crc
  else none

/-- The first test a frame fails on a running node (R315, R316, R348). -/
def frameFault (d : Dev) (chB : Bool) (f : NgFrame) : Option FrameFault :=
  match bitFault f with
  | some e => some e
  | none =>
    let id := f.slotId.toNat
    match slotAt d f with
    | some s =>
      if id ≠ s ∨ f.cycle ≠ d.ng.cycle ∨ f.length.toNat ≠ busPar d 5 ∨ ngFlagsOk f = false then some .content
      else
        let start : Int := (s - 1) * slotNs d
        if f.edgeNs ≤ start ∨ start + slotNs d - busPar d 6 * us ≤ f.endNs then some .boundary else none
    | none =>
      let here := match entryAt d chB with
        | some i => force d (0x6180 + i) 1 == id
        | none => false
      if !here || f.cycle != d.ng.cycle || !ngFlagsOk f || decide (id ≤ 64) then some .content
      else if (staticNs d + (busPar d 7 - 1) * minislotNs d : Int) < f.endNs then some .boundary
      else none

/-- A channel's receive delay in force. -/
def delayOf (d : Dev) (chB : Bool) : Nat := busPar d (if chB then 14 else 13)

/-- The deviation of a SYNC frame received in slot `s` (Synchronisation arithmetic). -/
def deviation (d : Dev) (chB : Bool) (s : Nat) (f : NgFrame) : Int :=
  f.edgeNs - ((s - 1) * slotNs d + busPar d 6 * us + 700 + delayOf d chB : Nat)

/-- The SYNC slots heard so far in this cycle, with their deviations; none for an outlier. -/
def heardNow (d : Dev) : List (Nat × Option Int) := if d.ng.cycle.getLsbD 0 then d.ng.devOdd else d.ng.devEven

/-- Whether the node takes SYNC frames from a slot: from the four lowest of the bus, a keeper's own among them (R327). -/
def takesSync (d : Dev) (s : Nat) : Bool :=
  let heard := ((heardNow d).map (·.1)).filter fun x => !isSyncSlot d x
  heard.contains s || decide (heard.length < (if isKeeper d then 3 else 4))

/-- A SYNC frame's deviation enters the correction, or is an outlier (R333); `first` is false for a keeper's later copy. A frame
of a slot that the node does not take is data alone (R327). -/
def useSync (chB : Bool) (s : Nat) (f : NgFrame) (first : Bool) (d : Dev) : Dev :=
  let dev := deviation d chB s f
  let inside := decide (dev.natAbs ≤ busPar d 15)
  if !takesSync d s then d
  else
    let d := setChan chB (fun c => { c with sawSync := c.sawSync || inside }) d
    if !first then d
    else
      let entry := [(s, if inside then some dev else none)]
      let d := onNg (fun n =>
        { n with fullOk := n.fullOk || inside, usedInDouble := n.usedInDouble || inside,
                 devOdd := if n.cycle.getLsbD 0 then n.devOdd ++ entry else n.devOdd,
                 devEven := if n.cycle.getLsbD 0 then n.devEven else n.devEven ++ entry }) d
      if inside then d else setChan chB (fun c => { c with outlier := satInc c.outlier }) d

/-- Integration on a valid SYNC frame in LISTEN (R331, R338, R360): the cycle start is where the frame says it is. An anchor
integrates only on a bus that agrees with its schedule. -/
def integrate (chB : Bool) (s : Nat) (f : NgFrame) (d : Dev) : Dev :=
  let p : Int := cyclePeriod d
  let dev := deviation d chB s f
  let n : Int := (schedNs d - cycleInto d) / p
  let same : Int := (f.cycle.toNat : Int) - n
  let near : Int := n + ((same + 128) % 256 - 128)
  if isAnchor d then
    if dev.natAbs ≤ busPar d 15 ∧ f.cycle.toNat = d.tm.cycleIndex % 256 then
      disarm .listen (onNg (fun x => { x with node := .integrating, cycle := f.cycle, joinCycle := true, fullOk := false }) d)
    else enterListen (onNg (fun x => { x with anchorConflict := satInc x.anchorConflict }) d)
  else
    let d := stepTime (p * (near - n) - dev) d
    disarm .listen (onNg (fun x => { x with node := .integrating, cycle := f.cycle, joinCycle := true, fullOk := false })
      (onTm (fun t => { t with cycleIndex := toTwos 32 near }) (epochsRebase d)))

/-- Whether a frame is a valid SYNC frame to a node that has no cycle yet. -/
def syncInListen (d : Dev) (f : NgFrame) : Bool :=
  (bitFault f).isNone && f.sync && ngFlagsOk f && decide (1 ≤ f.slotId.toNat) && decide (f.slotId.toNat ≤ busPar d 3)
    && f.length.toNat == busPar d 5

/-- What a node without a cycle can still tell of a frame's content (R310, R314, R315). -/
def listenContentOk (d : Dev) (f : NgFrame) : Bool :=
  f.slotId != 0 && ngFlagsOk f &&
  (decide (64 < f.slotId.toNat) || (decide (f.slotId.toNat ≤ busPar d 3) && f.length.toNat == busPar d 5))

/-- TAI of a frame's time reference edge, which the command gives from the start of the cycle. -/
def edgeTai (d : Dev) (f : NgFrame) : Int := (taiNs d : Int) - cycleInto d + f.edgeNs

/-- The Ethernet frame of a bus frame whose edge came at `rx` (R343, Table 9-4), padded to the minimum. -/
def fromBusFrame (d : Dev) (g : Nat) (chB : Bool) (f : NgFrame) (rx : Int) : List Byte :=
  let o := 0x5100 + g
  let enc := leBytes 2 (f.slotId.toNat + 1024 * f.length.toNat) ++ [f.cycle]
    ++ leBytes 1 ((if chB then 2 else 1) + 4 * b2n f.epoch + 8 * b2n f.sync) ++ leBytes 8 (toTwos 64 rx)
    ++ f.payload
  let tci := 8192 * force d o 5 + force d o 4
  let x := leBytes 6 (force d o 3) ++ baseMac d ++ beBytes 2 0x8100 ++ beBytes 2 tci ++ beBytes 2 (cfg d 0x5080 0) ++ enc
  x ++ List.replicate (60 - x.length) 0

/-- The messages packed in a payload, and whether the packing breaks off within one (R144): each by the LENGTH and the tag flag of
its header, padded to four octets, up to a zero SESS word or the end. `n` bounds their number. -/
def unpackMessages : Nat → List Byte → List (List Byte) × Bool
  | 0, _ => ([], false)
  | n + 1, p =>
    let sess := leNat (p.take 2)
    let len := 10 + leNat ((p.drop 8).take 2) + (if bit sess 15 then 8 else 0)
    if sess = 0 then ([], false)
    else if p.length < len then ([], true)
    else
      let r := unpackMessages n (p.drop (4 * divUp len 4))
      (p.take len :: r.1, r.2)

/-- A frame of IDs 901-1023 brings requests to the engine while NGUZO_ZOP is 1 (R144, R326); a broken packing is one malformed
message (R111). -/
def zopFrame (chB : Bool) (f : NgFrame) (d : Dev) : Dev :=
  if !odServes d || cfg d 0x1000 4 != 1 then d
  else
    let r := unpackMessages 64 f.payload
    onOd (fun o => { o with malformed := o.malformed + b2n r.2 })
      (onNg (fun n => { n with inbox := n.inbox ++ r.1.map fun m => { chB := chB, id := f.slotId.toNat, octets := m } }) d)

/-- A copy taken, whose edge came at `rx`, reaches the engine or the gateway (R144, R343). -/
def takenFrame (chB : Bool) (f : NgFrame) (rx : Int) (d : Dev) : Dev :=
  if 901 ≤ f.slotId.toNat then zopFrame chB f d
  else if f.null then d
  else
    match gatewayEntry d f.slotId.toNat 0 with
    | none => d
    | some g =>
      let o := fromBusFrame d g chB f rx
      receiveFrame 14 (force d (0x5100 + g) 5) o true d.now (onNg (fun n => { n with fromBus := satInc n.fromBus }) d)

/-- A copy is taken: what it was built into is kept for the other copy's sake. -/
def takeCopy (chB : Bool) (f : NgFrame) (rx : Int) (d : Dev) : Dev :=
  let from_ := d.fab.nextFrame
  let d := takenFrame chB f rx d
  onNg (fun n =>
    { n with taken := n.taken ++ [{ id := f.slotId.toNat, crc := f.crc, chB := chB, endNs := f.endNs,
                                    built := (from_, d.fab.nextFrame) }] }) d

/-- Whether the schedule assigns a slot or a frame ID to both channels (R339). -/
def assignedAb (d : Dev) (id : Nat) : Bool :=
  if id ≤ 64 then force d (0x6100 + id) 0 == 3
  else (List.range 64).any fun i =>
    force d (0x6180 + i) 0 == 1 && force d (0x6180 + i) 1 == id && force d (0x6180 + i) 3 == 3

/-- The octets of a gateway frame whose FLAGS name both channels (R343). -/
def onBoth (o : List Byte) : List Byte := o.set 21 (BitVec.ofNat 8 (oct o 21 / 4 * 4 + 3))

/-- The frame built of a copy says that both channels brought one (R343). -/
def markBoth (t : Taken) (d : Dev) : Dev :=
  let f (x : Copy) : Copy := if t.built.1 ≤ x.frame ∧ x.frame < t.built.2 then { x with octets := onBoth x.octets } else x
  onFab (fun s =>
    { s with queues := s.queues.map fun q => (q.1, { q.2 with copies := q.2.copies.map f }),
             residues := s.residues.map fun r =>
               { r with copies := r.copies.map fun x => { x with copy := f x.copy } } }) d

/-- The later valid copy is discarded (R339, R340). The frame that the first became is built within 412 ns of its last bit; whether
it was built before this copy arrived is open within that time (R343, log entry 47). -/
def discardCopy (t : Taken) (f : NgFrame) (d : Dev) : Dev :=
  let late := f.endNs - t.endNs
  let r := drawFree d
  let d := if late ≤ 0 then markBoth t d
    else if late ≤ 412 then (if r.1.toNat % 2 = 1 then markBoth t r.2 else r.2)
    else d
  onNg (fun n => { n with dupDiscard := satInc n.dupDiscard,
                          abMismatch := if t.crc = f.crc then n.abMismatch else satInc n.abMismatch }) d

/-- A frame in the dynamic segment, valid or not, has held its channel until its last bit, and a macrotick more (R323). -/
def noteBusy (chB : Bool) (f : NgFrame) (d : Dev) : Dev :=
  let fin := f.endNs.toNat - staticNs d
  setChan chB (fun c => { c with minislot := max c.minislot (fin / minislotNs d), busyUntil := max c.busyUntil (fin + us) }) d

/-- A frame valid on a node that has a cycle: synchronisation, duplicate copies (R339, R340), the engine and the gateway. -/
def validFrame (chB : Bool) (f : NgFrame) (d : Dev) : Dev :=
  let id := f.slotId.toNat
  let other := d.ng.taken.find? fun t => t.id == id && t.chB != chB
  let d := setChan chB (fun c => { c with rxValid := satInc c.rxValid }) d
  let d := match slotAt d f with
    | some s => if f.sync then useSync chB s f other.isNone d else d
    | none => d
  match if assignedAb d id then other else none with
  | some t => discardCopy t f d
  | none => takeCopy chB f (edgeTai d f) d

/-- A coldstarting node meets a conflict (R330). -/
def coldstartAbort (d : Dev) : Dev :=
  enterListen (onNg (fun n => { n with coldstartAbort := satInc n.coldstartAbort }) d)

/-- NGUZO_FRAME_RECEIVED (R315). On a CLAMPED channel reception is ignored; on a RECOVERING one a SYNC frame only counts
towards its recovery. -/
def nguzoFrameReceived (chB : Bool) (f : NgFrame) (d : Dev) : Dev :=
  let c := chan d chB
  if !c.enabled || d.ng.node == .off || c.state == .off || c.state == .clamped then d
  else if c.state = .recovering then
    match slotAt d f with
    | some s =>
      if (frameFault d chB f).isNone ∧ f.sync ∧ (deviation d chB s f).natAbs ≤ busPar d 15 then
        setChan chB (fun c => { c with sawSync := true }) d
      else d
    | none => d
  else if d.ng.node = .listen then
    match bitFault f with
    | some e => countFault chB e d
    | none =>
      if !listenContentOk d f then countFault chB .content d
      else if syncInListen d f then
        let rx := edgeTai d f
        let d := integrate chB f.slotId.toNat f (setChan chB (fun c => { c with rxValid := satInc c.rxValid }) d)
        if d.ng.node = .integrating then takeCopy chB f rx d else d
      else d
  else
    let fault := frameFault d chB f
    let d := if (slotAt d f).isNone then noteBusy chB f d else d
    match fault with
    | some e =>
      let d := countFault chB e d
      match slotAt d f with
      | some s => if d.ng.node = .coldstart ∧ s ≠ busPar d 12 then coldstartAbort d else d
      | none => d
    | none =>
      if d.ng.node = .coldstart ∧ f.start ∧ f.slotId.toNat ≠ busPar d 12 then
        coldstartAbort (setChan chB (fun c => { c with rxValid := satInc c.rxValid }) d)
      else validFrame chB f d

/-! ### The end and the start of a cycle -/

/-- The midpoint of R334. -/
def midpoint (l : List Int) : Option Int :=
  let s := l.mergeSort (fun a b => decide (a ≤ b))
  let k := if 3 ≤ s.length then (s.drop 1).dropLast else s
  match k.head?, k.getLast? with
  | some a, some b => some ((a + b).tdiv 2)
  | _, _ => none

/-- The deviations of a cycle that enter: a keeper's own as 0, and those of the slots taken that are no outliers (R327, R333,
R334). -/
def devSet (d : Dev) (l : List (Nat × Option Int)) : List (Nat × Int) :=
  (if isKeeper d then [(busPar d 12, (0 : Int))] else []) ++
    (l.filter fun x => !isSyncSlot d x.1).filterMap fun x => x.2.map fun v => (x.1, v)

/-- The rate deviations of the keepers used in both cycles (R335). -/
def rateSet (even odd : List (Nat × Int)) : List Int :=
  odd.filterMap fun x => (even.find? fun y => y.1 == x.1).map fun y => x.2 - y.2

/-- RATE_TRIM that makes a cycle last `rate` ns longer (R360). -/
def busTrim (d : Dev) (rate : Int) : Int :=
  let p : Int := cyclePeriod d
  max (-trimMax) (min trimMax (divRound (-8 * rate * 2 ^ 32) (p + rate).toNat))

/-- The correction at the end of an odd cycle (R335-R337, R355, R360). In HOLDOVER the rate is held (R364). -/
def correct (d : Dev) : Dev :=
  let even := devSet d d.ng.devEven
  let odd := devSet d d.ng.devOdd
  let seen := ((even ++ odd).map (·.1)).dedup.length
  let off := midpoint (odd.map (·.2))
  let step := (midpoint (rateSet even odd)).getD 0
  let rate := if 2 < step.natAbs then d.ng.rateCorr + step else d.ng.rateCorr
  let d := onNg (fun n => { n with keepersSeen := seen, offsetCorr := off.getD n.offsetCorr, rateCorr := rate,
                                   devEven := [], devOdd := [] }) d
  let o := off.getD 0
  if busPar d 15 < o.natAbs ∨ busPar d 16 * busPar d 2 / 1000 < rate.natAbs then loseSync d
  else if isAnchor d then d
  else
    let d := stepTime (-o) d
    let d := if d.tm.state = .holdover then d else onTm (fun t => { t with rateTrim := busTrim d rate }) d
    if d.tm.source = some .nguzo then residual o d else d

/-- The end of a double cycle for the source NGUZO and for a follower (Table 10-1, R354). -/
def doubleEnd (d : Dev) : Dev :=
  let used := d.ng.usedInDouble
  let d := onNg (fun n => { n with usedInDouble := false, missing := if used then 0 else n.missing + 1 }) d
  if d.ng.node = .synchronised ∧ used then qualify .nguzo d
  else if busPar d 17 ≤ d.ng.missing then
    let d := disqualify .nguzo d
    if d.ng.node = .synchronised ∧ isKeeper d = false then loseSync d else d
  else d

/-- A RECOVERING channel after its cycle (R353); in LISTEN no cycle can be judged, so it joins again. -/
def recover (d : Dev) (c : Chan) : Chan :=
  if c.state ≠ .recovering then { c with sawSync := false }
  else if d.ng.node = .listen then { c with state := .joining, sawSync := false }
  else if c.sawSync then { c with state := if d.ng.node = .synchronised then .synchronised else .joining, sawSync := false }
  else c

/-- The node becomes SYNCHRONISED, its joining channels with it. -/
def synchronise (d : Dev) : Dev :=
  bothChans (fun c => if c.state = .joining then { c with state := .synchronised } else c)
    (onNg (fun n => { n with node := .synchronised, missing := 0 }) d)

/-- CYCLE_END, once in each cycle: integration, coldstart and recovery are judged, and an odd cycle corrects. -/
def cycleEnd (d : Dev) : Dev :=
  if d.ng.node = .off ∨ d.ng.ended then d
  else
    let d := bothChans (recover d) (onNg (fun n => { n with ended := true }) d)
    let odd := d.ng.cycle.getLsbD 0
    let d :=
      match d.ng.node with
      | .integrating =>
        if d.ng.joinCycle then onNg (fun n => { n with joinCycle := false, fullOk := false }) d
        else if d.ng.fullOk then synchronise d
        else enterListen d
      | .coldstart => if d.ng.coldCycles = 4 then synchronise d else d
      | .synchronised =>
        if odd then correct d
        else
          match midpoint ((devSet d d.ng.devEven).map (·.2)) with
          | some v => onNg (fun n => { n with offsetCorr := v }) d
          | none => d
      | _ => d
    let d := if odd then doubleEnd d else d
    onNg (fun n => { n with fullOk := false }) d

/-- A keeper whose SYNC_SLOT is not its own in the cycle that begins (R375): it is counted, and no longer coldstarts. -/
def lacksSyncSlot (d : Dev) : Dev :=
  let d := onTm (fun t => { t with syncSlotMissing := satInc t.syncSlotMissing }) d
  if d.ng.node = .coldstart then enterListen d else d

/-- The rest of SCHEDULE_CYCLE_START, after the bundles of this cycle have applied: the lag, the shadows, the streams, the
enables, the cycle counter, and a clean sheet for the cycle (R320, R321, R329, R346, R350, R358, R359, R369, R372, R375). -/
def cycleBegin (d : Dev) : Dev :=
  let jumps := d.tm.lag != d.tm.lateLag && d.ng.chA.state == .off && d.ng.chB.state == .off
  let begun := cycleCount d
  let d := lagDrain d
  let d := onTm (fun t => { t with cycleIndex := if jumps then cycleCount d else begun }) d
  let d := applyEnables (epochEnables (applySchedule (if jumps then epochsRebase d else d)))
  let d := if isKeeper d && !ownsSyncSlot d then lacksSyncSlot d else d
  let count := d.tm.cycleIndex % 256
  let runs := d.ng.node != .off
  let d := onNg (fun n =>
    { n with cycle := if runs then BitVec.ofNat 8 count else n.cycle, taken := [], ended := false,
             devEven := if count % 2 = 0 then [] else n.devEven, devOdd := [],
             coldCycles := if n.node ≠ .coldstart then 0
               else if n.coldCycles = 0 then (if count = 0 then 1 else 0) else n.coldCycles + 1 }) d
  bothChans (fun c => { c with position := 0, minislot := 0, busyUntil := 0 }) d

/-! ### The clamp, the guardian, the gateway (R341-R346, R352, R353) -/

/-- CHANNEL_CLAMP: a low has reached 8 macroticks; a line that rises in that very tick is not clamped (R349). -/
def channelClamp (chB rises : Bool) (d : Dev) : Dev :=
  let c := chan d chB
  if rises ∨ d.ng.node = .off ∨ c.enabled = false ∨ c.state = .clamped then d
  else setChan chB (fun c => { c with state := .clamped, clampCount := min (c.clampCount + 1) 0xFFFF, sawSync := false }) d

/-- NIT_PROBE: a line high throughout an NIT. -/
def nitProbe (chB high : Bool) (d : Dev) : Dev :=
  if (chan d chB).state = .clamped ∧ high then setChan chB (fun c => { c with state := .recovering, sawSync := false }) d else d

/-- Whether the guardian's gate of a channel is open `at_` ns after the cycle start (R341): from the action point of an own static
slot to the close of its window, and from the action point of a minislot of an own position to one minislot before the end of the
dynamic segment; never before the node may send. -/
def guardOpen (d : Dev) (chB : Bool) (at_ : Nat) : Bool :=
  maySend d chB &&
  if at_ < staticNs d then
    let into := at_ % slotNs d
    (slotChannels d (at_ / slotNs d + 1)).contains chB && decide (busPar d 6 * us ≤ into)
      && decide (into ≤ slotNs d - busPar d 6 * us)
  else
    let c := chan d chB
    let own (p : Nat → Bool) : Bool := (List.range 64).any fun i =>
      force d (0x6180 + i) 0 == 1 && force d (0x6180 + i) 4 == 1 && onChannel (force d (0x6180 + i) 3) chB
        && p (force d (0x6180 + i) 2)
    d.ng.node == .synchronised && decide (at_ + minislotNs d ≤ staticNs d + busPar d 7 * minislotNs d) &&
    (own (fun p => decide (p < c.position)) ||
     (own (fun p => p == c.position) &&
       (channelHeld d chB || decide (staticNs d + c.minislot * minislotNs d + busPar d 9 * us ≤ at_))))

/-- GUARD_TRIP: NGx_TXEN is high `at_` ns after the cycle start. With its gate closed the guardian forces it low; each such cut
counts, and GUARD_TRIPS of them within 64 cycles send the node to LISTEN (R341, R342). -/
def guardTrip (chB : Bool) (at_ : Nat) (d : Dev) : Dev :=
  if d.ng.node = .off ∨ (chan d chB).enabled = false ∨ guardOpen d chB at_ then d
  else
    let now := d.tm.cycleIndex
    let recent := (d.ng.tripCycles.filter fun x => decide ((now + 2 ^ 32 - x) % 2 ^ 32 < 64)) ++ [now]
    let d := onNg (fun n => { n with guardTrip := satInc n.guardTrip, tripCycles := recent }) d
    if busPar d 18 ≤ recent.length ∧ d.ng.node = .synchronised then
      enterListen (onNg (fun n => { n with tripCycles := [] }) d)
    else d

/-- GATEWAY_TO_BUS: a frame delivered to port G is taken into its buffer, or dropped (R344, R345). A buffer's `at_` is 1 more
than the time of its completion, 0 when it is empty. -/
def gatewayToBus (o : List Byte) (d : Dev) : Dev :=
  if !fabricRuns d then d
  else
    let b := framePayload o
    let id := leNat (b.take 2) % 1024
    let words := leNat (b.take 2) / 1024
    let fits := decide (12 + 4 * words ≤ b.length) && (decide (64 < id) || words == busPar d 5)
    if frameType o = cfg d 0x5080 0 ∧ (gatewayEntry d id 1).isSome ∧ fits then
      let full := (busBuffer d id).at_ != 0
      let d := if full then onNg (fun n => { n with overwritten := satInc n.overwritten }) d else d
      setBuffer id { payload := (b.drop 12).take (4 * words), epoch := bit (oct b 3) 2, at_ := d.now + 1, sentA := false,
                     sentB := false } d
    else dropAt 14 0x15 (onNg (fun n => { n with toBusDrop := satInc n.toBusDrop }) d)

end Sys2Proof.Machine
end

