-- ==== Sys2Proof/Machine/Sessions.lean ====
section
/-! DEFINITION. Closing a session, which the cable plane does too (R117, R118, R135). -/

namespace Sys2Proof.Machine

/-- The session's open bundle is discarded; BUNDLE_STATE and its companions read 0 (R135). -/
def discardBundle (s : Nat) (d : Dev) : Dev :=
  if (sessionOf d s).bundle.isSome then
    disarm (.bundle s)
      (setSession s (fun x => { x with bundle := none, bState := 0, bApply := 0, bResult := 0, bFail := 0 }) d)
  else d

/-- A session's subscriptions and open bundle are discarded (R117, R118). -/
def dropSessionState (s : Nat) (d : Dev) : Dev :=
  let d := discardBundle s d
  let d := onOd (fun o => { o with subs := o.subs.filter fun x => x.sess ≠ s }) d
  { d with timers := d.timers.filter fun t => match t.1 with
      | .notify s' _ _ => s' != s
      | _ => true }

/-- A session closes (R117): its subscriptions and open bundle go; a scheduled bundle still applies. -/
def closeSession (s : Nat) (d : Dev) : Dev :=
  let d := dropSessionState s d
  let d := disarm (.sessionIdle s) (disarm (.nonce s) d)
  setSession s (fun x => { Session.fresh with lastVia := x.lastVia, clientId := x.clientId, highest := x.highest }) d

end Sys2Proof.Machine
end

