-- ==== Sys2Proof/Machine/Ledger.lean ====
section
/-! DEFINITION. The shepherd's ledger and what it does to a port: entries and FREE, the fence, turning a port's power on and
off, and shedding one port (R18, R227, R272-R293). -/

namespace Sys2Proof.Machine

/-- Change the shepherd. -/
def onShep (f : Shepherd → Shepherd) (d : Dev) : Dev := { d with shep := f d.shep }

/-- Object numbers of cable port `n`: attach, contract, power path. -/
def cableObj (n : Nat) : Nat := 0x2000 + 0x40 * n
@[inherit_doc cableObj] def contractObj (n : Nat) : Nat := 0x3000 + 0x40 * n
@[inherit_doc cableObj] def pathObj (n : Nat) : Nat := 0x4000 + 0x40 * n

/-- Whether boot has reached READY: profiles, slots and sourcing wait for it (R96). -/
def isReady (d : Dev) : Bool := decide (d.boot.stage = .ready)

/-- Whether boot policy HALT is in force (Table 3-9): IDLE, no port sources, C0 and C1 sink up to vSafe5V at 1.5 A. -/
def isHalted (d : Dev) : Bool := decide (d.boot.stage = .halt)

/-- Whether the domains of IDLE run: the PD engines, the power path and the timebase (Table 3-1), from READY or in HALT. -/
def planesRun (d : Dev) : Bool := isReady d || isHalted d

/-- Whether cable port `n` is present, its balls are its own (R34) and its engines run; in HALT C0 and C1 alone are used. -/
def portRuns (d : Dev) (n : Nat) : Bool :=
  planesRun d && hasPort d n && !portHeld d n && (isReady d || decide (n < 2))

/-- The WET state and the count of dry checks after a reading of `r` kΩ: WET below the threshold, and no longer WET after three
checks in a row above 2,000 kΩ (R199, R200). -/
def wetNext (wetKohm r : Nat) (wet : Bool) (dry : Nat) : Bool × Nat :=
  if r < wetKohm then (true, 0)
  else if !wet || r ≤ 2000 then (wet, 0)
  else if dry < 2 then (true, dry + 1)
  else (false, 0)

/-- What the CC lines present without their domain (R67, R68, chapter 3, Dead-battery behaviour): Rd on C0 and C1, nothing on
C2-C7. -/
def presentUnpowered (d : Dev) : Dev :=
  (List.range 8).foldl (fun d n => emit (.cc (Fin.ofNat 8 n) (if n < 2 then 1 else 0)) d) d

/-- PRE_ID_ALLOWANCE. -/
def preId (d : Dev) : Nat := cfg d 0x2300 3

/-- The effective ceiling of a port: that of the profile in force, PRE_ID_ALLOWANCE before identification, the thermal
ceiling, and 0 while it is WET (chapter 7, Building the source offer; R201). -/
def ceilingOf (d : Dev) (n : Nat) : Nat :=
  let c := cable d n
  let base := c.ceiling.getD (preId d)
  let therm := min base (c.thermCeil.getD base)
  if c.guard = .wet then 0 else therm

/-! ### The ledger (R284, Table 8-2) -/

/-- Power that VCONN of one port takes while it is on (R202). -/
def vconnMw (c : Cable) : Nat := if c.vconn = 1 then 1000 else 0

/-- The outflow of a cable port: its source booking, what a swap to source has been admitted for, and its VCONN. -/
def portOut (c : Cable) : Nat := (if c.powerRole = .source then c.booked else 0) + c.reserved + vconnMw c

/-- The inflow of a sink port, no more than its thermal sink ceiling. -/
def portIn (c : Cable) : Nat := if c.powerRole = .sink then min c.booked (c.sinkCeil.getD c.booked) else 0

/-- The inflow of the two sink ports. -/
def sinkInflow (d : Dev) : Nat := portIn (cable d 0) + portIn (cable d 1)

/-- Total inflow, total outflow, and FREE. -/
def inflow (d : Dev) : Nat := sinkInflow d + cfg d 0x4200 3
@[inherit_doc inflow] def outflow (d : Dev) : Nat :=
  cfg d 0x4200 5 + cfg d 0x4200 4 + ((List.range 8).map fun n => portOut (cable d n)).sum
    + ((List.range 4).map fun s => (slotOf d s).booked).sum
@[inherit_doc inflow] def ledgerFree (d : Dev) : Int := (inflow d : Int) - outflow d

/-- Whether a cable port is sourcing: a candidate for a shed (R289). -/
def sourcing (c : Cable) : Bool := c.powerRole == .source && (c.gateOn || decide (c.booked ≠ 0))

/-- Whether a cable port is shed. -/
def isShed (c : Cable) : Bool := c.path == .shed

/-- LEDGER_DEFICIT: FREE is negative, and no sourcing port is left to shed (R291). -/
def deficitNow (d : Dev) : Bool :=
  decide (ledgerFree d < 0) && !((List.range 8).any fun n => sourcing (cable d n) && !isShed (cable d n))

/-- Something happened that starts a shepherd step (R288); the step is late 2 ms after its event (Table 1-4, R26). -/
def needStep (d : Dev) : Dev :=
  if d.shep.stepDue then d else arm .overrun (2 * ms) (onShep (fun s => { s with stepDue := true, shedEventAt := d.now }) d)

/-- Set a port's booking as a source or its inflow as a sink; an inflow that falls starts a step (R288). -/
def setBooked (n mw : Nat) (d : Dev) : Dev :=
  let c := cable d n
  let d' := setCable n (fun c => { c with booked := mw }) d
  if c.powerRole == .sink && decide (mw < c.booked) then needStep d' else d'

/-! ### Gates, converter and discharge (R272-R283) -/

/-- Cn_VCTL in µV for a target VBUS in mV, and Cn_ILIM in µV for a current in mA (R273). -/
def vctlOf (mv : Nat) : Nat := mv * 50
@[inherit_doc vctlOf] def ilimOf (ma : Nat) : Nat := ma * 250

/-- The converter's references, uncorrected. -/
def setConverter (n mv ma : Nat) (d : Dev) : Dev :=
  setCable n (fun c => { c with vctl := vctlOf mv, ilim := ilimOf ma, vcorr := 0 }) d

/-- A check of the guard is due at once; one that runs is abandoned, and an older result opens nothing (R198, R218). -/
def guardNow (n : Nat) (d : Dev) : Dev :=
  arm (.guard n) 0 (disarm (.guardEnd n) (setCable n (fun c => { c with guardRuns := false, guardFresh := false }) d))

/-- The timers of a port that power-path retries and ramps use. -/
def pathTimersOff (n : Nat) (d : Dev) : Dev :=
  { d with timers := d.timers.filter fun t => match t.1 with
    | .window m | .shortRetry m | .inrushRetry m => m != n
    | _ => true }

/-- The gates of a port turn off and the converter stops (R272); the path takes the given state. A port whose partner is a
sink is checked again, so that its VBUS can return (R198). -/
def gatesDown (n : Nat) (path : PathState) (d : Dev) : Dev :=
  let c := cable d n
  let d := pathTimersOff n (setCable n (fun c =>
    { c with gateOn := false, vctl := 0, ilim := 0, vcorr := 0, path := path }) d)
  if c.typec == .attachedSrc && c.gateOn then guardNow n d else d

/-- Cn_VBUS of a port that sourced sinks its current, for at most 650 ms (R282). -/
def startDischarge (n : Nat) (d : Dev) : Dev := arm (.discharge n) (650 * ms) (setCable n (fun c => { c with discharge := true }) d)

/-- The gates of a port turn off, and a port that sourced discharges VBUS (R282, R283); so does one whose fault no step has
taken yet. -/
def gatesOff (n : Nat) (path : PathState) (d : Dev) : Dev :=
  let c := cable d n
  let d := setCable n (fun c => { c with ladder := { c.ladder with due := false } }) (gatesDown n path d)
  if c.powerRole == .source && (c.gateOn || c.ladder.due) then startDischarge n d else d

/-- Gates off with nothing else to report: DISCHARGING while VBUS is drained, OFF otherwise. LATCHED stands (R302). -/
def powerOff (n : Nat) (d : Dev) : Dev :=
  let c := cable d n
  gatesOff n (if c.path = .latched then .latched
    else if c.powerRole == .source && (c.gateOn || c.discharge || c.ladder.due) then .discharging else .off) d

/-- The inrush ramp to vSafe5V starts; during a droop it starts frozen (R278, R280). Before the first explicit contract the
converter is set for the booking at 5 V. A retry of a short is used up (R301). -/
def rampUp (n : Nat) (d : Dev) : Dev :=
  let c := cable d n
  let ends := d.now + cfg d (pathObj n) 9 * ms
  let d := setConverter n 5000 (c.booked / 5) (disarm (.discharge n) (setCable n (fun c =>
    { c with gateOn := true, discharge := false, path := if d.shep.droop then .frozen else .inrush,
             retriesLeft := if c.path = .faultShort then c.retriesLeft - 1 else c.retriesLeft,
             guardFresh := false, vbusWait := false, firstRefused := false,
             ladder := { c.ladder with short := false },
             windowEnd := ends, frozenAt := d.now, shedCause := .none, claim := 0 }) d))
  let d := armAt (.window n) ends d
  if d.shep.droop && !armed .droopMax d then arm .droopMax (5 * ms) d else d

/-- Whether the line opposite the active CC shows Ra. -/
def otherRa (c : Cable) : Bool := (if c.orientation = 1 then c.cc2 else c.cc1) == .ra

/-- R202: whether a sourcing port turns VCONN on; never while the critical comparator is asserted (R557). -/
def wantsVconn (d : Dev) (c : Cable) : Bool :=
  otherRa c && c.guard != .wet && c.vconn != 2 && d.aon.vconnOk && !d.shep.critical

/-- VCONN of a port goes off, its booking with it; FAULT stays until detach (R203). -/
def vconnOff (n : Nat) (d : Dev) : Dev := setCable n (fun c => { c with vconn := if c.vconn = 1 then 0 else c.vconn }) d

/-- R285: the first allowance of a port with its VCONN. -/
def firstNeed (d : Dev) (c : Cable) : Nat := preId d + (if wantsVconn d c then 1000 else 0)

/-- Apply vSafe5V. It waits for a check of the guard that started with the gates off and ended without WET (R198, R218),
for the instant of a retry that is under way (R281, R301), and while the critical comparator is asserted (R557); a booking that stands needs no admission; else the first allowance is booked with VCONN (R202, R285), and refused the port
stays without VBUS and is examined again at later steps (R286). A WET port with a booking is shed (R199, R201); a latched one
applies no VBUS (R302). -/
def applyVbus (n : Nat) (d : Dev) : Dev :=
  let c := cable d n
  if c.path = .latched then d
  else if c.guard = .wet || !c.guardFresh || armed (.shortRetry n) d || armed (.inrushRetry n) d || d.shep.critical then
    let d := setCable n (fun c => { c with vbusWait := true }) d
    if c.guard = .wet ∧ c.booked ≠ 0 then needStep d else d
  else if c.booked ≠ 0 then rampUp n d
  else if (firstNeed d c : Int) ≤ ledgerFree d then
    rampUp n (setCable n (fun c =>
      { c with powerRole := .source, booked := preId d, vconn := if wantsVconn d c then 1 else c.vconn,
               vconnSource := true }) d)
  else setCable n (fun c => { c with firstRefused := true, vbusWait := false }) d

/-! ### What a port loses with its contract -/

/-- The timers of a port's PD engine. -/
def pdTimersOff (n : Nat) (d : Dev) : Dev :=
  { d with timers := d.timers.filter fun t => match t.1 with
    | .waitReoffer m | .tsrc m | .tsrcRecover m | .eprKeep m | .sinkKeep m | .srcPps m | .sender m | .crcRx m | .srcCap m
    | .psTrans m | .sinkReq m | .chunk m | .chunkResp m | .hardDone m | .noResponse m | .auth m | .vdm m | .linkUp m => m != n
    | _ => true }

/-- The PD engine's exchange in progress is abandoned: nothing is outstanding, no contract is in force (R261). A port that was
armed for Fast Role Swap is no longer, and its Cn_VCTL is at 0 V (R275). -/
def pdForget (n : Nat) (d : Dev) : Dev :=
  pdTimersOff n (setCable n (fun c =>
    { c with contract := .none, pdoKind := .fixed, pos := 0, mv := 0, reserved := 0, ma := 0, offer := [], offerMw := 0, offerHeld := false, mismatch := false,
             nego := none, awaiting := .nothing, lastSent := none, txQueue := [], retries := 0, capsSent := 0,
             frs := .off, frsPartner := 0, epr := if c.epr = .refused then .refused else .off, authBusy := false,
             vctl := if c.frs = .armed then 0 else c.vctl, chunks := Chunks.none,
             ladder := { c.ladder with alertReset := false }, bist := none, swapping := 0, restored := false }) d)

/-- Stored and counted MessageIDs at their reset state (R253). -/
def pdIdsReset (n : Nat) (d : Dev) : Dev :=
  setCable n (fun c => { c with txId := 0, txIdP := 0, txIdPP := 0, rxId := none, rxIdP := none, rxIdPP := none }) d

/-- The pod link ends: its session closes, the lane stops and the mux opens (R117, R205, R211, R266). -/
def podClose (n : Nat) (d : Dev) : Dev :=
  let d := if (cable d n).podOpen then closeSession (2 + n) d else d
  let d := linkDown n d
  disarm (.vdm n) (disarm (.linkUp n) (setCable n (fun c =>
    { c with podOpen := false, vdm := .idle, vdmTries := 0, modeVdo := 0, identBuf := [], identTries := 0, laneOn := false,
             laneRate := 0, muxRoute := .nothing }) d))

/-- The identification of a port is withdrawn: pre-identity ceiling, profile 0's rank (R284), no profile in force, and no
Nguzo slots reserved. -/
def unidentify (n : Nat) (d : Dev) : Dev :=
  setCable n (fun c =>
    { c with pod := .none, profileOn := false, ceiling := none, rank := cfg d 0x2400 6, ng := NgShare.none,
             swapOpen := false }) d

/-! ### Shedding one port (R18, R261, R290) -/

/-- Shed a port: fence first, then its gates; its booking and VCONN become its claim, and its PD engine falls silent. The
pod link, which lost its power, ends with it. -/
def shedPort (cause : ShedCause) (n : Nat) (d : Dev) : Dev :=
  let c := cable d n
  let d := setFence n true d
  let d := gatesOff n .shed (vconnOff n d)
  let d := setCable n (fun c' => { c' with claim := max c'.claim (portOut c), booked := 0, shedCause := cause, vbusWait := false }) d
  raiseIrqPort (16 + n) (podClose n (pdForget n d))

/-- A fault's part of the step (R294, R296, R300): the port is fenced and its booking, with its VCONN, returned once. -/
def returnBooking (n : Nat) (d : Dev) : Dev :=
  setCable n (fun c => { c with booked := 0 }) (vconnOff n (setFence n true d))

/-- Whether a path state is one of the fault ladder's. -/
def isFault : PathState → Bool
  | .faultShort | .faultOc | .faultOv | .faultReverse | .latched => true
  | _ => false

end Sys2Proof.Machine
end

