-- ==== Sys2Proof/Machine/PdCore.lean ====
section
/-! DEFINITION. The PD engine's shared operations: data objects, sending and receiving messages with MessageIDs and retries,
building a source's offer, choosing a sink's request, and the resets (R227-R270). The places of fields in PDOs, RDOs and
other data objects are those of USB PD 3.1 (log entry 17, PRESUMED). -/

namespace Sys2Proof.Machine

/-! ### Data objects -/

/-- A fixed PDO with its flag bits [31:23], voltage in mV and current in mA. -/
def fixedPdo (flags mv ma : Nat) : Word := BitVec.ofNat 32 (flags * 2 ^ 23 + mv / 50 * 1024 + ma / 10)

/-- A PPS APDO from 3.3 V to `mv`. -/
def ppsPdo (mv ma : Nat) : Word := BitVec.ofNat 32 (3 * 2 ^ 30 + mv / 100 * 2 ^ 17 + 33 * 256 + ma / 50)

/-- The kind of a PDO: fixed, PPS or AVS. -/
def pdoKindOf (w : Word) : Option PdoKind :=
  match bits w.toNat 31 28 with
  | 0 | 1 | 2 | 3 => some .fixed
  | 12 => some .pps
  | 13 => some .avs
  | _ => none

/-- Lowest and highest voltage of a PDO, in mV. -/
def pdoMin (w : Word) : Nat :=
  if pdoKindOf w = some .fixed then bits w.toNat 19 10 * 50 else bits w.toNat 15 8 * 100
@[inherit_doc pdoMin] def pdoMax (w : Word) : Nat :=
  match pdoKindOf w with
  | some .fixed => bits w.toNat 19 10 * 50
  | some .pps => bits w.toNat 24 17 * 100
  | _ => bits w.toNat 25 17 * 100

/-- The current of a PDO in mA; an AVS APDO gives its PDP in watts, which bounds the current at a voltage. -/
def pdoMa (w : Word) (mv : Nat) : Nat :=
  match pdoKindOf w with
  | some .fixed => bits w.toNat 9 0 * 10
  | some .pps => bits w.toNat 6 0 * 50
  | _ => if mv = 0 then 0 else min 5000 (bits w.toNat 7 0 * 1000000 / mv)

/-- Current and VMAX of the cable as it was read: 3 A and 20 V where nothing was read (R204). -/
def cableMa (c : Cable) : Nat := if c.cableBits.toNat % 4 = 2 then 5000 else 3000
@[inherit_doc cableMa] def cableMv (c : Cable) : Nat := 20000 + 10000 * (c.cableBits.toNat / 4 % 4)

/-- A Type-C current level in mA: RP_INITIAL's codes, and what a CC line shows (Table 6-1, R242). -/
def rpMa : Nat → Nat
  | 0 => 500
  | 1 => 1500
  | _ => 3000
@[inherit_doc rpMa] def lineMa : CcLine → Nat
  | .rp1A5 => 1500
  | .rp3A0 => 3000
  | _ => 500

/-- A port on C0 or C1. -/
def isDual (n : Nat) : Bool := decide (n < 2)

/-- ROLE_PREF; C2-C7 are fixed at source only (Table 6-1). -/
def rolePref (d : Dev) (n : Nat) : Nat := if isDual n then cfg d (cableObj n) 2 else 3

/-- The role that a port may take now: ROLE_PREF, and sink only under boot policy HALT (Table 3-9). -/
def roleNow (d : Dev) (n : Nat) : Nat := if isHalted d then 2 else rolePref d n

/-- Bit `i` of SWAP_POLICY; C2-C7 have no such element, and its default holds there (log entry 17). -/
def swapAllowed (d : Dev) (n i : Nat) : Bool := if isDual n then bit (cfg d (contractObj n) 16) i else bit 0x0F i

/-- An explicit contract, SPR or EPR. -/
def explicit (c : Cable) : Bool := c.contract == .spr || c.contract == .epr

/-! ### Sending (R253, R254) -/

/-- What a port presents on its CC lines: 0 open, 1 Rd, 2 to 4 Rp at Default, 1.5 A and 3.0 A, 5 and 6 Rp with CC1 or CC2 alone
raised to 3.0 A (R196). -/
def present_ (n code : Nat) (d : Dev) : Dev :=
  if (cable d n).rpNow = code then d
  else emit (.cc (Fin.ofNat 8 n) code) (setCable n (fun c => { c with rpNow := code, presentRp := decide (2 ≤ code) }) d)

/-- A source with an explicit contract shows the level at which the sink may not start a message (1.5 A) while it has one
of its own to send, and the level at which it may (3.0 A) otherwise (chapter 6, collision avoidance). -/
def collision (n : Nat) (busy : Bool) (d : Dev) : Dev :=
  let c := cable d n
  if c.powerRole == .source && explicit c then present_ n (if busy then 3 else 4) d else d

/-- A message goes on the wire and waits for its GoodCRC for tReceive. -/
def transmit (n : Nat) (m : PdMsg) (d : Dev) : Dev :=
  arm (.crcRx n) ms (emit (.pd (Fin.ofNat 8 n) m) (setCable n (fun c => { c with lastSent := some m, retries := 0 })
    (collision n true d)))

/-- Send a message, after the one that still waits for its GoodCRC. -/
def pdSend (n : Nat) (m : PdMsg) (d : Dev) : Dev :=
  if (cable d n).lastSent.isNone then transmit n m d
  else setCable n (fun c => { c with txQueue := c.txQueue ++ [m] }) d

/-- Set what the port waits for. -/
def setAwait (n : Nat) (a : Await) (d : Dev) : Dev := setCable n (fun c => { c with awaiting := a }) d

/-- The message outstanding got its GoodCRC: the counter of its SOP type advances and the next message in the queue follows. -/
def sendDone (n : Nat) (d : Dev) : Dev :=
  let d := disarm (.crcRx n) (setCable n (fun c =>
    match c.lastSent with
    | some (.cableIdentity false) => { c with lastSent := none, txIdP := c.txIdP + 1 }
    | some (.cableIdentity true) => { c with lastSent := none, txIdPP := c.txIdPP + 1 }
    | _ => { c with lastSent := none, txId := c.txId + 1 }) d)
  match (cable d n).txQueue with
  | m :: rest => transmit n m (setCable n (fun c => { c with txQueue := rest }) d)
  | [] => collision n false d

/-! ### Receiving (R251, R253, R261) -/

/-- Whether a port's PD engine takes messages: attached to a PD partner and neither shed nor serving as Type-C only (R261,
R268). -/
def pdListens (d : Dev) (n : Nat) : Bool :=
  let c := cable d n
  portRuns d n && (c.typec == .attachedSrc || c.typec == .attachedSnk) && !isShed c && c.contract != .typecOnly && !c.pdFail

/-- Whether a message with that MessageID would be acted on: the engine listens, the ID is new, and no BIST Test Data runs. -/
def pdHears (d : Dev) (n : Nat) (id : BitVec 3) : Bool :=
  pdListens d n && (cable d n).rxId != some id && (cable d n).bist != some .testData

/-- Receive a message: it is answered GoodCRC, and discarded when its MessageID is the stored one (R253). In BIST Test Data
mode nothing but GoodCRC follows. -/
def pdReceive (n : Nat) (id : BitVec 3) (f : Dev → Dev) (d : Dev) : Dev :=
  if !pdListens d n then d
  else
    let c := cable d n
    let d := emit (.pd (Fin.ofNat 8 n) (.goodCrc id)) d
    if c.rxId = some id then d
    else
      let d := setCable n (fun c => { c with rxId := some id }) d
      if c.bist = some .testData then d else f d

/-! ### The source's offer (R227-R230) -/

/-- P of R227. -/
def offerPower (d : Dev) (n : Nat) : Int := min (ceilingOf d n : Int) (ledgerFree d + (cable d n).booked)

/-- The current that P, the cable and SRC_IMAX allow at a voltage. -/
def offerMa (d : Dev) (n p mv : Nat) : Nat := min (min (p * 1000 / mv) (cableMa (cable d n))) (cfg d (contractObj n) 10)

/-- The flags of the fixed 5 V PDO (R228), as bits [31:23]: DRP [29], Unconstrained [27], USB Communications [26], DRD [25]. -/
def offerFlags (d : Dev) (n : Nat) : Nat :=
  let dual := isDual n && decide (rolePref d n ≤ 1)
  let usb := isDual n && (cfgOn d (cableObj n) 9 || cfg d (cableObj n) 8 != 0)
  64 * b2n dual + 16 * b2n (decide (outflow d ≤ sinkInflow d)) + 8 * b2n usb + 4 * b2n dual

/-- The higher fixed voltages that the port offers, lowest first (Table 7-2). -/
def offerVolts (d : Dev) (n p : Nat) : List Nat :=
  let vmax := min (cfg d (contractObj n) 9) (cableMv (cable d n))
  let on_ (i : Nat) := bit (cfg d (contractObj n) 8) i
  ([(0, 9000), (1, 15000), (2, 20000)].filter fun x =>
    on_ x.1 && decide (x.2 ≤ vmax) && decide (500 ≤ offerMa d n p x.2 / 10 * 10)).map (·.2)

/-- VPPS for the highest fixed voltage offered (R227). -/
def vppsOf (top : Nat) : Nat := if top = 20000 then 21000 else if top = 15000 then 16000 else if top = 9000 then 11000 else 5900

/-- The PDOs of an offer of `p` mW (Table 7-2). -/
def buildOffer (d : Dev) (n p : Nat) : List Word :=
  let vs := offerVolts d n p
  let vpps := vppsOf (vs.getLastD 5000)
  let apdo := bit (cfg d (contractObj n) 8) 3 && decide (1000 ≤ offerMa d n p vpps / 50 * 50)
  [fixedPdo (offerFlags d n) 5000 (offerMa d n p 5000)] ++ (vs.map fun v => fixedPdo 0 v (offerMa d n p v))
    ++ (if apdo then [ppsPdo vpps (offerMa d n p vpps)] else [])

/-- R230: no offer below 500 mW. A ceiling that low makes the shepherd shed the port; headroom that low changes nothing. -/
def lowOffer (n : Nat) (d : Dev) : Dev := if ceilingOf d n < 500 then needStep d else d

/-- Whether SOP' Discover Identity goes before an offer: VCONN is on, the cable was not asked yet, and the offer goes beyond
vSafe5V (R203). -/
def asksCable (c : Cable) (pdos : List Word) : Bool :=
  c.vconn == 1 && c.vconnSource && c.cableAsk == .notAsked && decide (1 < pdos.length)

/-- Whether the cable's answer is still awaited. -/
def cablePending (c : Cable) : Bool := c.cableAsk == .near || c.cableAsk == .far

/-- Send Source_Capabilities for the present P; it is the offer in force from now on. The cable is asked first where R203 has
it so, and the offer follows its answer. -/
def sendCaps (n : Nat) (d : Dev) : Dev :=
  let p := offerPower d n
  let pdos := buildOffer d n p.toNat
  if p < 500 then lowOffer n d
  else if cablePending (cable d n) then d
  else if asksCable (cable d n) pdos then
    pdSend n (.cableIdentity false) (setCable n (fun c => { c with cableAsk := .near }) d)
  else
    pdSend n (.sourceCaps pdos) (disarm (.sender n) (disarm (.srcCap n) (setCable n (fun c =>
      { c with offer := pdos, offerMw := p.toNat, offerHeld := false, capsSent := c.capsSent + 1, awaiting := .capsAnswer }) d)))

/-- A negotiation is in progress on the port (R260, R265). -/
def negotiating (c : Cable) : Bool :=
  c.nego.isSome || (match c.awaiting with
    | .capsAnswer | .requestAnswer | .psRdy | .swapAnswer | .softResetAnswer => true
    | _ => false)

/-- An Alert data object with one event: Operating Condition Change, OCP or OTP (R252). -/
def alertWord (bit_ : Nat) : Word := BitVec.ofNat 32 (2 ^ bit_)
/-- The bits of those events in the ADO. -/
def adoOcp : Nat := 26
@[inherit_doc adoOcp] def adoOtp : Nat := 27
@[inherit_doc adoOcp] def adoOpCond : Nat := 28

/-- An event of R229 on a port: the offer is recomputed, and sent when it differs; one that arrives during a negotiation is
held (R260), and so is one that arrives before the new offer that follows a Wait (R232). A lower effective ceiling that
changes the offer sends Alert behind it (R252). -/
def recomputeOffer (n : Nat) (d : Dev) : Dev :=
  let c := cable d n
  if c.powerRole ≠ .source || !explicit c || isShed c then
    if c.powerRole = .source && sourcing c && decide (ceilingOf d n < 500) then needStep d else d
  else if negotiating c || cablePending c || armed (.waitReoffer n) d then setCable n (fun c => { c with offerHeld := true }) d
  else
    let p := offerPower d n
    if p < 500 then lowOffer n d
    else if buildOffer d n p.toNat = c.offer then d
    else
      let d' := sendCaps n d
      if ceilingOf d n < c.offerMw then pdSend n (.alert (alertWord adoOpCond)) d' else d'

/-! ### The sink's choice (R237-R241) -/

/-- SNK_VMAX and SNK_IMAX capped by the cable (R204). -/
def sinkVmax (d : Dev) (n : Nat) : Nat := min (cfg d (contractObj n) 12) (cableMv (cable d n))
@[inherit_doc sinkVmax] def sinkImax (d : Dev) (n : Nat) : Nat := min (cfg d (contractObj n) 13) (cableMa (cable d n))

/-- A thermal sink ceiling caps the current at a voltage (R551; log entry 17 for a later choice). -/
def heatCap (c : Cable) (mv ma : Nat) : Nat :=
  match c.sinkCeil with
  | some mw => if mv = 0 then 0 else min ma (mw * 1000 / mv)
  | none => ma

/-- A choice of the object at a position. -/
def chooseAt (d : Dev) (n pos : Nat) (kind : PdoKind) (mv ma : Nat) : Nego :=
  { pos := pos, mismatch := false, kind := kind, mv := mv, ma := ma, booking := mv * ma / 1000,
    epr := (cable d n).epr == .inEpr }

/-- A choice at the current that the thermal sink ceiling leaves (R551), in the steps of its object. -/
def coolChoice (c : Cable) (g : Nego) : Nego :=
  let step := if g.kind = .fixed then 10 else 50
  let ma := heatCap c g.mv g.ma / step * step
  { g with ma := ma, booking := g.mv * ma / 1000 }

/-- R237: the fixed PDO with the greatest V x I, the lower voltage on a tie. -/
def pickMax (d : Dev) (n : Nat) : Option Nego :=
  ((cable d n).partnerCaps.zipIdx.filterMap fun x =>
    if pdoKindOf x.1 = some .fixed ∧ 0 < pdoMax x.1 ∧ pdoMax x.1 ≤ sinkVmax d n then
      some (chooseAt d n (x.2 + 1) .fixed (pdoMax x.1) (min (pdoMa x.1 0) (sinkImax d n)))
    else none).foldl (fun (best : Option Nego) g =>
      match best with
      | none => some g
      | some b => if b.mv * b.ma < g.mv * g.ma ∨ (b.mv * b.ma = g.mv * g.ma ∧ g.mv < b.mv) then some g else best) none

/-- R238: the PPS APDO, in EPR mode the AVS APDO, whose range contains the target; voltage and current in its steps. -/
def pickProgrammable (d : Dev) (n : Nat) : Option Nego :=
  let target := cfg d (contractObj n) 14
  let kind : PdoKind := if (cable d n).epr = .inEpr then .avs else .pps
  let mv := if kind = .avs then target / 100 * 100 else target / 20 * 20
  (cable d n).partnerCaps.zipIdx.findSome? fun x =>
    if pdoKindOf x.1 = some kind ∧ pdoMin x.1 ≤ target ∧ target ≤ pdoMax x.1 ∧ target ≤ sinkVmax d n then
      some (chooseAt d n (x.2 + 1) kind mv (min (pdoMa x.1 mv) (sinkImax d n) / 50 * 50))
    else none

/-- R239: the fixed 5 V PDO at no more than 1.5 A. -/
def pickWet (d : Dev) (n : Nat) : Option Nego :=
  (cable d n).partnerCaps.zipIdx.findSome? fun x =>
    if pdoKindOf x.1 = some .fixed ∧ pdoMax x.1 = 5000 then
      some (chooseAt d n (x.2 + 1) .fixed 5000 (min 1500 (pdoMa x.1 0)))
    else none

/-- The sink policy of chapter 7, under the thermal sink ceiling; under boot policy HALT no more than vSafe5V at 1.5 A
(Table 3-9). -/
def sinkPick (d : Dev) (n : Nat) : Option Nego :=
  (if (cable d n).guard = .wet || isHalted d then pickWet d n
   else if cfg d (contractObj n) 11 = 1 then (pickProgrammable d n).or (pickMax d n)
   else pickMax d n).map (coolChoice (cable d n))

/-- A Request data object. -/
def rdoOf (d : Dev) (n : Nat) (g : Nego) : Word :=
  let epr := if cfgOn d (contractObj n) 15 then 2 ^ 22 else 0
  let body := match g.kind with
    | .fixed => g.ma / 10 * 1024 + g.ma / 10
    | .pps => g.mv / 20 * 512 + g.ma / 50
    | .avs => g.mv / 25 * 512 + g.ma / 50
  BitVec.ofNat 32 (g.pos % 16 * 2 ^ 28 + epr + body)

/-- Send a Request, in EPR mode an EPR_Request with a copy of the PDO. -/
def sendRequest (n : Nat) (g : Nego) (d : Dev) : Dev :=
  let rdo := rdoOf d n g
  let m : PdMsg := if g.epr then .eprRequest rdo ((cable d n).partnerCaps.getD (g.pos - 1) 0) else .request rdo
  pdSend n m (disarm (.sender n) (setCable n (fun c => { c with nego := some g, awaiting := .requestAnswer }) d))

/-- EPR_Mode (Exit) goes out of EPR mode or of its entry (R239, R246); the source's new capabilities follow the first. -/
def eprExit (n : Nat) (d : Dev) : Dev :=
  let c := cable d n
  let next : Await := if c.epr = .inEpr then .sourceCaps else .nothing
  disarm (.sender n) (disarm (.eprKeep n) (pdSend n (.eprMode false 0) (setCable n (fun c =>
    { c with epr := .off, awaiting := next }) d)))

/-- Choose from the capabilities held, and request. A WET port in EPR mode leaves EPR first (R239, R246). -/
def sinkRequest (n : Nat) (d : Dev) : Dev :=
  let c := cable d n
  if c.guard = .wet ∧ c.epr = .inEpr then eprExit n d
  else
    match sinkPick d n with
    | some g => sendRequest n g d
    | none => d

/-- The contract in force as a choice, at a current of `ma`. -/
def sameChoice (c : Cable) (ma : Nat) : Nego :=
  { pos := c.pos, mismatch := false, kind := c.pdoKind, mv := c.mv, ma := ma, booking := c.mv * ma / 1000,
    epr := c.contract == .epr }

/-- Whether a WET sink holds anything but the fixed 5 V PDO at up to 1.5 A (R199, R239). -/
def wetExcess (c : Cable) : Bool :=
  c.guard == .wet && (c.pdoKind != .fixed || c.mv != 5000 || decide (1500 < c.ma) || c.epr == .inEpr)

/-- A sink follows its thermal sink ceiling: a Request on the PDO in force at the lower current (R551). -/
def followSinkCeil (n : Nat) (d : Dev) : Dev :=
  let c := cable d n
  let g := coolChoice c (sameChoice c c.ma)
  if c.powerRole ≠ .sink || !explicit c then d
  else if g.ma < c.ma then sendRequest n g d else d

/-- A sink looks again at its contract: WET, or a thermal ceiling (R201, R239, R551). During a negotiation this waits
(R265, R572). -/
def sinkReview (n : Nat) (d : Dev) : Dev :=
  let c := cable d n
  if c.powerRole ≠ .sink || !explicit c || negotiating c then d
  else if wetExcess c then sinkRequest n d else followSinkCeil n d

/-- A negotiation is over without a contract: a sink's WET result or ceiling acts (R265); a source's change of offer is held
on (R260). -/
def negoOver (n : Nat) (d : Dev) : Dev :=
  let d := setCable n (fun c => { c with nego := none, awaiting := .nothing }) d
  if (cable d n).powerRole = .source then d else sinkReview n d

/-- A negotiation ends in a contract, or a swap that left the contract standing is over: what waited for its end acts (R260,
R265). -/
def endNego (n : Nat) (d : Dev) : Dev :=
  let d := setCable n (fun c => { c with nego := none, awaiting := .nothing }) d
  let c := cable d n
  if c.powerRole = .source then if c.offerHeld then recomputeOffer n (setCable n (fun c => { c with offerHeld := false }) d) else d
  else sinkReview n d

/-! ### Fast Role Swap readiness (R249) -/

/-- The current in mA of an FRS code (FRS_MAX's codes, and the FRS field of Sink_Capabilities). -/
def frsMa : Nat → Nat
  | 1 => 500
  | 2 => 1500
  | _ => 3000

/-- Whether the conditions of R249 hold. -/
def frsReady (d : Dev) (n : Nat) : Bool :=
  let c := cable d n
  isDual n && !isHalted d && c.powerRole == .sink && c.contract == .spr && cfgOn d (contractObj n) 17 && decide (1 ≤ c.frsPartner)
    && decide (c.frsPartner ≤ cfg d (contractObj n) 18) && c.guard != .wet

/-- Arm or disarm Fast Role Swap: armed, Cn_VCTL holds the 5 V setting and the converter delivers nothing (R249, R275). -/
def frsUpdate (n : Nat) (d : Dev) : Dev :=
  let c := cable d n
  if c.powerRole ≠ .sink then d
  else if frsReady d n then setCable n (fun c => { c with frs := .armed, vctl := vctlOf 5000, ilim := 0 }) d
  else if c.frs = .armed then setCable n (fun c => { c with frs := .off, vctl := 0, ilim := 0 }) d
  else d

/-! ### Resets (R254, R264, R266, R267, R269, R270) -/

/-- A counter of a contract object is a U16 and wraps (log entry 17). -/
def inc16 (v : Nat) : Nat := (v + 1) % 65536

/-- Soft_Reset goes out: MessageIDs return to their reset state, and the answer is awaited; VBUS, booking and fence stand
(R270). -/
def sendSoftReset (n : Nat) (d : Dev) : Dev :=
  let d := disarm (.sender n) (disarm (.srcCap n) (disarm (.psTrans n) (disarm (.sinkReq n) (disarm (.tsrc n) (disarm (.crcRx n)
    (disarm (.chunk n) (disarm (.chunkResp n) (disarm (.auth n) d))))))))
  let d := pdIdsReset n (setCable n (fun c =>
    { c with softResetCount := inc16 c.softResetCount, nego := none, lastSent := none, txQueue := [], retries := 0,
             swapping := 0, reserved := 0, chunks := Chunks.none, authBusy := false, awaiting := .softResetAnswer }) d)
  pdSend n .softReset d

/-- What Hard Reset does on a port that sources (R266): fenced, the booking lowered to PRE_ID_ALLOWANCE, the pod link
closed, VBUS to vSafe0V and, tSrcRecover later, back. -/
def hardResetSource (n : Nat) (d : Dev) : Dev :=
  let d := unidentify n (podClose n (setFence n true d))
  let d := setCable n (fun c => { c with booked := min c.booked (preId d) }) d
  let c := cable d n
  if isShed c || c.path == .latched || c.path == .faultShort then d
  else if isFault c.path then if c.discharge || c.ladder.due then d else arm (.tsrcRecover n) (800 * ms) d
  else if c.gateOn || c.discharge then powerOff n d
  else arm (.tsrcRecover n) (800 * ms) d

/-- What Hard Reset does on a port that sinks (R267): its inflow is 0 at once; the gates stay closed for the vSafe5V that
the source restores. -/
def hardResetSink (n : Nat) (d : Dev) : Dev := podClose n (setBooked n 0 d)

/-- Hard Reset, sent or received (R253, R266, R267). -/
def hardResetCore (n : Nat) (d : Dev) : Dev :=
  let d := pdIdsReset n (pdForget n d)
  let d := setCable n (fun c => { c with hardResetCount := inc16 c.hardResetCount }) d
  let d := arm (.noResponse n) (5 * sec) d
  if (cable d n).powerRole = .sink then hardResetSink n d else hardResetSource n d

/-- The port sends Hard Reset; its signalling is over within HardResetCompleteTimer. -/
def sendHardReset (n : Nat) (d : Dev) : Dev :=
  let d := hardResetCore n (emit (.pdHardReset (Fin.ofNat 8 n)) d)
  arm (.hardDone n) (5 * ms) (setCable n (fun c => { c with hardResets := c.hardResets + 1 }) d)

/-- A contract has answered: the counts of resets that brought no response start again (R269). -/
def responded (n : Nat) (d : Dev) : Dev :=
  disarm (.noResponse n) (setCable n (fun c => { c with hardResets := 0, recoveries := 0 }) d)

end Sys2Proof.Machine
end

