-- ==== Sys2Proof/Machine/PodLink.lean ====
section
/-! DEFINITION. The pod link: its vendor-defined messages, the identity block, the attach profiles, and how slot modules are
read (R205-R224, R388, R445, R517). -/

namespace Sys2Proof.Machine

/-! ### Vendor-defined messages (R207, R208, R220) -/

/-- The header of a structured VDM (R207): `cmd` is the command, with its type in bits [7:6]. -/
def vdmHeader (svid pos cmd : Nat) : Word := BitVec.ofNat 32 (svid * 65536 + 0x8000 + 0x2000 + pos * 256 + cmd)

/-- The message that a step of R208 sends: Discover Identity, Discover SVIDs and Discover Modes make up discovery, in that
order. -/
def vdmMessages (d : Dev) : VdmStep → List PdMsg
  | .idle => []
  | .discoverIdentity => [.vdm (vdmHeader 0xFF00 0 1) []]
  | .discoverSvids => [.vdm (vdmHeader 0xFF00 0 2) []]
  | .discoverModes => [.vdm (vdmHeader (podSvid d) 0 3) []]
  | .enterMode => [.vdm (vdmHeader (podSvid d) 1 4) []]
  | .identity off => [.vdm (vdmHeader (podSvid d) 1 0x10) [BitVec.ofNat 32 (off + 256 * (if off = 240 then 16 else 24))]]
  | .linkRate r => [.vdm (vdmHeader (podSvid d) 1 0x11) [BitVec.ofNat 32 r]]
  | .epoch k =>
    [.vdm (vdmHeader (podSvid d) 1 0x12) [BitVec.ofNat 32 (k + 256), BitVec.ofNat 32 (cfg d (0x6040 + k) 1)]]
  | .exitMode => [.vdm (vdmHeader (podSvid d) 1 5) []]

/-- Send the messages of a step; its answer is awaited from the GoodCRC on (R220). -/
def vdmAgain (n : Nat) (d : Dev) : Dev := (vdmMessages d (cable d n).vdm).foldl (fun d m => pdSend n m d) d

/-- Start a step of R208. -/
def vdmSend (n : Nat) (step : VdmStep) (d : Dev) : Dev :=
  vdmAgain n (disarm (.vdm n) (setCable n (fun c => { c with vdm := step, vdmTries := 0 }) d))

/-- An answer arrived: the VDM that asked for it counts as sent, whatever GoodCRC is still missing, and the response timer stops. -/
def vdmAnswered (n : Nat) (d : Dev) : Dev :=
  let asked := vdmMessages d (cable d n).vdm
  let d := disarm (.vdm n) (setCable n (fun c => { c with txQueue := c.txQueue.filter fun m => !asked.contains m }) d)
  match (cable d n).lastSent with
  | some m => if asked.contains m then sendDone n d else d
  | none => d

/-- A change of an epoch stream's PERIOD is told to a subscribed pod when no other VDM is outstanding (chapter 10). -/
def podIdle (n : Nat) (d : Dev) : Dev :=
  let c := cable d n
  if c.vdm ≠ .idle || !c.podOpen then d
  else
    match (List.range 16).find? fun k => (epochOf d k).resub.getLsbD n with
    | some k => vdmSend n (.epoch k) (setEpoch k (fun e => { e with resub := e.resub &&& ~~~(BitVec.ofNat 8 (2 ^ n)) }) d)
    | none => d

/-! ### The lane mux (R205) -/

/-- Where the mux of C0 or C1 is to connect: the lane while the mode is entered, the USB 3 pair for a partner that is not a
pod. -/
def muxWanted (d : Dev) (n : Nat) : MuxRoute :=
  let c := cable d n
  if !isDual n then .nothing
  else if c.podOpen then .lane
  else if c.pod == .notAPod && cfgOn d (cableObj n) 9 then .usb3
  else .nothing

/-- The mux switches only while both places are idle (R205): the lane when it is stopped, the USB 3 pair when nothing moves on
it, which the host alone knows: a free value (log entry 18). While it is not, the switch waits for a later housekeeping
round. -/
def muxUpdate (n : Nat) (d : Dev) : Dev :=
  let c := cable d n
  let want := muxWanted d n
  if c.muxRoute = want || c.laneOn then d
  else if c.muxRoute = .usb3 then
    let r := drawFree d
    setCable n (fun c => { c with muxRoute := if r.1.getLsbD 0 then want else c.muxRoute }) r.2
  else setCable n (fun c => { c with muxRoute := want }) d

/-! ### The identity block (R212) -/

/-- A little-endian field of a block. -/
def identField (b : List Byte) (off n : Nat) : Nat := leNat ((b.drop off).take n)

/-- R212: whether an identity block is valid. -/
def identValid (b : List Byte) : Bool :=
  b.length == 256 && identField b 0 4 == 0x4B444E5A && identField b 4 1 == 1 && identField b 8 2 != 0
    && identField b 252 4 == (crc32c (b.take 252)).toNat
    && decide (identField b 28 2 / 4096 ≤ 4) && decide (identField b 30 1 ≤ 15) && decide (identField b 32 1 ≤ 8)
    && decide (identField b 33 1 ≤ 3)

/-! ### Attach profiles (R215-R217) -/

/-- R215: the profile that a block matches at a location: bit 0-7 for a cable port, 8-11 for a slot. -/
def matchProfile (d : Dev) (b : List Byte) (place : Nat) : Nat :=
  if !identValid b then 0
  else
    let cls := identField b 6 2
    let maker := identField b 8 2
    (((List.range 31).map (· + 1)).find? fun p =>
      let g := cfg d (0x2400 + p)
      g 0 != 0 && (cls &&& g 2) == (g 1 &&& g 2) && (g 3 == 0 || g 3 == maker) && bit (g 4) place).getD 0

/-- The CEILING of a profile on a cable port, and on a slot (R216). -/
def profCeiling (d : Dev) (p : Nat) : Nat := if p = 0 then preId d else cfg d (0x2400 + p) 5
@[inherit_doc profCeiling] def slotCeiling (d : Dev) (s p : Nat) : Nat :=
  if p = 0 then cfg d (0x2200 + 0x40 * s) 3 else cfg d (0x2400 + p) 5

/-- R388: a profile's FOLD on a cable port: the eight folds, capped so that COMMON_SIZE keeps COMMON_MIN. -/
def applyFold (n fold : Nat) (d : Dev) : Dev :=
  let own := ((List.range 8).map fun c => foldOf d n c).sum
  let others := claimedCells d - own
  let fits := decide (others + 8 * fold + cfg d 0x7410 2 ≤ 12288 - 576)
  let f := if fits then fold else min fold ((12288 - 576 - cfg d 0x7410 2 - others) / 8)
  let d := if fits then d else { d with fab := { d.fab with foldCapped := d.fab.foldCapped + 1 } }
  (List.range 8).foldl (fun d c => rechargeFold n c (setCfg (portObj n) (17 + c) f d)) d

/-- The switch settings of a profile: VLAN, DEFAULT_TC, policer template and folds, in one step (R388, R445, R507, R517). -/
def applySwitch (n p : Nat) (d : Dev) : Dev :=
  let obj := 0x2400 + p
  let d := applyProfileVlan n (if p = 0 then cfg d 0x2300 4 else cfg d obj 7) d
  applyFold n (cfg d obj 10) (applyTemplate n (cfg d obj 9) (setCfg (0xA000 + 0x40 * n) 0 (cfg d obj 8) d))

/-- The Nguzo slots and channels that a profile reserves: none under profile 0 (R16, R216). -/
def ngShare (d : Dev) (p : Nat) : NgShare :=
  if p = 0 then NgShare.none else { slots := cfg d (0x2400 + p) 11, channels := cfg d (0x2400 + p) 12 }

/-- A profile's values are read and put in force on a cable port (R16, R216, R217); the offer is recomputed (R229). Profile
0's ceiling is PRE_ID_ALLOWANCE as it stands. -/
def provision (n p : Nat) (d : Dev) : Dev :=
  let obj := 0x2400 + p
  let d := setCable n (fun c =>
    { c with ceiling := if p = 0 then none else some (profCeiling d p), rank := cfg d obj 6, profileId := p,
             profileOn := true, profRate := if p = 0 then 1 else cfg d obj 14,
             profStream := if p = 0 then 0xFF else cfg d obj 13, ng := ngShare d p }) d
  recomputeOffer n (applySwitch n p d)

/-- Apply a profile to a cable port, or refuse it when its ceiling is not admitted (R17, R287). A sink port's profile asks for
no power. Answers whether it was applied. -/
def tryProfile (n p : Nat) (d : Dev) : Bool × Dev :=
  let c := cable d n
  if c.powerRole = .sink ∨ (profCeiling d p : Int) - c.booked ≤ ledgerFree d then (true, provision n p d)
  else (false, raiseIrqPort (8 + n) d)

/-- The end of R208: the fence is lifted, and the host hears that the profile is applied (R16). -/
def liftFence (n : Nat) (d : Dev) : Dev := raiseIrqPort n (setFence n false d)

/-! ### The steps of R208 -/

/-- Start at discovery. -/
def startDiscovery (n : Nat) (d : Dev) : Dev :=
  vdmSend n .discoverIdentity (setCable n (fun c => { c with pod := .discovering, identBuf := [], identTries := 0 }) d)

/-- After the first contract of an attachment: the port where the device is the DFP looks for a pod. -/
def afterContract (n : Nat) (d : Dev) : Dev :=
  let c := cable d n
  if c.dataRole = .dfp ∧ c.pod = .none then startDiscovery n d else d

/-- The partner is not a pod: profile 0, and nothing of a pod link holds the fence (R205, R215; log entry 18). -/
def notAPod (n : Nat) (d : Dev) : Dev :=
  let d := muxUpdate n (setCable n (fun c => { c with pod := .notAPod, vdm := .idle }) d)
  let r := tryProfile n 0 d
  if r.1 then liftFence n r.2 else r.2

/-- R220: identification failed; the port takes profile 0 and stays behind its fence. -/
def podFailed (n : Nat) (d : Dev) : Dev :=
  let d := disarm (.vdm n) (disarm (.linkUp n) (setCable n (fun c => { c with pod := .failed, vdm := .idle }) d))
  let r := tryProfile n 0 d
  if r.1 then raiseIrqPort n r.2 else r.2

/-- Link Rate with the lower of the profile's rate and the fastest in the Mode VDO (R208 step 4). -/
def startLink (n : Nat) (d : Dev) : Dev :=
  let c := cable d n
  vdmSend n (.linkRate (min c.profRate (if c.modeVdo.getLsbD 25 then 2 else 1))) d

/-- Match the block, apply the profile, and go on to the link (R208 steps 3 and 4). -/
def identified (n : Nat) (b : List Byte) (d : Dev) : Dev :=
  let r := tryProfile n (matchProfile d b n) d
  if r.1 then startLink n r.2 else setCable n (fun c => { c with vdm := .idle }) r.2

/-- Read the identity block from its start. -/
def startRead (n : Nat) (d : Dev) : Dev :=
  vdmSend n (.identity 0) (setCable n (fun c => { c with pod := .reading, identBuf := [] }) d)

/-- R224: an invalid block is read once more; a second one gives profile 0 and IDENT_BAD, and the link comes up at rate 1. -/
def badBlock (n : Nat) (d : Dev) : Dev :=
  if (cable d n).identTries = 0 then startRead n (setCable n (fun c => { c with identTries := 1 }) d)
  else identified n [] (setCable n (fun c => { c with pod := .identBad, identBuf := [] }) d)

/-- A VDM answer: received under the MessageID rules (R222, R253), it acts when the port is in a step that awaits it, whose
response timer it stops. -/
def vdmReceive (n : Nat) (id : BitVec 3) (p : VdmStep → Bool) (f : Dev → Dev) (d : Dev) : Dev :=
  pdReceive n id (fun d => if p (cable d n).vdm then f (vdmAnswered n d) else d) d

/-- The step of R208 that an exchange of discovery is. -/
def discoveryStep : Discovery → VdmStep
  | .identity => .discoverIdentity
  | .svids => .discoverSvids
  | .modes => .discoverModes

/-- Whether a list of SVIDs, two to a data object, names one. -/
def listsSvid (svid : Nat) (vdos : List Word) : Bool :=
  vdos.any fun v => bits v.toNat 31 16 == svid || bits v.toNat 15 0 == svid

/-- DISCOVER_MODES (R205, R208): an answer of discovery, and the next step; NAK, NOT_SUPPORTED, a list without the pod link's
SVID or no mode means not a pod. -/
def discoverModes (n : Nat) (id : BitVec 3) (what : Discovery) (a : VdmAnswer) (d : Dev) : Dev :=
  vdmReceive n id (· == discoveryStep what) (fun d =>
    match what, a with
    | .identity, .ack _ => vdmSend n .discoverSvids d
    | .svids, .ack vdos => if listsSvid (podSvid d) vdos then vdmSend n .discoverModes d else notAPod n d
    | .modes, .ack (v :: _) => vdmSend n .enterMode (setCable n (fun c => { c with modeVdo := v }) d)
    | _, _ => notAPod n d) d

/-- ENTER_MODE (R208): the mode is entered, pod session 2 + n opens, and the identity read starts. -/
def enterMode (n : Nat) (id : BitVec 3) (a : VdmAnswer) (d : Dev) : Dev :=
  vdmReceive n id (· == .enterMode) (fun d =>
    match a with
    | .ack _ =>
      let d := muxUpdate n (setCable n (fun c => { c with podOpen := true }) d)
      startRead n (setSession (2 + n) (fun _ => { Session.fresh with isOpen := true }) d)
    | _ => podFailed n d) d

/-- The offset that an Identity Read in progress asked for. -/
def identOffset : VdmStep → Option Nat
  | .identity off => some off
  | _ => none

/-- A chunk of the block at `off`: the next one is read, or the whole is checked and matched. -/
def identChunk (n off : Nat) (vdos : List Word) (d : Dev) : Dev :=
  let len := if off = 240 then 16 else 24
  let chunk := ((vdos.flatMap fun (w : Word) => leBytes 4 w.toNat) ++ List.replicate len 0).take len
  let buf := (cable d n).identBuf ++ chunk
  let d := setCable n (fun c => { c with identBuf := buf }) d
  if off < 240 then vdmSend n (.identity (off + 24)) d
  else if identValid buf then identified n buf (setCable n (fun c => { c with identity := buf, identBuf := [] }) d)
  else badBlock n d

/-- IDENTITY_READ (R208, R212, R224): a chunk of the block; the last one is checked and matched. -/
def identityRead (n : Nat) (id : BitVec 3) (a : VdmAnswer) (d : Dev) : Dev :=
  vdmReceive n id (fun v => (identOffset v).isSome) (fun d =>
    match a, identOffset (cable d n).vdm with
    | .ack vdos, some off => identChunk n off vdos d
    | _, _ => badBlock n d) d

/-- EXIT_MODE (R211): Exit Mode goes out, the session closes, the lane stops and the port is fenced; its answer is awaited as
that of any VDM (R220). -/
def exitPod (n : Nat) (d : Dev) : Dev :=
  if !(cable d n).podOpen then d else vdmSend n .exitMode (muxUpdate n (setFence n true (podClose n d)))

/-- The pod's answer to Exit Mode: the mode is left, whatever it says. -/
def exitAnswered (n : Nat) (id : BitVec 3) (d : Dev) : Dev :=
  vdmReceive n id (· == .exitMode) (setCable n fun c => { c with vdm := .idle }) d

/-- R210: the link is not up: rate 1 follows rate 2; at rate 1 the port reads LINK_FAIL and leaves the mode, fenced at its
contract. -/
def linkMissed (n : Nat) (d : Dev) : Dev :=
  let c := cable d n
  let d := setCable n (fun c => { c with laneOn := false, laneRate := 0 }) d
  if c.laneRate = 2 then vdmSend n (.linkRate 1) d
  else exitPod n (setCable n (fun c => { c with pod := .linkFail }) d)

/-- LINK_RATE (R210): both ends transmit idle, and the link has 20 ms to come up. A NAK counts as a link that does not. -/
def linkRate (n : Nat) (id : BitVec 3) (a : VdmAnswer) (d : Dev) : Dev :=
  let rateOf : VdmStep → Option Nat := fun v => match v with
    | .linkRate r => some r
    | _ => none
  vdmReceive n id (fun v => (rateOf v).isSome) (fun d =>
    let d := setCable n (fun c => { c with vdm := .idle, laneRate := (rateOf c.vdm).getD 0 }) d
    match a with
    | .ack _ => arm (.linkUp n) (20 * ms) (setCable n (fun c => { c with laneOn := true }) d)
    | _ => linkMissed n d) d

/-- The port's VDM flow is through: the fence is lifted, unless a restore had lifted it at its contract (R261), and the host
hears of the profile; a later resubscription changes neither. -/
def podDone (n : Nat) (d : Dev) : Dev :=
  let d := setCable n (fun c => { c with vdm := .idle }) d
  let d := if (swPort d n).fenced || (cable d n).restored then
      liftFence n (setCable n (fun c => { c with restored := false }) d) else d
  podIdle n d

/-- POD_LINK_UP (R208, R210): PCS synchronisation at both ends; the pod is subscribed where its profile names a stream. -/
def podLinkUp (n : Nat) (d : Dev) : Dev :=
  let c := cable d n
  if !armed (.linkUp n) d || !c.laneOn then d
  else
    let d := disarm (.linkUp n) (setSwPort n (fun w =>
      { w with link := true, speed := if c.laneRate = 2 then 2500 else 1000 }) d)
    let d := setCable n (fun c => { c with pod := if c.pod = .identBad then .identBad else .linkUp }) d
    if c.profStream < 16 ∧ c.modeVdo.getLsbD 0 then vdmSend n (.epoch c.profStream) d else podDone n d

/-- LINK_UP_TIMEOUT (R210). -/
def linkUpTimeout (n : Nat) (d : Dev) : Dev := onExpiry (.linkUp n) (linkMissed n) d

/-- EPOCH_SUBSCRIBE (R208, R371): the pod's port takes the stream's marks from now on; a NAK leaves it unsubscribed. -/
def epochSubscribe (n : Nat) (id : BitVec 3) (a : VdmAnswer) (d : Dev) : Dev :=
  let streamOf : VdmStep → Option Nat := fun v => match v with
    | .epoch k => some k
    | _ => none
  vdmReceive n id (fun v => (streamOf v).isSome) (fun d =>
    podDone n (match a, streamOf (cable d n).vdm with
      | .ack _, some k => setEpoch k (fun e => { e with marks := e.marks ||| BitVec.ofNat 8 (2 ^ n) }) d
      | _, _ => d)) d

/-- VDM_RESPONSE_TIMEOUT (R220). -/
def vdmTimeout (n : Nat) (d : Dev) : Dev :=
  onExpiry (.vdm n) (fun d =>
    if (cable d n).vdmTries < 2 then vdmAgain n (setCable n (fun c => { c with vdmTries := c.vdmTries + 1 }) d)
    else podFailed n d) d

/-- REAPPLY on a cable port (R217): R16 and R17 again behind the fence, for the profile that the port's module has: a pod is
matched again from its block, or read again where the block never came; a port that is no pod's takes profile 0. A port
whose identification is under way has no profile to apply again. -/
def reapplyPort (n : Nat) (d : Dev) : Dev :=
  let c := cable d n
  if !portRuns d n || !explicit c || isShed c then d
  else
    match c.pod with
    | .discovering | .reading =>
      let d := setFence n true d
      if c.vdm = .idle then identified n c.identity d else d
    | .notAPod => notAPod n (setFence n true d)
    | .none =>
      if c.dataRole = .dfp then startDiscovery n (setFence n true d)
      else
        let r := tryProfile n 0 (setFence n true d)
        if r.1 then liftFence n r.2 else r.2
    | _ =>
      let d := setFence n true d
      if !c.podOpen then startDiscovery n d
      else if c.pod = .failed then startRead n (setCable n (fun c => { c with identTries := 0 }) d)
      else
        let d := linkDown n (setCable n (fun c => { c with laneOn := false, laneRate := 0 }) (disarm (.linkUp n) d))
        identified n (if c.pod = .identBad then [] else c.identity) d

/-! ### Slots (R213, R214, R221, R223) -/

/-- Object number of a slot. -/
def slotObj (s : Nat) : Nat := 0x2200 + 0x40 * s

/-- A START on the slot bus: 1 an address poll, 2 a read of the block, 3 SCL pulses and STOP. -/
def i2c (s what : Nat) (d : Dev) : Dev := emit (.i2c (Fin.ofNat 4 s) what) d

/-- Book a slot's claim: an increase that is not admitted leaves the previous booking (R286). -/
def bookSlot (s mw : Nat) (d : Dev) : Bool × Dev :=
  let old := (slotOf d s).booked
  if (mw : Int) - old ≤ ledgerFree d ∨ mw ≤ old then (true, setSlot s (fun t => { t with booked := mw }) d) else (false, d)

/-- A slot takes a profile: its ceiling is booked and its Nguzo slots are reserved; refused, it keeps its previous booking and
profile (R16, R217, R286). Answers whether it was applied. -/
def slotTake (s p state : Nat) (d : Dev) : Bool × Dev :=
  let r := bookSlot s (slotCeiling d s p) d
  let share := ngShare d p
  let taken (t : SlotRec) : SlotRec :=
    if r.1 then { t with state := state, profileId := p, profileOn := true, ng := share } else { t with state := state }
  (r.1, setSlot s taken r.2)

/-- A module's profile is applied or refused, and the host is told which (R16, R17, R286; log entry 35). -/
def slotProfile (s p state : Nat) (d : Dev) : Dev :=
  let r := slotTake s p state d
  emit (.notice (.slotProfile s r.1)) r.2

/-- Start reading a slot's block. -/
def slotRead (s : Nat) (d : Dev) : Dev := i2c s 2 (setSlot s (fun t => { t with state := 1 }) d)

/-- A module is found: its allowance is booked and its block read. -/
def slotFound (s : Nat) (d : Dev) : Dev :=
  slotRead s (slotTake s 0 1 (setSlot s (fun t => { t with nacks := 0, tries := 0, clears := 0 }) d)).2

/-- SLOT_POLL (R213): every 250 ms an enabled slot is addressed; during boot a module found is latched (R97). -/
def slotPoll (s : Nat) (ack : Bool) (d : Dev) : Dev :=
  if booting d && ack then onBoot (fun b => { b with latched := b.latched ||| BitVec.ofNat 6 (2 ^ (2 + s)) }) d
  else if !isReady d then d
  else
    onExpiry (.slotPoll s) (fun d =>
      let d := arm (.slotPoll s) (250 * ms) d
      let t := slotOf d s
      if !cfgOn d (slotObj s) 0 then d
      else
        let d := i2c s 1 d
        if ack then if t.state = 0 then slotFound s d else setSlot s (fun t => { t with nacks := 0 }) d
        else if t.state = 0 then d
        else if t.nacks < 2 then setSlot s (fun t => { t with nacks := t.nacks + 1 }) d
        else
          disarm (.slotRetry s) (disarm (.clampRetry s) (disarm (.busClear s) (setSlot s (fun t =>
            { t with state := 0, profileId := 0, profileOn := false, nacks := 0, tries := 0, clears := 0, booked := 0,
                     ng := NgShare.none }) (needStep d))))) d

/-- SLOT_READ_DONE (R214): a valid block is matched; an invalid one is read again after 10 ms, and a second leaves the module
unidentified under profile 0. -/
def slotReadDone (s : Nat) (block : List Byte) (d : Dev) : Dev :=
  let t := slotOf d s
  if !isReady d || t.state ≠ 1 || armed (.slotRetry s) d then d
  else if identValid block then
    let d := disarm (.clampRetry s) (setSlot s (fun t => { t with identity := block }) d)
    slotProfile s (matchProfile d block (8 + s)) 2 d
  else if t.tries = 0 then arm (.slotRetry s) (10 * ms) (setSlot s (fun t => { t with tries := 1 }) d)
  else slotProfile s 0 3 d

/-- SLOT_READ_RETRY (R214). -/
def slotReadRetry (s : Nat) (d : Dev) : Dev := onExpiry (.slotRetry s) (slotRead s) d

/-- A slot bus that cannot be cleared (R223). -/
def slotClamp (s : Nat) (d : Dev) : Dev :=
  arm (.clampRetry s) (10 * sec)
    (slotProfile s 0 4 (setSlot s (fun t => { t with clampCount := inc16 t.clampCount, clears := 0, tries := 0 }) d))

/-- An attempt to clear a slot bus (R223): SDA high lets a clamped slot be read again; SDA low is tried up to three times, 10 ms
apart; SCL low beyond the stretching limit clamps at once. -/
def slotAttempt (s : Nat) (r : BusClear) (d : Dev) : Dev :=
  let t := slotOf d s
  let d := i2c s 3 d
  match r with
  | .cleared =>
    let d := setSlot s (fun t => { t with clears := 0 }) d
    if t.state = 4 then slotRead s (disarm (.clampRetry s) (setSlot s (fun t => { t with tries := 0 }) d)) else d
  | .sdaLow =>
    if t.clears < 2 then arm (.busClear s) (10 * ms) (setSlot s (fun t => { t with clears := t.clears + 1 }) d) else slotClamp s d
  | .sclLow => slotClamp s d

/-- SLOT_BUS_CLEAR (R223): the bus is stuck before a START, or at a later attempt. -/
def slotBusClear (s : Nat) (r : BusClear) (d : Dev) : Dev :=
  if !isReady d || !cfgOn d (slotObj s) 0 || ((slotOf d s).state == 4 && !armed (.busClear s) d) then d
  else slotAttempt s r (disarm (.busClear s) (reach (.busClear s) d))

/-- SLOT_CLAMP_RETRY (R223): every 10 s a clamped slot is tried again. -/
def slotClampRetry (s : Nat) (r : BusClear) (d : Dev) : Dev :=
  onExpiry (.clampRetry s) (fun d => slotAttempt s r (setSlot s (fun t => { t with clears := 0 }) d)) d

/-- REAPPLY on a slot (R217): matched again from the block it holds; a slot with no valid block takes profile 0 again. -/
def reapplySlot (s : Nat) (d : Dev) : Dev :=
  let t := slotOf d s
  if !isReady d then d
  else if t.state = 2 then slotProfile s (matchProfile d t.identity (8 + s)) 2 d
  else if t.state = 0 then d
  else slotProfile s 0 t.state d

end Sys2Proof.Machine
end

