-- ==== Sys2Proof/Machine/Attach.lean ====
section
/-! DEFINITION. Attach and detach on the cable ports: CC lines, roles, CC short, connector guard, VCONN and the USB 2.0 switch
(R85, R194-R206, R218-R222). Durations that Type-C gives are in log entry 9. -/

namespace Sys2Proof.Machine

/-- tErrorRecovery, the Try.SNK wait, the CC debounce and half the DRP toggle period, in ns. -/
def tErrorRecovery : Nat := 25 * ms
@[inherit_doc tErrorRecovery] def tTrySnk : Nat := 100 * ms
@[inherit_doc tErrorRecovery] def tCcDebounce : Nat := 150 * ms
@[inherit_doc tErrorRecovery] def tDrpHalf : Nat := 37500 * us

/-! ### What an unattached port presents (Table 6-1, R96) -/

/-- The code of Rp before a contract: RP_INITIAL. -/
def rpInitial (d : Dev) (n : Nat) : Nat := 2 + cfg d (cableObj n) 3

/-- An unattached port presents Rp, Rd or alternates between them by ROLE_PREF. -/
def presentIdle (n : Nat) (d : Dev) : Dev :=
  match roleNow d n with
  | 2 => present_ n 1 (disarm (.drp n) d)
  | 3 => present_ n (rpInitial d n) (disarm (.drp n) d)
  | _ => arm (.drp n) tDrpHalf (present_ n (if (cable d n).drpRp then rpInitial d n else 1) d)

/-- A write of ROLE_PREF or RP_INITIAL reaches a port that is not attached. -/
def presentAgain (n : Nat) (d : Dev) : Dev :=
  if portRuns d n && (cable d n).typec == .unattached then presentIdle n d else d

/-- DRP_TOGGLE. -/
def drpToggle (n : Nat) (d : Dev) : Dev :=
  onExpiry (.drp n) (fun d =>
    if portRuns d n && isDual n && (cable d n).typec == .unattached && decide (roleNow d n ≤ 1) then
      presentIdle n (setCable n (fun c => { c with drpRp := !c.drpRp }) d)
    else d) d

/-! ### The USB 2.0 switch (R206) -/

/-- The host pair a port routes to. -/
def usb2Pair (d : Dev) (n : Nat) : Nat := cfg d (cableObj n) 8

/-- Whether an attached port holds a pair. -/
def usb2Held (d : Dev) (pair : Nat) : Bool := (List.range 8).any fun n => (cable d n).usb2Closed && usb2Pair d n == pair

/-- Waiting ports take their pairs, the lowest number first. -/
def usb2Promote (d : Dev) : Dev :=
  (List.range 8).foldl (fun d n =>
    if (cable d n).usb2Conflict && !usb2Held d (usb2Pair d n) then
      setCable n (fun c => { c with usb2Closed := usb2Pair d n != 0, usb2Conflict := false }) d
    else d) d

/-- A port is attached: its switch closes, or waits while the pair is taken. -/
def usb2Join (n : Nat) (d : Dev) : Dev :=
  let pair := usb2Pair d n
  if pair = 0 then d
  else
    let held := usb2Held d pair
    setCable n (fun c => { c with usb2Closed := !held, usb2Conflict := held }) d

/-- A port's switch opens. -/
def usb2Leave (n : Nat) (d : Dev) : Dev :=
  usb2Promote (setCable n (fun c => { c with usb2Closed := false, usb2Conflict := false }) d)

/-- A write of USB2_ROUTE on an attached port. -/
def usb2Reroute (n : Nat) (d : Dev) : Dev :=
  let c := cable d n
  if c.typec = .attachedSrc ∨ c.typec = .attachedSnk then usb2Join n (usb2Leave n d) else d

/-! ### Leaving an attachment -/

/-- The timers of a port's Type-C side. -/
def ccTimersOff (n : Nat) (d : Dev) : Dev :=
  { d with timers := d.timers.filter fun t => match t.1 with
    | .ccDebounce m | .ccShort m | .ccShortRe m | .tryWait m | .drp m | .errRec m => m != n
    | _ => true }

/-- No epoch stream marks the port any more (R371). -/
def dropMarks (n : Nat) (d : Dev) : Dev :=
  (List.range 16).foldl (fun d k => setEpoch k (fun e =>
    { e with marks := e.marks &&& ~~~(BitVec.ofNat 8 (2 ^ n)), resub := e.resub &&& ~~~(BitVec.ofNat 8 (2 ^ n)) }) d) d

/-- What an attachment held is given back (R85, R219, R290): the port is fenced, its allocation returned, its gates off and
VBUS discharged, its pod link, profile membership and USB 2.0 pair dropped, its claim and retries forgotten, and a shepherd
step starts (R288). -/
def teardown (n : Nat) (d : Dev) : Dev :=
  let d := setFence n true d
  let d := needStep d
  let d := setCable n (fun c => { c with booked := 0, reserved := 0, claim := 0, shedCause := .none, vconn := 0 }) d
  let d := clearProfileVlan n (unidentify n (podClose n d))
  let d := dropMarks n d
  let d := pdIdsReset n (pdForget n (powerOff n (ccTimersOff n d)))
  let d := setCable n (fun c =>
    { c with orientation := 0, cc1 := .nothing, cc2 := .nothing, cableBits := 0, emark := 0, cableAsk := .notAsked,
             accessory := 0, profileId := 0, powerRole := .none, dataRole := .none, vconnSource := false, epr := .off,
             firstRefused := false, retriesLeft := 3, guardAfterAttach := false, guardFresh := false, vbusWait := false,
             hardResets := 0 }) d
  usb2Leave n d

/-- The end of a fault ladder and of what a partner's failures had latched, at its detach (R269, R298, R302). -/
def ladderEnds (n : Nat) (d : Dev) : Dev :=
  disarm (.shortRetry n) (setCable n (fun c =>
    { c with path := if isFault c.path then .off else c.path, retriesLeft := 3, ladder := Ladder.clear, pdFail := false,
             recoveries := 0 }) d)

/-- CC_DETACH (R206, R219, R298, R302): nothing is on the CC lines any more; the fault ladder ends. -/
def ccDetach (n : Nat) (d : Dev) : Dev :=
  if !portRuns d n then d
  else
    match (cable d n).typec with
    | .unattached | .errorRecovery | .ccShort =>
      ladderEnds n (setCable n (fun c => { c with cc1 := .nothing, cc2 := .nothing, emark := 0 }) d)
    | _ => presentIdle n (setCable n (fun c => { c with typec := .unattached }) (ladderEnds n (teardown n d)))

/-- Type-C ErrorRecovery: the CC lines are open for tErrorRecovery (R85, R269). -/
def enterErrorRecovery (n : Nat) (d : Dev) : Dev :=
  arm (.errRec n) tErrorRecovery (present_ n 0 (setCable n (fun c => { c with typec := .errorRecovery }) (teardown n d)))

/-- ERROR_RECOVERY_DONE. -/
def errorRecoveryDone (n : Nat) (d : Dev) : Dev :=
  onExpiry (.errRec n) (fun d =>
    presentIdle n (setCable n (fun c => { c with typec := .unattached, resetting := false }) d)) d

/-- Non-persistent values of a port's objects go back to their defaults (Table 3-6). -/
def dropPortConfig (n : Nat) (d : Dev) : Dev :=
  let objs := [0x2000, 0x3000, 0x4000, 0x7000, 0x8000, 0x9000, 0xA000, 0xC200].map fun b => b + 0x40 * n
  let keeps (x : Nat × Nat) : Bool :=
    let obj := x.1 / 256
    !objs.contains obj || (match odElem d obj (x.1 % 256) with
      | some e => bit (odFlags obj (x.1 % 256) e) 0
      | none => false)
  onOd (fun o => { o with cfg := o.cfg.filter keeps }) d

/-- PORT reset of one cable port (R85, Table 3-6): ErrorRecovery's order, and the port's state, queues and learned stations
cleared. A thermal ceiling belongs to its node and survives (R555). -/
def portResetOne (n : Nat) (d : Dev) : Dev :=
  if !portRuns d n then d
  else
    let d := portDown n (teardown n d)
    let d := setSwPort n (fun w =>
      { w with link := false, speed := 0, lastDrop := 0, halfDuplex := 0, pauseIgnored := 0, cutBad := 0, limitHit := 0,
               movesIn := 0 }) d
    let d := (List.range 8).foldl (fun d c => rechargeFold n c d) (dropPortConfig n d)
    let d := setCable n (fun c =>
      { Cable.reset with path := c.path, discharge := c.discharge, rpNow := c.rpNow, presentRp := c.presentRp,
                         heat := c.heat, thermCeil := c.thermCeil, sinkCeil := c.sinkCeil, lastDerate := c.lastDerate,
                         hotSince := c.hotSince, coolSince := c.coolSince, rank := cfg d 0x2400 6, ladder := c.ladder,
                         typec := .errorRecovery, resetting := true }) d
    arm (.errRec n) tErrorRecovery (present_ n 0 d)

/-- PORT_RESET: every port whose bit is set. -/
def portReset (ports : BitVec 8) (d : Dev) : Dev :=
  (List.range 8).foldl (fun d n => if ports.getLsbD n then portResetOne n d else d) d

/-! ### Attaching (R195, R208, R218) -/

/-- Whether a line shows Rp. -/
def isRp : CcLine → Bool
  | .rpDefault | .rp1A5 | .rp3A0 => true
  | _ => false

/-- The code that raises the Rp of the lines that read below vRa to the 3.0 A level (R196): 4 both, 5 CC1, 6 CC2. -/
def raiseCode (cc1 cc2 : CcLine) : Nat := if cc1 = .ra then if cc2 = .ra then 4 else 5 else 6

/-- A line that reads below vRa while Default Rp stands on it is tested for a short: its Rp is raised for 1 ms (R196). -/
def shortTestStart (n : Nat) (cc1 cc2 : CcLine) (d : Dev) : Dev :=
  if (cc1 = .ra ∨ cc2 = .ra) ∧ (cable d n).rpNow = 2 then arm (.ccShort n) ms (present_ n (raiseCode cc1 cc2) d) else d

/-- CC_DEBOUNCE: what the lines of an unattached port show. Rd, Rp, or Ra on both start the debounce, and a line that reads
below vRa is tested for a short (R196). During boot the event is latched on C0 and C1 (R97). -/
def ccDebounce (n : Nat) (cc1 cc2 : CcLine) (d : Dev) : Dev :=
  let seen := setCable n fun c => { c with cc1 := cc1, cc2 := cc2 }
  if booting d && decide (n < 2) then
    onBoot (fun b => { b with latched := b.latched ||| BitVec.ofNat 6 (2 ^ n) }) (seen d)
  else if !portRuns d n || (cable d n).typec ≠ .unattached then d
  else
    let shows (l : CcLine) : Bool := l == .rd || isRp l
    let d := shortTestStart n cc1 cc2 (seen d)
    if !(shows cc1 || shows cc2 || (cc1 == .ra && cc2 == .ra)) then d
    else arm (.ccDebounce n) tCcDebounce (disarm (.drp n) (setCable n (fun c => { c with typec := .attachWait }) d))

/-- Attached as a source: fenced, under profile 0's rank; vSafe5V waits for a check that started after the attach (R218). -/
def attachSource (n orient : Nat) (d : Dev) : Dev :=
  let d := setCable n (fun c =>
    { c with typec := .attachedSrc, orientation := orient, powerRole := .source, dataRole := .dfp, vconnSource := true,
             vbusWait := true, rank := cfg d 0x2400 6 }) d
  guardNow n (usb2Join n (present_ n (rpInitial d n) (setFence n true d)))

/-- Attached as a sink: the gates close for the source's vSafe5V, unless the port is LATCHED (R302), and the inflow is that of
the Rp level seen (R242), under boot policy HALT no more than 1.5 A (Table 3-9). A discharge ends, because the partner sources
VBUS (R283). -/
def attachSink (n orient ma : Nat) (d : Dev) : Dev :=
  let ma := if isHalted d then min ma 1500 else ma
  let d := disarm (.discharge n) (setCable n (fun c =>
    { c with typec := .attachedSnk, orientation := orient, powerRole := .sink, dataRole := .ufp, contract := .implicit,
             mv := 5000, ma := ma, booked := 5 * ma, path := if c.path = .latched then .latched else .on,
             gateOn := decide (c.path ≠ .latched), discharge := false, vconnSource := false, rank := cfg d 0x2400 6 }) d)
  guardNow n (usb2Join n (present_ n 1 (setFence n true d)))

/-- What the e-marker of a cable would answer, as CABLE shows it. -/
def cableByte : CableId → Byte
  | .none => 0
  | .answered five vmax active =>
    BitVec.ofNat 8 ((if five then 2 else 1) + 4 * vmax.toNat + 16 * b2n active)

/-- CC_ATTACH: the debounce ends with these lines (R195, R208). On C0 and C1 with ROLE_PREF 1 a sink partner is first tried
as a source. -/
def ccAttach (n : Nat) (cc1 cc2 : CcLine) (cable_ : CableId) (d : Dev) : Dev :=
  let c := cable d n
  let trying := c.typec == .trySnk
  if !portRuns d n || !(trying || (c.typec == .attachWait && armed (.ccDebounce n) d)) then d
  else
    let d := disarm (.ccDebounce n) (setCable n (fun c => { c with cc1 := cc1, cc2 := cc2, emark := cableByte cable_ })
      (reach (.ccDebounce n) d))
    let pref := roleNow d n
    let back (d : Dev) : Dev := presentIdle n (setCable n (fun c => { c with typec := .unattached, emark := 0 }) d)
    let accessory (k : Nat) (d : Dev) : Dev :=
      setCable n (fun c => { c with typec := .accessory, accessory := k }) (disarm (.tryWait n) d)
    if cc1 = .ra ∧ cc2 = .ra then accessory 1 d
    else if (cc1 = .rd ∧ cc2 = .rd) ∨ (isRp cc1 && isRp cc2) then accessory 2 d
    else if trying then
      if isRp cc1 && !isRp cc2 then attachSink n 1 (lineMa cc1) (disarm (.tryWait n) d)
      else if isRp cc2 && !isRp cc1 then attachSink n 2 (lineMa cc2) (disarm (.tryWait n) d)
      else d
    else if cc1 = .rd ∨ cc2 = .rd then
      if pref = 2 then back d
      else if isDual n ∧ pref = 1 then
        arm (.tryWait n) tTrySnk (present_ n 1 (setCable n (fun c => { c with typec := .trySnk }) d))
      else attachSource n (if cc1 = .rd then 1 else 2) d
    else if (isRp cc1 || isRp cc2) && isDual n && decide (pref ≠ 3) then
      attachSink n (if isRp cc1 then 1 else 2) (if isRp cc1 then lineMa cc1 else lineMa cc2) d
    else back d

/-- TRY_SNK_TIMEOUT: no source was seen; the port takes the source path with the lines it saw. -/
def trySnkTimeout (n : Nat) (d : Dev) : Dev :=
  onExpiry (.tryWait n) (fun d =>
    let c := cable d n
    if c.typec ≠ .trySnk then d
    else attachSource n (if c.cc1 = .rd then 1 else 2) d) d

/-! ### CC short (R196) -/

/-- The port enters CC_SHORT: no VBUS, no VCONN, a retest each second under the Default Rp. -/
def enterCcShort (n : Nat) (d : Dev) : Dev :=
  let d := present_ n 2 (teardown n d)
  arm (.ccShortRe n) sec (setCable n (fun c => { c with typec := .ccShort, ccShortCount := inc16 c.ccShortCount }) d)

/-- CC_SHORT_TEST: the Rp that was raised for the test comes down again. -/
def ccShortTest (n : Nat) (low : Bool) (d : Dev) : Dev :=
  onExpiry (.ccShort n) (fun d =>
    let c := cable d n
    let d := if 4 ≤ c.rpNow && (c.typec == .unattached || c.typec == .attachWait) then present_ n 2 d else d
    if low && portRuns d n then enterCcShort n d else d) d

/-- CC_SHORT_RETEST: each second the Rp is raised for 1 ms and the lines are read. -/
def ccShortRetest (n : Nat) (low : Bool) (d : Dev) : Dev :=
  onExpiry (.ccShortRe n) (fun d =>
    if (cable d n).typec ≠ .ccShort then d
    else
      let d := present_ n 2 (elapse ms (present_ n 4 (arm (.ccShortRe n) sec d)))
      if low then d
      else presentIdle n (setCable n (fun c => { c with typec := .unattached }) (disarm (.ccShortRe n) d))) d

/-! ### The connector guard (R197-R201, R218) -/

/-- The period of checks on a port, from start to start. -/
def guardPeriod (d : Dev) (n : Nat) : Nat := if (cable d n).guard = .wet then 5 * sec else cfg d 0x2300 1 * sec

/-- Whether a partner is on the port. -/
def hasPartner (c : Cable) : Bool :=
  match c.typec with
  | .unattached | .errorRecovery | .ccShort => false
  | _ => true

/-- GUARD_CHECK: a check of 20 ms starts, in the other direction than the one before it. -/
def guardCheck (n : Nat) (d : Dev) : Dev :=
  if !portRuns d n || (cable d n).guardRuns then d
  else
    onExpiry (.guard n) (fun d =>
      let d := setCable n (fun c =>
        { c with guardRuns := true, guardReverse := !c.guardReverse, guardAfterAttach := hasPartner c && !c.gateOn }) d
      arm (.guardEnd n) (20 * ms) (arm (.guard n) (guardPeriod d n) d)) d

/-- The resistances that a check reads: R197's pins are skipped. -/
def guardReads (c : Cable) (k : PinKohm) : List Nat :=
  (if c.cc1 = .nothing then [k.cc1] else []) ++ (if c.cc2 = .nothing then [k.cc2] else []) ++ [k.sbu1, k.sbu2]
    ++ (if hasPartner c then [] else [k.vbus])

/-- The guard's state after a reading of `r` kΩ (R199, R200). -/
def guardNext (wetKohm r : Nat) (c : Cable) : Cable :=
  let c := { c with guardLast := if 2200 < r then 0xFFFFFFFF else r }
  let w := wetNext wetKohm r (c.guard == .wet) c.dryCount
  { c with guard := if w.1 then .wet else if r ≤ 2000 then .damp else .dry, dryCount := w.2 }

/-- A port that has become WET (R199, R201): VCONN goes off, a source is shed by the step that this starts, a sink leaves the
entry to EPR (R246) and asks for vSafe5V at 1.5 A or less, and checks follow 5 s apart. -/
def becameWet (n : Nat) (d : Dev) : Dev :=
  let d := arm (.guard n) (5 * sec - 20 * ms) d
  let c := cable d n
  if c.powerRole = .source ∧ sourcing c then needStep d
  else
    let d := vconnOff n d
    frsUpdate n (sinkReview n (if c.powerRole = .sink ∧ c.epr = .entering then eprExit n d else d))

/-- GUARD_CHECK_DONE (R199-R201, R218): the result takes effect. A check that started with the gates off and ends without WET
opens the way for VBUS, and one that VBUS waited for applies it. -/
def guardCheckDone (n : Nat) (k : PinKohm) (d : Dev) : Dev :=
  onExpiry (.guardEnd n) (fun d =>
    let c := cable d n
    if !c.guardRuns then d
    else
      let r := (guardReads c k).foldl min 0xFFFFFFFF
      let d := setCable n (fun c => { guardNext (cfg d 0x2300 0) r c with guardRuns := false }) d
      let c' := cable d n
      let d := setCable n (fun x => { x with guardFresh := c'.guard != .wet && c.guardAfterAttach && !c'.gateOn }) d
      if c'.guard = .wet ∧ c.guard ≠ .wet then becameWet n d
      else if c'.guard ≠ .wet ∧ c'.vbusWait = true ∧ c.guardAfterAttach = true then applyVbus n d
      else if c'.guard ≠ .wet ∧ c.guard = .wet then frsUpdate n d
      else d) d

/-- VCONN_FAULT (R203): the limit held for 1 ms, or VCONN_IN left its range; the cable counts as 3 A and 20 V. -/
def vconnFault (n : Nat) (d : Dev) : Dev :=
  if (cable d n).vconn ≠ 1 then d
  else recomputeOffer n (setCable n (fun c => { c with vconn := 2, cableBits := 0 }) d)

end Sys2Proof.Machine
end

