-- ==== Sys2Proof/Machine/Contracts.lean ====
section
/-! DEFINITION. The PD messages and timers of a cable port: requests and bookings, the sink's contract, EPR, swaps, Fast Role
Swap, resets and authentication (R231-R270). -/

namespace Sys2Proof.Machine

/-! ### Escalation (R254, R268, R269, R270) -/

/-- Whether a power transition is under way: from the Accept of a Request to its PS_RDY. -/
def inTransition (d : Dev) (n : Nat) : Bool :=
  let c := cable d n
  armed (.tsrc n) d || armed (.psTrans n) d || (c.nego.isSome && c.lastSent == some .psRdy)

/-- A message that nothing awaits: Soft_Reset, or Hard Reset during a power transition (R254, R270). -/
def protocolError (n : Nat) (d : Dev) : Dev := if inTransition d n then sendHardReset n d else sendSoftReset n d

/-- The partner counts as a sink without PD (R268): Type-C current, booked at 5 V, profile 0, not a pod. Where the rise to that
booking is not admitted (R285) the port stays without VBUS as at a first allowance (R286). -/
def nonPd (n : Nat) (d : Dev) : Dev :=
  let ma := rpMa (cfg d (cableObj n) 3)
  let d := podClose n (pdForget n d)
  if (5 * ma : Int) - (cable d n).booked ≤ ledgerFree d then
    notAPod n (setConverter n 5000 ma (setCable n (fun c =>
      { c with contract := .typecOnly, pdoKind := .fixed, mv := 5000, ma := ma, booked := 5 * ma }) d))
  else
    needStep (vconnOff n (setCable n (fun c => { c with booked := 0, firstRefused := true }) (powerOff n (setFence n true d))))

/-- A sink falls back to the Type-C current of its Rp (R242), under boot policy HALT to no more than 1.5 A; with PD_FAIL it has
profile 0 and is no pod (R268, R269). -/
def nonPdSink (n : Nat) (d : Dev) : Dev :=
  let c := cable d n
  let rp := if c.orientation = 1 then lineMa c.cc1 else lineMa c.cc2
  let ma := if isHalted d then min rp 1500 else rp
  let d := podClose n (pdForget n d)
  notAPod n (setBooked n (5 * ma) (setCable n (fun c =>
    { c with contract := .typecOnly, pdoKind := .fixed, mv := 5000, ma := ma }) d))

/-- R269: nHardResetCount Hard Resets brought no response: ErrorRecovery, and after three such cycles PD_FAIL. -/
def noResponse (n : Nat) (d : Dev) : Dev :=
  let c := cable d n
  if c.hardResets < 2 then sendHardReset n d
  else if c.recoveries < 3 then enterErrorRecovery n (setCable n (fun c => { c with recoveries := c.recoveries + 1 }) d)
  else
    let d := setCable n (fun c => { c with pdFail := true }) d
    if c.powerRole = .sink then nonPdSink n d else nonPd n d

/-- ERROR_RECOVERY: NoResponseTimer expires. -/
def errorRecovery (n : Nat) (d : Dev) : Dev := onExpiry (.noResponse n) (noResponse n) d

/-! ### Contracts come into force -/

/-- A port of a swap or a restore has its explicit contract: the fence that the swap or the shed put up is lifted (R19, R248,
R261). -/
def contractUnfences (n : Nat) (d : Dev) : Dev :=
  let c := cable d n
  let d := if c.restored || c.swapOpen then setFence n false d else d
  setCable n (fun c => { c with swapping := 0, swapOpen := false }) d

/-- After the first contract on C0 or C1 with ROLE_PREF 1 or 2, the source asks what its partner could give (R247); on other
ports discovery starts. -/
def firstContract (n : Nat) (d : Dev) : Dev :=
  let d := recomputeOffer n d
  if isDual n && (roleNow d n == 1 || roleNow d n == 2) && (cable d n).awaiting == .nothing then
    pdSend n .getSourceCap (setAwait n .sourceCaps d)
  else afterContract n d

/-- PS_RDY of a source was received: the contract that `g` describes is in force (R234, R236). -/
def sourceContract (n : Nat) (g : Nego) (d : Dev) : Dev :=
  let first := !explicit (cable d n)
  let held := (cable d n).pdoKind == .pps && !first
  let d := setCable n (fun c =>
    { c with contract := .spr, pdoKind := g.kind, pos := g.pos, mv := g.mv, ma := g.ma, ilim := ilimOf g.ma,
             mismatch := g.mismatch }) d
  let d := responded n (contractUnfences n d)
  let d := if g.kind = .pps then (if held then d else arm (.srcPps n) (15 * sec) d) else disarm (.srcPps n) d
  let d := endNego n d
  let d := collision n false d
  if first then firstContract n d else d

/-- A Request that repeats the contract in force (R235). -/
def isKeepAlive (c : Cable) (g : Nego) : Bool :=
  explicit c && c.pos == g.pos && c.mv == g.mv && c.ma == g.ma && c.pdoKind == g.kind

/-- What a swap's Accept or PS_RDY stands for. `swapping` reads 1 PR_Swap to sink, 2 PR_Swap to source, 4 FR_Swap, 5 DR_Swap,
6 VCONN taken, 7 VCONN given. -/
def dataSwapped : DataRole → DataRole
  | .dfp => .ufp
  | .ufp => .dfp
  | .none => .none

/-- The fence of a PR_Swap goes up, and what it found is kept for the new contract (R248). -/
def swapFence (n : Nat) (d : Dev) : Dev :=
  setFence n true (setCable n (fun c => { c with swapOpen := c.swapOpen || !(swPort d n).fenced }) d)

/-- The Accept of a swap was received by the partner, or its Accept by the device: the swap begins (R247, R248). A port that is
to become the source is checked before its VBUS (R198). VCONN that a WET result or VCONN_IN now forbids does not come on
(R45, R199). -/
def swapStarts (n : Nat) (d : Dev) : Dev :=
  let c := cable d n
  match c.swapping with
  | 1 => powerOff n (swapFence n (setAwait n .nothing d))
  | 2 =>
    let d := guardNow n (setBooked n 0 (swapFence n d))
    let d := setCable n (fun c =>
      { c with gateOn := false, path := .off, frs := .off, vctl := 0, ilim := 0, contract := .none, mv := 0, ma := 0,
               awaiting := .psRdy }) d
    arm (.psTrans n) (500 * ms) d
  | 4 => arm (.psTrans n) (500 * ms) (setAwait n .psRdy d)
  | 5 => afterContract n (setCable n (fun c => { c with dataRole := dataSwapped c.dataRole, swapping := 0 }) d)
  | 6 =>
    if wantsVconn d c then
      pdSend n .psRdy (setCable n (fun c => { c with vconn := 1, vconnSource := true, reserved := 0 }) d)
    else setCable n (fun c => { c with reserved := 0, swapping := 0 }) d
  | 7 => arm (.psTrans n) (500 * ms) (setAwait n .psRdy d)
  | _ => d

/-- VBUS of a port that gives up the source role is below vSafe0V (R248): its booking is released, it is a sink, and tells
its partner. -/
def sourceGone (n : Nat) (d : Dev) : Dev :=
  let d := setCable n (fun c =>
    { c with booked := 0, powerRole := .sink, typec := .attachedSnk, contract := .none, pdoKind := .fixed, pos := 0, mv := 0,
             ma := 0, offer := [], offerMw := 0, offerHeld := false, path := .off }) d
  pdSend n .psRdy (present_ n 1 d)

/-- VBUS of a port that became the source is there: it tells its partner (R248). -/
def sourceHere (n : Nat) (d : Dev) : Dev := pdSend n .psRdy d

/-! ### GoodCRC (R233, R234, R253) -/

/-- The cable has said what it is, or nothing: CABLE takes it, and the offer that waited for it goes out (R203, R229). -/
def cableRead (n : Nat) (bits_ : Byte) (d : Dev) : Dev :=
  let d := setCable n (fun c => { c with cableAsk := .answered, cableBits := bits_ }) d
  if (cable d n).powerRole = .source then sendCaps n d else d

/-- The MessageID of a cable plug's next message: its counter starts at 0 (R253). -/
def nextId : Option (BitVec 3) → BitVec 3
  | none => 0
  | some i => i + 1

/-- SOP' Discover Identity got its GoodCRC and its answer: an active cable is asked on SOP'' too (R203). -/
def cableNear (n : Nat) (d : Dev) : Dev :=
  let id := nextId (cable d n).rxIdP
  let d := emit (.pd (Fin.ofNat 8 n) (.goodCrc id)) (setCable n (fun c => { c with rxIdP := some id }) d)
  let c := cable d n
  if c.emark.getLsbD 4 then pdSend n (.cableIdentity true) (setCable n (fun c => { c with cableAsk := .far }) d)
  else cableRead n c.emark d

/-- The answer on SOP'' (R203). -/
def cableFar (n : Nat) (d : Dev) : Dev :=
  let id := nextId (cable d n).rxIdPP
  let d := emit (.pd (Fin.ofNat 8 n) (.goodCrc id)) (setCable n (fun c => { c with rxIdPP := some id }) d)
  cableRead n (cable d n).emark d

/-! ### Chunked messages (R251, R255) -/

/-- The octets of one chunk of an extended message. -/
def chunkSize : Nat := 26

/-- Send the next chunk of the message that the port is sending. -/
def sendChunk (n : Nat) (size : Nat) (d : Dev) : Dev :=
  let c := (cable d n).chunks
  pdSend n (.security c.next size (c.left.take chunkSize))
    (setCable n (fun x => { x with chunks := { left := c.left.drop chunkSize, next := c.next + 1 } }) d)

/-- Send a Security_Response: its first chunk, and the rest as the partner asks for it. -/
def sendSecurity (n : Nat) (octets : List Byte) (d : Dev) : Dev :=
  sendChunk n octets.length (setCable n (fun c => { c with chunks := { left := octets, next := 0 } }) d)

/-- A chunk of a Security_Response got its GoodCRC: the next is asked for within ChunkSenderRequest, and after the last one
the exchange is over (R255, R259). -/
def chunkSent (n : Nat) (d : Dev) : Dev :=
  let c := cable d n
  if c.chunks.left ≠ [] then arm (.chunk n) (27 * ms) d
  else if armed (.auth n) d then d
  else setCable n (fun c => { c with authBusy := false, chunks := Chunks.none }) d

/-- The partner asks for the next chunk. -/
def chunkAsked (n : Nat) (d : Dev) : Dev :=
  let c := cable d n
  if c.chunks.left = [] || !armed (.chunk n) d then d
  else sendChunk n (chunkSize * c.chunks.next + c.chunks.left.length) (disarm (.chunk n) d)

/-- The first chunk of a longer message: the next one is asked for, and has ChunkSenderResponse to come (R255). -/
def firstChunk (n : Nat) (d : Dev) : Dev := arm (.chunkResp n) (27 * ms) (pdSend n (.chunkRequest 1) d)

/-- What a GoodCRC completes, by the message it acknowledges. -/
def acknowledged (n : Nat) (m : PdMsg) (d : Dev) : Dev :=
  let c := cable d n
  match m with
  | .sourceCaps _ => arm (.sender n) (27 * ms) (disarm (.noResponse n) (setCable n (fun c => { c with capsSent := 0 }) d))
  | .request _ | .eprRequest _ _ | .softReset | .getSourceCap | .getSinkCap | .prSwap | .frSwap | .eprKeepAlive =>
    arm (.sender n) (27 * ms) d
  | .eprMode true _ => arm (.sender n) (27 * ms) d
  | .vdm _ _ => if (vdmMessages d c.vdm).contains m then arm (.vdm n) (30 * ms) d else d
  | .wait => if c.powerRole = .source then arm (.waitReoffer n) (100 * ms) d else d
  | .alert _ => if c.ladder.alertReset then sendHardReset n d else d
  | .cableIdentity false => cableNear n d
  | .cableIdentity true => cableFar n d
  | .accept =>
    match c.nego with
    | some g =>
      if isKeepAlive c g then pdSend n .psRdy d
      else arm (.tsrc n) (30 * ms) (if g.booking < c.booked then setBooked n g.booking d else d)
    | none =>
      if c.swapping ≠ 0 then swapStarts n d
      else if c.powerRole = .source then sendCaps n d
      else setAwait n .sourceCaps d
  | .psRdy =>
    match c.nego with
    | some g => sourceContract n g d
    | none =>
      match c.swapping with
      | 1 => arm (.psTrans n) (500 * ms) (setAwait n .psRdy d)
      | 2 | 4 => sendCaps n d
      | 6 =>
        let d := setCable n (fun c => { c with swapping := 0, cableAsk := .notAsked }) d
        if c.powerRole = .source ∧ explicit c then sendCaps n d else d
      | _ => d
  | .security .. => chunkSent n d
  | _ => d

/-- GOODCRC: it completes the message outstanding when it carries that message's MessageID (R253). -/
def goodcrc (n : Nat) (id : BitVec 3) (d : Dev) : Dev :=
  if !pdListens d n then d
  else
    let c := cable d n
    match c.lastSent with
    | none => d
    | some m =>
      let want := match m with
        | .cableIdentity false => c.txIdP
        | .cableIdentity true => c.txIdPP
        | _ => c.txId
      if id ≠ want then d else acknowledged n m (sendDone n d)

/-! ### The source's Requests (R231-R236) -/

/-- What a Request asks for, if its object is in the offer: the choice with its booking, and whether current and voltage lie
within the PDO. A maximum current above the PDO's is outside it unless Capability Mismatch is set. -/
def requestOf (c : Cable) (rdo : Word) : Option (Nego × Bool) :=
  let pos := bits rdo.toNat 31 28
  if pos = 0 then none
  else
    match c.offer[pos - 1]? with
    | none => none
    | some w =>
      let mismatch := rdo.getLsbD 26
      match pdoKindOf w with
      | some .pps =>
        let mv := bits rdo.toNat 20 9 * 20
        let ma := bits rdo.toNat 6 0 * 50
        some ({ pos := pos, mismatch := mismatch, kind := .pps, mv := mv, ma := ma, booking := pdoMax w * ma / 1000,
                epr := false }, decide (pdoMin w ≤ mv) && decide (mv ≤ pdoMax w) && decide (ma ≤ pdoMa w mv))
      | _ =>
        let ma := bits rdo.toNat 19 10 * 10
        let mx := bits rdo.toNat 9 0 * 10
        some ({ pos := pos, mismatch := mismatch, kind := .fixed, mv := pdoMax w, ma := ma,
                booking := pdoMax w * ma / 1000, epr := false },
              decide (ma ≤ pdoMa w 0) && (mismatch || decide (mx ≤ pdoMa w 0)))

/-- The answer of R231: Accept a choice, Wait or Reject. -/
inductive RequestEnd where
  | accept (g : Nego) | wait | reject
  deriving DecidableEq, Repr

/-- R231: the first check that applies decides. -/
def judgeRequest (d : Dev) (n : Nat) (rdo : Word) : RequestEnd :=
  let c := cable d n
  match requestOf c rdo with
  | none => .reject
  | some (g, inside) =>
    if !inside then .reject
    else if g.mismatch then .accept g
    else if ledgerFree d < (g.booking : Int) - c.booked then .wait
    else .accept g

/-- REQUEST: a rise of the booking is admitted before Accept (R233). -/
def request (n : Nat) (id : BitVec 3) (rdo : Word) (d : Dev) : Dev :=
  pdReceive n id (fun d =>
    let c := cable d n
    if c.powerRole ≠ .source || inTransition d n then protocolError n d
    else
      let d := disarm (.sender n) (disarm (.waitReoffer n) d)
      let d := if c.contract = .spr ∧ c.pdoKind = .pps then arm (.srcPps n) (15 * sec) d else d
      match judgeRequest d n rdo with
      | .accept g =>
        let d := setCable n (fun c =>
          { c with nego := some g, awaiting := .nothing, booked := max c.booked g.booking }) d
        pdSend n .accept d
      | .wait => negoOver n (pdSend n .wait d)
      | .reject => negoOver n (pdSend n .reject d)) d

/-- WAIT_REOFFER (R232). -/
def waitReoffer (n : Nat) (d : Dev) : Dev :=
  onExpiry (.waitReoffer n) (fun d => if pdListens d n && (cable d n).powerRole == .source then sendCaps n d else d) d

/-- TSRC_TRANSITION (R234): the converter follows the Request, and PS_RDY goes out with the new current limit. -/
def tsrcTransition (n : Nat) (d : Dev) : Dev :=
  onExpiry (.tsrc n) (fun d =>
    match (cable d n).nego with
    | some g => pdSend n .psRdy (setConverter n g.mv g.ma d)
    | none => d) d

/-- SOURCE_PPS_TIMEOUT (R236). -/
def sourcePpsTimeout (n : Nat) (d : Dev) : Dev :=
  onExpiry (.srcPps n) (fun d => sendHardReset n (setCable n (fun c => { c with ppsTimeoutCount := inc16 c.ppsTimeoutCount }) d)) d

/-- RENEGOTIATE (R229); on a sink, a new choice from the capabilities held. -/
def renegotiate (n : Nat) (d : Dev) : Dev :=
  let c := cable d n
  if !pdListens d n then d
  else if c.powerRole = .source then recomputeOffer n d
  else if explicit c && !negotiating c then sinkRequest n d
  else d

/-! ### The sink's contract (R237-R242) -/

/-- Source_Capabilities as the partner of a sink sent it. -/
def takeCaps (n : Nat) (pdos : List Word) (d : Dev) : Dev :=
  let d := disarm (.psTrans n) (disarm (.sinkReq n) (disarm (.sender n) (disarm (.noResponse n) d)))
  let c := cable d n
  let d := setCable n (fun c => { c with partnerCaps := pdos.take 11 }) d
  if c.gateOn || c.path == .latched then d
  else setCable n (fun c => { c with gateOn := true, path := .on, contract := .implicit, mv := 5000 }) d

/-- SOURCE_CAPABILITIES (R237-R239, R247). -/
def sourceCapabilities (n : Nat) (id : BitVec 3) (pdos : List Word) (d : Dev) : Dev :=
  pdReceive n id (fun d =>
    let c := cable d n
    if c.powerRole = .sink then
      sinkRequest n (disarm (.eprKeep n) (setCable n (fun c => { c with epr := if c.epr = .refused then .refused else .off })
        (takeCaps n pdos d)))
    else if c.awaiting = .sourceCaps then
      let free := (pdos.headD 0).getLsbD 27
      let d := disarm (.sender n) (setCable n (fun c =>
        { c with partnerCaps := pdos.take 11, awaiting := .nothing }) d)
      if free then pdSend n .prSwap (setAwait n .swapAnswer d) else afterContract n d
    else protocolError n d) d

/-- ACCEPT (R240): an inflow that falls is lowered at once; an Accept may also answer a swap or Soft_Reset. -/
def acceptMsg (n : Nat) (id : BitVec 3) (d : Dev) : Dev :=
  pdReceive n id (fun d =>
    let c := cable d n
    let d := disarm (.sender n) d
    match c.awaiting with
    | .requestAnswer =>
      match c.nego with
      | some g =>
        let d := if g.booking < c.booked then setBooked n g.booking d else d
        arm (.psTrans n) (500 * ms) (setAwait n .psRdy d)
      | none => d
    | .swapAnswer =>
      let d := setAwait n .nothing d
      swapStarts n (if c.swapping = 4 then d else setCable n (fun c => { c with swapping := 1 }) d)
    | .softResetAnswer =>
      if c.powerRole = .source then sendCaps n (setAwait n .nothing d) else setAwait n .sourceCaps d
    | _ => protocolError n d) d

/-- Get_Sink_Cap goes to the partner of a sink that may take part in Fast Role Swap (R249): after a first contract, or when
FRS_ENABLE is written. -/
def askSinkCap (n : Nat) (now : Bool) (d : Dev) : Dev :=
  let c := cable d n
  if now && c.powerRole == .sink && c.contract == .spr && cfgOn d (contractObj n) 17 && c.awaiting == .nothing then
    pdSend n .getSinkCap (setAwait n .sinkCaps d)
  else d

/-- FRS_ENABLE or FRS_MAX was written (R249). -/
def frsWritten (n : Nat) (d : Dev) : Dev := askSinkCap n ((cable d n).frsPartner == 0) (frsUpdate n d)

/-- A sink's explicit contract is in force: a rising inflow is raised (R240), keep-alives run (R241), the fence is lifted, and
a port that is the DFP goes on with R208 where no pod was looked for yet. A partner that the device is no DFP for is no pod:
profile 0 applies (R215). -/
def sinkContract (n : Nat) (g : Nego) (d : Dev) : Dev :=
  let first := !explicit (cable d n)
  let d := setBooked n g.booking d
  let d := setCable n (fun c =>
    { c with contract := if g.epr then .epr else .spr, pdoKind := g.kind, pos := g.pos, mv := g.mv, ma := g.ma }) d
  let d := responded n (contractUnfences n d)
  let d := if g.kind = .fixed then disarm (.sinkKeep n) d else arm (.sinkKeep n) (8 * sec) d
  let d := endNego n d
  let c := cable d n
  let d := if !first || c.pod != .none then d
    else if c.dataRole = .dfp then afterContract n d
    else liftFence n (tryProfile n 0 d).2
  askSinkCap n first (frsUpdate n d)

/-- PS_RDY (R240, R248): it completes a sink's contract, or the partner's part of a swap. A port that has become WET since it
accepted to be the source sources nothing (R199), and leaves the swap by ErrorRecovery (log entry 18). -/
def psRdy (n : Nat) (id : BitVec 3) (d : Dev) : Dev :=
  pdReceive n id (fun d =>
    let c := cable d n
    if c.awaiting ≠ .psRdy then protocolError n d
    else
      let d := setAwait n .nothing (disarm (.psTrans n) d)
      match c.nego with
      | some g => sinkContract n g d
      | none =>
        match c.swapping with
        | 1 =>
          setAwait n .sourceCaps (setCable n (fun c => { c with gateOn := true, path := .on, contract := .implicit, mv := 5000 }) d)
        | 2 =>
          if c.guard = .wet then enterErrorRecovery n d
          else
            applyVbus n (present_ n (rpInitial d n) (setCable n (fun c =>
              { c with powerRole := .source, typec := .attachedSrc, booked := c.reserved, reserved := 0,
                       contract := .implicit }) d))
        | 4 => sourceHere n d
        | 7 => vconnOff n (setCable n (fun c => { c with vconnSource := false, swapping := 0 }) d)
        | _ => d) d

/-- WAIT: the sink repeats its Request 100 ms later; a swap that is told to wait is not made (R255). -/
def waitMsg (n : Nat) (id : BitVec 3) (d : Dev) : Dev :=
  pdReceive n id (fun d =>
    let c := cable d n
    let d := disarm (.sender n) d
    match c.awaiting with
    | .requestAnswer => arm (.sinkReq n) (100 * ms) (negoOver n d)
    | .swapAnswer => afterContract n (endNego n (setCable n (fun c => { c with swapping := 0 }) d))
    | _ => protocolError n d) d

/-- REJECT (R251): the contract and roles in force stand. -/
def rejectMsg (n : Nat) (id : BitVec 3) (d : Dev) : Dev :=
  pdReceive n id (fun d =>
    let c := cable d n
    let d := disarm (.sender n) d
    match c.awaiting with
    | .requestAnswer => negoOver n d
    | .swapAnswer => afterContract n (endNego n (setCable n (fun c => { c with swapping := 0 }) d))
    | .sourceCaps => afterContract n (setAwait n .nothing d)
    | .softResetAnswer => sendHardReset n d
    | _ => protocolError n d) d

/-- SINK_REQUEST_TIMER. -/
def sinkRequestTimer (n : Nat) (d : Dev) : Dev :=
  onExpiry (.sinkReq n) (fun d =>
    if pdListens d n && (cable d n).powerRole == .sink && !negotiating (cable d n) then sinkRequest n d else d) d

/-- SINK_PPS_KEEPALIVE (R241): the contract in force is requested again; a WET port requests the fixed 5 V (R239). -/
def sinkPpsKeepalive (n : Nat) (d : Dev) : Dev :=
  onExpiry (.sinkKeep n) (fun d =>
    let c := cable d n
    if c.powerRole ≠ .sink || !explicit c || c.pdoKind == .fixed then d
    else
      let d := arm (.sinkKeep n) (8 * sec) d
      if negotiating c then d else if wetExcess c then sinkRequest n d else sendRequest n (sameChoice c c.ma) d) d

/-- SINK_CAPABILITIES (R249). -/
def sinkCapabilities (n : Nat) (id : BitVec 3) (pdos : List Word) (d : Dev) : Dev :=
  pdReceive n id (fun d =>
    if (cable d n).awaiting ≠ .sinkCaps then protocolError n d
    else
      let d := setAwait n .nothing (disarm (.sender n) d)
      frsUpdate n (setCable n (fun c => { c with frsPartner := bits (pdos.headD 0).toNat 24 23 }) d)) d

/-! ### EPR as a sink (R243-R246) -/

/-- R243: whether the port may send EPR_Mode (Enter). -/
def eprMayEnter (d : Dev) (n : Nat) : Bool :=
  let c := cable d n
  pdListens d n && isDual n && (n == 0 || hasUnit d 8) && cfgOn d (contractObj n) 15 && c.powerRole == .sink
    && c.contract == .spr && (c.partnerCaps.headD 0).getLsbD 23 && c.guard != .wet && c.epr == .off && !negotiating c
    && c.awaiting == .nothing

/-- EPR_MODE_ENTER: with the EPR Sink Operational PDP in whole watts. -/
def eprModeEnter (n : Nat) (d : Dev) : Dev :=
  if !eprMayEnter d n then d
  else
    let pdp := min (cfg d (contractObj n) 12 * cfg d (contractObj n) 13 / 1000000) 240
    pdSend n (.eprMode true pdp) (setCable n (fun c => { c with epr := .entering, awaiting := .eprAnswer }) d)

/-- The source's answer to an entry in progress (R243, R245). -/
def eprEntry (n : Nat) (a : EprAnswer) (d : Dev) : Dev :=
  if (cable d n).epr ≠ .entering then protocolError n d
  else
    let d := disarm (.sender n) d
    match a with
    | .enterSucceeded =>
      arm (.eprKeep n) (375 * ms) (setCable n (fun c => { c with epr := .inEpr, awaiting := .sourceCaps }) d)
    | .enterFailed => setCable n (fun c => { c with epr := .refused, awaiting := .nothing }) d
    | _ => d

/-- EPR_MODE: the source's answer (R243, R245). An answer that crosses the Exit which SNK_EPR_ENABLE 0 sent starts nothing, and
a source that is in EPR by then is told again (R246). -/
def eprMode (n : Nat) (id : BitVec 3) (a : EprAnswer) (d : Dev) : Dev :=
  pdReceive n id (fun d =>
    let c := cable d n
    match a with
    | .enterAck | .enterSucceeded | .enterFailed =>
      if c.epr ≠ .entering && !cfgOn d (contractObj n) 15 then
        if a = .enterSucceeded then pdSend n (.eprMode false 0) d else d
      else eprEntry n a d
    | .exit =>
      if c.epr = .inEpr then disarm (.eprKeep n) (setCable n (fun c => { c with epr := .off, awaiting := .sourceCaps }) d)
      else protocolError n d) d

/-- EPR_SOURCE_CAPABILITIES (R243). -/
def eprSourceCapabilities (n : Nat) (id : BitVec 3) (pdos : List Word) (d : Dev) : Dev :=
  pdReceive n id (fun d =>
    if (cable d n).epr = .inEpr then sinkRequest n (takeCaps n pdos d) else protocolError n d) d

/-- EPR_KEEPALIVE (R244). -/
def eprKeepalive (n : Nat) (d : Dev) : Dev :=
  onExpiry (.eprKeep n) (fun d =>
    let c := cable d n
    if c.epr ≠ .inEpr then d
    else
      let d := arm (.eprKeep n) (375 * ms) d
      if negotiating c then d else pdSend n .eprKeepAlive (setAwait n .eprAck d)) d

/-- EPR_KEEPALIVE_ACK_TIMEOUT (R244). -/
def eprKeepaliveAckTimeout (n : Nat) (d : Dev) : Dev :=
  if (cable d n).awaiting = .eprAck then onExpiry (.sender n) (sendHardReset n) d else d

/-- A write of SNK_EPR_ENABLE (R245, R246): 0 leaves EPR, or its entry; either value lets a refused port try again. -/
def eprEnableWritten (n : Nat) (on_ : Bool) (d : Dev) : Dev :=
  let c := cable d n
  let d := if c.epr = .refused then setCable n (fun c => { c with epr := .off }) d else d
  if !on_ && (c.epr == .inEpr || c.epr == .entering) then eprExit n d else d

/-- EPR_KeepAlive_Ack arrives within SenderResponseTimer (R244). -/
def eprKeepaliveAck (n : Nat) (d : Dev) : Dev :=
  if (cable d n).awaiting = .eprAck then disarm (.sender n) (setAwait n .nothing d) else protocolError n d

/-! ### Swaps (R247-R250) -/

/-- Accept a swap of a kind, or answer otherwise. -/
def swapAnswer (n code : Nat) (ok : Bool) (d : Dev) : Dev :=
  if ok then pdSend n .accept (setCable n (fun c => { c with swapping := code }) d) else pdSend n .reject d

/-- PR_SWAP (Table 7-3, R248). -/
def prSwap (n : Nat) (id : BitVec 3) (d : Dev) : Dev :=
  pdReceive n id (fun d =>
    let c := cable d n
    if c.powerRole = .source then swapAnswer n 1 (isDual n && swapAllowed d n 0 && roleNow d n != 3) d
    else if !(isDual n && swapAllowed d n 1 && roleNow d n != 2 && c.guard != .wet) then swapAnswer n 2 false d
    else
      let need := 5 * rpMa (cfg d (cableObj n) 3)
      if ledgerFree d < (need : Int) then pdSend n .wait d
      else swapAnswer n 2 true (setCable n (fun c => { c with reserved := need }) d)) d

/-- DR_SWAP (Table 7-3). -/
def drSwap (n : Nat) (id : BitVec 3) (d : Dev) : Dev :=
  pdReceive n id (fun d => swapAnswer n 5 (isDual n && swapAllowed d n 2 && !(cable d n).podOpen) d) d

/-- VCONN_SWAP (Table 7-3): VCONN that the device takes is booked when it is admitted (R285). -/
def vconnSwap (n : Nat) (id : BitVec 3) (d : Dev) : Dev :=
  pdReceive n id (fun d =>
    let c := cable d n
    if c.vconnSource then swapAnswer n 7 (swapAllowed d n 3) d
    else if swapAllowed d n 3 && !isHalted d && wantsVconn d c && decide (1000 ≤ ledgerFree d) then
      swapAnswer n 6 true (setCable n (fun c => { c with reserved := 1000 }) d)
    else swapAnswer n 6 false d) d

/-- FR_SWAP_SIGNAL (R250): the converter is on before the sequencer knows; the inflow goes and 5 V times the FRS current is
booked in one step, and FR_Swap goes out. While the critical comparator is asserted the gates stay off and the step sheds the
port (R299, R557). -/
def frSwapSignal (n : Nat) (d : Dev) : Dev :=
  let c := cable d n
  if !pdListens d n || c.frs ≠ .armed then d
  else
    let ma := frsMa c.frsPartner
    let d := pdTimersOff n (setBooked n 0 d)
    let d := setConverter n 5000 ma (setCable n (fun c =>
      { c with powerRole := .source, typec := .attachedSrc, booked := 5 * ma, frs := .swapped, contract := .implicit,
               pdoKind := .fixed, pos := 0, mv := 5000, ma := ma, nego := none, lastSent := none, txQueue := [],
               swapping := 4, epr := if c.epr = .refused then .refused else .off, awaiting := .swapAnswer, gateOn := !d.shep.critical, path := .on,
               shedCause := if d.shep.critical then .critical else c.shedCause }) d)
    pdSend n .frSwap (present_ n (rpInitial d n) (needStep d))

/-! ### Questions that a port answers (R251) -/

/-- GET_SOURCE_CAP: the offer in force, or on C0 and C1 as a sink the one it would make. -/
def getSourceCap (n : Nat) (id : BitVec 3) (d : Dev) : Dev :=
  pdReceive n id (fun d =>
    let c := cable d n
    if c.powerRole = .source then
      if c.offer = [] then sendCaps n d
      else pdSend n (.sourceCaps c.offer) (disarm (.sender n) (setAwait n .capsAnswer d))
    else if roleNow d n = 2 ∨ !isDual n then pdSend n .notSupported d
    else
      let p := min (ceilingOf d n : Int) (ledgerFree d)
      if p < 500 then pdSend n .notSupported d else pdSend n (.sourceCaps (buildOffer d n p.toNat)) d) d

/-- The fixed voltages above 5 V that a port may sink: those of SPR, and of EPR where the port has an EPR sink (R226, Table
7-1). -/
def fixedVolts (d : Dev) (n : Nat) : List Nat :=
  [9000, 15000, 20000] ++ (if n == 0 || hasUnit d 8 then [28000, 36000, 48000] else [])

/-- The PDOs of Sink_Capabilities (R239): its FRS field carries 0. -/
def sinkPdos (d : Dev) (n : Nat) : List Word :=
  let vmax := cfg d (contractObj n) 12
  let ma := min (cfg d (contractObj n) 13) 3000
  let dual := if rolePref d n ≤ 1 then 68 else 0
  [fixedPdo dual 5000 ma] ++ (((fixedVolts d n).filter fun v => decide (v ≤ vmax)).map fun v => fixedPdo 0 v ma)
    ++ (if cfg d (contractObj n) 11 = 1 then [ppsPdo (min vmax 21000) ma] else [])

/-- GET_SINK_CAP. -/
def getSinkCap (n : Nat) (id : BitVec 3) (d : Dev) : Dev :=
  pdReceive n id (fun d => if isDual n then pdSend n (.sinkCaps (sinkPdos d n)) d else pdSend n .notSupported d) d

/-- The thermal node whose temperature a port's Status reports. -/
def portNode (n : Nat) : Nat := if n = 0 then 6 else if n = 1 then 8 else 7 + n

/-- The temperature that Status reports, in °C: the port node's, or RO2's on an SX7220. -/
def statusTemp (d : Dev) (n : Nat) : Int :=
  if isSmall d then (tget Sensor.reset d.heat.sensors 2).temp / 65536 else d.heat.t.getD (portNode n) 0 / 2 ^ 32

/-- The Status data block. -/
def statusOctets (d : Dev) (n : Nat) : List Byte :=
  let c := cable d n
  let temp := (max 1 (min 255 (statusTemp d n))).toNat
  let heat := if c.heat = .shed then 3 else if c.thermCeil.isSome || c.sinkCeil.isSome then 2 else 1
  [BitVec.ofNat 8 temp, BitVec.ofNat 8 (2 * b2n (decide (0 < sinkInflow d))), 0,
   BitVec.ofNat 8 (2 * b2n c.ocpEvent + 4 * b2n c.otpEvent), BitVec.ofNat 8 (2 * heat), 0, 0]

/-- GET_STATUS: the event flags are read once. -/
def getStatus (n : Nat) (id : BitVec 3) (d : Dev) : Dev :=
  pdReceive n id (fun d =>
    let mismatch := match (cable d n).nego with
      | some g => g.mismatch
      | none => (cable d n).mismatch
    let o := statusOctets d n
    pdSend n (.status o mismatch) (setCable n (fun c => { c with ocpEvent := false, otpEvent := false }) d)) d

/-- GET_PPS_STATUS: the last round's voltage in 20 mV and current in 50 mA. -/
def getPpsStatus (n : Nat) (id : BitVec 3) (d : Dev) : Dev :=
  pdReceive n id (fun d =>
    let c := cable d n
    pdSend n (.ppsStatus (leBytes 2 (c.vbus / 20) ++ [BitVec.ofNat 8 (min 255 (c.ibus.toNat / 50)), 0])) d) d

/-- GET_BATTERY_STATUS: what the host wrote to 0x3200. -/
def getBatteryStatus (n : Nat) (id : BitVec 3) (d : Dev) : Dev :=
  pdReceive n id (fun d => pdSend n (.batteryStatus (BitVec.ofNat 32
    (cfg d 0x3200 1 * 65536 + cfg d 0x3200 2 * 1024 + cfg d 0x3200 0 * 512))) d) d

/-- GET_SOURCE_CAP_EXTENDED and GET_SINK_CAP_EXTENDED. -/
def getSourceCapExtended (n : Nat) (id : BitVec 3) (d : Dev) : Dev := pdReceive n id (pdSend n .sourceCapsExt) d
@[inherit_doc getSourceCapExtended] def getSinkCapExtended (n : Nat) (id : BitVec 3) (d : Dev) : Dev :=
  pdReceive n id (fun d => pdSend n (if isDual n then .sinkCapsExt else .notSupported) d) d

/-- BIST (R251, Table 7-1). -/
def bistMsg (n : Nat) (id : BitVec 3) (m : BistMode) (d : Dev) : Dev :=
  pdReceive n id (fun d =>
    match m with
    | .testData => setCable n (fun c => { c with bist := some .testData }) d
    | .carrier => if isDual n then emit (.pd (Fin.ofNat 8 n) (.bist true)) d else d) d

/-- Not_Supported was received: the question that it answers has no answer, and what stood stands. -/
def notSupportedMsg (n : Nat) (d : Dev) : Dev :=
  let c := cable d n
  let d := disarm (.sender n) d
  match c.awaiting with
  | .swapAnswer => afterContract n (endNego n (setCable n (fun c => { c with swapping := 0 }) d))
  | .sourceCaps => if c.powerRole = .source then afterContract n (setAwait n .nothing d) else d
  | .sinkCaps => setAwait n .nothing d
  | .eprAnswer => setCable n (fun c => { c with epr := .refused, awaiting := .nothing }) d
  | .requestAnswer | .softResetAnswer | .capsAnswer => protocolError n d
  | _ => d

/-- UNSUPPORTED_MESSAGE (R251): Not_Supported for a message that Table 7-4 does not list, and for EPR_Get_Source_Cap, because
no port is an EPR source; BIST Carrier Mode on C2-C7 is discarded. An Alert asks for nothing. -/
def unsupportedMessage (n : Nat) (id : BitVec 3) (m : OtherMsg) (d : Dev) : Dev :=
  pdReceive n id (fun d =>
    match m with
    | .unlisted | .eprGetSourceCap => pdSend n .notSupported d
    | .bistCarrier => if isDual n then pdSend n .notSupported d else d
    | .eprKeepAliveAck => eprKeepaliveAck n d
    | .notSupported => notSupportedMsg n d
    | .alert => d
    | .chunkRequest => chunkAsked n d
    | .firstChunk => firstChunk n d) d

/-! ### Resets and timers -/

/-- SOFT_RESET (R270): VBUS, booking and fence stand; MessageIDs return to their reset state, and after the Accept the source
sends Source_Capabilities. -/
def softReset (n : Nat) (d : Dev) : Dev :=
  if !pdListens d n then d
  else
    let d := disarm (.sender n) (disarm (.srcCap n) (disarm (.psTrans n) (disarm (.sinkReq n) (disarm (.tsrc n)
      (disarm (.waitReoffer n) (disarm (.crcRx n) (disarm (.chunk n) (disarm (.chunkResp n) (disarm (.auth n) d)))))))))
    let d := pdIdsReset n (emit (.pd (Fin.ofNat 8 n) (.goodCrc 0)) d)
    let d := setCable n (fun c =>
      { c with softResetCount := inc16 c.softResetCount, nego := none, awaiting := .nothing, lastSent := none, txQueue := [],
               swapping := 0, reserved := 0, chunks := Chunks.none, authBusy := false, rxId := some 0 }) d
    pdSend n .accept d

/-- HARD_RESET, received from the partner or sent by the policy engine (R266, R267). -/
def hardReset (n : Nat) (received : Bool) (d : Dev) : Dev :=
  if !portRuns d n || isShed (cable d n) then d
  else
    match (cable d n).typec with
    | .attachedSrc | .attachedSnk => if received then hardResetCore n d else sendHardReset n d
    | _ => d

/-- HARD_RESET_COMPLETE_TIMEOUT: the signalling is over. -/
def hardResetCompleteTimeout (n : Nat) (d : Dev) : Dev := onExpiry (.hardDone n) id d

/-- TSRC_RECOVER (R266): vSafe5V comes back under the booking that stands, or under a new admission where a fault had returned
it, and after a check of the guard. -/
def tsrcRecover (n : Nat) (d : Dev) : Dev :=
  onExpiry (.tsrcRecover n) (fun d =>
    let c := cable d n
    if c.typec ≠ .attachedSrc ∨ c.powerRole ≠ .source ∨ c.path = .latched ∨ isShed c = true then d
    else applyVbus n (setCable n (fun c => { c with path := .off }) d)) d

/-- CRC_RECEIVE_TIMEOUT (R254, R268): two more tries, then the failure; an offer that was never acknowledged is repeated
later. -/
def crcReceiveTimeout (n : Nat) (d : Dev) : Dev :=
  onExpiry (.crcRx n) (fun d =>
    let c := cable d n
    match c.lastSent with
    | none => d
    | some m =>
      if c.retries < 2 then
        arm (.crcRx n) ms (emit (.pd (Fin.ofNat 8 n) m) (setCable n (fun c => { c with retries := c.retries + 1 }) d))
      else
        let trans := inTransition d n
        let d := setCable n (fun c => { c with retryFailCount := inc16 c.retryFailCount }) d
        match m with
        | .cableIdentity _ => cableRead n 0 (sendDone n d)
        | .softReset => sendHardReset n d
        | .sourceCaps _ =>
          if explicit c then (if trans then sendHardReset n d else sendSoftReset n d)
          else arm (.srcCap n) (150 * ms) (setAwait n .nothing (sendDone n d))
        | _ => if trans || c.ladder.alertReset then sendHardReset n d else sendSoftReset n d) d

/-- SOURCE_CAPABILITY_TIMEOUT (R268). -/
def sourceCapabilityTimeout (n : Nat) (d : Dev) : Dev :=
  onExpiry (.srcCap n) (fun d =>
    let c := cable d n
    if !pdListens d n || c.powerRole ≠ .source then d
    else if 50 ≤ c.capsSent then nonPd n d else sendCaps n d) d

/-- PS_TRANSITION_TIMEOUT: a contract's transition ends in Hard Reset, a swap's in ErrorRecovery. -/
def psTransitionTimeout (n : Nat) (d : Dev) : Dev :=
  onExpiry (.psTrans n) (fun d =>
    let c := cable d n
    if c.nego.isSome then sendHardReset n d
    else if c.swapping = 7 then sendSoftReset n (setCable n (fun c => { c with swapping := 0 }) d)
    else enterErrorRecovery n d) d

/-- SENDER_RESPONSE_TIMEOUT (R255): what PD 3.1 requires for the answer that is missing. -/
def senderResponseTimeout (n : Nat) (d : Dev) : Dev :=
  let c := cable d n
  if c.awaiting = .eprAck then d
  else
    onExpiry (.sender n) (fun d =>
      match c.awaiting with
      | .capsAnswer | .requestAnswer | .softResetAnswer => noResponse n d
      | .swapAnswer =>
        if c.swapping = 4 then enterErrorRecovery n d
        else afterContract n (endNego n (setCable n (fun c => { c with swapping := 0 }) d))
      | .sourceCaps => if c.powerRole = .source then afterContract n (setAwait n .nothing d) else d
      | .sinkCaps => setAwait n .nothing d
      | .eprAnswer => sendSoftReset n (setCable n (fun c => { c with epr := .off }) d)
      | _ => d) d

/-- CHUNK_SENDER_TIMEOUT: the rest of a message that the port sends is given up, and so is the message whose next chunk did
not come. -/
def chunkSenderTimeout (n : Nat) (d : Dev) : Dev :=
  if armed (.chunk n) d then
    onExpiry (.chunk n) (setCable n fun c => { c with chunks := Chunks.none, authBusy := false }) d
  else onExpiry (.chunkResp n) id d

/-! ### Authentication (R257-R259; message layouts of USB Type-C Authentication 1.0, log entry 17) -/

/-- The stored chain of a certificate slot: its first two octets give its length, within 4 KiB. -/
def chainOf (d : Dev) (slot : Nat) : List Byte :=
  let base := 0x4000 + 0x1000 * slot
  readBytes erased d.flash base (min (leNat (readBytes erased d.flash base 2)) 4096)

/-- R257: whether a slot is populated. -/
def populated (d : Dev) (slot : Nat) : Bool :=
  decide (slot < 2) && keyUsable d (6 + slot) && authDigest d slot == some (sha256 (chainOf d slot))

/-- AUTH_SLOTS. -/
def authSlots (d : Dev) : Nat := b2n (populated d 0) + 2 * b2n (populated d 1)

/-- The header of an authentication message. -/
def authHeader (type p1 p2 : Nat) : List Byte := [0x01, BitVec.ofNat 8 type, BitVec.ofNat 8 p1, BitVec.ofNat 8 p2]

/-- An ERROR response: 1 Invalid Request, 3 Busy. It is one chunk, and is counted in AUTH_ERRORS. -/
def authError (n code : Nat) (d : Dev) : Dev :=
  pdSend n (.security 0 4 (authHeader 0x7F code 0)) (onShep (fun s => { s with authErrors := satInc s.authErrors }) d)

/-- The exchange in progress is answered. -/
def authAnswer (n : Nat) (octets : List Byte) (d : Dev) : Dev :=
  sendSecurity n octets (setCable n (fun c => { c with authBusy := true }) d)

/-- SECURITY_REQUEST (R257, R259): one exchange at a time, from its request to the last chunk of its answer. -/
def securityRequest (n : Nat) (id : BitVec 3) (a : AuthReq) (d : Dev) : Dev :=
  pdReceive n id (fun d =>
    let d := disarm (.chunkResp n) d
    if !cfgOn d 0x3200 3 then pdSend n .notSupported d
    else if (cable d n).authBusy then authError n 3 d
    else
      match a with
      | .getDigests =>
        let digests := ([0, 1].filter fun s => populated d s).flatMap fun s => sha256 (chainOf d s)
        authAnswer n (authHeader 0x01 1 (authSlots d) ++ digests) d
      | .getCertificate slot off len =>
        let chain := chainOf d slot
        if populated d slot && decide (off + len ≤ chain.length) then
          authAnswer n (authHeader 0x02 slot 0 ++ (chain.drop off).take len) d
        else authError n 1 d
      | .challenge slot nonce =>
        if populated d slot then
          arm (.auth n) (100 * ms) (setCable n (fun c => { c with authBusy := true, authSlot := slot, authNonce := nonce }) d)
        else authError n 1 d
      | .other => authError n 1 d) d

/-- CHALLENGE_AUTH without its signature, for a salt. -/
def challengeBody (d : Dev) (slot : Nat) (salt : List Byte) : List Byte :=
  authHeader 0x03 slot (authSlots d) ++ [0x01, 0x01, 0x01, 0x00] ++ sha256 (chainOf d slot) ++ salt ++ List.replicate 32 0

/-- CHALLENGE_AUTH_DONE (R258): the signature over the request and the response, with the slot's key and a drawn scalar. -/
def challengeAuthDone (n : Nat) (d : Dev) : Dev :=
  let c := cable d n
  if !pdListens d n || !armed (.auth n) d then d
  else
    let d := disarm (.auth n) d
    match keyOctets d (6 + c.authSlot) with
    | none => authError n 1 (setCable n (fun c => { c with authBusy := false }) d)
    | some key =>
      let salt := drawFree d
      let k := drawScalar salt.2
      let body := challengeBody d c.authSlot (beBytes 32 salt.1.toNat)
      let asked := authHeader 0x83 c.authSlot 0 ++ beBytes 32 c.authNonce.toNat
      let sig := ecdsaSign (beNat key) k.1 (asked ++ body)
      authAnswer n (body ++ sig) (onShep (fun s => { s with authCount := satInc s.authCount }) k.2)

end Sys2Proof.Machine
end

