-- ==== Sys2Proof/Machine/PowerPath.lean ====
section
/-! DEFINITION. The power path's events and the shepherd's steps: the fault ladder, inrush and droop, discharge, shedding and
restoring, and the overrun cut (R26, R276-R303). -/

namespace Sys2Proof.Machine

/-! ### The fault ladder (R276, R277, R294-R302, Table 8-3) -/

/-- A fault turns the gates off; the port takes the fault's state, or LATCHED, and the step that it starts returns the booking
and starts the discharge, in that order. A sink's inflow ends with it (R300). -/
def faultOff (n : Nat) (path : PathState) (latch : Bool) (d : Dev) : Dev :=
  let d := setCable n (fun c => { c with ladder := { c.ladder with due := true } })
    (gatesDown n (if latch then .latched else path) d)
  needStep (if (cable d n).powerRole = .sink then setBooked n 0 d else d)

/-- Whether the fault detectors of a port are live: its gates are on (R276). -/
def detects (d : Dev) (n : Nat) : Bool := (cable d n).gateOn && hasPort d n

/-- A gate that does not fall shows as current with the gate low (R303): it counts as a short, and the port is LATCHED. -/
def stuckGate (n : Nat) (d : Dev) : Dev :=
  faultOff n .faultShort true (setCable n (fun c =>
    { c with shortCount := inc16 c.shortCount, ladder := { c.ladder with short := true } }) d)

/-- SHORT_DETECT: FAULT_SHORT and a retry 1 s later; LATCHED when no retry is left. -/
def shortDetect (n : Nat) (d : Dev) : Dev :=
  if !detects d n then if portRuns d n then stuckGate n d else d
  else
    let c := cable d n
    let latch := c.powerRole == .source && c.retriesLeft == 0
    let d := faultOff n .faultShort latch (setCable n (fun c =>
      { c with shortCount := inc16 c.shortCount, ladder := { c.ladder with short := true } }) d)
    if c.powerRole = .source ∧ latch = false then arm (.shortRetry n) sec d else d

/-- OVERCURRENT: blanked within the port's own inrush window (R277, R278); the third within 60 s latches. -/
def overcurrent (n : Nat) (d : Dev) : Dev :=
  let c := cable d n
  if !detects d n || c.powerRole ≠ .source || c.path == .frozen || decide (d.now < c.windowEnd) then d
  else
    let times := slide c.ocTimes d.now
    faultOff n .faultOc (decide (3 ≤ times.length))
      (setCable n (fun c => { c with ocCount := inc16 c.ocCount, ocTimes := times }) d)

/-- OVER_VOLTAGE: the second within 60 s latches. -/
def overVoltage (n : Nat) (d : Dev) : Dev :=
  if !detects d n then d
  else
    let times := slide (cable d n).ovTimes d.now
    faultOff n .faultOv (decide (2 ≤ times.length))
      (setCable n (fun c => { c with ovCount := inc16 c.ovCount, ovTimes := times }) d)

/-- REVERSE_CURRENT: a sourcing port follows the ladder, a sinking one takes a PORT reset; the second within 60 s latches. -/
def reverseCurrent (n : Nat) (d : Dev) : Dev :=
  if !detects d n then d
  else
    let c := cable d n
    let times := slide c.revTimes d.now
    let latch := decide (2 ≤ times.length)
    let d := setCable n (fun c => { c with reverseCount := inc16 c.reverseCount, revTimes := times }) d
    if c.powerRole ≠ .sink then faultOff n .faultReverse latch d
    else
      let count := (cable d n).reverseCount
      let d := portResetOne n (faultOff n .faultReverse latch d)
      setCable n (fun c => { c with reverseCount := count, revTimes := times, path := if latch then .latched else c.path }) d

/-- ErrorRecovery within the ladder: the fault's state and its retries stand. -/
def ladderRecovery (n : Nat) (d : Dev) : Dev :=
  let c := cable d n
  let retry := d.timers.find? fun t => t.1 == .shortRetry n
  let d := setCable n (fun x => { x with path := c.path, retriesLeft := c.retriesLeft }) (enterErrorRecovery n d)
  match retry with
  | some t => armAt (.shortRetry n) t.2 d
  | none => d

/-- The fault's part of a step: fenced, booking returned, discharge started, and Table 8-3's next action. Alert with OCP goes
before the Hard Reset of an overcurrent. -/
def faultStep (n : Nat) (d : Dev) : Dev :=
  let c := cable d n
  let isOc := c.path == .faultOc || (c.path == .latched && !c.ladder.short && c.ocTimes.contains d.shep.shedEventAt)
  let d := setCable n (fun c => { c with ladder := { c.ladder with due := false } }) (returnBooking n d)
  let d := if c.powerRole = .source then startDischarge n d else d
  if isOc && explicit c then
    pdSend n (.alert (alertWord adoOcp)) (setCable n (fun c =>
      { c with ocpEvent := true, ladder := { c.ladder with alertReset := true } }) (pdForget n d))
  else if explicit c then sendHardReset n d
  else if !hasPartner c then d
  else if c.path = .faultShort ∨ c.path = .latched then ladderRecovery n d
  else sendHardReset n d

/-- A fault that no step has taken yet. -/
def faultWaits (c : Cable) : Bool := c.ladder.due

/-- SHORT_RETRY (R298, R301): vSafe5V with a ramp under admission; a partner that has gone ends the ladder. -/
def shortRetry (n : Nat) (d : Dev) : Dev :=
  onExpiry (.shortRetry n) (fun d =>
    let c := cable d n
    if c.path ≠ .faultShort then d
    else if c.typec ≠ .attachedSrc then setCable n (fun c => { c with path := .off, retriesLeft := 3 }) d
    else applyVbus n d) d

/-- FAULT_CLEAR (R302): the port leaves LATCHED, and an attached sink partner is supplied again. -/
def faultClear (n : Nat) (v : Bool) (d : Dev) : Dev :=
  let c := cable d n
  if !v || c.path ≠ .latched then d
  else
    let d := setCable n (fun c => { c with path := .off, retriesLeft := 3, ladder := { c.ladder with short := false } }) d
    if c.typec = .attachedSrc then applyVbus n d else d

/-! ### Inrush and droop (R278-R281) -/

/-- INRUSH_DONE: VBUS has reached vSafe5V. The PD engine starts, or goes on with a swap; under PD_FAIL the port serves as R268
describes (R269). -/
def inrushDone (n : Nat) (d : Dev) : Dev :=
  let c := cable d n
  if c.path ≠ .inrush then d
  else
    let d := disarm (.window n) (setCable n (fun c => { c with path := .on, retriesLeft := 3 }) d)
    if c.contract = .typecOnly ∨ c.pdFail = true then nonPd n d
    else
      let d := setCable n (fun c => { c with contract := .implicit, mv := 5000, ma := c.booked / 5 }) d
      if c.swapping = 2 then sourceHere n d else sendCaps n d

/-- An inrush is aborted: gates off, booking returned, another try 250 ms later (R279, R281). -/
def inrushAbort (n : Nat) (d : Dev) : Dev :=
  let d := powerOff n (setCable n (fun c => { c with inrushFailCount := inc16 c.inrushFailCount }) d)
  let d := vconnOff n (setCable n (fun c => { c with booked := 0 }) (setFence n true d))
  arm (.inrushRetry n) (250 * ms) (eventAlarm 10 d)

/-- INRUSH_FAIL (R279). -/
def inrushFail (n : Nat) (d : Dev) : Dev :=
  if (cable d n).path ≠ .inrush then d else onExpiry (.window n) (inrushAbort n) d

/-- INRUSH_RETRY (R281). -/
def inrushRetry (n : Nat) (d : Dev) : Dev :=
  onExpiry (.inrushRetry n) (fun d =>
    let c := cable d n
    if c.typec ≠ .attachedSrc ∨ c.powerRole ≠ .source then d
    else applyVbus n d) d

/-- DROOP_START (R280): every ramping port freezes. -/
def droopStart (d : Dev) : Dev :=
  if !planesRun d || d.shep.droop then d
  else
    let d := onShep (fun s => { s with droop := true, droopCount := satInc s.droopCount }) d
    arm .droopMax (5 * ms) ((List.range 8).foldl (fun d n =>
      if (cable d n).path = .inrush then
        disarm (.window n) (setCable n (fun c => { c with path := .frozen, frozenAt := d.now }) d)
      else d) d)

/-- The longest freeze takes in the frozen ports' time, in µs. -/
def noteFreeze (n : Nat) (d : Dev) : Dev :=
  onShep (fun s => { s with freezeMax := max s.freezeMax ((d.now - (cable d n).frozenAt) / us) }) d

/-- DROOP_END (R280): the ramps resume, their windows extended by the time they were frozen. -/
def droopEnd (d : Dev) : Dev :=
  if !d.shep.droop then d
  else
    let d := disarm .droopMax (onShep (fun s => { s with droop := false }) d)
    (List.range 8).foldl (fun d n =>
      let c := cable d n
      if c.path = .frozen then
        let ends := c.windowEnd + (d.now - c.frozenAt)
        armAt (.window n) ends (setCable n (fun c => { c with path := .inrush, windowEnd := ends }) (noteFreeze n d))
      else d) d

/-- DROOP_LIMIT (R281): a droop has lasted 5 ms. -/
def droopLimit (d : Dev) : Dev :=
  onExpiry .droopMax (fun d => (List.range 8).foldl (fun d n =>
    if (cable d n).path = .frozen then inrushAbort n (noteFreeze n d) else d) d) d

/-! ### Discharge (R282) -/

/-- VBUS is down, or the discharge has been given up: a swap goes on, a Hard Reset or a fault waits tSrcRecover. -/
def discharged (n : Nat) (d : Dev) : Dev :=
  let c := cable d n
  if c.swapping = 1 ∧ c.powerRole = .source then sourceGone n d
  else
    let recovers := c.typec == .attachedSrc && c.powerRole == .source && !armed (.inrushRetry n) d
    match c.path with
    | .discharging =>
      let d := setCable n (fun c => { c with path := .off }) d
      if recovers then arm (.tsrcRecover n) (800 * ms) d else d
    | .faultOc | .faultOv | .faultReverse => if recovers then arm (.tsrcRecover n) (800 * ms) d else d
    | _ => d

/-- DISCHARGE_DONE. -/
def dischargeDone (n : Nat) (d : Dev) : Dev :=
  if !(cable d n).discharge then d
  else discharged n (disarm (.discharge n) (setCable n (fun c => { c with discharge := false }) d))

/-- DISCHARGE_TIMEOUT: VBUS of a swap that does not fall ends in ErrorRecovery. -/
def dischargeTimeout (n : Nat) (d : Dev) : Dev :=
  onExpiry (.discharge n) (fun d =>
    let c := cable d n
    let d := setCable n (fun c => { c with discharge := false, dischargeFail := inc16 c.dischargeFail }) d
    if c.swapping = 1 ∧ c.powerRole = .source then enterErrorRecovery n d else discharged n d) d

/-! ### Shepherd steps (R288-R291, R294-R296, R299) -/

/-- Whether a port's gates were cut outside a step and the step has not recorded it yet (R26, R299). -/
def cutWaits (c : Cable) : Bool := c.shedCause != .none && !isShed c && c.powerRole == .source && !c.gateOn

/-- The next candidate of R289: the highest rank number, and within a rank the higher port. -/
def shedNext (d : Dev) : Option Nat :=
  ((List.range 8).filter fun n => sourcing (cable d n) && !isShed (cable d n)).foldl (fun best n =>
    match best with
    | none => some n
    | some b => if (cable d b).rank ≤ (cable d n).rank then some n else some b) none

/-- R289: ports are shed until FREE is no longer negative. -/
def shedWhile : Nat → Dev → Dev
  | 0, d => d
  | k + 1, d =>
    if 0 ≤ ledgerFree d then d
    else
      match shedNext d with
      | none => d
      | some n => shedWhile k (shedPort .ledger n d)

/-- A first allowance that was refused to a port that sources is examined again, unless any port is shed (R286). -/
def reexamine (d : Dev) : Dev :=
  (List.range 8).foldl (fun d n =>
    let c := cable d n
    if c.firstRefused && c.typec == .attachedSrc && c.powerRole == .source && c.guard != .wet && c.path != .latched
        && !((List.range 8).any fun m => isShed (cable d m)) then
      applyVbus n (setCable n (fun c => { c with path := if c.path = .faultShort then .faultShort else .off }) d)
    else d) d

/-- The host is told of a deficit that begins (R291; log entry 35). -/
def tellDeficit (d : Dev) : Dev :=
  let now := deficitNow d
  let d' := onShep (fun s => { s with deficit := now }) d
  if now && !d.shep.deficit then emit (.notice .ledgerDeficit) d' else d'

/-- SHEPHERD_STEP: everything that has happened is taken by one step; `took` is how long it lasted in ns. -/
def shepherdStep (took : Nat) (d : Dev) : Dev :=
  if !d.shep.stepDue || !planesRun d then d
  else
    let shedBefore := (List.range 8).filter fun n => isShed (cable d n)
    let each (p : Cable → Bool) (f : Nat → Dev → Dev) (d : Dev) : Dev :=
      (List.range 8).foldl (fun d n => if p (cable d n) then f n d else d) d
    let d := each cutWaits (fun n d => shedPort (cable d n).shedCause n d) d
    let d := each faultWaits faultStep d
    let d := (List.range 8).foldl (fun d n =>
      if sourcing (cable d n) && !isShed (cable d n) && decide (ceilingOf d n < 500) then shedPort .ledger n d else d) d
    let d := shedWhile 8 d
    let shed := ((List.range 8).filter fun n => isShed (cable d n)) ≠ shedBefore
    let d := if shed then onOd (fun o => { o with watchShed := max o.watchShed (min took 0xFFFFFFFF) }) d else d
    let d := onShep (fun s =>
      { s with stepDue := false, overrun := false, stepCount := if shed then satInc s.stepCount else s.stepCount,
               restoreSet := if shed then [] else s.restoreSet,
               restoreSince := if shed then none else s.restoreSince }) (disarm .overrun d)
    tellDeficit (if shed then d else reexamine d)

/-! ### The overrun cut (R26, R303) -/

/-- Gates off outside a step, with the cause that the next step will record. -/
def cutGates (cause : ShedCause) (n : Nat) (d : Dev) : Dev :=
  setCable n (fun c => { c with shedCause := cause }) (gatesOff n (cable d n).path d)

/-- The powered sourcing ports of the lowest shed priority: the highest rank number. -/
def lowestPriority (d : Dev) : List Nat :=
  let on_ := (List.range 8).filter fun n => (cable d n).powerRole == .source && (cable d n).gateOn
  let top := (on_.map fun n => (cable d n).rank).foldl max 0
  on_.filter fun n => (cable d n).rank = top

/-- The cut of one rank; it repeats 2 ms later while the step is incomplete. -/
def overrunCut (d : Dev) : Dev :=
  arm .overrun (2 * ms) (onShep (fun s => { s with overrun := true })
    ((lowestPriority d).foldl (fun d n => cutGates .overrun n d) d))

/-- SHED_OVERRUN_CUT (R26). -/
def shedOverrunCut (d : Dev) : Dev :=
  if !d.shep.stepDue || d.shep.overrun then d
  else
    onExpiry .overrun (fun d =>
      eventAlarm 2 (onOd (fun o => { o with watchOverrun := satInc o.watchOverrun }) (overrunCut d))) d

/-- OVERRUN_CUT_REPEAT (R303): each cut raises SHED_OVERRUN again (Table 4-15). -/
def overrunCutRepeat (d : Dev) : Dev :=
  if !d.shep.stepDue || !d.shep.overrun then d else onExpiry .overrun (fun d => eventAlarm 2 (overrunCut d)) d

/-! ### Restoring (R292, R293) -/

/-- The shed ports that take part, in restore order: lowest rank number, then lowest port (R230, R292, R553). -/
def restoreOrder (d : Dev) : List Nat :=
  let shed := (List.range 8).filter fun n => isShed (cable d n) && decide (500 ≤ ceilingOf d n)
  (List.range 16).flatMap fun r => shed.filter fun n => (cable d n).rank = r

/-- The ports whose claims fit above RESTORE_MARGIN, none passed over. -/
def restoreTake (d : Dev) : List Nat → Int → List Nat
  | [], _ => []
  | n :: rest, free =>
    let left := free - (cable d n).claim
    if left < cfg d 0x4200 6 then [] else n :: restoreTake d rest left

/-- A restored port books PRE_ID_ALLOWANCE and ramps to vSafe5V, unidentified and under profile 0's rank (R261, R284, R293). -/
def restorePort (n : Nat) (d : Dev) : Dev :=
  let d := pdIdsReset n (unidentify n d)
  let c := cable d n
  let vconn := if wantsVconn d c then 1 else c.vconn
  let d := applyVbus n (setCable n (fun c =>
    { c with booked := preId d, vconn := vconn, contract := .none, restored := true, path := .off }) d)
  raiseIrqPort (24 + n) d

/-- RESTORE_CHECK: every 100 ms, unless a shed event is waiting or the critical comparator is asserted (R292, R295, R299). While
FREE is negative the check starts a step that sheds, and restores nothing (R288, R295). -/
def restoreCheck (d : Dev) : Dev :=
  onExpiry .restore (fun d =>
    let d := arm .restore (100 * ms) d
    if !planesRun d || d.shep.stepDue || d.shep.critical then d
    else if ledgerFree d < 0 then needStep d
    else
      let set_ := restoreTake d (restoreOrder d) (ledgerFree d)
      let hold := cfg d 0x4200 7 * sec
      match set_, d.shep.restoreSince with
      | [], _ => reexamine (onShep (fun s => { s with restoreSet := [], restoreSince := none }) d)
      | s, some t =>
        if s ≠ d.shep.restoreSet then onShep (fun x => { x with restoreSet := s, restoreSince := some d.now }) d
        else if d.now < t + hold then d
        else onShep (fun x => { x with restoreSet := [], restoreSince := none }) (s.foldl (fun d n => restorePort n d) d)
      | s, none => onShep (fun x => { x with restoreSet := s, restoreSince := some d.now }) d) d

end Sys2Proof.Machine
end

