-- ==== Sys2Proof/Machine/Heat.lean ====
section
/-! DEFINITION. Heat and air: housekeeping rounds, sensors, the thermal model with its look-ahead, derating, the critical
comparator, fans, stall, host silence and commissioning (R539-R573). The model works in 2^-32 °C and pW; what leaves it is
rounded by R629 (log entry 19). -/

namespace Sys2Proof.Machine

/-- Change the heat plane. -/
def onHeat (f : Heat → Heat) (d : Dev) : Dev := { d with heat := f d.heat }

/-- Whether HKP delivers rounds to MGT: from the reference on, never in DORMANT (Table 3-1). -/
def hkpRuns (d : Dev) : Bool := mgtRuns d

/-! ### Fans (R558-R568) -/

/-- Object number of a fan channel. -/
def fanObj (f : Nat) : Nat := 0xC600 + f

/-- Whether fan channel `f` is present. -/
def hasFan (d : Dev) (f : Nat) : Bool := f == 0 || hasUnit d 6

/-- The AUTO duty for the headroom `m` in Q16.16 (R560): linear between the margins, rounded up. -/
def autoDuty (d : Dev) (f : Nat) : Nat :=
  let lo : Int := cfg d (fanObj f) 13 * 65536
  let hi : Int := cfg d (fanObj f) 12 * 65536
  let least := cfg d (fanObj f) 11
  let m := d.heat.headroom
  if hi ≤ m then least
  else if m ≤ lo then 1024
  else least + divUp ((1024 - least) * (hi - m).toNat) (hi - lo).toNat

/-- The duty that a channel's mode asks for (R560, R561). -/
def modeDuty (d : Dev) (f : Nat) : Nat :=
  if cfg d (fanObj f) 0 = 0 then autoDuty d f
  else if d.heat.headroom < cfg d (fanObj f) 13 * 65536 then max (cfg d (fanObj f) 1) (autoDuty d f)
  else cfg d (fanObj f) 1

/-- The duty a channel is to have: full on a model fault, another channel's stall, or silence under FULL; the routine's while
it is commissioned; else its mode's (R563, R565, R566, R573). -/
def fanDemand (d : Dev) (f : Nat) : Nat :=
  let others := (List.range 2).any fun g => g != f && hasFan d g && (fanOf d g).stall
  if d.heat.fault || others || (d.heat.silent && cfg d (fanObj f) 10 == 0) then 1024
  else if (fanOf d f).commState = 1 then (fanOf d f).commDuty
  else modeDuty d f

/-- Write a channel's duty into its buffer when it changes; the reload takes it (R559). -/
def fanUpdate (f : Nat) (d : Dev) : Dev :=
  let w := fanDemand d f
  if !hasFan d f || (fanOf d f).wanted == w then d else setFan f (fun x => { x with wanted := w, newDuty := true }) d

/-- Both channels follow what asks for their duty. -/
def fansFollow (d : Dev) : Dev := fanUpdate 1 (fanUpdate 0 d)

/-- The stall timer runs while the speed is below STALL_RPM at an applied duty of 128 or more; a stalled channel counts the
second that it runs at STALL_RPM (R563). -/
def fanWatch (f : Nat) (d : Dev) : Dev :=
  let x := fanOf d f
  let slow := decide (x.rpm < cfg d (fanObj f) 7)
  if x.stall then
    if slow then disarm (.unstall f) d else if armed (.unstall f) d then d else arm (.unstall f) sec d
  else if slow && decide (128 ≤ x.applied) then
    if armed (.stall f) d then d else arm (.stall f) (cfg d (fanObj f) 8 * sec) d
  else disarm (.stall f) d

/-- FAN_RELOAD (R558, R559, R557, R82): a PWM period begins with the newest duty; the critical comparator, and a SYS reset
until the fan objects are applied, hold the pin high. -/
def fanReload (f : Nat) (d : Dev) : Dev :=
  if !hkpRuns d || !hasFan d f then d
  else
    let d := reach (.fanReload f) d
    let full := d.shep.critical || !isReady d
    fanWatch f (arm (.fanReload f) (40 * us) (setFan f (fun x =>
      let period := (x.period + 1) % 2 ^ 32
      let duty := if x.newDuty then x.wanted else x.applied
      let acc := x.fraction + duty * 5 % 32
      { x with period := period, applied := duty, newDuty := false,
               appliedPeriod := if x.newDuty then period else x.appliedPeriod,
               fraction := acc % 32, highTicks := if full then 160 else duty * 5 / 32 + acc / 32 }) d))

/-- The speed of a channel changes; a measurement in progress takes the old speed up to now (log entry 20). -/
def setRpm (f rpm : Nat) (d : Dev) : Dev :=
  fanWatch f (setFan f (fun x =>
    { x with rpm := rpm, commSum := x.commSum + x.rpm * (d.now - x.commN), commN := d.now }) d)

/-- TACH_EDGE (R562): an edge less than 250 µs after the one before it does not count. -/
def tachEdge (f : Nat) (d : Dev) : Dev :=
  if !hkpRuns d || !hasFan d f then d
  else
    let x := fanOf d f
    let early := match x.lastEdge with
      | some t => decide (d.now < t + 250 * us)
      | none => false
    let d := setFan f (fun x => { x with lastEdge := some d.now }) d
    if early then d
    else
      let edges := (d.now :: x.edges).take 5
      let d := arm (.tach f) sec (setFan f (fun x => { x with edges := edges }) d)
      match edges[cfg d (fanObj f) 6]? with
      | some t => setRpm f (240000000 / max 1 ((d.now - t) / 250)) d
      | none => d

/-- TACH_TIMEOUT (R562). -/
def tachTimeout (f : Nat) (d : Dev) : Dev := onExpiry (.tach f) (setRpm f 0) d

/-- HEARTBEAT (R564): any write counts. -/
def heartbeat (d : Dev) : Dev :=
  let p := cfg d 0xC700 0
  let d := onHeat (fun h => { h with silent := false }) d
  fansFollow (if p = 0 then disarm .heartbeat d else arm .heartbeat (p * ms) d)

/-- HOST_SILENCE (R564, R565). -/
def hostSilence (d : Dev) : Dev := onExpiry .heartbeat (fun d => fansFollow (onHeat (fun h => { h with silent := true }) d)) d

/-! ### Commissioning (R566, R567) -/

/-- How long phase `i` of the routine lasts: 8 s at full drive and 2 s measured, then 1.5 s and 0.5 s for each of 80 steps. -/
def commSpan (i : Nat) : Nat := if i = 0 then 8 * sec else if i = 1 then 2 * sec else if i % 2 = 0 then 1500 * ms else 500 * ms

/-- Start phase `i` of the routine. -/
def commPhase (f i : Nat) (d : Dev) : Dev :=
  arm (.comm f) (commSpan i) (fanUpdate f (setFan f (fun x => { x with commStep := i, commSum := 0, commN := d.now }) d))

/-- The routine ends in a state; the channel returns to its mode. -/
def commEnd (f state : Nat) (d : Dev) : Dev :=
  fanUpdate f (disarm (.comm f) (setFan f (fun x => { x with commState := state, commFound := [] }) d))

/-- Abort a routine that runs. -/
def commAbort (f state : Nat) (d : Dev) : Dev := if (fanOf d f).commState = 1 then commEnd f state d else d

/-- COMMISSION: 1 BASELINE and 2 AGEING start a routine, 0 aborts one. AGEING without a baseline changes nothing. -/
def commission (f v : Nat) (d : Dev) : Dev :=
  if !hasFan d f then d
  else if v = 0 then commAbort f 5 d
  else if 2 < v ∨ (v = 2 ∧ (fanOf d f).base = []) then d
  else commPhase f 0 (setFan f (fun x => { x with commState := 1, commKind := v, commDuty := 1024, commFound := [] }) d)

/-- The search for the next target begins at 512. -/
def commTarget (x : Fan) : Fan := { x with commDuty := 512, commLow := 0, commHigh := 1024 }

/-- All eight duties are found: they are the baseline, or give the ageing index. -/
def commStore (f : Nat) (d : Dev) : Dev :=
  commEnd f 2 (setFan f (fun x =>
    if x.commKind = 1 then { x with base := x.commFound }
    else { x with now := x.commFound, ageing := (divRound (1000 * (x.commFound.sum : Int)) x.base.sum).toNat }) d)

/-- The mean speed of the measurement that ends, in RPM ns over its length. -/
def commIntegral (d : Dev) (x : Fan) : Nat := x.commSum + x.rpm * (d.now - x.commN)

/-- One measured step of the binary search. -/
def commSearch (f : Nat) (d : Dev) : Dev :=
  let x := fanOf d f
  let j := (x.commStep - 3) / 2
  let reaches := decide ((j / 10 + 2) * x.fullRpm * commSpan 3 ≤ 10 * commIntegral d x)
  let lo := if reaches then x.commLow else x.commDuty
  let hi := if reaches then x.commDuty else x.commHigh
  if j % 10 < 9 then
    commPhase f (x.commStep + 1) (setFan f (fun x => { x with commLow := lo, commHigh := hi, commDuty := (lo + hi) / 2 }) d)
  else
    let d := setFan f (fun x => commTarget { x with commFound := x.commFound ++ [hi] }) d
    if j = 79 then commStore f d else commPhase f (x.commStep + 1) d

/-- COMMISSION_STEP: a settle or measure period ends. -/
def commissionStep (f : Nat) (d : Dev) : Dev :=
  onExpiry (.comm f) (fun d =>
    let x := fanOf d f
    if x.commState ≠ 1 then d
    else if x.commStep % 2 = 0 then commPhase f (x.commStep + 1) d
    else if x.commStep = 1 then
      let full := commIntegral d x / commSpan 1
      commPhase f 2 (setFan f (fun x => commTarget { x with fullRpm := full }) d)
    else commSearch f d) d

/-- STALL_DETECT (R563). -/
def stallDetect (f : Nat) (d : Dev) : Dev :=
  onExpiry (.stall f) (fun d => fansFollow (commAbort f 4 (setFan f (fun x => { x with stall := true }) d))) d

/-- STALL_CLEAR (R563). -/
def stallClear (f : Nat) (d : Dev) : Dev :=
  onExpiry (.unstall f) (fun d => fansFollow (fanWatch f (setFan f (fun x => { x with stall := false }) d))) d

/-! ### Sensors (R541-R543) -/

/-- Sensor `r`. -/
def sensorOf (d : Dev) (r : Nat) : Sensor := tget Sensor.reset d.heat.sensors r
@[inherit_doc sensorOf] def setSensor (r : Nat) (g : Sensor → Sensor) (d : Dev) : Dev :=
  onHeat (fun h => { h with sensors := tset Sensor.reset h.sensors r (g (sensorOf d r)) }) d

/-- The trim counts N30 and N100 of a sensor's good record. -/
def roTrim (d : Dev) (r : Nat) : Option (Nat × Nat) :=
  match recordOf d .factory 0x83 r with
  | some [a, b] => if a = b then none else some (a, b)
  | _ => none

/-- A quotient of Ints rounded as R629 says. -/
def ratio (n k : Int) : Int := if k < 0 then divRound (-n) (-k).toNat else divRound n k.toNat

/-- R541 in Q16.16. -/
def roTemp (trim : Nat × Nat) (count : Nat) : Int :=
  30 * 65536 + ratio (70 * 65536 * ((count : Int) - trim.1)) ((trim.2 : Int) - trim.1)

/-- A sensor fails with a cause, and stays failed (R543). -/
def sensorFail (r cause : Nat) (d : Dev) : Dev :=
  if (sensorOf d r).failed then d else setSensor r (fun s => { s with failed := true, cause := cause }) d

/-- R593: OTP_CHECK fails each sensor that has no good trim record. -/
def sensorsFromOtp (d : Dev) : Dev :=
  (List.range 4).foldl (fun d r => if (roTrim d r).isNone then sensorFail r 1 d else d) d

/-- A round's count of a sensor: its reading, and the BAND test (R542). -/
def readSensor (r count : Nat) (d : Dev) : Dev :=
  let d := setSensor r (fun s => { s with count := count }) d
  match roTrim d r with
  | none => sensorFail r 1 d
  | some t =>
    let v := roTemp t count
    let d := setSensor r (fun s => { s with temp := v }) d
    if v < -60 * 65536 ∨ 160 * 65536 < v then sensorFail r 1 d else d

/-- The healthy sensors. -/
def healthy (d : Dev) : List Nat := (List.range 4).filter fun r => !(sensorOf d r).failed

/-- The DISAGREE test of a sensor against a reference in Q16.16: 8 rounds in succession (R542). -/
def disagreeTest (r : Nat) (ref : Option Int) (d : Dev) : Dev :=
  let s := sensorOf d r
  match ref with
  | some t =>
    if s.failed then d
    else if 15 * 65536 < (s.temp - t).natAbs then
      let d := setSensor r (fun s => { s with disagree := s.disagree + 1 }) d
      if 8 ≤ (sensorOf d r).disagree then sensorFail r 2 d else d
    else setSensor r (fun s => { s with disagree := 0 }) d
  | none => d

/-- The mean of the healthy sensors other than `r`, in Q16.16. -/
def othersMean (d : Dev) (r : Nat) : Option Int :=
  let l := (healthy d).filter fun q => q != r
  if l = [] then none else some (divRound ((l.map fun q => (sensorOf d q).temp).sum) l.length)

/-- RETRY (R543). -/
def retrySensor (r : Nat) (v : Bool) (d : Dev) : Dev :=
  if v then setSensor r (fun s => { s with failed := false, cause := 0, disagree := 0 }) d else d

/-! ### The thermal network (R544, R545) -/

/-- The cable port a node belongs to. -/
def nodePort (i : Nat) : Option Nat :=
  if i = 5 ∨ i = 6 then some 0 else if i = 7 ∨ i = 8 then some 1 else if 9 ≤ i ∧ i ≤ 14 then some (i - 7) else none

/-- Whether a node is a connector, which loses heat through its module. -/
def isConnector (i : Nat) : Bool := i == 6 || i == 8 || (decide (9 ≤ i) && decide (i ≤ 14))

/-- The nodes of a port. -/
def nodesOf (n : Nat) : List Nat := if n = 0 then [5, 6] else if n = 1 then [7, 8] else [7 + n]

/-- The up node of a node; AIR's is the ambient. -/
def upNode (i : Nat) : Option Nat :=
  if i < 3 then some 3 else if i = 3 then some 4 else if i = 4 then some 15 else if i = 15 then none else some 4

/-- A field of the last valid identity block of a node's port; 0 when there is none. -/
def nodeIdent (d : Dev) (i off : Nat) : Nat :=
  match nodePort i with
  | some n => if isConnector i then identField (cable d n).identity off 2 else 0
  | none => 0

/-- Whether the node's port has an identity block. -/
def nodeIdentified (d : Dev) (i : Nat) : Bool :=
  match nodePort i with
  | some n => (cable d n).identity != []
  | none => false

/-- C of a node in 2^-16 J/K, with its module's C_TH. -/
def nodeC (d : Dev) (i : Nat) : Nat := cfg d (0xC100 + i) 3 + nodeIdent d i 60 * 65536 / 100

/-- The limit of a node in °C. -/
def nodeLimit (d : Dev) (i : Nat) : Nat :=
  let t := nodeIdent d i 62
  if t = 0 then cfg d (0xC100 + i) 7 else min (cfg d (0xC100 + i) 7) t

/-- s of R545 in 2^-16: the mean relative speed of the present channels, no more than 1. A FULL_RPM of 0 gives no ratio: the
value is free (log entry 3). -/
def fanShare (d : Dev) : Nat :=
  let l := (List.range 2).filter fun f => hasFan d f
  let one (f : Nat) : Nat :=
    if (fanOf d f).fullRpm = 0 then Config.openFigure "fan-share" f else (fanOf d f).rpm * 65536 / (fanOf d f).fullRpm
  min 65536 ((l.map one).sum / l.length)

/-- The conductance of a node to the ambient in 2^-16 W/K, for a share `s` of the forced air. -/
def ambientG (d : Dev) (i s : Nat) : Nat :=
  if i = 15 then
    let g := cfg d 0xC000 9
    g % 2 ^ 32 + g / 2 ^ 32 * s / 65536
  else if isConnector i then
    let r := nodeIdent d i 58
    if r = 0 then cfg d 0xC000 8 else 655360 / r
  else 0

/-- The conductance between a node and its up node, and between a node and AIR. -/
def upG (d : Dev) (i : Nat) : Nat := cfg d (0xC100 + i) 4
@[inherit_doc upG] def airG (d : Dev) (i : Nat) : Nat := if i = 4 ∨ i = 15 then 0 else cfg d (0xC100 + i) 5

/-- The neighbours of a node with their conductances. -/
def links (d : Dev) (i : Nat) : List (Nat × Nat) :=
  let up := match upNode i with
    | some j => [(j, upG d i)]
    | none => []
  let down := ((List.range 15).filter fun j => upNode j == some i).map fun j => (j, upG d j)
  let air := if i = 15 then (List.range 15).map fun j => (j, airG d j) else [(15, airG d i)]
  (up ++ down ++ air).filter fun x => x.2 ≠ 0

/-- Everything R546 needs of a node: C, its neighbours, and its conductance to the ambient. -/
structure NodeCoef where
  c     : Nat
  links : List (Nat × Nat)
  amb   : Nat
  deriving DecidableEq, Repr

/-- The coefficients of the network. -/
def network (d : Dev) (s : Nat) : List NodeCoef :=
  (List.range 16).map fun i => { c := nodeC d i, links := links d i, amb := ambientG d i s }

/-- ΣG of a node. -/
def sumG (k : NodeCoef) : Nat := (k.links.map (·.2)).sum + k.amb

/-- R547: whether dt × ΣG / C stays at or below 0.5 at every node, with the air fully forced. -/
def networkStable (d : Dev) : Bool := (network d 65536).all fun k => decide (2 * sumG k ≤ 1000 * k.c)

/-- P of a node in pW (R544). -/
def nodePower (d : Dev) (i : Nat) : Nat :=
  let frac := if i = 0 then 240 else if i = 1 then 320 else if i = 2 then 80 else if i = 3 then 160 else 0
  let contact := if !isConnector i then 0
    else if nodeIdentified d i then nodeIdent d i 56 * 10 else cfg d 0xC000 7
  let joule := match nodePort i with
    | some n => (cable d n).ibusRms ^ 2 * (cfg d (0xC100 + i) 6 + contact)
    | none => 0
  frac * d.heat.icore * 1000000 + joule + cfg d (0xC100 + i) 8 * 10 ^ 9

/-- A power in pW as 2^-48 W. -/
def toFlux (pw : Nat) : Int := ((pw * 2 ^ 48 / 10 ^ 12 : Nat) : Int)

/-- AMBIENT in 2^-32 °C. -/
def ambient (d : Dev) : Int := ofTwos 32 (cfg d 0xC000 1) * 65536

/-- One explicit step of `dt` ms (R546). -/
def stepNodes (net : List NodeCoef) (amb : Int) (p : List Nat) (dt : Nat) (t : List Int) : List Int :=
  (net.zip (p.zip t)).map fun x =>
    let k := x.1
    let ti := x.2.2
    let flux := toFlux x.2.1 + (k.links.map fun l => (l.2 : Int) * (t.getD l.1 0 - ti)).sum + k.amb * (amb - ti)
    ti + divRound (dt * flux) (1000 * k.c)

/-- One Gauss-Seidel update of node `i` in the 10 s implicit step (R549). -/
def sweepNode (amb : Int) (t : List Int) (pred : List Int) (x : Nat × NodeCoef × Nat) : List Int :=
  let k := x.2.1
  let rhs := (k.c : Int) * t.getD x.1 0
    + 10 * (toFlux x.2.2 + (k.links.map fun l => (l.2 : Int) * pred.getD l.1 0).sum + k.amb * amb)
  modifyNth pred x.1 fun _ => divRound rhs (k.c + 10 * sumG k)

/-- The look-ahead: 32 sweeps from the present temperatures. -/
def lookAhead (net : List NodeCoef) (amb : Int) (p : List Nat) (t : List Int) : List Int :=
  let nodes := (List.range 16).zip (net.zip p)
  (List.range 32).foldl (fun pred _ => nodes.foldl (sweepNode amb t) pred) t

/-- R548: the node temperatures at model start. -/
def modelStart (d : Dev) : Dev :=
  let l := healthy d
  let die := if l = [] then ambient d else divRound ((l.map fun r => (sensorOf d r).temp * 65536).sum) l.length
  let t := List.replicate 5 die ++ List.replicate 11 (ambient d)
  onHeat (fun h => { h with fault := false, t := t, pred := t, lastStepAt := d.now, fresh := false }) d

/-! ### Ceilings (R550-R556) -/

/-- HEAT_STATE follows the ceilings of a port. -/
def heatStateOf (c : Cable) : HeatState :=
  match c.thermCeil, c.sinkCeil with
  | some 0, _ => .shed
  | none, none => .normal
  | _, _ => .derated

/-- Set a port's ceilings. -/
def setCeilings (n : Nat) (source sink : Option Nat) (d : Dev) : Dev :=
  setCable n (fun c => let c' := { c with thermCeil := source, sinkCeil := sink }
                       { c' with heat := heatStateOf c' }) d

/-- The ceiling in force on a port in its present role. -/
def ceilNow (c : Cable) : Option Nat := if c.powerRole = .sink then c.sinkCeil else c.thermCeil

/-- What follows a ceiling that moved: the offer, or the sink's Request and the ledger (R229, R551). -/
def ceilingMoved (n : Nat) (d : Dev) : Dev :=
  if (cable d n).powerRole = .sink then sinkReview n (needStep d) else recomputeOffer n d

/-- Lower a ceiling to `mw`, at most once in each second (R551). -/
def lowerCeiling (n mw : Nat) (d : Dev) : Dev :=
  let c := cable d n
  let early := match c.lastDerate with
    | some t => decide (d.now < t + sec)
    | none => false
  let lower := match ceilNow c with
    | some v => decide (mw < v)
    | none => true
  if early || !lower then d
  else
    let d := if c.powerRole = .sink then setCeilings n c.thermCeil (some mw) d else setCeilings n (some mw) c.sinkCeil d
    ceilingMoved n (setCable n (fun c => { c with lastDerate := some d.now, derateCount := (c.derateCount + 1) % 2 ^ 32 }) d)

/-- The ceiling of a port becomes 0 and a shepherd step sheds it (R552). -/
def shedForHeat (n : Nat) (d : Dev) : Dev :=
  let c := cable d n
  if c.thermCeil = some 0 then d
  else
    let d := setCeilings n (some 0) c.sinkCeil d
    let d := setCable n (fun c => { c with lastDerate := some d.now, derateCount := (c.derateCount + 1) % 2 ^ 32 }) d
    if sourcing (cable d n) then needStep d else d

/-- Release both ceilings of a port, and recompute its offer (R554). -/
def releaseCeiling (n : Nat) (d : Dev) : Dev :=
  let c := cable d n
  if c.thermCeil.isNone && c.sinkCeil.isNone then d
  else
    let d := setCable n (fun c => { c with hotSince := none, coolSince := none }) (setCeilings n none none d)
    if c.powerRole = .sink then d else recomputeOffer n d

/-- The integer square root: the greatest `r` below 2^k more than `r0` with `r * r ≤ n`. -/
def isqrtFrom (n : Nat) : Nat → Nat → Nat
  | 0, r => r
  | k + 1, r => isqrtFrom n k (if (r + 2 ^ k) * (r + 2 ^ k) ≤ n then r + 2 ^ k else r)

/-- The integer square root of a number below 2^128. -/
def isqrt (n : Nat) : Nat := isqrtFrom n 64 0

/-- I_a of R550 for node `i` of the network, in mA. -/
def allowedMa (k : NodeCoef) (pw rms : Nat) (pred td : Int) : Nat :=
  let rise := divRound (10 * toFlux pw) (k.c + 10 * sumG k)
  let base := pred - rise
  if td ≤ base ∨ pred ≤ base then 0
  else 50 * isqrt (rms ^ 2 * (td - base).toNat / ((pred - base).toNat * 2500))

/-- T_D and the limit of a node, in 2^-32 °C. -/
def derateTemp (d : Dev) (i : Nat) : Int := ((nodeLimit d i : Int) - cfg d 0xC000 2) * 2 ^ 32
@[inherit_doc derateTemp] def limitTemp (d : Dev) (i : Nat) : Int := (nodeLimit d i : Int) * 2 ^ 32

/-- The ceiling that R550 asks of a port, if any: the lower of its nodes'. -/
def derateAsk (d : Dev) (net : List NodeCoef) (n : Nat) : Option Nat :=
  let c := cable d n
  ((nodesOf n).filterMap fun i =>
    let pred := d.heat.pred.getD i 0
    match net[i]? with
    | some k =>
      if derateTemp d i < pred then
        some (c.mv * allowedMa k (d.heat.power.getD i 0) c.ibusRms pred (derateTemp d i) / 1000)
      else none
    | none => none).min?

/-- Whether any node of a port is at or above its limit, and whether all are cool enough to release (R552, R554). -/
def portHot (d : Dev) (n : Nat) : Bool := (nodesOf n).any fun i => decide (limitTemp d i ≤ d.heat.pred.getD i 0)
@[inherit_doc portHot] def portCool (d : Dev) (n : Nat) : Bool :=
  (nodesOf n).all fun i => decide (d.heat.pred.getD i 0 ≤ derateTemp d i - (cfg d 0xC000 3 : Int) * 2 ^ 32)

/-- The clock of R552: it starts when a node reaches its limit, with an Alert on a source. -/
def hotClock (n : Nat) (d : Dev) : Dev :=
  let c := cable d n
  if !portHot d n then setCable n (fun c => { c with hotSince := none }) d
  else if c.hotSince.isSome then d
  else
    let d := setCable n (fun c => { c with hotSince := some d.now }) d
    if c.powerRole = .source && explicit c && !isShed c && c.thermCeil != some 0 then
      pdSend n (.alert (alertWord adoOtp)) (setCable n (fun c => { c with otpEvent := true }) d)
    else d

/-- The clock of R554 runs while a ceiling is in force and every node is cool. -/
def coolClock (n : Nat) (cool : Bool) (d : Dev) : Dev :=
  setCable n (fun c =>
    { c with coolSince := if !cool || (c.thermCeil.isNone && c.sinkCeil.isNone) then none
                          else some (c.coolSince.getD d.now) }) d

/-- A port's part of a model step (R550-R552). -/
def derateStep (net : List NodeCoef) (n : Nat) (d : Dev) : Dev :=
  if !hasPort d n then d
  else
    let d := match derateAsk d net n with
      | some mw => if (cable d n).powerRole ≠ .sink ∧ mw < 500 then shedForHeat n d else lowerCeiling n mw d
      | none => d
    coolClock n (portCool d n) (hotClock n d)

/-- HEAT_SHED (R552): the limit has been reached for 1 s. -/
def heatShed (n : Nat) (d : Dev) : Dev :=
  match (cable d n).hotSince with
  | some t =>
    if (cable d n).powerRole = .source && !d.heat.fault then shedForHeat n (elapse (t + sec - d.now) d) else d
  | none => d

/-- CEILING_RELEASE (R554, R556). -/
def ceilingRelease (n : Nat) (d : Dev) : Dev :=
  match (cable d n).coolSince with
  | some t => if !d.heat.fault then releaseCeiling n (elapse (t + cfg d 0xC000 4 * sec - d.now) d) else d
  | none => d

/-- RESTART (R548, R555). -/
def restartModel (v : Bool) (d : Dev) : Dev :=
  if v && hasUnit d 4 then fansFollow ((List.range 8).foldl (fun d n => releaseCeiling n d) (modelStart d)) else d

/-! ### Rounds and steps -/

/-- R274: a sourcing port's Cn_VCTL is corrected once per round towards the target, by the reading of VBUS, and by no more than
50 mV. How much of the difference one correction takes the spec leaves open: a free value (log entry 3). `vcorr` adds the
corrections up. -/
def correctVctl (n : Nat) (d : Dev) : Dev :=
  let c := cable d n
  let target : Int := (c.vctl : Int) / 50 - c.vcorr
  let err := max (-50) (min 50 (target - c.vbus))
  if c.powerRole = .source ∧ c.gateOn = true ∧ err ≠ 0 then
    let r := drawFree d
    let part := r.1.toNat % (err.natAbs + 1)
    let step : Int := if 0 < err then part else -part
    setCable n (fun c => { c with vctl := ((c.vctl : Int) + 50 * step).toNat, vcorr := c.vcorr + step }) r.2
  else d

/-- The reading that drives R556 in this round: RO2's, or after its failure the highest healthy one. A sensor that fails in
this round hands over in the next; `before` names the sensors that were healthy when it began. -/
def gateReading (d : Dev) (before : List Nat) : Option Int :=
  let pick := if before.contains 2 then some 2
    else before.foldl (fun (b : Option Nat) r =>
      match b with
      | some q => if (sensorOf d q).temp < (sensorOf d r).temp then some r else b
      | none => some r) none
  match pick with
  | some r => if (sensorOf d r).failed then none else some (sensorOf d r).temp
  | none => none

/-- R556 on one port that sources: ¾ of its booking, rounded down to 50 mW. -/
def gateDerate (n : Nat) (d : Dev) : Dev :=
  let c := cable d n
  if sourcing c then lowerCeiling n (c.booked * 3 / 4 / 50 * 50) d else d

/-- R556: the SX7220's derating, once in each second while the reading stays at the threshold. -/
def gateStep (before : List Nat) (d : Dev) : Dev :=
  match gateReading d before with
  | none => d
  | some v =>
    let at_ : Int := cfg d 0xC500 3 * 65536
    let ports := (List.range 8).filter fun n => hasPort d n
    if at_ ≤ v then
      let d := ports.foldl (fun d n => coolClock n false d) d
      let again := match d.heat.gateSince with
        | some t => decide (t + sec ≤ d.now)
        | none => true
      if again then ports.foldl (fun d n => gateDerate n d) (onHeat (fun h => { h with gateSince := some d.now }) d) else d
    else
      let d := onHeat (fun h => { h with gateSince := none }) d
      ports.foldl (fun d n => coolClock n (decide (v ≤ at_ - 10 * 65536)) d) d

/-- A thermal step or a housekeeping round has started late (Table 1-6, R571). -/
def countLate (d : Dev) : Dev := onOd (fun o => { o with watchLate := satInc o.watchLate }) d

/-- HOUSEKEEPING_ROUND (R539-R543, R274, R556): the record of a round is in MGT, and the sensors' counts are read. -/
def housekeepingRound (r : RoundRecord) (d : Dev) : Dev :=
  if !hkpRuns d then d
  else
    let d := if overdue .round d then countLate d else reach .round d
    let before := healthy d
    let d := arm .stepLate (1500 * us) (arm .round ms (onHeat (fun h =>
      { h with lastRound := some r, fresh := true, round := (h.round + 1) % 2 ^ 32, vsys := r.vsys, icore := r.icore,
               vconnIn := r.vconnIn, ptat := r.ptat }) (onShep (fun s => { s with srcIn := r.srcIn }) d)))
    let d := (List.range 8).foldl (fun d n =>
      if hasPort d n then
        muxUpdate n (correctVctl n (setCable n (fun c =>
          { c with vbus := r.vbus.getD n 0, ibus := r.ibus.getD n 0, ibusRms := r.rms.getD n 0 }) d))
      else d) d
    let d := (List.range 4).foldl (fun d i => readSensor i (r.ro.getD i 0) d) d
    if isSmall d then gateStep before ((List.range 4).foldl (fun d i => disagreeTest i (othersMean d i) d) d) else d

/-- m of R560 in Q16.16: over every node, and over every healthy sensor. -/
def thermalHeadroom (d : Dev) : Int :=
  let nodes := if hasUnit d 4 then
      (List.range 16).map fun i => divRound (limitTemp d i - d.heat.pred.getD i 0) 65536 else []
  let sens := (healthy d).map fun r => 125 * 65536 - (sensorOf d r).temp
  (nodes ++ sens).min?.getD 0

/-- The model goes to FAULT (R573). -/
def modelFault (d : Dev) : Dev := onHeat (fun h => { h with fault := true }) d

/-- Whether a temperature is within the range of R573. -/
def inRange (t : Int) : Bool := decide (-60 * 2 ^ 32 ≤ t) && decide (t ≤ 250 * 2 ^ 32)

/-- Commissioning ends when the headroom falls below MARGIN_LOW (R567). -/
def commHeat (f : Nat) (d : Dev) : Dev :=
  if d.heat.headroom < cfg d (fanObj f) 13 * 65536 then commAbort f 3 d else d

/-- The fans' part of a step. -/
def fanStep (d : Dev) : Dev :=
  fansFollow (commHeat 1 (commHeat 0 (onHeat (fun h => { h with headroom := thermalHeadroom d }) d)))

/-- The network steps by `dt` ms and looks 10 s ahead; out of range it faults, else the ports are derated (R546-R552). -/
def advanceModel (dt : Nat) (d : Dev) : Dev :=
  if !hasUnit d 4 || d.heat.fault then d
  else
    let net := network d (fanShare d)
    let p := (List.range 16).map fun i => nodePower d i
    let t := stepNodes net (ambient d) p dt d.heat.t
    let pred := lookAhead net (ambient d) p t
    let d := onHeat (fun h => { h with t := t, pred := pred, power := p }) d
    if t.all inRange && pred.all inRange then (List.range 8).foldl (fun d n => derateStep net n d) d else modelFault d

/-- A step that starts 1,500 µs or later after its round began is made up for up to 4 ms; beyond that the model goes to FAULT
(R571). -/
def lateStep (d : Dev) : Dev :=
  let dt := (d.now - d.heat.lastStepAt) / ms
  let d := countLate (onHeat (fun h => { h with fresh := false }) d)
  if 4 < dt then fansFollow (modelFault d)
  else fanStep (advanceModel dt (onHeat (fun h => { h with lastStepAt := d.now }) d))

/-- MODEL_STEP (R542, R546, R560): a record is readable. -/
def modelStep (d : Dev) : Dev :=
  if !planesRun d || !d.heat.fresh then d
  else if due .stepLate d then lateStep (disarm .stepLate d)
  else
    let d := disarm .stepLate (onHeat (fun h => { h with fresh := false, lastStepAt := d.now }) d)
    let d := advanceModel 1 d
    let d := if hasUnit d 4 && !d.heat.fault then
        (List.range 4).foldl (fun d i => disagreeTest i (some (divRound (d.heat.t.getD i 0) 65536)) d) d else d
    fanStep d

/-- ROUND_RECORD_LATE (R571): the record is not readable by 1,500 µs after its round began. -/
def roundRecordLate (d : Dev) : Dev := if !planesRun d then d else onExpiry .stepLate lateStep d

/-! ### The critical comparator (R557, R299, R569) -/

/-- Whether the comparator runs: from bring-up step 2 on, never in DORMANT. -/
def critLives (d : Dev) : Bool :=
  match d.boot.stage with
  | .down | .strapsS => false
  | _ => true

/-- Whether the comparator's cut takes a port: it sources with its gates on, or a step has admitted or restored it and its VBUS
is still to come (R557, R569). -/
def critTakes (c : Cable) : Bool :=
  c.powerRole == .source && (c.gateOn || (c.vbusWait && decide (c.booked ≠ 0) && !isShed c))

/-- CRIT_ASSERT: SHUTDN_N falls; sourcing gates and VCONN go off before any fence, each with its claim, and the fans are
driven high. -/
def critAssert (d : Dev) : Dev :=
  if !critLives d || d.shep.critical then d
  else
    let d := onShep (fun s => { s with critical := true, critCount := (s.critCount + 1) % 2 ^ 32, restoreSet := [],
                                       restoreSince := none }) d
    let d := (List.range 8).foldl (fun d n =>
      let c := cable d n
      if critTakes c then
        vconnOff n (setCable n (fun c' => { c' with claim := portOut c }) (cutGates .critical n d))
      else vconnOff n d) d
    needStep ((List.range 2).foldl (fun d f => if hasFan d f then setFan f (fun x => { x with highTicks := 160 }) d else d) d)

/-- CRIT_RELEASE: SHUTDN_N releases, and a port whose VBUS waited for that alone is supplied. Shed ports wait for a restore
(R299). -/
def critRelease (d : Dev) : Dev :=
  if d.shep.critical then
    (List.range 8).foldl (fun d n =>
      if (cable d n).vbusWait && (cable d n).guardFresh then applyVbus n d else d)
      (onShep (fun s => { s with critical := false }) d)
  else d

end Sys2Proof.Machine
end

