-- ==== Sys2Proof/Machine/PowerState.lean ====
section
/-! DEFINITION. Power-state moves that the dictionary and the cable ports start (R71-R75), and what the planes do when boot
reaches READY (R79, R83, R96, R97). -/

namespace Sys2Proof.Machine

/-- Whether a cable port counts as attached. -/
def isAttached (c : Cable) : Bool :=
  match c.typec with
  | .attachedSrc | .attachedSnk | .accessory => true
  | _ => false

/-- Whether any cable port is attached. -/
def anyAttached (d : Dev) : Bool := (List.range 8).any fun n => isAttached (cable d n)

/-- The activity condition of R71. -/
def activity (d : Dev) : Bool :=
  anyAttached d || ([8, 9, 10, 11, 12].any fun p => hasPort d p && cfgOn d (portObj p) 0)
    || cfgOn d 0x5000 0 || (cfgOn d 0x5000 1 && hasUnit d 1)

/-- DORMANT_BLOCK (R75). -/
def dormantBlock (d : Dev) : Nat :=
  b2n (anyAttached d) + 2 * b2n (d.od.sessions.any fun x => x.2.bundle.isSome) + 4 * b2n (d.st.locks != [])
    + 8 * b2n (d.od.pendingJournal != []) + 16 * b2n d.otp.burn.isSome

/-- Entry to ACTIVE (R72): the fabric domains run, and the Nguzo node with them. -/
def enterActive (d : Dev) : Dev :=
  ngStart (disarm .idleHold (disarm .drain (onBoot (fun b => { b with leaving := false })
    (onAon (fun a => { a with power := .active }) d))))

/-- Leaving ACTIVE (R73): the switch stops admitting frames and drains for at most 1 ms; the bus is neither received nor
driven. -/
def leaveActive (d : Dev) : Dev :=
  arm .drain ms (disarm .idleHold (ngStop (onBoot (fun b => { b with leaving := true })
    (onAon (fun a => { a with power := .idle }) d))))

/-- Follow TARGET and the activity condition (Table 3-4): ACTIVE or IDLE at once, AUTO after IDLE_HOLD without activity;
DORMANT passes through IDLE. -/
def followTarget (d : Dev) : Dev :=
  if d.boot.stage ≠ .ready then d
  else
    match d.aon.power, cfg d 0x14 1 with
    | .idle, 1 => enterActive d
    | .idle, 0 => if activity d then enterActive d else d
    | .active, 0 =>
      if activity d then disarm .idleHold d
      else if armed .idleHold d then d else arm .idleHold (cfg d 0x14 6 * ms) d
    | .active, 1 => disarm .idleHold d
    | .active, _ => leaveActive d
    | _, _ => d

/-! ### READY -/

/-- A port whose gates a SYS reset held: its engine runs again, and sends Soft_Reset (R83). Its inflow counts again with its
next contract. -/
def heldSink (n : Nat) (d : Dev) : Dev :=
  let d := setCable n (fun c =>
    { c with typec := .attachedSnk, powerRole := .sink, dataRole := .ufp, contract := .implicit, mv := 5000, gateOn := true,
             path := .on, rank := cfg d 0x2400 6 }) d
  sendSoftReset n (guardNow n (usb2Join n (present_ n 1 (setFence n true d))))

/-- The line that shows an Rp level. -/
def rpLine : RpLevel → CcLine
  | .default => .rpDefault
  | .a1_5 => .rp1A5
  | .a3_0 => .rp3A0

/-- A port that made a dead-battery start is attached as a sink with an implicit contract, without a break in VBUS (R79).
Which way round the plug lies no command says: it is a free value (log entry 3). -/
def deadBatterySink (n : Nat) (rp : RpLevel) (d : Dev) : Dev :=
  let r := drawFree d
  let flip := r.1.getLsbD 0
  let l := rpLine rp
  attachSink n (if flip then 2 else 1) (min 500 (lineMa l)) (setCable n (fun c =>
    { c with cc1 := if flip then .nothing else l, cc2 := if flip then l else .nothing }) r.2)

/-- A cable port's engines start: checked by the guard, held as a sink or looking for a partner. -/
def startPort (n : Nat) (d : Dev) : Dev :=
  if !hasPort d n then d
  else
    let d := arm (.guard n) (cfg d 0x2300 1 * sec) d
    let held := if n = 0 then d.aon.hold0 else if n = 1 then d.aon.hold1 else false
    if held then heldSink n d
    else if d.aon.dbPort.any (fun p => p.val == n) && d.aon.dbClosed then deadBatterySink n (d.aon.dbRp.getD .default) d
    else presentIdle n d

/-- The planes start at READY (Table 3-1, R96): the cable ports, the slot polls, the restore check, PTP, tally export and the
host's heartbeat. -/
def startPlanes (d : Dev) : Dev :=
  let d := (List.range 8).foldl (fun d n => startPort n d) d
  let d := onAon (fun a =>
    { a with hold0 := false, hold1 := false, dbPort := none, dbClosed := false, rpSuppress0 := false, dryChecks0 := 0,
             rpSuppress1 := false, dryChecks1 := 0 }) d
  let d := (List.range 4).foldl (fun d s => arm (.slotPoll s) (250 * ms) d) d
  let d := ptpProfileChanged (arm .restore (100 * ms) d)
  let d := if cfgOn d 0xB400 0 then arm .exports (cfg d 0xB400 1 * ms) d else d
  let p := cfg d 0xC700 0
  fansFollow (if p = 0 then d else arm .heartbeat (p * ms) d)

/-- The cable ports of a device that policy HALT holds (Table 3-9): C0 and C1 look for a source, and a sink hold or a dead-battery
start goes on there. -/
def haltPorts (d : Dev) : Dev :=
  onAon (fun a => { a with hold0 := false, hold1 := false, dbPort := none, dbClosed := false }) (startPort 1 (startPort 0 d))

/-- An attach latched during boot on C0 or C1 (R97): the lines it showed are debounced now; a wake that showed none waits for
the debounce's own lines. -/
def latchedAttach (n : Nat) (d : Dev) : Dev :=
  let c := cable d n
  if c.typec ≠ .unattached then d
  else if c.cc1 = .nothing ∧ c.cc2 = .nothing then
    arm (.ccDebounce n) tCcDebounce (disarm (.drp n) (setCable n (fun c => { c with typec := .attachWait }) d))
  else ccDebounce n c.cc1 c.cc2 d

/-- A module latched during boot on a slot (R97). -/
def latchedSlot (s : Nat) (d : Dev) : Dev :=
  if cfgOn d (slotObj s) 0 && (slotOf d s).state == 0 then slotFound s d else d

end Sys2Proof.Machine
end

