-- ==== Sys2Proof/Machine/ZopWire.lean ====
section
/-! DEFINITION. ZOP messages on the wire: headers, tags, transports and their limits, and how a response or a notification
leaves the device (Tables 4-3 to 4-9, R110-R113, R120, R127, R136, R142-R146, R165-R174). -/

namespace Sys2Proof.Machine

/-! ### Status and opcode codes (Tables 4-5, 4-6) -/

def stOk : Nat := 0x00
def stDuplicate : Nat := 0x01
def stNoObject : Nat := 0x10
def stNoElement : Nat := 0x11
def stAccess : Nat := 0x12
def stType : Nat := 0x13
def stRange : Nat := 0x14
def stBusy : Nat := 0x15
def stAbsent : Nat := 0x16
def stStale : Nat := 0x17
def stLocked : Nat := 0x18
def stBundleFull : Nat := 0x19
def stDeadline : Nat := 0x1A
def stIntegrity : Nat := 0x1B
def stSession : Nat := 0x1C

def opRead : Byte := 0x01
def opWrite : Byte := 0x02
def opBundleOpen : Byte := 0x10
def opBundleAdd : Byte := 0x11
def opBundleCommit : Byte := 0x12
def opBundleAbort : Byte := 0x13
def opSubscribe : Byte := 0x20
def opNotify : Byte := 0x21
def opSessionOpen : Byte := 0x30
def opSessionProve : Byte := 0x31
def opSessionClose : Byte := 0x32

/-! ### The request header (Table 4-3) -/

/-- The session a request names. -/
def reqSession (q : ZReq) : Nat := q.sess.toNat % 1024

/-- Its TAGGED and DESCRIBE flags. -/
def reqTagged (q : ZReq) : Bool := q.sess.getLsbD 15
@[inherit_doc reqTagged] def reqDescribe (q : ZReq) : Bool := q.sess.getLsbD 14

/-- The octets a request's tag covers: header and payload. -/
def reqBody (q : ZReq) (opcode : Byte) : List Byte :=
  leBytes 2 q.sess.toNat ++ leBytes 2 q.seq.toNat ++ [opcode, q.element] ++ leBytes 2 q.object.toNat ++
    leBytes 2 q.length.toNat ++ q.payload

/-- A request's octets on the wire. -/
def reqOctets (q : ZReq) (opcode : Byte) : List Byte := reqBody q opcode ++ q.tag

/-- The largest message and the request queue of a transport (Table 4-8). -/
def maxMessage : Transport → Nat
  | .mailbox => 512
  | .udp .. => 1024
  | .nguzo .. => 252
  | .pd .. => 24
@[inherit_doc maxMessage] def queueSize : Transport → Nat
  | .mailbox => 1
  | .udp .. => 64
  | .nguzo .. => 32
  | .pd .. => 2

/-- LAST_TRANSPORT of a transport (Table 4-14). -/
def viaCode : Transport → Nat
  | .mailbox => 0
  | .udp .. => 1
  | .nguzo .. => 2
  | .pd .. => 3

/-- Whether a message never carries a tag on this transport (Table 4-8). -/
def neverTagged : Transport → Bool
  | .mailbox => true
  | .pd .. => true
  | _ => false

/-- R111: a message that is discarded and counted in MALFORMED. -/
def malformed (q : ZReq) (opcode : Byte) : Bool :=
  q.sess.toNat / 1024 % 4 != 1 || q.length.toNat != q.payload.length
    || q.tag.length != (if reqTagged q then 8 else 0)
    || decide (maxMessage q.via < (reqOctets q opcode).length)
    || q.sess.getLsbD 12 || q.sess.getLsbD 13 || (reqTagged q && neverTagged q.via)

/-- Worst-case service time of a request, in microseconds (Table 4-9). -/
def serviceUs (opcode : Byte) (element : Byte) (tagged : Bool) : Nat :=
  (if opcode == opSubscribe then 20 else if opcode == opBundleOpen || opcode == opBundleCommit then 40
   else if opcode == opSessionProve then (if element == 1 then 180 else 30) else 12) + (if tagged then 8 else 0)

/-- R136: whether the engine refuses to admit a request. -/
def admissionBusy (q : ZReq) (opcode : Byte) : Bool :=
  decide (1500 < q.queuedUs + serviceUs opcode q.element (reqTagged q)) || decide (queueSize q.via ≤ q.queued)

/-! ### Sessions and transports (R115) -/

/-- Whether a session number is a roaming session of this variant (Table 4-7). -/
def isRoaming (d : Dev) (s : Nat) : Bool := decide (10 ≤ s) && decide (s < sessionCount d)

/-- Whether a session is open. -/
def sessionOpen (d : Dev) (s : Nat) : Bool := s == 0 || s == 1 || (sessionOf d s).isOpen

/-- Whether a session's requests may arrive on a transport. -/
def boundRight (d : Dev) (s : Nat) : Transport → Bool
  | .mailbox => s == 0
  | .pd n _ => s == 2 + n.val
  | _ => isRoaming d s

/-- The role of a session: session 0 is Custodian in BLANK and FACTORY, session 1 always (Table 4-7). -/
def roleOf (d : Dev) (s : Nat) : Role :=
  if s == 1 then .custodian
  else if s == 0 && decide (d.otp.lifecycle ≤ 1) then .custodian
  else (sessionOf d s).role

/-- A role's code (Table 4-14). -/
def Role.code : Role → Nat
  | .observer => 0
  | .operator => 1
  | .commissioner => 2
  | .custodian => 3

/-- A role from its code. -/
def Role.ofCode : Nat → Role
  | 0 => .observer
  | 1 => .operator
  | 2 => .commissioner
  | _ => .custodian

/-! ### Leaving the device -/

/-- The first eight octets of HMAC-SHA-256(KS, message) (R120). -/
def tagOf (ks msg : List Byte) : List Byte := (hmac ks msg).take 8

/-- A response's octets (Table 4-4). The SESS word is the request's with RESPONSE set and TAGGED as the response has it. -/
def responseOctets (q : ZReq) (opcode : Byte) (status aux : Nat) (payload : List Byte) (ks : Option (List Byte)) :
    List Byte :=
  let word := q.sess.toNat % 1024 + 0x0400 + 0x1000 + (if reqDescribe q then 0x4000 else 0)
    + (if ks.isSome then 0x8000 else 0)
  let body := leBytes 2 word ++ leBytes 2 q.seq.toNat ++ [opcode, q.element] ++ leBytes 2 q.object.toNat
    ++ [BitVec.ofNat 8 status, BitVec.ofNat 8 aux] ++ leBytes 2 payload.length ++ payload
  match ks with
  | some k => body ++ tagOf k body
  | none => body

/-- A notification's octets (Table 4-4, R142). -/
def notificationOctets (s seq obj el aux : Nat) (payload : List Byte) (ks : Option (List Byte)) : List Byte :=
  let word := s + 0x0400 + 0x1000 + 0x2000 + (if ks.isSome then 0x8000 else 0)
  let body := leBytes 2 word ++ leBytes 2 seq ++ [opNotify, BitVec.ofNat 8 el] ++ leBytes 2 obj
    ++ [0, BitVec.ofNat 8 aux] ++ leBytes 2 payload.length ++ payload
  match ks with
  | some k => body ++ tagOf k body
  | none => body

/-- The mailbox completes a request: response buffer, RSP_LEN and DONE, BUSY clear, MBX_DONE raised (R166); a discarded
message leaves RSP_LEN 0 (R167). The response has left when the host clears DONE, or after 10 ms (R169). -/
def mailboxDone (octets : List Byte) (d : Dev) : Dev :=
  arm .respSent (10 * ms) (raiseIrq 1 (onHw (fun h =>
    { h with rspBuf := writeBytes 0 h.rspBuf 0 octets, rspLen := BitVec.ofNat 10 octets.length, mbxDone := true,
             mbxBusy := false }) d))

/-- A message waits for frame ID 900 on the channels that the schedule assigns to that ID (R144). -/
def queueNguzo (octets : List Byte) (d : Dev) : Dev :=
  let entry := (List.range 64).find? fun i => force d (0x6180 + i) 0 == 1 && force d (0x6180 + i) 1 == 900
  match entry with
  | some i =>
    let ch := force d (0x6180 + i) 3
    onNg (fun n => { n with zopA := if onChannel ch false then n.zopA ++ [octets] else n.zopA,
                            zopB := if onChannel ch true then n.zopB ++ [octets] else n.zopB }) d
  | none => d

/-- Octets padded with zeros to a multiple of four. -/
def padded4 (bs : List Byte) : List Byte := bs ++ List.replicate ((4 - bs.length % 4) % 4) 0

/-- Octets as words of four, the first octet in bits [7:0] (R146, R207). -/
def vdosOf : List Byte → List Word
  | [] => []
  | a :: b :: c :: e :: l => BitVec.ofNat 32 (leNat [a, b, c, e]) :: vdosOf l
  | l => [BitVec.ofNat 32 (leNat l)]

/-- An IP address of a transport's octets: 4 or 16, most significant first. -/
def addrOctets (v6 : Bool) (a : BitVec 128) : List Byte := beBytes (if v6 then 16 else 4) a.toNat

/-- The UDP datagram of a message from port 47121, its checksum over the pseudo-header of IPv4 or IPv6; a sum of 0 goes as 0xFFFF
(R143; RFC 768, RFC 8200). -/
def udpDatagram (v6 : Bool) (src dst : BitVec 128) (port : Half) (octets : List Byte) : List Byte :=
  let len := 8 + octets.length
  let pseudo := addrOctets v6 src ++ addrOctets v6 dst ++ (if v6 then beBytes 4 len ++ [0, 0, 0, 17] else [0, 17] ++ beBytes 2 len)
  let head := beBytes 2 47121 ++ beBytes 2 port.toNat ++ beBytes 2 len
  let sum := 0xFFFF - onesFold (sum16 (pseudo ++ head ++ [0, 0] ++ octets))
  head ++ beBytes 2 (if sum = 0 then 0xFFFF else sum) ++ octets

/-- A message goes out on a transport: into the response buffer, in a datagram from the address that the request named out of its
ingress port, in a frame of ID 900, or in a Structured VDM of the pod link (R127, R143, R144, R146). -/
def carry (via : Transport) (vdm : Nat) (octets : List Byte) (d : Dev) : Dev :=
  match via with
  | .mailbox => d
  | .udp port v6 addr srcPort _ dst _ _ => emit (.udp port v6 dst addr (udpDatagram v6 dst addr srcPort octets)) d
  | .nguzo .. => queueNguzo octets d
  | .pd n _ => pdSend n.val (.vdm (vdmHeader (podSvid d) 1 vdm) (vdosOf octets)) d

/-- Send a response on the transport of the request, to its source (R127): on PD as the ACK of command 0x1E. -/
def sendOctets (via : Transport) (octets : List Byte) (d : Dev) : Dev :=
  let d := match via with
    | .mailbox => mailboxDone octets d
    | _ => carry via 0x5E octets d
  emit (.zop via octets) d

/-- Write an entry into the notification ring, or drop it when fewer than 4 bytes would stay free (R172-R174). -/
def ringWrite (msg : List Byte) (d : Dev) : Option Dev :=
  let entry := leBytes 2 msg.length ++ [0, 0] ++ padded4 msg
  let h := d.hw
  let tail := h.ntfTail.toNat
  let used := (2048 + tail - h.ntfHead.toNat) % 2048
  let wraps := decide (2048 < tail + entry.length)
  let needed := entry.length + (if wraps then 2048 - tail else 0)
  if 2048 < used + needed + 4 then none
  else
    let ring := if wraps then writeBytes 0 (writeBytes 0 h.ring tail [0xFF, 0xFF]) 0 entry
      else writeBytes 0 h.ring tail entry
    let tail' := if wraps then entry.length else (tail + entry.length) % 2048
    some (raiseIrq 2 (onHw (fun h => { h with ring := ring, ntfTail := BitVec.ofNat 11 tail' }) d))

/-- The notifications sent within the last second. -/
def sentLately (d : Dev) : List Nat := d.od.sentTimes.filter fun t => decide (d.now < t + sec)

/-- Whether the device may send a notification: at most 4,000 in any second (R142; log entry 46). -/
def notifyRoom (d : Dev) : Bool := decide ((sentLately d).length < 4000)

/-- A notification is counted against that limit. -/
def noteSent (d : Dev) : Dev := onOd (fun o => { o with sentTimes := sentLately d ++ [d.now] }) d

/-- Send a notification of an element's value on a session, with the session's next notify sequence number: on PD as the REQ of
command 0x1F (R146). One that is too long for its transport, or that the ring has no room for, uses up its number and leaves LOST
for the next (R142, R173). -/
def sendNotify (s obj el : Nat) (via : Transport) (merged : Bool) (value : List Byte) (d : Dev) : Dev :=
  let ses := sessionOf d s
  let aux := b2n (ses.lost || merged)
  let octets := notificationOctets s ses.notifySeq.toNat obj el aux value ses.ks
  let advance (lost : Bool) := setSession s fun x => { x with notifySeq := x.notifySeq + 1, lost := lost }
  if maxMessage via < octets.length then advance true d
  else
    match via with
    | .mailbox =>
      match ringWrite octets d with
      | some d' => emit (.zop .mailbox octets) (noteSent (advance false d'))
      | none => advance true d
    | _ => emit (.zop via octets) (carry via 0x1F octets (noteSent (advance false d)))

end Sys2Proof.Machine
end

