-- ==== Sys2Proof/Machine/OdRead.lean ====
section
/-! DEFINITION. Reading an element: the values that the device keeps elsewhere than in plain storage (the Meaning columns of
Tables 1-5, 1-6, 2-11, 3-11, 3-12, 4-12 to 4-14, 6-7 to 16-10). Every value is the number that its octets spell,
little-endian. -/

namespace Sys2Proof.Machine

/-- `n` octets of text. -/
def textNat (l : List Nat) : Nat := leNat (l.map fun x => BitVec.ofNat 8 x)

/-- PART (R13). -/
def partName (d : Dev) : Nat :=
  match d.otp.variant with
  | 0 => textNat [0x53, 0x58, 0x37, 0x32, 0x34, 0x30]
  | 1 => textNat [0x53, 0x58, 0x37, 0x32, 0x33, 0x30]
  | 2 => textNat [0x53, 0x58, 0x37, 0x32, 0x32, 0x30]
  | _ => textNat [0x44, 0x45, 0x47, 0x52, 0x41, 0x44, 0x45, 0x44]

/-- DIE_REV: a figure of the die that the spec does not give (log entry 3). -/
def dieRev (_d : Dev) : Nat := Config.openFigure "die-rev" 0 % 256

/-- Codes of the enumerations (Tables 3-12, 6-7, 7-7, 8-4, 9-6, 9-7, 15-3). -/
def ResetCause.code : ResetCause → Nat
  | .por => 0
  | .resetN => 1
  | .rail => 2
  | .watchdog => 3
  | .glitch => 4
  | .hostRequest => 5
  | .debug => 6
@[inherit_doc ResetCause.code] def TypeC.code : TypeC → Nat
  | .unattached => 0
  | .attachWait => 1
  | .attachedSrc => 2
  | .attachedSnk => 3
  | .trySnk => 4
  | .accessory => 5
  | .errorRecovery => 6
  | .ccShort => 7
@[inherit_doc ResetCause.code] def Wetness.code : Wetness → Nat
  | .dry => 0
  | .damp => 1
  | .wet => 2
@[inherit_doc ResetCause.code] def PodState.code : PodState → Nat
  | .none => 0
  | .discovering => 1
  | .reading => 2
  | .linkUp => 3
  | .identBad => 4
  | .linkFail => 5
  | .failed => 6
  | .notAPod => 7
@[inherit_doc ResetCause.code] def PowerRole.code : PowerRole → Nat
  | .none => 0
  | .source => 1
  | .sink => 2
@[inherit_doc ResetCause.code] def DataRole.code : DataRole → Nat
  | .none => 0
  | .dfp => 1
  | .ufp => 2
@[inherit_doc ResetCause.code] def Contract.code : Contract → Nat
  | .none => 0
  | .implicit => 1
  | .spr => 2
  | .epr => 3
  | .typecOnly => 4
@[inherit_doc ResetCause.code] def PdoKind.code : PdoKind → Nat
  | .fixed => 0
  | .pps => 1
  | .avs => 2
@[inherit_doc ResetCause.code] def FrsState.code : FrsState → Nat
  | .off => 0
  | .armed => 1
  | .swapped => 2
@[inherit_doc ResetCause.code] def EprState.code : EprState → Nat
  | .off => 0
  | .entering => 1
  | .inEpr => 2
  | .refused => 3
@[inherit_doc ResetCause.code] def PathState.code : PathState → Nat
  | .off => 0
  | .inrush => 1
  | .frozen => 2
  | .on => 3
  | .discharging => 4
  | .faultShort => 5
  | .faultOc => 6
  | .faultOv => 7
  | .faultReverse => 8
  | .latched => 9
  | .shed => 10
@[inherit_doc ResetCause.code] def ShedCause.code : ShedCause → Nat
  | .none => 0
  | .ledger => 1
  | .overrun => 2
  | .critical => 3
@[inherit_doc ResetCause.code] def HeatState.code : HeatState → Nat
  | .normal => 0
  | .derated => 1
  | .shed => 2
@[inherit_doc ResetCause.code] def NodeState.code : NodeState → Nat
  | .off => 0
  | .listen => 1
  | .coldstart => 2
  | .integrating => 3
  | .synchronised => 4
@[inherit_doc ResetCause.code] def ChanState.code : ChanState → Nat
  | .off => 0
  | .joining => 1
  | .synchronised => 2
  | .clamped => 3
  | .recovering => 4

/-- RAIL_STATUS (Table 2-11). -/
def railStatus (a : Aon) : Nat :=
  b2n a.coreOk + 2 * b2n a.serOk + 4 * b2n a.hkOk + 8 * b2n a.bankH + 16 * b2n a.bankF + 32 * b2n a.bankS + 64 * b2n a.bankN
    + 128 * b2n a.vconnOk

/-- Folio 0x0 below 0x1000. -/
def readBase (d : Dev) (k : ObjKind) (el : Nat) : Option Nat :=
  match k, el with
  | .identity, 1 => some (partName d)
  | .identity, 2 => some (dieRev d)
  | .identity, 3 => some (leNat (uid d))
  | .identity, 4 => some (leNat (baseMac d))
  | .capability, 0 => some d.otp.variant
  | .capability, 1 => some (present d).toNat
  | .capability, 2 => some (unitPresent d.otp.variant)
  | .capability, 3 => some (stationEntries d)
  | .capability, 4 => some (policerCount d)
  | .capability, 5 => some (sessionCount d)
  | .capability, 6 => some (if hasUnit d 2 then 16384 else 0)
  | .capability, 7 => some (if hasUnit d 3 then 4096 else 0)
  | .strap, 0 => some (105 + 10 * d.aon.tcrit.toNat)
  | .strap, 1 => some (b2n (d.aon.aonRc || d.aon.xtalFail))
  | .strap, 2 => some (b2n d.aon.bootHost)
  | .strap, 3 => some (b2n d.aon.bootHold)
  | .strap, 4 => some d.aon.sampled.toNat
  | .strap, 5 => some d.aon.floating.toNat
  | .strap, 6 => some d.aon.overridden.toNat
  | .strap, 7 => some d.aon.railFailCount
  | .strap, 8 => some (railStatus d.aon)
  | .strap, 9 => some (b2n d.aon.xtalFail)
  | .power, 0 => some (if d.aon.power = .active then 2 else 1)
  | .power, 2 => some (dormantBlock d)
  | .power, 5 => some d.aon.lastWake.toNat
  | .power, 7 => some (match d.aon.dbRp with
      | none => 0
      | some .default => 1
      | some .a1_5 => 2
      | some .a3_0 => 3)
  | .resetBoot, 0 => some (ResetCause.code d.aon.lastReset)
  | .resetBoot, 1 => some d.aon.sysResetCount
  | .resetBoot, 2 => some d.boot.image
  | .resetBoot, 3 => some d.boot.version
  | .resetBoot, 4 => some (d.boot.bootTime % 2 ^ 32)
  | .resetBoot, 5 => some d.boot.policyApplied
  | .resetBoot, 6 => some (d.boot.replayCount % 65536)
  | .resetBoot, 7 => some d.aon.refFailCount
  | .alarm, 0 => some (activeAlarms d).toNat
  | .alarm, 1 => some d.od.alarmLatched.toNat
  | .watch, 0 => some d.od.watchOd
  | .watch, 1 => some d.od.watchDeadline
  | .watch, 2 => some d.od.watchOverrun
  | .watch, 3 => some d.od.watchShed
  | .watch, 4 => some d.od.watchLate
  | _, _ => none

/-- 0x1010 for the session that the requester views (Table 4-14). -/
def readView (d : Dev) (s el : Nat) : Option Nat :=
  let v := sel d s 0x1010 0
  match el with
  | 0 => some v
  | 1 => some (b2n (sessionOpen d v))
  | 2 => some (roleOf d v).code
  | 3 => some (if v = 1 then 0 else leNat (sessionOf d v).clientId)
  | 4 => some (if v = 1 then 0 else (sessionOf d v).highest.toNat)
  | 5 => some (if v = 1 then 4 else (sessionOf d v).lastVia)
  | _ => none

/-- The engine's own objects 0x1000-0x1050. -/
def readEngine (d : Dev) (s : Nat) (k : ObjKind) (el : Nat) : Option Nat :=
  match k, el with
  | .view, _ => readView d s el
  | .counters, 0 => some d.od.executed
  | .counters, 1 => some d.od.duplicate
  | .counters, 2 => some d.od.stale
  | .counters, 3 => some d.od.busy
  | .counters, 4 => some d.od.integrity
  | .counters, 5 => some d.od.sessionCnt
  | .counters, 6 => some d.od.malformed
  | .counters, 7 => some d.od.subs.length
  | .bundle, 0 => some (sessionOf d s).bState
  | .bundle, 1 => some (sessionOf d s).bApply
  | .bundle, 2 => some (sessionOf d s).bResult
  | .bundle, 3 => some (sessionOf d s).bFail
  | .journal, 0 => some d.od.journalState
  | .journal, 1 => some d.od.generation
  | .journal, 2 => some d.od.fill
  | .journal, 3 => some (d.od.replaySkipped % 65536)
  | .proof, 0 => some d.od.proofFails
  | .proof, 1 => some (divUp (timeLeft .lockout d) sec)
  | _, _ => none

/-- Cable port attach and slot objects. -/
def readAttach (d : Dev) (k : ObjKind) (n el : Nat) : Option Nat :=
  let c := cable d n
  let t := slotOf d n
  match k, el with
  | .cable, 0 => some c.typec.code
  | .cable, 1 => some c.orientation
  | .cable, 2 => some (rolePref d n)
  | .cable, 4 => some c.guard.code
  | .cable, 5 => some c.guardLast
  | .cable, 6 => some c.vconn
  | .cable, 7 => some c.cableBits.toNat
  | .cable, 10 => some c.pod.code
  | .cable, 11 => some c.profileId
  | .cable, 12 => some (leNat c.identity)
  | .cable, 13 => some c.accessory
  | .cable, 14 => some (b2n c.usb2Conflict)
  | .cable, 15 => some c.ccShortCount
  | .slot, 1 => some t.state
  | .slot, 4 => some t.profileId
  | .slot, 5 => some (leNat t.identity)
  | .slot, 6 => some t.clampCount
  | .guard, 2 => some (podSvid d)
  | _, _ => none

/-- Contract objects and 0x3200. -/
def readContract (d : Dev) (k : ObjKind) (n el : Nat) : Option Nat :=
  let c := cable d n
  match k, el with
  | .contract, 0 => some c.powerRole.code
  | .contract, 1 => some c.dataRole.code
  | .contract, 2 => some c.contract.code
  | .contract, 3 => some c.pdoKind.code
  | .contract, 4 => some c.mv
  | .contract, 5 => some c.ma
  | .contract, 6 => some (if c.powerRole = .sink then portIn c else c.booked)
  | .contract, 7 => some c.offerMw
  | .contract, 19 => some c.frs.code
  | .contract, 21 => some c.hardResetCount
  | .contract, 22 => some c.softResetCount
  | .contract, 23 => some c.retryFailCount
  | .contract, 24 => some c.ppsTimeoutCount
  | .contract, 25 => some (b2n c.pdFail)
  | .contract, 26 => some (leNat (c.partnerCaps.flatMap fun w => leBytes 4 w.toNat))
  | .contract, 27 => some c.epr.code
  | .device, 4 => some (authSlots d)
  | .device, 5 => some d.shep.authCount
  | .device, 6 => some d.shep.authErrors
  | _, _ => none

/-- Power path, ledger and source objects. -/
def readPower (d : Dev) (k : ObjKind) (n el : Nat) : Option Nat :=
  let c := cable d n
  match k, el with
  | .path, 0 => some c.path.code
  | .path, 1 => some c.rank
  | .path, 2 => some (if isShed c then c.claim else 0)
  | .path, 3 => some c.vbus
  | .path, 4 => some (toTwos 32 c.ibus)
  | .path, 10 => some c.shortCount
  | .path, 11 => some c.ocCount
  | .path, 12 => some c.ovCount
  | .path, 13 => some c.reverseCount
  | .path, 14 => some c.inrushFailCount
  | .path, 15 => some c.dischargeFail
  | .path, 16 => some c.retriesLeft
  | .path, 18 => some (if isShed c then c.shedCause.code else 0)
  | .ledger, 0 => some (inflow d)
  | .ledger, 1 => some (outflow d)
  | .ledger, 2 => some (toTwos 32 (ledgerFree d))
  | .ledger, 8 => some ((List.range 8).map fun n => b2n (isShed (cable d n)) * 2 ^ n).sum
  | .ledger, 9 => some d.shep.stepCount
  | .ledger, 10 => some (b2n (planesRun d && deficitNow d))
  | .source, 0 => some d.shep.srcIn
  | .source, 2 => some d.shep.droopCount
  | .source, 3 => some d.shep.freezeMax
  | _, _ => none

/-- Nguzo objects. -/
def readNguzo (d : Dev) (k : ObjKind) (n el : Nat) : Option Nat :=
  let c := chan d (n == 1)
  match k, el with
  | .node, 0 => some d.ng.node.code
  | .node, 1 => some (b2n (isAnchor d))
  | .node, 2 => some d.ng.cycle.toNat
  | .node, 3 => some (nitMt d).toNat
  | .node, 4 => some d.ng.keepersSeen
  | .node, 5 => some (toTwos 32 d.ng.offsetCorr)
  | .node, 6 => some (toTwos 32 d.ng.rateCorr)
  | .node, 7 => some d.ng.syncLost
  | .node, 8 => some d.ng.coldstartCount
  | .node, 9 => some d.ng.coldstartAbort
  | .node, 10 => some d.ng.anchorConflict
  | .node, 11 => some d.ng.guardTrip
  | .channel, 0 => some c.state.code
  | .channel, 1 => some c.rxValid
  | .channel, 2 => some c.codingErr
  | .channel, 3 => some c.hcrcErr
  | .channel, 4 => some c.crcErr
  | .channel, 5 => some c.contentErr
  | .channel, 6 => some c.boundaryErr
  | .channel, 7 => some c.clampCount
  | .channel, 8 => some c.outlier
  | .channel, 9 => some c.txFrames
  | .gateway, 1 => some d.ng.dupDiscard
  | .gateway, 2 => some d.ng.abMismatch
  | .gateway, 3 => some d.ng.toBusDrop
  | .gateway, 4 => some d.ng.overwritten
  | .gateway, 5 => some d.ng.fromBus
  | .gateway, 6 => some d.ng.toBus
  | _, _ => none

/-- Timebase objects. -/
def readTime (d : Dev) (k : ObjKind) (n el : Nat) : Option Nat :=
  let t := d.tm
  match k, el with
  | .time, 0 => some t.state.code
  | .time, 1 => some (match t.source with
      | some s => TimeSource.code s
      | none => 0)
  | .time, 2 => some (taiNs d)
  | .time, 3 => some (toTwos 32 t.rateTrim)
  | .time, 4 => some (toTwos 32 t.lag)
  | .time, 5 => some (cycleCount d)
  | .time, 6 => some (taiNs d)
  | .time, 7 => some t.stepCount
  | .time, 8 => some t.syncSlotMissing
  | .sources, 4 => some (b2n t.qualPtp.isSome + 2 * b2n t.qualPps.isSome + 4 * b2n t.qualNg.isSome)
  | .ptp, 5 => some (toTwos 32 t.ptpOffset)
  | .ptp, 6 => some (ptpOf d (ptpPort d)).peerDelay
  | .ptp, 8 => some t.tsMissed
  | .pins, 4 => some t.ppsReject
  | .epoch, 3 => some (epochOf d n).count
  | .epoch, 4 => some (epochOf d n).marks.toNat
  | _, _ => none

/-- Switch port and buffer objects. -/
def readPort (d : Dev) (k : ObjKind) (n el : Nat) : Option Nat :=
  let w := swPort d n
  match k, el with
  | .port, 3 => some (b2n (linkIsUp d n))
  | .port, 4 => some (portSpeed d n)
  | .port, 6 => some (b2n w.fenced)
  | .port, 14 => some (b2n w.xoff + 2 * b2n w.pausedUntil.isSome)
  | .port, 33 => some (ingressUsed d n)
  | .port, 34 => some w.lastDrop
  | .port, 35 => some w.halfDuplex
  | .port, 36 => some w.pauseIgnored
  | .port, 37 => some w.cutBad
  | .port, _ => if 25 ≤ el ∧ el ≤ 32 then some (depthOf d n (el - 25) % 65536) else none
  | .buffer, 0 => some (commonSize d)
  | .buffer, 1 => some (commonUsed d % 65536)
  | .buffer, 3 => some d.fab.residues.length
  | .buffer, 4 => some d.fab.foldCapped
  | .buffer, 5 => some d.fab.eccCorrected
  | .buffer, 6 => some d.fab.eccDouble
  | .mirror, 6 => some (tget 0 d.fab.mirCopies n)
  | .mirror, 7 => some (tget 0 d.fab.mirDrops n)
  | .mdio, 6 => some d.fab.mdioStatus
  | _, _ => none

/-- Station, VLAN and route objects. The VLAN entry and the next hop are those that the session selects. -/
def readTables (d : Dev) (s : Nat) (k : ObjKind) (n el : Nat) : Option Nat :=
  let v := vlanOf d (sel d s 0x8600 0)
  let h := hopOf d (sel d s 0x9700 0)
  match k, el with
  | .vlanPort, 5 => some (learnedOn d n)
  | .vlanPort, 6 => some (swPort d n).limitHit
  | .vlanPort, 7 => some (swPort d n).movesIn
  | .station, 2 => some (d.st.ways.length + d.st.stash.length)
  | .station, 3 => some d.st.stash.length
  | .station, 4 => some ((d.st.ways ++ d.st.stash).filter fun x => x.2.static_).length
  | .station, 5 => some d.st.relocations
  | .station, 6 => some d.st.learnOverflow
  | .station, 7 => some d.st.learnFull
  | .station, 8 => some d.st.moveBlocked
  | .station, 9 => some d.st.moveDeferred
  | .station, 11 => some (b2n (d.st.flushing != []))
  | .station, 12 => some d.st.eccCorrected
  | .station, 13 => some d.st.eccDouble
  | .station, 14 => some d.st.scrubUs
  | .vlan, 0 => some (sel d s 0x8600 0)
  | .vlan, 1 => some v.members.toNat
  | .vlan, 2 => some v.untagged.toNat
  | .vlan, 3 => some v.flood.toNat
  | .vlan, 4 => some v.fid.toNat
  | .vlan, 5 => some (b2n v.valid)
  | .vlan, 6 => some (b2n v.learn)
  | .vlan, 7 => some v.profile.toNat
  | .vrf, 4 => some (present6 d n)
  | .vrf, 5 => some (tget 0 d.rt.routed n)
  | .routeService, 1 => some (poolFree d 0)
  | .routeService, 2 => some (poolFree d 1)
  | .routeService, 3 => some d.rt.ways6.length
  | .routeService, 4 => some d.rt.recirculated
  | .routeService, 5 => some d.rt.depth
  | .routeService, 6 => some d.rt.fault
  | .routeService, 7 => some (leNat d.rt.lastPunt)
  | .routeService, _ => if 8 ≤ el ∧ el ≤ 13 then some (tget 0 d.rt.causes el) else none
  | .routeCommand, _ => if el ≤ 5 then some (sel d s 0x9600 el) else none
  | .nextHop, 0 => some (sel d s 0x9700 0)
  | .nextHop, 1 => some (leNat (beBytes 6 h.dmac.toNat))
  | .nextHop, 2 => some h.vid.toNat
  | .nextHop, 3 => some h.port.toNat
  | .nextHop, 4 => some (b2n h.valid + 2 * b2n h.drop + 4 * b2n h.keepTtl)
  | _, _ => none

/-- Classifier, policer and tally objects. The rule, policer and pair are those that the session selects. -/
def readTally (d : Dev) (s : Nat) (k : ObjKind) (n el : Nat) : Option Nat :=
  let p := accrue d.now (policerOf d (sel d s 0xA500 0))
  match k, el with
  | .shaping, 36 => some (swPort d n).applied
  | .shaping, 37 => some (d.fab.refills % 2 ^ 32)
  | .classifier, 1 => some (rulesValid d)
  | .classifier, 2 => some d.cls.eccDouble
  | .classifier, 3 => some (sel d s 0xA400 3)
  | .classifier, 4 => some (tget 0 d.cls.rules (sel d s 0xA400 3))
  | .policer, 0 => some (sel d s 0xA500 0)
  | .policer, 1 => some p.rate
  | .policer, 2 => some p.burst
  | .policer, 3 => some (b2n p.enable + 2 * b2n p.wire)
  | .policer, 4 => some (p.tokens / 65536)
  | .portTally, _ => some (counterOf d 1 (32 * n + el))
  | .queueTally, _ => some (counterOf d 2 (32 * n + el))
  | .exports, 9 => some d.fab.exportSeq
  | .exports, 10 => some d.fab.tallyLost
  | .exports, 11 => some d.fab.eccZeroed
  | .pairTally, 0 => some (sel d s 0xB500 0)
  | .pairTally, 1 => some (counterOf d 0 (2 * sel d s 0xB500 0))
  | .pairTally, 2 => some (counterOf d 0 (2 * sel d s 0xB500 0 + 1))
  | _, _ => none

/-- A temperature in 2^-32 °C as Q16.16 (R629). -/
def q16Of (t : Int) : Nat := toTwos 32 (divRound t 65536)

/-- LIMIT_USED of a port: its connector node's limit. -/
def limitUsed (d : Dev) (n : Nat) : Nat := nodeLimit d (portNode n)

/-- Heat, fan and housekeeping objects. -/
def readHeat (d : Dev) (k : ObjKind) (n el : Nat) : Option Nat :=
  let c := cable d n
  let x := fanOf d n
  let r := sensorOf d n
  match k, el with
  | .model, 0 => some (b2n d.heat.fault)
  | .model, 5 => some (toTwos 32 d.heat.headroom)
  | .heatNode, 0 => some (q16Of (d.heat.t.getD n 0))
  | .heatNode, 1 => some (q16Of (d.heat.pred.getD n 0))
  | .heatNode, 2 => some ((d.heat.power.getD n 0 + 500000000) / 10 ^ 9 % 2 ^ 32)
  | .portHeat, 0 => some c.heat.code
  | .portHeat, 1 => some (c.thermCeil.getD 0xFFFFFFFF)
  | .portHeat, 2 => some (c.sinkCeil.getD 0xFFFFFFFF)
  | .portHeat, 3 => some (limitUsed d n)
  | .portHeat, 4 => some c.derateCount
  | .sensor, 0 => some (toTwos 32 r.temp)
  | .sensor, 1 => some (b2n r.failed)
  | .sensor, 2 => some r.cause
  | .sensor, 3 => some (r.count % 2 ^ 32)
  | .critical, 0 => some (b2n d.shep.critical)
  | .critical, 1 => some d.shep.critCount
  | .critical, 2 => some (toTwos 32 d.heat.ptat)
  | .fan, 2 => some x.applied
  | .fan, 3 => some x.appliedPeriod
  | .fan, 4 => some x.period
  | .fan, 5 => some x.rpm
  | .fan, 9 => some (b2n x.stall)
  | .fan, 14 => some (x.fullRpm % 2 ^ 32)
  | .fan, 16 => some x.commState
  | .fan, 17 => some (leNat (x.base.flatMap fun v => leBytes 2 v))
  | .fan, 18 => some (leNat (x.now.flatMap fun v => leBytes 2 v))
  | .fan, 19 => some (x.ageing % 65536)
  | .heartbeat, 2 => some (b2n d.heat.silent)
  | .portRound, 0 => some c.vbus
  | .portRound, 1 => some (toTwos 32 c.ibus)
  | .portRound, 2 => some c.ibusRms
  | .round, 0 => some d.shep.srcIn
  | .round, 1 => some d.heat.vsys
  | .round, 2 => some d.heat.icore
  | .round, 3 => some d.heat.vconnIn
  | .round, 4 => some d.heat.round
  | _, _ => none

/-- Fuse and custody objects. KEY_SLOT, BANK and ADDRESS are the session's. -/
def readOtp (d : Dev) (s : Nat) (k : ObjKind) (el : Nat) : Option Nat :=
  match k, el with
  | .otpStatus, 0 => some d.otp.result
  | .otpStatus, 1 => some d.otp.condFail.toNat
  | .otpStatus, 2 => some (d.otp.corrected % 65536)
  | .otpStatus, 3 => some (d.otp.failed % 65536)
  | .otpStatus, 4 => some (d.otp.suspect % 65536)
  | .otpStatus, 5 => some (d.od.recordSkipped % 65536)
  | .otpStatus, 6 => some (bankFree d .customer)
  | .otpStatus, 7 => some (bankFree d .patch)
  | .otpRecord, 0 => some (sel d s 0xD010 0)
  | .otpRecord, 1 => some 0
  | .otpRecord, 2 => some (sel d s 0xD010 2)
  | .otpRecord, 3 => some (otpReadWord d (sel d s 0xD010 2)).1
  | .otpRecord, 5 => some (tget 0 d.otp.wordEcc s)
  | .otpKeys, 0 => some (sel d s 0xD020 0)
  | .otpKeys, 3 => some (leNat d.otp.keyCheck)
  | .otpKeys, 4 => some (leNat (tget [] d.otp.authPub (sel d s 0xD020 0)))
  | .otpKeys, 5 => some (logical d 2 % 256)
  | .otpKeys, 6 => some (logical d 1 % 4096)
  | .lifecycle, 0 => some d.otp.lifecycle
  | .lifecycle, 2 => some (rollbackCount d)
  | .lifecycle, 4 => some (glitchCount d)
  | .lifecycle, 5 => some (d.otp.glitchSincePor % 65536)
  | .lifecycle, 6 => some (unlockCount d)
  | .lifecycle, 7 => some (debugState d)
  | _, _ => none

/-- The value of an element that plain storage does not hold, by the plane its object belongs to. -/
def readDerived (d : Dev) (s : Nat) (k : ObjKind) (n el : Nat) : Option Nat :=
  match k with
  | .identity | .capability | .strap | .power | .resetBoot | .alarm | .watch => readBase d k el
  | .service | .view | .counters | .bundle | .journal | .proof => readEngine d s k el
  | .cable | .slot | .guard | .profile => readAttach d k n el
  | .contract | .device => readContract d k n el
  | .path | .ledger | .source => readPower d k n el
  | .bus | .node | .channel | .gateway | .map => readNguzo d k n el
  | .time | .sources | .ptp | .pins | .epoch | .staticSlot | .dynamic | .windows => readTime d k n el
  | .port | .class | .buffer | .mirror | .mdio => readPort d k n el
  | .vlanPort | .station | .vlan | .routePort | .vrf | .routeService | .routeCommand | .nextHop => readTables d s k n el
  | .shaping | .classifier | .template | .policer | .portTally | .exports | .pairTally | .queueTally => readTally d s k n el
  | .model | .heatNode | .portHeat | .sensor | .critical | .fan | .heartbeat | .portRound | .round => readHeat d k n el
  | .otpStatus | .otpRecord | .otpKeys | .lifecycle => readOtp d s k el

/-- The value of an element as a number, for a requesting session. -/
def odNat (d : Dev) (s obj el : Nat) : Nat :=
  match objAt obj with
  | some (k, n) => (readDerived d s k n el).getD (cfg d obj el)
  | none => 0

/-- The octets of a value of a type; a STRING ends at its text's end (Table 4-1). -/
def valueOctets (t : Ty) (v : Nat) : List Byte :=
  match t with
  | .string n => (leBytes n v).reverse.dropWhile (· == 0) |>.reverse
  | t => leBytes t.size v

/-- The value of an element in the octets of Table 4-1; none where the element does not exist. -/
def odOctets (d : Dev) (s obj el : Nat) : List Byte :=
  match odElem d obj el with
  | some e => valueOctets e.ty (odNat d s obj el)
  | none => []

/-- Read an element: the status, the value, and the device after it. A READ of WORD leaves its ECC outcome, and ends with
ACCESS where no word can be read (R576, R634). -/
def odRead (d : Dev) (s obj el : Nat) : Nat × List Byte × Dev :=
  if obj = 0xD010 ∧ el = 3 then
    let r := otpReadWord d (sel d s 0xD010 2)
    let d' := onOtp (fun o => { o with wordEcc := tset 0 o.wordEcc s r.2.2 }) d
    if r.2.1 then (stOk, leBytes 4 r.1, d') else (stAccess, [], d)
  else (stOk, odOctets d s obj el, d)

end Sys2Proof.Machine
end

