-- ==== Sys2Proof/Machine/OdCheck.lean ====
section
/-! DEFINITION. What a write must pass before it takes effect (R108, R114, R130, R138, R139 and the rules of the folios'
chapters), and the ranges in force (R630). -/

namespace Sys2Proof.Machine

/-! ### Ranges (R108, R630) -/

/-- Entries of the tally set that an export names (R531). -/
def exportEntries (d : Dev) : Nat := setEntries (cfg d 0xB400 2)

/-- The lowest and highest value in force of an element of an object of a kind. -/
def rangeOf (d : Dev) (s : Nat) (k : ObjKind) (n el : Nat) (e : Elem) : Int × Int :=
  match k, el with
  | .view, 0 => (0, (sessionCount d : Int) - 1)
  | .cable, 2 => if n < 2 then (0, 3) else (3, 3)
  | .epoch, 2 => (0, (cfg d (0x6040 + n) 1 : Int) - 1)
  | .port, 0 => if 13 ≤ n then (1, 1) else (0, 1)
  | .port, 1 => if n < 8 then (0, 0) else if n < 12 then (1, 3) else if n = 12 then (3, 4) else (5, 5)
  | .mdio, 3 => (0, if cfgOn d 0x7430 0 then 65535 else 31)
  | .vlanPort, 3 => (0, if 13 ≤ n then 0 else 1)
  | .routePort, 0 => (0, if 13 ≤ n then 0 else 1)
  | .routeCommand, 3 => (1, if sel d s 0x9600 1 = 0 then 32 else 128)
  | .policer, 0 => (0, (policerCount d : Int) - 1)
  | .exports, 3 => (0, max 0 ((exportEntries d : Int) - cfg d 0xB400 4))
  | .exports, 4 => (1, max 1 ((exportEntries d : Int) - cfg d 0xB400 3))
  | .fan, 12 => (max 2 ((cfg d (fanObj n) 13 : Int) + 1), 100)
  | .fan, 13 => (1, min 99 ((cfg d (fanObj n) 12 : Int) - 1))
  | _, _ => (e.lo, e.hi)

/-- Values between the limits that an element does not take: the gaps before "none" and after "off". -/
def inGap (d : Dev) (k : ObjKind) (el v : Nat) : Bool :=
  match k, el with
  | .bus, 10 => decide (3 < v) && decide (v < 0xFF)
  | .profile, 13 | .pins, 5 | .pins, 6 => decide (15 < v) && decide (v < 0xFF)
  | .port, 15 => decide (31 < v) && decide (v < 0xFF)
  | .vrf, 2 | .vrf, 3 => decide (4095 < v) && decide (v < 0xFFFF)
  | .shaping, _ =>
    if el = 5 then decide (policerCount d ≤ v) && decide (v < 0xFFFF)
    else (el == 16 || (decide (19 ≤ el) && decide (el ≤ 26))) && decide (0 < v) && decide (v < 64)
  | .mirror, 4 => decide (0 < v) && decide (v < 64)
  | .heartbeat, 0 => decide (0 < v) && decide (v < 100)
  | .policer, 1 | .policer, 2 => decide (v < 64)
  | .sources, 0 => decide (3 < v % 16) || decide (3 < v / 16 % 16) || decide (3 < v / 256 % 16)
  | _, _ => false

/-- The number that an encoded value stands for: signed types in two's complement. -/
def valueOf (t : Ty) (v : Nat) : Int :=
  match t with
  | .i16 => ofTwos 16 v
  | .i32 | .q16 => ofTwos 32 v
  | _ => v

/-- Whether a payload of `len` octets is an encoded size of an element (R108). RECORD of 0xD010 takes the octets of one
record, up to its size (log entry 21). -/
def sizeFits (k : ObjKind) (el len : Nat) (t : Ty) : Bool :=
  match t with
  | .string n => decide (len ≤ n)
  | _ => if k == .otpRecord && el == 1 then decide (4 ≤ len) && decide (len ≤ 252) else len == t.size

/-- Whether a value lies in an element's range. No writable element is a STRING, so no text is checked for UTF-8. -/
def inRangeOf (d : Dev) (s : Nat) (k : ObjKind) (n el : Nat) (e : Elem) (v : Nat) : Bool :=
  match e.ty with
  | .octets _ | .string _ | .u64 | .time64 => true
  | .bitset _ => (v &&& e.hi.toNat) == v
  | t =>
    let r := rangeOf d s k n el e
    decide (r.1 ≤ valueOf t v) && decide (valueOf t v ≤ r.2) && !inGap d k el v

/-! ### What a write may not create -/

/-- R317. -/
def busFits (d : Dev) : Bool :=
  let p (el : Nat) := cfg d 0x5000 el
  decide (p 3 * p 4 + p 7 * p 8 + 20 ≤ p 2)
    && decide (2 * p 6 + divUp ((106 + 32 * p 5) * 4) 100 + 1 ≤ p 4)
    && decide (p 9 < p 8)

/-- The windows of port `p`, from the shadow: OPEN and CLOSE of those in use. -/
def windowsOf (d : Dev) (p : Nat) : List (Nat × Nat) :=
  let obj := 0x6400 + 0x40 * p
  (List.range (cfg d obj 0)).map fun n => (cfg d obj (1 + n), cfg d obj (9 + n))

/-- R374: the windows of a port. -/
def windowsFit (d : Dev) (p : Nat) : Bool :=
  let w := windowsOf d p
  (w.all fun x => decide (x.1 + 1000 ≤ x.2) && decide (x.2 ≤ cyclePeriod d))
    && w.zipIdx.all fun x => w.zipIdx.all fun y =>
      decide (y.2 ≤ x.2) || decide (x.1.2 ≤ y.1.1) || decide (y.1.2 ≤ x.1.1)

/-- R374: the dynamic entries: no OWN entry without a channel, no shared frame ID, no shared position on a channel, and no
enabled entry beyond the last minislot. -/
def entriesFit (d : Dev) : Bool :=
  let on_ := (List.range 64).filter fun i => cfgOn d (0x6180 + i) 0
  let get (i el : Nat) := cfg d (0x6180 + i) el
  ((List.range 64).all fun i => get i 4 == 0 || get i 3 != 0)
    && (on_.all fun i => decide (get i 2 < cfg d 0x5000 7))
    && on_.all fun i => on_.all fun j =>
      decide (j ≤ i) || (get i 1 != get j 1 && (get i 2 != get j 2 || (get i 3 &&& get j 3) == 0))

/-- R346: no two enabled gateway entries share a frame ID and a direction. -/
def mapFits (d : Dev) : Bool :=
  let on_ := (List.range 128).filter fun g => cfgOn d (0x5100 + g) 0
  on_.all fun g => on_.all fun h =>
    decide (h ≤ g) || cfg d (0x5100 + g) 1 != cfg d (0x5100 + h) 1 || cfg d (0x5100 + g) 2 != cfg d (0x5100 + h) 2

/-- R387. -/
def buffersFit (d : Dev) : Bool := decide (claimedCells d + 576 + cfg d 0x7410 2 ≤ 12288)

/-- R407. -/
def pauseFits (d : Dev) (p : Nat) : Bool := !(cfgOn d (portObj p) 9) || cfg d (0x6400 + 0x40 * p) 0 == 0

/-- Whether the table DMA engine holds a mordant bit on a route table. -/
def routeLocked (d : Dev) : Bool := d.st.locks.any fun l => decide (tFirst ≤ l.table) && decide (l.table ≤ tHash6)

/-- OK when a condition holds, RANGE otherwise. -/
def need (ok : Bool) : Nat := if ok then stOk else stRange

/-- Elements of 0x5000 and the schedule: `d'` is the dictionary as the write would leave it. -/
def checkSchedule (d d' : Dev) (k : ObjKind) (n el v : Nat) : Nat :=
  match k with
  | .bus =>
    if 2 ≤ el ∧ el ≤ 12 ∧ d.ng.node ≠ .off then stBusy
    else
      need ((!(decide (2 ≤ el) && decide (el ≤ 9)) || busFits d')
        && (el != 2 || (List.range 16).all fun p => !hasPort d p || windowsFit d' p) && (el != 7 || entriesFit d'))
  | .staticSlot =>
    if el = 0 ∧ v = 2 ∧ ¬ hasUnit d 1 then stAbsent
    else need (cfg d' (0x6101 + n) 1 == 0 || cfg d' (0x6101 + n) 0 != 0)
  | .dynamic =>
    if el = 3 ∧ v = 2 ∧ ¬ hasUnit d 1 then stAbsent
    else need (entriesFit d' && (el != 2 || decide (v < cfg d 0x5000 7)))
  | .windows => need (windowsFit d' n && pauseFits d' n)
  | .map => need (mapFits d')
  | .time => if el = 6 ∧ d.tm.source.isSome then stBusy else stOk
  | .epoch =>
    if el = 2 ∧ cfgOn d (0x6040 + n) 0 then stBusy
    else need (el != 1 || cfgOn d (0x6040 + n) 0 || decide (cfg d (0x6040 + n) 2 < v))
  | _ => stOk

/-- Elements of the switch's folios. -/
def checkSwitch (d d' : Dev) (s : Nat) (k : ObjKind) (n el v : Nat) : Nat :=
  match k with
  | .port =>
    let fold := decide (17 ≤ el) && decide (el ≤ 24)
    need ((!(fold || el == 8 || el == 12) || buffersFit d')
      && (!(el == 10 || el == 11) || decide (cfg d' (portObj n) 11 < cfg d' (portObj n) 10))
      && (el != 9 || pauseFits d' n))
  | .mirror => if el = 3 ∧ ¬ hasPort d v then stAbsent else stOk
  | .vrf => need (el != 1 || v != leNat (baseMac d))
  | .routeService =>
    if el = 0 ∧ v ≠ cfg d 0x9500 0 then
      (if d.rt.running.isSome then stBusy else if routeLocked d then stLocked else stOk)
    else stOk
  | .routeCommand =>
    if el = 1 ∧ v = 1 ∧ ¬ hasUnit d 3 then stAbsent
    else if el ≠ 6 then stOk
    else if cfgOn d 0x9500 0 then stRange
    else if d.rt.running.isSome then stBusy
    else
      let len := sel d s 0x9600 3
      need (decide (1 ≤ len) && decide (len ≤ if sel d s 0x9600 1 = 0 then 32 else 128))
  | .nextHop => if el = 3 ∧ ¬ hasPort d v then stAbsent else stOk
  | .classifier => need (el != 4 || ruleInRange d v)
  | .exports => need (!(el == 2 || el == 3 || el == 4) || decide (cfg d' 0xB400 3 + cfg d' 0xB400 4 ≤ exportEntries d'))
  | _ => stOk

/-- Elements of the other folios. -/
def checkOther (d d' : Dev) (k : ObjKind) (n el v : Nat) : Nat :=
  match k with
  | .cable => need (el != 3 || decide ((if v = 0 then 500 else if v = 1 then 1500 else 3000) * 5 ≤ preId d))
  | .model => need (!(el == 8 || el == 9) || networkStable d')
  | .heatNode => need (!(decide (3 ≤ el) && decide (el ≤ 5)) || networkStable d')
  | .fan => need (el != 15 || v != 2 || (fanOf d n).base != [])
  | .lifecycle => need (el != 3 || decide (v ≤ d.boot.rollback))
  | _ => stOk

/-- The checks beyond type and range. -/
def writeCheck (d : Dev) (s : Nat) (k : ObjKind) (n obj el v : Nat) : Nat :=
  let d' := setCfg obj el v d
  match k with
  | .bus | .staticSlot | .dynamic | .windows | .map | .time | .epoch => checkSchedule d d' k n el v
  | .port | .mirror | .vrf | .routeService | .routeCommand | .nextHop | .classifier | .exports => checkSwitch d d' s k n el v
  | .cable | .model | .heatNode | .fan | .lifecycle => checkOther d d' k n el v
  | _ => stOk

/-! ### The range that a descriptor gives (R630) -/

/-- Whether the checks of a write take a value of an element, whatever keeps the answer BUSY now. -/
def takesValue (d : Dev) (s : Nat) (k : ObjKind) (n obj el : Nat) (t : Ty) (v : Int) : Bool :=
  let idle := onTm (fun t => { t with source := none }) (onNg (fun n => { n with node := .off }) d)
  writeCheck idle s k n obj el (toTwos (8 * t.size) v) != stRange

/-- The last value towards `bad` that `p` takes, from a value it takes: the values taken make one interval. -/
def lastTaken (p : Int → Bool) : Nat → Int → Int → Int
  | 0, good, _ => good
  | f + 1, good, bad =>
    if (bad - good).natAbs ≤ 1 then good
    else
      let m := (good + bad) / 2
      if p m then lastTaken p f m bad else lastTaken p f good m

/-- The lowest and highest value that an element accepts or reports as the other elements stand. A POSITION is bounded by the
minislots alone, because a position that another entry holds is a gap; FLUSH_FID reports 0xFFFF. -/
def rangeInForce (d : Dev) (s : Nat) (k : ObjKind) (n obj el : Nat) (e : Elem) : Int × Int :=
  let r := rangeOf d s k n el e
  let p := takesValue d s k n obj el e.ty
  let here := valueOf e.ty (odNat d s obj el)
  match k, el with
  | .station, 10 => (r.1, 0xFFFF)
  | .dynamic, 2 => (r.1, min r.2 ((cfg d 0x5000 7 : Int) - 1))
  | .dynamic, 1 | .map, _ => r
  | _, _ =>
    if e.wr = 255 ∨ ¬ p here ∨ here < r.1 ∨ r.2 < here then r
    else (if p r.1 then r.1 else lastTaken p 33 here r.1, if p r.2 then r.2 else lastTaken p 33 here r.2)

/-! ### Who may, and when the answer is BUSY -/

/-- The port whose objects a kind's instance belongs to, if it repeats per port. -/
def isPortKind (k : ObjKind) : Bool :=
  match k with
  | .cable | .contract | .path | .portHeat | .portRound | .windows | .port | .vlanPort | .routePort | .shaping | .portTally
  | .queueTally => true
  | _ => false

/-- R138: an object of a port in PORT reset, the switch's folios during a FAB reset, and writes to folio 0xD during a burn. -/
def odBusy (d : Dev) (obj : Nat) (write : Bool) : Bool :=
  let folio := obj / 4096
  (match objAt obj with
    | some (k, n) => isPortKind k && decide (n < 8) && (cable d n).resetting
    | none => false)
    || (d.fab.resetting && (folio == 7 || folio == 8 || folio == 10 || folio == 11))
    || (write && folio == 13 && d.otp.burn.isSome)

/-- Whether a session's role reads an element (R114); HALT serves Observer reads (Table 3-9). -/
def mayRead (d : Dev) (r : Role) (e : Elem) : Bool :=
  decide (e.rd ≤ r.code) && (d.boot.stage != .halt || e.rd == 0)

/-- Whether a session's role writes an element (R114); HALT takes writes to folio 0xD only; session 0 scraps a RETURNED
device without a proof (Table 16-8). -/
def mayWrite (d : Dev) (s : Nat) (r : Role) (k : ObjKind) (obj el : Nat) (e : Elem) : Bool :=
  (decide (e.wr ≤ r.code) || (k == .lifecycle && el == 1 && s == 0 && d.otp.lifecycle == 3))
    && (d.boot.stage != .halt || obj / 4096 == 13)

/-- The status a write of `payload` has before it takes effect: existence, absence, role, type, range, then the element's own
checks, in that order (R130). -/
def odVerify (d : Dev) (s : Nat) (r : Role) (obj el : Nat) (payload : List Byte) : Nat :=
  if odBusy d obj true then stBusy
  else if odStatus d obj el ≠ exOk then odStatus d obj el
  else
    match objAt obj, odElem d obj el with
    | some (k, n), some e =>
      if !mayWrite d s r k obj el e then stAccess
      else if !sizeFits k el payload.length e.ty then stType
      else if !inRangeOf d s k n el e (leNat payload) then stRange
      else writeCheck d s k n obj el (leNat payload)
    | _, _ => stNoObject

/-- Whether an element can be served: BUSY, or whether it exists. -/
def odThere (d : Dev) (obj el : Nat) : Nat := if odBusy d obj false then stBusy else odStatus d obj el

/-- The status of a read, or of a subscription to an element. -/
def odMayRead (d : Dev) (r : Role) (obj el : Nat) : Nat :=
  if odThere d obj el ≠ exOk then odThere d obj el
  else
    match odElem d obj el with
    | some e => if mayRead d r e then stOk else stAccess
    | none => stNoElement

end Sys2Proof.Machine
end

