-- ==== Sys2Proof/Machine/Flags.lean ====
section
/-! DEFINITION. What follows from the state after every command, in the same MGT tick: the condition alarms (R633, Table 4-15),
the changes that subscriptions see (R142), and the summary bit of IRQ_STATUS (Table 5-11). -/

namespace Sys2Proof.Machine

/-- The condition alarms of Table 4-15 that hold, each at its bit. -/
def condAlarms (d : Dev) : Nat :=
  let cableIs (p : Cable → Bool) : Bool := d.cables.any fun x => p x.2
  let clamped (c : Chan) : Bool := c.state == .clamped || c.state == .recovering
  b2n d.otp.integrity
    + 2 ^ 1 * b2n (d.aon.floating != 0)
    + 2 ^ 3 * b2n (d.od.journalState == 2)
    + 2 ^ 4 * b2n d.od.lockout
    + 2 ^ 8 * b2n (cableIs fun c => c.typec == .ccShort)
    + 2 ^ 9 * b2n (cableIs fun c => c.path == .faultShort || (c.path == .latched && c.ladder.short))
    + 2 ^ 11 * b2n (cableIs fun c => c.guard == .wet)
    + 2 ^ 12 * b2n (d.slots.any fun x => x.2.state == 4)
    + 2 ^ 13 * b2n (clamped d.ng.chA || clamped d.ng.chB)
    + 2 ^ 14 * b2n (d.tm.state == .holdover)
    + 2 ^ 15 * b2n (d.heat.sensors.any fun x => x.2.failed)
    + 2 ^ 16 * b2n ((cableIs fun c => c.thermCeil.isSome || c.sinkCeil.isSome) || d.shep.critical || d.heat.fault)
    + 2 ^ 17 * b2n (d.heat.fans.any fun x => x.2.stall)
    + 2 ^ 21 * b2n d.aon.xtalFail

/-- ACTIVE follows the conditions while the engine runs; a rise sets LATCHED and IRQ_STATUS.ALARM (R633). -/
def settleAlarms (d : Dev) : Dev :=
  if !odServes d then d
  else
    let a := BitVec.ofNat 64 (condAlarms d)
    let rise := a &&& ~~~d.od.alarmActive
    let d := onOd (fun o => { o with alarmActive := a, alarmLatched := o.alarmLatched ||| rise }) d
    if rise = 0 then d else raiseIrq 7 d

/-- A subscription sees the value its element has now; a second change before the notification merges (R142). -/
def settleSub (d : Dev) (x : Sub) : Sub :=
  let v := odOctets d x.sess x.object x.element
  if x.periodic || v == x.seen then x else { x with seen := v, merged := x.merged || x.changed, changed := true }

/-- Every subscription sees its element's value. -/
def settleSubs (d : Dev) : Dev := if odServes d then onOd (fun o => { o with subs := o.subs.map (settleSub d) }) d else d

/-- IRQ_STATUS.PORT is the OR of the enabled bits of IRQ_PORT (Table 5-11). -/
def settleIrq (d : Dev) : Dev :=
  onHw (fun h =>
    { h with irqStatus := (h.irqStatus &&& 0x2FF) ||| (if h.irqPort &&& h.irqPortEn = 0 then 0 else 0x100) }) d

/-- All that follows from the state after a command. -/
def settle (d : Dev) : Dev := settleIrq (settleSubs (settleAlarms d))

/-- A new tick: the emissions and the event alarms of the command before are gone (R633). -/
def newTick (d : Dev) : Dev := endEvents { d with out := [] }

/-- Run a command's effect in a new tick: the queue is not touched, and what follows from the new state settles. -/
def run (f : Dev → Dev) (s : State) : Host.Outcome State Fault Refusal :=
  .next { s with dev := settle (f (newTick s.dev)) }

end Sys2Proof.Machine
end

