-- ==== Sys2Proof/Machine/Journal.lean ====
section
/-! DEFINITION. The persistence journal in boot flash: records, groups, compaction and its failures (Table 4-10, R147-R155,
R632). -/

namespace Sys2Proof.Machine

/-- The flash offset of keep sector 0 or 1. -/
def sectorBase (i : Nat) : Nat := if i = 0 then 0x110000 else 0x120000

/-- One record: kind, element, object, value and serial, with its CRC (Table 4-10). -/
def recordOctets (kind el obj serial : Nat) (value : List Byte) : List Byte :=
  let body := leBytes 1 kind ++ leBytes 1 el ++ leBytes 2 obj ++ leBytes 1 value.length ++ leBytes 3 serial ++ value
    ++ List.replicate ((4 - value.length % 4) % 4) 0
  body ++ leBytes 4 (crc32c body).toNat

/-- A VALUE record for each value, with rising serials. -/
def valueRecords : List (Nat × Nat × List Byte) → Nat → List Byte
  | [], _ => []
  | (obj, el, v) :: l, serial => recordOctets 1 el obj serial v ++ valueRecords l (serial + 1)

/-- The octets of a journal item: one VALUE record, or a BEGIN, VALUE, END group (R148). -/
def itemOctets (j : JournalItem) (serial : Nat) : List Byte :=
  let n := j.values.length
  if j.group then recordOctets 2 n 0 serial [] ++ valueRecords j.values (serial + 1) ++ recordOctets 3 n 0 (serial + n + 1) []
  else valueRecords j.values serial

/-- How many serials an item takes. -/
def itemSerials (j : JournalItem) : Nat := j.values.length + (if j.group then 2 else 0)

/-- The octets of all pending items. -/
def pendingOctets : List JournalItem → Nat → List Byte
  | [], _ => []
  | j :: l, serial => itemOctets j serial ++ pendingOctets l (serial + itemSerials j)

/-- The current value of every persistent element that differs from its default (R149). -/
def persistentValues (d : Dev) : List (Nat × Nat × List Byte) :=
  d.od.cfg.filterMap fun (k, v) =>
    let obj := k / 256
    let el := k % 256
    match odElem d obj el with
    | some e => if bit (odFlags obj el e) 0 then some (obj, el, leBytes e.ty.size v) else none
    | none => none

/-- A sector header of a generation (Table 4-10). -/
def sectorHeader (generation : Nat) : List Byte :=
  let h := leBytes 4 0x4B505A4A ++ leBytes 4 generation ++ leBytes 4 1
  h ++ leBytes 4 (crc32c h).toNat

/-- Erase a 64 KiB sector. -/
def eraseSector (base : Nat) (m : Mem) : Mem := m.filter fun c => decide (c.1 < base) || decide (base + 65536 ≤ c.1)

/-- Journaling stops with a fault: values stay only in the device (R154). `lastCompact` is one more than the time of the
last compaction attempt under the fault, 0 when none was made. -/
def journalFault (attempt : Bool) (d : Dev) : Dev :=
  disarm .journal (onOd (fun o =>
    { o with journalState := 2, pendingJournal := [], lastCompact := if attempt then d.now + 1 else 0 }) d)

/-- Compaction (R149): the other sector is erased, takes every non-default persistent value, then its header, and only then
is the old sector erased. Values that do not fit fail it, and so does a flash without its bank (R32). -/
def compact (d : Dev) : Dev :=
  let o := d.od
  let other := 1 - o.sector
  let base := sectorBase other
  let vals := persistentValues d
  let body := valueRecords vals o.serial
  if 65536 < 16 + body.length ∨ d.aon.bankF = false then journalFault true d
  else
    let generation := o.generation + 1
    let m := eraseSector base d.flash
    let m := writeBytes erased m (base + 16) body
    let m := writeBytes erased m base (sectorHeader generation)
    let m := eraseSector (sectorBase o.sector) m
    disarm .journal (onOd (fun o =>
      { o with journalState := 0, generation := generation, sector := other, fill := 16 + body.length,
               serial := (o.serial + vals.length) % 2 ^ 24, pendingJournal := [], unclean := false, lastCompact := 0 })
      { d with flash := m })

/-- Format a fresh keep area: sector 0x0011_0000 with GENERATION 1 (R155); without its bank the flash takes nothing (R32,
R154). -/
def formatKeep (d : Dev) : Dev :=
  if d.aon.bankF = false then journalFault false d
  else
  let m := writeBytes erased (eraseSector (sectorBase 0) d.flash) (sectorBase 0) (sectorHeader 1)
  onOd (fun o => { o with generation := 1, sector := 0, fill := 16, unclean := false }) { d with flash := m }

/-- Append the pending items to the active sector; past 49,152 bytes, or when replay did not end clean, compact (R148, R149,
R632). -/
def appendPending (d : Dev) : Dev :=
  let o := d.od
  let body := pendingOctets o.pendingJournal o.serial
  if d.aon.bankF = false then journalFault false d
  else if o.unclean ∨ 65536 < o.fill + body.length then compact d
  else
    let m := writeBytes erased d.flash (sectorBase o.sector + o.fill) body
    let n := (o.pendingJournal.map itemSerials).sum
    let d := emit (.journal body) { d with flash := m }
    let d := disarm .journal (onOd (fun o =>
      { o with fill := o.fill + body.length, serial := (o.serial + n) % 2 ^ 24, pendingJournal := [] }) d)
    if 49152 < d.od.fill then compact d else d

/-- Whether a compaction attempt is not yet allowed under a fault: one was made less than 60 s ago (R154). -/
def attemptWaits (d : Dev) : Bool :=
  d.od.journalState == 2 && d.od.lastCompact != 0 && decide (d.now + 1 < d.od.lastCompact + 60 * sec)

/-- A persistent change is noted for the journal: its record follows within 100 ms (R148). Under a fault journaling has
stopped, and a change starts a compaction attempt when none was made in the last 60 s (R154). -/
def noteChange (item : JournalItem) (d : Dev) : Dev :=
  let note (d : Dev) : Dev := onOd (fun o => { o with pendingJournal := o.pendingJournal ++ [item] }) d
  if armed .journal d then note d else if attemptWaits d then d else arm .journal (100 * ms) (note d)

/-- What waits for the journal is written at once (R74, R153): under a fault a compaction takes its place (R154). -/
def flushJournal (d : Dev) : Dev :=
  if d.od.pendingJournal = [] then d else if d.od.journalState = 2 then compact d else appendPending d

/-- The journal's work falls due: an append, or under a fault a compaction attempt; a program or erase that fails raises the
fault (R148, R154). -/
def journalWork (programmed : Bool) (d : Dev) : Dev :=
  if d.od.pendingJournal = [] ∨ !armed .journal d then d
  else if !programmed then journalFault (d.od.journalState == 2) d
  else flushJournal d

end Sys2Proof.Machine
end

