-- ==== Sys2Proof/Machine/Tdma.lean ====
section
/-! DEFINITION. The table DMA engine: descriptors, records, commands and their statuses (Tables 5-4 to 5-7, R7, R8, R10,
R177-R184, R192, R436, R443, R449, R467, R468, R480, R484-R488, R491, R493, R512, R516). -/

namespace Sys2Proof.Machine

/-! ### Descriptors -/

/-- A little-endian field of the staging area. -/
def stagingField (d : Dev) (a n : Nat) : Nat := leNat (readBytes 0 d.hw.staging (a % 65536) n)

/-- The descriptor at TDMA_HEAD. -/
def headDesc (d : Dev) : Desc :=
  let a := (d.hw.ringBase.toNat + 32 * d.hw.tdmaHead.toNat) % 65536
  { at_ := a, cmd := stagingField d a 1, table := stagingField d (a + 1) 1, flags := stagingField d (a + 2) 2,
    index := stagingField d (a + 4) 4, count := stagingField d (a + 8) 2, lockMs := stagingField d (a + 10) 2,
    data := stagingField d (a + 12) 4 }

/-- Commands (Table 5-5). -/
def cRead : Nat := 1
@[inherit_doc cRead] def cWrite : Nat := 2
@[inherit_doc cRead] def cInsert : Nat := 3
@[inherit_doc cRead] def cDelete : Nat := 4
@[inherit_doc cRead] def cSearch : Nat := 5
@[inherit_doc cRead] def cLock : Nat := 6
@[inherit_doc cRead] def cUnlock : Nat := 7

/-- Descriptor statuses (Table 5-7). -/
def dOk : Nat := 0x00
@[inherit_doc dOk] def dRange : Nat := 0x14
@[inherit_doc dOk] def dAbsent : Nat := 0x16
@[inherit_doc dOk] def dExists : Nat := 0x40
@[inherit_doc dOk] def dNotFound : Nat := 0x41
@[inherit_doc dOk] def dFull : Nat := 0x42
@[inherit_doc dOk] def dLockFull : Nat := 0x43
@[inherit_doc dOk] def dNotLocked : Nat := 0x44
@[inherit_doc dOk] def dBadCmd : Nat := 0x45
@[inherit_doc dOk] def dAborted : Nat := 0x46
@[inherit_doc dOk] def dPoisoned : Nat := 0x47

/-- Whether Table 5-6 lists a table. -/
def tableKnown (t : Nat) : Bool :=
  [tStation, tStash, tVlan, tFlock, tFirst, tPool0, tPool1, tHash6, tBloom, tNextHop, tRule, tPolicer].contains t

/-- Whether a table belongs to an absent unit (R7). -/
def tableAbsent (d : Dev) (t : Nat) : Bool :=
  ([tFirst, tPool0, tPool1, tNextHop].contains t && !hasUnit d 2) || ([tHash6, tBloom].contains t && !hasUnit d 3)

/-- Whether a command is allowed on a table (Table 5-6). -/
def cmdAllowed (t c : Nat) : Bool :=
  if t = tStation ∨ t = tHash6 then decide (1 ≤ c) && decide (c ≤ 7)
  else if t = tStash ∨ t = tFirst ∨ t = tPool0 ∨ t = tPool1 then c == cRead || c == cWrite || c == cLock || c == cUnlock
  else c == cRead || c == cWrite

/-- The route tables, edited through the OD while EDITOR is OD (R493). -/
def routeTable (t : Nat) : Bool := [tFirst, tPool0, tPool1, tHash6, tBloom].contains t

/-- Entries a table holds, in its index unit. -/
def tableCapacity (d : Dev) (t : Nat) : Nat :=
  if t = tStation then 2 * halfBuckets d
  else if t = tStash then 1
  else if t = tVlan ∨ t = tFlock ∨ t = tNextHop then 4096
  else if t = tFirst then 65536
  else if t = tBloom then 32
  else if t = tPolicer then policerCount d
  else 1024

/-- Octets of a record: an entry record for INSERT, DELETE and SEARCH, otherwise the table's record. -/
def recordSize (t c : Nat) : Nat :=
  let keyed := c = cInsert ∨ c = cDelete ∨ c = cSearch
  if t = tStation then if keyed then 16 else 64
  else if t = tStash then 512
  else if t = tVlan ∨ t = tPolicer then 16
  else if t = tFlock then 8
  else if t = tFirst then 4
  else if t = tPool0 ∨ t = tPool1 then 1024
  else if t = tHash6 then if keyed then 32 else 128
  else if t = tBloom then 512
  else if t = tNextHop then 32
  else 96

/-- Record `i` of a descriptor, from staging. -/
def recordAt (d : Dev) (q : Desc) (i : Nat) : List Byte :=
  readBytes 0 d.hw.staging (q.data + i * recordSize q.table q.cmd) (recordSize q.table q.cmd)

/-- Put octets into staging. -/
def stage (a : Nat) (o : List Byte) (d : Dev) : Dev := onHw (fun h => { h with staging := writeBytes 0 h.staging a o }) d

/-! ### Records -/

/-- A field of a record. -/
def recField (o : List Byte) (off n : Nat) : Nat := leNat ((o.drop off).take n)

/-- A station entry record (Table 12-1); none when VALID is 0. -/
def readStation (o : List Byte) : Station :=
  let f := recField o 8 1
  let flock := bit f 2
  { mac := BitVec.ofNat 48 (beNat (o.take 6)), fid := BitVec.ofNat 12 (recField o 6 2), static_ := bit f 1, flock := flock,
    age := BitVec.ofNat 3 (f / 32),
    dest := BitVec.ofNat 12 (if flock then recField o 10 2 else recField o 10 2 % 16) }
@[inherit_doc readStation] def stationRecord : Option Station → List Byte
  | none => List.replicate 16 0
  | some e =>
    beBytes 6 e.mac.toNat ++ leBytes 2 e.fid.toNat
      ++ leBytes 1 (1 + 2 * b2n e.static_ + 4 * b2n e.flock + 32 * e.age.toNat) ++ leBytes 1 0 ++ leBytes 2 e.dest.toNat
      ++ leBytes 4 0

/-- Whether a station record names an absent port as its single destination (R467). -/
def stationAbsent (d : Dev) (o : List Byte) : Bool :=
  let e := readStation o
  !e.flock && !hasPort d e.dest.toNat

/-- A VLAN entry record (Table 12-2). -/
def vlanRecord (v : Vlan) : List Byte :=
  leBytes 2 v.members.toNat ++ leBytes 2 v.untagged.toNat ++ leBytes 2 v.flood.toNat ++ leBytes 2 v.fid.toNat
    ++ leBytes 2 v.profile.toNat ++ leBytes 1 (b2n v.valid + 2 * b2n v.learn) ++ leBytes 5 0

/-- A flock record (R449). -/
def flockRecord (f : Flock) : List Byte := leBytes 2 f.members.toNat ++ leBytes 1 (b2n f.valid) ++ leBytes 5 0

/-- An IPv6 entry record (Table 13-2). -/
def readV6 (o : List Byte) : V6Entry :=
  let len := recField o 16 1
  { prefix_ := BitVec.ofNat 128 (maskTo (beNat (o.take 16)) len), length := len, vrf := recField o 17 1 / 2 % 4,
    nextHop := BitVec.ofNat 12 (recField o 18 2) }
@[inherit_doc readV6] def v6Record : Option V6Entry → List Byte
  | none => List.replicate 32 0
  | some e =>
    beBytes 16 e.prefix_.toNat ++ leBytes 1 e.length ++ leBytes 1 (1 + 2 * e.vrf) ++ leBytes 2 e.nextHop.toNat ++ leBytes 12 0

/-- A next-hop record (Table 13-3). -/
def hopRecord (h : NextHop) : List Byte :=
  beBytes 6 h.dmac.toNat ++ leBytes 2 h.vid.toNat ++ leBytes 1 h.port.toNat
    ++ leBytes 1 (b2n h.valid + 2 * b2n h.drop + 4 * b2n h.keepTtl) ++ leBytes 22 0
@[inherit_doc hopRecord] def readHop (o : List Byte) : NextHop :=
  let f := recField o 9 1
  { dmac := BitVec.ofNat 48 (beNat (o.take 6)), vid := BitVec.ofNat 12 (recField o 6 2), port := BitVec.ofNat 4 (recField o 8 1),
    valid := bit f 0, drop := bit f 1, keepTtl := bit f 2 }

/-- A poisoned entry reads as zeros (R182). -/
def unlessPoisoned (d : Dev) (t i : Nat) (o : List Byte) : List Byte := if poisoned d t i then o.map fun _ => 0 else o

/-- The record of an index, and whether an entry in it is poisoned. -/
def readRecord (d : Dev) (t i : Nat) : List Byte × Bool :=
  let four := [4 * i, 4 * i + 1, 4 * i + 2, 4 * i + 3]
  let node := (List.range 256).map fun e => 256 * i + e
  let stash := List.range 32
  let each (l : List Nat) (f : Nat → List Byte) : List Byte × Bool :=
    (l.flatMap fun k => unlessPoisoned d t k (f k), l.any fun k => poisoned d t k)
  if t = tStation then each four fun k => stationRecord (tfind d.st.ways k)
  else if t = tStash then each stash fun k => stationRecord (tfind d.st.stash k)
  else if t = tVlan then each [i] fun k => vlanRecord (vlanOf d k)
  else if t = tFlock then each [i] fun k => flockRecord (flockOf d k)
  else if t = tFirst then each [i] fun k => leBytes 4 (tget 0 d.rt.first k).toNat
  else if t = tPool0 then each node fun k => leBytes 4 (tget 0 d.rt.pool0 k).toNat
  else if t = tPool1 then each node fun k => leBytes 4 (tget 0 d.rt.pool1 k).toNat
  else if t = tHash6 then each four fun k => v6Record (tfind d.rt.ways6 k)
  else if t = tBloom then
    each [i] fun k => (List.range 512).map fun b => BitVec.ofNat 8 ((List.range 8).foldl (fun acc j =>
      acc + (if bloomGet d k (8 * b + j) then 2 ^ j else 0)) 0)
  else if t = tNextHop then each [i] fun k => hopRecord (hopOf d k)
  else if t = tRule then each [i] fun k => leBytes 96 (tget 0 d.cls.rules k)
  else each [i] fun k => policerOctets d k

/-- Pieces of `n` octets. -/
def pieces (n k : Nat) (o : List Byte) : List (List Byte) := (List.range k).map fun i => (o.drop (n * i)).take n

/-- Write one way of the station table or the stash from an entry record. -/
def writeStationRec (loc : Nat) (o : List Byte) (d : Dev) : Dev :=
  if bit (recField o 8 1) 0 then putStation loc (readStation o) d else dropStation loc d

/-- Write one IPv6 way, keeping counts and filters (R487). -/
def writeV6Rec (way : Nat) (o : List Byte) (d : Dev) : Dev :=
  let d := drop6 way d
  if bit (recField o 17 1) 0 then put6 way (readV6 o) d else d

/-- Write a Bloom filter: the written bits ORed with those of every valid entry of its VRF and group (R488). -/
def writeBloom (i : Nat) (o : List Byte) (d : Dev) : Dev :=
  let set_ := (List.range 4096).filter fun b => bit (recField o (b / 8) 1) (b % 8)
  let keep := (d.rt.ways6.filter fun x => bloomFilter x.2.vrf x.2.length == i).flatMap fun x =>
    bloomBits x.2.vrf x.2.length x.2.prefix_.toNat
  let d := onRt (fun r => { r with bloom := r.bloom.filter fun x => x.1 / 4096 != i }) d
  bloomSet i (set_ ++ keep) d

/-- Write record `o` at index `i`: the status of that record (R10, R181, R467). -/
def writeRecord (t i : Nat) (o : List Byte) (d : Dev) : Nat × Dev :=
  let named (n : Nat) : Bool := (pieces 16 n o).any fun r => bit (recField r 8 1) 0 && stationAbsent d r
  let words (f : Nat → Nat) (n : Nat) : List (Nat × Word) := (List.range n).map fun e => (f e, BitVec.ofNat 32 (recField o (4 * e) 4))
  if t = tStation then
    if !isLocked d t i then (dNotLocked, d)
    else if named 4 then (dAbsent, d)
    else (dOk, ((pieces 16 4 o).zip [0, 1, 2, 3]).foldl (fun d x => writeStationRec (4 * i + x.2) x.1 d) d)
  else if t = tStash then
    if !isLocked d t i then (dNotLocked, d)
    else if named 32 then (dAbsent, d)
    else (dOk, ((pieces 16 32 o).zip (List.range 32)).foldl (fun d x => writeStationRec (0x10000 + x.2) x.1 d) d)
  else if t = tVlan then
    (dOk, writeVlan i (recField o 0 2) (recField o 2 2) (recField o 4 2) (recField o 6 2) (bit (recField o 10 1) 0)
      (bit (recField o 10 1) 1) d)
  else if t = tFlock then
    (dOk, unpoison t i (onSt (fun s => { s with flocks := (tset Flock.zero s.flocks i
      ⟨BitVec.ofNat 16 (recField o 0 2) &&& present d, bit (recField o 2 1) 0⟩) }) d))
  else if t = tFirst then
    (dOk, unpoison t i (onRt (fun r => { r with first := tset 0 r.first i (BitVec.ofNat 32 (recField o 0 4)) }) d))
  else if t = tPool0 then
    (dOk, (words (fun e => 256 * i + e) 256).foldl (fun d x =>
      unpoison t x.1 (onRt (fun r => { r with pool0 := tset 0 r.pool0 x.1 x.2 }) d)) d)
  else if t = tPool1 then
    (dOk, (words (fun e => 256 * i + e) 256).foldl (fun d x =>
      unpoison t x.1 (onRt (fun r => { r with pool1 := tset 0 r.pool1 x.1 x.2 }) d)) d)
  else if t = tHash6 then
    if !isLocked d t i then (dNotLocked, d)
    else (dOk, ((pieces 32 4 o).zip [0, 1, 2, 3]).foldl (fun d x => writeV6Rec (4 * i + x.2) x.1 d) d)
  else if t = tBloom then (dOk, writeBloom i o d)
  else if t = tNextHop then
    (dOk, setHop i (fun _ => readHop o) d)
  else if t = tRule then (dOk, writeRule i (leNat o) d)
  else (dOk, writePolicer i (recField o 0 4) (recField o 4 4) (recField o 8 1) (recField o 12 4) d)

/-! ### Checks before any record is touched (R8, R177, R484, R512) -/

/-- Whether the contents of the records are in range. -/
def recordsInRange (d : Dev) (q : Desc) : Bool :=
  let recs := (List.range q.count).map fun i => recordAt d q i
  let keyed := q.cmd = cInsert ∨ q.cmd = cDelete ∨ q.cmd = cSearch
  let lenOk (o : List Byte) : Bool := decide (1 ≤ recField o 16 1) && decide (recField o 16 1 ≤ 128)
  if q.table = tHash6 ∧ keyed then recs.all lenOk
  else if q.table = tHash6 ∧ q.cmd = cWrite then
    recs.all fun o => (pieces 32 4 o).all fun r => !bit (recField r 17 1) 0 || lenOk r
  else if q.table = tRule ∧ q.cmd = cWrite then recs.all fun o => ruleInRange d (leNat o)
  else if q.table = tNextHop ∧ q.cmd = cWrite then recs.all fun o => decide (recField o 8 1 % 16 ≤ 13)
  else if q.table = tPolicer ∧ q.cmd = cWrite then
    recs.all fun o =>
      let off := recField o 0 4 = 0 ∧ recField o 4 4 = 0 ∧ !bit (recField o 8 1) 0
      decide off || (decide (64 ≤ recField o 0 4) && decide (recField o 0 4 ≤ 2500000) && decide (64 ≤ recField o 4 4)
        && decide (recField o 4 4 ≤ 16777215))
  else true

/-- Whether a next-hop record of the descriptor names an absent port (R10, R491). -/
def namesAbsentHop (d : Dev) (q : Desc) : Bool :=
  q.table == tNextHop && q.cmd == cWrite
    && (List.range q.count).any fun i => !hasPort d (recField (recordAt d q i) 8 1 % 16)

/-- The status that refuses a descriptor before any record is touched (R177); OK when it may run. RANGE stands before the ABSENT
of a next hop's port, and that of the table before both (log entry 33). -/
def descCheck (d : Dev) (q : Desc) : Nat :=
  let keyed := q.cmd = cInsert ∨ q.cmd = cDelete ∨ q.cmd = cSearch
  let moves := q.cmd ≠ cLock ∧ q.cmd ≠ cUnlock
  if !tableKnown q.table || q.cmd = 0 || decide (7 < q.cmd) then dBadCmd
  else if tableAbsent d q.table then dAbsent
  else if !cmdAllowed q.table q.cmd then dBadCmd
  else if routeTable q.table && cfg d 0x9500 0 == 0 && q.cmd != cRead && q.cmd != cSearch then dBadCmd
  else if q.count = 0 ∨ 1024 < q.count then dRange
  else if ¬keyed ∧ tableCapacity d q.table < q.index + q.count then dRange
  else if q.cmd = cLock ∧ (q.lockMs = 0 ∨ 1000 < q.lockMs) then dRange
  else if moves ∧ (q.data % 4 ≠ 0 ∨ 65536 < q.data + q.count * recordSize q.table q.cmd) then dRange
  else if !recordsInRange d q then dRange
  else if namesAbsentHop d q then dAbsent
  else dOk

/-! ### Running a descriptor -/

/-- Run record `i`: its status, the location a SEARCH or INSERT reports, and the device after. -/
def runRecord (q : Desc) (i : Nat) (d : Dev) : Nat × Nat × Dev :=
  let t := q.table
  let o := recordAt d q i
  let at_ := q.data + i * recordSize t q.cmd
  if q.cmd = cRead then
    let r := readRecord d t (q.index + i)
    (if r.2 then dPoisoned else dOk, 0, stage at_ r.1 d)
  else if q.cmd = cWrite then
    let r := writeRecord t (q.index + i) o d
    (r.1, 0, r.2)
  else if q.cmd = cLock then
    let r := lock t (q.index + i) q.lockMs d
    (if r.1 then dOk else dLockFull, 0, r.2)
  else if q.cmd = cUnlock then (dOk, 0, unlock t (q.index + i) d)
  else if t = tStation then
    let e := readStation o
    let loc := stationFind d e.mac.toNat e.fid.toNat
    if q.cmd = cSearch then
      match loc with
      | some l => (dOk, l, stage at_ (stationRecord (stationAt d l)) d)
      | none => (dNotFound, 0, d)
    else if q.cmd = cDelete then
      match loc with
      | some l => (dOk, 0, dropStation l d)
      | none => (dNotFound, 0, d)
    else if loc.isSome then (dExists, 0, d)
    else if stationAbsent d o then (dAbsent, 0, d)
    else
      let r := stationInsert e true d
      match r.1 with
      | some l => (dOk, l, r.2)
      | none => (dFull, 0, r.2)
  else
    let e := readV6 o
    let loc := find6 d e.vrf e.length e.prefix_.toNat
    if q.cmd = cSearch then
      match loc with
      | some l => (dOk, l, stage at_ (v6Record (tfind d.rt.ways6 l)) d)
      | none => (dNotFound, 0, d)
    else if q.cmd = cDelete then
      match loc with
      | some l => (dOk, 0, drop6 l d)
      | none => (dNotFound, 0, d)
    else if loc.isSome then (dExists, 0, d)
    else
      let r := insert6 e d
      match r.1 with
      | some l => (dOk, l, r.2)
      | none => (dFull, 0, r.2)

/-- Run `n` records from `i` on: STATUS and RESULT_INDEX report the first that is not OK (R177, R468). -/
def runRecords (q : Desc) : Nat → Nat → Nat × Nat → Dev → (Nat × Nat) × Dev
  | 0, _, acc, d => (acc, d)
  | n + 1, i, acc, d =>
    let r := runRecord q i d
    let acc := if acc.1 ≠ dOk then acc else if r.1 ≠ dOk then (r.1, i) else (dOk, r.2.1)
    runRecords q n (i + 1) acc r.2.2

/-- The engine writes a descriptor's result fields, advances TDMA_HEAD and raises its interrupts (Table 5-4, R192). -/
def finishDesc (q : Desc) (status result done : Nat) (d : Dev) : Dev :=
  let d := stage (q.at_ + 24) (leBytes 2 done) (stage (q.at_ + 20) (leBytes 4 result) (stage (q.at_ + 16) (leBytes 1 status) d))
  let size := d.hw.ringSize.toNat
  let d := onHw (fun h =>
    { h with tdmaHead := BitVec.ofNat 6 (if h.tdmaHead.toNat + 1 < size then h.tdmaHead.toNat + 1 else 0), tdmaRun := none
             tdmaStopped := h.tdmaStopped || (bit q.flags 1 && status != dOk) }) d
  let d := if bit q.flags 0 then raiseIrq 3 d else d
  if status = dOk then d else raiseIrq 4 d

/-- The next `n` records of the descriptor in progress; with its last record it ends. -/
def tdmaGoOn (n : Nat) (r : DescRun) (d : Dev) : Dev :=
  let k := min n (r.desc.count - r.next)
  let x := runRecords r.desc k r.next (r.status, r.result) d
  if r.desc.count ≤ r.next + k then finishDesc r.desc x.1.1 x.1.2 (r.next + k) x.2
  else onHw (fun h => { h with tdmaRun := some { r with next := r.next + k, status := x.1.1, result := x.1.2 } }) x.2

/-- Whether the engine may run: enabled and not stopped on an error, outside a FAB reset (R192). -/
def tdmaRuns (d : Dev) : Bool := mgtRuns d && d.hw.tdmaEnable && !d.hw.tdmaStopped && !d.fab.resetting

/-- How many records the engine gets through before the next command is open: `tdmaPace` says it for this one, and a free value,
at least 1, for the next (log entry 33). -/
def repace (d : Dev) : Dev :=
  let r := drawFree d
  onHw (fun h => { h with tdmaPace := 1 + r.1.toNat }) r.2

/-- The engine processes up to `tdmaPace` records: of the descriptor in progress, else of the one at TDMA_HEAD, which it begins
when the descriptor names this command, or one that Table 5-5 does not define (R177, R189). A descriptor that is refused touches
no record. -/
def tdma (cmd : Nat) (ecc : List EccHit) (d : Dev) : Dev :=
  let n := d.hw.tdmaPace
  if !tdmaRuns d then d
  else
    match d.hw.tdmaRun with
    | some r => if r.desc.cmd = cmd then repace (tdmaGoOn n r (eccFindAll ecc d)) else d
    | none =>
      let q := headDesc d
      if d.hw.tdmaHead = d.hw.tdmaTail then d
      else if q.cmd ≠ cmd ∧ 1 ≤ q.cmd ∧ q.cmd ≤ 7 then d
      else
        let st := descCheck d q
        if st ≠ dOk then finishDesc q st 0 0 d
        else repace (tdmaGoOn n { desc := q, next := 0, status := dOk, result := 0 } (eccFindAll ecc d))

/-- A FAB or SYS reset ends the descriptor in progress with ABORTED (R192); RESULT_INDEX names the first record that was not OK
or not processed. -/
def tdmaAbort (d : Dev) : Dev :=
  match d.hw.tdmaRun with
  | some r => finishDesc r.desc dAborted (if r.status = dOk then r.next else r.result) r.next d
  | none => d

end Sys2Proof.Machine
end

