-- ==== Sys2Proof/Machine/Reset.lean ====
section
/-! DEFINITION. The reset kinds and what each clears (Table 3-6, R80-R87, R101-R104, R192), glitch trips and debug requests (R599, R600), and bank
supplies. -/

namespace Sys2Proof.Machine

/-! ### SYS reset and POR -/

/-- The timers that AON keeps through a SYS reset: the crystal's, and the dormant timer (Table 3-6). -/
def aonTimers (ts : List (Timer × Nat)) : List (Timer × Nat) := ts.filter fun t => t.1 == .xtal || t.1 == .dormant

/-- The host window's registers after a SYS reset: DUMMY is restored by POR alone, and the buffers' contents stand
(Tables 5-10 to 5-12). -/
def hwSysReset (h : HostWin) : HostWin :=
  { HostWin.reset with dummy := h.dummy, tdmaPace := h.tdmaPace, reqBuf := h.reqBuf, rspBuf := h.rspBuf, ring := h.ring, staging := h.staging,
                       snap := h.snap }

/-- Everything that MGT and the other switched domains hold, cleared as Table 3-6's SYS column says; what Tables 10-1 and 8-6
and R121 keep since POR stands. -/
def clearDomains (d : Dev) : Dev :=
  { d with
    timers := aonTimers d.timers
    boot := { Boot.reset with startAt := d.boot.startAt }
    od := { Od.reset with proofFails := d.od.proofFails, journalState := if d.od.journalState = 2 then 2 else 0,
                          lastCompact := d.od.lastCompact }
    hw := hwSysReset d.hw
    cables := []
    slots := []
    shep := { Shepherd.reset with freezeMax := d.shep.freezeMax, critical := d.shep.critical }
    ng := Nguzo.reset
    tm := { TimeBase.reset with everSelected := d.tm.everSelected, timeSet := d.tm.timeSet }
    fab := Fabric.reset
    st := { StationTab.reset with vlans := vlanDefaults (present d) }
    rt := RouteTab.reset
    cls := ClassTab.reset
    heat := Heat.reset
    otp := otpSysReset d.otp }

/-- The domains stop for DORMANT, the critical comparator's PWR with them. -/
def stopDomains (d : Dev) : Dev :=
  let d := clearDomains d
  { d with shep := { d.shep with critical := false } }

/-- Whether C0 or C1 sinks under a contract, and so keeps its gates through a SYS reset (R83). -/
def sinkHold (d : Dev) (n : Nat) : Bool :=
  let c := cable d n
  (c.powerRole == .sink && c.gateOn && c.contract != .none) || (if n = 0 then d.aon.hold0 else d.aon.hold1)

/-- Whether a dead-battery start holds a port's gates from AON until boot serves the port (R76, R79). -/
def deadBatteryHold (d : Dev) (n : Nat) : Bool := d.aon.dbClosed && d.aon.dbPort.any fun p => p.val == n

/-- A port whose gates AON holds keeps them, and the plug's orientation and cable with them (R83). -/
def keepHeld (n : Nat) (old : Cable) (d : Dev) : Dev :=
  setCable n (fun c => { c with gateOn := true, orientation := old.orientation, cc1 := old.cc1, cc2 := old.cc2,
                                emark := old.emark, cableBits := old.cableBits }) d

/-- The ports that source VBUS: their gates turn off at a SYS reset, and VBUS is discharged (R83). -/
def sourcingPorts (d : Dev) : List Nat :=
  (List.range 8).filter fun n => (cable d n).powerRole == .source && ((cable d n).gateOn || (cable d n).discharge)

/-- A port discharges VBUS through a SYS reset, for at most 650 ms (R83, R282). -/
def dischargeOn (n : Nat) (d : Dev) : Dev :=
  arm (.discharge n) (650 * ms) (setCable n (fun c => { c with discharge := true, path := .discharging }) d)

/-- A SYS reset with its cause (R81-R84, R88): a burn stops at its pulse, Table 3-6's state is cleared, a sink hold stands
unless a rail failed, and the fans go to full duty. -/
def sysResetCore (cause : ResetCause) (d : Dev) : Dev :=
  let d := abandonBurn (tdmaAbort d)
  let keep := cause != .rail
  let h0 := keep && sinkHold d 0
  let h1 := keep && sinkHold d 1
  let b0 := keep && deadBatteryHold d 0
  let b1 := keep && deadBatteryHold d 1
  let c0 := cable d 0
  let c1 := cable d 1
  let sources := if keep then sourcingPorts d else []
  let d := sources.foldl (fun d n => dischargeOn n d) (clearDomains d)
  let d := onAon (fun a =>
    { a with lastReset := cause, sysResetCount := (a.sysResetCount + 1) % 2 ^ 32, hold0 := h0, hold1 := h1,
             dbClosed := b0 || b1, dbPort := if b0 || b1 then a.dbPort else none,
             power := if a.power == .active then .idle else a.power, railSawTimeout := false, railFails := 0, refFails := 0,
             fanPullDown := false, wakeLatch := 0, dbRp := none }) d
  let d := if h0 || b0 then keepHeld 0 c0 d else d
  if h1 || b1 then keepHeld 1 c1 d else d

/-- A SYS reset that restarts boot: at step 1 when RESET_N caused it, at step 2 otherwise (R88). -/
def sysReset (cause : ResetCause) (d : Dev) : Dev :=
  let d := sysResetCore cause d
  if cause == .resetN then
    onAon (fun a => { a with window := some { all := false, sampleA := none }, pwrEn := false })
      (onBoot (fun b => { b with stage := .strapsS }) d)
  else
    arm .railTimeout (10 * ms) (onAon (fun a => { a with pwrEn := true })
      (onBoot (fun b => { b with stage := .railsS }) d))

/-- Whether AON POR is released: LAST_WAKE holds a cause from then on. -/
def aonRuns (d : Dev) : Bool := d.aon.lastWake != 0

/-- Power-on reset (R80, R81): OFF, all state at its reset value but the boot flash, the OTP array and what stands outside
the device (RESET_N's level and the bank supplies). An open strap window is abandoned (R60), and C0 and C1 present the
dead-battery Rd. -/
def porAssert (d : Dev) : Dev :=
  let d := abandonBurn d
  presentUnpowered { Dev.reset with
    now := d.now, free := d.free, flash := d.flash, out := d.out
    otp := otpPorReset d.otp
    aon := { Aon.reset with resetNLow := d.aon.resetNLow, bankH := d.aon.bankH, bankF := d.aon.bankF,
                            bankS := d.aon.bankS, bankN := d.aon.bankN, vconnOk := d.aon.vconnOk } }

def execPorAssert (s : State) : Host.Outcome State Fault Refusal := run porAssert s

/-- RESET_N goes low (R101): the device is held in SYS reset, with AON running and PWR_EN low. -/
def resetNAssert (d : Dev) : Dev :=
  let d := onAon (fun a => { a with resetNLow := true }) d
  if !aonRuns d then d
  else
    let d := sysResetCore .resetN d
    onAon (fun a => { a with pwrEn := false, coreOk := false, serOk := false, hkOk := false }) d

def execResetNAssert (s : State) : Host.Outcome State Fault Refusal := run resetNAssert s

/-- A monitored rail is in range. -/
def railOk (a : Aon) : Rail → Bool
  | .core => a.coreOk
  | .ser => a.serOk
  | .hk => a.hkOk

/-- A monitored rail leaves its range while PWR_EN is high (R61): the AON clamp drives every gate to VSS, and a SYS reset
follows. -/
def railOutOfRange (r : Rail) (d : Dev) : Dev :=
  if !d.aon.pwrEn || !railOk d.aon r then d
  else
    sysReset .rail (onAon (fun a =>
      { a with clamp := true, coreOk := false, serOk := false, hkOk := false }) d)

def execRailOutOfRange (rail : Rail) (s : State) : Host.Outcome State Fault Refusal := run (railOutOfRange rail) s

/-- A SYS reset happens (R80, R102): one that the host asked for only once the response to its write has left
(R169), and after the journal group of the bundle that asked for it is written (R153). -/
def sysResetEvent (cause : ResetCause) (d : Dev) : Dev :=
  match cause with
  | .por => d
  | .hostRequest =>
    if d.boot.sysResetPending then
      let d := reach .respSent d
      sysReset .hostRequest (if d.od.pendingJournal.any (·.group) then flushJournal d else d)
    else d
  | c => if mgtRuns d then sysReset c d else d

def execSysReset (cause : ResetCause) (s : State) : Host.Outcome State Fault Refusal := run (sysResetEvent cause) s

/-- R87: the sequencer has not serviced its watchdog for 50 ms; a halted sequencer's watchdog is suspended (R599). -/
def watchdogExpiry (d : Dev) : Dev := if mgtRuns d && !d.otp.halted then sysReset .watchdog d else d

def execWatchdogExpiry (s : State) : Host.Outcome State Fault Refusal := run watchdogExpiry s

/-- R104: boot has reached neither READY nor a waiting stage 1 s after the rails step. -/
def execBootTimeout (s : State) : Host.Outcome State Fault Refusal := run (onExpiry .bootLimit (sysReset .watchdog)) s

/-! ### FAB reset (R86, R192) -/

/-- The elements of folios 0x7, 0x8, 0xA and 0xB that are not persistent go back to their defaults. -/
def dropFabConfig (d : Dev) : Dev :=
  onOd (fun o => { o with cfg := o.cfg.filter fun x =>
    let obj := x.1 / 256
    let folio := obj / 4096
    let fabric := folio == 7 || folio == 8 || folio == 10 || folio == 11
    !fabric || (match odElem d obj (x.1 % 256) with
      | some e => bit (odFlags obj (x.1 % 256) e) 0
      | none => false) }) d

/-- The tables after a FAB reset: learned entries, the stash's and the queues' work are gone, static entries, VLANs, routes and
rules stand, and the policers' buckets are empty (Table 3-6). -/
def fabTables (d : Dev) : Dev :=
  let st := d.st
  let d := { d with st := { StationTab.reset with
    ways := st.ways.filter fun x => x.2.static_, vlans := st.vlans,
    flocks := st.flocks, poison := st.poison } }
  onCls (fun c => { c with policers := c.policers.map fun x => (x.1, { x.2 with tokens := 0, carry := 0, last := d.now }),
                           eccDouble := 0 }) d

/-- A FAB reset starts (R86, Table 3-6): buffers, queues, learned entries, policer buckets, shapers, tally, mordant bits and
table DMA are cleared; fences stand, and frames are dropped while it runs. -/
def fabResetStart (d : Dev) : Dev :=
  let d := dropFabConfig (tdmaAbort d)
  let keep (w : SwPort) : SwPort :=
    { SwPort.reset with link := w.link, speed := w.speed, fenced := w.fenced, fresh := w.fresh, phyDown := w.phyDown }
  let ports := (List.range 16).foldl (fun t p => tset SwPort.reset t p (keep (swPort d p))) []
  let d := { d with fab := { Fabric.reset with ports := ports, resetting := true,
                                               nextFrame := d.fab.nextFrame, pendingShape := List.range 16 } }
  let d := fabTables d
  let d := { d with timers := d.timers.filter fun t => match t.1 with
    | .mordant _ _ | .residue _ | .pause _ | .pauseOff _ | .snap | .flushEnd | .stash => false
    | _ => true }
  let d := onHw (fun h =>
    { h with tdmaEnable := false, ringSize := 0, ringBase := 0, tdmaTail := 0, tdmaHead := 0, tdmaStopped := false, tdmaRun := none,
             expIndex := 0, expTable := 0, snapClear := false, snapBusy := false, snapSet := 0, snapFirst := 0,
             snapCount := 0, snapTime := 0, snapSeq := 0 }) d
  arm .fabReset (100 * us) d

/-- R80: an uncorrectable error in the free-list memory. -/
def execFreelistEccError (s : State) : Host.Outcome State Fault Refusal :=
  run (fun d => if mgtRuns d then fabResetStart d else d) s

/-- The FAB reset completes (R86): forwarding resumes behind the shepherd's fences. -/
def fabResetDone (d : Dev) : Dev :=
  if d.fab.resetting then disarm .fabReset { d with fab := { d.fab with resetting := false } } else d

def execFabResetDone (s : State) : Host.Outcome State Fault Refusal := run fabResetDone s

/-! ### Glitches, debug and bank supplies -/

/-- A glitch detector trips (R600, R601): AON latches the event, and a SYS reset follows. -/
def glitchTrip (d : Dev) : Dev :=
  if !d.aon.pwrEn || d.aon.resetNLow then d else sysReset .glitch (glitchLatched d)

def execGlitchTrip (s : State) : Host.Outcome State Fault Refusal := run glitchTrip s

/-- What open internal debug asks of the sequencer (R599, Table 3-5); a step moves the sequencer alone. -/
def debugRequest (op : DebugOp) (d : Dev) : Dev :=
  if !mgtRuns d || debugState d != 1 then d
  else
    match op with
    | .halt => onOtp (fun o => { o with halted := true }) d
    | .step => d
    | .run => onOtp (fun o => { o with halted := false }) d
    | .sysReset => sysReset .debug d

def execDebugRequest (op : DebugOp) (s : State) : Host.Outcome State Fault Refusal := run (debugRequest op) s

/-- A bank supply, or VCONN_IN, enters or leaves its range (R32, element 8 of 0x0012); without VCONN_IN
no port sources VCONN (R45, R203). -/
def bankSupplyChange (b : Bank) (ok : Bool) (d : Dev) : Dev :=
  match b with
  | .h => onAon (fun a => { a with bankH := ok }) d
  | .f => onAon (fun a => { a with bankF := ok }) d
  | .s => onAon (fun a => { a with bankS := ok }) d
  | .n => onAon (fun a => { a with bankN := ok }) d
  | .vconn =>
    let d := onAon (fun a => { a with vconnOk := ok }) d
    if ok then d else (List.range 8).foldl (fun d n => vconnFault n d) d

def execBankSupplyChange (bank : Bank) (ok : Bool) (s : State) : Host.Outcome State Fault Refusal :=
  run (bankSupplyChange bank ok) s

end Sys2Proof.Machine
end

