-- ==== Sys2Proof/Machine/OdWrite.lean ====
section
/-! DEFINITION. What a write of an element does once it has passed its checks: where its value is held, what it starts, and
its record in the journal (the Meaning columns of the object tables; R9, R140, R148). -/

namespace Sys2Proof.Machine

/-! ### Values held -/

/-- The value that is held: TC_PORTS and the port sets of a mirror are masked with the ports that are present (R9), and channel B
assignments on a variant without channel B (R340). -/
def heldValue (d : Dev) (k : ObjKind) (el v : Nat) : Nat :=
  match k, el with
  | .ptp, 4 | .mirror, 1 | .mirror, 2 => v &&& (present d).toNat
  | .staticSlot, 0 | .dynamic, 3 => if hasUnit d 1 then v else v &&& 1
  | _, _ => v

/-- Elements whose write is an action and that hold no value. -/
def isAction (k : ObjKind) (el : Nat) : Bool :=
  match k, el with
  | .watch, 5 | .resetBoot, 8 | .resetBoot, 9 | .resetBoot, 10 | .alarm, 2 | .cable, 16 | .cable, 17 | .slot, 7 | .contract, 20
  | .path, 17 | .time, 6 | .mdio, 5 | .vlanPort, 8 | .station, 10 | .routeCommand, 6 | .pairTally, 3 | .model, 6 | .sensor, 4
  | .fan, 15 | .heartbeat, 1 | .otpRecord, 1 | .otpRecord, 4 | .otpKeys, 1 | .otpKeys, 2 | .otpKeys, 6 | .lifecycle, 1
  | .lifecycle, 3 => true
  | _, _ => false

/-- Elements held per requesting session (Tables 4-14, 12-5, R504, R538, Table 16-10). -/
def isPerSession (k : ObjKind) (el : Nat) : Bool :=
  match k with
  | .view | .vlan | .nextHop | .policer | .pairTally | .otpKeys => el == 0
  | .routeCommand => decide (el ≤ 4)
  | .classifier => el == 3
  | .otpRecord => el == 0 || el == 2
  | _ => false

/-! ### Entries of a table that the session selects -/

/-- A field of the VLAN entry that VID names (Table 12-5). -/
def writeVlanField (s el v : Nat) (d : Dev) : Dev :=
  let vid := sel d s 0x8600 0
  let e := vlanOf d vid
  writeVlan vid (if el = 1 then v else e.members.toNat) (if el = 2 then v else e.untagged.toNat)
    (if el = 3 then v else e.flood.toNat) (if el = 4 then v else e.fid.toNat) (if el = 5 then v != 0 else e.valid)
    (if el = 6 then v != 0 else e.learn) d

/-- A field of the next hop that NH names (Table 13-7). -/
def writeHopField (s el v : Nat) (d : Dev) : Dev :=
  let i := sel d s 0x9700 0
  unpoison tNextHop i (setHop i (fun h =>
    match el with
    | 1 => { h with dmac := BitVec.ofNat 48 (beNat (leBytes 6 v)) }
    | 2 => { h with vid := BitVec.ofNat 12 v }
    | 3 => { h with port := BitVec.ofNat 4 v }
    | _ => { h with valid := bit v 0, drop := bit v 1, keepTtl := bit v 2 }) d)

/-- A field of the policer that INDEX names (Table 14-8). -/
def writePolicerField (s el v : Nat) (d : Dev) : Dev :=
  changePolicer (sel d s 0xA500 0) (fun p =>
    match el with
    | 1 => { p with rate := v }
    | 2 => { p with burst := v }
    | _ => { p with enable := bit v 0, wire := bit v 1 }) d

/-! ### Actions -/

/-- A write of OP starts the session's route command (R494); PREFIX is taken to LENGTH bits. -/
def routeStart (s op : Nat) (d : Dev) : Dev :=
  let v6 := sel d s 0x9600 1 == 1
  let len := sel d s 0x9600 3
  let octets := leBytes 16 (sel d s 0x9600 2)
  let addr := if v6 then maskTo (beNat octets) len else beNat (octets.take 4) / 2 ^ (32 - len) * 2 ^ (32 - len)
  let r : Route := { vrf := sel d s 0x9600 0, v6 := v6, addr := BitVec.ofNat 128 addr, length := len, nh := sel d s 0x9600 4 }
  setSel s 0x9600 5 rRunning (onRt (fun t => { t with running := some { add := op == 1, sess := s, route := r } }) d)

/-- CLEAR of 0x0030: elements 0 to 4 (R28). -/
def clearWatch (d : Dev) : Dev :=
  onOd (fun o => { o with watchOd := 0, watchDeadline := 0, watchOverrun := 0, watchShed := 0, watchLate := 0 }) d

/-- A write of ACK (R633). -/
def ackAlarms (mask : Nat) (d : Dev) : Dev := onOd (fun o => { o with alarmLatched := o.alarmLatched &&& (~~~(BitVec.ofNat 64 mask) ||| o.alarmEvents) }) d

/-- The action of an element (R28, R102, R103, R140, R217, R229, R302, R365, R386, R460, R494, R543, R548, R564, R566,
R584-R604, R633). A BOOL starts its action when written 1. -/
def act (d : Dev) (s : Nat) (k : ObjKind) (n el v : Nat) (payload : List Byte) : Dev :=
  let on1 (f : Dev → Dev) : Dev := if v = 1 then f d else d
  match k, el with
  | .watch, _ => on1 clearWatch
  | .resetBoot, 8 => on1 (onBoot fun b => { b with sysResetPending := true })
  | .resetBoot, 9 => followTarget (portReset (BitVec.ofNat 8 v) d)
  | .resetBoot, _ => on1 fabResetStart
  | .alarm, _ => ackAlarms v d
  | .cable, 16 => on1 (reapplyPort n)
  | .cable, _ => on1 (exitPod n)
  | .slot, _ => on1 (reapplySlot n)
  | .contract, _ => on1 (renegotiate n)
  | .path, _ => faultClear n (v == 1) d
  | .time, _ => timeSetTo v d
  | .mdio, _ => mdioStart v d
  | .vlanPort, _ => on1 (flushPort n)
  | .station, _ => flushStart { byPort := false, value := v } d
  | .routeCommand, _ => routeStart s v d
  | .pairTally, _ => on1 (clearCounters 0 [2 * sel d s 0xB500 0, 2 * sel d s 0xB500 0 + 1])
  | .model, _ => restartModel (v == 1) d
  | .sensor, _ => retrySensor n (v == 1) d
  | .fan, _ => commission n v d
  | .heartbeat, _ => heartbeat d
  | .otpRecord, 1 => otpAppend s payload d
  | .otpRecord, _ => otpVoid v d
  | .otpKeys, 1 => otpKeyData s (beNat payload) d
  | .otpKeys, 2 => otpKeygen s (v == 1) d
  | .otpKeys, _ => otpRevoke v d
  | .lifecycle, 1 => otpAdvance s v d
  | .lifecycle, _ => otpRollback v d
  | _, _ => d

/-! ### What a stored value changes at once -/

/-- SESSION_IDLE counts from each session's last request (R117). -/
def retimeIdle (old new : Nat) (d : Dev) : Dev :=
  { d with timers := d.timers.map fun t => match t.1 with
    | .sessionIdle _ => (t.1, t.2 + new * sec - old * sec)
    | _ => t }

/-- A write of HB_PERIOD starts the period afresh; 0 stops it and ends a silence (R564). -/
def heartbeatPeriod (p : Nat) (d : Dev) : Dev :=
  if p = 0 then fansFollow (disarm .heartbeat (onHeat (fun h => { h with silent := false }) d))
  else arm .heartbeat (p * ms) d

/-- Shaper elements of a port are shadows until a refill (R521). -/
def shaperWritten (n : Nat) (d : Dev) : Dev :=
  onFab (fun f => { f with pendingShape := if f.pendingShape.contains n then f.pendingShape else f.pendingShape ++ [n] }) d

/-- CYCLE_MT has a new value: the present cycle ends at the next multiple of the new period, and a bundle whose count the new
numbering passes over is due there (R131, R358, log entry 48). -/
def periodWritten (d : Dev) : Dev :=
  let count := cycleCount d
  let span := (count + 2 ^ 32 - d.tm.cycleIndex) % 2 ^ 32
  let passed (c : Nat) : Bool := decide (span < 2 ^ 31) && decide ((count + 2 ^ 32 - c) % 2 ^ 32 < span)
  let move (b : Scheduled) : Scheduled := if passed b.cycle then { b with cycle := (count + 1) % 2 ^ 32 } else b
  onTm (fun t => { t with cycleIndex := count }) (onOd (fun o => { o with scheduled := o.scheduled.map move }) d)

/-- What follows at once from a value stored in the folios of the cable ports, the ledger and the bus; `old` is the value
before. -/
def followPower (k : ObjKind) (n el old v : Nat) (d : Dev) : Dev :=
  match k, el with
  | .power, 1 => followTarget d
  | .service, 6 => retimeIdle old v d
  | .cable, 2 | .cable, 3 => presentAgain n d
  | .cable, 8 => usb2Reroute n d
  | .cable, 9 => muxUpdate n d
  | .contract, 15 => eprEnableWritten n (v == 1) d
  | .contract, 17 | .contract, 18 => frsWritten n d
  | .guard, 3 => (List.range 8).foldl (fun d n => recomputeOffer n d) d
  | .ledger, 3 => if v < old then needStep d else d
  | .ledger, 4 | .ledger, 5 => if old < v then needStep d else d
  | .bus, 0 => followTarget (writeEnable false (v == 1) d)
  | .bus, 2 => if old = v then d else periodWritten d
  | .bus, 1 => followTarget (writeEnable true (v == 1) d)
  | _, _ => d

/-- The same for the timebase, the switch, the tally, heat and air. -/
def followRest (k : ObjKind) (n el old v : Nat) (d : Dev) : Dev :=
  match k, el with
  | .sources, 0 => reselect d
  | .ptp, 0 => ptpProfileChanged d
  | .pins, 2 => if v = 0 then ppsOutLow d else d
  | .pins, 5 | .pins, 6 => epochPinsFollow d
  | .pins, 0 => if v = 0 then disqualify .ppsIn (disarm .ppsIn d) else d
  | .port, 0 => followTarget (if v = 0 then portDown n d else d)
  | .port, 15 => if v = 0xFF then setSwPort n (fun w => { w with phyDown := false }) d else d
  | .port, _ => if 17 ≤ el ∧ el ≤ 24 then rechargeFold n (el - 17) d else d
  | .routeService, 0 => if old = v then d else clearRoutes d
  | .shaping, _ => if 16 ≤ el ∧ el ≤ 35 then shaperWritten n d else d
  | .exports, 0 => if v = 1 then (if old = 1 then d else arm .exports (cfg d 0xB400 1 * ms) d) else disarm .exports d
  | .fan, 7 | .fan, 8 => fanWatch n d
  | .fan, _ => fansFollow d
  | .heartbeat, 0 => heartbeatPeriod v d
  | _, _ => d

/-- A value goes where its element is held, and what follows from it follows. -/
def odStore (d : Dev) (s : Nat) (k : ObjKind) (n obj el v : Nat) : Dev :=
  if isPerSession k el then setSel s obj el v d
  else
    match k with
    | .vlan => writeVlanField s el v d
    | .nextHop => writeHopField s el v d
    | .policer => writePolicerField s el v d
    | .classifier => if el = 4 then writeRule (sel d s 0xA400 3) v d else setCfg obj el v d
    | _ =>
      let v' := heldValue d k el v
      let old := cfg d obj el
      followRest k n el old v' (followPower k n el old v' (setCfg obj el v' d))

/-- A write that passed its checks takes effect. -/
def odPerform (d : Dev) (s obj el : Nat) (payload : List Byte) : Dev :=
  match objAt obj with
  | none => d
  | some (k, n) =>
    let v := leNat payload
    if isAction k el then act d s k n el v payload else odStore d s k n obj el v

/-- Whether an element is persistent (R148). -/
def isPersistent (d : Dev) (obj el : Nat) : Bool :=
  match odElem d obj el with
  | some e => bit (odFlags obj el e) 0
  | none => false

/-- A single write with its journal record (R148). -/
def odWriteNow (d : Dev) (s obj el : Nat) (payload : List Byte) : Dev :=
  let d' := odPerform d s obj el payload
  if isPersistent d' obj el then
    noteChange { values := [(obj, el, leBytes payload.length (cfg d' obj el))], group := false } d'
  else d'

/-! ### Commands that are one write -/

/-- The octets of a value for an element; one more than its size where the value does not fit, which the type check refuses. -/
def valueBytes (d : Dev) (obj el v : Nat) : Option (List Byte) :=
  match odElem d obj el with
  | some e => if v < 256 ^ e.ty.size then some (leBytes e.ty.size v) else none
  | none => some []

/-- A command that the table gives as a write of one element: the write of session `s` with its checks, under the highest role
(log entry 22); it reports the status. -/
def rowWrite (s obj el : Nat) (payload : List Byte) (d : Dev) : Dev :=
  if !odServes d then d
  else
    let st := odVerify d s .custodian obj el payload
    let d := if st = stOk then odWriteNow d s obj el payload else d
    emit (.status (BitVec.ofNat 8 st)) d

/-- The same for a number: RANGE where it does not fit the element. -/
def rowValue (s obj el v : Nat) (d : Dev) : Dev :=
  match valueBytes d obj el v with
  | some o => rowWrite s obj el o d
  | none => if odServes d then emit (.status (BitVec.ofNat 8 stRange)) d else d

end Sys2Proof.Machine
end

