-- ==== Sys2Proof/Machine/Replay.lean ====
section
/-! DEFINITION. Boot step REPLAY: OTP object defaults and the keep area (R149, R150, R155, R579, R632, Table 4-10). -/

namespace Sys2Proof.Machine

/-! ### OTP object defaults (R579) -/

/-- The OBJECT_DEFAULT payloads in force, in bank order: of several on one element, the latest (R578). -/
def objectDefaults (d : Dev) : List (List Nat) :=
  let all := ((walk d .customer).recs.filter fun r => usable r && r.kind == 0x06).map (·.payload)
  let key (p : List Nat) : Nat := p.getD 0 0 % 2 ^ 24
  (all.zipIdx.filter fun x => !((all.drop (x.2 + 1)).any fun y => key y == key x.1)).map (·.1)

/-- Whether a value may be given to an element from inside the device: it exists, is persistent and writable, and type and
range fit (R108). -/
def valueFits (d : Dev) (obj el : Nat) (value : List Byte) : Bool :=
  match objAt obj, odElem d obj el with
  | some (k, n), some e =>
    e.wr != 255 && bit (odFlags obj el e) 0 && sizeFits k el value.length e.ty && inRangeOf d 1 k n el e (leNat value)
  | _, _ => false

/-- One OBJECT_DEFAULT record: the default for every later use, or skipped and counted. -/
def applyDefault (d : Dev) (p : List Nat) : Dev :=
  let h := p.getD 0 0
  let obj := h % 2 ^ 16
  let el := h / 2 ^ 16 % 256
  let size := h / 2 ^ 24
  let octets := wordOctets (p.drop 1)
  if size ≤ octets.length && valueFits d obj el (octets.take size) then
    onOd (fun o => { o with dflt := tput o.dflt (elKey obj el) (leNat (octets.take size)) }) d
  else onOd (fun o => { o with recordSkipped := o.recordSkipped + 1 }) d

/-- All OBJECT_DEFAULT records. -/
def applyObjectDefaults (d : Dev) : Dev := (objectDefaults d).foldl applyDefault d

/-! ### The keep area -/

/-- Whether a sector's header is valid (R150). -/
def headerValid (d : Dev) (i : Nat) : Bool :=
  let h := readBytes erased d.flash (sectorBase i) 16
  leNat (h.take 4) == 0x4B505A4A && leNat ((h.drop 8).take 4) == 1 && leNat (h.drop 12) == (crc32c (h.take 12)).toNat

/-- A sector's GENERATION. -/
def headerGeneration (d : Dev) (i : Nat) : Nat := leNat (readBytes erased d.flash (sectorBase i + 4) 4)

/-- The sector that replay uses (R150). -/
def replaySector (d : Dev) : Option Nat :=
  match headerValid d 0, headerValid d 1 with
  | true, true => some (if headerGeneration d 0 < headerGeneration d 1 then 1 else 0)
  | true, false => some 0
  | false, true => some 1
  | false, false => none

/-- A journal record as replay reads it. -/
structure KeepRec where
  kind   : Nat
  el     : Nat
  obj    : Nat
  serial : Nat
  value  : List Byte
  size   : Nat
  deriving DecidableEq, Repr

/-- What stands at an offset of a sector: a record, nothing written, or something replay stops at. -/
inductive KeepAt where
  | record (r : KeepRec) | unwritten | broken
  deriving DecidableEq, Repr

/-- Read a record at an offset of a sector (Table 4-10). A LENGTH above 64, or a record that runs past the sector, is no
record. -/
def keepAt (d : Dev) (sector off : Nat) : KeepAt :=
  let base := sectorBase sector + off
  let h := readBytes erased d.flash base 8
  let kind := leNat (h.take 1)
  let len := leNat ((h.drop 4).take 1)
  let size := 12 + len + (4 - len % 4) % 4
  if 65536 < off + 8 then .broken
  else if kind = 0xFF then .unwritten
  else if 64 < len ∨ 65536 < off + size then .broken
  else
    let o := readBytes erased d.flash base size
    if leNat (o.drop (size - 4)) ≠ (crc32c (o.take (size - 4))).toNat ∨ kind = 0 ∨ 3 < kind then .broken
    else .record { kind := kind, el := leNat ((h.drop 1).take 1), obj := leNat ((h.drop 2).take 2),
                   serial := leNat ((h.drop 5).take 3), value := (o.drop 8).take len, size := size }

/-- Where replay has got to: the group that is open (its count and its values so far), whether every group so far was
complete, the offset of the next record and the serial after the last. -/
structure Replay where
  group  : Option (Nat × List KeepRec)
  clean  : Bool
  off    : Nat
  serial : Nat
  deriving DecidableEq, Repr

/-- A VALUE record is applied through session 1, or skipped and counted (R150). -/
def applyKept (d : Dev) (r : KeepRec) : Dev :=
  if valueFits d r.obj r.el r.value then
    let v := leNat r.value
    let held := match objAt r.obj with
      | some (k, _) => heldValue d k r.el v
      | none => v
    onBoot (fun b => { b with replayCount := b.replayCount + 1 }) (setCfg r.obj r.el held d)
  else onOd (fun o => { o with replaySkipped := min (o.replaySkipped + 1) 0xFFFF }) d

/-- One record of the walk: a value applies at once or waits for its group's end. -/
def keepStep (r : KeepRec) (p : Replay) (d : Dev) : Replay × Dev :=
  let p := { p with off := p.off + r.size, serial := (r.serial + 1) % 2 ^ 24 }
  match r.kind, p.group with
  | 1, none => (p, applyKept d r)
  | 1, some (n, l) => ({ p with group := some (n, l ++ [r]) }, d)
  | 2, none => ({ p with group := some (r.el, []) }, d)
  | 2, some _ => ({ p with group := some (r.el, []), clean := false }, d)
  | _, some (n, l) =>
    if l.length = n ∧ r.el = n then ({ p with group := none }, l.foldl applyKept d)
    else ({ p with group := none, clean := false }, d)
  | _, none => ({ p with clean := false }, d)

/-- Walk the sector's records. The fuel is the number of records that a sector can hold. -/
def keepWalk (sector : Nat) : Nat → Replay → Dev → Replay × Dev
  | 0, p, d => ({ p with clean := false }, d)
  | n + 1, p, d =>
    match keepAt d sector p.off with
    | .unwritten => ({ p with clean := p.clean && p.group.isNone }, d)
    | .broken => ({ p with clean := false }, d)
    | .record r =>
      let q := keepStep r p d
      keepWalk sector n q.1 q.2

/-- Replay of the keep area: from the sector in use, or a fresh one (R150, R155). Without its bank the flash does not answer,
and the journal is at fault (R32, R154; log entry 28). -/
def keepReplay (d : Dev) : Dev :=
  if d.aon.bankF = false then journalFault false d
  else
  match replaySector d with
  | none => formatKeep d
  | some i =>
    let q := keepWalk i 5462 { group := none, clean := true, off := 16, serial := 0 } d
    onOd (fun o => { o with sector := i, generation := headerGeneration d i, fill := q.1.off, serial := q.1.serial,
                            unclean := !q.1.clean }) q.2

end Sys2Proof.Machine
end

