-- ==== Sys2Proof/Machine/Boot.lean ====
section
/-! DEFINITION. Power states, waking, straps, rails and the boot sequence (chapters 2 and 3: R34-R45, R59-R64, R65-R79,
R88-R104, R164). -/

namespace Sys2Proof.Machine

/-! ### Stages -/

/-- Whether a boot or wake is not in progress and the device is DORMANT. -/
def isDormant (d : Dev) : Bool := d.aon.power == .dormant && d.boot.stage == .down

/-- Enter a boot stage. The waiting stages and READY end the 1 s limit of R104 and raise BOOT_STAGE (R98). -/
def enterStage (st : Stage) (d : Dev) : Dev :=
  let d := onBoot (fun b => { b with stage := st }) d
  match st with
  | .hold | .noImage | .waitHost | .halt | .ready => raiseIrq 0 (disarm .bootLimit d)
  | _ => d

/-- The rails step begins: PWR_EN rises and the rails have 10 ms (R42, R62). -/
def startRails (d : Dev) : Dev :=
  arm .railTimeout (10 * ms) (enterStage .railsS (onAon (fun a => { a with pwrEn := true, fanPullDown := false }) d))

/-- A boot begins by a wake: recorded, and at the rails step (R70). -/
def bootFromWake (d : Dev) : Dev :=
  let d := disarm .dormant (disarm .latchedBoot d)
  startRails (onBoot (fun b => { b with startAt := d.now, latched := b.latched })
    (onAon (fun a => { a with railSawTimeout := false, wakeLatch := 0, rpWindow := false }) d))

/-! ### Straps (R36-R39, R59) -/

/-- A strap window opens (R36). -/
def openWindow (all : Bool) (d : Dev) : Dev :=
  enterStage .strapsS (onAon (fun a => { a with window := some { all := all, sampleA := none }, pwrEn := false }) d)

/-- VSYS rises above the POR threshold: AON POR releases and a cold boot begins from OFF (R71). The crystal has 1 s (R63). -/
def porRelease (d : Dev) : Dev :=
  if aonRuns d then d
  else
    let d := onAon (fun a => { a with lastReset := .por, lastWake := 0x80, railSawTimeout := false }) d
    arm .xtal sec (openWindow true (onBoot (fun b => { b with startAt := d.now }) d))

def execAonPorRelease (s : State) : Host.Outcome State Fault Refusal := run porRelease s

/-- RESET_N rises (R59): a window for BOOT_SRC and BOOT_HOLD opens, unless one is open already, which then ends boot step
STRAPS. -/
def resetNRise (d : Dev) : Dev :=
  if !d.aon.resetNLow then d
  else
    let d := onAon (fun a => { a with resetNLow := false }) d
    if !aonRuns d then d
    else if d.aon.window.isSome then enterStage .strapsS d
    else openWindow false d

def execResetNRise (s : State) : Host.Outcome State Fault Refusal := run resetNRise s

/-- Window tick 8: sample A, and the pulls swap (R36). -/
def strapSampleA (levels : BitVec 5) (d : Dev) : Dev :=
  match d.aon.window with
  | some { all := all, sampleA := none } =>
    onAon (fun a => { a with window := some { all := all, sampleA := some levels } }) d
  | _ => d

def execStrapSampleA (levels : BitVec 5) (s : State) : Host.Outcome State Fault Refusal := run (strapSampleA levels) s

/-- The straps that a window decides: all five, or BOOT_SRC and BOOT_HOLD (R36). -/
def windowMask (all : Bool) : BitVec 5 := if all then 0b11111 else 0b11000

/-- What a strap says after its window: sample B, or its fallback where it floats (R38). -/
def strapValue (a : Aon) (i : Nat) (fallback : Bool) : Bool := if a.floating.getLsbD i then fallback else a.sampled.getLsbD i

/-- The AON domain after both samples: a strap whose samples differ floats and takes its fallback (R38, Table 2-8); TCRIT
changes only in the window of a POR release (R39). -/
def decideStraps (all : Bool) (sa sb : BitVec 5) (a : Aon) : Aon :=
  let m := windowMask all
  let fl := (sa ^^^ sb) &&& m
  let v (i : Nat) (fallback : Bool) : Bool := if fl.getLsbD i then fallback else sb.getLsbD i
  { a with
    window := none
    sampled := (a.sampled &&& ~~~m) ||| (sb &&& m)
    floating := (a.floating &&& ~~~m) ||| fl
    overridden := a.overridden &&& ~~~m
    tcrit := if all then (if fl.getLsbD 0 || fl.getLsbD 1 then 0 else sb.extractLsb' 0 2) else a.tcrit
    aonRc := if all then v 2 true else a.aonRc
    bootHost := v 3 false
    bootHold := v 4 false }

/-- Window tick 16: sample B; the window closes, and PWR_EN rises for the rails step unless RESET_N is low or a dead-battery
start still waits for VSYS (R38, R42, R76, R101). -/
def strapSampleB (levels : BitVec 5) (d : Dev) : Dev :=
  match d.aon.window with
  | some { all := all, sampleA := some sa } =>
    let d := onAon (decideStraps all sa levels) d
    if d.aon.resetNLow || d.aon.preReg then d else startRails d
  | _ => d

def execStrapSampleB (levels : BitVec 5) (s : State) : Host.Outcome State Fault Refusal := run (strapSampleB levels) s

/-- R63: no crystal oscillation 1 s after POR release: AON runs from the internal RC. -/
def xtalFail (d : Dev) : Dev := onAon (fun a => if a.aonRc then a else { a with xtalFail := true }) d

def execAonXtalFail (s : State) : Host.Outcome State Fault Refusal := run (onExpiry .xtal xtalFail) s

/-! ### Rails and reference (R43, R61, R62, R88, R89) -/

/-- The monitored rails are all in range (R43): the rails step ends, the reference has 5 ms, and boot 1 s (R89, R104). -/
def railsInRange (d : Dev) : Dev :=
  if d.boot.stage ≠ .railsS ∨ !d.aon.pwrEn then d
  else
    let d := disarm .railTimeout (onAon (fun a =>
      { a with coreOk := true, serOk := true, hkOk := true, clamp := false, railFails := 0 }) d)
    let d := enterStage .refclk d
    arm .bootLimit sec (arm .refTimeout (5 * ms) d)

def execRailsInRange (s : State) : Host.Outcome State Fault Refusal := run railsInRange s

/-- The dormant timer starts as it was last written to AON (R74, Tables 3-6, 3-11). -/
def startDormantTimer (d : Dev) : Dev :=
  if d.aon.dormTimer = 0 then d else arm .dormant (d.aon.dormTimer * sec) d

/-- Start-up gives up and the device stays in DORMANT until the next wake event (R62, R89). -/
def giveUp (d : Dev) : Dev :=
  startDormantTimer (presentUnpowered (enterStage .down (onAon (fun a =>
    { a with power := .dormant, railFails := 0, refFails := 0, fanPullDown := true, rpWindow := false }) d)))

/-- The rails are not in range after 10 ms (R62). -/
def railTimeout (d : Dev) : Dev :=
  if d.boot.stage ≠ .railsS then d
  else
    let d := onAon (fun a => { a with pwrEn := false, railFailCount := (a.railFailCount + 1) % 65536,
                                      railFails := a.railFails + 1, railSawTimeout := true }) d
    if 3 ≤ d.aon.railFails then giveUp d else arm .railRetry sec d

def execRailTimeout (s : State) : Host.Outcome State Fault Refusal := run (onExpiry .railTimeout railTimeout) s

/-- One second after a rail or reference failure, start-up retries at the rails step (R62, R89). -/
def railRetry (d : Dev) : Dev := if d.boot.stage = .railsS then startRails d else d

def execRailRetry (s : State) : Host.Outcome State Fault Refusal := run (onExpiry .railRetry railRetry) s

/-- The VLAN table's defaults, over the ports of the variant that OTP_CHECK read (R472, Tables 0-1 to 0-3). -/
def defaultVlans (d : Dev) : Dev := onSt (fun t => { t with vlans := vlanDefaults (present d) }) d

/-- The reference runs and the PLLs lock (R88): MGT and HQS start, and OTP_CHECK runs (R592). -/
def refclkLock (d : Dev) : Dev :=
  if d.boot.stage ≠ .refclk then d
  else
    let d := disarm .refTimeout (onAon (fun a => { a with refFails := 0 }) d)
    defaultVlans (sensorsFromOtp (otpCheck (enterStage .otpCheck d)))

def execRefclkLock (s : State) : Host.Outcome State Fault Refusal := run refclkLock s

/-- No reference runs 5 ms after the rails step (R89). -/
def refclkTimeout (d : Dev) : Dev :=
  if d.boot.stage ≠ .refclk then d
  else
    let d := disarm .bootLimit (onAon (fun a =>
      { a with pwrEn := false, coreOk := false, serOk := false, hkOk := false,
               refFailCount := (a.refFailCount + 1) % 65536, refFails := a.refFails + 1 }) d)
    if 3 ≤ d.aon.refFails then giveUp d else arm .railRetry sec (enterStage .railsS d)

def execRefclkTimeout (s : State) : Host.Outcome State Fault Refusal := run (onExpiry .refTimeout refclkTimeout) s

/-! ### Images (R88, R90-R94, R164) -/

/-- The offset of image slot A or B in boot flash. -/
def imageBase (slot : Nat) : Nat := if slot = 0 then 0x10000 else 0x90000

/-- The header of a slot. -/
def slotHeader (d : Dev) (slot : Nat) : List Byte := readBytes erased d.flash (imageBase slot) 128

/-- Header fields (Table 3-8). -/
def hdrField (h : List Byte) (off n : Nat) : Nat := leNat ((h.drop off).take n)
@[inherit_doc hdrField] def hdrLength (h : List Byte) : Nat := hdrField h 8 4
@[inherit_doc hdrField] def hdrVersion (h : List Byte) : Nat := hdrField h 12 4
@[inherit_doc hdrField] def hdrRollback (h : List Byte) : Nat := hdrField h 7 1

/-- R91: whether an image is valid. -/
def imageValid (d : Dev) (h body : List Byte) : Bool :=
  hdrField h 0 4 == 0x4D494A5A && hdrField h 4 2 == 1 && decide (hdrLength h ≤ 491520) && body.length == hdrLength h
    && decide (rollbackCount d ≤ hdrRollback h)
    && (h.drop 32).take 32 == sha256 body
    && (match imageKey d (hdrField h 6 1) with
        | some key => ecdsaVerify key (sha256 (h.take 64)) ((h.drop 64).take 64)
        | none => false)

/-- The header and body of the image that boot is trying. -/
def triedImage (d : Dev) : List Byte × List Byte :=
  if d.boot.trying = 2 then (d.boot.header, d.boot.body)
  else
    let h := slotHeader d d.boot.trying
    (h, readBytes erased d.flash (imageBase d.boot.trying + 128) (min (hdrLength h) 491520))

/-- The ROM goes to NO_IMAGE and accepts an image through the host window (R92). -/
def noImage (d : Dev) : Dev := enterStage .noImage d

/-- The image load starts (R92, R93): from the host window, or from flash in the order of VERSION, slot A first when equal. -/
def startImageLoad (d : Dev) : Dev :=
  if d.aon.bootHost then enterStage .imageHost d
  else
    let order := if hdrVersion (slotHeader d 0) < hdrVersion (slotHeader d 1) then [1, 0] else [0, 1]
    enterStage .imageFlash (onBoot (fun b => { b with trying := order.headD 0, order := order.tail }) d)

/-- OTP_CHECK completes (R40, R88, R90): strap overrides take effect, and without one the strap's own value; the device holds,
or loads its image. -/
def otpCheckDone (d : Dev) : Dev :=
  if d.boot.stage ≠ .otpCheck then d
  else
    let o := strapOverride d
    let d := onAon (fun a =>
      { a with aonRc := o.1.getD (strapValue a 2 true), bootHost := o.2.getD (strapValue a 3 false),
               overridden := (if o.1.isSome then 4 else 0) ||| (if o.2.isSome then 8 else 0) }) d
    if d.aon.bootHold then enterStage .hold d else startImageLoad d

def execOtpCheckDone (s : State) : Host.Outcome State Fault Refusal := run otpCheckDone s

/-- The flash body is loaded, or the flash does not answer (R92). -/
def imageLoadDone (answers : Bool) (d : Dev) : Dev :=
  if d.boot.stage ≠ .imageFlash then d else if answers && d.aon.bankF then enterStage .verify d else noImage d

def execImageLoadDone (answers : Bool) (s : State) : Host.Outcome State Fault Refusal := run (imageLoadDone answers) s

/-- The host has written a header (R164): consumed, with IMAGE_REJECT cleared. -/
def hdrValid (d : Dev) : Dev :=
  if d.boot.stage ≠ .noImage ∧ d.boot.stage ≠ .imageHost then d
  else enterStage .imageHost (onBoot (fun b =>
    { b with header := readBytes 0 d.hw.staging 0 128, hdrTaken := true, imageReject := false, blockTaken := false,
             blockCount := 0, body := [], trying := 2 }) d)

/-- The host has written a block of BLOCK_LEN bytes (R93, R164): consumed and hashed. -/
def blockValid (len : Nat) (d : Dev) : Dev :=
  if d.boot.stage ≠ .imageHost ∨ !d.boot.hdrTaken ∨ len = 0 ∨ 4096 < len then d
  else onBoot (fun b =>
    { b with body := b.body ++ readBytes 0 d.hw.staging 0x1000 len, blockTaken := true, blockCount := b.blockCount + 1 }) d

/-- A host image is refused: IMAGE_REJECT, and back to NO_IMAGE with BLOCK_COUNT cleared (R164). -/
def rejectImage (d : Dev) : Dev :=
  noImage (onBoot (fun b => { b with imageReject := true, blockCount := 0, body := [], hdrTaken := false }) d)

/-- The host has written the last block (R91, R164). -/
def imageEnd (d : Dev) : Dev :=
  if d.boot.stage ≠ .imageHost ∨ !d.boot.hdrTaken then d
  else if d.boot.body.length ≠ hdrLength d.boot.header ∨ !imageValid d d.boot.header d.boot.body then rejectImage d
  else enterStage .verify d


/-! ### Policy, replay and release (R95-R97) -/

/-- Step REPLAY: PDP and TTB start, the thermal model with them, and OTP object defaults and then the keep area are applied
(R96, R150, R548, R579); the shapers take up what was replayed at the next refill. -/
def startReplay (d : Dev) : Dev :=
  let d := keepReplay (applyObjectDefaults (modelStart (enterStage .replay d)))
  { d with fab := { d.fab with pendingShape := List.range 16 } }

/-- HALT: the device enters IDLE and stays there, with the dictionary's Observer side served and C0 and C1 looking for a
source of vSafe5V (Table 3-9). -/
def enterHalt (d : Dev) : Dev :=
  haltPorts (enterStage .halt (onBoot (fun b => { b with bootDone := true })
    (onAon (fun a => { a with power := .idle }) d)))

/-- Apply a boot policy: 1 HALT, 2 CONTINUE_DEFAULTS, 3 WAIT_HOST (Table 3-9). -/
def applyPolicy (p : Nat) (d : Dev) : Dev :=
  match p with
  | 1 => enterHalt d
  | 3 => enterStage .waitHost d
  | _ => startReplay d

/-- The ROM runs a valid image: its record is kept, and step POLICY applies when OTP_CHECK raised an alarm (R95). A SCRAPPED
part always halts, and so does a device that four glitches have reset (Table 16-7, R601). -/
def runImage (h : List Byte) (d : Dev) : Dev :=
  let d := onBoot (fun b =>
    { b with image := b.trying, version := hdrVersion h, rollback := hdrRollback h, stage := .policy }) d
  let p := if d.otp.lifecycle = 4 ∨ d.aon.glitchHalt then 1 else if d.boot.otpAlarm then bootPolicy d + 1 else 0
  if p = 0 then startReplay d else applyPolicy p (onBoot (fun b => { b with policyApplied := p }) d)

/-- The signature check completes (R91, R92): run the image, try the other slot, or go to NO_IMAGE. -/
def imageVerifyDone (d : Dev) : Dev :=
  if d.boot.stage ≠ .verify then d
  else
    let img := triedImage d
    if imageValid d img.1 img.2 then runImage img.1 d
    else if d.boot.trying = 2 then rejectImage d
    else
      match d.boot.order with
      | n :: rest => enterStage .imageFlash (onBoot (fun b => { b with trying := n, order := rest }) d)
      | [] => noImage d

def execImageVerifyDone (s : State) : Host.Outcome State Fault Refusal := run imageVerifyDone s

/-- A write of RELEASE ends HOLD, or ends WAIT_HOST with the policy chosen (R90, R95). -/
def bootRelease (policy : Nat) (d : Dev) : Dev :=
  match d.boot.stage with
  | .hold => startImageLoad d
  | .waitHost => if policy = 1 ∨ policy = 2 then applyPolicy policy d else d
  | _ => d


/-- Replay completes (R97): IDLE, READY with BOOT_DONE, and the latched attach events in the order C0, C1, S0-S3. A boot that
saw a rail timeout raises RAIL_FAIL (Table 4-15). -/
def replayDone (d : Dev) : Dev :=
  if d.boot.stage ≠ .replay then d
  else
    let d := onAon (fun a => { a with power := .idle }) d
    let d := onBoot (fun b => { b with bootDone := true, bootTime := (d.now - b.startAt) / 1000 }) d
    let d := enterStage .ready d
    let d := if d.aon.railSawTimeout then eventAlarm 20 d else d
    let latched := d.boot.latched
    let d := startPlanes (onBoot (fun b => { b with latched := 0 }) d)
    let d := (List.range 2).foldl (fun d n => if latched.getLsbD n then latchedAttach n d else d) d
    let d := (List.range 4).foldl (fun d s => if latched.getLsbD (2 + s) then latchedSlot s d else d) d
    followTarget d

def execReplayDone (s : State) : Host.Outcome State Fault Refusal := run replayDone s

/-! ### DORMANT and waking (R67-R70, R74-R79, R99, R100) -/

/-- In DORMANT C0 and C1 present Rd, and for 10 ms of every 100 ms Rp at the Default level; a port that reads WET has its window
suppressed (R67, R69). -/
def rpWindow (opens : Bool) (d : Dev) : Dev :=
  if !isDormant d then d
  else
    let d := onAon (fun a => { a with rpWindow := opens }) d
    let show_ (n : Nat) (sup : Bool) (d : Dev) : Dev :=
      emit (.cc (Fin.ofNat 8 n) (if opens && !sup then 2 else 1)) d
    show_ 1 d.aon.rpSuppress1 (show_ 0 d.aon.rpSuppress0 d)

def execDormantRpWindow (opens : Bool) (s : State) : Host.Outcome State Fault Refusal := run (rpWindow opens) s

/-- The guard checks C0 and C1 in DORMANT, with the WET state and the count of dry checks of R200; a result is never a wake
event (R69). WET_KOHM was cleared with its domain, so its default is the threshold (log entry 26). -/
def dormantMoisture (k0 k1 : Nat) (d : Dev) : Dev :=
  if !isDormant d then d
  else
    let w0 := wetNext (cfg d 0x2300 0) k0 d.aon.rpSuppress0 d.aon.dryChecks0
    let w1 := wetNext (cfg d 0x2300 0) k1 d.aon.rpSuppress1 d.aon.dryChecks1
    onAon (fun a => { a with rpSuppress0 := w0.1, dryChecks0 := w0.2, rpSuppress1 := w1.1, dryChecks1 := w1.2 }) d

def execDormantMoistureCheck (kohm0 kohm1 : Nat) (s : State) : Host.Outcome State Fault Refusal :=
  run (dormantMoisture kohm0 kohm1) s

/-- A wake event by source bit `i`, with further bits that came in the same AON tick (R70, R99, R100): latched while the
rails still discharge, and otherwise recorded and booted from. -/
def wake (i : Nat) (also : BitVec 6) (d : Dev) : Dev :=
  if !isDormant d || d.aon.resetNLow || d.aon.window.isSome || !d.aon.wakeEnable.getLsbD i then d
  else
    let bitsv : BitVec 6 := (BitVec.ofNat 6 (2 ^ i) ||| also) &&& d.aon.wakeEnable
    if armed .latchedBoot d && !due .latchedBoot d then
      onAon (fun a => { a with wakeLatch := a.wakeLatch ||| bitsv }) d
    else bootFromWake (onAon (fun a => { a with lastWake := (bitsv ||| a.wakeLatch).zeroExtend 8 }) d)

/-- Whether C0 or C1 presents Rp in DORMANT, and so its CC comparators run: in the Rp window, unless it is suppressed (R67,
R69). -/
def comparatorsRun (d : Dev) (n : Nat) : Bool := d.aon.rpWindow && !(if n = 0 then d.aon.rpSuppress0 else d.aon.rpSuppress1)

/-- An attach on C0 or C1 in DORMANT, which boot latches for READY (R70, R97): VBUS above 4.0 V, or Rd seen during the Rp
window (Table 3-3). -/
def wakeAttach (n : Nat) (vbus : Bool) (d : Dev) : Dev :=
  if !(vbus || comparatorsRun d n) then d
  else
    let d' := wake n 0 d
    if isDormant d && !d.aon.resetNLow && d.aon.wakeEnable.getLsbD n then
      onBoot (fun b => { b with latched := b.latched ||| BitVec.ofNat 6 (2 ^ n) }) d' else d'

def execWakeCAttach (a : CAttach) (s : State) : Host.Outcome State Fault Refusal := run (wakeAttach a.port.val a.vbus) s
def execWakeNg (s : State) : Host.Outcome State Fault Refusal := run (wake 2 0) s
def execWakePpsIn (s : State) : Host.Outcome State Fault Refusal := run (wake 3 0) s

/-- A falling edge of HCS_N wakes while VDDIO_H is in range; the transaction is not answered (Table 3-3). -/
def execWakeHcsN (s : State) : Host.Outcome State Fault Refusal :=
  run (fun d => if d.aon.bankH then wake 4 0 d else d) s

def execDormantTimerExpiry (also : BitVec 6) (s : State) : Host.Outcome State Fault Refusal :=
  run (onExpiry .dormant (wake 5 also)) s

/-- R99: 5 ms after PWR_EN fell, a wake latched meanwhile starts boot. -/
def latchedBoot (d : Dev) : Dev :=
  if d.aon.wakeLatch = 0 then d
  else bootFromWake (onAon (fun a => { a with lastWake := a.wakeLatch.zeroExtend 8 }) d)

def execWakeLatchedBoot (s : State) : Host.Outcome State Fault Refusal := run (onExpiry .latchedBoot latchedBoot) s

/-- Every subscriber of STATE is notified with 3 (R74 step 1). -/
def notifyDormant (d : Dev) : Dev :=
  (d.od.subs.filter fun x => x.object == 0x14 && x.element == 0).foldl
    (fun d x => sendNotify x.sess 0x14 0 x.via false [3] d) d

/-- DORMANT entry (R74): subscribers are told, the journal is flushed, the wake configuration goes to AON, the domains stop
and PWR_EN falls. What the stopped domains held is lost as in a SYS reset (log entry 8); a port that reads WET goes on
reading WET (R69). -/
def dormantEntry (d : Dev) : Dev :=
  if d.boot.stage ≠ .ready ∨ d.aon.power ≠ .idle ∨ d.boot.leaving ∨ cfg d 0x14 1 ≠ 3 ∨ dormantBlock d ≠ 0 then d
  else
    let d := notifyDormant d
    let d := flushJournal d
    let wakeEnable := BitVec.ofNat 6 (cfg d 0x14 3)
    let dt := cfg d 0x14 4
    let c0 := cable d 0
    let c1 := cable d 1
    let d := stopDomains d
    let d := onAon (fun a =>
      { a with wakeEnable := wakeEnable, dormTimer := dt, power := .dormant, pwrEn := false, coreOk := false,
               serOk := false, hkOk := false, wakeLatch := 0, fanPullDown := true, rpWindow := false, dbRp := none,
               rpSuppress0 := c0.guard == .wet, dryChecks0 := c0.dryCount,
               rpSuppress1 := c1.guard == .wet, dryChecks1 := c1.dryCount }) d
    arm .latchedBoot (5 * ms) (startDormantTimer (presentUnpowered (enterStage .down d)))

def execDormantEntry (s : State) : Host.Outcome State Fault Refusal := run dormantEntry s

/-- VBUS above 4.0 V on C0 or C1 with VSYS below the POR threshold (R76, R77): AON POR is released from the pre-regulator and
the strap window opens; C0 is taken when both qualify. The sink debounce of that port runs; its length is the Type-C
standard's, so the event itself says when it ends (log entry 9). -/
def deadBatteryStart (vbus0 vbus1 : Nat) (rp : RpLevel) (d : Dev) : Dev :=
  if aonRuns d || (decide (vbus0 ≤ 4000) && decide (vbus1 ≤ 4000)) then d
  else
    let port : Fin 2 := if 4000 < vbus0 then 0 else 1
    let d := onAon (fun a =>
      { a with preReg := true, dbPort := some port, dbClosed := false, dbRp := some rp, lastReset := .por, lastWake := 0x40,
               railSawTimeout := false }) d
    arm .xtal sec (openWindow true (onBoot (fun b => { b with startAt := d.now }) d))

def execDeadBatteryStart (vbus0 vbus1 : Nat) (rp : RpLevel) (s : State) : Host.Outcome State Fault Refusal :=
  run (deadBatteryStart vbus0 vbus1 rp) s

/-- The debounce ends: the port's gates are closed from the pre-regulator charge pump (R76). -/
def deadBatteryClose (d : Dev) : Dev :=
  match d.aon.dbPort with
  | some n =>
    if d.aon.preReg && !d.aon.dbClosed then
      setCable n.val (fun c => { c with gateOn := true }) (onAon (fun a => { a with dbClosed := true }) d)
    else d
  | none => d

def execDeadBatterySinkClose (s : State) : Host.Outcome State Fault Refusal := run deadBatteryClose s

/-- VSYS reaches 3.0 V once the gates are closed: AON moves to it, and boot goes on at the rails step once the window is
closed (R76). -/
def vsysTakeover (d : Dev) : Dev :=
  if !d.aon.preReg || !d.aon.dbClosed then d
  else
    let d := onAon (fun a => { a with preReg := false }) d
    if d.aon.window.isSome || d.aon.resetNLow then d else startRails d

def execVsysTakeover (s : State) : Host.Outcome State Fault Refusal := run vsysTakeover s

/-! ### TARGET, IDLE and ACTIVE (R71-R73) -/

/-- R71: IDLE_HOLD has passed without activity under AUTO. -/
def idleHold (d : Dev) : Dev :=
  if d.boot.stage = .ready ∧ d.aon.power = .active ∧ cfg d 0x14 1 = 0 ∧ !activity d then leaveActive d else d

def execIdleHoldExpiry (s : State) : Host.Outcome State Fault Refusal := run (onExpiry .idleHold idleHold) s

/-- R73: one millisecond after leaving ACTIVE, what is still queued is dropped. -/
def drainTimeout (d : Dev) : Dev := drainDrop (onBoot (fun b => { b with leaving := false }) d)

def execActiveDrainTimeout (s : State) : Host.Outcome State Fault Refusal := run (onExpiry .drain drainTimeout) s

end Sys2Proof.Machine
end

