-- ==== Sys2Proof/Machine/Bundles.lean ====
section
/-! DEFINITION. Bundles at their cycle start, and the start of a schedule cycle (R131-R133, R152, R153, R358, R372). -/

namespace Sys2Proof.Machine

/-- The schedule cycle count of the first cycle start at least `ns` from now (R131). -/
def firstCycleAfter (d : Dev) (ns : Nat) : Nat :=
  let p : Int := cyclePeriod d
  toTwos 32 ((schedNs d + ns + p - 1) / p)

/-- The writes of a bundle in their places, on the device that the earlier ones leave: the device after the last, or the first
failing status and its index (R132). -/
def bundleWrites (s : Nat) : List BWrite → Nat → Dev → Except (Nat × Nat) Dev
  | [], _, d => .ok d
  | w :: ws, i, d =>
    let st := odVerify d s w.role w.object w.element w.value
    if st = stOk then bundleWrites s ws (i + 1) (odPerform d s w.object w.element w.value) else .error (st, i)

/-- The persistent values of a bundle as they are after it applied (R148). -/
def bundleValues (ws : List BWrite) (d : Dev) : List (Nat × Nat × List Byte) :=
  (ws.filter fun w => isPersistent d w.object w.element).map fun w =>
    (w.object, w.element, leBytes w.value.length (cfg d w.object w.element))

/-- What 0x1030 of the session says of its last bundle, where that is the one that came due (Table 4-14). -/
def bundleReport (b : Scheduled) (state result index : Nat) (d : Dev) : Dev :=
  let x := sessionOf d b.sess
  if x.bState = 2 ∧ x.bSerial = b.serial then
    setSession b.sess (fun x => { x with bState := state, bResult := result, bFail := index }) d
  else d

/-- A bundle comes due (R132, R148): all of its writes take effect, with one journal group, or none does. -/
def applyBundle (d : Dev) (b : Scheduled) : Dev :=
  match bundleWrites b.sess b.writes 0 d with
  | .error (st, i) => bundleReport b 4 st i d
  | .ok d' =>
    let d' := bundleReport b 3 stOk 0 d'
    let vals := bundleValues b.writes d'
    if vals = [] then d' else noteChange { values := vals, group := true } d'

/-- Whether a bundle's cycle start has come: its count is the present one, or one that a jump of schedule time passed over
since the cycle start before. -/
def bundleDue (d : Dev) (b : Scheduled) : Bool :=
  let count := cycleCount d
  let span := (count + 2 ^ 32 - d.tm.cycleIndex) % 2 ^ 32
  decide ((count + 2 ^ 32 - b.cycle) % 2 ^ 32 < (if span < 2 ^ 31 then span else 1))

/-- The bundles that are due apply, in the order of their commits (R133). -/
def applyBundles (d : Dev) : Dev :=
  if !odServes d then d
  else
    let dueNow := d.od.scheduled.filter (bundleDue d)
    let d := onOd (fun o => { o with scheduled := o.scheduled.filter fun b => !bundleDue d b }) d
    dueNow.foldl applyBundle d

/-- Time passes until the next cycle start, unless one has come already. -/
def toNextStart (d : Dev) : Dev :=
  if startDue d then d else passSched (schedNs d - cycleInto d + cyclePeriod d) d

/-- SCHEDULE_CYCLE_START (R358): schedule time has entered another cycle; the due bundles apply, and then the shadows take
effect with the rest of the cycle's beginning. -/
def scheduleCycleStart (d : Dev) : Dev :=
  if !ttbRuns d then d
  else cycleBegin (applyBundles (toNextStart d))

def execScheduleCycleStart (s : State) : Host.Outcome State Fault Refusal := run scheduleCycleStart s

end Sys2Proof.Machine
end

