-- ==== Sys2Proof/Machine/Zop.lean ====
section
/-! DEFINITION. The object dictionary engine: how a request is admitted, checked and executed exactly once, and the commands
of chapter 4 that are requests (R1-R4, R8, R105-R153). -/

namespace Sys2Proof.Machine

/-! ### Admission and exactly-once -/

/-- What a request's execution answers: status, payload, and whether the response carries no tag whatever the session
holds (R119). -/
structure Answer where
  status  : Nat
  payload : List Byte
  plain   : Bool
  deriving DecidableEq, Repr

/-- An answer with a status alone, and OK with a payload. -/
def ans (status : Nat) : Answer := ⟨status, [], false⟩
@[inherit_doc ans] def ansOk (payload : List Byte) : Answer := ⟨stOk, payload, false⟩

/-- Where a request stands against its session's sequence state (R123). -/
inductive SeqCase where
  | replay | ahead (d : Nat) | done (i : Nat) | behind (i : Nat) | stale
  deriving DecidableEq, Repr

/-- R123: the case of sequence `seq`; all arithmetic is modulo 65,536. -/
def seqCase (ses : Session) (seq : Half) : SeqCase :=
  let d := (seq - ses.highest).toNat
  if d = 0 then .replay
  else if d ≤ 32767 then .ahead d
  else if 65536 - d ≤ 31 then (if ses.window.getLsbD (65536 - d) then .done (65536 - d) else .behind (65536 - d))
  else .stale

/-- The session after a request executed under the second case of R123: HIGHEST, window, statuses and cache (R124). -/
def seqAdvance (d : Nat) (seq : Half) (status : Nat) (octets : List Byte) (ses : Session) : Session :=
  { ses with
    highest := seq
    window := (ses.window <<< d) ||| 1
    statuses := (BitVec.ofNat 8 status :: (List.replicate (min (d - 1) 31) (0 : Byte) ++ ses.statuses)).take 32
    cache := if octets.length ≤ 64 then .full octets else .long (BitVec.ofNat 8 status) }

/-- The session after a request executed under the fourth case of R123: HIGHEST and the cache stand. -/
def seqFill (i status : Nat) (ses : Session) : Session :=
  { ses with window := ses.window ||| (1 <<< i), statuses := modifyNth ses.statuses i fun _ => BitVec.ofNat 8 status }

/-- Whether a status is recorded in the window (Table 4-6); INTEGRITY is, on SESSION_PROVE element 1. -/
def recorded (status : Nat) : Bool :=
  status != stDuplicate && status != stBusy && status != stStale && status != stDeadline && status != stSession

/-- The mailbox request buffer holds exactly this request, and the doorbell has handed it over (R165). -/
def mailboxHolds (q : ZReq) (opcode : Byte) (d : Dev) : Bool :=
  d.hw.mbxBusy && readBytes 0 d.hw.reqBuf 0 d.hw.mbxLen == reqOctets q opcode

/-- Whether the VLAN of a datagram's frame is that of the management address (R143, R446). -/
def onMgmtVlan (d : Dev) (port tag : Nat) : Bool :=
  match vlanIngress d port tag with
  | .vid v => cfg d 0x1000 3 == 0 || v == cfg d 0x1000 3
  | _ => false

/-- R143: whether the device accepts a datagram; UDP ZOP stays off without a valid BASE_MAC (R593). -/
def udpAccepts (d : Dev) (port : Nat) (v6 : Bool) (dst : Nat) (dstPort tag : Nat) : Bool :=
  cfg d 0x1000 0 == 1 && baseMacValid d && dstPort == 47121
    && (if v6 then cfg d 0x1000 2 != 0 && beBytes 16 dst == leBytes 16 (cfg d 0x1000 2)
        else cfg d 0x1000 1 != 0 && dst == cfg d 0x1000 1)
    && onMgmtVlan d port tag
    && ((decide (port < 8) && (cable d port).pod == .linkUp) || (decide (8 ≤ port) && decide (port ≤ 12)))
    && hasPort d port

/-- Whether a frame received on the port reaches the device: the fabric switches, and the port runs (R32, R65, R86). -/
def frameArrives (d : Dev) (port : Nat) : Bool :=
  fabricRuns d && !d.fab.resetting && portUp d port && (port != 12 || d.aon.bankH)

/-- The message of a request as it waits in the bus's inbox. -/
def ngMsgOf (q : ZReq) (opcode : Byte) (chB : Bool) (id : Nat) : NgMsg := { chB := chB, id := id, octets := reqOctets q opcode }

/-- Whether a request reaches the engine on its transport (R115, R143, R144, R146, R165): from the bus, out of a frame that was
taken; from a pod, as a Structured VDM of its cable port. -/
def reaches (q : ZReq) (opcode : Byte) (d : Dev) : Bool :=
  odServes d &&
  match q.via with
  | .mailbox => mailboxHolds q opcode d
  | .udp port v6 _ _ dstPort dst tag _ =>
    udpAccepts d port.val v6 dst.toNat dstPort.toNat (tag.getD 0).toNat && frameArrives d port.val
  | .nguzo chB id => d.ng.inbox.contains (ngMsgOf q opcode chB id.toNat)
  | .pd n id => cfg d 0x1000 5 == 1 && pdHears d n.val id

/-- The engine takes a request off its transport: out of the bus's inbox, or with GoodCRC on PD (R144, R253). -/
def takeRequest (q : ZReq) (opcode : Byte) (d : Dev) : Dev :=
  match q.via with
  | .nguzo chB id => onNg (fun n => { n with inbox := n.inbox.erase (ngMsgOf q opcode chB id.toNat) }) d
  | .pd n id => pdReceive n.val id (fun d => d) d
  | _ => d

/-- Whether the message is an IP fragment, dropped and counted in MALFORMED (R143). -/
def isFragment (q : ZReq) : Bool :=
  match q.via with
  | .udp _ _ _ _ _ _ _ f => f
  | _ => false

/-- Count a service counter of 0x1020. -/
def countOd (f : Od → Od) (d : Dev) : Dev := onOd f d

/-- A message discarded without a response (R111, R167). -/
def discard (q : ZReq) (d : Dev) : Dev :=
  let d := onOd (fun o => { o with malformed := o.malformed + 1 }) d
  match q.via with
  | .mailbox => mailboxDone [] d
  | _ => d

/-- Send an answer that executed nothing and is not recorded (R125). INTEGRITY carries no tag (R120), nor does any message on the
mailbox or PD (Table 4-8). -/
def refuse (q : ZReq) (opcode : Byte) (status aux : Nat) (d : Dev) : Dev :=
  let ks := if status == stIntegrity || neverTagged q.via then none else (sessionOf d (reqSession q)).ks
  let d := onOd (fun o =>
    { o with stale := o.stale + b2n (status == stStale), busy := o.busy + b2n (status == stBusy),
             integrity := o.integrity + b2n (status == stIntegrity),
             sessionCnt := o.sessionCnt + b2n (status == stSession),
             duplicate := o.duplicate + b2n (status == stDuplicate) }) d
  sendOctets q.via (responseOctets q opcode status aux [] ks) d

/-- R120: whether the tag rules refuse a request of a roaming session. -/
def tagFails (q : ZReq) (opcode : Byte) (d : Dev) : Bool :=
  let s := reqSession q
  isRoaming d s &&
  match (sessionOf d s).ks with
  | some k => !(reqTagged q && q.tag == tagOf k (reqBody q opcode))
  | none => reqTagged q

/-- The longest service time since clear takes in this request's (R27); the time itself is a free value within the bound
of Table 1-4 (log entry 3). -/
def noteService (d : Dev) : Dev :=
  { onOd (fun o => { o with watchOd := max o.watchOd (Config.openFigure "OD service time" d.free % 2000001) }) d with
    free := d.free + 1 }

/-- What an executed request leaves beside its own effect: the EXECUTED count, LAST_TRANSPORT and the idle time of a
roaming session (R117). -/
def noteExecuted (q : ZReq) (d : Dev) : Dev :=
  let s := reqSession q
  let d := noteService (onOd (fun o => { o with executed := o.executed + 1 }) d)
  let d := if sessionOpen d s then setSession s (fun x => { x with lastVia := viaCode q.via }) d else d
  if isRoaming d s && (sessionOf d s).isOpen then arm (.sessionIdle s) (cfg d 0x1000 6 * sec) d else d

/-- A request that passed every check before execution: the exactly-once rules of R123 to R125. `act` answers and changes
the device. A response that would not fit the transport is RANGE with nothing executed (R112). -/
def execOnce (q : ZReq) (opcode : Byte) (act : Nat → ZReq → Dev → Answer × Dev) (d : Dev) : Dev :=
  let s := reqSession q
  let ses := sessionOf d s
  let run (note : Nat → List Byte → Session → Session) : Dev :=
    let r := act s q d
    let a := r.1
    let octets := responseOctets q opcode a.status 0 a.payload (if a.plain then none else ses.ks)
    if maxMessage q.via < octets.length then
      sendOctets q.via (responseOctets q opcode stRange 0 [] ses.ks) d
    else if recorded a.status then
      let d' := noteExecuted q (onOd (fun o => { o with integrity := o.integrity + b2n (a.status == stIntegrity) }) r.2)
      let d' := if sessionOpen d' s then setSession s (note a.status octets) d' else d'
      sendOctets q.via octets d'
    else refuse q opcode a.status 0 r.2
  match seqCase ses q.seq with
  | .replay =>
    match ses.cache with
    | .full octets => sendOctets q.via octets d
    | .long st => refuse q opcode stDuplicate st.toNat d
    | .empty => refuse q opcode stDuplicate (ses.statuses.headD 0x1C).toNat d
  | .ahead n => run fun st octets x => seqAdvance n q.seq st octets x
  | .done i => refuse q opcode stDuplicate ((ses.statuses[i]?).getD 0x1C).toNat d
  | .behind i => run fun st _ x => seqFill i st x
  | .stale => refuse q opcode stStale 0 d

/-- R115: whether a request names a session that serves it on its transport. Session 0 answers SESSION while BOOT_DONE is 1
(R84). -/
def sessionServes (q : ZReq) (d : Dev) : Bool :=
  let s := reqSession q
  s != 1 && sessionOpen d s && boundRight d s q.via && !(s == 0 && d.boot.bootDone)

/-- A request taken off its transport, up to its execution. -/
def serveRequest (opcode : Byte) (act : Nat → ZReq → Dev → Answer × Dev) (q : ZReq) (d : Dev) : Dev :=
  if isFragment q || malformed q opcode then discard q d
  else if admissionBusy q opcode then refuse q opcode stBusy 0 d
  else if !sessionServes q d then refuse q opcode stSession 0 d
  else if tagFails q opcode d then refuse q opcode stIntegrity 0 d
  else execOnce q opcode act d

/-- A request as it reaches the engine. -/
def zopRequest (opcode : Byte) (act : Nat → ZReq → Dev → Answer × Dev) (q : ZReq) (d : Dev) : Dev :=
  if reaches q opcode d then serveRequest opcode act q (takeRequest q opcode d) else takeRequest q opcode d

/-! ### READ and WRITE -/

/-- R109: the descriptor of an element that exists (Table 4-2, R630). -/
def Ty.code : Ty → Nat
  | .bool => 1 | .u8 => 2 | .u16 => 3 | .u32 => 4 | .u64 => 5 | .i16 => 6 | .i32 => 7 | .q16 => 8 | .enum => 9
  | .bitset _ => 0x0A | .time64 => 0x0B | .octets _ => 0x0C | .string _ => 0x0D

@[inherit_doc Ty.code] def descriptor (d : Dev) (s obj el : Nat) (e : Elem) : List Byte :=
  let r := match objAt obj with
    | some (k, n) => rangeInForce d s k n obj el e
    | none => (e.lo, e.hi)
  let ranged := match e.ty with
    | .octets _ | .string _ | .u64 | .time64 => false
    | .bitset n => decide (n ≤ 4)
    | _ => true
  let lo := if ranged then toTwos 32 r.1 else 0
  let hi := if ranged then toTwos 32 r.2 else 0
  let nx := nextElement d obj el
  [BitVec.ofNat 8 e.ty.code] ++ leBytes 2 e.ty.size ++ [BitVec.ofNat 8 e.rd, BitVec.ofNat 8 e.wr]
    ++ [BitVec.ofNat 8 (odFlags obj el e)] ++ leBytes 4 lo ++ leBytes 4 hi ++ leBytes 2 nx.1 ++ leBytes 1 nx.2

/-- The next existing element as the 3-octet payload of R109. -/
def nextPayload (d : Dev) (obj el : Nat) : List Byte :=
  let nx := nextElement d obj el
  leBytes 2 nx.1 ++ leBytes 1 nx.2

/-- READ (R1, R2, R109, R114, R138, R631). Under HALT only Observer reads are served (R95). A payload is TYPE whatever the READ
names (log entry 29). -/
def doRead (s : Nat) (q : ZReq) (d : Dev) : Answer × Dev :=
  let obj := q.object.toNat
  let el := q.element.toNat
  if q.payload ≠ [] then (ans stType, d)
  else
    let st := odStatus d obj el
    if odBusy d obj false then (ans stBusy, d)
    else if st ≠ stOk then
      if reqDescribe q && st != stAbsent then (⟨st, nextPayload d obj el, false⟩, d) else (ans st, d)
    else
      match odElem d obj el with
      | none => (ans stNoElement, d)
      | some e =>
        if reqDescribe q then (ansOk (descriptor d s obj el e), d)
        else if !mayRead d (roleOf d s) e then (ans stAccess, d)
        else
          let r := odRead d s obj el
          (⟨r.1, r.2.1, false⟩, r.2.2)

/-- WRITE (R108, R114, R138, R139). -/
def doWrite (s : Nat) (q : ZReq) (d : Dev) : Answer × Dev :=
  let obj := q.object.toNat
  let el := q.element.toNat
  let st := odVerify d s (roleOf d s) obj el q.payload
  if st = stOk then (ans stOk, odWriteNow d s obj el q.payload) else (ans st, d)

/-! ### Bundles (R129-R135) -/

/-- Open bundles of the device. -/
def openBundles (d : Dev) : Nat := (d.od.sessions.filter fun x => x.2.bundle.isSome).length

/-- BUNDLE_OPEN (R129). The lifetime is the value in force now (R135). -/
def doBundleOpen (s : Nat) (q : ZReq) (d : Dev) : Answer × Dev :=
  if q.payload ≠ [] then (ans stType, d)
  else if (sessionOf d s).bundle.isSome ∨ 64 ≤ openBundles d then (ans stBundleFull, d)
  else (ans stOk, arm (.bundle s) (cfg d 0x1000 7 * ms)
    (setSession s (fun x => { x with bundle := some [], bState := 1, bApply := 0, bResult := 0, bFail := 0 }) d))

/-- A bundle with one write added, or the value of an earlier add replaced in its place (R130). -/
def bundlePut (w : BWrite) : List BWrite → List BWrite
  | [] => [w]
  | x :: l => if x.object == w.object && x.element == w.element then w :: l else x :: bundlePut w l

/-- BUNDLE_ADD (R3, R129, R130). -/
def doBundleAdd (s : Nat) (q : ZReq) (d : Dev) : Answer × Dev :=
  match (sessionOf d s).bundle with
  | none => (ans stStale, d)
  | some ws =>
    let obj := q.object.toNat
    let el := q.element.toNat
    let w : BWrite := { object := obj, element := el, value := q.payload, role := roleOf d s }
    let ws' := bundlePut w ws
    let st := odVerify d s (roleOf d s) obj el q.payload
    if st = stBusy ∨ st = stNoObject ∨ st = stNoElement ∨ st = stAbsent ∨ st = stAccess then (ans st, d)
    else if 32 < q.payload.length then (ans stRange, d)
    else if st ≠ stOk then (ans st, d)
    else if 32 < ws'.length then (ans stBundleFull, d)
    else (ans stOk, setSession s (fun x => { x with bundle := some ws' }) d)

/-- BUNDLE_COMMIT (R131, R135): for the first cycle start at least 50 µs away, or for CYCLE, compared modulo 2^32. -/
def doBundleCommit (s : Nat) (q : ZReq) (d : Dev) : Answer × Dev :=
  if q.payload.length ≠ 0 ∧ q.payload.length ≠ 4 then (ans stType, d)
  else
    match (sessionOf d s).bundle with
    | none => (ans stStale, d)
    | some ws =>
      let e := firstCycleAfter d (50 * us)
      let cyc := if q.payload.length = 4 then leNat q.payload else e % 2 ^ 32
      let ahead := (cyc + 2 ^ 32 - e % 2 ^ 32) % 2 ^ 32
      if 2 ^ 31 < ahead then (ans stRange, d)
      else if 16 ≤ d.od.scheduled.length then (ans stBundleFull, d)
      else
        let k := d.od.commits + 1
        let d := disarm (.bundle s) d
        let d := setSession s (fun x =>
          { x with bundle := none, bState := 2, bApply := cyc, bResult := 0, bFail := 0, bSerial := k }) d
        let d := onOd (fun o =>
          { o with commits := k, scheduled := o.scheduled ++ [{ sess := s, serial := k, cycle := cyc, writes := ws }] }) d
        (ansOk (leBytes 4 cyc), d)

/-- The list without its last element that satisfies `p`. -/
def eraseLast {α : Type} (p : α → Bool) (l : List α) : List α := (eraseFirst p l.reverse).reverse

/-- BUNDLE_ABORT (R134): the open bundle, else the session's most recently committed one that is still scheduled. -/
def doBundleAbort (s : Nat) (q : ZReq) (d : Dev) : Answer × Dev :=
  if q.payload ≠ [] then (ans stType, d)
  else if (sessionOf d s).bundle.isSome then (ans stOk, discardBundle s d)
  else if d.od.scheduled.any fun b => b.sess == s then
    (ans stOk,
      setSession s (fun x => { x with bState := 0, bApply := 0, bResult := 0, bFail := 0 })
        (onOd (fun o => { o with scheduled := eraseLast (fun b => b.sess == s) o.scheduled }) d))
  else (ans stStale, d)

/-! ### Subscriptions (R141, R142) -/

/-- The subscription of a session to an element. -/
def isSub (s obj el : Nat) (x : Sub) : Bool := x.sess == s && x.object == obj && x.element == el

/-- Cancel a subscription. -/
def cancelSub (s obj el : Nat) (d : Dev) : Dev :=
  disarm (.notify s obj el) (onOd (fun o => { o with subs := o.subs.filter fun x => !isSub s obj el x }) d)

/-- SUBSCRIBE (R4, R141). MODE 0 needs no role: it cancels what the session has, if anything. A payload of another length is
TYPE whatever it names (log entry 29). -/
def doSubscribe (s : Nat) (q : ZReq) (d : Dev) : Answer × Dev :=
  let obj := q.object.toNat
  let el := q.element.toNat
  if q.payload.length ≠ 4 then (ans stType, d)
  else
    let mode := leNat (q.payload.take 1)
    let interval := leNat (q.payload.drop 2)
    let st := if mode = 0 then odThere d obj el else odMayRead d (roleOf d s) obj el
    if st ≠ stOk then (ans st, d)
    else if mode = 0 then (ans stOk, cancelSub s obj el d)
    else
      match odElem d obj el with
      | none => (ans stNoElement, d)
      | some e =>
        if 2 < mode then (ans stRange, d)
        else if !bit (odFlags obj el e) 1 then (ans stAccess, d)
        else if 60000 < interval ∨ (mode = 2 ∧ interval < 10) then (ans stRange, d)
        else
          let others := d.od.subs.filter fun x => !isSub s obj el x
          if 64 ≤ (others.filter fun x => x.sess == s).length ∨ 4096 ≤ others.length then (ans stBundleFull, d)
          else
            let sub : Sub := { sess := s, object := obj, element := el, periodic := mode == 2, interval := interval,
                               via := q.via, seen := (odRead d s obj el).2.1, changed := false, merged := false }
            let d := disarm (.notify s obj el) (onOd (fun o => { o with subs := others ++ [sub] }) d)
            (ans stOk, if mode = 2 then arm (.notify s obj el) (interval * ms) d else d)

/-! ### Sessions (R116-R122) -/

/-- The response payload of SESSION_OPEN (Table 4-5). -/
def openPayload (d : Dev) (s : Nat) (resumed : Bool) : List Byte :=
  leBytes 2 (sessionOf d s).highest.toNat ++ leBytes 1 (roleOf d s).code ++ leBytes 1 (b2n resumed)

/-- SESSION_OPEN, which is not checked against the window and is never stored (R116, R118). A session number at or beyond the
capacity is refused with SESSION (R8). -/
def openAnswer (q : ZReq) (d : Dev) : Answer × Dev :=
  let s := reqSession q
  let ses := sessionOf d s
  if q.payload.length ≠ 8 then (ans stType, d)
  else if s < 10 then (ansOk (openPayload d s true), d)
  else if !ses.isOpen then
    let d' := setSession s (fun _ => { Session.fresh with isOpen := true, clientId := q.payload }) d
    (ansOk (openPayload d' s false), d')
  else if ses.clientId = q.payload then (ansOk (openPayload d s true), d)
  else (ans stSession, d)

/-- SESSION_OPEN taken off its transport. -/
def serveOpen (q : ZReq) (d : Dev) : Dev :=
  let opcode := opSessionOpen
  let s := reqSession q
  if isFragment q || malformed q opcode then discard q d
  else if admissionBusy q opcode then refuse q opcode stBusy 0 d
  else if !boundRight d s q.via || s == 1 || (decide (s < 10) && !sessionServes q d) then refuse q opcode stSession 0 d
  else if tagFails q opcode d then refuse q opcode stIntegrity 0 d
  else
    let r := openAnswer q d
    if recorded r.1.status then
      let d' := if r.1.status == stOk then noteExecuted q r.2 else r.2
      sendOctets q.via (responseOctets q opcode r.1.status 0 r.1.payload (sessionOf d s).ks) d'
    else refuse q opcode r.1.status 0 r.2

/-- SESSION_OPEN as it reaches the engine. -/
def sessionOpenRequest (q : ZReq) (d : Dev) : Dev :=
  if reaches q opSessionOpen d then serveOpen q (takeRequest q opSessionOpen d) else takeRequest q opSessionOpen d

/-- SESSION_CLOSE (R117, R118). -/
def doSessionClose (s : Nat) (q : ZReq) (d : Dev) : Answer × Dev :=
  if q.payload ≠ [] then (ans stType, d)
  else if s = 0 then
    (ans stOk, setSession 0 (fun x => { x with role := if d.otp.lifecycle = 2 then .observer else x.role })
      (dropSessionState 0 d))
  else if s < 10 then (ans stAccess, d)
  else (ans stOk, closeSession s d)

/-- Whether a request came over UDP through a cable port under profile 0, which grants Observer alone (R216). -/
def fromUnproved (d : Dev) (q : ZReq) : Bool :=
  match q.via with
  | .udp port _ _ _ _ _ _ _ => decide (port.val < 8) && (cable d port.val).profileId == 0
  | _ => false

/-- Whether a session can prove a role with this request (R122, R216). -/
def canProve (d : Dev) (s : Nat) (q : ZReq) : Bool :=
  (isRoaming d s || (s == 0 && decide (2 ≤ d.otp.lifecycle))) && !fromUnproved d q

/-- Whether the proof lockout is in force (R121): until its end has passed. -/
def lockoutOn (d : Dev) : Bool := d.od.lockout

/-- SESSION_PROVE element 0 (R119, R121, R122): a fresh nonce ND, or BUSY during a lockout. A ROLE outside 1 to 3 or a KEY_SLOT
above 1 answers RANGE, which the spec does not name (DESIGN CHOICE, log entry 31). -/
def doChallenge (s : Nat) (q : ZReq) (d : Dev) : Answer × Dev :=
  if !canProve d s q then (ans stAccess, d)
  else if q.payload.length ≠ 10 then (ans stType, d)
  else if lockoutOn d then (ans stBusy, d)
  else
    let role := leNat (q.payload.take 1)
    let slot := leNat ((q.payload.drop 1).take 1)
    if role < 1 ∨ 3 < role ∨ 1 < slot then (ans stRange, d)
    else
      let r := drawFree d
      let nd := leBytes 16 r.1.toNat
      let ch : Challenge := { role := role, keySlot := slot, nc := q.payload.drop 2, nd := nd }
      (ansOk nd, arm (.nonce s) (10 * sec) (setSession s (fun x => { x with challenge := some ch }) r.2))

/-- A failed proof (R119, R121): counted, the ND used up, and a lockout of 60 s from the failure that completes eight
within 60 s. -/
def proofFailed (s : Nat) (d : Dev) : Dev :=
  let d := disarm (.nonce s) (setSession s (fun x => { x with challenge := none }) d)
  let times := slide d.od.failTimes d.now
  let d := onOd (fun o => { o with proofFails := o.proofFails + 1, failTimes := times }) d
  if 8 ≤ times.length then arm .lockout (60 * sec) (onOd (fun o => { o with lockout := true }) d) else d

/-- The MACs of the proof: `label || s || r || NC || ND || UID`, and the session key without role and UID. -/
def proofText (label : List Byte) (d : Dev) (s : Nat) (c : Challenge) : List Byte :=
  label ++ leBytes 2 s ++ leBytes 1 c.role ++ c.nc ++ c.nd ++ uid d
@[inherit_doc proofText] def sessionText (s : Nat) (c : Challenge) : List Byte :=
  [0x5A, 0x53, 0x45, 0x53] ++ leBytes 2 s ++ c.nc ++ c.nd

/-- The challenge that an element 1 may still answer: its ND has not run out (R119, R151). -/
def liveChallenge (d : Dev) (s : Nat) : Option Challenge :=
  if d.timers.any fun t => t.1 == .nonce s && decide (d.now ≤ t.2) then (sessionOf d s).challenge else none

/-- SESSION_PROVE element 1 (R119, R122): on a match the session takes the role, and a roaming session its key. -/
def doProof (s : Nat) (q : ZReq) (d : Dev) : Answer × Dev :=
  if !canProve d s q then (ans stAccess, d)
  else if q.payload.length ≠ 32 then (ans stType, d)
  else
    match liveChallenge d s with
    | none => (ans stIntegrity, proofFailed s d)
    | some c =>
      match roleKey d c.role c.keySlot with
      | none => (ans stIntegrity, proofFailed s d)
      | some k =>
        if hmac k (proofText [0x5A, 0x50, 0x52, 0x56] d s c) ≠ q.payload then (ans stIntegrity, proofFailed s d)
        else
          let ks := if isRoaming d s then some (hmac k (sessionText s c)) else none
          (⟨stOk, hmac k (proofText [0x5A, 0x44, 0x45, 0x56] d s c), true⟩,
            disarm (.nonce s)
              (setSession s (fun x => { x with role := Role.ofCode c.role, challenge := none, ks := ks }) d))

/-- A request that names NOTIFY or an undefined opcode (R113). -/
def doUndefined (_s : Nat) (_q : ZReq) (d : Dev) : Answer × Dev := (ans stAccess, d)

/-- Whether an opcode is NOTIFY or undefined (Table 4-5). -/
def undefinedOpcode (op : Byte) : Bool :=
  !([opRead, opWrite, opBundleOpen, opBundleAdd, opBundleCommit, opBundleAbort, opSubscribe, opSessionOpen,
     opSessionProve, opSessionClose].contains op)

end Sys2Proof.Machine
end

