-- ==== Sys2Proof/Machine/ZopRows.lean ====
section
/-! DEFINITION. The commands of chapter 4: requests to the object dictionary, and the expiries, notifications and journal
work of its engine. -/

namespace Sys2Proof.Machine

def execRead (q : ZReq) (s : State) : Host.Outcome State Fault Refusal := run (zopRequest opRead doRead q) s

def execWrite (q : ZReq) (s : State) : Host.Outcome State Fault Refusal := run (zopRequest opWrite doWrite q) s

def execBundleOpen (q : ZReq) (s : State) : Host.Outcome State Fault Refusal :=
  run (zopRequest opBundleOpen doBundleOpen q) s

def execBundleAdd (q : ZReq) (s : State) : Host.Outcome State Fault Refusal :=
  run (zopRequest opBundleAdd doBundleAdd q) s

def execBundleCommit (q : ZReq) (s : State) : Host.Outcome State Fault Refusal :=
  run (zopRequest opBundleCommit doBundleCommit q) s

def execBundleAbort (q : ZReq) (s : State) : Host.Outcome State Fault Refusal :=
  run (zopRequest opBundleAbort doBundleAbort q) s

def execSubscribe (q : ZReq) (s : State) : Host.Outcome State Fault Refusal :=
  run (zopRequest opSubscribe doSubscribe q) s

def execSessionOpen (q : ZReq) (s : State) : Host.Outcome State Fault Refusal := run (sessionOpenRequest q) s

/-- SESSION_PROVE of element 0. -/
def execSessionProveChallenge (q : ZReq) (s : State) : Host.Outcome State Fault Refusal :=
  run (zopRequest opSessionProve doChallenge { q with element := 0 }) s

/-- SESSION_PROVE of element 1. -/
def execSessionProveProof (q : ZReq) (s : State) : Host.Outcome State Fault Refusal :=
  run (zopRequest opSessionProve doProof { q with element := 1 }) s

def execSessionClose (q : ZReq) (s : State) : Host.Outcome State Fault Refusal :=
  run (zopRequest opSessionClose doSessionClose q) s

/-- R113: a request that names NOTIFY or an undefined opcode; an opcode that Table 4-5 defines is no such request. -/
def execNotifyRequest (q : ZReq) (opcode : Byte) (s : State) : Host.Outcome State Fault Refusal :=
  run (fun d => if undefinedOpcode opcode then zopRequest opcode doUndefined q d else d) s

/-- R137: the deadline has passed at the first transmit opportunity: DEADLINE in place of any answer, counted in element 1 of
0x0030, window and cache as they were. -/
def answerDeadline (q : ZReq) (opcode : Byte) (d : Dev) : Dev :=
  let there := reaches q opcode d
  let d := takeRequest q opcode d
  if !there then d
  else
    if isFragment q || malformed q opcode then discard q d
    else refuse q opcode stDeadline 0 (onOd (fun o => { o with watchDeadline := satInc o.watchDeadline }) d)

def execDeadlineAnswer (q : ZReq) (opcode : Byte) (s : State) : Host.Outcome State Fault Refusal :=
  run (answerDeadline q opcode) s

/-- R135. -/
def execBundleExpiry (sess : SessNo) (s : State) : Host.Outcome State Fault Refusal :=
  run (onExpiry (.bundle sess.toNat) (discardBundle sess.toNat)) s

/-- R117. -/
def execSessionIdleExpiry (sess : SessNo) (s : State) : Host.Outcome State Fault Refusal :=
  run (onExpiry (.sessionIdle sess.toNat) (closeSession sess.toNat)) s

/-- R119: an ND that no proof used is invalid. -/
def execProofNonceExpiry (sess : SessNo) (s : State) : Host.Outcome State Fault Refusal :=
  run (onExpiry (.nonce sess.toNat) (setSession sess.toNat fun x => { x with challenge := none })) s

/-- R121. -/
def execProofLockoutEnd (s : State) : Host.Outcome State Fault Refusal :=
  run (onExpiry .lockout (onOd fun o => { o with lockout := false })) s

/-- Change a subscription. -/
def setSub (s obj el : Nat) (f : Sub → Sub) (d : Dev) : Dev :=
  onOd (fun o => { o with subs := o.subs.map fun x => if isSub s obj el x then f x else x }) d

/-- The spacing of an ON_CHANGE subscription has passed: the latest value is sent, or waits for room under the device-wide limit
(R142). -/
def notifySpaced (s obj el : Nat) (d : Dev) : Dev :=
  match d.od.subs.find? (isSub s obj el) with
  | none => d
  | some x =>
    if x.periodic || !x.changed then d
    else if !notifyRoom (reach (.notify s obj el) d) then reach (.notify s obj el) d
    else
      let d := reach (.notify s obj el) d
      let v := (odRead d s obj el).2.1
      let d := sendNotify s obj el x.via x.merged v d
      arm (.notify s obj el) (x.interval * ms) (setSub s obj el (fun x => { x with seen := v, changed := false, merged := false }) d)

def execNotifySend (sess : SessNo) (object : Half) (element : Byte) (s : State) : Host.Outcome State Fault Refusal :=
  run (fun d => if odServes d then notifySpaced sess.toNat object.toNat element.toNat d else d) s

/-- The INTERVAL of a PERIODIC subscription expires: the current value is sent; one that the device-wide limit keeps back merges
with the next (R142; log entry 46). -/
def notifyTick (s obj el : Nat) (d : Dev) : Dev :=
  match d.od.subs.find? (isSub s obj el) with
  | none => d
  | some x =>
    if !x.periodic || !armed (.notify s obj el) d then d
    else
      let d := reach (.notify s obj el) d
      let room := notifyRoom d
      let d := setSub s obj el (fun x => { x with merged := !room }) d
      arm (.notify s obj el) (x.interval * ms)
        (if room then sendNotify s obj el x.via x.merged (odRead d s obj el).2.1 d else d)

def execNotifyPeriodic (sess : SessNo) (object : Half) (element : Byte) (s : State) :
    Host.Outcome State Fault Refusal :=
  run (fun d => if odServes d then notifyTick sess.toNat object.toNat element.toNat d else d) s

/-- R148, R149, R154. -/
def execJournalAppend (programmed : Bool) (s : State) : Host.Outcome State Fault Refusal :=
  run (fun d => if odServes d then journalWork (programmed && d.aon.bankF) d else d) s

end Sys2Proof.Machine
end

