-- ==== Sys2Proof/Machine/BusRows.lean ====
section
/-! DEFINITION. The commands of the Nguzo bus (chapter 9): each runs its effect, and what follows from the new state
settles. -/

namespace Sys2Proof.Machine

/-- STATIC_SLOT_TRANSMIT (R322). -/
def execStaticSlotTransmit (slot : Nat) (s : State) : Host.Outcome State Fault Refusal :=
  run (staticSlotTransmit slot) s

/-- DYNAMIC_FRAME_TRANSMIT (R324). -/
def execDynamicFrameTransmit (chB : Bool) (s : State) : Host.Outcome State Fault Refusal :=
  run (dynamicFrameTransmit chB) s

/-- MINISLOT_BOUNDARY (R323). -/
def execMinislotBoundary (chB : Bool) (s : State) : Host.Outcome State Fault Refusal := run (minislotBoundary chB) s

/-- NGUZO_FRAME_RECEIVED (R315). -/
def execNguzoFrameReceived (chB : Bool) (f : NgFrame) (s : State) : Host.Outcome State Fault Refusal :=
  run (whileBus chB (nguzoFrameReceived chB f)) s

/-- LISTEN_TIMEOUT (R328). -/
def execListenTimeout (s : State) : Host.Outcome State Fault Refusal := run listenTimeout s

/-- CYCLE_END (R332). -/
def execCycleEnd (s : State) : Host.Outcome State Fault Refusal := run cycleEnd s

/-- CHANNEL_CLAMP (R349, R352). -/
def execChannelClamp (l : LowRun) (s : State) : Host.Outcome State Fault Refusal :=
  run (whileBus l.chB (channelClamp l.chB l.rises)) s

/-- NIT_PROBE (R353). -/
def execNitProbe (chB : Bool) (high : Bool) (s : State) : Host.Outcome State Fault Refusal :=
  run (whileBus chB (nitProbe chB high)) s

/-- GUARD_TRIP (R342). -/
def execGuardTrip (g : GateSend) (s : State) : Host.Outcome State Fault Refusal := run (guardTrip g.chB g.at_) s

/-- GATEWAY_TO_BUS (R344). -/
def execGatewayToBus (octets : List Byte) (s : State) : Host.Outcome State Fault Refusal := run (gatewayToBus octets) s

end Sys2Proof.Machine
end

