-- ==== Sys2Proof/Machine/CableRows.lean ====
section
/-! DEFINITION. The commands of the cable ports and slots (chapter 6): each runs its effect, and what follows from the new state
settles. -/

namespace Sys2Proof.Machine

/-- R71: a command that can attach or detach a partner may change what TARGET asks for. -/
def thenTarget (f : Dev → Dev) (d : Dev) : Dev := followTarget (f d)

/-- CC_ATTACH (R208). -/
def execCcAttach (n : CPort) (cc1 cc2 : CcLine) (cable : CableId) (s : State) : Host.Outcome State Fault Refusal :=
  run (thenTarget (ccAttach n.val cc1 cc2 cable)) s

/-- CC_DETACH (R219). -/
def execCcDetach (n : CPort) (s : State) : Host.Outcome State Fault Refusal := run (thenTarget (ccDetach n.val)) s

/-- CC_DEBOUNCE (R218). -/
def execCcDebounce (n : CPort) (cc1 cc2 : CcLine) (s : State) : Host.Outcome State Fault Refusal :=
  run (ccDebounce n.val cc1 cc2) s

/-- DRP_TOGGLE (R225). -/
def execDrpToggle (n : CPort) (s : State) : Host.Outcome State Fault Refusal := run (drpToggle n.val) s

/-- TRY_SNK_TIMEOUT (R225). -/
def execTrySnkTimeout (n : CPort) (s : State) : Host.Outcome State Fault Refusal :=
  run (thenTarget (trySnkTimeout n.val)) s

/-- ERROR_RECOVERY (R269). -/
def execErrorRecovery (n : CPort) (s : State) : Host.Outcome State Fault Refusal :=
  run (thenTarget (errorRecovery n.val)) s

/-- ERROR_RECOVERY_DONE (R85). -/
def execErrorRecoveryDone (n : CPort) (s : State) : Host.Outcome State Fault Refusal := run (errorRecoveryDone n.val) s

/-- CC_SHORT_TEST (R196). -/
def execCcShortTest (n : CPort) (low : Bool) (s : State) : Host.Outcome State Fault Refusal :=
  run (thenTarget (ccShortTest n.val low)) s

/-- CC_SHORT_RETEST (R196). -/
def execCcShortRetest (n : CPort) (low : Bool) (s : State) : Host.Outcome State Fault Refusal :=
  run (ccShortRetest n.val low) s

/-- GUARD_CHECK (R198). -/
def execGuardCheck (n : CPort) (s : State) : Host.Outcome State Fault Refusal := run (guardCheck n.val) s

/-- GUARD_CHECK_DONE (R199). -/
def execGuardCheckDone (n : CPort) (k : PinKohm) (s : State) : Host.Outcome State Fault Refusal :=
  run (guardCheckDone n.val k) s

/-- VCONN_FAULT (R203). -/
def execVconnFault (n : CPort) (s : State) : Host.Outcome State Fault Refusal := run (vconnFault n.val) s

/-- DISCOVER_MODES (R208). -/
def execDiscoverModes (n : CPort) (a : DiscoveryReply) (s : State) : Host.Outcome State Fault Refusal :=
  run (discoverModes n.val a.id a.what a.answer) s

/-- ENTER_MODE (R208). -/
def execEnterMode (n : CPort) (a : VdmReply) (s : State) : Host.Outcome State Fault Refusal :=
  run (enterMode n.val a.id a.answer) s

/-- IDENTITY_READ (R208). -/
def execIdentityRead (n : CPort) (a : VdmReply) (s : State) : Host.Outcome State Fault Refusal :=
  run (identityRead n.val a.id a.answer) s

/-- LINK_RATE (R210). -/
def execLinkRate (n : CPort) (a : VdmReply) (s : State) : Host.Outcome State Fault Refusal :=
  run (linkRate n.val a.id a.answer) s

/-- EPOCH_SUBSCRIBE (R208). -/
def execEpochSubscribe (n : CPort) (a : VdmReply) (s : State) : Host.Outcome State Fault Refusal :=
  run (epochSubscribe n.val a.id a.answer) s

/-- POD_LINK_UP (R210). -/
def execPodLinkUp (n : CPort) (s : State) : Host.Outcome State Fault Refusal := run (podLinkUp n.val) s

/-- LINK_UP_TIMEOUT (R210). -/
def execLinkUpTimeout (n : CPort) (s : State) : Host.Outcome State Fault Refusal := run (linkUpTimeout n.val) s

/-- VDM_RESPONSE_TIMEOUT (R220). -/
def execVdmResponseTimeout (n : CPort) (s : State) : Host.Outcome State Fault Refusal := run (vdmTimeout n.val) s

/-- SLOT_POLL (R213). -/
def execSlotPoll (slot : Slot) (ack : Bool) (s : State) : Host.Outcome State Fault Refusal :=
  run (whileBank (·.bankS) (slotPoll slot.val ack)) s

/-- SLOT_READ_DONE (R214). -/
def execSlotReadDone (slot : Slot) (block : List Byte) (s : State) : Host.Outcome State Fault Refusal :=
  run (whileBank (·.bankS) (slotReadDone slot.val block)) s

/-- SLOT_READ_RETRY (R214). -/
def execSlotReadRetry (slot : Slot) (s : State) : Host.Outcome State Fault Refusal :=
  run (whileBank (·.bankS) (slotReadRetry slot.val)) s

/-- SLOT_BUS_CLEAR (R223). -/
def execSlotBusClear (slot : Slot) (r : BusClear) (s : State) : Host.Outcome State Fault Refusal :=
  run (whileBank (·.bankS) (slotBusClear slot.val r)) s

/-- SLOT_CLAMP_RETRY (R223). -/
def execSlotClampRetry (slot : Slot) (r : BusClear) (s : State) : Host.Outcome State Fault Refusal :=
  run (whileBank (·.bankS) (slotClampRetry slot.val r)) s

end Sys2Proof.Machine
end

