-- ==== Sys2Proof/Machine/ContractRows.lean ====
section
/-! DEFINITION. The commands of power contracts (chapter 7): each runs its effect, and what follows from the new state
settles. -/

namespace Sys2Proof.Machine

/-- SOURCE_CAPABILITIES (R237). -/
def execSourceCapabilities (n : CPort) (id : BitVec 3) (pdos : List Word) (s : State) : Host.Outcome State Fault Refusal :=
  run (sourceCapabilities n.val id pdos) s

/-- REQUEST (R231). -/
def execRequest (n : CPort) (id : BitVec 3) (rdo : Word) (s : State) : Host.Outcome State Fault Refusal :=
  run (request n.val id rdo) s

/-- ACCEPT (R240). -/
def execAccept (n : CPort) (id : BitVec 3) (s : State) : Host.Outcome State Fault Refusal := run (acceptMsg n.val id) s

/-- GOODCRC (R233). -/
def execGoodcrc (n : CPort) (id : BitVec 3) (s : State) : Host.Outcome State Fault Refusal := run (goodcrc n.val id) s

/-- PS_RDY (R240). -/
def execPsRdy (n : CPort) (id : BitVec 3) (s : State) : Host.Outcome State Fault Refusal := run (psRdy n.val id) s

/-- WAIT (R255). -/
def execWait (n : CPort) (id : BitVec 3) (s : State) : Host.Outcome State Fault Refusal := run (waitMsg n.val id) s

/-- REJECT (R251). -/
def execReject (n : CPort) (id : BitVec 3) (s : State) : Host.Outcome State Fault Refusal := run (rejectMsg n.val id) s

/-- WAIT_REOFFER (R232). -/
def execWaitReoffer (n : CPort) (s : State) : Host.Outcome State Fault Refusal := run (waitReoffer n.val) s

/-- TSRC_TRANSITION (R234). -/
def execTsrcTransition (n : CPort) (s : State) : Host.Outcome State Fault Refusal := run (tsrcTransition n.val) s

/-- GET_SOURCE_CAP (R251). -/
def execGetSourceCap (n : CPort) (id : BitVec 3) (s : State) : Host.Outcome State Fault Refusal :=
  run (getSourceCap n.val id) s

/-- GET_SINK_CAP (R251). -/
def execGetSinkCap (n : CPort) (id : BitVec 3) (s : State) : Host.Outcome State Fault Refusal :=
  run (getSinkCap n.val id) s

/-- GET_STATUS (R251). -/
def execGetStatus (n : CPort) (id : BitVec 3) (s : State) : Host.Outcome State Fault Refusal :=
  run (getStatus n.val id) s

/-- GET_PPS_STATUS (R251). -/
def execGetPpsStatus (n : CPort) (id : BitVec 3) (s : State) : Host.Outcome State Fault Refusal :=
  run (getPpsStatus n.val id) s

/-- GET_SOURCE_CAP_EXTENDED (R251). -/
def execGetSourceCapExtended (n : CPort) (id : BitVec 3) (s : State) : Host.Outcome State Fault Refusal :=
  run (getSourceCapExtended n.val id) s

/-- GET_SINK_CAP_EXTENDED (R251). -/
def execGetSinkCapExtended (n : CPort) (id : BitVec 3) (s : State) : Host.Outcome State Fault Refusal :=
  run (getSinkCapExtended n.val id) s

/-- GET_BATTERY_STATUS (R251). -/
def execGetBatteryStatus (n : CPort) (id : BitVec 3) (s : State) : Host.Outcome State Fault Refusal :=
  run (getBatteryStatus n.val id) s

/-- SINK_CAPABILITIES (R249). -/
def execSinkCapabilities (n : CPort) (id : BitVec 3) (pdos : List Word) (s : State) : Host.Outcome State Fault Refusal :=
  run (sinkCapabilities n.val id pdos) s

/-- UNSUPPORTED_MESSAGE (R251). -/
def execUnsupportedMessage (n : CPort) (id : BitVec 3) (m : OtherMsg) (s : State) : Host.Outcome State Fault Refusal :=
  run (unsupportedMessage n.val id m) s

/-- BIST (R251). -/
def execBist (n : CPort) (id : BitVec 3) (m : BistMode) (s : State) : Host.Outcome State Fault Refusal :=
  run (bistMsg n.val id m) s

/-- PR_SWAP (R248). -/
def execPrSwap (n : CPort) (id : BitVec 3) (s : State) : Host.Outcome State Fault Refusal := run (prSwap n.val id) s

/-- DR_SWAP (R247). -/
def execDrSwap (n : CPort) (id : BitVec 3) (s : State) : Host.Outcome State Fault Refusal := run (drSwap n.val id) s

/-- VCONN_SWAP (R247). -/
def execVconnSwap (n : CPort) (id : BitVec 3) (s : State) : Host.Outcome State Fault Refusal :=
  run (vconnSwap n.val id) s

/-- FR_SWAP_SIGNAL (R250). -/
def execFrSwapSignal (n : CPort) (s : State) : Host.Outcome State Fault Refusal := run (frSwapSignal n.val) s

/-- SOFT_RESET (R270). -/
def execSoftReset (n : CPort) (s : State) : Host.Outcome State Fault Refusal := run (softReset n.val) s

/-- HARD_RESET (R266). -/
def execHardReset (n : CPort) (received : Bool) (s : State) : Host.Outcome State Fault Refusal :=
  run (hardReset n.val received) s

/-- HARD_RESET_COMPLETE_TIMEOUT (R255). -/
def execHardResetCompleteTimeout (n : CPort) (s : State) : Host.Outcome State Fault Refusal :=
  run (hardResetCompleteTimeout n.val) s

/-- TSRC_RECOVER (R266). -/
def execTsrcRecover (n : CPort) (s : State) : Host.Outcome State Fault Refusal := run (tsrcRecover n.val) s

/-- EPR_MODE_ENTER (R243). -/
def execEprModeEnter (n : CPort) (s : State) : Host.Outcome State Fault Refusal := run (eprModeEnter n.val) s

/-- EPR_MODE (R245). -/
def execEprMode (n : CPort) (id : BitVec 3) (a : EprAnswer) (s : State) : Host.Outcome State Fault Refusal :=
  run (eprMode n.val id a) s

/-- EPR_SOURCE_CAPABILITIES (R243). -/
def execEprSourceCapabilities (n : CPort) (id : BitVec 3) (pdos : List Word) (s : State) : Host.Outcome State Fault Refusal :=
  run (eprSourceCapabilities n.val id pdos) s

/-- EPR_KEEPALIVE (R244). -/
def execEprKeepalive (n : CPort) (s : State) : Host.Outcome State Fault Refusal := run (eprKeepalive n.val) s

/-- EPR_KEEPALIVE_ACK_TIMEOUT (R244). -/
def execEprKeepaliveAckTimeout (n : CPort) (s : State) : Host.Outcome State Fault Refusal :=
  run (eprKeepaliveAckTimeout n.val) s

/-- SINK_PPS_KEEPALIVE (R241). -/
def execSinkPpsKeepalive (n : CPort) (s : State) : Host.Outcome State Fault Refusal := run (sinkPpsKeepalive n.val) s

/-- SINK_REQUEST_TIMER (R255). -/
def execSinkRequestTimer (n : CPort) (s : State) : Host.Outcome State Fault Refusal := run (sinkRequestTimer n.val) s

/-- SOURCE_PPS_TIMEOUT (R236). -/
def execSourcePpsTimeout (n : CPort) (s : State) : Host.Outcome State Fault Refusal := run (sourcePpsTimeout n.val) s

/-- SENDER_RESPONSE_TIMEOUT (R255). -/
def execSenderResponseTimeout (n : CPort) (s : State) : Host.Outcome State Fault Refusal :=
  run (thenTarget (senderResponseTimeout n.val)) s

/-- CRC_RECEIVE_TIMEOUT (R254). -/
def execCrcReceiveTimeout (n : CPort) (s : State) : Host.Outcome State Fault Refusal := run (crcReceiveTimeout n.val) s

/-- SOURCE_CAPABILITY_TIMEOUT (R268). -/
def execSourceCapabilityTimeout (n : CPort) (s : State) : Host.Outcome State Fault Refusal :=
  run (sourceCapabilityTimeout n.val) s

/-- PS_TRANSITION_TIMEOUT (R255). -/
def execPsTransitionTimeout (n : CPort) (s : State) : Host.Outcome State Fault Refusal :=
  run (thenTarget (psTransitionTimeout n.val)) s

/-- CHUNK_SENDER_TIMEOUT (R255). -/
def execChunkSenderTimeout (n : CPort) (s : State) : Host.Outcome State Fault Refusal :=
  run (chunkSenderTimeout n.val) s

/-- SECURITY_REQUEST (R259). -/
def execSecurityRequest (n : CPort) (id : BitVec 3) (a : AuthReq) (s : State) : Host.Outcome State Fault Refusal :=
  run (securityRequest n.val id a) s

/-- CHALLENGE_AUTH_DONE (R258). -/
def execChallengeAuthDone (n : CPort) (s : State) : Host.Outcome State Fault Refusal := run (challengeAuthDone n.val) s

end Sys2Proof.Machine
end

