-- ==== Sys2Proof/Machine/FuseRows.lean ====
section
/-! DEFINITION. The commands of burns and debug unlock (chapter 16): each runs its effect, and what follows from the new state
settles. -/

namespace Sys2Proof.Machine

/-- OTP_PROGRAM_DONE (R589). -/
def execOtpProgramDone (r : BurnResult) (s : State) : Host.Outcome State Fault Refusal := run (otpProgramDone r) s

/-- UNLOCK_CHAL (R598). -/
def execUnlockChal (s : State) : Host.Outcome State Fault Refusal := run (whileBank (·.bankS) unlockChal) s

/-- UNLOCK_RESP (R598). -/
def execUnlockResp (resp : BitVec 256) (s : State) : Host.Outcome State Fault Refusal :=
  run (whileBank (·.bankS) (unlockResp resp.toNat)) s

/-- UNLOCK_NONCE_EXPIRY (R598). -/
def execUnlockNonceExpiry (s : State) : Host.Outcome State Fault Refusal := run unlockNonceExpiry s

end Sys2Proof.Machine
end

