-- ==== Sys2Proof/Machine/HeatRows.lean ====
section
/-! DEFINITION. The commands of heat and air (chapter 15): each runs its effect, and what follows from the new state
settles. -/

namespace Sys2Proof.Machine

/-- HOUSEKEEPING_ROUND (R539). -/
def execHousekeepingRound (r : RoundRecord) (s : State) : Host.Outcome State Fault Refusal :=
  run (housekeepingRound r) s

/-- MODEL_STEP (R546). -/
def execModelStep (s : State) : Host.Outcome State Fault Refusal := run modelStep s

/-- ROUND_RECORD_LATE (R571). -/
def execRoundRecordLate (s : State) : Host.Outcome State Fault Refusal := run roundRecordLate s

/-- HEAT_SHED (R552). -/
def execHeatShed (n : CPort) (s : State) : Host.Outcome State Fault Refusal := run (heatShed n.val) s

/-- CEILING_RELEASE (R554). -/
def execCeilingRelease (n : CPort) (s : State) : Host.Outcome State Fault Refusal := run (ceilingRelease n.val) s

/-- CRIT_ASSERT (R557). -/
def execCritAssert (s : State) : Host.Outcome State Fault Refusal := run critAssert s

/-- CRIT_RELEASE (R557). -/
def execCritRelease (s : State) : Host.Outcome State Fault Refusal := run critRelease s

/-- FAN_RELOAD (R559). -/
def execFanReload (f : Fin 2) (s : State) : Host.Outcome State Fault Refusal := run (fanReload f.val) s

/-- TACH_EDGE (R562). -/
def execTachEdge (f : Fin 2) (s : State) : Host.Outcome State Fault Refusal :=
  run (whileBank (·.bankS) (tachEdge f.val)) s

/-- TACH_TIMEOUT (R562). -/
def execTachTimeout (f : Fin 2) (s : State) : Host.Outcome State Fault Refusal := run (tachTimeout f.val) s

/-- STALL_DETECT (R563). -/
def execStallDetect (f : Fin 2) (s : State) : Host.Outcome State Fault Refusal := run (stallDetect f.val) s

/-- STALL_CLEAR (R563). -/
def execStallClear (f : Fin 2) (s : State) : Host.Outcome State Fault Refusal := run (stallClear f.val) s

/-- HOST_SILENCE (R565). -/
def execHostSilence (s : State) : Host.Outcome State Fault Refusal := run hostSilence s

/-- COMMISSION_STEP (R567). -/
def execCommissionStep (f : Fin 2) (s : State) : Host.Outcome State Fault Refusal := run (commissionStep f.val) s

end Sys2Proof.Machine
end

