-- ==== Sys2Proof/Machine/HostWindow.lean ====
section
/-! DEFINITION. The host window: the QSPI transactions, the address map and its registers, the doorbell and the window's error
bits (R5, R6, R157-R176, R191, R193). The rows that are one register
write of the host are such a transaction. -/

namespace Sys2Proof.Machine

/-! ### Serving and error bits -/

/-- The window answers from stage OTP_CHECK onward (R98), while VDDIO_H is in range (R32). -/
def hwAnswers (d : Dev) : Bool := mgtRuns d && d.aon.bankH

/-- Set bits of HW_XFER_STATUS, which raises XFER_ERR (R191). -/
def xferError (i : Nat) (d : Dev) : Dev :=
  raiseIrq 9 (onHw (fun h => { h with xferStatus := h.xferStatus ||| BitVec.ofNat 8 (2 ^ i) }) d)

/-- The bits of HW_XFER_STATUS (Table 5-10). -/
def xAbsent : Nat := 0
def xUnmapped : Nat := 1
def xRoWrite : Nat := 2
def xPartial : Nat := 3
def xMisaligned : Nat := 4
def xBadOpcode : Nat := 5
def xNotServed : Nat := 6
def xBadValue : Nat := 7

/-- The staging area of the address map. -/
def inStaging (a : Nat) : Bool := decide (0x10000 ≤ a) && decide (a < 0x20000)

/-- R163: what the window serves before READY or HALT. -/
def earlyServed (a : Nat) : Bool :=
  [0x00, 0x04, 0x08, 0x10, 0x14, 0x20, 0x24, 0x28, 0x100, 0x104, 0x200, 0x204].contains a || inStaging a

/-- The register of a unit that the variant lacks (R5, R162). -/
def absentReg (d : Dev) (a : Nat) : Bool :=
  (decide (0x800 ≤ a) && decide (a < 0x840) && !hasPort d ((a - 0x800) / 4))
    || (a == 0x844 && !hasUnit d 1) || (a == 0x84C && !hasUnit d 6)

/-- The registers that Table 5-9 defines. -/
def definedReg (a : Nat) : Bool :=
  [0x00, 0x04, 0x08, 0x10, 0x14, 0x20, 0x24, 0x28, 0x30, 0x34, 0x100, 0x104, 0x110, 0x114, 0x200, 0x204, 0x208, 0x20C,
   0x300, 0x304, 0x308, 0x30C, 0x310, 0x314, 0x400, 0x404, 0x408, 0x410, 0x414, 0x418].contains a
    || (decide (0x800 ≤ a) && decide (a < 0x850))

/-- The registers whose fields are all RO (R191). -/
def readOnlyReg (a : Nat) : Bool :=
  [0x00, 0x28, 0x30, 0x34, 0x20C, 0x30C, 0x310, 0x314, 0x410, 0x414, 0x418].contains a
    || (decide (0x800 ≤ a) && decide (a < 0x850))

/-! ### Reading -/

/-- STAGE codes (Table 3-10); before boot, the window does not answer. -/
def Stage.code : Stage → Nat
  | .strapsS | .down => 0
  | .railsS => 1
  | .refclk => 2
  | .otpCheck => 3
  | .hold => 4
  | .imageFlash => 5
  | .imageHost => 6
  | .verify => 7
  | .policy => 8
  | .waitHost => 9
  | .halt => 0xA
  | .replay => 0xB
  | .ready => 0xC
  | .noImage => 0xF

/-- HW_ID.PART (Table 5-10). -/
def partCode : Nat → Nat
  | 0 => 0x7240
  | 1 => 0x7230
  | 2 => 0x7220
  | _ => 0

/-- HW_NGx_STAT (Table 5-13): a RECOVERING channel is still clamped out of the bus. -/
def ngStatCode : ChanState → Nat
  | .off => 0
  | .joining => 1
  | .synchronised => 2
  | .clamped | .recovering => 3

/-- HW_PORT_STATn (Table 5-13). -/
def portStat (d : Dev) (p : Nat) : Nat :=
  let w := swPort d p
  let c := cable d p
  let cp := decide (p < 8)
  b2n (linkIsUp d p) + 2 * b2n w.fenced + 4 * b2n (cp && (c.typec == .attachedSrc || c.typec == .attachedSnk))
    + 8 * b2n (cp && c.profileOn) + 256 * (if cp then c.profileId else 0)

/-- HW_FANn_STAT (Table 5-13). -/
def fanStat (d : Dev) (f : Nat) : Nat := (fanOf d f).rpm / 8 % 65536 + 65536 * b2n (fanOf d f).stall

/-- A register's value as a number (Tables 5-9 to 5-13); write-only fields read 0. -/
def regValue (d : Dev) (a : Nat) : Nat :=
  let h := d.hw
  let b := d.boot
  match a with
  | 0x00 => partCode d.otp.variant * 65536 + dieRev d * 256 + 1
  | 0x04 => h.xferStatus.toNat
  | 0x08 => h.dummy.toNat
  | 0x10 => b.stage.code + 16 * b2n b.bootDone + 32 * b2n b.blockTaken + 64 * b2n b.hdrTaken + 128 * b2n b.imageReject
      + 256 * (b.blockCount % 256)
  | 0x24 => h.otpData.toNat
  | 0x28 => b2n d.otp.burn.isSome + 2 * h.otpResult.toNat
  | 0x30 => (activeAlarms d).toNat % 2 ^ 32
  | 0x34 => (activeAlarms d).toNat / 2 ^ 32
  | 0x100 => h.irqStatus.toNat
  | 0x104 => h.irqEnable.toNat
  | 0x110 => h.irqPort.toNat
  | 0x114 => h.irqPortEn.toNat
  | 0x204 => b2n h.mbxBusy + 2 * b2n h.mbxDone + 4 * b2n h.mbxOverrun + 8 * b2n h.mbxNotReady + 65536 * h.rspLen.toNat
  | 0x208 => h.ntfHead.toNat
  | 0x20C => h.ntfTail.toNat
  | 0x300 => b2n h.tdmaEnable + 256 * h.ringSize.toNat
  | 0x304 => h.ringBase.toNat
  | 0x308 => h.tdmaTail.toNat
  | 0x30C => h.tdmaHead.toNat
  | 0x310 => b2n h.tdmaRun.isSome + 2 * b2n h.tdmaStopped + 256 * d.st.locks.length
  | 0x314 => h.expIndex.toNat + 2 ^ 24 * h.expTable.toNat
  | 0x400 => 2 * b2n h.snapClear + 4 * b2n h.snapBusy + 16 * h.snapSet.toNat
  | 0x404 => h.snapFirst.toNat
  | 0x408 => h.snapCount.toNat
  | 0x410 => h.snapTime.toNat % 2 ^ 32
  | 0x414 => h.snapTime.toNat / 2 ^ 32
  | 0x418 => h.snapSeq.toNat
  | 0x840 => ngStatCode d.ng.chA.state
  | 0x844 => ngStatCode d.ng.chB.state
  | 0x848 => fanStat d 0
  | 0x84C => fanStat d 1
  | _ => if 0x800 ≤ a ∧ a < 0x840 then portStat d ((a - 0x800) / 4) else 0

/-- The word of a memory at an offset. -/
def memWord (m : Mem) (a : Nat) : Word := BitVec.ofNat 32 (leNat (readBytes 0 m a 4))

/-- R5, R162, R163: the word at an aligned address, and the error bit the access sets. -/
def readWord (d : Dev) (a : Nat) : Word × Dev :=
  if !odServes d && !earlyServed a then (0, xferError xNotServed d)
  else if definedReg a then
    if absentReg d a then (0xA85EA85E, xferError xAbsent d) else (BitVec.ofNat 32 (regValue d a), d)
  else if 0x1000 ≤ a ∧ a < 0x1200 then (memWord d.hw.reqBuf (a - 0x1000), d)
  else if 0x1200 ≤ a ∧ a < 0x1400 then (memWord d.hw.rspBuf (a - 0x1200), d)
  else if 0x1400 ≤ a ∧ a < 0x1C00 then (memWord d.hw.ring (a - 0x1400), d)
  else if inStaging a then (memWord d.hw.staging (a - 0x10000), d)
  else if 0x20000 ≤ a ∧ a < 0x30000 then (memWord d.hw.snap (a - 0x20000), d)
  else (0, xferError xUnmapped d)

/-- Words read one after another from an address. -/
def readWords : Nat → Nat → Dev → List Word × Dev
  | 0, _, d => ([], d)
  | n + 1, a, d =>
    let r := readWord d (a % 2 ^ 24)
    let rest := readWords n (a + 4) r.2
    (r.1 :: rest.1, rest.2)

/-! ### Writing -/

/-- R165, R170, R171: a doorbell write hands the request buffer over, or is refused. -/
def doorbell (w : Word) (d : Dev) : Dev :=
  let len := w.toNat % 1024
  if d.hw.mbxBusy then onHw (fun h => { h with mbxOverrun := true }) d
  else if !odServes d then onHw (fun h => { h with mbxNotReady := true }) d
  else if len < 10 ∨ 512 < len then xferError xBadValue d
  else disarm .respSent (onHw (fun h => { h with mbxDone := false, mbxBusy := true, mbxLen := len }) d)

/-- R128, R171: clearing BOOT_DONE starts session 0 afresh. -/
def bootDoneClear (d : Dev) : Dev :=
  if d.boot.bootDone then
    setSession 0 (fun x => { Session.fresh with
        role := .observer, notifySeq := x.notifySeq, bundle := x.bundle, bState := x.bState, bApply := x.bApply,
        bResult := x.bResult, bFail := x.bFail, lost := x.lost })
      (onBoot (fun b => { b with bootDone := false }) d)
  else d

/-- HW_BOOT_CTRL: each bit written with 1 acts (Table 5-10, R90, R95, R164). -/
def bootCtrl (w : Word) (d : Dev) : Dev :=
  let v := w.toNat
  let policy := bits v 2 1
  let len := bits v 28 16
  if (bit v 0 && (policy == 3 || (d.boot.stage == .waitHost && policy == 0)))
      || (bit v 4 && (len == 0 || decide (4096 < len))) then xferError xBadValue d
  else
    let d := if bit v 0 then bootRelease policy d else d
    let d := if bit v 3 then hdrValid d else d
    let d := if bit v 4 then blockValid len d else d
    if bit v 5 then imageEnd d else d

/-- HW_OTP_CMD (Table 5-10). -/
def otpCmd (w : Word) (d : Dev) : Dev :=
  match bits w.toNat 1 0 with
  | 1 => otpReadCmd (bits w.toNat 25 16) d
  | 2 => otpProgramCmd (bits w.toNat 25 16) d
  | _ => xferError xBadValue d

/-- TSNAP_CTRL: CLEAR_AFTER and SET are stored, and TAKE captures (R186). -/
def snapCtrl (w : Word) (d : Dev) : Dev :=
  let v := w.toNat
  if bits v 5 4 = 3 then xferError xBadValue d
  else
    let d := onHw (fun h => { h with snapClear := bit v 1, snapSet := BitVec.ofNat 2 (bits v 5 4) }) d
    if bit v 0 then tsnapTake d else d

/-- TDMA_CTRL: setting ENABLE again resumes an engine that stopped on an error (R192). -/
def tdmaCtrl (w : Word) (d : Dev) : Dev :=
  let v := w.toNat
  let size := bits v 14 8
  if size = 0 ∨ 64 < size then xferError xBadValue d
  else onHw (fun h => { h with tdmaEnable := bit v 0, ringSize := BitVec.ofNat 7 size,
                               tdmaStopped := h.tdmaStopped && !bit v 0 }) d

/-- A register write (R191, R193): its writable fields, or an error bit with the write discarded. -/
def regWrite (a : Nat) (w : Word) (d : Dev) : Dev :=
  let v := w.toNat
  if readOnlyReg a then xferError xRoWrite d
  else
    match a with
    | 0x04 => onHw (fun h => { h with xferStatus := h.xferStatus &&& ~~~(BitVec.ofNat 8 v) }) d
    | 0x08 => if v % 16 < 2 then xferError xBadValue d else onHw (fun h => { h with dummy := BitVec.ofNat 4 v }) d
    | 0x10 => if bit v 4 then bootDoneClear d else d
    | 0x14 => bootCtrl w d
    | 0x20 => otpCmd w d
    | 0x24 => onHw (fun h => { h with otpData := w }) d
    | 0x100 => onHw (fun h => { h with irqStatus := h.irqStatus &&& ~~~(BitVec.ofNat 10 (v - (if bit v 8 then 256 else 0))) }) d
    | 0x104 => onHw (fun h => { h with irqEnable := BitVec.ofNat 10 v }) d
    | 0x110 => onHw (fun h => { h with irqPort := h.irqPort &&& ~~~w }) d
    | 0x114 => onHw (fun h => { h with irqPortEn := w }) d
    | 0x200 => doorbell w d
    | 0x204 =>
      let d := if bit v 1 then disarm .respSent d else d
      onHw (fun h => { h with mbxDone := h.mbxDone && !bit v 1, mbxOverrun := h.mbxOverrun && !bit v 2,
                              mbxNotReady := h.mbxNotReady && !bit v 3 }) d
    | 0x208 => if v % 4 ≠ 0 then xferError xBadValue d else onHw (fun h => { h with ntfHead := BitVec.ofNat 11 v }) d
    | 0x300 => tdmaCtrl w d
    | 0x304 => if v % 32 ≠ 0 then xferError xBadValue d else onHw (fun h => { h with ringBase := BitVec.ofNat 16 v }) d
    | 0x308 => onHw (fun h => { h with tdmaTail := BitVec.ofNat 6 v }) d
    | 0x400 => snapCtrl w d
    | 0x404 => onHw (fun h => { h with snapFirst := BitVec.ofNat 13 v }) d
    | 0x408 => if v % 8192 = 0 ∨ 4096 < v % 8192 then xferError xBadValue d
               else onHw (fun h => { h with snapCount := BitVec.ofNat 13 v }) d
    | _ => d

/-- R161, R162, R163, R170: a word written at an aligned address. The response buffer and the notification ring take a host's
write as the other buffers do; snapshot buffer words do not change between TAKE commands (chapter 5, At the edges). -/
def writeWord (a : Nat) (w : Word) (d : Dev) : Dev :=
  if !odServes d && !earlyServed a then xferError xNotServed d
  else if definedReg a then if absentReg d a then xferError xAbsent d else regWrite a w d
  else if 0x1000 ≤ a ∧ a < 0x1200 then
    if d.hw.mbxBusy then onHw (fun h => { h with mbxOverrun := true }) d
    else onHw (fun h => { h with reqBuf := writeBytes 0 h.reqBuf (a - 0x1000) (leBytes 4 w.toNat) }) d
  else if inStaging a then
    onHw (fun h => { h with staging := writeBytes 0 h.staging (a - 0x10000) (leBytes 4 w.toNat) }) d
  else if 0x1200 ≤ a ∧ a < 0x1400 then
    onHw (fun h => { h with rspBuf := writeBytes 0 h.rspBuf (a - 0x1200) (leBytes 4 w.toNat) }) d
  else if 0x1400 ≤ a ∧ a < 0x1C00 then
    onHw (fun h => { h with ring := writeBytes 0 h.ring (a - 0x1400) (leBytes 4 w.toNat) }) d
  else if 0x20000 ≤ a ∧ a < 0x30000 then d
  else xferError xUnmapped d

/-- Words written one after another from an address, each taking effect when its last bit is sampled (R161). -/
def writeWords : List Word → Nat → Dev → Dev
  | [], _, d => d
  | w :: ws, a, d => writeWords ws (a + 4) (writeWord (a % 2 ^ 24) w d)

/-! ### Transactions -/

/-- A read transaction (R159, R160): the words it puts on the lines; a misaligned address discards it, and a word that HCS_N
cuts short sets PARTIAL_WORD (R191). -/
def qspiReadTransaction (a words : Nat) (cut : Bool) (d : Dev) : Dev :=
  if !hwAnswers d then d
  else
    let d := onHw (fun h => { h with hiz := false }) d
    if a % 4 ≠ 0 then xferError xMisaligned d
    else
      let r := readWords words a d
      let d := emit (.window r.1) r.2
      if cut then xferError xPartial d else d

/-- A write transaction (R159, R161, R191): whole words take effect in order, a word cut short does not. -/
def qspiWriteTransaction (a : Nat) (data : List Word) (cut : Bool) (d : Dev) : Dev :=
  if !hwAnswers d then d
  else
    let d := onHw (fun h => { h with hiz := false }) d
    if a % 4 ≠ 0 then xferError xMisaligned d
    else
      let d := writeWords data a d
      if cut then xferError xPartial d else d

def execQspiRead (addr : BitVec 24) (words : Nat) (cut : Bool) (s : State) : Host.Outcome State Fault Refusal :=
  run (qspiReadTransaction addr.toNat words cut) s

/-- The same words over four lines. -/
def execQread (addr : BitVec 24) (words : Nat) (cut : Bool) (s : State) : Host.Outcome State Fault Refusal :=
  run (qspiReadTransaction addr.toNat words cut) s

def execQspiWrite (addr : BitVec 24) (data : List Word) (cut : Bool) (s : State) : Host.Outcome State Fault Refusal :=
  run (qspiWriteTransaction addr.toNat data cut) s

/-- The same words over four lines. -/
def execQwrite (addr : BitVec 24) (data : List Word) (cut : Bool) (s : State) : Host.Outcome State Fault Refusal :=
  run (qspiWriteTransaction addr.toNat data cut) s

/-- RDSR returns HW_XFER_STATUS (Table 5-1). -/
def rdsr (d : Dev) : Dev :=
  if hwAnswers d then emit (.octets [d.hw.xferStatus]) (onHw (fun h => { h with hiz := false }) d) else d

def execRdsr (s : State) : Host.Outcome State Fault Refusal := run rdsr s

/-- The last octet of RDID: the variant run as; 0x20 when DEGRADED (Table 5-1, R13). -/
def rdidVariant : Nat → Byte
  | 0 => 0x40
  | 1 => 0x30
  | _ => 0x20

/-- RDID returns the four ID octets. -/
def rdid (d : Dev) : Dev :=
  if hwAnswers d then
    emit (.octets [0x53, 0x58, 0x72, rdidVariant d.otp.variant]) (onHw (fun h => { h with hiz := false }) d)
  else d

def execRdid (s : State) : Host.Outcome State Fault Refusal := run rdid s

/-- The opcodes of Table 5-1. -/
def knownOpcode (op : Byte) : Bool := [0x0B, 0xEB, 0x02, 0x32, 0x05, 0x9F].contains op.toNat

/-- R191: an unknown opcode is discarded, leaves HIO0-HIO3 at high impedance and sets BAD_OPCODE. -/
def badOpcode (op : Byte) (d : Dev) : Dev :=
  if hwAnswers d && !knownOpcode op then xferError xBadOpcode (onHw (fun h => { h with hiz := true }) d) else d

def execQspiBadOpcode (opcode : Byte) (s : State) : Host.Outcome State Fault Refusal := run (badOpcode opcode) s

/-! ### Rows that are one register write -/

/-- One register write of the host, as a transaction of one word. -/
def hostWrite (a v : Nat) (d : Dev) : Dev := qspiWriteTransaction a [BitVec.ofNat 32 v] false d

def execRegisterWrite (addr : BitVec 24) (data : Word) (s : State) : Host.Outcome State Fault Refusal :=
  run (hostWrite addr.toNat data.toNat) s

/-- HW_MBX_DOORBELL. -/
def execMbxDoorbell (data : Word) (s : State) : Host.Outcome State Fault Refusal := run (hostWrite 0x200 data.toNat) s

/-- HW_BOOT_STATUS with BOOT_DONE written 1. -/
def execBootDoneClear (s : State) : Host.Outcome State Fault Refusal := run (hostWrite 0x10 16) s

/-- HW_BOOT_CTRL with RELEASE and the policy. -/
def execBootRelease (policy : BitVec 2) (s : State) : Host.Outcome State Fault Refusal :=
  run (hostWrite 0x14 (1 + 2 * policy.toNat)) s

/-- HW_BOOT_CTRL with HDR_VALID. -/
def execHdrValid (s : State) : Host.Outcome State Fault Refusal := run (hostWrite 0x14 8) s

/-- HW_BOOT_CTRL with BLOCK_VALID and BLOCK_LEN. -/
def execBlockValid (len : BitVec 13) (s : State) : Host.Outcome State Fault Refusal :=
  run (hostWrite 0x14 (16 + 65536 * len.toNat)) s

/-- HW_BOOT_CTRL with IMAGE_END. -/
def execImageEnd (s : State) : Host.Outcome State Fault Refusal := run (hostWrite 0x14 32) s

/-- HW_OTP_CMD with READ of a word. -/
def execOtpReadCmd (word : BitVec 10) (s : State) : Host.Outcome State Fault Refusal :=
  run (hostWrite 0x20 (1 + 65536 * word.toNat)) s

/-- HW_OTP_CMD with PROGRAM of a word, its value in HW_OTP_DATA. -/
def execOtpProgramCmd (word : BitVec 10) (s : State) : Host.Outcome State Fault Refusal :=
  run (hostWrite 0x20 (2 + 65536 * word.toNat)) s

/-- TSNAP_CTRL with TAKE: CLEAR_AFTER and SET as they stand. -/
def execTsnapTake (s : State) : Host.Outcome State Fault Refusal :=
  run (fun d => hostWrite 0x400 (1 + 2 * b2n d.hw.snapClear + 16 * d.hw.snapSet.toNat) d) s

end Sys2Proof.Machine
end

