-- ==== Sys2Proof/Machine/PowerRows.lean ====
section
/-! DEFINITION. The commands of the power path and the ledger (chapter 8), and the shepherd bound (chapter 1): each runs its effect, and what follows from the new state
settles. -/

namespace Sys2Proof.Machine

/-- SHED_OVERRUN_CUT (R26). -/
def execShedOverrunCut (s : State) : Host.Outcome State Fault Refusal := run shedOverrunCut s

/-- OVERRUN_CUT_REPEAT (R303). -/
def execOverrunCutRepeat (s : State) : Host.Outcome State Fault Refusal := run overrunCutRepeat s

/-- SHORT_DETECT (R276). -/
def execShortDetect (n : CPort) (s : State) : Host.Outcome State Fault Refusal := run (shortDetect n.val) s

/-- OVERCURRENT (R277). -/
def execOvercurrent (n : CPort) (s : State) : Host.Outcome State Fault Refusal := run (overcurrent n.val) s

/-- OVER_VOLTAGE (R300). -/
def execOverVoltage (n : CPort) (s : State) : Host.Outcome State Fault Refusal := run (overVoltage n.val) s

/-- REVERSE_CURRENT (R300). -/
def execReverseCurrent (n : CPort) (s : State) : Host.Outcome State Fault Refusal :=
  run (thenTarget (reverseCurrent n.val)) s

/-- SHORT_RETRY (R301). -/
def execShortRetry (n : CPort) (s : State) : Host.Outcome State Fault Refusal := run (shortRetry n.val) s

/-- INRUSH_DONE (R279). -/
def execInrushDone (n : CPort) (s : State) : Host.Outcome State Fault Refusal := run (inrushDone n.val) s

/-- INRUSH_FAIL (R279). -/
def execInrushFail (n : CPort) (s : State) : Host.Outcome State Fault Refusal := run (inrushFail n.val) s

/-- INRUSH_RETRY (R281). -/
def execInrushRetry (n : CPort) (s : State) : Host.Outcome State Fault Refusal := run (inrushRetry n.val) s

/-- DROOP_START (R280). -/
def execDroopStart (s : State) : Host.Outcome State Fault Refusal := run droopStart s

/-- DROOP_END (R280). -/
def execDroopEnd (s : State) : Host.Outcome State Fault Refusal := run droopEnd s

/-- DROOP_LIMIT (R281). -/
def execDroopLimit (s : State) : Host.Outcome State Fault Refusal := run droopLimit s

/-- DISCHARGE_DONE (R282). -/
def execDischargeDone (n : CPort) (s : State) : Host.Outcome State Fault Refusal := run (dischargeDone n.val) s

/-- DISCHARGE_TIMEOUT (R282). -/
def execDischargeTimeout (n : CPort) (s : State) : Host.Outcome State Fault Refusal :=
  run (thenTarget (dischargeTimeout n.val)) s

/-- SHEPHERD_STEP (R288). -/
def execShepherdStep (took : Nat) (s : State) : Host.Outcome State Fault Refusal :=
  run (thenTarget (shepherdStep took)) s

/-- RESTORE_CHECK (R292). -/
def execRestoreCheck (s : State) : Host.Outcome State Fault Refusal := run restoreCheck s

end Sys2Proof.Machine
end

