-- ==== Sys2Proof/Machine/SwitchRows.lean ====
section
/-! DEFINITION. The commands of the switch core, its ports and MDIO (chapters 11 and 14): each runs its effect, and what follows from the new state
settles. -/

namespace Sys2Proof.Machine

/-- PAUSE_EXPIRY (R419): the quanta time has passed, and the port sends again. -/
def pauseExpiry (p : Nat) (d : Dev) : Dev :=
  onExpiry (.pauseOff p) (setSwPort p fun w => { w with pausedUntil := none }) d

/-- FRAME_DECISION (R393). -/
def execFrameDecision (port : SPort) (octets : List Byte) (rxOk : Bool) (firstNs : Nat) (ecc : List EccHit) (s : State) : Host.Outcome State Fault Refusal :=
  run (whilePort port.val (frameDecision port.val octets rxOk firstNs ecc)) s

/-- CUT_THROUGH_FRAME_END (R411). -/
def execCutThroughFrameEnd (port : SPort) (length : Nat) (bad : Bool) (s : State) : Host.Outcome State Fault Refusal :=
  run (whilePort port.val (cutThroughFrameEnd port.val length bad)) s

/-- TRANSMIT_SELECT (R429). -/
def execTransmitSelect (port : SPort) (eccDouble : Bool) (s : State) : Host.Outcome State Fault Refusal :=
  run (transmitSelect port.val eccDouble) s

/-- COPY_TRANSMITTED (R391). -/
def execCopyTransmitted (port : SPort) (eccDouble : Bool) (s : State) : Host.Outcome State Fault Refusal :=
  run (copyTransmitted port.val eccDouble) s

/-- AGE_SWEEP (R396). -/
def execAgeSweep (s : State) : Host.Outcome State Fault Refusal := run ageSweep s

/-- RESIDUE_TIMEOUT (R400). -/
def execResidueTimeout (frame : Nat) (s : State) : Host.Outcome State Fault Refusal := run (residueTimeout frame) s

/-- PAUSE_RECEIVED (R419). -/
def execPauseReceived (port : SPort) (quanta : Half) (s : State) : Host.Outcome State Fault Refusal :=
  run (whilePort port.val (pauseReceived port.val quanta.toNat)) s

/-- PAUSE_RESEND (R417). -/
def execPauseResend (port : SPort) (s : State) : Host.Outcome State Fault Refusal := run (pauseResend port.val) s

/-- PAUSE_EXPIRY (R419). -/
def execPauseExpiry (port : SPort) (s : State) : Host.Outcome State Fault Refusal := run (pauseExpiry port.val) s

/-- LINK_UP (R426). -/
def execLinkUp (port : SPort) (mbps : Nat) (s : State) : Host.Outcome State Fault Refusal :=
  run (linkUp port.val mbps) s

/-- LINK_DOWN (R426). -/
def execLinkDown (port : SPort) (s : State) : Host.Outcome State Fault Refusal := run (linkDown port.val) s

/-- HALF_DUPLEX (R382). -/
def execHalfDuplex (port : SPort) (s : State) : Host.Outcome State Fault Refusal := run (halfDuplexEvent port.val) s

/-- PHY_POLL (R385). -/
def execPhyPoll (port : SPort) (up : Bool) (s : State) : Host.Outcome State Fault Refusal := run (phyPoll port.val up) s

/-- MDIO_DONE (R386). -/
def execMdioDone (answered : Bool) (data : Half) (s : State) : Host.Outcome State Fault Refusal :=
  run (fun d => mdioDone (answered && d.aon.bankH) data.toNat d) s

/-- SHAPER_REFILL (R519). -/
def execShaperRefill (s : State) : Host.Outcome State Fault Refusal := run shaperRefill s

/-- TALLY_EXPORT (R529). -/
def execTallyExport (s : State) : Host.Outcome State Fault Refusal := run tallyExport s

/-- TSNAP_DONE (R187). -/
def execTsnapDone (s : State) : Host.Outcome State Fault Refusal := run tsnapDone s

end Sys2Proof.Machine
end

