-- ==== Sys2Proof/Machine/TableRows.lean ====
section
/-! DEFINITION. The commands of the station and route tables and the table DMA engine (chapters 5, 12 and 13): each runs its effect, and what follows from the new state
settles. -/

namespace Sys2Proof.Machine

/-- TDMA_READ (R177). -/
def execTdmaRead (ecc : List EccHit) (s : State) : Host.Outcome State Fault Refusal := run (tdma cRead ecc) s

/-- TDMA_WRITE (R178). -/
def execTdmaWrite (s : State) : Host.Outcome State Fault Refusal := run (tdma cWrite []) s

/-- TDMA_INSERT (R179). -/
def execTdmaInsert (s : State) : Host.Outcome State Fault Refusal := run (tdma cInsert []) s

/-- TDMA_DELETE (R180). -/
def execTdmaDelete (s : State) : Host.Outcome State Fault Refusal := run (tdma cDelete []) s

/-- TDMA_SEARCH (R468). -/
def execTdmaSearch (s : State) : Host.Outcome State Fault Refusal := run (tdma cSearch []) s

/-- TDMA_LOCK (R184). -/
def execTdmaLock (s : State) : Host.Outcome State Fault Refusal := run (tdma cLock []) s

/-- TDMA_UNLOCK (R184). -/
def execTdmaUnlock (s : State) : Host.Outcome State Fault Refusal := run (tdma cUnlock []) s

/-- LOCK_EXPIRED (R185). -/
def execLockExpired (table : Byte) (index : Nat) (s : State) : Host.Outcome State Fault Refusal :=
  run (lockExpired table.toNat index) s

/-- LEARN_REQUEST (R453). -/
def execLearnRequest (s : State) : Host.Outcome State Fault Refusal := run learnStep s

/-- STASH_DRAIN (R457). -/
def execStashDrain (s : State) : Host.Outcome State Fault Refusal := run stashDrain s

/-- AGER_VISIT (R459). -/
def execAgerVisit (place : Nat) (s : State) : Host.Outcome State Fault Refusal := run (agerVisit place) s

/-- FLUSH_DONE (R460). -/
def execFlushDone (s : State) : Host.Outcome State Fault Refusal := run flushDone s

/-- SCRUB_PASS (R469). -/
def execScrubPass (us : Nat) (ecc : List EccHit) (s : State) : Host.Outcome State Fault Refusal :=
  run (scrubPass us ecc) s

/-- ROUTE_SECOND_PASS (R490). -/
def execRouteSecondPass (ecc : List EccHit) (s : State) : Host.Outcome State Fault Refusal := run (secondPass ecc) s

/-- ROUTE_COMMAND_DONE (R494). -/
def execRouteCommandDone (s : State) : Host.Outcome State Fault Refusal := run routeCommandDone s

/-- ROUTE_REPAIR (R501). -/
def execRouteRepair (table : Byte) (index : Nat) (s : State) : Host.Outcome State Fault Refusal :=
  run (routeRepair table.toNat index) s

/-- PUNT_RECEIVED (R502). -/
def execPuntReceived (s : State) : Host.Outcome State Fault Refusal := run puntReceived s

end Sys2Proof.Machine
end

