-- ==== Sys2Proof/Machine/TimeRows.lean ====
section
/-! DEFINITION. The commands of the timebase, epochs and windows (chapter 10): each runs its effect, and what follows from the new state
settles. -/

namespace Sys2Proof.Machine

/-- After a boundary, the pods that subscribe hear of a new PERIOD as soon as no other VDM is outstanding. -/
def epochThenPods (k : Nat) (d : Dev) : Dev := (List.range 8).foldl (fun d n => podIdle n d) (epochBoundary k d)

/-- PPS_IN_EDGE (R361). -/
def execPpsInEdge (s : State) : Host.Outcome State Fault Refusal := run ppsInEdge s

/-- PPS_IN_TIMEOUT (R376). -/
def execPpsInTimeout (s : State) : Host.Outcome State Fault Refusal := run ppsInTimeout s

/-- PTP_SYNC (R366). -/
def execPtpSync (port : SPort) (octets : List Byte) (captured : Bool) (err : Int) (s : State) : Host.Outcome State Fault Refusal :=
  run (whilePort port.val (ptpSync port.val octets captured err)) s

/-- PTP_FOLLOW_UP (R366). -/
def execPtpFollowUp (port : SPort) (octets : List Byte) (s : State) : Host.Outcome State Fault Refusal :=
  run (whilePort port.val (ptpFollowUp port.val octets)) s

/-- PTP_ANNOUNCE (R366). -/
def execPtpAnnounce (port : SPort) (octets : List Byte) (s : State) : Host.Outcome State Fault Refusal :=
  run (whilePort port.val (ptpAnnounce port.val octets)) s

/-- PDELAY_REQ (R366). -/
def execPdelayReq (port : SPort) (octets : List Byte) (captured : Bool) (err : Int) (s : State) : Host.Outcome State Fault Refusal :=
  run (whilePort port.val (pdelayReq port.val octets captured err)) s

/-- PDELAY_RESP (R366). -/
def execPdelayResp (port : SPort) (octets : List Byte) (c : Capture) (s : State) : Host.Outcome State Fault Refusal :=
  run (whilePort port.val (pdelayResp port.val octets c.captured c.err)) s

/-- PDELAY_REQ_INTERVAL (R366). -/
def execPdelayReqInterval (port : SPort) (s : State) : Host.Outcome State Fault Refusal :=
  run (pdelayReqInterval port.val) s

/-- PTP_MASTER_INTERVAL (R366). -/
def execPtpMasterInterval (s : State) : Host.Outcome State Fault Refusal := run ptpMasterInterval s

/-- ANNOUNCE_RECEIPT_TIMEOUT (R376). -/
def execAnnounceReceiptTimeout (s : State) : Host.Outcome State Fault Refusal := run announceTimeout s

/-- HOLDOFF_EXPIRY (R361). -/
def execHoldoffExpiry (s : State) : Host.Outcome State Fault Refusal := run holdoffExpiry s

/-- LOCK_REACHED (R362). -/
def execLockReached (s : State) : Host.Outcome State Fault Refusal := run lockReached s

/-- PPS_OUT_SECOND (R367). -/
def execPpsOutSecond (s : State) : Host.Outcome State Fault Refusal := run ppsOutSecond s

/-- PULSE_WIDTH_END (R367). -/
def execPulseWidthEnd (pin : PulsePin) (s : State) : Host.Outcome State Fault Refusal := run (pulseWidthEnd pin) s

/-- EPOCH_BOUNDARY (R369). -/
def execEpochBoundary (k : Fin 16) (s : State) : Host.Outcome State Fault Refusal := run (epochThenPods k.val) s

/-- WINDOW_OPEN (R373). -/
def execWindowOpen (port : SPort) (n : Fin 8) (s : State) : Host.Outcome State Fault Refusal :=
  run (windowOpen port.val n.val) s

/-- WINDOW_CLOSE (R373). -/
def execWindowClose (port : SPort) (n : Fin 8) (s : State) : Host.Outcome State Fault Refusal :=
  run (windowClose port.val n.val) s

end Sys2Proof.Machine
end

