-- ==== Sys2Proof/Machine/WriteRows.lean ====
section
/-! DEFINITION. The commands of commands that the table gives as one write of an element, with the checks of a WRITE (chapter 4 and the object tables): each runs its effect, and what follows from the new state
settles. -/

namespace Sys2Proof.Machine

/-- The place of an attach: its object and the element REAPPLY (R217). -/
def reapplyAt : Place → Nat × Nat
  | .port n => (cableObj n.val, 16)
  | .slot s => (slotObj s.val, 7)

/-- OBLIGATION_CLEAR (R28). -/
def execObligationClear (v : Bool) (s : State) : Host.Outcome State Fault Refusal := run (rowValue 1 0x30 5 (b2n v)) s

/-- TARGET_WRITE (R71). -/
def execTargetWrite (v : Nat) (s : State) : Host.Outcome State Fault Refusal := run (rowValue 1 0x14 1 v) s

/-- SYS_RESET_REQUEST (R102). -/
def execSysResetRequest (v : Bool) (s : State) : Host.Outcome State Fault Refusal := run (rowValue 1 0x16 8 (b2n v)) s

/-- PORT_RESET (R85). -/
def execPortReset (ports : BitVec 8) (s : State) : Host.Outcome State Fault Refusal :=
  run (rowValue 1 0x16 9 ports.toNat) s

/-- FAB_RESET (R86). -/
def execFabReset (v : Bool) (s : State) : Host.Outcome State Fault Refusal := run (rowValue 1 0x16 10 (b2n v)) s

/-- ALARM_ACK (R633). -/
def execAlarmAck (mask : BitVec 64) (s : State) : Host.Outcome State Fault Refusal :=
  run (rowValue 1 0x20 2 mask.toNat) s

/-- REAPPLY (R217). -/
def execReapply (p : Place) (v : Bool) (s : State) : Host.Outcome State Fault Refusal :=
  run (rowValue 1 (reapplyAt p).1 (reapplyAt p).2 (b2n v)) s

/-- EXIT_MODE (R211): the host's write, or the pod's answer to the Exit Mode that followed one (R220). -/
def execExitMode (n : CPort) (e : ExitEvent) (s : State) : Host.Outcome State Fault Refusal :=
  match e with
  | .written v => run (rowValue 1 (cableObj n.val) 17 (b2n v)) s
  | .answered a => run (exitAnswered n.val a.id) s

/-- RENEGOTIATE (R229). -/
def execRenegotiate (n : CPort) (v : Bool) (s : State) : Host.Outcome State Fault Refusal :=
  run (rowValue 1 (contractObj n.val) 20 (b2n v)) s

/-- FAULT_CLEAR (R302). -/
def execFaultClear (n : CPort) (v : Bool) (s : State) : Host.Outcome State Fault Refusal :=
  run (rowValue 1 (pathObj n.val) 17 (b2n v)) s

/-- ENABLE_CHANNEL (R320). -/
def execEnableChannel (chB : Bool) (v : Bool) (s : State) : Host.Outcome State Fault Refusal :=
  run (rowValue 1 0x5000 (b2n chB) (b2n v)) s

/-- TIME_SET (R365). -/
def execTimeSet (v : BitVec 64) (s : State) : Host.Outcome State Fault Refusal := run (rowValue 1 0x6000 6 v.toNat) s

/-- MDIO_OP (R386). -/
def execMdioOp (op : Nat) (s : State) : Host.Outcome State Fault Refusal := run (rowValue 1 0x7430 5 op) s

/-- FLUSH (R460). -/
def execFlush (port : SPort) (v : Bool) (s : State) : Host.Outcome State Fault Refusal :=
  run (rowValue 1 (vlanPortObj port.val) 8 (b2n v)) s

/-- FLUSH_FID (R460). -/
def execFlushFid (fid : Nat) (s : State) : Host.Outcome State Fault Refusal := run (rowValue 1 0x8400 10 fid) s

/-- EDITOR_WRITE (R492). -/
def execEditorWrite (v : Nat) (s : State) : Host.Outcome State Fault Refusal := run (rowValue 1 0x9500 0 v) s

/-- ROUTE_ADD (R494). -/
def execRouteAdd (sess : SessNo) (s : State) : Host.Outcome State Fault Refusal :=
  run (rowValue sess.toNat 0x9600 6 1) s

/-- ROUTE_DELETE (R494). -/
def execRouteDelete (sess : SessNo) (s : State) : Host.Outcome State Fault Refusal :=
  run (rowValue sess.toNat 0x9600 6 2) s

/-- RESTART (R548). -/
def execRestart (v : Bool) (s : State) : Host.Outcome State Fault Refusal := run (rowValue 1 0xC000 6 (b2n v)) s

/-- RETRY (R543). -/
def execRetry (r : Fin 4) (v : Bool) (s : State) : Host.Outcome State Fault Refusal :=
  run (rowValue 1 (0xC400 + r.val) 4 (b2n v)) s

/-- COMMISSION (R566). -/
def execCommission (f : Fin 2) (v : Nat) (s : State) : Host.Outcome State Fault Refusal :=
  run (rowValue 1 (fanObj f.val) 15 v) s

/-- HEARTBEAT (R564). -/
def execHeartbeat (s : State) : Host.Outcome State Fault Refusal := run (rowValue 1 0xC700 1 1) s

/-- APPEND (R590). -/
def execAppend (sess : SessNo) (record : List Byte) (s : State) : Host.Outcome State Fault Refusal :=
  run (rowWrite sess.toNat 0xD010 1 record) s

/-- VOID (R591). -/
def execVoid (addr : Nat) (s : State) : Host.Outcome State Fault Refusal := run (rowValue 1 0xD010 4 addr) s

/-- KEY_DATA (R584). -/
def execKeyData (sess : SessNo) (key : BitVec 256) (s : State) : Host.Outcome State Fault Refusal :=
  run (rowWrite sess.toNat 0xD020 1 (beBytes 32 key.toNat)) s

/-- KEYGEN (R585). -/
def execKeygen (sess : SessNo) (v : Bool) (s : State) : Host.Outcome State Fault Refusal :=
  run (rowValue sess.toNat 0xD020 2 (b2n v)) s

/-- REVOKE (R581). -/
def execRevoke (mask : BitVec 12) (s : State) : Host.Outcome State Fault Refusal :=
  run (rowValue 1 0xD020 6 mask.toNat) s

/-- ADVANCE (R596). -/
def execAdvance (sess : SessNo) (target : Nat) (s : State) : Host.Outcome State Fault Refusal :=
  run (rowValue sess.toNat 0xD030 1 target) s

/-- ROLLBACK_ADVANCE (R604). -/
def execRollbackAdvance (v : Nat) (s : State) : Host.Outcome State Fault Refusal := run (rowValue 1 0xD030 3 v) s

end Sys2Proof.Machine
end

