-- ==== Sys2Proof/Machine/Dispatch.lean ====
section
/-! DEFINITION. Each command's meaning, one arm per constructor. -/

namespace Sys2Proof.Machine

def exec (i : Instr) (s : State) : Host.Outcome State Fault Refusal :=
  match i with
  | .obligationClear v => Sys2Proof.Machine.execObligationClear v s
  | .strapSampleA levels => Sys2Proof.Machine.execStrapSampleA levels s
  | .strapSampleB levels => Sys2Proof.Machine.execStrapSampleB levels s
  | .railOutOfRange rail => Sys2Proof.Machine.execRailOutOfRange rail s
  | .dormantRpWindow opens => Sys2Proof.Machine.execDormantRpWindow opens s
  | .dormantMoistureCheck kohm0 kohm1 => Sys2Proof.Machine.execDormantMoistureCheck kohm0 kohm1 s
  | .wakeCAttach a => Sys2Proof.Machine.execWakeCAttach a s
  | .dormantTimerExpiry also => Sys2Proof.Machine.execDormantTimerExpiry also s
  | .targetWrite v => Sys2Proof.Machine.execTargetWrite v s
  | .deadBatteryStart vbus0 vbus1 rp => Sys2Proof.Machine.execDeadBatteryStart vbus0 vbus1 rp s
  | .sysResetRequest v => Sys2Proof.Machine.execSysResetRequest v s
  | .sysReset cause => Sys2Proof.Machine.execSysReset cause s
  | .portReset ports => Sys2Proof.Machine.execPortReset ports s
  | .fabReset v => Sys2Proof.Machine.execFabReset v s
  | .bootRelease policy => Sys2Proof.Machine.execBootRelease policy s
  | .blockValid len => Sys2Proof.Machine.execBlockValid len s
  | .imageLoadDone answers => Sys2Proof.Machine.execImageLoadDone answers s
  | .read q => Sys2Proof.Machine.execRead q s
  | .write q => Sys2Proof.Machine.execWrite q s
  | .bundleOpen q => Sys2Proof.Machine.execBundleOpen q s
  | .bundleAdd q => Sys2Proof.Machine.execBundleAdd q s
  | .bundleCommit q => Sys2Proof.Machine.execBundleCommit q s
  | .bundleAbort q => Sys2Proof.Machine.execBundleAbort q s
  | .subscribe q => Sys2Proof.Machine.execSubscribe q s
  | .sessionOpen q => Sys2Proof.Machine.execSessionOpen q s
  | .sessionProveChallenge q => Sys2Proof.Machine.execSessionProveChallenge q s
  | .sessionProveProof q => Sys2Proof.Machine.execSessionProveProof q s
  | .sessionClose q => Sys2Proof.Machine.execSessionClose q s
  | .notifyRequest q opcode => Sys2Proof.Machine.execNotifyRequest q opcode s
  | .deadlineAnswer q opcode => Sys2Proof.Machine.execDeadlineAnswer q opcode s
  | .bundleExpiry sess => Sys2Proof.Machine.execBundleExpiry sess s
  | .sessionIdleExpiry sess => Sys2Proof.Machine.execSessionIdleExpiry sess s
  | .proofNonceExpiry sess => Sys2Proof.Machine.execProofNonceExpiry sess s
  | .notifySend sess object element => Sys2Proof.Machine.execNotifySend sess object element s
  | .notifyPeriodic sess object element => Sys2Proof.Machine.execNotifyPeriodic sess object element s
  | .journalAppend programmed => Sys2Proof.Machine.execJournalAppend programmed s
  | .alarmAck mask => Sys2Proof.Machine.execAlarmAck mask s
  | .qspiRead addr words cut => Sys2Proof.Machine.execQspiRead addr words cut s
  | .qread addr words cut => Sys2Proof.Machine.execQread addr words cut s
  | .qspiWrite addr data cut => Sys2Proof.Machine.execQspiWrite addr data cut s
  | .qwrite addr data cut => Sys2Proof.Machine.execQwrite addr data cut s
  | .qspiBadOpcode opcode => Sys2Proof.Machine.execQspiBadOpcode opcode s
  | .registerWrite addr data => Sys2Proof.Machine.execRegisterWrite addr data s
  | .mbxDoorbell data => Sys2Proof.Machine.execMbxDoorbell data s
  | .otpReadCmd word => Sys2Proof.Machine.execOtpReadCmd word s
  | .otpProgramCmd word => Sys2Proof.Machine.execOtpProgramCmd word s
  | .otpProgramDone r => Sys2Proof.Machine.execOtpProgramDone r s
  | .tdmaRead ecc => Sys2Proof.Machine.execTdmaRead ecc s
  | .lockExpired table index => Sys2Proof.Machine.execLockExpired table index s
  | .ccAttach n cc1 cc2 cable => Sys2Proof.Machine.execCcAttach n cc1 cc2 cable s
  | .ccDetach n => Sys2Proof.Machine.execCcDetach n s
  | .ccShortTest n low => Sys2Proof.Machine.execCcShortTest n low s
  | .ccShortRetest n low => Sys2Proof.Machine.execCcShortRetest n low s
  | .guardCheck n => Sys2Proof.Machine.execGuardCheck n s
  | .guardCheckDone n k => Sys2Proof.Machine.execGuardCheckDone n k s
  | .vconnFault n => Sys2Proof.Machine.execVconnFault n s
  | .discoverModes n a => Sys2Proof.Machine.execDiscoverModes n a s
  | .enterMode n a => Sys2Proof.Machine.execEnterMode n a s
  | .identityRead n a => Sys2Proof.Machine.execIdentityRead n a s
  | .linkRate n a => Sys2Proof.Machine.execLinkRate n a s
  | .epochSubscribe n a => Sys2Proof.Machine.execEpochSubscribe n a s
  | .podLinkUp n => Sys2Proof.Machine.execPodLinkUp n s
  | .linkUpTimeout n => Sys2Proof.Machine.execLinkUpTimeout n s
  | .vdmResponseTimeout n => Sys2Proof.Machine.execVdmResponseTimeout n s
  | .reapply p v => Sys2Proof.Machine.execReapply p v s
  | .exitMode n e => Sys2Proof.Machine.execExitMode n e s
  | .slotPoll slot ack => Sys2Proof.Machine.execSlotPoll slot ack s
  | .slotReadDone slot block => Sys2Proof.Machine.execSlotReadDone slot block s
  | .slotReadRetry slot => Sys2Proof.Machine.execSlotReadRetry slot s
  | .slotBusClear slot cleared => Sys2Proof.Machine.execSlotBusClear slot cleared s
  | .slotClampRetry slot cleared => Sys2Proof.Machine.execSlotClampRetry slot cleared s
  | .sourceCapabilities n id pdos => Sys2Proof.Machine.execSourceCapabilities n id pdos s
  | .renegotiate n v => Sys2Proof.Machine.execRenegotiate n v s
  | .request n id rdo => Sys2Proof.Machine.execRequest n id rdo s
  | .accept n id => Sys2Proof.Machine.execAccept n id s
  | .goodcrc n id => Sys2Proof.Machine.execGoodcrc n id s
  | .psRdy n id => Sys2Proof.Machine.execPsRdy n id s
  | .waitReoffer n => Sys2Proof.Machine.execWaitReoffer n s
  | .tsrcTransition n => Sys2Proof.Machine.execTsrcTransition n s
  | .getSourceCap n id => Sys2Proof.Machine.execGetSourceCap n id s
  | .getSinkCap n id => Sys2Proof.Machine.execGetSinkCap n id s
  | .getStatus n id => Sys2Proof.Machine.execGetStatus n id s
  | .getPpsStatus n id => Sys2Proof.Machine.execGetPpsStatus n id s
  | .unsupportedMessage n id bistCarrier => Sys2Proof.Machine.execUnsupportedMessage n id bistCarrier s
  | .prSwap n id => Sys2Proof.Machine.execPrSwap n id s
  | .drSwap n id => Sys2Proof.Machine.execDrSwap n id s
  | .vconnSwap n id => Sys2Proof.Machine.execVconnSwap n id s
  | .frSwapSignal n => Sys2Proof.Machine.execFrSwapSignal n s
  | .softReset n => Sys2Proof.Machine.execSoftReset n s
  | .hardReset n received => Sys2Proof.Machine.execHardReset n received s
  | .tsrcRecover n => Sys2Proof.Machine.execTsrcRecover n s
  | .eprModeEnter n => Sys2Proof.Machine.execEprModeEnter n s
  | .eprMode n id a => Sys2Proof.Machine.execEprMode n id a s
  | .eprSourceCapabilities n id pdos => Sys2Proof.Machine.execEprSourceCapabilities n id pdos s
  | .eprKeepalive n => Sys2Proof.Machine.execEprKeepalive n s
  | .eprKeepaliveAckTimeout n => Sys2Proof.Machine.execEprKeepaliveAckTimeout n s
  | .sinkPpsKeepalive n => Sys2Proof.Machine.execSinkPpsKeepalive n s
  | .sourcePpsTimeout n => Sys2Proof.Machine.execSourcePpsTimeout n s
  | .senderResponseTimeout n => Sys2Proof.Machine.execSenderResponseTimeout n s
  | .crcReceiveTimeout n => Sys2Proof.Machine.execCrcReceiveTimeout n s
  | .sourceCapabilityTimeout n => Sys2Proof.Machine.execSourceCapabilityTimeout n s
  | .psTransitionTimeout n => Sys2Proof.Machine.execPsTransitionTimeout n s
  | .errorRecovery n => Sys2Proof.Machine.execErrorRecovery n s
  | .securityRequest n id a => Sys2Proof.Machine.execSecurityRequest n id a s
  | .challengeAuthDone n => Sys2Proof.Machine.execChallengeAuthDone n s
  | .shortDetect n => Sys2Proof.Machine.execShortDetect n s
  | .overcurrent n => Sys2Proof.Machine.execOvercurrent n s
  | .overVoltage n => Sys2Proof.Machine.execOverVoltage n s
  | .reverseCurrent n => Sys2Proof.Machine.execReverseCurrent n s
  | .shortRetry n => Sys2Proof.Machine.execShortRetry n s
  | .inrushDone n => Sys2Proof.Machine.execInrushDone n s
  | .inrushFail n => Sys2Proof.Machine.execInrushFail n s
  | .inrushRetry n => Sys2Proof.Machine.execInrushRetry n s
  | .dischargeDone n => Sys2Proof.Machine.execDischargeDone n s
  | .dischargeTimeout n => Sys2Proof.Machine.execDischargeTimeout n s
  | .shepherdStep took => Sys2Proof.Machine.execShepherdStep took s
  | .faultClear n v => Sys2Proof.Machine.execFaultClear n v s
  | .staticSlotTransmit slot => Sys2Proof.Machine.execStaticSlotTransmit slot s
  | .dynamicFrameTransmit chB => Sys2Proof.Machine.execDynamicFrameTransmit chB s
  | .minislotBoundary chB => Sys2Proof.Machine.execMinislotBoundary chB s
  | .nguzoFrameReceived chB f => Sys2Proof.Machine.execNguzoFrameReceived chB f s
  | .channelClamp l => Sys2Proof.Machine.execChannelClamp l s
  | .nitProbe chB high => Sys2Proof.Machine.execNitProbe chB high s
  | .guardTrip g => Sys2Proof.Machine.execGuardTrip g s
  | .enableChannel chB v => Sys2Proof.Machine.execEnableChannel chB v s
  | .gatewayToBus octets => Sys2Proof.Machine.execGatewayToBus octets s
  | .ptpSync port octets captured err => Sys2Proof.Machine.execPtpSync port octets captured err s
  | .ptpFollowUp port octets => Sys2Proof.Machine.execPtpFollowUp port octets s
  | .ptpAnnounce port octets => Sys2Proof.Machine.execPtpAnnounce port octets s
  | .pdelayReq port octets captured err => Sys2Proof.Machine.execPdelayReq port octets captured err s
  | .pdelayResp port octets c => Sys2Proof.Machine.execPdelayResp port octets c s
  | .timeSet v => Sys2Proof.Machine.execTimeSet v s
  | .epochBoundary k => Sys2Proof.Machine.execEpochBoundary k s
  | .windowOpen port n => Sys2Proof.Machine.execWindowOpen port n s
  | .windowClose port n => Sys2Proof.Machine.execWindowClose port n s
  | .frameDecision port octets rxOk firstNs ecc => Sys2Proof.Machine.execFrameDecision port octets rxOk firstNs ecc s
  | .pauseResend port => Sys2Proof.Machine.execPauseResend port s
  | .transmitSelect port eccDouble => Sys2Proof.Machine.execTransmitSelect port eccDouble s
  | .copyTransmitted port eccDouble => Sys2Proof.Machine.execCopyTransmitted port eccDouble s
  | .residueTimeout frame => Sys2Proof.Machine.execResidueTimeout frame s
  | .pauseReceived port quanta => Sys2Proof.Machine.execPauseReceived port quanta s
  | .pauseExpiry port => Sys2Proof.Machine.execPauseExpiry port s
  | .linkUp port mbps => Sys2Proof.Machine.execLinkUp port mbps s
  | .linkDown port => Sys2Proof.Machine.execLinkDown port s
  | .phyPoll port up => Sys2Proof.Machine.execPhyPoll port up s
  | .mdioOp op => Sys2Proof.Machine.execMdioOp op s
  | .mdioDone answered data => Sys2Proof.Machine.execMdioDone answered data s
  | .agerVisit place => Sys2Proof.Machine.execAgerVisit place s
  | .flush port v => Sys2Proof.Machine.execFlush port v s
  | .flushFid fid => Sys2Proof.Machine.execFlushFid fid s
  | .scrubPass us ecc => Sys2Proof.Machine.execScrubPass us ecc s
  | .routeSecondPass ecc => Sys2Proof.Machine.execRouteSecondPass ecc s
  | .routeAdd sess => Sys2Proof.Machine.execRouteAdd sess s
  | .routeDelete sess => Sys2Proof.Machine.execRouteDelete sess s
  | .editorWrite v => Sys2Proof.Machine.execEditorWrite v s
  | .routeRepair table index => Sys2Proof.Machine.execRouteRepair table index s
  | .housekeepingRound r => Sys2Proof.Machine.execHousekeepingRound r s
  | .heatShed n => Sys2Proof.Machine.execHeatShed n s
  | .ceilingRelease n => Sys2Proof.Machine.execCeilingRelease n s
  | .fanReload f => Sys2Proof.Machine.execFanReload f s
  | .tachEdge f => Sys2Proof.Machine.execTachEdge f s
  | .tachTimeout f => Sys2Proof.Machine.execTachTimeout f s
  | .stallDetect f => Sys2Proof.Machine.execStallDetect f s
  | .stallClear f => Sys2Proof.Machine.execStallClear f s
  | .commission f v => Sys2Proof.Machine.execCommission f v s
  | .commissionStep f => Sys2Proof.Machine.execCommissionStep f s
  | .restart v => Sys2Proof.Machine.execRestart v s
  | .retry r v => Sys2Proof.Machine.execRetry r v s
  | .append sess record => Sys2Proof.Machine.execAppend sess record s
  | .void addr => Sys2Proof.Machine.execVoid addr s
  | .keyData sess key => Sys2Proof.Machine.execKeyData sess key s
  | .keygen sess v => Sys2Proof.Machine.execKeygen sess v s
  | .revoke mask => Sys2Proof.Machine.execRevoke mask s
  | .advance sess target => Sys2Proof.Machine.execAdvance sess target s
  | .rollbackAdvance v => Sys2Proof.Machine.execRollbackAdvance v s
  | .unlockResp resp => Sys2Proof.Machine.execUnlockResp resp s
  | .ccDebounce n cc1 cc2 => Sys2Proof.Machine.execCcDebounce n cc1 cc2 s
  | .drpToggle n => Sys2Proof.Machine.execDrpToggle n s
  | .trySnkTimeout n => Sys2Proof.Machine.execTrySnkTimeout n s
  | .errorRecoveryDone n => Sys2Proof.Machine.execErrorRecoveryDone n s
  | .sinkCapabilities n id pdos => Sys2Proof.Machine.execSinkCapabilities n id pdos s
  | .wait n id => Sys2Proof.Machine.execWait n id s
  | .reject n id => Sys2Proof.Machine.execReject n id s
  | .sinkRequestTimer n => Sys2Proof.Machine.execSinkRequestTimer n s
  | .chunkSenderTimeout n => Sys2Proof.Machine.execChunkSenderTimeout n s
  | .hardResetCompleteTimeout n => Sys2Proof.Machine.execHardResetCompleteTimeout n s
  | .getSourceCapExtended n id => Sys2Proof.Machine.execGetSourceCapExtended n id s
  | .getSinkCapExtended n id => Sys2Proof.Machine.execGetSinkCapExtended n id s
  | .getBatteryStatus n id => Sys2Proof.Machine.execGetBatteryStatus n id s
  | .bist n id m => Sys2Proof.Machine.execBist n id m s
  | .cutThroughFrameEnd port length bad => Sys2Proof.Machine.execCutThroughFrameEnd port length bad s
  | .pulseWidthEnd pin => Sys2Proof.Machine.execPulseWidthEnd pin s
  | .pdelayReqInterval port => Sys2Proof.Machine.execPdelayReqInterval port s
  | .debugRequest op => Sys2Proof.Machine.execDebugRequest op s
  | .bankSupplyChange bank ok => Sys2Proof.Machine.execBankSupplyChange bank ok s
  | .halfDuplex port => Sys2Proof.Machine.execHalfDuplex port s
  | .shedOverrunCut => Sys2Proof.Machine.execShedOverrunCut s
  | .overrunCutRepeat => Sys2Proof.Machine.execOverrunCutRepeat s
  | .aonPorRelease => Sys2Proof.Machine.execAonPorRelease s
  | .porAssert => Sys2Proof.Machine.execPorAssert s
  | .resetNAssert => Sys2Proof.Machine.execResetNAssert s
  | .resetNRise => Sys2Proof.Machine.execResetNRise s
  | .railsInRange => Sys2Proof.Machine.execRailsInRange s
  | .railTimeout => Sys2Proof.Machine.execRailTimeout s
  | .railRetry => Sys2Proof.Machine.execRailRetry s
  | .aonXtalFail => Sys2Proof.Machine.execAonXtalFail s
  | .wakeNg => Sys2Proof.Machine.execWakeNg s
  | .wakePpsIn => Sys2Proof.Machine.execWakePpsIn s
  | .wakeHcsN => Sys2Proof.Machine.execWakeHcsN s
  | .wakeLatchedBoot => Sys2Proof.Machine.execWakeLatchedBoot s
  | .idleHoldExpiry => Sys2Proof.Machine.execIdleHoldExpiry s
  | .activeDrainTimeout => Sys2Proof.Machine.execActiveDrainTimeout s
  | .dormantEntry => Sys2Proof.Machine.execDormantEntry s
  | .deadBatterySinkClose => Sys2Proof.Machine.execDeadBatterySinkClose s
  | .vsysTakeover => Sys2Proof.Machine.execVsysTakeover s
  | .watchdogExpiry => Sys2Proof.Machine.execWatchdogExpiry s
  | .bootTimeout => Sys2Proof.Machine.execBootTimeout s
  | .freelistEccError => Sys2Proof.Machine.execFreelistEccError s
  | .fabResetDone => Sys2Proof.Machine.execFabResetDone s
  | .refclkLock => Sys2Proof.Machine.execRefclkLock s
  | .refclkTimeout => Sys2Proof.Machine.execRefclkTimeout s
  | .otpCheckDone => Sys2Proof.Machine.execOtpCheckDone s
  | .hdrValid => Sys2Proof.Machine.execHdrValid s
  | .imageEnd => Sys2Proof.Machine.execImageEnd s
  | .imageVerifyDone => Sys2Proof.Machine.execImageVerifyDone s
  | .replayDone => Sys2Proof.Machine.execReplayDone s
  | .bootDoneClear => Sys2Proof.Machine.execBootDoneClear s
  | .proofLockoutEnd => Sys2Proof.Machine.execProofLockoutEnd s
  | .rdsr => Sys2Proof.Machine.execRdsr s
  | .rdid => Sys2Proof.Machine.execRdid s
  | .tdmaWrite => Sys2Proof.Machine.execTdmaWrite s
  | .tdmaInsert => Sys2Proof.Machine.execTdmaInsert s
  | .tdmaDelete => Sys2Proof.Machine.execTdmaDelete s
  | .tdmaSearch => Sys2Proof.Machine.execTdmaSearch s
  | .tdmaLock => Sys2Proof.Machine.execTdmaLock s
  | .tdmaUnlock => Sys2Proof.Machine.execTdmaUnlock s
  | .tsnapTake => Sys2Proof.Machine.execTsnapTake s
  | .tsnapDone => Sys2Proof.Machine.execTsnapDone s
  | .droopStart => Sys2Proof.Machine.execDroopStart s
  | .droopEnd => Sys2Proof.Machine.execDroopEnd s
  | .droopLimit => Sys2Proof.Machine.execDroopLimit s
  | .restoreCheck => Sys2Proof.Machine.execRestoreCheck s
  | .scheduleCycleStart => Sys2Proof.Machine.execScheduleCycleStart s
  | .listenTimeout => Sys2Proof.Machine.execListenTimeout s
  | .cycleEnd => Sys2Proof.Machine.execCycleEnd s
  | .ppsInEdge => Sys2Proof.Machine.execPpsInEdge s
  | .ppsInTimeout => Sys2Proof.Machine.execPpsInTimeout s
  | .announceReceiptTimeout => Sys2Proof.Machine.execAnnounceReceiptTimeout s
  | .holdoffExpiry => Sys2Proof.Machine.execHoldoffExpiry s
  | .lockReached => Sys2Proof.Machine.execLockReached s
  | .ppsOutSecond => Sys2Proof.Machine.execPpsOutSecond s
  | .ageSweep => Sys2Proof.Machine.execAgeSweep s
  | .learnRequest => Sys2Proof.Machine.execLearnRequest s
  | .stashDrain => Sys2Proof.Machine.execStashDrain s
  | .flushDone => Sys2Proof.Machine.execFlushDone s
  | .routeCommandDone => Sys2Proof.Machine.execRouteCommandDone s
  | .puntReceived => Sys2Proof.Machine.execPuntReceived s
  | .shaperRefill => Sys2Proof.Machine.execShaperRefill s
  | .tallyExport => Sys2Proof.Machine.execTallyExport s
  | .modelStep => Sys2Proof.Machine.execModelStep s
  | .roundRecordLate => Sys2Proof.Machine.execRoundRecordLate s
  | .critAssert => Sys2Proof.Machine.execCritAssert s
  | .critRelease => Sys2Proof.Machine.execCritRelease s
  | .heartbeat => Sys2Proof.Machine.execHeartbeat s
  | .hostSilence => Sys2Proof.Machine.execHostSilence s
  | .unlockChal => Sys2Proof.Machine.execUnlockChal s
  | .unlockNonceExpiry => Sys2Proof.Machine.execUnlockNonceExpiry s
  | .glitchTrip => Sys2Proof.Machine.execGlitchTrip s
  | .ptpMasterInterval => Sys2Proof.Machine.execPtpMasterInterval s

end Sys2Proof.Machine
end

