-- ==== Sys2Proof/Machine/Pins.lean ====
section
/-! DEFINITION. The levels of the device's own output balls that follow from its state: HIRQ_N and the pins of VDDIO_S (R32, R34,
R74, R175, R367, R368, R555). -/

namespace Sys2Proof.Machine

/-- What an output ball does; a PWM is high for `ticks` of its period. -/
inductive PinLevel where
  | low | high | highZ
  | pwm (ticks : Nat)
  deriving DecidableEq, Repr

/-- A driven level while the ball's bank is in range, high impedance otherwise (R32). -/
def pinOf (bank on_ : Bool) : PinLevel := if !bank then .highZ else if on_ then .high else .low

/-- HIRQ_N, an open drain: low exactly while an enabled bit of IRQ_STATUS is set (R175). -/
def hirqPin (d : Dev) : PinLevel := if d.aon.bankH && decide ((d.hw.irqStatus &&& d.hw.irqEnable) ≠ 0) then .low else .highZ

/-- PPS_OUT, EPOCH_OUT0 and EPOCH_OUT1 (R367, R368). -/
def ppsOutPin (d : Dev) : PinLevel := pinOf d.aon.bankS d.tm.ppsOut
@[inherit_doc ppsOutPin] def epochOutPin (d : Dev) (n : Nat) : PinLevel :=
  pinOf d.aon.bankS (if n = 0 then d.tm.epochOut0 else d.tm.epochOut1)

/-- FANn_PWM: high impedance where the variant lacks the fan (R34), low in DORMANT (R74), else the PWM of the duty in
force. -/
def fanPin (d : Dev) (f : Nat) : PinLevel :=
  if !d.aon.bankS || (f == 1 && unitHeld d .fan1) then .highZ
  else if d.boot.stage = .down then .low
  else .pwm (fanOf d f).highTicks

/-- PWR_EN (R42), on the internal supply. -/
def pwrEnPin (d : Dev) : PinLevel := pinOf true d.aon.pwrEn

end Sys2Proof.Machine
end

