-- ==== Sys2Proof/Safety.lean ====
section
/-! DEFINITION. What claims say of a run: that a command completes and what its next state holds, what settles with it, and the
invariant of the flags that follow from the state. -/

namespace Sys2Proof.Safety

open Sys2Proof.Machine

/-! ### What a command answers -/

/-- The command answers a next state, with the queue as it was, and the device that results is as `P` says. -/
def Answers (c : Instr) (s : State) (P : Dev → Prop) : Prop :=
  ∃ t : State, exec c s = .next t ∧ t.pending = s.pending ∧ P t.dev

/-- The device as a command finds it: the emissions and the event alarms of the command before are gone (R633). -/
def hush (d : Dev) : Dev := newTick d

/-- `t` is `u` in everything but what settles after a command: ACTIVE, LATCHED and what the subscriptions saw (R142, R633), and
of IRQ_STATUS bits 7 (ALARM, R633) and 8 (PORT, Table 5-11). -/
def Became (t u : Dev) : Prop :=
  t = { u with od := { u.od with alarmActive := t.od.alarmActive, alarmLatched := t.od.alarmLatched, subs := t.od.subs },
               hw := { u.hw with irqStatus := t.hw.irqStatus } } ∧
  t.hw.irqStatus &&& 0x27F = u.hw.irqStatus &&& 0x27F

/-- Bit `i` of IRQ_STATUS. -/
def irq (d : Dev) (i : Nat) : Bool := d.hw.irqStatus.getLsbD i

/-- The timer runs and expires `ns` after the device's present instant. -/
def runsFor (t : Timer) (ns : Nat) (d : Dev) : Prop := (t, d.now + ns) ∈ d.timers

/-- The device at the instant when a running timer expires: the time up to then has passed, and the timer is stopped. -/
def expired (t : Timer) (d : Dev) : Dev := disarm t (reach t (hush d))

/-! ### What stays -/

/-- The switch core stands: buffers and queues, station and VLAN tables, routes, classifier, policers. -/
def SameSwitch (t d : Dev) : Prop := t.fab = d.fab ∧ t.st = d.st ∧ t.rt = d.rt ∧ t.cls = d.cls

/-- The power plane stands: cable ports, slots and the shepherd's ledger. -/
def SamePower (t d : Dev) : Prop := t.cables = d.cables ∧ t.slots = d.slots ∧ t.shep = d.shep

/-- The timebase and the bus stand. -/
def SameTime (t d : Dev) : Prop := t.tm = d.tm ∧ t.ng = d.ng

/-- The fuses, the flash and the heat model stand. -/
def SameStores (t d : Dev) : Prop := t.otp = d.otp ∧ t.flash = d.flash ∧ t.heat = d.heat

/-- The AON domain, the boot record and the clock stand. -/
def SameAon (t d : Dev) : Prop := t.aon = d.aon ∧ t.boot = d.boot ∧ t.now = d.now

/-- Every cable port but `n` stands; when a partner leaves, another port may take over the USB 2.0 pair it held (R206). -/
def OthersStand (n : Nat) (t d : Dev) : Prop :=
  ∀ m : Nat, m ≠ n → cable t m = { cable d m with usb2Closed := (cable t m).usb2Closed, usb2Conflict := (cable t m).usb2Conflict }

/-- An event of one cable port leaves the slots, the fuses, the flash, the heat model and the routes alone, and of the classifier
all but the policers, of which a profile sets its port's own (R517). -/
def BesidePort (t d : Dev) : Prop :=
  t.slots = d.slots ∧ SameStores t d ∧ t.rt = d.rt ∧ t.cls = { d.cls with policers := t.cls.policers }

/-- An event of one cable port, in which no other has a part. -/
def OnlyPort (n : Nat) (t d : Dev) : Prop := (∀ m : Nat, m ≠ n → cable t m = cable d m) ∧ BesidePort t d

/-- Every plane beside the engine of the object dictionary and the host window stands. -/
def SameRest (t d : Dev) : Prop := SameSwitch t d ∧ SamePower t d ∧ SameTime t d ∧ SameStores t d ∧ SameAon t d

/-! ### Power Delivery messages -/

/-- A message with MessageID `id` reaches the port's policy: its engine listens, the ID is new and no BIST Test Data runs (R251,
R253). -/
def Hears (d : Dev) (n : Nat) (id : BitVec 3) : Prop :=
  pdListens d n = true ∧ (cable d n).rxId ≠ some id ∧ (cable d n).bist ≠ some .testData

/-- A VDM answer with MessageID `id` reaches a port that awaits one in step `v` (R220, R222). -/
def HearsVdm (d : Dev) (n : Nat) (id : BitVec 3) (v : VdmStep) : Prop := Hears d n id ∧ (cable d n).vdm = v

/-- The ceiling of profile `p` is admitted on a port; a sink port asks for none (R287). -/
def CeilingFits (d : Dev) (n p : Nat) : Prop :=
  (cable d n).powerRole = .sink ∨ (profCeiling d p : Int) - (cable d n).booked ≤ ledgerFree d

/-- Profile `p` is in force on a port (R16). -/
def InForce (n p : Nat) (t d : Dev) : Prop :=
  (cable t n).profileId = p ∧ (cable t n).profileOn = true ∧
  (cable t n).ceiling = (if p = 0 then none else some (profCeiling d p)) ∧ (cable t n).rank = cfg d (0x2400 + p) 6 ∧
  (cable t n).ng = ngShare d p

/-- The port has sent a message, which waits for its GoodCRC (R253, R254). -/
def Says (n : CPort) (m : PdMsg) (t : Dev) : Prop := Emission.pd n m ∈ t.out ∧ (cable t n.val).lastSent = some m

/-- What answers a received message: the port's answer, when no message of its own is outstanding, and nothing else of power,
switch or time. -/
def Replies (n : CPort) (m : PdMsg) (t d : Dev) : Prop :=
  ((cable d n.val).lastSent = none → Says n m t) ∧ (cable t n.val).contract = (cable d n.val).contract ∧
  (cable t n.val).booked = (cable d n.val).booked ∧ (cable t n.val).gateOn = (cable d n.val).gateOn ∧
  (∀ k : Nat, k ≠ n.val → cable t k = cable d k) ∧ SameSwitch t d ∧ SameTime t d ∧ SameStores t d ∧ SameAon t d

/-! ### Writes of the object dictionary -/

/-- A write of session `s` in the highest role is served and passes its checks (R95, R130). -/
def Admitted (d : Dev) (s obj el : Nat) (payload : List Byte) : Prop :=
  odServes d = true ∧ odVerify (hush d) s .custodian obj el payload = stOk

/-- The octets that a command's number makes for an element. -/
def octetsOf (d : Dev) (obj el v : Nat) : List Byte :=
  match odElem (hush d) obj el with
  | some e => leBytes e.ty.size v
  | none => []

/-- The same for a number that fits the element. -/
def AdmittedValue (d : Dev) (s obj el v : Nat) : Prop :=
  (∃ e, odElem (hush d) obj el = some e ∧ v < 256 ^ e.ty.size) ∧ Admitted d s obj el (octetsOf d obj el v)

/-- A write that is served reports OK, with the effect as `P` says. -/
def Serves (c : Instr) (s : State) (P : Dev → Prop) : Prop := Answers c s fun t => Emission.status 0 ∈ t.out ∧ P t

/-! ### Requests of ZOP -/

/-- A request that reaches the engine and passes what R111, R115, R120, R136 and R143 check before execution. -/
def Accepted (opcode : Byte) (q : ZReq) (d : Dev) : Prop :=
  reaches q opcode d = true ∧ isFragment q = false ∧ malformed q opcode = false ∧ admissionBusy q opcode = false ∧
  sessionServes q d = true ∧ tagFails q opcode d = false

/-- The request is new to its session, `n` sequence numbers ahead of HIGHEST (R123). -/
def Ahead (q : ZReq) (n : Nat) (d : Dev) : Prop := seqCase (sessionOf d (reqSession q)) q.seq = .ahead n

/-- The octets that answer a request. -/
def answerOctets (q : ZReq) (opcode : Byte) (a : Answer) (d : Dev) : List Byte :=
  responseOctets q opcode a.status 0 a.payload (if a.plain then none else (sessionOf d (reqSession q)).ks)

/-- The octets of an answer that executes nothing: no tag on the mailbox or PD (R125, Table 4-8). -/
def refusalOctets (q : ZReq) (opcode : Byte) (status aux : Nat) (d : Dev) : List Byte :=
  responseOctets q opcode status aux [] (if neverTagged q.via then none else (sessionOf d (reqSession q)).ks)

/-- The response has gone out on the transport of the request (R127). -/
def responds (q : ZReq) (octets : List Byte) (t : Dev) : Prop := Emission.zop q.via octets ∈ t.out

/-- The device once the engine has taken the request off its transport (R144, R253). -/
def taken (q : ZReq) (opcode : Byte) (d : Dev) : Dev := takeRequest q opcode (hush d)

/-- The power plane stands, but for the PD engine of the cable port that a message on PD uses. -/
def PowerBeside (via : Transport) (t d : Dev) : Prop :=
  (∀ m : Nat, (∀ n id, via = .pd n id → m ≠ n.val) → cable t m = cable d m) ∧ t.slots = d.slots ∧ t.shep = d.shep

/-- The planes beside the engine's own, the host window, the queues of the request's transport and the timers are as an effect
made them. -/
def SamePlanes (via : Transport) (t d : Dev) : Prop :=
  SameSwitch t d ∧ PowerBeside via t d ∧ t.tm = d.tm ∧ SameStores t d ∧ SameAon t d

/-- A request that opens a session, as far as R111, R115, R120, R136 and R143 check it. -/
def AcceptedOpen (q : ZReq) (d : Dev) : Prop :=
  reaches q opSessionOpen d = true ∧ isFragment q = false ∧ malformed q opSessionOpen = false ∧
  admissionBusy q opSessionOpen = false ∧ boundRight d (reqSession q) q.via = true ∧ tagFails q opSessionOpen d = false

/-! ### Table DMA -/

/-- The engine may run the descriptor at TDMA_HEAD (R177, R192). -/
def tdmaMayRun (d : Dev) : Prop :=
  mgtRuns d = true ∧ d.hw.tdmaRun = none ∧ d.hw.tdmaEnable = true ∧ d.hw.tdmaStopped = false ∧ d.fab.resetting = false ∧ d.hw.tdmaHead ≠ d.hw.tdmaTail

/-- A descriptor has ended on the device that its records left, `u`: its result fields stand in staging, TDMA_HEAD goes on, the
interrupts that it asks for rise, and an error stops the engine where it asks for that (Table 5-4, R192). -/
def Finished (q : Desc) (status result done : Nat) (u s t : Dev) : Prop :=
  SameSwitch t u ∧ byteAt 0 t.hw.staging (q.at_ + 16) = BitVec.ofNat 8 status ∧
  readBytes 0 t.hw.staging (q.at_ + 20) 4 = leBytes 4 result ∧ readBytes 0 t.hw.staging (q.at_ + 24) 2 = leBytes 2 done ∧
  (∀ i : Nat, (i < q.at_ + 16 ∨ q.at_ + 26 ≤ i) → byteAt 0 t.hw.staging i = byteAt 0 u.hw.staging i) ∧
  t.hw.tdmaHead = BitVec.ofNat 6 (if s.hw.tdmaHead.toNat + 1 < s.hw.ringSize.toNat then s.hw.tdmaHead.toNat + 1 else 0) ∧
  t.hw.tdmaRun = none ∧ (bit q.flags 0 = true → irq t 3 = true) ∧ (status ≠ dOk → irq t 4 = true) ∧
  t.hw.tdmaStopped = (bit q.flags 1 && status != dOk)

/-! ### The invariant -/

/-- What always follows from the rest of the state: IRQ_STATUS.PORT is the OR of the enabled bits of IRQ_PORT (Table 5-11), and
while the engine serves requests the conditions that ACTIVE shows are the condition alarms that hold (R633). -/
def Inv (s : State) : Prop :=
  irq s.dev 8 = decide (s.dev.hw.irqPort &&& s.dev.hw.irqPortEn ≠ 0) ∧
  (odServes s.dev = true → s.dev.od.alarmActive = BitVec.ofNat 64 (condAlarms s.dev))

/-- A step is safe when it answers a next state: it neither stops nor is refused. -/
def SafeStep (s : State) : Prop := ∃ t : State, step s = .next t

end Sys2Proof.Safety
end

