-- ==== Sys2Proof/Certificates/Slice0/Obligations.lean ====
section
/-! DEFINITION. What the model is claimed to do: for every command of the table the next state that its own effect makes and
what stands, how a step runs, what reset leaves, how the memories keep their form, and the invariant that every step keeps.
`Became t u` says that `t` is `u` but for the flags that settle after a command (R142, R633, Table 5-11). -/

section

open Sys2Proof Sys2Proof.Machine Sys2Proof.Safety

/-! ### The step, the queue and the flags -/

/-- A step takes the command at the front of the queue and runs it with the queue's rest. -/
def Obligations.StepRunsFrontCommand : Prop :=
  ∀ (c : Instr) (rest : List Instr) (s : State), s.pending = c :: rest → step s = exec c { s with pending := rest }

/-- The model's choice (log entry 2): with no command waiting a step is one TTB tick of 8 ns; the clock advances, the timebase
with it while its domain runs, the event alarms of the tick before are over, and nothing else changes. -/
def Obligations.EmptyQueueTick : Prop :=
  ∀ s : State, s.pending = [] → ∃ t : State, step s = .next t ∧ t.pending = [] ∧ t.dev.now = s.dev.now + 8 ∧
    t.dev.tm = (if ttbRuns s.dev then { s.dev.tm with tb := s.dev.tm.tb + BitVec.ofInt 96 (8 * 2 ^ 32 + s.dev.tm.rateTrim) }
                else s.dev.tm) ∧
    t.dev = { s.dev with now := t.dev.now, tm := t.dev.tm, od := { s.dev.od with alarmEvents := 0 } }

/-- Every step answers a next state, and takes from the queue what it ran and no more. -/
def Obligations.StepNeverStops : Prop :=
  ∀ s : State, ∃ t : State, step s = .next t ∧ t.pending = s.pending.tail

/-- The flags that follow from the state follow after every step: IRQ_STATUS.PORT is the OR of the enabled bits of IRQ_PORT, and
the conditions of ACTIVE are the condition alarms that hold. -/
def Obligations.FlagsInvariantKept : Prop :=
  ∀ s t : State, Inv s → step s = .next t → Inv t

/-- State.reset has the invariant, no command waiting, an erased flash in canonical form, and the values that the register tables give
for reset: DUMMY 8, IRQ_ENABLE 1, WAKE_ENABLE 0x37, FREERUN, fans at full duty, every gate off. -/
def Obligations.ResetState : Prop :=
  let d := State.reset.dev
  Inv State.reset ∧ State.reset.pending = [] ∧ Memory.wf erased d.flash = true ∧ (∀ a : Nat, byteAt erased d.flash a = 0xFF) ∧
  d.hw.dummy = 8 ∧ d.hw.irqEnable = 1 ∧ d.hw.irqStatus = 0 ∧ d.aon.wakeEnable = 0x37 ∧ d.aon.pwrEn = false ∧
  d.tm.state = .freerun ∧ d.tm.tb = 0 ∧ (∀ f : Nat, (fanOf d f).wanted = 1024 ∧ (fanOf d f).highTicks = 160) ∧
  (∀ n : Nat, (cable d n).gateOn = false ∧ (cable d n).contract = .none) ∧ (∀ obj el : Nat, cfg d obj el = odDefault d obj el) ∧
  vlanMembers d (vlanOf d 1) = 0x7FFF &&& present d ∧ vlanFid (vlanOf d 4094) 4094 = 4094

/-- The timer operations: an armed timer runs for the time given and no other timer changes; time that passes moves every timer
nearer; an expiry reaches its instant.
(Log entry 2: an expiry's command reaches its timer's instant first.) -/
def Obligations.TimersKeepTime : Prop :=
  (∀ (t : Timer) (ns : Nat) (d : Dev), armed t (arm t ns d) = true ∧ timeLeft t (arm t ns d) = ns) ∧
  (∀ (t u : Timer) (ns : Nat) (d : Dev), u ≠ t → timeLeft u (arm t ns d) = timeLeft u d ∧ armed u (arm t ns d) = armed u d) ∧
  (∀ (t : Timer) (ns : Nat) (d : Dev), timeLeft t (elapse ns d) = timeLeft t d - ns) ∧
  (∀ (t : Timer) (d : Dev), timeLeft t (reach t d) = 0 ∧ armed t (expired t d) = false)

/-! ### Waking, reset and start-up -/

/-- AON POR and its pins (R63, R71, R80, R101): release opens the strap window; POR clears everything but the flash, the fuses
and what stands outside; RESET_N low holds the device in SYS reset with PWR_EN low; no crystal leaves the internal RC.
(Log entry 2: an expiry's command reaches its timer's instant first.) -/
def Obligations.PowerOnReset : Prop :=
  (∀ s : State, aonRuns s.dev = false →
    Answers .aonPorRelease s fun t => Became t (arm .xtal (1000 * ms)
      { hush s.dev with
        aon := { s.dev.aon with lastReset := .por, lastWake := 0x80, railSawTimeout := false,
                                window := some { all := true, sampleA := none }, pwrEn := false }
        boot := { s.dev.boot with startAt := s.dev.now, stage := .strapsS } })) ∧
  (∀ s : State, Answers .porAssert s fun t =>
    t.aon = { Aon.reset with resetNLow := s.dev.aon.resetNLow, bankH := s.dev.aon.bankH, bankF := s.dev.aon.bankF,
                             bankS := s.dev.aon.bankS, bankN := s.dev.aon.bankN, vconnOk := s.dev.aon.vconnOk } ∧
    t.boot = Boot.reset ∧ t.timers = [] ∧ t.cables = [] ∧ t.slots = [] ∧ t.shep = Shepherd.reset ∧ t.ng = Nguzo.reset ∧
    t.tm = TimeBase.reset ∧ t.fab = Fabric.reset ∧ t.st = StationTab.reset ∧ t.rt = RouteTab.reset ∧ t.cls = ClassTab.reset ∧
    t.heat = Heat.reset ∧ t.od.cfg = [] ∧ t.od.sessions = [] ∧ t.flash = s.dev.flash ∧ t.now = s.dev.now ∧
    (s.dev.otp.burn = none → t.otp = { Otp.reset with array := s.dev.otp.array, marginal := s.dev.otp.marginal })) ∧
  (∀ s : State, Answers .resetNAssert s fun t =>
    t.aon.resetNLow = true ∧ t.flash = s.dev.flash ∧ t.now = s.dev.now ∧
    (aonRuns s.dev = false → Became t { hush s.dev with aon := { s.dev.aon with resetNLow := true } }) ∧
    (aonRuns s.dev = true → t.aon.lastReset = .resetN ∧ t.aon.pwrEn = false ∧
      t.aon.sysResetCount = (s.dev.aon.sysResetCount + 1) % 2 ^ 32 ∧ t.boot.stage = .down)) ∧
  (∀ s : State, s.dev.aon.resetNLow = true → s.dev.aon.window = none → aonRuns s.dev = true →
    Answers .resetNRise s fun t => Became t
      { hush s.dev with
        aon := { s.dev.aon with resetNLow := false, window := some { all := false, sampleA := none }, pwrEn := false }
        boot := { s.dev.boot with stage := .strapsS } }) ∧
  (∀ s : State, armed .xtal s.dev = true → s.dev.aon.aonRc = false →
    Answers .aonXtalFail s fun t => Became t
      { expired .xtal s.dev with aon := { s.dev.aon with xtalFail := true } })

/-- A RESET_N rising edge inside an open strap window starts no second one (R59): the open window stands with its samples, and
boot, which RESET_N held back, is at step STRAPS. -/
def Obligations.OneStrapWindow : Prop :=
  ∀ (s : State) (w : StrapWindow), s.dev.aon.window = some w →
    Answers .resetNRise s fun t => t.aon.window = some w ∧ Became t
      { hush s.dev with
        aon := { s.dev.aon with resetNLow := false }
        boot := { s.dev.boot with
          stage := if s.dev.aon.resetNLow && aonRuns s.dev then .strapsS else s.dev.boot.stage } }

/-- Strap sampling (R36, R38, R39, R42) and the end of OTP_CHECK (R40, R88, R90). Sample A is kept; with sample B each strap
of the window takes sample B, or its fallback when the samples differ, TCRIT and AON_SEL in the window of a POR release alone; the
rails step begins with PWR_EN high, unless RESET_N is low or VSYS is still to come. OTP_CHECK's end puts the overrides of OTP in
force, and where OTP gives none the strap's own value. -/
def Obligations.StrapSampling : Prop :=
  (∀ (s : State) (all : Bool) (levels : BitVec 5), s.dev.aon.window = some { all := all, sampleA := none } →
    Answers (.strapSampleA levels) s fun t => Became t
      { hush s.dev with aon := { s.dev.aon with window := some { all := all, sampleA := some levels } } }) ∧
  (∀ (s : State) (all : Bool) (a b : BitVec 5), s.dev.aon.window = some { all := all, sampleA := some a } →
    Answers (.strapSampleB b) s fun t =>
      t.aon.window = none ∧
      (∀ i : Nat, (i < 5 ∧ (all = true ∨ 3 ≤ i)) → t.aon.floating.getLsbD i = (a.getLsbD i != b.getLsbD i)) ∧
      (all = true → a.getLsbD 0 = b.getLsbD 0 → a.getLsbD 1 = b.getLsbD 1 →
        t.aon.tcrit.getLsbD 0 = b.getLsbD 0 ∧ t.aon.tcrit.getLsbD 1 = b.getLsbD 1) ∧
      (all = true → (a.getLsbD 0 ≠ b.getLsbD 0 ∨ a.getLsbD 1 ≠ b.getLsbD 1) → t.aon.tcrit = 0) ∧
      (all = true → t.aon.aonRc = if a.getLsbD 2 = b.getLsbD 2 then b.getLsbD 2 else true) ∧
      (all = false → t.aon.tcrit = s.dev.aon.tcrit ∧ t.aon.aonRc = s.dev.aon.aonRc) ∧
      (a.getLsbD 3 = b.getLsbD 3 → t.aon.bootHost = b.getLsbD 3) ∧ (a.getLsbD 3 ≠ b.getLsbD 3 → t.aon.bootHost = false) ∧
      (a.getLsbD 4 = b.getLsbD 4 → t.aon.bootHold = b.getLsbD 4) ∧ (a.getLsbD 4 ≠ b.getLsbD 4 → t.aon.bootHold = false) ∧
      (s.dev.aon.resetNLow = false → s.dev.aon.preReg = false →
        t.aon.pwrEn = true ∧ t.boot.stage = .railsS ∧ runsFor .railTimeout (10 * ms) t) ∧
      (s.dev.aon.resetNLow = true ∨ s.dev.aon.preReg = true → t.aon.pwrEn = s.dev.aon.pwrEn ∧ t.boot = s.dev.boot) ∧
      SameSwitch t s.dev ∧ SamePower t s.dev ∧ SameTime t s.dev ∧ SameStores t s.dev ∧ t.od.cfg = s.dev.od.cfg) ∧
  (∀ s : State, s.dev.boot.stage = .otpCheck →
    Answers .otpCheckDone s fun t =>
      t.aon.aonRc = (strapOverride s.dev).1.getD (strapValue s.dev.aon 2 true) ∧
      t.aon.bootHost = (strapOverride s.dev).2.getD (strapValue s.dev.aon 3 false) ∧
      t.aon.overridden.getLsbD 2 = (strapOverride s.dev).1.isSome ∧
      t.aon.overridden.getLsbD 3 = (strapOverride s.dev).2.isSome ∧
      t.boot.stage = (if s.dev.aon.bootHold then .hold else if t.aon.bootHost then .imageHost else .imageFlash) ∧
      SameSwitch t s.dev ∧ SamePower t s.dev ∧ SameTime t s.dev ∧ SameStores t s.dev ∧ t.od.cfg = s.dev.od.cfg)

/-- Rails and reference (R43, R61, R62, R88, R89): the rails step ends when all are in range; a step that fails drops PWR_EN,
counts and retries 1 s later, and gives up in DORMANT at the third in a row; the first OTP_CHECK after POR lets the balls of the
units that the variant has leave their safe state, and no later one changes which variant that was; a rail lost with PWR_EN high clamps every gate and
resets the switched domains. -/
def Obligations.RailsAndReference : Prop :=
  (∀ s : State, s.dev.boot.stage = .railsS → s.dev.aon.pwrEn = true →
    Answers .railsInRange s fun t =>
      t.aon = { s.dev.aon with coreOk := true, serOk := true, hkOk := true, clamp := false, railFails := 0 } ∧
      t.boot = { s.dev.boot with stage := .refclk } ∧ armed .railTimeout t = false ∧
      runsFor .refTimeout (5 * ms) t ∧ runsFor .bootLimit (1000 * ms) t ∧
      SameSwitch t s.dev ∧ SamePower t s.dev ∧ SameTime t s.dev ∧ SameStores t s.dev ∧ t.od.cfg = s.dev.od.cfg) ∧
  (∀ s : State, s.dev.boot.stage = .railsS → armed .railTimeout s.dev = true →
    Answers .railTimeout s fun t =>
      t.aon.pwrEn = false ∧ t.aon.railFailCount = (s.dev.aon.railFailCount + 1) % 65536 ∧
      (s.dev.aon.railFails < 2 → t.boot.stage = .railsS ∧ runsFor .railRetry (1000 * ms) t) ∧
      (2 ≤ s.dev.aon.railFails → t.boot.stage = .down ∧ t.aon.power = .dormant) ∧
      SameSwitch t s.dev ∧ SamePower t s.dev ∧ SameStores t s.dev ∧ t.od.cfg = s.dev.od.cfg) ∧
  (∀ s : State, s.dev.boot.stage = .railsS → armed .railRetry s.dev = true →
    Answers .railRetry s fun t => t.boot.stage = .railsS ∧ t.aon.pwrEn = true ∧ runsFor .railTimeout (10 * ms) t ∧
      SameSwitch t s.dev ∧ SamePower t s.dev ∧ SameStores t s.dev ∧ t.od.cfg = s.dev.od.cfg) ∧
  (∀ (s : State) (r : Rail), s.dev.aon.pwrEn = true → railOk s.dev.aon r = true →
    Answers (.railOutOfRange r) s fun t =>
      t.aon.clamp = true ∧ t.aon.lastReset = .rail ∧ t.aon.hold0 = false ∧ t.aon.hold1 = false ∧ t.cables = [] ∧
      t.boot.stage = .railsS ∧ t.od.cfg = [] ∧ t.fab = Fabric.reset ∧ t.flash = s.dev.flash) ∧
  (∀ s : State, s.dev.boot.stage = .refclk →
    Answers .refclkLock s fun t => t.boot.stage = .otpCheck ∧ t.aon.refFails = 0 ∧ armed .refTimeout t = false ∧
      (s.dev.otp.firstVariant = none → (∀ u : BallUnit, heldBalls s.dev u = some (safeBalls u)) ∧
        ∀ u : BallUnit, heldBalls t u = if lacksBalls t.otp.variant u then some (safeBalls u) else none) ∧
      (∀ v : Nat, s.dev.otp.firstVariant = some v → t.otp.firstVariant = some v) ∧
      t.flash = s.dev.flash ∧ t.cables = s.dev.cables ∧ t.fab = s.dev.fab ∧ t.rt = s.dev.rt) ∧
  (∀ s : State, s.dev.boot.stage = .refclk → armed .refTimeout s.dev = true →
    Answers .refclkTimeout s fun t =>
      t.aon.pwrEn = false ∧ t.aon.refFailCount = (s.dev.aon.refFailCount + 1) % 65536 ∧
      (s.dev.aon.refFails < 2 → t.boot.stage = .railsS ∧ runsFor .railRetry (1000 * ms) t) ∧
      (2 ≤ s.dev.aon.refFails → t.boot.stage = .down ∧ t.aon.power = .dormant) ∧
      SameSwitch t s.dev ∧ SamePower t s.dev ∧ SameStores t s.dev ∧ t.od.cfg = s.dev.od.cfg)

/-- DORMANT and IDLE (R67, R69, R71, R73, R74, R99, R100): the Rp windows (CC code 2 is Rp Default, 1 is Rd) and the guard's
check of DORMANT with its count of dry checks, entry into DORMANT
with PWR_EN low and the wake configuration in AON, the timer and the latched wake that end it, and leaving ACTIVE. -/
def Obligations.DormantAndIdle : Prop :=
  (∀ (s : State) (opens : Bool), isDormant s.dev = true →
    Answers (.dormantRpWindow opens) s fun t => Became t
      { hush s.dev with
        aon := { s.dev.aon with rpWindow := opens }
        out := [.cc 0 (if opens && !s.dev.aon.rpSuppress0 then 2 else 1), .cc 1 (if opens && !s.dev.aon.rpSuppress1 then 2 else 1)] }) ∧
  (∀ (s : State) (k0 k1 : Nat), isDormant s.dev = true →
    let w0 := wetNext (cfg s.dev 0x2300 0) k0 s.dev.aon.rpSuppress0 s.dev.aon.dryChecks0
    let w1 := wetNext (cfg s.dev 0x2300 0) k1 s.dev.aon.rpSuppress1 s.dev.aon.dryChecks1
    Answers (.dormantMoistureCheck k0 k1) s fun t =>
      (k0 < cfg s.dev 0x2300 0 → t.aon.rpSuppress0 = true) ∧ (k1 < cfg s.dev 0x2300 0 → t.aon.rpSuppress1 = true) ∧
      (s.dev.aon.rpSuppress0 = true → s.dev.aon.dryChecks0 < 2 → t.aon.rpSuppress0 = true) ∧
      (s.dev.aon.rpSuppress1 = true → s.dev.aon.dryChecks1 < 2 → t.aon.rpSuppress1 = true) ∧
      Became t { hush s.dev with
        aon := { s.dev.aon with rpSuppress0 := w0.1, dryChecks0 := w0.2, rpSuppress1 := w1.1, dryChecks1 := w1.2 } }) ∧
  (∀ s : State, s.dev.boot.stage = .ready → s.dev.aon.power = .idle → s.dev.boot.leaving = false → cfg s.dev 0x14 1 = 3 →
    dormantBlock s.dev = 0 →
    Answers .dormantEntry s fun t =>
      t.aon.power = .dormant ∧ t.aon.pwrEn = false ∧ t.boot.stage = .down ∧ t.aon.wakeEnable = BitVec.ofNat 6 (cfg s.dev 0x14 3) ∧
      runsFor .latchedBoot (5 * ms) t ∧
      (cfg s.dev 0x14 4 ≠ 0 → runsFor .dormant (cfg s.dev 0x14 4 * sec) t) ∧ t.flash = s.dev.flash ∧
      t.otp.array = s.dev.otp.array ∧ t.otp.marginal = s.dev.otp.marginal ∧ t.now = s.dev.now) ∧
  (∀ (s : State) (also : BitVec 6), armed .dormant s.dev = true → isDormant s.dev = true → s.dev.aon.resetNLow = false →
    s.dev.aon.wakeEnable.getLsbD 5 = true → armed .latchedBoot s.dev = false → s.dev.aon.window = none →
    Answers (.dormantTimerExpiry also) s fun t =>
      t.aon.lastWake = (((32 ||| also) &&& s.dev.aon.wakeEnable) ||| s.dev.aon.wakeLatch).zeroExtend 8 ∧
      t.aon.pwrEn = true ∧ t.boot.stage = .railsS ∧
      SameSwitch t s.dev ∧ SamePower t s.dev ∧ SameStores t s.dev ∧ t.od.cfg = s.dev.od.cfg) ∧
  (∀ s : State, armed .latchedBoot s.dev = true → s.dev.aon.wakeLatch ≠ 0 →
    Answers .wakeLatchedBoot s fun t =>
      t.aon.lastWake = s.dev.aon.wakeLatch.zeroExtend 8 ∧ t.aon.wakeLatch = 0 ∧ t.aon.pwrEn = true ∧ t.boot.stage = .railsS ∧
      SameSwitch t s.dev ∧ SamePower t s.dev ∧ SameStores t s.dev ∧ t.od.cfg = s.dev.od.cfg) ∧
  (∀ s : State, armed .idleHold s.dev = true → s.dev.boot.stage = .ready → s.dev.aon.power = .active → cfg s.dev 0x14 1 = 0 →
    activity s.dev = false →
    Answers .idleHoldExpiry s fun t =>
      t.aon = { s.dev.aon with power := .idle } ∧ t.boot = { s.dev.boot with leaving := true } ∧ t.ng.node = .off ∧
      runsFor .drain ms t ∧ SameSwitch t s.dev ∧ SamePower t s.dev ∧ SameStores t s.dev ∧ t.od.cfg = s.dev.od.cfg) ∧
  (∀ s : State, armed .drain s.dev = true →
    Answers .activeDrainTimeout s fun t =>
      t.boot = { s.dev.boot with leaving := false } ∧ armed .drain t = false ∧ t.aon = s.dev.aon ∧
      (∀ p : Nat, p < 16 → (swPort t p).sending = none) ∧ SameStores t s.dev ∧ t.od.cfg = s.dev.od.cfg)

/-- The wake events that a pin or a line brings (R70, R97, R100): in DORMANT with RESET_N high, the bit enabled and no discharge
of the rails awaited and no strap window open, LAST_WAKE takes the event's bit with what was latched, and boot begins at the rails step; an attach is
kept for READY besides. -/
def Obligations.WakeEvents : Prop :=
  ∀ (s : State) (c : Instr) (i : Nat) (vbus : Bool),
    (c, i) ∈ ([(.wakeCAttach ⟨0, vbus⟩, 0), (.wakeCAttach ⟨1, vbus⟩, 1), (.wakeNg, 2), (.wakePpsIn, 3), (.wakeHcsN, 4)] :
      List (Instr × Nat)) →
    isDormant s.dev = true → s.dev.aon.resetNLow = false → s.dev.aon.wakeEnable.getLsbD i = true →
    armed .latchedBoot s.dev = false → s.dev.aon.window = none →
    (i < 2 → vbus = true ∨ comparatorsRun s.dev i = true) → (i = 4 → s.dev.aon.bankH = true) →
    Answers c s fun t =>
      t.aon.lastWake = (BitVec.ofNat 6 (2 ^ i) ||| s.dev.aon.wakeLatch).zeroExtend 8 ∧
      t.aon.pwrEn = true ∧ t.boot.stage = .railsS ∧ t.boot.startAt = s.dev.now ∧ runsFor .railTimeout (10 * ms) t ∧
      t.boot.latched = (if i < 2 then s.dev.boot.latched ||| BitVec.ofNat 6 (2 ^ i) else s.dev.boot.latched) ∧
      SameSwitch t s.dev ∧ SamePower t s.dev ∧ SameTime t s.dev ∧ SameStores t s.dev ∧ t.od.cfg = s.dev.od.cfg

/-- A dead-battery start (R76, R77): VBUS above 4.0 V on C0, or on C1, releases AON POR from the pre-regulator; the port's gates
close after the debounce; VSYS takes over and boot goes on at the rails step. -/
def Obligations.DeadBattery : Prop :=
  (∀ (s : State) (v0 v1 : Nat) (rp : RpLevel), aonRuns s.dev = false → (4000 < v0 ∨ 4000 < v1) →
    Answers (.deadBatteryStart v0 v1 rp) s fun t => Became t (arm .xtal (1000 * ms)
      { hush s.dev with
        aon := { s.dev.aon with preReg := true, dbPort := some (if 4000 < v0 then 0 else 1), dbClosed := false, dbRp := some rp,
                                lastReset := .por, lastWake := 0x40, railSawTimeout := false,
                                window := some { all := true, sampleA := none }, pwrEn := false }
        boot := { s.dev.boot with startAt := s.dev.now, stage := .strapsS } })) ∧
  (∀ (s : State) (n : Fin 2), s.dev.aon.dbPort = some n → s.dev.aon.preReg = true → s.dev.aon.dbClosed = false →
    Answers .deadBatterySinkClose s fun t =>
      t.aon = { s.dev.aon with dbClosed := true } ∧ (cable t n.val).gateOn = true ∧
      (∀ m : Nat, m ≠ n.val → cable t m = cable s.dev m) ∧ t.boot = s.dev.boot ∧ SameSwitch t s.dev ∧ SameTime t s.dev ∧
      SameStores t s.dev ∧ t.od.cfg = s.dev.od.cfg) ∧
  (∀ s : State, s.dev.aon.preReg = true → s.dev.aon.dbClosed = true → s.dev.aon.window = none →
    s.dev.aon.resetNLow = false → Answers .vsysTakeover s fun t => Became t (arm .railTimeout (10 * ms)
      { hush s.dev with
        aon := { s.dev.aon with preReg := false, pwrEn := true, fanPullDown := false }
        boot := { s.dev.boot with stage := .railsS } }))

/-- What a SYS reset leaves, whichever event causes it (R80-R84, R87, R88, R102, R104, R599-R601, Table 3-6): boot is at the rails
step with PWR_EN high, the cause and the count stand in AON, everything the switched domains held is at its reset value, the
flash, the clock and the straps stand, and unless a rail failed a port that sourced discharges VBUS and C0 or C1 that sank under a
contract keeps its gates. -/
def Obligations.SysResets : Prop :=
  ∀ (s : State) (c : Instr) (cause : ResetCause),
    ((c = .sysReset cause ∧ cause ∉ [ResetCause.por, .resetN, .hostRequest] ∧ mgtRuns s.dev = true) ∨
     (c = .sysReset cause ∧ cause = .hostRequest ∧ s.dev.boot.sysResetPending = true ∧ s.dev.od.pendingJournal = []) ∨
     (c = .watchdogExpiry ∧ cause = .watchdog ∧ mgtRuns s.dev = true ∧ s.dev.otp.halted = false) ∨
     (c = .bootTimeout ∧ cause = .watchdog ∧ armed .bootLimit s.dev = true) ∨
     (c = .glitchTrip ∧ cause = .glitch ∧ s.dev.aon.pwrEn = true ∧ s.dev.aon.resetNLow = false) ∨
     (c = .debugRequest .sysReset ∧ cause = .debug ∧ mgtRuns s.dev = true ∧ debugState s.dev = 1)) →
    Answers c s fun t =>
      t.aon.lastReset = cause ∧ t.aon.sysResetCount = (s.dev.aon.sysResetCount + 1) % 2 ^ 32 ∧ t.aon.pwrEn = true ∧
      t.boot.stage = .railsS ∧ t.boot.bootDone = false ∧ runsFor .railTimeout (10 * ms) t ∧ t.aon.sampled = s.dev.aon.sampled ∧
      t.aon.tcrit = s.dev.aon.tcrit ∧ t.od.cfg = [] ∧ t.od.sessions = [] ∧ t.slots = [] ∧ t.ng = Nguzo.reset ∧
      t.fab = Fabric.reset ∧ t.rt = RouteTab.reset ∧ t.cls = ClassTab.reset ∧ t.heat = Heat.reset ∧ t.flash = s.dev.flash ∧
      t.hw.reqBuf = s.dev.hw.reqBuf ∧ t.hw.dummy = s.dev.hw.dummy ∧ t.hw.irqEnable = HostWin.reset.irqEnable ∧
      (∀ n : Nat, 2 ≤ n → n ∉ sourcingPorts s.dev → cable t n = Cable.reset) ∧
      (∀ n : Nat, 2 ≤ n → cause ≠ .rail → n ∈ sourcingPorts s.dev →
        cable t n = { Cable.reset with discharge := true, path := .discharging } ∧ runsFor (.discharge n) (650 * ms) t) ∧
      (cause ≠ .rail → sinkHold s.dev 0 = true → (cable t 0).gateOn = true ∧ t.aon.hold0 = true) ∧
      (cause ≠ .rail → sinkHold s.dev 1 = true → (cable t 1).gateOn = true ∧ t.aon.hold1 = true)

/-- A FAB reset (R80, R86, Table 3-6): a free-list ECC error starts one; queues, tally, mordant bits and learned entries go, the
fences, the links and the static entries stand; its end lets frames in again. And the sequencer under open internal debug (R599): a
halt and a run stop and start it and change nothing else, and so a step. -/
def Obligations.FabResetAndDebug : Prop :=
  (∀ s : State, mgtRuns s.dev = true →
    Answers .freelistEccError s fun t =>
      t.fab.resetting = true ∧ runsFor .fabReset (100 * us) t ∧ (∀ p c : Nat, queueOf t p c = Queue.reset) ∧
      (∀ p : Nat, p < 16 → (swPort t p).fenced = (swPort s.dev p).fenced ∧ (swPort t p).link = (swPort s.dev p).link ∧
        (swPort t p).speed = (swPort s.dev p).speed) ∧
      t.st.locks = [] ∧ t.st.learnQ = [] ∧ t.st.vlans = s.dev.st.vlans ∧ (∀ x ∈ t.st.ways, x.2.static_ = true) ∧
      (∀ x ∈ s.dev.st.ways, x.2.static_ = true → x ∈ t.st.ways) ∧ t.rt = s.dev.rt ∧ SamePower t s.dev ∧ SameTime t s.dev ∧
      SameStores t s.dev ∧ SameAon t s.dev ∧ t.hw.tdmaEnable = false ∧ t.hw.snapBusy = false) ∧
  (∀ s : State, s.dev.fab.resetting = true →
    Answers .fabResetDone s fun t => Became t
      (disarm .fabReset { hush s.dev with fab := { s.dev.fab with resetting := false } })) ∧
  (∀ s : State, mgtRuns s.dev = true → debugState s.dev = 1 →
    (Answers (.debugRequest .halt) s fun t => Became t { hush s.dev with otp := { s.dev.otp with halted := true } }) ∧
    (Answers (.debugRequest .run) s fun t => Became t { hush s.dev with otp := { s.dev.otp with halted := false } }) ∧
    (Answers (.debugRequest .step) s fun t => Became t (hush s.dev)))

/-- Boot from an image (R90-R93, R97, R98, R164). HDR_VALID and BLOCK_VALID take what the host staged; IMAGE_END sends a valid
image to VERIFY and refuses another; the flash body sends boot to VERIFY; VERIFY runs a valid image; replay's end is READY with
BOOT_DONE; RELEASE ends HOLD. -/
def Obligations.ImageBoot : Prop :=
  (∀ s : State, hwAnswers s.dev = true → (s.dev.boot.stage = .noImage ∨ s.dev.boot.stage = .imageHost) →
    Answers .hdrValid s fun t =>
      t.boot = { s.dev.boot with stage := .imageHost, header := readBytes 0 s.dev.hw.staging 0 128, hdrTaken := true,
                                 imageReject := false, blockTaken := false, blockCount := 0, body := [],
                                 trying := 2 } ∧ t.aon = s.dev.aon ∧ t.hw.staging = s.dev.hw.staging ∧ SameSwitch t s.dev ∧
      SamePower t s.dev ∧ SameTime t s.dev ∧ SameStores t s.dev ∧ t.od.cfg = s.dev.od.cfg) ∧
  (∀ (s : State) (len : BitVec 13), hwAnswers s.dev = true → s.dev.boot.stage = .imageHost → s.dev.boot.hdrTaken = true →
    0 < len.toNat → len.toNat ≤ 4096 →
    Answers (.blockValid len) s fun t =>
      t.boot = { s.dev.boot with body := s.dev.boot.body ++ readBytes 0 s.dev.hw.staging 0x1000 len.toNat, blockTaken := true,
                                 blockCount := s.dev.boot.blockCount + 1 } ∧
      t.aon = s.dev.aon ∧ t.hw.staging = s.dev.hw.staging ∧ SameSwitch t s.dev ∧ SamePower t s.dev ∧ SameTime t s.dev ∧
      SameStores t s.dev ∧ t.od.cfg = s.dev.od.cfg) ∧
  (∀ s : State, hwAnswers s.dev = true → s.dev.boot.stage = .imageHost → s.dev.boot.hdrTaken = true →
    Answers .imageEnd s fun t =>
      (s.dev.boot.body.length = hdrLength s.dev.boot.header → imageValid s.dev s.dev.boot.header s.dev.boot.body = true →
        t.boot = { s.dev.boot with stage := .verify }) ∧
      (s.dev.boot.body.length ≠ hdrLength s.dev.boot.header →
        t.boot = { s.dev.boot with stage := .noImage, imageReject := true, blockCount := 0, body := [], hdrTaken := false }) ∧
      t.aon = s.dev.aon ∧ SameSwitch t s.dev ∧ SamePower t s.dev ∧ SameTime t s.dev ∧ SameStores t s.dev) ∧
  (∀ (s : State) (answers : Bool), s.dev.boot.stage = .imageFlash →
    Answers (.imageLoadDone answers) s fun t =>
      t.boot = { s.dev.boot with stage := if answers && s.dev.aon.bankF then .verify else .noImage } ∧ t.aon = s.dev.aon ∧
      SameSwitch t s.dev ∧ SamePower t s.dev ∧ SameTime t s.dev ∧ SameStores t s.dev) ∧
  (∀ s : State, s.dev.boot.stage = .verify → imageValid s.dev (triedImage s.dev).1 (triedImage s.dev).2 = true →
    s.dev.otp.lifecycle ≠ 4 → s.dev.aon.glitchHalt = false → s.dev.boot.otpAlarm = false →
    Answers .imageVerifyDone s fun t =>
      t.boot.stage = .replay ∧ t.boot.image = s.dev.boot.trying ∧ t.boot.version = hdrVersion (triedImage s.dev).1 ∧
      t.boot.rollback = hdrRollback (triedImage s.dev).1 ∧ t.aon = s.dev.aon ∧
      (s.dev.aon.bankF = false ∨ replaySector s.dev ≠ none → t.flash = s.dev.flash)) ∧
  (∀ s : State, s.dev.boot.stage = .replay →
    Answers .replayDone s fun t => t.boot.stage = .ready ∧ t.boot.bootDone = true ∧ odServes t = true ∧ t.boot.latched = 0 ∧
      irq t 0 = true ∧ t.flash = s.dev.flash) ∧
  (∀ s : State, hwAnswers s.dev = true → s.dev.boot.stage = .hold → s.dev.aon.bootHost = true →
    Answers (.bootRelease 0) s fun t =>
      t.boot = { s.dev.boot with stage := .imageHost } ∧ t.aon = s.dev.aon ∧ SameSwitch t s.dev ∧ SamePower t s.dev ∧
      SameTime t s.dev ∧ SameStores t s.dev)

/-! ### The object dictionary and ZOP -/

/-- A request is executed exactly once (R123-R125). One that is ahead of its session's HIGHEST runs: its response goes out,
EXECUTED counts, and an open session takes its sequence number, shifts its window and keeps the status and the response. The same
request again is answered from the cache with nothing executed; one that the window holds as executed is DUPLICATE with the status
recorded, and one behind the window is STALE, and nothing is executed. -/
def Obligations.RequestsRunOnce : Prop :=
  ∀ (s : State) (q : ZReq) (c : Instr) (opcode : Byte) (act : Nat → ZReq → Dev → Answer × Dev),
    (c, opcode, act) ∈ ([(.read q, opRead, doRead), (.write q, opWrite, doWrite), (.bundleOpen q, opBundleOpen, doBundleOpen),
      (.bundleAdd q, opBundleAdd, doBundleAdd), (.bundleCommit q, opBundleCommit, doBundleCommit),
      (.bundleAbort q, opBundleAbort, doBundleAbort), (.subscribe q, opSubscribe, doSubscribe),
      (.sessionClose q, opSessionClose, doSessionClose), (.notifyRequest q 0x21, 0x21, doUndefined)] :
      List (Instr × Byte × (Nat → ZReq → Dev → Answer × Dev))) →
    Accepted opcode q s.dev →
    (∀ n : Nat, Ahead q n s.dev →
      let r := act (reqSession q) q (taken q opcode s.dev)
      let octets := answerOctets q opcode r.1 s.dev
      octets.length ≤ maxMessage q.via → recorded r.1.status = true →
      Answers c s fun t =>
        responds q octets t ∧ t.od.executed = r.2.od.executed + 1 ∧ SamePlanes q.via t r.2 ∧
        t.od.cfg = r.2.od.cfg ∧ t.od.scheduled = r.2.od.scheduled ∧
        (sessionOpen r.2 (reqSession q) = true → sessionOf t (reqSession q) = seqAdvance n q.seq r.1.status octets
          { sessionOf r.2 (reqSession q) with lastVia := viaCode q.via })) ∧
    (∀ octets : List Byte, seqCase (sessionOf s.dev (reqSession q)) q.seq = .replay →
      (sessionOf s.dev (reqSession q)).cache = .full octets →
      Answers c s fun t => responds q octets t ∧ t.od.executed = s.dev.od.executed ∧ t.od.cfg = s.dev.od.cfg ∧
        t.od.sessions = s.dev.od.sessions ∧ t.od.scheduled = s.dev.od.scheduled ∧ SamePlanes q.via t s.dev) ∧
    (∀ i : Nat, seqCase (sessionOf s.dev (reqSession q)) q.seq = .done i →
      Answers c s fun t =>
        responds q (refusalOctets q opcode stDuplicate ((((sessionOf s.dev (reqSession q)).statuses[i]?).getD 0x1C).toNat) s.dev) t ∧
        t.od.duplicate = s.dev.od.duplicate + 1 ∧ t.od.executed = s.dev.od.executed ∧ t.od.cfg = s.dev.od.cfg ∧
        t.od.sessions = s.dev.od.sessions ∧ t.od.scheduled = s.dev.od.scheduled ∧ SamePlanes q.via t s.dev) ∧
    (seqCase (sessionOf s.dev (reqSession q)) q.seq = .stale →
      Answers c s fun t => responds q (refusalOctets q opcode stStale 0 s.dev) t ∧ t.od.stale = s.dev.od.stale + 1 ∧
        t.od.executed = s.dev.od.executed ∧ t.od.cfg = s.dev.od.cfg ∧ t.od.sessions = s.dev.od.sessions ∧
        t.od.scheduled = s.dev.od.scheduled ∧ SamePlanes q.via t s.dev)

/-- READ and WRITE, an opcode that is not a request's, and a passed deadline (R108, R109, R113, R137-R139). A READ that may read
answers OK with the element's octets; a WRITE that passes its checks answers OK, its effect is that of the write, and a
persistent value waits for the journal; NOTIFY is refused with ACCESS; DEADLINE counts and records nothing. -/
def Obligations.ReadAndWrite : Prop :=
  (∀ (s : State) (q : ZReq) (n : Nat) (e : Elem), Accepted opRead q s.dev → Ahead q n s.dev → q.payload = [] →
    let d := taken q opRead s.dev
    reqDescribe q = false → odBusy d q.object.toNat false = false → odStatus d q.object.toNat q.element.toNat = exOk →
    odElem d q.object.toNat q.element.toNat = some e → mayRead d (roleOf d (reqSession q)) e = true →
    let r := odRead d (reqSession q) q.object.toNat q.element.toNat
    r.1 = stOk → (answerOctets q opRead ⟨stOk, r.2.1, false⟩ s.dev).length ≤ maxMessage q.via →
    Answers (.read q) s fun t => responds q (answerOctets q opRead ⟨stOk, r.2.1, false⟩ s.dev) t ∧ t.od.cfg = s.dev.od.cfg) ∧
  (∀ (s : State) (q : ZReq) (n : Nat), Accepted opWrite q s.dev → Ahead q n s.dev →
    let d := taken q opWrite s.dev
    odVerify d (reqSession q) (roleOf d (reqSession q)) q.object.toNat q.element.toNat q.payload = stOk →
    let u := odPerform d (reqSession q) q.object.toNat q.element.toNat q.payload
    Answers (.write q) s fun t =>
      responds q (answerOctets q opWrite (ans stOk) s.dev) t ∧ SamePlanes q.via t u ∧ t.od.cfg = u.od.cfg ∧
      (isPersistent u q.object.toNat q.element.toNat = true → (armed .journal u = true ∨ attemptWaits u = false) →
        t.od.pendingJournal = u.od.pendingJournal ++
          [{ values := [(q.object.toNat, q.element.toNat,
              leBytes q.payload.length (cfg u q.object.toNat q.element.toNat))], group := false }] ∧ armed .journal t = true)) ∧
  (∀ (s : State) (q : ZReq) (n : Nat) (op : Byte), undefinedOpcode op = true → Accepted op q s.dev → Ahead q n s.dev →
    Answers (.notifyRequest q op) s fun t =>
      responds q (answerOctets q op (ans stAccess) s.dev) t ∧ t.od.cfg = s.dev.od.cfg ∧ SamePlanes q.via t s.dev) ∧
  (∀ (s : State) (q : ZReq) (op : Byte), reaches q op s.dev = true → isFragment q = false → malformed q op = false →
    Answers (.deadlineAnswer q op) s fun t =>
      responds q (refusalOctets q op stDeadline 0 s.dev) t ∧
      t.od.watchDeadline = satInc s.dev.od.watchDeadline ∧ t.od.cfg = s.dev.od.cfg ∧ t.od.sessions = s.dev.od.sessions ∧
      SamePlanes q.via t s.dev)

/-- The life of a bundle (R129-R131, R134, R135): opened empty with its lifetime, a checked write added or replaced, committed
for the first cycle start 50 µs away, aborted while open or while scheduled, or run out. -/
def Obligations.BundleLife : Prop :=
  (∀ (s : State) (q : ZReq) (n : Nat), Accepted opBundleOpen q s.dev → Ahead q n s.dev → q.payload = [] →
    (sessionOf s.dev (reqSession q)).bundle = none → openBundles s.dev < 64 →
    Answers (.bundleOpen q) s fun t =>
      responds q (answerOctets q opBundleOpen (ans stOk) s.dev) t ∧
      (sessionOf t (reqSession q)).bundle = some [] ∧ (sessionOf t (reqSession q)).bState = 1 ∧
      runsFor (.bundle (reqSession q)) (cfg s.dev 0x1000 7 * ms) t ∧ t.od.cfg = s.dev.od.cfg ∧ SamePlanes q.via t s.dev) ∧
  (∀ (s : State) (q : ZReq) (n : Nat) (ws : List BWrite), Accepted opBundleAdd q s.dev → Ahead q n s.dev →
    (sessionOf s.dev (reqSession q)).bundle = some ws →
    let d := taken q opBundleAdd s.dev
    odVerify d (reqSession q) (roleOf d (reqSession q)) q.object.toNat q.element.toNat q.payload = stOk →
    q.payload.length ≤ 32 →
    let ws' := bundlePut { object := q.object.toNat, element := q.element.toNat, value := q.payload,
                           role := roleOf s.dev (reqSession q) } ws
    ws'.length ≤ 32 →
    Answers (.bundleAdd q) s fun t =>
      responds q (answerOctets q opBundleAdd (ans stOk) s.dev) t ∧
      (sessionOf t (reqSession q)).bundle = some ws' ∧ t.od.cfg = s.dev.od.cfg ∧ SamePlanes q.via t s.dev) ∧
  (∀ (s : State) (q : ZReq) (n : Nat) (ws : List BWrite), Accepted opBundleCommit q s.dev → Ahead q n s.dev → q.payload = [] →
    (sessionOf s.dev (reqSession q)).bundle = some ws → s.dev.od.scheduled.length < 16 →
    let cycle := firstCycleAfter s.dev (50 * us) % 2 ^ 32
    Answers (.bundleCommit q) s fun t =>
      responds q (answerOctets q opBundleCommit (ansOk (leBytes 4 cycle)) s.dev) t ∧
      t.od.scheduled = s.dev.od.scheduled ++
        [{ sess := reqSession q, serial := s.dev.od.commits + 1, cycle := cycle, writes := ws }] ∧
      (sessionOf t (reqSession q)).bundle = none ∧ (sessionOf t (reqSession q)).bState = 2 ∧ t.od.cfg = s.dev.od.cfg ∧
      SamePlanes q.via t s.dev) ∧
  (∀ (s : State) (q : ZReq) (n : Nat), Accepted opBundleAbort q s.dev → Ahead q n s.dev → q.payload = [] →
    ((sessionOf s.dev (reqSession q)).bundle.isSome = true →
      Answers (.bundleAbort q) s fun t =>
        responds q (answerOctets q opBundleAbort (ans stOk) s.dev) t ∧
        (sessionOf t (reqSession q)).bundle = none ∧ (sessionOf t (reqSession q)).bState = 0 ∧
        t.od.scheduled = s.dev.od.scheduled ∧ t.od.cfg = s.dev.od.cfg ∧ SamePlanes q.via t s.dev) ∧
    ((sessionOf s.dev (reqSession q)).bundle = none → (s.dev.od.scheduled.any fun b => b.sess == reqSession q) = true →
      Answers (.bundleAbort q) s fun t =>
        responds q (answerOctets q opBundleAbort (ans stOk) s.dev) t ∧ (sessionOf t (reqSession q)).bState = 0 ∧
        t.od.scheduled = eraseLast (fun b => b.sess == reqSession q) s.dev.od.scheduled ∧ t.od.cfg = s.dev.od.cfg ∧
        SamePlanes q.via t s.dev)) ∧
  (∀ (s : State) (n : SessNo), armed (.bundle n.toNat) s.dev = true → (sessionOf s.dev n.toNat).bundle.isSome = true →
    Answers (.bundleExpiry n) s fun t =>
      (sessionOf t n.toNat).bundle = none ∧ (sessionOf t n.toNat).bState = 0 ∧ armed (.bundle n.toNat) t = false ∧
      t.od.scheduled = s.dev.od.scheduled ∧
      t.od.cfg = s.dev.od.cfg ∧ SameSwitch t s.dev ∧ SamePower t s.dev ∧ SameStores t s.dev ∧ t.aon = s.dev.aon)

/-- Sessions and subscriptions (R116-R118, R141, R142): a free roaming session opens for its client, and the same client resumes
it; a close and the idle time end it, and a close of session 0 gives up its role; an ON_CHANGE subscription is entered, a PERIODIC
one started, and MODE 0 cancels; a notification that fits its transport and finds room sends the element's value. -/
def Obligations.SessionsAndSubscriptions : Prop :=
  (∀ (s : State) (q : ZReq), AcceptedOpen q s.dev → isRoaming s.dev (reqSession q) = true → q.payload.length = 8 →
    (sessionOf s.dev (reqSession q)).isOpen = false →
    Answers (.sessionOpen q) s fun t =>
      responds q (responseOctets q opSessionOpen stOk 0 [0, 0, 0, 0] (sessionOf s.dev (reqSession q)).ks) t ∧
      sessionOf t (reqSession q) = { Session.fresh with isOpen := true, clientId := q.payload, lastVia := viaCode q.via } ∧
      (sessionOf t (reqSession q)).role = .observer ∧ (sessionOf t (reqSession q)).highest = 0 ∧
      runsFor (.sessionIdle (reqSession q)) (cfg s.dev 0x1000 6 * sec) t ∧
      t.od.executed = s.dev.od.executed + 1 ∧ t.od.cfg = s.dev.od.cfg ∧ SamePlanes q.via t s.dev) ∧
  (∀ (s : State) (q : ZReq), AcceptedOpen q s.dev → isRoaming s.dev (reqSession q) = true → q.payload.length = 8 →
    (sessionOf s.dev (reqSession q)).isOpen = true → (sessionOf s.dev (reqSession q)).clientId = q.payload →
    Answers (.sessionOpen q) s fun t =>
      responds q (responseOctets q opSessionOpen stOk 0 (openPayload s.dev (reqSession q) true)
        (sessionOf s.dev (reqSession q)).ks) t ∧
      sessionOf t (reqSession q) = { sessionOf s.dev (reqSession q) with lastVia := viaCode q.via } ∧
      runsFor (.sessionIdle (reqSession q)) (cfg s.dev 0x1000 6 * sec) t ∧
      t.od.executed = s.dev.od.executed + 1 ∧ t.od.cfg = s.dev.od.cfg ∧ SamePlanes q.via t s.dev) ∧
  (∀ (s : State) (q : ZReq) (n : Nat), Accepted opSessionClose q s.dev → Ahead q n s.dev → q.payload = [] →
    (10 ≤ reqSession q →
      Answers (.sessionClose q) s fun t =>
        responds q (answerOctets q opSessionClose (ans stOk) s.dev) t ∧
        (sessionOf t (reqSession q)).isOpen = false ∧ (∀ x ∈ t.od.subs, x.sess ≠ reqSession q) ∧
        (sessionOf t (reqSession q)).bundle = none ∧ t.od.scheduled = s.dev.od.scheduled ∧ t.od.cfg = s.dev.od.cfg ∧
        SamePlanes q.via t s.dev) ∧
    (reqSession q = 0 →
      Answers (.sessionClose q) s fun t =>
        responds q (answerOctets q opSessionClose (ans stOk) s.dev) t ∧
        (sessionOf t 0).role = (if s.dev.otp.lifecycle = 2 then .observer else (sessionOf s.dev 0).role) ∧
        (∀ x ∈ t.od.subs, x.sess ≠ 0) ∧ (sessionOf t 0).bundle = none ∧
        (sessionOf t 0).challenge = (sessionOf s.dev 0).challenge ∧ t.od.scheduled = s.dev.od.scheduled ∧
        t.od.cfg = s.dev.od.cfg ∧ SamePlanes q.via t s.dev)) ∧
  (∀ (s : State) (n : SessNo), armed (.sessionIdle n.toNat) s.dev = true →
    Answers (.sessionIdleExpiry n) s fun t =>
      (sessionOf t n.toNat).isOpen = false ∧ (∀ x ∈ t.od.subs, x.sess ≠ n.toNat) ∧ (sessionOf t n.toNat).bundle = none ∧
      t.od.scheduled = s.dev.od.scheduled ∧
      t.od.cfg = s.dev.od.cfg ∧ SameSwitch t s.dev ∧ SamePower t s.dev ∧ SameStores t s.dev ∧ t.aon = s.dev.aon) ∧
  (∀ (s : State) (q : ZReq) (n : Nat) (e : Elem) (mode interval : Nat), Accepted opSubscribe q s.dev → Ahead q n s.dev →
    q.payload.length = 4 → leNat (q.payload.take 1) = mode → leNat (q.payload.drop 2) = interval →
    let d := taken q opSubscribe s.dev
    odMayRead d (roleOf d (reqSession q)) q.object.toNat q.element.toNat = stOk →
    odElem d q.object.toNat q.element.toNat = some e → bit (odFlags q.object.toNat q.element.toNat e) 1 = true →
    (mode = 1 ∨ mode = 2 ∧ 10 ≤ interval) → interval ≤ 60000 →
    (s.dev.od.subs.filter fun x => x.sess == reqSession q).length < 64 → s.dev.od.subs.length < 4096 →
    Answers (.subscribe q) s fun t =>
      responds q (answerOctets q opSubscribe (ans stOk) s.dev) t ∧
      (∃ x ∈ t.od.subs, x.sess = reqSession q ∧ x.object = q.object.toNat ∧ x.element = q.element.toNat ∧
        x.interval = interval ∧ x.periodic = (mode == 2) ∧ x.via = q.via) ∧
      (mode = 2 → runsFor (.notify (reqSession q) q.object.toNat q.element.toNat) (interval * ms) t) ∧
      t.od.cfg = s.dev.od.cfg ∧ SamePlanes q.via t s.dev) ∧
  (∀ (s : State) (q : ZReq) (n : Nat), Accepted opSubscribe q s.dev → Ahead q n s.dev → q.payload.length = 4 →
    leNat (q.payload.take 1) = 0 → odThere (taken q opSubscribe s.dev) q.object.toNat q.element.toNat = stOk →
    Answers (.subscribe q) s fun t =>
      responds q (answerOctets q opSubscribe (ans stOk) s.dev) t ∧
      (t.od.subs.all fun x => !isSub (reqSession q) q.object.toNat q.element.toNat x) = true ∧
      armed (.notify (reqSession q) q.object.toNat q.element.toNat) t = false ∧ t.od.cfg = s.dev.od.cfg ∧
      SamePlanes q.via t s.dev) ∧
  (∀ (s : State) (n : SessNo) (obj : Half) (el : Byte) (x : Sub), odServes s.dev = true →
    s.dev.od.subs.find? (isSub n.toNat obj.toNat el.toNat) = some x → x.periodic = false → x.changed = true →
    let d := reach (.notify n.toNat obj.toNat el.toNat) (hush s.dev)
    let y := sessionOf s.dev n.toNat
    let octets := notificationOctets n.toNat y.notifySeq.toNat obj.toNat el.toNat (b2n (y.lost || x.merged))
      (odRead d n.toNat obj.toNat el.toNat).2.1 y.ks
    notifyRoom d = true → octets.length ≤ maxMessage x.via → (x.via = .mailbox → (ringWrite octets d).isSome = true) →
    Answers (.notifySend n obj el) s fun t =>
      Emission.zop x.via octets ∈ t.out ∧ (sessionOf t n.toNat).notifySeq = y.notifySeq + 1 ∧
      runsFor (.notify n.toNat obj.toNat el.toNat) (x.interval * ms) t ∧ t.od.cfg = s.dev.od.cfg ∧ SameSwitch t s.dev ∧
      PowerBeside x.via t s.dev ∧ SameStores t s.dev ∧ t.aon = s.dev.aon) ∧
  (∀ (s : State) (n : SessNo) (obj : Half) (el : Byte) (x : Sub), odServes s.dev = true →
    s.dev.od.subs.find? (isSub n.toNat obj.toNat el.toNat) = some x → x.periodic = true →
    armed (.notify n.toNat obj.toNat el.toNat) s.dev = true →
    let d := setSub n.toNat obj.toNat el.toNat (fun x => { x with merged := false })
      (reach (.notify n.toNat obj.toNat el.toNat) (hush s.dev))
    let y := sessionOf s.dev n.toNat
    let octets := notificationOctets n.toNat y.notifySeq.toNat obj.toNat el.toNat (b2n (y.lost || x.merged))
      (odRead d n.toNat obj.toNat el.toNat).2.1 y.ks
    notifyRoom d = true → octets.length ≤ maxMessage x.via → (x.via = .mailbox → (ringWrite octets d).isSome = true) →
    Answers (.notifyPeriodic n obj el) s fun t =>
      Emission.zop x.via octets ∈ t.out ∧ (sessionOf t n.toNat).notifySeq = y.notifySeq + 1 ∧
      runsFor (.notify n.toNat obj.toNat el.toNat) (x.interval * ms) t ∧ t.od.cfg = s.dev.od.cfg ∧ SameSwitch t s.dev ∧
      PowerBeside x.via t s.dev ∧ SameStores t s.dev ∧ t.aon = s.dev.aon)

/-- Proving a role (R119, R121, R122). Element 0 keeps a challenge whose nonce is drawn and lives 10 s; a proof that matches
gives the role and a roaming session its key, and the response carries the device's own proof; the eighth failure within 60 s locks
proofs out for 60 s, and the lockout ends; a nonce that runs out is forgotten.
(Log entry 2: an expiry's command reaches its timer's instant first.) -/
def Obligations.RoleProofs : Prop :=
  (∀ (s : State) (q : ZReq) (n : Nat) (role slot : Nat), q.element = 0 → Accepted opSessionProve q s.dev →
    Ahead q n s.dev → canProve s.dev (reqSession q) q = true → q.payload.length = 10 →
    s.dev.od.lockout = false → role = leNat (q.payload.take 1) → slot = leNat ((q.payload.drop 1).take 1) →
    1 ≤ role → role ≤ 3 → slot ≤ 1 →
    let nd := leBytes 16 (Config.freeValue s.dev.free).toNat
    Answers (.sessionProveChallenge q) s fun t =>
      responds q (answerOctets q opSessionProve (ansOk nd) s.dev) t ∧
      (sessionOf t (reqSession q)).challenge = some { role := role, keySlot := slot, nc := q.payload.drop 2, nd := nd } ∧
      runsFor (.nonce (reqSession q)) (10 * sec) t ∧ t.od.cfg = s.dev.od.cfg ∧ SamePlanes q.via t s.dev) ∧
  (∀ (s : State) (q : ZReq) (n : Nat) (c : Challenge) (k : List Byte), q.element = 1 → Accepted opSessionProve q s.dev →
    Ahead q n s.dev → canProve s.dev (reqSession q) q = true → q.payload.length = 32 →
    liveChallenge s.dev (reqSession q) = some c → roleKey s.dev c.role c.keySlot = some k →
    Answers (.sessionProveProof q) s fun t =>
      (q.payload = hmac k (proofText [0x5A, 0x50, 0x52, 0x56] s.dev (reqSession q) c) →
        responds q (answerOctets q opSessionProve
          ⟨stOk, hmac k (proofText [0x5A, 0x44, 0x45, 0x56] s.dev (reqSession q) c), true⟩ s.dev) t ∧
        (sessionOf t (reqSession q)).role = Role.ofCode c.role ∧ (sessionOf t (reqSession q)).challenge = none ∧
        (isRoaming s.dev (reqSession q) = true →
          (sessionOf t (reqSession q)).ks = some (hmac k (sessionText (reqSession q) c))) ∧
        t.od.proofFails = s.dev.od.proofFails) ∧
      (q.payload ≠ hmac k (proofText [0x5A, 0x50, 0x52, 0x56] s.dev (reqSession q) c) →
        responds q (answerOctets q opSessionProve (ans stIntegrity) s.dev) t ∧
        (sessionOf t (reqSession q)).role = (sessionOf s.dev (reqSession q)).role ∧
        (sessionOf t (reqSession q)).challenge = none ∧ t.od.proofFails = s.dev.od.proofFails + 1 ∧
        (8 ≤ (slide s.dev.od.failTimes s.dev.now).length → t.od.lockout = true ∧ runsFor .lockout (60 * sec) t)) ∧
      t.od.cfg = s.dev.od.cfg ∧ SamePlanes q.via t s.dev) ∧
  (∀ (s : State) (n : SessNo), armed (.nonce n.toNat) s.dev = true →
    Answers (.proofNonceExpiry n) s fun t =>
      (sessionOf t n.toNat).challenge = none ∧ (sessionOf t n.toNat).role = (sessionOf s.dev n.toNat).role ∧
      armed (.nonce n.toNat) t = false ∧ t.od.cfg = s.dev.od.cfg ∧ SameSwitch t s.dev ∧ SamePower t s.dev ∧ SameStores t s.dev) ∧
  (∀ s : State, armed .lockout s.dev = true →
    Answers .proofLockoutEnd s fun t => Became t
      { expired .lockout s.dev with od := { (hush s.dev).od with lockout := false } })

/-! ### The host window -/

/-- A read of the window (R5, R158, R160, R162, R191), over one line or over four. The words of an aligned read go on the lines
one after another; a word that HCS_N cuts short sets PARTIAL_WORD, and a misaligned address reads nothing and sets MISALIGNED. Of
one word: the staging area and a register give their value on the lines, a register of an absent unit the fill pattern with
XFER_ERR, an unmapped address 0 with XFER_ERR; reading a register or the staging area changes nothing but the lines. -/
def Obligations.WindowReads : Prop :=
  (∀ (s : State) (a : BitVec 24) (n : Nat) (cut : Bool) (c : Instr), c = .qspiRead a n cut ∨ c = .qread a n cut →
    hwAnswers s.dev = true →
    let d := onHw (fun h => { h with hiz := false }) (hush s.dev)
    (a.toNat % 4 = 0 →
      let r := readWords n a.toNat d
      let u := { r.2 with out := [.window r.1] }
      r.1.length = n ∧ Answers c s fun t => Became t (if cut then xferError 3 u else u)) ∧
    (a.toNat % 4 ≠ 0 → Answers c s fun t => Became t (xferError 4 d) ∧ t.out = [])) ∧
  (∀ (s : State) (a : BitVec 24) (c : Instr), c = .qspiRead a 1 false ∨ c = .qread a 1 false →
    hwAnswers s.dev = true → odServes s.dev = true → a.toNat % 4 = 0 →
    (inStaging a.toNat = true →
      Answers c s fun t => Became t { hush s.dev with
        hw := { s.dev.hw with hiz := false }, out := [.window [memWord s.dev.hw.staging (a.toNat - 0x10000)]] }) ∧
    (definedReg a.toNat = true → absentReg s.dev a.toNat = false →
      Answers c s fun t => Became t { hush s.dev with
        hw := { s.dev.hw with hiz := false }, out := [.window [BitVec.ofNat 32 (regValue (hush s.dev) a.toNat)]] }) ∧
    (definedReg a.toNat = true → absentReg s.dev a.toNat = true →
      Answers c s fun t => Became t { hush s.dev with
        hw := { s.dev.hw with hiz := false, xferStatus := s.dev.hw.xferStatus ||| 1
                              irqStatus := s.dev.hw.irqStatus ||| 0x200 }
        out := [.window [0xA85EA85E]] }) ∧
    (0x900 ≤ a.toNat → a.toNat < 0x1000 →
      Answers c s fun t => Became t { hush s.dev with
        hw := { s.dev.hw with hiz := false, xferStatus := s.dev.hw.xferStatus ||| 2
                              irqStatus := s.dev.hw.irqStatus ||| 0x200 }
        out := [.window [0]] }))

/-- A write of the window (R161, R162, R170, R191), over one line, over four, or as a register write. The whole words of an
aligned write take effect in their order, a word that HCS_N cuts short sets PARTIAL_WORD, and a misaligned address writes
nothing and sets MISALIGNED. Of one word: what is staged reads back and every other octet of the staging area stands; the request
buffer takes it while BUSY is 0, and sets OVERRUN with nothing written while BUSY is 1; IRQ_ENABLE takes its value; a bit of
IRQ_PORT written 1 clears; a read-only register and an unmapped address discard the write with XFER_ERR. -/
def Obligations.WindowWrites : Prop :=
  (∀ (s : State) (a : BitVec 24) (ws : List Word) (cut : Bool) (c : Instr), c = .qspiWrite a ws cut ∨ c = .qwrite a ws cut →
    hwAnswers s.dev = true →
    let d := onHw (fun h => { h with hiz := false }) (hush s.dev)
    let u := writeWords ws a.toNat d
    (a.toNat % 4 = 0 → Answers c s fun t => Became t (if cut then xferError 3 u else u)) ∧
    (a.toNat % 4 ≠ 0 → Answers c s fun t => Became t (xferError 4 d))) ∧
  (∀ (s : State) (a : BitVec 24) (w : Word) (c : Instr),
    c = .qspiWrite a [w] false ∨ c = .qwrite a [w] false ∨ c = .registerWrite a w →
    hwAnswers s.dev = true → odServes s.dev = true → a.toNat % 4 = 0 →
    (inStaging a.toNat = true →
      Answers c s fun t => memWord t.hw.staging (a.toNat - 0x10000) = w ∧
        (∀ i : Nat, (i < a.toNat - 0x10000 ∨ a.toNat - 0x10000 + 4 ≤ i) →
          byteAt 0 t.hw.staging i = byteAt 0 s.dev.hw.staging i) ∧
        Became t { hush s.dev with hw := { s.dev.hw with hiz := false, staging := t.hw.staging } }) ∧
    (0x1000 ≤ a.toNat → a.toNat < 0x1200 →
      (s.dev.hw.mbxBusy = false → Answers c s fun t => memWord t.hw.reqBuf (a.toNat - 0x1000) = w ∧
        (∀ i : Nat, (i < a.toNat - 0x1000 ∨ a.toNat - 0x1000 + 4 ≤ i) →
          byteAt 0 t.hw.reqBuf i = byteAt 0 s.dev.hw.reqBuf i) ∧
        Became t { hush s.dev with hw := { s.dev.hw with hiz := false, reqBuf := t.hw.reqBuf } }) ∧
      (s.dev.hw.mbxBusy = true → Answers c s fun t => Became t
        { hush s.dev with hw := { s.dev.hw with hiz := false, mbxOverrun := true } })) ∧
    (a.toNat = 0x104 → Answers c s fun t => Became t
      { hush s.dev with hw := { s.dev.hw with hiz := false, irqEnable := BitVec.ofNat 10 w.toNat } }) ∧
    (a.toNat = 0x110 → Answers c s fun t => Became t
      { hush s.dev with hw := { s.dev.hw with hiz := false, irqPort := s.dev.hw.irqPort &&& ~~~w } }) ∧
    (readOnlyReg a.toNat = true → definedReg a.toNat = true → absentReg s.dev a.toNat = false →
      Answers c s fun t => Became t { hush s.dev with
        hw := { s.dev.hw with hiz := false, xferStatus := s.dev.hw.xferStatus ||| 4
                              irqStatus := s.dev.hw.irqStatus ||| 0x200 } }) ∧
    (0x900 ≤ a.toNat → a.toNat < 0x1000 →
      Answers c s fun t => Became t { hush s.dev with
        hw := { s.dev.hw with hiz := false, xferStatus := s.dev.hw.xferStatus ||| 2
                              irqStatus := s.dev.hw.irqStatus ||| 0x200 } }))

/-- The window's other opcodes and the mailbox (R128, R165, R170, R171, R191): RDSR and RDID put their octets on the lines; an
unknown opcode sets BAD_OPCODE and releases the lines; the doorbell hands the request buffer over, is discarded with OVERRUN while
BUSY is 1 and with NOT_READY before READY or HALT; clearing BOOT_DONE starts session 0 afresh. -/
def Obligations.WindowStatusAndMailbox : Prop :=
  ∀ s : State, hwAnswers s.dev = true →
    (Answers .rdsr s fun t => Became t
      { hush s.dev with hw := { s.dev.hw with hiz := false }, out := [.octets [s.dev.hw.xferStatus]] }) ∧
    (Answers .rdid s fun t => Became t
      { hush s.dev with hw := { s.dev.hw with hiz := false }
                        out := [.octets [0x53, 0x58, 0x72, rdidVariant s.dev.otp.variant]] }) ∧
    (∀ op : Byte, knownOpcode op = false →
      Answers (.qspiBadOpcode op) s fun t => Became t { hush s.dev with
        hw := { s.dev.hw with hiz := true, xferStatus := s.dev.hw.xferStatus ||| 0x20
                              irqStatus := s.dev.hw.irqStatus ||| 0x200 } }) ∧
    (∀ w : Word, odServes s.dev = true → s.dev.hw.mbxBusy = false → 10 ≤ w.toNat % 1024 → w.toNat % 1024 ≤ 512 →
      Answers (.mbxDoorbell w) s fun t => Became t (disarm .respSent { hush s.dev with
        hw := { s.dev.hw with hiz := false, mbxBusy := true, mbxDone := false, mbxLen := w.toNat % 1024 } })) ∧
    (∀ w : Word, s.dev.hw.mbxBusy = true →
      Answers (.mbxDoorbell w) s fun t => Became t
        { hush s.dev with hw := { s.dev.hw with hiz := false, mbxOverrun := true } }) ∧
    (∀ w : Word, odServes s.dev = false → s.dev.hw.mbxBusy = false →
      Answers (.mbxDoorbell w) s fun t => Became t
        { hush s.dev with hw := { s.dev.hw with hiz := false, mbxNotReady := true } }) ∧
    (s.dev.boot.bootDone = true →
      Answers .bootDoneClear s fun t => t.boot = { s.dev.boot with bootDone := false } ∧ (sessionOf t 0).role = .observer ∧
        (sessionOf t 0).highest = 0 ∧ (sessionOf t 0).cache = .empty ∧ (∀ n : Nat, n ≠ 0 → sessionOf t n = sessionOf s.dev n) ∧
        t.aon = s.dev.aon ∧
        SameSwitch t s.dev ∧ SamePower t s.dev ∧ SameTime t s.dev ∧ SameStores t s.dev ∧ t.od.cfg = s.dev.od.cfg)

/-- Fuse words through the host window (R586-R590, R634): READ returns a word of the bank and its result; PROGRAM of a blank word
that is permitted starts a burn; the burn's end in every pass reads the word back and reports OK. -/
def Obligations.FuseWords : Prop :=
  (∀ (s : State) (a : BitVec 10), hwAnswers s.dev = true →
    Answers (.otpReadCmd a) s fun t => Became t
      { hush s.dev with hw := { s.dev.hw with
          hiz := false, otpData := BitVec.ofNat 32 (otpReadWord s.dev a.toNat).1
          otpResult := BitVec.ofNat 4 (if !(otpReadWord s.dev a.toNat).2.1 then oAccess
            else if (otpReadWord s.dev a.toNat).2.2 = 2 then oEccError else oOk) } }) ∧
  (∀ (s : State) (a : BitVec 10), hwAnswers s.dev = true → s.dev.otp.burn = none → 256 ≤ a.toNat →
    firstCond (hush s.dev) (hostMayProgram s.dev a.toNat) = 0 → otpSeen s.dev a.toNat = 0 →
    Answers (.otpProgramCmd a) s fun t =>
      t.otp = { s.dev.otp with
        condFail := 0
        burn := some { kind := .word, todo := [(a.toNat, BitVec.ofNat 39 (codeword s.dev.hw.otpData.toNat))], host := true,
                       failed := 0 } } ∧
      t.flash = s.dev.flash ∧ t.heat = s.dev.heat ∧ SameSwitch t s.dev ∧ SamePower t s.dev ∧ SameTime t s.dev ∧ SameAon t s.dev ∧
      t.od.cfg = s.dev.od.cfg) ∧
  (∀ (s : State) (a : Nat) (w : BitVec 39), s.dev.otp.burn = some { kind := .word, todo := [(a, w)], host := true, failed := 0 } →
    otpRaw s.dev a = 0 →
    Answers (.otpProgramDone { weak := 0, extra := 0 }) s fun t =>
      t.otp.burn = none ∧ otpRaw t a = w.toNat ∧ otpFirm t a = w.toNat ∧
      (∀ b : Nat, b ≠ a → otpRaw t b = otpRaw s.dev b ∧ otpWeak t b = otpWeak s.dev b) ∧
      t.hw.otpResult = BitVec.ofNat 4 oOk ∧ t.flash = s.dev.flash ∧ SameSwitch t s.dev ∧ SamePower t s.dev ∧ SameTime t s.dev ∧
      SameAon t s.dev ∧ t.od.cfg = s.dev.od.cfg)

/-- Table DMA (R177-R180, R184, R192, R468, Tables 5-4, 5-5): a command takes up the descriptor at TDMA_HEAD that names it. A
refused one ends with its status and touches no table; one whose records are all processed ends with the tables as they made them,
its result in the descriptor, TDMA_HEAD gone on, and the interrupts that it asks for; one with records left stands as the
descriptor in progress, which the same command goes on with. (Log entry 33: how many records a command gets through is open, and
the field that says it holds any number here.) -/
def Obligations.TableDma : Prop :=
  ∀ (s : State) (c : Instr) (k : Nat) (ecc : List EccHit),
    (c, k) ∈ ([(.tdmaRead ecc, cRead), (.tdmaWrite, cWrite), (.tdmaInsert, cInsert), (.tdmaDelete, cDelete),
      (.tdmaSearch, cSearch), (.tdmaLock, cLock), (.tdmaUnlock, cUnlock)] : List (Instr × Nat)) →
    (k ≠ cRead → ecc = []) →
    let n := s.dev.hw.tdmaPace
    let d := eccFindAll ecc (hush s.dev)
    let stands (t : Dev) := SamePower t s.dev ∧ SameTime t s.dev ∧ SameStores t s.dev ∧ SameAon t s.dev ∧
      t.od.cfg = s.dev.od.cfg
    let q := headDesc s.dev
    (tdmaMayRun s.dev → q.cmd = k → descCheck s.dev q = dOk → q.count ≤ n →
      let x := runRecords q q.count 0 (dOk, 0) d
      Answers c s fun t => Finished q x.1.1 x.1.2 q.count x.2 s.dev t ∧ t.timers = x.2.timers ∧ stands t) ∧
    (tdmaMayRun s.dev → q.cmd = k → descCheck s.dev q = dOk → n < q.count →
      let x := runRecords q n 0 (dOk, 0) d
      Answers c s fun t => SameSwitch t x.2 ∧ t.timers = x.2.timers ∧
        t.hw = { x.2.hw with tdmaRun := some { desc := q, next := n, status := x.1.1, result := x.1.2 }
                             tdmaPace := t.hw.tdmaPace, irqStatus := t.hw.irqStatus } ∧ stands t) ∧
    (tdmaMayRun s.dev → q.cmd = k → descCheck s.dev q ≠ dOk →
      Answers c s fun t => Finished q (descCheck s.dev q) 0 0 s.dev s.dev t ∧ stands t) ∧
    (∀ r : DescRun, tdmaRuns s.dev = true → s.dev.hw.tdmaRun = some r → r.desc.cmd = k → r.next ≤ r.desc.count →
      r.desc.count - r.next ≤ n →
      let x := runRecords r.desc (r.desc.count - r.next) r.next (r.status, r.result) d
      Answers c s fun t => Finished r.desc x.1.1 x.1.2 r.desc.count x.2 s.dev t ∧ t.timers = x.2.timers ∧ stands t)

/-- What a record of a descriptor does (R178-R180, R184, R185, R467, R468): READ stages the record and changes no table; a VLAN
record that is written reads back in that entry and no other; LOCK sets the entry's mordant bit with its lifetime, UNLOCK
clears it; DELETE of a station that is not there is NOT_FOUND with nothing changed; SEARCH reports where it is. A mordant lifetime
that ends clears its bit, TDMA_EXPIRED names what was locked, and the interrupt rises. -/
def Obligations.TableRecords : Prop :=
  (∀ (d : Dev) (q : Desc), q.cmd = cRead →
    let r := runRecord q 0 d
    SameSwitch r.2.2 d ∧ r.1 = (if (readRecord d q.table q.index).2 then dPoisoned else dOk) ∧
    readBytes 0 r.2.2.hw.staging q.data (readRecord d q.table q.index).1.length = (readRecord d q.table q.index).1) ∧
  (∀ (d : Dev) (q : Desc), q.cmd = cWrite → q.table = tVlan →
    let r := runRecord q 0 d
    r.1 = dOk ∧ (∀ vid : Nat, vid ≠ q.index → vlanOf r.2.2 vid = vlanOf d vid) ∧
    (vlanOf r.2.2 q.index).fid = BitVec.ofNat 12 (recField (recordAt d q 0) 6 2) ∧
    (vlanOf r.2.2 q.index).valid = bit (recField (recordAt d q 0) 10 1) 0 ∧
    r.2.2.st.ways = d.st.ways ∧ r.2.2.rt = d.rt ∧ r.2.2.cls = d.cls ∧ r.2.2.fab = d.fab) ∧
  (∀ (d : Dev) (q : Desc), q.cmd = cLock → d.st.locks.length < 256 →
    let r := runRecord q 0 d
    r.1 = dOk ∧ isLocked r.2.2 q.table q.index = true ∧
    runsFor (.mordant q.table (lockUnit q.table q.index)) (q.lockMs * ms) r.2.2 ∧ r.2.2.st.ways = d.st.ways ∧
    r.2.2.st.vlans = d.st.vlans ∧ r.2.2.rt = d.rt ∧ r.2.2.cls = d.cls) ∧
  (∀ (d : Dev) (q : Desc), q.cmd = cLock → isLocked d q.table q.index = false → 256 ≤ d.st.locks.length →
    (runRecord q 0 d).1 = dLockFull ∧ (runRecord q 0 d).2.2 = d) ∧
  (∀ (d : Dev) (q : Desc), q.cmd = cUnlock → q.table = tHash6 →
    let r := runRecord q 0 d
    r.1 = dOk ∧ isLocked r.2.2 q.table q.index = false ∧ r.2.2.st.ways = d.st.ways ∧ r.2.2.rt = d.rt ∧ r.2.2.cls = d.cls) ∧
  (∀ (d : Dev) (q : Desc), q.cmd = cDelete → q.table = tStation →
    let e := readStation (recordAt d q 0)
    stationFind d e.mac.toNat e.fid.toNat = none → (runRecord q 0 d).1 = dNotFound ∧ (runRecord q 0 d).2.2 = d) ∧
  (∀ (d : Dev) (q : Desc) (loc : Nat), q.cmd = cSearch → q.table = tStation →
    let e := readStation (recordAt d q 0)
    stationFind d e.mac.toNat e.fid.toNat = some loc →
    (runRecord q 0 d).1 = dOk ∧ (runRecord q 0 d).2.1 = loc ∧ SameSwitch (runRecord q 0 d).2.2 d) ∧
  (∀ (d : Dev) (q : Desc) (loc : Nat), q.cmd = cInsert → q.table = tStation →
    let e := readStation (recordAt d q 0)
    stationFind d e.mac.toNat e.fid.toNat = some loc → (runRecord q 0 d).1 = dExists ∧ (runRecord q 0 d).2.2 = d) ∧
  (∀ (s : State) (table : Byte) (index : Nat), armed (.mordant table.toNat index) s.dev = true →
    let entry := if table.toNat = tFirst then 256 * index else index
    isLocked s.dev table.toNat entry = true →
    Answers (.lockExpired table index) s fun t =>
      (∀ l ∈ t.st.locks, ¬ (l.table = table.toNat ∧ l.index = index)) ∧ t.hw.expTable = table ∧
      t.hw.expIndex = BitVec.ofNat 24 entry ∧ irq t 5 = true ∧ t.rt = s.dev.rt ∧ t.cls = s.dev.cls ∧ SamePower t s.dev ∧
      SameStores t s.dev ∧ t.aon = s.dev.aon ∧ t.od.cfg = s.dev.od.cfg)

/-! ### Writes that the table lists as commands -/

/-- Writes of the watch, power and reset objects and of the alarms (R28, R71-R73, R85, R86, R102, R633). CLEAR zeroes the five
watch counts; TARGET is stored, and a device in READY goes to ACTIVE or leaves it; SYS_RESET waits for the journal; a port
reset fences the port, takes its link and its booking and starts its ErrorRecovery; FAB_RESET starts a FAB reset; ACK clears
LATCHED bits; a BOOL that starts an action changes nothing when it is written 0. -/
def Obligations.ResetAndAlarmWrites : Prop :=
  (∀ s : State, AdmittedValue s.dev 1 0x30 5 1 →
    Answers (.obligationClear true) s fun t => Became t
      { hush s.dev with
        od := { (hush s.dev).od with watchOd := 0, watchDeadline := 0, watchOverrun := 0, watchShed := 0, watchLate := 0 }
        out := [.status 0] }) ∧
  (∀ (s : State) (v : Nat), AdmittedValue s.dev 1 0x14 1 v →
    Serves (.targetWrite v) s fun t =>
      cfg t 0x14 1 = v ∧ (∀ obj el : Nat, el < 256 → (obj, el) ≠ (0x14, 1) → cfg t obj el = cfg s.dev obj el) ∧
      (s.dev.boot.stage = .ready → s.dev.aon.power = .idle → v = 1 → t.aon.power = .active ∧ t.boot.leaving = false) ∧
      (s.dev.boot.stage = .ready → s.dev.aon.power = .active → 2 ≤ v →
        t.aon.power = .idle ∧ t.boot.leaving = true ∧ t.ng.node = .off ∧ runsFor .drain ms t) ∧
      SameSwitch t s.dev ∧ SamePower t s.dev ∧ SameStores t s.dev ∧ t.now = s.dev.now) ∧
  (∀ s : State, AdmittedValue s.dev 1 0x16 8 1 →
    Answers (.sysResetRequest true) s fun t => Became t
      { hush s.dev with boot := { s.dev.boot with sysResetPending := true }, out := [.status 0] }) ∧
  (∀ (s : State) (ports : BitVec 8), AdmittedValue s.dev 1 0x16 9 ports.toNat →
    Serves (.portReset ports) s fun t =>
      (∀ n : Nat, n < 8 → ports.getLsbD n = true → portRuns s.dev n = true →
        (cable t n).resetting = true ∧ (cable t n).typec = .errorRecovery ∧ (cable t n).booked = 0 ∧
        (cable t n).claim = 0 ∧ (swPort t n).fenced = true ∧ (swPort t n).link = false ∧
        runsFor (.errRec n) (25 * ms) t) ∧
      (∀ n : Nat, n < 8 → ports.getLsbD n = false →
        (cable t n).resetting = (cable s.dev n).resetting ∧ (cable t n).typec = (cable s.dev n).typec ∧
        (swPort t n).fenced = (swPort s.dev n).fenced ∧ (swPort t n).link = (swPort s.dev n).link) ∧
      t.slots = s.dev.slots ∧ SameStores t s.dev ∧ t.now = s.dev.now) ∧
  (∀ s : State, AdmittedValue s.dev 1 0x16 10 1 →
    Serves (.fabReset true) s fun t =>
      t.fab.resetting = true ∧ runsFor .fabReset (100 * us) t ∧ (∀ p c : Nat, queueOf t p c = Queue.reset) ∧
      t.st.locks = [] ∧ t.st.vlans = s.dev.st.vlans ∧ t.rt = s.dev.rt ∧ SamePower t s.dev ∧ SameTime t s.dev ∧
      SameStores t s.dev ∧ SameAon t s.dev) ∧
  (∀ (s : State) (mask : BitVec 64), Inv s → AdmittedValue s.dev 1 0x20 2 mask.toNat →
    Answers (.alarmAck mask) s fun t => Became t { hush s.dev with out := [.status 0] } ∧
      t.od.alarmLatched = s.dev.od.alarmLatched &&& ~~~mask ∧ t.od.alarmActive = s.dev.od.alarmActive) ∧
  (∀ (s : State) (c : Instr),
    ((c = .obligationClear false ∧ AdmittedValue s.dev 1 0x30 5 0) ∨
     (c = .sysResetRequest false ∧ AdmittedValue s.dev 1 0x16 8 0) ∨ (c = .fabReset false ∧ AdmittedValue s.dev 1 0x16 10 0) ∨
     (∃ p : Place, c = .reapply p false ∧ AdmittedValue s.dev 1 (reapplyAt p).1 (reapplyAt p).2 0) ∨
     (∃ n : CPort, c = .exitMode n (.written false) ∧ AdmittedValue s.dev 1 (cableObj n.val) 17 0) ∨
     (∃ n : CPort, c = .renegotiate n false ∧ AdmittedValue s.dev 1 (contractObj n.val) 20 0) ∨
     (∃ n : CPort, c = .faultClear n false ∧ AdmittedValue s.dev 1 (pathObj n.val) 17 0) ∨
     (∃ p : SPort, c = .flush p false ∧ AdmittedValue s.dev 1 (vlanPortObj p.val) 8 0) ∨
     (c = .restart false ∧ AdmittedValue s.dev 1 0xC000 6 0) ∨
     (∃ r : Fin 4, c = .retry r false ∧ AdmittedValue s.dev 1 (0xC400 + r.val) 4 0)) →
    Answers c s fun t => Became t { hush s.dev with out := [.status 0] })

/-- Writes that reach the timebase, the bus enables and MDIO (R320, R359, R365, R386). TIME_SET steps the timebase to the value
written through the lag, so that schedule time stands; an enable is stored, and takes effect at once in OFF and LISTEN and waits
for the next cycle start otherwise; OP puts one access on MDIO with STATUS busy. -/
def Obligations.TimeBusAndMdioWrites : Prop :=
  (∀ (s : State) (v : BitVec 64), AdmittedValue s.dev 1 0x6000 6 v.toNat →
    Serves (.timeSet v) s fun t =>
      taiNs t = v.toNat ∧
      t.tm = { s.dev.tm with tb := t.tm.tb, ppsSecond := v.toNat / sec, lag := s.dev.tm.lag + ((v.toNat : Int) - taiNs s.dev),
                             lateLag := s.dev.tm.lateLag + (if startDue s.dev then (v.toNat : Int) - taiNs s.dev else 0),
                             timeSet := true, stepCount := satInc s.dev.tm.stepCount } ∧
      t.ng = s.dev.ng ∧ t.od.cfg = s.dev.od.cfg ∧ SameSwitch t s.dev ∧ SamePower t s.dev ∧ SameStores t s.dev ∧
      SameAon t s.dev) ∧
  (∀ (s : State) (chB v : Bool), AdmittedValue s.dev 1 0x5000 (if chB then 1 else 0) (if v then 1 else 0) →
    Serves (.enableChannel chB v) s fun t =>
      cfg t 0x5000 (if chB then 1 else 0) = (if v then 1 else 0) ∧
      (∀ obj el : Nat, el < 256 → (obj, el) ≠ (0x5000, if chB then 1 else 0) → cfg t obj el = cfg s.dev obj el) ∧
      ((s.dev.ng.node = .off ∨ s.dev.ng.node = .listen) → (chan t chB).enabled = v) ∧
      (s.dev.ng.node ≠ .off → s.dev.ng.node ≠ .listen → s.dev.aon.power = .active → cfg s.dev 0x14 1 ≤ 1 →
        t.ng = (if chB then { s.dev.ng with pendEnB := some v } else { s.dev.ng with pendEnA := some v })) ∧
      SameSwitch t s.dev ∧ SamePower t s.dev ∧ SameStores t s.dev ∧ t.now = s.dev.now) ∧
  (∀ (s : State) (op : Nat), AdmittedValue s.dev 1 0x7430 5 op → s.dev.aon.bankH = true →
    Answers (.mdioOp op) s fun t => Became t
      { hush s.dev with
        fab := { s.dev.fab with mdioStatus := 1, mdioOp := op }
        out := [.mdio op (cfg s.dev 0x7430 1) (if cfg s.dev 0x7430 0 = 1 then 0x10000 * cfg s.dev 0x7430 2 + cfg s.dev 0x7430 3
                                               else cfg s.dev 0x7430 3), .status 0] })

/-- Writes that reach the tables (R460, R461, R492, R494; log entry 10 on when entries go). A flush removes the dynamic entries
of its port, or of its FID, that no mordant bit covers, and no other; a change of EDITOR clears the route tables; OP starts the
session's route command on what its elements hold, with RESULT running. -/
def Obligations.TableWrites : Prop :=
  (∀ (s : State) (c : Instr) (sel' : FlushSel),
    ((∃ port : SPort, c = .flush port true ∧ AdmittedValue s.dev 1 (vlanPortObj port.val) 8 1 ∧
        sel' = { byPort := true, value := port.val }) ∨
     (∃ fid : Nat, c = .flushFid fid ∧ AdmittedValue s.dev 1 0x8400 10 fid ∧ sel' = { byPort := false, value := fid })) →
    Serves c s fun t =>
      (∀ x, x ∈ t.st.ways ↔ x ∈ s.dev.st.ways ∧ (flushes sel' x.2 = false ∨ isLocked s.dev tStation (x.1 / 4) = true)) ∧
      (∀ x, x ∈ t.st.stash ↔ x ∈ s.dev.st.stash ∧ (flushes sel' x.2 = false ∨ isLocked s.dev tStash 0 = true)) ∧
      t.st.flushing = s.dev.st.flushing ++ [sel'] ∧ runsFor .flushEnd ms t ∧ t.st.vlans = s.dev.st.vlans ∧
      t.rt = s.dev.rt ∧ t.cls = s.dev.cls ∧ t.fab = s.dev.fab ∧ t.od.cfg = s.dev.od.cfg ∧ SamePower t s.dev ∧
      SameTime t s.dev ∧ SameStores t s.dev ∧ SameAon t s.dev) ∧
  (∀ (s : State) (v : Nat), AdmittedValue s.dev 1 0x9500 0 v →
    Serves (.editorWrite v) s fun t =>
      cfg t 0x9500 0 = v ∧
      (v ≠ cfg s.dev 0x9500 0 → t.rt = { s.dev.rt with first := [], pool0 := [], pool1 := [], ways6 := [], bloom := [],
                                                       count6 := [], routes := [] }) ∧
      (v = cfg s.dev 0x9500 0 → t.rt = s.dev.rt) ∧
      t.st.ways = s.dev.st.ways ∧ t.cls = s.dev.cls ∧ t.fab = s.dev.fab ∧ SamePower t s.dev ∧ SameTime t s.dev ∧
      SameStores t s.dev ∧ SameAon t s.dev) ∧
  (∀ (s : State) (sess : SessNo) (add : Bool), AdmittedValue s.dev sess.toNat 0x9600 6 (if add then 1 else 2) →
    Serves (if add then .routeAdd sess else .routeDelete sess) s fun t =>
      (∃ r : RouteCmd, t.rt = { s.dev.rt with running := some r } ∧ r.add = add ∧ r.sess = sess.toNat ∧
        r.route.vrf = sel s.dev sess.toNat 0x9600 0 ∧ r.route.v6 = (sel s.dev sess.toNat 0x9600 1 == 1) ∧
        r.route.length = sel s.dev sess.toNat 0x9600 3 ∧ r.route.nh = sel s.dev sess.toNat 0x9600 4) ∧
      sel t sess.toNat 0x9600 5 = rRunning ∧ t.od.cfg = s.dev.od.cfg ∧ t.st = s.dev.st ∧ t.cls = s.dev.cls ∧
      t.fab = s.dev.fab ∧ SamePower t s.dev ∧ SameTime t s.dev ∧ SameStores t s.dev ∧ SameAon t s.dev)

/-- Writes of the heat and air folios (R543, R548, R555, R564, R566). RESTART starts the model again with every node above the
dies at the ambient and releases every thermal ceiling; RETRY forgives one sensor and no other; COMMISSION starts or ends a
channel's routine, and AGEING before a baseline exists is refused with RANGE; a heartbeat ends a silence and starts the period afresh. -/
def Obligations.HeatWrites : Prop :=
  (∀ s : State, AdmittedValue s.dev 1 0xC000 6 1 →
    Serves (.restart true) s fun t =>
      t.heat.fault = false ∧ t.heat.lastStepAt = s.dev.now ∧ (∀ i : Nat, 5 ≤ i → i < 16 → t.heat.t.getD i 0 = ambient s.dev) ∧
      (∀ n : Nat, n < 8 → (cable t n).thermCeil = none ∧ (cable t n).sinkCeil = none) ∧
      t.heat.sensors = s.dev.heat.sensors ∧ t.od.cfg = s.dev.od.cfg ∧ t.slots = s.dev.slots ∧ t.otp = s.dev.otp ∧
      t.flash = s.dev.flash ∧ SameAon t s.dev) ∧
  (∀ (s : State) (r : Fin 4), AdmittedValue s.dev 1 (0xC400 + r.val) 4 1 →
    Answers (.retry r true) s fun t =>
      Became t { hush s.dev with heat := { s.dev.heat with sensors := t.heat.sensors }, out := [.status 0] } ∧
      sensorOf t r.val = { sensorOf s.dev r.val with failed := false, cause := 0, disagree := 0 } ∧
      (∀ m : Nat, m ≠ r.val → sensorOf t m = sensorOf s.dev m)) ∧
  (∀ (s : State) (f : Fin 2) (v : Nat), AdmittedValue s.dev 1 (fanObj f.val) 15 v →
    (v = 1 ∨ (v = 2 ∧ (fanOf s.dev f.val).base ≠ [])) →
    Serves (.commission f v) s fun t =>
      (fanOf t f.val).commState = 1 ∧ (fanOf t f.val).commKind = v ∧ (fanOf t f.val).commStep = 0 ∧
      runsFor (.comm f.val) (8 * sec) t ∧ (∀ g : Nat, g ≠ f.val → fanOf t g = fanOf s.dev g) ∧
      t.heat.sensors = s.dev.heat.sensors ∧ t.od.cfg = s.dev.od.cfg ∧ SameSwitch t s.dev ∧ SamePower t s.dev ∧
      SameTime t s.dev ∧ SameAon t s.dev) ∧
  (∀ (s : State) (f : Fin 2), AdmittedValue s.dev 1 (fanObj f.val) 15 0 → (fanOf s.dev f.val).commState = 1 →
    Serves (.commission f 0) s fun t =>
      (fanOf t f.val).commState = 5 ∧ armed (.comm f.val) t = false ∧ (∀ g : Nat, g ≠ f.val → fanOf t g = fanOf s.dev g) ∧
      t.od.cfg = s.dev.od.cfg ∧ SameSwitch t s.dev ∧ SamePower t s.dev ∧ SameTime t s.dev ∧ SameAon t s.dev) ∧
  (∀ (s : State) (f : Fin 2), AdmittedValue s.dev 1 (fanObj f.val) 15 1 → (fanOf s.dev f.val).base = [] →
    Answers (.commission f 2) s fun t => Became t { hush s.dev with out := [.status 0x14] }) ∧
  (∀ s : State, AdmittedValue s.dev 1 0xC700 1 1 →
    Serves .heartbeat s fun t =>
      t.heat.silent = false ∧ (cfg s.dev 0xC700 0 = 0 → armed .heartbeat t = false) ∧
      (cfg s.dev 0xC700 0 ≠ 0 → runsFor .heartbeat (cfg s.dev 0xC700 0 * ms) t) ∧ t.od.cfg = s.dev.od.cfg ∧
      SameSwitch t s.dev ∧ SamePower t s.dev ∧ SameTime t s.dev ∧ SameAon t s.dev)

/-- Writes of the cable, contract, path and slot objects (R211, R217, R229, R302). REAPPLY on a port whose pod is not identified
fences it and starts its discovery again, on a port with no pod it applies profile 0 again, or refuses it and says so, and on a slot
it matches the block again; EXIT_MODE sends Exit Mode, ends the pod link, stops the lane and fences the port, and the pod's answer
ends its step; RENEGOTIATE sends a source's new offer and a sink's new Request, and on a port that does not listen changes nothing;
FAULT_CLEAR frees a latched port and leaves every other alone. -/
def Obligations.PowerWrites : Prop :=
  (∀ (s : State) (n : CPort), AdmittedValue s.dev 1 (cableObj n.val) 16 1 →
    (portRuns s.dev n.val = true → explicit (cable s.dev n.val) = true → isShed (cable s.dev n.val) = false →
      (((cable s.dev n.val).pod = .none ∧ (cable s.dev n.val).dataRole = .dfp) ∨
       ((cable s.dev n.val).podOpen = false ∧
         ((cable s.dev n.val).pod = .failed ∨ (cable s.dev n.val).pod = .linkFail ∨ (cable s.dev n.val).pod = .identBad ∨
           (cable s.dev n.val).pod = .linkUp)) →
        Serves (.reapply (.port n) true) s fun t =>
          (swPort t n.val).fenced = true ∧ (cable t n.val).pod = .discovering ∧ (cable t n.val).vdm = .discoverIdentity ∧
          (cable t n.val).identTries = 0 ∧ ((cable s.dev n.val).lastSent = none → Says n (.vdm (vdmHeader 0xFF00 0 1) []) t) ∧
          (cable t n.val).booked = (cable s.dev n.val).booked ∧ (∀ m : Nat, m ≠ n.val → cable t m = cable s.dev m) ∧
          t.slots = s.dev.slots ∧ t.od.cfg = s.dev.od.cfg ∧ SameStores t s.dev ∧ SameAon t s.dev) ∧
      ((cable s.dev n.val).pod = .notAPod →
        ((cable s.dev n.val).powerRole = .sink ∨ (preId s.dev : Int) - (cable s.dev n.val).booked ≤ ledgerFree s.dev →
          Serves (.reapply (.port n) true) s fun t =>
            (swPort t n.val).fenced = false ∧ (cable t n.val).profileId = 0 ∧ (cable t n.val).profileOn = true ∧
            (cable t n.val).ceiling = none ∧ (cable t n.val).booked = (cable s.dev n.val).booked ∧
            t.hw.irqPort.getLsbD n.val = true ∧ t.slots = s.dev.slots ∧ SameStores t s.dev ∧ SameAon t s.dev) ∧
        ((cable s.dev n.val).powerRole ≠ .sink → ledgerFree s.dev < (preId s.dev : Int) - (cable s.dev n.val).booked →
          Serves (.reapply (.port n) true) s fun t =>
            (swPort t n.val).fenced = true ∧ (cable t n.val).profileId = (cable s.dev n.val).profileId ∧
            (cable t n.val).booked = (cable s.dev n.val).booked ∧ t.hw.irqPort.getLsbD (8 + n.val) = true ∧
            (∀ m : Nat, m ≠ n.val → cable t m = cable s.dev m) ∧ t.slots = s.dev.slots ∧ SameStores t s.dev ∧
            SameAon t s.dev))) ∧
    (explicit (cable s.dev n.val) = false →
      Answers (.reapply (.port n) true) s fun t => Became t { hush s.dev with out := [.status 0] })) ∧
  (∀ (s : State) (x : Slot), AdmittedValue s.dev 1 (slotObj x.val) 7 1 → s.dev.boot.stage = .ready →
    (slotOf s.dev x.val).state ≠ 0 →
    let p := if (slotOf s.dev x.val).state = 2 then matchProfile s.dev (slotOf s.dev x.val).identity (8 + x.val) else 0
    let fits := (slotCeiling s.dev x.val p : Int) - (slotOf s.dev x.val).booked ≤ ledgerFree s.dev ∨
      slotCeiling s.dev x.val p ≤ (slotOf s.dev x.val).booked
    Serves (.reapply (.slot x) true) s fun t =>
      (fits → (slotOf t x.val).booked = slotCeiling s.dev x.val p ∧ (slotOf t x.val).profileId = p ∧
        (slotOf t x.val).ng = ngShare s.dev p ∧ Emission.notice (.slotProfile x.val true) ∈ t.out) ∧
      (¬ fits → (slotOf t x.val).booked = (slotOf s.dev x.val).booked ∧
        (slotOf t x.val).profileId = (slotOf s.dev x.val).profileId ∧
        Emission.notice (.slotProfile x.val false) ∈ t.out) ∧
      (slotOf t x.val).state = (slotOf s.dev x.val).state ∧ (∀ y : Nat, y ≠ x.val → slotOf t y = slotOf s.dev y) ∧
      t.cables = s.dev.cables ∧ t.od.cfg = s.dev.od.cfg ∧ SameSwitch t s.dev ∧ SameTime t s.dev ∧ SameStores t s.dev ∧
      SameAon t s.dev) ∧
  (∀ (s : State) (n : CPort), AdmittedValue s.dev 1 (cableObj n.val) 17 1 →
    ((cable s.dev n.val).podOpen = true →
      Serves (.exitMode n (.written true)) s fun t =>
        (cable t n.val).podOpen = false ∧ (cable t n.val).laneOn = false ∧ (cable t n.val).vdm = .exitMode ∧
        (swPort t n.val).fenced = true ∧ (swPort t n.val).link = false ∧ (sessionOf t (2 + n.val)).isOpen = false ∧
        (cable t n.val).booked = (cable s.dev n.val).booked ∧ (cable t n.val).contract = (cable s.dev n.val).contract ∧
        t.slots = s.dev.slots ∧ t.od.cfg = s.dev.od.cfg ∧ SameStores t s.dev ∧ SameAon t s.dev) ∧
    ((cable s.dev n.val).podOpen = false →
      Answers (.exitMode n (.written true)) s fun t => Became t { hush s.dev with out := [.status 0] })) ∧
  (∀ (s : State) (n : CPort) (id : BitVec 3) (a : VdmAnswer), Hears s.dev n.val id → (cable s.dev n.val).vdm = .exitMode →
    Answers (.exitMode n (.answered ⟨id, a⟩)) s fun t =>
      (cable t n.val).vdm = .idle ∧ armed (.vdm n.val) t = false ∧ (cable t n.val).rxId = some id ∧
      Emission.pd n (.goodCrc id) ∈ t.out ∧ (cable t n.val).contract = (cable s.dev n.val).contract ∧
      (cable t n.val).booked = (cable s.dev n.val).booked ∧ (cable t n.val).podOpen = (cable s.dev n.val).podOpen ∧
      (∀ m : Nat, m ≠ n.val → cable t m = cable s.dev m) ∧ t.slots = s.dev.slots ∧ t.shep = s.dev.shep ∧
      SameSwitch t s.dev ∧ SameTime t s.dev ∧ SameStores t s.dev ∧ SameAon t s.dev) ∧
  (∀ (s : State) (n : CPort), AdmittedValue s.dev 1 (contractObj n.val) 20 1 →
    (pdListens s.dev n.val = false →
      Answers (.renegotiate n true) s fun t => Became t { hush s.dev with out := [.status 0] }) ∧
    (pdListens s.dev n.val = true → explicit (cable s.dev n.val) = true →
      ((cable s.dev n.val).powerRole = .source → negotiating (cable s.dev n.val) = true →
        Serves (.renegotiate n true) s fun t => cable t n.val = { cable s.dev n.val with offerHeld := true } ∧
          (∀ m : Nat, m ≠ n.val → cable t m = cable s.dev m) ∧ t.slots = s.dev.slots ∧ t.shep = s.dev.shep ∧
          SameSwitch t s.dev ∧ SameTime t s.dev ∧ SameStores t s.dev ∧ SameAon t s.dev) ∧
      (let offer := buildOffer s.dev n.val (offerPower s.dev n.val).toNat;
       (cable s.dev n.val).powerRole = .source → negotiating (cable s.dev n.val) = false →
        cablePending (cable s.dev n.val) = false → armed (.waitReoffer n.val) s.dev = false → 500 ≤ offerPower s.dev n.val →
        offer ≠ (cable s.dev n.val).offer → asksCable (cable s.dev n.val) offer = false →
        Serves (.renegotiate n true) s fun t =>
          (cable t n.val).offer = offer ∧ (cable t n.val).awaiting = .capsAnswer ∧
          (cable t n.val).contract = (cable s.dev n.val).contract ∧ (cable t n.val).booked = (cable s.dev n.val).booked ∧
          ((cable s.dev n.val).lastSent = none → Says n (.sourceCaps offer) t) ∧
          (∀ m : Nat, m ≠ n.val → cable t m = cable s.dev m) ∧ t.slots = s.dev.slots ∧ t.shep = s.dev.shep ∧
          SameSwitch t s.dev ∧ SameTime t s.dev ∧ SameStores t s.dev ∧ SameAon t s.dev) ∧
      (∀ g : Nego, (cable s.dev n.val).powerRole ≠ .source → negotiating (cable s.dev n.val) = false →
        ¬ ((cable s.dev n.val).guard = .wet ∧ (cable s.dev n.val).epr = .inEpr) → sinkPick s.dev n.val = some g →
        Serves (.renegotiate n true) s fun t =>
          (cable t n.val).nego = some g ∧ (cable t n.val).awaiting = .requestAnswer ∧
          (cable t n.val).contract = (cable s.dev n.val).contract ∧ (cable t n.val).booked = (cable s.dev n.val).booked ∧
          ((cable s.dev n.val).lastSent = none → g.epr = false → Says n (.request (rdoOf s.dev n.val g)) t) ∧
          (∀ m : Nat, m ≠ n.val → cable t m = cable s.dev m) ∧ t.slots = s.dev.slots ∧ t.shep = s.dev.shep ∧
          SameSwitch t s.dev ∧ SameTime t s.dev ∧ SameStores t s.dev ∧ SameAon t s.dev))) ∧
  (∀ (s : State) (n : CPort), AdmittedValue s.dev 1 (pathObj n.val) 17 1 →
    let freed := { cable s.dev n.val with
      path := .off, retriesLeft := 3, ladder := { (cable s.dev n.val).ladder with short := false } };
    ((cable s.dev n.val).path = .latched → (cable s.dev n.val).typec ≠ .attachedSrc →
      Serves (.faultClear n true) s fun t =>
        cable t n.val = freed ∧ (∀ m : Nat, m ≠ n.val → cable t m = cable s.dev m) ∧ t.slots = s.dev.slots ∧
        t.shep = s.dev.shep ∧ SameSwitch t s.dev ∧ SameTime t s.dev ∧ SameStores t s.dev ∧ SameAon t s.dev) ∧
    ((cable s.dev n.val).path = .latched → (cable s.dev n.val).typec = .attachedSrc → (cable s.dev n.val).guard ≠ .wet →
      (cable s.dev n.val).guardFresh = false →
      Serves (.faultClear n true) s fun t =>
        cable t n.val = { freed with vbusWait := true } ∧ (∀ m : Nat, m ≠ n.val → cable t m = cable s.dev m) ∧
        t.slots = s.dev.slots ∧ t.shep = s.dev.shep ∧ SameSwitch t s.dev ∧ SameTime t s.dev ∧ SameStores t s.dev ∧
        SameAon t s.dev) ∧
    ((cable s.dev n.val).path ≠ .latched →
      Answers (.faultClear n true) s fun t => Became t { hush s.dev with out := [.status 0] }))

/-- Writes of the fuse folio (R581, R584-R586, R590, R591, R596, R604). While a condition of R586 fails a programming write ends
with ACCESS and names it, and burns nothing; otherwise each starts the burn that its rule gives and RESULT reads RUNNING. -/
def Obligations.FuseWrites : Prop :=
  (∀ (s : State) (c : Instr) (permitted : Bool),
    ((∃ sess record, c = .append sess record ∧ permitted = true ∧ Admitted s.dev sess.toNat 0xD010 1 record) ∨
     (∃ a, c = .void a ∧ permitted = true ∧ AdmittedValue s.dev 1 0xD010 4 a) ∨
     (∃ sess key, c = .keyData sess key ∧ Admitted s.dev sess.toNat 0xD020 1 (beBytes 32 key.toNat) ∧
        permitted = (sess.toNat == 0 && decide (s.dev.otp.lifecycle ≤ 2) && decide (sel s.dev sess.toNat 0xD020 0 ≤ 5))) ∨
     (∃ mask, c = .revoke mask ∧ permitted = true ∧ AdmittedValue s.dev 1 0xD020 6 mask.toNat) ∨
     (∃ sess target, c = .advance sess target ∧ AdmittedValue s.dev sess.toNat 0xD030 1 target ∧
        permitted = mayAdvance s.dev sess.toNat target)) →
    firstCond s.dev permitted ≠ 0 →
    Answers c s fun t => Became t
      { hush s.dev with
        otp := { s.dev.otp with condFail := BitVec.ofNat 4 (firstCond s.dev permitted), result := oAccess }
        out := [.status 0] }) ∧
  (∀ (s : State) (a : Nat) (r : OtpRec), AdmittedValue s.dev 1 0xD010 4 a → firstCond s.dev true = 0 →
    ((walk s.dev .customer).recs.find? fun r => r.addr == a && usable r) = some r →
    otpSeen s.dev (a + r.payload.length + 2) = 0 →
    Answers (.void a) s fun t => Became t
      { hush s.dev with
        otp := { s.dev.otp with
          condFail := 0, result := oRunning
          burn := some { kind := .voidRec, todo := [(a + r.payload.length + 2, BitVec.ofNat 39 (codeword statusVoid))],
                         host := false, failed := 0 } }
        out := [.status 0] }) ∧
  (∀ (s : State) (sess : SessNo) (record : List Byte), Admitted s.dev sess.toNat 0xD010 1 record → firstCond s.dev true = 0 →
    let b : OtpBank := if sel s.dev sess.toNat 0xD010 0 = 1 then .patch else .customer
    let ws := leWords record
    let w := walk s.dev b
    record.length % 4 = 0 → ws ≠ [] → kindDefined b (ws.headD 0 / 2 ^ 24) = true →
    ws.headD 0 / 2 ^ 16 % 256 = ws.length - 1 →
    wellFormedRecord (ws.headD 0 / 2 ^ 24) (ws.headD 0 % 2 ^ 16) (ws.drop 1) = true →
    (w.unreadable = true ∨ bankEnd b < w.next + ws.length + 2 →
      Answers (.append sess record) s fun t => t.otp = { s.dev.otp with condFail := 0, result := oFull }) ∧
    (w.unreadable = false → w.next + ws.length + 2 ≤ bankEnd b → otpSeen s.dev w.next = 0 →
      Serves (.append sess record) s fun t =>
        t.otp = { s.dev.otp with
          condFail := 0, result := oRunning
          burn := some { kind := .record (if b = .patch then 1 else 0) w.next (ws.length - 1)
                         todo := (ws ++ [(crc32c (wordOctets ws)).toNat]).zipIdx.map fun x =>
                           (w.next + x.2, BitVec.ofNat 39 (codeword x.1))
                         host := false, failed := 0 } } ∧
        SameSwitch t s.dev ∧ SamePower t s.dev ∧ SameTime t s.dev ∧ SameAon t s.dev ∧ t.flash = s.dev.flash ∧
        t.heat = s.dev.heat ∧ t.od.cfg = s.dev.od.cfg)) ∧
  (∀ (s : State) (sess : SessNo) (key : BitVec 256), Admitted s.dev sess.toNat 0xD020 1 (beBytes 32 key.toNat) →
    sess.toNat = 0 → s.dev.otp.lifecycle ≤ 2 → sel s.dev 0 0xD020 0 ≤ 5 → firstCond s.dev true = 0 →
    (∀ i : Nat, i < 8 → otpSeen s.dev (128 + 8 * sel s.dev 0 0xD020 0 + i) = 0) →
    Serves (.keyData sess key) s fun t =>
      (∃ b : Burn, t.otp = { s.dev.otp with condFail := 0, result := oRunning, burn := some b } ∧
        b.kind = .key (sel s.dev 0 0xD020 0)
          ((hmac (beBytes 32 key.toNat) (ascii [0x5A, 0x43, 0x48, 0x4B] ++ uid s.dev)).take 4) ∧
        b.todo.take 8 = (leWords (beBytes 32 key.toNat)).zipIdx.map fun x =>
          (128 + 8 * sel s.dev 0 0xD020 0 + x.2, BitVec.ofNat 39 (codeword x.1))) ∧
      SameSwitch t s.dev ∧ SamePower t s.dev ∧ SameTime t s.dev ∧ SameAon t s.dev ∧ t.od.cfg = s.dev.od.cfg) ∧
  (∀ (s : State) (sess : SessNo), AdmittedValue s.dev sess.toNat 0xD020 2 1 → sess.toNat = 0 → s.dev.otp.lifecycle ≤ 2 →
    sel s.dev 0 0xD020 0 = 6 ∨ sel s.dev 0 0xD020 0 = 7 → firstCond s.dev true = 0 →
    (∀ i : Nat, i < 8 → otpSeen s.dev (128 + 8 * sel s.dev 0 0xD020 0 + i) = 0) →
    Serves (.keygen sess true) s fun t =>
      (∃ (x : Nat) (b : Burn), 1 ≤ x ∧ x < p256N ∧
        t.otp = { s.dev.otp with condFail := 0, result := oRunning, burn := some b } ∧
        b.kind = .keygen (sel s.dev 0 0xD020 0) (publicOf x)) ∧
      t.free = s.dev.free + 1 ∧ SameSwitch t s.dev ∧ SamePower t s.dev ∧ SameTime t s.dev ∧ SameAon t s.dev ∧
      t.od.cfg = s.dev.od.cfg) ∧
  (∀ (s : State) (mask : BitVec 12), AdmittedValue s.dev 1 0xD020 6 mask.toNat → firstCond s.dev true = 0 →
    (logical s.dev 1 &&& mask.toNat ≠ logical s.dev 1 →
      Serves (.revoke mask) s fun t => t.otp = { s.dev.otp with condFail := 0, result := oNotMonotonic }) ∧
    (logical s.dev 1 &&& mask.toNat = logical s.dev 1 → logicalTodo s.dev 1 mask.toNat ≠ [] →
      Serves (.revoke mask) s fun t => t.otp = { s.dev.otp with
        condFail := 0, result := oRunning
        burn := some { kind := .revoke, todo := logicalTodo s.dev 1 mask.toNat, host := false, failed := 0 } })) ∧
  (∀ (s : State) (sess : SessNo) (target : Nat), AdmittedValue s.dev sess.toNat 0xD030 1 target →
    mayAdvance s.dev sess.toNat target = true → firstCond s.dev true = 0 →
    let todo := (if target = 4 then scrapTodo else []) ++
      logicalTodo s.dev 0 (logical s.dev 0 ||| 0xFF * 2 ^ (8 * (target - 1)))
    todo ≠ [] →
    Serves (.advance sess target) s fun t => t.otp = { s.dev.otp with
      condFail := 0, result := oRunning
      burn := some { kind := if target = 4 then .scrap else .lifecycle, todo := todo, host := false, failed := 0 } }) ∧
  (∀ (s : State) (v : Nat), AdmittedValue s.dev 1 0xD030 3 v →
    (v ≤ rollbackCount s.dev →
      Answers (.rollbackAdvance v) s fun t => Became t
        { hush s.dev with otp := { s.dev.otp with result := oOk }, out := [.status 0] }) ∧
    (let todo := [0, 1, 2, 3].flatMap fun i =>
      logicalTodo s.dev (3 + i) (logical s.dev (3 + i) ||| (2 ^ v - 1) / 2 ^ (32 * i) % 2 ^ 32)
     rollbackCount s.dev < v → firstCond s.dev true = 0 → todo ≠ [] →
      Serves (.rollbackAdvance v) s fun t => t.otp = { s.dev.otp with
        condFail := 0, result := oRunning, burn := some { kind := .rollback, todo := todo, host := false, failed := 0 } }) ∧
    (rollbackCount s.dev < v → firstCond s.dev true ≠ 0 →
      Answers (.rollbackAdvance v) s fun t => t.otp = { s.dev.otp with
        condFail := BitVec.ofNat 4 (firstCond s.dev true), result := oAccess }))

/-! ### Cable ports and slots -/

/-- Type-C on a cable port (R85, R97, R194-R196, R208, R219, R242; log entry 9 on durations): Rd or Rp starts the debounce, and a
line below vRa the test for a short under a raised Rp; the debounce's end attaches by what the lines show and the role the port may
take, the port fenced and VBUS waiting; Rd, Rp or Ra on both lines is no power partner; a detach gives everything back; DRP
toggles; CC short takes VBUS and VCONN away and retests each second; ErrorRecovery ends at rest. -/
def Obligations.CableAttach : Prop :=
  (∀ (s : State) (n : CPort) (cc1 cc2 : CcLine), portRuns s.dev n.val = true → (cable s.dev n.val).typec = .unattached →
    (cc1 ≠ .ra → cc2 ≠ .ra → (cc1 = .rd ∨ cc2 = .rd ∨ isRp cc1 = true ∨ isRp cc2 = true) →
      Answers (.ccDebounce n cc1 cc2) s fun t =>
        cable t n.val = { cable s.dev n.val with typec := .attachWait, cc1 := cc1, cc2 := cc2 } ∧
        runsFor (.ccDebounce n.val) (150 * ms) t ∧ armed (.drp n.val) t = false ∧
        (∀ m : Nat, m ≠ n.val → cable t m = cable s.dev m) ∧ t.shep = s.dev.shep ∧ BesidePort t s.dev ∧ SameSwitch t s.dev ∧
        SameTime t s.dev ∧ SameAon t s.dev) ∧
    ((cc1 = .ra ∨ cc2 = .ra) → (cable s.dev n.val).rpNow = 2 →
      Answers (.ccDebounce n cc1 cc2) s fun t =>
        cable t n.val = { cable s.dev n.val with
          typec := (cable t n.val).typec, cc1 := cc1, cc2 := cc2, rpNow := raiseCode cc1 cc2, presentRp := true } ∧
        Emission.cc n (raiseCode cc1 cc2) ∈ t.out ∧ runsFor (.ccShort n.val) ms t ∧
        (cc1 = .ra → cc2 = .ra → (cable t n.val).typec = .attachWait) ∧
        (cc1 = .nothing ∨ cc2 = .nothing → (cable t n.val).typec = .unattached) ∧
        (∀ m : Nat, m ≠ n.val → cable t m = cable s.dev m) ∧ t.shep = s.dev.shep ∧ BesidePort t s.dev ∧ SameSwitch t s.dev ∧
        SameTime t s.dev ∧ SameAon t s.dev)) ∧
  (∀ (s : State) (n : CPort) (cc1 cc2 : CcLine), booting s.dev = true → n.val < 2 →
    Answers (.ccDebounce n cc1 cc2) s fun t =>
      t.boot = { s.dev.boot with latched := s.dev.boot.latched ||| BitVec.ofNat 6 (2 ^ n.val) } ∧
      cable t n.val = { cable s.dev n.val with cc1 := cc1, cc2 := cc2 } ∧
      (∀ m : Nat, m ≠ n.val → cable t m = cable s.dev m) ∧ SameSwitch t s.dev ∧ SameStores t s.dev ∧ SameTime t s.dev ∧
      t.aon = s.dev.aon) ∧
  (∀ (s : State) (n : CPort) (cc1 cc2 : CcLine) (id : CableId), portRuns s.dev n.val = true →
    (cable s.dev n.val).typec = .attachWait → armed (.ccDebounce n.val) s.dev = true →
    (cc1 = .rd ∧ cc2 ≠ .rd → roleNow s.dev n.val ≠ 2 → (isDual n.val = true → roleNow s.dev n.val ≠ 1) →
      Answers (.ccAttach n cc1 cc2 id) s fun t =>
        (cable t n.val).typec = .attachedSrc ∧ (cable t n.val).powerRole = .source ∧ (cable t n.val).dataRole = .dfp ∧
        (cable t n.val).orientation = 1 ∧ (cable t n.val).gateOn = (cable s.dev n.val).gateOn ∧
        (cable t n.val).vbusWait = true ∧ (cable t n.val).guardFresh = false ∧
        (cable t n.val).booked = (cable s.dev n.val).booked ∧ (cable t n.val).emark = cableByte id ∧
        (swPort t n.val).fenced = true ∧ runsFor (.guard n.val) 0 t ∧ (∀ m : Nat, m ≠ n.val → cable t m = cable s.dev m) ∧
        BesidePort t s.dev) ∧
    (cc1 = .rd ∧ cc2 ≠ .rd → isDual n.val = true → roleNow s.dev n.val = 1 →
      Answers (.ccAttach n cc1 cc2 id) s fun t => (cable t n.val).typec = .trySnk ∧ (cable t n.val).rpNow = 1 ∧
        runsFor (.tryWait n.val) (100 * ms) t ∧ (∀ m : Nat, m ≠ n.val → cable t m = cable s.dev m) ∧ BesidePort t s.dev) ∧
    (isRp cc1 = true → isRp cc2 = false → cc2 ≠ .rd → isDual n.val = true → roleNow s.dev n.val ≠ 3 →
      let ma := if isHalted s.dev then min (lineMa cc1) 1500 else lineMa cc1
      Answers (.ccAttach n cc1 cc2 id) s fun t =>
        (cable t n.val).typec = .attachedSnk ∧ (cable t n.val).powerRole = .sink ∧ (cable t n.val).dataRole = .ufp ∧
        (cable t n.val).contract = .implicit ∧ (cable t n.val).mv = 5000 ∧ (cable t n.val).ma = ma ∧
        (cable t n.val).booked = 5 * ma ∧ (cable t n.val).gateOn = decide ((cable s.dev n.val).path ≠ .latched) ∧
        (cable t n.val).discharge = false ∧ (swPort t n.val).fenced = true ∧
        (∀ m : Nat, m ≠ n.val → cable t m = cable s.dev m) ∧ BesidePort t s.dev) ∧
    (cc1 = .ra → cc2 = .ra →
      Answers (.ccAttach n cc1 cc2 id) s fun t => (cable t n.val).typec = .accessory ∧ (cable t n.val).accessory = 1 ∧
        (cable t n.val).powerRole = (cable s.dev n.val).powerRole ∧ (cable t n.val).gateOn = (cable s.dev n.val).gateOn ∧
        (∀ m : Nat, m ≠ n.val → cable t m = cable s.dev m) ∧ BesidePort t s.dev) ∧
    ((cc1 = .rd ∧ cc2 = .rd) ∨ (isRp cc1 = true ∧ isRp cc2 = true) →
      Answers (.ccAttach n cc1 cc2 id) s fun t => (cable t n.val).typec = .accessory ∧ (cable t n.val).accessory = 2 ∧
        (cable t n.val).powerRole = (cable s.dev n.val).powerRole ∧ (cable t n.val).gateOn = (cable s.dev n.val).gateOn ∧
        (∀ m : Nat, m ≠ n.val → cable t m = cable s.dev m) ∧ BesidePort t s.dev)) ∧
  (∀ (s : State) (n : CPort), portRuns s.dev n.val = true →
    ((cable s.dev n.val).typec ≠ .unattached → (cable s.dev n.val).typec ≠ .errorRecovery →
      (cable s.dev n.val).typec ≠ .ccShort →
      Answers (.ccDetach n) s fun t =>
        (cable t n.val).typec = .unattached ∧ (cable t n.val).booked = 0 ∧ (cable t n.val).claim = 0 ∧
        (cable t n.val).contract = .none ∧ (cable t n.val).gateOn = false ∧ (cable t n.val).vconn = 0 ∧
        (cable t n.val).podOpen = false ∧ (cable t n.val).pod = .none ∧ (cable t n.val).profileId = 0 ∧
        isFault (cable t n.val).path = false ∧ (cable t n.val).retriesLeft = 3 ∧ (cable t n.val).pdFail = false ∧
        (swPort t n.val).fenced = true ∧ (swPort t n.val).link = false ∧ OthersStand n.val t s.dev ∧ BesidePort t s.dev) ∧
    ((cable s.dev n.val).typec = .unattached ∨ (cable s.dev n.val).typec = .errorRecovery ∨
      (cable s.dev n.val).typec = .ccShort →
      Answers (.ccDetach n) s fun t =>
        (cable t n.val).typec = (cable s.dev n.val).typec ∧ (cable t n.val).cc1 = .nothing ∧ (cable t n.val).cc2 = .nothing ∧
        isFault (cable t n.val).path = false ∧ (cable t n.val).retriesLeft = 3 ∧ (cable t n.val).pdFail = false ∧
        (∀ m : Nat, m ≠ n.val → cable t m = cable s.dev m) ∧ BesidePort t s.dev)) ∧
  (∀ (s : State) (n : CPort), armed (.drp n.val) s.dev = true → portRuns s.dev n.val = true → isDual n.val = true →
    (cable s.dev n.val).typec = .unattached → roleNow s.dev n.val ≤ 1 →
    Answers (.drpToggle n) s fun t =>
      (cable t n.val).drpRp = !(cable s.dev n.val).drpRp ∧
      (cable t n.val).rpNow = (if (cable s.dev n.val).drpRp then 1 else rpInitial s.dev n.val) ∧
      runsFor (.drp n.val) (37500 * us) t ∧ (∀ m : Nat, m ≠ n.val → cable t m = cable s.dev m) ∧ BesidePort t s.dev ∧
      SameSwitch t s.dev ∧ t.aon = s.dev.aon ∧ t.boot = s.dev.boot) ∧
  (∀ (s : State) (n : CPort), armed (.tryWait n.val) s.dev = true → (cable s.dev n.val).typec = .trySnk →
    Answers (.trySnkTimeout n) s fun t =>
      (cable t n.val).typec = .attachedSrc ∧ (cable t n.val).powerRole = .source ∧
      (cable t n.val).orientation = (if (cable s.dev n.val).cc1 = .rd then 1 else 2) ∧ (cable t n.val).vbusWait = true ∧
      (swPort t n.val).fenced = true ∧ runsFor (.guard n.val) 0 t ∧ (∀ m : Nat, m ≠ n.val → cable t m = cable s.dev m) ∧
      BesidePort t s.dev) ∧
  (∀ (s : State) (n : CPort), armed (.noResponse n.val) s.dev = true → 2 ≤ (cable s.dev n.val).hardResets →
    (cable s.dev n.val).recoveries < 3 →
    Answers (.errorRecovery n) s fun t =>
      (cable t n.val).typec = .errorRecovery ∧ (cable t n.val).recoveries = (cable s.dev n.val).recoveries + 1 ∧
      (cable t n.val).gateOn = false ∧ (cable t n.val).booked = 0 ∧ (cable t n.val).rpNow = 0 ∧
      runsFor (.errRec n.val) (25 * ms) t ∧ OthersStand n.val t s.dev ∧ BesidePort t s.dev) ∧
  (∀ (s : State) (n : CPort), armed (.errRec n.val) s.dev = true →
    Answers (.errorRecoveryDone n) s fun t =>
      (cable t n.val).typec = .unattached ∧ (cable t n.val).resetting = false ∧
      (∀ m : Nat, m ≠ n.val → cable t m = cable s.dev m) ∧ BesidePort t s.dev ∧ SameSwitch t s.dev ∧
      t.aon = s.dev.aon ∧ t.boot = s.dev.boot) ∧
  (∀ (s : State) (n : CPort), armed (.ccShort n.val) s.dev = true → portRuns s.dev n.val = true →
    (Answers (.ccShortTest n true) s fun t =>
      (cable t n.val).typec = .ccShort ∧ (cable t n.val).ccShortCount = inc16 (cable s.dev n.val).ccShortCount ∧
      (cable t n.val).gateOn = false ∧ (cable t n.val).vconn = 0 ∧ (cable t n.val).booked = 0 ∧ (cable t n.val).rpNow = 2 ∧
      runsFor (.ccShortRe n.val) sec t ∧ OthersStand n.val t s.dev ∧ BesidePort t s.dev) ∧
    (Answers (.ccShortTest n false) s fun t =>
      cable t n.val = { cable s.dev n.val with rpNow := (cable t n.val).rpNow, presentRp := (cable t n.val).presentRp } ∧
      (cable t n.val).rpNow = (if 4 ≤ (cable s.dev n.val).rpNow ∧
          ((cable s.dev n.val).typec = .unattached ∨ (cable s.dev n.val).typec = .attachWait) then 2
        else (cable s.dev n.val).rpNow) ∧
      (∀ m : Nat, m ≠ n.val → cable t m = cable s.dev m) ∧ t.shep = s.dev.shep ∧ BesidePort t s.dev ∧ SameSwitch t s.dev)) ∧
  (∀ (s : State) (n : CPort), armed (.ccShortRe n.val) s.dev = true → (cable s.dev n.val).typec = .ccShort →
    (Answers (.ccShortRetest n true) s fun t =>
      cable t n.val = { cable s.dev n.val with rpNow := 2, presentRp := true } ∧ runsFor (.ccShortRe n.val) (sec - ms) t ∧
      (∀ m : Nat, m ≠ n.val → cable t m = cable s.dev m) ∧ t.shep = s.dev.shep ∧ BesidePort t s.dev ∧ SameSwitch t s.dev) ∧
    (Answers (.ccShortRetest n false) s fun t => (cable t n.val).typec = .unattached ∧
      armed (.ccShortRe n.val) t = false ∧ (∀ m : Nat, m ≠ n.val → cable t m = cable s.dev m) ∧ t.shep = s.dev.shep ∧
      BesidePort t s.dev ∧ SameSwitch t s.dev))

/-- The connector guard and VCONN (R197-R201, R203, R218): a check alternates its direction and lasts 20 ms; its lowest reading
makes the port WET below WET_KOHM, and three results beyond 2 MΩ in a row make it DRY again; a source that becomes WET waits for the
shepherd's step and any other port loses VCONN; VBUS comes at the end of a check that began with the gates off, under the admission
of its first allowance, and without it stays off; a VCONN fault switches VCONN off and forgets the cable's ratings. -/
def Obligations.ConnectorGuard : Prop :=
  (∀ (s : State) (n : CPort), portRuns s.dev n.val = true → (cable s.dev n.val).guardRuns = false →
    armed (.guard n.val) s.dev = true →
    Answers (.guardCheck n) s fun t =>
      cable t n.val = { cable s.dev n.val with
        guardRuns := true, guardReverse := !(cable s.dev n.val).guardReverse
        guardAfterAttach := hasPartner (cable s.dev n.val) && !(cable s.dev n.val).gateOn } ∧
      runsFor (.guardEnd n.val) (20 * ms) t ∧
      runsFor (.guard n.val) (if (cable s.dev n.val).guard = .wet then 5 * sec else cfg s.dev 0x2300 1 * sec) t ∧
      (∀ m : Nat, m ≠ n.val → cable t m = cable s.dev m) ∧ BesidePort t s.dev ∧ SameSwitch t s.dev ∧ t.aon = s.dev.aon ∧
      t.boot = s.dev.boot) ∧
  (∀ (s : State) (n : CPort) (k : PinKohm), armed (.guardEnd n.val) s.dev = true → (cable s.dev n.val).guardRuns = true →
    Answers (.guardCheckDone n k) s fun t =>
      let r := (guardReads (cable s.dev n.val) k).foldl min 0xFFFFFFFF
      (cable t n.val).guardRuns = false ∧ (cable t n.val).guardLast = (if 2200 < r then 0xFFFFFFFF else r) ∧
      (r < cfg s.dev 0x2300 0 → (cable t n.val).guard = .wet ∧ (cable t n.val).dryCount = 0) ∧
      (cfg s.dev 0x2300 0 ≤ r → (cable s.dev n.val).guard = .wet →
        (r ≤ 2000 → (cable t n.val).guard = .wet ∧ (cable t n.val).dryCount = 0) ∧
        (2000 < r → (cable s.dev n.val).dryCount < 2 →
          (cable t n.val).guard = .wet ∧ (cable t n.val).dryCount = (cable s.dev n.val).dryCount + 1) ∧
        (2000 < r → 2 ≤ (cable s.dev n.val).dryCount → (cable t n.val).guard = .dry)) ∧
      (cfg s.dev 0x2300 0 ≤ r → (cable s.dev n.val).guard ≠ .wet →
        (cable t n.val).guard = (if r ≤ 2000 then .damp else .dry)) ∧
      ((cable s.dev n.val).guardAfterAttach = false → (cable t n.val).gateOn = (cable s.dev n.val).gateOn) ∧
      (r < cfg s.dev 0x2300 0 → (cable t n.val).guardFresh = false ∧ (cable t n.val).gateOn = (cable s.dev n.val).gateOn) ∧
      (r < cfg s.dev 0x2300 0 → (cable s.dev n.val).guard ≠ .wet → (cable s.dev n.val).powerRole = .source →
        sourcing (cable s.dev n.val) = true → t.shep.stepDue = true) ∧
      (r < cfg s.dev 0x2300 0 → (cable s.dev n.val).guard ≠ .wet → sourcing (cable s.dev n.val) = false →
        (cable t n.val).vconn ≠ 1) ∧
      (∀ m : Nat, m ≠ n.val → cable t m = cable s.dev m) ∧ BesidePort t s.dev ∧ SameSwitch t s.dev) ∧
  (∀ (s : State) (n : CPort) (k : PinKohm), armed (.guardEnd n.val) s.dev = true →
    let c := cable s.dev n.val
    let r := (guardReads c k).foldl min 0xFFFFFFFF
    c.guardRuns = true → c.guard ≠ .wet → cfg s.dev 0x2300 0 ≤ r → c.guardAfterAttach = true → c.vbusWait = true →
    c.gateOn = false → c.path ≠ .latched → armed (.shortRetry n.val) s.dev = false → armed (.inrushRetry n.val) s.dev = false →
    s.dev.shep.critical = false → c.booked = 0 →
    Answers (.guardCheckDone n k) s fun t =>
      ((firstNeed s.dev c : Int) ≤ ledgerFree s.dev →
        (cable t n.val).gateOn = true ∧ (cable t n.val).booked = cfg s.dev 0x2300 3 ∧ (cable t n.val).vbusWait = false ∧
        (cable t n.val).path = (if s.dev.shep.droop then .frozen else .inrush)) ∧
      (ledgerFree s.dev < (firstNeed s.dev c : Int) →
        (cable t n.val).gateOn = false ∧ (cable t n.val).booked = 0 ∧ (cable t n.val).firstRefused = true) ∧
      (∀ m : Nat, m ≠ n.val → cable t m = cable s.dev m) ∧ BesidePort t s.dev ∧ SameSwitch t s.dev) ∧
  (∀ (s : State) (n : CPort), (cable s.dev n.val).vconn = 1 →
    Answers (.vconnFault n) s fun t => (cable t n.val).vconn = 2 ∧ (cable t n.val).cableBits = 0 ∧
      (cable t n.val).gateOn = (cable s.dev n.val).gateOn ∧ (cable t n.val).booked = (cable s.dev n.val).booked ∧
      (∀ m : Nat, m ≠ n.val → cable t m = cable s.dev m) ∧ BesidePort t s.dev ∧ SameSwitch t s.dev ∧ SameAon t s.dev)

/-- Identification over the pod link (R205, R208, R210-R212, R215, R220, R222, R224, R371): discovery asks for the identity, the
SVIDs and the modes, and a partner without the pod link's is no pod; the mode is entered and the block read in chunks; a valid one
is matched and its profile applied, or refused; an invalid one is read again and then left unidentified at rate 1; the link is
brought up at the agreed rate, and the fence lifted at its end; a VDM is tried three times. -/
def Obligations.PodIdentification : Prop :=
  ∀ (s : State) (n : CPort),
    (∀ (id : BitVec 3) (vdos : List Word), HearsVdm s.dev n.val id .discoverIdentity →
      Answers (.discoverModes n ⟨id, .identity, .ack vdos⟩) s fun t =>
        (cable t n.val).vdm = .discoverSvids ∧ (cable t n.val).vdmTries = 0 ∧
        ((cable s.dev n.val).lastSent = none → Says n (.vdm (vdmHeader 0xFF00 0 2) []) t) ∧
        (cable t n.val).booked = (cable s.dev n.val).booked ∧ OnlyPort n.val t s.dev ∧ SameSwitch t s.dev ∧ SameAon t s.dev) ∧
    (∀ (id : BitVec 3) (vdos : List Word), HearsVdm s.dev n.val id .discoverSvids → listsSvid (podSvid s.dev) vdos = true →
      Answers (.discoverModes n ⟨id, .svids, .ack vdos⟩) s fun t =>
        (cable t n.val).vdm = .discoverModes ∧ (cable t n.val).vdmTries = 0 ∧
        ((cable s.dev n.val).lastSent = none → Says n (.vdm (vdmHeader (podSvid s.dev) 0 3) []) t) ∧
        (cable t n.val).booked = (cable s.dev n.val).booked ∧ OnlyPort n.val t s.dev ∧ SameSwitch t s.dev ∧ SameAon t s.dev) ∧
    (∀ (id : BitVec 3) (v : Word) (rest : List Word), HearsVdm s.dev n.val id .discoverModes →
      Answers (.discoverModes n ⟨id, .modes, .ack (v :: rest)⟩) s fun t =>
        (cable t n.val).modeVdo = v ∧ (cable t n.val).vdm = .enterMode ∧ (cable t n.val).vdmTries = 0 ∧
        ((cable s.dev n.val).lastSent = none → Says n (.vdm (vdmHeader (podSvid s.dev) 1 4) []) t) ∧
        (cable t n.val).booked = (cable s.dev n.val).booked ∧ OnlyPort n.val t s.dev ∧ SameSwitch t s.dev ∧ SameAon t s.dev) ∧
    (∀ (id : BitVec 3) (what : Discovery) (a : VdmAnswer), HearsVdm s.dev n.val id (discoveryStep what) →
      (a = .nak ∨ a = .notSupported ∨ (what = .modes ∧ a = .ack []) ∨
        (∃ vdos, what = .svids ∧ a = .ack vdos ∧ listsSvid (podSvid s.dev) vdos = false)) →
      Answers (.discoverModes n ⟨id, what, a⟩) s fun t =>
        (cable t n.val).pod = .notAPod ∧ (cable t n.val).vdm = .idle ∧ (cable t n.val).podOpen = (cable s.dev n.val).podOpen ∧
        (CeilingFits s.dev n.val 0 → InForce n.val 0 t s.dev ∧ (swPort t n.val).fenced = false ∧
          t.hw.irqPort.getLsbD n.val = true) ∧
        (¬ CeilingFits s.dev n.val 0 → (cable t n.val).profileId = (cable s.dev n.val).profileId ∧
          (swPort t n.val).fenced = (swPort s.dev n.val).fenced ∧ t.hw.irqPort.getLsbD (8 + n.val) = true) ∧
        OnlyPort n.val t s.dev ∧ SameAon t s.dev) ∧
    (∀ (id : BitVec 3) (vdos : List Word), HearsVdm s.dev n.val id .enterMode →
      Answers (.enterMode n ⟨id, .ack vdos⟩) s fun t =>
        (cable t n.val).podOpen = true ∧ (cable t n.val).pod = .reading ∧ (cable t n.val).vdm = .identity 0 ∧
        (cable t n.val).identBuf = [] ∧
        (isDual n.val = true → (cable s.dev n.val).laneOn = false → (cable s.dev n.val).muxRoute ≠ .usb3 →
          (cable t n.val).muxRoute = .lane) ∧
        (sessionOf t (2 + n.val)).isOpen = true ∧ (sessionOf t (2 + n.val)).highest = 0 ∧ OnlyPort n.val t s.dev ∧
        SameSwitch t s.dev ∧ SameAon t s.dev) ∧
    (∀ (id : BitVec 3) (a : VdmAnswer), HearsVdm s.dev n.val id .enterMode → (a = .nak ∨ a = .notSupported) →
      Answers (.enterMode n ⟨id, a⟩) s fun t =>
        (cable t n.val).pod = .failed ∧ (cable t n.val).vdm = .idle ∧ (cable t n.val).podOpen = (cable s.dev n.val).podOpen ∧
        (swPort t n.val).fenced = (swPort s.dev n.val).fenced ∧ (CeilingFits s.dev n.val 0 → InForce n.val 0 t s.dev) ∧
        OnlyPort n.val t s.dev ∧ SameAon t s.dev) ∧
    (∀ (id : BitVec 3) (off : Nat) (vdos : List Word), HearsVdm s.dev n.val id (.identity off) → off < 240 →
      Answers (.identityRead n ⟨id, .ack vdos⟩) s fun t =>
        (cable t n.val).vdm = .identity (off + 24) ∧
        (cable t n.val).identBuf = (cable s.dev n.val).identBuf ++
          ((vdos.flatMap fun (w : Word) => leBytes 4 w.toNat) ++ List.replicate 24 0).take 24 ∧
        OnlyPort n.val t s.dev ∧ SameSwitch t s.dev ∧ SameAon t s.dev) ∧
    (∀ (id : BitVec 3) (vdos : List Word), HearsVdm s.dev n.val id (.identity 240) →
      let buf := (cable s.dev n.val).identBuf ++
        ((vdos.flatMap fun (w : Word) => leBytes 4 w.toNat) ++ List.replicate 16 0).take 16
      let p := matchProfile s.dev buf n.val
      (identValid buf = true →
        Answers (.identityRead n ⟨id, .ack vdos⟩) s fun t =>
          (cable t n.val).identity = buf ∧
          (CeilingFits s.dev n.val p → InForce n.val p t s.dev ∧
            (cable t n.val).vdm = .linkRate (min (if p = 0 then 1 else cfg s.dev (0x2400 + p) 14)
              (if (cable s.dev n.val).modeVdo.getLsbD 25 then 2 else 1))) ∧
          (¬ CeilingFits s.dev n.val p → (cable t n.val).profileId = (cable s.dev n.val).profileId ∧
            (cable t n.val).vdm = .idle ∧ t.hw.irqPort.getLsbD (8 + n.val) = true) ∧
          (swPort t n.val).fenced = (swPort s.dev n.val).fenced ∧ OnlyPort n.val t s.dev ∧ SameAon t s.dev) ∧
      (identValid buf = false → (cable s.dev n.val).identTries = 0 →
        Answers (.identityRead n ⟨id, .ack vdos⟩) s fun t =>
          (cable t n.val).pod = .reading ∧ (cable t n.val).vdm = .identity 0 ∧ (cable t n.val).identTries = 1 ∧
          (cable t n.val).identBuf = [] ∧ OnlyPort n.val t s.dev ∧ SameSwitch t s.dev ∧ SameAon t s.dev) ∧
      (identValid buf = false → (cable s.dev n.val).identTries ≠ 0 →
        Answers (.identityRead n ⟨id, .ack vdos⟩) s fun t =>
          (cable t n.val).pod = .identBad ∧
          (CeilingFits s.dev n.val 0 → InForce n.val 0 t s.dev ∧ (cable t n.val).vdm = .linkRate 1) ∧
          (swPort t n.val).fenced = (swPort s.dev n.val).fenced ∧ OnlyPort n.val t s.dev ∧ SameAon t s.dev)) ∧
    (∀ (id : BitVec 3) (r : Nat), HearsVdm s.dev n.val id (.linkRate r) →
      (∀ vdos : List Word, Answers (.linkRate n ⟨id, .ack vdos⟩) s fun t =>
        (cable t n.val).laneOn = true ∧ (cable t n.val).laneRate = r ∧ (cable t n.val).vdm = .idle ∧
        runsFor (.linkUp n.val) (20 * ms) t ∧ OnlyPort n.val t s.dev ∧ SameSwitch t s.dev ∧ SameAon t s.dev) ∧
      (r = 2 → Answers (.linkRate n ⟨id, .nak⟩) s fun t =>
        (cable t n.val).laneOn = false ∧ (cable t n.val).vdm = .linkRate 1 ∧ OnlyPort n.val t s.dev ∧ SameSwitch t s.dev ∧
        SameAon t s.dev) ∧
      (r ≠ 2 → (cable s.dev n.val).podOpen = true → Answers (.linkRate n ⟨id, .nak⟩) s fun t =>
        (cable t n.val).pod = .linkFail ∧ (cable t n.val).podOpen = false ∧ (cable t n.val).vdm = .exitMode ∧
        (cable t n.val).booked = (cable s.dev n.val).booked ∧ (swPort t n.val).fenced = true ∧ OnlyPort n.val t s.dev ∧
        SameAon t s.dev)) ∧
    (armed (.linkUp n.val) s.dev = true → (cable s.dev n.val).laneOn = true →
      Answers (.podLinkUp n) s fun t =>
        (swPort t n.val).link = true ∧ (swPort t n.val).speed = (if (cable s.dev n.val).laneRate = 2 then 2500 else 1000) ∧
        (cable t n.val).pod = (if (cable s.dev n.val).pod = .identBad then .identBad else .linkUp) ∧
        ((cable s.dev n.val).profStream < 16 → (cable s.dev n.val).modeVdo.getLsbD 0 = true →
          (cable t n.val).vdm = .epoch (cable s.dev n.val).profStream ∧
          (swPort t n.val).fenced = (swPort s.dev n.val).fenced) ∧
        (¬ ((cable s.dev n.val).profStream < 16 ∧ (cable s.dev n.val).modeVdo.getLsbD 0 = true) →
          (swPort t n.val).fenced = false ∧ ((swPort s.dev n.val).fenced = true → t.hw.irqPort.getLsbD n.val = true)) ∧
        OnlyPort n.val t s.dev ∧ SameAon t s.dev) ∧
    (armed (.linkUp n.val) s.dev = true →
      Answers (.linkUpTimeout n) s fun t =>
        (cable t n.val).laneOn = false ∧
        ((cable s.dev n.val).laneRate = 2 → (cable t n.val).vdm = .linkRate 1) ∧
        ((cable s.dev n.val).laneRate ≠ 2 → (cable s.dev n.val).podOpen = true →
          (cable t n.val).pod = .linkFail ∧ (cable t n.val).podOpen = false ∧ (cable t n.val).vdm = .exitMode ∧
          (swPort t n.val).fenced = true) ∧
        (cable t n.val).booked = (cable s.dev n.val).booked ∧ (cable t n.val).contract = (cable s.dev n.val).contract ∧
        OnlyPort n.val t s.dev) ∧
    (∀ (id : BitVec 3) (k : Nat), HearsVdm s.dev n.val id (.epoch k) →
      (∀ vdos : List Word, Answers (.epochSubscribe n ⟨id, .ack vdos⟩) s fun t =>
        (epochOf t k).marks.getLsbD n.val = true ∧ (∀ j : Nat, j ≠ k → (epochOf t j).marks = (epochOf s.dev j).marks) ∧
        (swPort t n.val).fenced = false ∧ OnlyPort n.val t s.dev ∧ SameAon t s.dev) ∧
      (Answers (.epochSubscribe n ⟨id, .nak⟩) s fun t =>
        (∀ j : Nat, (epochOf t j).marks = (epochOf s.dev j).marks) ∧ (swPort t n.val).fenced = false ∧ OnlyPort n.val t s.dev ∧
        SameAon t s.dev)) ∧
    (armed (.vdm n.val) s.dev = true → portRuns s.dev n.val = true →
      Answers (.vdmResponseTimeout n) s fun t =>
        ((cable s.dev n.val).vdmTries < 2 → (cable t n.val).vdmTries = (cable s.dev n.val).vdmTries + 1 ∧
          (cable t n.val).vdm = (cable s.dev n.val).vdm ∧ (cable t n.val).pod = (cable s.dev n.val).pod ∧
          (∀ m : PdMsg, vdmMessages s.dev (cable s.dev n.val).vdm = [m] → (cable s.dev n.val).lastSent = none → Says n m t)) ∧
        (2 ≤ (cable s.dev n.val).vdmTries → (cable t n.val).pod = .failed ∧ (cable t n.val).vdm = .idle ∧
          (swPort t n.val).fenced = (swPort s.dev n.val).fenced) ∧
        OnlyPort n.val t s.dev)

/-- The chassis slots (R213, R214, R221, R223, R286): a poll finds a module, books its allowance and starts reading it, and three
misses lose it; a valid block takes its matching profile or keeps what it had, and the host is told which; an invalid one is read
again 10 ms later and then left unidentified; a bus that is not cleared in three attempts, or whose SCL stays low, clamps the slot,
and 10 s later it is tried again. -/
def Obligations.SlotIdentification : Prop :=
  ∀ (s : State) (x : Slot), s.dev.aon.bankS = true → s.dev.boot.stage = .ready →
    let alone (t : Dev) : Prop :=
      (∀ y : Nat, y ≠ x.val → slotOf t y = slotOf s.dev y) ∧ t.cables = s.dev.cables ∧ SameSwitch t s.dev ∧ SameStores t s.dev
    let fits (p : Nat) : Prop := (slotCeiling s.dev x.val p : Int) - (slotOf s.dev x.val).booked ≤ ledgerFree s.dev ∨
      slotCeiling s.dev x.val p ≤ (slotOf s.dev x.val).booked
    let took (p : Nat) (t : Dev) : Prop := (slotOf t x.val).profileId = p ∧ (slotOf t x.val).profileOn = true ∧
      (slotOf t x.val).booked = slotCeiling s.dev x.val p ∧ (slotOf t x.val).ng = ngShare s.dev p
    let kept (t : Dev) : Prop := (slotOf t x.val).profileId = (slotOf s.dev x.val).profileId ∧
      (slotOf t x.val).booked = (slotOf s.dev x.val).booked
    let told (p : Nat) (t : Dev) : Prop :=
      (fits p → took p t ∧ Emission.notice (.slotProfile x.val true) ∈ t.out) ∧
      (¬ fits p → kept t ∧ Emission.notice (.slotProfile x.val false) ∈ t.out)
    let clamped (t : Dev) : Prop := (slotOf t x.val).state = 4 ∧
      (slotOf t x.val).clampCount = inc16 (slotOf s.dev x.val).clampCount ∧ runsFor (.clampRetry x.val) (10 * sec) t ∧ told 0 t
    (armed (.slotPoll x.val) s.dev = true → cfgOn s.dev (slotObj x.val) 0 = true →
      Answers (.slotPoll x true) s fun t =>
        runsFor (.slotPoll x.val) (250 * ms) t ∧
        ((slotOf s.dev x.val).state = 0 → (slotOf t x.val).state = 1 ∧ t.out = [.i2c x 1, .i2c x 2] ∧
          (fits 0 → took 0 t) ∧ (¬ fits 0 → kept t)) ∧
        ((slotOf s.dev x.val).state ≠ 0 → slotOf t x.val = { slotOf s.dev x.val with nacks := 0 } ∧ t.out = [.i2c x 1]) ∧
        alone t) ∧
    (armed (.slotPoll x.val) s.dev = true → cfgOn s.dev (slotObj x.val) 0 = true → (slotOf s.dev x.val).state ≠ 0 →
      Answers (.slotPoll x false) s fun t =>
        runsFor (.slotPoll x.val) (250 * ms) t ∧ t.out = [.i2c x 1] ∧
        ((slotOf s.dev x.val).nacks < 2 →
          slotOf t x.val = { slotOf s.dev x.val with nacks := (slotOf s.dev x.val).nacks + 1 }) ∧
        (2 ≤ (slotOf s.dev x.val).nacks → (slotOf t x.val).state = 0 ∧ (slotOf t x.val).booked = 0 ∧
          (slotOf t x.val).profileId = 0 ∧ (slotOf t x.val).ng = NgShare.none ∧ t.shep.stepDue = true) ∧
        alone t) ∧
    ((slotOf s.dev x.val).state = 1 → armed (.slotRetry x.val) s.dev = false → ∀ block : List Byte,
      Answers (.slotReadDone x block) s fun t =>
        (identValid block = true → (slotOf t x.val).state = 2 ∧ (slotOf t x.val).identity = block ∧
          told (matchProfile s.dev block (8 + x.val)) t) ∧
        (identValid block = false → (slotOf s.dev x.val).tries = 0 →
          slotOf t x.val = { slotOf s.dev x.val with tries := 1 } ∧ runsFor (.slotRetry x.val) (10 * ms) t) ∧
        (identValid block = false → (slotOf s.dev x.val).tries ≠ 0 → (slotOf t x.val).state = 3 ∧ told 0 t) ∧
        alone t ∧ SameAon t s.dev) ∧
    (armed (.slotRetry x.val) s.dev = true →
      Answers (.slotReadRetry x) s fun t =>
        slotOf t x.val = { slotOf s.dev x.val with state := 1 } ∧ t.out = [.i2c x 2] ∧ alone t) ∧
    (cfgOn s.dev (slotObj x.val) 0 = true → (slotOf s.dev x.val).state ≠ 4 →
      (Answers (.slotBusClear x .cleared) s fun t => slotOf t x.val = { slotOf s.dev x.val with clears := 0 } ∧
        t.out = [.i2c x 3] ∧ alone t) ∧
      (Answers (.slotBusClear x .sdaLow) s fun t =>
        ((slotOf s.dev x.val).clears < 2 →
          slotOf t x.val = { slotOf s.dev x.val with clears := (slotOf s.dev x.val).clears + 1 } ∧
          runsFor (.busClear x.val) (10 * ms) t ∧ t.out = [.i2c x 3]) ∧
        (2 ≤ (slotOf s.dev x.val).clears → clamped t) ∧ alone t) ∧
      (Answers (.slotBusClear x .sclLow) s fun t => clamped t ∧ alone t)) ∧
    (armed (.clampRetry x.val) s.dev = true → (slotOf s.dev x.val).state = 4 →
      (Answers (.slotClampRetry x .cleared) s fun t => (slotOf t x.val).state = 1 ∧ t.out = [.i2c x 3, .i2c x 2] ∧
        armed (.clampRetry x.val) t = false ∧ alone t) ∧
      (Answers (.slotClampRetry x .sdaLow) s fun t => slotOf t x.val = { slotOf s.dev x.val with clears := 1 } ∧
        runsFor (.busClear x.val) (10 * ms) t ∧ alone t) ∧
      (Answers (.slotClampRetry x .sclLow) s fun t => clamped t ∧ alone t))

/-! ### Power contracts -/

/-- The source's side (R231-R236, R253, R254, R260, R268, R285). A Request is rejected outside the offer, told to wait beyond FREE and
accepted otherwise with the rise booked first, and the first two leave contract, booking and offer standing; GoodCRC of Accept
starts the transition, whose end sets the converter and sends PS_RDY; GoodCRC of PS_RDY puts the contract in force, and that of a
Wait runs WAIT_REOFFER; a message without GoodCRC is tried three times; the PPS timer ends in Hard Reset, and the 50th unanswered
offer in Type-C current under admission.
(Log entry 2: an expiry's command reaches its timer's instant first.) -/
def Obligations.SourceContracts : Prop :=
  (∀ (s : State) (n : CPort) (id : BitVec 3) (rdo : Word), Hears s.dev n.val id → (cable s.dev n.val).powerRole = .source →
    inTransition s.dev n.val = false →
    let stands (t : Dev) : Prop := (cable t n.val).booked = (cable s.dev n.val).booked ∧
      (cable t n.val).contract = (cable s.dev n.val).contract ∧ (cable t n.val).offer = (cable s.dev n.val).offer ∧
      (cable t n.val).offerHeld = (cable s.dev n.val).offerHeld ∧ (cable t n.val).nego = none ∧ OnlyPort n.val t s.dev ∧
      SameSwitch t s.dev ∧ SameAon t s.dev
    ((requestOf (cable s.dev n.val) rdo = none ∨ ∃ g, requestOf (cable s.dev n.val) rdo = some (g, false)) →
      Answers (.request n id rdo) s fun t => ((cable s.dev n.val).lastSent = none → Says n .reject t) ∧ stands t) ∧
    (∀ g : Nego, requestOf (cable s.dev n.val) rdo = some (g, true) → g.mismatch = false →
      ledgerFree s.dev < (g.booking : Int) - (cable s.dev n.val).booked →
      Answers (.request n id rdo) s fun t => ((cable s.dev n.val).lastSent = none → Says n .wait t) ∧ stands t) ∧
    (∀ g : Nego, requestOf (cable s.dev n.val) rdo = some (g, true) →
      (g.mismatch = true ∨ (g.booking : Int) - (cable s.dev n.val).booked ≤ ledgerFree s.dev) →
      Answers (.request n id rdo) s fun t => ((cable s.dev n.val).lastSent = none → Says n .accept t) ∧
        (cable t n.val).booked = max (cable s.dev n.val).booked g.booking ∧ (cable t n.val).nego = some g ∧
        (cable t n.val).contract = (cable s.dev n.val).contract ∧ OnlyPort n.val t s.dev ∧ SameSwitch t s.dev ∧
        SameAon t s.dev)) ∧
  (∀ (s : State) (n : CPort) (g : Nego), pdListens s.dev n.val = true → (cable s.dev n.val).nego = some g →
    ((cable s.dev n.val).lastSent = some .accept → isKeepAlive (cable s.dev n.val) g = false →
      Answers (.goodcrc n (cable s.dev n.val).txId) s fun t => runsFor (.tsrc n.val) (30 * ms) t ∧
        (cable t n.val).txId = (cable s.dev n.val).txId + 1 ∧
        (cable t n.val).booked = min (cable s.dev n.val).booked g.booking ∧ OnlyPort n.val t s.dev ∧ SameSwitch t s.dev ∧
        SameAon t s.dev) ∧
    ((cable s.dev n.val).lastSent = some .psRdy → (cable s.dev n.val).powerRole = .source →
      Answers (.goodcrc n (cable s.dev n.val).txId) s fun t =>
        (cable t n.val).contract = .spr ∧ (cable t n.val).pos = g.pos ∧ (cable t n.val).mv = g.mv ∧ (cable t n.val).ma = g.ma ∧
        (cable t n.val).ilim = ilimOf g.ma ∧ (cable t n.val).nego = none ∧ (cable t n.val).hardResets = 0 ∧
        (cable t n.val).booked = (cable s.dev n.val).booked ∧ OnlyPort n.val t s.dev ∧ SameAon t s.dev)) ∧
  (∀ (s : State) (n : CPort), pdListens s.dev n.val = true → (cable s.dev n.val).lastSent = some .wait →
    (cable s.dev n.val).powerRole = .source →
    Answers (.goodcrc n (cable s.dev n.val).txId) s fun t => runsFor (.waitReoffer n.val) (100 * ms) t ∧
      (cable t n.val).booked = (cable s.dev n.val).booked ∧ (cable t n.val).offer = (cable s.dev n.val).offer ∧
      OnlyPort n.val t s.dev ∧ SameSwitch t s.dev ∧ SameAon t s.dev) ∧
  (∀ (s : State) (n : CPort), pdListens s.dev n.val = true → (cable s.dev n.val).lastSent = some (.cableIdentity false) →
    (cable s.dev n.val).emark.getLsbD 4 = false →
    Answers (.goodcrc n (cable s.dev n.val).txIdP) s fun t => (cable t n.val).cableAsk = .answered ∧
      (cable t n.val).cableBits = (cable s.dev n.val).emark ∧ (cable t n.val).txIdP = (cable s.dev n.val).txIdP + 1 ∧
      (cable t n.val).booked = (cable s.dev n.val).booked ∧ OnlyPort n.val t s.dev ∧ SameSwitch t s.dev ∧ SameAon t s.dev) ∧
  (∀ (s : State) (n : CPort) (id : BitVec 3) (m : PdMsg), pdListens s.dev n.val = true →
    (cable s.dev n.val).lastSent = some m → (∀ b, m ≠ .cableIdentity b) → id ≠ (cable s.dev n.val).txId →
    Answers (.goodcrc n id) s fun t => Became t (hush s.dev)) ∧
  (∀ (s : State) (n : CPort) (g : Nego), armed (.tsrc n.val) s.dev = true → portRuns s.dev n.val = true →
    (cable s.dev n.val).nego = some g →
    Answers (.tsrcTransition n) s fun t => (cable t n.val).vctl = vctlOf g.mv ∧ (cable t n.val).ilim = ilimOf g.ma ∧
      ((cable s.dev n.val).lastSent = none → Says n .psRdy t) ∧ (cable t n.val).booked = (cable s.dev n.val).booked ∧
      OnlyPort n.val t s.dev ∧ SameSwitch t s.dev) ∧
  (∀ (s : State) (n : CPort) (c : Instr) (timer : Timer),
    (c = .waitReoffer n ∧ timer = .waitReoffer n.val ∨
     c = .sourceCapabilityTimeout n ∧ timer = .srcCap n.val ∧ (cable s.dev n.val).capsSent < 50) →
    armed timer s.dev = true → pdListens s.dev n.val = true → (cable s.dev n.val).powerRole = .source →
    500 ≤ offerPower s.dev n.val → cablePending (cable s.dev n.val) = false →
    let offer := buildOffer s.dev n.val (offerPower s.dev n.val).toNat
    (asksCable (cable s.dev n.val) offer = false →
      Answers c s fun t => (cable t n.val).offer = offer ∧ (cable t n.val).offerHeld = false ∧
        (cable t n.val).awaiting = .capsAnswer ∧ (cable t n.val).capsSent = (cable s.dev n.val).capsSent + 1 ∧
        ((cable s.dev n.val).lastSent = none → Says n (.sourceCaps offer) t) ∧
        (cable t n.val).booked = (cable s.dev n.val).booked ∧ OnlyPort n.val t s.dev ∧ SameSwitch t s.dev) ∧
    (asksCable (cable s.dev n.val) offer = true →
      Answers c s fun t => (cable t n.val).cableAsk = .near ∧ (cable t n.val).offer = (cable s.dev n.val).offer ∧
        ((cable s.dev n.val).lastSent = none → Says n (.cableIdentity false) t) ∧
        (cable t n.val).booked = (cable s.dev n.val).booked ∧ OnlyPort n.val t s.dev ∧ SameSwitch t s.dev)) ∧
  (∀ (s : State) (n : CPort), armed (.srcCap n.val) s.dev = true → pdListens s.dev n.val = true →
    (cable s.dev n.val).powerRole = .source → 50 ≤ (cable s.dev n.val).capsSent → (cable s.dev n.val).reserved = 0 →
    let ma := rpMa (cfg s.dev (cableObj n.val) 3)
    (((5 * ma : Nat) : Int) - (cable s.dev n.val).booked ≤ ledgerFree s.dev →
      Answers (.sourceCapabilityTimeout n) s fun t => (cable t n.val).contract = .typecOnly ∧ (cable t n.val).mv = 5000 ∧
        (cable t n.val).ma = ma ∧ (cable t n.val).booked = 5 * ma ∧ (cable t n.val).pod = .notAPod ∧ OnlyPort n.val t s.dev) ∧
    (ledgerFree s.dev < ((5 * ma : Nat) : Int) - (cable s.dev n.val).booked →
      Answers (.sourceCapabilityTimeout n) s fun t => (cable t n.val).gateOn = false ∧ (cable t n.val).booked = 0 ∧
        (cable t n.val).firstRefused = true ∧ (swPort t n.val).fenced = true ∧ t.shep.stepDue = true ∧
        OnlyPort n.val t s.dev)) ∧
  (∀ (s : State) (n : CPort), armed (.srcPps n.val) s.dev = true → portRuns s.dev n.val = true →
    Answers (.sourcePpsTimeout n) s fun t => Emission.pdHardReset n ∈ t.out ∧ (cable t n.val).contract = .none ∧
      (cable t n.val).ppsTimeoutCount = inc16 (cable s.dev n.val).ppsTimeoutCount ∧
      (cable t n.val).hardResetCount = inc16 (cable s.dev n.val).hardResetCount ∧ runsFor (.hardDone n.val) (5 * ms) t ∧
      runsFor (.noResponse n.val) (5 * sec) t ∧ OnlyPort n.val t s.dev) ∧
  (∀ (s : State) (n : CPort) (m : PdMsg), armed (.crcRx n.val) s.dev = true → portRuns s.dev n.val = true →
    (cable s.dev n.val).lastSent = some m →
    ((cable s.dev n.val).retries < 2 →
      Answers (.crcReceiveTimeout n) s fun t => t.out = [.pd n m] ∧ runsFor (.crcRx n.val) ms t ∧
        cable t n.val = { cable s.dev n.val with retries := (cable s.dev n.val).retries + 1 } ∧ OnlyPort n.val t s.dev ∧
        SameSwitch t s.dev) ∧
    (2 ≤ (cable s.dev n.val).retries →
      (m = .softReset →
        Answers (.crcReceiveTimeout n) s fun t => Emission.pdHardReset n ∈ t.out ∧ (cable t n.val).contract = .none ∧
          (cable t n.val).retryFailCount = inc16 (cable s.dev n.val).retryFailCount ∧ OnlyPort n.val t s.dev) ∧
      ((∃ pdos, m = .sourceCaps pdos) → explicit (cable s.dev n.val) = false →
        Answers (.crcReceiveTimeout n) s fun t => runsFor (.srcCap n.val) (150 * ms) t ∧
          (cable t n.val).awaiting = .nothing ∧ (cable t n.val).capsSent = (cable s.dev n.val).capsSent ∧
          (cable t n.val).retryFailCount = inc16 (cable s.dev n.val).retryFailCount ∧ OnlyPort n.val t s.dev ∧
          SameSwitch t s.dev) ∧
      (m ≠ .softReset → (∀ pdos, m ≠ .sourceCaps pdos) → (∀ b, m ≠ .cableIdentity b) → inTransition s.dev n.val = false →
        (cable s.dev n.val).ladder.alertReset = false →
        Answers (.crcReceiveTimeout n) s fun t => Says n .softReset t ∧
          (cable t n.val).softResetCount = inc16 (cable s.dev n.val).softResetCount ∧
          (cable t n.val).retryFailCount = inc16 (cable s.dev n.val).retryFailCount ∧
          (cable t n.val).booked = (cable s.dev n.val).booked ∧ (cable t n.val).gateOn = (cable s.dev n.val).gateOn ∧
          OnlyPort n.val t s.dev ∧ SameSwitch t s.dev)))

/-- The sink's side (R237-R246, R249, R255). Source_Capabilities are kept and a choice from them requested; Accept lowers an
inflow that falls and awaits PS_RDY, which puts the contract in force; Wait is followed by a new Request 100 ms later, Reject
leaves the contract; an adjustable contract and EPR are kept alive; EPR is entered, refused and left; Sink_Capabilities give the
partner's FRS current. -/
def Obligations.SinkContracts : Prop :=
  (∀ (s : State) (n : CPort) (id : BitVec 3) (pdos : List Word), Hears s.dev n.val id → (cable s.dev n.val).powerRole = .sink →
    let kept (t : Dev) : Prop := (cable t n.val).partnerCaps = pdos.take 11 ∧
      (cable t n.val).booked = (cable s.dev n.val).booked ∧
      ((cable s.dev n.val).path ≠ .latched → (cable t n.val).gateOn = true) ∧ OnlyPort n.val t s.dev ∧ SameSwitch t s.dev ∧
      SameAon t s.dev
    let left := setCable n.val (fun c =>
      { c with partnerCaps := pdos.take 11, epr := if c.epr = .refused then .refused else .off }) s.dev
    (Answers (.sourceCapabilities n id pdos) s fun t => kept t ∧
      ∀ g, sinkPick left n.val = some g → (cable t n.val).nego = some g ∧ (cable t n.val).awaiting = .requestAnswer) ∧
    ((cable s.dev n.val).epr = .inEpr → (cable s.dev n.val).guard ≠ .wet →
      Answers (.eprSourceCapabilities n id pdos) s fun t => kept t ∧
        ∀ g, sinkPick (setCable n.val (fun c => { c with partnerCaps := pdos.take 11 }) s.dev) n.val = some g →
          (cable t n.val).nego = some g ∧ (cable t n.val).awaiting = .requestAnswer)) ∧
  (∀ (s : State) (n : CPort) (id : BitVec 3) (g : Nego), Hears s.dev n.val id → (cable s.dev n.val).awaiting = .requestAnswer →
    (cable s.dev n.val).nego = some g →
    let stands (t : Dev) : Prop := (cable t n.val).nego = none ∧ (cable t n.val).awaiting = .nothing ∧
      (cable t n.val).contract = (cable s.dev n.val).contract ∧ (cable t n.val).mv = (cable s.dev n.val).mv ∧
      (cable t n.val).ma = (cable s.dev n.val).ma ∧ (cable t n.val).booked = (cable s.dev n.val).booked ∧
      OnlyPort n.val t s.dev ∧ SameSwitch t s.dev ∧ SameAon t s.dev
    (Answers (.accept n id) s fun t => (cable t n.val).awaiting = .psRdy ∧ runsFor (.psTrans n.val) (500 * ms) t ∧
      (cable t n.val).booked = min (cable s.dev n.val).booked g.booking ∧
      (cable t n.val).contract = (cable s.dev n.val).contract ∧ OnlyPort n.val t s.dev ∧ SameSwitch t s.dev ∧
      SameAon t s.dev) ∧
    ((cable s.dev n.val).powerRole = .source ∨ explicit (cable s.dev n.val) = false ∨
      ((cable s.dev n.val).guard ≠ .wet ∧ (cable s.dev n.val).sinkCeil = none ∧ (cable s.dev n.val).ma % 50 = 0) →
      (Answers (.wait n id) s fun t => runsFor (.sinkReq n.val) (100 * ms) t ∧ stands t) ∧
      (Answers (.reject n id) s fun t => stands t))) ∧
  (∀ (s : State) (n : CPort) (id : BitVec 3) (g : Nego), Hears s.dev n.val id → (cable s.dev n.val).awaiting = .psRdy →
    (cable s.dev n.val).nego = some g →
    Answers (.psRdy n id) s fun t =>
      (cable t n.val).contract = (if g.epr then .epr else .spr) ∧ (cable t n.val).pos = g.pos ∧ (cable t n.val).mv = g.mv ∧
      (cable t n.val).ma = g.ma ∧ (cable t n.val).booked = g.booking ∧
      (g.kind ≠ .fixed → runsFor (.sinkKeep n.val) (8 * sec) t) ∧ OnlyPort n.val t s.dev ∧ SameAon t s.dev) ∧
  (∀ (s : State) (n : CPort) (g : Nego), armed (.sinkReq n.val) s.dev = true → pdListens s.dev n.val = true →
    (cable s.dev n.val).powerRole = .sink → negotiating (cable s.dev n.val) = false → (cable s.dev n.val).guard ≠ .wet →
    sinkPick s.dev n.val = some g →
    Answers (.sinkRequestTimer n) s fun t => (cable t n.val).nego = some g ∧ (cable t n.val).awaiting = .requestAnswer ∧
      ((cable s.dev n.val).lastSent = none → g.epr = false → Says n (.request (rdoOf s.dev n.val g)) t) ∧
      (cable t n.val).contract = (cable s.dev n.val).contract ∧ (cable t n.val).booked = (cable s.dev n.val).booked ∧
      OnlyPort n.val t s.dev ∧ SameSwitch t s.dev) ∧
  (∀ (s : State) (n : CPort), armed (.sinkKeep n.val) s.dev = true → (cable s.dev n.val).powerRole = .sink →
    explicit (cable s.dev n.val) = true → (cable s.dev n.val).pdoKind ≠ .fixed → negotiating (cable s.dev n.val) = false →
    (cable s.dev n.val).guard ≠ .wet →
    Answers (.sinkPpsKeepalive n) s fun t => runsFor (.sinkKeep n.val) (8 * sec) t ∧
      (cable t n.val).nego = some (sameChoice (cable s.dev n.val) (cable s.dev n.val).ma) ∧
      (cable t n.val).booked = (cable s.dev n.val).booked ∧ OnlyPort n.val t s.dev ∧ SameSwitch t s.dev) ∧
  (∀ (s : State) (n : CPort) (id : BitVec 3) (pdos : List Word), Hears s.dev n.val id →
    (cable s.dev n.val).awaiting = .sinkCaps →
    Answers (.sinkCapabilities n id pdos) s fun t => (cable t n.val).awaiting = .nothing ∧
      (cable t n.val).frsPartner = (pdos.headD 0).toNat / 2 ^ 23 % 4 ∧ (cable t n.val).booked = (cable s.dev n.val).booked ∧
      OnlyPort n.val t s.dev ∧ SameSwitch t s.dev ∧ SameAon t s.dev) ∧
  (∀ (s : State) (n : CPort), portRuns s.dev n.val = true →
    let hard (t : Dev) : Prop := Emission.pdHardReset n ∈ t.out ∧ (cable t n.val).contract = .none ∧
      (cable t n.val).hardResetCount = inc16 (cable s.dev n.val).hardResetCount ∧ OnlyPort n.val t s.dev
    (armed (.psTrans n.val) s.dev = true → (cable s.dev n.val).nego.isSome = true →
      Answers (.psTransitionTimeout n) s hard) ∧
    (armed (.sender n.val) s.dev = true →
      ((cable s.dev n.val).awaiting = .sinkCaps →
        Answers (.senderResponseTimeout n) s fun t => (cable t n.val).awaiting = .nothing ∧
          (cable t n.val).contract = (cable s.dev n.val).contract ∧ (cable t n.val).booked = (cable s.dev n.val).booked ∧
          OnlyPort n.val t s.dev) ∧
      ((cable s.dev n.val).awaiting = .requestAnswer → (cable s.dev n.val).hardResets < 2 →
        Answers (.senderResponseTimeout n) s hard) ∧
      ((cable s.dev n.val).awaiting = .eprAck → Answers (.eprKeepaliveAckTimeout n) s hard))) ∧
  (∀ (s : State) (n : CPort), eprMayEnter s.dev n.val = true → (cable s.dev n.val).lastSent = none →
    Answers (.eprModeEnter n) s fun t => (cable t n.val).epr = .entering ∧ (cable t n.val).awaiting = .eprAnswer ∧
      Says n (.eprMode true (min (cfg s.dev (contractObj n.val) 12 * cfg s.dev (contractObj n.val) 13 / 1000000) 240)) t ∧
      (cable t n.val).booked = (cable s.dev n.val).booked ∧ OnlyPort n.val t s.dev ∧ SameSwitch t s.dev ∧
      SameAon t s.dev) ∧
  (∀ (s : State) (n : CPort) (id : BitVec 3), Hears s.dev n.val id →
    let stands (t : Dev) : Prop := (cable t n.val).booked = (cable s.dev n.val).booked ∧
      (cable t n.val).contract = (cable s.dev n.val).contract ∧ OnlyPort n.val t s.dev ∧ SameSwitch t s.dev ∧ SameAon t s.dev
    ((cable s.dev n.val).epr = .entering →
      (Answers (.eprMode n id .enterSucceeded) s fun t => (cable t n.val).epr = .inEpr ∧
        runsFor (.eprKeep n.val) (375 * ms) t ∧ stands t) ∧
      (Answers (.eprMode n id .enterFailed) s fun t => (cable t n.val).epr = .refused ∧
        (cable t n.val).awaiting = .nothing ∧ stands t)) ∧
    ((cable s.dev n.val).epr = .inEpr →
      Answers (.eprMode n id .exit) s fun t => (cable t n.val).epr = .off ∧ (cable t n.val).awaiting = .sourceCaps ∧
        armed (.eprKeep n.val) t = false ∧ stands t)) ∧
  (∀ (s : State) (n : CPort), armed (.eprKeep n.val) s.dev = true → (cable s.dev n.val).epr = .inEpr →
    negotiating (cable s.dev n.val) = false →
    Answers (.eprKeepalive n) s fun t => runsFor (.eprKeep n.val) (375 * ms) t ∧ (cable t n.val).awaiting = .eprAck ∧
      (portRuns s.dev n.val = true → (cable s.dev n.val).lastSent = none → Says n .eprKeepAlive t) ∧
      (cable t n.val).booked = (cable s.dev n.val).booked ∧ OnlyPort n.val t s.dev ∧ SameSwitch t s.dev)

/-- Swaps, Fast Role Swap and resets (R247-R250, R266, R267, R270, Table 7-3). A swap that the policy allows is accepted and one
that it does not rejected, contract and booking standing; the FRS signal makes the port a source at once; Soft_Reset keeps VBUS and
booking; Hard Reset ends the contract, fences a source and discharges its VBUS, and vSafe5V comes back after a check of the guard.
(Log entry 2: an expiry's command reaches its timer's instant first.) -/
def Obligations.SwapsAndResets : Prop :=
  (∀ (s : State) (n : CPort) (id : BitVec 3), Hears s.dev n.val id →
    ((cable s.dev n.val).powerRole = .source →
      Answers (.prSwap n id) s fun t => Replies n
        (if isDual n.val && swapAllowed s.dev n.val 0 && roleNow s.dev n.val != 3 then .accept else .reject) t s.dev) ∧
    ((cable s.dev n.val).powerRole = .sink → isDual n.val = true → swapAllowed s.dev n.val 1 = true →
      roleNow s.dev n.val ≠ 2 → (cable s.dev n.val).guard ≠ .wet →
      Answers (.prSwap n id) s fun t => Replies n
        (if ledgerFree s.dev < ((5 * rpMa (cfg s.dev (cableObj n.val) 3) : Nat) : Int) then .wait else .accept) t s.dev) ∧
    ((cable s.dev n.val).powerRole = .sink →
      (isDual n.val = false ∨ swapAllowed s.dev n.val 1 = false ∨ roleNow s.dev n.val = 2 ∨
        (cable s.dev n.val).guard = .wet) →
      Answers (.prSwap n id) s fun t => Replies n .reject t s.dev) ∧
    (Answers (.drSwap n id) s fun t => Replies n
      (if isDual n.val && swapAllowed s.dev n.val 2 && !(cable s.dev n.val).podOpen then .accept else .reject) t s.dev) ∧
    ((cable s.dev n.val).vconnSource = true →
      Answers (.vconnSwap n id) s fun t => Replies n (if swapAllowed s.dev n.val 3 then .accept else .reject) t s.dev) ∧
    ((cable s.dev n.val).vconnSource = false →
      Answers (.vconnSwap n id) s fun t => Replies n
        (if swapAllowed s.dev n.val 3 && !isHalted s.dev && wantsVconn s.dev (cable s.dev n.val) &&
            decide (1000 ≤ ledgerFree s.dev) then .accept else .reject) t s.dev)) ∧
  (∀ (s : State) (n : CPort), pdListens s.dev n.val = true → (cable s.dev n.val).frs = .armed →
    Answers (.frSwapSignal n) s fun t =>
      (cable t n.val).powerRole = .source ∧ (cable t n.val).frs = .swapped ∧ (cable t n.val).mv = 5000 ∧
      (cable t n.val).booked = 5 * frsMa (cable s.dev n.val).frsPartner ∧ (cable t n.val).gateOn = !s.dev.shep.critical ∧
      (cable t n.val).vctl = vctlOf 5000 ∧ (cable t n.val).awaiting = .swapAnswer ∧ Says n .frSwap t ∧ t.shep.stepDue = true ∧
      OnlyPort n.val t s.dev ∧ SameSwitch t s.dev ∧ SameAon t s.dev) ∧
  (∀ (s : State) (n : CPort), pdListens s.dev n.val = true →
    Answers (.softReset n) s fun t => Says n .accept t ∧
      (cable t n.val).softResetCount = inc16 (cable s.dev n.val).softResetCount ∧ (cable t n.val).txId = 0 ∧
      (cable t n.val).nego = none ∧ (cable t n.val).gateOn = (cable s.dev n.val).gateOn ∧
      (cable t n.val).booked = (cable s.dev n.val).booked ∧ (cable t n.val).contract = (cable s.dev n.val).contract ∧
      (swPort t n.val).fenced = (swPort s.dev n.val).fenced ∧ OnlyPort n.val t s.dev ∧
      SameAon t s.dev) ∧
  (∀ (s : State) (n : CPort) (received : Bool), portRuns s.dev n.val = true → isShed (cable s.dev n.val) = false →
    ((cable s.dev n.val).typec = .attachedSrc ∨ (cable s.dev n.val).typec = .attachedSnk) →
    Answers (.hardReset n received) s fun t =>
      (cable t n.val).contract = .none ∧ (cable t n.val).txId = 0 ∧
      (cable t n.val).hardResetCount = inc16 (cable s.dev n.val).hardResetCount ∧ (cable t n.val).podOpen = false ∧
      runsFor (.noResponse n.val) (5 * sec) t ∧ (received = false → Emission.pdHardReset n ∈ t.out) ∧
      ((cable s.dev n.val).powerRole = .sink → (cable t n.val).booked = 0 ∧
        (cable t n.val).gateOn = (cable s.dev n.val).gateOn) ∧
      ((cable s.dev n.val).powerRole ≠ .sink → (swPort t n.val).fenced = true ∧
        (cable t n.val).booked = min (cable s.dev n.val).booked (cfg s.dev 0x2300 3)) ∧
      ((cable s.dev n.val).powerRole = .source → (cable s.dev n.val).gateOn = true → (cable s.dev n.val).path = .on →
        (cable t n.val).gateOn = false ∧ (cable t n.val).path = .discharging ∧ runsFor (.discharge n.val) (650 * ms) t) ∧
      OnlyPort n.val t s.dev ∧ SameAon t s.dev) ∧
  (∀ (s : State) (n : CPort), armed (.hardDone n.val) s.dev = true →
    Answers (.hardResetCompleteTimeout n) s fun t => Became t (expired (.hardDone n.val) s.dev)) ∧
  (∀ (s : State) (n : CPort), armed (.tsrcRecover n.val) s.dev = true → (cable s.dev n.val).typec = .attachedSrc →
    (cable s.dev n.val).powerRole = .source → (cable s.dev n.val).path ≠ .latched → isShed (cable s.dev n.val) = false →
    (cable s.dev n.val).guard ≠ .wet →
    ((cable s.dev n.val).guardFresh = true → armed (.shortRetry n.val) s.dev = false → armed (.inrushRetry n.val) s.dev = false →
      s.dev.shep.critical = false → (cable s.dev n.val).booked ≠ 0 →
      Answers (.tsrcRecover n) s fun t => (cable t n.val).gateOn = true ∧
        (cable t n.val).booked = (cable s.dev n.val).booked ∧ (cable t n.val).vctl = vctlOf 5000 ∧
        (cable t n.val).path = (if s.dev.shep.droop then .frozen else .inrush) ∧ OnlyPort n.val t s.dev ∧
        SameSwitch t s.dev) ∧
    ((cable s.dev n.val).guardFresh = false →
      Answers (.tsrcRecover n) s fun t => cable t n.val = { cable s.dev n.val with path := .off, vbusWait := true } ∧
        OnlyPort n.val t s.dev ∧ SameSwitch t s.dev ∧ t.shep = s.dev.shep))

/-- The questions that a port answers (R239, R251, R257-R259, Table 7-1; log entry 17 on layouts): each new message gets its
GoodCRC and its answer, and the contract stands; a repeated MessageID gets its GoodCRC and nothing more; a Security_Response goes
out in chunks of 26 octets, each at its request. -/
def Obligations.PdAnswers : Prop :=
  (∀ (s : State) (n : CPort) (id : BitVec 3) (c : Instr), pdListens s.dev n.val = true →
    (cable s.dev n.val).rxId = some id →
    (c ∈ ([.getSourceCap n id, .getSinkCap n id, .getStatus n id, .getPpsStatus n id, .getSourceCapExtended n id,
      .getSinkCapExtended n id, .getBatteryStatus n id, .prSwap n id, .drSwap n id, .accept n id, .psRdy n id, .wait n id,
      .reject n id, .vconnSwap n id, .bist n id .testData] : List Instr) ∨
     ∃ a : VdmAnswer, c = .enterMode n ⟨id, a⟩ ∨ c = .identityRead n ⟨id, a⟩ ∨ c = .linkRate n ⟨id, a⟩ ∨ c = .epochSubscribe n ⟨id, a⟩) →
    Answers c s fun t => Became t { hush s.dev with out := [.pd n (.goodCrc id)] }) ∧
  (∀ (s : State) (n : CPort) (id : BitVec 3), Hears s.dev n.val id →
    ((cable s.dev n.val).powerRole = .source → (cable s.dev n.val).offer ≠ [] →
      Answers (.getSourceCap n id) s fun t => Replies n (.sourceCaps (cable s.dev n.val).offer) t s.dev) ∧
    ((cable s.dev n.val).powerRole ≠ .source → isDual n.val = false ∨ roleNow s.dev n.val = 2 →
      Answers (.getSourceCap n id) s fun t => Replies n .notSupported t s.dev) ∧
    (Answers (.getSinkCap n id) s fun t => Replies n
      (if isDual n.val then .sinkCaps (sinkPdos s.dev n.val) else .notSupported) t s.dev) ∧
    ((cable s.dev n.val).nego = none →
      Answers (.getStatus n id) s fun t =>
        Replies n (.status (statusOctets s.dev n.val) (cable s.dev n.val).mismatch) t s.dev ∧
        (cable t n.val).ocpEvent = false ∧ (cable t n.val).otpEvent = false) ∧
    (Answers (.getPpsStatus n id) s fun t => Replies n
      (.ppsStatus (leBytes 2 ((cable s.dev n.val).vbus / 20) ++
        [BitVec.ofNat 8 (min 255 ((cable s.dev n.val).ibus.toNat / 50)), 0])) t s.dev) ∧
    (Answers (.getBatteryStatus n id) s fun t => Replies n (.batteryStatus (BitVec.ofNat 32
      (cfg s.dev 0x3200 1 * 65536 + cfg s.dev 0x3200 2 * 1024 + cfg s.dev 0x3200 0 * 512))) t s.dev) ∧
    (Answers (.getSourceCapExtended n id) s fun t => Replies n .sourceCapsExt t s.dev) ∧
    (Answers (.getSinkCapExtended n id) s fun t =>
      Replies n (if isDual n.val then .sinkCapsExt else .notSupported) t s.dev) ∧
    (∀ m : OtherMsg, m = .unlisted ∨ m = .eprGetSourceCap ∨ (m = .bistCarrier ∧ isDual n.val = true) →
      Answers (.unsupportedMessage n id m) s fun t => Replies n .notSupported t s.dev) ∧
    (∀ m : OtherMsg, m = .alert ∨ (m = .bistCarrier ∧ isDual n.val = false) →
      Answers (.unsupportedMessage n id m) s fun t => t.out = [.pd n (.goodCrc id)] ∧
        cable t n.val = { cable s.dev n.val with rxId := some id } ∧ OnlyPort n.val t s.dev) ∧
    ((cable s.dev n.val).awaiting = .eprAck →
      Answers (.unsupportedMessage n id .eprKeepAliveAck) s fun t => armed (.sender n.val) t = false ∧
        cable t n.val = { cable s.dev n.val with rxId := some id, awaiting := .nothing } ∧ OnlyPort n.val t s.dev) ∧
    ((cable s.dev n.val).awaiting = .sinkCaps →
      Answers (.unsupportedMessage n id .notSupported) s fun t => armed (.sender n.val) t = false ∧
        cable t n.val = { cable s.dev n.val with rxId := some id, awaiting := .nothing } ∧ OnlyPort n.val t s.dev) ∧
    (armed (.chunk n.val) s.dev = true → (cable s.dev n.val).chunks.left ≠ [] →
      Answers (.unsupportedMessage n id .chunkRequest) s fun t => Replies n (.security (cable s.dev n.val).chunks.next
          (26 * (cable s.dev n.val).chunks.next + (cable s.dev n.val).chunks.left.length)
          ((cable s.dev n.val).chunks.left.take 26)) t s.dev ∧ armed (.chunk n.val) t = false ∧
        (cable t n.val).chunks = { left := (cable s.dev n.val).chunks.left.drop 26, next := (cable s.dev n.val).chunks.next + 1 }) ∧
    (Answers (.unsupportedMessage n id .firstChunk) s fun t => Replies n (.chunkRequest 1) t s.dev ∧
      runsFor (.chunkResp n.val) (27 * ms) t) ∧
    (Answers (.bist n id .testData) s fun t => (cable t n.val).bist = some .testData ∧
      (cable t n.val).contract = (cable s.dev n.val).contract ∧ OnlyPort n.val t s.dev ∧ SameSwitch t s.dev) ∧
    (isDual n.val = true → Answers (.bist n id .carrier) s fun t => Emission.pd n (.bist true) ∈ t.out ∧
      cable t n.val = { cable s.dev n.val with rxId := some id } ∧ OnlyPort n.val t s.dev ∧ SameSwitch t s.dev) ∧
    (cfgOn s.dev 0x3200 3 = false → ∀ a : AuthReq,
      Answers (.securityRequest n id a) s fun t => Replies n .notSupported t s.dev) ∧
    (cfgOn s.dev 0x3200 3 = true → (cable s.dev n.val).authBusy = true → ∀ a : AuthReq,
      Answers (.securityRequest n id a) s fun t => Replies n (.security 0 4 (authHeader 0x7F 3 0)) t s.dev ∧
        t.shep.authErrors = satInc s.dev.shep.authErrors) ∧
    (cfgOn s.dev 0x3200 3 = true → (cable s.dev n.val).authBusy = false →
      let digests := ([0, 1].filter fun k => populated s.dev k).flatMap fun k => sha256 (chainOf s.dev k)
      let octets := authHeader 0x01 1 (authSlots s.dev) ++ digests
      (Answers (.securityRequest n id .getDigests) s fun t =>
        Replies n (.security 0 octets.length (octets.take 26)) t s.dev ∧ (cable t n.val).authBusy = true ∧
        (cable t n.val).chunks = { left := octets.drop 26, next := 1 }) ∧
      (∀ (slot : Nat) (nonce : BitVec 256), populated s.dev slot = true →
        Answers (.securityRequest n id (.challenge slot nonce)) s fun t => (cable t n.val).authBusy = true ∧
          (cable t n.val).authSlot = slot ∧ (cable t n.val).authNonce = nonce ∧ runsFor (.auth n.val) (100 * ms) t ∧
          OnlyPort n.val t s.dev ∧ SameSwitch t s.dev) ∧
      (Answers (.securityRequest n id .other) s fun t => Replies n (.security 0 4 (authHeader 0x7F 1 0)) t s.dev ∧
        t.shep.authErrors = satInc s.dev.shep.authErrors))) ∧
  (∀ (s : State) (n : CPort), armed (.chunk n.val) s.dev = true →
    Answers (.chunkSenderTimeout n) s fun t =>
      cable t n.val = { cable s.dev n.val with authBusy := false, chunks := Chunks.none } ∧ armed (.chunk n.val) t = false ∧
      OnlyPort n.val t s.dev ∧ SameSwitch t s.dev) ∧
  (∀ (s : State) (n : CPort) (key : List Byte), pdListens s.dev n.val = true → armed (.auth n.val) s.dev = true →
    (cable s.dev n.val).lastSent = none → keyOctets s.dev (6 + (cable s.dev n.val).authSlot) = some key →
    Answers (.challengeAuthDone n) s fun t => (cable t n.val).authBusy = true ∧ armed (.auth n.val) t = false ∧
      t.shep.authCount = satInc s.dev.shep.authCount ∧
      (∃ (salt : List Byte) (k : Nat),
        let body := challengeBody s.dev (cable s.dev n.val).authSlot salt
        let octets := body ++ ecdsaSign (beNat key) k
          (authHeader 0x83 (cable s.dev n.val).authSlot 0 ++ beBytes 32 (cable s.dev n.val).authNonce.toNat ++ body)
        Says n (.security 0 octets.length (octets.take 26)) t ∧
        (cable t n.val).chunks = { left := octets.drop 26, next := 1 }) ∧
      OnlyPort n.val t s.dev ∧ SameSwitch t s.dev ∧ SameAon t s.dev)

/-! ### Power path and ledger -/

/-- The fault ladder (R276-R278, R298-R302, Table 8-3): a detector of a port whose gates are on turns them off at once, counts, and
puts the port in its fault's state, or LATCHED when its retries or its faults within 60 s are used up; a step follows; a short is
retried 1 s later under admission. -/
def Obligations.FaultLadder : Prop :=
  (∀ (s : State) (n : CPort), detects s.dev n.val = true →
    (Answers (.shortDetect n) s fun t =>
      let latch := (cable s.dev n.val).powerRole == .source && (cable s.dev n.val).retriesLeft == 0
      (cable t n.val).gateOn = false ∧ (cable t n.val).shortCount = inc16 (cable s.dev n.val).shortCount ∧
      (cable t n.val).path = (if latch then .latched else .faultShort) ∧ (cable t n.val).ladder.due = true ∧
      t.shep.stepDue = true ∧ (cable t n.val).discharge = (cable s.dev n.val).discharge ∧
      ((cable s.dev n.val).powerRole = .source → latch = false → runsFor (.shortRetry n.val) sec t) ∧
      ((cable s.dev n.val).powerRole = .source → (cable t n.val).booked = (cable s.dev n.val).booked) ∧
      ((cable s.dev n.val).powerRole = .sink → (cable t n.val).booked = 0) ∧
      OnlyPort n.val t s.dev ∧ SameSwitch t s.dev ∧ SameAon t s.dev) ∧
    ((cable s.dev n.val).powerRole = .source → (cable s.dev n.val).path ≠ .frozen →
      (cable s.dev n.val).windowEnd ≤ s.dev.now →
      Answers (.overcurrent n) s fun t =>
        (cable t n.val).gateOn = false ∧ (cable t n.val).ocCount = inc16 (cable s.dev n.val).ocCount ∧
        (cable t n.val).path =
          (if 3 ≤ (slide (cable s.dev n.val).ocTimes s.dev.now).length then .latched else .faultOc) ∧
        t.shep.stepDue = true ∧ OnlyPort n.val t s.dev ∧
        SameSwitch t s.dev ∧ SameAon t s.dev) ∧
    (s.dev.now < (cable s.dev n.val).windowEnd → Answers (.overcurrent n) s fun t => Became t (hush s.dev)) ∧
    (Answers (.overVoltage n) s fun t =>
      (cable t n.val).gateOn = false ∧ (cable t n.val).ovCount = inc16 (cable s.dev n.val).ovCount ∧
      (cable t n.val).path = (if 2 ≤ (slide (cable s.dev n.val).ovTimes s.dev.now).length then .latched else .faultOv) ∧
      t.shep.stepDue = true ∧ OnlyPort n.val t s.dev ∧
      SameSwitch t s.dev ∧ SameAon t s.dev) ∧
    ((cable s.dev n.val).powerRole ≠ .sink →
      Answers (.reverseCurrent n) s fun t =>
        (cable t n.val).gateOn = false ∧ (cable t n.val).reverseCount = inc16 (cable s.dev n.val).reverseCount ∧
        (cable t n.val).path =
          (if 2 ≤ (slide (cable s.dev n.val).revTimes s.dev.now).length then .latched else .faultReverse) ∧
        t.shep.stepDue = true ∧ OnlyPort n.val t s.dev) ∧
    ((cable s.dev n.val).powerRole = .sink → portRuns s.dev n.val = true →
      Answers (.reverseCurrent n) s fun t =>
        (cable t n.val).gateOn = false ∧ (cable t n.val).reverseCount = inc16 (cable s.dev n.val).reverseCount ∧
        (cable t n.val).typec = .errorRecovery ∧ (cable t n.val).booked = 0 ∧ t.shep.stepDue = true ∧
        OthersStand n.val t s.dev ∧ BesidePort t s.dev)) ∧
  (∀ (s : State) (n : CPort), (cable s.dev n.val).gateOn = false → portRuns s.dev n.val = true →
    Answers (.shortDetect n) s fun t =>
      (cable t n.val).path = .latched ∧ (cable t n.val).shortCount = inc16 (cable s.dev n.val).shortCount ∧
      t.shep.stepDue = true ∧ OnlyPort n.val t s.dev ∧ SameSwitch t s.dev ∧ SameAon t s.dev) ∧
  (∀ (s : State) (n : CPort), armed (.shortRetry n.val) s.dev = true → (cable s.dev n.val).path = .faultShort →
    ((cable s.dev n.val).typec = .attachedSrc → (cable s.dev n.val).guard ≠ .wet →
      ((cable s.dev n.val).guardFresh = true → armed (.inrushRetry n.val) s.dev = false → s.dev.shep.critical = false →
        (cable s.dev n.val).booked = 0 → (firstNeed s.dev (cable s.dev n.val) : Int) ≤ ledgerFree s.dev →
        Answers (.shortRetry n) s fun t =>
          (cable t n.val).gateOn = true ∧ (cable t n.val).booked = cfg s.dev 0x2300 3 ∧
          (cable t n.val).retriesLeft = (cable s.dev n.val).retriesLeft - 1 ∧ OnlyPort n.val t s.dev ∧ SameSwitch t s.dev) ∧
      ((cable s.dev n.val).guardFresh = false →
        Answers (.shortRetry n) s fun t => cable t n.val = { cable s.dev n.val with vbusWait := true } ∧
          OnlyPort n.val t s.dev ∧ SameSwitch t s.dev)) ∧
    ((cable s.dev n.val).typec ≠ .attachedSrc →
      Answers (.shortRetry n) s fun t => cable t n.val = { cable s.dev n.val with path := .off, retriesLeft := 3 } ∧
        OnlyPort n.val t s.dev ∧ SameSwitch t s.dev))

/-- Inrush, droop and discharge (R278-R282): a completed ramp starts the PD engine; one that fails turns the gates off, returns the
booking and is tried again 250 ms later; a droop freezes every ramp, its end resumes them with their windows extended, and one of
5 ms aborts them; a discharge ends in OFF, or is counted as failed. -/
def Obligations.InrushAndDroop : Prop :=
  (∀ (s : State) (n : CPort), (cable s.dev n.val).path = .inrush → (cable s.dev n.val).contract ≠ .typecOnly →
    (cable s.dev n.val).pdFail = false → (cable s.dev n.val).swapping ≠ 2 →
    Answers (.inrushDone n) s fun t =>
      (cable t n.val).path = .on ∧ (cable t n.val).retriesLeft = 3 ∧ (cable t n.val).contract = .implicit ∧
      (cable t n.val).mv = 5000 ∧ (cable t n.val).booked = (cable s.dev n.val).booked ∧ armed (.window n.val) t = false ∧
      (let offer := buildOffer s.dev n.val (offerPower s.dev n.val).toNat;
       portRuns s.dev n.val = true → 500 ≤ offerPower s.dev n.val → cablePending (cable s.dev n.val) = false →
        asksCable (cable s.dev n.val) offer = false → (cable s.dev n.val).lastSent = none → Says n (.sourceCaps offer) t) ∧
      OnlyPort n.val t s.dev ∧ SameSwitch t s.dev ∧ SameAon t s.dev) ∧
  (∀ (s : State) (n : CPort), (cable s.dev n.val).path = .inrush → armed (.window n.val) s.dev = true →
    Answers (.inrushFail n) s fun t =>
      (cable t n.val).gateOn = false ∧ (cable t n.val).booked = 0 ∧ (swPort t n.val).fenced = true ∧
      (cable t n.val).inrushFailCount = inc16 (cable s.dev n.val).inrushFailCount ∧ t.od.alarmLatched.getLsbD 10 = true ∧
      runsFor (.inrushRetry n.val) (250 * ms) t ∧ (∀ m : Nat, m ≠ n.val → cable t m = cable s.dev m) ∧ BesidePort t s.dev) ∧
  (∀ (s : State) (n : CPort), armed (.inrushRetry n.val) s.dev = true → (cable s.dev n.val).typec = .attachedSrc →
    (cable s.dev n.val).powerRole = .source → (cable s.dev n.val).guard ≠ .wet → (cable s.dev n.val).guardFresh = true →
    (cable s.dev n.val).path ≠ .latched → armed (.shortRetry n.val) s.dev = false → s.dev.shep.critical = false →
    (cable s.dev n.val).booked = 0 → (firstNeed s.dev (cable s.dev n.val) : Int) ≤ ledgerFree s.dev →
    Answers (.inrushRetry n) s fun t =>
      (cable t n.val).gateOn = true ∧ (cable t n.val).booked = cfg s.dev 0x2300 3 ∧
      (∀ m : Nat, m ≠ n.val → cable t m = cable s.dev m) ∧ BesidePort t s.dev ∧ SameSwitch t s.dev) ∧
  (∀ s : State, s.dev.boot.stage = .ready → s.dev.shep.droop = false →
    Answers .droopStart s fun t =>
      t.shep = { s.dev.shep with droop := true, droopCount := satInc s.dev.shep.droopCount } ∧
      runsFor .droopMax (5 * ms) t ∧
      (∀ n : Nat, n < 8 → (cable s.dev n).path = .inrush →
        cable t n = { cable s.dev n with path := .frozen, frozenAt := s.dev.now } ∧ armed (.window n) t = false) ∧
      (∀ n : Nat, (cable s.dev n).path ≠ .inrush → cable t n = cable s.dev n) ∧ BesidePort t s.dev ∧ SameSwitch t s.dev ∧
      SameAon t s.dev) ∧
  (∀ s : State, s.dev.shep.droop = true →
    Answers .droopEnd s fun t =>
      t.shep.droop = false ∧ armed .droopMax t = false ∧
      (∀ n : Nat, n < 8 → (cable s.dev n).path = .frozen →
        let ends := (cable s.dev n).windowEnd + (s.dev.now - (cable s.dev n).frozenAt)
        cable t n = { cable s.dev n with path := .inrush, windowEnd := ends } ∧ (Timer.window n, ends) ∈ t.timers ∧
        (s.dev.now - (cable s.dev n).frozenAt) / us ≤ t.shep.freezeMax) ∧
      (∀ n : Nat, (cable s.dev n).path ≠ .frozen → cable t n = cable s.dev n) ∧ BesidePort t s.dev ∧ SameSwitch t s.dev ∧
      SameAon t s.dev) ∧
  (∀ s : State, armed .droopMax s.dev = true →
    Answers .droopLimit s fun t =>
      (∀ n : Nat, n < 8 → (cable s.dev n).path = .frozen →
        (cable t n).gateOn = false ∧ (cable t n).booked = 0 ∧ (swPort t n).fenced = true ∧
        (cable t n).inrushFailCount = inc16 (cable s.dev n).inrushFailCount ∧ runsFor (.inrushRetry n) (250 * ms) t) ∧
      (∀ n : Nat, (cable s.dev n).path ≠ .frozen → cable t n = cable s.dev n) ∧ BesidePort t s.dev) ∧
  (∀ (s : State) (n : CPort), (cable s.dev n.val).path = .discharging → (cable s.dev n.val).swapping ≠ 1 →
    ((cable s.dev n.val).discharge = true →
      Answers (.dischargeDone n) s fun t =>
        cable t n.val = { cable s.dev n.val with path := .off, discharge := false } ∧ armed (.discharge n.val) t = false ∧
        ((cable s.dev n.val).typec = .attachedSrc → (cable s.dev n.val).powerRole = .source →
          armed (.inrushRetry n.val) s.dev = false → runsFor (.tsrcRecover n.val) (800 * ms) t) ∧
        (∀ m : Nat, m ≠ n.val → cable t m = cable s.dev m) ∧ BesidePort t s.dev ∧ SameSwitch t s.dev ∧ SameAon t s.dev) ∧
    (armed (.discharge n.val) s.dev = true →
      Answers (.dischargeTimeout n) s fun t =>
        (cable t n.val).discharge = false ∧ (cable t n.val).dischargeFail = inc16 (cable s.dev n.val).dischargeFail ∧
        (cable t n.val).path = .off ∧ (∀ m : Nat, m ≠ n.val → cable t m = cable s.dev m) ∧ BesidePort t s.dev))

/-- A shepherd step leaves FREE at or above zero, or no sourcing port that is not shed (R288, R289, R291); no step is
due after it, LEDGER_DEFICIT says whether FREE is below zero with none left to shed, and the host is told when that begins. -/
def Obligations.ShepherdCoversTheLedger : Prop :=
  ∀ (s : State) (took : Nat), s.dev.shep.stepDue = true → planesRun s.dev = true →
    Answers (.shepherdStep took) s fun t =>
      t.shep.stepDue = false ∧ t.shep.overrun = false ∧ armed .overrun t = false ∧
      t.shep.deficit = deficitNow t ∧
      (deficitNow t = true → s.dev.shep.deficit = false → Emission.notice .ledgerDeficit ∈ t.out) ∧
      (0 ≤ ledgerFree t ∨ ∀ n : Nat, n < 8 → sourcing (cable t n) = true → isShed (cable t n) = true) ∧
      (∀ n : Nat, n < 8 → isShed (cable s.dev n) = true → isShed (cable t n) = true) ∧ BesidePort t s.dev

/-- Restoring and the overrun cut (R26, R292, R293, R303). A restore check runs every 100 ms, starts and restarts the hold with the
set it selects, and after the hold books each port of the set and ramps it once its check of the guard is done; while FREE is
negative it starts a step instead; a step that is late cuts the powered sourcing ports of
the highest rank number, and again each 2 ms. -/
def Obligations.RestoreAndOverrun : Prop :=
  (∀ s : State, armed .restore s.dev = true → planesRun s.dev = true → s.dev.shep.stepDue = false →
    s.dev.shep.critical = false →
    let set_ := restoreTake s.dev (restoreOrder s.dev) (ledgerFree s.dev)
    (set_ ≠ [] → (s.dev.shep.restoreSince = none ∨ set_ ≠ s.dev.shep.restoreSet) →
      Answers .restoreCheck s fun t => t.shep = { s.dev.shep with restoreSet := set_, restoreSince := some t.now } ∧
        runsFor .restore (100 * ms) t ∧ t.cables = s.dev.cables ∧ BesidePort t s.dev ∧ SameSwitch t s.dev) ∧
    (∀ since : Nat, set_ ≠ [] → s.dev.shep.restoreSince = some since → set_ = s.dev.shep.restoreSet →
      s.dev.now + timeLeft .restore s.dev < since + cfg s.dev 0x4200 7 * sec →
      Answers .restoreCheck s fun t => t.shep = s.dev.shep ∧ t.cables = s.dev.cables ∧ BesidePort t s.dev ∧
        SameSwitch t s.dev) ∧
    (∀ since : Nat, set_ ≠ [] → s.dev.shep.restoreSince = some since → set_ = s.dev.shep.restoreSet →
      since + cfg s.dev 0x4200 7 * sec ≤ s.dev.now + timeLeft .restore s.dev →
      Answers .restoreCheck s fun t =>
        (∀ n : Nat, n ∈ set_ → (cable t n).booked = cfg s.dev 0x2300 3 ∧ (cable t n).contract = .none ∧
          (cable t n).pod = .none ∧ (cable t n).restored = true ∧ t.hw.irqPort.getLsbD (24 + n) = true ∧
          ((cable s.dev n).guardFresh = true → armed (.shortRetry n) s.dev = false → armed (.inrushRetry n) s.dev = false →
            cfg s.dev 0x2300 3 ≠ 0 → (cable t n).gateOn = true) ∧
          ((cable s.dev n).guardFresh = false → (cable t n).gateOn = (cable s.dev n).gateOn ∧ (cable t n).vbusWait = true)) ∧
        (∀ n : Nat, n ∉ set_ → cable t n = cable s.dev n) ∧ t.shep.restoreSet = [] ∧ runsFor .restore (100 * ms) t ∧
        BesidePort t s.dev ∧ SameSwitch t s.dev) ∧
    (ledgerFree s.dev < 0 →
      Answers .restoreCheck s fun t => t.shep = { s.dev.shep with stepDue := true, shedEventAt := t.now } ∧
        runsFor .overrun (2 * ms) t ∧ runsFor .restore (100 * ms) t ∧ t.cables = s.dev.cables ∧ BesidePort t s.dev ∧
        SameSwitch t s.dev) ∧
    (set_ = [] → 0 ≤ ledgerFree s.dev → (∀ n : Nat, n < 8 → (cable s.dev n).firstRefused = false) →
      Answers .restoreCheck s fun t => t.shep = { s.dev.shep with restoreSet := [], restoreSince := none } ∧
        t.cables = s.dev.cables ∧ runsFor .restore (100 * ms) t ∧ BesidePort t s.dev ∧ SameSwitch t s.dev)) ∧
  (∀ (s : State) (c : Instr), (c = .shedOverrunCut ∧ s.dev.shep.overrun = false ∨
      c = .overrunCutRepeat ∧ s.dev.shep.overrun = true) →
    s.dev.shep.stepDue = true → armed .overrun s.dev = true →
    Answers c s fun t =>
      (∀ n ∈ lowestPriority s.dev, (cable t n).gateOn = false ∧ (cable t n).shedCause = .overrun ∧
        (cable t n).booked = (cable s.dev n).booked) ∧
      (∀ n : Nat, n ∉ lowestPriority s.dev → cable t n = cable s.dev n) ∧ t.shep.overrun = true ∧ t.shep.stepDue = true ∧
      runsFor .overrun (2 * ms) t ∧
      t.od.alarmLatched.getLsbD 2 = true ∧ t.od.alarmEvents.getLsbD 2 = true ∧
      (c = .shedOverrunCut → t.od.watchOverrun = satInc s.dev.od.watchOverrun) ∧
      BesidePort t s.dev ∧ SameSwitch t s.dev) ∧
  (∀ (s : State) (ok : Bool),
    (Answers (.bankSupplyChange .h ok) s fun t => Became t { hush s.dev with aon := { s.dev.aon with bankH := ok } }) ∧
    (Answers (.bankSupplyChange .f ok) s fun t => Became t { hush s.dev with aon := { s.dev.aon with bankF := ok } }) ∧
    (Answers (.bankSupplyChange .s ok) s fun t => Became t { hush s.dev with aon := { s.dev.aon with bankS := ok } }) ∧
    (Answers (.bankSupplyChange .n ok) s fun t => Became t { hush s.dev with aon := { s.dev.aon with bankN := ok } }) ∧
    (Answers (.bankSupplyChange .vconn true) s fun t => Became t { hush s.dev with aon := { s.dev.aon with vconnOk := true } }) ∧
    (Answers (.bankSupplyChange .vconn false) s fun t => t.aon = { s.dev.aon with vconnOk := false } ∧
      (∀ n : Nat, n < 8 → (cable t n).vconn ≠ 1 ∧ ((cable s.dev n).vconn = 1 → (cable t n).vconn = 2)) ∧
      (∀ n : Nat, (cable s.dev n).vconn ≠ 1 → cable t n = cable s.dev n) ∧ BesidePort t s.dev ∧ SameSwitch t s.dev))

/-! ### The Nguzo bus -/

/-- What the node sends (Sending, the dynamic segment, coldstart and the gateway of chapter 9). In its own static slot a SYNCHRONISED
node sends the waiting buffer or a NULL frame on the channels where it is SYNCHRONISED; a coldstarting one the same with START, in
SYNC_SLOT alone and in the four cycles of its attempt; a node in no such state nothing, nor one whose slot it is not. A dynamic frame
goes out at its position when no frame holds the channel and it ends in time, the ZOP frame of ID 900 among them, and it holds the
channel. The gateway takes a frame for a mapped ID into that ID's buffer and drops any other. -/
def Obligations.NguzoSending : Prop :=
  (∀ (s : State) (slot : Nat), s.dev.aon.bankN = true → force s.dev (0x6100 + slot) 1 = 1 → 1 ≤ slot →
    slot ≤ busPar s.dev 3 →
    let chans (ok : Chan → Bool) : List Bool :=
      [false, true].filter fun b => onChannel (force s.dev (0x6100 + slot) 0) b && ok (chan s.dev b) &&
        !(b && unitHeld s.dev .nguzoB)
    let sync := isKeeper s.dev && slot == busPar s.dev 12
    let frame (flags : Nat) (p : List Byte) (b : Bool) : Emission := .nguzo b (frameOctets slot s.dev.ng.cycle.toNat flags p)
    let x := busBuffer s.dev slot
    let steady (c : Chan) : Bool := c.state == .synchronised
    let cold (c : Chan) : Bool := c.enabled && c.state == .joining
    let rest (t : Dev) : Prop := t.ng.node = s.dev.ng.node ∧ SameSwitch t s.dev ∧ SamePower t s.dev ∧ t.tm = s.dev.tm ∧
      SameStores t s.dev ∧ SameAon t s.dev
    (s.dev.ng.node = .synchronised →
      (bufferReady s.dev slot = false → Answers (.staticSlotTransmit slot) s fun t =>
        t.out = (chans steady).map (frame (flagsOf sync false true false) (nullPayload s.dev)) ∧
        t.ng.buffers = s.dev.ng.buffers ∧ rest t) ∧
      (bufferReady s.dev slot = true → chans steady ≠ [] → Answers (.staticSlotTransmit slot) s fun t =>
        t.out = (chans steady).map (frame (flagsOf sync false false x.epoch) x.payload) ∧
        busBuffer t slot = BusFrame.none ∧ (∀ id : Nat, id ≠ slot → busBuffer t id = busBuffer s.dev id) ∧
        t.ng.toBus = satInc s.dev.ng.toBus ∧ rest t)) ∧
    (s.dev.ng.node = .coldstart → sync = true → 1 ≤ s.dev.ng.coldCycles → s.dev.ng.coldCycles ≤ 4 →
      (bufferReady s.dev slot = false → Answers (.staticSlotTransmit slot) s fun t =>
        t.out = (chans cold).map (frame (flagsOf true true true false) (nullPayload s.dev)) ∧
        t.ng.buffers = s.dev.ng.buffers ∧ rest t) ∧
      (bufferReady s.dev slot = true → chans cold ≠ [] → Answers (.staticSlotTransmit slot) s fun t =>
        t.out = (chans cold).map (frame (flagsOf true true false x.epoch) x.payload) ∧
        busBuffer t slot = BusFrame.none ∧ (∀ id : Nat, id ≠ slot → busBuffer t id = busBuffer s.dev id) ∧
        t.ng.toBus = satInc s.dev.ng.toBus ∧ rest t)) ∧
    (s.dev.ng.node = .coldstart → (sync = false ∨ s.dev.ng.coldCycles = 0 ∨ 4 < s.dev.ng.coldCycles) →
      Answers (.staticSlotTransmit slot) s fun t => Became t (hush s.dev)) ∧
    (s.dev.ng.node ≠ .synchronised → s.dev.ng.node ≠ .coldstart →
      Answers (.staticSlotTransmit slot) s fun t => Became t (hush s.dev))) ∧
  (∀ (s : State) (slot : Nat), (force s.dev (0x6100 + slot) 1 ≠ 1 ∨ slot = 0 ∨ busPar s.dev 3 < slot) →
    Answers (.staticSlotTransmit slot) s fun t => Became t (hush s.dev)) ∧
  (∀ (s : State) (chB : Bool) (i : Nat), s.dev.aon.bankN = true → (chB = true → unitHeld s.dev .nguzoB = false) →
    s.dev.ng.node = .synchronised → (chan s.dev chB).state = .synchronised → channelHeld s.dev chB = false →
    entryAt s.dev chB = some i → force s.dev (0x6180 + i) 4 ≠ 0 →
    let id := force s.dev (0x6180 + i) 1
    let x := busBuffer s.dev id
    let queue (d : Dev) : List (List Byte) := if chB then d.ng.zopB else d.ng.zopA
    let packed := packMessages 252 (queue s.dev)
    let zop := if packed.1.length ≤ 248 then packed.1 ++ leBytes 4 0 else packed.1
    let holds (words : Nat) (t : Dev) : Prop :=
      (chan t chB).txFrames = satInc (chan s.dev chB).txFrames ∧ (chan t chB).position = (chan s.dev chB).position ∧
      (chan t chB).busyUntil = (chan s.dev chB).minislot * (busPar s.dev 8 * us) + busPar s.dev 9 * us + (105 + 32 * words) * 40 + us ∧
      chan t (!chB) = chan s.dev (!chB) ∧ SameSwitch t s.dev ∧ SamePower t s.dev ∧ t.tm = s.dev.tm ∧ SameStores t s.dev ∧
      SameAon t s.dev
    (id ≠ 900 → bufferReady s.dev id = true → (if chB then x.sentB else x.sentA) = false →
      (dynamicFits s.dev chB (x.payload.length / 4) = true →
        Answers (.dynamicFrameTransmit chB) s fun t =>
          t.out = [.nguzo chB (frameOctets id s.dev.ng.cycle.toNat (flagsOf false false false x.epoch) x.payload)] ∧
          holds (x.payload.length / 4) t) ∧
      (dynamicFits s.dev chB (x.payload.length / 4) = false →
        Answers (.dynamicFrameTransmit chB) s fun t => Became t (hush s.dev))) ∧
    (id = 900 → queue s.dev ≠ [] → dynamicFits s.dev chB (zop.length / 4) = true →
      Answers (.dynamicFrameTransmit chB) s fun t =>
        t.out = [.nguzo chB (frameOctets 900 s.dev.ng.cycle.toNat 0 zop)] ∧ queue t = packed.2 ∧ holds (zop.length / 4) t)) ∧
  (∀ (s : State) (chB : Bool),
    (s.dev.ng.node ≠ .synchronised ∨ (chan s.dev chB).state ≠ .synchronised ∨ channelHeld s.dev chB = true ∨
      entryAt s.dev chB = none) →
    Answers (.dynamicFrameTransmit chB) s fun t => Became t (hush s.dev)) ∧
  (∀ (s : State) (chB : Bool), s.dev.ng.node ≠ .off → (chan s.dev chB).enabled = true →
    Answers (.minislotBoundary chB) s fun t =>
      (chan t chB).minislot = (chan s.dev chB).minislot + 1 ∧
      (chan t chB).position = (if (chan s.dev chB).busyUntil ≤ ((chan s.dev chB).minislot + 1) * (busPar s.dev 8 * us)
        then (chan s.dev chB).position + 1 else (chan s.dev chB).position) ∧
      chan t (!chB) = chan s.dev (!chB) ∧ SameSwitch t s.dev ∧ SamePower t s.dev ∧ t.tm = s.dev.tm ∧ SameStores t s.dev ∧
      SameAon t s.dev) ∧
  (∀ (s : State) (o : List Byte), fabricRuns s.dev = true →
    let b := framePayload o
    let id := leNat (b.take 2) % 1024
    let words := leNat (b.take 2) / 1024
    let taken := frameType o = cfg s.dev 0x5080 0 ∧ (gatewayEntry s.dev id 1).isSome = true ∧ 12 + 4 * words ≤ b.length ∧
      (64 < id ∨ words = busPar s.dev 5)
    (taken → Answers (.gatewayToBus o) s fun t =>
      (busBuffer t id).payload = (b.drop 12).take (4 * words) ∧ (busBuffer t id).at_ = s.dev.now + 1 ∧
      (busBuffer t id).epoch = bit (oct b 3) 2 ∧
      (∀ j : Nat, j ≠ id → busBuffer t j = busBuffer s.dev j) ∧
      t.ng.overwritten = (if (busBuffer s.dev id).at_ = 0 then s.dev.ng.overwritten else satInc s.dev.ng.overwritten) ∧
      SameSwitch t s.dev ∧ SamePower t s.dev ∧ t.tm = s.dev.tm ∧ SameStores t s.dev ∧ SameAon t s.dev) ∧
    (¬ taken → Answers (.gatewayToBus o) s fun t =>
      t.ng = { s.dev.ng with toBusDrop := satInc s.dev.ng.toBusDrop } ∧ SamePower t s.dev ∧ t.tm = s.dev.tm ∧
      SameStores t s.dev ∧ SameAon t s.dev))

/-- What the node receives and how its states follow (frame validity, integration, coldstart, the clamp and the guardian of chapter
9). A frame that fails a test is counted under the first one alone, and holds the channel in the dynamic segment; a coldstarting node
meets a conflict and aborts; a second copy of a frame assigned to both channels is discarded; a valid SYNC frame in LISTEN integrates
a follower, and an anchor only on a bus that agrees with it; a channel stuck low is clamped unless it rises in that tick, and a high
NIT begins its recovery; a send against a closed gate counts, and cut after cut sends the node back to LISTEN; a full cycle with
SYNC, or four coldstart cycles, make it SYNCHRONISED. (Log entry 2: an expiry's command reaches its timer's instant first.) -/
def Obligations.NguzoReceiving : Prop :=
  (∀ (s : State) (chB : Bool) (f : NgFrame), s.dev.aon.bankN = true → (chB = true → unitHeld s.dev .nguzoB = false) →
    (chan s.dev chB).enabled = true → (chan s.dev chB).state ∉ [ChanState.off, .clamped, .recovering] →
    (∀ e : FrameFault, s.dev.ng.node = .integrating ∨ s.dev.ng.node = .synchronised → frameFault s.dev chB f = some e →
      Answers (.nguzoFrameReceived chB f) s fun t => Became t
        (countFault chB e (if (slotAt s.dev f).isNone then noteBusy chB f (hush s.dev) else hush s.dev))) ∧
    (∀ k : Nat, s.dev.ng.node = .coldstart → slotAt s.dev f = some k → k ≠ busPar s.dev 12 →
      ((frameFault s.dev chB f).isSome = true ∨ f.start = true) →
      Answers (.nguzoFrameReceived chB f) s fun t =>
        t.ng.node = .listen ∧ armed .listen t = true ∧ t.ng.coldstartAbort = satInc s.dev.ng.coldstartAbort ∧ t.out = [] ∧
        SameSwitch t s.dev ∧ SamePower t s.dev ∧ t.tm = s.dev.tm ∧ SameStores t s.dev ∧ SameAon t s.dev) ∧
    (∀ x : Taken, s.dev.ng.node = .synchronised → frameFault s.dev chB f = none → f.sync = false →
      assignedAb s.dev f.slotId.toNat = true →
      (s.dev.ng.taken.find? fun t => t.id == f.slotId.toNat && t.chB != chB) = some x →
      Answers (.nguzoFrameReceived chB f) s fun t =>
        t.ng.dupDiscard = satInc s.dev.ng.dupDiscard ∧ (chan t chB).rxValid = satInc (chan s.dev chB).rxValid ∧
        t.ng.abMismatch = (if x.crc = f.crc then s.dev.ng.abMismatch else satInc s.dev.ng.abMismatch) ∧
        t.ng.taken = s.dev.ng.taken ∧ t.ng.inbox = s.dev.ng.inbox ∧ (412 < f.endNs - x.endNs → SameSwitch t s.dev) ∧
        SamePower t s.dev ∧ t.tm = s.dev.tm ∧ SameStores t s.dev ∧ SameAon t s.dev) ∧
    (s.dev.ng.node = .listen → isAnchor s.dev = false → syncInListen s.dev f = true →
      Answers (.nguzoFrameReceived chB f) s fun t =>
        t.ng.node = .integrating ∧ t.ng.cycle = f.cycle ∧ t.ng.joinCycle = true ∧ armed .listen t = false ∧
        (chan t chB).rxValid = satInc (chan s.dev chB).rxValid ∧
        (f.null = true ∨ gatewayEntry s.dev f.slotId.toNat 0 = none →
          t.out = [] ∧ SameSwitch t s.dev ∧ SamePower t s.dev ∧ SameStores t s.dev ∧ SameAon t s.dev)) ∧
    (s.dev.ng.node = .listen → isAnchor s.dev = true → syncInListen s.dev f = true →
      (busPar s.dev 15 < (deviation s.dev chB f.slotId.toNat f).natAbs ∨ f.cycle.toNat ≠ s.dev.tm.cycleIndex % 256) →
      Answers (.nguzoFrameReceived chB f) s fun t =>
        t.ng.node = .listen ∧ armed .listen t = true ∧ t.ng.anchorConflict = satInc s.dev.ng.anchorConflict ∧ t.out = [] ∧
        SameSwitch t s.dev ∧ SamePower t s.dev ∧ t.tm = s.dev.tm ∧ SameStores t s.dev ∧ SameAon t s.dev)) ∧
  (∀ (s : State) (chB : Bool), s.dev.aon.bankN = true → (chB = true → unitHeld s.dev .nguzoB = false) → s.dev.ng.node ≠ .off →
    ((chan s.dev chB).enabled = true → (chan s.dev chB).state ≠ .clamped →
      Answers (.channelClamp ⟨chB, false⟩) s fun t => (chan t chB).state = .clamped ∧
        (chan t chB).clampCount = min ((chan s.dev chB).clampCount + 1) 0xFFFF ∧ chan t (!chB) = chan s.dev (!chB) ∧
        t.ng.node = s.dev.ng.node ∧ SameSwitch t s.dev ∧ SamePower t s.dev ∧ t.tm = s.dev.tm ∧ SameStores t s.dev ∧
        SameAon t s.dev) ∧
    (Answers (.channelClamp ⟨chB, true⟩) s fun t => Became t (hush s.dev)) ∧
    ((chan s.dev chB).state = .clamped →
      (Answers (.nitProbe chB true) s fun t => (chan t chB).state = .recovering ∧ chan t (!chB) = chan s.dev (!chB) ∧
        t.ng.node = s.dev.ng.node ∧ SameSwitch t s.dev ∧ SamePower t s.dev ∧ t.tm = s.dev.tm ∧ SameStores t s.dev) ∧
      (Answers (.nitProbe chB false) s fun t => Became t (hush s.dev)))) ∧
  (∀ (s : State) (chB : Bool) (at_ : Nat), s.dev.ng.node ≠ .off → (chan s.dev chB).enabled = true →
    let now := s.dev.tm.cycleIndex
    let recent := (s.dev.ng.tripCycles.filter fun x => decide ((now + 2 ^ 32 - x) % 2 ^ 32 < 64)) ++ [now]
    (guardOpen s.dev chB at_ = true → Answers (.guardTrip ⟨chB, at_⟩) s fun t => Became t (hush s.dev)) ∧
    (guardOpen s.dev chB at_ = false → Answers (.guardTrip ⟨chB, at_⟩) s fun t =>
      t.ng.guardTrip = satInc s.dev.ng.guardTrip ∧
      (s.dev.ng.node = .synchronised → busPar s.dev 18 ≤ recent.length → t.ng.node = .listen ∧ t.ng.tripCycles = [] ∧
        armed .listen t = true) ∧
      (recent.length < busPar s.dev 18 → t.ng.node = s.dev.ng.node ∧ t.ng.tripCycles = recent) ∧
      SameSwitch t s.dev ∧ SamePower t s.dev ∧ t.tm = s.dev.tm ∧ SameStores t s.dev ∧ SameAon t s.dev)) ∧
  (∀ s : State, armed .listen s.dev = true → s.dev.ng.node = .listen →
    Answers .listenTimeout s fun t =>
      (cfgOn s.dev 0x5000 11 = true → (isKeeper s.dev = false ∨ ownsSyncSlot s.dev = true) →
        t.ng = { s.dev.ng with node := .coldstart, coldCycles := 0, coldstartCount := satInc s.dev.ng.coldstartCount }) ∧
      (cfgOn s.dev 0x5000 11 = false ∨ isKeeper s.dev = true ∧ ownsSyncSlot s.dev = false →
        t.ng.node = .listen ∧ armed .listen t = true) ∧
      SameSwitch t s.dev ∧ SamePower t s.dev ∧ SameStores t s.dev ∧ t.aon = s.dev.aon) ∧
  (∀ s : State, s.dev.ng.ended = false → s.dev.ng.cycle.getLsbD 0 = false →
    (s.dev.ng.node = .integrating ∧ s.dev.ng.joinCycle = false ∧ s.dev.ng.fullOk = true ∨
     s.dev.ng.node = .coldstart ∧ s.dev.ng.coldCycles = 4) →
    Answers .cycleEnd s fun t => t.ng.node = .synchronised ∧ t.ng.missing = 0 ∧ t.ng.ended = true ∧
      (∀ chB : Bool, (chan s.dev chB).state = .joining → (chan t chB).state = .synchronised) ∧ SameSwitch t s.dev ∧
      SamePower t s.dev ∧ t.tm = s.dev.tm ∧ SameStores t s.dev ∧ SameAon t s.dev) ∧
  (∀ s : State, s.dev.ng.ended = false → s.dev.ng.cycle.getLsbD 0 = false → s.dev.ng.node = .integrating →
    s.dev.ng.joinCycle = false → s.dev.ng.fullOk = false →
    Answers .cycleEnd s fun t => t.ng.node = .listen ∧ armed .listen t = true ∧ SameSwitch t s.dev ∧ SamePower t s.dev ∧
      t.tm = s.dev.tm ∧ SameStores t s.dev ∧ SameAon t s.dev)

/-! ### Timebase, epochs and the schedule -/

/-- The sources of time (chapter 10, Tables 10-1, 10-2; log entries 3 and 14 on what they leave open). PPS_IN qualifies on its third
good edge and is disqualified when its edges stop; a captured Sync from the master gives the offset that its timestamps make, and an
event message without a timestamp is counted and goes on as it came; an Announce makes the port a slave until three intervals pass
without one; peer delay is half the round trip less the time in the peer; a source that outranks the selected one replaces it after
HOLDOFF; LOCKING ends in LOCKED. (Log entry 2: an expiry's command reaches its timer's instant first.) -/
def Obligations.TimeSources : Prop :=
  (∀ s : State, ttbRuns s.dev = true → cfgOn s.dev 0x6030 0 = true →
    Answers .ppsInEdge s fun t => t.tm.ppsLast = some s.dev.now ∧ (Timer.ppsIn, s.dev.now + 1100 * ms) ∈ t.timers ∧
      SameSwitch t s.dev ∧ SamePower t s.dev ∧ t.ng = s.dev.ng ∧ SameStores t s.dev ∧ t.aon = s.dev.aon) ∧
  (∀ (s : State) (l : Nat), ttbRuns s.dev = true → cfgOn s.dev 0x6030 0 = true → s.dev.tm.ppsLast = some l →
    ((s.dev.now : Int) - l - sec ≤ 100000 ∧ (sec : Int) + l - s.dev.now ≤ 100000) → 2 ≤ s.dev.tm.ppsGood →
    (s.dev.tm.state ≠ .freerun ∨ s.dev.tm.timeSet = true) → s.dev.tm.source = none → s.dev.tm.qualPps = none →
    s.dev.tm.qualPtp = none → s.dev.tm.qualNg = none → TimeSource.ppsIn ∈ priorities s.dev →
    Answers .ppsInEdge s fun t => t.tm.source = some .ppsIn ∧ t.tm.state = .locking ∧ t.tm.qualPps = some s.dev.now ∧
      t.tm.everSelected = true) ∧
  (∀ s : State, cfgOn s.dev 0x6030 0 = false → Answers .ppsInEdge s fun t => Became t (hush s.dev)) ∧
  (∀ s : State, armed .ppsIn s.dev = true →
    Answers .ppsInTimeout s fun t => t.tm.qualPps = none ∧ t.tm.ppsGood = 0 ∧ t.tm.ppsLast = none ∧ SameSwitch t s.dev ∧
      SamePower t s.dev ∧ t.ng = s.dev.ng ∧ SameStores t s.dev) ∧
  (∀ (s : State) (p : SPort) (o : List Byte) (err : Int), portHeld s.dev p.val = false → (p.val ≠ 12 ∨ s.dev.aon.bankH = true) →
    ptpTakes s.dev p.val o = true →
    let rx := stampNow s.dev p.val err
    let passedOn (t : Dev) : Prop := t.tm.tsMissed = satInc s.dev.tm.tsMissed ∧ t.tm.ptpOffset = s.dev.tm.ptpOffset ∧
      t.tm.ptpPorts = s.dev.tm.ptpPorts ∧ t.tm.source = s.dev.tm.source ∧
      (∀ q : Nat, q < 16 → q ≠ p.val → isTcPort s.dev p.val = true → isTcPort s.dev q = true → portUp s.dev q = true →
        (swPort s.dev q).fenced = false → portHeld s.dev q = false → (q ≠ 12 ∨ s.dev.aon.bankH = true) →
        Emission.frame q o ∈ t.out) ∧
      SameSwitch t s.dev ∧ SamePower t s.dev ∧ t.ng = s.dev.ng ∧ SameStores t s.dev ∧ SameAon t s.dev
    (ptpType o = 0 →
      (Answers (.ptpSync p o false err) s passedOn) ∧
      (fromMaster s.dev p.val o = true → ptpTwoStep o = false →
        Answers (.ptpSync p o true err) s fun t =>
          t.tm.ptpOffset = rx - ptpStamp o - correctionNs o - (ptpOf s.dev p.val).peerDelay ∧ SameSwitch t s.dev ∧
          SamePower t s.dev ∧ SameStores t s.dev ∧ t.aon = s.dev.aon) ∧
      (fromMaster s.dev p.val o = true → ptpTwoStep o = true →
        Answers (.ptpSync p o true err) s fun t =>
          t.tm.ptpSyncRx = some (ptpSequence o, rx, correctionNs o) ∧ t.tm.ptpOffset = s.dev.tm.ptpOffset ∧
          SameSwitch t s.dev ∧ SamePower t s.dev ∧ SameStores t s.dev ∧ SameAon t s.dev)) ∧
    (ptpType o = 2 →
      (Answers (.pdelayReq p o false err) s passedOn) ∧
      (isTcPort s.dev p.val = true → cfg s.dev 0x6020 3 ≠ 1 →
        Answers (.pdelayReq p o true err) s fun t =>
          (∃ turn : Nat, t.out = [.frame p.val (ptpFrame s.dev p.val pdelayDa 3 0 (ptpCorrection o + turn * 65536)
            (ptpSequence o) (stampOctets 0 ++ ptpSender o))]) ∧ t.tm = s.dev.tm ∧ SameSwitch t s.dev ∧ SamePower t s.dev) ∧
      (isTcPort s.dev p.val = true → cfg s.dev 0x6020 3 = 1 →
        Answers (.pdelayReq p o true err) s fun t =>
          (∃ turn : Nat, t.out = [.frame p.val (ptpFrame s.dev p.val pdelayDa 3 0x0200 0 (ptpSequence o)
              (stampOctets rx.toNat ++ ptpSender o)),
            .frame p.val (ptpFrame s.dev p.val pdelayDa 0xA 0 (ptpCorrection o) (ptpSequence o)
              (stampOctets (rx.toNat + turn) ++ ptpSender o))]) ∧
          t.tm = s.dev.tm ∧ SameSwitch t s.dev ∧ SamePower t s.dev)) ∧
    (ptpType o = 3 →
      (Answers (.pdelayResp p o ⟨false, err⟩) s passedOn) ∧
      (∀ t1 : Nat, ptpSequence o = (ptpOf s.dev p.val).reqSeq → (ptpOf s.dev p.val).reqTx = some t1 → ptpTwoStep o = false →
        Answers (.pdelayResp p o ⟨true, err⟩) s fun t =>
          (ptpOf t p.val).peerDelay = ((rx - t1 - correctionNs o) / 2).toNat ∧ (ptpOf t p.val).reqTx = none ∧
          (∀ q : Nat, q ≠ p.val → ptpOf t q = ptpOf s.dev q) ∧ SameSwitch t s.dev ∧ SamePower t s.dev ∧ SameAon t s.dev))) ∧
  (∀ (s : State) (p : SPort) (o : List Byte), portHeld s.dev p.val = false → (p.val ≠ 12 ∨ s.dev.aon.bankH = true) →
    ptpTakes s.dev p.val o = true →
    (∀ rx corr : Int, ptpType o = 8 → fromMaster s.dev p.val o = true → s.dev.tm.ptpSyncRx = some (ptpSequence o, rx, corr) →
      Answers (.ptpFollowUp p o) s fun t => t.tm.ptpSyncRx = none ∧
        t.tm.ptpOffset = rx - ptpStamp o - correctionNs o - corr - (ptpOf s.dev p.val).peerDelay ∧
        SameSwitch t s.dev ∧ SamePower t s.dev ∧ SameStores t s.dev ∧ t.aon = s.dev.aon) ∧
    (∀ (t1 : Nat) (t4 t2 : Int), ptpType o = 0xA → ptpSequence o = (ptpOf s.dev p.val).reqSeq →
      (ptpOf s.dev p.val).reqTx = some t1 → (ptpOf s.dev p.val).respRx = some (t4, t2) →
      Answers (.ptpFollowUp p o) s fun t =>
        (ptpOf t p.val).peerDelay = ((t4 - t1 - (ptpStamp o + correctionNs o - t2)) / 2).toNat ∧
        (ptpOf t p.val).respRx = none ∧ (∀ q : Nat, q ≠ p.val → ptpOf t q = ptpOf s.dev q) ∧ SameSwitch t s.dev ∧
        SamePower t s.dev ∧ SameAon t s.dev) ∧
    (p.val = ptpPort s.dev → ptpType o = 0xB → ptpDomain o = ptpDomainOf s.dev → cfg s.dev 0x6020 2 = 0 →
      s.dev.tm.ptpSlave = false →
      Answers (.ptpAnnounce p o) s fun t => t.tm.ptpSlave = true ∧ t.tm.ptpMaster = announceKey o ∧
        runsFor .announce (3 * sec) t ∧ SameSwitch t s.dev ∧ SamePower t s.dev ∧ SameStores t s.dev ∧ SameAon t s.dev)) ∧
  (∀ s : State, armed .announce s.dev = true →
    Answers .announceReceiptTimeout s fun t => t.tm.ptpSlave = false ∧ t.tm.qualPtp = none ∧ t.tm.ptpGood = 0 ∧
      SameSwitch t s.dev ∧ SamePower t s.dev ∧ SameStores t s.dev) ∧
  (∀ (s : State) (p : SPort), portHeld s.dev p.val = false → (p.val ≠ 12 ∨ s.dev.aon.bankH = true) →
    armed (.pdelay p.val) s.dev = true → ptpActs s.dev p.val = true → (isTcPort s.dev p.val = true ∨ p.val = ptpPort s.dev) →
    let seq := ((ptpOf s.dev p.val).reqSeq + 1) % 65536
    Answers (.pdelayReqInterval p) s fun t => (ptpOf t p.val).reqSeq = seq ∧ (ptpOf t p.val).reqTx.isSome = true ∧
      t.out = [.frame p.val (ptpFrame s.dev p.val pdelayDa 2 0 0 seq (stampOctets 0 ++ List.replicate 10 0))] ∧
      runsFor (.pdelay p.val) sec t ∧ SameSwitch t s.dev ∧ SamePower t s.dev) ∧
  (∀ s : State, armed .ptpMaster s.dev = true → ptpActs s.dev (ptpPort s.dev) = true → portHeld s.dev (ptpPort s.dev) = false →
    (ptpPort s.dev ≠ 12 ∨ s.dev.aon.bankH = true) → cfg s.dev 0x6020 2 ≠ 0 → s.dev.tm.ptpSlave = false →
    let p := ptpPort s.dev
    let seq := s.dev.tm.ptpSeq
    Answers .ptpMasterInterval s fun t => t.tm.ptpSeq = (seq + 1) % 65536 ∧
      t.out = [.frame p (ptpFrame s.dev p ptpDa 0xB 0 0 seq
          (stampOctets 0 ++ beBytes 3 0 ++ (ownKey s.dev).take 16 ++ [0x20] ++ profileTlv s.dev)),
        .frame p (ptpFrame s.dev p ptpDa 0 0 0 seq (stampOctets (taiNs t)))] ∧
      runsFor .ptpMaster sec t ∧ SameSwitch t s.dev ∧ SamePower t s.dev) ∧
  (∀ (s : State) (c x : TimeSource), s.dev.tm.source = some c →
    ((priorities s.dev).filter fun y => decide (rankOf s.dev y < rankOf s.dev c)).find? (fun y => heldOff s.dev y) = some x →
    Answers .holdoffExpiry s fun t => t.tm.source = some x ∧ t.tm.state = .locking ∧ SameSwitch t s.dev ∧
      SamePower t s.dev ∧ t.ng = s.dev.ng ∧ SameStores t s.dev) ∧
  (∀ s : State, armed .lockWait s.dev = true → s.dev.tm.state = .locking →
    Answers .lockReached s fun t => t.tm.state = .locked ∧ t.tm.slewing = false ∧ t.tm.source = s.dev.tm.source ∧
      SameSwitch t s.dev ∧ SamePower t s.dev ∧ t.ng = s.dev.ng ∧ SameStores t s.dev)

/-- The pins, the epochs and the windows (chapter 10, and HIRQ_N of chapter 5). HIRQ_N is low while an enabled bit of IRQ_STATUS is set;
the pins of a bank that is out of range are high impedance. PPS_OUT rises at a whole second for its width when its mode lets it, EPOCH_OUT at
its stream's boundary; each pulse ends; a boundary counts, marks every up pod link that subscribed, and starts a new PERIOD where
it has changed; a window opens and closes. -/
def Obligations.PinsAndEpochs : Prop :=
  (∀ d : Dev,
    (hirqPin d = .low ↔ d.aon.bankH = true ∧ ∃ i : Nat, d.hw.irqStatus.getLsbD i = true ∧ d.hw.irqEnable.getLsbD i = true) ∧
    (hirqPin d ≠ .low → hirqPin d = .highZ) ∧
    (d.aon.bankS = true → ppsOutPin d = (if d.tm.ppsOut then .high else .low) ∧
      epochOutPin d 0 = (if d.tm.epochOut0 then .high else .low) ∧ epochOutPin d 1 = (if d.tm.epochOut1 then .high else .low)) ∧
    (d.aon.bankS = false → ppsOutPin d = .highZ ∧ ∀ n : Nat, epochOutPin d n = .highZ ∧ fanPin d n = .highZ)) ∧
  (∀ s : State, ttbRuns s.dev = true →
    Answers .ppsOutSecond s fun t =>
      ((cfg s.dev 0x6030 2 = 1 ∨ cfg s.dev 0x6030 2 = 2 ∧ (s.dev.tm.state = .locked ∨ s.dev.tm.state = .holdover)) →
        t.tm.ppsOut = true ∧ runsFor .ppsPulse (cfg s.dev 0x6030 3 * ms) t) ∧
      ((cfg s.dev 0x6030 2 = 0 ∨ cfg s.dev 0x6030 2 = 2 ∧ s.dev.tm.state ≠ .locked ∧ s.dev.tm.state ≠ .holdover) →
        t.tm.ppsOut = s.dev.tm.ppsOut) ∧ t.tm.ppsSecond = taiNs t / sec ∧
      t.tm.source = s.dev.tm.source ∧ SameSwitch t s.dev ∧ SamePower t s.dev ∧ t.ng = s.dev.ng ∧ SameStores t s.dev) ∧
  (∀ s : State,
    (armed .ppsPulse s.dev = true → Answers (.pulseWidthEnd .ppsOut) s fun t => t.tm.ppsOut = false ∧
      armed .ppsPulse t = false ∧ t.tm.epochOut0 = s.dev.tm.epochOut0 ∧ SameSwitch t s.dev ∧ SamePower t s.dev) ∧
    (armed (.epochPulse 0) s.dev = true → Answers (.pulseWidthEnd .epochOut0) s fun t => t.tm.epochOut0 = false ∧
      t.tm.ppsOut = s.dev.tm.ppsOut ∧ t.tm.epochOut1 = s.dev.tm.epochOut1 ∧ SameSwitch t s.dev ∧ SamePower t s.dev) ∧
    (armed (.epochPulse 1) s.dev = true → Answers (.pulseWidthEnd .epochOut1) s fun t => t.tm.epochOut1 = false ∧
      t.tm.ppsOut = s.dev.tm.ppsOut ∧ t.tm.epochOut0 = s.dev.tm.epochOut0 ∧ SameSwitch t s.dev ∧ SamePower t s.dev)) ∧
  (∀ (s : State) (k : Fin 16), ttbRuns s.dev = true → (epochOf s.dev k.val).enabled = true →
    let e := epochOf s.dev k.val
    let p := cfg s.dev (0x6040 + k.val) 1 * us
    let count := (((e.base : Int) + (e.next - e.anchor) / (e.period : Int)) % (2 ^ 32 : Int)).toNat
    Answers (.epochBoundary k) s fun t =>
      (epochOf t k.val).count = count ∧ (epochOf t k.val).next = e.next + p ∧ (epochOf t k.val).period = p ∧
      (p ≠ e.period → (epochOf t k.val).anchor = e.next ∧ (epochOf t k.val).base = count) ∧
      (p = e.period → (epochOf t k.val).anchor = e.anchor ∧ (epochOf t k.val).base = e.base) ∧
      (cfg s.dev 0x6030 5 = k.val → t.tm.epochOut0 = true ∧ runsFor (.epochPulse 0) (min (cfg s.dev 0x6030 7 * us) (p / 2)) t) ∧
      (cfg s.dev 0x6030 6 = k.val → t.tm.epochOut1 = true ∧ runsFor (.epochPulse 1) (min (cfg s.dev 0x6030 7 * us) (p / 2)) t) ∧
      (∀ n : Nat, n < 8 → e.marks.getLsbD n = true → (cable s.dev n).pod = .linkUp → (swPort s.dev n).fenced = false →
        portHeld s.dev n = false →
        fabricRuns s.dev = true → s.dev.fab.resetting = false → (baseMac s.dev).length = 6 →
        ∃ o : List Byte, Emission.frame n o ∈ t.out ∧ (o.drop 14).take 4 = leBytes 4 count ∧ (o.drop 18).take 1 = leBytes 1 k.val) ∧
      SameSwitch t s.dev ∧ t.slots = s.dev.slots ∧ SameStores t s.dev ∧ t.ng = s.dev.ng) ∧
  (∀ (s : State) (p : SPort) (n : Fin 8),
    (hasPort s.dev p.val = true → ttbRuns s.dev = true → n.val < winCount s.dev p.val →
      Answers (.windowOpen p n) s fun t => (swPort t p.val).openWin = some n.val ∧
        (∀ q : Nat, q ≠ p.val → swPort t q = swPort s.dev q) ∧ SamePower t s.dev ∧ t.ng = s.dev.ng ∧ SameStores t s.dev) ∧
    ((swPort s.dev p.val).openWin = some n.val →
      Answers (.windowClose p n) s fun t => (swPort t p.val).openWin = none ∧
        (∀ q : Nat, q ≠ p.val → swPort t q = swPort s.dev q) ∧ SamePower t s.dev ∧ t.ng = s.dev.ng ∧ SameStores t s.dev))

/-- The start of a schedule cycle (bundles of chapter 4, schedule time and schedule changes of chapter 10). A bundle is all or nothing: with a failing write no value
changes. Then what is written becomes what is in force, SCHED_LAG is drained but for a step of that very tick, waiting enables
apply, and the bus begins a clean cycle. -/
def Obligations.ScheduleCycleStart : Prop :=
  (∀ (d d' : Dev) (b : Scheduled), bundleWrites b.sess b.writes 0 d = .ok d' →
    (applyBundle d b).od.cfg = d'.od.cfg ∧ (applyBundle d b).tm = d'.tm ∧ SameSwitch (applyBundle d b) d') ∧
  (∀ (d : Dev) (b : Scheduled) (st i : Nat), bundleWrites b.sess b.writes 0 d = .error (st, i) →
    (applyBundle d b).od.cfg = d.od.cfg ∧ (applyBundle d b).od.pendingJournal = d.od.pendingJournal ∧
    SameRest (applyBundle d b) d ∧
    (∀ n : Nat, n ≠ b.sess → sessionOf (applyBundle d b) n = sessionOf d n) ∧
    ((sessionOf d b.sess).bState = 2 → (sessionOf d b.sess).bSerial = b.serial →
      (sessionOf (applyBundle d b) b.sess).bState = 4 ∧ (sessionOf (applyBundle d b) b.sess).bResult = st ∧
      (sessionOf (applyBundle d b) b.sess).bFail = i)) ∧
  (∀ s : State, ttbRuns s.dev = true →
    Answers .scheduleCycleStart s fun t =>
      t.tm.inForce = t.od.cfg.filter (fun x => shadowed (x.1 / 256) (x.1 % 256)) ∧
      (t.ng.node ≠ .off → t.ng.cycle = BitVec.ofNat 8 (t.tm.cycleIndex % 256)) ∧ t.ng.taken = [] ∧ t.ng.ended = false ∧ t.ng.pendEnA = none ∧ t.ng.pendEnB = none ∧ t.ng.chA.position = 0 ∧
      t.ng.chB.position = 0) ∧
  (∀ s : State, ttbRuns s.dev = true → s.dev.od.scheduled = [] →
    (s.dev.tm.qualNg = none ∨ s.dev.ng.pendEnA = none ∧ s.dev.ng.pendEnB = none ∧ fabricRuns s.dev = true ∧
      (s.dev.ng.chA.enabled = true ∨ s.dev.ng.chB.enabled = true)) →
    Answers .scheduleCycleStart s fun t =>
      (let waiting := s.dev.tm.lag - s.dev.tm.lateLag
       t.tm.lag = (if s.dev.ng.chA.state = .off ∧ s.dev.ng.chB.state = .off then 0
         else if 0 ≤ waiting then waiting - min 50 waiting else waiting + min 50 (-waiting)) + s.dev.tm.lateLag) ∧
      t.tm.lateLag = 0 ∧ (∀ v : Bool, s.dev.ng.pendEnA = some v → t.ng.chA.enabled = v) ∧
      (∀ v : Bool, s.dev.ng.pendEnB = some v → t.ng.chB.enabled = v) ∧
      t.od.cfg = s.dev.od.cfg ∧ SameSwitch t s.dev ∧ SamePower t s.dev ∧ SameStores t s.dev ∧ t.aon = s.dev.aon ∧
      t.boot = s.dev.boot)

/-! ### The switch -/

/-- The decision of a frame (receive path, fences, VLAN ingress and cut-through of chapters 11 and 12). A frame that is discarded is counted once, under its
reason, and goes nowhere: during a FAB reset, too long, in error or short, stopped by the fence, by the VLAN test, by a poisoned
VLAN entry, by a rule or a policer. One that goes on to one port joins the end of its class's queue there with the charge
that admission finds, or is dropped there when it finds none. A cut-through frame's end gives back what its length did not need, what a lowered fold moved to common first; an error
ends the copy with its FCS inverted and counts at the ingress, there also when the copy is gone. -/
def Obligations.FrameDecisions : Prop :=
  (∀ (s : State) (p : SPort) (o : List Byte) (ok : Bool) (at_ : Nat) (ecc : List EccHit), portHeld s.dev p.val = false →
    (p.val ≠ 12 ∨ s.dev.aon.bankH = true) →
    fabricRuns s.dev = true → p.val ≠ 15 → portUp s.dev p.val = true →
    let d := eccFindAll ecc (hush s.dev)
    let d1 := countRx p.val (frameLen o) (frameDa o) d
    let dropped (code : Nat) (t : Dev) : Prop :=
      counterOf t 1 (32 * p.val) = (counterOf d 1 (32 * p.val) + 1) % 2 ^ 64 ∧
      counterOf t 1 (32 * p.val + 1) = (counterOf d 1 (32 * p.val + 1) + frameLen o) % 2 ^ 64 ∧
      counterOf t 1 (32 * p.val + 10 + code) = (counterOf d 1 (32 * p.val + 10 + code) + 1) % 2 ^ 64 ∧
      (swPort t p.val).lastDrop = code ∧ t.fab.queues = d.fab.queues ∧ t.fab.residues = d.fab.residues ∧ t.out = [] ∧
      SamePower t s.dev ∧ SameTime t s.dev ∧ SameStores t s.dev ∧ SameAon t s.dev
    let good := d.fab.resetting = false ∧ frameLen o ≤ maxFrame d p.val ∧ ok = true ∧ 64 ≤ frameLen o ∧ frameType o ≠ 0x8808 ∧
      mirrorsOf d 1 p.val = []
    (d.fab.resetting = true → Answers (.frameDecision p o ok at_ ecc) s (dropped 0x14)) ∧
    (d.fab.resetting = false → maxFrame d p.val < frameLen o → Answers (.frameDecision p o ok at_ ecc) s (dropped 0x02)) ∧
    (d.fab.resetting = false → frameLen o ≤ maxFrame d p.val → ok = false ∨ frameLen o < 64 →
      Answers (.frameDecision p o ok at_ ecc) s (dropped 0x01)) ∧
    (good → (swPort d p.val).fenced = true → fenceAdmits d1 p.val o = false →
      Answers (.frameDecision p o ok at_ ecc) s (dropped 0x03)) ∧
    (good → (swPort d p.val).fenced = false → vlanIngress d1 p.val (frameVid o) = .drop →
      Answers (.frameDecision p o ok at_ ecc) s (dropped 0x04)) ∧
    (good → (swPort d p.val).fenced = false → vlanIngress d1 p.val (frameVid o) = .fault →
      Answers (.frameDecision p o ok at_ ecc) s (dropped 0x05)) ∧
    (∀ (vid : Nat) (c : ClassEnd) (d2 : Dev), good → (swPort d p.val).fenced = false → p.val ≤ 12 →
      vlanIngress d1 p.val (frameVid o) = .vid vid → classify p.val vid o (learnFrom p.val vid o d1) = (c, d2) → c.mirror = none →
      (c.drop ≠ 0 → Answers (.frameDecision p o ok at_ ecc) s (dropped c.drop)) ∧
      (∀ q : Nat, c.drop = 0 → routerVrf d2 p.val o = none → bridgeDests d2 vid o = ⟨onePort q, false⟩ → q < 16 →
        maskDests p.val (onePort q) d2 = ([q], d2) → c.cls ≠ 7 →
        let x : Copy := { frame := d.fab.nextFrame, cells := cellsOf (frameLen o), fold := 0, common := 0, head := 0,
                          stamp := min at_ d.now, fromPort := p.val, octets := o, tagVid := some vid, pcp := c.pcp,
                          mirror := false, cut := false, punt := none }
        (∀ a k : Nat, admission d2 q c.cls x.cells (foldOf d2 q c.cls) = some (a, k) →
          Answers (.frameDecision p o ok at_ ecc) s fun t =>
            (queueOf t q c.cls).copies = (queueOf d q c.cls).copies ++ [{ x with fold := a, common := k }] ∧
            (queueOf t q c.cls).foldUse = (queueOf d q c.cls).foldUse + a ∧
            (queueOf t q c.cls).comUse = (queueOf d q c.cls).comUse + k ∧ t.fab.residues = d.fab.residues ∧
            t.fab.nextFrame = d.fab.nextFrame + 1 ∧ SamePower t s.dev ∧ SameTime t s.dev ∧ SameStores t s.dev ∧
            SameAon t s.dev) ∧
        (admission d2 q c.cls x.cells (foldOf d2 q c.cls) = none → (swPort d p.val).xoff = false →
          Answers (.frameDecision p o ok at_ ecc) s fun t => (swPort t q).lastDrop = 0x0C ∧ t.fab.queues = d.fab.queues ∧
            t.fab.residues = d.fab.residues ∧ SamePower t s.dev ∧ SameTime t s.dev ∧ SameStores t s.dev ∧ SameAon t s.dev)))) ∧
  (∀ (s : State) (p : SPort) (len : Nat) (bad : Bool), portHeld s.dev p.val = false → (p.val ≠ 12 ∨ s.dev.aon.bankH = true) →
    let found := (List.range 16).find? fun q => (swPort s.dev q).cutFrom == some p.val
    ((swPort s.dev p.val).cutIn = false → Answers (.cutThroughFrameEnd p len bad) s fun t => Became t (hush s.dev)) ∧
    ((swPort s.dev p.val).cutIn = true → found = none → Answers (.cutThroughFrameEnd p len bad) s fun t =>
      (swPort t p.val).cutIn = false ∧ t.out = [] ∧ (bad = true → (swPort t p.val).lastDrop = 0x01) ∧
      (bad = false → (swPort t p.val).lastDrop = (swPort s.dev p.val).lastDrop) ∧ t.fab.queues = s.dev.fab.queues ∧
      SamePower t s.dev ∧ SameTime t s.dev ∧ SameStores t s.dev ∧ SameAon t s.dev) ∧
    (∀ (q c : Nat) (x : Copy), (swPort s.dev p.val).cutIn = true → found = some q → (swPort s.dev q).sending = some (c, x) →
      let n := min x.cells (cellsOf len)
      let extra := x.fold + x.common - n
      let com := min x.common extra
      let fold := min x.fold (extra - com)
      Answers (.cutThroughFrameEnd p len bad) s fun t =>
        (swPort t p.val).cutIn = false ∧ (swPort t q).cutFrom = none ∧
        (swPort t q).sending = some (c, { x with cells := n, fold := x.fold - fold, common := x.common - com }) ∧
        (bad = true → (swPort t q).cutBad = satInc (swPort s.dev q).cutBad ∧ (swPort t p.val).lastDrop = 0x01 ∧
          (portHeld s.dev q = false → (q ≠ 12 ∨ s.dev.aon.bankH = true) → Emission.frameEnd q .fcsInverted ∈ t.out)) ∧
        (bad = false → (swPort t q).cutBad = (swPort s.dev q).cutBad ∧ (swPort t p.val).lastDrop = (swPort s.dev p.val).lastDrop) ∧
        (s.dev.fab.residues = [] → (queueOf t q c).foldUse = (queueOf s.dev q c).foldUse - fold ∧
          (queueOf t q c).comUse = (queueOf s.dev q c).comUse - com) ∧
        SamePower t s.dev ∧ SameTime t s.dev ∧ SameStores t s.dev ∧ SameAon t s.dev))

/-- Transmission and ageing (the buffer and scheduler sections of chapter 11). A port that may not start takes nothing. A selection
starts the copy at the head of the queue it picks, or discards it when the fence stops it, it has aged, or its cells hold an
error. When its last octet is read its charge is gone. A sweep leaves no stray at the head of any queue. A residue's time-out
drops its copies.
(Log entry 2: an expiry's command reaches its timer's instant first.) -/
def Obligations.Transmission : Prop :=
  (∀ (s : State) (p : SPort) (e : Bool),
    (canStart (hush s.dev) p.val = false → Answers (.transmitSelect p e) s fun t => Became t (hush s.dev)) ∧
    (canStart (hush s.dev) p.val = true → (pickQueue p.val (hush s.dev)).1 = none →
      Answers (.transmitSelect p e) s fun t => Became t (hush s.dev)) ∧
    (∀ (c : Nat) (d : Dev) (x : Copy) (rest : List Copy), canStart (hush s.dev) p.val = true →
      pickQueue p.val (hush s.dev) = (some c, d) → (queueOf d p.val c).copies = x :: rest →
      (fenceStops d p.val x = true → Answers (.transmitSelect p e) s fun t => (swPort t p.val).lastDrop = 0x0A ∧
        (swPort t p.val).sending = none ∧ SamePower t s.dev ∧ SameTime t s.dev ∧ SameStores t s.dev ∧ SameAon t s.dev) ∧
      (fenceStops d p.val x = false → isStray d c x = true →
        Answers (.transmitSelect p e) s fun t => (swPort t p.val).lastDrop = 0x0F ∧ (swPort t p.val).sending = none ∧
          SamePower t s.dev ∧ SameTime t s.dev ∧ SameStores t s.dev ∧ SameAon t s.dev) ∧
      (fenceStops d p.val x = false → isStray d c x = false →
        (Answers (.transmitSelect p true) s fun t => (swPort t p.val).lastDrop = 0x11 ∧ (swPort t p.val).sending = none ∧
          t.fab.eccDouble = satInc s.dev.fab.eccDouble ∧ t.od.alarmLatched.getLsbD 7 = true ∧ SamePower t s.dev ∧
          SameTime t s.dev ∧ SameStores t s.dev ∧ SameAon t s.dev) ∧
        (Answers (.transmitSelect p false) s fun t => (swPort t p.val).sending = some (c, x) ∧
          (portHeld s.dev p.val = false → (p.val ≠ 12 ∨ s.dev.aon.bankH = true) → Emission.frame p.val (egressOctets s.dev p.val c x) ∈ t.out) ∧
          counterOf t 1 (32 * p.val + 2) = (counterOf s.dev 1 (32 * p.val + 2) + 1) % 2 ^ 64 ∧
          (mirrorsOf s.dev 2 p.val = [] → (queueOf t p.val c).copies = rest ∧ t.fab.residues = s.dev.fab.residues) ∧
          SamePower t s.dev ∧ SameTime t s.dev ∧ SameStores t s.dev ∧ SameAon t s.dev)))) ∧
  (∀ (s : State) (p : SPort),
    ((swPort s.dev p.val).sending = none → ∀ e : Bool, Answers (.copyTransmitted p e) s fun t => Became t (hush s.dev)) ∧
    (∀ (c : Nat) (x : Copy), (swPort s.dev p.val).sending = some (c, x) →
      (Answers (.copyTransmitted p false) s fun t => (swPort t p.val).sending = none ∧ (swPort t p.val).cutFrom = none ∧
        (swPort t p.val).lastDrop = (swPort s.dev p.val).lastDrop ∧
        (p.val ≠ 13 ∨ x.punt = none → t.fab.puntQ = s.dev.fab.puntQ) ∧
        (∀ pt : Punt, p.val = 13 → x.punt = some pt → t.fab.puntQ = s.dev.fab.puntQ ++ [pt]) ∧
        (s.dev.fab.residues = [] → (queueOf t p.val c).foldUse = (queueOf s.dev p.val c).foldUse - x.fold ∧
          (queueOf t p.val c).comUse = (queueOf s.dev p.val c).comUse - x.common ∧
          (queueOf t p.val c).copies = (queueOf s.dev p.val c).copies) ∧
        SamePower t s.dev ∧ SameTime t s.dev ∧ SameStores t s.dev ∧ SameAon t s.dev) ∧
      (Answers (.copyTransmitted p true) s fun t => (swPort t p.val).sending = none ∧ (swPort t p.val).lastDrop = 0x11 ∧
        (portHeld s.dev p.val = false → (p.val ≠ 12 ∨ s.dev.aon.bankH = true) → Emission.frameEnd p.val .errorCode ∈ t.out) ∧
        t.fab.eccDouble = satInc s.dev.fab.eccDouble ∧ t.fab.puntQ = s.dev.fab.puntQ ∧ SamePower t s.dev ∧ SameTime t s.dev ∧
        SameStores t s.dev ∧ SameAon t s.dev))) ∧
  (∀ s : State,
    (fabricRuns s.dev = false → s.dev.boot.leaving = false → Answers .ageSweep s fun t => Became t (hush s.dev)) ∧
    (fabricRuns s.dev = true ∨ s.dev.boot.leaving = true →
      Answers .ageSweep s fun t =>
        (∀ (p c : Nat) (x : Copy) (rest : List Copy), p < 16 → c < 8 → (queueOf t p c).copies = x :: rest →
          t.now - x.stamp ≤ cfg t (0x7400 + c) 1 * us ∧
          (s.dev.fab.residues = [] → ∃ gone, (queueOf s.dev p c).copies = gone ++ x :: rest)) ∧
        (s.dev.fab.residues = [] → t.fab.residues = []) ∧
        SamePower t s.dev ∧ SameTime t s.dev ∧ SameStores t s.dev ∧ SameAon t s.dev)) ∧
  (∀ (s : State) (frame : Nat), armed (.residue frame) s.dev = true →
    Answers (.residueTimeout frame) s fun t =>
      (∀ r ∈ t.fab.residues, r.frame ≠ frame) ∧
      (∀ r ∈ s.dev.fab.residues, r.frame ≠ frame → r ∈ t.fab.residues) ∧
      (∀ r : Residue, (s.dev.fab.residues.find? fun r => r.frame == frame) = some r →
        ∀ x ∈ r.copies, (swPort t x.port).lastDrop = 0x0D) ∧
      t.fab.queues = s.dev.fab.queues ∧ t.now = (expired (.residue frame) s.dev).now ∧ armed (.residue frame) t = false ∧
      SamePower t s.dev ∧ SameStores t s.dev ∧ t.ng = s.dev.ng ∧ t.aon = s.dev.aon)

/-- PAUSE, links and MDIO (chapter 11). A PAUSE holds the port for its quanta, a later one replaces the remaining time and quanta 0
ends it (R419), and its expiry lets the port send; a port that does not take PAUSE counts it. XOFF is sent again while the use stays above XON. A link
comes up at a rate that MODE allows; when it goes down nothing is left for the port, and its stations are flushed.
(Log entry 2: an expiry's command reaches its timer's instant first.) -/
def Obligations.LinksAndPause : Prop :=
  (∀ (s : State) (p : SPort) (q : Half), portHeld s.dev p.val = false → (p.val ≠ 12 ∨ s.dev.aon.bankH = true) →
    let takes := hasPause p.val && portUp s.dev p.val && cfgOn s.dev (portObj p.val) 9
    let beside (t : Dev) : Prop := (∀ m : Nat, m ≠ p.val → swPort t m = swPort s.dev m) ∧ t.fab.queues = s.dev.fab.queues ∧
      SamePower t s.dev ∧ SameTime t s.dev ∧ SameStores t s.dev ∧ SameAon t s.dev
    (takes = true → q ≠ 0 → portSpeed s.dev p.val ≠ 0 →
      Answers (.pauseReceived p q) s fun t =>
        let ns := q.toNat * 512 * 1000 / portSpeed s.dev p.val
        swPort t p.val = { swPort s.dev p.val with pausedUntil := some (s.dev.now + ns) } ∧
        (Timer.pauseOff p.val, s.dev.now + ns) ∈ t.timers ∧ timeLeft (.pauseOff p.val) t = ns ∧
        canStart t p.val = false ∧ counterOf t 1 (32 * p.val + 8) = (counterOf s.dev 1 (32 * p.val + 8) + 1) % 2 ^ 64 ∧ beside t) ∧
    (takes = true → Answers (.pauseReceived p 0) s fun t =>
      swPort t p.val = { swPort s.dev p.val with pausedUntil := none } ∧ armed (.pauseOff p.val) t = false ∧
      counterOf t 1 (32 * p.val + 8) = (counterOf s.dev 1 (32 * p.val + 8) + 1) % 2 ^ 64 ∧ beside t) ∧
    (takes = false → Answers (.pauseReceived p q) s fun t =>
      swPort t p.val = { swPort s.dev p.val with pauseIgnored := satInc (swPort s.dev p.val).pauseIgnored } ∧ beside t)) ∧
  (∀ (s : State) (p : SPort),
    (armed (.pauseOff p.val) s.dev = true → Answers (.pauseExpiry p) s fun t =>
      swPort t p.val = { swPort s.dev p.val with pausedUntil := none } ∧ (∀ m : Nat, m ≠ p.val → swPort t m = swPort s.dev m) ∧
      armed (.pauseOff p.val) t = false ∧ t.now = (expired (.pauseOff p.val) s.dev).now ∧ t.fab.queues = s.dev.fab.queues ∧
      SamePower t s.dev ∧ SameStores t s.dev ∧ t.ng = s.dev.ng) ∧
    (armed (.pause p.val) s.dev = true → (swPort s.dev p.val).xoff = true →
      cfg s.dev (portObj p.val) 11 < ingressUsed s.dev p.val →
      Answers (.pauseResend p) s fun t =>
        (portHeld s.dev p.val = false → (p.val ≠ 12 ∨ s.dev.aon.bankH = true) → t.out = [.pause p.val (cfg s.dev (portObj p.val) 13)]) ∧
        runsFor (.pause p.val) (halfQuantaNs s.dev p.val) t ∧ (swPort t p.val).xoff = true ∧
        counterOf t 1 (32 * p.val + 9) = (counterOf s.dev 1 (32 * p.val + 9) + 1) % 2 ^ 64 ∧ t.fab.queues = s.dev.fab.queues ∧
        SamePower t s.dev ∧ SameStores t s.dev ∧ t.ng = s.dev.ng)) ∧
  (∀ (s : State) (p : SPort) (mbps : Nat),
    let allowed := hasPause p.val && hasPort s.dev p.val && fabricRuns s.dev && !(swPort s.dev p.val).phyDown &&
      modeAllows (cfg s.dev (portObj p.val) 1) mbps
    (allowed = true → Answers (.linkUp p mbps) s fun t => swPort t p.val = { swPort s.dev p.val with link := true, speed := mbps } ∧
      (∀ m : Nat, m ≠ p.val → swPort t m = swPort s.dev m) ∧ t.fab.queues = s.dev.fab.queues ∧ SamePower t s.dev ∧
      SameTime t s.dev ∧ SameStores t s.dev ∧ SameAon t s.dev) ∧
    (allowed = false → Answers (.linkUp p mbps) s fun t => Became t (hush s.dev))) ∧
  (∀ (s : State) (p : SPort), (swPort s.dev p.val).link = true →
    let down (t : Dev) : Prop := (swPort t p.val).link = false ∧ (swPort t p.val).speed = 0 ∧
      (swPort t p.val).sending = none ∧ (swPort t p.val).pausedUntil = none ∧
      (∀ c : Nat, c < 8 → (queueOf t p.val c).copies = []) ∧ (∀ r ∈ t.fab.residues, ∀ x ∈ r.copies, x.port ≠ p.val) ∧
      (s.dev.st.locks = [] → learnedOn t p.val = 0) ∧ armed .flushEnd t = true ∧ SamePower t s.dev ∧ SameTime t s.dev ∧
      SameStores t s.dev ∧ SameAon t s.dev
    Answers (.linkDown p) s down ∧
    (8 ≤ p.val → p.val ≤ 11 → hasPort s.dev p.val = true →
      (cfgOn s.dev (portObj p.val) 2 = true → cfg s.dev (portObj p.val) 1 = 1 ∨ cfg s.dev (portObj p.val) 1 = 2 →
        Answers (.halfDuplex p) s fun t => down t ∧ (swPort t p.val).halfDuplex = satInc (swPort s.dev p.val).halfDuplex) ∧
      (cfg s.dev (portObj p.val) 15 ≠ 0xFF → mgtRuns s.dev = true →
        Answers (.phyPoll p false) s fun t => down t ∧ (swPort t p.val).phyDown = true))) ∧
  (∀ (s : State) (p : SPort), 8 ≤ p.val → p.val ≤ 11 → hasPort s.dev p.val = true → cfg s.dev (portObj p.val) 15 ≠ 0xFF →
    mgtRuns s.dev = true →
    Answers (.phyPoll p true) s fun t => swPort t p.val = { swPort s.dev p.val with phyDown := false } ∧
      (∀ m : Nat, m ≠ p.val → swPort t m = swPort s.dev m) ∧
      (s.dev.aon.bankH = true → t.out = [.mdio 1 (cfg s.dev (portObj p.val) 15)
        (if cfgOn s.dev (portObj p.val) 16 then 0x10001 else 1)]) ∧
      t.fab.queues = s.dev.fab.queues ∧ SamePower t s.dev ∧ SameTime t s.dev ∧ SameStores t s.dev ∧ SameAon t s.dev) ∧
  (∀ (s : State) (p : SPort), (swPort s.dev p.val).link = false → Answers (.linkDown p) s fun t => Became t (hush s.dev)) ∧
  (∀ (s : State) (a : Bool) (v : Half), s.dev.fab.mdioStatus = 1 →
    (s.dev.fab.mdioOp = 2 → Answers (.mdioDone a v) s fun t => Became t
      { hush s.dev with fab := { s.dev.fab with mdioStatus := 0 } }) ∧
    (s.dev.fab.mdioOp ≠ 2 → a = true → s.dev.aon.bankH = true → Answers (.mdioDone a v) s fun t =>
      cfg t 0x7430 4 = v.toNat ∧ t.fab = { s.dev.fab with mdioStatus := 0 } ∧ SamePower t s.dev ∧ SameTime t s.dev ∧
      SameStores t s.dev ∧ SameAon t s.dev) ∧
    (s.dev.fab.mdioOp ≠ 2 → a = false → Answers (.mdioDone a v) s fun t =>
      cfg t 0x7430 4 = 0xFFFF ∧ t.fab = { s.dev.fab with mdioStatus := 2 } ∧ SamePower t s.dev ∧ SameTime t s.dev ∧
      SameStores t s.dev ∧ SameAon t s.dev))
/-! ### The tables at work -/

/-- The station table at work (learning, ageing, flushing and scrubbing of chapter 12). A learn request finds its address known, its port's limit
reached, a place in the table, a place in the stash, or none; a stash entry moves to the table when it has a place; the ager counts
dynamic entries down and removes them at 0, and leaves poisoned ones to the scrubber (log entry 49); a flush ends; the scrubber clears what was poisoned. A locked bucket is left alone. -/
def Obligations.StationTableWork : Prop :=
  (∀ (s : State) (q : LearnReq) (rest : List LearnReq), s.dev.st.learnQ = q :: rest →
    let d := s.dev
    let limit := cfg d (0x8000 + 0x40 * q.port) 4
    let e : Station := { mac := q.mac, fid := q.fid, static_ := false, flock := false, age := 7, dest := BitVec.ofNat 12 q.port }
    let b := bucketsOf d q.mac.toNat q.fid.toNat
    let place := placeKey (stationCuckoo d) d.st.victim b.1 b.2
    let beside (t : Dev) : Prop := t.st.learnQ = rest ∧ t.rt = d.rt ∧ t.cls = d.cls ∧ SamePower t d ∧ SameTime t d ∧
      SameStores t d ∧ SameAon t d
    (∀ (loc : Nat) (o : Station), stationFind d q.mac.toNat q.fid.toNat = some loc → stationAt d loc = some o →
      o.static_ = false → locFree d loc = true →
      Answers .learnRequest s fun t => stationAt t loc = some { o with age := 7 } ∧ t.fab = d.fab ∧ beside t) ∧
    (stationFind d q.mac.toNat q.fid.toNat = none → limit ≠ 0 → limit ≤ learnedOn d q.port →
      Answers .learnRequest s fun t => (swPort t q.port).limitHit = satInc (swPort d q.port).limitHit ∧
        t.st.ways = d.st.ways ∧ t.st.stash = d.st.stash ∧ beside t) ∧
    (stationFind d q.mac.toNat q.fid.toNat = none → (limit = 0 ∨ learnedOn d q.port < limit) →
      (∀ (moves : List (Nat × Nat)) (way : Nat), place = some (moves, way) → way < 0x10000 →
        Answers .learnRequest s fun t => tfind t.st.ways way = some e ∧ t.st.victim = (d.st.victim + 1) % 4 ∧
          t.st.relocations = min (d.st.relocations + moves.length) 0xFFFFFFFF ∧
          (moves = [] → t.st.stash = d.st.stash ∧ ∀ i : Nat, i ≠ way → tfind t.st.ways i = tfind d.st.ways i) ∧
          t.fab = d.fab ∧ beside t) ∧
      (∀ i : Nat, place = none → isLocked d tStash 0 = false →
        ((List.range 32).find? fun s => (tfind d.st.stash s).isNone) = some i →
        Answers .learnRequest s fun t => tfind t.st.stash i = some e ∧ t.st.ways = d.st.ways ∧
          (∀ j : Nat, j ≠ i → tfind t.st.stash j = tfind d.st.stash j) ∧ t.fab = d.fab ∧ beside t) ∧
      (place = none → isLocked d tStash 0 = true ∨ (∀ i : Nat, i < 32 → (tfind d.st.stash i).isSome = true) →
        Answers .learnRequest s fun t => t.st.learnFull = satInc d.st.learnFull ∧ t.st.ways = d.st.ways ∧
          t.st.stash = d.st.stash ∧ t.fab = d.fab ∧ beside t))) ∧
  (∀ s : State, s.dev.st.learnQ = [] → Answers .learnRequest s fun t => Became t (hush s.dev)) ∧
  (∀ (s : State) (i : Nat) (e : Station), isLocked s.dev tStash 0 = false →
    ((List.range 32).find? fun i => (tfind s.dev.st.stash ((s.dev.st.drainNext + i) % 32)).isSome &&
      !poisoned s.dev tStash ((s.dev.st.drainNext + i) % 32)) = some i →
    let n := (s.dev.st.drainNext + i) % 32
    let b := bucketsOf s.dev e.mac.toNat e.fid.toNat
    tfind s.dev.st.stash n = some e →
    (∀ (moves : List (Nat × Nat)) (way : Nat), placeKey (stationCuckoo s.dev) s.dev.st.victim b.1 b.2 = some (moves, way) →
      way < 0x10000 →
      Answers .stashDrain s fun t => tfind t.st.ways way = some e ∧ tfind t.st.stash n = none ∧
        t.st.drainNext = (n + 1) % 32 ∧ t.fab = s.dev.fab ∧ t.rt = s.dev.rt ∧ SamePower t s.dev ∧ SameTime t s.dev ∧
        SameStores t s.dev ∧ SameAon t s.dev) ∧
    (placeKey (stationCuckoo s.dev) s.dev.st.victim b.1 b.2 = none →
      Answers .stashDrain s fun t => t.st = { s.dev.st with drainNext := (n + 1) % 32, victim := (s.dev.st.victim + 1) % 4 } ∧
        t.fab = s.dev.fab ∧ t.rt = s.dev.rt ∧ SamePower t s.dev ∧ SameTime t s.dev ∧ SameStores t s.dev ∧ SameAon t s.dev)) ∧
  (∀ s : State, isLocked s.dev tStash 0 = true → Answers .stashDrain s fun t => Became t (hush s.dev)) ∧
  (∀ (s : State) (i : Nat), i < 2 * halfBuckets s.dev →
    (cfg s.dev 0x8400 1 = 0 ∨ isLocked s.dev tStation i = true → Answers (.agerVisit i) s fun t => Became t (hush s.dev)) ∧
    (cfg s.dev 0x8400 1 ≠ 0 → isLocked s.dev tStation i = false →
      Answers (.agerVisit i) s fun t =>
        (∀ w : Nat, w < 4 → tfind t.st.ways (4 * i + w) = match tfind s.dev.st.ways (4 * i + w) with
          | none => none
          | some e => if e.static_ || poisoned s.dev tStation (4 * i + w) then some e else if e.age = 0 then none else some { e with age := e.age - 1 }) ∧
        (∀ j : Nat, j / 4 ≠ i → tfind t.st.ways j = tfind s.dev.st.ways j) ∧ t.st.stash = s.dev.st.stash ∧
        t.fab = s.dev.fab ∧ t.rt = s.dev.rt ∧ t.cls = s.dev.cls ∧ SamePower t s.dev ∧ SameTime t s.dev ∧
        SameStores t s.dev ∧ SameAon t s.dev)) ∧
  (∀ (s : State) (i : Nat), i < 32 → cfg s.dev 0x8400 1 ≠ 0 → isLocked s.dev tStash 0 = false →
    Answers (.agerVisit (2 * halfBuckets s.dev + i)) s fun t =>
      (tfind t.st.stash i = match tfind s.dev.st.stash i with
        | none => none
        | some e => if e.static_ || poisoned s.dev tStash i then some e
            else if e.age = 0 then none else some { e with age := e.age - 1 }) ∧
      (∀ j : Nat, j ≠ i → tfind t.st.stash j = tfind s.dev.st.stash j) ∧ t.st.ways = s.dev.st.ways ∧ t.fab = s.dev.fab ∧
      t.rt = s.dev.rt ∧ t.cls = s.dev.cls ∧ SamePower t s.dev ∧ SameTime t s.dev ∧ SameStores t s.dev ∧ SameAon t s.dev) ∧
  (∀ s : State, Answers .flushDone s fun t => t.st = { s.dev.st with flushing := [] } ∧
    (s.dev.st.flushing ≠ [] → armed .flushEnd t = false) ∧ t.fab = s.dev.fab ∧ t.rt = s.dev.rt ∧ t.cls = s.dev.cls ∧
    SamePower t s.dev ∧ SameTime t s.dev ∧ SameStores t s.dev ∧ SameAon t s.dev) ∧
  (∀ (s : State) (us_ : Nat) (ecc : List EccHit),
    let u := eccFindAll ecc (hush s.dev)
    Answers (.scrubPass us_ ecc) s fun t => t.st.scrubUs = us_ % 2 ^ 32 ∧
    (∀ i : Nat, i < 0x10000 → (tStation, i) ∈ u.st.poison → isLocked u tStation (i / 4) = false →
      tfind t.st.ways i = none ∧ poisoned t tStation i = false) ∧
    (∀ i : Nat, i < 0x10000 → (tStation, i) ∉ u.st.poison → tfind t.st.ways i = tfind u.st.ways i) ∧
    (∀ i : Nat, (tVlan, i) ∈ u.st.poison → poisoned t tVlan i = true) ∧ t.st.vlans = u.st.vlans ∧
    t.fab = u.fab ∧ t.rt = u.rt ∧ t.cls = u.cls ∧ SamePower t s.dev ∧ SameTime t s.dev ∧ SameStores t s.dev ∧
    SameAon t s.dev) ∧
  (∀ (d : Dev) (table : Byte) (i : Nat), table.toNat < 0xB0 →
    (eccFind { table := table, index := i, double := false } d).st =
      { d.st with eccCorrected := satInc d.st.eccCorrected } ∧
    poisoned (eccFind { table := table, index := i, double := true } d) table.toNat i = true ∧
    (poisoned d table.toNat i = false →
      (eccFind { table := table, index := i, double := true } d).od.alarmLatched.getLsbD 6 = true))

/-- Routes at work (the second pass, the OD editor, faults and punts of chapter 13). A frame at port L probes the rest of its list: it is routed, or goes to port M with a
reason; a disabled VRF drops it. A route command ends with the prefix list changed, full, or its prefix not found. In OD mode a
poisoned route entry is rewritten; a punted frame is recorded. -/
def Obligations.RoutesAtWork : Prop :=
  (∀ (s : State) (c : Nat) (d : Dev) (x : Copy) (rest : List Copy) (f : LoopFrame) (ecc : List EccHit),
    let u := eccFindAll ecc (hush s.dev)
    fabricRuns s.dev = true →
    u.fab.resetting = false → pickQueue 15 u = (some c, d) → (queueOf d 15 c).copies = x :: rest →
    isStray d c x = false → (u.fab.loop.find? fun f => f.frame == x.frame) = some f →
    let beside (t : Dev) : Prop := t.fab.loop = u.fab.loop.filter (fun y => y.frame != x.frame) ∧ SamePower t s.dev ∧
      SameTime t s.dev ∧ SameStores t s.dev ∧ SameAon t s.dev
    (cfg u (0x9400 + f.vrf) 0 = 0 →
      Answers (.routeSecondPass ecc) s fun t => t.rt.causes = tset 0 u.rt.causes causeUnroutable
        (satInc (tget 0 u.rt.causes causeUnroutable)) ∧ (swPort t x.fromPort).lastDrop = 0x08 ∧ t.st = u.st ∧ beside t) ∧
    (cfg u (0x9400 + f.vrf) 0 ≠ 0 →
      (∀ (e : TrieEnd) (cause : Nat), pass6 u f.vrf (routeDst x.octets) 6 f.cands = .inl e →
        afterLookup u f.vrf c x.pcp x.octets 3 e = .drop cause →
        Answers (.routeSecondPass ecc) s fun t => tget 0 t.rt.causes cause = satInc (tget 0 u.rt.causes cause) ∧
          (swPort t x.fromPort).lastDrop = 0x08 ∧ t.st = u.st ∧ beside t) ∧
      (∀ (e : TrieEnd) (o : List Byte) (vid : Nat) (ports : BitVec 16),
        pass6 u f.vrf (routeDst x.octets) 6 f.cands = .inl e →
        afterLookup u f.vrf c x.pcp x.octets 3 e = .to o vid ports →
        Answers (.routeSecondPass ecc) s fun t => tget 0 t.rt.routed f.vrf = satInc (tget 0 u.rt.routed f.vrf) ∧
          t.rt.causes = u.rt.causes ∧ t.st = u.st ∧ beside t) ∧
      (∀ l : List Nat, pass6 u f.vrf (routeDst x.octets) 6 f.cands = .inr l → x.fromPort ≠ 13 → u.fab.residues = [] →
        mirrorsOf u 2 15 = [] →
        hasPort u 13 = true → portUp u 13 = true → (swPort u 13).fenced = false → c ≠ 7 →
        (queueOf u 13 c).foldUse + cellsOf (frameLen x.octets) ≤ foldOf u 13 c →
        Answers (.routeSecondPass ecc) s fun t => t.rt = u.rt ∧ t.st = u.st ∧ beside t ∧
          ∃ y : Copy, (queueOf t 13 c).copies = (queueOf u 13 c).copies ++ [y] ∧ y.octets = x.octets ∧
            ∃ p : Punt, y.punt = some p ∧ p.reason = 1 ∧ p.vrf = f.vrf ∧ p.inPort = x.fromPort))) ∧
  (∀ (s : State) (c : Nat) (d : Dev) (x : Copy) (rest : List Copy) (ecc : List EccHit),
    let u := eccFindAll ecc (hush s.dev)
    fabricRuns s.dev = true → u.fab.resetting = false →
    pickQueue 15 u = (some c, d) → (queueOf d 15 c).copies = x :: rest → isStray d c x = true →
    Answers (.routeSecondPass ecc) s fun t => (swPort t 15).lastDrop = 0x0F ∧
      t.fab.loop = u.fab.loop.filter (fun y => y.frame != x.frame) ∧ t.rt = u.rt ∧ t.st = u.st ∧
      SamePower t s.dev ∧ SameTime t s.dev ∧ SameStores t s.dev ∧ SameAon t s.dev) ∧
  (∀ (s : State) (ecc : List EccHit), fabricRuns s.dev = false → Answers (.routeSecondPass ecc) s fun t => Became t (hush s.dev)) ∧
  (∀ (s : State) (q : RouteCmd), s.dev.rt.running = some q →
    let same (x : Route) : Bool := sameRoute x q.route
    let rest := s.dev.rt.routes.filter fun x => !same x
    let e6 : V6Entry := { prefix_ := q.route.addr, length := q.route.length, vrf := q.route.vrf,
                          nextHop := BitVec.ofNat 12 q.route.nh }
    let ends (result : Nat) (l : List Route) (t : Dev) : Prop := t.rt.running = none ∧ t.rt.routes = l ∧
      sel t q.sess 0x9600 5 = result ∧ armed .route t = false ∧ t.fab = s.dev.fab ∧ t.cls = s.dev.cls ∧ SamePower t s.dev ∧
      SameTime t s.dev ∧ SameStores t s.dev ∧ SameAon t s.dev
    (q.add = true → q.route.v6 = false →
      Answers .routeCommandDone s fun t =>
        if (buildTrie (rest ++ [q.route])).fits then ends rDone (rest ++ [q.route]) t
        else ends rFull s.dev.rt.routes t ∧ t.rt.first = s.dev.rt.first ∧ t.rt.pool0 = s.dev.rt.pool0 ∧
          t.rt.pool1 = s.dev.rt.pool1) ∧
    (∀ way : Nat, q.add = true → q.route.v6 = true →
      find6 s.dev q.route.vrf q.route.length q.route.addr.toNat = some way →
      Answers .routeCommandDone s fun t => ends rDone (rest ++ [q.route]) t ∧ t.rt.bloom = s.dev.rt.bloom ∧
        t.rt.count6 = s.dev.rt.count6) ∧
    (q.add = true → q.route.v6 = true → (insert6 e6 s.dev).1 = none →
      find6 s.dev q.route.vrf q.route.length q.route.addr.toNat = none →
      Answers .routeCommandDone s fun t => ends rFull s.dev.rt.routes t ∧ t.rt.ways6 = s.dev.rt.ways6) ∧
    (∀ way : Nat, q.add = true → q.route.v6 = true → (insert6 e6 s.dev).1 = some way →
      find6 s.dev q.route.vrf q.route.length q.route.addr.toNat = none →
      Answers .routeCommandDone s fun t => ends rDone (rest ++ [q.route]) t ∧
        tfind t.rt.ways6 way = some e6) ∧
    (q.add = false → (s.dev.rt.routes.any same) = false →
      Answers .routeCommandDone s fun t => ends rNotFound s.dev.rt.routes t ∧ t.rt.first = s.dev.rt.first ∧
        t.rt.ways6 = s.dev.rt.ways6) ∧
    (q.add = false → (s.dev.rt.routes.any same) = true → Answers .routeCommandDone s (ends rDone rest))) ∧
  (∀ s : State, s.dev.rt.running = none → Answers .routeCommandDone s fun t => Became t (hush s.dev)) ∧
  (∀ (s : State) (table : Byte) (i : Nat), table.toNat ∈ [tFirst, tPool0, tPool1, tHash6] →
    (cfg s.dev 0x9500 0 = 0 → Answers (.routeRepair table i) s fun t => poisoned t table.toNat i = false ∧
      (∀ x ∈ s.dev.st.poison, x ≠ (table.toNat, i) → x ∈ t.st.poison) ∧ t.rt = s.dev.rt ∧ t.st.ways = s.dev.st.ways ∧
      t.fab = s.dev.fab ∧ SamePower t s.dev ∧ SameTime t s.dev ∧ SameStores t s.dev ∧ SameAon t s.dev) ∧
    (cfg s.dev 0x9500 0 ≠ 0 → Answers (.routeRepair table i) s fun t => Became t (hush s.dev))) ∧
  (∀ (s : State) (x : Punt) (rest : List Punt), s.dev.fab.puntQ = x :: rest →
    Answers .puntReceived s fun t => t.fab = { s.dev.fab with puntQ := rest } ∧ t.rt.lastPunt.take 4 =
        [BitVec.ofNat 8 x.reason, BitVec.ofNat 8 x.vrf, BitVec.ofNat 8 x.family, BitVec.ofNat 8 x.inPort] ∧
      t.rt.lastPunt.length = 20 ∧ t.rt.depth = (if x.reason = 1 then satInc s.dev.rt.depth else s.dev.rt.depth) ∧
      t.st = s.dev.st ∧ t.cls = s.dev.cls ∧ SamePower t s.dev ∧ SameTime t s.dev ∧ SameStores t s.dev ∧ SameAon t s.dev)

/-- Shapers and the tally (chapter 14, and the snapshots of chapter 5). A refill adds RATE / 8,000 bytes to each shaper that is on, to no more
than BURST, and puts pending settings in force; an export rearms its INTERVAL and takes the next sequence number; a snapshot holds
the counters of its range with TSNAP_TIME at the capture time, raises TSNAP_SEQ by 1, and ends; a TAKE while BUSY is 1 is ignored
(R187).
(Log entry 2: an expiry's command reaches its timer's instant first.) -/
def Obligations.ShapersAndTally : Prop :=
  (∀ s : State, (fabricRuns s.dev = false ∧ s.dev.boot.leaving = false) ∨ s.dev.fab.resetting = true →
    Answers .shaperRefill s fun t => Became t (hush s.dev)) ∧
  (∀ s : State, fabricRuns s.dev = true → s.dev.fab.resetting = false →
    (s.dev.fab.pendingShape = [] → Answers .shaperRefill s fun t =>
      t.fab.refills = (s.dev.fab.refills + 1) % 2 ^ 32 ∧
      (∀ p c : Nat, c < 8 → (queueOf s.dev p c).rate ≠ 0 →
        (queueOf t p c).tokens = min ((queueOf s.dev p c).tokens +
          (((queueOf s.dev p c).rate * 65536 + (queueOf s.dev p c).carry) / 8000 : Nat)) ((queueOf s.dev p c).burst * 65536 : Nat) ∧
        (queueOf t p c).carry = ((queueOf s.dev p c).rate * 65536 + (queueOf s.dev p c).carry) % 8000) ∧
      (∀ p c : Nat, c < 8 → (queueOf s.dev p c).rate = 0 → queueOf t p c = queueOf s.dev p c) ∧
      (∀ p : Nat, (swPort s.dev p).rate ≠ 0 →
        (swPort t p).tokens = min ((swPort s.dev p).tokens +
          (((swPort s.dev p).rate * 65536 + (swPort s.dev p).carry) / 8000 : Nat)) ((swPort s.dev p).burst * 65536 : Nat) ∧
        (swPort t p).carry = ((swPort s.dev p).rate * 65536 + (swPort s.dev p).carry) % 8000) ∧
      (∀ p : Nat, (swPort s.dev p).rate = 0 → swPort t p = swPort s.dev p) ∧ t.st = s.dev.st ∧ t.cls = s.dev.cls ∧
      SamePower t s.dev ∧ SameTime t s.dev ∧ SameStores t s.dev ∧ SameAon t s.dev) ∧
    (∀ p : SPort, s.dev.fab.pendingShape = [p.val] → Answers .shaperRefill s fun t =>
      t.fab.pendingShape = [] ∧ (swPort t p.val).applied = (s.dev.fab.refills + 1) % 2 ^ 32 ∧
      (swPort t p.val).rate = cfg s.dev (shapeObj p.val) 16 ∧ (swPort t p.val).burst = cfg s.dev (shapeObj p.val) 17 ∧
      (∀ c : Nat, c < 8 → (queueOf t p.val c).rate = cfg s.dev (shapeObj p.val) (19 + c) ∧
        (queueOf t p.val c).burst = cfg s.dev (shapeObj p.val) (27 + c) ∧
        (queueOf t p.val c).copies = (queueOf s.dev p.val c).copies) ∧
      SamePower t s.dev ∧ SameTime t s.dev ∧ SameStores t s.dev ∧ SameAon t s.dev)) ∧
  (∀ s : State, armed .exports s.dev = true →
    (cfgOn s.dev 0xB400 0 = false → Answers .tallyExport s fun t => Became t (expired .exports s.dev)) ∧
    (cfgOn s.dev 0xB400 0 = true → fabricRuns s.dev = true → s.dev.fab.resetting = false →
      Answers .tallyExport s fun t => t.fab.exportSeq = (s.dev.fab.exportSeq + 1) % 2 ^ 32 ∧
        runsFor .exports (cfg s.dev 0xB400 1 * ms) t ∧
        (cfg s.dev 0xB400 2 = 1 → cfg s.dev 0xB400 5 = 1 →
          ∀ i ∈ rangeCounters 1 (cfg s.dev 0xB400 3) (min (cfg s.dev 0xB400 4) (512 - cfg s.dev 0xB400 3)), counterOf t 1 i = 0) ∧
        (cfg s.dev 0xB400 5 = 0 → t.fab.set0 = s.dev.fab.set0 ∧ t.fab.set1 = s.dev.fab.set1) ∧
        (portUp s.dev 12 = false → t.fab.queues = s.dev.fab.queues) ∧
        SamePower t s.dev ∧ SameStores t s.dev ∧ t.ng = s.dev.ng ∧ t.aon = s.dev.aon)) ∧
  (∀ s : State, hwAnswers s.dev = true → odServes s.dev = true → s.dev.hw.snapSet ≠ 3 →
    let h := s.dev.hw
    let set_ := h.snapSet.toNat
    let l := rangeCounters set_ h.snapFirst.toNat h.snapCount.toNat
    let octets := l.flatMap fun i => leBytes 8 (counterOf s.dev set_ i)
    (h.snapBusy = true → Answers .tsnapTake s fun t => Became t { hush s.dev with hw := { h with hiz := false } }) ∧
    (h.snapBusy = false → setEntries set_ < h.snapFirst.toNat + h.snapCount.toNat →
      Answers .tsnapTake s fun t => irq t 9 = true ∧ t.hw.xferStatus = h.xferStatus ||| 0x80 ∧ t.hw.snap = h.snap ∧
        t.fab = s.dev.fab ∧ SameRest t s.dev) ∧
    (h.snapBusy = false → h.snapFirst.toNat + h.snapCount.toNat ≤ setEntries set_ →
      Answers .tsnapTake s fun t => readBytes 0 t.hw.snap 0 octets.length = octets ∧ t.hw.snapBusy = true ∧
        t.hw.snapTime = BitVec.ofNat 64 (taiNs s.dev) ∧ t.hw.snapSeq = h.snapSeq + 1 ∧ runsFor .snap (200 * us) t ∧
        (h.snapClear = false → t.fab = s.dev.fab) ∧
        (h.snapClear = true → set_ < 2 → ∀ i ∈ l, counterOf t set_ i = 0) ∧ t.st = s.dev.st ∧ t.rt = s.dev.rt ∧
        SamePower t s.dev ∧ SameTime t s.dev ∧ SameStores t s.dev ∧ SameAon t s.dev)) ∧
  (∀ s : State,
    (s.dev.hw.snapBusy = true → Answers .tsnapDone s fun t => t.hw.snapBusy = false ∧ irq t 6 = true ∧
      armed .snap t = false ∧ t.hw.snap = s.dev.hw.snap ∧ t.hw.snapSeq = s.dev.hw.snapSeq ∧ t.fab = s.dev.fab ∧ SameRest t s.dev) ∧
    (s.dev.hw.snapBusy = false → Answers .tsnapDone s fun t => Became t (hush s.dev)))
/-! ### Heat and air -/

/-- Sensing, the model and derating (chapter 15). A round is recorded and rearmed, and each sensor read by
its trim, or failed without one; the SX7220 derates by its reading. A step runs the network and the look-ahead; a late record is made
up for, and a dt that would exceed 4 ms instead holds every node and every ceiling and the model goes to FAULT (R571). The ceiling of a port shed for heat is 0; a release removes both ceilings.
(Log entry 2: an expiry's command reaches its timer's instant first.) -/
def Obligations.HeatModel : Prop :=
  (∀ (s : State) (r : RoundRecord), mgtRuns s.dev = true → isSmall s.dev = false →
    Answers (.housekeepingRound r) s fun t =>
      t.heat.lastRound = some r ∧ t.heat.fresh = true ∧ t.heat.round = (s.dev.heat.round + 1) % 2 ^ 32 ∧ t.heat.icore = r.icore ∧
      t.heat.vsys = r.vsys ∧ t.heat.vconnIn = r.vconnIn ∧ t.heat.ptat = r.ptat ∧ t.shep.srcIn = r.srcIn ∧
      runsFor .round ms t ∧ runsFor .stepLate (1500 * us) t ∧
      (∀ n : Nat, n < 8 → hasPort s.dev n = true → (cable t n).vbus = r.vbus.getD n 0 ∧ (cable t n).ibus = r.ibus.getD n 0 ∧
        (cable t n).ibusRms = r.rms.getD n 0) ∧
      (∀ i : Nat, i < 4 → (sensorOf t i).count = r.ro.getD i 0 ∧
        (roTrim s.dev i = none → (sensorOf t i).failed = true) ∧
        (∀ k : Nat × Nat, roTrim s.dev i = some k → (sensorOf t i).temp = roTemp k (r.ro.getD i 0) ∧
          (roTemp k (r.ro.getD i 0) < -60 * 65536 ∨ 160 * 65536 < roTemp k (r.ro.getD i 0) → (sensorOf t i).failed = true))) ∧
      SameSwitch t s.dev ∧ t.slots = s.dev.slots ∧ t.otp = s.dev.otp ∧ t.flash = s.dev.flash ∧ t.ng = s.dev.ng) ∧
  (∀ (s : State) (r : RoundRecord) (k : Nat × Nat), mgtRuns s.dev = true → isSmall s.dev = true → roTrim s.dev 2 = some k →
    (sensorOf s.dev 2).failed = false → (sensorOf s.dev 2).disagree < 7 → s.dev.heat.gateSince = none →
    -60 * 65536 ≤ roTemp k (r.ro.getD 2 0) → roTemp k (r.ro.getD 2 0) ≤ 160 * 65536 →
    (cfg s.dev 0xC500 3 : Int) * 65536 ≤ roTemp k (r.ro.getD 2 0) →
    Answers (.housekeepingRound r) s fun t => t.heat.gateSince = some t.now) ∧
  (∀ (s : State) (r : RoundRecord), mgtRuns s.dev = false → Answers (.housekeepingRound r) s fun t => Became t (hush s.dev)) ∧
  (∀ s : State, planesRun s.dev = true → s.dev.heat.fresh = true → due .stepLate s.dev = false →
    Answers .modelStep s fun t => t.heat.fresh = false ∧ t.heat.lastStepAt = s.dev.now ∧ armed .stepLate t = false ∧
      (hasUnit s.dev 4 = false ∨ s.dev.heat.fault = true → t.heat.t = s.dev.heat.t ∧ t.heat.pred = s.dev.heat.pred ∧
        t.heat.fault = s.dev.heat.fault) ∧
      (hasUnit s.dev 4 = true → s.dev.heat.fault = false →
        let net := network s.dev (fanShare s.dev)
        let p := (List.range 16).map fun i => nodePower s.dev i
        t.heat.t = stepNodes net (ambient s.dev) p 1 s.dev.heat.t ∧
        t.heat.pred = lookAhead net (ambient s.dev) p t.heat.t ∧ t.heat.power = p ∧
        t.heat.fault = !(t.heat.t.all inRange && t.heat.pred.all inRange)) ∧
      t.slots = s.dev.slots ∧ t.otp = s.dev.otp ∧ t.flash = s.dev.flash ∧ t.ng = s.dev.ng) ∧
  (∀ s : State, planesRun s.dev = false ∨ s.dev.heat.fresh = false → Answers .modelStep s fun t => Became t (hush s.dev)) ∧
  (∀ s : State, planesRun s.dev = true → armed .stepLate s.dev = true →
    let dt := ((expired .stepLate s.dev).now - s.dev.heat.lastStepAt) / ms
    Answers .roundRecordLate s fun t => t.od.watchLate = satInc s.dev.od.watchLate ∧ t.heat.fresh = false ∧
      (4 < dt → t.heat.fault = true ∧ t.heat.t = s.dev.heat.t ∧ t.heat.pred = s.dev.heat.pred ∧ t.cables = s.dev.cables ∧
        ∀ f : Fin 2, hasFan s.dev f.val = true → (fanOf t f.val).wanted = 1024) ∧
      (dt ≤ 4 → hasUnit s.dev 4 = true → s.dev.heat.fault = false →
        t.heat.t = stepNodes (network s.dev (fanShare s.dev)) (ambient s.dev) ((List.range 16).map fun i => nodePower s.dev i) dt
          s.dev.heat.t ∧ t.heat.lastStepAt = t.now) ∧
      t.otp = s.dev.otp ∧ t.flash = s.dev.flash ∧ t.ng = s.dev.ng) ∧
  (∀ (s : State) (n : CPort) (at_ : Nat), (cable s.dev n.val).hotSince = some at_ →
    ((cable s.dev n.val).powerRole = .source → s.dev.heat.fault = false →
      Answers (.heatShed n) s fun t => (cable t n.val).thermCeil = some 0 ∧
        ((cable s.dev n.val).thermCeil ≠ some 0 → (cable t n.val).heat = .shed ∧
          (sourcing (cable s.dev n.val) = true → t.shep.stepDue = true)) ∧
        (∀ m : Nat, m ≠ n.val → cable t m = cable s.dev m) ∧ SameSwitch t s.dev ∧ t.slots = s.dev.slots ∧ SameStores t s.dev ∧
        t.ng = s.dev.ng ∧ t.aon = s.dev.aon) ∧
    ((cable s.dev n.val).powerRole ≠ .source → Answers (.heatShed n) s fun t => Became t (hush s.dev))) ∧
  (∀ (s : State) (n : CPort) (at_ : Nat), (cable s.dev n.val).coolSince = some at_ →
    (s.dev.heat.fault = false → (cable s.dev n.val).thermCeil ≠ none ∨ (cable s.dev n.val).sinkCeil ≠ none →
      Answers (.ceilingRelease n) s fun t => (cable t n.val).thermCeil = none ∧ (cable t n.val).sinkCeil = none ∧
        (cable t n.val).heat = .normal ∧ (cable t n.val).contract = (cable s.dev n.val).contract ∧
        (∀ m : Nat, m ≠ n.val → cable t m = cable s.dev m) ∧ SameSwitch t s.dev ∧ t.slots = s.dev.slots ∧ SameStores t s.dev ∧
        t.ng = s.dev.ng ∧ t.aon = s.dev.aon) ∧
    (s.dev.heat.fault = true → Answers (.ceilingRelease n) s fun t => Became t (hush s.dev)))

/-- Fans, silence and the critical comparator (chapter 15). A reload takes the newest duty; tach edges give the speed, their
absence 0; a stalled channel drives the other full, and so does a silent host; a commissioning period leads to the next; CRIT_IN_N
turns sourcing gates and VCONN off and the fans on; its release supplies a port whose VBUS waited for that alone (log entry 50).
(Log entry 2: an expiry's command reaches its timer's instant first.) -/
def Obligations.FansAndCritical : Prop :=
  (∀ (s : State) (f : Fin 2), mgtRuns s.dev = true → hasFan s.dev f.val = true →
    let x := fanOf s.dev f.val
    Answers (.fanReload f) s fun t => (fanOf t f.val).period = (x.period + 1) % 2 ^ 32 ∧
      (fanOf t f.val).applied = (if x.newDuty then x.wanted else x.applied) ∧ (fanOf t f.val).newDuty = false ∧
      (s.dev.shep.critical = true ∨ isReady s.dev = false → (fanOf t f.val).highTicks = 160) ∧
      (s.dev.shep.critical = false → isReady s.dev = true →
        (fanOf t f.val).highTicks * 32 + (fanOf t f.val).fraction = (if x.newDuty then x.wanted else x.applied) * 5 + x.fraction) ∧
      runsFor (.fanReload f.val) (40 * us) t ∧ (∀ g : Nat, g ≠ f.val → fanOf t g = fanOf s.dev g) ∧ SameSwitch t s.dev ∧
      SamePower t s.dev ∧ t.otp = s.dev.otp ∧ t.flash = s.dev.flash ∧ t.ng = s.dev.ng) ∧
  (∀ (s : State) (f : Fin 2), s.dev.aon.bankS = true → mgtRuns s.dev = true → hasFan s.dev f.val = true →
    let x := fanOf s.dev f.val
    let same (t : Dev) : Prop := (∀ g : Nat, g ≠ f.val → fanOf t g = fanOf s.dev g) ∧ SameSwitch t s.dev ∧ SamePower t s.dev ∧
      SameTime t s.dev ∧ t.otp = s.dev.otp ∧ t.flash = s.dev.flash ∧ SameAon t s.dev
    (∀ e : Nat, x.lastEdge = some e → s.dev.now < e + 250 * us → Answers (.tachEdge f) s fun t =>
      fanOf t f.val = { x with lastEdge := some s.dev.now } ∧ same t) ∧
    (∀ e : Nat, (x.lastEdge = none ∨ x.lastEdge = some e ∧ e + 250 * us ≤ s.dev.now) → cfg s.dev (fanObj f.val) 6 < 5 →
      Answers (.tachEdge f) s fun t => (fanOf t f.val).lastEdge = some s.dev.now ∧
        (fanOf t f.val).edges = (s.dev.now :: x.edges).take 5 ∧ runsFor (.tach f.val) sec t ∧
        (∀ b : Nat, (s.dev.now :: x.edges)[cfg s.dev (fanObj f.val) 6]? = some b →
          (fanOf t f.val).rpm = 240000000 / max 1 ((s.dev.now - b) / 250)) ∧
        ((s.dev.now :: x.edges).length ≤ cfg s.dev (fanObj f.val) 6 → (fanOf t f.val).rpm = x.rpm) ∧ same t)) ∧
  (∀ (s : State) (f : Fin 2),
    let beside (t : Dev) : Prop := SameSwitch t s.dev ∧ SamePower t s.dev ∧ t.otp = s.dev.otp ∧ t.flash = s.dev.flash ∧
      t.ng = s.dev.ng ∧ t.aon = s.dev.aon
    (armed (.tach f.val) s.dev = true → Answers (.tachTimeout f) s fun t => (fanOf t f.val).rpm = 0 ∧
      armed (.tach f.val) t = false ∧ (∀ g : Nat, g ≠ f.val → fanOf t g = fanOf s.dev g) ∧ beside t) ∧
    (armed (.stall f.val) s.dev = true → hasFan s.dev f.val = true → Answers (.stallDetect f) s fun t =>
      (fanOf t f.val).stall = true ∧ (fanOf t f.val).rpm = (fanOf s.dev f.val).rpm ∧
      (∀ g : Fin 2, g ≠ f → hasFan s.dev g.val = true → (fanOf t g.val).wanted = 1024) ∧
      ((fanOf s.dev f.val).commState = 1 → (fanOf t f.val).commState = 4) ∧ beside t) ∧
    (armed (.unstall f.val) s.dev = true → Answers (.stallClear f) s fun t => (fanOf t f.val).stall = false ∧
      (fanOf t f.val).rpm = (fanOf s.dev f.val).rpm ∧ (∀ g : Nat, g ≠ f.val → (fanOf t g).stall = (fanOf s.dev g).stall) ∧
      beside t) ∧
    (armed .heartbeat s.dev = true → Answers .hostSilence s fun t => t.heat.silent = true ∧
      (hasFan s.dev f.val = true → cfg s.dev (fanObj f.val) 10 = 0 → (fanOf t f.val).wanted = 1024) ∧
      (fanOf t f.val).rpm = (fanOf s.dev f.val).rpm ∧ armed .heartbeat t = false ∧ beside t) ∧
    (armed (.comm f.val) s.dev = true → (fanOf s.dev f.val).commState = 1 →
      let x := fanOf s.dev f.val
      let d := expired (.comm f.val) s.dev
      (x.commStep % 2 = 0 → Answers (.commissionStep f) s fun t => (fanOf t f.val).commState = 1 ∧
        (fanOf t f.val).commStep = x.commStep + 1 ∧ (fanOf t f.val).commDuty = x.commDuty ∧ (fanOf t f.val).commSum = 0 ∧
        runsFor (.comm f.val) (commSpan (x.commStep + 1)) t ∧ beside t) ∧
      (x.commStep = 1 → Answers (.commissionStep f) s fun t => (fanOf t f.val).commState = 1 ∧ (fanOf t f.val).commStep = 2 ∧
        (fanOf t f.val).fullRpm = commIntegral d x / commSpan 1 ∧ (fanOf t f.val).commDuty = 512 ∧
        runsFor (.comm f.val) (commSpan 2) t ∧ beside t) ∧
      (x.commStep = 161 → x.commKind = 1 → Answers (.commissionStep f) s fun t => (fanOf t f.val).commState = 2 ∧
        armed (.comm f.val) t = false ∧ (∃ v : Nat, (fanOf t f.val).base = x.commFound ++ [v]) ∧ beside t))) ∧
  (∀ s : State, critLives s.dev = true → s.dev.shep.critical = false →
    Answers .critAssert s fun t => t.shep.critical = true ∧ t.shep.critCount = (s.dev.shep.critCount + 1) % 2 ^ 32 ∧
      t.shep.restoreSet = [] ∧ t.shep.stepDue = true ∧
      (∀ n : Nat, n < 8 → (cable t n).vconn ≠ 1 ∧
        (critTakes (cable s.dev n) = true → (cable t n).gateOn = false ∧ (cable t n).shedCause = .critical ∧
          (cable t n).claim = portOut (cable s.dev n)) ∧
        (critTakes (cable s.dev n) = false → (cable t n).gateOn = (cable s.dev n).gateOn)) ∧
      (∀ n : Nat, (cable s.dev n).powerRole = .source → (cable s.dev n).gateOn = true → critTakes (cable s.dev n) = true) ∧
      (∀ f : Nat, f < 2 → hasFan s.dev f = true → (fanOf t f).highTicks = 160) ∧ SameSwitch t s.dev ∧ t.slots = s.dev.slots ∧
      SameTime t s.dev ∧ t.otp = s.dev.otp ∧ t.flash = s.dev.flash ∧ SameAon t s.dev) ∧
  (∀ s : State, critLives s.dev = false ∨ s.dev.shep.critical = true → Answers .critAssert s fun t => Became t (hush s.dev)) ∧
  (∀ s : State,
    (s.dev.shep.critical = false → Answers .critRelease s fun t => Became t (hush s.dev)) ∧
    (s.dev.shep.critical = true → Answers .critRelease s fun t => t.shep.critical = false ∧
      (∀ n : Nat, (8 ≤ n ∨ (cable s.dev n).vbusWait = false ∨ (cable s.dev n).guardFresh = false) → cable t n = cable s.dev n) ∧
      (∀ n : Nat, n < 8 → (cable s.dev n).vbusWait = true → (cable s.dev n).guardFresh = true → (cable s.dev n).guard ≠ .wet →
        (cable s.dev n).path ≠ .latched → (cable s.dev n).booked ≠ 0 → armed (.shortRetry n) s.dev = false →
        armed (.inrushRetry n) s.dev = false → (cable t n).gateOn = true ∧ (cable t n).vbusWait = false) ∧
      SameSwitch t s.dev ∧ t.slots = s.dev.slots ∧ SameTime t s.dev ∧ SameStores t s.dev ∧ SameAon t s.dev))

/-! ### The journal, debug unlock, and memories -/

/-- The journal (chapter 4) and debug unlock (chapter 16). Pending values are appended to the active sector, compacted past its bound or
under a fault, which a compaction ends, or lost to the fault when programming fails. A challenge hands out the UID and a fresh nonce of 128 bits, and after three failures
zeros; the right response within its life opens debug, any other counts; the nonce ends.
(Log entry 2: an expiry's command reaches its timer's instant first.) -/
def Obligations.JournalAndUnlock : Prop :=
  (∀ (s : State) (ok : Bool), odServes s.dev = true →
    let o := s.dev.od
    let body := pendingOctets o.pendingJournal o.serial
    let beside (t : Dev) : Prop := t.od.cfg = o.cfg ∧ SameSwitch t s.dev ∧ SamePower t s.dev ∧ SameTime t s.dev ∧
      t.otp = s.dev.otp ∧ t.heat = s.dev.heat ∧ SameAon t s.dev
    (o.pendingJournal = [] ∨ armed .journal s.dev = false → Answers (.journalAppend ok) s fun t => Became t (hush s.dev)) ∧
    (o.pendingJournal ≠ [] → armed .journal s.dev = true →
      (ok = false ∨ s.dev.aon.bankF = false → Answers (.journalAppend ok) s fun t => t.od.journalState = 2 ∧
        t.od.pendingJournal = [] ∧ t.flash = s.dev.flash ∧ armed .journal t = false ∧ beside t) ∧
      (ok = true → s.dev.aon.bankF = true → o.journalState ≠ 2 → o.unclean = false → o.fill + body.length ≤ 49152 →
        Answers (.journalAppend ok) s fun t => t.out = [.journal body] ∧
          readBytes erased t.flash (sectorBase o.sector + o.fill) body.length = body ∧
          (∀ a : Nat, (a < sectorBase o.sector + o.fill ∨ sectorBase o.sector + o.fill + body.length ≤ a) →
            byteAt erased t.flash a = byteAt erased s.dev.flash a) ∧
          t.od.fill = o.fill + body.length ∧ t.od.pendingJournal = [] ∧ armed .journal t = false ∧ beside t) ∧
      (ok = true → s.dev.aon.bankF = true → o.sector < 2 →
        o.journalState = 2 ∨ o.unclean = true ∨ 65536 < o.fill + body.length → 16 + (valueRecords (persistentValues s.dev) o.serial).length ≤ 65536 →
        Answers (.journalAppend ok) s fun t => t.od.sector = 1 - o.sector ∧ t.od.generation = o.generation + 1 ∧
          t.od.unclean = false ∧ t.od.pendingJournal = [] ∧ t.od.journalState = 0 ∧
          readBytes erased t.flash (sectorBase (1 - o.sector)) 16 = sectorHeader (o.generation + 1) ∧
          byteAt erased t.flash (sectorBase o.sector) = erased ∧
          (∀ a : Nat, (a < 0x110000 ∨ 0x130000 ≤ a) → byteAt erased t.flash a = byteAt erased s.dev.flash a) ∧ beside t))) ∧
  (∀ s : State, s.dev.aon.bankS = true → mgtRuns s.dev = true →
    (s.dev.otp.unlockFails < 3 → Answers .unlockChal s fun t => ∃ n : List Byte, n.length = 16 ∧ t.otp = { s.dev.otp with nonce := some n } ∧
      t.out = [.tap (uid s.dev ++ n)] ∧ runsFor .unlockNonce (10 * sec) t ∧ t.free = s.dev.free + 1 ∧ SameSwitch t s.dev ∧
      SamePower t s.dev ∧ SameTime t s.dev ∧ t.flash = s.dev.flash ∧ SameAon t s.dev) ∧
    (3 ≤ s.dev.otp.unlockFails → Answers .unlockChal s fun t => Became t
      { hush s.dev with out := [.tap (List.replicate 24 0)] })) ∧
  (∀ (s : State) (resp : BitVec 256), s.dev.aon.bankS = true → mgtRuns s.dev = true →
    let right (k n : List Byte) : Prop := keyOctets s.dev 4 = some k ∧ s.dev.otp.nonce = some n ∧
      hmac k (ascii [0x5A, 0x44, 0x42, 0x47] ++ uid s.dev ++ n) = beBytes 32 resp.toNat
    (∀ k n : List Byte, right k n → s.dev.otp.lifecycle = 2 → noncePast s.dev = false →
      Answers (.unlockResp resp) s fun t => t.otp.debugOpen = true ∧ t.otp.nonce = none ∧
        t.otp.unlockFails = s.dev.otp.unlockFails ∧ armed .unlockNonce t = false ∧ SameSwitch t s.dev ∧ SamePower t s.dev ∧
        SameTime t s.dev ∧ t.flash = s.dev.flash ∧ SameAon t s.dev) ∧
    (s.dev.otp.nonce = none ∨ s.dev.otp.lifecycle ≠ 2 ∨ noncePast s.dev = true →
      Answers (.unlockResp resp) s fun t => t.otp = { s.dev.otp with nonce := none, unlockFails := s.dev.otp.unlockFails + 1 } ∧
        armed .unlockNonce t = false ∧ SameSwitch t s.dev ∧ SamePower t s.dev ∧ SameTime t s.dev ∧ t.flash = s.dev.flash ∧
        SameAon t s.dev)) ∧
  (∀ s : State, armed .unlockNonce s.dev = true → Answers .unlockNonceExpiry s fun t =>
    t.otp = { s.dev.otp with nonce := none } ∧ t.now = (expired .unlockNonce s.dev).now ∧ armed .unlockNonce t = false ∧
    SameSwitch t s.dev ∧ SamePower t s.dev ∧ t.ng = s.dev.ng ∧ t.flash = s.dev.flash ∧ t.aon = s.dev.aon)

/-- The memories (the flash, the window's buffers): every operation keeps the canonical form, what is written reads back, every other
octet stands, and equal reads are equal memories. A value stored under an element reads back, and no other element changes. -/
def Obligations.StoresReadBack : Prop :=
  (∀ (x : Byte) (m : Mem) (a : Nat) (bs : List Byte), Memory.wf x m = true →
    Memory.wf x (writeBytes x m a bs) = true ∧ readBytes x (writeBytes x m a bs) a bs.length = bs ∧
    ∀ c : Nat, (c < a ∨ a + bs.length ≤ c) → byteAt x (writeBytes x m a bs) c = byteAt x m c) ∧
  (∀ (m : Mem) (base : Nat), Memory.wf erased m = true → Memory.wf erased (eraseSector base m) = true ∧
    ∀ a : Nat, byteAt erased (eraseSector base m) a = (if base ≤ a ∧ a < base + 65536 then erased else byteAt erased m a)) ∧
  (∀ (x : Byte) (m n : Mem), Memory.wf x m = true → Memory.wf x n = true → (∀ a : Nat, byteAt x m a = byteAt x n a) → m = n) ∧
  (∀ d : Dev, Memory.wf erased d.flash = true → Memory.wf erased (appendPending d).flash = true ∧
    Memory.wf erased (compact d).flash = true ∧ Memory.wf erased (formatKeep d).flash = true) ∧
  (∀ (d : Dev) (obj el v : Nat), el < 256 → cfg (setCfg obj el v d) obj el = v) ∧
  (∀ (d : Dev) (obj el obj' el' v : Nat), el < 256 → el' < 256 → (obj', el') ≠ (obj, el) →
    cfg (setCfg obj el v d) obj' el' = cfg d obj' el') ∧
  (∀ (d : Dev) (s obj el v : Nat), s < 1024 → obj < 65536 → el < 256 → sel (setSel s obj el v d) s obj el = v)

end
end

