-- ==== Sys2Proof/Laws/State.lean ====
section
/-! SUPPORT. What each named update of the device leaves as it was, and what it makes of the plane it names: one lemma per
plane per update, so that no proof unfolds a record update. -/

-- One theorem after another: many at once would hold a thread each.
set_option Elab.async false

namespace Sys2Proof.Machine

/-! ### onAon -/

@[simp] theorem onAon_now (f : Aon → Aon) (d : Dev) : (onAon f d).now = d.now := rfl
@[simp] theorem onAon_free (f : Aon → Aon) (d : Dev) : (onAon f d).free = d.free := rfl
@[simp] theorem onAon_timers (f : Aon → Aon) (d : Dev) : (onAon f d).timers = d.timers := rfl
@[simp] theorem onAon_out (f : Aon → Aon) (d : Dev) : (onAon f d).out = d.out := rfl
@[simp] theorem onAon_flash (f : Aon → Aon) (d : Dev) : (onAon f d).flash = d.flash := rfl
@[simp] theorem onAon_aon (f : Aon → Aon) (d : Dev) : (onAon f d).aon = f d.aon := rfl
@[simp] theorem onAon_boot (f : Aon → Aon) (d : Dev) : (onAon f d).boot = d.boot := rfl
@[simp] theorem onAon_od (f : Aon → Aon) (d : Dev) : (onAon f d).od = d.od := rfl
@[simp] theorem onAon_hw (f : Aon → Aon) (d : Dev) : (onAon f d).hw = d.hw := rfl
@[simp] theorem onAon_cables (f : Aon → Aon) (d : Dev) : (onAon f d).cables = d.cables := rfl
@[simp] theorem onAon_slots (f : Aon → Aon) (d : Dev) : (onAon f d).slots = d.slots := rfl
@[simp] theorem onAon_shep (f : Aon → Aon) (d : Dev) : (onAon f d).shep = d.shep := rfl
@[simp] theorem onAon_ng (f : Aon → Aon) (d : Dev) : (onAon f d).ng = d.ng := rfl
@[simp] theorem onAon_tm (f : Aon → Aon) (d : Dev) : (onAon f d).tm = d.tm := rfl
@[simp] theorem onAon_fab (f : Aon → Aon) (d : Dev) : (onAon f d).fab = d.fab := rfl
@[simp] theorem onAon_st (f : Aon → Aon) (d : Dev) : (onAon f d).st = d.st := rfl
@[simp] theorem onAon_rt (f : Aon → Aon) (d : Dev) : (onAon f d).rt = d.rt := rfl
@[simp] theorem onAon_cls (f : Aon → Aon) (d : Dev) : (onAon f d).cls = d.cls := rfl
@[simp] theorem onAon_heat (f : Aon → Aon) (d : Dev) : (onAon f d).heat = d.heat := rfl
@[simp] theorem onAon_otp (f : Aon → Aon) (d : Dev) : (onAon f d).otp = d.otp := rfl

/-! ### onBoot -/

@[simp] theorem onBoot_now (f : Boot → Boot) (d : Dev) : (onBoot f d).now = d.now := rfl
@[simp] theorem onBoot_free (f : Boot → Boot) (d : Dev) : (onBoot f d).free = d.free := rfl
@[simp] theorem onBoot_timers (f : Boot → Boot) (d : Dev) : (onBoot f d).timers = d.timers := rfl
@[simp] theorem onBoot_out (f : Boot → Boot) (d : Dev) : (onBoot f d).out = d.out := rfl
@[simp] theorem onBoot_flash (f : Boot → Boot) (d : Dev) : (onBoot f d).flash = d.flash := rfl
@[simp] theorem onBoot_aon (f : Boot → Boot) (d : Dev) : (onBoot f d).aon = d.aon := rfl
@[simp] theorem onBoot_boot (f : Boot → Boot) (d : Dev) : (onBoot f d).boot = f d.boot := rfl
@[simp] theorem onBoot_od (f : Boot → Boot) (d : Dev) : (onBoot f d).od = d.od := rfl
@[simp] theorem onBoot_hw (f : Boot → Boot) (d : Dev) : (onBoot f d).hw = d.hw := rfl
@[simp] theorem onBoot_cables (f : Boot → Boot) (d : Dev) : (onBoot f d).cables = d.cables := rfl
@[simp] theorem onBoot_slots (f : Boot → Boot) (d : Dev) : (onBoot f d).slots = d.slots := rfl
@[simp] theorem onBoot_shep (f : Boot → Boot) (d : Dev) : (onBoot f d).shep = d.shep := rfl
@[simp] theorem onBoot_ng (f : Boot → Boot) (d : Dev) : (onBoot f d).ng = d.ng := rfl
@[simp] theorem onBoot_tm (f : Boot → Boot) (d : Dev) : (onBoot f d).tm = d.tm := rfl
@[simp] theorem onBoot_fab (f : Boot → Boot) (d : Dev) : (onBoot f d).fab = d.fab := rfl
@[simp] theorem onBoot_st (f : Boot → Boot) (d : Dev) : (onBoot f d).st = d.st := rfl
@[simp] theorem onBoot_rt (f : Boot → Boot) (d : Dev) : (onBoot f d).rt = d.rt := rfl
@[simp] theorem onBoot_cls (f : Boot → Boot) (d : Dev) : (onBoot f d).cls = d.cls := rfl
@[simp] theorem onBoot_heat (f : Boot → Boot) (d : Dev) : (onBoot f d).heat = d.heat := rfl
@[simp] theorem onBoot_otp (f : Boot → Boot) (d : Dev) : (onBoot f d).otp = d.otp := rfl

/-! ### onOd -/

@[simp] theorem onOd_now (f : Od → Od) (d : Dev) : (onOd f d).now = d.now := rfl
@[simp] theorem onOd_free (f : Od → Od) (d : Dev) : (onOd f d).free = d.free := rfl
@[simp] theorem onOd_timers (f : Od → Od) (d : Dev) : (onOd f d).timers = d.timers := rfl
@[simp] theorem onOd_out (f : Od → Od) (d : Dev) : (onOd f d).out = d.out := rfl
@[simp] theorem onOd_flash (f : Od → Od) (d : Dev) : (onOd f d).flash = d.flash := rfl
@[simp] theorem onOd_aon (f : Od → Od) (d : Dev) : (onOd f d).aon = d.aon := rfl
@[simp] theorem onOd_boot (f : Od → Od) (d : Dev) : (onOd f d).boot = d.boot := rfl
@[simp] theorem onOd_od (f : Od → Od) (d : Dev) : (onOd f d).od = f d.od := rfl
@[simp] theorem onOd_hw (f : Od → Od) (d : Dev) : (onOd f d).hw = d.hw := rfl
@[simp] theorem onOd_cables (f : Od → Od) (d : Dev) : (onOd f d).cables = d.cables := rfl
@[simp] theorem onOd_slots (f : Od → Od) (d : Dev) : (onOd f d).slots = d.slots := rfl
@[simp] theorem onOd_shep (f : Od → Od) (d : Dev) : (onOd f d).shep = d.shep := rfl
@[simp] theorem onOd_ng (f : Od → Od) (d : Dev) : (onOd f d).ng = d.ng := rfl
@[simp] theorem onOd_tm (f : Od → Od) (d : Dev) : (onOd f d).tm = d.tm := rfl
@[simp] theorem onOd_fab (f : Od → Od) (d : Dev) : (onOd f d).fab = d.fab := rfl
@[simp] theorem onOd_st (f : Od → Od) (d : Dev) : (onOd f d).st = d.st := rfl
@[simp] theorem onOd_rt (f : Od → Od) (d : Dev) : (onOd f d).rt = d.rt := rfl
@[simp] theorem onOd_cls (f : Od → Od) (d : Dev) : (onOd f d).cls = d.cls := rfl
@[simp] theorem onOd_heat (f : Od → Od) (d : Dev) : (onOd f d).heat = d.heat := rfl
@[simp] theorem onOd_otp (f : Od → Od) (d : Dev) : (onOd f d).otp = d.otp := rfl

/-! ### onHw -/

@[simp] theorem onHw_now (f : HostWin → HostWin) (d : Dev) : (onHw f d).now = d.now := rfl
@[simp] theorem onHw_free (f : HostWin → HostWin) (d : Dev) : (onHw f d).free = d.free := rfl
@[simp] theorem onHw_timers (f : HostWin → HostWin) (d : Dev) : (onHw f d).timers = d.timers := rfl
@[simp] theorem onHw_out (f : HostWin → HostWin) (d : Dev) : (onHw f d).out = d.out := rfl
@[simp] theorem onHw_flash (f : HostWin → HostWin) (d : Dev) : (onHw f d).flash = d.flash := rfl
@[simp] theorem onHw_aon (f : HostWin → HostWin) (d : Dev) : (onHw f d).aon = d.aon := rfl
@[simp] theorem onHw_boot (f : HostWin → HostWin) (d : Dev) : (onHw f d).boot = d.boot := rfl
@[simp] theorem onHw_od (f : HostWin → HostWin) (d : Dev) : (onHw f d).od = d.od := rfl
@[simp] theorem onHw_hw (f : HostWin → HostWin) (d : Dev) : (onHw f d).hw = f d.hw := rfl
@[simp] theorem onHw_cables (f : HostWin → HostWin) (d : Dev) : (onHw f d).cables = d.cables := rfl
@[simp] theorem onHw_slots (f : HostWin → HostWin) (d : Dev) : (onHw f d).slots = d.slots := rfl
@[simp] theorem onHw_shep (f : HostWin → HostWin) (d : Dev) : (onHw f d).shep = d.shep := rfl
@[simp] theorem onHw_ng (f : HostWin → HostWin) (d : Dev) : (onHw f d).ng = d.ng := rfl
@[simp] theorem onHw_tm (f : HostWin → HostWin) (d : Dev) : (onHw f d).tm = d.tm := rfl
@[simp] theorem onHw_fab (f : HostWin → HostWin) (d : Dev) : (onHw f d).fab = d.fab := rfl
@[simp] theorem onHw_st (f : HostWin → HostWin) (d : Dev) : (onHw f d).st = d.st := rfl
@[simp] theorem onHw_rt (f : HostWin → HostWin) (d : Dev) : (onHw f d).rt = d.rt := rfl
@[simp] theorem onHw_cls (f : HostWin → HostWin) (d : Dev) : (onHw f d).cls = d.cls := rfl
@[simp] theorem onHw_heat (f : HostWin → HostWin) (d : Dev) : (onHw f d).heat = d.heat := rfl
@[simp] theorem onHw_otp (f : HostWin → HostWin) (d : Dev) : (onHw f d).otp = d.otp := rfl

/-! ### onShep -/

@[simp] theorem onShep_now (f : Shepherd → Shepherd) (d : Dev) : (onShep f d).now = d.now := rfl
@[simp] theorem onShep_free (f : Shepherd → Shepherd) (d : Dev) : (onShep f d).free = d.free := rfl
@[simp] theorem onShep_timers (f : Shepherd → Shepherd) (d : Dev) : (onShep f d).timers = d.timers := rfl
@[simp] theorem onShep_out (f : Shepherd → Shepherd) (d : Dev) : (onShep f d).out = d.out := rfl
@[simp] theorem onShep_flash (f : Shepherd → Shepherd) (d : Dev) : (onShep f d).flash = d.flash := rfl
@[simp] theorem onShep_aon (f : Shepherd → Shepherd) (d : Dev) : (onShep f d).aon = d.aon := rfl
@[simp] theorem onShep_boot (f : Shepherd → Shepherd) (d : Dev) : (onShep f d).boot = d.boot := rfl
@[simp] theorem onShep_od (f : Shepherd → Shepherd) (d : Dev) : (onShep f d).od = d.od := rfl
@[simp] theorem onShep_hw (f : Shepherd → Shepherd) (d : Dev) : (onShep f d).hw = d.hw := rfl
@[simp] theorem onShep_cables (f : Shepherd → Shepherd) (d : Dev) : (onShep f d).cables = d.cables := rfl
@[simp] theorem onShep_slots (f : Shepherd → Shepherd) (d : Dev) : (onShep f d).slots = d.slots := rfl
@[simp] theorem onShep_shep (f : Shepherd → Shepherd) (d : Dev) : (onShep f d).shep = f d.shep := rfl
@[simp] theorem onShep_ng (f : Shepherd → Shepherd) (d : Dev) : (onShep f d).ng = d.ng := rfl
@[simp] theorem onShep_tm (f : Shepherd → Shepherd) (d : Dev) : (onShep f d).tm = d.tm := rfl
@[simp] theorem onShep_fab (f : Shepherd → Shepherd) (d : Dev) : (onShep f d).fab = d.fab := rfl
@[simp] theorem onShep_st (f : Shepherd → Shepherd) (d : Dev) : (onShep f d).st = d.st := rfl
@[simp] theorem onShep_rt (f : Shepherd → Shepherd) (d : Dev) : (onShep f d).rt = d.rt := rfl
@[simp] theorem onShep_cls (f : Shepherd → Shepherd) (d : Dev) : (onShep f d).cls = d.cls := rfl
@[simp] theorem onShep_heat (f : Shepherd → Shepherd) (d : Dev) : (onShep f d).heat = d.heat := rfl
@[simp] theorem onShep_otp (f : Shepherd → Shepherd) (d : Dev) : (onShep f d).otp = d.otp := rfl

/-! ### onNg -/

@[simp] theorem onNg_now (f : Nguzo → Nguzo) (d : Dev) : (onNg f d).now = d.now := rfl
@[simp] theorem onNg_free (f : Nguzo → Nguzo) (d : Dev) : (onNg f d).free = d.free := rfl
@[simp] theorem onNg_timers (f : Nguzo → Nguzo) (d : Dev) : (onNg f d).timers = d.timers := rfl
@[simp] theorem onNg_out (f : Nguzo → Nguzo) (d : Dev) : (onNg f d).out = d.out := rfl
@[simp] theorem onNg_flash (f : Nguzo → Nguzo) (d : Dev) : (onNg f d).flash = d.flash := rfl
@[simp] theorem onNg_aon (f : Nguzo → Nguzo) (d : Dev) : (onNg f d).aon = d.aon := rfl
@[simp] theorem onNg_boot (f : Nguzo → Nguzo) (d : Dev) : (onNg f d).boot = d.boot := rfl
@[simp] theorem onNg_od (f : Nguzo → Nguzo) (d : Dev) : (onNg f d).od = d.od := rfl
@[simp] theorem onNg_hw (f : Nguzo → Nguzo) (d : Dev) : (onNg f d).hw = d.hw := rfl
@[simp] theorem onNg_cables (f : Nguzo → Nguzo) (d : Dev) : (onNg f d).cables = d.cables := rfl
@[simp] theorem onNg_slots (f : Nguzo → Nguzo) (d : Dev) : (onNg f d).slots = d.slots := rfl
@[simp] theorem onNg_shep (f : Nguzo → Nguzo) (d : Dev) : (onNg f d).shep = d.shep := rfl
@[simp] theorem onNg_ng (f : Nguzo → Nguzo) (d : Dev) : (onNg f d).ng = f d.ng := rfl
@[simp] theorem onNg_tm (f : Nguzo → Nguzo) (d : Dev) : (onNg f d).tm = d.tm := rfl
@[simp] theorem onNg_fab (f : Nguzo → Nguzo) (d : Dev) : (onNg f d).fab = d.fab := rfl
@[simp] theorem onNg_st (f : Nguzo → Nguzo) (d : Dev) : (onNg f d).st = d.st := rfl
@[simp] theorem onNg_rt (f : Nguzo → Nguzo) (d : Dev) : (onNg f d).rt = d.rt := rfl
@[simp] theorem onNg_cls (f : Nguzo → Nguzo) (d : Dev) : (onNg f d).cls = d.cls := rfl
@[simp] theorem onNg_heat (f : Nguzo → Nguzo) (d : Dev) : (onNg f d).heat = d.heat := rfl
@[simp] theorem onNg_otp (f : Nguzo → Nguzo) (d : Dev) : (onNg f d).otp = d.otp := rfl

/-! ### onTm -/

@[simp] theorem onTm_now (f : TimeBase → TimeBase) (d : Dev) : (onTm f d).now = d.now := rfl
@[simp] theorem onTm_free (f : TimeBase → TimeBase) (d : Dev) : (onTm f d).free = d.free := rfl
@[simp] theorem onTm_timers (f : TimeBase → TimeBase) (d : Dev) : (onTm f d).timers = d.timers := rfl
@[simp] theorem onTm_out (f : TimeBase → TimeBase) (d : Dev) : (onTm f d).out = d.out := rfl
@[simp] theorem onTm_flash (f : TimeBase → TimeBase) (d : Dev) : (onTm f d).flash = d.flash := rfl
@[simp] theorem onTm_aon (f : TimeBase → TimeBase) (d : Dev) : (onTm f d).aon = d.aon := rfl
@[simp] theorem onTm_boot (f : TimeBase → TimeBase) (d : Dev) : (onTm f d).boot = d.boot := rfl
@[simp] theorem onTm_od (f : TimeBase → TimeBase) (d : Dev) : (onTm f d).od = d.od := rfl
@[simp] theorem onTm_hw (f : TimeBase → TimeBase) (d : Dev) : (onTm f d).hw = d.hw := rfl
@[simp] theorem onTm_cables (f : TimeBase → TimeBase) (d : Dev) : (onTm f d).cables = d.cables := rfl
@[simp] theorem onTm_slots (f : TimeBase → TimeBase) (d : Dev) : (onTm f d).slots = d.slots := rfl
@[simp] theorem onTm_shep (f : TimeBase → TimeBase) (d : Dev) : (onTm f d).shep = d.shep := rfl
@[simp] theorem onTm_ng (f : TimeBase → TimeBase) (d : Dev) : (onTm f d).ng = d.ng := rfl
@[simp] theorem onTm_tm (f : TimeBase → TimeBase) (d : Dev) : (onTm f d).tm = f d.tm := rfl
@[simp] theorem onTm_fab (f : TimeBase → TimeBase) (d : Dev) : (onTm f d).fab = d.fab := rfl
@[simp] theorem onTm_st (f : TimeBase → TimeBase) (d : Dev) : (onTm f d).st = d.st := rfl
@[simp] theorem onTm_rt (f : TimeBase → TimeBase) (d : Dev) : (onTm f d).rt = d.rt := rfl
@[simp] theorem onTm_cls (f : TimeBase → TimeBase) (d : Dev) : (onTm f d).cls = d.cls := rfl
@[simp] theorem onTm_heat (f : TimeBase → TimeBase) (d : Dev) : (onTm f d).heat = d.heat := rfl
@[simp] theorem onTm_otp (f : TimeBase → TimeBase) (d : Dev) : (onTm f d).otp = d.otp := rfl

/-! ### onFab -/

@[simp] theorem onFab_now (f : Fabric → Fabric) (d : Dev) : (onFab f d).now = d.now := rfl
@[simp] theorem onFab_free (f : Fabric → Fabric) (d : Dev) : (onFab f d).free = d.free := rfl
@[simp] theorem onFab_timers (f : Fabric → Fabric) (d : Dev) : (onFab f d).timers = d.timers := rfl
@[simp] theorem onFab_out (f : Fabric → Fabric) (d : Dev) : (onFab f d).out = d.out := rfl
@[simp] theorem onFab_flash (f : Fabric → Fabric) (d : Dev) : (onFab f d).flash = d.flash := rfl
@[simp] theorem onFab_aon (f : Fabric → Fabric) (d : Dev) : (onFab f d).aon = d.aon := rfl
@[simp] theorem onFab_boot (f : Fabric → Fabric) (d : Dev) : (onFab f d).boot = d.boot := rfl
@[simp] theorem onFab_od (f : Fabric → Fabric) (d : Dev) : (onFab f d).od = d.od := rfl
@[simp] theorem onFab_hw (f : Fabric → Fabric) (d : Dev) : (onFab f d).hw = d.hw := rfl
@[simp] theorem onFab_cables (f : Fabric → Fabric) (d : Dev) : (onFab f d).cables = d.cables := rfl
@[simp] theorem onFab_slots (f : Fabric → Fabric) (d : Dev) : (onFab f d).slots = d.slots := rfl
@[simp] theorem onFab_shep (f : Fabric → Fabric) (d : Dev) : (onFab f d).shep = d.shep := rfl
@[simp] theorem onFab_ng (f : Fabric → Fabric) (d : Dev) : (onFab f d).ng = d.ng := rfl
@[simp] theorem onFab_tm (f : Fabric → Fabric) (d : Dev) : (onFab f d).tm = d.tm := rfl
@[simp] theorem onFab_fab (f : Fabric → Fabric) (d : Dev) : (onFab f d).fab = f d.fab := rfl
@[simp] theorem onFab_st (f : Fabric → Fabric) (d : Dev) : (onFab f d).st = d.st := rfl
@[simp] theorem onFab_rt (f : Fabric → Fabric) (d : Dev) : (onFab f d).rt = d.rt := rfl
@[simp] theorem onFab_cls (f : Fabric → Fabric) (d : Dev) : (onFab f d).cls = d.cls := rfl
@[simp] theorem onFab_heat (f : Fabric → Fabric) (d : Dev) : (onFab f d).heat = d.heat := rfl
@[simp] theorem onFab_otp (f : Fabric → Fabric) (d : Dev) : (onFab f d).otp = d.otp := rfl

/-! ### onSt -/

@[simp] theorem onSt_now (f : StationTab → StationTab) (d : Dev) : (onSt f d).now = d.now := rfl
@[simp] theorem onSt_free (f : StationTab → StationTab) (d : Dev) : (onSt f d).free = d.free := rfl
@[simp] theorem onSt_timers (f : StationTab → StationTab) (d : Dev) : (onSt f d).timers = d.timers := rfl
@[simp] theorem onSt_out (f : StationTab → StationTab) (d : Dev) : (onSt f d).out = d.out := rfl
@[simp] theorem onSt_flash (f : StationTab → StationTab) (d : Dev) : (onSt f d).flash = d.flash := rfl
@[simp] theorem onSt_aon (f : StationTab → StationTab) (d : Dev) : (onSt f d).aon = d.aon := rfl
@[simp] theorem onSt_boot (f : StationTab → StationTab) (d : Dev) : (onSt f d).boot = d.boot := rfl
@[simp] theorem onSt_od (f : StationTab → StationTab) (d : Dev) : (onSt f d).od = d.od := rfl
@[simp] theorem onSt_hw (f : StationTab → StationTab) (d : Dev) : (onSt f d).hw = d.hw := rfl
@[simp] theorem onSt_cables (f : StationTab → StationTab) (d : Dev) : (onSt f d).cables = d.cables := rfl
@[simp] theorem onSt_slots (f : StationTab → StationTab) (d : Dev) : (onSt f d).slots = d.slots := rfl
@[simp] theorem onSt_shep (f : StationTab → StationTab) (d : Dev) : (onSt f d).shep = d.shep := rfl
@[simp] theorem onSt_ng (f : StationTab → StationTab) (d : Dev) : (onSt f d).ng = d.ng := rfl
@[simp] theorem onSt_tm (f : StationTab → StationTab) (d : Dev) : (onSt f d).tm = d.tm := rfl
@[simp] theorem onSt_fab (f : StationTab → StationTab) (d : Dev) : (onSt f d).fab = d.fab := rfl
@[simp] theorem onSt_st (f : StationTab → StationTab) (d : Dev) : (onSt f d).st = f d.st := rfl
@[simp] theorem onSt_rt (f : StationTab → StationTab) (d : Dev) : (onSt f d).rt = d.rt := rfl
@[simp] theorem onSt_cls (f : StationTab → StationTab) (d : Dev) : (onSt f d).cls = d.cls := rfl
@[simp] theorem onSt_heat (f : StationTab → StationTab) (d : Dev) : (onSt f d).heat = d.heat := rfl
@[simp] theorem onSt_otp (f : StationTab → StationTab) (d : Dev) : (onSt f d).otp = d.otp := rfl

/-! ### onRt -/

@[simp] theorem onRt_now (f : RouteTab → RouteTab) (d : Dev) : (onRt f d).now = d.now := rfl
@[simp] theorem onRt_free (f : RouteTab → RouteTab) (d : Dev) : (onRt f d).free = d.free := rfl
@[simp] theorem onRt_timers (f : RouteTab → RouteTab) (d : Dev) : (onRt f d).timers = d.timers := rfl
@[simp] theorem onRt_out (f : RouteTab → RouteTab) (d : Dev) : (onRt f d).out = d.out := rfl
@[simp] theorem onRt_flash (f : RouteTab → RouteTab) (d : Dev) : (onRt f d).flash = d.flash := rfl
@[simp] theorem onRt_aon (f : RouteTab → RouteTab) (d : Dev) : (onRt f d).aon = d.aon := rfl
@[simp] theorem onRt_boot (f : RouteTab → RouteTab) (d : Dev) : (onRt f d).boot = d.boot := rfl
@[simp] theorem onRt_od (f : RouteTab → RouteTab) (d : Dev) : (onRt f d).od = d.od := rfl
@[simp] theorem onRt_hw (f : RouteTab → RouteTab) (d : Dev) : (onRt f d).hw = d.hw := rfl
@[simp] theorem onRt_cables (f : RouteTab → RouteTab) (d : Dev) : (onRt f d).cables = d.cables := rfl
@[simp] theorem onRt_slots (f : RouteTab → RouteTab) (d : Dev) : (onRt f d).slots = d.slots := rfl
@[simp] theorem onRt_shep (f : RouteTab → RouteTab) (d : Dev) : (onRt f d).shep = d.shep := rfl
@[simp] theorem onRt_ng (f : RouteTab → RouteTab) (d : Dev) : (onRt f d).ng = d.ng := rfl
@[simp] theorem onRt_tm (f : RouteTab → RouteTab) (d : Dev) : (onRt f d).tm = d.tm := rfl
@[simp] theorem onRt_fab (f : RouteTab → RouteTab) (d : Dev) : (onRt f d).fab = d.fab := rfl
@[simp] theorem onRt_st (f : RouteTab → RouteTab) (d : Dev) : (onRt f d).st = d.st := rfl
@[simp] theorem onRt_rt (f : RouteTab → RouteTab) (d : Dev) : (onRt f d).rt = f d.rt := rfl
@[simp] theorem onRt_cls (f : RouteTab → RouteTab) (d : Dev) : (onRt f d).cls = d.cls := rfl
@[simp] theorem onRt_heat (f : RouteTab → RouteTab) (d : Dev) : (onRt f d).heat = d.heat := rfl
@[simp] theorem onRt_otp (f : RouteTab → RouteTab) (d : Dev) : (onRt f d).otp = d.otp := rfl

/-! ### onCls -/

@[simp] theorem onCls_now (f : ClassTab → ClassTab) (d : Dev) : (onCls f d).now = d.now := rfl
@[simp] theorem onCls_free (f : ClassTab → ClassTab) (d : Dev) : (onCls f d).free = d.free := rfl
@[simp] theorem onCls_timers (f : ClassTab → ClassTab) (d : Dev) : (onCls f d).timers = d.timers := rfl
@[simp] theorem onCls_out (f : ClassTab → ClassTab) (d : Dev) : (onCls f d).out = d.out := rfl
@[simp] theorem onCls_flash (f : ClassTab → ClassTab) (d : Dev) : (onCls f d).flash = d.flash := rfl
@[simp] theorem onCls_aon (f : ClassTab → ClassTab) (d : Dev) : (onCls f d).aon = d.aon := rfl
@[simp] theorem onCls_boot (f : ClassTab → ClassTab) (d : Dev) : (onCls f d).boot = d.boot := rfl
@[simp] theorem onCls_od (f : ClassTab → ClassTab) (d : Dev) : (onCls f d).od = d.od := rfl
@[simp] theorem onCls_hw (f : ClassTab → ClassTab) (d : Dev) : (onCls f d).hw = d.hw := rfl
@[simp] theorem onCls_cables (f : ClassTab → ClassTab) (d : Dev) : (onCls f d).cables = d.cables := rfl
@[simp] theorem onCls_slots (f : ClassTab → ClassTab) (d : Dev) : (onCls f d).slots = d.slots := rfl
@[simp] theorem onCls_shep (f : ClassTab → ClassTab) (d : Dev) : (onCls f d).shep = d.shep := rfl
@[simp] theorem onCls_ng (f : ClassTab → ClassTab) (d : Dev) : (onCls f d).ng = d.ng := rfl
@[simp] theorem onCls_tm (f : ClassTab → ClassTab) (d : Dev) : (onCls f d).tm = d.tm := rfl
@[simp] theorem onCls_fab (f : ClassTab → ClassTab) (d : Dev) : (onCls f d).fab = d.fab := rfl
@[simp] theorem onCls_st (f : ClassTab → ClassTab) (d : Dev) : (onCls f d).st = d.st := rfl
@[simp] theorem onCls_rt (f : ClassTab → ClassTab) (d : Dev) : (onCls f d).rt = d.rt := rfl
@[simp] theorem onCls_cls (f : ClassTab → ClassTab) (d : Dev) : (onCls f d).cls = f d.cls := rfl
@[simp] theorem onCls_heat (f : ClassTab → ClassTab) (d : Dev) : (onCls f d).heat = d.heat := rfl
@[simp] theorem onCls_otp (f : ClassTab → ClassTab) (d : Dev) : (onCls f d).otp = d.otp := rfl

/-! ### onHeat -/

@[simp] theorem onHeat_now (f : Heat → Heat) (d : Dev) : (onHeat f d).now = d.now := rfl
@[simp] theorem onHeat_free (f : Heat → Heat) (d : Dev) : (onHeat f d).free = d.free := rfl
@[simp] theorem onHeat_timers (f : Heat → Heat) (d : Dev) : (onHeat f d).timers = d.timers := rfl
@[simp] theorem onHeat_out (f : Heat → Heat) (d : Dev) : (onHeat f d).out = d.out := rfl
@[simp] theorem onHeat_flash (f : Heat → Heat) (d : Dev) : (onHeat f d).flash = d.flash := rfl
@[simp] theorem onHeat_aon (f : Heat → Heat) (d : Dev) : (onHeat f d).aon = d.aon := rfl
@[simp] theorem onHeat_boot (f : Heat → Heat) (d : Dev) : (onHeat f d).boot = d.boot := rfl
@[simp] theorem onHeat_od (f : Heat → Heat) (d : Dev) : (onHeat f d).od = d.od := rfl
@[simp] theorem onHeat_hw (f : Heat → Heat) (d : Dev) : (onHeat f d).hw = d.hw := rfl
@[simp] theorem onHeat_cables (f : Heat → Heat) (d : Dev) : (onHeat f d).cables = d.cables := rfl
@[simp] theorem onHeat_slots (f : Heat → Heat) (d : Dev) : (onHeat f d).slots = d.slots := rfl
@[simp] theorem onHeat_shep (f : Heat → Heat) (d : Dev) : (onHeat f d).shep = d.shep := rfl
@[simp] theorem onHeat_ng (f : Heat → Heat) (d : Dev) : (onHeat f d).ng = d.ng := rfl
@[simp] theorem onHeat_tm (f : Heat → Heat) (d : Dev) : (onHeat f d).tm = d.tm := rfl
@[simp] theorem onHeat_fab (f : Heat → Heat) (d : Dev) : (onHeat f d).fab = d.fab := rfl
@[simp] theorem onHeat_st (f : Heat → Heat) (d : Dev) : (onHeat f d).st = d.st := rfl
@[simp] theorem onHeat_rt (f : Heat → Heat) (d : Dev) : (onHeat f d).rt = d.rt := rfl
@[simp] theorem onHeat_cls (f : Heat → Heat) (d : Dev) : (onHeat f d).cls = d.cls := rfl
@[simp] theorem onHeat_heat (f : Heat → Heat) (d : Dev) : (onHeat f d).heat = f d.heat := rfl
@[simp] theorem onHeat_otp (f : Heat → Heat) (d : Dev) : (onHeat f d).otp = d.otp := rfl

/-! ### onOtp -/

@[simp] theorem onOtp_now (f : Otp → Otp) (d : Dev) : (onOtp f d).now = d.now := rfl
@[simp] theorem onOtp_free (f : Otp → Otp) (d : Dev) : (onOtp f d).free = d.free := rfl
@[simp] theorem onOtp_timers (f : Otp → Otp) (d : Dev) : (onOtp f d).timers = d.timers := rfl
@[simp] theorem onOtp_out (f : Otp → Otp) (d : Dev) : (onOtp f d).out = d.out := rfl
@[simp] theorem onOtp_flash (f : Otp → Otp) (d : Dev) : (onOtp f d).flash = d.flash := rfl
@[simp] theorem onOtp_aon (f : Otp → Otp) (d : Dev) : (onOtp f d).aon = d.aon := rfl
@[simp] theorem onOtp_boot (f : Otp → Otp) (d : Dev) : (onOtp f d).boot = d.boot := rfl
@[simp] theorem onOtp_od (f : Otp → Otp) (d : Dev) : (onOtp f d).od = d.od := rfl
@[simp] theorem onOtp_hw (f : Otp → Otp) (d : Dev) : (onOtp f d).hw = d.hw := rfl
@[simp] theorem onOtp_cables (f : Otp → Otp) (d : Dev) : (onOtp f d).cables = d.cables := rfl
@[simp] theorem onOtp_slots (f : Otp → Otp) (d : Dev) : (onOtp f d).slots = d.slots := rfl
@[simp] theorem onOtp_shep (f : Otp → Otp) (d : Dev) : (onOtp f d).shep = d.shep := rfl
@[simp] theorem onOtp_ng (f : Otp → Otp) (d : Dev) : (onOtp f d).ng = d.ng := rfl
@[simp] theorem onOtp_tm (f : Otp → Otp) (d : Dev) : (onOtp f d).tm = d.tm := rfl
@[simp] theorem onOtp_fab (f : Otp → Otp) (d : Dev) : (onOtp f d).fab = d.fab := rfl
@[simp] theorem onOtp_st (f : Otp → Otp) (d : Dev) : (onOtp f d).st = d.st := rfl
@[simp] theorem onOtp_rt (f : Otp → Otp) (d : Dev) : (onOtp f d).rt = d.rt := rfl
@[simp] theorem onOtp_cls (f : Otp → Otp) (d : Dev) : (onOtp f d).cls = d.cls := rfl
@[simp] theorem onOtp_heat (f : Otp → Otp) (d : Dev) : (onOtp f d).heat = d.heat := rfl
@[simp] theorem onOtp_otp (f : Otp → Otp) (d : Dev) : (onOtp f d).otp = f d.otp := rfl

/-! ### setCable -/

@[simp] theorem setCable_now (n : Nat) (f : Cable → Cable) (d : Dev) : (setCable n f d).now = d.now := rfl
@[simp] theorem setCable_free (n : Nat) (f : Cable → Cable) (d : Dev) : (setCable n f d).free = d.free := rfl
@[simp] theorem setCable_timers (n : Nat) (f : Cable → Cable) (d : Dev) : (setCable n f d).timers = d.timers := rfl
@[simp] theorem setCable_out (n : Nat) (f : Cable → Cable) (d : Dev) : (setCable n f d).out = d.out := rfl
@[simp] theorem setCable_flash (n : Nat) (f : Cable → Cable) (d : Dev) : (setCable n f d).flash = d.flash := rfl
@[simp] theorem setCable_aon (n : Nat) (f : Cable → Cable) (d : Dev) : (setCable n f d).aon = d.aon := rfl
@[simp] theorem setCable_boot (n : Nat) (f : Cable → Cable) (d : Dev) : (setCable n f d).boot = d.boot := rfl
@[simp] theorem setCable_od (n : Nat) (f : Cable → Cable) (d : Dev) : (setCable n f d).od = d.od := rfl
@[simp] theorem setCable_hw (n : Nat) (f : Cable → Cable) (d : Dev) : (setCable n f d).hw = d.hw := rfl
@[simp] theorem setCable_slots (n : Nat) (f : Cable → Cable) (d : Dev) : (setCable n f d).slots = d.slots := rfl
@[simp] theorem setCable_shep (n : Nat) (f : Cable → Cable) (d : Dev) : (setCable n f d).shep = d.shep := rfl
@[simp] theorem setCable_ng (n : Nat) (f : Cable → Cable) (d : Dev) : (setCable n f d).ng = d.ng := rfl
@[simp] theorem setCable_tm (n : Nat) (f : Cable → Cable) (d : Dev) : (setCable n f d).tm = d.tm := rfl
@[simp] theorem setCable_fab (n : Nat) (f : Cable → Cable) (d : Dev) : (setCable n f d).fab = d.fab := rfl
@[simp] theorem setCable_st (n : Nat) (f : Cable → Cable) (d : Dev) : (setCable n f d).st = d.st := rfl
@[simp] theorem setCable_rt (n : Nat) (f : Cable → Cable) (d : Dev) : (setCable n f d).rt = d.rt := rfl
@[simp] theorem setCable_cls (n : Nat) (f : Cable → Cable) (d : Dev) : (setCable n f d).cls = d.cls := rfl
@[simp] theorem setCable_heat (n : Nat) (f : Cable → Cable) (d : Dev) : (setCable n f d).heat = d.heat := rfl
@[simp] theorem setCable_otp (n : Nat) (f : Cable → Cable) (d : Dev) : (setCable n f d).otp = d.otp := rfl

/-! ### setSlot -/

@[simp] theorem setSlot_now (n : Nat) (f : SlotRec → SlotRec) (d : Dev) : (setSlot n f d).now = d.now := rfl
@[simp] theorem setSlot_free (n : Nat) (f : SlotRec → SlotRec) (d : Dev) : (setSlot n f d).free = d.free := rfl
@[simp] theorem setSlot_timers (n : Nat) (f : SlotRec → SlotRec) (d : Dev) : (setSlot n f d).timers = d.timers := rfl
@[simp] theorem setSlot_out (n : Nat) (f : SlotRec → SlotRec) (d : Dev) : (setSlot n f d).out = d.out := rfl
@[simp] theorem setSlot_flash (n : Nat) (f : SlotRec → SlotRec) (d : Dev) : (setSlot n f d).flash = d.flash := rfl
@[simp] theorem setSlot_aon (n : Nat) (f : SlotRec → SlotRec) (d : Dev) : (setSlot n f d).aon = d.aon := rfl
@[simp] theorem setSlot_boot (n : Nat) (f : SlotRec → SlotRec) (d : Dev) : (setSlot n f d).boot = d.boot := rfl
@[simp] theorem setSlot_od (n : Nat) (f : SlotRec → SlotRec) (d : Dev) : (setSlot n f d).od = d.od := rfl
@[simp] theorem setSlot_hw (n : Nat) (f : SlotRec → SlotRec) (d : Dev) : (setSlot n f d).hw = d.hw := rfl
@[simp] theorem setSlot_cables (n : Nat) (f : SlotRec → SlotRec) (d : Dev) : (setSlot n f d).cables = d.cables := rfl
@[simp] theorem setSlot_shep (n : Nat) (f : SlotRec → SlotRec) (d : Dev) : (setSlot n f d).shep = d.shep := rfl
@[simp] theorem setSlot_ng (n : Nat) (f : SlotRec → SlotRec) (d : Dev) : (setSlot n f d).ng = d.ng := rfl
@[simp] theorem setSlot_tm (n : Nat) (f : SlotRec → SlotRec) (d : Dev) : (setSlot n f d).tm = d.tm := rfl
@[simp] theorem setSlot_fab (n : Nat) (f : SlotRec → SlotRec) (d : Dev) : (setSlot n f d).fab = d.fab := rfl
@[simp] theorem setSlot_st (n : Nat) (f : SlotRec → SlotRec) (d : Dev) : (setSlot n f d).st = d.st := rfl
@[simp] theorem setSlot_rt (n : Nat) (f : SlotRec → SlotRec) (d : Dev) : (setSlot n f d).rt = d.rt := rfl
@[simp] theorem setSlot_cls (n : Nat) (f : SlotRec → SlotRec) (d : Dev) : (setSlot n f d).cls = d.cls := rfl
@[simp] theorem setSlot_heat (n : Nat) (f : SlotRec → SlotRec) (d : Dev) : (setSlot n f d).heat = d.heat := rfl
@[simp] theorem setSlot_otp (n : Nat) (f : SlotRec → SlotRec) (d : Dev) : (setSlot n f d).otp = d.otp := rfl

/-! ### setSwPort -/

@[simp] theorem setSwPort_now (n : Nat) (f : SwPort → SwPort) (d : Dev) : (setSwPort n f d).now = d.now := rfl
@[simp] theorem setSwPort_free (n : Nat) (f : SwPort → SwPort) (d : Dev) : (setSwPort n f d).free = d.free := rfl
@[simp] theorem setSwPort_timers (n : Nat) (f : SwPort → SwPort) (d : Dev) : (setSwPort n f d).timers = d.timers := rfl
@[simp] theorem setSwPort_out (n : Nat) (f : SwPort → SwPort) (d : Dev) : (setSwPort n f d).out = d.out := rfl
@[simp] theorem setSwPort_flash (n : Nat) (f : SwPort → SwPort) (d : Dev) : (setSwPort n f d).flash = d.flash := rfl
@[simp] theorem setSwPort_aon (n : Nat) (f : SwPort → SwPort) (d : Dev) : (setSwPort n f d).aon = d.aon := rfl
@[simp] theorem setSwPort_boot (n : Nat) (f : SwPort → SwPort) (d : Dev) : (setSwPort n f d).boot = d.boot := rfl
@[simp] theorem setSwPort_od (n : Nat) (f : SwPort → SwPort) (d : Dev) : (setSwPort n f d).od = d.od := rfl
@[simp] theorem setSwPort_hw (n : Nat) (f : SwPort → SwPort) (d : Dev) : (setSwPort n f d).hw = d.hw := rfl
@[simp] theorem setSwPort_cables (n : Nat) (f : SwPort → SwPort) (d : Dev) : (setSwPort n f d).cables = d.cables := rfl
@[simp] theorem setSwPort_slots (n : Nat) (f : SwPort → SwPort) (d : Dev) : (setSwPort n f d).slots = d.slots := rfl
@[simp] theorem setSwPort_shep (n : Nat) (f : SwPort → SwPort) (d : Dev) : (setSwPort n f d).shep = d.shep := rfl
@[simp] theorem setSwPort_ng (n : Nat) (f : SwPort → SwPort) (d : Dev) : (setSwPort n f d).ng = d.ng := rfl
@[simp] theorem setSwPort_tm (n : Nat) (f : SwPort → SwPort) (d : Dev) : (setSwPort n f d).tm = d.tm := rfl
@[simp] theorem setSwPort_st (n : Nat) (f : SwPort → SwPort) (d : Dev) : (setSwPort n f d).st = d.st := rfl
@[simp] theorem setSwPort_rt (n : Nat) (f : SwPort → SwPort) (d : Dev) : (setSwPort n f d).rt = d.rt := rfl
@[simp] theorem setSwPort_cls (n : Nat) (f : SwPort → SwPort) (d : Dev) : (setSwPort n f d).cls = d.cls := rfl
@[simp] theorem setSwPort_heat (n : Nat) (f : SwPort → SwPort) (d : Dev) : (setSwPort n f d).heat = d.heat := rfl
@[simp] theorem setSwPort_otp (n : Nat) (f : SwPort → SwPort) (d : Dev) : (setSwPort n f d).otp = d.otp := rfl

/-! ### setQueue -/

@[simp] theorem setQueue_now (p c : Nat) (f : Queue → Queue) (d : Dev) : (setQueue p c f d).now = d.now := rfl
@[simp] theorem setQueue_free (p c : Nat) (f : Queue → Queue) (d : Dev) : (setQueue p c f d).free = d.free := rfl
@[simp] theorem setQueue_timers (p c : Nat) (f : Queue → Queue) (d : Dev) : (setQueue p c f d).timers = d.timers := rfl
@[simp] theorem setQueue_out (p c : Nat) (f : Queue → Queue) (d : Dev) : (setQueue p c f d).out = d.out := rfl
@[simp] theorem setQueue_flash (p c : Nat) (f : Queue → Queue) (d : Dev) : (setQueue p c f d).flash = d.flash := rfl
@[simp] theorem setQueue_aon (p c : Nat) (f : Queue → Queue) (d : Dev) : (setQueue p c f d).aon = d.aon := rfl
@[simp] theorem setQueue_boot (p c : Nat) (f : Queue → Queue) (d : Dev) : (setQueue p c f d).boot = d.boot := rfl
@[simp] theorem setQueue_od (p c : Nat) (f : Queue → Queue) (d : Dev) : (setQueue p c f d).od = d.od := rfl
@[simp] theorem setQueue_hw (p c : Nat) (f : Queue → Queue) (d : Dev) : (setQueue p c f d).hw = d.hw := rfl
@[simp] theorem setQueue_cables (p c : Nat) (f : Queue → Queue) (d : Dev) : (setQueue p c f d).cables = d.cables := rfl
@[simp] theorem setQueue_slots (p c : Nat) (f : Queue → Queue) (d : Dev) : (setQueue p c f d).slots = d.slots := rfl
@[simp] theorem setQueue_shep (p c : Nat) (f : Queue → Queue) (d : Dev) : (setQueue p c f d).shep = d.shep := rfl
@[simp] theorem setQueue_ng (p c : Nat) (f : Queue → Queue) (d : Dev) : (setQueue p c f d).ng = d.ng := rfl
@[simp] theorem setQueue_tm (p c : Nat) (f : Queue → Queue) (d : Dev) : (setQueue p c f d).tm = d.tm := rfl
@[simp] theorem setQueue_st (p c : Nat) (f : Queue → Queue) (d : Dev) : (setQueue p c f d).st = d.st := rfl
@[simp] theorem setQueue_rt (p c : Nat) (f : Queue → Queue) (d : Dev) : (setQueue p c f d).rt = d.rt := rfl
@[simp] theorem setQueue_cls (p c : Nat) (f : Queue → Queue) (d : Dev) : (setQueue p c f d).cls = d.cls := rfl
@[simp] theorem setQueue_heat (p c : Nat) (f : Queue → Queue) (d : Dev) : (setQueue p c f d).heat = d.heat := rfl
@[simp] theorem setQueue_otp (p c : Nat) (f : Queue → Queue) (d : Dev) : (setQueue p c f d).otp = d.otp := rfl

/-! ### setFan -/

@[simp] theorem setFan_now (n : Nat) (f : Fan → Fan) (d : Dev) : (setFan n f d).now = d.now := rfl
@[simp] theorem setFan_free (n : Nat) (f : Fan → Fan) (d : Dev) : (setFan n f d).free = d.free := rfl
@[simp] theorem setFan_timers (n : Nat) (f : Fan → Fan) (d : Dev) : (setFan n f d).timers = d.timers := rfl
@[simp] theorem setFan_out (n : Nat) (f : Fan → Fan) (d : Dev) : (setFan n f d).out = d.out := rfl
@[simp] theorem setFan_flash (n : Nat) (f : Fan → Fan) (d : Dev) : (setFan n f d).flash = d.flash := rfl
@[simp] theorem setFan_aon (n : Nat) (f : Fan → Fan) (d : Dev) : (setFan n f d).aon = d.aon := rfl
@[simp] theorem setFan_boot (n : Nat) (f : Fan → Fan) (d : Dev) : (setFan n f d).boot = d.boot := rfl
@[simp] theorem setFan_od (n : Nat) (f : Fan → Fan) (d : Dev) : (setFan n f d).od = d.od := rfl
@[simp] theorem setFan_hw (n : Nat) (f : Fan → Fan) (d : Dev) : (setFan n f d).hw = d.hw := rfl
@[simp] theorem setFan_cables (n : Nat) (f : Fan → Fan) (d : Dev) : (setFan n f d).cables = d.cables := rfl
@[simp] theorem setFan_slots (n : Nat) (f : Fan → Fan) (d : Dev) : (setFan n f d).slots = d.slots := rfl
@[simp] theorem setFan_shep (n : Nat) (f : Fan → Fan) (d : Dev) : (setFan n f d).shep = d.shep := rfl
@[simp] theorem setFan_ng (n : Nat) (f : Fan → Fan) (d : Dev) : (setFan n f d).ng = d.ng := rfl
@[simp] theorem setFan_tm (n : Nat) (f : Fan → Fan) (d : Dev) : (setFan n f d).tm = d.tm := rfl
@[simp] theorem setFan_fab (n : Nat) (f : Fan → Fan) (d : Dev) : (setFan n f d).fab = d.fab := rfl
@[simp] theorem setFan_st (n : Nat) (f : Fan → Fan) (d : Dev) : (setFan n f d).st = d.st := rfl
@[simp] theorem setFan_rt (n : Nat) (f : Fan → Fan) (d : Dev) : (setFan n f d).rt = d.rt := rfl
@[simp] theorem setFan_cls (n : Nat) (f : Fan → Fan) (d : Dev) : (setFan n f d).cls = d.cls := rfl
@[simp] theorem setFan_otp (n : Nat) (f : Fan → Fan) (d : Dev) : (setFan n f d).otp = d.otp := rfl

/-! ### setSession -/

@[simp] theorem setSession_now (n : Nat) (f : Session → Session) (d : Dev) : (setSession n f d).now = d.now := rfl
@[simp] theorem setSession_free (n : Nat) (f : Session → Session) (d : Dev) : (setSession n f d).free = d.free := rfl
@[simp] theorem setSession_timers (n : Nat) (f : Session → Session) (d : Dev) : (setSession n f d).timers = d.timers := rfl
@[simp] theorem setSession_out (n : Nat) (f : Session → Session) (d : Dev) : (setSession n f d).out = d.out := rfl
@[simp] theorem setSession_flash (n : Nat) (f : Session → Session) (d : Dev) : (setSession n f d).flash = d.flash := rfl
@[simp] theorem setSession_aon (n : Nat) (f : Session → Session) (d : Dev) : (setSession n f d).aon = d.aon := rfl
@[simp] theorem setSession_boot (n : Nat) (f : Session → Session) (d : Dev) : (setSession n f d).boot = d.boot := rfl
@[simp] theorem setSession_hw (n : Nat) (f : Session → Session) (d : Dev) : (setSession n f d).hw = d.hw := rfl
@[simp] theorem setSession_cables (n : Nat) (f : Session → Session) (d : Dev) : (setSession n f d).cables = d.cables := rfl
@[simp] theorem setSession_slots (n : Nat) (f : Session → Session) (d : Dev) : (setSession n f d).slots = d.slots := rfl
@[simp] theorem setSession_shep (n : Nat) (f : Session → Session) (d : Dev) : (setSession n f d).shep = d.shep := rfl
@[simp] theorem setSession_ng (n : Nat) (f : Session → Session) (d : Dev) : (setSession n f d).ng = d.ng := rfl
@[simp] theorem setSession_tm (n : Nat) (f : Session → Session) (d : Dev) : (setSession n f d).tm = d.tm := rfl
@[simp] theorem setSession_fab (n : Nat) (f : Session → Session) (d : Dev) : (setSession n f d).fab = d.fab := rfl
@[simp] theorem setSession_st (n : Nat) (f : Session → Session) (d : Dev) : (setSession n f d).st = d.st := rfl
@[simp] theorem setSession_rt (n : Nat) (f : Session → Session) (d : Dev) : (setSession n f d).rt = d.rt := rfl
@[simp] theorem setSession_cls (n : Nat) (f : Session → Session) (d : Dev) : (setSession n f d).cls = d.cls := rfl
@[simp] theorem setSession_heat (n : Nat) (f : Session → Session) (d : Dev) : (setSession n f d).heat = d.heat := rfl
@[simp] theorem setSession_otp (n : Nat) (f : Session → Session) (d : Dev) : (setSession n f d).otp = d.otp := rfl

/-! ### setEpoch -/

@[simp] theorem setEpoch_now (k : Nat) (f : Epoch → Epoch) (d : Dev) : (setEpoch k f d).now = d.now := rfl
@[simp] theorem setEpoch_free (k : Nat) (f : Epoch → Epoch) (d : Dev) : (setEpoch k f d).free = d.free := rfl
@[simp] theorem setEpoch_timers (k : Nat) (f : Epoch → Epoch) (d : Dev) : (setEpoch k f d).timers = d.timers := rfl
@[simp] theorem setEpoch_out (k : Nat) (f : Epoch → Epoch) (d : Dev) : (setEpoch k f d).out = d.out := rfl
@[simp] theorem setEpoch_flash (k : Nat) (f : Epoch → Epoch) (d : Dev) : (setEpoch k f d).flash = d.flash := rfl
@[simp] theorem setEpoch_aon (k : Nat) (f : Epoch → Epoch) (d : Dev) : (setEpoch k f d).aon = d.aon := rfl
@[simp] theorem setEpoch_boot (k : Nat) (f : Epoch → Epoch) (d : Dev) : (setEpoch k f d).boot = d.boot := rfl
@[simp] theorem setEpoch_od (k : Nat) (f : Epoch → Epoch) (d : Dev) : (setEpoch k f d).od = d.od := rfl
@[simp] theorem setEpoch_hw (k : Nat) (f : Epoch → Epoch) (d : Dev) : (setEpoch k f d).hw = d.hw := rfl
@[simp] theorem setEpoch_cables (k : Nat) (f : Epoch → Epoch) (d : Dev) : (setEpoch k f d).cables = d.cables := rfl
@[simp] theorem setEpoch_slots (k : Nat) (f : Epoch → Epoch) (d : Dev) : (setEpoch k f d).slots = d.slots := rfl
@[simp] theorem setEpoch_shep (k : Nat) (f : Epoch → Epoch) (d : Dev) : (setEpoch k f d).shep = d.shep := rfl
@[simp] theorem setEpoch_ng (k : Nat) (f : Epoch → Epoch) (d : Dev) : (setEpoch k f d).ng = d.ng := rfl
@[simp] theorem setEpoch_fab (k : Nat) (f : Epoch → Epoch) (d : Dev) : (setEpoch k f d).fab = d.fab := rfl
@[simp] theorem setEpoch_st (k : Nat) (f : Epoch → Epoch) (d : Dev) : (setEpoch k f d).st = d.st := rfl
@[simp] theorem setEpoch_rt (k : Nat) (f : Epoch → Epoch) (d : Dev) : (setEpoch k f d).rt = d.rt := rfl
@[simp] theorem setEpoch_cls (k : Nat) (f : Epoch → Epoch) (d : Dev) : (setEpoch k f d).cls = d.cls := rfl
@[simp] theorem setEpoch_heat (k : Nat) (f : Epoch → Epoch) (d : Dev) : (setEpoch k f d).heat = d.heat := rfl
@[simp] theorem setEpoch_otp (k : Nat) (f : Epoch → Epoch) (d : Dev) : (setEpoch k f d).otp = d.otp := rfl

/-! ### setCfg -/

@[simp] theorem setCfg_now (obj el v : Nat) (d : Dev) : (setCfg obj el v d).now = d.now := rfl
@[simp] theorem setCfg_free (obj el v : Nat) (d : Dev) : (setCfg obj el v d).free = d.free := rfl
@[simp] theorem setCfg_timers (obj el v : Nat) (d : Dev) : (setCfg obj el v d).timers = d.timers := rfl
@[simp] theorem setCfg_out (obj el v : Nat) (d : Dev) : (setCfg obj el v d).out = d.out := rfl
@[simp] theorem setCfg_flash (obj el v : Nat) (d : Dev) : (setCfg obj el v d).flash = d.flash := rfl
@[simp] theorem setCfg_aon (obj el v : Nat) (d : Dev) : (setCfg obj el v d).aon = d.aon := rfl
@[simp] theorem setCfg_boot (obj el v : Nat) (d : Dev) : (setCfg obj el v d).boot = d.boot := rfl
@[simp] theorem setCfg_hw (obj el v : Nat) (d : Dev) : (setCfg obj el v d).hw = d.hw := rfl
@[simp] theorem setCfg_cables (obj el v : Nat) (d : Dev) : (setCfg obj el v d).cables = d.cables := rfl
@[simp] theorem setCfg_slots (obj el v : Nat) (d : Dev) : (setCfg obj el v d).slots = d.slots := rfl
@[simp] theorem setCfg_shep (obj el v : Nat) (d : Dev) : (setCfg obj el v d).shep = d.shep := rfl
@[simp] theorem setCfg_ng (obj el v : Nat) (d : Dev) : (setCfg obj el v d).ng = d.ng := rfl
@[simp] theorem setCfg_tm (obj el v : Nat) (d : Dev) : (setCfg obj el v d).tm = d.tm := rfl
@[simp] theorem setCfg_fab (obj el v : Nat) (d : Dev) : (setCfg obj el v d).fab = d.fab := rfl
@[simp] theorem setCfg_st (obj el v : Nat) (d : Dev) : (setCfg obj el v d).st = d.st := rfl
@[simp] theorem setCfg_rt (obj el v : Nat) (d : Dev) : (setCfg obj el v d).rt = d.rt := rfl
@[simp] theorem setCfg_cls (obj el v : Nat) (d : Dev) : (setCfg obj el v d).cls = d.cls := rfl
@[simp] theorem setCfg_heat (obj el v : Nat) (d : Dev) : (setCfg obj el v d).heat = d.heat := rfl
@[simp] theorem setCfg_otp (obj el v : Nat) (d : Dev) : (setCfg obj el v d).otp = d.otp := rfl

/-! ### setSel -/

@[simp] theorem setSel_now (s obj el v : Nat) (d : Dev) : (setSel s obj el v d).now = d.now := rfl
@[simp] theorem setSel_free (s obj el v : Nat) (d : Dev) : (setSel s obj el v d).free = d.free := rfl
@[simp] theorem setSel_timers (s obj el v : Nat) (d : Dev) : (setSel s obj el v d).timers = d.timers := rfl
@[simp] theorem setSel_out (s obj el v : Nat) (d : Dev) : (setSel s obj el v d).out = d.out := rfl
@[simp] theorem setSel_flash (s obj el v : Nat) (d : Dev) : (setSel s obj el v d).flash = d.flash := rfl
@[simp] theorem setSel_aon (s obj el v : Nat) (d : Dev) : (setSel s obj el v d).aon = d.aon := rfl
@[simp] theorem setSel_boot (s obj el v : Nat) (d : Dev) : (setSel s obj el v d).boot = d.boot := rfl
@[simp] theorem setSel_hw (s obj el v : Nat) (d : Dev) : (setSel s obj el v d).hw = d.hw := rfl
@[simp] theorem setSel_cables (s obj el v : Nat) (d : Dev) : (setSel s obj el v d).cables = d.cables := rfl
@[simp] theorem setSel_slots (s obj el v : Nat) (d : Dev) : (setSel s obj el v d).slots = d.slots := rfl
@[simp] theorem setSel_shep (s obj el v : Nat) (d : Dev) : (setSel s obj el v d).shep = d.shep := rfl
@[simp] theorem setSel_ng (s obj el v : Nat) (d : Dev) : (setSel s obj el v d).ng = d.ng := rfl
@[simp] theorem setSel_tm (s obj el v : Nat) (d : Dev) : (setSel s obj el v d).tm = d.tm := rfl
@[simp] theorem setSel_fab (s obj el v : Nat) (d : Dev) : (setSel s obj el v d).fab = d.fab := rfl
@[simp] theorem setSel_st (s obj el v : Nat) (d : Dev) : (setSel s obj el v d).st = d.st := rfl
@[simp] theorem setSel_rt (s obj el v : Nat) (d : Dev) : (setSel s obj el v d).rt = d.rt := rfl
@[simp] theorem setSel_cls (s obj el v : Nat) (d : Dev) : (setSel s obj el v d).cls = d.cls := rfl
@[simp] theorem setSel_heat (s obj el v : Nat) (d : Dev) : (setSel s obj el v d).heat = d.heat := rfl
@[simp] theorem setSel_otp (s obj el v : Nat) (d : Dev) : (setSel s obj el v d).otp = d.otp := rfl

/-! ### armAt -/

@[simp] theorem armAt_now (t : Timer) (a : Nat) (d : Dev) : (armAt t a d).now = d.now := rfl
@[simp] theorem armAt_free (t : Timer) (a : Nat) (d : Dev) : (armAt t a d).free = d.free := rfl
@[simp] theorem armAt_out (t : Timer) (a : Nat) (d : Dev) : (armAt t a d).out = d.out := rfl
@[simp] theorem armAt_flash (t : Timer) (a : Nat) (d : Dev) : (armAt t a d).flash = d.flash := rfl
@[simp] theorem armAt_aon (t : Timer) (a : Nat) (d : Dev) : (armAt t a d).aon = d.aon := rfl
@[simp] theorem armAt_boot (t : Timer) (a : Nat) (d : Dev) : (armAt t a d).boot = d.boot := rfl
@[simp] theorem armAt_od (t : Timer) (a : Nat) (d : Dev) : (armAt t a d).od = d.od := rfl
@[simp] theorem armAt_hw (t : Timer) (a : Nat) (d : Dev) : (armAt t a d).hw = d.hw := rfl
@[simp] theorem armAt_cables (t : Timer) (a : Nat) (d : Dev) : (armAt t a d).cables = d.cables := rfl
@[simp] theorem armAt_slots (t : Timer) (a : Nat) (d : Dev) : (armAt t a d).slots = d.slots := rfl
@[simp] theorem armAt_shep (t : Timer) (a : Nat) (d : Dev) : (armAt t a d).shep = d.shep := rfl
@[simp] theorem armAt_ng (t : Timer) (a : Nat) (d : Dev) : (armAt t a d).ng = d.ng := rfl
@[simp] theorem armAt_tm (t : Timer) (a : Nat) (d : Dev) : (armAt t a d).tm = d.tm := rfl
@[simp] theorem armAt_fab (t : Timer) (a : Nat) (d : Dev) : (armAt t a d).fab = d.fab := rfl
@[simp] theorem armAt_st (t : Timer) (a : Nat) (d : Dev) : (armAt t a d).st = d.st := rfl
@[simp] theorem armAt_rt (t : Timer) (a : Nat) (d : Dev) : (armAt t a d).rt = d.rt := rfl
@[simp] theorem armAt_cls (t : Timer) (a : Nat) (d : Dev) : (armAt t a d).cls = d.cls := rfl
@[simp] theorem armAt_heat (t : Timer) (a : Nat) (d : Dev) : (armAt t a d).heat = d.heat := rfl
@[simp] theorem armAt_otp (t : Timer) (a : Nat) (d : Dev) : (armAt t a d).otp = d.otp := rfl

/-! ### arm -/

@[simp] theorem arm_now (t : Timer) (n : Nat) (d : Dev) : (arm t n d).now = d.now := rfl
@[simp] theorem arm_free (t : Timer) (n : Nat) (d : Dev) : (arm t n d).free = d.free := rfl
@[simp] theorem arm_out (t : Timer) (n : Nat) (d : Dev) : (arm t n d).out = d.out := rfl
@[simp] theorem arm_flash (t : Timer) (n : Nat) (d : Dev) : (arm t n d).flash = d.flash := rfl
@[simp] theorem arm_aon (t : Timer) (n : Nat) (d : Dev) : (arm t n d).aon = d.aon := rfl
@[simp] theorem arm_boot (t : Timer) (n : Nat) (d : Dev) : (arm t n d).boot = d.boot := rfl
@[simp] theorem arm_od (t : Timer) (n : Nat) (d : Dev) : (arm t n d).od = d.od := rfl
@[simp] theorem arm_hw (t : Timer) (n : Nat) (d : Dev) : (arm t n d).hw = d.hw := rfl
@[simp] theorem arm_cables (t : Timer) (n : Nat) (d : Dev) : (arm t n d).cables = d.cables := rfl
@[simp] theorem arm_slots (t : Timer) (n : Nat) (d : Dev) : (arm t n d).slots = d.slots := rfl
@[simp] theorem arm_shep (t : Timer) (n : Nat) (d : Dev) : (arm t n d).shep = d.shep := rfl
@[simp] theorem arm_ng (t : Timer) (n : Nat) (d : Dev) : (arm t n d).ng = d.ng := rfl
@[simp] theorem arm_tm (t : Timer) (n : Nat) (d : Dev) : (arm t n d).tm = d.tm := rfl
@[simp] theorem arm_fab (t : Timer) (n : Nat) (d : Dev) : (arm t n d).fab = d.fab := rfl
@[simp] theorem arm_st (t : Timer) (n : Nat) (d : Dev) : (arm t n d).st = d.st := rfl
@[simp] theorem arm_rt (t : Timer) (n : Nat) (d : Dev) : (arm t n d).rt = d.rt := rfl
@[simp] theorem arm_cls (t : Timer) (n : Nat) (d : Dev) : (arm t n d).cls = d.cls := rfl
@[simp] theorem arm_heat (t : Timer) (n : Nat) (d : Dev) : (arm t n d).heat = d.heat := rfl
@[simp] theorem arm_otp (t : Timer) (n : Nat) (d : Dev) : (arm t n d).otp = d.otp := rfl

/-! ### disarm -/

@[simp] theorem disarm_now (t : Timer) (d : Dev) : (disarm t d).now = d.now := rfl
@[simp] theorem disarm_free (t : Timer) (d : Dev) : (disarm t d).free = d.free := rfl
@[simp] theorem disarm_out (t : Timer) (d : Dev) : (disarm t d).out = d.out := rfl
@[simp] theorem disarm_flash (t : Timer) (d : Dev) : (disarm t d).flash = d.flash := rfl
@[simp] theorem disarm_aon (t : Timer) (d : Dev) : (disarm t d).aon = d.aon := rfl
@[simp] theorem disarm_boot (t : Timer) (d : Dev) : (disarm t d).boot = d.boot := rfl
@[simp] theorem disarm_od (t : Timer) (d : Dev) : (disarm t d).od = d.od := rfl
@[simp] theorem disarm_hw (t : Timer) (d : Dev) : (disarm t d).hw = d.hw := rfl
@[simp] theorem disarm_cables (t : Timer) (d : Dev) : (disarm t d).cables = d.cables := rfl
@[simp] theorem disarm_slots (t : Timer) (d : Dev) : (disarm t d).slots = d.slots := rfl
@[simp] theorem disarm_shep (t : Timer) (d : Dev) : (disarm t d).shep = d.shep := rfl
@[simp] theorem disarm_ng (t : Timer) (d : Dev) : (disarm t d).ng = d.ng := rfl
@[simp] theorem disarm_tm (t : Timer) (d : Dev) : (disarm t d).tm = d.tm := rfl
@[simp] theorem disarm_fab (t : Timer) (d : Dev) : (disarm t d).fab = d.fab := rfl
@[simp] theorem disarm_st (t : Timer) (d : Dev) : (disarm t d).st = d.st := rfl
@[simp] theorem disarm_rt (t : Timer) (d : Dev) : (disarm t d).rt = d.rt := rfl
@[simp] theorem disarm_cls (t : Timer) (d : Dev) : (disarm t d).cls = d.cls := rfl
@[simp] theorem disarm_heat (t : Timer) (d : Dev) : (disarm t d).heat = d.heat := rfl
@[simp] theorem disarm_otp (t : Timer) (d : Dev) : (disarm t d).otp = d.otp := rfl

/-! ### raiseIrq -/

@[simp] theorem raiseIrq_now (i : Nat) (d : Dev) : (raiseIrq i d).now = d.now := rfl
@[simp] theorem raiseIrq_free (i : Nat) (d : Dev) : (raiseIrq i d).free = d.free := rfl
@[simp] theorem raiseIrq_timers (i : Nat) (d : Dev) : (raiseIrq i d).timers = d.timers := rfl
@[simp] theorem raiseIrq_out (i : Nat) (d : Dev) : (raiseIrq i d).out = d.out := rfl
@[simp] theorem raiseIrq_flash (i : Nat) (d : Dev) : (raiseIrq i d).flash = d.flash := rfl
@[simp] theorem raiseIrq_aon (i : Nat) (d : Dev) : (raiseIrq i d).aon = d.aon := rfl
@[simp] theorem raiseIrq_boot (i : Nat) (d : Dev) : (raiseIrq i d).boot = d.boot := rfl
@[simp] theorem raiseIrq_od (i : Nat) (d : Dev) : (raiseIrq i d).od = d.od := rfl
@[simp] theorem raiseIrq_cables (i : Nat) (d : Dev) : (raiseIrq i d).cables = d.cables := rfl
@[simp] theorem raiseIrq_slots (i : Nat) (d : Dev) : (raiseIrq i d).slots = d.slots := rfl
@[simp] theorem raiseIrq_shep (i : Nat) (d : Dev) : (raiseIrq i d).shep = d.shep := rfl
@[simp] theorem raiseIrq_ng (i : Nat) (d : Dev) : (raiseIrq i d).ng = d.ng := rfl
@[simp] theorem raiseIrq_tm (i : Nat) (d : Dev) : (raiseIrq i d).tm = d.tm := rfl
@[simp] theorem raiseIrq_fab (i : Nat) (d : Dev) : (raiseIrq i d).fab = d.fab := rfl
@[simp] theorem raiseIrq_st (i : Nat) (d : Dev) : (raiseIrq i d).st = d.st := rfl
@[simp] theorem raiseIrq_rt (i : Nat) (d : Dev) : (raiseIrq i d).rt = d.rt := rfl
@[simp] theorem raiseIrq_cls (i : Nat) (d : Dev) : (raiseIrq i d).cls = d.cls := rfl
@[simp] theorem raiseIrq_heat (i : Nat) (d : Dev) : (raiseIrq i d).heat = d.heat := rfl
@[simp] theorem raiseIrq_otp (i : Nat) (d : Dev) : (raiseIrq i d).otp = d.otp := rfl

/-! ### raiseIrqPort -/

@[simp] theorem raiseIrqPort_now (i : Nat) (d : Dev) : (raiseIrqPort i d).now = d.now := rfl
@[simp] theorem raiseIrqPort_free (i : Nat) (d : Dev) : (raiseIrqPort i d).free = d.free := rfl
@[simp] theorem raiseIrqPort_timers (i : Nat) (d : Dev) : (raiseIrqPort i d).timers = d.timers := rfl
@[simp] theorem raiseIrqPort_out (i : Nat) (d : Dev) : (raiseIrqPort i d).out = d.out := rfl
@[simp] theorem raiseIrqPort_flash (i : Nat) (d : Dev) : (raiseIrqPort i d).flash = d.flash := rfl
@[simp] theorem raiseIrqPort_aon (i : Nat) (d : Dev) : (raiseIrqPort i d).aon = d.aon := rfl
@[simp] theorem raiseIrqPort_boot (i : Nat) (d : Dev) : (raiseIrqPort i d).boot = d.boot := rfl
@[simp] theorem raiseIrqPort_od (i : Nat) (d : Dev) : (raiseIrqPort i d).od = d.od := rfl
@[simp] theorem raiseIrqPort_cables (i : Nat) (d : Dev) : (raiseIrqPort i d).cables = d.cables := rfl
@[simp] theorem raiseIrqPort_slots (i : Nat) (d : Dev) : (raiseIrqPort i d).slots = d.slots := rfl
@[simp] theorem raiseIrqPort_shep (i : Nat) (d : Dev) : (raiseIrqPort i d).shep = d.shep := rfl
@[simp] theorem raiseIrqPort_ng (i : Nat) (d : Dev) : (raiseIrqPort i d).ng = d.ng := rfl
@[simp] theorem raiseIrqPort_tm (i : Nat) (d : Dev) : (raiseIrqPort i d).tm = d.tm := rfl
@[simp] theorem raiseIrqPort_fab (i : Nat) (d : Dev) : (raiseIrqPort i d).fab = d.fab := rfl
@[simp] theorem raiseIrqPort_st (i : Nat) (d : Dev) : (raiseIrqPort i d).st = d.st := rfl
@[simp] theorem raiseIrqPort_rt (i : Nat) (d : Dev) : (raiseIrqPort i d).rt = d.rt := rfl
@[simp] theorem raiseIrqPort_cls (i : Nat) (d : Dev) : (raiseIrqPort i d).cls = d.cls := rfl
@[simp] theorem raiseIrqPort_heat (i : Nat) (d : Dev) : (raiseIrqPort i d).heat = d.heat := rfl
@[simp] theorem raiseIrqPort_otp (i : Nat) (d : Dev) : (raiseIrqPort i d).otp = d.otp := rfl

/-! ### emit, eventAlarm and drawFree -/

@[simp] theorem emit_now (e : Emission) (d : Dev) : (emit e d).now = d.now := by unfold emit; split <;> rfl
@[simp] theorem emit_free (e : Emission) (d : Dev) : (emit e d).free = d.free := by unfold emit; split <;> rfl
@[simp] theorem emit_timers (e : Emission) (d : Dev) : (emit e d).timers = d.timers := by unfold emit; split <;> rfl
@[simp] theorem emit_flash (e : Emission) (d : Dev) : (emit e d).flash = d.flash := by unfold emit; split <;> rfl
@[simp] theorem emit_aon (e : Emission) (d : Dev) : (emit e d).aon = d.aon := by unfold emit; split <;> rfl
@[simp] theorem emit_boot (e : Emission) (d : Dev) : (emit e d).boot = d.boot := by unfold emit; split <;> rfl
@[simp] theorem emit_od (e : Emission) (d : Dev) : (emit e d).od = d.od := by unfold emit; split <;> rfl
@[simp] theorem emit_hw (e : Emission) (d : Dev) : (emit e d).hw = d.hw := by unfold emit; split <;> rfl
@[simp] theorem emit_cables (e : Emission) (d : Dev) : (emit e d).cables = d.cables := by unfold emit; split <;> rfl
@[simp] theorem emit_slots (e : Emission) (d : Dev) : (emit e d).slots = d.slots := by unfold emit; split <;> rfl
@[simp] theorem emit_shep (e : Emission) (d : Dev) : (emit e d).shep = d.shep := by unfold emit; split <;> rfl
@[simp] theorem emit_ng (e : Emission) (d : Dev) : (emit e d).ng = d.ng := by unfold emit; split <;> rfl
@[simp] theorem emit_tm (e : Emission) (d : Dev) : (emit e d).tm = d.tm := by unfold emit; split <;> rfl
@[simp] theorem emit_fab (e : Emission) (d : Dev) : (emit e d).fab = d.fab := by unfold emit; split <;> rfl
@[simp] theorem emit_st (e : Emission) (d : Dev) : (emit e d).st = d.st := by unfold emit; split <;> rfl
@[simp] theorem emit_rt (e : Emission) (d : Dev) : (emit e d).rt = d.rt := by unfold emit; split <;> rfl
@[simp] theorem emit_cls (e : Emission) (d : Dev) : (emit e d).cls = d.cls := by unfold emit; split <;> rfl
@[simp] theorem emit_heat (e : Emission) (d : Dev) : (emit e d).heat = d.heat := by unfold emit; split <;> rfl
@[simp] theorem emit_otp (e : Emission) (d : Dev) : (emit e d).otp = d.otp := by unfold emit; split <;> rfl

@[simp] theorem eventAlarm_now (i : Nat) (d : Dev) : (eventAlarm i d).now = d.now := by unfold eventAlarm; dsimp only; split <;> rfl
@[simp] theorem eventAlarm_free (i : Nat) (d : Dev) : (eventAlarm i d).free = d.free := by unfold eventAlarm; dsimp only; split <;> rfl
@[simp] theorem eventAlarm_timers (i : Nat) (d : Dev) : (eventAlarm i d).timers = d.timers := by unfold eventAlarm; dsimp only; split <;> rfl
@[simp] theorem eventAlarm_out (i : Nat) (d : Dev) : (eventAlarm i d).out = d.out := by unfold eventAlarm; dsimp only; split <;> rfl
@[simp] theorem eventAlarm_flash (i : Nat) (d : Dev) : (eventAlarm i d).flash = d.flash := by unfold eventAlarm; dsimp only; split <;> rfl
@[simp] theorem eventAlarm_aon (i : Nat) (d : Dev) : (eventAlarm i d).aon = d.aon := by unfold eventAlarm; dsimp only; split <;> rfl
@[simp] theorem eventAlarm_boot (i : Nat) (d : Dev) : (eventAlarm i d).boot = d.boot := by unfold eventAlarm; dsimp only; split <;> rfl
@[simp] theorem eventAlarm_cables (i : Nat) (d : Dev) : (eventAlarm i d).cables = d.cables := by unfold eventAlarm; dsimp only; split <;> rfl
@[simp] theorem eventAlarm_slots (i : Nat) (d : Dev) : (eventAlarm i d).slots = d.slots := by unfold eventAlarm; dsimp only; split <;> rfl
@[simp] theorem eventAlarm_shep (i : Nat) (d : Dev) : (eventAlarm i d).shep = d.shep := by unfold eventAlarm; dsimp only; split <;> rfl
@[simp] theorem eventAlarm_ng (i : Nat) (d : Dev) : (eventAlarm i d).ng = d.ng := by unfold eventAlarm; dsimp only; split <;> rfl
@[simp] theorem eventAlarm_tm (i : Nat) (d : Dev) : (eventAlarm i d).tm = d.tm := by unfold eventAlarm; dsimp only; split <;> rfl
@[simp] theorem eventAlarm_fab (i : Nat) (d : Dev) : (eventAlarm i d).fab = d.fab := by unfold eventAlarm; dsimp only; split <;> rfl
@[simp] theorem eventAlarm_st (i : Nat) (d : Dev) : (eventAlarm i d).st = d.st := by unfold eventAlarm; dsimp only; split <;> rfl
@[simp] theorem eventAlarm_rt (i : Nat) (d : Dev) : (eventAlarm i d).rt = d.rt := by unfold eventAlarm; dsimp only; split <;> rfl
@[simp] theorem eventAlarm_cls (i : Nat) (d : Dev) : (eventAlarm i d).cls = d.cls := by unfold eventAlarm; dsimp only; split <;> rfl
@[simp] theorem eventAlarm_heat (i : Nat) (d : Dev) : (eventAlarm i d).heat = d.heat := by unfold eventAlarm; dsimp only; split <;> rfl
@[simp] theorem eventAlarm_otp (i : Nat) (d : Dev) : (eventAlarm i d).otp = d.otp := by unfold eventAlarm; dsimp only; split <;> rfl

/-! ### endEvents and newTick -/

@[simp] theorem endEvents_now (d : Dev) : (endEvents d).now = d.now := rfl
@[simp] theorem endEvents_free (d : Dev) : (endEvents d).free = d.free := rfl
@[simp] theorem endEvents_timers (d : Dev) : (endEvents d).timers = d.timers := rfl
@[simp] theorem endEvents_flash (d : Dev) : (endEvents d).flash = d.flash := rfl
@[simp] theorem endEvents_aon (d : Dev) : (endEvents d).aon = d.aon := rfl
@[simp] theorem endEvents_boot (d : Dev) : (endEvents d).boot = d.boot := rfl
@[simp] theorem endEvents_hw (d : Dev) : (endEvents d).hw = d.hw := rfl
@[simp] theorem endEvents_cables (d : Dev) : (endEvents d).cables = d.cables := rfl
@[simp] theorem endEvents_slots (d : Dev) : (endEvents d).slots = d.slots := rfl
@[simp] theorem endEvents_shep (d : Dev) : (endEvents d).shep = d.shep := rfl
@[simp] theorem endEvents_ng (d : Dev) : (endEvents d).ng = d.ng := rfl
@[simp] theorem endEvents_tm (d : Dev) : (endEvents d).tm = d.tm := rfl
@[simp] theorem endEvents_fab (d : Dev) : (endEvents d).fab = d.fab := rfl
@[simp] theorem endEvents_st (d : Dev) : (endEvents d).st = d.st := rfl
@[simp] theorem endEvents_rt (d : Dev) : (endEvents d).rt = d.rt := rfl
@[simp] theorem endEvents_cls (d : Dev) : (endEvents d).cls = d.cls := rfl
@[simp] theorem endEvents_heat (d : Dev) : (endEvents d).heat = d.heat := rfl
@[simp] theorem endEvents_otp (d : Dev) : (endEvents d).otp = d.otp := rfl
@[simp] theorem endEvents_out (d : Dev) : (endEvents d).out = d.out := rfl

@[simp] theorem drawFree_now (d : Dev) : (drawFree d).2.now = d.now := rfl
@[simp] theorem drawFree_timers (d : Dev) : (drawFree d).2.timers = d.timers := rfl
@[simp] theorem drawFree_out (d : Dev) : (drawFree d).2.out = d.out := rfl
@[simp] theorem drawFree_flash (d : Dev) : (drawFree d).2.flash = d.flash := rfl
@[simp] theorem drawFree_aon (d : Dev) : (drawFree d).2.aon = d.aon := rfl
@[simp] theorem drawFree_boot (d : Dev) : (drawFree d).2.boot = d.boot := rfl
@[simp] theorem drawFree_od (d : Dev) : (drawFree d).2.od = d.od := rfl
@[simp] theorem drawFree_hw (d : Dev) : (drawFree d).2.hw = d.hw := rfl
@[simp] theorem drawFree_cables (d : Dev) : (drawFree d).2.cables = d.cables := rfl
@[simp] theorem drawFree_slots (d : Dev) : (drawFree d).2.slots = d.slots := rfl
@[simp] theorem drawFree_shep (d : Dev) : (drawFree d).2.shep = d.shep := rfl
@[simp] theorem drawFree_ng (d : Dev) : (drawFree d).2.ng = d.ng := rfl
@[simp] theorem drawFree_tm (d : Dev) : (drawFree d).2.tm = d.tm := rfl
@[simp] theorem drawFree_fab (d : Dev) : (drawFree d).2.fab = d.fab := rfl
@[simp] theorem drawFree_st (d : Dev) : (drawFree d).2.st = d.st := rfl
@[simp] theorem drawFree_rt (d : Dev) : (drawFree d).2.rt = d.rt := rfl
@[simp] theorem drawFree_cls (d : Dev) : (drawFree d).2.cls = d.cls := rfl
@[simp] theorem drawFree_heat (d : Dev) : (drawFree d).2.heat = d.heat := rfl
@[simp] theorem drawFree_otp (d : Dev) : (drawFree d).2.otp = d.otp := rfl

end Sys2Proof.Machine
end

