-- ==== Sys2Proof/Laws/Run.lean ====
section
/-! SUPPORT. What running a command does around its effect: the queue stands, the flags that follow from the state settle,
and every other plane is what the effect made of it. -/

-- One theorem after another: many at once would hold a thread each.
set_option Elab.async false

namespace Sys2Proof.Machine

/-! ### Settling -/

/-! ### settleIrq -/

@[simp] theorem settleIrq_now (d : Dev) : (settleIrq d).now = d.now := rfl
@[simp] theorem settleIrq_free (d : Dev) : (settleIrq d).free = d.free := rfl
@[simp] theorem settleIrq_timers (d : Dev) : (settleIrq d).timers = d.timers := rfl
@[simp] theorem settleIrq_out (d : Dev) : (settleIrq d).out = d.out := rfl
@[simp] theorem settleIrq_flash (d : Dev) : (settleIrq d).flash = d.flash := rfl
@[simp] theorem settleIrq_aon (d : Dev) : (settleIrq d).aon = d.aon := rfl
@[simp] theorem settleIrq_boot (d : Dev) : (settleIrq d).boot = d.boot := rfl
@[simp] theorem settleIrq_cables (d : Dev) : (settleIrq d).cables = d.cables := rfl
@[simp] theorem settleIrq_slots (d : Dev) : (settleIrq d).slots = d.slots := rfl
@[simp] theorem settleIrq_shep (d : Dev) : (settleIrq d).shep = d.shep := rfl
@[simp] theorem settleIrq_ng (d : Dev) : (settleIrq d).ng = d.ng := rfl
@[simp] theorem settleIrq_tm (d : Dev) : (settleIrq d).tm = d.tm := rfl
@[simp] theorem settleIrq_fab (d : Dev) : (settleIrq d).fab = d.fab := rfl
@[simp] theorem settleIrq_st (d : Dev) : (settleIrq d).st = d.st := rfl
@[simp] theorem settleIrq_rt (d : Dev) : (settleIrq d).rt = d.rt := rfl
@[simp] theorem settleIrq_cls (d : Dev) : (settleIrq d).cls = d.cls := rfl
@[simp] theorem settleIrq_heat (d : Dev) : (settleIrq d).heat = d.heat := rfl
@[simp] theorem settleIrq_otp (d : Dev) : (settleIrq d).otp = d.otp := rfl
@[simp] theorem settleIrq_od (d : Dev) : (settleIrq d).od = d.od := rfl
@[simp] theorem settleIrq_hw_xferStatus (d : Dev) : (settleIrq d).hw.xferStatus = d.hw.xferStatus := rfl
@[simp] theorem settleIrq_hw_dummy (d : Dev) : (settleIrq d).hw.dummy = d.hw.dummy := rfl
@[simp] theorem settleIrq_hw_otpData (d : Dev) : (settleIrq d).hw.otpData = d.hw.otpData := rfl
@[simp] theorem settleIrq_hw_otpResult (d : Dev) : (settleIrq d).hw.otpResult = d.hw.otpResult := rfl
@[simp] theorem settleIrq_hw_irqEnable (d : Dev) : (settleIrq d).hw.irqEnable = d.hw.irqEnable := rfl
@[simp] theorem settleIrq_hw_irqPort (d : Dev) : (settleIrq d).hw.irqPort = d.hw.irqPort := rfl
@[simp] theorem settleIrq_hw_irqPortEn (d : Dev) : (settleIrq d).hw.irqPortEn = d.hw.irqPortEn := rfl
@[simp] theorem settleIrq_hw_mbxBusy (d : Dev) : (settleIrq d).hw.mbxBusy = d.hw.mbxBusy := rfl
@[simp] theorem settleIrq_hw_mbxDone (d : Dev) : (settleIrq d).hw.mbxDone = d.hw.mbxDone := rfl
@[simp] theorem settleIrq_hw_mbxOverrun (d : Dev) : (settleIrq d).hw.mbxOverrun = d.hw.mbxOverrun := rfl
@[simp] theorem settleIrq_hw_mbxNotReady (d : Dev) : (settleIrq d).hw.mbxNotReady = d.hw.mbxNotReady := rfl
@[simp] theorem settleIrq_hw_rspLen (d : Dev) : (settleIrq d).hw.rspLen = d.hw.rspLen := rfl
@[simp] theorem settleIrq_hw_mbxLen (d : Dev) : (settleIrq d).hw.mbxLen = d.hw.mbxLen := rfl
@[simp] theorem settleIrq_hw_ntfHead (d : Dev) : (settleIrq d).hw.ntfHead = d.hw.ntfHead := rfl
@[simp] theorem settleIrq_hw_ntfTail (d : Dev) : (settleIrq d).hw.ntfTail = d.hw.ntfTail := rfl
@[simp] theorem settleIrq_hw_reqBuf (d : Dev) : (settleIrq d).hw.reqBuf = d.hw.reqBuf := rfl
@[simp] theorem settleIrq_hw_rspBuf (d : Dev) : (settleIrq d).hw.rspBuf = d.hw.rspBuf := rfl
@[simp] theorem settleIrq_hw_ring (d : Dev) : (settleIrq d).hw.ring = d.hw.ring := rfl
@[simp] theorem settleIrq_hw_staging (d : Dev) : (settleIrq d).hw.staging = d.hw.staging := rfl
@[simp] theorem settleIrq_hw_snap (d : Dev) : (settleIrq d).hw.snap = d.hw.snap := rfl
@[simp] theorem settleIrq_hw_tdmaRun (d : Dev) : (settleIrq d).hw.tdmaRun = d.hw.tdmaRun := rfl
@[simp] theorem settleIrq_hw_tdmaEnable (d : Dev) : (settleIrq d).hw.tdmaEnable = d.hw.tdmaEnable := rfl
@[simp] theorem settleIrq_hw_ringSize (d : Dev) : (settleIrq d).hw.ringSize = d.hw.ringSize := rfl
@[simp] theorem settleIrq_hw_ringBase (d : Dev) : (settleIrq d).hw.ringBase = d.hw.ringBase := rfl
@[simp] theorem settleIrq_hw_tdmaTail (d : Dev) : (settleIrq d).hw.tdmaTail = d.hw.tdmaTail := rfl
@[simp] theorem settleIrq_hw_tdmaHead (d : Dev) : (settleIrq d).hw.tdmaHead = d.hw.tdmaHead := rfl
@[simp] theorem settleIrq_hw_tdmaStopped (d : Dev) : (settleIrq d).hw.tdmaStopped = d.hw.tdmaStopped := rfl
@[simp] theorem settleIrq_hw_expIndex (d : Dev) : (settleIrq d).hw.expIndex = d.hw.expIndex := rfl
@[simp] theorem settleIrq_hw_expTable (d : Dev) : (settleIrq d).hw.expTable = d.hw.expTable := rfl
@[simp] theorem settleIrq_hw_snapClear (d : Dev) : (settleIrq d).hw.snapClear = d.hw.snapClear := rfl
@[simp] theorem settleIrq_hw_snapBusy (d : Dev) : (settleIrq d).hw.snapBusy = d.hw.snapBusy := rfl
@[simp] theorem settleIrq_hw_snapSet (d : Dev) : (settleIrq d).hw.snapSet = d.hw.snapSet := rfl
@[simp] theorem settleIrq_hw_snapFirst (d : Dev) : (settleIrq d).hw.snapFirst = d.hw.snapFirst := rfl
@[simp] theorem settleIrq_hw_snapCount (d : Dev) : (settleIrq d).hw.snapCount = d.hw.snapCount := rfl
@[simp] theorem settleIrq_hw_snapTime (d : Dev) : (settleIrq d).hw.snapTime = d.hw.snapTime := rfl
@[simp] theorem settleIrq_hw_snapSeq (d : Dev) : (settleIrq d).hw.snapSeq = d.hw.snapSeq := rfl
@[simp] theorem settleIrq_hw_hiz (d : Dev) : (settleIrq d).hw.hiz = d.hw.hiz := rfl

/-! ### settleSubs -/

@[simp] theorem settleSubs_now (d : Dev) : (settleSubs d).now = d.now := by
  unfold settleSubs; split <;> rfl
@[simp] theorem settleSubs_free (d : Dev) : (settleSubs d).free = d.free := by
  unfold settleSubs; split <;> rfl
@[simp] theorem settleSubs_timers (d : Dev) : (settleSubs d).timers = d.timers := by
  unfold settleSubs; split <;> rfl
@[simp] theorem settleSubs_out (d : Dev) : (settleSubs d).out = d.out := by
  unfold settleSubs; split <;> rfl
@[simp] theorem settleSubs_flash (d : Dev) : (settleSubs d).flash = d.flash := by
  unfold settleSubs; split <;> rfl
@[simp] theorem settleSubs_aon (d : Dev) : (settleSubs d).aon = d.aon := by
  unfold settleSubs; split <;> rfl
@[simp] theorem settleSubs_boot (d : Dev) : (settleSubs d).boot = d.boot := by
  unfold settleSubs; split <;> rfl
@[simp] theorem settleSubs_cables (d : Dev) : (settleSubs d).cables = d.cables := by
  unfold settleSubs; split <;> rfl
@[simp] theorem settleSubs_slots (d : Dev) : (settleSubs d).slots = d.slots := by
  unfold settleSubs; split <;> rfl
@[simp] theorem settleSubs_shep (d : Dev) : (settleSubs d).shep = d.shep := by
  unfold settleSubs; split <;> rfl
@[simp] theorem settleSubs_ng (d : Dev) : (settleSubs d).ng = d.ng := by
  unfold settleSubs; split <;> rfl
@[simp] theorem settleSubs_tm (d : Dev) : (settleSubs d).tm = d.tm := by
  unfold settleSubs; split <;> rfl
@[simp] theorem settleSubs_fab (d : Dev) : (settleSubs d).fab = d.fab := by
  unfold settleSubs; split <;> rfl
@[simp] theorem settleSubs_st (d : Dev) : (settleSubs d).st = d.st := by
  unfold settleSubs; split <;> rfl
@[simp] theorem settleSubs_rt (d : Dev) : (settleSubs d).rt = d.rt := by
  unfold settleSubs; split <;> rfl
@[simp] theorem settleSubs_cls (d : Dev) : (settleSubs d).cls = d.cls := by
  unfold settleSubs; split <;> rfl
@[simp] theorem settleSubs_heat (d : Dev) : (settleSubs d).heat = d.heat := by
  unfold settleSubs; split <;> rfl
@[simp] theorem settleSubs_otp (d : Dev) : (settleSubs d).otp = d.otp := by
  unfold settleSubs; split <;> rfl
@[simp] theorem settleSubs_od_cfg (d : Dev) : (settleSubs d).od.cfg = d.od.cfg := by
  unfold settleSubs; split <;> rfl
@[simp] theorem settleSubs_od_dflt (d : Dev) : (settleSubs d).od.dflt = d.od.dflt := by
  unfold settleSubs; split <;> rfl
@[simp] theorem settleSubs_od_sel (d : Dev) : (settleSubs d).od.sel = d.od.sel := by
  unfold settleSubs; split <;> rfl
@[simp] theorem settleSubs_od_sessions (d : Dev) : (settleSubs d).od.sessions = d.od.sessions := by
  unfold settleSubs; split <;> rfl
@[simp] theorem settleSubs_od_scheduled (d : Dev) : (settleSubs d).od.scheduled = d.od.scheduled := by
  unfold settleSubs; split <;> rfl
@[simp] theorem settleSubs_od_commits (d : Dev) : (settleSubs d).od.commits = d.od.commits := by
  unfold settleSubs; split <;> rfl
@[simp] theorem settleSubs_od_sentTimes (d : Dev) : (settleSubs d).od.sentTimes = d.od.sentTimes := by
  unfold settleSubs; split <;> rfl
@[simp] theorem settleSubs_od_alarmEvents (d : Dev) : (settleSubs d).od.alarmEvents = d.od.alarmEvents := by
  unfold settleSubs; split <;> rfl
@[simp] theorem settleSubs_od_executed (d : Dev) : (settleSubs d).od.executed = d.od.executed := by
  unfold settleSubs; split <;> rfl
@[simp] theorem settleSubs_od_duplicate (d : Dev) : (settleSubs d).od.duplicate = d.od.duplicate := by
  unfold settleSubs; split <;> rfl
@[simp] theorem settleSubs_od_stale (d : Dev) : (settleSubs d).od.stale = d.od.stale := by
  unfold settleSubs; split <;> rfl
@[simp] theorem settleSubs_od_busy (d : Dev) : (settleSubs d).od.busy = d.od.busy := by
  unfold settleSubs; split <;> rfl
@[simp] theorem settleSubs_od_integrity (d : Dev) : (settleSubs d).od.integrity = d.od.integrity := by
  unfold settleSubs; split <;> rfl
@[simp] theorem settleSubs_od_sessionCnt (d : Dev) : (settleSubs d).od.sessionCnt = d.od.sessionCnt := by
  unfold settleSubs; split <;> rfl
@[simp] theorem settleSubs_od_malformed (d : Dev) : (settleSubs d).od.malformed = d.od.malformed := by
  unfold settleSubs; split <;> rfl
@[simp] theorem settleSubs_od_failTimes (d : Dev) : (settleSubs d).od.failTimes = d.od.failTimes := by
  unfold settleSubs; split <;> rfl
@[simp] theorem settleSubs_od_proofFails (d : Dev) : (settleSubs d).od.proofFails = d.od.proofFails := by
  unfold settleSubs; split <;> rfl
@[simp] theorem settleSubs_od_lockout (d : Dev) : (settleSubs d).od.lockout = d.od.lockout := by
  unfold settleSubs; split <;> rfl
@[simp] theorem settleSubs_od_watchOd (d : Dev) : (settleSubs d).od.watchOd = d.od.watchOd := by
  unfold settleSubs; split <;> rfl
@[simp] theorem settleSubs_od_watchDeadline (d : Dev) : (settleSubs d).od.watchDeadline = d.od.watchDeadline := by
  unfold settleSubs; split <;> rfl
@[simp] theorem settleSubs_od_watchOverrun (d : Dev) : (settleSubs d).od.watchOverrun = d.od.watchOverrun := by
  unfold settleSubs; split <;> rfl
@[simp] theorem settleSubs_od_watchShed (d : Dev) : (settleSubs d).od.watchShed = d.od.watchShed := by
  unfold settleSubs; split <;> rfl
@[simp] theorem settleSubs_od_watchLate (d : Dev) : (settleSubs d).od.watchLate = d.od.watchLate := by
  unfold settleSubs; split <;> rfl
@[simp] theorem settleSubs_od_journalState (d : Dev) : (settleSubs d).od.journalState = d.od.journalState := by
  unfold settleSubs; split <;> rfl
@[simp] theorem settleSubs_od_generation (d : Dev) : (settleSubs d).od.generation = d.od.generation := by
  unfold settleSubs; split <;> rfl
@[simp] theorem settleSubs_od_fill (d : Dev) : (settleSubs d).od.fill = d.od.fill := by
  unfold settleSubs; split <;> rfl
@[simp] theorem settleSubs_od_sector (d : Dev) : (settleSubs d).od.sector = d.od.sector := by
  unfold settleSubs; split <;> rfl
@[simp] theorem settleSubs_od_serial (d : Dev) : (settleSubs d).od.serial = d.od.serial := by
  unfold settleSubs; split <;> rfl
@[simp] theorem settleSubs_od_replaySkipped (d : Dev) : (settleSubs d).od.replaySkipped = d.od.replaySkipped := by
  unfold settleSubs; split <;> rfl
@[simp] theorem settleSubs_od_recordSkipped (d : Dev) : (settleSubs d).od.recordSkipped = d.od.recordSkipped := by
  unfold settleSubs; split <;> rfl
@[simp] theorem settleSubs_od_unclean (d : Dev) : (settleSubs d).od.unclean = d.od.unclean := by
  unfold settleSubs; split <;> rfl
@[simp] theorem settleSubs_od_pendingJournal (d : Dev) : (settleSubs d).od.pendingJournal = d.od.pendingJournal := by
  unfold settleSubs; split <;> rfl
@[simp] theorem settleSubs_od_lastCompact (d : Dev) : (settleSubs d).od.lastCompact = d.od.lastCompact := by
  unfold settleSubs; split <;> rfl
@[simp] theorem settleSubs_hw (d : Dev) : (settleSubs d).hw = d.hw := by
  unfold settleSubs; split <;> rfl

/-! ### settleAlarms -/

@[simp] theorem settleAlarms_now (d : Dev) : (settleAlarms d).now = d.now := by
  unfold settleAlarms; split <;> [rfl; (dsimp only; split <;> rfl)]
@[simp] theorem settleAlarms_free (d : Dev) : (settleAlarms d).free = d.free := by
  unfold settleAlarms; split <;> [rfl; (dsimp only; split <;> rfl)]
@[simp] theorem settleAlarms_timers (d : Dev) : (settleAlarms d).timers = d.timers := by
  unfold settleAlarms; split <;> [rfl; (dsimp only; split <;> rfl)]
@[simp] theorem settleAlarms_out (d : Dev) : (settleAlarms d).out = d.out := by
  unfold settleAlarms; split <;> [rfl; (dsimp only; split <;> rfl)]
@[simp] theorem settleAlarms_flash (d : Dev) : (settleAlarms d).flash = d.flash := by
  unfold settleAlarms; split <;> [rfl; (dsimp only; split <;> rfl)]
@[simp] theorem settleAlarms_aon (d : Dev) : (settleAlarms d).aon = d.aon := by
  unfold settleAlarms; split <;> [rfl; (dsimp only; split <;> rfl)]
@[simp] theorem settleAlarms_boot (d : Dev) : (settleAlarms d).boot = d.boot := by
  unfold settleAlarms; split <;> [rfl; (dsimp only; split <;> rfl)]
@[simp] theorem settleAlarms_cables (d : Dev) : (settleAlarms d).cables = d.cables := by
  unfold settleAlarms; split <;> [rfl; (dsimp only; split <;> rfl)]
@[simp] theorem settleAlarms_slots (d : Dev) : (settleAlarms d).slots = d.slots := by
  unfold settleAlarms; split <;> [rfl; (dsimp only; split <;> rfl)]
@[simp] theorem settleAlarms_shep (d : Dev) : (settleAlarms d).shep = d.shep := by
  unfold settleAlarms; split <;> [rfl; (dsimp only; split <;> rfl)]
@[simp] theorem settleAlarms_ng (d : Dev) : (settleAlarms d).ng = d.ng := by
  unfold settleAlarms; split <;> [rfl; (dsimp only; split <;> rfl)]
@[simp] theorem settleAlarms_tm (d : Dev) : (settleAlarms d).tm = d.tm := by
  unfold settleAlarms; split <;> [rfl; (dsimp only; split <;> rfl)]
@[simp] theorem settleAlarms_fab (d : Dev) : (settleAlarms d).fab = d.fab := by
  unfold settleAlarms; split <;> [rfl; (dsimp only; split <;> rfl)]
@[simp] theorem settleAlarms_st (d : Dev) : (settleAlarms d).st = d.st := by
  unfold settleAlarms; split <;> [rfl; (dsimp only; split <;> rfl)]
@[simp] theorem settleAlarms_rt (d : Dev) : (settleAlarms d).rt = d.rt := by
  unfold settleAlarms; split <;> [rfl; (dsimp only; split <;> rfl)]
@[simp] theorem settleAlarms_cls (d : Dev) : (settleAlarms d).cls = d.cls := by
  unfold settleAlarms; split <;> [rfl; (dsimp only; split <;> rfl)]
@[simp] theorem settleAlarms_heat (d : Dev) : (settleAlarms d).heat = d.heat := by
  unfold settleAlarms; split <;> [rfl; (dsimp only; split <;> rfl)]
@[simp] theorem settleAlarms_otp (d : Dev) : (settleAlarms d).otp = d.otp := by
  unfold settleAlarms; split <;> [rfl; (dsimp only; split <;> rfl)]
@[simp] theorem settleAlarms_od_cfg (d : Dev) : (settleAlarms d).od.cfg = d.od.cfg := by
  unfold settleAlarms; split <;> [rfl; (dsimp only; split <;> rfl)]
@[simp] theorem settleAlarms_od_dflt (d : Dev) : (settleAlarms d).od.dflt = d.od.dflt := by
  unfold settleAlarms; split <;> [rfl; (dsimp only; split <;> rfl)]
@[simp] theorem settleAlarms_od_sel (d : Dev) : (settleAlarms d).od.sel = d.od.sel := by
  unfold settleAlarms; split <;> [rfl; (dsimp only; split <;> rfl)]
@[simp] theorem settleAlarms_od_sessions (d : Dev) : (settleAlarms d).od.sessions = d.od.sessions := by
  unfold settleAlarms; split <;> [rfl; (dsimp only; split <;> rfl)]
@[simp] theorem settleAlarms_od_scheduled (d : Dev) : (settleAlarms d).od.scheduled = d.od.scheduled := by
  unfold settleAlarms; split <;> [rfl; (dsimp only; split <;> rfl)]
@[simp] theorem settleAlarms_od_commits (d : Dev) : (settleAlarms d).od.commits = d.od.commits := by
  unfold settleAlarms; split <;> [rfl; (dsimp only; split <;> rfl)]
@[simp] theorem settleAlarms_od_sentTimes (d : Dev) : (settleAlarms d).od.sentTimes = d.od.sentTimes := by
  unfold settleAlarms; split <;> [rfl; (dsimp only; split <;> rfl)]
@[simp] theorem settleAlarms_od_alarmEvents (d : Dev) : (settleAlarms d).od.alarmEvents = d.od.alarmEvents := by
  unfold settleAlarms; split <;> [rfl; (dsimp only; split <;> rfl)]
@[simp] theorem settleAlarms_od_executed (d : Dev) : (settleAlarms d).od.executed = d.od.executed := by
  unfold settleAlarms; split <;> [rfl; (dsimp only; split <;> rfl)]
@[simp] theorem settleAlarms_od_duplicate (d : Dev) : (settleAlarms d).od.duplicate = d.od.duplicate := by
  unfold settleAlarms; split <;> [rfl; (dsimp only; split <;> rfl)]
@[simp] theorem settleAlarms_od_stale (d : Dev) : (settleAlarms d).od.stale = d.od.stale := by
  unfold settleAlarms; split <;> [rfl; (dsimp only; split <;> rfl)]
@[simp] theorem settleAlarms_od_busy (d : Dev) : (settleAlarms d).od.busy = d.od.busy := by
  unfold settleAlarms; split <;> [rfl; (dsimp only; split <;> rfl)]
@[simp] theorem settleAlarms_od_integrity (d : Dev) : (settleAlarms d).od.integrity = d.od.integrity := by
  unfold settleAlarms; split <;> [rfl; (dsimp only; split <;> rfl)]
@[simp] theorem settleAlarms_od_sessionCnt (d : Dev) : (settleAlarms d).od.sessionCnt = d.od.sessionCnt := by
  unfold settleAlarms; split <;> [rfl; (dsimp only; split <;> rfl)]
@[simp] theorem settleAlarms_od_malformed (d : Dev) : (settleAlarms d).od.malformed = d.od.malformed := by
  unfold settleAlarms; split <;> [rfl; (dsimp only; split <;> rfl)]
@[simp] theorem settleAlarms_od_failTimes (d : Dev) : (settleAlarms d).od.failTimes = d.od.failTimes := by
  unfold settleAlarms; split <;> [rfl; (dsimp only; split <;> rfl)]
@[simp] theorem settleAlarms_od_proofFails (d : Dev) : (settleAlarms d).od.proofFails = d.od.proofFails := by
  unfold settleAlarms; split <;> [rfl; (dsimp only; split <;> rfl)]
@[simp] theorem settleAlarms_od_lockout (d : Dev) : (settleAlarms d).od.lockout = d.od.lockout := by
  unfold settleAlarms; split <;> [rfl; (dsimp only; split <;> rfl)]
@[simp] theorem settleAlarms_od_watchOd (d : Dev) : (settleAlarms d).od.watchOd = d.od.watchOd := by
  unfold settleAlarms; split <;> [rfl; (dsimp only; split <;> rfl)]
@[simp] theorem settleAlarms_od_watchDeadline (d : Dev) : (settleAlarms d).od.watchDeadline = d.od.watchDeadline := by
  unfold settleAlarms; split <;> [rfl; (dsimp only; split <;> rfl)]
@[simp] theorem settleAlarms_od_watchOverrun (d : Dev) : (settleAlarms d).od.watchOverrun = d.od.watchOverrun := by
  unfold settleAlarms; split <;> [rfl; (dsimp only; split <;> rfl)]
@[simp] theorem settleAlarms_od_watchShed (d : Dev) : (settleAlarms d).od.watchShed = d.od.watchShed := by
  unfold settleAlarms; split <;> [rfl; (dsimp only; split <;> rfl)]
@[simp] theorem settleAlarms_od_watchLate (d : Dev) : (settleAlarms d).od.watchLate = d.od.watchLate := by
  unfold settleAlarms; split <;> [rfl; (dsimp only; split <;> rfl)]
@[simp] theorem settleAlarms_od_journalState (d : Dev) : (settleAlarms d).od.journalState = d.od.journalState := by
  unfold settleAlarms; split <;> [rfl; (dsimp only; split <;> rfl)]
@[simp] theorem settleAlarms_od_generation (d : Dev) : (settleAlarms d).od.generation = d.od.generation := by
  unfold settleAlarms; split <;> [rfl; (dsimp only; split <;> rfl)]
@[simp] theorem settleAlarms_od_fill (d : Dev) : (settleAlarms d).od.fill = d.od.fill := by
  unfold settleAlarms; split <;> [rfl; (dsimp only; split <;> rfl)]
@[simp] theorem settleAlarms_od_sector (d : Dev) : (settleAlarms d).od.sector = d.od.sector := by
  unfold settleAlarms; split <;> [rfl; (dsimp only; split <;> rfl)]
@[simp] theorem settleAlarms_od_serial (d : Dev) : (settleAlarms d).od.serial = d.od.serial := by
  unfold settleAlarms; split <;> [rfl; (dsimp only; split <;> rfl)]
@[simp] theorem settleAlarms_od_replaySkipped (d : Dev) : (settleAlarms d).od.replaySkipped = d.od.replaySkipped := by
  unfold settleAlarms; split <;> [rfl; (dsimp only; split <;> rfl)]
@[simp] theorem settleAlarms_od_recordSkipped (d : Dev) : (settleAlarms d).od.recordSkipped = d.od.recordSkipped := by
  unfold settleAlarms; split <;> [rfl; (dsimp only; split <;> rfl)]
@[simp] theorem settleAlarms_od_unclean (d : Dev) : (settleAlarms d).od.unclean = d.od.unclean := by
  unfold settleAlarms; split <;> [rfl; (dsimp only; split <;> rfl)]
@[simp] theorem settleAlarms_od_pendingJournal (d : Dev) : (settleAlarms d).od.pendingJournal = d.od.pendingJournal := by
  unfold settleAlarms; split <;> [rfl; (dsimp only; split <;> rfl)]
@[simp] theorem settleAlarms_od_lastCompact (d : Dev) : (settleAlarms d).od.lastCompact = d.od.lastCompact := by
  unfold settleAlarms; split <;> [rfl; (dsimp only; split <;> rfl)]
@[simp] theorem settleAlarms_hw_xferStatus (d : Dev) : (settleAlarms d).hw.xferStatus = d.hw.xferStatus := by
  unfold settleAlarms; split <;> [rfl; (dsimp only; split <;> rfl)]
@[simp] theorem settleAlarms_hw_dummy (d : Dev) : (settleAlarms d).hw.dummy = d.hw.dummy := by
  unfold settleAlarms; split <;> [rfl; (dsimp only; split <;> rfl)]
@[simp] theorem settleAlarms_hw_otpData (d : Dev) : (settleAlarms d).hw.otpData = d.hw.otpData := by
  unfold settleAlarms; split <;> [rfl; (dsimp only; split <;> rfl)]
@[simp] theorem settleAlarms_hw_otpResult (d : Dev) : (settleAlarms d).hw.otpResult = d.hw.otpResult := by
  unfold settleAlarms; split <;> [rfl; (dsimp only; split <;> rfl)]
@[simp] theorem settleAlarms_hw_irqEnable (d : Dev) : (settleAlarms d).hw.irqEnable = d.hw.irqEnable := by
  unfold settleAlarms; split <;> [rfl; (dsimp only; split <;> rfl)]
@[simp] theorem settleAlarms_hw_irqPort (d : Dev) : (settleAlarms d).hw.irqPort = d.hw.irqPort := by
  unfold settleAlarms; split <;> [rfl; (dsimp only; split <;> rfl)]
@[simp] theorem settleAlarms_hw_irqPortEn (d : Dev) : (settleAlarms d).hw.irqPortEn = d.hw.irqPortEn := by
  unfold settleAlarms; split <;> [rfl; (dsimp only; split <;> rfl)]
@[simp] theorem settleAlarms_hw_mbxBusy (d : Dev) : (settleAlarms d).hw.mbxBusy = d.hw.mbxBusy := by
  unfold settleAlarms; split <;> [rfl; (dsimp only; split <;> rfl)]
@[simp] theorem settleAlarms_hw_mbxDone (d : Dev) : (settleAlarms d).hw.mbxDone = d.hw.mbxDone := by
  unfold settleAlarms; split <;> [rfl; (dsimp only; split <;> rfl)]
@[simp] theorem settleAlarms_hw_mbxOverrun (d : Dev) : (settleAlarms d).hw.mbxOverrun = d.hw.mbxOverrun := by
  unfold settleAlarms; split <;> [rfl; (dsimp only; split <;> rfl)]
@[simp] theorem settleAlarms_hw_mbxNotReady (d : Dev) : (settleAlarms d).hw.mbxNotReady = d.hw.mbxNotReady := by
  unfold settleAlarms; split <;> [rfl; (dsimp only; split <;> rfl)]
@[simp] theorem settleAlarms_hw_rspLen (d : Dev) : (settleAlarms d).hw.rspLen = d.hw.rspLen := by
  unfold settleAlarms; split <;> [rfl; (dsimp only; split <;> rfl)]
@[simp] theorem settleAlarms_hw_mbxLen (d : Dev) : (settleAlarms d).hw.mbxLen = d.hw.mbxLen := by
  unfold settleAlarms; split <;> [rfl; (dsimp only; split <;> rfl)]
@[simp] theorem settleAlarms_hw_ntfHead (d : Dev) : (settleAlarms d).hw.ntfHead = d.hw.ntfHead := by
  unfold settleAlarms; split <;> [rfl; (dsimp only; split <;> rfl)]
@[simp] theorem settleAlarms_hw_ntfTail (d : Dev) : (settleAlarms d).hw.ntfTail = d.hw.ntfTail := by
  unfold settleAlarms; split <;> [rfl; (dsimp only; split <;> rfl)]
@[simp] theorem settleAlarms_hw_reqBuf (d : Dev) : (settleAlarms d).hw.reqBuf = d.hw.reqBuf := by
  unfold settleAlarms; split <;> [rfl; (dsimp only; split <;> rfl)]
@[simp] theorem settleAlarms_hw_rspBuf (d : Dev) : (settleAlarms d).hw.rspBuf = d.hw.rspBuf := by
  unfold settleAlarms; split <;> [rfl; (dsimp only; split <;> rfl)]
@[simp] theorem settleAlarms_hw_ring (d : Dev) : (settleAlarms d).hw.ring = d.hw.ring := by
  unfold settleAlarms; split <;> [rfl; (dsimp only; split <;> rfl)]
@[simp] theorem settleAlarms_hw_staging (d : Dev) : (settleAlarms d).hw.staging = d.hw.staging := by
  unfold settleAlarms; split <;> [rfl; (dsimp only; split <;> rfl)]
@[simp] theorem settleAlarms_hw_snap (d : Dev) : (settleAlarms d).hw.snap = d.hw.snap := by
  unfold settleAlarms; split <;> [rfl; (dsimp only; split <;> rfl)]
@[simp] theorem settleAlarms_hw_tdmaRun (d : Dev) : (settleAlarms d).hw.tdmaRun = d.hw.tdmaRun := by
  unfold settleAlarms; split <;> [rfl; (dsimp only; split <;> rfl)]
@[simp] theorem settleAlarms_hw_tdmaEnable (d : Dev) : (settleAlarms d).hw.tdmaEnable = d.hw.tdmaEnable := by
  unfold settleAlarms; split <;> [rfl; (dsimp only; split <;> rfl)]
@[simp] theorem settleAlarms_hw_ringSize (d : Dev) : (settleAlarms d).hw.ringSize = d.hw.ringSize := by
  unfold settleAlarms; split <;> [rfl; (dsimp only; split <;> rfl)]
@[simp] theorem settleAlarms_hw_ringBase (d : Dev) : (settleAlarms d).hw.ringBase = d.hw.ringBase := by
  unfold settleAlarms; split <;> [rfl; (dsimp only; split <;> rfl)]
@[simp] theorem settleAlarms_hw_tdmaTail (d : Dev) : (settleAlarms d).hw.tdmaTail = d.hw.tdmaTail := by
  unfold settleAlarms; split <;> [rfl; (dsimp only; split <;> rfl)]
@[simp] theorem settleAlarms_hw_tdmaHead (d : Dev) : (settleAlarms d).hw.tdmaHead = d.hw.tdmaHead := by
  unfold settleAlarms; split <;> [rfl; (dsimp only; split <;> rfl)]
@[simp] theorem settleAlarms_hw_tdmaStopped (d : Dev) : (settleAlarms d).hw.tdmaStopped = d.hw.tdmaStopped := by
  unfold settleAlarms; split <;> [rfl; (dsimp only; split <;> rfl)]
@[simp] theorem settleAlarms_hw_expIndex (d : Dev) : (settleAlarms d).hw.expIndex = d.hw.expIndex := by
  unfold settleAlarms; split <;> [rfl; (dsimp only; split <;> rfl)]
@[simp] theorem settleAlarms_hw_expTable (d : Dev) : (settleAlarms d).hw.expTable = d.hw.expTable := by
  unfold settleAlarms; split <;> [rfl; (dsimp only; split <;> rfl)]
@[simp] theorem settleAlarms_hw_snapClear (d : Dev) : (settleAlarms d).hw.snapClear = d.hw.snapClear := by
  unfold settleAlarms; split <;> [rfl; (dsimp only; split <;> rfl)]
@[simp] theorem settleAlarms_hw_snapBusy (d : Dev) : (settleAlarms d).hw.snapBusy = d.hw.snapBusy := by
  unfold settleAlarms; split <;> [rfl; (dsimp only; split <;> rfl)]
@[simp] theorem settleAlarms_hw_snapSet (d : Dev) : (settleAlarms d).hw.snapSet = d.hw.snapSet := by
  unfold settleAlarms; split <;> [rfl; (dsimp only; split <;> rfl)]
@[simp] theorem settleAlarms_hw_snapFirst (d : Dev) : (settleAlarms d).hw.snapFirst = d.hw.snapFirst := by
  unfold settleAlarms; split <;> [rfl; (dsimp only; split <;> rfl)]
@[simp] theorem settleAlarms_hw_snapCount (d : Dev) : (settleAlarms d).hw.snapCount = d.hw.snapCount := by
  unfold settleAlarms; split <;> [rfl; (dsimp only; split <;> rfl)]
@[simp] theorem settleAlarms_hw_snapTime (d : Dev) : (settleAlarms d).hw.snapTime = d.hw.snapTime := by
  unfold settleAlarms; split <;> [rfl; (dsimp only; split <;> rfl)]
@[simp] theorem settleAlarms_hw_snapSeq (d : Dev) : (settleAlarms d).hw.snapSeq = d.hw.snapSeq := by
  unfold settleAlarms; split <;> [rfl; (dsimp only; split <;> rfl)]
@[simp] theorem settleAlarms_hw_hiz (d : Dev) : (settleAlarms d).hw.hiz = d.hw.hiz := by
  unfold settleAlarms; split <;> [rfl; (dsimp only; split <;> rfl)]

/-! ### settle -/

@[simp] theorem settle_now (d : Dev) : (settle d).now = d.now := by simp [settle]
@[simp] theorem settle_free (d : Dev) : (settle d).free = d.free := by simp [settle]
@[simp] theorem settle_timers (d : Dev) : (settle d).timers = d.timers := by simp [settle]
@[simp] theorem settle_out (d : Dev) : (settle d).out = d.out := by simp [settle]
@[simp] theorem settle_flash (d : Dev) : (settle d).flash = d.flash := by simp [settle]
@[simp] theorem settle_aon (d : Dev) : (settle d).aon = d.aon := by simp [settle]
@[simp] theorem settle_boot (d : Dev) : (settle d).boot = d.boot := by simp [settle]
@[simp] theorem settle_cables (d : Dev) : (settle d).cables = d.cables := by simp [settle]
@[simp] theorem settle_slots (d : Dev) : (settle d).slots = d.slots := by simp [settle]
@[simp] theorem settle_shep (d : Dev) : (settle d).shep = d.shep := by simp [settle]
@[simp] theorem settle_ng (d : Dev) : (settle d).ng = d.ng := by simp [settle]
@[simp] theorem settle_tm (d : Dev) : (settle d).tm = d.tm := by simp [settle]
@[simp] theorem settle_fab (d : Dev) : (settle d).fab = d.fab := by simp [settle]
@[simp] theorem settle_st (d : Dev) : (settle d).st = d.st := by simp [settle]
@[simp] theorem settle_rt (d : Dev) : (settle d).rt = d.rt := by simp [settle]
@[simp] theorem settle_cls (d : Dev) : (settle d).cls = d.cls := by simp [settle]
@[simp] theorem settle_heat (d : Dev) : (settle d).heat = d.heat := by simp [settle]
@[simp] theorem settle_otp (d : Dev) : (settle d).otp = d.otp := by simp [settle]
@[simp] theorem settle_od_cfg (d : Dev) : (settle d).od.cfg = d.od.cfg := by simp [settle]
@[simp] theorem settle_od_dflt (d : Dev) : (settle d).od.dflt = d.od.dflt := by simp [settle]
@[simp] theorem settle_od_sel (d : Dev) : (settle d).od.sel = d.od.sel := by simp [settle]
@[simp] theorem settle_od_sessions (d : Dev) : (settle d).od.sessions = d.od.sessions := by simp [settle]
@[simp] theorem settle_od_scheduled (d : Dev) : (settle d).od.scheduled = d.od.scheduled := by simp [settle]
@[simp] theorem settle_od_commits (d : Dev) : (settle d).od.commits = d.od.commits := by simp [settle]
@[simp] theorem settle_od_sentTimes (d : Dev) : (settle d).od.sentTimes = d.od.sentTimes := by simp [settle]
@[simp] theorem settle_od_alarmEvents (d : Dev) : (settle d).od.alarmEvents = d.od.alarmEvents := by simp [settle]
@[simp] theorem settle_od_executed (d : Dev) : (settle d).od.executed = d.od.executed := by simp [settle]
@[simp] theorem settle_od_duplicate (d : Dev) : (settle d).od.duplicate = d.od.duplicate := by simp [settle]
@[simp] theorem settle_od_stale (d : Dev) : (settle d).od.stale = d.od.stale := by simp [settle]
@[simp] theorem settle_od_busy (d : Dev) : (settle d).od.busy = d.od.busy := by simp [settle]
@[simp] theorem settle_od_integrity (d : Dev) : (settle d).od.integrity = d.od.integrity := by simp [settle]
@[simp] theorem settle_od_sessionCnt (d : Dev) : (settle d).od.sessionCnt = d.od.sessionCnt := by simp [settle]
@[simp] theorem settle_od_malformed (d : Dev) : (settle d).od.malformed = d.od.malformed := by simp [settle]
@[simp] theorem settle_od_failTimes (d : Dev) : (settle d).od.failTimes = d.od.failTimes := by simp [settle]
@[simp] theorem settle_od_proofFails (d : Dev) : (settle d).od.proofFails = d.od.proofFails := by simp [settle]
@[simp] theorem settle_od_lockout (d : Dev) : (settle d).od.lockout = d.od.lockout := by simp [settle]
@[simp] theorem settle_od_watchOd (d : Dev) : (settle d).od.watchOd = d.od.watchOd := by simp [settle]
@[simp] theorem settle_od_watchDeadline (d : Dev) : (settle d).od.watchDeadline = d.od.watchDeadline := by simp [settle]
@[simp] theorem settle_od_watchOverrun (d : Dev) : (settle d).od.watchOverrun = d.od.watchOverrun := by simp [settle]
@[simp] theorem settle_od_watchShed (d : Dev) : (settle d).od.watchShed = d.od.watchShed := by simp [settle]
@[simp] theorem settle_od_watchLate (d : Dev) : (settle d).od.watchLate = d.od.watchLate := by simp [settle]
@[simp] theorem settle_od_journalState (d : Dev) : (settle d).od.journalState = d.od.journalState := by simp [settle]
@[simp] theorem settle_od_generation (d : Dev) : (settle d).od.generation = d.od.generation := by simp [settle]
@[simp] theorem settle_od_fill (d : Dev) : (settle d).od.fill = d.od.fill := by simp [settle]
@[simp] theorem settle_od_sector (d : Dev) : (settle d).od.sector = d.od.sector := by simp [settle]
@[simp] theorem settle_od_serial (d : Dev) : (settle d).od.serial = d.od.serial := by simp [settle]
@[simp] theorem settle_od_replaySkipped (d : Dev) : (settle d).od.replaySkipped = d.od.replaySkipped := by simp [settle]
@[simp] theorem settle_od_recordSkipped (d : Dev) : (settle d).od.recordSkipped = d.od.recordSkipped := by simp [settle]
@[simp] theorem settle_od_unclean (d : Dev) : (settle d).od.unclean = d.od.unclean := by simp [settle]
@[simp] theorem settle_od_pendingJournal (d : Dev) : (settle d).od.pendingJournal = d.od.pendingJournal := by simp [settle]
@[simp] theorem settle_od_lastCompact (d : Dev) : (settle d).od.lastCompact = d.od.lastCompact := by simp [settle]
@[simp] theorem settle_hw_xferStatus (d : Dev) : (settle d).hw.xferStatus = d.hw.xferStatus := by simp [settle]
@[simp] theorem settle_hw_dummy (d : Dev) : (settle d).hw.dummy = d.hw.dummy := by simp [settle]
@[simp] theorem settle_hw_otpData (d : Dev) : (settle d).hw.otpData = d.hw.otpData := by simp [settle]
@[simp] theorem settle_hw_otpResult (d : Dev) : (settle d).hw.otpResult = d.hw.otpResult := by simp [settle]
@[simp] theorem settle_hw_irqEnable (d : Dev) : (settle d).hw.irqEnable = d.hw.irqEnable := by simp [settle]
@[simp] theorem settle_hw_irqPort (d : Dev) : (settle d).hw.irqPort = d.hw.irqPort := by simp [settle]
@[simp] theorem settle_hw_irqPortEn (d : Dev) : (settle d).hw.irqPortEn = d.hw.irqPortEn := by simp [settle]
@[simp] theorem settle_hw_mbxBusy (d : Dev) : (settle d).hw.mbxBusy = d.hw.mbxBusy := by simp [settle]
@[simp] theorem settle_hw_mbxDone (d : Dev) : (settle d).hw.mbxDone = d.hw.mbxDone := by simp [settle]
@[simp] theorem settle_hw_mbxOverrun (d : Dev) : (settle d).hw.mbxOverrun = d.hw.mbxOverrun := by simp [settle]
@[simp] theorem settle_hw_mbxNotReady (d : Dev) : (settle d).hw.mbxNotReady = d.hw.mbxNotReady := by simp [settle]
@[simp] theorem settle_hw_rspLen (d : Dev) : (settle d).hw.rspLen = d.hw.rspLen := by simp [settle]
@[simp] theorem settle_hw_mbxLen (d : Dev) : (settle d).hw.mbxLen = d.hw.mbxLen := by simp [settle]
@[simp] theorem settle_hw_ntfHead (d : Dev) : (settle d).hw.ntfHead = d.hw.ntfHead := by simp [settle]
@[simp] theorem settle_hw_ntfTail (d : Dev) : (settle d).hw.ntfTail = d.hw.ntfTail := by simp [settle]
@[simp] theorem settle_hw_reqBuf (d : Dev) : (settle d).hw.reqBuf = d.hw.reqBuf := by simp [settle]
@[simp] theorem settle_hw_rspBuf (d : Dev) : (settle d).hw.rspBuf = d.hw.rspBuf := by simp [settle]
@[simp] theorem settle_hw_ring (d : Dev) : (settle d).hw.ring = d.hw.ring := by simp [settle]
@[simp] theorem settle_hw_staging (d : Dev) : (settle d).hw.staging = d.hw.staging := by simp [settle]
@[simp] theorem settle_hw_snap (d : Dev) : (settle d).hw.snap = d.hw.snap := by simp [settle]
@[simp] theorem settle_hw_tdmaRun (d : Dev) : (settle d).hw.tdmaRun = d.hw.tdmaRun := by simp [settle]
@[simp] theorem settle_hw_tdmaEnable (d : Dev) : (settle d).hw.tdmaEnable = d.hw.tdmaEnable := by simp [settle]
@[simp] theorem settle_hw_ringSize (d : Dev) : (settle d).hw.ringSize = d.hw.ringSize := by simp [settle]
@[simp] theorem settle_hw_ringBase (d : Dev) : (settle d).hw.ringBase = d.hw.ringBase := by simp [settle]
@[simp] theorem settle_hw_tdmaTail (d : Dev) : (settle d).hw.tdmaTail = d.hw.tdmaTail := by simp [settle]
@[simp] theorem settle_hw_tdmaHead (d : Dev) : (settle d).hw.tdmaHead = d.hw.tdmaHead := by simp [settle]
@[simp] theorem settle_hw_tdmaStopped (d : Dev) : (settle d).hw.tdmaStopped = d.hw.tdmaStopped := by simp [settle]
@[simp] theorem settle_hw_expIndex (d : Dev) : (settle d).hw.expIndex = d.hw.expIndex := by simp [settle]
@[simp] theorem settle_hw_expTable (d : Dev) : (settle d).hw.expTable = d.hw.expTable := by simp [settle]
@[simp] theorem settle_hw_snapClear (d : Dev) : (settle d).hw.snapClear = d.hw.snapClear := by simp [settle]
@[simp] theorem settle_hw_snapBusy (d : Dev) : (settle d).hw.snapBusy = d.hw.snapBusy := by simp [settle]
@[simp] theorem settle_hw_snapSet (d : Dev) : (settle d).hw.snapSet = d.hw.snapSet := by simp [settle]
@[simp] theorem settle_hw_snapFirst (d : Dev) : (settle d).hw.snapFirst = d.hw.snapFirst := by simp [settle]
@[simp] theorem settle_hw_snapCount (d : Dev) : (settle d).hw.snapCount = d.hw.snapCount := by simp [settle]
@[simp] theorem settle_hw_snapTime (d : Dev) : (settle d).hw.snapTime = d.hw.snapTime := by simp [settle]
@[simp] theorem settle_hw_snapSeq (d : Dev) : (settle d).hw.snapSeq = d.hw.snapSeq := by simp [settle]
@[simp] theorem settle_hw_hiz (d : Dev) : (settle d).hw.hiz = d.hw.hiz := by simp [settle]

/-! ### Running -/

/-- What a command does, whatever its effect: it answers a next state, the queue is as it was, and the device is the settled
effect. -/
theorem run_next (f : Dev → Dev) (s : State) :
    run f s = .next { dev := settle (f (newTick s.dev)), pending := s.pending } := rfl

/-- Every command's meaning is an effect on the device, run. -/
theorem exec_run (i : Instr) (s : State) : ∃ f : Dev → Dev, exec i s = run f s := by
  cases i <;> first | exact ⟨_, rfl⟩ | (rename_i e; cases e <;> exact ⟨_, rfl⟩)

end Sys2Proof.Machine
end

