-- ==== Sys2Proof/Laws/Flags.lean ====
section
/-! SUPPORT. What settling makes of the flags, and the invariant over a command and over the idle tick. -/

-- One theorem after another: many at once would hold a thread each.
set_option Elab.async false

namespace Sys2Proof.Machine

open Sys2Proof.Safety

/-- Settling makes IRQ_STATUS.PORT the OR of the enabled bits of IRQ_PORT. -/
theorem settle_irq_port (d : Dev) :
    (settle d).hw.irqStatus.getLsbD 8 = decide ((settle d).hw.irqPort &&& (settle d).hw.irqPortEn ≠ 0) := by
  simp only [settle_hw_irqPort, settle_hw_irqPortEn]
  have h : (settle d).hw.irqStatus = ((settleSubs (settleAlarms d)).hw.irqStatus &&& 0x2FF) |||
      (if d.hw.irqPort &&& d.hw.irqPortEn = 0 then 0 else 0x100) := by simp [settle, settleIrq]
  rw [h]
  split <;> simp_all

/-- Settling raises nothing in IRQ_STATUS but ALARM and PORT, and clears nothing but PORT. -/
theorem settle_irq_rest (d : Dev) : (settle d).hw.irqStatus &&& 0x27F = d.hw.irqStatus &&& 0x27F := by
  have h : (settle d).hw.irqStatus = ((settleAlarms d).hw.irqStatus &&& 0x2FF) |||
      (if d.hw.irqPort &&& d.hw.irqPortEn = 0 then 0 else 0x100) := by simp [settle, settleIrq]
  have ha : (settleAlarms d).hw.irqStatus = d.hw.irqStatus ∨
      (settleAlarms d).hw.irqStatus = d.hw.irqStatus ||| 0x80 := by
    unfold settleAlarms
    split
    · exact .inl rfl
    · dsimp only
      split
      · exact .inl rfl
      · exact .inr rfl
  rw [h]
  apply BitVec.eq_of_getLsbD_eq
  intro i hi
  rcases ha with ha | ha <;> rw [ha] <;> split <;> interval_cases i <;> simp

/-- Settling changes what settles, and nothing else. -/
theorem became_settle (d : Dev) : Became (settle d) d := by
  refine ⟨?_, settle_irq_rest d⟩
  have ha : ∃ aa al, ∃ iq : BitVec 10, settleAlarms d =
      { d with od := { d.od with alarmActive := aa, alarmLatched := al }, hw := { d.hw with irqStatus := iq } } := by
    unfold settleAlarms
    split
    · exact ⟨_, _, _, rfl⟩
    · dsimp only
      split
      · exact ⟨_, _, _, rfl⟩
      · exact ⟨_, _, _, rfl⟩
  obtain ⟨aa, al, iq, ha⟩ := ha
  have hs : ∃ ss, settleSubs (settleAlarms d) =
      { d with od := { d.od with alarmActive := aa, alarmLatched := al, subs := ss },
               hw := { d.hw with irqStatus := iq } } := by
    rw [ha]
    unfold settleSubs
    split
    · exact ⟨_, rfl⟩
    · exact ⟨_, rfl⟩
  obtain ⟨ss, hs⟩ := hs
  unfold settle settleIrq
  rw [hs]
  rfl

@[simp] theorem settle_odServes (d : Dev) : odServes (settle d) = odServes d := by simp [odServes]

@[simp] theorem settle_condAlarms (d : Dev) : condAlarms (settle d) = condAlarms d := by simp [condAlarms]

/-- While the engine serves, settling makes the conditions of ACTIVE the condition alarms that hold. -/
theorem settle_alarmActive (d : Dev) (h : odServes d = true) :
    (settle d).od.alarmActive = BitVec.ofNat 64 (condAlarms d) := by
  have e : (settle d).od.alarmActive = (settleSubs (settleAlarms d)).od.alarmActive := by simp [settle]
  have e2 : (settleSubs (settleAlarms d)).od.alarmActive = (settleAlarms d).od.alarmActive := by
    unfold settleSubs; split <;> rfl
  rw [e, e2]
  unfold settleAlarms
  simp only [h, Bool.not_true, Bool.false_eq_true, ↓reduceIte]
  split <;> rfl

/-- Every command's answer meets the invariant. -/
theorem run_inv (f : Dev → Dev) (s : State) :
    Inv { dev := settle (f (newTick s.dev)), pending := s.pending } :=
  ⟨settle_irq_port _, fun h => by simpa using settle_alarmActive _ (by simpa using h)⟩

end Sys2Proof.Machine
end

