-- ==== Sys2Proof/Laws/PerInstr.lean ====
section
/-! SUPPORT. The family Shape: what a well-formed command carries is bounded as the rules bound it, one lemma per command. -/

-- One theorem after another: many at once would hold a thread each.
set_option Elab.async false

namespace Sys2Proof.Laws.Shape

/-- The lists that a command carries, each as its length with the bound that the rules put on it: a request's payload and tag
(Table 4-3), a capabilities list (Table 7-4), a VDM answer (Table 6-4), an identity block (R214), a round record (R539), a frame
(R382), an OTP record (R575). -/
def bulk : Instr → List (Nat × Nat)
  | .read q | .write q | .bundleOpen q | .bundleAdd q | .bundleCommit q | .bundleAbort q | .subscribe q
  | .sessionOpen q | .sessionProveChallenge q | .sessionProveProof q | .sessionClose q | .notifyRequest q _
  | .deadlineAnswer q _ => [(q.payload.length, 65535), (q.tag.length, 8)]
  | .sourceCapabilities _ _ pdos | .sinkCapabilities _ _ pdos => [(pdos.length, 7)]
  | .eprSourceCapabilities _ _ pdos => [(pdos.length, 11)]
  | .discoverModes _ ⟨_, _, .ack v⟩ | .enterMode _ ⟨_, .ack v⟩ | .identityRead _ ⟨_, .ack v⟩ | .linkRate _ ⟨_, .ack v⟩
  | .epochSubscribe _ ⟨_, .ack v⟩ | .exitMode _ (.answered ⟨_, .ack v⟩) => [(v.length, 6)]
  | .slotReadDone _ b => [(b.length, 256)]
  | .housekeepingRound r => [(r.vbus.length, 8), (r.ibus.length, 8), (r.rms.length, 8), (r.ro.length, 4)]
  | .frameDecision _ o _ _ _ | .ptpSync _ o _ _ | .ptpFollowUp _ o | .ptpAnnounce _ o | .pdelayReq _ o _ _
  | .pdelayResp _ o _ => [(o.length, 16383)]
  | .append _ r => [(r.length, 65535)]
  | _ => []

/-- Every list that a well-formed command carries keeps its bound. -/
def Statement (i : Instr) : Prop := i.wellFormed = true → ∀ x ∈ bulk i, x.1 ≤ x.2

/-- The bounds of a request. -/
theorem request_bound {q : ZReq} (h : q.wellFormed = true) : ∀ x ∈ [(q.payload.length, 65535), (q.tag.length, 8)], x.1 ≤ x.2 := by
  simp [ZReq.wellFormed] at h ⊢
  rcases h with ⟨h | h, g⟩ <;> simp_all <;> omega

theorem obligationClear (v : Bool) : Statement (.obligationClear v) := fun _ _ h => nomatch h
theorem strapSampleA (levels : BitVec 5) : Statement (.strapSampleA levels) := fun _ _ h => nomatch h
theorem strapSampleB (levels : BitVec 5) : Statement (.strapSampleB levels) := fun _ _ h => nomatch h
theorem railOutOfRange (rail : Rail) : Statement (.railOutOfRange rail) := fun _ _ h => nomatch h
theorem dormantRpWindow (opens : Bool) : Statement (.dormantRpWindow opens) := fun _ _ h => nomatch h
theorem dormantMoistureCheck (kohm0 kohm1 : Nat) : Statement (.dormantMoistureCheck kohm0 kohm1) := fun _ _ h => nomatch h
theorem wakeCAttach (a : CAttach) : Statement (.wakeCAttach a) := fun _ _ h => nomatch h
theorem dormantTimerExpiry (also : BitVec 6) : Statement (.dormantTimerExpiry also) := fun _ _ h => nomatch h
theorem targetWrite (v : Nat) : Statement (.targetWrite v) := fun _ _ h => nomatch h
theorem deadBatteryStart (vbus0 vbus1 : Nat) (rp : RpLevel) : Statement (.deadBatteryStart vbus0 vbus1 rp) := fun _ _ h => nomatch h
theorem sysResetRequest (v : Bool) : Statement (.sysResetRequest v) := fun _ _ h => nomatch h
theorem sysReset (cause : ResetCause) : Statement (.sysReset cause) := fun _ _ h => nomatch h
theorem portReset (ports : BitVec 8) : Statement (.portReset ports) := fun _ _ h => nomatch h
theorem fabReset (v : Bool) : Statement (.fabReset v) := fun _ _ h => nomatch h
theorem bootRelease (policy : BitVec 2) : Statement (.bootRelease policy) := fun _ _ h => nomatch h
theorem blockValid (len : BitVec 13) : Statement (.blockValid len) := fun _ _ h => nomatch h
theorem imageLoadDone (answers : Bool) : Statement (.imageLoadDone answers) := fun _ _ h => nomatch h
theorem read (q : ZReq) : Statement (.read q) := fun h => by
  simp only [bulk, Instr.wellFormed] at h ⊢; exact request_bound h
theorem write (q : ZReq) : Statement (.write q) := fun h => by
  simp only [bulk, Instr.wellFormed] at h ⊢; exact request_bound h
theorem bundleOpen (q : ZReq) : Statement (.bundleOpen q) := fun h => by
  simp only [bulk, Instr.wellFormed] at h ⊢; exact request_bound h
theorem bundleAdd (q : ZReq) : Statement (.bundleAdd q) := fun h => by
  simp only [bulk, Instr.wellFormed] at h ⊢; exact request_bound h
theorem bundleCommit (q : ZReq) : Statement (.bundleCommit q) := fun h => by
  simp only [bulk, Instr.wellFormed] at h ⊢; exact request_bound h
theorem bundleAbort (q : ZReq) : Statement (.bundleAbort q) := fun h => by
  simp only [bulk, Instr.wellFormed] at h ⊢; exact request_bound h
theorem subscribe (q : ZReq) : Statement (.subscribe q) := fun h => by
  simp only [bulk, Instr.wellFormed] at h ⊢; exact request_bound h
theorem sessionOpen (q : ZReq) : Statement (.sessionOpen q) := fun h => by
  simp only [bulk, Instr.wellFormed] at h ⊢; exact request_bound h
theorem sessionProveChallenge (q : ZReq) : Statement (.sessionProveChallenge q) := fun h => by
  simp only [bulk, Instr.wellFormed] at h ⊢; exact request_bound h
theorem sessionProveProof (q : ZReq) : Statement (.sessionProveProof q) := fun h => by
  simp only [bulk, Instr.wellFormed] at h ⊢; exact request_bound h
theorem sessionClose (q : ZReq) : Statement (.sessionClose q) := fun h => by
  simp only [bulk, Instr.wellFormed] at h ⊢; exact request_bound h
theorem notifyRequest (q : ZReq) (opcode : Byte) : Statement (.notifyRequest q opcode) := fun h => by
  simp only [bulk, Instr.wellFormed] at h ⊢; exact request_bound h
theorem deadlineAnswer (q : ZReq) (opcode : Byte) : Statement (.deadlineAnswer q opcode) := fun h => by
  simp only [bulk, Instr.wellFormed] at h ⊢; exact request_bound h
theorem bundleExpiry (sess : SessNo) : Statement (.bundleExpiry sess) := fun _ _ h => nomatch h
theorem sessionIdleExpiry (sess : SessNo) : Statement (.sessionIdleExpiry sess) := fun _ _ h => nomatch h
theorem proofNonceExpiry (sess : SessNo) : Statement (.proofNonceExpiry sess) := fun _ _ h => nomatch h
theorem notifySend (sess : SessNo) (object : Half) (element : Byte) : Statement (.notifySend sess object element) := fun _ _ h => nomatch h
theorem notifyPeriodic (sess : SessNo) (object : Half) (element : Byte) : Statement (.notifyPeriodic sess object element) := fun _ _ h => nomatch h
theorem journalAppend (programmed : Bool) : Statement (.journalAppend programmed) := fun _ _ h => nomatch h
theorem alarmAck (mask : BitVec 64) : Statement (.alarmAck mask) := fun _ _ h => nomatch h
theorem qspiRead (addr : BitVec 24) (words : Nat) (cut : Bool) : Statement (.qspiRead addr words cut) := fun _ _ h => nomatch h
theorem qread (addr : BitVec 24) (words : Nat) (cut : Bool) : Statement (.qread addr words cut) := fun _ _ h => nomatch h
theorem qspiWrite (addr : BitVec 24) (data : List Word) (cut : Bool) : Statement (.qspiWrite addr data cut) := fun _ _ h => nomatch h
theorem qwrite (addr : BitVec 24) (data : List Word) (cut : Bool) : Statement (.qwrite addr data cut) := fun _ _ h => nomatch h
theorem qspiBadOpcode (opcode : Byte) : Statement (.qspiBadOpcode opcode) := fun _ _ h => nomatch h
theorem registerWrite (addr : BitVec 24) (data : Word) : Statement (.registerWrite addr data) := fun _ _ h => nomatch h
theorem mbxDoorbell (data : Word) : Statement (.mbxDoorbell data) := fun _ _ h => nomatch h
theorem otpReadCmd (word : BitVec 10) : Statement (.otpReadCmd word) := fun _ _ h => nomatch h
theorem otpProgramCmd (word : BitVec 10) : Statement (.otpProgramCmd word) := fun _ _ h => nomatch h
theorem otpProgramDone (r : BurnResult) : Statement (.otpProgramDone r) := fun _ _ h => nomatch h
theorem tdmaRead (ecc : List EccHit) : Statement (.tdmaRead ecc) := fun _ _ h => nomatch h
theorem lockExpired (table : Byte) (index : Nat) : Statement (.lockExpired table index) := fun _ _ h => nomatch h
theorem ccAttach (n : CPort) (cc1 cc2 : CcLine) (cable : CableId) : Statement (.ccAttach n cc1 cc2 cable) := fun _ _ h => nomatch h
theorem ccDetach (n : CPort) : Statement (.ccDetach n) := fun _ _ h => nomatch h
theorem ccShortTest (n : CPort) (low : Bool) : Statement (.ccShortTest n low) := fun _ _ h => nomatch h
theorem ccShortRetest (n : CPort) (low : Bool) : Statement (.ccShortRetest n low) := fun _ _ h => nomatch h
theorem guardCheck (n : CPort) : Statement (.guardCheck n) := fun _ _ h => nomatch h
theorem guardCheckDone (n : CPort) (k : PinKohm) : Statement (.guardCheckDone n k) := fun _ _ h => nomatch h
theorem vconnFault (n : CPort) : Statement (.vconnFault n) := fun _ _ h => nomatch h
theorem discoverModes (n : CPort) (a : DiscoveryReply) : Statement (.discoverModes n a) := by
  obtain ⟨_, _, a⟩ := a; cases a <;> simp [Statement, bulk, Instr.wellFormed, VdmAnswer.wellFormed]
theorem enterMode (n : CPort) (a : VdmReply) : Statement (.enterMode n a) := by
  obtain ⟨_, a⟩ := a; cases a <;> simp [Statement, bulk, Instr.wellFormed, VdmAnswer.wellFormed]
theorem identityRead (n : CPort) (a : VdmReply) : Statement (.identityRead n a) := by
  obtain ⟨_, a⟩ := a; cases a <;> simp [Statement, bulk, Instr.wellFormed, VdmAnswer.wellFormed]
theorem linkRate (n : CPort) (a : VdmReply) : Statement (.linkRate n a) := by
  obtain ⟨_, a⟩ := a; cases a <;> simp [Statement, bulk, Instr.wellFormed, VdmAnswer.wellFormed]
theorem epochSubscribe (n : CPort) (a : VdmReply) : Statement (.epochSubscribe n a) := by
  obtain ⟨_, a⟩ := a; cases a <;> simp [Statement, bulk, Instr.wellFormed, VdmAnswer.wellFormed]
theorem podLinkUp (n : CPort) : Statement (.podLinkUp n) := fun _ _ h => nomatch h
theorem linkUpTimeout (n : CPort) : Statement (.linkUpTimeout n) := fun _ _ h => nomatch h
theorem vdmResponseTimeout (n : CPort) : Statement (.vdmResponseTimeout n) := fun _ _ h => nomatch h
theorem reapply (p : Place) (v : Bool) : Statement (.reapply p v) := fun _ _ h => nomatch h
theorem exitMode (n : CPort) (e : ExitEvent) : Statement (.exitMode n e) := by
  cases e with
  | written v => exact fun _ _ h => nomatch h
  | answered a => obtain ⟨_, a⟩ := a; cases a <;> simp [Statement, bulk, Instr.wellFormed, VdmAnswer.wellFormed]
theorem slotPoll (s : Slot) (ack : Bool) : Statement (.slotPoll s ack) := fun _ _ h => nomatch h
theorem slotReadDone (s : Slot) (block : List Byte) : Statement (.slotReadDone s block) := by
  simp +contextual [Statement, bulk, Instr.wellFormed]
theorem slotReadRetry (s : Slot) : Statement (.slotReadRetry s) := fun _ _ h => nomatch h
theorem slotBusClear (s : Slot) (r : BusClear) : Statement (.slotBusClear s r) := fun _ _ h => nomatch h
theorem slotClampRetry (s : Slot) (r : BusClear) : Statement (.slotClampRetry s r) := fun _ _ h => nomatch h
theorem sourceCapabilities (n : CPort) (id : BitVec 3) (pdos : List Word) : Statement (.sourceCapabilities n id pdos) := by
  simp +contextual [Statement, bulk, Instr.wellFormed, pdosWellFormed]
theorem renegotiate (n : CPort) (v : Bool) : Statement (.renegotiate n v) := fun _ _ h => nomatch h
theorem request (n : CPort) (id : BitVec 3) (rdo : Word) : Statement (.request n id rdo) := fun _ _ h => nomatch h
theorem accept (n : CPort) (id : BitVec 3) : Statement (.accept n id) := fun _ _ h => nomatch h
theorem goodcrc (n : CPort) (id : BitVec 3) : Statement (.goodcrc n id) := fun _ _ h => nomatch h
theorem psRdy (n : CPort) (id : BitVec 3) : Statement (.psRdy n id) := fun _ _ h => nomatch h
theorem waitReoffer (n : CPort) : Statement (.waitReoffer n) := fun _ _ h => nomatch h
theorem tsrcTransition (n : CPort) : Statement (.tsrcTransition n) := fun _ _ h => nomatch h
theorem getSourceCap (n : CPort) (id : BitVec 3) : Statement (.getSourceCap n id) := fun _ _ h => nomatch h
theorem getSinkCap (n : CPort) (id : BitVec 3) : Statement (.getSinkCap n id) := fun _ _ h => nomatch h
theorem getStatus (n : CPort) (id : BitVec 3) : Statement (.getStatus n id) := fun _ _ h => nomatch h
theorem getPpsStatus (n : CPort) (id : BitVec 3) : Statement (.getPpsStatus n id) := fun _ _ h => nomatch h
theorem unsupportedMessage (n : CPort) (id : BitVec 3) (m : OtherMsg) : Statement (.unsupportedMessage n id m) := fun _ _ h => nomatch h
theorem prSwap (n : CPort) (id : BitVec 3) : Statement (.prSwap n id) := fun _ _ h => nomatch h
theorem drSwap (n : CPort) (id : BitVec 3) : Statement (.drSwap n id) := fun _ _ h => nomatch h
theorem vconnSwap (n : CPort) (id : BitVec 3) : Statement (.vconnSwap n id) := fun _ _ h => nomatch h
theorem frSwapSignal (n : CPort) : Statement (.frSwapSignal n) := fun _ _ h => nomatch h
theorem softReset (n : CPort) : Statement (.softReset n) := fun _ _ h => nomatch h
theorem hardReset (n : CPort) (received : Bool) : Statement (.hardReset n received) := fun _ _ h => nomatch h
theorem tsrcRecover (n : CPort) : Statement (.tsrcRecover n) := fun _ _ h => nomatch h
theorem eprModeEnter (n : CPort) : Statement (.eprModeEnter n) := fun _ _ h => nomatch h
theorem eprMode (n : CPort) (id : BitVec 3) (a : EprAnswer) : Statement (.eprMode n id a) := fun _ _ h => nomatch h
theorem eprSourceCapabilities (n : CPort) (id : BitVec 3) (pdos : List Word) : Statement (.eprSourceCapabilities n id pdos) := by
  simp +contextual [Statement, bulk, Instr.wellFormed, pdosWellFormed]
theorem eprKeepalive (n : CPort) : Statement (.eprKeepalive n) := fun _ _ h => nomatch h
theorem eprKeepaliveAckTimeout (n : CPort) : Statement (.eprKeepaliveAckTimeout n) := fun _ _ h => nomatch h
theorem sinkPpsKeepalive (n : CPort) : Statement (.sinkPpsKeepalive n) := fun _ _ h => nomatch h
theorem sourcePpsTimeout (n : CPort) : Statement (.sourcePpsTimeout n) := fun _ _ h => nomatch h
theorem senderResponseTimeout (n : CPort) : Statement (.senderResponseTimeout n) := fun _ _ h => nomatch h
theorem crcReceiveTimeout (n : CPort) : Statement (.crcReceiveTimeout n) := fun _ _ h => nomatch h
theorem sourceCapabilityTimeout (n : CPort) : Statement (.sourceCapabilityTimeout n) := fun _ _ h => nomatch h
theorem psTransitionTimeout (n : CPort) : Statement (.psTransitionTimeout n) := fun _ _ h => nomatch h
theorem errorRecovery (n : CPort) : Statement (.errorRecovery n) := fun _ _ h => nomatch h
theorem securityRequest (n : CPort) (id : BitVec 3) (a : AuthReq) : Statement (.securityRequest n id a) := fun _ _ h => nomatch h
theorem challengeAuthDone (n : CPort) : Statement (.challengeAuthDone n) := fun _ _ h => nomatch h
theorem shortDetect (n : CPort) : Statement (.shortDetect n) := fun _ _ h => nomatch h
theorem overcurrent (n : CPort) : Statement (.overcurrent n) := fun _ _ h => nomatch h
theorem overVoltage (n : CPort) : Statement (.overVoltage n) := fun _ _ h => nomatch h
theorem reverseCurrent (n : CPort) : Statement (.reverseCurrent n) := fun _ _ h => nomatch h
theorem shortRetry (n : CPort) : Statement (.shortRetry n) := fun _ _ h => nomatch h
theorem inrushDone (n : CPort) : Statement (.inrushDone n) := fun _ _ h => nomatch h
theorem inrushFail (n : CPort) : Statement (.inrushFail n) := fun _ _ h => nomatch h
theorem inrushRetry (n : CPort) : Statement (.inrushRetry n) := fun _ _ h => nomatch h
theorem dischargeDone (n : CPort) : Statement (.dischargeDone n) := fun _ _ h => nomatch h
theorem dischargeTimeout (n : CPort) : Statement (.dischargeTimeout n) := fun _ _ h => nomatch h
theorem shepherdStep (took : Nat) : Statement (.shepherdStep took) := fun _ _ h => nomatch h
theorem faultClear (n : CPort) (v : Bool) : Statement (.faultClear n v) := fun _ _ h => nomatch h
theorem staticSlotTransmit (slot : Nat) : Statement (.staticSlotTransmit slot) := fun _ _ h => nomatch h
theorem dynamicFrameTransmit (chB : Bool) : Statement (.dynamicFrameTransmit chB) := fun _ _ h => nomatch h
theorem minislotBoundary (chB : Bool) : Statement (.minislotBoundary chB) := fun _ _ h => nomatch h
theorem nguzoFrameReceived (chB : Bool) (f : NgFrame) : Statement (.nguzoFrameReceived chB f) := fun _ _ h => nomatch h
theorem channelClamp (l : LowRun) : Statement (.channelClamp l) := fun _ _ h => nomatch h
theorem nitProbe (chB : Bool) (high : Bool) : Statement (.nitProbe chB high) := fun _ _ h => nomatch h
theorem guardTrip (g : GateSend) : Statement (.guardTrip g) := fun _ _ h => nomatch h
theorem enableChannel (chB : Bool) (v : Bool) : Statement (.enableChannel chB v) := fun _ _ h => nomatch h
theorem gatewayToBus (octets : List Byte) : Statement (.gatewayToBus octets) := fun _ _ h => nomatch h
theorem ptpSync (port : SPort) (octets : List Byte) (captured : Bool) (err : Int) : Statement (.ptpSync port octets captured err) := by
  simp +contextual [Statement, bulk, Instr.wellFormed, octetsWellFormed]; omega
theorem ptpFollowUp (port : SPort) (octets : List Byte) : Statement (.ptpFollowUp port octets) := by
  simp +contextual [Statement, bulk, Instr.wellFormed, octetsWellFormed]; omega
theorem ptpAnnounce (port : SPort) (octets : List Byte) : Statement (.ptpAnnounce port octets) := by
  simp +contextual [Statement, bulk, Instr.wellFormed, octetsWellFormed]; omega
theorem pdelayReq (port : SPort) (octets : List Byte) (captured : Bool) (err : Int) : Statement (.pdelayReq port octets captured err) := by
  simp +contextual [Statement, bulk, Instr.wellFormed, octetsWellFormed]; omega
theorem pdelayResp (port : SPort) (octets : List Byte) (c : Capture) : Statement (.pdelayResp port octets c) := by
  simp +contextual [Statement, bulk, Instr.wellFormed, octetsWellFormed]; omega
theorem timeSet (v : BitVec 64) : Statement (.timeSet v) := fun _ _ h => nomatch h
theorem epochBoundary (k : Fin 16) : Statement (.epochBoundary k) := fun _ _ h => nomatch h
theorem windowOpen (port : SPort) (n : Fin 8) : Statement (.windowOpen port n) := fun _ _ h => nomatch h
theorem windowClose (port : SPort) (n : Fin 8) : Statement (.windowClose port n) := fun _ _ h => nomatch h
theorem frameDecision (port : SPort) (octets : List Byte) (rxOk : Bool) (firstNs : Nat) (ecc : List EccHit) : Statement (.frameDecision port octets rxOk firstNs ecc) := by
  simp +contextual [Statement, bulk, Instr.wellFormed, octetsWellFormed]; omega
theorem pauseResend (port : SPort) : Statement (.pauseResend port) := fun _ _ h => nomatch h
theorem transmitSelect (port : SPort) (eccDouble : Bool) : Statement (.transmitSelect port eccDouble) := fun _ _ h => nomatch h
theorem copyTransmitted (port : SPort) (eccDouble : Bool) : Statement (.copyTransmitted port eccDouble) := fun _ _ h => nomatch h
theorem residueTimeout (frame : Nat) : Statement (.residueTimeout frame) := fun _ _ h => nomatch h
theorem pauseReceived (port : SPort) (quanta : Half) : Statement (.pauseReceived port quanta) := fun _ _ h => nomatch h
theorem pauseExpiry (port : SPort) : Statement (.pauseExpiry port) := fun _ _ h => nomatch h
theorem linkUp (port : SPort) (mbps : Nat) : Statement (.linkUp port mbps) := fun _ _ h => nomatch h
theorem linkDown (port : SPort) : Statement (.linkDown port) := fun _ _ h => nomatch h
theorem phyPoll (port : SPort) (up : Bool) : Statement (.phyPoll port up) := fun _ _ h => nomatch h
theorem mdioOp (op : Nat) : Statement (.mdioOp op) := fun _ _ h => nomatch h
theorem mdioDone (answered : Bool) (data : Half) : Statement (.mdioDone answered data) := fun _ _ h => nomatch h
theorem agerVisit (place : Nat) : Statement (.agerVisit place) := fun _ _ h => nomatch h
theorem flush (port : SPort) (v : Bool) : Statement (.flush port v) := fun _ _ h => nomatch h
theorem flushFid (fid : Nat) : Statement (.flushFid fid) := fun _ _ h => nomatch h
theorem scrubPass (us : Nat) (ecc : List EccHit) : Statement (.scrubPass us ecc) := fun _ _ h => nomatch h
theorem routeSecondPass (ecc : List EccHit) : Statement (.routeSecondPass ecc) := fun _ _ h => nomatch h
theorem routeAdd (sess : SessNo) : Statement (.routeAdd sess) := fun _ _ h => nomatch h
theorem routeDelete (sess : SessNo) : Statement (.routeDelete sess) := fun _ _ h => nomatch h
theorem editorWrite (v : Nat) : Statement (.editorWrite v) := fun _ _ h => nomatch h
theorem routeRepair (table : Byte) (index : Nat) : Statement (.routeRepair table index) := fun _ _ h => nomatch h
theorem housekeepingRound (r : RoundRecord) : Statement (.housekeepingRound r) := by
  simp +contextual [Statement, bulk, Instr.wellFormed, RoundRecord.wellFormed]
theorem heatShed (n : CPort) : Statement (.heatShed n) := fun _ _ h => nomatch h
theorem ceilingRelease (n : CPort) : Statement (.ceilingRelease n) := fun _ _ h => nomatch h
theorem fanReload (f : Fin 2) : Statement (.fanReload f) := fun _ _ h => nomatch h
theorem tachEdge (f : Fin 2) : Statement (.tachEdge f) := fun _ _ h => nomatch h
theorem tachTimeout (f : Fin 2) : Statement (.tachTimeout f) := fun _ _ h => nomatch h
theorem stallDetect (f : Fin 2) : Statement (.stallDetect f) := fun _ _ h => nomatch h
theorem stallClear (f : Fin 2) : Statement (.stallClear f) := fun _ _ h => nomatch h
theorem commission (f : Fin 2) (v : Nat) : Statement (.commission f v) := fun _ _ h => nomatch h
theorem commissionStep (f : Fin 2) : Statement (.commissionStep f) := fun _ _ h => nomatch h
theorem restart (v : Bool) : Statement (.restart v) := fun _ _ h => nomatch h
theorem retry (r : Fin 4) (v : Bool) : Statement (.retry r v) := fun _ _ h => nomatch h
theorem append (sess : SessNo) (record : List Byte) : Statement (.append sess record) := by
  simp +contextual [Statement, bulk, Instr.wellFormed]
theorem void (addr : Nat) : Statement (.void addr) := fun _ _ h => nomatch h
theorem keyData (sess : SessNo) (key : BitVec 256) : Statement (.keyData sess key) := fun _ _ h => nomatch h
theorem keygen (sess : SessNo) (v : Bool) : Statement (.keygen sess v) := fun _ _ h => nomatch h
theorem revoke (mask : BitVec 12) : Statement (.revoke mask) := fun _ _ h => nomatch h
theorem advance (sess : SessNo) (target : Nat) : Statement (.advance sess target) := fun _ _ h => nomatch h
theorem rollbackAdvance (v : Nat) : Statement (.rollbackAdvance v) := fun _ _ h => nomatch h
theorem unlockResp (resp : BitVec 256) : Statement (.unlockResp resp) := fun _ _ h => nomatch h
theorem ccDebounce (n : CPort) (cc1 cc2 : CcLine) : Statement (.ccDebounce n cc1 cc2) := fun _ _ h => nomatch h
theorem drpToggle (n : CPort) : Statement (.drpToggle n) := fun _ _ h => nomatch h
theorem trySnkTimeout (n : CPort) : Statement (.trySnkTimeout n) := fun _ _ h => nomatch h
theorem errorRecoveryDone (n : CPort) : Statement (.errorRecoveryDone n) := fun _ _ h => nomatch h
theorem sinkCapabilities (n : CPort) (id : BitVec 3) (pdos : List Word) : Statement (.sinkCapabilities n id pdos) := by
  simp +contextual [Statement, bulk, Instr.wellFormed, pdosWellFormed]
theorem wait (n : CPort) (id : BitVec 3) : Statement (.wait n id) := fun _ _ h => nomatch h
theorem reject (n : CPort) (id : BitVec 3) : Statement (.reject n id) := fun _ _ h => nomatch h
theorem sinkRequestTimer (n : CPort) : Statement (.sinkRequestTimer n) := fun _ _ h => nomatch h
theorem chunkSenderTimeout (n : CPort) : Statement (.chunkSenderTimeout n) := fun _ _ h => nomatch h
theorem hardResetCompleteTimeout (n : CPort) : Statement (.hardResetCompleteTimeout n) := fun _ _ h => nomatch h
theorem getSourceCapExtended (n : CPort) (id : BitVec 3) : Statement (.getSourceCapExtended n id) := fun _ _ h => nomatch h
theorem getSinkCapExtended (n : CPort) (id : BitVec 3) : Statement (.getSinkCapExtended n id) := fun _ _ h => nomatch h
theorem getBatteryStatus (n : CPort) (id : BitVec 3) : Statement (.getBatteryStatus n id) := fun _ _ h => nomatch h
theorem bist (n : CPort) (id : BitVec 3) (m : BistMode) : Statement (.bist n id m) := fun _ _ h => nomatch h
theorem cutThroughFrameEnd (port : SPort) (length : Nat) (bad : Bool) : Statement (.cutThroughFrameEnd port length bad) := fun _ _ h => nomatch h
theorem pulseWidthEnd (pin : PulsePin) : Statement (.pulseWidthEnd pin) := fun _ _ h => nomatch h
theorem pdelayReqInterval (port : SPort) : Statement (.pdelayReqInterval port) := fun _ _ h => nomatch h
theorem debugRequest (op : DebugOp) : Statement (.debugRequest op) := fun _ _ h => nomatch h
theorem bankSupplyChange (bank : Bank) (ok : Bool) : Statement (.bankSupplyChange bank ok) := fun _ _ h => nomatch h
theorem halfDuplex (port : SPort) : Statement (.halfDuplex port) := fun _ _ h => nomatch h
theorem shedOverrunCut : Statement .shedOverrunCut := fun _ _ h => nomatch h
theorem overrunCutRepeat : Statement .overrunCutRepeat := fun _ _ h => nomatch h
theorem aonPorRelease : Statement .aonPorRelease := fun _ _ h => nomatch h
theorem porAssert : Statement .porAssert := fun _ _ h => nomatch h
theorem resetNAssert : Statement .resetNAssert := fun _ _ h => nomatch h
theorem resetNRise : Statement .resetNRise := fun _ _ h => nomatch h
theorem railsInRange : Statement .railsInRange := fun _ _ h => nomatch h
theorem railTimeout : Statement .railTimeout := fun _ _ h => nomatch h
theorem railRetry : Statement .railRetry := fun _ _ h => nomatch h
theorem aonXtalFail : Statement .aonXtalFail := fun _ _ h => nomatch h
theorem wakeNg : Statement .wakeNg := fun _ _ h => nomatch h
theorem wakePpsIn : Statement .wakePpsIn := fun _ _ h => nomatch h
theorem wakeHcsN : Statement .wakeHcsN := fun _ _ h => nomatch h
theorem wakeLatchedBoot : Statement .wakeLatchedBoot := fun _ _ h => nomatch h
theorem idleHoldExpiry : Statement .idleHoldExpiry := fun _ _ h => nomatch h
theorem activeDrainTimeout : Statement .activeDrainTimeout := fun _ _ h => nomatch h
theorem dormantEntry : Statement .dormantEntry := fun _ _ h => nomatch h
theorem deadBatterySinkClose : Statement .deadBatterySinkClose := fun _ _ h => nomatch h
theorem vsysTakeover : Statement .vsysTakeover := fun _ _ h => nomatch h
theorem watchdogExpiry : Statement .watchdogExpiry := fun _ _ h => nomatch h
theorem bootTimeout : Statement .bootTimeout := fun _ _ h => nomatch h
theorem freelistEccError : Statement .freelistEccError := fun _ _ h => nomatch h
theorem fabResetDone : Statement .fabResetDone := fun _ _ h => nomatch h
theorem refclkLock : Statement .refclkLock := fun _ _ h => nomatch h
theorem refclkTimeout : Statement .refclkTimeout := fun _ _ h => nomatch h
theorem otpCheckDone : Statement .otpCheckDone := fun _ _ h => nomatch h
theorem hdrValid : Statement .hdrValid := fun _ _ h => nomatch h
theorem imageEnd : Statement .imageEnd := fun _ _ h => nomatch h
theorem imageVerifyDone : Statement .imageVerifyDone := fun _ _ h => nomatch h
theorem replayDone : Statement .replayDone := fun _ _ h => nomatch h
theorem bootDoneClear : Statement .bootDoneClear := fun _ _ h => nomatch h
theorem proofLockoutEnd : Statement .proofLockoutEnd := fun _ _ h => nomatch h
theorem rdsr : Statement .rdsr := fun _ _ h => nomatch h
theorem rdid : Statement .rdid := fun _ _ h => nomatch h
theorem tdmaWrite : Statement .tdmaWrite := fun _ _ h => nomatch h
theorem tdmaInsert : Statement .tdmaInsert := fun _ _ h => nomatch h
theorem tdmaDelete : Statement .tdmaDelete := fun _ _ h => nomatch h
theorem tdmaSearch : Statement .tdmaSearch := fun _ _ h => nomatch h
theorem tdmaLock : Statement .tdmaLock := fun _ _ h => nomatch h
theorem tdmaUnlock : Statement .tdmaUnlock := fun _ _ h => nomatch h
theorem tsnapTake : Statement .tsnapTake := fun _ _ h => nomatch h
theorem tsnapDone : Statement .tsnapDone := fun _ _ h => nomatch h
theorem droopStart : Statement .droopStart := fun _ _ h => nomatch h
theorem droopEnd : Statement .droopEnd := fun _ _ h => nomatch h
theorem droopLimit : Statement .droopLimit := fun _ _ h => nomatch h
theorem restoreCheck : Statement .restoreCheck := fun _ _ h => nomatch h
theorem scheduleCycleStart : Statement .scheduleCycleStart := fun _ _ h => nomatch h
theorem listenTimeout : Statement .listenTimeout := fun _ _ h => nomatch h
theorem cycleEnd : Statement .cycleEnd := fun _ _ h => nomatch h
theorem ppsInEdge : Statement .ppsInEdge := fun _ _ h => nomatch h
theorem ppsInTimeout : Statement .ppsInTimeout := fun _ _ h => nomatch h
theorem announceReceiptTimeout : Statement .announceReceiptTimeout := fun _ _ h => nomatch h
theorem holdoffExpiry : Statement .holdoffExpiry := fun _ _ h => nomatch h
theorem lockReached : Statement .lockReached := fun _ _ h => nomatch h
theorem ppsOutSecond : Statement .ppsOutSecond := fun _ _ h => nomatch h
theorem ageSweep : Statement .ageSweep := fun _ _ h => nomatch h
theorem learnRequest : Statement .learnRequest := fun _ _ h => nomatch h
theorem stashDrain : Statement .stashDrain := fun _ _ h => nomatch h
theorem flushDone : Statement .flushDone := fun _ _ h => nomatch h
theorem routeCommandDone : Statement .routeCommandDone := fun _ _ h => nomatch h
theorem puntReceived : Statement .puntReceived := fun _ _ h => nomatch h
theorem shaperRefill : Statement .shaperRefill := fun _ _ h => nomatch h
theorem tallyExport : Statement .tallyExport := fun _ _ h => nomatch h
theorem modelStep : Statement .modelStep := fun _ _ h => nomatch h
theorem roundRecordLate : Statement .roundRecordLate := fun _ _ h => nomatch h
theorem critAssert : Statement .critAssert := fun _ _ h => nomatch h
theorem critRelease : Statement .critRelease := fun _ _ h => nomatch h
theorem heartbeat : Statement .heartbeat := fun _ _ h => nomatch h
theorem hostSilence : Statement .hostSilence := fun _ _ h => nomatch h
theorem unlockChal : Statement .unlockChal := fun _ _ h => nomatch h
theorem unlockNonceExpiry : Statement .unlockNonceExpiry := fun _ _ h => nomatch h
theorem glitchTrip : Statement .glitchTrip := fun _ _ h => nomatch h
theorem ptpMasterInterval : Statement .ptpMasterInterval := fun _ _ h => nomatch h

end Sys2Proof.Laws.Shape
end

