-- ==== Sys2Proof/Laws/Tables.lean ====
section
/-! SUPPORT. The laws of sparse tables and memories: reading after writing, and the canonical form that every operation
keeps. -/

-- One theorem after another: many at once would hold a thread each.
set_option Elab.async false

namespace Sys2Proof.Machine

variable {α : Type}

/-! ### Reading after writing -/

theorem tfind_tput_self (t : Tbl α) (i : Nat) (v : α) : tfind (tput t i v) i = some v := by
  induction t with
  | nil => simp [tput, tfind]
  | cons x t ih =>
    obtain ⟨k, w⟩ := x
    simp only [tput]
    split
    · simp [tfind]
    · split
      · simp [tfind]
      · rename_i h
        have : (k == i) = false := by
          have h : i ≠ k := by simpa using h
          simp [Ne.symm h]
        simp [tfind, this, ih]

theorem tfind_tput_other (t : Tbl α) {i j : Nat} (v : α) (h : j ≠ i) : tfind (tput t i v) j = tfind t j := by
  induction t with
  | nil => simp [tput, tfind, Ne.symm h]
  | cons x t ih =>
    obtain ⟨k, w⟩ := x
    simp only [tput]
    split
    · simp [tfind, Ne.symm h]
    · split
      · rename_i e
        have e : i = k := by simpa using e
        subst e
        simp [tfind, Ne.symm h]
      · simp [tfind, ih]

theorem tfind_terase_self (t : Tbl α) (i : Nat) : tfind (terase t i) i = none := by
  induction t with
  | nil => rfl
  | cons x t ih =>
    obtain ⟨k, w⟩ := x
    simp only [terase]
    split
    · exact ih
    · rename_i h
      have : (k == i) = false := by
        have h : i ≠ k := by simpa using h
        simp [Ne.symm h]
      simp [tfind, this, ih]

theorem tfind_terase_other (t : Tbl α) {i j : Nat} (h : j ≠ i) : tfind (terase t i) j = tfind t j := by
  induction t with
  | nil => rfl
  | cons x t ih =>
    obtain ⟨k, w⟩ := x
    simp only [terase]
    split
    · rename_i e
      have e : i = k := by simpa using e
      subst e
      simp [tfind, Ne.symm h, ih]
    · simp [tfind, ih]

/-- A key reads as what was last set under it. -/
@[simp] theorem tget_tset_self [DecidableEq α] (dflt : α) (t : Tbl α) (i : Nat) (v : α) :
    tget dflt (tset dflt t i v) i = v := by
  unfold tget tset
  split
  · rename_i h; simp [tfind_terase_self, h]
  · simp [tfind_tput_self]

/-- Setting one key leaves every other as it reads. -/
theorem tget_tset_other [DecidableEq α] (dflt : α) (t : Tbl α) {i j : Nat} (v : α) (h : j ≠ i) :
    tget dflt (tset dflt t i v) j = tget dflt t j := by
  unfold tget tset
  split
  · rw [tfind_terase_other t h]
  · rw [tfind_tput_other t v h]

/-! ### The canonical form -/

theorem twfFrom_mono [DecidableEq α] (dflt : α) : ∀ (t : Tbl α) {lo hi : Nat}, lo ≤ hi → twfFrom dflt hi t = true →
    twfFrom dflt lo t = true
  | [], _, _, _, _ => rfl
  | (k, v) :: t, lo, hi, h, w => by
    simp only [twfFrom, Bool.and_eq_true, decide_eq_true_eq] at w ⊢
    exact ⟨⟨Nat.le_trans h w.1.1, w.1.2⟩, w.2⟩

theorem twfFrom_tput [DecidableEq α] (dflt : α) {v : α} (hv : v ≠ dflt) : ∀ (t : Tbl α) (lo i : Nat), lo ≤ i →
    twfFrom dflt lo t = true → twfFrom dflt lo (tput t i v) = true
  | [], lo, i, h, _ => by simp [tput, twfFrom, h, hv]
  | (k, w) :: t, lo, i, h, wf => by
    simp only [twfFrom, Bool.and_eq_true, decide_eq_true_eq] at wf
    simp only [tput]
    split
    · rename_i hik
      simp only [twfFrom, Bool.and_eq_true, decide_eq_true_eq]
      exact ⟨⟨h, hv⟩, ⟨by omega, wf.1.2⟩, wf.2⟩
    · split
      · rename_i e
        have e : i = k := by simpa using e
        subst e
        simp only [twfFrom, Bool.and_eq_true, decide_eq_true_eq]
        exact ⟨⟨h, hv⟩, wf.2⟩
      · rename_i h1 h2
        have h2 : i ≠ k := by simpa using h2
        simp only [twfFrom, Bool.and_eq_true, decide_eq_true_eq]
        exact ⟨wf.1, twfFrom_tput dflt hv t (k + 1) i (by omega) wf.2⟩

theorem twfFrom_terase [DecidableEq α] (dflt : α) : ∀ (t : Tbl α) (lo i : Nat), twfFrom dflt lo t = true →
    twfFrom dflt lo (terase t i) = true
  | [], _, _, _ => rfl
  | (k, w) :: t, lo, i, wf => by
    simp only [twfFrom, Bool.and_eq_true, decide_eq_true_eq] at wf
    simp only [terase]
    split
    · exact twfFrom_mono dflt _ (by omega) (twfFrom_terase dflt t (k + 1) i wf.2)
    · simp only [twfFrom, Bool.and_eq_true, decide_eq_true_eq]
      exact ⟨wf.1, twfFrom_terase dflt t (k + 1) i wf.2⟩

/-- Setting a key keeps the canonical form. -/
theorem twf_tset [DecidableEq α] (dflt : α) (t : Tbl α) (i : Nat) (v : α) (h : twf dflt t = true) :
    twf dflt (tset dflt t i v) = true := by
  unfold tset
  split
  · exact twfFrom_terase dflt t 0 i h
  · rename_i hv; exact twfFrom_tput dflt hv t 0 i (Nat.zero_le i) h

/-! ### Memories -/

/-- Writing one octet keeps the canonical form. -/
theorem setByte_wf (dflt : Byte) (m : Mem) (a : Nat) (b : Byte) (h : Memory.wf dflt m = true) :
    Memory.wf dflt (setByte dflt m a b) = true := twf_tset dflt m a b h

/-- Writing octets keeps the canonical form. -/
theorem writeBytes_wf (dflt : Byte) : ∀ (bs : List Byte) (m : Mem) (a : Nat), Memory.wf dflt m = true →
    Memory.wf dflt (writeBytes dflt m a bs) = true
  | [], _, _, h => h
  | b :: bs, m, a, h => writeBytes_wf dflt bs _ (a + 1) (setByte_wf dflt m a b h)

/-- An octet reads as written, and every other address as before. -/
@[simp] theorem byteAt_setByte_self (dflt : Byte) (m : Mem) (a : Nat) (b : Byte) :
    byteAt dflt (setByte dflt m a b) a = b := tget_tset_self dflt m a b
@[inherit_doc byteAt_setByte_self] theorem byteAt_setByte_other (dflt : Byte) (m : Mem) {a c : Nat} (b : Byte) (h : c ≠ a) :
    byteAt dflt (setByte dflt m a b) c = byteAt dflt m c := tget_tset_other dflt m b h

/-- Octets written from an address on leave every address below it, and from their end on, as it was. -/
theorem byteAt_writeBytes_outside (dflt : Byte) : ∀ (bs : List Byte) (m : Mem) (a c : Nat),
    c < a ∨ a + bs.length ≤ c → byteAt dflt (writeBytes dflt m a bs) c = byteAt dflt m c
  | [], _, _, _, _ => rfl
  | b :: bs, m, a, c, h => by
    simp only [List.length_cons] at h
    rw [writeBytes, byteAt_writeBytes_outside dflt bs _ (a + 1) c (by omega), byteAt_setByte_other dflt m b (by omega)]

/-- Octets written from an address on read back as written. -/
theorem byteAt_writeBytes_inside (dflt : Byte) : ∀ (bs : List Byte) (m : Mem) (a i : Nat) (h : i < bs.length),
    byteAt dflt (writeBytes dflt m a bs) (a + i) = bs[i]
  | b :: bs, m, a, 0, _ => by
    show byteAt dflt (writeBytes dflt (setByte dflt m a b) (a + 1) bs) a = b
    rw [byteAt_writeBytes_outside dflt bs _ (a + 1) a (by omega)]
    simp
  | b :: bs, m, a, i + 1, h => by
    have := byteAt_writeBytes_inside dflt bs (setByte dflt m a b) (a + 1) i (by simpa using h)
    rw [writeBytes, show a + (i + 1) = a + 1 + i by omega, this]
    rfl

theorem readBytes_length (dflt : Byte) (m : Mem) (a n : Nat) : (readBytes dflt m a n).length = n := by simp [readBytes]

theorem twfFrom_filter [DecidableEq α] (dflt : α) (p : Nat × α → Bool) : ∀ (t : Tbl α) (lo : Nat),
    twfFrom dflt lo t = true → twfFrom dflt lo (t.filter p) = true
  | [], _, _ => rfl
  | (k, v) :: t, lo, h => by
    simp only [twfFrom, Bool.and_eq_true, decide_eq_true_eq] at h
    simp only [List.filter_cons]
    split
    · simp only [twfFrom, Bool.and_eq_true, decide_eq_true_eq]
      exact ⟨h.1, twfFrom_filter dflt p t (k + 1) h.2⟩
    · exact twfFrom_mono dflt _ (by omega) (twfFrom_filter dflt p t (k + 1) h.2)

end Sys2Proof.Machine
end

