-- ==== Sys2Proof/Laws/Time.lean ====
section
/-! SUPPORT. What the passing of time changes: the clock and the timebase, and nothing else; and what an expiry does. -/

-- One theorem after another: many at once would hold a thread each.
set_option Elab.async false

namespace Sys2Proof.Machine

open Sys2Proof.Safety

@[simp] theorem elapse_free (ns : Nat) (d : Dev) : (elapse ns d).free = d.free := rfl
@[simp] theorem elapse_timers (ns : Nat) (d : Dev) : (elapse ns d).timers = d.timers := rfl
@[simp] theorem elapse_out (ns : Nat) (d : Dev) : (elapse ns d).out = d.out := rfl
@[simp] theorem elapse_flash (ns : Nat) (d : Dev) : (elapse ns d).flash = d.flash := rfl
@[simp] theorem elapse_aon (ns : Nat) (d : Dev) : (elapse ns d).aon = d.aon := rfl
@[simp] theorem elapse_boot (ns : Nat) (d : Dev) : (elapse ns d).boot = d.boot := rfl
@[simp] theorem elapse_od (ns : Nat) (d : Dev) : (elapse ns d).od = d.od := rfl
@[simp] theorem elapse_hw (ns : Nat) (d : Dev) : (elapse ns d).hw = d.hw := rfl
@[simp] theorem elapse_cables (ns : Nat) (d : Dev) : (elapse ns d).cables = d.cables := rfl
@[simp] theorem elapse_slots (ns : Nat) (d : Dev) : (elapse ns d).slots = d.slots := rfl
@[simp] theorem elapse_shep (ns : Nat) (d : Dev) : (elapse ns d).shep = d.shep := rfl
@[simp] theorem elapse_ng (ns : Nat) (d : Dev) : (elapse ns d).ng = d.ng := rfl
@[simp] theorem elapse_fab (ns : Nat) (d : Dev) : (elapse ns d).fab = d.fab := rfl
@[simp] theorem elapse_st (ns : Nat) (d : Dev) : (elapse ns d).st = d.st := rfl
@[simp] theorem elapse_rt (ns : Nat) (d : Dev) : (elapse ns d).rt = d.rt := rfl
@[simp] theorem elapse_cls (ns : Nat) (d : Dev) : (elapse ns d).cls = d.cls := rfl
@[simp] theorem elapse_heat (ns : Nat) (d : Dev) : (elapse ns d).heat = d.heat := rfl
@[simp] theorem elapse_otp (ns : Nat) (d : Dev) : (elapse ns d).otp = d.otp := rfl
@[simp] theorem elapse_now (ns : Nat) (d : Dev) : (elapse ns d).now = d.now + ns := rfl

@[simp] theorem reach_free (t : Timer) (d : Dev) : (reach t d).free = d.free := rfl
@[simp] theorem reach_timers (t : Timer) (d : Dev) : (reach t d).timers = d.timers := rfl
@[simp] theorem reach_out (t : Timer) (d : Dev) : (reach t d).out = d.out := rfl
@[simp] theorem reach_flash (t : Timer) (d : Dev) : (reach t d).flash = d.flash := rfl
@[simp] theorem reach_aon (t : Timer) (d : Dev) : (reach t d).aon = d.aon := rfl
@[simp] theorem reach_boot (t : Timer) (d : Dev) : (reach t d).boot = d.boot := rfl
@[simp] theorem reach_od (t : Timer) (d : Dev) : (reach t d).od = d.od := rfl
@[simp] theorem reach_hw (t : Timer) (d : Dev) : (reach t d).hw = d.hw := rfl
@[simp] theorem reach_cables (t : Timer) (d : Dev) : (reach t d).cables = d.cables := rfl
@[simp] theorem reach_slots (t : Timer) (d : Dev) : (reach t d).slots = d.slots := rfl
@[simp] theorem reach_shep (t : Timer) (d : Dev) : (reach t d).shep = d.shep := rfl
@[simp] theorem reach_ng (t : Timer) (d : Dev) : (reach t d).ng = d.ng := rfl
@[simp] theorem reach_fab (t : Timer) (d : Dev) : (reach t d).fab = d.fab := rfl
@[simp] theorem reach_st (t : Timer) (d : Dev) : (reach t d).st = d.st := rfl
@[simp] theorem reach_rt (t : Timer) (d : Dev) : (reach t d).rt = d.rt := rfl
@[simp] theorem reach_cls (t : Timer) (d : Dev) : (reach t d).cls = d.cls := rfl
@[simp] theorem reach_heat (t : Timer) (d : Dev) : (reach t d).heat = d.heat := rfl
@[simp] theorem reach_otp (t : Timer) (d : Dev) : (reach t d).otp = d.otp := rfl

@[simp] theorem expired_free (t : Timer) (d : Dev) : (expired t d).free = d.free := rfl
@[simp] theorem expired_flash (t : Timer) (d : Dev) : (expired t d).flash = d.flash := rfl
@[simp] theorem expired_aon (t : Timer) (d : Dev) : (expired t d).aon = d.aon := rfl
@[simp] theorem expired_boot (t : Timer) (d : Dev) : (expired t d).boot = d.boot := rfl
@[simp] theorem expired_od (t : Timer) (d : Dev) : (expired t d).od = (hush d).od := rfl
@[simp] theorem expired_hw (t : Timer) (d : Dev) : (expired t d).hw = d.hw := rfl
@[simp] theorem expired_cables (t : Timer) (d : Dev) : (expired t d).cables = d.cables := rfl
@[simp] theorem expired_slots (t : Timer) (d : Dev) : (expired t d).slots = d.slots := rfl
@[simp] theorem expired_shep (t : Timer) (d : Dev) : (expired t d).shep = d.shep := rfl
@[simp] theorem expired_ng (t : Timer) (d : Dev) : (expired t d).ng = d.ng := rfl
@[simp] theorem expired_fab (t : Timer) (d : Dev) : (expired t d).fab = d.fab := rfl
@[simp] theorem expired_st (t : Timer) (d : Dev) : (expired t d).st = d.st := rfl
@[simp] theorem expired_rt (t : Timer) (d : Dev) : (expired t d).rt = d.rt := rfl
@[simp] theorem expired_cls (t : Timer) (d : Dev) : (expired t d).cls = d.cls := rfl
@[simp] theorem expired_heat (t : Timer) (d : Dev) : (expired t d).heat = d.heat := rfl
@[simp] theorem expired_otp (t : Timer) (d : Dev) : (expired t d).otp = d.otp := rfl
@[simp] theorem expired_out (t : Timer) (d : Dev) : (expired t d).out = [] := rfl

@[simp] theorem hush_free (d : Dev) : (hush d).free = d.free := rfl
@[simp] theorem hush_timers (d : Dev) : (hush d).timers = d.timers := rfl
@[simp] theorem hush_flash (d : Dev) : (hush d).flash = d.flash := rfl
@[simp] theorem hush_aon (d : Dev) : (hush d).aon = d.aon := rfl
@[simp] theorem hush_boot (d : Dev) : (hush d).boot = d.boot := rfl
@[simp] theorem hush_od_cfg (d : Dev) : (hush d).od.cfg = d.od.cfg := rfl
@[simp] theorem hush_od_dflt (d : Dev) : (hush d).od.dflt = d.od.dflt := rfl
@[simp] theorem hush_od_sel (d : Dev) : (hush d).od.sel = d.od.sel := rfl
@[simp] theorem hush_od_sessions (d : Dev) : (hush d).od.sessions = d.od.sessions := rfl
@[simp] theorem hush_od_scheduled (d : Dev) : (hush d).od.scheduled = d.od.scheduled := rfl
@[simp] theorem hush_od_commits (d : Dev) : (hush d).od.commits = d.od.commits := rfl
@[simp] theorem hush_od_subs (d : Dev) : (hush d).od.subs = d.od.subs := rfl
@[simp] theorem hush_od_sentTimes (d : Dev) : (hush d).od.sentTimes = d.od.sentTimes := rfl
@[simp] theorem hush_od_executed (d : Dev) : (hush d).od.executed = d.od.executed := rfl
@[simp] theorem hush_od_journalState (d : Dev) : (hush d).od.journalState = d.od.journalState := rfl
@[simp] theorem hush_od_serial (d : Dev) : (hush d).od.serial = d.od.serial := rfl
@[simp] theorem hush_od_alarmEvents (d : Dev) : (hush d).od.alarmEvents = 0 := rfl
@[simp] theorem hush_hw (d : Dev) : (hush d).hw = d.hw := rfl
@[simp] theorem hush_cables (d : Dev) : (hush d).cables = d.cables := rfl
@[simp] theorem hush_slots (d : Dev) : (hush d).slots = d.slots := rfl
@[simp] theorem hush_shep (d : Dev) : (hush d).shep = d.shep := rfl
@[simp] theorem hush_ng (d : Dev) : (hush d).ng = d.ng := rfl
@[simp] theorem hush_fab (d : Dev) : (hush d).fab = d.fab := rfl
@[simp] theorem hush_st (d : Dev) : (hush d).st = d.st := rfl
@[simp] theorem hush_rt (d : Dev) : (hush d).rt = d.rt := rfl
@[simp] theorem hush_cls (d : Dev) : (hush d).cls = d.cls := rfl
@[simp] theorem hush_heat (d : Dev) : (hush d).heat = d.heat := rfl
@[simp] theorem hush_otp (d : Dev) : (hush d).otp = d.otp := rfl
@[simp] theorem hush_now (d : Dev) : (hush d).now = d.now := rfl
@[simp] theorem hush_tm (d : Dev) : (hush d).tm = d.tm := rfl
@[simp] theorem hush_out (d : Dev) : (hush d).out = [] := rfl

/-- Of the timebase's record, time changes the timebase alone. -/
theorem elapse_tm (ns : Nat) (d : Dev) : ∃ tb, (elapse ns d).tm = { d.tm with tb := tb } := by
  unfold elapse; dsimp only; split
  · exact ⟨_, rfl⟩
  · exact ⟨d.tm.tb, rfl⟩

/-- A timer that runs expires, and its effect starts from that instant; one that does not run changes nothing. -/
theorem onExpiry_armed (t : Timer) (f : Dev → Dev) (d : Dev) (h : armed t d = true) :
    onExpiry t f d = f (disarm t (reach t d)) := by simp [onExpiry, h]
@[inherit_doc onExpiry_armed] theorem onExpiry_idle (t : Timer) (f : Dev → Dev) (d : Dev) (h : armed t d = false) :
    onExpiry t f d = d := by simp [onExpiry, h]

@[simp] theorem armed_hush (t : Timer) (d : Dev) : armed t (hush d) = armed t d := rfl
@[simp] theorem mgtRuns_hush (d : Dev) : mgtRuns (hush d) = mgtRuns d := rfl
@[simp] theorem odServes_hush (d : Dev) : odServes (hush d) = odServes d := rfl
@[simp] theorem mgtRuns_elapse (ns : Nat) (d : Dev) : mgtRuns (elapse ns d) = mgtRuns d := rfl

end Sys2Proof.Machine
end

