-- ==== Sys2Proof/Tests/Slice0.lean ====
section
/-! SUPPORT. The model's own tests: the well-formedness checks refuse what they are there to refuse; a word spells no command;
single steps show what the spec's text and tables say; and for every obligation with hypotheses one witness shows, clause by
clause, a state and operands that meet them together. -/

-- One theorem after another: many at once would hold a thread each.
set_option Elab.async false

namespace Sys2Proof.Tests

open Sys2Proof Sys2Proof.Machine Sys2Proof.Safety

/-! ### States -/

/-- A device of the SX7240 in READY and ACTIVE, lifecycle LOCKED, with nothing attached and nothing configured. -/
def idleDev : Dev :=
  { Dev.reset with
    aon := { Aon.reset with power := .active, pwrEn := true, coreOk := true, serOk := true, hkOk := true, lastWake := 0x80 }
    boot := { Boot.reset with stage := .ready }
    otp := { Otp.reset with variant := 0, firstVariant := some 0, lifecycle := 2 } }

/-- That device, changed by `f`, with each of `ts` to expire 1 us later. -/
def at_ (ts : List Timer) (f : Dev → Dev) : State :=
  { dev := f { idleDev with timers := ts.map fun t => (t, us) }, pending := [] }

/-- That device as it is. -/
def up : State := at_ [] id

/-- That device in another boot stage. -/
def during (stage : Stage) (ts : List Timer := []) (f : Aon → Aon := id) (g : Boot → Boot := id) : State :=
  at_ ts fun d => { d with aon := f d.aon, boot := g { d.boot with stage := stage } }

/-- That device with cable port 0 changed by `f`. -/
def port0 (f : Cable → Cable) (ts : List Timer := []) (g : Dev → Dev := id) : State :=
  at_ ts fun d => g { d with cables := [(0, f Cable.reset)] }

/-- That device with values stored under elements. -/
def with_ (vs : List (Nat × Nat × Nat)) (d : Dev) : Dev := vs.foldl (fun d v => setCfg v.1 v.2.1 v.2.2 d) d

/-- The checks of `AdmittedValue` as one Boolean. -/
def admitted (d : Dev) (s obj el v : Nat) : Bool :=
  (match odElem (hush d) obj el with | some e => decide (v < 256 ^ e.ty.size) | none => false) && odServes d &&
    odVerify (hush d) s .custodian obj el (octetsOf d obj el v) == stOk

theorem admittedValue_of_admitted {d : Dev} {s obj el v : Nat} (h : admitted d s obj el v = true) :
    AdmittedValue d s obj el v := by
  unfold admitted at h
  simp only [Bool.and_eq_true, beq_iff_eq] at h
  refine ⟨?_, h.1.2, h.2⟩
  cases he : odElem (hush d) obj el with
  | none => rw [he] at h; simp at h
  | some e => rw [he] at h; exact ⟨e, rfl, of_decide_eq_true h.1.1⟩
/-- Fuse words with their check bits, one after another from address `a` on. -/
def fuseArray : Nat → List Nat → Tbl (BitVec 39)
  | _, [] => []
  | a, w :: ws => (a, BitVec.ofNat 39 (codeword w)) :: fuseArray (a + 1) ws

/-- A record as fuse words: its header, its payload, the CRC that ends it, and a STATUS of 0. -/
def recordWords (kind tag : Nat) (p : List Nat) : List Nat :=
  let body := (kind * 2 ^ 24 + p.length * 2 ^ 16 + tag) :: p
  body ++ [(crc32c (wordOctets body)).toNat, 0]

/-- The fuses of a device with the given words burned from address `a` on, above all that it holds. -/
def fused (a : Nat) (ws : List Nat) (d : Dev) : Dev :=
  { d with otp := { d.otp with array := d.otp.array ++ fuseArray a ws } }

theorem codeword_lt (x : Nat) : codeword x < 2 ^ 39 := by
  unfold codeword otpCheckBits; split <;> omega

theorem eccRead_codeword {x : Nat} (h : x < 2 ^ 32) : eccRead (codeword x) = (x, 0) := by
  have m : codeword x % 2 ^ 32 = x := by unfold codeword; omega
  have c : isCodeword (codeword x) = true := by unfold isCodeword; rw [m]; exact beq_self_eq_true _
  unfold eccRead; rw [if_pos c, m]

theorem tget_fuseArray (ws : List Nat) : ∀ a b : Nat,
    (tget 0 (fuseArray a ws) b).toNat = codeword (if b < a then 0 else ws.getD (b - a) 0) := by
  induction ws with
  | nil => intro a b; simp [fuseArray, tget, tfind, codeword, otpCheckBits]
  | cons w ws ih =>
    intro a b
    by_cases e : b = a
    · subst e
      simp only [fuseArray, tget, tfind, beq_self_eq_true, if_true, Option.getD_some, BitVec.toNat_ofNat, Nat.lt_irrefl,
        if_false, Nat.sub_self, List.getD_cons_zero]
      exact Nat.mod_eq_of_lt (codeword_lt w)
    · have := ih (a + 1) b
      have f : (a == b) = false := by simpa using Ne.symm e
      simp only [fuseArray, tget, tfind, f, Bool.false_eq_true, if_false] at this ⊢
      rw [this]
      rcases Nat.lt_or_gt_of_ne e with l | l
      · rw [if_pos l, if_pos (by omega)]
      · rw [if_neg (by omega), if_neg (by omega), show b - a = (b - (a + 1)) + 1 by omega, List.getD_cons_succ]

theorem tfind_append {α : Type} (t u : Tbl α) (i : Nat) : tfind (t ++ u) i = (tfind t i).or (tfind u i) := by
  induction t with
  | nil => simp [tfind]
  | cons x t ih =>
    obtain ⟨k, v⟩ := x
    simp only [List.cons_append, tfind]
    split
    · rfl
    · exact ih

theorem tfind_eq_none_of_lt {α : Type} {t : Tbl α} {a b : Nat} (h : ∀ x ∈ t, x.1 < a) (l : a ≤ b) : tfind t b = none := by
  induction t with
  | nil => rfl
  | cons x t ih =>
    obtain ⟨k, v⟩ := x
    have hk : k < a := h (k, v) (List.mem_cons_self ..)
    have f : (k == b) = false := by simpa using (by omega : k ≠ b)
    simp only [tfind, f, Bool.false_eq_true, if_false]
    exact ih fun x hx => h x (List.mem_cons_of_mem _ hx)

/-- How the words of `fused a ws d` read. -/
def fusedWord (a : Nat) (ws : List Nat) (d : Dev) (b : Nat) : Nat × Nat :=
  if b < a then eccRead (tget 0 d.otp.array b).toNat else (ws.getD (b - a) 0, 0)

theorem otpWord_fused (a : Nat) (ws : List Nat) (d : Dev) (h : ∀ w ∈ ws, w < 2 ^ 32) (k : ∀ x ∈ d.otp.array, x.1 < a) :
    otpWord (fused a ws d) = fusedWord a ws d := by
  funext b
  have l : ws.getD (b - a) 0 < 2 ^ 32 := by
    rw [List.getD_eq_getElem?_getD]
    cases hw : ws[b - a]? with
    | none => decide
    | some w => exact h w (List.mem_of_getElem? hw)
  have t := tget_fuseArray ws a b
  unfold otpWord otpRaw fusedWord
  rw [show (fused a ws d).otp.array = d.otp.array ++ fuseArray a ws from rfl]
  simp only [tget, tfind_append] at t ⊢
  split
  · rename_i g
    have n : tfind (fuseArray a ws) b = none := by
      have : ∀ (ws : List Nat) (c : Nat), b < c → tfind (fuseArray c ws) b = none := by
        intro ws
        induction ws with
        | nil => intro c _; rfl
        | cons w ws ih =>
          intro c hc
          have f : (c == b) = false := by simpa using (by omega : c ≠ b)
          simp only [fuseArray, tfind, f, Bool.false_eq_true, if_false]
          exact ih (c + 1) (by omega)
      exact this ws a g
    rw [n]; cases tfind d.otp.array b <;> rfl
  · rename_i g
    rw [tfind_eq_none_of_lt k (by omega : a ≤ b)]
    simp only [Option.none_or]
    rw [t, if_neg g, eccRead_codeword l]

theorem recordOf_fused (a : Nat) (ws : List Nat) (d : Dev) (b : OtpBank) (kind tag : Nat) (h : ∀ w ∈ ws, w < 2 ^ 32)
    (k : ∀ x ∈ d.otp.array, x.1 < a) : recordOf (fused a ws d) b kind tag =
      ((walkFrom (fusedWord a ws d) b (bankEnd b - bankFirst b) (bankFirst b)).recs.reverse.find?
        fun r => usable r && r.kind == kind && r.tag == tag).map (·.payload) := by
  unfold recordOf walk; rw [otpWord_fused a ws d h k]

theorem walk_fused (a : Nat) (ws : List Nat) (d : Dev) (b : OtpBank) (h : ∀ w ∈ ws, w < 2 ^ 32) (k : ∀ x ∈ d.otp.array, x.1 < a) :
    walk (fused a ws d) b = walkFrom (fusedWord a ws d) b (bankEnd b - bankFirst b) (bankFirst b) := by
  unfold walk; rw [otpWord_fused a ws d h k]


theorem witness_StepRunsFrontCommand : { up with pending := [Instr.rdsr] }.pending = Instr.rdsr :: [] := rfl

theorem witness_EmptyQueueTick : up.pending = [] := rfl

theorem witness_FlagsInvariantKept : Safety.Inv up ∧ ∃ t : State, step up = .next t :=
  ⟨by unfold Safety.Inv irq; decide +kernel, _, rfl⟩

theorem witness_TimersKeepTime : Timer.lockout ≠ Timer.journal := by decide

theorem witness_PowerOnReset :
    (∃ s : State, aonRuns s.dev = false ∧ s.dev.otp.burn = none) ∧ (∃ s : State, aonRuns s.dev = true) ∧
    (∃ s : State, s.dev.aon.resetNLow = true ∧ s.dev.aon.window = none ∧ aonRuns s.dev = true) ∧
    (∃ s : State, armed .xtal s.dev = true ∧ s.dev.aon.aonRc = false) :=
  ⟨⟨State.reset, by decide +kernel⟩, ⟨up, by decide +kernel⟩,
   ⟨during .down [] fun a => { a with resetNLow := true }, by decide +kernel⟩,
   ⟨during .railsS [.xtal] fun a => { a with aonRc := false }, by decide +kernel⟩⟩

theorem witness_OneStrapWindow : ∃ (s : State) (w : StrapWindow), s.dev.aon.window = some w :=
  ⟨during .strapsS [] fun a => { a with window := some ⟨true, none⟩ }, _, rfl⟩

theorem witness_StrapSampling :
    (∃ (s : State) (all : Bool), s.dev.aon.window = some { all := all, sampleA := none }) ∧
    (∃ (s : State) (a b : BitVec 5), s.dev.aon.window = some { all := true, sampleA := some a } ∧
      a.getLsbD 0 = b.getLsbD 0 ∧ a.getLsbD 1 = b.getLsbD 1 ∧ a.getLsbD 3 = b.getLsbD 3 ∧ a.getLsbD 4 ≠ b.getLsbD 4 ∧
      s.dev.aon.resetNLow = false ∧ s.dev.aon.preReg = false) ∧
    (∃ (s : State) (a b : BitVec 5), s.dev.aon.window = some { all := true, sampleA := some a } ∧
      (a.getLsbD 0 ≠ b.getLsbD 0 ∨ a.getLsbD 1 ≠ b.getLsbD 1) ∧ (s.dev.aon.resetNLow = true ∨ s.dev.aon.preReg = true)) ∧
    (∃ (s : State) (a b : BitVec 5), s.dev.aon.window = some { all := false, sampleA := some a } ∧
      a.getLsbD 3 ≠ b.getLsbD 3 ∧ a.getLsbD 4 = b.getLsbD 4) ∧
    (∃ s : State, s.dev.boot.stage = .otpCheck) :=
  ⟨⟨during .strapsS [] fun a => { a with window := some ⟨true, none⟩ }, true, rfl⟩,
   ⟨during .strapsS [] fun a => { a with window := some ⟨true, some 0b01011⟩ }, 0b01011, 0b11011, by decide +kernel⟩,
   ⟨during .strapsS [] fun a => { a with window := some ⟨true, some 0⟩, resetNLow := true }, 0, 1, by decide +kernel⟩,
   ⟨during .strapsS [] fun a => { a with window := some ⟨false, some 0⟩ }, 0, 0b01000, by decide +kernel⟩,
   ⟨during .otpCheck, rfl⟩⟩

theorem witness_RailsAndReference :
    (∃ s : State, s.dev.boot.stage = .railsS ∧ s.dev.aon.pwrEn = true ∧ armed .railTimeout s.dev = true ∧
      armed .railRetry s.dev = true ∧ s.dev.aon.railFails < 2 ∧ railOk s.dev.aon .ser = true) ∧
    (∃ s : State, s.dev.boot.stage = .railsS ∧ armed .railTimeout s.dev = true ∧ 2 ≤ s.dev.aon.railFails) ∧
    (∃ s : State, s.dev.boot.stage = .refclk ∧ armed .refTimeout s.dev = true ∧ s.dev.aon.refFails < 2 ∧
      s.dev.otp.firstVariant = none) ∧
    (∃ (s : State) (v : Nat), s.dev.boot.stage = .refclk ∧ armed .refTimeout s.dev = true ∧ 2 ≤ s.dev.aon.refFails ∧
      s.dev.otp.firstVariant = some v) :=
  ⟨⟨during .railsS [.railTimeout, .railRetry], by decide +kernel⟩,
   ⟨during .railsS [.railTimeout] fun a => { a with railFails := 2 }, by decide +kernel⟩,
   ⟨at_ [.refTimeout] fun d => { d with boot := { d.boot with stage := .refclk }, otp := Otp.reset }, by decide +kernel⟩,
   ⟨at_ [.refTimeout] fun d => { d with
      boot := { d.boot with stage := .refclk }, aon := { d.aon with refFails := 2 }, otp := { d.otp with firstVariant := some 2 } }, 2,
     by decide +kernel⟩⟩

/-- A device in DORMANT. -/
def dormant (ts : List Timer := []) (f : Aon → Aon := id) : State :=
  during .down ts fun a => f { a with power := .dormant, pwrEn := false }

theorem witness_DormantAndIdle :
    (∃ s : State, isDormant s.dev = true ∧ armed .dormant s.dev = true ∧ s.dev.aon.resetNLow = false ∧
      s.dev.aon.wakeEnable.getLsbD 5 = true ∧ armed .latchedBoot s.dev = false ∧ s.dev.aon.window = none ∧
      s.dev.aon.rpSuppress0 = true ∧ s.dev.aon.dryChecks0 < 2 ∧ s.dev.aon.rpSuppress1 = true ∧ s.dev.aon.dryChecks1 < 2 ∧
      0 < cfg s.dev 0x2300 0) ∧
    (∃ s : State, s.dev.boot.stage = .ready ∧ s.dev.aon.power = .idle ∧ s.dev.boot.leaving = false ∧
      cfg s.dev 0x14 1 = 3 ∧ dormantBlock s.dev = 0 ∧ cfg s.dev 0x14 4 ≠ 0) ∧
    (∃ s : State, armed .latchedBoot s.dev = true ∧ s.dev.aon.wakeLatch ≠ 0) ∧
    (∃ s : State, armed .idleHold s.dev = true ∧ s.dev.boot.stage = .ready ∧ s.dev.aon.power = .active ∧
      cfg s.dev 0x14 1 = 0 ∧ activity s.dev = false) ∧
    (∃ s : State, armed .drain s.dev = true) :=
  ⟨⟨dormant [.dormant] fun a => { a with rpSuppress0 := true, rpSuppress1 := true, dryChecks1 := 1 }, by decide +kernel⟩,
   ⟨at_ [] fun d => with_ [(0x14, 1, 3), (0x14, 4, 1)] { d with aon := { d.aon with power := .idle } }, by decide +kernel⟩,
   ⟨dormant [.latchedBoot] fun a => { a with wakeLatch := 1 }, by decide +kernel⟩,
   ⟨at_ [.idleHold] id, by decide +kernel⟩, ⟨at_ [.drain] id, by decide +kernel⟩⟩

theorem witness_WakeEvents :
    ∃ s : State, (∀ i : Nat, i < 5 → s.dev.aon.wakeEnable.getLsbD i = true) ∧ isDormant s.dev = true ∧
      s.dev.aon.resetNLow = false ∧ armed .latchedBoot s.dev = false ∧ s.dev.aon.window = none ∧
      (∀ i : Nat, i < 2 → comparatorsRun s.dev i = true) ∧ s.dev.aon.bankH = true :=
  ⟨dormant [] fun a => { a with wakeEnable := 0x1F, rpWindow := true }, by decide +kernel⟩

theorem witness_DeadBattery :
    (∃ s : State, aonRuns s.dev = false ∧ (4000 < 4001 ∨ 4000 < 0)) ∧
    (∃ (s : State) (n : Fin 2), s.dev.aon.dbPort = some n ∧ s.dev.aon.preReg = true ∧ s.dev.aon.dbClosed = false) ∧
    (∃ s : State, s.dev.aon.preReg = true ∧ s.dev.aon.dbClosed = true ∧ s.dev.aon.window = none ∧
      s.dev.aon.resetNLow = false) :=
  ⟨⟨State.reset, by decide +kernel⟩,
   ⟨during .railsS [] fun a => { a with dbPort := some 1, preReg := true }, 1, by decide +kernel⟩,
   ⟨during .railsS [] fun a => { a with dbPort := some 1, preReg := true, dbClosed := true }, by decide +kernel⟩⟩

theorem witness_SysResets :
    (∃ s : State, ResetCause.watchdog ∉ [ResetCause.por, .resetN, .hostRequest] ∧ mgtRuns s.dev = true ∧
      s.dev.boot.sysResetPending = true ∧ s.dev.od.pendingJournal = [] ∧ s.dev.otp.halted = false ∧
      armed .bootLimit s.dev = true ∧ s.dev.aon.pwrEn = true ∧ s.dev.aon.resetNLow = false) ∧
    (∃ s : State, mgtRuns s.dev = true ∧ debugState s.dev = 1) ∧
    (∃ s : State, mgtRuns s.dev = true ∧ 7 ∈ sourcingPorts s.dev ∧ 3 ∉ sourcingPorts s.dev ∧ sinkHold s.dev 0 = true ∧
      sinkHold s.dev 1 = true) :=
  ⟨⟨during .replay [.bootLimit] id fun b => { b with sysResetPending := true }, by decide +kernel⟩,
   ⟨at_ [] fun d => { d with otp := { d.otp with debugOpen := true } }, by decide +kernel⟩,
   ⟨at_ [] fun d => { d with cables := [
      (0, { Cable.reset with typec := .attachedSnk, powerRole := .sink, contract := .spr, mv := 5000, ma := 1000, gateOn := true }),
      (1, { Cable.reset with typec := .attachedSnk, powerRole := .sink, contract := .spr, mv := 5000, ma := 1000, gateOn := true }),
      (7, { Cable.reset with typec := .attachedSrc, powerRole := .source, gateOn := true, path := .on })] }, by decide +kernel⟩⟩

theorem witness_FabResetAndDebug :
    (∃ s : State, mgtRuns s.dev = true ∧ s.dev.fab.resetting = true ∧ debugState s.dev = 1) :=
  ⟨at_ [] fun d => { d with fab := { d.fab with resetting := true }, otp := { d.otp with lifecycle := 1 } }, by decide +kernel⟩

/-! ### Witnesses: the object dictionary and ZOP -/

/-- A request of session `sess` in a bus frame of ID 901 on channel A, with nothing queued before it. -/
def request (sess seq el obj : Nat) (payload : List Byte := []) : ZReq :=
  { via := .nguzo false 901, sess := BitVec.ofNat 16 (1024 + sess), seq := BitVec.ofNat 16 seq, element := BitVec.ofNat 8 el,
    object := BitVec.ofNat 16 obj, length := BitVec.ofNat 16 payload.length, payload := payload, tag := [], queuedUs := 0,
    queued := 0 }

/-- A device to which the bus brought the request, with roaming session 100 open and changed by `f`. -/
def served (q : ZReq) (op : Byte) (f : Session → Session := id) (ts : List Timer := []) (g : Dev → Dev := id) : State :=
  at_ ts fun d => g { d with od := { d.od with sessions := [(100, f { Session.fresh with isOpen := true })] }
                             ng := { d.ng with inbox := [ngMsgOf q op false 901] } }

/-- A READ of VARIANT, a WRITE of DORMANT_TIMER, a SUBSCRIBE to the timebase, and a request with no payload. -/
def readReq : ZReq := request 100 1 0 0x10
@[inherit_doc readReq] def writeReq : ZReq := request 100 1 4 0x14 [1, 0, 0, 0]
@[inherit_doc readReq] def subReq (mode : Nat) : ZReq := request 100 1 0 0x6000 [BitVec.ofNat 8 mode, 0, 10, 0]
@[inherit_doc readReq] def bareReq : ZReq := request 100 1 0 0

theorem witness_RequestsRunOnce :
    (∃ (s : State) (q : ZReq), Accepted opRead q s.dev ∧ Ahead q 1 s.dev ∧
      (answerOctets q opRead (doRead (reqSession q) q (taken q opRead s.dev)).1 s.dev).length ≤ maxMessage q.via ∧
      recorded (doRead (reqSession q) q (taken q opRead s.dev)).1.status = true ∧
      sessionOpen (doRead (reqSession q) q (taken q opRead s.dev)).2 (reqSession q) = true) ∧
    (∃ (s : State) (q : ZReq) (octets : List Byte), Accepted opRead q s.dev ∧
      seqCase (sessionOf s.dev (reqSession q)) q.seq = .replay ∧ (sessionOf s.dev (reqSession q)).cache = .full octets) ∧
    (∃ (s : State) (q : ZReq), Accepted opRead q s.dev ∧ seqCase (sessionOf s.dev (reqSession q)) q.seq = .done 1) ∧
    (∃ (s : State) (q : ZReq), Accepted opRead q s.dev ∧ seqCase (sessionOf s.dev (reqSession q)) q.seq = .stale) :=
  ⟨⟨served readReq opRead, readReq, by unfold Accepted Ahead; decide +kernel⟩,
   ⟨served (request 100 0 0 1) opRead fun x => { x with cache := .full [1, 2] }, request 100 0 0 1, [1, 2],
     by unfold Accepted; decide +kernel⟩,
   ⟨served (request 100 4 0 1) opRead fun x => { x with highest := 5, window := 3 }, request 100 4 0 1,
     by unfold Accepted; decide +kernel⟩,
   ⟨served (request 100 0x8000 0 1) opRead, request 100 0x8000 0 1, by unfold Accepted; decide +kernel⟩⟩

theorem witness_ReadAndWrite :
    (∃ (s : State) (q : ZReq) (e : Elem), Accepted opRead q s.dev ∧ Ahead q 1 s.dev ∧ q.payload = [] ∧
      reqDescribe q = false ∧ odBusy (taken q opRead s.dev) q.object.toNat false = false ∧
      odStatus (taken q opRead s.dev) q.object.toNat q.element.toNat = exOk ∧
      odElem (taken q opRead s.dev) q.object.toNat q.element.toNat = some e ∧
      mayRead (taken q opRead s.dev) (roleOf (taken q opRead s.dev) (reqSession q)) e = true ∧
      (odRead (taken q opRead s.dev) (reqSession q) q.object.toNat q.element.toNat).1 = stOk ∧
      (answerOctets q opRead ⟨stOk, (odRead (taken q opRead s.dev) (reqSession q) q.object.toNat q.element.toNat).2.1, false⟩
        s.dev).length ≤ maxMessage q.via) ∧
    (∃ (s : State) (q : ZReq), Accepted opWrite q s.dev ∧ Ahead q 1 s.dev ∧
      odVerify (taken q opWrite s.dev) (reqSession q) (roleOf (taken q opWrite s.dev) (reqSession q)) q.object.toNat
        q.element.toNat q.payload = stOk ∧
      let u := odPerform (taken q opWrite s.dev) (reqSession q) q.object.toNat q.element.toNat q.payload
      isPersistent u q.object.toNat q.element.toNat = true ∧ attemptWaits u = false) ∧
    (∃ (s : State) (q : ZReq), undefinedOpcode 0x21 = true ∧ Accepted 0x21 q s.dev ∧ Ahead q 1 s.dev ∧
      reaches q 0x21 s.dev = true ∧ isFragment q = false ∧ malformed q 0x21 = false) :=
  ⟨⟨served readReq opRead, readReq, (odElem idleDev 0x10 0).get (by decide +kernel), by unfold Accepted Ahead; decide +kernel⟩,
   ⟨served writeReq opWrite fun x => { x with role := .custodian }, writeReq, by unfold Accepted Ahead; decide +kernel⟩,
   ⟨served bareReq 0x21, bareReq, by unfold Accepted Ahead; decide +kernel⟩⟩

theorem witness_BundleLife :
    (∃ (s : State) (q : ZReq), Accepted opBundleOpen q s.dev ∧ Ahead q 1 s.dev ∧ q.payload = [] ∧
      (sessionOf s.dev (reqSession q)).bundle = none ∧ openBundles s.dev < 64) ∧
    (∃ (s : State) (q : ZReq), Accepted opBundleAdd q s.dev ∧ Ahead q 1 s.dev ∧
      (sessionOf s.dev (reqSession q)).bundle = some [] ∧
      odVerify (taken q opBundleAdd s.dev) (reqSession q) (roleOf (taken q opBundleAdd s.dev) (reqSession q)) q.object.toNat
        q.element.toNat q.payload = stOk ∧
      q.payload.length ≤ 32 ∧ (bundlePut { object := q.object.toNat, element := q.element.toNat, value := q.payload,
                                           role := roleOf s.dev (reqSession q) } []).length ≤ 32) ∧
    (∃ (s : State) (q : ZReq), Accepted opBundleCommit q s.dev ∧ Ahead q 1 s.dev ∧
      q.payload = [] ∧ (sessionOf s.dev (reqSession q)).bundle = some [] ∧ s.dev.od.scheduled.length < 16) ∧
    (∀ open_ : Bool, ∃ (s : State) (q : ZReq), Accepted opBundleAbort q s.dev ∧ Ahead q 1 s.dev ∧ q.payload = [] ∧
      (sessionOf s.dev (reqSession q)).bundle.isSome = open_ ∧ (s.dev.od.scheduled.any fun b => b.sess == reqSession q) = true) ∧
    (∃ (s : State) (n : SessNo), armed (.bundle n.toNat) s.dev = true ∧ (sessionOf s.dev n.toNat).bundle.isSome = true) :=
  ⟨⟨served bareReq opBundleOpen, bareReq, by unfold Accepted Ahead; decide +kernel⟩,
   ⟨served writeReq opBundleAdd fun x => { x with role := .custodian, bundle := some [] }, writeReq,
    by unfold Accepted Ahead; decide +kernel⟩,
   ⟨served bareReq opBundleCommit fun x => { x with bundle := some [] }, bareReq, by unfold Accepted Ahead; decide +kernel⟩,
   fun o => ⟨served bareReq opBundleAbort (fun x => if o then { x with bundle := some [] } else x) [] fun d =>
      { d with od := { d.od with scheduled := [⟨100, 1, 7, []⟩] } }, bareReq, by unfold Accepted Ahead; revert o; decide +kernel⟩,
   ⟨served bareReq 0 (fun x => { x with bundle := some [] }) [.bundle 100], 100, by decide +kernel⟩⟩

/-- A request of session 0 in the mailbox of the host, which holds the role Operator. -/
def hosted (q : ZReq) (op : Byte) : State :=
  at_ [] fun d => { d with
    od := { d.od with sessions := [(0, { Session.fresh with isOpen := true, role := .operator })] }
    hw := { d.hw with mbxBusy := true, mbxLen := (reqOctets q op).length, reqBuf := writeBytes 0 [] 0 (reqOctets q op) } }

/-- A subscription of session 100 to the alarms. -/
def aSub (p : Bool) : Sub := ⟨100, 0x20, 0, p, 10, .nguzo false 901, [], true, false⟩

theorem witness_SessionsAndSubscriptions :
    (∃ (s : State) (q : ZReq), AcceptedOpen q s.dev ∧ isRoaming s.dev (reqSession q) = true ∧ q.payload.length = 8 ∧
      (sessionOf s.dev (reqSession q)).isOpen = false) ∧
    (∃ (s : State) (q : ZReq), AcceptedOpen q s.dev ∧ isRoaming s.dev (reqSession q) = true ∧ q.payload.length = 8 ∧
      (sessionOf s.dev (reqSession q)).isOpen = true ∧ (sessionOf s.dev (reqSession q)).clientId = q.payload) ∧
    (∃ (s : State) (q : ZReq), Accepted opSessionClose q s.dev ∧ Ahead q 1 s.dev ∧ q.payload = [] ∧ 10 ≤ reqSession q) ∧
    (∃ (s : State) (q : ZReq), Accepted opSessionClose q s.dev ∧ Ahead q 1 s.dev ∧ q.payload = [] ∧ reqSession q = 0) ∧
    (∃ (s : State) (n : SessNo), armed (.sessionIdle n.toNat) s.dev = true) ∧
    (∀ mode : Fin 2, ∃ (s : State) (q : ZReq) (e : Elem), Accepted opSubscribe q s.dev ∧ Ahead q 1 s.dev ∧
      q.payload.length = 4 ∧ leNat (q.payload.take 1) = 1 + mode.val ∧ leNat (q.payload.drop 2) = 10 ∧
      odMayRead (taken q opSubscribe s.dev) (roleOf (taken q opSubscribe s.dev) (reqSession q)) q.object.toNat q.element.toNat
        = stOk ∧
      odElem (taken q opSubscribe s.dev) q.object.toNat q.element.toNat = some e ∧
      bit (odFlags q.object.toNat q.element.toNat e) 1 = true ∧
      (s.dev.od.subs.filter fun x => x.sess == reqSession q).length < 64 ∧ s.dev.od.subs.length < 4096) ∧
    (∃ (s : State) (q : ZReq), Accepted opSubscribe q s.dev ∧ Ahead q 1 s.dev ∧ q.payload.length = 4 ∧
      leNat (q.payload.take 1) = 0 ∧ odThere (taken q opSubscribe s.dev) q.object.toNat q.element.toNat = stOk) ∧
    (∀ periodic : Bool, ∃ (s : State) (n : SessNo) (obj : Half) (el : Byte) (x : Sub), odServes s.dev = true ∧
      s.dev.od.subs.find? (isSub n.toNat obj.toNat el.toNat) = some x ∧ x.periodic = periodic ∧ x.changed = true ∧
      armed (.notify n.toNat obj.toNat el.toNat) s.dev = true ∧
      let d := reach (.notify n.toNat obj.toNat el.toNat) (hush s.dev)
      notifyRoom d = true ∧ x.via ≠ .mailbox ∧
      (notificationOctets n.toNat (sessionOf s.dev n.toNat).notifySeq.toNat obj.toNat el.toNat 0
        (odRead d n.toNat obj.toNat el.toNat).2.1 none).length ≤ maxMessage x.via) :=
  ⟨⟨served (request 101 0 0 0 [1, 2, 3, 4, 5, 6, 7, 8]) opSessionOpen, request 101 0 0 0 [1, 2, 3, 4, 5, 6, 7, 8],
     by unfold AcceptedOpen; decide +kernel⟩,
   ⟨served (request 100 0 0 0 [1, 2, 3, 4, 5, 6, 7, 8]) opSessionOpen fun x => { x with clientId := [1, 2, 3, 4, 5, 6, 7, 8] },
     request 100 0 0 0 [1, 2, 3, 4, 5, 6, 7, 8], by unfold AcceptedOpen; decide +kernel⟩,
   ⟨served bareReq opSessionClose, bareReq, by unfold Accepted Ahead; decide +kernel⟩,
   ⟨hosted { request 0 1 0 0 with via := .mailbox } opSessionClose, { request 0 1 0 0 with via := .mailbox },
     by unfold Accepted Ahead; decide +kernel⟩,
   ⟨at_ [.sessionIdle 100] id, 100, by decide +kernel⟩,
   fun mode => ⟨served (subReq (1 + mode.val)) opSubscribe, subReq (1 + mode.val),
    (odElem idleDev 0x6000 0).get (by decide +kernel), by unfold Accepted Ahead; revert mode; decide +kernel⟩,
   ⟨served (subReq 0) opSubscribe, subReq 0, by unfold Accepted Ahead; decide +kernel⟩,
   fun p => ⟨served bareReq 0 id [.notify 100 0x20 0] fun d => { d with od := { d.od with subs := [aSub p] } }, 100, 0x20, 0, aSub p,
     by revert p; decide +kernel⟩⟩

/-- A device that holds the key of Operator slot 0, all zero, and saw eight proofs fail. -/
def keyed0 (d : Dev) : Dev :=
  { d with otp := { d.otp with array := [(194, 1), (215, 1)] }, od := { d.od with failTimes := List.replicate 8 0 } }

/-- A proof of that key for a challenge of empty nonces, right or all zero. -/
def proofReq (right : Bool) : ZReq :=
  request 100 1 1 0 (if right then hmac (List.replicate 32 0) (proofText [0x5A, 0x50, 0x52, 0x56] (keyed0 idleDev) 100 ⟨1, 0, [], []⟩)
    else List.replicate 32 0)

theorem witness_RoleProofs :
    (∃ (s : State) (q : ZReq), q.element = 0 ∧ Accepted opSessionProve q s.dev ∧ Ahead q 1 s.dev ∧
      canProve s.dev (reqSession q) q = true ∧ q.payload.length = 10 ∧ s.dev.od.lockout = false ∧
      leNat (q.payload.take 1) = 3 ∧ leNat ((q.payload.drop 1).take 1) = 1) ∧
    (∀ right : Bool, ∃ (s : State) (q : ZReq) (c : Challenge) (k : List Byte), q.element = 1 ∧
      Accepted opSessionProve q s.dev ∧ Ahead q 1 s.dev ∧
      canProve s.dev (reqSession q) q = true ∧ q.payload.length = 32 ∧
      liveChallenge s.dev (reqSession q) = some c ∧ roleKey s.dev c.role c.keySlot = some k ∧
      (q.payload == hmac k (proofText [0x5A, 0x50, 0x52, 0x56] s.dev (reqSession q) c)) = right ∧
      8 ≤ (slide s.dev.od.failTimes s.dev.now).length) ∧
    (∃ (s : State) (n : SessNo), armed (.nonce n.toNat) s.dev = true ∧ armed .lockout s.dev = true) :=
  ⟨⟨served (request 100 1 0 0 [3, 1, 0, 0, 0, 0, 0, 0, 0, 0]) opSessionProve, request 100 1 0 0 [3, 1, 0, 0, 0, 0, 0, 0, 0, 0],
     by unfold Accepted Ahead; decide +kernel⟩,
   fun right => ⟨served (proofReq right) opSessionProve (fun x => { x with challenge := some ⟨1, 0, [], []⟩ }) [.nonce 100] keyed0,
    proofReq right, ⟨1, 0, [], []⟩, List.replicate 32 0, by unfold Accepted Ahead; revert right; decide +kernel⟩,
   ⟨at_ [.nonce 100, .lockout] id, 100, by decide +kernel⟩⟩

/-! ### Witnesses: the host window -/

/-- That device with its host window changed by `f`. -/
def window (f : HostWin → HostWin := id) (g : Dev → Dev := id) : State := at_ [] fun d => g { d with hw := f d.hw }

theorem witness_WindowReads :
    (∃ s : State, hwAnswers s.dev = true ∧ odServes s.dev = true ∧ inStaging (0x10000 : BitVec 24).toNat = true ∧
      inStaging (0x1FFFC : BitVec 24).toNat = true ∧ definedReg (0x104 : BitVec 24).toNat = true ∧
      absentReg s.dev (0x104 : BitVec 24).toNat = false ∧ 0x900 ≤ (0x900 : BitVec 24).toNat ∧
      (0xFFC : BitVec 24).toNat < 0x1000) ∧
    (∃ (s : State) (a : BitVec 24), hwAnswers s.dev = true ∧ odServes s.dev = true ∧ a.toNat % 4 = 0 ∧
      definedReg a.toNat = true ∧ absentReg s.dev a.toNat = true) :=
  ⟨⟨up, by decide +kernel⟩,
   ⟨at_ [] fun d => { d with otp := { d.otp with variant := 2 } }, 0x810, by decide +kernel⟩⟩

theorem witness_WindowWrites :
    (∃ s : State, hwAnswers s.dev = true ∧ s.dev.hw.mbxBusy = true ∧ odServes s.dev = true) ∧
    ∃ s : State, hwAnswers s.dev = true ∧ odServes s.dev = true ∧ s.dev.hw.mbxBusy = false ∧
      inStaging (0x1FFFC : BitVec 24).toNat = true ∧ (0x1FFFC : BitVec 24).toNat % 4 = 0 ∧
      (0x104 : BitVec 24).toNat = 0x104 ∧ (0x110 : BitVec 24).toNat = 0x110 ∧
      readOnlyReg (0x28 : BitVec 24).toNat = true ∧ definedReg (0x28 : BitVec 24).toNat = true ∧
      absentReg s.dev (0x28 : BitVec 24).toNat = false ∧ (0x11FC : BitVec 24).toNat % 4 = 0 ∧
      0x1000 ≤ (0x11FC : BitVec 24).toNat ∧ (0x11FC : BitVec 24).toNat < 0x1200 ∧ 0x900 ≤ (0xFFC : BitVec 24).toNat ∧
      (0xFFC : BitVec 24).toNat < 0x1000 ∧ (0xFFE : BitVec 24).toNat % 4 ≠ 0 :=
  ⟨⟨window fun h => { h with mbxBusy := true }, by decide +kernel⟩, up, by decide +kernel⟩

theorem witness_WindowStatusAndMailbox :
    (∃ s : State, hwAnswers s.dev = true ∧ knownOpcode 0x06 = false ∧ odServes s.dev = true ∧ s.dev.hw.mbxBusy = false ∧
      10 ≤ (512 : Word).toNat % 1024 ∧ (512 : Word).toNat % 1024 ≤ 512 ∧ s.dev.boot.bootDone = true) ∧
    (∃ s : State, hwAnswers s.dev = true ∧ s.dev.hw.mbxBusy = true) ∧
    (∃ s : State, hwAnswers s.dev = true ∧ odServes s.dev = false ∧ s.dev.hw.mbxBusy = false) :=
  ⟨⟨during .ready [] id fun b => { b with bootDone := true }, by decide +kernel⟩,
   ⟨window fun h => { h with mbxBusy := true }, by decide +kernel⟩, ⟨during .replay, by decide +kernel⟩⟩

/-- A device whose fuses may be programmed: VSYS and the temperature allow it, in lifecycle PROVISIONED. -/
def burnable (g : Dev → Dev := id) : State :=
  at_ [] fun d => g { d with heat := { d.heat with vsys := 3300 }, otp := { d.otp with lifecycle := 1 } }

theorem witness_FuseWords :
    (∃ (s : State) (a : BitVec 10), hwAnswers s.dev = true ∧ s.dev.otp.burn = none ∧ 256 ≤ a.toNat ∧
      firstCond (hush s.dev) (hostMayProgram s.dev a.toNat) = 0 ∧ otpSeen s.dev a.toNat = 0) ∧
    (∃ (s : State) (a : Nat) (w : BitVec 39),
      s.dev.otp.burn = some { kind := .word, todo := [(a, w)], host := true, failed := 0 } ∧ otpRaw s.dev a = 0) :=
  ⟨⟨burnable, 256, by decide +kernel⟩,
   ⟨burnable fun d => { d with otp := { d.otp with burn := some ⟨.word, [(1023, 1)], true, 0⟩ } }, 1023, 1,
    by decide +kernel⟩⟩

/-- A ring of one descriptor at staging offset 0 with the given command, table and LOCK lifetime; its records stand at 0x40. -/
def ring (cmd table lock : Byte) (recs : List Byte := []) (g : Dev → Dev := id) : State :=
  window (fun h => { h with tdmaEnable := true, ringSize := 2, tdmaTail := 1, staging := writeBytes 0 (writeBytes 0 [] 0
      [cmd, table, 3, 0, 1, 0, 0, 0, 1, 0, lock, 0, 0x40, 0, 0, 0]) 0x40 recs }) g

theorem witness_TableDma :
    (∀ k : Fin 8, k ≠ 0 → ∃ s : State, tdmaMayRun s.dev ∧ (headDesc s.dev).cmd = k.val ∧ (headDesc s.dev).count ≤ s.dev.hw.tdmaPace ∧
      descCheck s.dev (headDesc s.dev) = dOk) ∧
    (∀ k : Fin 8, k ≠ 0 → ∃ s : State, tdmaMayRun s.dev ∧ (headDesc s.dev).cmd = k.val ∧
      s.dev.hw.tdmaPace < (headDesc s.dev).count ∧ descCheck s.dev (headDesc s.dev) = dOk) ∧
    (∃ s : State, tdmaMayRun s.dev ∧ (headDesc s.dev).cmd = cRead ∧ descCheck s.dev (headDesc s.dev) ≠ dOk) ∧
    (∃ (s : State) (r : DescRun), tdmaRuns s.dev = true ∧ s.dev.hw.tdmaRun = some r ∧ r.desc.cmd = cRead ∧
      r.next ≤ r.desc.count ∧ r.desc.count - r.next ≤ s.dev.hw.tdmaPace) :=
  ⟨fun k h => ⟨ring (BitVec.ofNat 8 k.val) 0x01 1, by unfold tdmaMayRun; revert k; decide +kernel⟩,
   fun k h => ⟨ring (BitVec.ofNat 8 k.val) 0x01 1 [] fun d => { d with hw := { d.hw with tdmaPace := 0 } },
     by unfold tdmaMayRun; revert k; decide +kernel⟩,
   ⟨ring 1 0xFF 0, by unfold tdmaMayRun; decide +kernel⟩,
   ⟨ring 1 1 0 [] fun d => { d with hw := { d.hw with tdmaRun := some ⟨headDesc (ring 1 1 0).dev, 0, dOk, 0⟩ } },
     ⟨headDesc (ring 1 1 0).dev, 0, dOk, 0⟩, by decide +kernel⟩⟩

/-- The station 02:00:00:00:00:01 of FID 1 as an entry record (Table 12-1). -/
def stationRecord : List Byte := [2, 0, 0, 0, 0, 1, 1, 0, 0xE3, 0, 3, 0, 0, 0, 0, 0]

theorem witness_TableRecords :
    (∃ (d : Dev) (q : Desc), q.cmd = cRead) ∧ (∃ (d : Dev) (q : Desc), q.cmd = cWrite ∧ q.table = tVlan) ∧
    (∃ (d : Dev) (q : Desc), q.cmd = cLock ∧ d.st.locks.length < 256) ∧
    (∃ (d : Dev) (q : Desc), q.cmd = cLock ∧ isLocked d q.table q.index = false ∧ 256 ≤ d.st.locks.length) ∧
    (∃ (d : Dev) (q : Desc), q.cmd = cUnlock ∧ q.table = tHash6) ∧
    (∀ c : Fin 2, ∃ (d : Dev) (q : Desc), q.cmd = (if c = 0 then cDelete else cInsert) ∧ q.table = tStation ∧
      stationFind d (readStation (recordAt d q 0)).mac.toNat (readStation (recordAt d q 0)).fid.toNat =
        (if c = 0 then none else some 0x10000)) ∧
    (∃ (d : Dev) (q : Desc), q.cmd = cSearch ∧ q.table = tStation ∧
      stationFind d (readStation (recordAt d q 0)).mac.toNat (readStation (recordAt d q 0)).fid.toNat = some 0x10000) ∧
    (∃ (s : State) (table : Byte) (index : Nat), armed (.mordant table.toNat index) s.dev = true ∧ table.toNat = tFirst ∧
      isLocked s.dev table.toNat (256 * index) = true) ∧
    (∃ (s : State) (table : Byte) (index : Nat), armed (.mordant table.toNat index) s.dev = true ∧ table.toNat ≠ tFirst ∧
      isLocked s.dev table.toNat index = true) :=
  have held (s : State) : Dev := { s.dev with st := { s.dev.st with stash := [(0, readStation stationRecord)] } }
  ⟨⟨idleDev, headDesc (ring 1 1 0).dev, by decide +kernel⟩, ⟨idleDev, headDesc (ring 2 3 0).dev, by decide +kernel⟩,
   ⟨idleDev, headDesc (ring 6 1 1).dev, by decide +kernel⟩,
   ⟨{ idleDev with st := { idleDev.st with locks := List.replicate 256 ⟨1, 0, 0⟩ } }, headDesc (ring 6 1 1).dev, by decide +kernel⟩,
   ⟨idleDev, headDesc (ring 7 24 0).dev, by decide +kernel⟩,
   fun c => ⟨(ring 3 1 0 stationRecord fun d => if c = 0 then d else
      { d with st := { d.st with stash := [(0, readStation stationRecord)] } }).dev,
     headDesc (ring (if c = 0 then 4 else 3) 1 0 stationRecord).dev, by revert c; decide +kernel⟩,
   ⟨(ring 5 1 0 stationRecord fun d => { d with st := { d.st with stash := [(0, readStation stationRecord)] } }).dev,
     headDesc (ring 5 1 0 stationRecord).dev, by decide +kernel⟩,
   ⟨at_ [.mordant 0x10 1] fun d => { d with st := { d.st with locks := [⟨0x10, 1, us⟩] } }, 0x10, 1, by decide +kernel⟩,
   ⟨at_ [.mordant 3 7] fun d => { d with st := { d.st with locks := [⟨3, 7, us⟩] } }, 3, 7, by decide +kernel⟩⟩

/-! ### Witnesses: writes -/

theorem witness_ResetAndAlarmWrites :
    AdmittedValue up.dev 1 0x30 5 1 ∧ AdmittedValue up.dev 1 0x14 1 2 ∧
    (∃ s : State, AdmittedValue s.dev 1 0x14 1 1 ∧ s.dev.boot.stage = .ready ∧ s.dev.aon.power = .idle) ∧
    AdmittedValue up.dev 1 0x16 8 1 ∧
    (∃ (s : State) (ports : BitVec 8), AdmittedValue s.dev 1 0x16 9 ports.toNat ∧ ports.getLsbD 7 = true ∧ portRuns s.dev 7 = true ∧
      ports.getLsbD 0 = false) ∧
    AdmittedValue up.dev 1 0x16 10 1 ∧ Safety.Inv up ∧ AdmittedValue up.dev 1 0x20 2 (2 ^ 22 - 1) ∧
    AdmittedValue up.dev 1 0x30 5 0 ∧ AdmittedValue up.dev 1 0x16 8 0 ∧ AdmittedValue up.dev 1 0x16 10 0 ∧
    AdmittedValue up.dev 1 (reapplyAt (.port 0)).1 (reapplyAt (.port 0)).2 0 ∧
    AdmittedValue up.dev 1 (reapplyAt (.slot 0)).1 (reapplyAt (.slot 0)).2 0 ∧ AdmittedValue up.dev 1 (cableObj 0) 17 0 ∧
    AdmittedValue up.dev 1 (contractObj 0) 20 0 ∧ AdmittedValue up.dev 1 (pathObj 0) 17 0 ∧
    AdmittedValue up.dev 1 (vlanPortObj 0) 8 0 ∧ AdmittedValue up.dev 1 0xC000 6 0 ∧ AdmittedValue up.dev 1 0xC400 4 0 :=
  have adm {d : Dev} {s obj el v : Nat} (h : admitted d s obj el v = true) := admittedValue_of_admitted h
  ⟨adm (by decide +kernel), adm (by decide +kernel),
   ⟨at_ [] fun d => { d with aon := { d.aon with power := .idle } }, adm (by decide +kernel), by decide +kernel⟩,
   adm (by decide +kernel), ⟨up, 0x80, adm (by decide +kernel), by decide +kernel⟩, adm (by decide +kernel),
   by unfold Safety.Inv irq; decide +kernel, adm (by decide +kernel),
   adm (by decide +kernel), adm (by decide +kernel),
   adm (by decide +kernel), adm (by decide +kernel), adm (by decide +kernel), adm (by decide +kernel), adm (by decide +kernel),
   adm (by decide +kernel), adm (by decide +kernel), adm (by decide +kernel), adm (by decide +kernel)⟩

theorem witness_TimeBusAndMdioWrites :
    AdmittedValue up.dev 1 0x6000 6 1000000000 ∧
    (∀ chB v : Bool, AdmittedValue up.dev 1 0x5000 (if chB then 1 else 0) (if v then 1 else 0)) ∧ up.dev.ng.node = .off ∧
    (∃ s : State, AdmittedValue s.dev 1 0x5000 0 1 ∧ s.dev.ng.node ≠ .off ∧ s.dev.ng.node ≠ .listen ∧
      s.dev.aon.power = .active ∧ cfg s.dev 0x14 1 ≤ 1) ∧
    AdmittedValue up.dev 1 0x7430 5 2 ∧ up.dev.aon.bankH = true :=
  have adm {d : Dev} {s obj el v : Nat} (h : admitted d s obj el v = true) := admittedValue_of_admitted h
  ⟨adm (by decide +kernel), fun chB v => adm (by revert chB v; decide +kernel), rfl,
   ⟨at_ [] fun d => { d with ng := { d.ng with node := .integrating } }, adm (by decide +kernel), by decide +kernel⟩,
   adm (by decide +kernel), rfl⟩

theorem witness_TableWrites :
    (∃ port : SPort, AdmittedValue up.dev 1 (vlanPortObj port.val) 8 1) ∧ AdmittedValue up.dev 1 0x8400 10 4094 ∧
    AdmittedValue up.dev 1 0x9500 0 1 ∧ cfg up.dev 0x9500 0 = 0 ∧ AdmittedValue up.dev 1 0x9500 0 0 ∧
    (∀ add : Bool, ∃ (s : State) (sess : SessNo), AdmittedValue s.dev sess.toNat 0x9600 6 (if add then 1 else 2)) :=
  have adm {d : Dev} {s obj el v : Nat} (h : admitted d s obj el v = true) := admittedValue_of_admitted h
  ⟨⟨14, adm (by decide +kernel)⟩, adm (by decide +kernel), adm (by decide +kernel), by decide +kernel, adm (by decide +kernel),
   fun add => ⟨at_ [] (setSel 1 0x9600 3 32), 1, adm (by revert add; decide +kernel)⟩⟩

theorem witness_HeatWrites :
    AdmittedValue up.dev 1 0xC000 6 1 ∧ (∀ r : Fin 4, AdmittedValue up.dev 1 (0xC400 + r.val) 4 1) ∧
    (∀ f : Fin 2, AdmittedValue up.dev 1 (fanObj f.val) 15 1) ∧
    (∃ (s : State) (f : Fin 2), AdmittedValue s.dev 1 (fanObj f.val) 15 0 ∧ (fanOf s.dev f.val).commState = 1) ∧
    AdmittedValue up.dev 1 0xC700 1 1 ∧ cfg up.dev 0xC700 0 = 0 ∧
    (∃ s : State, AdmittedValue s.dev 1 0xC700 1 1 ∧ cfg s.dev 0xC700 0 ≠ 0) ∧
    AdmittedValue up.dev 1 (fanObj 0) 15 1 ∧ (fanOf up.dev 0).base = [] ∧
    (∃ s : State, AdmittedValue s.dev 1 (fanObj 1) 15 2 ∧ (fanOf s.dev 1).base ≠ []) :=
  have adm {d : Dev} {s obj el v : Nat} (h : admitted d s obj el v = true) := admittedValue_of_admitted h
  ⟨adm (by decide +kernel), fun r => adm (by revert r; decide +kernel), fun f => adm (by revert f; decide +kernel),
   ⟨at_ [] fun d => { d with heat := { d.heat with fans := [(1, { Fan.reset with commState := 1 })] } }, 1,
    adm (by decide +kernel), by decide +kernel⟩,
   adm (by decide +kernel), by decide +kernel,
   ⟨at_ [] (with_ [(0xC700, 0, 1000)]), adm (by decide +kernel), by decide +kernel⟩, adm (by decide +kernel), by decide +kernel,
   ⟨at_ [] fun d => { d with heat := { d.heat with fans := [(1, { Fan.reset with base := [1] })] } }, adm (by decide +kernel),
    by decide +kernel⟩⟩

/-- Port 0 in READY with its three objects writable, its cable port changed by `f`. -/
def powered (f : Cable → Cable) (vs : List (Nat × Nat × Nat) := []) : State :=
  port0 (fun c => f { c with typec := .attachedSrc, powerRole := .source, dataRole := .dfp, contract := .spr, path := .on }) []
    (with_ vs)

theorem witness_PowerWrites :
    (∀ pod : Bool, ∃ (s : State) (n : CPort), AdmittedValue s.dev 1 (cableObj n.val) 16 1 ∧ portRuns s.dev n.val = true ∧
      explicit (cable s.dev n.val) = true ∧ isShed (cable s.dev n.val) = false ∧
      (if pod then (cable s.dev n.val).pod = .none ∧ (cable s.dev n.val).dataRole = .dfp
       else (cable s.dev n.val).podOpen = false ∧ (cable s.dev n.val).pod = .failed) ∧ (cable s.dev n.val).lastSent = none) ∧
    (∀ fits : Bool, ∃ (s : State) (n : CPort), AdmittedValue s.dev 1 (cableObj n.val) 16 1 ∧ portRuns s.dev n.val = true ∧
      explicit (cable s.dev n.val) = true ∧ isShed (cable s.dev n.val) = false ∧ (cable s.dev n.val).pod = .notAPod ∧
      (cable s.dev n.val).powerRole ≠ .sink ∧
      decide ((preId s.dev : Int) - (cable s.dev n.val).booked ≤ ledgerFree s.dev) = fits) ∧
    (∃ (s : State) (n : CPort), AdmittedValue s.dev 1 (cableObj n.val) 16 1 ∧ explicit (cable s.dev n.val) = false ∧
      AdmittedValue s.dev 1 (cableObj n.val) 17 1 ∧ (cable s.dev n.val).podOpen = false ∧
      AdmittedValue s.dev 1 (contractObj n.val) 20 1 ∧ pdListens s.dev n.val = false ∧
      AdmittedValue s.dev 1 (pathObj n.val) 17 1 ∧ (cable s.dev n.val).path = .latched ∧
      (cable s.dev n.val).typec ≠ .attachedSrc) ∧
    (∃ (s : State) (n : CPort), AdmittedValue s.dev 1 (cableObj n.val) 17 1 ∧ (cable s.dev n.val).podOpen = true ∧
      AdmittedValue s.dev 1 (pathObj n.val) 17 1 ∧ (cable s.dev n.val).path ≠ .latched) ∧
    (∀ state : Fin 2, ∀ fits : Bool, ∃ (s : State) (x : Slot), AdmittedValue s.dev 1 (slotObj x.val) 7 1 ∧
      s.dev.boot.stage = .ready ∧ (slotOf s.dev x.val).state = (if state = 0 then 2 else 4) ∧
      let p := if (slotOf s.dev x.val).state = 2 then matchProfile s.dev (slotOf s.dev x.val).identity (8 + x.val) else 0
      decide ((slotCeiling s.dev x.val p : Int) - (slotOf s.dev x.val).booked ≤ ledgerFree s.dev ∨
        slotCeiling s.dev x.val p ≤ (slotOf s.dev x.val).booked) = fits) ∧
    (∃ (s : State) (n : CPort) (id : BitVec 3), Hears s.dev n.val id ∧ (cable s.dev n.val).vdm = .exitMode) ∧
    (∃ (s : State) (n : CPort), AdmittedValue s.dev 1 (contractObj n.val) 20 1 ∧ pdListens s.dev n.val = true ∧
      explicit (cable s.dev n.val) = true ∧ (cable s.dev n.val).powerRole = .source ∧ negotiating (cable s.dev n.val) = true) ∧
    (∃ (s : State) (n : CPort), AdmittedValue s.dev 1 (contractObj n.val) 20 1 ∧ pdListens s.dev n.val = true ∧
      explicit (cable s.dev n.val) = true ∧ (cable s.dev n.val).powerRole = .source ∧ negotiating (cable s.dev n.val) = false ∧
      cablePending (cable s.dev n.val) = false ∧ armed (.waitReoffer n.val) s.dev = false ∧ 500 ≤ offerPower s.dev n.val ∧
      buildOffer s.dev n.val (offerPower s.dev n.val).toNat ≠ (cable s.dev n.val).offer ∧
      asksCable (cable s.dev n.val) (buildOffer s.dev n.val (offerPower s.dev n.val).toNat) = false ∧
      (cable s.dev n.val).lastSent = none) ∧
    (∃ (s : State) (n : CPort) (g : Nego), AdmittedValue s.dev 1 (contractObj n.val) 20 1 ∧ pdListens s.dev n.val = true ∧
      explicit (cable s.dev n.val) = true ∧ (cable s.dev n.val).powerRole ≠ .source ∧ negotiating (cable s.dev n.val) = false ∧
      (cable s.dev n.val).guard ≠ .wet ∧ sinkPick s.dev n.val = some g ∧ g.epr = false ∧ (cable s.dev n.val).lastSent = none) ∧
    (∃ (s : State) (n : CPort), AdmittedValue s.dev 1 (pathObj n.val) 17 1 ∧ (cable s.dev n.val).path = .latched ∧
      (cable s.dev n.val).typec = .attachedSrc ∧ (cable s.dev n.val).guard ≠ .wet ∧ (cable s.dev n.val).guardFresh = false) :=
  have adm {d : Dev} {s obj el v : Nat} (h : admitted d s obj el v = true) := admittedValue_of_admitted h
  ⟨fun pod => ⟨powered fun c => { c with pod := if pod then .none else .failed }, 0, adm (by revert pod; decide +kernel),
     by revert pod; decide +kernel⟩,
   fun fits => ⟨powered (fun c => { c with pod := .notAPod }) (if fits then [(0x4200, 3, 100000)] else []), 0,
     adm (by revert fits; decide +kernel), by revert fits; decide +kernel⟩,
   ⟨port0 fun c => { c with path := .latched }, 0, adm (by decide +kernel), by decide +kernel, adm (by decide +kernel),
    by decide +kernel, adm (by decide +kernel), by decide +kernel, adm (by decide +kernel), by decide +kernel⟩,
   ⟨port0 fun c => { c with podOpen := true }, 0, adm (by decide +kernel), by decide +kernel, adm (by decide +kernel),
    by decide +kernel⟩,
   fun st fits => ⟨at_ [] fun d => with_ [(0x22C0, 3, 1000)] { d with slots := [(3, { SlotRec.reset with
      state := if st = 0 then 2 else 4, booked := if fits then 1000000 else 0 })] }, 3,
     adm (by revert st fits; decide +kernel), by revert st fits; decide +kernel⟩,
   ⟨powered fun c => { c with vdm := .exitMode }, 0, 1, by unfold Hears; decide +kernel⟩,
   ⟨powered fun c => { c with awaiting := .requestAnswer }, 0, adm (by decide +kernel), by decide +kernel⟩,
   ⟨powered id [(0x4200, 3, 100000)], 0, adm (by decide +kernel), by decide +kernel⟩,
   ⟨powered fun c => { c with powerRole := .sink, partnerCaps := [0x00019064] }, 0,
     (sinkPick (powered fun c => { c with powerRole := .sink, partnerCaps := [0x00019064] }).dev 0).get (by decide +kernel),
     adm (by decide +kernel), by decide +kernel⟩,
   ⟨powered fun c => { c with path := .latched }, 0, adm (by decide +kernel), by decide +kernel⟩⟩

/-! ### Witnesses: fuses -/

/-- BOOT_POLICY 1 as the first customer record. -/
def policyWords : List Nat := recordWords 1 0 [1]

theorem witness_FuseWrites :
    (∃ s : State, firstCond s.dev true ≠ 0 ∧ firstCond s.dev false ≠ 0 ∧ Admitted s.dev 1 0xD010 1 [0, 0, 1, 1, 1, 0, 0, 0] ∧
      AdmittedValue s.dev 1 0xD010 4 256 ∧ Admitted s.dev 0 0xD020 1 (beBytes 32 1) ∧ AdmittedValue s.dev 1 0xD020 6 1 ∧
      AdmittedValue s.dev 1 0xD030 1 3) ∧
    (∃ (s : State) (a : Nat) (r : OtpRec), AdmittedValue s.dev 1 0xD010 4 a ∧ firstCond s.dev true = 0 ∧
      ((walk s.dev .customer).recs.find? fun r => r.addr == a && usable r) = some r ∧
      otpSeen s.dev (a + r.payload.length + 2) = 0) ∧
    (∃ (s : State) (record : List Byte), Admitted s.dev 1 0xD010 1 record ∧ firstCond s.dev true = 0 ∧
      sel s.dev 1 0xD010 0 ≠ 1 ∧ record.length % 4 = 0 ∧ leWords record ≠ [] ∧
      kindDefined .customer ((leWords record).headD 0 / 2 ^ 24) = true ∧
      (leWords record).headD 0 / 2 ^ 16 % 256 = (leWords record).length - 1 ∧
      wellFormedRecord ((leWords record).headD 0 / 2 ^ 24) ((leWords record).headD 0 % 2 ^ 16) ((leWords record).drop 1) = true ∧
      (walk s.dev .customer).unreadable = false ∧ (walk s.dev .customer).next + (leWords record).length + 2 ≤ bankEnd .customer ∧
      otpSeen s.dev (walk s.dev .customer).next = 0) ∧
    (∃ (s : State) (record : List Byte), Admitted s.dev 1 0xD010 1 record ∧ firstCond s.dev true = 0 ∧
      sel s.dev 1 0xD010 0 ≠ 1 ∧ record.length % 4 = 0 ∧ leWords record ≠ [] ∧
      kindDefined .customer ((leWords record).headD 0 / 2 ^ 24) = true ∧
      (leWords record).headD 0 / 2 ^ 16 % 256 = (leWords record).length - 1 ∧
      wellFormedRecord ((leWords record).headD 0 / 2 ^ 24) ((leWords record).headD 0 % 2 ^ 16) ((leWords record).drop 1) = true ∧
      (walk s.dev .customer).unreadable = true) ∧
    (∃ s : State, Admitted s.dev 0 0xD020 1 (beBytes 32 1) ∧ s.dev.otp.lifecycle ≤ 2 ∧ sel s.dev 0 0xD020 0 = 5 ∧
      firstCond s.dev true = 0 ∧ ∀ i : Nat, i < 8 → otpSeen s.dev (128 + 8 * sel s.dev 0 0xD020 0 + i) = 0) ∧
    (∃ s : State, AdmittedValue s.dev 0 0xD020 2 1 ∧ s.dev.otp.lifecycle ≤ 2 ∧ sel s.dev 0 0xD020 0 = 7 ∧
      firstCond s.dev true = 0 ∧ ∀ i : Nat, i < 8 → otpSeen s.dev (128 + 8 * sel s.dev 0 0xD020 0 + i) = 0) ∧
    (∃ (s : State) (mask : BitVec 12), AdmittedValue s.dev 1 0xD020 6 mask.toNat ∧ firstCond s.dev true = 0 ∧
      logical s.dev 1 &&& mask.toNat ≠ logical s.dev 1) ∧
    (∃ (s : State) (mask : BitVec 12), AdmittedValue s.dev 1 0xD020 6 mask.toNat ∧ firstCond s.dev true = 0 ∧
      logical s.dev 1 &&& mask.toNat = logical s.dev 1 ∧ logicalTodo s.dev 1 mask.toNat ≠ []) ∧
    (∃ s : State, AdmittedValue s.dev 1 0xD030 1 3 ∧ mayAdvance s.dev 1 3 = true ∧ firstCond s.dev true = 0 ∧ 3 < 4 ∧
      logicalTodo s.dev 0 (logical s.dev 0 ||| 0xFF * 2 ^ (8 * (3 - 1))) ≠ []) ∧
    (∃ s : State, AdmittedValue s.dev 1 0xD030 3 1 ∧ 1 ≤ rollbackCount s.dev ∧ AdmittedValue s.dev 1 0xD030 3 2 ∧
      rollbackCount s.dev < 2 ∧ firstCond s.dev true ≠ 0) ∧
    (∃ s : State, AdmittedValue s.dev 1 0xD030 3 2 ∧ rollbackCount s.dev < 2 ∧ firstCond s.dev true = 0 ∧
      ([0, 1, 2, 3].flatMap fun i => logicalTodo s.dev (3 + i) (logical s.dev (3 + i) ||| (2 ^ 2 - 1) / 2 ^ (32 * i) % 2 ^ 32)) ≠ []) :=
  have adm {d : Dev} {s obj el v : Nat} (h : admitted d s obj el v = true) := admittedValue_of_admitted h
  ⟨⟨up, by decide +kernel, by decide +kernel, by unfold Admitted; decide +kernel, adm (by decide +kernel),
     by unfold Admitted; decide +kernel, adm (by decide +kernel), adm (by decide +kernel)⟩,
   ⟨burnable (fused 256 policyWords), 256, ⟨256, 1, 0, [1], .good⟩, adm (by decide +kernel), by decide +kernel,
     by rw [show (burnable (fused 256 policyWords)).dev = fused 256 policyWords burnable.dev from rfl,
          walk_fused _ _ _ _ (by decide +kernel) (by decide +kernel)]; decide +kernel, by decide +kernel⟩,
   ⟨burnable, [0, 0, 1, 1, 1, 0, 0, 0], by unfold Admitted; decide +kernel⟩,
   ⟨burnable (fused 256 [1]), [0, 0, 1, 1, 1, 0, 0, 0], by unfold Admitted; decide +kernel, by decide +kernel, by decide +kernel,
     by decide +kernel, by decide +kernel, by decide +kernel, by decide +kernel, by decide +kernel,
     by rw [show (burnable (fused 256 [1])).dev = fused 256 [1] burnable.dev from rfl, walk_fused _ _ _ _ (by decide) (by decide +kernel)]
        decide +kernel⟩,
   ⟨burnable (setSel 0 0xD020 0 5), by unfold Admitted; decide +kernel⟩,
   ⟨burnable (setSel 0 0xD020 0 7), adm (by decide +kernel), by decide +kernel⟩,
   ⟨burnable fun d => { d with otp := { d.otp with array := [(193, 1), (214, 1)] } }, 2, adm (by decide +kernel), by decide +kernel⟩,
   ⟨burnable, 0xFFF, adm (by decide +kernel), by decide +kernel⟩,
   ⟨burnable fun d => { d with otp := { d.otp with lifecycle := 2 } }, adm (by decide +kernel), by decide +kernel⟩,
   ⟨at_ [] fun d => { d with boot := { d.boot with rollback := 2 }, otp := { d.otp with array := [(195, 1), (216, 1)] } }, adm (by decide +kernel), by decide +kernel,
     adm (by decide +kernel), by decide +kernel⟩,
   ⟨burnable fun d => { d with boot := { d.boot with rollback := 2 } }, adm (by decide +kernel), by decide +kernel⟩⟩

/-! ### Witnesses: cable ports and slots -/

/-- A sourcing, attached port. -/
def source (c : Cable) : Cable :=
  { c with typec := .attachedSrc, powerRole := .source, dataRole := .dfp, orientation := 1, contract := .spr, mv := 5000, ma := 1000,
           booked := 5000, gateOn := true, path := .on }

/-- A sinking, attached port. -/
def sink (c : Cable) : Cable :=
  { c with typec := .attachedSnk, powerRole := .sink, dataRole := .ufp, orientation := 1, contract := .spr, mv := 5000, ma := 1000,
           booked := 5000, gateOn := true }

/-- Port 0 at the end of its debounce, with the given role in force. -/
def attaching (role : Nat) : State := port0 (fun c => { c with typec := .attachWait }) [.ccDebounce 0] (with_ [(0x2000, 2, role)])

theorem witness_CableAttach :
    (∃ (s : State) (n : CPort), portRuns s.dev n.val = true ∧ (cable s.dev n.val).typec = .unattached ∧
      (cable s.dev n.val).rpNow = 2) ∧
    (CcLine.rd ≠ .ra ∧ isRp .rp1A5 = true ∧ isRp .nothing = false ∧ CcLine.nothing ≠ .rd) ∧
    (∃ (s : State) (n : CPort), booting s.dev = true ∧ n.val = 1) ∧
    (∀ role : Fin 4, ∃ (s : State) (n : CPort), portRuns s.dev n.val = true ∧ (cable s.dev n.val).typec = .attachWait ∧
      armed (.ccDebounce n.val) s.dev = true ∧ isDual n.val = true ∧ roleNow s.dev n.val = role.val) ∧
    (∃ (s : State) (n : CPort), portRuns s.dev n.val = true ∧ (cable s.dev n.val).typec = .attachedSrc) ∧
    (∃ (s : State) (n : CPort), portRuns s.dev n.val = true ∧ (cable s.dev n.val).typec = .ccShort) ∧
    (∃ (s : State) (n : CPort), armed (.drp n.val) s.dev = true ∧ portRuns s.dev n.val = true ∧ isDual n.val = true ∧
      (cable s.dev n.val).typec = .unattached ∧ roleNow s.dev n.val ≤ 1 ∧ armed (.ccShort n.val) s.dev = true) ∧
    (∃ (s : State) (n : CPort), armed (.tryWait n.val) s.dev = true ∧ (cable s.dev n.val).typec = .trySnk) ∧
    (∃ (s : State) (n : CPort), armed (.noResponse n.val) s.dev = true ∧ 2 ≤ (cable s.dev n.val).hardResets ∧
      (cable s.dev n.val).recoveries < 3 ∧ armed (.errRec n.val) s.dev = true) ∧
    (∃ (s : State) (n : CPort), armed (.ccShortRe n.val) s.dev = true ∧ (cable s.dev n.val).typec = .ccShort) :=
  ⟨⟨port0 fun c => { c with rpNow := 2 }, 0, by decide +kernel⟩, by decide, ⟨during .replay, 1, by decide +kernel⟩,
   fun role => ⟨attaching role.val, 0, by revert role; decide +kernel⟩, ⟨port0 source, 0, by decide +kernel⟩,
   ⟨port0 fun c => { c with typec := .ccShort }, 0, by decide +kernel⟩, ⟨at_ [.drp 0, .ccShort 0] id, 0, by decide +kernel⟩,
   ⟨port0 (fun c => { c with typec := .trySnk }) [.tryWait 0], 0, by decide +kernel⟩,
   ⟨port0 (fun c => { c with hardResets := 2, recoveries := 2 }) [.noResponse 0, .errRec 0], 0, by decide +kernel⟩,
   ⟨port0 (fun c => { c with typec := .ccShort }) [.ccShortRe 0], 0, by decide +kernel⟩⟩

/-- The same reading on every pin. -/
def ohms (k : Nat) : PinKohm := ⟨k, k, k, k, k⟩

/-- A check of port 0 that ends in a microsecond, the port changed by `f`. -/
def checking (f : Cable → Cable) (vs : List (Nat × Nat × Nat) := []) : State :=
  port0 (fun c => f { c with guardRuns := true }) [.guardEnd 0] (with_ vs)

theorem witness_ConnectorGuard :
    (∃ (s : State) (n : CPort), portRuns s.dev n.val = true ∧ (cable s.dev n.val).guardRuns = false ∧
      armed (.guard n.val) s.dev = true) ∧
    (∀ src : Bool, ∃ (s : State) (n : CPort) (k : PinKohm), armed (.guardEnd n.val) s.dev = true ∧
      (cable s.dev n.val).guardRuns = true ∧ (guardReads (cable s.dev n.val) k).foldl min 0xFFFFFFFF < cfg s.dev 0x2300 0 ∧
      (cable s.dev n.val).guard ≠ .wet ∧ sourcing (cable s.dev n.val) = src ∧
      (src = true → (cable s.dev n.val).powerRole = .source) ∧ (cable s.dev n.val).guardAfterAttach = false) ∧
    (∀ wet : Bool, ∀ dry : Fin 3, ∀ kohm : Fin 2, ∃ (s : State) (n : CPort) (k : PinKohm),
      armed (.guardEnd n.val) s.dev = true ∧ (cable s.dev n.val).guardRuns = true ∧
      cfg s.dev 0x2300 0 ≤ (guardReads (cable s.dev n.val) k).foldl min 0xFFFFFFFF ∧
      (guardReads (cable s.dev n.val) k).foldl min 0xFFFFFFFF = 2000 + kohm.val ∧
      ((cable s.dev n.val).guard == .wet) = wet ∧ (cable s.dev n.val).dryCount = dry.val) ∧
    (∀ fits : Bool, ∃ (s : State) (n : CPort) (k : PinKohm), armed (.guardEnd n.val) s.dev = true ∧
      (cable s.dev n.val).guardRuns = true ∧ (cable s.dev n.val).guard ≠ .wet ∧
      cfg s.dev 0x2300 0 ≤ (guardReads (cable s.dev n.val) k).foldl min 0xFFFFFFFF ∧
      (cable s.dev n.val).guardAfterAttach = true ∧ (cable s.dev n.val).vbusWait = true ∧ (cable s.dev n.val).gateOn = false ∧
      (cable s.dev n.val).path ≠ .latched ∧ armed (.shortRetry n.val) s.dev = false ∧ armed (.inrushRetry n.val) s.dev = false ∧
      s.dev.shep.critical = false ∧ (cable s.dev n.val).booked = 0 ∧
      decide ((firstNeed s.dev (cable s.dev n.val) : Int) ≤ ledgerFree s.dev) = fits) ∧
    (∃ (s : State) (n : CPort), (cable s.dev n.val).vconn = 1) :=
  ⟨⟨at_ [.guard 0] id, 0, by decide +kernel⟩,
   fun src => ⟨checking fun c => if src then source c else c, 0, ohms 0, by revert src; decide +kernel⟩,
   fun wet dry kohm => ⟨checking fun c => { c with guard := if wet then .wet else .dry, dryCount := dry.val }, 0, ohms (2000 + kohm.val),
     by revert wet dry kohm; decide +kernel⟩,
   fun fits => ⟨checking (fun c => { c with guardAfterAttach := true, vbusWait := true, typec := .attachedSrc, powerRole := .source })
     (if fits then [(0x4200, 3, 100000)] else []), 0, ohms 5000, by revert fits; decide +kernel⟩,
   ⟨port0 fun c => { c with vconn := 1 }, 0, by decide +kernel⟩⟩

/-- An identity block that is valid (R212), of class 1, maker 1. -/
def block : List Byte :=
  let b := ([0x5A, 0x4E, 0x44, 0x4B, 1, 0, 1, 0, 1, 0] : List Byte) ++ List.replicate 242 0
  b ++ leBytes 4 (crc32c b).toNat

/-- Port 0 sourcing with its discovery in step `v`, the port changed by `f`. -/
def inStep (v : VdmStep) (f : Cable → Cable := id) (vs : List (Nat × Nat × Nat) := []) (ts : List Timer := []) : State :=
  port0 (fun c => f { source c with vdm := v, podOpen := true }) ts fun d => setSwPort 0 (fun p => { p with fenced := true }) (with_ vs d)

/-- The last chunk of the block, and what it makes of the first 240 octets. -/
def lastChunk : List Word := [240, 244, 248, 252].map fun i => BitVec.ofNat 32 (leNat ((block.drop i).take 4))
@[inherit_doc lastChunk] def readBlock (s : State) (n : Nat) (vdos : List Word) : List Byte :=
  (cable s.dev n).identBuf ++ ((vdos.flatMap fun (w : Word) => leBytes 4 w.toNat) ++ List.replicate 16 0).take 16

set_option maxRecDepth 100000 in
theorem witness_PodIdentification :
    (∀ v : Fin 8, ∃ (s : State) (n : CPort), HearsVdm s.dev n.val 1 (([.discoverIdentity, .discoverSvids, .discoverModes,
      .enterMode, .identity 0, .identity 216, .linkRate 2, .epoch 15] : List VdmStep).getD v.val .idle)) ∧
    (listsSvid (podSvid up.dev) [0xFF00] = false ∧ ∃ v : Word, listsSvid (podSvid up.dev) [v] = true) ∧
    (∀ fits : Bool, ∃ (s : State) (n : CPort), HearsVdm s.dev n.val 1 (discoveryStep .modes) ∧
      decide ((cable s.dev n.val).powerRole = .sink ∨ (profCeiling s.dev 0 : Int) - (cable s.dev n.val).booked ≤ ledgerFree s.dev)
        = fits) ∧
    (∀ fits : Bool, ∃ (s : State) (n : CPort) (vdos : List Word), HearsVdm s.dev n.val 1 (.identity 240) ∧
      identValid (readBlock s n.val vdos) = true ∧ (cable s.dev n.val).powerRole = .source ∧
      decide ((profCeiling s.dev (matchProfile s.dev (readBlock s n.val vdos) n.val) : Int) -
        (cable s.dev n.val).booked ≤ ledgerFree s.dev) = fits) ∧
    (∀ again : Bool, ∃ (s : State) (n : CPort), HearsVdm s.dev n.val 1 (.identity 240) ∧ identValid (readBlock s n.val []) = false ∧
      decide ((cable s.dev n.val).identTries ≠ 0) = again ∧ (profCeiling s.dev 0 : Int) - (cable s.dev n.val).booked ≤
        ledgerFree s.dev) ∧
    (∃ (s : State) (n : CPort), HearsVdm s.dev n.val 1 (.linkRate 1) ∧ (cable s.dev n.val).podOpen = true) ∧
    (∀ epoch : Bool, ∃ (s : State) (n : CPort), armed (.linkUp n.val) s.dev = true ∧ (cable s.dev n.val).laneOn = true ∧
      decide ((cable s.dev n.val).profStream < 16 ∧ (cable s.dev n.val).modeVdo.getLsbD 0 = true) = epoch ∧
      (swPort s.dev n.val).fenced = true ∧ (cable s.dev n.val).laneRate = (if epoch then 2 else 1) ∧
      (cable s.dev n.val).podOpen = true) ∧
    (∀ k : Fin 3, ∃ (s : State) (n : CPort) (m : PdMsg), armed (.vdm n.val) s.dev = true ∧ portRuns s.dev n.val = true ∧
      (cable s.dev n.val).vdmTries = k.val ∧ vdmMessages s.dev (cable s.dev n.val).vdm = [m] ∧ (cable s.dev n.val).lastSent = none) :=
  ⟨fun v => ⟨inStep (([.discoverIdentity, .discoverSvids, .discoverModes,
      .enterMode, .identity 0, .identity 216, .linkRate 2, .epoch 15] : List VdmStep).getD v.val .idle), 0,
     by unfold HearsVdm Hears; revert v; decide +kernel⟩,
   ⟨by decide +kernel, BitVec.ofNat 32 (podSvid up.dev * 65536), by decide +kernel⟩,
   fun fits => ⟨inStep .discoverModes id (if fits then [(0x4200, 3, 1000000)] else []), 0,
     by unfold HearsVdm Hears; revert fits; decide +kernel⟩,
   fun fits => ⟨inStep (.identity 240) (fun c => { c with identBuf := block.take 240 }) (if fits then [(0x4200, 3, 1000000)] else []),
     0, lastChunk, by unfold HearsVdm Hears; revert fits; decide +kernel⟩,
   fun again => ⟨inStep (.identity 240) (fun c => { c with identTries := if again then 1 else 0 }) [(0x4200, 3, 1000000)], 0,
     by unfold HearsVdm Hears; revert again; decide +kernel⟩,
   ⟨inStep (.linkRate 1), 0, by unfold HearsVdm Hears; decide +kernel⟩,
   fun epoch => ⟨inStep .idle (fun c => { c with laneOn := true, laneRate := if epoch then 2 else 1,
                                                 profStream := if epoch then 15 else 16, modeVdo := 1 }) [] [.linkUp 0], 0,
     by revert epoch; decide +kernel⟩,
   fun k => ⟨inStep .enterMode (fun c => { c with vdmTries := k.val }) [] [.vdm 0], 0,
     ((vdmMessages up.dev .enterMode).head?).get (by decide +kernel), by revert k; decide +kernel⟩⟩

/-- That device with slot 3 in a state, enabled, with `f` on its record and `free` mW of outside inflow. -/
def slot3 (f : SlotRec → SlotRec) (ts : List Timer := []) (fits : Bool := true) : State :=
  at_ ts fun d => with_ ((0x22C0, 0, 1) :: (0x22C0, 3, 1000) :: (0x2401, 5, 1000) :: if fits then [(0x4200, 3, 1000000)] else []) { d with slots := [(3, f SlotRec.reset)] }

set_option maxRecDepth 100000 in
theorem witness_SlotIdentification :
    (∀ state : Fin 5, ∀ count : Fin 3, ∃ (s : State) (x : Slot), s.dev.aon.bankS = true ∧ s.dev.boot.stage = .ready ∧
      armed (.slotPoll x.val) s.dev = true ∧ cfgOn s.dev (slotObj x.val) 0 = true ∧ (slotOf s.dev x.val).state = state.val ∧
      (slotOf s.dev x.val).nacks = count.val ∧ (slotOf s.dev x.val).clears = count.val ∧ (slotOf s.dev x.val).tries = count.val ∧
      armed (.slotRetry x.val) s.dev = (state == 4) ∧ armed (.clampRetry x.val) s.dev = true) ∧
    (identValid block = true ∧ identValid [] = false) ∧
    (∀ fits : Bool, ∃ (s : State) (x : Slot), s.dev.aon.bankS = true ∧ s.dev.boot.stage = .ready ∧
      (slotOf s.dev x.val).state = 1 ∧ armed (.slotRetry x.val) s.dev = false ∧
      ∀ p : Nat, p < 2 → decide ((slotCeiling s.dev x.val p : Int) - (slotOf s.dev x.val).booked ≤ ledgerFree s.dev ∨
        slotCeiling s.dev x.val p ≤ (slotOf s.dev x.val).booked) = fits) :=
  ⟨fun state count => ⟨slot3 (fun x => { x with state := state.val, nacks := count.val, clears := count.val, tries := count.val })
      ([.slotPoll 3, .clampRetry 3] ++ if state = 4 then [.slotRetry 3] else []), 3, by revert state count; decide +kernel⟩,
   by decide +kernel,
   fun fits => ⟨slot3 (fun x => { x with state := 1 }) [] fits, 3, by revert fits; decide +kernel⟩⟩

/-! ### Witnesses: power contracts -/

/-- A Fixed Supply PDO of 5 V and 1 A, and a Request of 1 A from it. -/
def pdo5V : Word := 0x00019064
@[inherit_doc pdo5V] def rdo1A : Word := 0x10019064
/-- What that Request asks for. -/
def nego5V : Nego := { pos := 1, mismatch := false, kind := .fixed, mv := 5000, ma := 1000, booking := 5000, epr := false }

/-- The conditions of an offer that goes out, or of the question to the cable before it. -/
def offers (s : State) (n : CPort) (asks : Bool) : Prop :=
  pdListens s.dev n.val = true ∧ (cable s.dev n.val).powerRole = .source ∧ 500 ≤ offerPower s.dev n.val ∧
  cablePending (cable s.dev n.val) = false ∧
  asksCable (cable s.dev n.val) (buildOffer s.dev n.val (offerPower s.dev n.val).toNat) = asks

theorem witness_SourceContracts :
    (∀ fits : Bool, ∃ (s : State) (n : CPort) (id : BitVec 3), Hears s.dev n.val id ∧ (cable s.dev n.val).powerRole = .source ∧
      inTransition s.dev n.val = false ∧ (cable s.dev n.val).lastSent = none ∧ requestOf (cable s.dev n.val) 0 = none ∧
      requestOf (cable s.dev n.val) rdo1A = some (nego5V, true) ∧ nego5V.mismatch = false ∧
      decide ((nego5V.booking : Int) - (cable s.dev n.val).booked ≤ ledgerFree s.dev) = fits) ∧
    (∀ m : Fin 2, ∃ (s : State) (n : CPort) (g : Nego), pdListens s.dev n.val = true ∧ (cable s.dev n.val).nego = some g ∧
      (cable s.dev n.val).lastSent = some (if m = 0 then .accept else .psRdy) ∧ isKeepAlive (cable s.dev n.val) g = false ∧
      (cable s.dev n.val).powerRole = .source ∧ (cable s.dev n.val).txId ≠ 3 ∧ armed (.tsrc n.val) s.dev = true ∧
      portRuns s.dev n.val = true) ∧
    (∀ m : Fin 2, ∃ (s : State) (n : CPort), pdListens s.dev n.val = true ∧ (cable s.dev n.val).powerRole = .source ∧
      (cable s.dev n.val).lastSent = some (if m = 0 then .wait else .cableIdentity false) ∧
      (cable s.dev n.val).emark.getLsbD 4 = false) ∧
    (∀ b : Bool, PdMsg.accept ≠ .cableIdentity b) ∧
    (∀ asks : Bool, ∃ (s : State) (n : CPort), armed (.waitReoffer n.val) s.dev = true ∧ armed (.srcCap n.val) s.dev = true ∧
      (cable s.dev n.val).capsSent = 49 ∧ offers s n asks) ∧
    (∀ fits : Bool, ∃ (s : State) (n : CPort), armed (.srcCap n.val) s.dev = true ∧ pdListens s.dev n.val = true ∧
      (cable s.dev n.val).powerRole = .source ∧ 50 ≤ (cable s.dev n.val).capsSent ∧ (cable s.dev n.val).reserved = 0 ∧
      decide (((5 * rpMa (cfg s.dev (cableObj n.val) 3) : Nat) : Int) - (cable s.dev n.val).booked ≤ ledgerFree s.dev) = fits ∧
      armed (.srcPps n.val) s.dev = true ∧ portRuns s.dev n.val = true) ∧
    (∀ r : Fin 3, ∃ (s : State) (n : CPort), armed (.crcRx n.val) s.dev = true ∧ portRuns s.dev n.val = true ∧
      (cable s.dev n.val).lastSent = some .softReset ∧ (cable s.dev n.val).retries = r.val) ∧
    (∃ (s : State) (n : CPort), armed (.crcRx n.val) s.dev = true ∧ portRuns s.dev n.val = true ∧
      (cable s.dev n.val).lastSent = some (.sourceCaps []) ∧ explicit (cable s.dev n.val) = false ∧
      2 ≤ (cable s.dev n.val).retries) ∧
    (∃ (s : State) (n : CPort), armed (.crcRx n.val) s.dev = true ∧ portRuns s.dev n.val = true ∧
      (cable s.dev n.val).lastSent = some .accept ∧ inTransition s.dev n.val = false ∧
      (cable s.dev n.val).ladder.alertReset = false ∧ 2 ≤ (cable s.dev n.val).retries) :=
  ⟨fun fits => ⟨port0 (fun c => { source c with booked := 2500, offer := [pdo5V] }) []
      (with_ [(0x4200, 3, if fits then 19000 else 18999)]), 0, 1, by unfold Hears; revert fits; decide +kernel⟩,
   fun m => ⟨port0 (fun c => { source c with
      contract := .implicit, nego := some nego5V, txId := 2, lastSent := some (if m = 0 then .accept else .psRdy) }) [.tsrc 0], 0,
     nego5V, by revert m; decide +kernel⟩,
   fun m => ⟨port0 fun c => { source c with lastSent := some (if m = 0 then .wait else .cableIdentity false) }, 0,
     by revert m; decide +kernel⟩,
   fun b => PdMsg.noConfusion,
   fun asks => ⟨port0 (fun c => { source c with capsSent := 49, vconn := b2n asks, vconnSource := asks }) [.waitReoffer 0, .srcCap 0]
      (with_ [(0x4200, 3, 100000), (0x2300, 3, 60000)]), 0, by unfold offers; revert asks; decide +kernel⟩,
   fun fits => ⟨port0 (fun c => { source c with capsSent := 50 }) [.srcPps 0, .srcCap 0]
      (with_ (if fits then [(0x4200, 3, 100000)] else [])), 0, by revert fits; decide +kernel⟩,
   fun r => ⟨port0 (fun c => { source c with lastSent := some .softReset, retries := r.val }) [.crcRx 0], 0,
     by revert r; decide +kernel⟩,
   ⟨port0 (fun c => { source c with contract := .none, lastSent := some (.sourceCaps []), retries := 2 }) [.crcRx 0], 0,
     by decide +kernel⟩,
   ⟨port0 (fun c => { source c with lastSent := some .accept, retries := 2 }) [.crcRx 0], 0, by decide +kernel⟩⟩

theorem witness_SinkContracts :
    (∃ (s : State) (n : CPort) (id : BitVec 3), Hears s.dev n.val id ∧ (cable s.dev n.val).powerRole = .sink ∧
      (cable s.dev n.val).epr = .inEpr ∧ (cable s.dev n.val).path ≠ .latched ∧ (cable s.dev n.val).guard ≠ .wet) ∧
    (∀ src : Bool, ∃ (s : State) (n : CPort) (id : BitVec 3) (g : Nego), Hears s.dev n.val id ∧
      (cable s.dev n.val).awaiting = .requestAnswer ∧ (cable s.dev n.val).nego = some g ∧
      (cable s.dev n.val).powerRole = (if src then .source else .sink) ∧
      (cable s.dev n.val).guard ≠ .wet ∧ (cable s.dev n.val).sinkCeil = none ∧ (cable s.dev n.val).ma % 50 = 0 ∧
      armed (.sender n.val) s.dev = true ∧ portRuns s.dev n.val = true ∧
      (cable s.dev n.val).hardResets < 2 ∧ armed (.psTrans n.val) s.dev = true) ∧
    (∃ (s : State) (n : CPort) (id : BitVec 3) (g : Nego), Hears s.dev n.val id ∧ (cable s.dev n.val).awaiting = .psRdy ∧
      (cable s.dev n.val).nego = some g ∧ g.kind ≠ .fixed) ∧
    (∃ (s : State) (n : CPort) (g : Nego), armed (.sinkReq n.val) s.dev = true ∧ pdListens s.dev n.val = true ∧
      (cable s.dev n.val).powerRole = .sink ∧ negotiating (cable s.dev n.val) = false ∧ (cable s.dev n.val).guard ≠ .wet ∧
      sinkPick s.dev n.val = some g ∧ g.epr = false ∧ (cable s.dev n.val).lastSent = none) ∧
    (∃ (s : State) (n : CPort), armed (.sinkKeep n.val) s.dev = true ∧ (cable s.dev n.val).powerRole = .sink ∧
      explicit (cable s.dev n.val) = true ∧ (cable s.dev n.val).pdoKind ≠ .fixed ∧ negotiating (cable s.dev n.val) = false ∧
      (cable s.dev n.val).guard ≠ .wet) ∧
    (∃ (s : State) (n : CPort) (id : BitVec 3), Hears s.dev n.val id ∧ (cable s.dev n.val).awaiting = .sinkCaps ∧
      armed (.sender n.val) s.dev = true ∧ portRuns s.dev n.val = true) ∧
    (∃ (s : State) (n : CPort), armed (.sender n.val) s.dev = true ∧ (cable s.dev n.val).awaiting = .eprAck ∧
      portRuns s.dev n.val = true) ∧
    (∃ (s : State) (n : CPort), eprMayEnter s.dev n.val = true ∧ (cable s.dev n.val).lastSent = none) ∧
    (∃ (s : State) (n : CPort) (id : BitVec 3), Hears s.dev n.val id ∧ (cable s.dev n.val).epr = .entering) ∧
    (∃ (s : State) (n : CPort), armed (.eprKeep n.val) s.dev = true ∧ (cable s.dev n.val).epr = .inEpr ∧
      negotiating (cable s.dev n.val) = false ∧ portRuns s.dev n.val = true ∧ (cable s.dev n.val).lastSent = none) :=
  ⟨⟨port0 fun c => { sink c with epr := .inEpr }, 0, 1, by unfold Hears; decide +kernel⟩,
   fun src => ⟨port0 (fun c => { (if src then source c else sink c) with awaiting := .requestAnswer, nego := some nego5V })
     [.sender 0, .psTrans 0], 0, 1, nego5V, by unfold Hears; revert src; decide +kernel⟩,
   ⟨port0 fun c => { sink c with awaiting := .psRdy, nego := some { nego5V with kind := .pps } }, 0, 1, { nego5V with kind := .pps },
     by unfold Hears; decide +kernel⟩,
   ⟨port0 (fun c => { sink c with partnerCaps := [pdo5V] }) [.sinkReq 0], 0,
     (sinkPick (port0 (fun c => { sink c with partnerCaps := [pdo5V] }) [.sinkReq 0]).dev 0).get (by decide +kernel),
     by decide +kernel⟩,
   ⟨port0 (fun c => { sink c with pdoKind := .pps }) [.sinkKeep 0], 0, by decide +kernel⟩,
   ⟨port0 (fun c => { sink c with awaiting := .sinkCaps }) [.sender 0], 0, 1, by unfold Hears; decide +kernel⟩,
   ⟨port0 (fun c => { sink c with awaiting := .eprAck }) [.sender 0], 0, by decide +kernel⟩,
   ⟨port0 (fun c => { sink c with partnerCaps := [0x00819064] }) [] (with_ [(0x3000, 15, 1)]), 0, by decide +kernel⟩,
   ⟨port0 fun c => { sink c with epr := .entering }, 0, 1, by unfold Hears; decide +kernel⟩,
   ⟨port0 (fun c => { sink c with epr := .inEpr }) [.eprKeep 0], 0, by decide +kernel⟩⟩

theorem witness_SwapsAndResets :
    (∃ (s : State) (n : CPort) (id : BitVec 3), Hears s.dev n.val id ∧ (cable s.dev n.val).powerRole = .source ∧
      (cable s.dev n.val).vconnSource = true ∧ portRuns s.dev n.val = true ∧ isShed (cable s.dev n.val) = false ∧
      (cable s.dev n.val).typec = .attachedSrc ∧ (cable s.dev n.val).gateOn = true ∧ (cable s.dev n.val).path = .on ∧
      armed (.hardDone n.val) s.dev = true) ∧
    (∀ fresh : Bool, ∃ (s : State) (n : CPort), armed (.tsrcRecover n.val) s.dev = true ∧
      (cable s.dev n.val).typec = .attachedSrc ∧ (cable s.dev n.val).powerRole = .source ∧ (cable s.dev n.val).path ≠ .latched ∧
      isShed (cable s.dev n.val) = false ∧ (cable s.dev n.val).guard ≠ .wet ∧ (cable s.dev n.val).guardFresh = fresh ∧
      armed (.shortRetry n.val) s.dev = false ∧ armed (.inrushRetry n.val) s.dev = false ∧ s.dev.shep.critical = false ∧
      (cable s.dev n.val).booked ≠ 0) ∧
    (∃ (s : State) (n : CPort) (id : BitVec 3), Hears s.dev n.val id ∧ (cable s.dev n.val).powerRole = .sink ∧
      isDual n.val = true ∧ swapAllowed s.dev n.val 1 = true ∧ roleNow s.dev n.val ≠ 2 ∧ (cable s.dev n.val).guard ≠ .wet ∧
      (cable s.dev n.val).typec = .attachedSnk ∧ isShed (cable s.dev n.val) = false ∧ (cable s.dev n.val).vconnSource = false) ∧
    (∃ (s : State) (n : CPort) (id : BitVec 3), Hears s.dev n.val id ∧ (cable s.dev n.val).powerRole = .sink ∧
      swapAllowed s.dev n.val 1 = false) ∧
    (∃ (s : State) (n : CPort), pdListens s.dev n.val = true ∧ (cable s.dev n.val).frs = .armed) :=
  ⟨⟨port0 (fun c => { source c with vconnSource := true }) [.hardDone 0], 0, 1, by unfold Hears; decide +kernel⟩,
   fun fresh => ⟨port0 (fun c => { source c with gateOn := false, path := .off, guardFresh := fresh }) [.tsrcRecover 0], 0,
     by revert fresh; decide +kernel⟩,
   ⟨port0 sink, 0, 1, by unfold Hears; decide +kernel⟩,
   ⟨port0 sink [] (with_ [(0x3000, 16, 0)]), 0, 1, by unfold Hears; decide +kernel⟩,
   ⟨port0 fun c => { sink c with frs := .armed }, 0, by decide +kernel⟩⟩

/-- A device whose port 0 answers a challenge: the key of certificate slot 0 is there, all zero, and its chain is 4 octets. -/
def keyed (f : Cable → Cable) (ts : List Timer := []) : State :=
  port0 (fun c => f (source c)) ts fun d => with_ [(0x3200, 3, 1)]
    { d with flash := writeBytes erased [] 0x4000 [4, 0, 0, 0], otp := { d.otp with array := [(194, 0x40), (215, 0x40)] } }
/-- That device with the digest of that chain in its fuses, and nothing to answer. -/
def signed : State :=
  { dev := fused 256 (recordWords 5 0 (leWords (sha256 [4, 0, 0, 0]))) (keyed id).dev, pending := [] }

theorem witness_PdAnswers :
    (∃ (s : State) (n : CPort) (id : BitVec 3), pdListens s.dev n.val = true ∧ (cable s.dev n.val).rxId = some id) ∧
    (∃ (s : State) (n : CPort) (id : BitVec 3), Hears s.dev n.val id ∧ (cable s.dev n.val).powerRole = .source ∧
      (cable s.dev n.val).offer ≠ [] ∧ (cable s.dev n.val).nego = none ∧ isDual n.val = false ∧
      (cable s.dev n.val).lastSent = none ∧ cfgOn s.dev 0x3200 3 = false) ∧
    (∃ (s : State) (n : CPort) (id : BitVec 3), Hears s.dev n.val id ∧ (cable s.dev n.val).powerRole ≠ .source ∧
      isDual n.val = true ∧ roleNow s.dev n.val = 2) ∧
    (∀ w : Fin 2, ∃ (s : State) (n : CPort) (id : BitVec 3), Hears s.dev n.val id ∧
      (cable s.dev n.val).awaiting = (if w = 0 then .eprAck else .sinkCaps)) ∧
    (∃ (s : State) (n : CPort) (id : BitVec 3), Hears s.dev n.val id ∧ armed (.chunk n.val) s.dev = true ∧
      (cable s.dev n.val).chunks.left ≠ []) ∧
    (∀ busy : Bool, ∃ (s : State) (n : CPort) (id : BitVec 3), Hears s.dev n.val id ∧ cfgOn s.dev 0x3200 3 = true ∧
      (cable s.dev n.val).authBusy = busy) ∧
    (∃ (s : State) (n : CPort) (id : BitVec 3), Hears s.dev n.val id ∧ cfgOn s.dev 0x3200 3 = true ∧
      (cable s.dev n.val).authBusy = false ∧ (∃ slot : Nat, populated s.dev slot = true)) ∧
    (∃ (s : State) (n : CPort) (key : List Byte), pdListens s.dev n.val = true ∧ armed (.auth n.val) s.dev = true ∧
      (cable s.dev n.val).lastSent = none ∧ keyOctets s.dev (6 + (cable s.dev n.val).authSlot) = some key) :=
  ⟨⟨port0 fun c => { source c with rxId := some 5 }, 0, 5, by decide +kernel⟩,
   ⟨at_ [] fun d => with_ [(0x3200, 3, 0)] { d with cables := [(7, source { Cable.reset with offer := [pdo5V] })] }, 7, 1,
     by unfold Hears; decide +kernel⟩,
   ⟨port0 sink [] (with_ [(0x2000, 2, 2)]), 0, 1, by unfold Hears; decide +kernel⟩,
   fun w => ⟨port0 fun c => { sink c with awaiting := if w = 0 then .eprAck else .sinkCaps }, 0, 1,
     by unfold Hears; revert w; decide +kernel⟩,
   ⟨port0 (fun c => { source c with chunks := { left := [1], next := 1 } }) [.chunk 0], 0, 1, by unfold Hears; decide +kernel⟩,
   fun busy => ⟨keyed fun c => { c with authBusy := busy }, 0, 1, by unfold Hears; revert busy; decide +kernel⟩,
   ⟨signed, 0, 1, by unfold Hears; decide +kernel, by decide +kernel, by decide +kernel, 0, by
     unfold populated authDigest
     rw [show signed.dev = fused 256 (recordWords 5 0 (leWords (sha256 [4, 0, 0, 0]))) (keyed id).dev from rfl,
       recordOf_fused _ _ _ _ _ _ (by decide +kernel) (by decide +kernel)]
     decide +kernel⟩,
   ⟨keyed (fun c => { c with authBusy := true }) [.auth 0], 0, List.replicate 32 0, by decide +kernel⟩⟩

/-! ### Witnesses: power path and ledger -/

theorem witness_FaultLadder :
    (∀ latch : Bool, ∃ (s : State) (n : CPort), detects s.dev n.val = true ∧ (cable s.dev n.val).powerRole = .source ∧
      (cable s.dev n.val).retriesLeft = (if latch then 0 else 3) ∧ (cable s.dev n.val).path ≠ .frozen ∧
      (cable s.dev n.val).windowEnd ≤ s.dev.now) ∧
    (∃ (s : State) (n : CPort), detects s.dev n.val = true ∧ s.dev.now < (cable s.dev n.val).windowEnd) ∧
    (∃ (s : State) (n : CPort), detects s.dev n.val = true ∧ (cable s.dev n.val).powerRole = .sink ∧ portRuns s.dev n.val = true) ∧
    (∃ (s : State) (n : CPort), (cable s.dev n.val).gateOn = false ∧ portRuns s.dev n.val = true) ∧
    (∀ fresh : Bool, ∃ (s : State) (n : CPort), armed (.shortRetry n.val) s.dev = true ∧ (cable s.dev n.val).path = .faultShort ∧
      (cable s.dev n.val).typec = .attachedSrc ∧ (cable s.dev n.val).guard ≠ .wet ∧ (cable s.dev n.val).guardFresh = fresh ∧
      armed (.inrushRetry n.val) s.dev = false ∧ s.dev.shep.critical = false ∧ (cable s.dev n.val).booked = 0 ∧
      (firstNeed s.dev (cable s.dev n.val) : Int) ≤ ledgerFree s.dev) ∧
    (∃ (s : State) (n : CPort), armed (.shortRetry n.val) s.dev = true ∧ (cable s.dev n.val).path = .faultShort ∧
      (cable s.dev n.val).typec ≠ .attachedSrc) :=
  ⟨fun latch => ⟨port0 fun c => { source c with retriesLeft := if latch then 0 else 3 }, 0, by revert latch; decide +kernel⟩,
   ⟨port0 fun c => { source c with windowEnd := 1 }, 0, by decide +kernel⟩, ⟨port0 sink, 0, by decide +kernel⟩,
   ⟨up, 7, by decide +kernel⟩,
   fun fresh => ⟨port0 (fun c => { source c with path := .faultShort, gateOn := false, booked := 0, guardFresh := fresh })
     [.shortRetry 0] (with_ [(0x4200, 3, 100000)]), 0, by revert fresh; decide +kernel⟩,
   ⟨port0 (fun c => { c with path := .faultShort }) [.shortRetry 0], 0, by decide +kernel⟩⟩

theorem witness_InrushAndDroop :
    (∃ (s : State) (n : CPort), (cable s.dev n.val).path = .inrush ∧ (cable s.dev n.val).contract ≠ .typecOnly ∧
      (cable s.dev n.val).pdFail = false ∧ (cable s.dev n.val).swapping ≠ 2 ∧ armed (.window n.val) s.dev = true ∧
      s.dev.boot.stage = .ready ∧ s.dev.shep.droop = false ∧ portRuns s.dev n.val = true ∧ 500 ≤ offerPower s.dev n.val ∧
      cablePending (cable s.dev n.val) = false ∧
      asksCable (cable s.dev n.val) (buildOffer s.dev n.val (offerPower s.dev n.val).toNat) = false ∧
      (cable s.dev n.val).lastSent = none) ∧
    (∃ (s : State) (n : CPort), armed (.inrushRetry n.val) s.dev = true ∧ (cable s.dev n.val).typec = .attachedSrc ∧
      (cable s.dev n.val).powerRole = .source ∧ (cable s.dev n.val).guard ≠ .wet ∧ (cable s.dev n.val).guardFresh = true ∧
      (cable s.dev n.val).path ≠ .latched ∧ armed (.shortRetry n.val) s.dev = false ∧ s.dev.shep.critical = false ∧
      (cable s.dev n.val).booked = 0 ∧ (firstNeed s.dev (cable s.dev n.val) : Int) ≤ ledgerFree s.dev) ∧
    (∃ (s : State) (n : CPort), s.dev.shep.droop = true ∧ armed .droopMax s.dev = true ∧ (cable s.dev n.val).path = .frozen) ∧
    (∃ (s : State) (n : CPort), (cable s.dev n.val).path = .discharging ∧ (cable s.dev n.val).swapping ≠ 1 ∧
      (cable s.dev n.val).discharge = true ∧ (cable s.dev n.val).typec = .attachedSrc ∧ (cable s.dev n.val).powerRole = .source ∧
      armed (.inrushRetry n.val) s.dev = false ∧ armed (.discharge n.val) s.dev = true) :=
  ⟨⟨port0 (fun c => { source c with path := .inrush, contract := .none }) [.window 0] (with_ [(0x4200, 3, 100000)]), 0,
     by decide +kernel⟩,
   ⟨port0 (fun c => { source c with gateOn := false, booked := 0, path := .off, guardFresh := true }) [.inrushRetry 0]
     (with_ [(0x4200, 3, 100000)]), 0, by decide +kernel⟩,
   ⟨port0 (fun c => { source c with path := .frozen }) [.droopMax] fun d => { d with shep := { d.shep with droop := true } }, 0,
     by decide +kernel⟩,
   ⟨port0 (fun c => { source c with path := .discharging, discharge := true }) [.discharge 0], 0, by decide +kernel⟩⟩

theorem witness_ShepherdCoversTheLedger :
    ∃ (s : State) (n : CPort), s.dev.shep.stepDue = true ∧ planesRun s.dev = true ∧ ledgerFree s.dev < 0 ∧
      sourcing (cable s.dev n.val) = true ∧ isShed (cable s.dev n.val) = false ∧ s.dev.shep.deficit = false :=
  ⟨port0 source [] fun d => { d with shep := { d.shep with stepDue := true } }, 0, by decide +kernel⟩

/-- A device whose port 0 is shed with a claim of 5 W, under an inflow of `free`; the restore check runs. -/
def restoring (free : Nat) (f : Shepherd → Shepherd := id) (g : Cable → Cable := id) : State :=
  port0 (fun c => g { source c with path := .shed, gateOn := false, booked := 0, claim := 5000 }) [.restore] fun d =>
    with_ [(0x4200, 3, free)] { d with shep := f d.shep }

/-- What every clause of a restore check asks for. -/
def checks (s : State) : Bool := armed .restore s.dev && planesRun s.dev && !s.dev.shep.stepDue && !s.dev.shep.critical

/-- The hold of that port since instant 0. -/
def held (s : Shepherd) : Shepherd := { s with restoreSince := some 0, restoreSet := [0] }

theorem witness_RestoreAndOverrun :
    (∃ s : State, checks s = true ∧ restoreTake s.dev (restoreOrder s.dev) (ledgerFree s.dev) ≠ [] ∧
      s.dev.shep.restoreSince = none) ∧
    (∃ (s : State) (since : Nat), checks s = true ∧ restoreTake s.dev (restoreOrder s.dev) (ledgerFree s.dev) ≠ [] ∧
      s.dev.shep.restoreSince = some since ∧
      restoreTake s.dev (restoreOrder s.dev) (ledgerFree s.dev) = s.dev.shep.restoreSet ∧
      s.dev.now + timeLeft .restore s.dev < since + cfg s.dev 0x4200 7 * sec) ∧
    (∀ fresh : Bool, ∃ (s : State) (since : Nat), checks s = true ∧
      restoreTake s.dev (restoreOrder s.dev) (ledgerFree s.dev) ≠ [] ∧ s.dev.shep.restoreSince = some since ∧
      restoreTake s.dev (restoreOrder s.dev) (ledgerFree s.dev) = s.dev.shep.restoreSet ∧
      since + cfg s.dev 0x4200 7 * sec ≤ s.dev.now + timeLeft .restore s.dev ∧ 0 ∈ s.dev.shep.restoreSet ∧
      (cable s.dev 0).guardFresh = fresh ∧ armed (.shortRetry 0) s.dev = false ∧ armed (.inrushRetry 0) s.dev = false ∧
      cfg s.dev 0x2300 3 ≠ 0) ∧
    (∃ s : State, checks s = true ∧ ledgerFree s.dev < 0) ∧
    (∃ s : State, checks s = true ∧ restoreTake s.dev (restoreOrder s.dev) (ledgerFree s.dev) = [] ∧ 0 ≤ ledgerFree s.dev ∧
      ∀ n : Nat, n < 8 → (cable s.dev n).firstRefused = false) ∧
    (∀ again : Bool, ∃ s : State, s.dev.shep.overrun = again ∧ s.dev.shep.stepDue = true ∧ armed .overrun s.dev = true ∧
      lowestPriority s.dev ≠ []) ∧
    (∃ s : State, (cable s.dev 0).vconn = 1 ∧ (cable s.dev 1).vconn ≠ 1) :=
  ⟨⟨restoring 1000000, by decide +kernel⟩, ⟨restoring 1000000 held, 0, by decide +kernel⟩,
   fun fresh => ⟨{ restoring 1000000 held fun c => { c with guardFresh := fresh } with dev :=
      { (restoring 1000000 held fun c => { c with guardFresh := fresh }).dev with now := 10 ^ 15 } }, 0,
     by revert fresh; decide +kernel⟩,
   ⟨restoring 5000, by decide +kernel⟩, ⟨restoring 15000, by decide +kernel⟩,
   fun again => ⟨port0 source [.overrun] fun d => { d with shep := { d.shep with stepDue := true, overrun := again } },
     by revert again; decide +kernel⟩,
   ⟨port0 fun c => { c with vconn := 1 }, by decide +kernel⟩⟩

/-! ### Witnesses: the Nguzo bus -/

/-- A device with its bus node changed by `f` and the given schedule in force. -/
def bus (f : Nguzo → Nguzo) (sched : List (Nat × Nat × Nat) := []) (ts : List Timer := []) : State :=
  at_ ts fun d => { d with ng := f d.ng, now := 10 * us,
                           tm := { d.tm with inForce := sched.foldl (fun t x => tput t (x.1 * 256 + x.2.1) x.2.2) [] } }

/-- A channel that is enabled, in the given state. -/
def chanIn (x : ChanState) : Chan := { Chan.reset with enabled := true, state := x }

/-- Slot `n` sends on both channels; gateway entry 0 maps ID `n` to the bus. -/
def slotTable (n : Nat) : List (Nat × Nat × Nat) :=
  [(0x6100 + n, 0, 3), (0x6100 + n, 1, 1), (0x5100, 0, 1), (0x5100, 1, n), (0x5100, 2, 1)]

/-- Dynamic entry 0 sends ID `id` at position 3 of both channels. -/
def dynTable (id : Nat) : List (Nat × Nat × Nat) :=
  [(0x6180, 0, 1), (0x6180, 1, id), (0x6180, 2, 3), (0x6180, 3, 3), (0x6180, 4, 1)]

/-- A node in the given state whose channels are in the given state, with a waiting frame of slot `n` where `ready`. -/
def sending (node : NodeState) (x : ChanState) (n : Nat) (ready : Bool) (cold : Nat := 0) : State :=
  bus (fun g => { g with node := node, chA := chanIn x, chB := chanIn x, coldCycles := cold
                         buffers := if ready then [(n, { BusFrame.none with at_ := 1 })] else [] }) (slotTable n ++ [(0x5000, 11, 1)])

/-- A SYNCHRONISED node at position 3 of channel A, early or late in the segment. -/
def dynamicAt (id : Nat) (early : Bool) : State :=
  bus (fun n => { n with
        node := .synchronised, chA := { chanIn .synchronised with position := 3, minislot := if early then 0 else 100000 }
        zopA := [[1, 2, 3, 4, 5]], buffers := [(100, { BusFrame.none with at_ := 1, payload := [1, 2, 3, 4] })] })
      (slotTable 100 ++ dynTable id)

/-- What every clause of a static slot asks for. -/
def inSlot (s : State) (slot : Nat) : Bool :=
  s.dev.aon.bankN && force s.dev (0x6100 + slot) 1 == 1 && decide (1 ≤ slot) && decide (slot ≤ busPar s.dev 3)

theorem witness_NguzoSending :
    (∀ ready : Bool, ∃ (s : State) (slot : Nat), inSlot s slot = true ∧ s.dev.ng.node = .synchronised ∧
      bufferReady s.dev slot = ready ∧
      ([false, true].filter fun b => onChannel (force s.dev (0x6100 + slot) 0) b && (chan s.dev b).state == .synchronised &&
        !(b && unitHeld s.dev .nguzoB)) ≠ []) ∧
    (∀ ready : Bool, ∃ (s : State) (slot : Nat), inSlot s slot = true ∧ s.dev.ng.node = .coldstart ∧
      isKeeper s.dev = true ∧ slot = busPar s.dev 12 ∧ s.dev.ng.coldCycles = 4 ∧ bufferReady s.dev slot = ready ∧
      ([false, true].filter fun b => onChannel (force s.dev (0x6100 + slot) 0) b &&
        ((chan s.dev b).enabled && (chan s.dev b).state == .joining) && !(b && unitHeld s.dev .nguzoB)) ≠ []) ∧
    (∃ (s : State) (slot : Nat), inSlot s slot = true ∧ s.dev.ng.node = .coldstart ∧ slot ≠ busPar s.dev 12) ∧
    (∃ (s : State) (slot : Nat), inSlot s slot = true ∧ s.dev.ng.node ≠ .synchronised ∧ s.dev.ng.node ≠ .coldstart) ∧
    force up.dev 0x6105 1 ≠ 1 ∧
    (∀ fits : Bool, ∃ (s : State) (chB : Bool) (i : Nat), s.dev.aon.bankN = true ∧
      (chB = true → unitHeld s.dev .nguzoB = false) ∧ s.dev.ng.node = .synchronised ∧
      (chan s.dev chB).state = .synchronised ∧ channelHeld s.dev chB = false ∧ entryAt s.dev chB = some i ∧
      force s.dev (0x6180 + i) 4 ≠ 0 ∧
      force s.dev (0x6180 + i) 1 ≠ 900 ∧ bufferReady s.dev (force s.dev (0x6180 + i) 1) = true ∧
      (busBuffer s.dev (force s.dev (0x6180 + i) 1)).sentA = false ∧
      (busBuffer s.dev (force s.dev (0x6180 + i) 1)).sentB = false ∧
      dynamicFits s.dev chB ((busBuffer s.dev (force s.dev (0x6180 + i) 1)).payload.length / 4) = fits) ∧
    (∃ s : State, s.dev.aon.bankN = true ∧ s.dev.ng.node = .synchronised ∧ (chan s.dev false).state = .synchronised ∧
      channelHeld s.dev false = false ∧ entryAt s.dev false = some 0 ∧ force s.dev 0x6180 4 ≠ 0 ∧ force s.dev 0x6180 1 = 900 ∧
      s.dev.ng.zopA ≠ [] ∧ dynamicFits s.dev false 4 = true ∧ (packMessages 252 s.dev.ng.zopA).1.length = 8) ∧
    (∃ s : State, entryAt s.dev false = none) ∧
    (∃ (s : State) (chB : Bool), s.dev.ng.node ≠ .off ∧ (chan s.dev chB).enabled = true) ∧
    (∃ (s : State) (o : List Byte), fabricRuns s.dev = true ∧ frameType o = cfg s.dev 0x5080 0 ∧
      (gatewayEntry s.dev (leNat ((framePayload o).take 2) % 1024) 1).isSome = true ∧
      12 + 4 * (leNat ((framePayload o).take 2) / 1024) ≤ (framePayload o).length ∧ 64 < leNat ((framePayload o).take 2) % 1024) ∧
    (∃ (s : State) (o : List Byte), fabricRuns s.dev = true ∧ ¬ frameType o = cfg s.dev 0x5080 0) :=
  ⟨fun ready => ⟨sending .synchronised .synchronised 5 ready, 5, by revert ready; decide +kernel⟩,
   fun ready => ⟨sending .coldstart .joining 1 ready 4, 1, by revert ready; decide +kernel⟩,
   ⟨sending .coldstart .joining 5 false 1, 5, by decide +kernel⟩,
   ⟨sending .listen .joining 5 false, 5, by decide +kernel⟩, by decide +kernel,
   fun fits => ⟨dynamicAt 100 fits, false, 0, by revert fits; decide +kernel⟩, ⟨dynamicAt 900 true, by decide +kernel⟩,
   ⟨bus fun n => { n with chA := { Chan.reset with position := 9 } }, by decide +kernel⟩,
   ⟨bus fun n => { n with node := .listen, chA := chanIn .joining }, false, by decide +kernel⟩,
   ⟨bus id (slotTable 100), List.replicate 12 0 ++ beBytes 2 (cfg idleDev 0x5080 0) ++ leBytes 2 100 ++ List.replicate 44 0,
     by decide +kernel⟩,
   ⟨up, [], by decide +kernel⟩⟩

/-- A frame of slot 5 with the payload of a static frame, all its checks right, that starts at `edge` ns. -/
def slotFrame (sync start : Bool) (edge : Int) : NgFrame :=
  let f : NgFrame := { slotId := 5, cycle := 0, length := BitVec.ofNat 6 (busPar idleDev 5), sync := sync, start := start, null := false,
                       epoch := false, reserved := 0, hcrc := 0, payload := List.replicate (4 * busPar idleDev 5) 1, crc := 0,
                       codingOk := true, edgeNs := edge, endNs := edge + 1000 }
  let f := { f with hcrc := crc8 (ngHeader f) }
  { f with crc := crc32c (ngHeader f ++ [f.hcrc] ++ f.payload) }

/-- A nanosecond inside slot 5. -/
def inSlot5 : Int := 4 * busPar idleDev 4 * us + 10000

/-- What every clause of a received frame asks for. -/
def hearsBus (s : State) (chB : Bool) : Bool :=
  s.dev.aon.bankN && !(chB && unitHeld s.dev .nguzoB) && (chan s.dev chB).enabled &&
    !([ChanState.off, .clamped, .recovering].contains (chan s.dev chB).state)

/-- A node in the given state with channel A joining or SYNCHRONISED. -/
def node (x : NodeState) (f : Nguzo → Nguzo := id) (sched : List (Nat × Nat × Nat) := []) (ts : List Timer := []) : State :=
  bus (fun n => f { n with node := x, chA := chanIn (if x = .synchronised then .synchronised else .joining) }) sched ts

/-- A node in LISTEN as its timer ends, with permission to start the bus or not, whose slot 1 is its own or not. -/
def listening (may owns : Bool) (keeper : Nat) : State :=
  at_ [.listen] fun d => with_ [(0x5000, 11, b2n may), (0x5000, 10, keeper)] { d with
        ng := { d.ng with node := .listen }
        tm := { d.tm with inForce := [(0x610000 + 256 * busPar d 12, 1), (0x610001 + 256 * busPar d 12, b2n owns)] } }

theorem witness_NguzoReceiving :
    (∃ (s : State) (chB : Bool) (f : NgFrame) (e : FrameFault), hearsBus s chB = true ∧ s.dev.ng.node = .integrating ∧
      frameFault s.dev chB f = some e) ∧
    (∃ (s : State) (chB : Bool) (f : NgFrame) (k : Nat), hearsBus s chB = true ∧ s.dev.ng.node = .coldstart ∧
      slotAt s.dev f = some k ∧ k ≠ busPar s.dev 12 ∧ f.start = true) ∧
    (∃ (s : State) (chB : Bool) (f : NgFrame) (x : Taken), hearsBus s chB = true ∧ s.dev.ng.node = .synchronised ∧
      frameFault s.dev chB f = none ∧ f.sync = false ∧ assignedAb s.dev f.slotId.toNat = true ∧
      (s.dev.ng.taken.find? fun t => t.id == f.slotId.toNat && t.chB != chB) = some x) ∧
    (∃ (s : State) (chB : Bool) (f : NgFrame), hearsBus s chB = true ∧ s.dev.ng.node = .listen ∧ isAnchor s.dev = false ∧
      syncInListen s.dev f = true ∧ gatewayEntry s.dev f.slotId.toNat 0 = none) ∧
    (∃ (s : State) (chB : Bool) (f : NgFrame), hearsBus s chB = true ∧ s.dev.ng.node = .listen ∧ isAnchor s.dev = true ∧
      syncInListen s.dev f = true ∧ busPar s.dev 15 < (deviation s.dev chB f.slotId.toNat f).natAbs) ∧
    (∃ (s : State) (chB : Bool), s.dev.aon.bankN = true ∧ unitHeld s.dev .nguzoB = false ∧ s.dev.ng.node ≠ .off ∧
      (chan s.dev chB).enabled = true ∧ (chan s.dev chB).state ≠ .clamped) ∧
    (∃ (s : State) (chB : Bool), s.dev.aon.bankN = true ∧ unitHeld s.dev .nguzoB = false ∧ s.dev.ng.node ≠ .off ∧
      (chan s.dev chB).state = .clamped) ∧
    (∀ last : Bool, ∃ (s : State) (chB : Bool) (at_ : Nat), s.dev.ng.node = .synchronised ∧ (chan s.dev chB).enabled = true ∧
      guardOpen s.dev chB at_ = false ∧
      (decide (busPar s.dev 18 ≤ ((s.dev.ng.tripCycles.filter fun x =>
        decide ((s.dev.tm.cycleIndex + 2 ^ 32 - x) % 2 ^ 32 < 64)) ++ [s.dev.tm.cycleIndex]).length)) = last) ∧
    (∃ (s : State) (chB : Bool) (at_ : Nat), s.dev.ng.node ≠ .off ∧ (chan s.dev chB).enabled = true ∧
      guardOpen s.dev chB at_ = true) ∧
    (∀ may owns : Bool, ∃ s : State, armed .listen s.dev = true ∧ s.dev.ng.node = .listen ∧ cfgOn s.dev 0x5000 11 = may ∧
      isKeeper s.dev = true ∧ ownsSyncSlot s.dev = owns) ∧
    (∃ s : State, armed .listen s.dev = true ∧ s.dev.ng.node = .listen ∧ cfgOn s.dev 0x5000 11 = true ∧ isKeeper s.dev = false) ∧
    (∀ full : Bool, ∃ s : State, s.dev.ng.ended = false ∧ s.dev.ng.cycle.getLsbD 0 = false ∧ s.dev.ng.node = .integrating ∧
      s.dev.ng.joinCycle = false ∧ s.dev.ng.fullOk = full) ∧
    (∃ s : State, s.dev.ng.ended = false ∧ s.dev.ng.cycle.getLsbD 0 = false ∧ s.dev.ng.node = .coldstart ∧
      s.dev.ng.coldCycles = 4) :=
  ⟨⟨node .integrating, false, { slotFrame true false 0 with codingOk := false }, .coding, by decide +kernel⟩,
   ⟨node .coldstart, false, slotFrame true true inSlot5, 5, by decide +kernel⟩,
   ⟨node .synchronised (fun n => { n with taken := [⟨5, 0, true, 0, (0, 0)⟩] }) [(0x6105, 0, 3)], false,
     slotFrame false false inSlot5, ⟨5, 0, true, 0, (0, 0)⟩, by decide +kernel⟩,
   ⟨node .listen, false, slotFrame true false 0, by decide +kernel⟩,
   ⟨{ node .listen with dev := { (node .listen).dev with tm := { (node .listen).dev.tm with source := some .ppsIn } } }, false,
     slotFrame true false 0, by decide +kernel⟩,
   ⟨node .listen, false, by decide +kernel⟩, ⟨node .listen fun n => { n with chA := chanIn .clamped }, false, by decide +kernel⟩,
   fun last => ⟨node .synchronised fun n => { n with tripCycles := if last then List.replicate 255 0 else [] }, false, 0,
     by revert last; decide +kernel⟩,
   ⟨sending .synchronised .synchronised 5 false, false, inSlot5.toNat, by decide +kernel⟩,
   fun may owns => ⟨listening may owns 0, by revert may owns; decide +kernel⟩, ⟨listening true false 255, by decide +kernel⟩,
   fun full => ⟨node .integrating fun n => { n with fullOk := full }, by revert full; decide +kernel⟩,
   ⟨node .coldstart fun n => { n with coldCycles := 4 }, by decide +kernel⟩⟩

/-! ### Witnesses: time -/

/-- A PTP message in a frame: type and flags, then 42 octets of zero after the type and version. -/
def ptpMessage (type : Byte) (twoStep : Bool := false) : List Byte :=
  List.replicate 12 0 ++ [0x88, 0xF7, type, 2, 0, 44, 0, 0, if twoStep then 2 else 0] ++ List.replicate 60 0

/-- A device whose PTP port 8 is a slave of the master with port identity 0. -/
def slave (f : TimeBase → TimeBase := id) (ts : List Timer := []) (vs : List (Nat × Nat × Nat) := []) : State :=
  at_ ts fun d => with_ ([(0x6020, 0, 1), (0x6020, 1, 8), (0x6020, 4, 0x100)] ++ vs)
    { d with tm := f { d.tm with ptpSlave := true, ptpMaster := List.replicate 26 0 } }

/-- What every clause of a PTP message asks for. -/
def hearsPtp (s : State) (p : SPort) (o : List Byte) : Prop :=
  portHeld s.dev p.val = false ∧ (p.val ≠ 12 ∨ s.dev.aon.bankH = true) ∧ ptpTakes s.dev p.val o = true

/-- Port 8 of that device after its Pdelay_Req. -/
def asked (f : PtpPort → PtpPort := id) : State :=
  slave fun t => { t with ptpPorts := [(8, f { PtpPort.reset with reqTx := some 7 })] }

/-- The priorities of a device with three sources. -/
def order : List TimeSource := priorities (with_ [(0x6010, 0, 0x321)] idleDev)

theorem witness_TimeSources :
    (∃ (s : State) (l : Nat), ttbRuns s.dev = true ∧ cfgOn s.dev 0x6030 0 = true ∧ s.dev.tm.ppsLast = some l ∧
      (s.dev.now : Int) - l - sec ≤ 100000 ∧ (sec : Int) + l - s.dev.now ≤ 100000 ∧ 2 ≤ s.dev.tm.ppsGood ∧
      s.dev.tm.timeSet = true ∧ s.dev.tm.source = none ∧ s.dev.tm.qualPps = none ∧ s.dev.tm.qualPtp = none ∧
      s.dev.tm.qualNg = none ∧ TimeSource.ppsIn ∈ priorities s.dev ∧ armed .ppsIn s.dev = true) ∧
    cfgOn up.dev 0x6030 0 = false ∧
    (∀ two : Bool, ∃ (s : State) (p : SPort) (o : List Byte), hearsPtp s p o ∧ ptpType o = 0 ∧ fromMaster s.dev p.val o = true ∧
      ptpTwoStep o = two) ∧
    (∀ cfg3 : Fin 2, ∃ (s : State) (p : SPort) (o : List Byte), hearsPtp s p o ∧ ptpType o = 2 ∧ isTcPort s.dev p.val = true ∧
      cfg s.dev 0x6020 3 = cfg3.val) ∧
    (∃ (s : State) (p : SPort) (o : List Byte) (t1 : Nat), hearsPtp s p o ∧ ptpType o = 3 ∧
      ptpSequence o = (ptpOf s.dev p.val).reqSeq ∧ (ptpOf s.dev p.val).reqTx = some t1 ∧ ptpTwoStep o = false) ∧
    (∃ (s : State) (p q : SPort), p ≠ q ∧ isTcPort s.dev p.val = true ∧ isTcPort s.dev q.val = true ∧ portUp s.dev q.val = true ∧
      (swPort s.dev q.val).fenced = false ∧ portHeld s.dev q.val = false ∧ q.val ≠ 12) ∧
    (∃ (s : State) (p : SPort) (o : List Byte) (rx corr : Int), hearsPtp s p o ∧ ptpType o = 8 ∧
      fromMaster s.dev p.val o = true ∧ s.dev.tm.ptpSyncRx = some (ptpSequence o, rx, corr)) ∧
    (∃ (s : State) (p : SPort) (o : List Byte) (t1 : Nat) (t4 t2 : Int), hearsPtp s p o ∧ ptpType o = 0xA ∧
      ptpSequence o = (ptpOf s.dev p.val).reqSeq ∧ (ptpOf s.dev p.val).reqTx = some t1 ∧
      (ptpOf s.dev p.val).respRx = some (t4, t2)) ∧
    (∃ (s : State) (p : SPort) (o : List Byte), hearsPtp s p o ∧
      p.val = ptpPort s.dev ∧ ptpType o = 0xB ∧ ptpDomain o = ptpDomainOf s.dev ∧ cfg s.dev 0x6020 2 = 0 ∧
      s.dev.tm.ptpSlave = false ∧ armed .announce s.dev = true) ∧
    (∃ (s : State) (p : SPort), portHeld s.dev p.val = false ∧ (p.val ≠ 12 ∨ s.dev.aon.bankH = true) ∧
      armed (.pdelay p.val) s.dev = true ∧ ptpActs s.dev p.val = true ∧ isTcPort s.dev p.val = true) ∧
    (∃ s : State, armed .ptpMaster s.dev = true ∧ ptpActs s.dev (ptpPort s.dev) = true ∧ portHeld s.dev (ptpPort s.dev) = false ∧
      (ptpPort s.dev ≠ 12 ∨ s.dev.aon.bankH = true) ∧ cfg s.dev 0x6020 2 ≠ 0 ∧ s.dev.tm.ptpSlave = false) ∧
    (∃ (s : State) (c x : TimeSource), s.dev.tm.source = some c ∧
      ((priorities s.dev).filter fun y => decide (rankOf s.dev y < rankOf s.dev c)).find? (fun y => heldOff s.dev y) = some x) ∧
    (∃ s : State, armed .lockWait s.dev = true ∧ s.dev.tm.state = .locking) :=
  ⟨⟨at_ [.ppsIn] fun d => with_ [(0x6030, 0, 1), (0x6010, 0, 0x123)] { d with
        now := sec, tm := { d.tm with ppsLast := some 100000, ppsGood := 2, timeSet := true } }, 100000, by decide +kernel⟩,
   by decide +kernel, fun two => ⟨slave, 8, ptpMessage 0 two, by unfold hearsPtp; revert two; decide +kernel⟩,
   fun c => ⟨slave id [] [(0x6020, 3, c.val)], 8, ptpMessage 2, by unfold hearsPtp; revert c; decide +kernel⟩,
   ⟨asked, 8, ptpMessage 3, 7, by unfold hearsPtp; decide +kernel⟩,
   ⟨at_ [] fun d => setSwPort 9 (fun x => { x with link := true, fenced := false })
      (with_ [(0x6020, 4, 0x300), (portObj 9, 0, 1)] d), 8, 9, by decide +kernel⟩,
   ⟨slave fun t => { t with ptpSyncRx := some (0, 5, 6) }, 8, ptpMessage 8, 5, 6, by unfold hearsPtp; decide +kernel⟩,
   ⟨asked fun p => { p with respRx := some (9, 8) }, 8, ptpMessage 0xA, 7, 9, 8, by unfold hearsPtp; decide +kernel⟩,
   ⟨slave (fun t => { t with ptpSlave := false }) [.announce] [(0x6020, 2, 0)], 8, ptpMessage 0xB,
     by unfold hearsPtp; decide +kernel⟩,
   ⟨slave id [.pdelay 8], 8, by decide +kernel⟩,
   ⟨slave (fun t => { t with ptpSlave := false }) [.ptpMaster] [(0x6020, 2, 1)], by decide +kernel⟩,
   ⟨at_ [] fun d => with_ [(0x6010, 0, 0x321), (0x6010, 1, 0)] { d with tm := { d.tm with
        source := some (order.getD 1 .ppsIn), qualPtp := some 0, qualPps := some 0, qualNg := some 0 } },
     order.getD 1 .ppsIn, order.getD 0 .ppsIn, by decide +kernel⟩,
   ⟨at_ [.lockWait] fun d => { d with tm := { d.tm with state := .locking } }, by decide +kernel⟩⟩

theorem witness_PinsAndEpochs :
    (∃ d : Dev, hirqPin d = .low) ∧ (∃ d : Dev, hirqPin d ≠ .low) ∧ (∀ ok : Bool, ∃ d : Dev, d.aon.bankS = ok) ∧
    (∀ mode : Fin 3, ∃ s : State, ttbRuns s.dev = true ∧ cfg s.dev 0x6030 2 = mode.val ∧ s.dev.tm.state = .locked) ∧
    (∃ s : State, ttbRuns s.dev = true ∧ cfg s.dev 0x6030 2 = 2 ∧ s.dev.tm.state ≠ .locked ∧ s.dev.tm.state ≠ .holdover) ∧
    (∃ s : State, armed .ppsPulse s.dev = true ∧ armed (.epochPulse 0) s.dev = true ∧ armed (.epochPulse 1) s.dev = true) ∧
    (∃ (s : State) (k : Fin 16) (n : Nat), ttbRuns s.dev = true ∧ (epochOf s.dev k.val).enabled = true ∧
      cfg s.dev (0x6040 + k.val) 1 * us ≠ (epochOf s.dev k.val).period ∧ cfg s.dev 0x6030 5 = k.val ∧ cfg s.dev 0x6030 6 = k.val ∧
      n < 8 ∧ (epochOf s.dev k.val).marks.getLsbD n = true ∧ (cable s.dev n).pod = .linkUp ∧ (swPort s.dev n).fenced = false ∧
      portHeld s.dev n = false ∧ fabricRuns s.dev = true ∧ s.dev.fab.resetting = false ∧ (baseMac s.dev).length = 6) ∧
    (∃ (s : State) (k : Fin 16), ttbRuns s.dev = true ∧ (epochOf s.dev k.val).enabled = true ∧
      cfg s.dev (0x6040 + k.val) 1 * us = (epochOf s.dev k.val).period) ∧
    (∃ (s : State) (p : SPort) (n : Fin 8), hasPort s.dev p.val = true ∧ ttbRuns s.dev = true ∧ n.val < winCount s.dev p.val ∧
      (swPort s.dev p.val).openWin = some n.val) :=
  ⟨⟨{ idleDev with hw := { idleDev.hw with irqStatus := 1 } }, by decide +kernel⟩, ⟨idleDev, by decide +kernel⟩,
   fun ok => ⟨{ idleDev with aon := { idleDev.aon with bankS := ok } }, rfl⟩,
   fun mode => ⟨at_ [] fun d => with_ [(0x6030, 2, mode.val)] { d with tm := { d.tm with state := .locked } },
     by revert mode; decide +kernel⟩,
   ⟨at_ [] (with_ [(0x6030, 2, 2)]), by decide +kernel⟩,
   ⟨at_ [.ppsPulse, .epochPulse 0, .epochPulse 1] id, by decide +kernel⟩,
   ⟨port0 (fun c => { c with pod := .linkUp }) [] fun d => setSwPort 0 (fun p => { p with fenced := false })
      (with_ [(0x6030, 5, 15), (0x6030, 6, 15), (0x604F, 1, 1000)]
      { d with tm := { d.tm with epochs := [(15, { Epoch.reset with enabled := true, marks := 1 })] } }), 15, 0, by decide +kernel⟩,
   ⟨at_ [] fun d => with_ [(0x6040, 1, 200)] { d with tm := { d.tm with
      epochs := [(0, { Epoch.reset with enabled := true, period := 200 * us })] } }, 0, by decide +kernel⟩,
   ⟨at_ [] fun d => setSwPort 8 (fun p => { p with openWin := some 0 })
      { d with tm := { d.tm with inForce := [(0x6600 * 256, 1)] } }, 8, 0, by decide +kernel⟩⟩

theorem witness_ScheduleCycleStart :
    (∃ (d d' : Dev) (b : Scheduled), bundleWrites b.sess b.writes 0 d = .ok d') ∧
    (∃ (d : Dev) (b : Scheduled) (st i : Nat), bundleWrites b.sess b.writes 0 d = .error (st, i) ∧
      (sessionOf d b.sess).bState = 2 ∧ (sessionOf d b.sess).bSerial = b.serial) ∧
    (∃ s : State, ttbRuns s.dev = true ∧ s.dev.od.scheduled = [] ∧ s.dev.tm.qualNg = none ∧ s.dev.ng.pendEnA = some true) ∧
    (∃ s : State, ttbRuns s.dev = true ∧ s.dev.od.scheduled = [] ∧ s.dev.ng.pendEnA = none ∧ s.dev.ng.pendEnB = none ∧
      fabricRuns s.dev = true ∧ s.dev.ng.chA.enabled = true) :=
  ⟨⟨idleDev, idleDev, ⟨100, 1, 1, []⟩, rfl⟩,
   ⟨(served bareReq 0 fun x => { x with bState := 2, bSerial := 7 }).dev, ⟨100, 7, 1, [⟨0xFFFF, 0, [], .observer⟩]⟩, _, _, rfl,
     by decide +kernel⟩,
   ⟨bus fun n => { n with pendEnA := some true }, by decide +kernel⟩, ⟨bus fun n => { n with chA := chanIn .joining }, by decide +kernel⟩⟩

/-! ### Witnesses: the switch and its tables -/

/-- A device whose ports 8 and 9 are enabled and up at 1 Gbit/s. -/
def lan (f : Dev → Dev := id) (ts : List Timer := []) : State :=
  at_ ts fun d => f ([8, 9].foldl (fun d p => setSwPort p (fun x => { x with link := true, speed := 1000 }) d)
    (with_ [(0x7200, 0, 1), (0x7240, 0, 1)] d))

/-- A frame of 94 octets before its FCS: to the base MAC of blank fuses, from 02:00:00:00:00:09. -/
def someFrame : List Byte := List.replicate 6 0 ++ [2, 0, 0, 0, 0, 9, 8, 0] ++ List.replicate 80 0

/-- A queued copy of that frame, received on port 8. -/
def someCopy : Copy :=
  { frame := 1, cells := 2, fold := 2, common := 0, head := 0, stamp := 0, fromPort := 8, octets := someFrame, tagVid := some 1,
    pcp := none, mirror := false, cut := false, punt := none }

/-- That device with the copy at the head of queue (9, 0), whose class is strict. -/
def queued (x : Copy) (f : Dev → Dev := id) (ts : List Timer := []) : State :=
  lan (fun d => f (with_ [(shapeObj 9, 7, 0)]
    { d with fab := { d.fab with queues := [(72, { Queue.reset with copies := [x], foldUse := 2 })] } })) ts

/-- What the decision of `someFrame` on port 8 finds once its octets are counted. -/
def seen (s : State) : Dev := countRx 8 (frameLen someFrame) (frameDa someFrame) (hush s.dev)

/-- What every clause of FrameDecisions asks for beside the case. -/
def arrives (s : State) : Bool :=
  fabricRuns s.dev && portUp s.dev 8 && !portHeld s.dev 8 && !s.dev.fab.resetting && decide (frameLen someFrame ≤ maxFrame s.dev 8) &&
    decide (64 ≤ frameLen someFrame) && frameType someFrame != 0x8808 && (mirrorsOf (hush s.dev) 1 8).isEmpty

theorem witness_FrameDecisions :
    (∃ s : State, fabricRuns s.dev = true ∧ portUp s.dev 8 = true ∧ portHeld s.dev 8 = false ∧ s.dev.fab.resetting = true) ∧
    (∃ s : State, fabricRuns s.dev = true ∧ portUp s.dev 8 = true ∧ portHeld s.dev 8 = false ∧ s.dev.fab.resetting = false ∧
      frameLen (List.replicate 20 0) < 64 ∧ maxFrame s.dev 8 < frameLen (List.replicate 9300 0)) ∧
    (∃ s : State, arrives s = true ∧ (swPort (hush s.dev) 8).fenced = true ∧ fenceAdmits (seen s) 8 (List.replicate 94 0xFF) = false) ∧
    (∃ s : State, arrives s = true ∧ (swPort (hush s.dev) 8).fenced = false ∧ vlanIngress (seen s) 8 (frameVid someFrame) = .drop) ∧
    (∃ s : State, arrives s = true ∧ (swPort (hush s.dev) 8).fenced = false ∧ vlanIngress (seen s) 8 (frameVid someFrame) = .fault) ∧
    (∃ (s : State) (vid : Nat), arrives s = true ∧ (swPort (hush s.dev) 8).fenced = false ∧
      vlanIngress (seen s) 8 (frameVid someFrame) = .vid vid ∧ (classify 8 vid someFrame (learnFrom 8 vid someFrame (seen s))).1.mirror = none ∧
      (classify 8 vid someFrame (learnFrom 8 vid someFrame (seen s))).1.drop ≠ 0) ∧
    (∀ room : Bool, ∃ (s : State) (vid : Nat), arrives s = true ∧ (swPort (hush s.dev) 8).fenced = false ∧
      vlanIngress (seen s) 8 (frameVid someFrame) = .vid vid ∧
      let r := classify 8 vid someFrame (learnFrom 8 vid someFrame (seen s))
      r.1.mirror = none ∧ r.1.drop = 0 ∧ r.1.cls ≠ 7 ∧ routerVrf r.2 8 someFrame = none ∧
      bridgeDests r.2 vid someFrame = ⟨onePort 13, false⟩ ∧ maskDests 8 (onePort 13) r.2 = ([13], r.2) ∧
      (admission r.2 13 r.1.cls (cellsOf (frameLen someFrame)) (foldOf r.2 13 r.1.cls)).isSome = room ∧
      (swPort (hush s.dev) 8).xoff = false) ∧
    (∀ case : Fin 3, ∃ (s : State) (p : SPort) (q c : Nat) (x : Copy), portHeld s.dev p.val = false ∧ (p.val ≠ 12 ∨ s.dev.aon.bankH = true) ∧
      (swPort s.dev p.val).cutIn = (case != 0) ∧
      ((List.range 16).find? fun q => (swPort s.dev q).cutFrom == some p.val) = (if case = 2 then some q else none) ∧
      (case = 2 → (swPort s.dev q).sending = some (c, x)) ∧ s.dev.fab.residues = []) :=
  ⟨⟨lan fun d => { d with fab := { d.fab with resetting := true } }, by decide +kernel⟩, ⟨lan, by decide +kernel⟩,
   ⟨lan (setSwPort 8 fun x => { x with fenced := true }), by decide +kernel⟩,
   ⟨lan fun d => { d with st := { d.st with vlans := [] } }, by decide +kernel⟩,
   ⟨lan fun d => { d with st := { d.st with poison := [(tVlan, 1)] } }, by decide +kernel⟩,
   ⟨lan fun d => { d with st := { d.st with poison := [(tRule, 0)] } }, 1, by decide +kernel⟩,
   fun room => ⟨lan fun d => { d with fab := { d.fab with queues := if room then [] else (List.range 8).map fun c =>
      (104 + c, { Queue.reset with foldUse := 1000000, comUse := 1000000 }) } }, 1, by revert room; decide +kernel⟩,
   fun case => ⟨lan fun d => setSwPort 9 (fun x => { x with cutFrom := if case = 2 then some 8 else none, sending := some (0, someCopy) })
     (setSwPort 8 (fun x => { x with cutIn := case != 0 }) d), 8, 9, 0, someCopy, by revert case; decide +kernel⟩⟩

theorem witness_Transmission :
    (∃ (s : State) (p : SPort), canStart (hush s.dev) p.val = false ∧ fabricRuns s.dev = false ∧ s.dev.boot.leaving = false) ∧
    (∃ (s : State) (p : SPort), canStart (hush s.dev) p.val = true ∧ (pickQueue p.val (hush s.dev)).1 = none) ∧
    (∀ case : Fin 3, ∃ (s : State) (p : SPort) (c : Nat) (d : Dev) (x : Copy) (rest : List Copy), canStart (hush s.dev) p.val = true ∧
      pickQueue p.val (hush s.dev) = (some c, d) ∧ (queueOf d p.val c).copies = x :: rest ∧
      fenceStops d p.val x = (case == 0) ∧ isStray d c x = (case == 1) ∧ portHeld s.dev p.val = false ∧ (p.val ≠ 12 ∨ s.dev.aon.bankH = true) ∧
      mirrorsOf s.dev 2 p.val = []) ∧
    (∃ (s : State) (p : SPort) (pt : Punt) (x : Copy), (swPort s.dev p.val).sending = some (0, x) ∧ p.val = 13 ∧ x.punt = some pt ∧
      s.dev.fab.residues = [] ∧ (swPort s.dev 9).sending = none ∧ fabricRuns s.dev = true ∧ portHeld s.dev p.val = false) ∧
    (∃ (s : State) (r : Residue), armed (.residue 1) s.dev = true ∧
      (s.dev.fab.residues.find? fun r => r.frame == 1) = some r ∧ r.copies ≠ []) :=
  ⟨⟨lan fun d => { d with aon := { d.aon with power := .idle } }, 8, by decide +kernel⟩, ⟨lan, 9, by decide +kernel⟩,
   fun case => ⟨queued someCopy fun d => if case = 0 then setSwPort 9 (fun x => { x with fenced := true }) d else
      if case = 1 then { d with now := 10 ^ 12 } else d, 9, 0,
     hush (queued someCopy fun d => if case = 0 then setSwPort 9 (fun x => { x with fenced := true }) d else
      if case = 1 then { d with now := 10 ^ 12 } else d).dev, someCopy, [], by revert case; decide +kernel⟩,
   ⟨lan (setSwPort 13 fun x => { x with sending := some (0, { someCopy with punt := some ⟨1, 0, 6, 8, []⟩ }) }), 13, ⟨1, 0, 6, 8, []⟩,
     { someCopy with punt := some ⟨1, 0, 6, 8, []⟩ }, by decide +kernel⟩,
   ⟨lan (fun d => { d with fab := { d.fab with residues := [⟨1, us, [⟨9, 0, someCopy⟩]⟩] } }) [.residue 1],
     ⟨1, us, [⟨9, 0, someCopy⟩]⟩, by decide +kernel⟩⟩

theorem witness_LinksAndPause :
    (∃ (s : State) (p : SPort) (q : Half), portHeld s.dev p.val = false ∧ (p.val ≠ 12 ∨ s.dev.aon.bankH = true) ∧
      (hasPause p.val && portUp s.dev p.val && cfgOn s.dev (portObj p.val) 9) = true ∧ q ≠ 0 ∧ portSpeed s.dev p.val ≠ 0) ∧
    ((hasPause 13 && portUp up.dev 13 && cfgOn up.dev (portObj 13) 9) = false ∧ portHeld up.dev 13 = false) ∧
    (∃ (s : State) (p : SPort), portHeld s.dev p.val = false ∧ (p.val ≠ 12 ∨ s.dev.aon.bankH = true) ∧ armed (.pauseOff p.val) s.dev = true ∧ armed (.pause p.val) s.dev = true ∧
      (swPort s.dev p.val).xoff = true ∧ cfg s.dev (portObj p.val) 11 < ingressUsed s.dev p.val) ∧
    (∀ up : Bool, ∃ (s : State) (p : SPort) (mbps : Nat), (hasPause p.val && hasPort s.dev p.val && fabricRuns s.dev &&
      !(swPort s.dev p.val).phyDown && modeAllows (cfg s.dev (portObj p.val) 1) mbps) = up) ∧
    (∃ (s : State) (p : SPort), (swPort s.dev p.val).link = true ∧ s.dev.st.locks = [] ∧ 8 ≤ p.val ∧ p.val ≤ 11 ∧
      hasPort s.dev p.val = true ∧ cfgOn s.dev (portObj p.val) 2 = true ∧
      (cfg s.dev (portObj p.val) 1 = 1 ∨ cfg s.dev (portObj p.val) 1 = 2) ∧ cfg s.dev (portObj p.val) 15 ≠ 0xFF ∧
      mgtRuns s.dev = true ∧ s.dev.aon.bankH = true) ∧
    (∃ (s : State) (p : SPort), (swPort s.dev p.val).link = false) ∧
    (∀ write : Bool, ∃ s : State, s.dev.fab.mdioStatus = 1 ∧ s.dev.fab.mdioOp = (if write then 2 else 1) ∧ s.dev.aon.bankH = true) :=
  ⟨⟨lan (with_ [(0x7200, 9, 1)]), 8, 1, by decide +kernel⟩, by decide +kernel,
   ⟨queued someCopy (fun d => with_ [(0x7200, 11, 1)] (setSwPort 8 (fun x => { x with xoff := true }) d)) [.pauseOff 8, .pause 8], 8,
     by decide +kernel⟩,
   fun up => ⟨lan (with_ [(0x7200, 1, 2)]), 8, if up then 1000 else 100, by revert up; decide +kernel⟩,
   ⟨lan (with_ [(0x7200, 1, 1), (0x7200, 2, 1), (0x7200, 15, 3)]), 8, by decide +kernel⟩, ⟨up, 8, by decide +kernel⟩,
   fun write => ⟨at_ [] fun d => { d with fab := { d.fab with mdioStatus := 1, mdioOp := if write then 2 else 1 } },
     by revert write; decide +kernel⟩⟩

/-- A station learned on port 8, and a learn request for it. -/
def aStation : Station := { mac := 0x020000000001, fid := 1, static_ := false, flock := false, age := 7, dest := 8 }
@[inherit_doc aStation] def aRequest : LearnReq := { mac := 0x020000000001, fid := 1, port := 8 }

/-- A device with that request waiting and its station table changed by `f`. -/
def learning (f : StationTab → StationTab) (vs : List (Nat × Nat × Nat) := []) : State :=
  lan fun d => with_ vs { d with st := f { d.st with learnQ := [aRequest] } }

/-- Mordant bits on both buckets of that station. -/
def bothLocked : List Lock :=
  let b := bucketsOf idleDev 0x020000000001 1
  [⟨tStation, b.1, us⟩, ⟨tStation, b.2, us⟩]

theorem witness_StationTableWork :
    (∃ (s : State) (q : LearnReq) (loc : Nat) (o : Station), s.dev.st.learnQ = [q] ∧
      stationFind s.dev q.mac.toNat q.fid.toNat = some loc ∧ stationAt s.dev loc = some o ∧ o.static_ = false ∧
      locFree s.dev loc = true) ∧
    (∀ hit : Bool, ∃ (s : State) (q : LearnReq), s.dev.st.learnQ = [q] ∧ stationFind s.dev q.mac.toNat q.fid.toNat = none ∧
      cfg s.dev (0x8000 + 0x40 * q.port) 4 ≠ 0 ∧ decide (cfg s.dev (0x8000 + 0x40 * q.port) 4 ≤ learnedOn s.dev q.port) = hit) ∧
    (∃ (s : State) (q : LearnReq) (moves : List (Nat × Nat)) (way : Nat), s.dev.st.learnQ = [q] ∧
      stationFind s.dev q.mac.toNat q.fid.toNat = none ∧ cfg s.dev (0x8000 + 0x40 * q.port) 4 = 0 ∧
      placeKey (stationCuckoo s.dev) s.dev.st.victim (bucketsOf s.dev q.mac.toNat q.fid.toNat).1
        (bucketsOf s.dev q.mac.toNat q.fid.toNat).2 = some (moves, way) ∧ way < 0x10000) ∧
    (∃ (s : State) (q : LearnReq), s.dev.st.learnQ = [q] ∧ stationFind s.dev q.mac.toNat q.fid.toNat = none ∧
      cfg s.dev (0x8000 + 0x40 * q.port) 4 = 0 ∧
      placeKey (stationCuckoo s.dev) s.dev.st.victim (bucketsOf s.dev q.mac.toNat q.fid.toNat).1
        (bucketsOf s.dev q.mac.toNat q.fid.toNat).2 = none ∧ isLocked s.dev tStash 0 = false ∧
      ((List.range 32).find? fun i => (tfind s.dev.st.stash i).isNone) = some 0) ∧
    (∃ (s : State) (q : LearnReq), s.dev.st.learnQ = [q] ∧ stationFind s.dev q.mac.toNat q.fid.toNat = none ∧
      cfg s.dev (0x8000 + 0x40 * q.port) 4 = 0 ∧
      placeKey (stationCuckoo s.dev) s.dev.st.victim (bucketsOf s.dev q.mac.toNat q.fid.toNat).1
        (bucketsOf s.dev q.mac.toNat q.fid.toNat).2 = none ∧ isLocked s.dev tStash 0 = true) ∧
    (∃ s : State, s.dev.st.learnQ = []) ∧
    (∀ placed : Bool, ∃ (s : State) (e : Station), isLocked s.dev tStash 0 = false ∧
      ((List.range 32).find? fun i => (tfind s.dev.st.stash ((s.dev.st.drainNext + i) % 32)).isSome &&
        !poisoned s.dev tStash ((s.dev.st.drainNext + i) % 32)) = some 1 ∧
      tfind s.dev.st.stash ((s.dev.st.drainNext + 1) % 32) = some e ∧
      (placeKey (stationCuckoo s.dev) s.dev.st.victim (bucketsOf s.dev e.mac.toNat e.fid.toNat).1
        (bucketsOf s.dev e.mac.toNat e.fid.toNat).2).isSome = placed) ∧
    (∀ off : Bool, ∃ s : State, 0 < 2 * halfBuckets s.dev ∧ decide (cfg s.dev 0x8400 1 = 0) = off ∧
      isLocked s.dev tStation 0 = false ∧ isLocked s.dev tStash 0 = false) ∧
    (∃ s : State, isLocked s.dev tStation 0 = true ∧ isLocked s.dev tStash 0 = true) ∧
    (∃ s : State, s.dev.st.flushing ≠ [] ∧ (tStation, 0) ∈ s.dev.st.poison ∧ (tVlan, 1) ∈ s.dev.st.poison ∧
      (tStation, 4) ∉ s.dev.st.poison ∧ isLocked s.dev tStation 0 = false) ∧
    (∃ (d : Dev) (table : Byte), table.toNat < 0xB0 ∧ poisoned d table.toNat 0 = false) :=
  ⟨⟨learning fun t => { t with stash := [(0, aStation)] }, aRequest, 0x10000, aStation, by decide +kernel⟩,
   fun hit => ⟨learning (fun t => { t with stash := [(0, { aStation with mac := 2 })] }) [(0x8200, 4, if hit then 1 else 2)], aRequest,
     by revert hit; decide +kernel⟩,
   ⟨learning id, aRequest, [], 4 * (bucketsOf idleDev 0x020000000001 1).1, by decide +kernel⟩,
   ⟨learning fun t => { t with locks := bothLocked }, aRequest, by decide +kernel⟩,
   ⟨learning fun t => { t with locks := ⟨tStash, 0, us⟩ :: bothLocked }, aRequest, by decide +kernel⟩, ⟨up, rfl⟩,
   fun placed => ⟨lan fun d => { d with st := { d.st with
      stash := [(1, aStation)], locks := if placed then [] else bothLocked } }, aStation, by revert placed; decide +kernel⟩,
   fun off => ⟨lan (with_ [(0x8400, 1, if off then 0 else 300)]), by revert off; decide +kernel⟩,
   ⟨lan fun d => { d with st := { d.st with locks := [⟨tStation, 0, us⟩, ⟨tStash, 0, us⟩] } }, by decide +kernel⟩,
   ⟨lan fun d => { d with st := { d.st with flushing := [⟨true, 8⟩], poison := [(tStation, 0), (tVlan, 1)] } }, by decide +kernel⟩,
   ⟨idleDev, 1, by decide +kernel⟩⟩
/-! ### Witnesses: routes, shapers and the tally -/

/-- A device with a copy of `someFrame` in queue (15, 0), strict, that waits for its second pass with the candidates given. -/
def looped (cands : List Nat) (f : Dev → Dev := id) : State :=
  lan fun d => f (with_ [(shapeObj 15, 7, 0)] { d with fab := { d.fab with
    queues := [(120, { Queue.reset with copies := [someCopy], foldUse := 2 })], loop := [⟨1, 0, 0, cands⟩] } })

/-- What every clause of a second pass asks for. -/
def waits (s : State) (c : Nat) : Prop :=
  fabricRuns s.dev = true ∧ (hush s.dev).fab.resetting = false ∧ pickQueue 15 (hush s.dev) = (some c, hush s.dev) ∧
  (queueOf (hush s.dev) 15 c).copies = [someCopy] ∧ isStray (hush s.dev) c someCopy = false

/-- A next hop on port 9, and VRF 0 enabled with hop 0 as its IPv6 default. -/
def hopping (d : Dev) : Dev :=
  with_ [(0x9400, 0, 1), (0x9400, 3, 0)]
    { d with rt := { d.rt with hops := [(0, { NextHop.zero with port := 9, valid := true, keepTtl := true })] } }

/-- A route command of session 1. -/
def commanded (add v6 : Bool) (l : List Route := []) : State :=
  at_ [] fun d => { d with rt := { d.rt with running := some ⟨add, 1, ⟨0, v6, 0x0A000000, 24, 5⟩⟩, routes := l } }

theorem witness_RoutesAtWork :
    (∃ (s : State) (f : LoopFrame), waits s 0 ∧ (s.dev.fab.loop.find? fun f => f.frame == 1) = some f ∧
      cfg s.dev (0x9400 + f.vrf) 0 = 0) ∧
    (∃ (s : State) (f : LoopFrame) (e : TrieEnd), waits s 0 ∧ (s.dev.fab.loop.find? fun f => f.frame == 1) = some f ∧
      cfg s.dev (0x9400 + f.vrf) 0 ≠ 0 ∧ pass6 (hush s.dev) f.vrf (routeDst someFrame) 6 f.cands = .inl e ∧
      afterLookup (hush s.dev) f.vrf 0 none someFrame 3 e = .drop causeNoRoute) ∧
    (∃ (s : State) (f : LoopFrame) (e : TrieEnd), waits s 0 ∧ (s.dev.fab.loop.find? fun f => f.frame == 1) = some f ∧
      cfg s.dev (0x9400 + f.vrf) 0 ≠ 0 ∧ pass6 (hush s.dev) f.vrf (routeDst someFrame) 6 f.cands = .inl e ∧
      ∃ (o : List Byte) (vid : Nat) (ports : BitVec 16), afterLookup (hush s.dev) f.vrf 0 none someFrame 3 e = .to o vid ports) ∧
    (∃ (s : State) (f : LoopFrame) (l : List Nat), waits s 0 ∧ (s.dev.fab.loop.find? fun f => f.frame == 1) = some f ∧
      cfg s.dev (0x9400 + f.vrf) 0 ≠ 0 ∧ pass6 (hush s.dev) f.vrf (routeDst someFrame) 6 f.cands = .inr l ∧
      someCopy.fromPort ≠ 13 ∧ s.dev.fab.residues = [] ∧ mirrorsOf (hush s.dev) 2 15 = [] ∧ hasPort s.dev 13 = true ∧ portUp s.dev 13 = true ∧ (swPort s.dev 13).fenced = false ∧
      (queueOf s.dev 13 0).foldUse + cellsOf (frameLen someFrame) ≤ foldOf s.dev 13 0) ∧
    (∃ (s : State) (c : Nat) (d : Dev), fabricRuns s.dev = true ∧ (hush s.dev).fab.resetting = false ∧
      pickQueue 15 (hush s.dev) = (some c, d) ∧ (queueOf d 15 c).copies = [someCopy] ∧ isStray d c someCopy = true) ∧
    (∃ s : State, fabricRuns s.dev = false) ∧
    (∀ add v6 : Bool, ∃ (s : State) (q : RouteCmd), s.dev.rt.running = some q ∧ q.add = add ∧ q.route.v6 = v6 ∧
      (s.dev.rt.routes.any fun x => sameRoute x q.route) = false) ∧
    (∃ (s : State) (q : RouteCmd) (way : Nat), s.dev.rt.running = some q ∧ q.add = true ∧ q.route.v6 = true ∧
      (insert6 { prefix_ := q.route.addr, length := q.route.length, vrf := q.route.vrf, nextHop := BitVec.ofNat 12 q.route.nh }
        s.dev).1 = some way ∧ find6 s.dev q.route.vrf q.route.length q.route.addr.toNat = none) ∧
    (∃ (s : State) (q : RouteCmd) (way : Nat), s.dev.rt.running = some q ∧ q.add = true ∧ q.route.v6 = true ∧
      find6 s.dev q.route.vrf q.route.length q.route.addr.toNat = some way) ∧
    (∃ (s : State) (q : RouteCmd), s.dev.rt.running = some q ∧ q.add = true ∧ q.route.v6 = true ∧
      (insert6 { prefix_ := q.route.addr, length := q.route.length, vrf := q.route.vrf, nextHop := BitVec.ofNat 12 q.route.nh }
        s.dev).1 = none ∧ find6 s.dev q.route.vrf q.route.length q.route.addr.toNat = none) ∧
    (∃ (s : State) (q : RouteCmd), s.dev.rt.running = some q ∧ q.add = false ∧
      (s.dev.rt.routes.any fun x => sameRoute x q.route) = true) ∧
    (∀ editor : Fin 2, ∃ (s : State) (table : Byte), table.toNat ∈ [tFirst, tPool0, tPool1, tHash6] ∧
      cfg s.dev 0x9500 0 = editor.val ∧ s.dev.rt.running = none) ∧
    (∃ (s : State) (x : Punt), s.dev.fab.puntQ = [x]) :=
  ⟨⟨looped [], ⟨1, 0, 0, []⟩, by unfold waits; decide +kernel⟩,
   ⟨looped [] (with_ [(0x9400, 0, 1)]), ⟨1, 0, 0, []⟩, .default, by unfold waits; decide +kernel⟩,
   ⟨looped [] hopping, ⟨1, 0, 0, []⟩, .default, by unfold waits; decide +kernel, by decide +kernel, by decide +kernel, rfl, _, _, _,
     rfl⟩,
   ⟨looped (List.replicate 7 64) hopping, ⟨1, 0, 0, List.replicate 7 64⟩, [64], by unfold waits; decide +kernel⟩,
   ⟨looped [] fun d => { d with now := 10 ^ 12 }, 0, hush (looped [] fun d => { d with now := 10 ^ 12 }).dev, by decide +kernel⟩,
   ⟨at_ [] fun d => { d with aon := { d.aon with power := .idle } }, rfl⟩,
   fun add v6 => ⟨commanded add v6, ⟨add, 1, ⟨0, v6, 0x0A000000, 24, 5⟩⟩, rfl, rfl, rfl, rfl⟩,
   ⟨commanded true true, ⟨true, 1, ⟨0, true, 0x0A000000, 24, 5⟩⟩,
     (insert6 { prefix_ := 0x0A000000, length := 24, vrf := 0, nextHop := 5 } (commanded true true).dev).1.get (by decide +kernel),
     by decide +kernel⟩,
   ⟨{ commanded true true with dev := { (commanded true true).dev with rt := { (commanded true true).dev.rt with
      ways6 := [(4 * (buckets6 0 24 0x0A000000).1, ⟨0x0A000000, 24, 0, 7⟩)] } } }, ⟨true, 1, ⟨0, true, 0x0A000000, 24, 5⟩⟩,
     4 * (buckets6 0 24 0x0A000000).1, by decide +kernel⟩,
   ⟨{ commanded true true with dev := { (commanded true true).dev with st := { (commanded true true).dev.st with
      locks := [⟨tHash6, (buckets6 0 24 0x0A000000).1, us⟩, ⟨tHash6, (buckets6 0 24 0x0A000000).2, us⟩] } } },
     ⟨true, 1, ⟨0, true, 0x0A000000, 24, 5⟩⟩, by decide +kernel⟩,
   ⟨commanded false false [⟨0, false, 0x0A000000, 24, 7⟩], ⟨false, 1, ⟨0, false, 0x0A000000, 24, 5⟩⟩, by decide +kernel⟩,
   fun editor => ⟨at_ [] (with_ [(0x9500, 0, editor.val)]), 0x18, by revert editor; decide +kernel⟩,
   ⟨at_ [] fun d => { d with fab := { d.fab with puntQ := [⟨1, 0, 6, 8, []⟩] } }, ⟨1, 0, 6, 8, []⟩, rfl⟩⟩

theorem witness_ShapersAndTally :
    (∃ s : State, fabricRuns s.dev = false ∧ s.dev.boot.leaving = false) ∧
    (∃ s : State, fabricRuns s.dev = true ∧ s.dev.fab.resetting = false ∧ s.dev.fab.pendingShape = [] ∧
      (queueOf s.dev 9 0).rate ≠ 0 ∧ (queueOf s.dev 9 1).rate = 0 ∧ (swPort s.dev 9).rate ≠ 0 ∧ (swPort s.dev 8).rate = 0) ∧
    (∃ (s : State) (p : SPort), fabricRuns s.dev = true ∧ s.dev.fab.resetting = false ∧ s.dev.fab.pendingShape = [p.val]) ∧
    (∀ on : Bool, ∃ s : State, armed .exports s.dev = true ∧ cfgOn s.dev 0xB400 0 = on ∧ fabricRuns s.dev = true ∧
      s.dev.fab.resetting = false ∧ cfg s.dev 0xB400 2 = 1 ∧ cfg s.dev 0xB400 5 = 1 ∧ portUp s.dev 12 = false) ∧
    (∀ busy : Bool, ∃ s : State, hwAnswers s.dev = true ∧ odServes s.dev = true ∧ s.dev.hw.snapSet ≠ 3 ∧ s.dev.hw.snapBusy = busy) ∧
    (∀ wide : Bool, ∃ s : State, hwAnswers s.dev = true ∧ odServes s.dev = true ∧ s.dev.hw.snapSet = 1 ∧ s.dev.hw.snapBusy = false ∧
      decide (setEntries s.dev.hw.snapSet.toNat < s.dev.hw.snapFirst.toNat + s.dev.hw.snapCount.toNat) = wide ∧
      s.dev.hw.snapClear = true) :=
  ⟨⟨at_ [] fun d => { d with aon := { d.aon with power := .idle } }, by decide +kernel⟩,
   ⟨lan fun d => setSwPort 9 (fun x => { x with rate := 1000 })
      { d with fab := { d.fab with queues := [(72, { Queue.reset with rate := 1000 })] } }, by decide +kernel⟩,
   ⟨lan fun d => { d with fab := { d.fab with pendingShape := [8] } }, 8, by decide +kernel⟩,
   fun on => ⟨lan (with_ [(0xB400, 0, b2n on), (0xB400, 2, 1), (0xB400, 5, 1)]) [.exports], by revert on; decide +kernel⟩,
   fun busy => ⟨window fun h => { h with snapBusy := busy }, by revert busy; decide +kernel⟩,
   fun wide => ⟨window fun h => { h with snapSet := 1, snapFirst := 500, snapCount := if wide then 13 else 12, snapClear := true },
     by revert wide; decide +kernel⟩⟩

/-! ### Witnesses: heat, air, the journal and unlock -/

/-- The factory record of sensor 2's trim: 10,000 counts at 30 degrees and 9,000 at 100. -/
def trimWords : List Nat := recordWords 0x83 2 [10000, 9000]

theorem roTrim_trimWords (d : Dev) (h : d.otp.array = []) : roTrim (fused 0 trimWords d) 2 = some (10000, 9000) := by
  unfold roTrim
  rw [recordOf_fused _ _ _ _ _ _ (by decide +kernel) (by rw [h]; decide)]
  have e : fusedWord 0 trimWords d = fusedWord 0 trimWords Dev.reset := by funext b; simp [fusedWord]
  rw [e]
  decide +kernel

/-- A round in which sensor 2 counts 9,300: 79 degrees. -/
def aRound : RoundRecord :=
  { vbus := List.replicate 8 0, ibus := List.replicate 8 0, rms := List.replicate 8 0, srcIn := 0, vsys := 5000, vconnIn := 5000,
    icore := 100, ptat := 0, ro := [9300, 9300, 8900, 9300] }

theorem witness_HeatModel :
    (∃ s : State, mgtRuns s.dev = true ∧ isSmall s.dev = false ∧ hasPort s.dev 7 = true ∧
      roTrim s.dev 2 = some (10000, 9000) ∧ roTrim s.dev 0 = none) ∧
    (∃ (s : State) (r : RoundRecord) (k : Nat × Nat), mgtRuns s.dev = true ∧ isSmall s.dev = true ∧ roTrim s.dev 2 = some k ∧
      (sensorOf s.dev 2).failed = false ∧ (sensorOf s.dev 2).disagree < 7 ∧ s.dev.heat.gateSince = none ∧
      -60 * 65536 ≤ roTemp k (r.ro.getD 2 0) ∧ roTemp k (r.ro.getD 2 0) ≤ 160 * 65536 ∧
      (cfg s.dev 0xC500 3 : Int) * 65536 ≤ roTemp k (r.ro.getD 2 0)) ∧
    (∃ s : State, mgtRuns s.dev = false ∧ planesRun s.dev = false) ∧
    (∀ fault : Bool, ∃ s : State, planesRun s.dev = true ∧ s.dev.heat.fresh = true ∧ due .stepLate s.dev = false ∧
      hasUnit s.dev 4 = true ∧ s.dev.heat.fault = fault) ∧
    (∀ late : Bool, ∃ s : State, planesRun s.dev = true ∧ armed .stepLate s.dev = true ∧
      decide (4 < ((expired .stepLate s.dev).now - s.dev.heat.lastStepAt) / ms) = late ∧ hasUnit s.dev 4 = true ∧
      s.dev.heat.fault = false) ∧
    (∀ fault : Bool, ∃ (s : State) (n : CPort) (at_ : Nat), (cable s.dev n.val).hotSince = some at_ ∧
      (cable s.dev n.val).coolSince = some at_ ∧ (cable s.dev n.val).powerRole = .source ∧ s.dev.heat.fault = fault ∧
      (cable s.dev n.val).thermCeil ≠ some 0 ∧ (cable s.dev n.val).thermCeil ≠ none ∧ sourcing (cable s.dev n.val) = true) ∧
    (∃ (s : State) (n : CPort) (at_ : Nat), (cable s.dev n.val).hotSince = some at_ ∧ (cable s.dev n.val).powerRole ≠ .source) :=
  ⟨⟨at_ [] (fused 0 trimWords), by decide +kernel, by decide +kernel, by decide +kernel, roTrim_trimWords _ rfl, by
      unfold roTrim
      rw [show (at_ [] (fused 0 trimWords)).dev = fused 0 trimWords (at_ [] id).dev from rfl,
        recordOf_fused _ _ _ _ _ _ (by decide +kernel) (by decide)]
      decide +kernel⟩,
   ⟨at_ [] fun d => fused 0 trimWords { d with otp := { d.otp with variant := 2 } }, aRound, (10000, 9000), by decide +kernel,
     by decide +kernel, roTrim_trimWords _ rfl, by decide +kernel⟩,
   ⟨dormant, by decide +kernel⟩,
   fun fault => ⟨at_ [] fun d => { d with heat := { d.heat with fresh := true, fault := fault } }, by revert fault; decide +kernel⟩,
   fun late => ⟨at_ [.stepLate] fun d => if late then { d with now := 5 * ms } else d, by revert late; decide +kernel⟩,
   fun fault => ⟨port0 (fun c => { source c with hotSince := some 0, coolSince := some 0, thermCeil := some 500 }) [] fun d =>
     { d with heat := { d.heat with fault := fault } }, 0, 0, by revert fault; decide +kernel⟩,
   ⟨port0 fun c => { sink c with hotSince := some 0 }, 0, 0, by decide +kernel⟩⟩

theorem witness_FansAndCritical :
    (∀ crit : Bool, ∃ (s : State) (f : Fin 2), mgtRuns s.dev = true ∧ hasFan s.dev f.val = true ∧ isReady s.dev = true ∧
      s.dev.shep.critical = crit ∧ s.dev.aon.bankS = true) ∧
    (∀ case : Fin 3, ∃ (s : State) (f : Fin 2) (e : Nat), s.dev.aon.bankS = true ∧ mgtRuns s.dev = true ∧ hasFan s.dev f.val = true ∧
      (if case = 0 then (fanOf s.dev f.val).lastEdge = some e ∧ s.dev.now < e + 250 * us else if case = 1 then
        (fanOf s.dev f.val).lastEdge = some e ∧ e + 250 * us ≤ s.dev.now else (fanOf s.dev f.val).lastEdge = none) ∧
      cfg s.dev (fanObj f.val) 6 < 5) ∧
    (∃ (s : State) (f : Fin 2), armed (.tach f.val) s.dev = true ∧ armed (.stall f.val) s.dev = true ∧ hasFan s.dev f.val = true ∧
      armed (.unstall f.val) s.dev = true ∧ armed .heartbeat s.dev = true ∧ cfg s.dev (fanObj f.val) 10 = 0) ∧
    (∀ step : Fin 3, ∃ (s : State) (f : Fin 2), armed (.comm f.val) s.dev = true ∧ (fanOf s.dev f.val).commState = 1 ∧
      (fanOf s.dev f.val).commStep = [0, 1, 161].getD step.val 0 ∧ (fanOf s.dev f.val).commKind = 1) ∧
    (∀ crit : Bool, ∃ s : State, critLives s.dev = true ∧ s.dev.shep.critical = crit ∧ (cable s.dev 0).powerRole = .source ∧
      (cable s.dev 0).gateOn = true) ∧
    (∃ s : State, s.dev.shep.critical = true ∧ (cable s.dev 0).vbusWait = true ∧ (cable s.dev 0).guardFresh = true ∧
      (cable s.dev 0).guard ≠ .wet ∧ (cable s.dev 0).path ≠ .latched ∧ (cable s.dev 0).booked ≠ 0 ∧
      armed (.shortRetry 0) s.dev = false ∧ armed (.inrushRetry 0) s.dev = false) :=
  ⟨fun crit => ⟨at_ [] fun d => { d with shep := { d.shep with critical := crit } }, 1, by revert crit; decide +kernel⟩,
   fun case => ⟨at_ [] fun d => { d with heat := { d.heat with
      fans := [(1, { Fan.reset with lastEdge := if case = 2 then none else some 0 })] }, now := if case = 0 then 249999 else 250000 }, 1, 0,
     by revert case; decide +kernel⟩,
   ⟨at_ [.tach 0, .stall 0, .unstall 0, .heartbeat] (with_ [(0xC600, 10, 0)]), 0, by decide +kernel⟩,
   fun step => ⟨at_ [.comm 0] fun d => { d with heat := { d.heat with
      fans := [(0, { Fan.reset with commState := 1, commKind := 1, commStep := [0, 1, 161].getD step.val 0 })] } }, 0,
     by revert step; decide +kernel⟩,
   fun crit => ⟨port0 source [] fun d => { d with shep := { d.shep with critical := crit } }, by revert crit; decide +kernel⟩,
   ⟨port0 (fun c => { source c with gateOn := false, vbusWait := true, guardFresh := true, booked := 15000 }) [] fun d =>
     { d with shep := { d.shep with critical := true } }, by decide +kernel⟩⟩

/-- A device with one value that waits for the journal. -/
def journaling (f : Od → Od := id) : State :=
  at_ [.journal] fun d => { d with od := f { d.od with pendingJournal := [⟨[(0x14, 4, [1, 0, 0, 0])], false⟩], fill := 49152 - 100 } }

theorem witness_JournalAndUnlock :
    (∃ s : State, odServes s.dev = true ∧ s.dev.od.pendingJournal = []) ∧
    (∃ s : State, odServes s.dev = true ∧ s.dev.od.pendingJournal ≠ [] ∧ armed .journal s.dev = true ∧ s.dev.aon.bankF = true ∧
      s.dev.od.journalState ≠ 2 ∧ s.dev.od.unclean = false ∧
      s.dev.od.fill + (pendingOctets s.dev.od.pendingJournal s.dev.od.serial).length ≤ 49152) ∧
    (∀ fault : Bool, ∃ s : State, odServes s.dev = true ∧ s.dev.od.pendingJournal ≠ [] ∧ armed .journal s.dev = true ∧
      s.dev.aon.bankF = true ∧ s.dev.od.sector < 2 ∧ (if fault then s.dev.od.journalState = 2 else s.dev.od.unclean = true) ∧
      16 + (valueRecords (persistentValues s.dev) s.dev.od.serial).length ≤ 65536) ∧
    (∀ fails : Fin 4, ∃ s : State, s.dev.aon.bankS = true ∧ mgtRuns s.dev = true ∧ s.dev.otp.unlockFails = fails.val) ∧
    (∃ (s : State) (resp : BitVec 256) (k n : List Byte), s.dev.aon.bankS = true ∧ mgtRuns s.dev = true ∧
      keyOctets s.dev 4 = some k ∧ s.dev.otp.nonce = some n ∧
      hmac k (ascii [0x5A, 0x44, 0x42, 0x47] ++ uid s.dev ++ n) = beBytes 32 resp.toNat ∧ s.dev.otp.lifecycle = 2 ∧
      noncePast s.dev = false) ∧
    (∃ s : State, s.dev.aon.bankS = true ∧ mgtRuns s.dev = true ∧ s.dev.otp.nonce = none) ∧
    (∃ s : State, armed .unlockNonce s.dev = true) :=
  ⟨⟨up, by decide +kernel⟩, ⟨journaling, by decide +kernel⟩, fun fault => ⟨journaling fun o => if fault then { o with journalState := 2 } else { o with unclean := true },
     by revert fault; decide +kernel⟩,
   fun fails => ⟨at_ [] fun d => { d with otp := { d.otp with unlockFails := fails.val } }, by revert fails; decide +kernel⟩,
   ⟨at_ [.unlockNonce] fun d => { d with otp := { d.otp with array := [(194, 0x10), (215, 0x10)], nonce := some (List.replicate 16 0) } },
     BitVec.ofNat 256 (beNat (hmac (List.replicate 32 0) (ascii [0x5A, 0x44, 0x42, 0x47] ++ List.replicate 24 0))),
     List.replicate 32 0, List.replicate 16 0, by decide +kernel⟩,
   ⟨up, by decide +kernel⟩, ⟨at_ [.unlockNonce] id, by decide +kernel⟩⟩

theorem witness_StoresReadBack :
    (∃ (x : Byte) (m : Mem), Memory.wf x m = true) ∧ (∃ d : Dev, Memory.wf erased d.flash = true) ∧
    (∃ el obj' el' obj : Nat, el < 256 ∧ el' < 256 ∧ (obj', el') ≠ (obj, el)) ∧
    (∃ s obj el : Nat, s < 1024 ∧ obj < 65536 ∧ el < 256) :=
  ⟨⟨0, [(0xFFFF, 1)], by decide⟩, ⟨idleDev, by decide⟩, ⟨255, 0, 0, 0, by decide⟩, ⟨1023, 65535, 255, by decide⟩⟩
/-! ### Witnesses: the image -/

/-- The header of an empty image of version 7: its fields, the SHA-256 of no octets, and a signature whose s is its r. -/
def imageHeader : List Byte :=
  let r : List Byte := beBytes 32 0x7CF27B188D034F7E8A52380304B51AC3C08969E277F21B35A60B48FC47669978
  [0x5A, 0x4A, 0x49, 0x4D, 1, 0, 0, 0, 0, 0, 0, 0, 7, 0, 0, 0] ++ List.replicate 16 0 ++ sha256 [] ++ r ++ r

/-- The factory record of the image key whose signature that is; an independent implementation of P-256 made both. -/
def keyRecord : List Nat :=
  recordWords 0x85 0 [0xF0441803, 0x9DCF0139, 0xC0612637, 0x39CA5147, 0xEF883F5F, 0x7384CA3E, 0xCE898E0D, 0x9AA00951, 0x4D]

/-- A device with that key in the given stage, that header taken from the host. -/
def imaged (stage : Stage) : State :=
  at_ [] fun d => fused 0 keyRecord { d with boot := { d.boot with
    stage := stage, hdrTaken := true, trying := 2, header := imageHeader } }

set_option maxRecDepth 100000 in
theorem image_is_valid : imageValid (imaged .verify).dev imageHeader [] = true := by
  unfold imageValid imageKey
  rw [show (imaged .verify).dev = fused 0 keyRecord { (imaged .verify).dev with otp := idleDev.otp } from rfl,
    recordOf_fused _ _ _ _ _ _ (by decide +kernel) (by decide)]
  decide +kernel

theorem imageValid_congr {d e : Dev} (h : d.otp = e.otp) : imageValid d = imageValid e := by
  funext a b
  unfold imageValid imageKey rollbackCount recordOf walk logical
  have w : otpWord d = otpWord e := by funext c; unfold otpWord otpRaw; rw [h]
  have r : otpRaw d = otpRaw e := by funext c; unfold otpRaw; rw [h]
  rw [w, r]

theorem witness_ImageBoot :
    (∃ s : State, hwAnswers s.dev = true ∧ s.dev.boot.stage = .noImage) ∧
    (∃ (s : State) (len : BitVec 13), hwAnswers s.dev = true ∧ s.dev.boot.stage = .imageHost ∧ s.dev.boot.hdrTaken = true ∧
      len.toNat = 4096 ∧ s.dev.boot.body.length ≠ hdrLength s.dev.boot.header) ∧
    (∃ s : State, hwAnswers s.dev = true ∧ s.dev.boot.stage = .imageHost ∧ s.dev.boot.hdrTaken = true ∧
      s.dev.boot.body.length = hdrLength s.dev.boot.header ∧ imageValid s.dev s.dev.boot.header s.dev.boot.body = true) ∧
    (∃ s : State, s.dev.boot.stage = .imageFlash) ∧
    (∃ s : State, s.dev.boot.stage = .verify ∧ imageValid s.dev (triedImage s.dev).1 (triedImage s.dev).2 = true ∧
      s.dev.otp.lifecycle ≠ 4 ∧ s.dev.aon.glitchHalt = false ∧ s.dev.boot.otpAlarm = false) ∧
    (∃ s : State, s.dev.boot.stage = .replay) ∧
    (∃ s : State, hwAnswers s.dev = true ∧ s.dev.boot.stage = .hold ∧ s.dev.aon.bootHost = true) :=
  ⟨⟨during .noImage, by decide +kernel⟩,
   ⟨during .imageHost [] id fun b => { b with hdrTaken := true, body := [0] }, 4096, by decide +kernel⟩,
   ⟨imaged .imageHost, by decide +kernel, by decide +kernel, by decide +kernel, by decide +kernel, by
     rw [imageValid_congr (rfl : (imaged .imageHost).dev.otp = (imaged .verify).dev.otp)]; exact image_is_valid⟩,
   ⟨during .imageFlash, rfl⟩, ⟨imaged .verify, rfl, image_is_valid, by decide +kernel⟩, ⟨during .replay, rfl⟩,
   ⟨during .hold [] fun a => { a with bootHost := true }, by decide +kernel⟩⟩

/-! ### Tests: ill-formed commands, words, and the spec's own examples -/

/-- A request of the given tag and payload lengths. -/
def reqOf (tag len : Nat) : ZReq :=
  { via := .mailbox, sess := 0, seq := 0, element := 0, object := 0, length := 0, payload := List.replicate len 0,
    tag := List.replicate tag 0, queuedUs := 0, queued := 0 }

/-- A tag is 8 octets or absent (Table 4-3). -/
theorem test_short_tag_refused :
    (Instr.read (reqOf 7 0)).wellFormed = false ∧ (Instr.read (reqOf 8 4)).wellFormed = true ∧
      (Instr.notifyRequest (reqOf 7 0) 0).wellFormed = false := by decide

/-- LEN counts at most 65,535 payload octets. -/
theorem test_long_payload_refused (n : Nat) (h : 65536 ≤ n) : (Instr.write (reqOf 0 n)).wellFormed = false := by
  simp [Instr.wellFormed, ZReq.wellFormed, reqOf, h]

/-- One to seven objects in an SPR list, up to eleven in an EPR one (Table 7-4). -/
theorem test_long_pdo_lists_refused :
    (Instr.sourceCapabilities 0 1 (List.replicate 8 0)).wellFormed = false ∧
      (Instr.sinkCapabilities 0 1 []).wellFormed = false ∧
      (Instr.eprSourceCapabilities 0 1 (List.replicate 12 0)).wellFormed = false ∧
      (Instr.eprSourceCapabilities 0 1 (List.replicate 11 0)).wellFormed = true := by decide

/-- An identity block is 256 octets (R188's slot read). -/
theorem test_short_block_refused : (Instr.slotReadDone 0 (List.replicate 255 0)).wellFormed = false := by decide +kernel

/-- A VDM answer carries at most six VDOs (Table 6-4). -/
theorem test_long_vdm_refused :
    (Instr.discoverModes 0 ⟨0, .modes, .ack (List.replicate 7 0)⟩).wellFormed = false ∧
      (Instr.enterMode 0 ⟨0, .ack (List.replicate 6 0)⟩).wellFormed = true := by decide

/-- A frame has a header. -/
theorem test_short_frame_refused :
    octetsWellFormed (List.replicate 13 0) = false ∧ octetsWellFormed (List.replicate 14 0) = true := by decide

/-- A round record has one reading for each cable port (R539). -/
theorem test_short_round_refused :
    RoundRecord.wellFormed { aRound with
      vbus := List.replicate 7 0 } = false ∧ aRound.wellFormed = true := by decide

/-- A record is at most 65,535 octets for APPEND. -/
theorem test_long_record_refused (n : Nat) (h : 65535 < n) : (Instr.append 0 (List.replicate n 0)).wellFormed = false := by
  simp [Instr.wellFormed, h]

/-- No word spells a command, so putting one in front changes nothing. -/
theorem test_no_word_spells_a_command (n w : Nat) :
    decodeTableWord n w = none ∧ State.reset.withFetchWord n w = State.reset := ⟨rfl, rfl⟩

/-- The 20 bytes of the request in "one write, two transports". -/
theorem test_request_octets :
    reqOctets { reqOf 8 0 with sess := 0x84D4, seq := 5001, element := 6, object := 0x0014, length := 2,
                               payload := [0xD0, 0x07] } 2
      = [0xD4, 0x84, 0x89, 0x13, 2, 6, 0x14, 0, 2, 0, 0xD0, 0x07] ++ List.replicate 8 0 := by decide

/-- Table 4-16: the sequence trace from HIGHEST 5000 with every entry executed. -/
theorem test_retry_trace :
    let s0 := { Session.fresh with highest := 5000, window := 0xFFFFFFFF }
    let s1 := seqAdvance 1 5001 0 [] s0
    let s3 := seqAdvance 2 5003 0 [] s1
    let s4 := seqFill 1 0 s3
    (seqCase s0 5001 = .ahead 1 ∧ s1.window = 0xFFFFFFFF ∧ seqCase s1 5001 = .replay) ∧
    (seqCase s1 5003 = .ahead 2 ∧ s3.window = 0xFFFFFFFD ∧ seqCase s3 5002 = .behind 1) ∧
    (s4.window = 0xFFFFFFFF ∧ seqCase s4 5002 = .done 1 ∧ seqCase s4 4960 = .stale) := by decide

/-- "One key, its buckets and a relocation": the buckets on an SX7240. -/
theorem test_station_buckets : bucketsOf idleDev 0x025A4F100A31 10 = (0x1026, 0x215B) := by decide +kernel

/-- "An IPv6 lookup": the buckets and the Bloom bits of the /48. -/
theorem test_route_buckets :
    buckets6 1 48 0xfd5a4f00724000000000000000000000 = (0x14A, 0x33E) ∧
      bloomBits 1 48 0xfd5a4f00724000000000000000000000 = [294, 2913, 2697] ∧ bloomFilter 1 48 = 10 := by decide +kernel

/-- "An IPv4 lookup": the checksum after TTL 64 becomes 63 on a UDP packet. -/
theorem test_checksum_update :
    (decTtl true [0x45, 0, 0, 0x20, 0, 0, 0, 0, 64, 17, 0x1C, 0x46, 10, 20, 99, 1, 10, 20, 30, 40]).drop 8 =
      [63, 17, 0x1D, 0x46, 10, 20, 99, 1, 10, 20, 30, 40] := by decide +kernel

/-- Table 14-10: FRAME mode, frames 1 to 3 of 1,018 bytes every 8.304 us; tokens in 2^-16 byte. -/
theorem test_policer_frames :
    let p0 : Policer := { Policer.zero with rate := 8000, burst := 3000, enable := true, tokens := 3000 * 65536 }
    let r1 := police 0 1018 p0
    let r2 := police 8304 1018 r1.2
    let r3 := police 16608 1018 r2.2
    (r1.1 = true ∧ r1.2.tokens = 1982 * 65536) ∧ (r2.1 = true ∧ r2.2.tokens * 1000 / 65536 = 972303) ∧
      (r3.1 = false ∧ r3.2.tokens * 1000 / 65536 = 980607) := by decide +kernel

end Sys2Proof.Tests
end

/-! SUPPORT. RESET_N's rising edge while a strap window is open (R59): what a run command answers, what the edge makes of the
device, and the obligation on the one strap window. -/

namespace Sys2Proof.Proofs.StrapWindow

open Sys2Proof Sys2Proof.Machine Sys2Proof.Safety

/-- A command whose meaning is the effect `f`, run, answers with the settled effect on the device as the command finds it. -/
theorem answers_of_exec_eq_run {c : Instr} {s : State} {f : Dev → Dev} {P : Dev → Prop}
    (hexec : exec c s = run f s) (hP : P (settle (f (hush s.dev)))) : Answers c s P :=
  ⟨_, hexec.trans (run_next f s), rfl, hP⟩

theorem exec_resetNRise (s : State) : exec .resetNRise s = run resetNRise s := rfl

/-- Entering STRAPS ends no wait: it writes the stage and nothing else. -/
theorem enterStage_strapsS (d : Dev) : enterStage .strapsS d = onBoot (fun b => { b with stage := .strapsS }) d := rfl

@[simp] theorem aonRuns_hush (d : Dev) : aonRuns (hush d) = aonRuns d := rfl

/-- With RESET_N high already there is no edge. -/
theorem resetNRise_of_high {d : Dev} (hhigh : d.aon.resetNLow = false) : resetNRise d = d := by
  simp [resetNRise, hhigh]

/-- While the AON domain is down the edge leaves only the level of the pin. -/
theorem resetNRise_of_aon_down {d : Dev} (hlow : d.aon.resetNLow = true) (hdown : aonRuns d = false) :
    resetNRise d = onAon (fun a => { a with resetNLow := false }) d := by
  have hstill : aonRuns (onAon (fun a => { a with resetNLow := false }) d) = false := hdown
  simp [resetNRise, hlow, hstill]

/-- An edge inside an open window starts boot step STRAPS with that window (R59). -/
theorem resetNRise_of_open_window {d : Dev} (hlow : d.aon.resetNLow = true) (hruns : aonRuns d = true)
    (hopen : d.aon.window.isSome = true) :
    resetNRise d = enterStage .strapsS (onAon (fun a => { a with resetNLow := false }) d) := by
  have hstill : aonRuns (onAon (fun a => { a with resetNLow := false }) d) = true := hruns
  simp [resetNRise, hlow, hstill, hopen]

/-- With a window open the edge changes the level of RESET_N and, where RESET_N held boot back, the stage: the window itself is
not written. -/
theorem resetNRise_eq_of_window_isSome {d : Dev} (hopen : d.aon.window.isSome = true) :
    resetNRise d =
      { d with
        aon := { d.aon with resetNLow := false }
        boot := { d.boot with stage := if d.aon.resetNLow && aonRuns d then .strapsS else d.boot.stage } } := by
  cases hlow : d.aon.resetNLow with
  | false =>
    have haon : { d.aon with resetNLow := false } = d.aon := by rw [← hlow]
    rw [resetNRise_of_high hlow, haon]
    rfl
  | true =>
    cases hruns : aonRuns d with
    | false => exact resetNRise_of_aon_down hlow hruns
    | true => rw [resetNRise_of_open_window hlow hruns hopen, enterStage_strapsS]; rfl

/-- Settles O8: each branch of the edge under an open window writes RESET_N's level and at most the stage, and settling leaves
the AON plane as it is. -/
theorem oneStrapWindow : Obligations.OneStrapWindow := by
  intro s w hw
  have hopen : (hush s.dev).aon.window.isSome = true := by simp [hw]
  have heffect := resetNRise_eq_of_window_isSome hopen
  refine answers_of_exec_eq_run (exec_resetNRise s) ⟨?_, ?_⟩
  · simp [heffect, hw]
  · simpa [heffect] using became_settle (resetNRise (hush s.dev))

/-- The boot stage does move in a state that meets the hypothesis: RESET_N low, the AON domain up, sample A taken. -/
theorem oneStrapWindow_with_resetN_low :
    let s : State := { State.reset with
      dev := { Dev.reset with
        aon := { Aon.reset with lastWake := 0x80, window := some ⟨true, some 0b01011⟩, resetNLow := true } } }
    Answers .resetNRise s fun t =>
      t.aon.window = some ⟨true, some 0b01011⟩ ∧ t.aon.resetNLow = false ∧ t.boot.stage = .strapsS := by
  intro s
  obtain ⟨t, hexec, hpending, hwindow, hbecame, -⟩ := oneStrapWindow s _ rfl
  refine ⟨t, hexec, hpending, hwindow, ?_, ?_⟩
  · rw [hbecame]
  · rw [hbecame]; rfl

end Sys2Proof.Proofs.StrapWindow

/-! SUPPORT. Shapers, the tally's own captures and the host's snapshots (chapter 14, R186, R187): what each of the three leaves of the
fabric and of the other planes, what a refill makes of a shaper, what a capture makes of the counters, and the obligation on
them. -/

namespace Sys2Proof.Proofs.ShapersAndTally

open Sys2Proof Sys2Proof.Machine Sys2Proof.Safety
open Sys2Proof.Proofs.StrapWindow (answers_of_exec_eq_run)

/-! ### Updates of the fabric alone -/

/-- `t` is `d` with another fabric record, one that agrees with `d`'s on `part`. -/
def KeepsFabric {β : Type} (part : Fabric → β) (t d : Dev) : Prop :=
  ∃ f : Fabric, part f = part d.fab ∧ t = { d with fab := f }

/-- Every plane beside the fabric, the engine and the host window stands. -/
def AroundFabric (t d : Dev) : Prop :=
  t.st = d.st ∧ t.rt = d.rt ∧ t.cls = d.cls ∧ SamePower t d ∧ SameTime t d ∧ SameStores t d ∧ SameAon t d

namespace KeepsFabric

variable {β : Type} {part : Fabric → β} {t u d : Dev}

theorem refl (d : Dev) : KeepsFabric part d d := ⟨d.fab, rfl, rfl⟩

theorem trans (htu : KeepsFabric part t u) (hud : KeepsFabric part u d) : KeepsFabric part t d := by
  obtain ⟨f, hf, rfl⟩ := hud
  obtain ⟨g, hg, rfl⟩ := htu
  exact ⟨g, hg.trans hf, rfl⟩

theorem foldl {α : Type} {step : Dev → α → Dev} (hstep : ∀ d a, KeepsFabric part (step d a) d) (l : List α) (d : Dev) :
    KeepsFabric part (l.foldl step d) d :=
  List.foldlRecOn (motive := fun u => KeepsFabric part u d) l step (refl d) fun u hu a _ => (hstep u a).trans hu

theorem onFab {g : Fabric → Fabric} (hg : part (g d.fab) = part d.fab) : KeepsFabric part (onFab g d) d := ⟨_, hg, rfl⟩

theorem toFabric (h : KeepsFabric part t d) : KeepsFabric (fun _ => ()) t d := by
  obtain ⟨f, -, rfl⟩ := h
  exact ⟨f, rfl, rfl⟩

theorem part_eq (h : KeepsFabric part t d) : part t.fab = part d.fab := by
  obtain ⟨f, hf, rfl⟩ := h
  exact hf

theorem cfg_eq (h : KeepsFabric part t d) (obj el : Nat) : cfg t obj el = cfg d obj el := by
  obtain ⟨f, -, rfl⟩ := h
  rfl

theorem portUp_eq (h : KeepsFabric part t d) (hports : t.fab.ports = d.fab.ports) (p : Nat) : portUp t p = portUp d p := by
  obtain ⟨f, -, rfl⟩ := h
  replace hports : f.ports = d.fab.ports := hports
  unfold portUp linkIsUp swPort
  rw [hports]
  rfl

theorem hw_eq (h : KeepsFabric part t d) : t.hw = d.hw := by
  obtain ⟨f, -, rfl⟩ := h
  rfl

theorem around (h : KeepsFabric part t d) : AroundFabric t d := by
  obtain ⟨f, -, rfl⟩ := h
  exact ⟨rfl, rfl, rfl, ⟨rfl, rfl, rfl⟩, ⟨rfl, rfl⟩, ⟨rfl, rfl, rfl⟩, ⟨rfl, rfl, rfl⟩⟩

end KeepsFabric

/-! ### Settling -/

theorem AroundFabric.settle {u d : Dev} (h : AroundFabric u d) : AroundFabric (settle u) d := by
  simpa [AroundFabric, SamePower, SameTime, SameStores, SameAon] using h

theorem AroundFabric.arm {u d : Dev} {t : Timer} {ns : Nat} (h : AroundFabric u d) : AroundFabric (arm t ns u) d := h

theorem AroundFabric.disarm {u d : Dev} {t : Timer} (h : AroundFabric u d) : AroundFabric (disarm t u) d := h

theorem AroundFabric.onHw {u d : Dev} {f : HostWin → HostWin} (h : AroundFabric u d) : AroundFabric (onHw f u) d := h

theorem AroundFabric.raiseIrq {u d : Dev} {i : Nat} (h : AroundFabric u d) : AroundFabric (raiseIrq i u) d := h

theorem around_hush (d : Dev) : AroundFabric (hush d) d := (KeepsFabric.refl (part := fun _ => ()) d).around

theorem AroundFabric.sameRest {t d : Dev} (h : AroundFabric t d) (hfab : t.fab = d.fab) : SameRest t d := by
  obtain ⟨hst, hrt, hcls, haround⟩ := h
  exact ⟨⟨hfab, hst, hrt, hcls⟩, haround⟩

@[simp] theorem queueOf_hush (d : Dev) (p c : Nat) : queueOf (hush d) p c = queueOf d p c := rfl
@[simp] theorem cfg_hush (d : Dev) (obj el : Nat) : cfg (hush d) obj el = cfg d obj el := rfl
@[simp] theorem cfg_expired (t : Timer) (d : Dev) (obj el : Nat) : cfg (expired t d) obj el = cfg d obj el := rfl
@[simp] theorem portUp_expired (t : Timer) (d : Dev) (p : Nat) : portUp (expired t d) p = portUp d p := rfl

@[simp] theorem queueOf_settle (d : Dev) (p c : Nat) : queueOf (settle d) p c = queueOf d p c := by simp [queueOf]
@[simp] theorem swPort_settle (d : Dev) (p : Nat) : swPort (settle d) p = swPort d p := by simp [swPort]
@[simp] theorem counterOf_settle (d : Dev) (set_ i : Nat) : counterOf (settle d) set_ i = counterOf d set_ i := by
  simp [counterOf]
@[simp] theorem armed_settle (t : Timer) (d : Dev) : armed t (settle d) = armed t d := by simp [armed]

@[simp] theorem counterOf_arm (t : Timer) (ns : Nat) (d : Dev) (set_ i : Nat) :
    counterOf (arm t ns d) set_ i = counterOf d set_ i := rfl

/-- Settling leaves the bits of IRQ_STATUS other than ALARM and PORT. -/
theorem irq_settle (d : Dev) {i : Nat} (hi : (0x27F : BitVec 10).getLsbD i = true) : irq (settle d) i = irq d i := by
  have h := congrArg (·.getLsbD i) (settle_irq_rest d)
  simpa only [BitVec.getLsbD_and, hi, Bool.and_true, irq] using h

theorem irq_raiseIrq_self (d : Dev) {i : Nat} (hi : i < 10) : irq (raiseIrq i d) i = true := by
  simp only [irq, raiseIrq, onHw_hw, BitVec.getLsbD_or, BitVec.getLsbD_ofNat, Nat.testBit_two_pow_self, hi, decide_true,
    Bool.and_true, Bool.or_true]

/-- A timer armed for a time from now runs for it, settled or not. -/
theorem runsFor_settle_arm (t : Timer) (ns : Nat) (d : Dev) : runsFor t ns (settle (arm t ns d)) := by
  simp [runsFor, arm, armAt]

theorem armed_disarm_self (t : Timer) (d : Dev) : armed t (disarm t d) = false := by simp [armed, disarm]

/-! ### Queues and ports -/

@[simp] theorem queueOf_setQueue_self (p c : Nat) (f : Queue → Queue) (d : Dev) :
    queueOf (setQueue p c f d) p c = f (queueOf d p c) := tget_tset_self _ _ _ _

theorem queueOf_setQueue_other (p : Nat) {c k : Nat} (f : Queue → Queue) (d : Dev) (h : k ≠ c) :
    queueOf (setQueue p c f d) p k = queueOf d p k := tget_tset_other _ _ _ (by omega)

@[simp] theorem swPort_setSwPort_self (p : Nat) (f : SwPort → SwPort) (d : Dev) :
    swPort (setSwPort p f d) p = f (swPort d p) := tget_tset_self _ _ _ _

@[simp] theorem queueOf_setSwPort (n p c : Nat) (f : SwPort → SwPort) (d : Dev) :
    queueOf (setSwPort n f d) p c = queueOf d p c := rfl

/-- What the queues and ports hold no part of: the refill counter and the list of pending settings. -/
def shapingKeeps (f : Fabric) : Nat × List Nat := (f.refills, f.pendingShape)

theorem setQueue_keeps {β : Type} {part : Fabric → β} (hpart : ∀ f q, part { f with queues := q } = part f)
    (p c : Nat) (f : Queue → Queue) (d : Dev) : KeepsFabric part (setQueue p c f d) d := ⟨_, hpart _ _, rfl⟩

theorem setSwPort_keeps {β : Type} {part : Fabric → β} (hpart : ∀ f w, part { f with ports := w } = part f)
    (p : Nat) (f : SwPort → SwPort) (d : Dev) : KeepsFabric part (setSwPort p f d) d := ⟨_, hpart _ _, rfl⟩

/-- A change of every listed value that leaves the default alone changes what every key reads as. -/
theorem tget_map {α : Type} {dflt : α} {g : α → α} (hg : g dflt = dflt) (t : Tbl α) (i : Nat) :
    tget dflt (t.map fun x => (x.1, g x.2)) i = g (tget dflt t i) := by
  induction t with
  | nil => exact hg.symm
  | cons x t ih =>
    unfold tget at ih ⊢
    simp only [List.map_cons, tfind]
    split
    · rfl
    · exact ih

/-! ### A refill (R519) -/

/-- What a refill makes of a queue's shaper, and of a port's. -/
def refillQueue (q : Queue) : Queue :=
  if q.rate = 0 then q
  else { q with tokens := (refillTokens q.rate q.burst q.tokens q.carry).1,
                carry := (refillTokens q.rate q.burst q.tokens q.carry).2 }
@[inherit_doc refillQueue] def refillPort (w : SwPort) : SwPort :=
  if w.rate = 0 then w
  else { w with tokens := (refillTokens w.rate w.burst w.tokens w.carry).1,
                carry := (refillTokens w.rate w.burst w.tokens w.carry).2 }

/-- Every shaper of the device refilled. -/
def refillAll (d : Dev) : Dev :=
  onFab (fun f => { f with queues := f.queues.map fun x => (x.1, refillQueue x.2),
                           ports := f.ports.map fun x => (x.1, refillPort x.2) }) d

/-- The refill counter advanced, and no settings left pending. -/
def countRefill (d : Dev) : Dev :=
  onFab (fun f => { f with refills := (d.fab.refills + 1) % 2 ^ 32, pendingShape := [] }) d

@[simp] theorem refillQueue_rate (q : Queue) : (refillQueue q).rate = q.rate := by unfold refillQueue; split <;> rfl
@[simp] theorem refillQueue_burst (q : Queue) : (refillQueue q).burst = q.burst := by unfold refillQueue; split <;> rfl
@[simp] theorem refillQueue_copies (q : Queue) : (refillQueue q).copies = q.copies := by unfold refillQueue; split <;> rfl
@[simp] theorem refillPort_rate (w : SwPort) : (refillPort w).rate = w.rate := by unfold refillPort; split <;> rfl
@[simp] theorem refillPort_burst (w : SwPort) : (refillPort w).burst = w.burst := by unfold refillPort; split <;> rfl
@[simp] theorem refillPort_applied (w : SwPort) : (refillPort w).applied = w.applied := by unfold refillPort; split <;> rfl

theorem refillQueue_of_off {q : Queue} (hoff : q.rate = 0) : refillQueue q = q := if_pos hoff
theorem refillPort_of_off {w : SwPort} (hoff : w.rate = 0) : refillPort w = w := if_pos hoff

/-- R519: a shaper that is on gains RATE / 8,000 bytes, to no more than BURST, and carries the remainder. -/
theorem refillQueue_of_on {q : Queue} (hon : q.rate ≠ 0) :
    (refillQueue q).tokens = min (q.tokens + ((q.rate * 65536 + q.carry) / 8000 : Nat)) (q.burst * 65536 : Nat) ∧
    (refillQueue q).carry = (q.rate * 65536 + q.carry) % 8000 := by simp [refillQueue, hon, refillTokens]
@[inherit_doc refillQueue_of_on] theorem refillPort_of_on {w : SwPort} (hon : w.rate ≠ 0) :
    (refillPort w).tokens = min (w.tokens + ((w.rate * 65536 + w.carry) / 8000 : Nat)) (w.burst * 65536 : Nat) ∧
    (refillPort w).carry = (w.rate * 65536 + w.carry) % 8000 := by simp [refillPort, hon, refillTokens]

@[simp] theorem queueOf_refillAll (d : Dev) (p c : Nat) : queueOf (refillAll d) p c = refillQueue (queueOf d p c) :=
  tget_map rfl _ _

@[simp] theorem swPort_refillAll (d : Dev) (p : Nat) : swPort (refillAll d) p = refillPort (swPort d p) := tget_map rfl _ _

theorem shaperRefill_of_stopped {d : Dev} (h : (fabricRuns d = false ∧ d.boot.leaving = false) ∨ d.fab.resetting = true) :
    shaperRefill d = d := by
  rcases h with ⟨hruns, hleaving⟩ | hresetting
  · simp [shaperRefill, hruns, hleaving]
  · simp [shaperRefill, hresetting]

/-- The device that a refill leaves when the settings of the ports `l` are pending. -/
def refilled (l : List Nat) (d : Dev) : Dev :=
  refillAll (l.foldl (fun u p => applyShapers p ((d.fab.refills + 1) % 2 ^ 32) u) (countRefill d))

/-- While the fabric runs, a refill counts itself, puts the pending settings in force, and then refills every shaper. -/
theorem shaperRefill_of_fabricRuns {d : Dev} (hruns : fabricRuns d = true) (hresetting : d.fab.resetting = false) :
    shaperRefill d = refilled d.fab.pendingShape d := by
  simp only [shaperRefill, refilled, refillAll, refillQueue, refillPort, hruns, hresetting, apply_ite (Prod.mk _)]
  rfl

/-! ### Pending settings (R521) -/

/-- A queue's shaper with the settings of its port's object in force. -/
def withSettings (d : Dev) (p c : Nat) (q : Queue) : Queue :=
  { q with rate := cfg d (shapeObj p) (19 + c), burst := cfg d (shapeObj p) (27 + c), wire := bit (cfg d (shapeObj p) 35) c,
           tokens := min q.tokens (cfg d (shapeObj p) (27 + c) * 65536 : Nat) }

/-- Those of one queue of port `p` put in force. -/
def applyQueue (p : Nat) (d : Dev) (c : Nat) : Dev := setQueue p c (withSettings d p c) d

theorem applyQueues_keep {β : Type} {part : Fabric → β} (hpart : ∀ f q, part { f with queues := q } = part f) (p : Nat)
    (l : List Nat) (d : Dev) : KeepsFabric part (l.foldl (applyQueue p) d) d :=
  .foldl (fun d c => setQueue_keeps hpart p c _ d) l d

theorem queueOf_applyQueues_of_notMem (p : Nat) {c : Nat} {l : List Nat} (hc : c ∉ l) (d : Dev) :
    queueOf (l.foldl (applyQueue p) d) p c = queueOf d p c := by
  induction l generalizing d with
  | nil => rfl
  | cons k l ih =>
    obtain ⟨hck, hcl⟩ := not_or.mp (mt List.mem_cons.mpr hc)
    exact (ih hcl _).trans (queueOf_setQueue_other p _ d hck)

theorem queueOf_applyQueues_of_mem (p : Nat) {c : Nat} {l : List Nat} (hl : l.Nodup) (hc : c ∈ l) (d : Dev) :
    queueOf (l.foldl (applyQueue p) d) p c = withSettings d p c (queueOf d p c) := by
  induction l generalizing d with
  | nil => cases hc
  | cons k l ih =>
    obtain ⟨hkl, hl⟩ := List.nodup_cons.mp hl
    rcases List.mem_cons.mp hc with rfl | hcl
    · exact (queueOf_applyQueues_of_notMem p hkl _).trans (queueOf_setQueue_self p c _ d)
    · have hck : c ≠ k := fun h => hkl (h ▸ hcl)
      calc queueOf ((k :: l).foldl (applyQueue p) d) p c
          = withSettings (applyQueue p d k) p c (queueOf (applyQueue p d k) p c) := ih hl hcl _
        _ = withSettings d p c (queueOf d p c) := by rw [applyQueue, queueOf_setQueue_other p _ d hck]; rfl

/-- The port's own shaper takes its settings after those of the port's eight queues. -/
theorem applyShapers_eq (p n : Nat) (d : Dev) :
    applyShapers p n d =
      setSwPort p (fun w =>
        { w with rate := cfg ((List.range 8).foldl (applyQueue p) d) (shapeObj p) 16,
                 burst := cfg ((List.range 8).foldl (applyQueue p) d) (shapeObj p) 17,
                 wire := cfgOn ((List.range 8).foldl (applyQueue p) d) (shapeObj p) 18,
                 tokens := min w.tokens (cfg ((List.range 8).foldl (applyQueue p) d) (shapeObj p) 17 * 65536 : Nat),
                 applied := n })
        ((List.range 8).foldl (applyQueue p) d) := rfl

theorem applyShapers_keeps {β : Type} {part : Fabric → β} (hqueues : ∀ f q, part { f with queues := q } = part f)
    (hports : ∀ f w, part { f with ports := w } = part f) (p n : Nat) (d : Dev) : KeepsFabric part (applyShapers p n d) d := by
  rw [applyShapers_eq]
  exact (setSwPort_keeps hports p _ _).trans (applyQueues_keep hqueues p _ d)

theorem queueOf_applyShapers (p n : Nat) {c : Nat} (hc : c < 8) (d : Dev) :
    queueOf (applyShapers p n d) p c = withSettings d p c (queueOf d p c) := by
  rw [applyShapers_eq, queueOf_setSwPort]
  exact queueOf_applyQueues_of_mem p List.nodup_range (List.mem_range.mpr hc) d

theorem swPort_applyShapers (p n : Nat) (d : Dev) :
    (swPort (applyShapers p n d) p).rate = cfg d (shapeObj p) 16 ∧
    (swPort (applyShapers p n d) p).burst = cfg d (shapeObj p) 17 ∧ (swPort (applyShapers p n d) p).applied = n := by
  have hcfg := (applyQueues_keep (part := fun _ => ()) (fun _ _ => rfl) p (List.range 8) d).cfg_eq (shapeObj p)
  simp [applyShapers_eq, hcfg]

theorem countRefill_keeps (d : Dev) : KeepsFabric (fun _ => ()) (countRefill d) d := .onFab rfl

theorem refillAll_keeps (d : Dev) : KeepsFabric shapingKeeps (refillAll d) d := .onFab rfl

/-- Beside the queues and ports a refill does to the fabric what `countRefill` does. -/
theorem refilled_keeps (l : List Nat) (d : Dev) : KeepsFabric shapingKeeps (refilled l d) (countRefill d) :=
  (refillAll_keeps _).trans (.foldl (fun u p => applyShapers_keeps (fun _ _ => rfl) (fun _ _ => rfl) p _ u) l _)

theorem refilled_around (l : List Nat) (d : Dev) : AroundFabric (refilled l d) d :=
  ((refilled_keeps l d).toFabric.trans (countRefill_keeps d)).around

theorem refilled_refills (l : List Nat) (d : Dev) : (refilled l d).fab.refills = (d.fab.refills + 1) % 2 ^ 32 :=
  congrArg (·.1) (refilled_keeps l d).part_eq

theorem refilled_pendingShape (l : List Nat) (d : Dev) : (refilled l d).fab.pendingShape = [] :=
  congrArg (·.2) (refilled_keeps l d).part_eq

theorem queueOf_refilled_nil (d : Dev) (p c : Nat) : queueOf (refilled [] d) p c = refillQueue (queueOf d p c) :=
  queueOf_refillAll (countRefill d) p c

theorem swPort_refilled_nil (d : Dev) (p : Nat) : swPort (refilled [] d) p = refillPort (swPort d p) :=
  swPort_refillAll (countRefill d) p

/-- The settings of a queue of a port that had some pending are those of the port's object. -/
theorem queueOf_refilled_singleton (d : Dev) (p : Nat) {c : Nat} (hc : c < 8) :
    (queueOf (refilled [p] d) p c).rate = cfg d (shapeObj p) (19 + c) ∧
    (queueOf (refilled [p] d) p c).burst = cfg d (shapeObj p) (27 + c) ∧
    (queueOf (refilled [p] d) p c).copies = (queueOf d p c).copies := by
  have hcopies : queueOf (countRefill d) p c = queueOf d p c := rfl
  rw [refilled, List.foldl_cons, List.foldl_nil, queueOf_refillAll, queueOf_applyShapers _ _ hc]
  simp [withSettings, (countRefill_keeps d).cfg_eq, hcopies]

@[inherit_doc queueOf_refilled_singleton] theorem swPort_refilled_singleton (d : Dev) (p : Nat) :
    (swPort (refilled [p] d) p).rate = cfg d (shapeObj p) 16 ∧ (swPort (refilled [p] d) p).burst = cfg d (shapeObj p) 17 ∧
    (swPort (refilled [p] d) p).applied = (d.fab.refills + 1) % 2 ^ 32 := by
  have hsettings := swPort_applyShapers p ((d.fab.refills + 1) % 2 ^ 32) (countRefill d)
  simpa [refilled, (countRefill_keeps d).cfg_eq] using hsettings

/-! ### Counters of a capture (R186, R527) -/

/-- What the counters hold no part of: the sequence of captures, the queues and the ports. -/
def captureKeeps (f : Fabric) : Nat × Tbl Queue × Tbl SwPort := (f.exportSeq, f.queues, f.ports)

theorem setCounter_keeps (set_ i v : Nat) (d : Dev) :
    KeepsFabric captureKeeps (setCounter set_ i v d) d := by
  refine ⟨_, ?_, rfl⟩
  split
  · rfl
  · rfl
  · split <;> rfl

theorem clearCounters_keep (set_ : Nat) (l : List Nat) (d : Dev) :
    KeepsFabric captureKeeps (clearCounters set_ l d) d :=
  .foldl (fun u i => setCounter_keeps set_ i _ u) l d

theorem counterOf_setCounter_self {set_ : Nat} (hset : set_ < 2) (i v : Nat) (d : Dev) :
    counterOf (setCounter set_ i v d) set_ i = v := by
  match set_, hset with
  | 0, _ => exact tget_tset_self _ _ _ _
  | 1, _ => exact tget_tset_self _ _ _ _

theorem counterOf_setCounter_other {set_ : Nat} (hset : set_ < 2) {i k : Nat} (h : k ≠ i) (v : Nat) (d : Dev) :
    counterOf (setCounter set_ i v d) set_ k = counterOf d set_ k := by
  match set_, hset with
  | 0, _ => exact tget_tset_other _ _ _ h
  | 1, _ => exact tget_tset_other _ _ _ h

/-- Only the depth peaks of SET 2 restart from something other than 0. -/
theorem clearedTo_eq_zero {set_ : Nat} (hset : set_ < 2) (d : Dev) (i : Nat) : clearedTo d set_ i = 0 := by
  simp [clearedTo, show set_ ≠ 2 by omega]

/-- A counter that is cleared, or that reads 0 before, reads 0 after. -/
theorem counterOf_clearCounters {set_ : Nat} (hset : set_ < 2) {i : Nat} (l : List Nat) (d : Dev)
    (h : i ∈ l ∨ counterOf d set_ i = 0) : counterOf (clearCounters set_ l d) set_ i = 0 := by
  induction l generalizing d with
  | nil => exact h.resolve_left List.not_mem_nil
  | cons k l ih =>
    refine ih (setCounter set_ k (clearedTo d set_ k) d) ?_
    by_cases hik : i = k
    · subst hik
      exact .inr ((counterOf_setCounter_self hset i _ d).trans (clearedTo_eq_zero hset d i))
    · rw [counterOf_setCounter_other hset hik]
      exact h.imp_left fun hmem => (List.mem_cons.mp hmem).resolve_left hik

/-! ### The tally's own captures (R529-R532) -/

/-- What the sending of tally frames leaves of the fabric: the sequence of captures and the counters of SETs 0 and 1. -/
def sendingKeeps (f : Fabric) : Nat × Tbl Nat × Tbl Nat := (f.exportSeq, f.set0, f.set1)

theorem setPeak_keeps {i : Nat} (hpeak : i % 4 = 3) (v : Nat) (d : Dev) : KeepsFabric sendingKeeps (setCounter 2 i v d) d :=
  ⟨_, by simp [sendingKeeps, hpeak], rfl⟩

theorem enqueue_keeps (p c : Nat) (x : Copy) (d : Dev) : KeepsFabric sendingKeeps (enqueue p c x d) d := by
  have hcharged (f : Queue → Queue) (g : SwPort → SwPort) :
      KeepsFabric sendingKeeps (setSwPort x.fromPort g (setQueue p c f d)) d :=
    (setSwPort_keeps (fun _ _ => rfl) _ _ _).trans (setQueue_keeps (fun _ _ => rfl) p c _ d)
  unfold enqueue
  dsimp only
  split
  · exact (setPeak_keeps (by omega) _ _).trans (hcharged _ _)
  · exact hcharged _ _

theorem placeTally_keeps (o : List Byte) (d : Dev) : KeepsFabric sendingKeeps (placeTally o d) d := by
  unfold placeTally
  dsimp only
  split
  · exact .onFab rfl
  · exact (enqueue_keeps _ _ _ _).trans (.onFab rfl)

/-- A tally frame that port H cannot take is lost, and no queue sees it (R530). -/
theorem placeTally_of_portDown {d : Dev} (hdown : portUp d 12 = false) (o : List Byte) :
    placeTally o d = onFab (fun f => { f with tallyLost := satInc f.tallyLost, tallyLostFlag := true }) d := by
  simp [placeTally, hdown]

theorem sendParts_keeps (seq parts set_ clear time : Nat) (l : List (Nat × Nat × List Byte)) (part : Nat) (d : Dev) :
    KeepsFabric sendingKeeps (sendParts seq parts set_ clear time l part d) d := by
  induction l generalizing part d with
  | nil => exact .refl d
  | cons x l ih => exact (ih (part + 1) _).trans (placeTally_keeps _ d)

theorem sendParts_queues_of_portDown (seq parts set_ clear time : Nat) (l : List (Nat × Nat × List Byte)) (part : Nat)
    {d : Dev} (hdown : portUp d 12 = false) :
    (sendParts seq parts set_ clear time l part d).fab.queues = d.fab.queues := by
  induction l generalizing part d with
  | nil => rfl
  | cons x l ih =>
    obtain ⟨first, count, entries⟩ := x
    rw [sendParts, placeTally_of_portDown hdown]
    exact ih (part + 1) hdown

/-- The next sequence number taken (R529). -/
def numberExport (d : Dev) : Dev := onFab (fun f => { f with exportSeq := (d.fab.exportSeq + 1) % 2 ^ 32 }) d

/-- The counters that the tally captures. -/
def exportRange (d : Dev) : List Nat :=
  rangeCounters (cfg d 0xB400 2) (cfg d 0xB400 3) (min (cfg d 0xB400 4) (setEntries (cfg d 0xB400 2) - cfg d 0xB400 3))

/-- The capture itself: numbered, and with CLEAR_AFTER its counters cleared. -/
def exportStart (d : Dev) : Dev :=
  if cfg d 0xB400 5 = 1 then clearCounters (cfg d 0xB400 2) (exportRange d) (numberExport d) else numberExport d

theorem exportStart_keeps (d : Dev) :
    KeepsFabric captureKeeps (exportStart d) (numberExport d) := by
  unfold exportStart
  split
  · exact clearCounters_keep _ _ _
  · exact .refl _

theorem numberExport_keeps (d : Dev) : KeepsFabric (fun _ => ()) (numberExport d) d := .onFab rfl

theorem portUp_exportStart (d : Dev) (p : Nat) : portUp (exportStart d) p = portUp d p :=
  (exportStart_keeps d).portUp_eq (congrArg (·.2.2) (exportStart_keeps d).part_eq) p

/-- A capture is its start, and then the sending of what was captured. -/
theorem tallyCapture_eq (d : Dev) : ∃ seq parts set_ clear time chunks,
    tallyCapture d = sendParts seq parts set_ clear time chunks 0 (exportStart d) := ⟨_, _, _, _, _, _, rfl⟩

theorem tallyCapture_keeps_exportStart (d : Dev) : KeepsFabric sendingKeeps (tallyCapture d) (exportStart d) := by
  obtain ⟨seq, parts, set_, clear, time, chunks, h⟩ := tallyCapture_eq d
  exact h ▸ sendParts_keeps seq parts set_ clear time chunks 0 (exportStart d)

theorem tallyCapture_keeps (d : Dev) : KeepsFabric (fun _ => ()) (tallyCapture d) d :=
  (tallyCapture_keeps_exportStart d).toFabric.trans ((exportStart_keeps d).toFabric.trans (numberExport_keeps d))

theorem tallyCapture_exportSeq (d : Dev) : (tallyCapture d).fab.exportSeq = (d.fab.exportSeq + 1) % 2 ^ 32 :=
  calc (tallyCapture d).fab.exportSeq
      = (exportStart d).fab.exportSeq := congrArg (·.1) (tallyCapture_keeps_exportStart d).part_eq
    _ = (numberExport d).fab.exportSeq := congrArg (·.1) (exportStart_keeps d).part_eq

theorem tallyCapture_queues_of_portDown {d : Dev} (hdown : portUp d 12 = false) :
    (tallyCapture d).fab.queues = d.fab.queues := by
  obtain ⟨seq, parts, set_, clear, time, chunks, h⟩ := tallyCapture_eq d
  calc (tallyCapture d).fab.queues
      = (exportStart d).fab.queues := by
        rw [h, sendParts_queues_of_portDown _ _ _ _ _ _ _ ((portUp_exportStart d 12).trans hdown)]
    _ = (numberExport d).fab.queues := congrArg (·.2.1) (exportStart_keeps d).part_eq

/-- Without CLEAR_AFTER a capture leaves SETs 0 and 1 as they count. -/
theorem tallyCapture_sets_of_keep {d : Dev} (hkeep : cfg d 0xB400 5 = 0) :
    (tallyCapture d).fab.set0 = d.fab.set0 ∧ (tallyCapture d).fab.set1 = d.fab.set1 := by
  have hstart : exportStart d = numberExport d := by simp [exportStart, hkeep]
  have hpart := (tallyCapture_keeps_exportStart d).part_eq
  rw [hstart] at hpart
  exact ⟨congrArg (·.2.1) hpart, congrArg (·.2.2) hpart⟩

/-- With CLEAR_AFTER a capture of SET 1 leaves the counters of its range at 0. -/
theorem tallyCapture_clears {d : Dev} (hset : cfg d 0xB400 2 = 1) (hclear : cfg d 0xB400 5 = 1) {i : Nat}
    (hi : i ∈ exportRange d) : counterOf (tallyCapture d) 1 i = 0 :=
  calc counterOf (tallyCapture d) 1 i
      = counterOf (exportStart d) 1 i :=
        congrArg (fun x : Nat × Tbl Nat × Tbl Nat => tget 0 x.2.2 i) (tallyCapture_keeps_exportStart d).part_eq
    _ = 0 := by
        rw [exportStart, if_pos hclear, hset]
        exact counterOf_clearCounters (by decide) _ _ (.inl hi)

/-- The effect of an expiry starts from the device at its timer's instant. -/
theorem onExpiry_hush_of_armed {t : Timer} {f : Dev → Dev} {d : Dev} (harmed : armed t d = true) :
    onExpiry t f (hush d) = f (expired t d) := onExpiry_armed t f (hush d) harmed

theorem tallyExport_of_disabled {d : Dev} (harmed : armed .exports d = true) (hoff : cfgOn d 0xB400 0 = false) :
    tallyExport (hush d) = expired .exports d := by
  have hoff' : cfgOn (expired .exports d) 0xB400 0 = false := hoff
  rw [tallyExport, onExpiry_hush_of_armed harmed]
  simp [hoff']

/-- With EXPORT_ENABLE the tally captures at its timer's instant and arms the next INTERVAL. -/
theorem tallyExport_of_enabled {d : Dev} (harmed : armed .exports d = true) (hon : cfgOn d 0xB400 0 = true)
    (hruns : fabricRuns d = true) (hresetting : d.fab.resetting = false) :
    tallyExport (hush d) = arm .exports (cfg d 0xB400 1 * ms) (tallyCapture (expired .exports d)) := by
  have hon' : cfgOn (expired .exports d) 0xB400 0 = true := hon
  have hruns' : fabricRuns (expired .exports d) = true := hruns
  have hinterval : cfg (tallyCapture (expired .exports d)) 0xB400 1 = cfg d 0xB400 1 := (tallyCapture_keeps _).cfg_eq _ _
  rw [tallyExport, onExpiry_hush_of_armed harmed]
  simp [hon', hruns', hresetting, hinterval]

/-! ### The host's snapshot (R186, R187) -/

/-- The device once the window has taken a transaction of a known opcode: its lines are driven again (R191). -/
def addressed (d : Dev) : Dev := onHw (fun h => { h with hiz := false }) d

theorem AroundFabric.addressed {u d : Dev} (h : AroundFabric u d) : AroundFabric (addressed u) d := h

@[simp] theorem odServes_onHw (f : HostWin → HostWin) (d : Dev) : odServes (onHw f d) = odServes d := rfl

/-- A host's write of TSNAP_CTRL reaches the register, on a window that answers with the engine serving. -/
theorem hostWrite_snapCtrl {d : Dev} (hanswers : hwAnswers d = true) (hserves : odServes d = true) (v : Nat) :
    hostWrite 0x400 v d = snapCtrl (BitVec.ofNat 32 v) (addressed d) := by
  simp [hostWrite, qspiWriteTransaction, hanswers, addressed, writeWords, writeWord, hserves, definedReg, absentReg, regWrite,
    readOnlyReg]

/-- A write of TSNAP_CTRL that sets TAKE and leaves CLEAR_AFTER and SET as they stand captures, and does nothing else. -/
theorem snapCtrl_eq_tsnapTake {w : Word} {d : Dev} (hset : bits w.toNat 5 4 = d.hw.snapSet.toNat)
    (hclear : bit w.toNat 1 = d.hw.snapClear) (htake : bit w.toNat 0 = true) (hne : d.hw.snapSet ≠ 3) :
    snapCtrl w d = tsnapTake d := by
  have hne' : d.hw.snapSet.toNat ≠ 3 := fun h => hne (BitVec.eq_of_toNat_eq h)
  simp [snapCtrl, hset, hclear, htake, hne', onHw]

/-- The fields of the word that the row TSNAP_TAKE writes. -/
theorem takeWord_fields : ∀ (clear : Bool) (set_ : BitVec 2),
    bits (BitVec.ofNat 32 (1 + 2 * b2n clear + 16 * set_.toNat)).toNat 5 4 = set_.toNat ∧
    bit (BitVec.ofNat 32 (1 + 2 * b2n clear + 16 * set_.toNat)).toNat 1 = clear ∧
    bit (BitVec.ofNat 32 (1 + 2 * b2n clear + 16 * set_.toNat)).toNat 0 = true := by decide

theorem exec_tsnapTake (s : State) :
    exec .tsnapTake s = run (fun d => hostWrite 0x400 (1 + 2 * b2n d.hw.snapClear + 16 * d.hw.snapSet.toNat) d) s := rfl

/-- The row TSNAP_TAKE is the capture, on a window that answers. -/
theorem takeWrite_eq_tsnapTake {d : Dev} (hanswers : hwAnswers d = true) (hserves : odServes d = true)
    (hne : d.hw.snapSet ≠ 3) :
    hostWrite 0x400 (1 + 2 * b2n d.hw.snapClear + 16 * d.hw.snapSet.toNat) d = tsnapTake (addressed d) := by
  obtain ⟨hset, hclear, htake⟩ := takeWord_fields d.hw.snapClear d.hw.snapSet
  rw [hostWrite_snapCtrl hanswers hserves]
  exact snapCtrl_eq_tsnapTake (d := addressed d) hset hclear htake hne

/-- The counters that a snapshot captures, and their octets. -/
def snapRange (d : Dev) : List Nat := rangeCounters d.hw.snapSet.toNat d.hw.snapFirst.toNat d.hw.snapCount.toNat
@[inherit_doc snapRange] def snapOctets (d : Dev) : List Byte :=
  (snapRange d).flatMap fun i => leBytes 8 (counterOf d d.hw.snapSet.toNat i)

/-- A snapshot taken, with its counters as they were: the copy runs for 200 us (R187). -/
def snapTaken (d : Dev) : Dev :=
  arm .snap (200 * us) (onHw (fun h => { h with
    snap := writeBytes 0 h.snap 0 (snapOctets d), snapBusy := true, snapTime := BitVec.ofNat 64 (taiNs d),
    snapSeq := h.snapSeq + 1 }) d)

/-- The snapshot, with CLEAR_AFTER its counters cleared. -/
def snapCleared (d : Dev) : Dev :=
  if d.hw.snapClear then clearCounters d.hw.snapSet.toNat (snapRange d) (snapTaken d) else snapTaken d

theorem tsnapTake_of_busy {d : Dev} (hbusy : d.hw.snapBusy = true) : tsnapTake d = d := by simp [tsnapTake, hbusy]

theorem tsnapTake_of_pastEnd {d : Dev} (hfree : d.hw.snapBusy = false)
    (hpast : setEntries d.hw.snapSet.toNat < d.hw.snapFirst.toNat + d.hw.snapCount.toNat) :
    tsnapTake d = raiseIrq 9 (onHw (fun h => { h with xferStatus := h.xferStatus ||| 0x80 }) d) := by
  simp [tsnapTake, hfree, hpast]

theorem tsnapTake_of_inRange {d : Dev} (hfree : d.hw.snapBusy = false)
    (hin : d.hw.snapFirst.toNat + d.hw.snapCount.toNat ≤ setEntries d.hw.snapSet.toNat) : tsnapTake d = snapCleared d := by
  simp only [tsnapTake, hfree, Bool.false_eq_true, if_false, if_neg (Nat.not_lt.mpr hin)]
  rfl

theorem snapCleared_keeps (d : Dev) : KeepsFabric (fun _ => ()) (snapCleared d) (snapTaken d) := by
  unfold snapCleared
  split
  · exact (clearCounters_keep _ _ _).toFabric
  · exact .refl _

theorem snapCleared_hw (d : Dev) : (snapCleared d).hw = (snapTaken d).hw := (snapCleared_keeps d).hw_eq

theorem snapCleared_around (d : Dev) : AroundFabric (snapCleared d) d := (snapCleared_keeps d).around

theorem runsFor_settle_snapCleared (d : Dev) : runsFor .snap (200 * us) (settle (snapCleared d)) := by
  obtain ⟨f, -, hd⟩ := snapCleared_keeps d
  rw [hd]
  simp [runsFor, snapTaken, arm, armAt]

theorem snapCleared_of_keep {d : Dev} (hkeep : d.hw.snapClear = false) : snapCleared d = snapTaken d := by
  simp [snapCleared, hkeep]

/-- CLEAR_AFTER leaves the captured counters of SETs 0 and 1 at 0. -/
theorem counterOf_snapCleared {d : Dev} (hclear : d.hw.snapClear = true) (hset : d.hw.snapSet.toNat < 2) {i : Nat}
    (hi : i ∈ snapRange d) : counterOf (snapCleared d) d.hw.snapSet.toNat i = 0 := by
  rw [snapCleared, if_pos hclear]
  exact counterOf_clearCounters hset _ _ (.inl hi)

theorem readBytes_writeBytes (dflt : Byte) (m : Mem) (a : Nat) (bs : List Byte) :
    readBytes dflt (writeBytes dflt m a bs) a bs.length = bs :=
  List.ext_getElem (readBytes_length _ _ _ _) fun i _ hi => by
    simpa [readBytes] using byteAt_writeBytes_inside dflt bs m a i hi

theorem tsnapDone_of_busy {d : Dev} (hbusy : d.hw.snapBusy = true) :
    tsnapDone d = raiseIrq 6 (disarm .snap (onHw (fun h => { h with snapBusy := false }) d)) := by simp [tsnapDone, hbusy]

theorem tsnapDone_of_idle {d : Dev} (hidle : d.hw.snapBusy = false) : tsnapDone d = d := by simp [tsnapDone, hidle]

/-! ### The obligation -/

theorem exec_shaperRefill (s : State) : exec .shaperRefill s = run shaperRefill s := rfl
theorem exec_tallyExport (s : State) : exec .tallyExport s = run tallyExport s := rfl
theorem exec_tsnapDone (s : State) : exec .tsnapDone s = run tsnapDone s := rfl

theorem answers_shaperRefill {s : State} {l : List Nat} {P : Dev → Prop} (hruns : fabricRuns s.dev = true)
    (hresetting : s.dev.fab.resetting = false) (hpending : s.dev.fab.pendingShape = l)
    (hP : P (settle (refilled l (hush s.dev)))) : Answers .shaperRefill s P := by
  refine answers_of_exec_eq_run (exec_shaperRefill s) ?_
  rw [shaperRefill_of_fabricRuns (d := hush s.dev) hruns hresetting, hush_fab, hpending]
  exact hP

theorem answers_tsnapTake {s : State} {P : Dev → Prop} (hanswers : hwAnswers s.dev = true) (hserves : odServes s.dev = true)
    (hne : s.dev.hw.snapSet ≠ 3) (hP : P (settle (tsnapTake (addressed (hush s.dev))))) : Answers .tsnapTake s P := by
  refine answers_of_exec_eq_run (exec_tsnapTake s) ?_
  rw [takeWrite_eq_tsnapTake (d := hush s.dev) hanswers hserves hne]
  exact hP

/-- Settles O56, clause by clause: what the row's effect is on a device of that kind, and what settling leaves of it. -/
theorem shapersAndTally : Obligations.ShapersAndTally := by
  refine ⟨fun s hstopped => ?stopped, fun s hruns hresetting => ⟨fun hnone => ?nonePending, fun p hone => ?onePending⟩,
    fun s harmed => ⟨fun hoff => ?exportOff, fun hon hruns hresetting => ?exportOn⟩,
    fun s hanswers hserves hne => ⟨fun hbusy => ?takeBusy, fun hfree hpast => ?takePast, fun hfree hin => ?take⟩,
    fun s => ⟨fun hbusy => ?done, fun hidle => ?doneIdle⟩⟩
  case stopped =>
    refine answers_of_exec_eq_run (exec_shaperRefill s) ?_
    rw [shaperRefill_of_stopped (d := hush s.dev) hstopped]
    exact became_settle _
  case nonePending =>
    obtain ⟨hst, -, hcls, haround⟩ := (refilled_around [] (hush s.dev)).settle
    refine answers_shaperRefill hruns hresetting hnone ⟨?_, fun p c _ hon => ?_, fun p c _ hoff => ?_, fun p hon => ?_,
      fun p hoff => ?_, hst, hcls, haround⟩
    · rw [settle_fab, refilled_refills, hush_fab]
    · rw [queueOf_settle, queueOf_refilled_nil]; exact refillQueue_of_on hon
    · rw [queueOf_settle, queueOf_refilled_nil]; exact refillQueue_of_off hoff
    · rw [swPort_settle, swPort_refilled_nil]; exact refillPort_of_on hon
    · rw [swPort_settle, swPort_refilled_nil]; exact refillPort_of_off hoff
  case onePending =>
    obtain ⟨-, -, -, haround⟩ := (refilled_around [p.val] (hush s.dev)).settle
    obtain ⟨hrate, hburst, happlied⟩ := swPort_refilled_singleton (hush s.dev) p.val
    refine answers_shaperRefill hruns hresetting hone ⟨?_, ?_, ?_, ?_, fun c hc => ?_, haround⟩
    · rw [settle_fab, refilled_pendingShape]
    · rw [swPort_settle, happlied, hush_fab]
    · rw [swPort_settle, hrate, cfg_hush]
    · rw [swPort_settle, hburst, cfg_hush]
    · simpa using queueOf_refilled_singleton (hush s.dev) p.val hc
  case exportOff =>
    refine answers_of_exec_eq_run (exec_tallyExport s) ?_
    rw [tallyExport_of_disabled harmed hoff]
    exact became_settle _
  case exportOn =>
    refine answers_of_exec_eq_run (exec_tallyExport s) ?_
    rw [tallyExport_of_enabled harmed hon hruns hresetting]
    obtain ⟨-, -, -, hpower, ⟨-, hng⟩, hstores, haon, -⟩ :=
      (tallyCapture_keeps (expired .exports s.dev)).around.arm.settle
    refine ⟨?_, runsFor_settle_arm _ _ _, fun hset hclear i hi => ?_, fun hkeep => ?_, fun hdown => ?_,
      hpower, hstores, hng, haon⟩
    · simpa using tallyCapture_exportSeq (expired .exports s.dev)
    · rw [counterOf_settle, counterOf_arm]
      exact tallyCapture_clears (d := expired .exports s.dev) (by simpa) (by simpa)
        (by simpa [exportRange, hset, setEntries] using hi)
    · simpa using tallyCapture_sets_of_keep (d := expired .exports s.dev) (by simpa)
    · simpa using tallyCapture_queues_of_portDown (d := expired .exports s.dev) (by simpa)
  case takeBusy =>
    refine answers_tsnapTake hanswers hserves hne ?_
    rw [tsnapTake_of_busy (d := addressed (hush s.dev)) hbusy]
    exact became_settle _
  case takePast =>
    refine answers_tsnapTake hanswers hserves hne ?_
    rw [tsnapTake_of_pastEnd (d := addressed (hush s.dev)) hfree hpast]
    refine ⟨?_, ?_, ?_, ?_, ?_⟩
    · rw [irq_settle _ (by decide)]; exact irq_raiseIrq_self _ (by decide)
    · simp [raiseIrq, addressed]
    · simp [raiseIrq, addressed]
    · simp [addressed]
    · exact (around_hush s.dev).addressed.onHw.raiseIrq.settle.sameRest (by simp [addressed])
  case take =>
    refine answers_tsnapTake hanswers hserves hne ?_
    rw [tsnapTake_of_inRange (d := addressed (hush s.dev)) hfree hin]
    obtain ⟨hst, hrt, -, haround⟩ := (snapCleared_around (addressed (hush s.dev))).settle
    refine ⟨?_, ?_, ?_, ?_, runsFor_settle_snapCleared _, fun hkeep => ?_, fun hclear hset i hi => ?_, hst, hrt, haround⟩
    · rw [settle_hw_snap, snapCleared_hw]; exact readBytes_writeBytes 0 _ 0 _
    · rw [settle_hw_snapBusy, snapCleared_hw]; rfl
    · rw [settle_hw_snapTime, snapCleared_hw]; rfl
    · rw [settle_hw_snapSeq, snapCleared_hw]; rfl
    · rw [settle_fab, snapCleared_of_keep (d := addressed (hush s.dev)) hkeep]; rfl
    · rw [counterOf_settle]; exact counterOf_snapCleared (d := addressed (hush s.dev)) hclear hset hi
  case done =>
    refine answers_of_exec_eq_run (exec_tsnapDone s) ?_
    rw [tsnapDone_of_busy (d := hush s.dev) hbusy]
    refine ⟨?_, ?_, ?_, ?_, ?_, ?_, ?_⟩
    · simp [raiseIrq]
    · rw [irq_settle _ (by decide)]; exact irq_raiseIrq_self _ (by decide)
    · rw [armed_settle]; exact armed_disarm_self .snap _
    · simp [raiseIrq]
    · simp [raiseIrq]
    · simp
    · exact (around_hush s.dev).onHw.disarm.raiseIrq.settle.sameRest (by simp)
  case doneIdle =>
    refine answers_of_exec_eq_run (exec_tsnapDone s) ?_
    rw [tsnapDone_of_idle (d := hush s.dev) hidle]
    exact became_settle _

end Sys2Proof.Proofs.ShapersAndTally

/-! SUPPORT. The fall of a link (R426) and the residues: a state whose residue names a class that no port has, and the obligation on
links and PAUSE, which that state refutes. -/

namespace Sys2Proof.Proofs.LinksAndPause

open Sys2Proof Sys2Proof.Machine Sys2Proof.Safety
open Sys2Proof.Proofs.ShapersAndTally (queueOf_settle)

/-- The queues of all ports stand in one table, eight to a port, so that a class past 7 names a queue of the next port. -/
theorem queueOf_classes_past (d : Dev) (p c : Nat) : queueOf d p (8 + c) = queueOf d (p + 1) c := by
  simp only [queueOf, show 8 * p + (8 + c) = 8 * (p + 1) + c by omega]

theorem exec_linkDown (p : SPort) (s : State) : exec (.linkDown p) s = run (linkDown p.val) s := rfl

/-- What LINK_DOWN answers is the settled effect. -/
theorem of_answers_linkDown {p : SPort} {s : State} {P : Dev → Prop} (h : Answers (.linkDown p) s P) :
    P (settle (linkDown p.val (hush s.dev))) := by
  obtain ⟨t, hexec, -, hP⟩ := h
  rw [exec_linkDown, run_next] at hexec
  obtain rfl := Host.Outcome.next.inj hexec
  exact hP

/-- A copy of one cell received on port 10, with no charge. -/
def oneCell : Copy :=
  { frame := 1, cells := 1, fold := 0, common := 0, head := 0, stamp := 0, fromPort := 10, octets := [], tagVid := none,
    pcp := none, mirror := false, cut := false, punt := none }

/-- A running fabric whose port 9 is up with one copy in queue (9, 0), charged to common, while a residue copy waits for class 8
of port 8. -/
def residueOfClassEight : State :=
  { State.reset with
    dev := { Dev.reset with
      aon := { Aon.reset with power := .active }
      boot := { Boot.reset with stage := .ready }
      otp := { Otp.reset with variant := 0 }
      fab := { Fabric.reset with
        ports := [(9, { SwPort.reset with link := true, speed := 1000 })]
        queues := [(72, { Queue.reset with copies := [{ oneCell with common := 1 }], comUse := 1 })]
        residues := [⟨2, us, [⟨8, 8, { oneCell with frame := 2 }⟩]⟩] } } }

/-- Dropping the copy of queue (9, 0) frees a cell of common, and the residue copy takes its place. -/
theorem frame_of_queue_after_linkDown :
    (queueOf (linkDown 9 (hush residueOfClassEight.dev)) 8 8).copies.map (·.frame) = [2] := by decide +kernel

/-- Refutes O53 at its words "nothing is left for the port": the residues of a state are not bound to classes 0 to 7, and a residue
copy for class 8 of port 8 enters queue (9, 0) once LINK_DOWN of port 9 has emptied it. -/
theorem not_linksAndPause : ¬ Obligations.LinksAndPause := by
  rintro ⟨-, -, -, hlinkDown, -⟩
  obtain ⟨hdown, -⟩ := hlinkDown residueOfClassEight 9 (by decide)
  obtain ⟨-, -, -, -, hempty, -⟩ := of_answers_linkDown hdown
  have hnil : (queueOf (linkDown 9 (hush residueOfClassEight.dev)) 9 0).copies = [] := by
    simpa using hempty 0 (by decide)
  have hleft := frame_of_queue_after_linkDown
  rw [queueOf_classes_past _ 8 0, hnil] at hleft
  exact absurd hleft (by decide)

end Sys2Proof.Proofs.LinksAndPause

/-! SUPPORT. The step, the queue, the invariant of the flags, the timers and the state after reset (log entries 1, 2 and 6): what
idle time changes, what arming and expiry make of the list of timers, and the obligations on them. -/

namespace Sys2Proof.Proofs.StepAndTimers

open Sys2Proof Sys2Proof.Machine Sys2Proof.Safety

/-! ### The step -/

theorem step_of_pending_nil {s : State} (h : s.pending = []) : step s = .next (idleTick s) := by simp [step, h]

theorem step_of_pending_cons {s : State} {c : Instr} {rest : List Instr} (h : s.pending = c :: rest) :
    step s = exec c { s with pending := rest } := by simp [step, h]

/-- Settles O1. -/
theorem stepRunsFrontCommand : Obligations.StepRunsFrontCommand := fun _ _ _ h => step_of_pending_cons h

/-- In one tick the timebase advances by the tick and RATE_TRIM, with nothing lost to rounding. -/
theorem elapse_tick_tm (d : Dev) : (elapse Config.tickNs d).tm =
    if ttbRuns d then { d.tm with tb := d.tm.tb + BitVec.ofInt 96 (8 * 2 ^ 32 + d.tm.rateTrim) } else d.tm := by
  have hround : ((8 : Int) * 2 ^ 32 + d.tm.rateTrim) * (8 : Int) / 8 = 8 * 2 ^ 32 + d.tm.rateTrim :=
    Int.mul_ediv_cancel _ (by decide)
  simp only [elapse, Config.tickNs, Nat.cast_ofNat, hround]

/-- Settles O2: an idle step is one tick. -/
theorem emptyQueueTick : Obligations.EmptyQueueTick := by
  intro s hempty
  refine ⟨idleTick s, step_of_pending_nil hempty, hempty, rfl, ?_, rfl⟩
  exact elapse_tick_tm (endEvents s.dev)

/-- Settles O3: an idle step answers, and so does every command, whose meaning is an effect that leaves the queue alone. -/
theorem stepNeverStops : Obligations.StepNeverStops := by
  intro s
  cases hpending : s.pending with
  | nil => exact ⟨idleTick s, step_of_pending_nil hpending, hpending⟩
  | cons c rest =>
    obtain ⟨f, hf⟩ := exec_run c { s with pending := rest }
    exact ⟨_, (step_of_pending_cons hpending).trans (hf.trans (run_next f _)), rfl⟩

/-! ### The flags -/

/-- No condition of Table 4-15 depends on the clock or on the events of a tick. -/
theorem inv_idleTick {s : State} (h : Inv s) : Inv (idleTick s) := by
  obtain ⟨hport, halarms⟩ := h
  refine ⟨hport, fun hserves => ?_⟩
  have hcond : condAlarms (idleTick s).dev = condAlarms s.dev := by
    obtain ⟨tb, htb⟩ := elapse_tm Config.tickNs (endEvents s.dev)
    have htm : (idleTick s).dev.tm.state = s.dev.tm.state := by
      rw [show (idleTick s).dev.tm = _ from htb]; rfl
    unfold condAlarms
    rw [htm]
    rfl
  rw [hcond]
  exact halarms hserves

/-- Settles O4: a command ends with the flags settled, and an idle tick changes nothing that they follow from. -/
theorem flagsInvariantKept : Obligations.FlagsInvariantKept := by
  intro s t hinv hstep
  cases hpending : s.pending with
  | nil =>
    rw [step_of_pending_nil hpending] at hstep
    obtain rfl := Host.Outcome.next.inj hstep
    exact inv_idleTick hinv
  | cons c rest =>
    obtain ⟨f, hf⟩ := exec_run c { s with pending := rest }
    rw [step_of_pending_cons hpending, hf, run_next] at hstep
    obtain rfl := Host.Outcome.next.inj hstep
    exact run_inv f _

/-! ### Timers -/

theorem find_filter_ne_self (t : Timer) (l : List (Timer × Nat)) :
    (l.filter fun x => x.1 ≠ t).find? (fun x => x.1 == t) = none := by
  simp [List.find?_eq_none]

theorem find_filter_ne_other {t u : Timer} (h : u ≠ t) (l : List (Timer × Nat)) :
    (l.filter fun x => x.1 ≠ t).find? (fun x => x.1 == u) = l.find? fun x => x.1 == u := by
  rw [List.find?_filter]
  congr 1
  funext x
  by_cases hx : x.1 = u <;> simp [hx, h]

theorem any_filter_ne_other {t u : Timer} (h : u ≠ t) (l : List (Timer × Nat)) :
    (l.filter fun x => x.1 ≠ t).any (fun x => x.1 == u) = l.any fun x => x.1 == u := by
  rw [List.any_filter]
  congr 1
  funext x
  by_cases hx : x.1 = u <;> simp [hx, h]

@[simp] theorem armed_arm_self (t : Timer) (ns : Nat) (d : Dev) : armed t (arm t ns d) = true := by
  simp [armed, arm, armAt]

@[simp] theorem timeLeft_arm_self (t : Timer) (ns : Nat) (d : Dev) : timeLeft t (arm t ns d) = ns := by
  have hfind : (arm t ns d).timers.find? (fun x => x.1 == t) = some (t, d.now + ns) := by
    simp only [arm, armAt, List.find?_append, find_filter_ne_self]
    simp
  simp [timeLeft, hfind]

theorem timeLeft_arm_other {t u : Timer} (ns : Nat) (d : Dev) (h : u ≠ t) : timeLeft u (arm t ns d) = timeLeft u d := by
  have hfind : (arm t ns d).timers.find? (fun x => x.1 == u) = d.timers.find? fun x => x.1 == u := by
    simp only [arm, armAt, List.find?_append, find_filter_ne_other h]
    simp [Ne.symm h]
  simp only [timeLeft, hfind]
  rfl

theorem armed_arm_other {t u : Timer} (ns : Nat) (d : Dev) (h : u ≠ t) : armed u (arm t ns d) = armed u d := by
  simp only [armed, arm, armAt, List.any_append, any_filter_ne_other h]
  simp [Ne.symm h]

theorem timeLeft_elapse (t : Timer) (ns : Nat) (d : Dev) : timeLeft t (elapse ns d) = timeLeft t d - ns := by
  simp only [timeLeft, elapse_timers, elapse_now]
  split <;> omega

/-- Settles O6. -/
theorem timersKeepTime : Obligations.TimersKeepTime := by
  refine ⟨fun t ns d => ⟨armed_arm_self t ns d, timeLeft_arm_self t ns d⟩,
    fun t u ns d h => ⟨timeLeft_arm_other ns d h, armed_arm_other ns d h⟩, fun t ns d => timeLeft_elapse t ns d,
    fun t d => ⟨?_, ShapersAndTally.armed_disarm_self t _⟩⟩
  rw [reach, timeLeft_elapse, Nat.sub_self]

/-! ### The state after reset -/

/-- Settles O5: every table of the state after reset is empty, so that each value is the default that its table gives. -/
theorem resetState : Obligations.ResetState := by
  refine ⟨⟨by decide, fun hserves => absurd hserves (by decide)⟩, rfl, rfl, fun _ => rfl, rfl, rfl, rfl, rfl, rfl, rfl, rfl,
    fun _ => ⟨rfl, rfl⟩, fun _ => ⟨rfl, rfl⟩, fun _ _ => rfl, by decide, by decide⟩

end Sys2Proof.Proofs.StepAndTimers


/-! SUPPORT. The memories and the element store: equal reads are equal canonical tables, erasing a sector, what the journal's writes
keep of the flash, and the obligation on the stores. -/

namespace Sys2Proof.Proofs.Stores

open Sys2Proof Sys2Proof.Machine Sys2Proof.Safety
open Sys2Proof.Proofs.ShapersAndTally (readBytes_writeBytes)

/-! ### Canonical tables -/

variable {α : Type}

/-- A canonical table lists nothing below its lower bound. -/
theorem tfind_eq_none_of_twfFrom [DecidableEq α] (dflt : α) : ∀ (t : Tbl α) {lo i : Nat}, twfFrom dflt lo t = true → i < lo →
    tfind t i = none
  | [], _, _, _, _ => rfl
  | (k, v) :: t, lo, i, h, hi => by
    simp only [twfFrom, Bool.and_eq_true, decide_eq_true_eq] at h
    obtain ⟨⟨hlo, -⟩, hrest⟩ := h
    have hk : (k == i) = false := by simp; omega
    simp only [tfind, hk, Bool.false_eq_true, if_false]
    exact tfind_eq_none_of_twfFrom dflt t hrest (by omega)

/-- In a canonical table the first entry is the one that its key reads as, and no other table entry of a lower key exists. -/
theorem tget_cons_self (dflt : α) (k : Nat) (v : α) (t : Tbl α) : tget dflt ((k, v) :: t) k = v := by simp [tget, tfind]

theorem tget_cons_other (dflt : α) {k i : Nat} (v : α) (t : Tbl α) (h : k ≠ i) :
    tget dflt ((k, v) :: t) i = tget dflt t i := by simp [tget, tfind, h]

theorem tget_of_twfFrom [DecidableEq α] {dflt : α} {t : Tbl α} {lo i : Nat} (h : twfFrom dflt lo t = true) (hi : i < lo) :
    tget dflt t i = dflt := by simp [tget, tfind_eq_none_of_twfFrom dflt t h hi]

/-- Canonical tables that read alike are the same table. -/
theorem eq_of_tget_eq [DecidableEq α] (dflt : α) : ∀ (t u : Tbl α) {lo : Nat}, twfFrom dflt lo t = true →
    twfFrom dflt lo u = true → (∀ i, tget dflt t i = tget dflt u i) → t = u
  | [], [], _, _, _, _ => rfl
  | [], (k, v) :: u, _, _, hu, h => by
    simp only [twfFrom, Bool.and_eq_true, decide_eq_true_eq] at hu
    exact absurd ((h k).trans (tget_cons_self dflt k v u)).symm hu.1.2
  | (k, v) :: t, [], _, ht, _, h => by
    simp only [twfFrom, Bool.and_eq_true, decide_eq_true_eq] at ht
    exact absurd ((tget_cons_self dflt k v t).symm.trans (h k)) ht.1.2
  | (k, v) :: t, (l, w) :: u, lo, ht, hu, h => by
    simp only [twfFrom, Bool.and_eq_true, decide_eq_true_eq] at ht hu
    obtain ⟨⟨-, hv⟩, ht⟩ := ht
    obtain ⟨⟨-, hw⟩, hu⟩ := hu
    rcases Nat.lt_trichotomy k l with hkl | rfl | hkl
    · have hk := h k
      rw [tget_cons_self, tget_cons_other _ _ _ (by omega), tget_of_twfFrom hu (by omega)] at hk
      exact absurd hk hv
    · have hk := h k
      rw [tget_cons_self, tget_cons_self] at hk
      subst hk
      congr 1
      refine eq_of_tget_eq dflt t u ht hu fun i => ?_
      by_cases hi : k = i
      · subst hi
        rw [tget_of_twfFrom ht (by omega), tget_of_twfFrom hu (by omega)]
      · have := h i
        rwa [tget_cons_other _ _ _ hi, tget_cons_other _ _ _ hi] at this
    · have hl := h l
      rw [tget_cons_self, tget_cons_other _ _ _ (by omega), tget_of_twfFrom ht (by omega)] at hl
      exact absurd hl.symm hw

/-- Taking the keys out that `p` refuses leaves the others as they read. -/
theorem tget_filter (dflt : α) (p : Nat → Bool) (t : Tbl α) (i : Nat) :
    tget dflt (t.filter fun x => p x.1) i = if p i then tget dflt t i else dflt := by
  induction t with
  | nil => simp [tget, tfind]
  | cons x t ih =>
    obtain ⟨k, v⟩ := x
    by_cases hk : k = i
    · subst hk
      cases hp : p k
      · simpa [List.filter_cons, hp] using ih
      · simp [hp, tget_cons_self]
    · cases hp : p k
      · simpa [List.filter_cons, hp, tget_cons_other dflt v t hk] using ih
      · simpa [List.filter_cons, hp, tget_cons_other dflt v _ hk] using ih

/-! ### Memories -/

theorem eraseSector_wf (base : Nat) {m : Mem} (h : Memory.wf erased m = true) : Memory.wf erased (eraseSector base m) = true :=
  twfFrom_filter erased _ m 0 h

theorem byteAt_eraseSector (base : Nat) (m : Mem) (a : Nat) :
    byteAt erased (eraseSector base m) a = if base ≤ a ∧ a < base + 65536 then erased else byteAt erased m a := by
  rw [byteAt, eraseSector, tget_filter erased (fun a => decide (a < base) || decide (base + 65536 ≤ a)) m a]
  by_cases h : base ≤ a ∧ a < base + 65536
  · rw [if_pos h, if_neg (by simp only [Bool.or_eq_true, decide_eq_true_eq]; omega)]
  · rw [if_neg h, if_pos (by simp only [Bool.or_eq_true, decide_eq_true_eq]; omega)]
    rfl

/-! ### The journal's writes of the flash -/

theorem journalFault_flash (attempt : Bool) (d : Dev) : (journalFault attempt d).flash = d.flash := rfl

/-- The flash that a compaction leaves is what it was, or both sectors erased and one written. -/
theorem compact_flash_wf {d : Dev} (h : Memory.wf erased d.flash = true) : Memory.wf erased (compact d).flash = true := by
  unfold compact
  dsimp only
  split
  · exact h
  · exact eraseSector_wf _ (writeBytes_wf _ _ _ _ (writeBytes_wf _ _ _ _ (eraseSector_wf _ h)))

theorem formatKeep_flash_wf {d : Dev} (h : Memory.wf erased d.flash = true) : Memory.wf erased (formatKeep d).flash = true := by
  unfold formatKeep
  split
  · exact h
  · simp only [onOd_flash]
    exact writeBytes_wf _ _ _ _ (eraseSector_wf _ h)

theorem appendPending_flash_wf {d : Dev} (h : Memory.wf erased d.flash = true) :
    Memory.wf erased (appendPending d).flash = true := by
  unfold appendPending
  dsimp only
  split
  · exact h
  split
  · exact compact_flash_wf h
  have hwritten := writeBytes_wf erased (pendingOctets d.od.pendingJournal d.od.serial) d.flash
    (sectorBase d.od.sector + d.od.fill) h
  split
  · exact compact_flash_wf (by simpa using hwritten)
  · simpa using hwritten

/-! ### The element store -/

theorem elKey_inj {obj el obj' el' : Nat} (h : el < 256) (h' : el' < 256) (hkey : elKey obj' el' = elKey obj el) :
    (obj', el') = (obj, el) := by
  simp only [elKey] at hkey
  exact Prod.ext (by simp only; omega) (by simp only; omega)

@[simp] theorem odDefault_setCfg (obj el v : Nat) (d : Dev) (o e : Nat) : odDefault (setCfg obj el v d) o e = odDefault d o e := rfl

theorem cfg_eq_getD (d : Dev) (obj el : Nat) : cfg d obj el = (tfind d.od.cfg (elKey obj el)).getD (odDefault d obj el) := by
  unfold cfg; split <;> simp_all

theorem tfind_setCfg_self (obj el v : Nat) (d : Dev) :
    (tfind (setCfg obj el v d).od.cfg (elKey obj el)).getD (odDefault d obj el) = v := by
  simp only [setCfg, onOd_od]
  split
  · simp [tfind_terase_self, *]
  · simp [tfind_tput_self]

theorem tfind_setCfg_other {obj el key : Nat} (v : Nat) (d : Dev) (h : key ≠ elKey obj el) :
    tfind (setCfg obj el v d).od.cfg key = tfind d.od.cfg key := by
  simp only [setCfg, onOd_od]
  split
  · exact tfind_terase_other _ h
  · exact tfind_tput_other _ _ h

theorem cfg_setCfg_self (obj el v : Nat) (d : Dev) : cfg (setCfg obj el v d) obj el = v := by
  rw [cfg_eq_getD, odDefault_setCfg, tfind_setCfg_self]

theorem cfg_setCfg_other {obj el obj' el' : Nat} (v : Nat) (d : Dev) (h : el < 256) (h' : el' < 256)
    (hne : (obj', el') ≠ (obj, el)) : cfg (setCfg obj el v d) obj' el' = cfg d obj' el' := by
  rw [cfg_eq_getD, odDefault_setCfg, tfind_setCfg_other v d fun e => hne (elKey_inj h h' e), cfg_eq_getD]

theorem sel_setSel_self (s obj el v : Nat) (d : Dev) : sel (setSel s obj el v d) s obj el = v := by
  have hdflt : odDefault (setSel s obj el v d) obj el = odDefault d obj el := rfl
  unfold sel
  rw [hdflt]
  simp only [setSel, onOd_od]
  split
  · simp [tfind_terase_self, *]
  · simp [tfind_tput_self]

/-- Settles O60. -/
theorem storesReadBack : Obligations.StoresReadBack :=
  ⟨fun x m a bs h => ⟨writeBytes_wf x bs m a h, readBytes_writeBytes x m a bs,
      fun c hc => byteAt_writeBytes_outside x bs m a c hc⟩,
    fun m base h => ⟨eraseSector_wf base h, byteAt_eraseSector base m⟩,
    fun x m n hm hn h => eq_of_tget_eq x m n hm hn h,
    fun _ h => ⟨appendPending_flash_wf h, compact_flash_wf h, formatKeep_flash_wf h⟩,
    fun d obj el v _ => cfg_setCfg_self obj el v d,
    fun d _ _ _ _ v h h' hne => cfg_setCfg_other v d h h' hne,
    fun d s obj el v _ _ _ => sel_setSel_self s obj el v d⟩

end Sys2Proof.Proofs.Stores


/-! SUPPORT. Frames. `Only S t d` says that `t` is `d` but for what the parts in `S` name; each operation of the model gets one lemma
that says which parts it touches, and what an obligation says of the planes that stand follows by composition. -/

namespace Sys2Proof.Proofs.Frames

open Sys2Proof Sys2Proof.Machine Sys2Proof.Safety

/-! ### Timers by owner -/

/-- Who a timer belongs to: a cable port, the switch, the engine of the object dictionary, or none of them. -/
inductive Owner where
  | port (n : Nat) | switch | engine | none
  deriving DecidableEq

/-- The owner of a timer. -/
@[simp] def Owner.of : Timer → Owner
  | .ccDebounce n | .ccShort n | .ccShortRe n | .guard n | .guardEnd n | .vdm n | .linkUp n | .waitReoffer n | .tsrc n
  | .tsrcRecover n | .eprKeep n | .sinkKeep n | .srcPps n | .sender n | .crcRx n | .srcCap n | .psTrans n | .sinkReq n | .chunk n
  | .chunkResp n | .hardDone n | .errRec n | .tryWait n | .noResponse n | .auth n | .drp n | .window n | .shortRetry n
  | .inrushRetry n | .discharge n => .port n
  | .pause _ | .pauseOff _ | .sweep | .residue _ | .phy _ | .stash | .flushEnd | .scrub | .refill | .exports | .mordant .. => .switch
  | .sessionIdle _ | .nonce _ | .lockout | .bundle _ | .notify .. | .journal | .respSent | .snap => .engine
  | _ => .none

/-! ### Parts and views -/

/-- What an operation may change. `od` is all of the engine's record, `odBook` what no element's value and no session is kept in;
`irq` is IRQ_STATUS and IRQ_PORT; `fence p` the fence of a port, `sends` what a port is
sending, and `fab` all of the switch core beside them; `usb2` the USB 2.0
pairs that the ports hold; `shepDue` that a step is due and since when; `policers` those of the classifier. -/
inductive Part where
  | now | free | timers | timer (t : Timer) | timersOf (o : Owner) | out | flash | aon | boot | od | odBook | sessions | hw | irq
  | cables | cable (n : Nat) | usb2 | slots | slot (s : Nat) | shep | shepDue | ng | tm | fab | fence (p : Nat) | sends | st | rt | cls | policers
  | heat | otp
  deriving DecidableEq

/-- What is read of a device. -/
inductive View where
  | now | free | timers | timer (t : Timer) | out | flash | aon | boot | od | odCfg | cfgs | sessions | hw | hwRest | cables
  | cable (n : Nat) | cableBut (n : Nat) | slots | slot (s : Nat) | shep | shepRest | ng | tm | fab | fenced (p : Nat) | sending (p : Nat) | st | rt | cls | clsBut
  | heat | otp

/-- Whether a change of the part may be seen in the view. -/
def Part.seenIn : Part → View → Bool
  | .now, .now | .free, .free | .out, .out | .flash, .flash | .aon, .aon | .boot, .boot | .slots, .slots | .shep, .shep | .ng, .ng
  | .tm, .tm | .fab, .fab | .st, .st | .rt, .rt | .heat, .heat => true
  | .slots, .slot _ | .slot _, .slots | .shep, .shepRest | .shepDue, .shep => true
  | .slot s, .slot s' => decide (s = s')
  | .timers, .timers | .timers, .timer _ | .timer _, .timers | .timersOf _, .timers => true
  | .timer t, .timer u => decide (t = u)
  | .timersOf o, .timer u => decide (Owner.of u = o)
  | .od, .od | .od, .odCfg | .od, .cfgs | .od, .sessions | .odBook, .od | .sessions, .od | .sessions, .sessions => true
  | .hw, .hw | .hw, .hwRest | .irq, .hw => true
  | .cables, .cables | .cables, .cable _ | .cables, .cableBut _ | .cable _, .cables | .usb2, .cables | .usb2, .cable _ => true
  | .cable n, .cable m | .cable n, .cableBut m => decide (n = m)
  | .fence _, .fab | .sends, .fab | .sends, .sending _ => true
  | .fence p, .fenced q => decide (p = q)
  | .cls, .cls | .cls, .clsBut | .policers, .cls => true
  | .otp, .otp | .otp, .cfgs => true
  | _, _ => false

/-- No change of a part shows in the view. -/
@[simp] def Clear (S : List Part) (v : View) : Bool := S.all fun q => !q.seenIn v

theorem unseen {S : List Part} {v : View} (h : Clear S v = true) (q : Part) (hq : q ∈ S) : q.seenIn v = false := by
  simpa using List.all_eq_true.mp h q hq

theorem clear_of_all {S : List Part} {l : List View} (h : l.all (Clear S) = true) {v : View} (hv : v ∈ l) : Clear S v = true :=
  List.all_eq_true.mp h v hv

/-- The two devices read alike in a view. -/
def View.Agrees : View → Dev → Dev → Prop
  | .now, t, d => t.now = d.now
  | .free, t, d => t.free = d.free
  | .timers, t, d => t.timers = d.timers
  | .timer u, t, d => (t.timers.filter fun x => x.1 = u) = d.timers.filter fun x => x.1 = u
  | .out, t, d => t.out = d.out
  | .flash, t, d => t.flash = d.flash
  | .aon, t, d => t.aon = d.aon
  | .boot, t, d => t.boot = d.boot
  | .od, t, d => t.od = d.od
  | .odCfg, t, d => t.od.cfg = d.od.cfg
  | .cfgs, t, d => cfg t = cfg d
  | .sessions, t, d => t.od.sessions = d.od.sessions
  | .hw, t, d => t.hw = d.hw
  | .hwRest, t, d => t.hw = { d.hw with irqStatus := t.hw.irqStatus, irqPort := t.hw.irqPort }
  | .cables, t, d => t.cables = d.cables
  | .cable n, t, d => Machine.cable t n = Machine.cable d n
  | .cableBut n, t, d => Machine.cable t n =
      { Machine.cable d n with usb2Closed := (Machine.cable t n).usb2Closed, usb2Conflict := (Machine.cable t n).usb2Conflict }
  | .slots, t, d => t.slots = d.slots
  | .slot s, t, d => slotOf t s = slotOf d s
  | .shep, t, d => t.shep = d.shep
  | .shepRest, t, d => t.shep = { d.shep with stepDue := t.shep.stepDue, shedEventAt := t.shep.shedEventAt }
  | .ng, t, d => t.ng = d.ng
  | .tm, t, d => t.tm = d.tm
  | .fab, t, d => t.fab = d.fab
  | .fenced p, t, d => (swPort t p).fenced = (swPort d p).fenced
  | .sending p, t, d => (swPort t p).sending = (swPort d p).sending
  | .st, t, d => t.st = d.st
  | .rt, t, d => t.rt = d.rt
  | .cls, t, d => t.cls = d.cls
  | .clsBut, t, d => t.cls = { d.cls with policers := t.cls.policers }
  | .heat, t, d => t.heat = d.heat
  | .otp, t, d => t.otp = d.otp

theorem View.Agrees.refl (v : View) (d : Dev) : v.Agrees d d := by cases v <;> simp [Agrees]

theorem View.Agrees.symm {v : View} {t d : Dev} (h : v.Agrees t d) : v.Agrees d t := by
  cases v <;> simp only [Agrees] at h ⊢
  case cableBut n => rw [h]
  case hwRest => rw [h]
  case shepRest => rw [h]
  case clsBut => rw [h]
  all_goals exact h.symm

theorem View.Agrees.trans {v : View} {t u d : Dev} (h : v.Agrees t u) (h' : v.Agrees u d) : v.Agrees t d := by
  cases v <;> simp only [Agrees] at h h' ⊢
  case cableBut n => rw [h, h']
  case hwRest => rw [h, h']
  case shepRest => rw [h, h']
  case clsBut => rw [h, h']
  all_goals exact h.trans h'

/-! ### Frames -/

/-- `t` is `d` but for what the parts in `S` name. -/
def Only (S : List Part) (t d : Dev) : Prop := ∀ v : View, Clear S v = true → v.Agrees t d

/-- Whether a part covers another: what shows a change of the second shows one of the first. -/
def Part.covers : Part → Part → Bool
  | .timers, .timer _ | .timers, .timersOf _ | .od, .odBook | .od, .sessions | .hw, .irq | .cables, .cable _ | .cables, .usb2
  | .cls, .policers | .slots, .slot _ | .shep, .shepDue => true
  | .timersOf o, .timer t => decide (Owner.of t = o)
  | p, q => decide (p = q)

theorem Part.seenIn_of_covers {p q : Part} (h : p.covers q = true) {v : View} (hv : q.seenIn v = true) : p.seenIn v = true := by
  unfold covers at h
  split at h
  case h_12 => simpa [of_decide_eq_true h] using hv
  all_goals cases v <;> simp_all [seenIn]

@[simp] theorem Part.covers_self (p : Part) : p.covers p = true := by
  unfold covers
  split
  simp_all

@[simp] theorem Part.timers_covers_timer (t : Timer) : Part.covers .timers (.timer t) = true := rfl
@[simp] theorem Part.timers_covers_timersOf (o : Owner) : Part.covers .timers (.timersOf o) = true := rfl
@[simp] theorem Part.timersOf_covers (o : Owner) (t : Timer) : Part.covers (.timersOf o) (.timer t) = decide (Owner.of t = o) := rfl
@[simp] theorem Part.od_covers_odBook : Part.covers .od .odBook = true := rfl
@[simp] theorem Part.od_covers_sessions : Part.covers .od .sessions = true := rfl
@[simp] theorem Part.hw_covers_irq : Part.covers .hw .irq = true := rfl
@[simp] theorem Part.cables_covers_cable (n : Nat) : Part.covers .cables (.cable n) = true := rfl
@[simp] theorem Part.cables_covers_usb2 : Part.covers .cables .usb2 = true := rfl
@[simp] theorem Part.cls_covers_policers : Part.covers .cls .policers = true := rfl
@[simp] theorem Part.shep_covers_shepDue : Part.covers .shep .shepDue = true := rfl
@[simp] theorem Part.slots_covers_slot (s : Nat) : Part.covers .slots (.slot s) = true := rfl

/-- Every part of `T` is covered by one of `S`. -/
@[simp] def Within (T S : List Part) : Bool := T.all fun q => S.any fun p => p.covers q

theorem Only.refl (S : List Part) (d : Dev) : Only S d d := fun v _ => .refl v d

theorem Only.trans {S : List Part} {t u d : Dev} (h : Only S t u) (h' : Only S u d) : Only S t d :=
  fun v hv => (h v hv).trans (h' v hv)

theorem Only.mono {S T : List Part} {t d : Dev} (h : Only T t d) (hST : Within T S = true) : Only S t d := by
  refine fun v hv => h v (List.all_eq_true.mpr fun q hq => ?_)
  simp only [Within, List.all_eq_true, List.any_eq_true] at hST
  obtain ⟨p, hp, hpq⟩ := hST q hq
  have hpv := unseen hv p hp
  cases hqv : q.seenIn v
  · rfl
  · rw [Part.seenIn_of_covers hpq hqv] at hpv
    cases hpv

/-- One operation taken off the front: what remains is the frame of the rest. -/
theorem Only.iff {S T : List Part} {t u d : Dev} (h : Only T t u) (hST : Within T S = true) : Only S t d ↔ Only S u d := by
  have hS := h.mono hST
  refine ⟨fun ht v hv => ((hS v hv).symm).trans (ht v hv), fun hu => hS.trans hu⟩

theorem Only.foldl {S : List Part} {α : Type} {f : Dev → α → Dev} (l : List α) (hf : ∀ d, ∀ a ∈ l, Only S (f d a) d) (d : Dev) :
    Only S (l.foldl f d) d :=
  List.foldlRecOn (motive := fun u => Only S u d) l f (.refl S d) fun u hu a ha => (hf u a ha).trans hu

@[simp] theorem only_refl (S : List Part) (d : Dev) : Only S d d := .refl S d

/-- A branch of the model, taken or not. -/
@[simp] theorem only_ite {S : List Part} {c : Prop} [Decidable c] {a b e : Dev} :
    Only S (if c then a else b) e ↔ (c → Only S a e) ∧ (¬ c → Only S b e) := by split <;> simp_all

section Reading
variable {S : List Part} {t d : Dev} (h : Only S t d)
include h

theorem Only.now (hS : Clear S .now = true) : t.now = d.now := h .now hS
theorem Only.out (hS : Clear S .out = true) : t.out = d.out := h .out hS
theorem Only.timers (hS : Clear S .timers = true) : t.timers = d.timers := h .timers hS
theorem Only.timer (u : Timer) (hS : Clear S (.timer u) = true) :
    (t.timers.filter fun x => x.1 = u) = d.timers.filter fun x => x.1 = u := h (.timer u) hS
theorem Only.mem_timers (u : Timer) (hS : Clear S (.timer u) = true) (a : Nat) : (u, a) ∈ t.timers ↔ (u, a) ∈ d.timers := by
  have hmem := congrArg ((u, a) ∈ ·) (h.timer u hS)
  simpa using hmem
theorem Only.armed (u : Timer) (hS : Clear S (.timer u) = true) : Machine.armed u t = Machine.armed u d := by
  have hany (l : List (Timer × Nat)) : (l.any fun x => x.1 == u) = !(l.filter fun x => x.1 = u).isEmpty := by
    induction l with
    | nil => rfl
    | cons x l ih => by_cases hx : x.1 = u <;> simp_all
  simp only [Machine.armed, hany, h.timer u hS]
theorem Only.runsFor (u : Timer) {ns : Nat} (hS : Clear S (.timer u) = true) (hnow : t.now = d.now) :
    runsFor u ns t ↔ runsFor u ns d := by
  unfold Safety.runsFor
  rw [hnow]
  exact h.mem_timers u hS _
theorem Only.flash (hS : Clear S .flash = true) : t.flash = d.flash := h .flash hS
theorem Only.aon (hS : Clear S .aon = true) : t.aon = d.aon := h .aon hS
theorem Only.boot (hS : Clear S .boot = true) : t.boot = d.boot := h .boot hS
theorem Only.od (hS : Clear S .od = true) : t.od = d.od := h .od hS
theorem Only.odCfg (hS : Clear S .odCfg = true) : t.od.cfg = d.od.cfg := h .odCfg hS
theorem Only.cfg (hS : Clear S .cfgs = true) (obj el : Nat) : Machine.cfg t obj el = Machine.cfg d obj el :=
  congrFun (congrFun (h .cfgs hS) obj) el
theorem Only.sessions (hS : Clear S .sessions = true) : t.od.sessions = d.od.sessions := h .sessions hS
theorem Only.hw (hS : Clear S .hw = true) : t.hw = d.hw := h .hw hS
theorem Only.hwRest (hS : Clear S .hwRest = true) :
    t.hw = { d.hw with irqStatus := t.hw.irqStatus, irqPort := t.hw.irqPort } := h .hwRest hS
theorem Only.cables (hS : Clear S .cables = true) : t.cables = d.cables := h .cables hS
theorem Only.cable (n : Nat) (hS : Clear S (.cable n) = true) : Machine.cable t n = Machine.cable d n := h (.cable n) hS
theorem Only.slots (hS : Clear S .slots = true) : t.slots = d.slots := h .slots hS
theorem Only.slot (s : Nat) (hS : Clear S (.slot s) = true) : slotOf t s = slotOf d s := h (.slot s) hS
theorem Only.shep (hS : Clear S .shep = true) : t.shep = d.shep := h .shep hS
theorem Only.shepRest (hS : Clear S .shepRest = true) :
    t.shep = { d.shep with stepDue := t.shep.stepDue, shedEventAt := t.shep.shedEventAt } := h .shepRest hS
theorem Only.ng (hS : Clear S .ng = true) : t.ng = d.ng := h .ng hS
theorem Only.tm (hS : Clear S .tm = true) : t.tm = d.tm := h .tm hS
theorem Only.fab (hS : Clear S .fab = true) : t.fab = d.fab := h .fab hS
theorem Only.fenced (p : Nat) (hS : Clear S (.fenced p) = true) : (swPort t p).fenced = (swPort d p).fenced := h (.fenced p) hS
theorem Only.sending (p : Nat) (hS : Clear S (.sending p) = true) : (swPort t p).sending = (swPort d p).sending := h (.sending p) hS
theorem Only.st (hS : Clear S .st = true) : t.st = d.st := h .st hS
theorem Only.rt (hS : Clear S .rt = true) : t.rt = d.rt := h .rt hS
theorem Only.cls (hS : Clear S .cls = true) : t.cls = d.cls := h .cls hS
theorem Only.heat (hS : Clear S .heat = true) : t.heat = d.heat := h .heat hS
theorem Only.otp (hS : Clear S .otp = true) : t.otp = d.otp := h .otp hS

theorem Only.sameSwitch (hS : [View.fab, .st, .rt, .cls].all (Clear S) = true) : SameSwitch t d :=
  ⟨h.fab (clear_of_all hS (by simp)), h.st (clear_of_all hS (by simp)), h.rt (clear_of_all hS (by simp)), h.cls (clear_of_all hS (by simp))⟩
theorem Only.samePower (hS : [View.cables, .slots, .shep].all (Clear S) = true) : SamePower t d :=
  ⟨h.cables (clear_of_all hS (by simp)), h.slots (clear_of_all hS (by simp)), h.shep (clear_of_all hS (by simp))⟩
theorem Only.sameTime (hS : [View.tm, .ng].all (Clear S) = true) : SameTime t d :=
  ⟨h.tm (clear_of_all hS (by simp)), h.ng (clear_of_all hS (by simp))⟩
theorem Only.sameStores (hS : [View.otp, .flash, .heat].all (Clear S) = true) : SameStores t d :=
  ⟨h.otp (clear_of_all hS (by simp)), h.flash (clear_of_all hS (by simp)), h.heat (clear_of_all hS (by simp))⟩
theorem Only.sameAon (hS : [View.aon, .boot, .now].all (Clear S) = true) : SameAon t d :=
  ⟨h.aon (clear_of_all hS (by simp)), h.boot (clear_of_all hS (by simp)), h.now (clear_of_all hS (by simp))⟩
theorem Only.besidePort (hS : [View.slots, .otp, .flash, .heat, .rt, .clsBut].all (Clear S) = true) : BesidePort t d :=
  ⟨h.slots (clear_of_all hS (by simp)), ⟨h.otp (clear_of_all hS (by simp)), h.flash (clear_of_all hS (by simp)), h.heat (clear_of_all hS (by simp))⟩, h.rt (clear_of_all hS (by simp)),
    h .clsBut (clear_of_all hS (by simp))⟩
theorem Only.othersStand (n : Nat) (hS : ∀ m, m ≠ n → Clear S (.cableBut m) = true) : OthersStand n t d :=
  fun m hm => h (.cableBut m) (hS m hm)
theorem Only.otherCables (n : Nat) (hS : ∀ m, m ≠ n → Clear S (.cable m) = true) (m : Nat) (hm : m ≠ n) :
    Machine.cable t m = Machine.cable d m := h (.cable m) (hS m hm)

end Reading

/-! ### The primitive updates -/

section
variable {S : List Part} {d e : Dev}
@[simp] theorem only_onAon (f : Aon → Aon) (hS : Within [.aon] S = true) : Only S (onAon f d) e ↔ Only S d e := by
  refine Only.iff (T := [.aon]) (fun v hv => ?_) hS
  cases v
  case aon => exact absurd (unseen hv .aon (by simp)) Bool.noConfusion
  all_goals rfl

@[simp] theorem only_onBoot (f : Boot → Boot) (hS : Within [.boot] S = true) : Only S (onBoot f d) e ↔ Only S d e := by
  refine Only.iff (T := [.boot]) (fun v hv => ?_) hS
  cases v
  case boot => exact absurd (unseen hv .boot (by simp)) Bool.noConfusion
  all_goals rfl

@[simp] theorem only_onShep (f : Shepherd → Shepherd) (hS : Within [.shep] S = true) : Only S (onShep f d) e ↔ Only S d e := by
  refine Only.iff (T := [.shep]) (fun v hv => ?_) hS
  cases v
  case shep => exact absurd (unseen hv .shep (by simp)) Bool.noConfusion
  case shepRest => exact absurd (unseen hv .shep (by simp)) Bool.noConfusion
  all_goals rfl

/-- A change of what step is due alone. -/
theorem only_onShep_due {f : Shepherd → Shepherd}
    (hf : f d.shep = { d.shep with stepDue := (f d.shep).stepDue, shedEventAt := (f d.shep).shedEventAt })
    (hS : Within [.shepDue] S = true) : Only S (onShep f d) e ↔ Only S d e := by
  refine Only.iff (T := [.shepDue]) (fun v hv => ?_) hS
  cases v
  case shep => exact absurd (unseen hv .shepDue (by simp)) Bool.noConfusion
  case shepRest => exact hf
  all_goals rfl

@[simp] theorem only_onNg (f : Nguzo → Nguzo) (hS : Within [.ng] S = true) : Only S (onNg f d) e ↔ Only S d e := by
  refine Only.iff (T := [.ng]) (fun v hv => ?_) hS
  cases v
  case ng => exact absurd (unseen hv .ng (by simp)) Bool.noConfusion
  all_goals rfl

@[simp] theorem only_onTm (f : TimeBase → TimeBase) (hS : Within [.tm] S = true) : Only S (onTm f d) e ↔ Only S d e := by
  refine Only.iff (T := [.tm]) (fun v hv => ?_) hS
  cases v
  case tm => exact absurd (unseen hv .tm (by simp)) Bool.noConfusion
  all_goals rfl

@[simp] theorem only_onSt (f : StationTab → StationTab) (hS : Within [.st] S = true) : Only S (onSt f d) e ↔ Only S d e := by
  refine Only.iff (T := [.st]) (fun v hv => ?_) hS
  cases v
  case st => exact absurd (unseen hv .st (by simp)) Bool.noConfusion
  all_goals rfl

@[simp] theorem only_onRt (f : RouteTab → RouteTab) (hS : Within [.rt] S = true) : Only S (onRt f d) e ↔ Only S d e := by
  refine Only.iff (T := [.rt]) (fun v hv => ?_) hS
  cases v
  case rt => exact absurd (unseen hv .rt (by simp)) Bool.noConfusion
  all_goals rfl

@[simp] theorem only_onHeat (f : Heat → Heat) (hS : Within [.heat] S = true) : Only S (onHeat f d) e ↔ Only S d e := by
  refine Only.iff (T := [.heat]) (fun v hv => ?_) hS
  cases v
  case heat => exact absurd (unseen hv .heat (by simp)) Bool.noConfusion
  all_goals rfl

@[simp] theorem only_onOd (f : Od → Od) (hS : Within [.od] S = true) : Only S (onOd f d) e ↔ Only S d e := by
  refine Only.iff (T := [.od]) (fun v hv => ?_) hS
  cases v
  case od => exact absurd (unseen hv .od (by simp)) Bool.noConfusion
  case odCfg => exact absurd (unseen hv .od (by simp)) Bool.noConfusion
  case cfgs => exact absurd (unseen hv .od (by simp)) Bool.noConfusion
  case sessions => exact absurd (unseen hv .od (by simp)) Bool.noConfusion
  all_goals rfl

@[simp] theorem only_onHw (f : HostWin → HostWin) (hS : Within [.hw] S = true) : Only S (onHw f d) e ↔ Only S d e := by
  refine Only.iff (T := [.hw]) (fun v hv => ?_) hS
  cases v
  case hw => exact absurd (unseen hv .hw (by simp)) Bool.noConfusion
  case hwRest => exact absurd (unseen hv .hw (by simp)) Bool.noConfusion
  all_goals rfl

@[simp] theorem only_onCls (f : ClassTab → ClassTab) (hS : Within [.cls] S = true) : Only S (onCls f d) e ↔ Only S d e := by
  refine Only.iff (T := [.cls]) (fun v hv => ?_) hS
  cases v
  case cls => exact absurd (unseen hv .cls (by simp)) Bool.noConfusion
  case clsBut => exact absurd (unseen hv .cls (by simp)) Bool.noConfusion
  all_goals rfl

@[simp] theorem only_onOtp (f : Otp → Otp) (hS : Within [.otp] S = true) : Only S (onOtp f d) e ↔ Only S d e := by
  refine Only.iff (T := [.otp]) (fun v hv => ?_) hS
  cases v
  case otp => exact absurd (unseen hv .otp (by simp)) Bool.noConfusion
  case cfgs => exact absurd (unseen hv .otp (by simp)) Bool.noConfusion
  all_goals rfl

@[simp] theorem only_raiseIrq (i : Nat) (hS : Within [.irq] S = true) : Only S (raiseIrq i d) e ↔ Only S d e := by
  refine Only.iff (T := [.irq]) (fun v hv => ?_) hS
  cases v
  case hw => exact absurd (unseen hv .irq (by simp)) Bool.noConfusion
  all_goals rfl

@[simp] theorem only_raiseIrqPort (i : Nat) (hS : Within [.irq] S = true) : Only S (raiseIrqPort i d) e ↔ Only S d e := by
  refine Only.iff (T := [.irq]) (fun v hv => ?_) hS
  cases v
  case hw => exact absurd (unseen hv .irq (by simp)) Bool.noConfusion
  all_goals rfl

@[simp] theorem only_drawFree  (hS : Within [.free] S = true) : Only S ((drawFree d).2) e ↔ Only S d e := by
  refine Only.iff (T := [.free]) (fun v hv => ?_) hS
  cases v
  case free => exact absurd (unseen hv .free (by simp)) Bool.noConfusion
  all_goals rfl

@[simp] theorem only_setSession (s : Nat) (f : Session → Session) (hS : Within [.sessions] S = true) : Only S (setSession s f d) e ↔ Only S d e := by
  refine Only.iff (T := [.sessions]) (fun v hv => ?_) hS
  cases v
  case od => exact absurd (unseen hv .sessions (by simp)) Bool.noConfusion
  case sessions => exact absurd (unseen hv .sessions (by simp)) Bool.noConfusion
  all_goals rfl

@[simp] theorem only_setFan (n : Nat) (f : Fan → Fan) (hS : Within [.heat] S = true) : Only S (setFan n f d) e ↔ Only S d e := by
  refine Only.iff (T := [.heat]) (fun v hv => ?_) hS
  cases v
  case heat => exact absurd (unseen hv .heat (by simp)) Bool.noConfusion
  all_goals rfl

@[simp] theorem only_setEpoch (k : Nat) (f : Epoch → Epoch) (hS : Within [.tm] S = true) : Only S (setEpoch k f d) e ↔ Only S d e := by
  refine Only.iff (T := [.tm]) (fun v hv => ?_) hS
  cases v
  case tm => exact absurd (unseen hv .tm (by simp)) Bool.noConfusion
  all_goals rfl

@[simp] theorem only_setSel (s obj el v : Nat) (hS : Within [.od] S = true) : Only S (setSel s obj el v d) e ↔ Only S d e := by
  refine Only.iff (T := [.od]) (fun v hv => ?_) hS
  cases v
  case od => exact absurd (unseen hv .od (by simp)) Bool.noConfusion
  case odCfg => exact absurd (unseen hv .od (by simp)) Bool.noConfusion
  case cfgs => exact absurd (unseen hv .od (by simp)) Bool.noConfusion
  case sessions => exact absurd (unseen hv .od (by simp)) Bool.noConfusion
  all_goals rfl

@[simp] theorem only_setCfg (obj el v : Nat) (hS : Within [.od] S = true) : Only S (setCfg obj el v d) e ↔ Only S d e := by
  refine Only.iff (T := [.od]) (fun v hv => ?_) hS
  cases v
  case od => exact absurd (unseen hv .od (by simp)) Bool.noConfusion
  case odCfg => exact absurd (unseen hv .od (by simp)) Bool.noConfusion
  case cfgs => exact absurd (unseen hv .od (by simp)) Bool.noConfusion
  case sessions => exact absurd (unseen hv .od (by simp)) Bool.noConfusion
  all_goals rfl

@[simp] theorem only_setQueue (p c : Nat) (f : Queue → Queue) (hS : Within [.fab] S = true) : Only S (setQueue p c f d) e ↔ Only S d e := by
  refine Only.iff (T := [.fab]) (fun v hv => ?_) hS
  cases v
  case fab => exact absurd (unseen hv .fab (by simp)) Bool.noConfusion
  all_goals rfl

theorem only_setSwPort (p : Nat) (f : SwPort → SwPort) (hS : Within [.fab, .fence p, .sends] S = true) :
    Only S (setSwPort p f d) e ↔ Only S d e := by
  refine Only.iff (T := [.fab, .fence p, .sends]) (fun v hv => ?_) hS
  cases v
  case fab => exact absurd (unseen hv .fab (by simp)) Bool.noConfusion
  case fenced q =>
    have hq : q ≠ p := Ne.symm (of_decide_eq_false (unseen hv (.fence p) (by simp)))
    show (swPort (setSwPort p f d) q).fenced = _
    unfold swPort setSwPort
    rw [tget_tset_other _ _ _ hq]
  case sending q => exact absurd (unseen hv .sends (by simp)) Bool.noConfusion
  all_goals rfl

/-- A change of a switch port is read as the change it makes. -/
theorem swPort_setSwPort_apply {α : Type} {part : SwPort → α} {p : Nat} {f : SwPort → SwPort} (hf : ∀ w, part (f w) = part w) (q : Nat) :
    part (swPort (setSwPort p f d) q) = part (swPort d q) := by
  by_cases hq : q = p
  · subst hq
    unfold swPort setSwPort
    rw [tget_tset_self, hf]
    rfl
  · unfold swPort setSwPort
    rw [tget_tset_other _ _ _ hq]

/-- A change of a switch port that leaves what it sends alone. -/
theorem only_setSwPort_of_sending {p : Nat} {f : SwPort → SwPort} (hf : ∀ w, (f w).sending = w.sending)
    (hS : Within [.fab, .fence p] S = true) : Only S (setSwPort p f d) e ↔ Only S d e := by
  refine Only.iff (T := [.fab, .fence p]) (fun v hv => ?_) hS
  cases v
  case fab => exact absurd (unseen hv .fab (by simp)) Bool.noConfusion
  case fenced q =>
    have hq : q ≠ p := Ne.symm (of_decide_eq_false (unseen hv (.fence p) (by simp)))
    show (swPort (setSwPort p f d) q).fenced = _
    unfold swPort setSwPort
    rw [tget_tset_other _ _ _ hq]
  case sending q => exact swPort_setSwPort_apply hf q
  all_goals rfl

/-- A change of a switch port that leaves its fence alone. -/
theorem only_setSwPort_of_fenced {p : Nat} {f : SwPort → SwPort} (hf : ∀ w, (f w).fenced = w.fenced)
    (hS : Within [.fab, .sends] S = true) : Only S (setSwPort p f d) e ↔ Only S d e := by
  refine Only.iff (T := [.fab, .sends]) (fun v hv => ?_) hS
  cases v
  case fab => exact absurd (unseen hv .fab (by simp)) Bool.noConfusion
  case fenced q => exact swPort_setSwPort_apply hf q
  case sending q => exact absurd (unseen hv .sends (by simp)) Bool.noConfusion
  all_goals rfl

/-- A change of a switch port that leaves its fence and what it sends alone. -/
@[simp] theorem only_setSwPort_of_kept {p : Nat} {f : SwPort → SwPort} (hf : ∀ w, (f w).fenced = w.fenced)
    (hs : ∀ w, (f w).sending = w.sending) (hS : Within [.fab] S = true) : Only S (setSwPort p f d) e ↔ Only S d e := by
  refine Only.iff (T := [.fab]) (fun v hv => ?_) hS
  cases v
  case fab => exact absurd (unseen hv .fab (by simp)) Bool.noConfusion
  case fenced q => exact swPort_setSwPort_apply hf q
  case sending q => exact swPort_setSwPort_apply hs q
  all_goals rfl

/-- A change of the fabric's record that leaves the ports alone. -/
@[simp] theorem only_onFab {f : Fabric → Fabric} (hf : (f d.fab).ports = d.fab.ports) (hS : Within [.fab] S = true) :
    Only S (onFab f d) e ↔ Only S d e := by
  refine Only.iff (T := [.fab]) (fun v hv => ?_) hS
  cases v
  case fab => exact absurd (unseen hv .fab (by simp)) Bool.noConfusion
  case fenced q =>
    show (tget SwPort.reset (f d.fab).ports q).fenced = _
    rw [hf]
    rfl
  case sending q =>
    show (tget SwPort.reset (f d.fab).ports q).sending = _
    rw [hf]
    rfl
  all_goals rfl

@[simp] theorem only_setCable (n : Nat) (f : Cable → Cable) (hS : Within [.cable n] S = true) :
    Only S (setCable n f d) e ↔ Only S d e := by
  refine Only.iff (T := [.cable n]) (fun v hv => ?_) hS
  cases v
  case cables => exact absurd (unseen hv (.cable n) (by simp)) Bool.noConfusion
  case cable m =>
    have hm : m ≠ n := Ne.symm (of_decide_eq_false (unseen hv (.cable n) (by simp)))
    exact tget_tset_other _ _ _ hm
  case cableBut m =>
    have hm : m ≠ n := Ne.symm (of_decide_eq_false (unseen hv (.cable n) (by simp)))
    show cable (setCable n f d) m = { cable d m with
      usb2Closed := (cable (setCable n f d) m).usb2Closed, usb2Conflict := (cable (setCable n f d) m).usb2Conflict }
    rw [show cable (setCable n f d) m = cable d m from tget_tset_other _ _ _ hm]
  all_goals rfl

/-- A change of a port's USB 2.0 pair alone. -/
theorem only_setCable_usb2 {n : Nat} {f : Cable → Cable}
    (hf : ∀ c, f c = { c with usb2Closed := (f c).usb2Closed, usb2Conflict := (f c).usb2Conflict }) (hS : Within [.usb2] S = true) :
    Only S (setCable n f d) e ↔ Only S d e := by
  refine Only.iff (T := [.usb2]) (fun v hv => ?_) hS
  cases v
  case cables => exact absurd (unseen hv .usb2 (by simp)) Bool.noConfusion
  case cable m => exact absurd (unseen hv .usb2 (by simp)) Bool.noConfusion
  case cableBut m =>
    show cable (setCable n f d) m = { cable d m with
      usb2Closed := (cable (setCable n f d) m).usb2Closed, usb2Conflict := (cable (setCable n f d) m).usb2Conflict }
    by_cases hm : m = n
    · subst hm
      rw [show cable (setCable m f d) m = f (cable d m) from tget_tset_self _ _ _ _]
      exact hf _
    · rw [show cable (setCable n f d) m = cable d m from tget_tset_other _ _ _ hm]
  all_goals rfl

@[simp] theorem only_setSlot (n : Nat) (f : SlotRec → SlotRec) (hS : Within [.slot n] S = true) :
    Only S (setSlot n f d) e ↔ Only S d e := by
  refine Only.iff (T := [.slot n]) (fun v hv => ?_) hS
  cases v
  case slots => exact absurd (unseen hv (.slot n) (by simp)) Bool.noConfusion
  case slot m =>
    have hm : m ≠ n := Ne.symm (of_decide_eq_false (unseen hv (.slot n) (by simp)))
    exact tget_tset_other _ _ _ hm
  all_goals rfl

theorem filter_eq_filter_of_ne {t u : Timer} (h : u ≠ t) (l : List (Timer × Nat)) :
    ((l.filter fun x => x.1 ≠ t).filter fun x => x.1 = u) = l.filter fun x => x.1 = u := by
  rw [List.filter_filter]
  refine List.filter_congr fun x _ => ?_
  by_cases hx : x.1 = u <;> simp [hx, h]

@[simp] theorem only_armAt (t : Timer) (a : Nat) (hS : Within [.timer t] S = true) : Only S (armAt t a d) e ↔ Only S d e := by
  refine Only.iff (T := [.timer t]) (fun v hv => ?_) hS
  cases v
  case timers => exact absurd (unseen hv (.timer t) (by simp)) Bool.noConfusion
  case timer u =>
    have hu : u ≠ t := Ne.symm (of_decide_eq_false (unseen hv (.timer t) (by simp)))
    show ((armAt t a d).timers.filter fun x => x.1 = u) = _
    rw [armAt, List.filter_append, filter_eq_filter_of_ne hu]
    simp [Ne.symm hu]
  all_goals rfl

@[simp] theorem only_arm (t : Timer) (ns : Nat) (hS : Within [.timer t] S = true) : Only S (arm t ns d) e ↔ Only S d e :=
  only_armAt t _ hS

@[simp] theorem only_disarm (t : Timer) (hS : Within [.timer t] S = true) : Only S (disarm t d) e ↔ Only S d e := by
  refine Only.iff (T := [.timer t]) (fun v hv => ?_) hS
  cases v
  case timers => exact absurd (unseen hv (.timer t) (by simp)) Bool.noConfusion
  case timer u => exact filter_eq_filter_of_ne (Ne.symm (of_decide_eq_false (unseen hv (.timer t) (by simp)))) _
  all_goals rfl

/-- Some timers of one owner stop. -/
theorem only_dropTimers {o : Owner} {p : Timer × Nat → Bool} (hp : ∀ x, p x = false → Owner.of x.1 = o)
    (hS : Within [.timersOf o] S = true) : Only S { d with timers := d.timers.filter p } e ↔ Only S d e := by
  refine Only.iff (T := [.timersOf o]) (fun v hv => ?_) hS
  cases v
  case timers => exact absurd (unseen hv (.timersOf o) (by simp)) Bool.noConfusion
  case timer u =>
    have hu : Owner.of u ≠ o := of_decide_eq_false (unseen hv (.timersOf o) (by simp))
    show ((d.timers.filter p).filter fun x => x.1 = u) = _
    rw [List.filter_filter]
    refine List.filter_congr fun x _ => ?_
    by_cases hx : x.1 = u
    · have : p x = true := by
        by_contra h
        exact hu (hx ▸ hp x (by simpa using h))
      simp [hx, this]
    · simp [hx]
  all_goals rfl

@[simp] theorem only_emit (x : Emission) (hS : Within [.out] S = true) : Only S (emit x d) e ↔ Only S d e := by
  refine Only.iff (T := [.out]) (fun v hv => ?_) hS
  unfold emit
  split
  · exact .refl v d
  · cases v
    case out => exact absurd (unseen hv .out (by simp)) Bool.noConfusion
    all_goals rfl

@[simp] theorem only_out (o : List Emission) (hS : Within [.out] S = true) : Only S { d with out := o } e ↔ Only S d e := by
  refine Only.iff (T := [.out]) (fun v hv => ?_) hS
  cases v
  case out => exact absurd (unseen hv .out (by simp)) Bool.noConfusion
  all_goals rfl

/-- A change of the engine's record that leaves its stores and the sessions alone. -/
theorem only_onOd_book {f : Od → Od} (hcfg : (f d.od).cfg = d.od.cfg) (hdflt : (f d.od).dflt = d.od.dflt)
    (hses : (f d.od).sessions = d.od.sessions) (hS : Within [.odBook] S = true) : Only S (onOd f d) e ↔ Only S d e := by
  refine Only.iff (T := [.odBook]) (fun v hv => ?_) hS
  cases v
  case od => exact absurd (unseen hv .odBook (by simp)) Bool.noConfusion
  case odCfg => exact hcfg
  case cfgs =>
    funext obj el
    unfold cfg odDefault
    simp only [onOd_od, hcfg, hdflt]
    rfl
  case sessions => exact hses
  all_goals rfl

@[simp] theorem only_eventAlarm (i : Nat) (hS : Within [.odBook, .irq] S = true) : Only S (eventAlarm i d) e ↔ Only S d e := by
  refine Only.iff (T := [.odBook, .irq]) ?_ hS
  have hbook : Only [.odBook, .irq] (onOd (fun o => { o with
      alarmEvents := o.alarmEvents ||| BitVec.ofNat 64 (2 ^ i), alarmLatched := o.alarmLatched ||| BitVec.ofNat 64 (2 ^ i) }) d) d :=
    (only_onOd_book rfl rfl rfl (by decide)).mpr (.refl _ d)
  unfold eventAlarm
  dsimp only
  split
  · exact (only_raiseIrq 7 (by decide)).mpr hbook
  · exact hbook

@[simp] theorem only_hush (hS : Within [.odBook, .out] S = true) : Only S (hush d) e ↔ Only S d e := by
  refine Only.iff (T := [.odBook, .out]) ?_ hS
  show Only [.odBook, .out] (onOd (fun o => { o with alarmEvents := 0 }) { d with out := [] }) d
  rw [only_onOd_book rfl rfl rfl (by decide), only_out [] (by decide)]
  exact .refl _ d

@[simp] theorem only_settle (hS : Within [.odBook, .irq] S = true) : Only S (settle d) e ↔ Only S d e := by
  refine Only.iff (T := [.odBook, .irq]) (fun v hv => ?_) hS
  obtain ⟨h, -⟩ := became_settle d
  rw [h]
  cases v
  case od => exact absurd (unseen hv .odBook (by simp)) Bool.noConfusion
  case hw => exact absurd (unseen hv .irq (by simp)) Bool.noConfusion
  all_goals rfl

@[simp] theorem only_elapse (ns : Nat) (hS : Within [.now, .tm] S = true) : Only S (elapse ns d) e ↔ Only S d e := by
  refine Only.iff (T := [.now, .tm]) (fun v hv => ?_) hS
  cases v
  case now => exact absurd (unseen hv .now (by simp)) Bool.noConfusion
  case tm => exact absurd (unseen hv .tm (by simp)) Bool.noConfusion
  all_goals rfl

@[simp] theorem only_reach (t : Timer) (hS : Within [.now, .tm] S = true) : Only S (reach t d) e ↔ Only S d e := only_elapse _ hS

@[simp] theorem only_expired (t : Timer) (hS : Within [.now, .tm, .timer t, .odBook, .out] S = true) :
    Only S (expired t d) e ↔ Only S d e := by
  refine Only.iff (T := [.now, .tm, .timer t, .odBook, .out]) ?_ hS
  simp [expired, Within, Part.covers]

end

end Sys2Proof.Proofs.Frames


/-! SUPPORT. The frames of the switch core's operations on queues, fences and links (chapter 11), and of what ends a session. -/

namespace Sys2Proof.Proofs.Frames

open Sys2Proof Sys2Proof.Machine Sys2Proof.Safety

section
variable {S : List Part} {d e : Dev}

/-! ### Counting and charging -/

@[simp] theorem only_setCounter (set_ i v : Nat) (hS : Within [.fab] S = true) : Only S (setCounter set_ i v d) e ↔ Only S d e := by
  have h : setCounter set_ i v d = onFab (fun _ => (setCounter set_ i v d).fab) d := rfl
  rw [h, only_onFab ?_ hS]
  unfold setCounter
  split
  · rfl
  · rfl
  · dsimp only; split <;> rfl

@[simp] theorem only_countPort (p i n : Nat) (hS : Within [.fab] S = true) : Only S (countPort p i n d) e ↔ Only S d e := by
  rw [countPort, addCounter, only_setCounter _ _ _ hS]
@[simp] theorem only_countQueue (p c i n : Nat) (hS : Within [.fab] S = true) : Only S (countQueue p c i n d) e ↔ Only S d e := by
  rw [countQueue, addCounter, only_setCounter _ _ _ hS]

@[simp] theorem only_dropAt (p code : Nat) (hS : Within [.fab] S = true) : Only S (dropAt p code d) e ↔ Only S d e :=
  Only.iff (T := [.fab]) (by simp [dropAt]) hS

@[simp] theorem only_dropCopy (p c code : Nat) (hS : Within [.fab] S = true) : Only S (dropCopy p c code d) e ↔ Only S d e :=
  Only.iff (T := [.fab]) (by simp [dropCopy]) hS

@[simp] theorem only_enqueue (p c : Nat) (x : Copy) (hS : Within [.fab] S = true) : Only S (enqueue p c x d) e ↔ Only S d e := by
  refine Only.iff (T := [.fab]) ?_ hS
  simp [enqueue]

@[simp] theorem only_giveBack (p c : Nat) (x : Copy) (hS : Within [.fab] S = true) : Only S (giveBack p c x d) e ↔ Only S d e :=
  Only.iff (T := [.fab]) (by simp [giveBack]) hS

/-! ### Residues and PAUSE -/

/-- What a release of charges may reach: the switch core but for its fences, its timers, and the wire. -/
@[simp] def releaseParts : List Part := [.fab, .timersOf .switch, .out]

theorem only_retestCopy (p c : Nat) (comFell : Bool) (acc : Dev × List (Nat × Nat) × List ResCopy) (x : ResCopy) :
    Only releaseParts (retestCopy p c comFell acc x).1 acc.1 := by
  unfold retestCopy
  dsimp only
  split
  · simp
  · split <;> simp

/-- Testing every copy of a residue again. -/
theorem only_foldl_retestCopy (p c : Nat) (comFell : Bool) (l : List ResCopy) (acc : Dev × List (Nat × Nat) × List ResCopy) :
    Only releaseParts (l.foldl (retestCopy p c comFell) acc).1 acc.1 :=
  List.foldlRecOn (motive := fun u : Dev × List (Nat × Nat) × List ResCopy => Only releaseParts u.1 acc.1) l
    (retestCopy p c comFell) (.refl _ _) fun u hu x _ => (only_retestCopy p c comFell u x).trans hu

@[simp] theorem only_retest (p c : Nat) (comFell : Bool) (hS : Within releaseParts S = true) :
    Only S (retest p c comFell d) e ↔ Only S d e := by
  refine Only.iff (T := releaseParts) ?_ hS
  unfold retest
  dsimp only
  refine (Only.foldl (S := releaseParts) _ (fun d x _ => by simp) _).trans ?_
  rw [only_onFab rfl (by decide)]
  refine List.foldlRecOn (motive := fun u : Dev × List (Nat × Nat) × List Residue => Only releaseParts u.1 d) _ _ (.refl _ _)
    fun u hu r _ => ?_
  exact (only_foldl_retestCopy p c comFell r.copies (u.1, u.2.1, [])).trans hu

@[simp] theorem only_sendPause (p quanta : Nat) (hS : Within releaseParts S = true) : Only S (sendPause p quanta d) e ↔ Only S d e :=
  Only.iff (T := releaseParts) (by simp [sendPause]) hS

@[simp] theorem only_pauseCheck (p : Nat) (hS : Within releaseParts S = true) : Only S (pauseCheck d p) e ↔ Only S d e := by
  refine Only.iff (T := releaseParts) ?_ hS
  simp [pauseCheck]

@[simp] theorem only_pauseCheckAll (hS : Within releaseParts S = true) : Only S (pauseCheckAll d) e ↔ Only S d e :=
  Only.iff (Only.foldl (S := releaseParts) _ (fun _ _ _ => by simp) d) hS

@[simp] theorem only_release (p c : Nat) (x : Copy) (hS : Within releaseParts S = true) : Only S (release p c x d) e ↔ Only S d e :=
  Only.iff (T := releaseParts) (by simp [release]) hS

@[simp] theorem only_dropHead (p c code : Nat) (hS : Within releaseParts S = true) : Only S (dropHead p c code d) e ↔ Only S d e := by
  refine Only.iff (T := releaseParts) ?_ hS
  unfold dropHead
  split <;> simp

@[simp] theorem only_dropQueue (p c code : Nat) (hS : Within releaseParts S = true) : Only S (dropQueue p c code d) e ↔ Only S d e :=
  Only.iff (Only.foldl (S := releaseParts) _ (fun _ _ _ => by simp) d) hS

@[simp] theorem only_dropResidues (p code : Nat) (hS : Within releaseParts S = true) :
    Only S (dropResidues p code d) e ↔ Only S d e := by
  refine Only.iff (T := releaseParts) ?_ hS
  rw [dropResidues, only_onFab rfl (by decide)]
  exact Only.foldl _ (fun _ _ _ => by simp) d

@[simp] theorem only_dropPort (p code : Nat) (hS : Within releaseParts S = true) : Only S (dropPort p code d) e ↔ Only S d e :=
  Only.iff (T := releaseParts) ((Only.foldl _ (fun _ _ _ => by simp) _).trans (by simp)) hS

/-- What ending a transmission may reach. -/
@[simp] def endingParts : List Part := .sends :: releaseParts

@[simp] theorem only_endSending (p : Nat) (hS : Within endingParts S = true) : Only S (endSending p d) e ↔ Only S d e := by
  refine Only.iff (T := endingParts) ?_ hS
  unfold endSending
  split
  · simp
  · rw [only_release _ _ _ (by simp)]
    exact (only_setSwPort_of_fenced (f := fun w => { w with sending := none, cutFrom := none }) (fun _ => rfl) (by simp)).mpr (.refl _ d)

/-! ### Fences and links -/

/-- What a fence, or its lifting, may reach. -/
@[simp] def fenceParts (p : Nat) : List Part := [.fab, .fence p, .sends, .timersOf .switch, .out]

@[simp] theorem only_setFence (p : Nat) (on_ : Bool) (hS : Within (fenceParts p) S = true) :
    Only S (setFence p on_ d) e ↔ Only S d e := by
  refine Only.iff (T := fenceParts p) ?_ hS
  have hport : Only (fenceParts p) (setSwPort p (fun w => { w with fenced := on_ }) d) d := by
    exact (only_setSwPort_of_sending (p := p) (f := fun w => { w with fenced := on_ }) (fun _ => rfl) (by simp)).mpr (.refl _ d)
  unfold setFence
  dsimp only
  split
  · split
    · simpa using hport
    · exact hport
  · exact hport

/-- What the fall of a link may reach. -/
@[simp] def linkParts : List Part := [.fab, .sends, .st, .timersOf .switch, .out]

@[simp] theorem only_flushStart (f : FlushSel) (hS : Within linkParts S = true) : Only S (flushStart f d) e ↔ Only S d e :=
  Only.iff (T := linkParts) (by simp [flushStart]) hS

@[simp] theorem only_portDown (p : Nat) (hS : Within linkParts S = true) : Only S (portDown p d) e ↔ Only S d e :=
  Only.iff (T := linkParts) (by simp [portDown, flushPort]) hS

@[simp] theorem only_linkDown (p : Nat) (hS : Within linkParts S = true) : Only S (linkDown p d) e ↔ Only S d e := by
  refine Only.iff (T := linkParts) ?_ hS
  simp [linkDown]

/-! ### Sessions -/

/-- What the end of a session may reach. -/
@[simp] def sessionParts : List Part := [.odBook, .sessions, .timersOf .engine]

@[simp] theorem only_discardBundle (s : Nat) (hS : Within sessionParts S = true) : Only S (discardBundle s d) e ↔ Only S d e := by
  refine Only.iff (T := sessionParts) ?_ hS
  simp [discardBundle]

@[simp] theorem only_dropSessionState (s : Nat) (hS : Within sessionParts S = true) :
    Only S (dropSessionState s d) e ↔ Only S d e := by
  refine Only.iff (T := sessionParts) ?_ hS
  unfold dropSessionState
  dsimp only
  rw [only_dropTimers (o := .engine) (fun x hx => ?_) (by decide), only_onOd_book rfl rfl rfl (by decide)]
  · simp
  · split at hx
    · simp_all
    · simp at hx

@[simp] theorem only_closeSession (s : Nat) (hS : Within sessionParts S = true) : Only S (closeSession s d) e ↔ Only S d e :=
  Only.iff (T := sessionParts) (by simp [closeSession]) hS

end

end Sys2Proof.Proofs.Frames


/-! SUPPORT. The frames of what the shepherd's ledger does to a port (chapter 8): gates, fences, bookings, contracts and sheds. -/

namespace Sys2Proof.Proofs.Frames

open Sys2Proof Sys2Proof.Machine Sys2Proof.Safety

section
variable {S : List Part} {d e : Dev}

/-- What a change of one cable port's own record and timers may reach. -/
@[simp] def portParts (n : Nat) : List Part := [.cable n, .timersOf (.port n)]

@[simp] theorem only_vconnOff (n : Nat) (hS : Within [.cable n] S = true) : Only S (vconnOff n d) e ↔ Only S d e :=
  Only.iff (T := [.cable n]) (by simp [vconnOff]) hS

@[simp] theorem only_setConverter (n mv ma : Nat) (hS : Within [.cable n] S = true) :
    Only S (setConverter n mv ma d) e ↔ Only S d e := Only.iff (T := [.cable n]) (by simp [setConverter]) hS

@[simp] theorem only_unidentify (n : Nat) (hS : Within [.cable n] S = true) : Only S (unidentify n d) e ↔ Only S d e :=
  Only.iff (T := [.cable n]) (by simp [unidentify]) hS

@[simp] theorem only_pdIdsReset (n : Nat) (hS : Within [.cable n] S = true) : Only S (pdIdsReset n d) e ↔ Only S d e :=
  Only.iff (T := [.cable n]) (by simp [pdIdsReset]) hS

@[simp] theorem only_guardNow (n : Nat) (hS : Within (portParts n) S = true) : Only S (guardNow n d) e ↔ Only S d e :=
  Only.iff (T := portParts n) (by simp [guardNow]) hS

@[simp] theorem only_pathTimersOff (n : Nat) (hS : Within (portParts n) S = true) : Only S (pathTimersOff n d) e ↔ Only S d e := by
  refine Only.iff (T := portParts n) ?_ hS
  rw [pathTimersOff, only_dropTimers (o := .port n) (fun x hx => ?_) (by simp)]
  · simp
  · split at hx <;> simp_all

@[simp] theorem only_pdTimersOff (n : Nat) (hS : Within (portParts n) S = true) : Only S (pdTimersOff n d) e ↔ Only S d e := by
  refine Only.iff (T := portParts n) ?_ hS
  rw [pdTimersOff, only_dropTimers (o := .port n) (fun x hx => ?_) (by simp)]
  · simp
  · split at hx <;> simp_all

@[simp] theorem only_pdForget (n : Nat) (hS : Within (portParts n) S = true) : Only S (pdForget n d) e ↔ Only S d e :=
  Only.iff (T := portParts n) (by simp [pdForget]) hS

@[simp] theorem only_gatesDown (n : Nat) (path : PathState) (hS : Within (portParts n) S = true) :
    Only S (gatesDown n path d) e ↔ Only S d e := by
  refine Only.iff (T := portParts n) ?_ hS
  simp [gatesDown]

@[simp] theorem only_startDischarge (n : Nat) (hS : Within (portParts n) S = true) :
    Only S (startDischarge n d) e ↔ Only S d e := Only.iff (T := portParts n) (by simp [startDischarge]) hS

@[simp] theorem only_gatesOff (n : Nat) (path : PathState) (hS : Within (portParts n) S = true) :
    Only S (gatesOff n path d) e ↔ Only S d e := by
  refine Only.iff (T := portParts n) ?_ hS
  simp [gatesOff]

@[simp] theorem only_powerOff (n : Nat) (hS : Within (portParts n) S = true) : Only S (powerOff n d) e ↔ Only S d e :=
  Only.iff (T := portParts n) (by simp [powerOff]) hS

/-- What the start of a shepherd step may reach. -/
@[simp] def stepParts : List Part := [.shepDue, .timer .overrun]

@[simp] theorem only_needStep (hS : Within stepParts S = true) : Only S (needStep d) e ↔ Only S d e := by
  refine Only.iff (T := stepParts) ?_ hS
  simp [needStep, only_onShep_due]

@[simp] theorem only_setBooked (n mw : Nat) (hS : Within (.cable n :: stepParts) S = true) :
    Only S (setBooked n mw d) e ↔ Only S d e := by
  refine Only.iff (T := .cable n :: stepParts) ?_ hS
  simp [setBooked]

@[simp] theorem only_rampUp (n : Nat) (hS : Within (.timer .droopMax :: portParts n) S = true) :
    Only S (rampUp n d) e ↔ Only S d e := by
  refine Only.iff (T := .timer .droopMax :: portParts n) ?_ hS
  simp [rampUp]

/-- What applying VBUS to a port may reach. -/
@[simp] def vbusParts (n : Nat) : List Part := .timer .droopMax :: .shepDue :: .timer .overrun :: portParts n

@[simp] theorem only_applyVbus (n : Nat) (hS : Within (vbusParts n) S = true) : Only S (applyVbus n d) e ↔ Only S d e := by
  refine Only.iff (T := vbusParts n) ?_ hS
  simp [applyVbus]

/-- What the end of a port's pod link may reach. -/
@[simp] def podParts (n : Nat) : List Part :=
  [.cable n, .timersOf (.port n), .odBook, .sessions, .timersOf .engine, .fab, .sends, .st, .timersOf .switch, .out]

@[simp] theorem only_podClose (n : Nat) (hS : Within (podParts n) S = true) : Only S (podClose n d) e ↔ Only S d e := by
  refine Only.iff (T := podParts n) ?_ hS
  simp [podClose]

/-- What shedding a port may reach. -/
@[simp] def shedParts (n : Nat) : List Part := .fence n :: .irq :: podParts n

@[simp] theorem only_shedPort (cause : ShedCause) (n : Nat) (hS : Within (shedParts n) S = true) :
    Only S (shedPort cause n d) e ↔ Only S d e := Only.iff (T := shedParts n) (by simp [shedPort]) hS

@[simp] theorem only_returnBooking (n : Nat) (hS : Within (.cable n :: fenceParts n) S = true) :
    Only S (returnBooking n d) e ↔ Only S d e := Only.iff (T := .cable n :: fenceParts n) (by simp [returnBooking]) hS

end

/-! ### Reading a port after an update -/

@[simp] theorem cable_setCable_self (n : Nat) (f : Cable → Cable) (d : Dev) : cable (setCable n f d) n = f (cable d n) :=
  tget_tset_self _ _ _ _

theorem cable_setCable_other {n m : Nat} (f : Cable → Cable) (d : Dev) (h : m ≠ n) : cable (setCable n f d) m = cable d m :=
  tget_tset_other _ _ _ h

end Sys2Proof.Proofs.Frames


/-! SUPPORT. The frames of a port's exchange with its partner (chapters 6 and 7), of the faults of a port (chapter 8), and of the moves
between IDLE and ACTIVE (chapter 3) with the time sources and the bus node that they start and stop. -/

namespace Sys2Proof.Proofs.Frames

open Sys2Proof Sys2Proof.Machine Sys2Proof.Safety

section
variable {S : List Part} {d e : Dev}

/-! ### Sending -/

/-- What sending from a port may reach. -/
@[simp] def sendParts (n : Nat) : List Part := [.cable n, .timersOf (.port n), .out]

@[simp] theorem only_present (n code : Nat) (hS : Within (sendParts n) S = true) : Only S (present_ n code d) e ↔ Only S d e :=
  Only.iff (T := sendParts n) (by simp [present_]) hS

@[simp] theorem only_collision (n : Nat) (busy : Bool) (hS : Within (sendParts n) S = true) :
    Only S (collision n busy d) e ↔ Only S d e := Only.iff (T := sendParts n) (by simp [collision]) hS

@[simp] theorem only_transmit (n : Nat) (m : PdMsg) (hS : Within (sendParts n) S = true) :
    Only S (transmit n m d) e ↔ Only S d e := Only.iff (T := sendParts n) (by simp [transmit]) hS

@[simp] theorem only_pdSend (n : Nat) (m : PdMsg) (hS : Within (sendParts n) S = true) : Only S (pdSend n m d) e ↔ Only S d e :=
  Only.iff (T := sendParts n) (by simp [pdSend]) hS

@[simp] theorem only_setAwait (n : Nat) (a : Await) (hS : Within [.cable n] S = true) : Only S (setAwait n a d) e ↔ Only S d e :=
  Only.iff (T := [.cable n]) (by simp [setAwait]) hS

@[simp] theorem only_sendDone (n : Nat) (hS : Within (sendParts n) S = true) : Only S (sendDone n d) e ↔ Only S d e := by
  refine Only.iff (T := sendParts n) ?_ hS
  unfold sendDone
  dsimp only
  split <;> simp

@[simp] theorem only_sendSoftReset (n : Nat) (hS : Within (sendParts n) S = true) : Only S (sendSoftReset n d) e ↔ Only S d e :=
  Only.iff (T := sendParts n) (by simp [sendSoftReset]) hS

@[simp] theorem only_responded (n : Nat) (hS : Within (portParts n) S = true) : Only S (responded n d) e ↔ Only S d e :=
  Only.iff (T := portParts n) (by simp [responded]) hS

/-! ### Hard Reset and ErrorRecovery -/

/-- What Hard Reset on a port may reach. -/
@[simp] def hardResetParts (n : Nat) : List Part := .fence n :: .shepDue :: .timer .overrun :: podParts n

@[simp] theorem only_hardResetSource (n : Nat) (hS : Within (hardResetParts n) S = true) :
    Only S (hardResetSource n d) e ↔ Only S d e := Only.iff (T := hardResetParts n) (by simp [hardResetSource]) hS

@[simp] theorem only_hardResetSink (n : Nat) (hS : Within (hardResetParts n) S = true) :
    Only S (hardResetSink n d) e ↔ Only S d e := Only.iff (T := hardResetParts n) (by simp [hardResetSink]) hS

@[simp] theorem only_hardResetCore (n : Nat) (hS : Within (hardResetParts n) S = true) :
    Only S (hardResetCore n d) e ↔ Only S d e := Only.iff (T := hardResetParts n) (by simp [hardResetCore]) hS

@[simp] theorem only_sendHardReset (n : Nat) (hS : Within (hardResetParts n) S = true) :
    Only S (sendHardReset n d) e ↔ Only S d e := Only.iff (T := hardResetParts n) (by simp [sendHardReset]) hS

@[simp] theorem only_ccTimersOff (n : Nat) (hS : Within (portParts n) S = true) : Only S (ccTimersOff n d) e ↔ Only S d e := by
  refine Only.iff (T := portParts n) ?_ hS
  rw [ccTimersOff, only_dropTimers (o := .port n) (fun x hx => ?_) (by simp)]
  · simp
  · split at hx <;> simp_all

@[simp] theorem only_usb2Promote (hS : Within [.usb2] S = true) : Only S (usb2Promote d) e ↔ Only S d e :=
  Only.iff (Only.foldl (S := [.usb2]) _ (fun d n _ => by
    rw [only_ite, only_setCable_usb2 (fun _ => rfl) (by simp)]; simp) d) hS

@[simp] theorem only_usb2Leave (n : Nat) (hS : Within [.usb2] S = true) : Only S (usb2Leave n d) e ↔ Only S d e := by
  rw [usb2Leave, only_usb2Promote hS, only_setCable_usb2 (fun _ => rfl) hS]

@[simp] theorem only_usb2Join (n : Nat) (hS : Within [.usb2] S = true) : Only S (usb2Join n d) e ↔ Only S d e := by
  refine Only.iff (T := [.usb2]) ?_ hS
  unfold usb2Join
  dsimp only
  rw [only_ite, only_setCable_usb2 (fun _ => rfl) (by simp)]
  simp

@[simp] theorem only_dropMarks (n : Nat) (hS : Within [.tm] S = true) : Only S (dropMarks n d) e ↔ Only S d e :=
  Only.iff (Only.foldl (S := [.tm]) _ (fun _ _ _ => by simp) d) hS

@[simp] theorem only_clearProfileVlan (n : Nat) (hS : Within [.st] S = true) : Only S (clearProfileVlan n d) e ↔ Only S d e :=
  Only.iff (T := [.st]) (by simp [clearProfileVlan]) hS

/-- What the end of an attachment may reach. -/
@[simp] def teardownParts (n : Nat) : List Part := .usb2 :: .tm :: hardResetParts n

@[simp] theorem only_teardown (n : Nat) (hS : Within (teardownParts n) S = true) : Only S (teardown n d) e ↔ Only S d e :=
  Only.iff (T := teardownParts n) (by simp [teardown]) hS

@[simp] theorem only_enterErrorRecovery (n : Nat) (hS : Within (teardownParts n) S = true) :
    Only S (enterErrorRecovery n d) e ↔ Only S d e := Only.iff (T := teardownParts n) (by simp [enterErrorRecovery]) hS

@[simp] theorem only_ladderRecovery (n : Nat) (hS : Within (teardownParts n) S = true) :
    Only S (ladderRecovery n d) e ↔ Only S d e := by
  refine Only.iff (T := teardownParts n) ?_ hS
  unfold ladderRecovery
  dsimp only
  split <;> simp

@[simp] theorem only_faultStep (n : Nat) (hS : Within (teardownParts n) S = true) : Only S (faultStep n d) e ↔ Only S d e :=
  Only.iff (T := teardownParts n) (by simp [faultStep]) hS

@[simp] theorem only_faultOff (n : Nat) (path : PathState) (latch : Bool) (hS : Within (.shepDue :: .timer .overrun :: portParts n) S = true) :
    Only S (faultOff n path latch d) e ↔ Only S d e :=
  Only.iff (T := .shepDue :: .timer .overrun :: portParts n) (by simp [faultOff]) hS

/-! ### Time sources -/

/-- What a selection among the time sources may reach. -/
@[simp] def sourceParts : List Part := [.tm, .free, .timer .lockWait]

@[simp] theorem only_stepTime (delta : Int) (hS : Within [.tm] S = true) : Only S (stepTime delta d) e ↔ Only S d e :=
  Only.iff (T := [.tm]) (by simp [stepTime]) hS

@[simp] theorem only_stepThroughLag (delta : Int) (hS : Within [.tm] S = true) : Only S (stepThroughLag delta d) e ↔ Only S d e :=
  Only.iff (T := [.tm]) (by simp [stepThroughLag]) hS

@[simp] theorem only_setQual (s : TimeSource) (q : Option Nat) (hS : Within [.tm] S = true) :
    Only S (setQual s q d) e ↔ Only S d e := Only.iff (T := [.tm]) (by unfold setQual; split <;> simp) hS

@[simp] theorem only_drawTrim (hS : Within sourceParts S = true) : Only S (drawTrim d) e ↔ Only S d e :=
  Only.iff (T := sourceParts) (by simp [drawTrim]) hS

@[simp] theorem only_residual (v : Int) (hS : Within sourceParts S = true) : Only S (residual v d) e ↔ Only S d e :=
  Only.iff (T := sourceParts) (by simp [Machine.residual]) hS

@[simp] theorem only_selectSource (s : TimeSource) (hS : Within sourceParts S = true) : Only S (selectSource s d) e ↔ Only S d e :=
  Only.iff (T := sourceParts) (by simp [selectSource]) hS

@[simp] theorem only_noSource (hS : Within sourceParts S = true) : Only S (noSource d) e ↔ Only S d e :=
  Only.iff (T := sourceParts) (by simp [noSource]) hS

@[simp] theorem only_replaceSource (s : TimeSource) (hS : Within sourceParts S = true) : Only S (replaceSource s d) e ↔ Only S d e := by
  refine Only.iff (T := sourceParts) ?_ hS
  unfold replaceSource
  dsimp only
  split <;> simp

@[simp] theorem only_reselect (hS : Within sourceParts S = true) : Only S (reselect d) e ↔ Only S d e := by
  refine Only.iff (T := sourceParts) ?_ hS
  unfold reselect
  split
  · simp
  · split <;> simp

@[simp] theorem only_disqualify (s : TimeSource) (hS : Within sourceParts S = true) : Only S (disqualify s d) e ↔ Only S d e :=
  Only.iff (T := sourceParts) (by simp [disqualify]) hS

/-! ### The bus node -/

/-- What the start or stop of the bus node may reach. -/
@[simp] def nodeParts : List Part := .ng :: .timer .listen :: sourceParts

@[simp] theorem only_setChan (chB : Bool) (f : Chan → Chan) (hS : Within [.ng] S = true) : Only S (setChan chB f d) e ↔ Only S d e :=
  Only.iff (T := [.ng]) (by simp [setChan]) hS

@[simp] theorem only_bothChans (f : Chan → Chan) (hS : Within [.ng] S = true) : Only S (bothChans f d) e ↔ Only S d e :=
  Only.iff (T := [.ng]) (by simp [bothChans]) hS

@[simp] theorem only_enterListen (hS : Within nodeParts S = true) : Only S (enterListen d) e ↔ Only S d e :=
  Only.iff (T := nodeParts) (by simp [enterListen]) hS

@[simp] theorem only_ngStop (hS : Within nodeParts S = true) : Only S (ngStop d) e ↔ Only S d e :=
  Only.iff (T := nodeParts) (by simp [ngStop]) hS

@[simp] theorem only_applyEnable (chB v : Bool) (hS : Within nodeParts S = true) : Only S (applyEnable chB v d) e ↔ Only S d e :=
  Only.iff (T := nodeParts) (by simp [applyEnable]) hS

@[simp] theorem only_nodeFollows (hS : Within nodeParts S = true) : Only S (nodeFollows d) e ↔ Only S d e :=
  Only.iff (T := nodeParts) (by simp [nodeFollows]) hS

@[simp] theorem only_applyEnables (hS : Within nodeParts S = true) : Only S (applyEnables d) e ↔ Only S d e := by
  refine Only.iff (T := nodeParts) ?_ hS
  unfold applyEnables
  dsimp only
  split <;> split <;> simp

@[simp] theorem only_ngStart (hS : Within nodeParts S = true) : Only S (ngStart d) e ↔ Only S d e :=
  Only.iff (T := nodeParts) (by simp [ngStart]) hS

/-! ### IDLE and ACTIVE -/

/-- What following TARGET may reach. -/
@[simp] def targetParts : List Part := .aon :: .boot :: .timer .idleHold :: .timer .drain :: nodeParts

@[simp] theorem only_enterActive (hS : Within targetParts S = true) : Only S (enterActive d) e ↔ Only S d e :=
  Only.iff (T := targetParts) (by simp [enterActive]) hS

@[simp] theorem only_leaveActive (hS : Within targetParts S = true) : Only S (leaveActive d) e ↔ Only S d e :=
  Only.iff (T := targetParts) (by simp [leaveActive]) hS

@[simp] theorem only_followTarget (hS : Within targetParts S = true) : Only S (followTarget d) e ↔ Only S d e := by
  refine Only.iff (T := targetParts) ?_ hS
  unfold followTarget
  split
  · simp
  · split <;> simp

end

end Sys2Proof.Proofs.Frames


/-! SUPPORT. Shepherd steps (R288-R291): shedding a port leaves it shed and takes it from the candidates, so that the step ends with
the ledger covered or with no candidate left; a first allowance examined again is booked under admission. -/

namespace Sys2Proof.Proofs.Shepherd

open Sys2Proof Sys2Proof.Machine Sys2Proof.Safety Sys2Proof.Proofs.Frames
open Sys2Proof.Proofs.StrapWindow (answers_of_exec_eq_run)
open Sys2Proof.Proofs.ShapersAndTally (armed_settle armed_disarm_self)

variable {d t : Dev} {n m : Nat}

/-! ### What a port's path state keeps -/

theorem cable_of_cables (h : t.cables = d.cables) (n : Nat) : cable t n = cable d n := by unfold cable; rw [h]

@[simp] theorem cable_arm (u : Timer) (ns : Nat) (d : Dev) (n : Nat) : cable (arm u ns d) n = cable d n := rfl
@[simp] theorem cable_armAt (u : Timer) (a : Nat) (d : Dev) (n : Nat) : cable (armAt u a d) n = cable d n := rfl
@[simp] theorem cable_disarm (u : Timer) (d : Dev) (n : Nat) : cable (disarm u d) n = cable d n := rfl
@[simp] theorem cable_pathTimersOff (k : Nat) (d : Dev) (n : Nat) : cable (pathTimersOff k d) n = cable d n := rfl
@[simp] theorem cable_pdTimersOff (k : Nat) (d : Dev) (n : Nat) : cable (pdTimersOff k d) n = cable d n := rfl
@[simp] theorem cable_onShep (f : Machine.Shepherd → Machine.Shepherd) (d : Dev) (n : Nat) : cable (onShep f d) n = cable d n := rfl
@[simp] theorem cable_onOd (f : Od → Od) (d : Dev) (n : Nat) : cable (onOd f d) n = cable d n := rfl
@[simp] theorem cable_raiseIrqPort (i : Nat) (d : Dev) (n : Nat) : cable (raiseIrqPort i d) n = cable d n := rfl
@[simp] theorem cable_emit (x : Emission) (d : Dev) (n : Nat) : cable (emit x d) n = cable d n := cable_of_cables (by simp) n
@[simp] theorem cable_setFence (p : Nat) (b : Bool) (d : Dev) (n : Nat) : cable (setFence p b d) n = cable d n :=
  Only.cable (S := fenceParts p) (by simp) n rfl
@[simp] theorem cable_linkDown (p : Nat) (d : Dev) (n : Nat) : cable (linkDown p d) n = cable d n :=
  Only.cable (S := linkParts) (by simp) n rfl
@[simp] theorem cable_closeSession (s : Nat) (d : Dev) (n : Nat) : cable (closeSession s d) n = cable d n :=
  Only.cable (S := sessionParts) (by simp) n rfl
@[simp] theorem cable_needStep (d : Dev) (n : Nat) : cable (needStep d) n = cable d n :=
  Only.cable (S := stepParts) (by simp) n rfl

@[simp] theorem cable_ite (c : Prop) [Decidable c] (a b : Dev) (n : Nat) :
    cable (if c then a else b) n = if c then cable a n else cable b n := apply_ite (cable · n) c a b

@[simp] theorem path_podClose (n : Nat) (d : Dev) : (cable (podClose n d) n).path = (cable d n).path := by simp [podClose]
@[simp] theorem path_pdForget (n : Nat) (d : Dev) : (cable (pdForget n d) n).path = (cable d n).path := by simp [pdForget]
@[simp] theorem path_pdIdsReset (n : Nat) (d : Dev) : (cable (pdIdsReset n d) n).path = (cable d n).path := by simp [pdIdsReset]
@[simp] theorem path_unidentify (n : Nat) (d : Dev) : (cable (unidentify n d) n).path = (cable d n).path := by simp [unidentify]
@[simp] theorem path_vconnOff (n : Nat) (d : Dev) : (cable (vconnOff n d) n).path = (cable d n).path := by simp [vconnOff]
@[simp] theorem path_startDischarge (n : Nat) (d : Dev) : (cable (startDischarge n d) n).path = (cable d n).path := by
  simp [startDischarge]
@[simp] theorem path_returnBooking (n : Nat) (d : Dev) : (cable (returnBooking n d) n).path = (cable d n).path := by
  simp [returnBooking]
@[simp] theorem path_setBooked (n mw : Nat) (d : Dev) : (cable (setBooked n mw d) n).path = (cable d n).path := by simp [setBooked]
@[simp] theorem path_gatesDown (n : Nat) (p : PathState) (d : Dev) : (cable (gatesDown n p d) n).path = p := by
  unfold gatesDown; dsimp only; split <;> simp [guardNow]
@[simp] theorem path_gatesOff (n : Nat) (p : PathState) (d : Dev) : (cable (gatesOff n p d) n).path = p := by
  unfold gatesOff; dsimp only; split <;> simp

theorem isShed_shedPort (cause : ShedCause) (n : Nat) (d : Dev) : isShed (cable (shedPort cause n d) n) = true := by
  simp [shedPort, isShed]

theorem path_other_of_only {S : List Part} (h : Only S t d) (hS : Clear S (.cableBut m) = true) :
    (cable t m).path = (cable d m).path := by rw [h (.cableBut m) hS]

/-- Hard Reset leaves a shed port shed. -/
theorem path_hardResetCore_of_shed (h : (cable d n).path = .shed) : (cable (hardResetCore n d) n).path = .shed := by
  unfold hardResetCore
  dsimp only
  split
  · simp [hardResetSink, h]
  · simp [hardResetSource, isShed, h]
@[inherit_doc path_hardResetCore_of_shed] theorem isShed_sendHardReset (h : isShed (cable d n) = true) :
    isShed (cable (sendHardReset n d) n) = true := by
  simpa [sendHardReset, isShed] using path_hardResetCore_of_shed (d := emit _ d) (by simpa [isShed] using h)

/-- A fault's part of the step leaves a shed port shed. -/
theorem isShed_faultStep (h : isShed (cable d n) = true) : isShed (cable (faultStep n d) n) = true := by
  have hpath : (cable d n).path = .shed := by simpa [isShed] using h
  unfold faultStep
  dsimp only
  generalize hu : (if (cable d n).powerRole = .source then startDischarge n _ else _) = u
  have hshed : isShed (cable u n) = true := by
    subst hu
    rw [cable_ite]
    split <;> simp [isShed, hpath]
  split
  · rename_i hoc; simp [hpath] at hoc
  split
  · exact isShed_sendHardReset hshed
  split
  · exact hshed
  split
  · rename_i hfault; simp [hpath] at hfault
  · exact isShed_sendHardReset hshed

/-! ### Steps over the ports -/

/-- What a step may do to the ports: every cable port, and what goes with their contracts and their pod links. -/
@[simp] def stepWide : List Part :=
  [.cables, .timers, .odBook, .sessions, .fab, .sends, .fence 0, .fence 1, .fence 2, .fence 3, .fence 4, .fence 5, .fence 6, .fence 7, .st,
   .out, .irq, .tm, .shepDue]

/-- A port-by-port operation that leaves shed ports shed, of its own port and of the others. -/
def KeepsShed (f : Dev → Nat → Dev) : Prop :=
  ∀ (d : Dev) (n m : Nat), isShed (cable d m) = true → isShed (cable (f d n) m) = true

theorem isShed_foldl {f : Dev → Nat → Dev} (hf : KeepsShed f) (l : List Nat) (d : Dev) (h : isShed (cable d m) = true) :
    isShed (cable (l.foldl f d) m) = true :=
  List.foldlRecOn (motive := fun u => isShed (cable u m) = true) l f h fun u hu n _ => hf u n m hu

/-- An operation on port `n` that says nothing of the paths of the others keeps every shed port shed if it keeps its own so. -/
theorem isShed_of_only {S : List Part} {u : Dev} (h : Only S u d) (hS : ∀ k, k ≠ n → Clear S (.cableBut k) = true)
    (hself : isShed (cable d n) = true → isShed (cable u n) = true) (hm : isShed (cable d m) = true) :
    isShed (cable u m) = true := by
  by_cases hn : m = n
  · subst hn; exact hself hm
  · unfold isShed
    rw [path_other_of_only h (hS m hn)]
    exact hm

theorem isShed_shedPort_of_isShed (cause : ShedCause) (n : Nat) (hm : isShed (cable d m) = true) :
    isShed (cable (shedPort cause n d) m) = true :=
  isShed_of_only (S := shedParts n) (by simp) (fun k hk => by simp [Part.seenIn, Ne.symm hk]) (fun _ => isShed_shedPort _ _ _) hm

theorem isShed_faultStep_of_isShed (n : Nat) (hm : isShed (cable d m) = true) : isShed (cable (faultStep n d) m) = true :=
  isShed_of_only (S := teardownParts n) (by simp) (fun k hk => by simp [Part.seenIn, Ne.symm hk]) isShed_faultStep hm

/-- The parts of a step before its sheds for the ledger: gates cut outside a step, faults, and ceilings too low to serve. -/
def takeCuts (d : Dev) : Dev :=
  (List.range 8).foldl (fun d n => if cutWaits (cable d n) then shedPort (cable d n).shedCause n d else d) d
@[inherit_doc takeCuts] def takeFaults (d : Dev) : Dev :=
  (List.range 8).foldl (fun d n => if faultWaits (cable d n) then faultStep n d else d) d
@[inherit_doc takeCuts] def takeCeilings (d : Dev) : Dev :=
  (List.range 8).foldl (fun d n =>
    if sourcing (cable d n) && !isShed (cable d n) && decide (ceilingOf d n < 500) then shedPort .ledger n d else d) d

theorem isShed_takeCuts (h : isShed (cable d m) = true) : isShed (cable (takeCuts d) m) = true := by
  refine isShed_foldl (fun u n k hk => ?_) _ d h
  split
  · exact isShed_shedPort_of_isShed _ _ hk
  · exact hk

theorem isShed_takeFaults (h : isShed (cable d m) = true) : isShed (cable (takeFaults d) m) = true := by
  refine isShed_foldl (fun u n k hk => ?_) _ d h
  split
  · exact isShed_faultStep_of_isShed _ hk
  · exact hk

theorem isShed_takeCeilings (h : isShed (cable d m) = true) : isShed (cable (takeCeilings d) m) = true := by
  refine isShed_foldl (fun u n k hk => ?_) _ d h
  split
  · exact isShed_shedPort_of_isShed _ _ hk
  · exact hk

theorem fence_lt {n : Nat} (h : n < 8) : Part.fence n ∈ stepWide := by
  simp only [stepWide, List.mem_cons, reduceCtorEq, false_or, Part.fence.injEq]
  omega

/-- What an operation on a port below 8 may reach is what a step may reach. -/
theorem within_stepWide {T : List Part} (hn : n < 8) (hT : ∀ q ∈ T, q = .fence n ∨ Within [q] stepWide = true) :
    Within T stepWide = true := by
  simp only [Within, List.all_eq_true, List.any_eq_true] at *
  intro q hq
  rcases hT q hq with rfl | h
  · exact ⟨_, fence_lt hn, by simp⟩
  · exact h q (List.mem_singleton_self q)

theorem only_shedPort_wide (cause : ShedCause) (hn : n < 8) : Only stepWide (shedPort cause n d) d :=
  (Only.mono (T := shedParts n) (by simp)) (within_stepWide hn (by simp))

theorem only_faultStep_wide (hn : n < 8) : Only stepWide (faultStep n d) d :=
  (Only.mono (T := teardownParts n) (by simp)) (within_stepWide hn (by simp))

theorem only_takeCuts : Only stepWide (takeCuts d) d :=
  Only.foldl _ (fun u n hn => by
    rw [only_ite]
    exact ⟨fun _ => only_shedPort_wide _ (List.mem_range.mp hn), fun _ => .refl _ _⟩) d

theorem only_takeFaults : Only stepWide (takeFaults d) d :=
  Only.foldl _ (fun u n hn => by
    rw [only_ite]
    exact ⟨fun _ => only_faultStep_wide (List.mem_range.mp hn), fun _ => .refl _ _⟩) d

theorem only_takeCeilings : Only stepWide (takeCeilings d) d :=
  Only.foldl _ (fun u n hn => by
    rw [only_ite]
    exact ⟨fun _ => only_shedPort_wide _ (List.mem_range.mp hn), fun _ => .refl _ _⟩) d

/-! ### Shedding until the ledger is covered (R289) -/

/-- Whether a port is a candidate for a shed. -/
def candidate (d : Dev) (n : Nat) : Bool := sourcing (cable d n) && !isShed (cable d n)

/-- FREE is not negative, or no port is left to shed. -/
def Covered (d : Dev) : Prop := 0 ≤ ledgerFree d ∨ ∀ n : Nat, n < 8 → sourcing (cable d n) = true → isShed (cable d n) = true

theorem covered_of_no_candidate (h : ∀ n < 8, candidate d n = false) : Covered d := by
  refine .inr fun n hn hs => ?_
  have := h n hn
  simpa [candidate, hs] using this

/-- R289's choice between the best candidate so far and the next. -/
def shedBetter (d : Dev) (best : Option Nat) (n : Nat) : Option Nat :=
  match best with
  | none => some n
  | some b => if (cable d b).rank ≤ (cable d n).rank then some n else some b

theorem shedNext_eq (d : Dev) : shedNext d = ((List.range 8).filter (candidate d)).foldl (shedBetter d) none := rfl

theorem shedBetter_isSome (d : Dev) (best : Option Nat) (n : Nat) : ∃ k, shedBetter d best n = some k ∧ (k = n ∨ best = some k) := by
  unfold shedBetter
  split
  · exact ⟨n, rfl, .inl rfl⟩
  · split
    · exact ⟨n, rfl, .inl rfl⟩
    · exact ⟨_, rfl, .inr rfl⟩

/-- The choice falls on a port of the list, or on the one that stood before. -/
theorem foldl_shedBetter (d : Dev) : ∀ (l : List Nat) (best : Option Nat),
    (l = [] ∧ l.foldl (shedBetter d) best = best) ∨ ∃ k, l.foldl (shedBetter d) best = some k ∧ (k ∈ l ∨ best = some k)
  | [], best => .inl ⟨rfl, rfl⟩
  | n :: l, best => by
    obtain ⟨k, hk, hfrom⟩ := shedBetter_isSome d best n
    rw [List.foldl_cons, hk]
    refine .inr ?_
    rcases foldl_shedBetter d l (some k) with ⟨rfl, hl⟩ | ⟨j, hj, hmem⟩
    · refine ⟨k, hl, ?_⟩
      rcases hfrom with rfl | h
      · exact .inl (List.mem_cons_self ..)
      · exact .inr h
    · refine ⟨j, hj, ?_⟩
      rcases hmem with h | h
      · exact .inl (List.mem_cons_of_mem _ h)
      · obtain rfl := Option.some.inj h
        rcases hfrom with rfl | h
        · exact .inl (List.mem_cons_self ..)
        · exact .inr h

theorem candidate_of_shedNext (h : shedNext d = some n) : n < 8 ∧ candidate d n = true := by
  rw [shedNext_eq] at h
  rcases foldl_shedBetter d ((List.range 8).filter (candidate d)) none with ⟨-, hl⟩ | ⟨k, hk, hmem⟩
  · rw [h] at hl; cases hl
  · rw [h] at hk
    obtain rfl := Option.some.inj hk
    simpa using hmem

theorem no_candidate_of_shedNext (h : shedNext d = none) : ∀ n < 8, candidate d n = false := by
  rw [shedNext_eq] at h
  rcases foldl_shedBetter d ((List.range 8).filter (candidate d)) none with ⟨hl, -⟩ | ⟨k, hk, -⟩
  · simpa using hl
  · rw [h] at hk; cases hk

/-- How many candidates are left. -/
def candidates (d : Dev) : Nat := ((Finset.range 8).filter fun n => candidate d n = true).card

theorem candidate_shedPort_other (cause : ShedCause) (h : m ≠ n) : candidate (shedPort cause n d) m = candidate d m := by
  unfold candidate
  rw [Only.cable (S := shedParts n) (t := shedPort cause n d) (d := d) (by simp) m (by simp [Part.seenIn, Ne.symm h])]

/-- A shed takes one port from the candidates. -/
theorem candidates_shedPort_lt (cause : ShedCause) (hn : n < 8) (hc : candidate d n = true) :
    candidates (shedPort cause n d) < candidates d := by
  have hgone : candidate (shedPort cause n d) n = false := by simp [candidate, isShed_shedPort]
  refine Finset.card_lt_card (Finset.ssubset_iff_subset_ne.mpr ⟨fun m hm => ?_, fun heq => ?_⟩)
  · by_cases h : m = n
    · subst h; simp [hgone] at hm
    · simpa [candidate_shedPort_other cause h] using hm
  · have hmem : n ∈ (Finset.range 8).filter fun n => candidate d n = true := by simp [hn, hc]
    rw [← heq] at hmem
    simp [hgone] at hmem

/-- Shedding as often as there are candidates covers the ledger. -/
theorem covered_shedWhile : ∀ (k : Nat) (d : Dev), candidates d ≤ k → Covered (shedWhile k d)
  | 0, d, h => by
    refine covered_of_no_candidate fun n hn => ?_
    by_contra hc
    replace hc : candidate d n = true := by simpa [shedWhile] using hc
    have hmem : n ∈ (Finset.range 8).filter fun n => candidate d n = true := by simp [hn, hc]
    have := Finset.card_pos.mpr ⟨n, hmem⟩
    unfold candidates at h
    omega
  | k + 1, d, h => by
    unfold shedWhile
    split
    · rename_i hfree; exact .inl hfree
    · split
      · rename_i hnone; exact covered_of_no_candidate (no_candidate_of_shedNext hnone)
      · rename_i n hsome
        obtain ⟨hn, hc⟩ := candidate_of_shedNext hsome
        have := candidates_shedPort_lt .ledger hn hc
        exact covered_shedWhile k _ (by omega)

theorem isShed_shedWhile : ∀ (k : Nat) (d : Dev), isShed (cable d m) = true → isShed (cable (shedWhile k d) m) = true
  | 0, _, h => h
  | k + 1, d, h => by
    unfold shedWhile
    split
    · exact h
    · split
      · exact h
      · exact isShed_shedWhile k _ (isShed_shedPort_of_isShed _ _ h)

theorem only_shedWhile : ∀ (k : Nat) (d : Dev), Only stepWide (shedWhile k d) d
  | 0, _ => .refl _ _
  | k + 1, d => by
    unfold shedWhile
    split
    · exact .refl _ _
    · split
      · exact .refl _ _
      · rename_i n hsome
        exact (only_shedWhile k _).trans (only_shedPort_wide _ (candidate_of_shedNext hsome).1)

theorem candidates_le (d : Dev) : candidates d ≤ 8 := (Finset.card_filter_le _ _).trans_eq (Finset.card_range 8)

/-! ### FREE -/

/-- When one port alone changes and its inflow stands, FREE moves as its outflow does. -/
theorem ledgerFree_add_portOut (hn : n < 8) (hcfg : ∀ obj el, cfg t obj el = cfg d obj el) (hslots : t.slots = d.slots)
    (hother : ∀ m, m ≠ n → cable t m = cable d m) (hin : portIn (cable t n) = portIn (cable d n)) :
    ledgerFree t + portOut (cable t n) = ledgerFree d + portOut (cable d n) := by
  have hinflow : inflow t = inflow d := by
    have hport (m : Nat) : portIn (cable t m) = portIn (cable d m) := by
      by_cases h : m = n
      · rw [h, hin]
      · rw [hother m h]
    simp only [inflow, sinkInflow, hport, hcfg]
  have hslot (s : Nat) : slotOf t s = slotOf d s := by unfold slotOf; rw [hslots]
  have hsum : ∀ l : List Nat, l.Nodup → n ∈ l →
      (l.map fun m => portOut (cable t m)).sum + portOut (cable d n) =
        (l.map fun m => portOut (cable d m)).sum + portOut (cable t n) := by
    intro l hl hmem
    induction l with
    | nil => cases hmem
    | cons a l ih =>
      obtain ⟨ha, hl⟩ := List.nodup_cons.mp hl
      simp only [List.map_cons, List.sum_cons]
      by_cases h : a = n
      · subst h
        have hrest : (l.map fun m => portOut (cable t m)) = l.map fun m => portOut (cable d m) :=
          List.map_congr_left fun m hm => by rw [hother m fun e => ha (e ▸ hm)]
        rw [hrest]; omega
      · have := ih hl (by simpa [Ne.symm h] using hmem)
        rw [hother a h]; omega
  have := hsum (List.range 8) List.nodup_range (List.mem_range.mpr hn)
  unfold ledgerFree outflow
  simp only [hinflow, hcfg, hslot]
  omega

/-- FREE stands when the ledger's entries do. -/
theorem ledgerFree_congr (hcfg : ∀ obj el, cfg t obj el = cfg d obj el) (hslots : t.slots = d.slots)
    (hcables : ∀ m, cable t m = cable d m) : ledgerFree t = ledgerFree d := by
  have hslot (s : Nat) : slotOf t s = slotOf d s := by unfold slotOf; rw [hslots]
  simp only [ledgerFree, inflow, sinkInflow, outflow, hcfg, hslot, hcables]

/-- The same for LEDGER_DEFICIT. -/
theorem deficitNow_congr (hcfg : ∀ obj el, cfg t obj el = cfg d obj el) (hslots : t.slots = d.slots)
    (hcables : ∀ m, cable t m = cable d m) : deficitNow t = deficitNow d := by
  simp only [deficitNow, ledgerFree_congr hcfg hslots hcables, hcables]

/-! ### Examining a refused first allowance again (R286) -/

/-- Whether a step looks at port `n` again. -/
def looksAgain (d : Dev) (n : Nat) : Bool :=
  let c := cable d n
  c.firstRefused && c.typec == .attachedSrc && c.powerRole == .source && c.guard != .wet && c.path != .latched
    && !((List.range 8).any fun m => isShed (cable d m))

/-- The port as it is looked at: a fault that has been cleared counts as OFF. -/
def lookedAt (n : Nat) (d : Dev) : Dev :=
  setCable n (fun c => { c with path := if c.path = .faultShort then .faultShort else .off }) d

/-- One port examined again. -/
def reexamineOne (d : Dev) (n : Nat) : Dev := if looksAgain d n then applyVbus n (lookedAt n d) else d

theorem reexamine_eq (d : Dev) : reexamine d = (List.range 8).foldl reexamineOne d := rfl

/-- What examining a port again may reach. -/
@[simp] def rampParts (n : Nat) : List Part := .timer .droopMax :: portParts n

/-- Where the port is not WET, applying VBUS starts no step. -/
theorem only_applyVbus_of_not_wet (h : (cable d n).guard ≠ .wet) : Only (rampParts n) (applyVbus n d) d := by
  simp [applyVbus, h]

theorem looksAgain_iff : looksAgain d n = true ↔ (cable d n).firstRefused = true ∧ (cable d n).typec = .attachedSrc ∧
    (cable d n).powerRole = .source ∧ (cable d n).guard ≠ .wet ∧ (cable d n).path ≠ .latched ∧
    ∀ m < 8, isShed (cable d m) = false := by
  simp [looksAgain, and_assoc]

@[simp] theorem cable_lookedAt (n : Nat) (d : Dev) : cable (lookedAt n d) n =
    { cable d n with path := if (cable d n).path = .faultShort then .faultShort else .off } := by simp [lookedAt]

theorem only_reexamineOne (d : Dev) (n : Nat) : Only (rampParts n) (reexamineOne d n) d := by
  unfold reexamineOne
  rw [only_ite]
  refine ⟨fun h => ?_, fun _ => .refl _ _⟩
  obtain ⟨-, -, -, hwet, -⟩ := looksAgain_iff.mp h
  exact (only_applyVbus_of_not_wet (by simpa using hwet)).trans (by simp [lookedAt])

@[simp] theorem cable_rampUp (n : Nat) (d : Dev) : cable (rampUp n d) n =
    { cable d n with
      gateOn := true, discharge := false, path := if d.shep.droop then .frozen else .inrush,
      retriesLeft := if (cable d n).path = .faultShort then (cable d n).retriesLeft - 1 else (cable d n).retriesLeft,
      guardFresh := false, vbusWait := false, firstRefused := false, ladder := { (cable d n).ladder with short := false },
      windowEnd := d.now + cfg d (pathObj n) 9 * ms, frozenAt := d.now, shedCause := .none, claim := 0,
      vctl := vctlOf 5000, ilim := ilimOf ((cable d n).booked / 5), vcorr := 0 } := by
  unfold rampUp
  dsimp only
  split <;> simp [setConverter]

/-- What examining a port again leaves of it: its VBUS waits, it ramps with its booking or with an allowance that FREE covers, or it
stays refused. -/
theorem applyVbus_cases (hlatched : (cable d n).path ≠ .latched) (hwet : (cable d n).guard ≠ .wet) :
    cable (applyVbus n d) n = { cable d n with vbusWait := true } ∨
    ((cable d n).booked ≠ 0 ∧ cable (applyVbus n d) n = cable (rampUp n d) n) ∨
    ((cable d n).booked = 0 ∧ (firstNeed d (cable d n) : Int) ≤ ledgerFree d ∧
      portOut (cable (applyVbus n d) n) ≤ portOut (cable d n) + firstNeed d (cable d n) ∧
      (cable (applyVbus n d) n).powerRole = .source) ∨
    cable (applyVbus n d) n = { cable d n with firstRefused := true, vbusWait := false } := by
  unfold applyVbus
  simp only [hlatched, if_false, hwet, false_and]
  split
  · exact .inl (by simp)
  split
  · rename_i hb; exact .inr (.inl ⟨hb, rfl⟩)
  rename_i hb
  split
  · rename_i hfree
    refine .inr (.inr (.inl ⟨by simpa using hb, hfree, ?_, by simp⟩))
    simp only [cable_rampUp, cable_setCable_self, portOut, vconnMw, firstNeed]
    have hb : (cable d n).booked = 0 := by simpa using hb
    split <;> split <;> simp_all <;> omega
  · exact .inr (.inr (.inr (by simp)))

/-- Coverage stands when one port changes in nothing that the ledger or a shed looks at, and no port is shed. -/
theorem covered_of_same_entries (hcov : Covered d) (hnone : ∀ m < 8, isShed (cable d m) = false)
    (hfree : ledgerFree t = ledgerFree d) (hsame : ∀ m < 8, sourcing (cable t m) = sourcing (cable d m)) : Covered t := by
  rcases hcov with h | h
  · exact .inl (hfree ▸ h)
  · refine .inr fun m hm hs => ?_
    have := h m hm (hsame m hm ▸ hs)
    rw [hnone m hm] at this
    cases this

theorem covered_reexamineOne (hn : n < 8) (hcov : Covered d) : Covered (reexamineOne d n) := by
  by_cases hlooks : looksAgain d n = true
  case neg => simpa [reexamineOne, hlooks] using hcov
  have honly := only_reexamineOne d n
  have happly : reexamineOne d n = applyVbus n (lookedAt n d) := if_pos hlooks
  rw [happly] at honly ⊢
  obtain ⟨-, -, hrole, hwet, hlatched, hnone⟩ := looksAgain_iff.mp hlooks
  have hcfg := honly.cfg rfl
  have hslots := honly.slots rfl
  have hother (m : Nat) (hm : m ≠ n) := honly.cable m (by simp [Part.seenIn, Ne.symm hm])
  have hin (hsource : (cable (applyVbus n (lookedAt n d)) n).powerRole = .source) :
      portIn (cable (applyVbus n (lookedAt n d)) n) = portIn (cable d n) := by simp [portIn, hsource, hrole]
  have hledger (hsource : (cable (applyVbus n (lookedAt n d)) n).powerRole = .source) :=
    ledgerFree_add_portOut hn hcfg hslots hother (hin hsource)
  have hunchanged (hsource : (cable (applyVbus n (lookedAt n d)) n).powerRole = .source)
      (hout : portOut (cable (applyVbus n (lookedAt n d)) n) = portOut (cable d n))
      (hsame : sourcing (cable (applyVbus n (lookedAt n d)) n) = sourcing (cable d n)) :
      Covered (applyVbus n (lookedAt n d)) := by
    refine covered_of_same_entries hcov hnone (by have := hledger hsource; omega) fun m _ => ?_
    by_cases hm : m = n
    · rw [hm, hsame]
    · rw [hother m hm]
  have hpath : (cable (lookedAt n d) n).path ≠ .latched := by simp only [cable_lookedAt]; split <;> simp
  rcases applyVbus_cases (d := lookedAt n d) hpath (by simpa using hwet) with h | ⟨hb, h⟩ | ⟨-, hfree, hout, hsource⟩ | h
  · exact hunchanged (by simp [h, hrole]) (by simp [h, portOut, vconnMw]) (by simp [h, sourcing])
  · have hsources : sourcing (cable d n) = true := by simp [sourcing, hrole]; right; simpa using hb
    have hfree : 0 ≤ ledgerFree d := by
      rcases hcov with h | h
      · exact h
      · have := h n hn hsources
        rw [hnone n hn] at this
        cases this
    have := hledger (by simp [h, hrole])
    exact .inl (by simp only [h, cable_rampUp, cable_lookedAt, portOut, vconnMw] at this; omega)
  · have hlooked : ledgerFree (lookedAt n d) = ledgerFree d := by
      have := ledgerFree_add_portOut (t := lookedAt n d) (d := d) hn (fun _ _ => rfl) rfl
        (fun m hm => cable_setCable_other _ _ hm) (by simp [portIn])
      simp only [cable_lookedAt, portOut, vconnMw] at this
      omega
    have hentry : portOut (cable (lookedAt n d) n) = portOut (cable d n) := by simp [portOut, vconnMw]
    have := hledger hsource
    exact .inl (by omega)
  · exact hunchanged (by simp [h, hrole]) (by simp [h, portOut, vconnMw]) (by simp [h, sourcing])

theorem covered_reexamine (hcov : Covered d) : Covered (reexamine d) := by
  rw [reexamine_eq]
  exact List.foldlRecOn (motive := Covered) _ _ hcov fun u hu n hn => covered_reexamineOne (List.mem_range.mp hn) hu

/-- While a port is shed nothing is examined again. -/
theorem reexamine_of_shed (hm : m < 8) (h : isShed (cable d m) = true) : reexamine d = d := by
  rw [reexamine_eq]
  refine List.foldlRecOn (motive := fun u => u = d) _ _ rfl fun u hu n _ => ?_
  subst hu
  refine if_neg fun hlooks => ?_
  obtain ⟨-, -, -, -, -, hnone⟩ := looksAgain_iff.mp hlooks
  rw [hnone m hm] at h
  cases h

/-- What examining every port again may reach. -/
@[simp] def rampWide : List Part :=
  [.timer .droopMax, .cables, .timersOf (.port 0), .timersOf (.port 1), .timersOf (.port 2), .timersOf (.port 3),
   .timersOf (.port 4), .timersOf (.port 5), .timersOf (.port 6), .timersOf (.port 7)]

theorem only_reexamine (d : Dev) : Only rampWide (reexamine d) d := by
  rw [reexamine_eq]
  refine Only.foldl _ (fun u n hn => (only_reexamineOne u n).mono ?_) d
  simp only [List.mem_range] at hn
  interval_cases n <;> decide

/-! ### The step -/

/-- What has been cut or lost when the sheds of a step are over. -/
def shedAll (d : Dev) : Dev := shedWhile 8 (takeCeilings (takeFaults (takeCuts d)))

/-- The ports that are shed. -/
def shedPorts (d : Dev) : List Nat := (List.range 8).filter fun n => isShed (cable d n)

/-- What a step records of itself, where `shed` says that it shed a port. -/
def noteStep (took : Nat) (shed : Prop) [Decidable shed] (d : Dev) : Dev :=
  onShep (fun s =>
    { s with stepDue := false, overrun := false, stepCount := if shed then satInc s.stepCount else s.stepCount,
             restoreSet := if shed then [] else s.restoreSet, restoreSince := if shed then none else s.restoreSince })
    (disarm .overrun (if shed then onOd (fun o => { o with watchShed := max o.watchShed (min took 0xFFFFFFFF) }) d else d))

/-- What a step leaves when it may run, but for the word to the host. -/
def stepped (took : Nat) (d : Dev) : Dev :=
  let shed := shedPorts (shedAll d) ≠ shedPorts d
  if shed then noteStep took shed (shedAll d) else reexamine (noteStep took shed (shedAll d))

theorem shepherdStep_eq (took : Nat) (hdue : d.shep.stepDue = true) (hruns : planesRun d = true) :
    shepherdStep took d = tellDeficit (stepped took d) := by
  unfold shepherdStep
  simp only [hdue, hruns, Bool.not_true, Bool.or_self, Bool.false_eq_true, if_false]
  rfl

theorem only_noteStep (took : Nat) (shed : Prop) [Decidable shed] : Only [.shep, .timer .overrun, .odBook] (noteStep took shed d) d := by
  unfold noteStep
  rw [only_onShep _ (by simp), only_disarm _ (by simp), only_ite, only_onOd_book rfl rfl rfl (by simp)]
  simp

theorem only_shedAll (d : Dev) : Only stepWide (shedAll d) d :=
  (only_shedWhile 8 _).trans (only_takeCeilings.trans (only_takeFaults.trans only_takeCuts))

theorem isShed_shedAll (h : isShed (cable d m) = true) : isShed (cable (shedAll d) m) = true :=
  isShed_shedWhile 8 _ (isShed_takeCeilings (isShed_takeFaults (isShed_takeCuts h)))

theorem covered_of_only {S : List Part} (h : Only S t d) (hcov : Covered d)
    (hS : [View.cfgs, .slots, .cables].all (Clear S) = true) : Covered t := by
  have hcable := cable_of_cables (h.cables (clear_of_all hS (by simp)))
  rw [Covered, ledgerFree_congr (h.cfg (clear_of_all hS (by simp))) (h.slots (clear_of_all hS (by simp))) hcable]
  simp only [hcable]
  exact hcov

theorem only_stepped (took : Nat) (d : Dev) : Only (.shep :: stepWide) (stepped took d) d := by
  have hnote := ((only_noteStep took (shedPorts (shedAll d) ≠ shedPorts d)).mono (S := .shep :: stepWide) (by simp)).trans
    ((only_shedAll d).mono (by simp))
  unfold stepped
  dsimp only
  split
  · exact hnote
  · exact ((only_reexamine _).mono (by simp)).trans hnote

theorem deficit_noteStep (took : Nat) (shed : Prop) [Decidable shed] (d : Dev) :
    (noteStep took shed d).shep.deficit = d.shep.deficit := by
  unfold noteStep
  split <;> rfl

/-- The deficit is told once the step is over, and stands until then. -/
theorem deficit_stepped (took : Nat) (d : Dev) : (stepped took d).shep.deficit = d.shep.deficit := by
  have hshed : (shedAll d).shep.deficit = d.shep.deficit := by
    rw [(only_shedAll d).shepRest rfl]
  unfold stepped
  dsimp only
  split
  · rw [deficit_noteStep, hshed]
  · rw [(only_reexamine _).shep rfl, deficit_noteStep, hshed]

theorem covered_stepped (took : Nat) (d : Dev) : Covered (stepped took d) := by
  have hshed : Covered (shedAll d) := covered_shedWhile 8 _ (candidates_le _)
  have hnote := covered_of_only (only_noteStep took (shedPorts (shedAll d) ≠ shedPorts d)) hshed rfl
  unfold stepped
  dsimp only
  split
  · exact hnote
  · exact covered_reexamine hnote

theorem isShed_stepped (took : Nat) (hm : m < 8) (h : isShed (cable d m) = true) : isShed (cable (stepped took d) m) = true := by
  have hnote : isShed (cable (noteStep took (shedPorts (shedAll d) ≠ shedPorts d) (shedAll d)) m) = true := by
    rw [Only.cable (only_noteStep took _) m rfl]
    exact isShed_shedAll h
  unfold stepped
  dsimp only
  split
  · exact hnote
  · rw [reexamine_of_shed hm hnote]
    exact hnote

/-- The step is over: none is due, and none is late. -/
theorem shep_stepped (took : Nat) (d : Dev) : (stepped took d).shep.stepDue = false ∧ (stepped took d).shep.overrun = false ∧
    armed .overrun (stepped took d) = false := by
  have hnote (shed : Prop) [Decidable shed] (u : Dev) : (noteStep took shed u).shep.stepDue = false ∧
      (noteStep took shed u).shep.overrun = false ∧ armed .overrun (noteStep took shed u) = false :=
    ⟨rfl, rfl, armed_disarm_self .overrun _⟩
  unfold stepped
  dsimp only
  split
  · exact hnote _ _
  · have honly := only_reexamine (noteStep took (shedPorts (shedAll d) ≠ shedPorts d) (shedAll d))
    rw [honly.shep rfl, honly.armed _ rfl]
    exact hnote _ _

/-! ### Word to the host -/

theorem only_tellDeficit (d : Dev) : Only [.shep, .out] (tellDeficit d) d := by simp [tellDeficit]

theorem shep_tellDeficit (d : Dev) : (tellDeficit d).shep = { d.shep with deficit := deficitNow d } := by
  unfold tellDeficit
  dsimp only
  split <;> simp

/-- A deficit that begins is told. -/
theorem mem_out_tellDeficit (hnow : deficitNow d = true) (hbefore : d.shep.deficit = false) :
    Emission.notice .ledgerDeficit ∈ (tellDeficit d).out := by
  simp [tellDeficit, hnow, hbefore, emit, bankSilent, heldSilent]

theorem besidePort_trans {t u d : Dev} (h : BesidePort t u) (h' : BesidePort u d) : BesidePort t d := by
  obtain ⟨hslots, ⟨hotp, hflash, hheat⟩, hrt, hcls⟩ := h
  obtain ⟨hslots', ⟨hotp', hflash', hheat'⟩, hrt', hcls'⟩ := h'
  exact ⟨hslots.trans hslots', ⟨hotp.trans hotp', hflash.trans hflash', hheat.trans hheat'⟩, hrt.trans hrt', by rw [hcls, hcls']⟩

/-- Settles O44. A step sheds until the ledger is covered or nothing more can be shed; what it examines again keeps that, and
nothing after it reaches the ledger. -/
theorem shepherdCoversTheLedger : Obligations.ShepherdCoversTheLedger := by
  unfold Obligations.ShepherdCoversTheLedger
  intro s took hdue hruns
  refine answers_of_exec_eq_run (f := thenTarget (shepherdStep took)) rfl ?_
  have hend : settle (thenTarget (shepherdStep took) (hush s.dev)) =
      settle (followTarget (tellDeficit (stepped took (hush s.dev)))) := by
    rw [thenTarget, shepherdStep_eq (d := hush s.dev) took hdue hruns]
  rw [hend]
  have hfront : Only [.odBook, .out] (hush s.dev) s.dev := by simp
  obtain ⟨hstepDue, hoverrun, harmed⟩ := shep_stepped took (hush s.dev)
  have hbegins : (stepped took (hush s.dev)).shep.deficit = s.dev.shep.deficit := by
    rw [deficit_stepped, hfront.shep rfl]
  have hcovered := covered_stepped took (hush s.dev)
  have hstays (n : Nat) (hn : n < 8) (h : isShed (cable s.dev n) = true) : isShed (cable (stepped took (hush s.dev)) n) = true :=
    isShed_stepped took hn (by rw [hfront.cable n rfl]; exact h)
  have hfrom : Only (.shep :: stepWide) (stepped took (hush s.dev)) s.dev := (only_stepped took _).trans (hfront.mono (by simp))
  generalize stepped took (hush s.dev) = u at *
  have htarget : Only (.odBook :: .irq :: targetParts) (settle (followTarget (tellDeficit u))) (tellDeficit u) := by simp
  generalize settle (followTarget (tellDeficit u)) = t at *
  have hafter : Only (.shep :: .out :: .odBook :: .irq :: targetParts) t u :=
    (htarget.mono (by decide)).trans ((only_tellDeficit u).mono (by decide))
  have hcable := cable_of_cables (hafter.cables rfl)
  have hdeficit : deficitNow t = deficitNow u :=
    deficitNow_congr (hafter.cfg rfl) (hafter.slots rfl) hcable
  have hshep : t.shep = { u.shep with deficit := deficitNow u } := by
    rw [htarget.shep rfl, shep_tellDeficit]
  refine ⟨by rw [hshep]; exact hstepDue, by rw [hshep]; exact hoverrun, ?_, by rw [hshep, hdeficit], ?_,
    covered_of_only hafter hcovered rfl, ?_, ?_⟩
  · rw [hafter.armed _ rfl, harmed]
  · intro hnow hbefore
    rw [htarget.out rfl]
    exact mem_out_tellDeficit (hdeficit ▸ hnow) (hbegins.trans hbefore)
  · intro n hn hshed
    rw [hcable]
    exact hstays n hn hshed
  · exact besidePort_trans (hafter.besidePort rfl) (hfrom.besidePort rfl)

end Sys2Proof.Proofs.Shepherd


/-! SUPPORT. Commands that run at once or at an expiry, and timers across what a command does around its effect. -/

namespace Sys2Proof.Proofs.Running

open Sys2Proof Sys2Proof.Machine Sys2Proof.Safety
open Sys2Proof.Proofs.StrapWindow (answers_of_exec_eq_run)
open Sys2Proof.Proofs.ShapersAndTally
open Sys2Proof.Proofs.Frames

/-! ### Commands -/

section
variable {c : Instr} {s : State} {f : Dev → Dev} {P : Dev → Prop} {u : Dev} {t : Timer}

/-- A command whose effect makes a known device. -/
theorem answers_of_effect (hexec : exec c s = run f s) (hf : f (hush s.dev) = u) (hP : P (settle u)) : Answers c s P :=
  answers_of_exec_eq_run hexec (hf ▸ hP)

theorem answers_became (hexec : exec c s = run f s) (hf : f (hush s.dev) = u) : Answers c s fun t => Became t u :=
  answers_of_effect hexec hf (became_settle u)

/-- The command of a timer that runs. -/
theorem answers_of_expiry (hexec : exec c s = run (onExpiry t f) s) (harmed : armed t s.dev = true)
    (hP : P (settle (f (expired t s.dev)))) : Answers c s P :=
  answers_of_effect hexec (onExpiry_hush_of_armed harmed) hP

theorem answers_of_answers {P' : Dev → Prop} (h : Answers c s P') (hP : ∀ t, P' t → P t) : Answers c s P := by
  obtain ⟨t, ht, hpending, hP'⟩ := h
  exact ⟨t, ht, hpending, hP _ hP'⟩

end

/-! ### Timers that run -/

section
variable {t u : Timer} {ns k : Nat} {d : Dev}

@[simp] theorem runsFor_settle : runsFor t ns (settle d) ↔ runsFor t ns d := by simp [runsFor]

@[simp] theorem runsFor_arm_self : runsFor t ns (arm t ns d) := by simp [runsFor, arm, armAt]

theorem runsFor_arm_other (h : t ≠ u) : runsFor t ns (arm u k d) ↔ runsFor t ns d := by
  simp [runsFor, arm, armAt, h]

theorem runsFor_disarm_other (h : t ≠ u) : runsFor t ns (disarm u d) ↔ runsFor t ns d := by
  simp [runsFor, disarm, h]

@[simp] theorem runsFor_onAon {f : Aon → Aon} : runsFor t ns (onAon f d) ↔ runsFor t ns d := Iff.rfl
@[simp] theorem runsFor_onBoot {f : Boot → Boot} : runsFor t ns (onBoot f d) ↔ runsFor t ns d := Iff.rfl
@[simp] theorem runsFor_onOd {f : Od → Od} : runsFor t ns (onOd f d) ↔ runsFor t ns d := Iff.rfl
@[simp] theorem runsFor_onHw {f : HostWin → HostWin} : runsFor t ns (onHw f d) ↔ runsFor t ns d := Iff.rfl
@[simp] theorem runsFor_onShep {f : Shepherd → Shepherd} : runsFor t ns (onShep f d) ↔ runsFor t ns d := Iff.rfl
@[simp] theorem runsFor_onTm {f : TimeBase → TimeBase} : runsFor t ns (onTm f d) ↔ runsFor t ns d := Iff.rfl
@[simp] theorem runsFor_onNg {f : Nguzo → Nguzo} : runsFor t ns (onNg f d) ↔ runsFor t ns d := Iff.rfl
@[simp] theorem runsFor_onHeat {f : Heat → Heat} : runsFor t ns (onHeat f d) ↔ runsFor t ns d := Iff.rfl
@[simp] theorem runsFor_onFab {f : Fabric → Fabric} : runsFor t ns (onFab f d) ↔ runsFor t ns d := Iff.rfl
@[simp] theorem runsFor_raiseIrq {i : Nat} : runsFor t ns (raiseIrq i d) ↔ runsFor t ns d := Iff.rfl
@[simp] theorem runsFor_setCable {n : Nat} {f : Cable → Cable} : runsFor t ns (setCable n f d) ↔ runsFor t ns d := Iff.rfl

@[simp] theorem armed_onAon {f : Aon → Aon} : armed t (onAon f d) = armed t d := rfl
@[simp] theorem armed_onBoot {f : Boot → Boot} : armed t (onBoot f d) = armed t d := rfl
@[simp] theorem armed_expired_self : armed t (expired t d) = false := armed_disarm_self t _

end

end Sys2Proof.Proofs.Running


/-! The straps, the rails and the reference (chapters 2 and 3). -/

namespace Sys2Proof.Proofs.Boot

open Sys2Proof Sys2Proof.Machine Sys2Proof.Safety
open Sys2Proof.Proofs.StrapWindow (enterStage_strapsS)
open Sys2Proof.Proofs.ShapersAndTally
open Sys2Proof.Proofs.Frames
open Sys2Proof.Proofs.Running

/-! ### Power-on reset and its pins (R63, R71, R80, R101) -/

section
variable {S : List Part} {d e : Dev}

theorem only_setRaw (a w : Nat) (hS : Within [.otp] S = true) : Only S (setRaw a w d) e ↔ Only S d e :=
  only_onOtp (d := d) (fun o => { o with array := tset 0 d.otp.array a (BitVec.ofNat 39 w) }) hS

@[simp] theorem only_abandonBurn (hS : Within [.otp, .free] S = true) : Only S (abandonBurn d) e ↔ Only S d e := by
  refine Only.iff (T := [.otp, .free]) ?_ hS
  unfold abandonBurn
  split
  · simp
  · dsimp only
    split
    · simp
    · rw [only_setRaw _ _ (by simp)]
      simp

@[simp] theorem only_presentUnpowered (hS : Within [.out] S = true) : Only S (presentUnpowered d) e ↔ Only S d e := by
  refine Only.iff (T := [.out]) ?_ hS
  unfold presentUnpowered
  exact Only.foldl _ (fun u n _ => by simp) d

end

theorem abandonBurn_of_none {d : Dev} (h : d.otp.burn = none) : abandonBurn d = d := by simp [abandonBurn, h]

theorem porRelease_of_off {d : Dev} (hoff : aonRuns d = false) : porRelease d = arm .xtal sec
    { d with aon := { d.aon with lastReset := .por, lastWake := 0x80, railSawTimeout := false,
                                 window := some { all := true, sampleA := none }, pwrEn := false }
             boot := { d.boot with startAt := d.now, stage := .strapsS } } := by
  rw [porRelease, hoff]
  rfl

theorem xtalFail_of_crystal {d : Dev} (h : d.aon.aonRc = false) :
    xtalFail d = { d with aon := { d.aon with xtalFail := true } } := by
  simp [xtalFail, onAon, h]

/-! ### SYS reset (R81-R84, Table 3-6) -/

section
variable {S : List Part} {d e : Dev}

@[simp] theorem only_stage (off : Nat) (bs : List Byte) (hS : Within [.hw] S = true) : Only S (stage off bs d) e ↔ Only S d e :=
  Only.iff (T := [.hw]) (by simp [stage]) hS

@[simp] theorem only_finishDesc (q : Desc) (status result done : Nat) (hS : Within [.hw] S = true) :
    Only S (finishDesc q status result done d) e ↔ Only S d e := by
  refine Only.iff (T := [.hw]) ?_ hS
  unfold finishDesc
  extract_lets staged size told done_
  have hstaged : Only [.hw] staged d := by simp [staged]
  have htold : Only [.hw] told d := (only_onHw _ rfl).mpr hstaged
  have hdone : Only [.hw] done_ d := by simp [done_, htold]
  simp [hdone]

@[simp] theorem only_tdmaAbort (hS : Within [.hw] S = true) : Only S (tdmaAbort d) e ↔ Only S d e := by
  refine Only.iff (T := [.hw]) ?_ hS
  unfold tdmaAbort
  split <;> simp

@[simp] theorem only_dischargeOn (n : Nat) (hS : Within [.cable n, .timer (.discharge n)] S = true) :
    Only S (dischargeOn n d) e ↔ Only S d e := Only.iff (T := [.cable n, .timer (.discharge n)]) (by simp [dischargeOn]) hS

@[simp] theorem only_keepHeld (n : Nat) (old : Cable) (hS : Within [.cable n] S = true) : Only S (keepHeld n old d) e ↔ Only S d e :=
  Only.iff (T := [.cable n]) (by simp [keepHeld]) hS

@[simp] theorem only_enterStage (st : Stage) (hS : Within [.boot, .timer .bootLimit, .irq] S = true) :
    Only S (enterStage st d) e ↔ Only S d e := by
  refine Only.iff (T := [.boot, .timer .bootLimit, .irq]) ?_ hS
  cases st <;> simp [enterStage]

end

/-- The end of a descriptor leaves the request buffer and DUMMY alone. -/
theorem finishDesc_hw (q : Desc) (status result done : Nat) (d : Dev) :
    (finishDesc q status result done d).hw.reqBuf = d.hw.reqBuf ∧ (finishDesc q status result done d).hw.dummy = d.hw.dummy := by
  unfold finishDesc
  extract_lets staged size told done_
  have htold : told.hw.reqBuf = d.hw.reqBuf ∧ told.hw.dummy = d.hw.dummy := by simp [told, staged, stage]
  have hdone : done_.hw.reqBuf = d.hw.reqBuf ∧ done_.hw.dummy = d.hw.dummy := by
    unfold done_
    split
    · exact htold
    · exact htold
  split
  · exact hdone
  · exact hdone

theorem tdmaAbort_hw (d : Dev) : (tdmaAbort d).hw.reqBuf = d.hw.reqBuf ∧ (tdmaAbort d).hw.dummy = d.hw.dummy := by
  unfold tdmaAbort
  split
  · exact finishDesc_hw _ _ _ _ _
  · exact ⟨rfl, rfl⟩

/-- The device as a SYS reset finds it: a burn and a descriptor in progress have ended. -/
def haltedWork (d : Dev) : Dev := abandonBurn (tdmaAbort d)

/-- The ports whose VBUS a SYS reset discharges. -/
def resetSources (cause : ResetCause) (d : Dev) : List Nat := if cause != .rail then sourcingPorts d else []

/-- Whether AON holds the gates of C0 or C1 through a SYS reset, for a sink contract or a dead-battery start. -/
def resetHold (cause : ResetCause) (d : Dev) (n : Nat) : Bool := cause != .rail && sinkHold d n
@[inherit_doc resetHold] def resetDeadHold (cause : ResetCause) (d : Dev) (n : Nat) : Bool :=
  cause != .rail && deadBatteryHold d n

/-- What AON records of a SYS reset, over the device `d`. -/
def resetAon (cause : ResetCause) (d : Dev) (a : Aon) : Aon :=
  { a with
    lastReset := cause, sysResetCount := (a.sysResetCount + 1) % 2 ^ 32
    hold0 := resetHold cause d 0, hold1 := resetHold cause d 1
    dbClosed := resetDeadHold cause d 0 || resetDeadHold cause d 1
    dbPort := if resetDeadHold cause d 0 || resetDeadHold cause d 1 then a.dbPort else none
    power := if a.power == .active then .idle else a.power
    railSawTimeout := false, railFails := 0, refFails := 0, fanPullDown := false, wakeLatch := 0, dbRp := none }

/-- The domains cleared, and the discharges that the reset starts. -/
def clearedAndDischarging (cause : ResetCause) (d : Dev) : Dev :=
  (resetSources cause d).foldl (fun u n => dischargeOn n u) (clearDomains d)

/-- A port keeps its gates where AON holds them. -/
def keepIf (held : Bool) (n : Nat) (old : Cable) (d : Dev) : Dev := if held then keepHeld n old d else d

/-- A SYS reset over a device whose work has ended. -/
def resetOver (cause : ResetCause) (d : Dev) : Dev :=
  keepIf (resetHold cause d 1 || resetDeadHold cause d 1) 1 (cable d 1)
    (keepIf (resetHold cause d 0 || resetDeadHold cause d 0) 0 (cable d 0)
      (onAon (resetAon cause d) (clearedAndDischarging cause d)))

theorem sysResetCore_eq (cause : ResetCause) (d : Dev) : sysResetCore cause d = resetOver cause (haltedWork d) := rfl

theorem only_haltedWork (d : Dev) : Only [.hw, .otp, .free] (haltedWork d) d := by simp [haltedWork]

theorem haltedWork_hw (d : Dev) : (haltedWork d).hw.reqBuf = d.hw.reqBuf ∧ (haltedWork d).hw.dummy = d.hw.dummy := by
  have hburn : Only [.otp, .free] (haltedWork d) (tdmaAbort d) := by simp [haltedWork]
  rw [hburn.hw rfl]
  exact tdmaAbort_hw d

theorem only_clearedAndDischarging (cause : ResetCause) (d : Dev) :
    Only [.cables, .timers] (clearedAndDischarging cause d) (clearDomains d) := Only.foldl _ (fun u n _ => by simp) _

/-- A SYS reset writes AON, and beside it only the gates and the discharges over the cleared domains. -/
theorem only_resetOver (cause : ResetCause) (d : Dev) : Only [.aon, .cables, .timers] (resetOver cause d) (clearDomains d) := by
  have hcleared := (only_clearedAndDischarging cause d).mono (S := [.aon, .cables, .timers]) (by decide)
  simp [resetOver, keepIf, hcleared]

theorem aon_resetOver (cause : ResetCause) (d : Dev) : (resetOver cause d).aon = resetAon cause d d.aon := by
  have hkept : Only [.cables] (resetOver cause d) (onAon (resetAon cause d) (clearedAndDischarging cause d)) := by
    simp [resetOver, keepIf]
  rw [hkept.aon rfl, onAon_aon, (only_clearedAndDischarging cause d).aon rfl]
  rfl

theorem boot_resetOver (cause : ResetCause) (d : Dev) : (resetOver cause d).boot = { Boot.reset with startAt := d.boot.startAt } :=
  (only_resetOver cause d).boot rfl

/-! ### The ports after a SYS reset -/

section
variable {n k : Nat} {d : Dev}

theorem cable_dischargeOn_self : cable (dischargeOn n d) n = { cable d n with discharge := true, path := .discharging } := by
  simp [dischargeOn]

theorem cable_dischargeOn_other (h : n ≠ k) : cable (dischargeOn k d) n = cable d n :=
  (show Only [.cable k, .timer (.discharge k)] (dischargeOn k d) d by simp).cable n (by simp [Part.seenIn, Ne.symm h])

theorem now_dischargeOn : (dischargeOn k d).now = d.now := rfl

theorem runsFor_dischargeOn_other (h : n ≠ k) {ns : Nat} : runsFor (.discharge n) ns (dischargeOn k d) ↔ runsFor (.discharge n) ns d := by
  unfold dischargeOn
  rw [runsFor_arm_other (by simpa using h), runsFor_setCable]

theorem cable_dischargeAll_of_notMem (l : List Nat) (h : n ∉ l) : cable (l.foldl (fun u k => dischargeOn k u) d) n = cable d n := by
  induction l generalizing d with
  | nil => rfl
  | cons k l ih =>
    simp only [List.mem_cons, not_or] at h
    rw [List.foldl_cons, ih h.2, cable_dischargeOn_other h.1]

theorem cable_dischargeAll_of_mem (l : List Nat) (h : n ∈ l) : cable (l.foldl (fun u k => dischargeOn k u) d) n =
    { cable d n with discharge := true, path := .discharging } := by
  induction l generalizing d with
  | nil => cases h
  | cons k l ih =>
    rw [List.foldl_cons]
    by_cases hl : n ∈ l
    · rw [ih hl]
      by_cases hk : n = k
      · subst hk; rw [cable_dischargeOn_self]
      · rw [cable_dischargeOn_other hk]
    · obtain rfl := (List.mem_cons.mp h).resolve_right hl
      rw [cable_dischargeAll_of_notMem l hl, cable_dischargeOn_self]

theorem runsFor_dischargeAll (l : List Nat) (h : n ∈ l ∨ runsFor (.discharge n) (650 * ms) d) :
    runsFor (.discharge n) (650 * ms) (l.foldl (fun u k => dischargeOn k u) d) := by
  induction l generalizing d with
  | nil => exact h.resolve_left (by simp)
  | cons k l ih =>
    rw [List.foldl_cons]
    refine ih ?_
    by_cases hk : n = k
    · subst hk; exact .inr runsFor_arm_self
    · exact h.imp (fun h => (List.mem_cons.mp h).resolve_left hk) (runsFor_dischargeOn_other hk).mpr

end

section
variable {cause : ResetCause} {d : Dev} {n : Nat}

theorem cable_resetOver (hn : 2 ≤ n) : cable (resetOver cause d) n = cable (clearedAndDischarging cause d) n := by
  have hkept : Only [.cable 0, .cable 1, .aon] (resetOver cause d) (clearedAndDischarging cause d) := by
    simp [resetOver, keepIf]
  exact hkept.cable n (by simp [Part.seenIn]; omega)

theorem cable_resetOver_of_notMem (hn : 2 ≤ n) (h : n ∉ sourcingPorts d) : cable (resetOver cause d) n = Cable.reset := by
  rw [cable_resetOver hn, clearedAndDischarging, cable_dischargeAll_of_notMem _ fun hmem => h ?_]
  · rfl
  · unfold resetSources at hmem
    split at hmem
    · exact hmem
    · cases hmem

theorem cable_resetOver_of_mem (hn : 2 ≤ n) (hcause : cause ≠ .rail) (h : n ∈ sourcingPorts d) :
    cable (resetOver cause d) n = { Cable.reset with discharge := true, path := .discharging } := by
  rw [cable_resetOver hn, clearedAndDischarging, cable_dischargeAll_of_mem _ (by simpa [resetSources, hcause] using h)]
  rfl

theorem runsFor_resetOver (hcause : cause ≠ .rail) (h : n ∈ sourcingPorts d) :
    runsFor (.discharge n) (650 * ms) (resetOver cause d) := by
  have hkept : Only [.cables, .aon] (resetOver cause d) (clearedAndDischarging cause d) := by simp [resetOver, keepIf]
  rw [hkept.runsFor _ rfl (hkept.now rfl)]
  exact runsFor_dischargeAll _ (.inl (by simpa [resetSources, hcause] using h))

theorem gateOn_keepHeld (old : Cable) (u : Dev) : (cable (keepHeld n old u) n).gateOn = true := by simp [keepHeld]

theorem gateOn_resetOver_zero (h : resetHold cause d 0 = true) : (cable (resetOver cause d) 0).gateOn = true := by
  have hother (held : Bool) (old : Cable) (u : Dev) : cable (keepIf held 1 old u) 0 = cable u 0 :=
    (show Only [.cable 1] (keepIf held 1 old u) u by simp [keepIf]).cable 0 rfl
  rw [resetOver, hother, keepIf, if_pos (by simp [h]), gateOn_keepHeld]

theorem gateOn_resetOver_one (h : resetHold cause d 1 = true) : (cable (resetOver cause d) 1).gateOn = true := by
  rw [resetOver, keepIf, if_pos (by simp [h]), gateOn_keepHeld]

/-- A failing rail leaves no port anything. -/
theorem cables_resetOver_rail : (resetOver .rail d).cables = [] := rfl

end

/-! ### What a SYS reset leaves, whatever causes it (R80-R84, R87, R88, R102, R104, R599-R601) -/

theorem sysReset_eq {cause : ResetCause} (hcause : cause ≠ .resetN) (d : Dev) : sysReset cause d =
    arm .railTimeout (10 * ms) (onAon (fun a => { a with pwrEn := true })
      (onBoot (fun b => { b with stage := .railsS }) (resetOver cause (haltedWork d)))) := by
  simp [sysReset, hcause, sysResetCore_eq]

/-- What of a device a SYS reset carries into the next boot. -/
def SameForReset (u d : Dev) : Prop :=
  u.cables = d.cables ∧ u.flash = d.flash ∧ u.hw = d.hw ∧ u.aon.sysResetCount = d.aon.sysResetCount ∧
  u.aon.sampled = d.aon.sampled ∧ u.aon.tcrit = d.aon.tcrit ∧ u.aon.hold0 = d.aon.hold0 ∧ u.aon.hold1 = d.aon.hold1

/-- A SYS reset of `d` with its cause has led to `t`. -/
def LeftBySysReset (cause : ResetCause) (d t : Dev) : Prop :=
  t.aon.lastReset = cause ∧ t.aon.sysResetCount = (d.aon.sysResetCount + 1) % 2 ^ 32 ∧ t.aon.pwrEn = true ∧
  t.boot.stage = .railsS ∧ t.boot.bootDone = false ∧ runsFor .railTimeout (10 * ms) t ∧ t.aon.sampled = d.aon.sampled ∧
  t.aon.tcrit = d.aon.tcrit ∧ t.od.cfg = [] ∧ t.od.sessions = [] ∧ t.slots = [] ∧ t.ng = Nguzo.reset ∧
  t.fab = Fabric.reset ∧ t.rt = RouteTab.reset ∧ t.cls = ClassTab.reset ∧ t.heat = Heat.reset ∧ t.flash = d.flash ∧
  t.hw.reqBuf = d.hw.reqBuf ∧ t.hw.dummy = d.hw.dummy ∧ t.hw.irqEnable = HostWin.reset.irqEnable ∧
  (∀ n : Nat, 2 ≤ n → n ∉ sourcingPorts d → cable t n = Cable.reset) ∧
  (∀ n : Nat, 2 ≤ n → cause ≠ .rail → n ∈ sourcingPorts d →
    cable t n = { Cable.reset with discharge := true, path := .discharging } ∧ runsFor (.discharge n) (650 * ms) t) ∧
  (cause ≠ .rail → sinkHold d 0 = true → (cable t 0).gateOn = true ∧ t.aon.hold0 = true) ∧
  (cause ≠ .rail → sinkHold d 1 = true → (cable t 1).gateOn = true ∧ t.aon.hold1 = true)

theorem SameForReset.of_only {S : List Part} {u d : Dev} (h : Only S u d)
    (hS : [View.cables, .flash, .hw, .aon].all (Clear S) = true) : SameForReset u d := by
  have haon := h.aon (clear_of_all hS (by simp))
  exact ⟨h.cables (clear_of_all hS (by simp)), h.flash (clear_of_all hS (by simp)), h.hw (clear_of_all hS (by simp)),
    by rw [haon], by rw [haon], by rw [haon], by rw [haon], by rw [haon]⟩

theorem SameForReset.sourcingPorts_eq {u d : Dev} (h : SameForReset u d) : sourcingPorts u = sourcingPorts d := by
  obtain ⟨hcables, -⟩ := h
  simp only [sourcingPorts, cable, hcables]

theorem SameForReset.sinkHold_eq {u d : Dev} (h : SameForReset u d) (n : Nat) : sinkHold u n = sinkHold d n := by
  obtain ⟨hcables, -, -, -, -, -, hhold0, hhold1⟩ := h
  simp only [sinkHold, cable, hcables, hhold0, hhold1]

theorem leftBySysReset {cause : ResetCause} {u d : Dev} (hcause : cause ≠ .resetN) (h : SameForReset u d) :
    LeftBySysReset cause d (settle (sysReset cause u)) := by
  have hwork := only_haltedWork u
  have hsources : sourcingPorts (haltedWork u) = sourcingPorts d := by
    rw [← h.sourcingPorts_eq]
    simp only [sourcingPorts, cable, hwork.cables rfl]
  have hholds (n : Nat) : sinkHold (haltedWork u) n = sinkHold d n := by
    rw [← h.sinkHold_eq]
    simp only [sinkHold, cable, hwork.cables rfl, hwork.aon rfl]
  obtain ⟨-, hflash, hhw, hcount, hsampled, htcrit, -, -⟩ := h
  obtain ⟨hreqBuf, hdummy⟩ := haltedWork_hw u
  set w := haltedWork u
  have hcleared : Only [.aon, .boot, .cables, .timers, .odBook, .irq] (settle (sysReset cause u)) (clearDomains w) := by
    have hover := (only_resetOver cause w).mono (S := [.aon, .boot, .cables, .timers, .odBook, .irq]) (by decide)
    simp [sysReset_eq hcause, hover, w]
  have hports : Only [.aon, .boot, .timer .railTimeout, .odBook, .irq] (settle (sysReset cause u)) (resetOver cause w) := by
    simp [sysReset_eq hcause, w]
  have haon : (settle (sysReset cause u)).aon = { resetAon cause w u.aon with pwrEn := true } := by
    simp [sysReset_eq hcause, aon_resetOver, hwork.aon rfl, w]
  have hboot : (settle (sysReset cause u)).boot = { Boot.reset with startAt := w.boot.startAt, stage := .railsS } := by
    simp [sysReset_eq hcause, boot_resetOver, w]
  have hrails : runsFor .railTimeout (10 * ms) (settle (sysReset cause u)) := by simp [sysReset_eq hcause]
  generalize settle (sysReset cause u) = t at *
  have hhwRest := hcleared.hwRest rfl
  refine ⟨by rw [haon]; rfl, by rw [haon, ← hcount]; rfl, by rw [haon], by rw [hboot], by rw [hboot]; rfl, hrails,
    by rw [haon, ← hsampled]; rfl, by rw [haon, ← htcrit]; rfl, hcleared.odCfg rfl, hcleared.sessions rfl, hcleared.slots rfl,
    hcleared.ng rfl, hcleared.fab rfl, hcleared.rt rfl, hcleared.cls rfl, hcleared.heat rfl, ?_, ?_, ?_, ?_, ?_, ?_, ?_, ?_⟩
  · exact (hcleared.flash rfl).trans ((hwork.flash rfl).trans hflash)
  · rw [hhwRest, ← hhw, ← hreqBuf]; rfl
  · rw [hhwRest, ← hhw, ← hdummy]; rfl
  · rw [hhwRest]; rfl
  · intro n hn hnot
    rw [hports.cable n rfl]
    exact cable_resetOver_of_notMem hn (hsources ▸ hnot)
  · intro n hn hrail hmem
    rw [← hsources] at hmem
    rw [hports.cable n rfl, hports.runsFor _ rfl (hports.now rfl)]
    exact ⟨cable_resetOver_of_mem hn hrail hmem, runsFor_resetOver hrail hmem⟩
  · intro hrail hsink
    have hhold : resetHold cause w 0 = true := by simp [resetHold, hrail, hholds, hsink]
    rw [hports.cable 0 rfl, haon]
    exact ⟨gateOn_resetOver_zero hhold, hhold⟩
  · intro hrail hsink
    have hhold : resetHold cause w 1 = true := by simp [resetHold, hrail, hholds, hsink]
    rw [hports.cable 1 rfl, haon]
    exact ⟨gateOn_resetOver_one hhold, hhold⟩

/-- A command whose effect is a SYS reset of a device that has kept what a reset carries on. -/
theorem answers_leftBySysReset {c : Instr} {s : State} {f : Dev → Dev} {cause : ResetCause} {u : Dev} (hexec : exec c s = run f s)
    (hf : f (hush s.dev) = sysReset cause u) (hcause : cause ≠ .resetN) (hu : SameForReset u s.dev) :
    Answers c s (LeftBySysReset cause s.dev) :=
  answers_of_effect hexec hf (leftBySysReset hcause hu)

theorem sameForReset_hush (d : Dev) : SameForReset (hush d) d := .of_only (S := [.odBook, .out]) (by simp) rfl

theorem sysResetEvent_of_mgtRuns {cause : ResetCause} {d : Dev} (hcause : cause ∉ [ResetCause.por, .resetN, .hostRequest])
    (hruns : mgtRuns d = true) : sysResetEvent cause d = sysReset cause d := by
  cases cause <;> simp_all [sysResetEvent]

theorem sysResetEvent_hostRequest {d : Dev} (hpending : d.boot.sysResetPending = true) (hjournal : d.od.pendingJournal = []) :
    sysResetEvent .hostRequest d = sysReset .hostRequest (reach .respSent d) := by
  simp [sysResetEvent, hpending, hjournal]

theorem watchdogExpiry_of_running {d : Dev} (hruns : mgtRuns d = true) (hhalted : d.otp.halted = false) :
    watchdogExpiry d = sysReset .watchdog d := by
  simp [watchdogExpiry, hruns, hhalted]

theorem glitchTrip_of_powered {d : Dev} (hpwr : d.aon.pwrEn = true) (hreset : d.aon.resetNLow = false) :
    glitchTrip d = sysReset .glitch (glitchLatched d) := by
  simp [glitchTrip, hpwr, hreset]

section
variable {d : Dev} (hruns : mgtRuns d = true) (hopen : debugState d = 1)
include hruns hopen

theorem debugRequest_halt : debugRequest .halt d = onOtp (fun o => { o with halted := true }) d := by
  simp [debugRequest, hruns, hopen]

theorem debugRequest_run : debugRequest .run d = onOtp (fun o => { o with halted := false }) d := by
  simp [debugRequest, hruns, hopen]

theorem debugRequest_step : debugRequest .step d = d := by simp [debugRequest, hruns, hopen]

theorem debugRequest_sysReset : debugRequest .sysReset d = sysReset .debug d := by simp [debugRequest, hruns, hopen]

end

/-- Settles O14: each of the six causes resets a device that stands but for its clock and its glitch record. -/
theorem sysResets : Obligations.SysResets := by
  unfold Obligations.SysResets
  intro s c cause hcase
  obtain ⟨rfl, hcause, hruns⟩ | ⟨rfl, rfl, hpending, hjournal⟩ | ⟨rfl, rfl, hruns, hhalted⟩ | ⟨rfl, rfl, harmed⟩ |
    ⟨rfl, rfl, hpwr, hreset⟩ | ⟨rfl, rfl, hruns, hopen⟩ := hcase
  · exact answers_leftBySysReset (f := sysResetEvent cause) rfl (sysResetEvent_of_mgtRuns hcause hruns) (by rintro rfl; simp at hcause)
      (sameForReset_hush _)
  · exact answers_leftBySysReset (f := sysResetEvent .hostRequest) rfl (sysResetEvent_hostRequest hpending hjournal) (by decide)
      (.of_only (S := [.now, .tm, .odBook, .out]) (by simp) rfl)
  · exact answers_leftBySysReset (f := watchdogExpiry) rfl (watchdogExpiry_of_running hruns hhalted) (by decide)
      (sameForReset_hush _)
  · exact answers_leftBySysReset (f := onExpiry .bootLimit (sysReset .watchdog)) rfl (onExpiry_hush_of_armed harmed) (by decide)
      (.of_only (S := [.now, .tm, .timer .bootLimit, .odBook, .out]) (by simp) rfl)
  · exact answers_leftBySysReset (f := glitchTrip) rfl (glitchTrip_of_powered hpwr hreset) (by decide)
      ⟨rfl, rfl, rfl, rfl, rfl, rfl, rfl, rfl⟩
  · exact answers_leftBySysReset (f := debugRequest .sysReset) rfl (debugRequest_sysReset hruns hopen) (by decide)
      (sameForReset_hush _)

/-! ### Power-on reset (R63, R71, R80, R101) -/

theorem porAssert_eq (d : Dev) : porAssert d = presentUnpowered { Dev.reset with
    now := d.now, free := (abandonBurn d).free, flash := d.flash, out := d.out
    otp := otpPorReset (abandonBurn d).otp
    aon := { Aon.reset with resetNLow := d.aon.resetNLow, bankH := d.aon.bankH, bankF := d.aon.bankF,
                            bankS := d.aon.bankS, bankN := d.aon.bankN, vconnOk := d.aon.vconnOk } } := by
  have hburn : Only [.otp, .free] (abandonBurn d) d := by simp
  rw [porAssert, hburn.now rfl, hburn.flash rfl, hburn.out rfl, hburn.aon rfl]

theorem resetNAssert_of_off {d : Dev} (hoff : aonRuns d = false) :
    resetNAssert d = { d with aon := { d.aon with resetNLow := true } } := by
  have hstill : aonRuns (onAon (fun a => { a with resetNLow := true }) d) = false := hoff
  simp only [resetNAssert, hstill]
  rfl

theorem resetNAssert_of_on {d : Dev} (hon : aonRuns d = true) : resetNAssert d =
    onAon (fun a => { a with pwrEn := false, coreOk := false, serOk := false, hkOk := false })
      (resetOver .resetN (haltedWork (onAon (fun a => { a with resetNLow := true }) d))) := by
  have hstill : aonRuns (onAon (fun a => { a with resetNLow := true }) d) = true := hon
  simp only [resetNAssert, hstill, sysResetCore_eq]
  rfl

theorem resetNRise_of_no_window {d : Dev} (hlow : d.aon.resetNLow = true) (hwindow : d.aon.window = none)
    (hruns : aonRuns d = true) : resetNRise d =
      { d with
        aon := { d.aon with resetNLow := false, window := some { all := false, sampleA := none }, pwrEn := false }
        boot := { d.boot with stage := .strapsS } } := by
  have hstill : aonRuns (onAon (fun a => { a with resetNLow := false }) d) = true := hruns
  simp only [resetNRise, hlow, hstill, onAon_aon, hwindow]
  rfl

/-- Settles O7. -/
theorem powerOnReset : Obligations.PowerOnReset := by
  unfold Obligations.PowerOnReset
  refine ⟨fun s hoff => ?_, fun s => ?_, fun s => ?_, fun s hlow hwindow hruns => ?_, fun s harmed hcrystal => ?_⟩
  · exact answers_became (f := porRelease) rfl (porRelease_of_off hoff)
  · refine answers_of_effect (f := porAssert) rfl (porAssert_eq _) ?_
    have honly (u : Dev) : Only [.out, .odBook, .irq] (settle (presentUnpowered u)) u := by simp
    refine ⟨(honly _).aon rfl, (honly _).boot rfl, (honly _).timers rfl, (honly _).cables rfl, (honly _).slots rfl,
      (honly _).shep rfl, (honly _).ng rfl, (honly _).tm rfl, (honly _).fab rfl, (honly _).st rfl, (honly _).rt rfl,
      (honly _).cls rfl, (honly _).heat rfl, (honly _).odCfg rfl, (honly _).sessions rfl, (honly _).flash rfl,
      (honly _).now rfl, fun hburn => ?_⟩
    rw [(honly _).otp rfl, abandonBurn_of_none (d := hush s.dev) hburn]
    rfl
  · cases hon : aonRuns s.dev with
    | false =>
      refine answers_of_answers (answers_became (f := resetNAssert) rfl (resetNAssert_of_off hon)) fun t ht => ?_
      have hrest := ht.1
      refine ⟨by rw [hrest], by rw [hrest]; rfl, by rw [hrest]; rfl, fun _ => ht, fun h => by cases h⟩
    | true =>
      refine answers_of_effect (f := resetNAssert) rfl (resetNAssert_of_on hon) ?_
      have hwork := only_haltedWork (onAon (fun a => { a with resetNLow := true }) (hush s.dev))
      set w := haltedWork (onAon (fun a => { a with resetNLow := true }) (hush s.dev))
      have hover := only_resetOver .resetN w
      have haon := hwork.aon rfl
      refine ⟨?_, ?_, ?_, fun h => (by cases h), fun _ => ⟨?_, ?_, ?_, ?_⟩⟩
      · simp [aon_resetOver, resetAon, haon]
      · simp [hover.flash rfl, clearDomains, hwork.flash rfl]
      · simp [hover.now rfl, clearDomains, hwork.now rfl]
      · simp [aon_resetOver, resetAon]
      · simp
      · simp [aon_resetOver, resetAon, haon]
      · simp [boot_resetOver]
        rfl
  · exact answers_became (f := resetNRise) rfl (resetNRise_of_no_window hlow hwindow hruns)
  · refine answers_of_expiry (f := xtalFail) rfl harmed ?_
    rw [xtalFail_of_crystal (by exact hcrystal)]
    exact became_settle _

end Sys2Proof.Proofs.Boot


/-! A FAB reset, the sequencer under debug, and the boot from straps to READY. -/

namespace Sys2Proof.Proofs.FabReset

open Sys2Proof Sys2Proof.Machine Sys2Proof.Safety
open Sys2Proof.Proofs.ShapersAndTally
open Sys2Proof.Proofs.Frames
open Sys2Proof.Proofs.Running
open Sys2Proof.Proofs.Boot

/-! ### The FAB reset (R86, R192) -/

/-- What of a switch port a FAB reset keeps. -/
def keptPort (w : SwPort) : SwPort :=
  { SwPort.reset with link := w.link, speed := w.speed, fenced := w.fenced, fresh := w.fresh, phyDown := w.phyDown }

/-- The switch ports after a FAB reset. -/
def keptPorts (d : Dev) : Tbl SwPort := (List.range 16).foldl (fun t p => tset SwPort.reset t p (keptPort (swPort d p))) []

/-- The fabric after a FAB reset's start. -/
def resetFabric (d : Dev) : Fabric :=
  { Fabric.reset with ports := keptPorts d, resetting := true, nextFrame := d.fab.nextFrame, pendingShape := List.range 16 }

theorem tget_foldl_tset {α : Type} [DecidableEq α] (dflt : α) (f : Nat → α) (l : List Nat) (t : Tbl α) (p : Nat) :
    (p ∈ l ∨ tget dflt t p = f p) → tget dflt (l.foldl (fun t p => tset dflt t p (f p)) t) p = f p := by
  induction l generalizing t with
  | nil => exact fun h => h.resolve_left (by simp)
  | cons k l ih =>
    intro h
    refine ih _ ?_
    by_cases hk : p = k
    · subst hk; exact .inr (tget_tset_self _ _ _ _)
    · refine h.imp (fun h => (List.mem_cons.mp h).resolve_left hk) fun h => ?_
      rw [tget_tset_other _ _ _ hk, h]

theorem tget_keptPorts (d : Dev) {p : Nat} (hp : p < 16) : tget SwPort.reset (keptPorts d) p = keptPort (swPort d p) :=
  tget_foldl_tset _ (fun p => keptPort (swPort d p)) _ _ _ (.inl (by simpa using hp))

/-- The device as a FAB reset finds it: a descriptor in progress has ended, and the fabric's configuration is back. -/
def unconfigured (d : Dev) : Dev := dropFabConfig (tdmaAbort d)

theorem only_unconfigured (d : Dev) : Only [.hw, .od] (unconfigured d) d := by simp [unconfigured, dropFabConfig]

/-- The station table after a FAB reset: the static entries, the VLANs and the flocks. -/
def keptStations (t : StationTab) : StationTab :=
  { StationTab.reset with ways := t.ways.filter fun x => x.2.static_, vlans := t.vlans, flocks := t.flocks, poison := t.poison }

section
variable (d : Dev)

theorem fab_fabResetStart : (fabResetStart d).fab = resetFabric d := by
  have hfab : (unconfigured d).fab = d.fab := (only_unconfigured d).fab rfl
  have hports : (fabResetStart d).fab = resetFabric (unconfigured d) := rfl
  rw [hports]
  simp only [resetFabric, keptPorts, swPort, hfab]

theorem st_fabResetStart : (fabResetStart d).st = keptStations d.st := by
  rw [← (only_unconfigured d).st rfl]
  rfl

theorem rt_fabResetStart : (fabResetStart d).rt = d.rt := (only_unconfigured d).rt rfl

theorem samePower_fabResetStart : SamePower (fabResetStart d) d := (only_unconfigured d).samePower rfl
theorem sameTime_fabResetStart : SameTime (fabResetStart d) d := (only_unconfigured d).sameTime rfl
theorem sameStores_fabResetStart : SameStores (fabResetStart d) d := (only_unconfigured d).sameStores rfl
theorem sameAon_fabResetStart : SameAon (fabResetStart d) d := (only_unconfigured d).sameAon rfl

theorem hw_fabResetStart : (fabResetStart d).hw.tdmaEnable = false ∧ (fabResetStart d).hw.snapBusy = false := ⟨rfl, rfl⟩

theorem runsFor_fabResetStart : runsFor .fabReset (100 * us) (fabResetStart d) := runsFor_arm_self

end

theorem fabResetDone_of_resetting {d : Dev} (h : d.fab.resetting = true) :
    fabResetDone d = disarm .fabReset { d with fab := { d.fab with resetting := false } } := by
  simp [fabResetDone, h]

/-- Settles O15. -/
theorem fabResetAndDebug : Obligations.FabResetAndDebug := by
  unfold Obligations.FabResetAndDebug
  refine ⟨fun s hruns => ?_, fun s hresetting => ?_, fun s hruns hopen => ⟨?_, ?_, ?_⟩⟩
  · refine answers_of_effect (f := fun d => if mgtRuns d then fabResetStart d else d) rfl (if_pos hruns) ?_
    have hsettle : Only [.odBook, .irq] (settle (fabResetStart (hush s.dev))) (fabResetStart (hush s.dev)) := by simp
    have hhw := hsettle.hwRest rfl
    obtain ⟨htdma, hsnap⟩ := hw_fabResetStart (hush s.dev)
    obtain ⟨hcables, hslots, hshep⟩ := samePower_fabResetStart (hush s.dev)
    obtain ⟨htm, hng⟩ := sameTime_fabResetStart (hush s.dev)
    obtain ⟨hotp, hflash, hheat⟩ := sameStores_fabResetStart (hush s.dev)
    obtain ⟨haon, hboot, hnow⟩ := sameAon_fabResetStart (hush s.dev)
    have hst := st_fabResetStart (hush s.dev)
    have hfab := fab_fabResetStart (hush s.dev)
    have hrt := rt_fabResetStart (hush s.dev)
    have hruns := runsFor_fabResetStart (hush s.dev)
    generalize fabResetStart (hush s.dev) = u at *
    have hfab' := (hsettle.fab rfl).trans hfab
    have hst' := (hsettle.st rfl).trans hst
    refine ⟨by rw [hfab']; rfl, runsFor_settle.mpr hruns, fun p c => by rw [queueOf, hfab']; rfl, fun p hp => ?_, by rw [hst']; rfl,
      by rw [hst']; rfl, by rw [hst']; rfl, ?_, ?_, ?_, ?_, ?_, ?_, ?_, ?_, ?_⟩
    · have hport : swPort (settle u) p = keptPort (swPort s.dev p) := by
        rw [swPort, hfab']
        exact tget_keptPorts _ hp
      rw [hport]
      exact ⟨rfl, rfl, rfl⟩
    · rw [hst']
      exact fun x hx => (List.mem_filter.mp hx).2
    · rw [hst']
      exact fun x hx hstatic => List.mem_filter.mpr ⟨hx, hstatic⟩
    · exact (hsettle.rt rfl).trans hrt
    · exact ⟨(hsettle.cables rfl).trans hcables, (hsettle.slots rfl).trans hslots, (hsettle.shep rfl).trans hshep⟩
    · exact ⟨(hsettle.tm rfl).trans htm, (hsettle.ng rfl).trans hng⟩
    · exact ⟨(hsettle.otp rfl).trans hotp, (hsettle.flash rfl).trans hflash, (hsettle.heat rfl).trans hheat⟩
    · exact ⟨(hsettle.aon rfl).trans haon, (hsettle.boot rfl).trans hboot, (hsettle.now rfl).trans hnow⟩
    · rw [hhw]; exact htdma
    · rw [hhw]; exact hsnap
  · exact answers_became (f := fabResetDone) rfl (fabResetDone_of_resetting hresetting)
  · exact answers_became (f := debugRequest .halt) rfl (debugRequest_halt hruns hopen)
  · exact answers_became (f := debugRequest .run) rfl (debugRequest_run hruns hopen)
  · exact answers_became (f := debugRequest .step) rfl (debugRequest_step hruns hopen)

end Sys2Proof.Proofs.FabReset


/-! Straps, rails and the reference (chapters 2 and 3). -/

namespace Sys2Proof.Proofs.StartUp

open Sys2Proof Sys2Proof.Machine Sys2Proof.Safety
open Sys2Proof.Proofs.ShapersAndTally
open Sys2Proof.Proofs.Frames
open Sys2Proof.Proofs.Running
open Sys2Proof.Proofs.Boot

/-! ### Boot stages -/

@[simp] theorem stage_enterStage (st : Stage) (d : Dev) : (enterStage st d).boot = { d.boot with stage := st } := by
  cases st <;> rfl

@[simp] theorem aon_enterStage (st : Stage) (d : Dev) : (enterStage st d).aon = d.aon :=
  (show Only [.boot, .timer .bootLimit, .irq] (enterStage st d) d by simp).aon rfl

@[simp] theorem now_enterStage (st : Stage) (d : Dev) : (enterStage st d).now = d.now :=
  (show Only [.boot, .timer .bootLimit, .irq] (enterStage st d) d by simp).now rfl

/-- What the rails step may reach. -/
@[simp] def railsParts : List Part := [.aon, .boot, .irq, .timer .bootLimit, .timer .railTimeout]

@[simp] theorem only_startRails {S : List Part} {d e : Dev} (hS : Within railsParts S = true) :
    Only S (startRails d) e ↔ Only S d e := Only.iff (T := railsParts) (by simp [startRails]) hS

@[simp] theorem aon_startRails (d : Dev) : (startRails d).aon = { d.aon with pwrEn := true, fanPullDown := false } := by
  simp [startRails]

@[simp] theorem boot_startRails (d : Dev) : (startRails d).boot = { d.boot with stage := .railsS } := by simp [startRails]

@[simp] theorem runsFor_startRails (d : Dev) : runsFor .railTimeout (10 * ms) (startRails d) := runsFor_arm_self

/-! ### Straps (R36-R40) -/

theorem strapSampleA_of_window {d : Dev} {all : Bool} (levels : BitVec 5) (h : d.aon.window = some { all := all, sampleA := none }) :
    strapSampleA levels d = { d with aon := { d.aon with window := some { all := all, sampleA := some levels } } } := by
  simp [strapSampleA, h, onAon]

theorem strapSampleB_of_window {d : Dev} {all : Bool} {a : BitVec 5} (b : BitVec 5)
    (h : d.aon.window = some { all := all, sampleA := some a }) : strapSampleB b d =
      if d.aon.resetNLow || d.aon.preReg then onAon (decideStraps all a b) d else startRails (onAon (decideStraps all a b) d) := by
  simp only [strapSampleB, h]
  rfl

section
variable (all : Bool) (a b : BitVec 5) (x : Aon)

/-- A strap of the window floats exactly where its samples differ. -/
theorem floating_decideStraps {i : Nat} (hi : i < 5) (hwindow : all = true ∨ 3 ≤ i) :
    (decideStraps all a b x).floating.getLsbD i = (a.getLsbD i != b.getLsbD i) := by
  have hmask : (windowMask all).getLsbD i = true := by
    rcases hwindow with rfl | hi3
    · interval_cases i <;> rfl
    · cases all <;> interval_cases i <;> rfl
  simp [decideStraps, hmask]

/-- The strap that decides one of the boot straps: sample B, or low where it floats. -/
theorem bootStraps_decideStraps : (decideStraps all a b x).bootHost = (if a.getLsbD 3 = b.getLsbD 3 then b.getLsbD 3 else false) ∧
    (decideStraps all a b x).bootHold = (if a.getLsbD 4 = b.getLsbD 4 then b.getLsbD 4 else false) := by
  have h3 : (windowMask all).getLsbD 3 = true := by cases all <;> rfl
  have h4 : (windowMask all).getLsbD 4 = true := by cases all <;> rfl
  constructor
  · simp [decideStraps, h3]
  · simp [decideStraps, h4]

theorem aonRc_decideStraps : (decideStraps true a b x).aonRc = if a.getLsbD 2 = b.getLsbD 2 then b.getLsbD 2 else true := by
  simp [decideStraps, windowMask]

theorem tcrit_decideStraps_of_eq (h0 : a.getLsbD 0 = b.getLsbD 0) (h1 : a.getLsbD 1 = b.getLsbD 1) :
    (decideStraps true a b x).tcrit = b.extractLsb' 0 2 := by
  simp only [BitVec.getLsbD_eq_getElem, Nat.ofNat_pos, Nat.one_lt_ofNat] at h0 h1
  simp [decideStraps, windowMask, h0, h1]

theorem tcrit_decideStraps_of_ne (h : a.getLsbD 0 ≠ b.getLsbD 0 ∨ a.getLsbD 1 ≠ b.getLsbD 1) :
    (decideStraps true a b x).tcrit = 0 := by
  simp only [BitVec.getLsbD_eq_getElem, Nat.ofNat_pos, Nat.one_lt_ofNat] at h
  rcases h with h | h <;> simp [decideStraps, windowMask, h]

end

/-- What OTP_CHECK's end decides in AON. -/
def overriddenAon (d : Dev) : Aon :=
  { d.aon with
    aonRc := (strapOverride d).1.getD (strapValue d.aon 2 true), bootHost := (strapOverride d).2.getD (strapValue d.aon 3 false)
    overridden := (if (strapOverride d).1.isSome then 4 else 0) ||| (if (strapOverride d).2.isSome then 8 else 0) }

theorem overridden_bits (o2 o3 : Bool) :
    ((if o2 then 4 else 0) ||| (if o3 then 8 else 0) : BitVec 5).getLsbD 2 = o2 ∧
    ((if o2 then 4 else 0) ||| (if o3 then 8 else 0) : BitVec 5).getLsbD 3 = o3 := by
  cases o2 <;> cases o3 <;> decide

@[simp] theorem only_startImageLoad {S : List Part} {d e : Dev} (hS : Within [.boot, .timer .bootLimit, .irq] S = true) :
    Only S (startImageLoad d) e ↔ Only S d e := by
  refine Only.iff (T := [.boot, .timer .bootLimit, .irq]) ?_ hS
  simp [startImageLoad]

theorem stage_startImageLoad (d : Dev) : (startImageLoad d).boot.stage = if d.aon.bootHost then .imageHost else .imageFlash := by
  unfold startImageLoad
  split <;> simp_all

theorem otpCheckDone_of_stage {d : Dev} (h : d.boot.stage = .otpCheck) : otpCheckDone d =
    if d.aon.bootHold then enterStage .hold (onAon (fun _ => overriddenAon d) d)
    else startImageLoad (onAon (fun _ => overriddenAon d) d) := by
  simp only [otpCheckDone, h, ne_eq, not_true_eq_false, if_false]
  rfl

theorem only_otpCheckDone {d : Dev} (h : d.boot.stage = .otpCheck) :
    Only [.aon, .boot, .timer .bootLimit, .irq] (otpCheckDone d) d := by
  rw [otpCheckDone_of_stage h]
  simp

theorem aon_otpCheckDone {d : Dev} (h : d.boot.stage = .otpCheck) : (otpCheckDone d).aon = overriddenAon d := by
  have hload (u : Dev) : (startImageLoad u).aon = u.aon :=
    (show Only [.boot, .timer .bootLimit, .irq] (startImageLoad u) u by simp).aon rfl
  rw [otpCheckDone_of_stage h]
  split
  · rw [aon_enterStage, onAon_aon]
  · rw [hload, onAon_aon]

theorem stage_otpCheckDone {d : Dev} (h : d.boot.stage = .otpCheck) : (otpCheckDone d).boot.stage =
    if d.aon.bootHold then .hold else if (overriddenAon d).bootHost then .imageHost else .imageFlash := by
  rw [otpCheckDone_of_stage h]
  split
  · rw [stage_enterStage]
  · rw [stage_startImageLoad, onAon_aon]

/-- Sample B decides the straps whether or not the rails step follows. -/
theorem straps_strapSampleB {d : Dev} {all : Bool} {a : BitVec 5} (b : BitVec 5)
    (h : d.aon.window = some { all := all, sampleA := some a }) :
    (strapSampleB b d).aon.window = none ∧ (strapSampleB b d).aon.floating = (decideStraps all a b d.aon).floating ∧
    (strapSampleB b d).aon.tcrit = (decideStraps all a b d.aon).tcrit ∧
    (strapSampleB b d).aon.aonRc = (decideStraps all a b d.aon).aonRc ∧
    (strapSampleB b d).aon.bootHost = (decideStraps all a b d.aon).bootHost ∧
    (strapSampleB b d).aon.bootHold = (decideStraps all a b d.aon).bootHold := by
  rw [strapSampleB_of_window b h]
  split
  · exact ⟨rfl, rfl, rfl, rfl, rfl, rfl⟩
  · rw [aon_startRails]
    exact ⟨rfl, rfl, rfl, rfl, rfl, rfl⟩

theorem only_strapSampleB {d : Dev} {all : Bool} {a : BitVec 5} (b : BitVec 5)
    (h : d.aon.window = some { all := all, sampleA := some a }) : Only railsParts (strapSampleB b d) d := by
  rw [strapSampleB_of_window b h]
  simp

/-- Settles O9. -/
theorem strapSampling : Obligations.StrapSampling := by
  unfold Obligations.StrapSampling
  refine ⟨fun s all levels h => ?_, fun s all a b h => ?_, fun s hstage => ?_⟩
  · exact answers_became (f := strapSampleA levels) rfl (strapSampleA_of_window (d := hush s.dev) levels h)
  · refine answers_of_effect (f := strapSampleB b) rfl rfl ?_
    obtain ⟨hwindow, hfloating, htcrit, haonRc, hhost, hhold⟩ := straps_strapSampleB (d := hush s.dev) b h
    obtain ⟨hhostValue, hholdValue⟩ := bootStraps_decideStraps all a b s.dev.aon
    have heq := strapSampleB_of_window (d := hush s.dev) b h
    have hall : Only (.out :: .odBook :: railsParts) (settle (strapSampleB b (hush s.dev))) s.dev := by
      have heffect := (only_strapSampleB (d := hush s.dev) b h).mono (S := .out :: .odBook :: railsParts) (by decide)
      exact (only_settle (by decide)).mpr (heffect.trans (by simp))
    rw [settle_aon, settle_boot, hwindow, hfloating, htcrit, haonRc, hhost, hhold, hush_aon, hhostValue, hholdValue]
    refine ⟨rfl, fun i hi => floating_decideStraps _ _ _ _ hi.1 hi.2, ?_, ?_, ?_, ?_, fun h => if_pos h, fun h => if_neg h,
      fun h => if_pos h, fun h => if_neg h, ?_, ?_, hall.sameSwitch rfl, hall.samePower rfl, hall.sameTime rfl,
      hall.sameStores rfl, hall.odCfg rfl⟩
    · rintro rfl h0 h1
      rw [tcrit_decideStraps_of_eq _ _ _ h0 h1]
      exact ⟨by simp, by simp⟩
    · rintro rfl hne
      exact tcrit_decideStraps_of_ne _ _ _ hne
    · rintro rfl
      exact aonRc_decideStraps _ _ _
    · rintro rfl
      exact ⟨rfl, rfl⟩
    · intro hreset hpre
      rw [heq, if_neg (by simp [hreset, hpre])]
      simp
    · intro hwaits
      rw [heq, if_pos (by simpa using hwaits)]
      exact ⟨rfl, rfl⟩
  · refine answers_of_effect (f := otpCheckDone) rfl rfl ?_
    obtain ⟨hbit2, hbit3⟩ := overridden_bits (strapOverride s.dev).1.isSome (strapOverride s.dev).2.isSome
    have hall : Only [.aon, .boot, .timer .bootLimit, .irq, .out, .odBook] (settle (otpCheckDone (hush s.dev))) s.dev :=
      (only_settle (by decide)).mpr (((only_otpCheckDone (d := hush s.dev) hstage).mono (by decide)).trans (by simp))
    rw [settle_aon, settle_boot, aon_otpCheckDone (d := hush s.dev) hstage, stage_otpCheckDone (d := hush s.dev) hstage]
    exact ⟨rfl, rfl, hbit2, hbit3, rfl, hall.sameSwitch rfl, hall.samePower rfl, hall.sameTime rfl, hall.sameStores rfl,
      hall.odCfg rfl⟩

end Sys2Proof.Proofs.StartUp


/-! Rails and the reference, up to OTP_CHECK (chapters 2, 3 and 16). -/

namespace Sys2Proof.Proofs.Rails

open Sys2Proof Sys2Proof.Machine Sys2Proof.Safety
open Sys2Proof.Proofs.ShapersAndTally
open Sys2Proof.Proofs.Frames
open Sys2Proof.Proofs.Running
open Sys2Proof.Proofs.Boot
open Sys2Proof.Proofs.StartUp

/-! ### OTP_CHECK (R592) -/

section
variable {S : List Part} {d e : Dev}

theorem only_setWeak (a : Nat) (w weak : BitVec 39) (hS : Within [.otp] S = true) : Only S (setWeak a w weak d) e ↔ Only S d e :=
  only_onOtp (d := d) (fun o => { o with marginal := tset 0 d.otp.marginal a ((otpWeak d a &&& ~~~w) ||| weak) }) hS

@[simp] theorem only_burnThermometer (l n : Nat) (hS : Within [.otp] S = true) : Only S (burnThermometer l n d) e ↔ Only S d e := by
  refine Only.iff (T := [.otp]) ?_ hS
  unfold burnThermometer
  dsimp only
  split
  · simp
  · split
    · simp
    · exact Only.foldl _ (fun u c _ => by rw [only_setWeak _ _ _ (by simp), only_setRaw _ _ (by simp)]; simp) d

/-- What OTP_CHECK may reach. -/
@[simp] def otpCheckParts : List Part := [.otp, .boot, .aon, .odBook, .irq]

@[simp] theorem only_otpCheck (hS : Within otpCheckParts S = true) : Only S (otpCheck d) e ↔ Only S d e := by
  refine Only.iff (T := otpCheckParts) ?_ hS
  unfold otpCheck
  extract_lets read wf wc wp recs bad slotsBad keyCorrected missing integrity counted checked
  have hread : Only otpCheckParts read d := by simp [read]
  have hcounted : Only otpCheckParts counted d := (only_onOtp _ (by simp)).mpr hread
  have hchecked : Only otpCheckParts checked d := (only_onBoot _ (by simp)).mpr hcounted
  split
  · rw [only_eventAlarm _ (by simp), only_burnThermometer _ _ (by simp), only_onOtp _ (by simp), only_onAon _ (by simp)]
    exact hchecked
  · exact hchecked

@[simp] theorem only_setSensor (r : Nat) (g : Sensor → Sensor) (hS : Within [.heat] S = true) :
    Only S (setSensor r g d) e ↔ Only S d e := only_onHeat _ hS

@[simp] theorem only_sensorFail (r cause : Nat) (hS : Within [.heat] S = true) : Only S (sensorFail r cause d) e ↔ Only S d e :=
  Only.iff (T := [.heat]) (by simp [sensorFail]) hS

@[simp] theorem only_sensorsFromOtp (hS : Within [.heat] S = true) : Only S (sensorsFromOtp d) e ↔ Only S d e := by
  refine Only.iff (T := [.heat]) ?_ hS
  unfold sensorsFromOtp
  exact Only.foldl _ (fun u r _ => by simp) d

@[simp] theorem only_defaultVlans (hS : Within [.st] S = true) : Only S (defaultVlans d) e ↔ Only S d e := only_onSt _ hS

end

/-- A burned thermometer leaves the variant read. -/
theorem variants_burnThermometer (l n : Nat) (d : Dev) : (burnThermometer l n d).otp.variant = d.otp.variant ∧
    (burnThermometer l n d).otp.firstVariant = d.otp.firstVariant := by
  unfold burnThermometer
  dsimp only
  split
  · exact ⟨rfl, rfl⟩
  · split
    · exact ⟨rfl, rfl⟩
    · exact ⟨rfl, rfl⟩

/-- OTP_CHECK reads the variant; which one the first check found stands. -/
theorem variants_otpCheck (d : Dev) : (otpCheck d).otp.variant = variantOf d ∧
    (otpCheck d).otp.firstVariant = some (d.otp.firstVariant.getD (variantOf d)) := by
  unfold otpCheck
  extract_lets read wf wc wp recs bad slotsBad keyCorrected missing integrity counted checked
  have hchecked : checked.otp.variant = variantOf d ∧ checked.otp.firstVariant = some (d.otp.firstVariant.getD (variantOf d)) :=
    ⟨rfl, rfl⟩
  split
  · have halarm (u : Dev) : (eventAlarm 18 u).otp = u.otp := (show Only [.odBook, .irq] (eventAlarm 18 u) u by simp).otp rfl
    rw [halarm, (variants_burnThermometer _ _ _).1, (variants_burnThermometer _ _ _).2]
    exact hchecked
  · exact hchecked

/-- OTP_CHECK raises no stage and no failure of the reference. -/
theorem stage_otpCheck (d : Dev) : (otpCheck d).boot.stage = d.boot.stage ∧ (otpCheck d).aon.refFails = d.aon.refFails := by
  unfold otpCheck
  extract_lets read wf wc wp recs bad slotsBad keyCorrected missing integrity counted checked
  have hchecked : checked.boot.stage = d.boot.stage ∧ checked.aon.refFails = d.aon.refFails := ⟨rfl, rfl⟩
  split
  · have hend (u : Dev) : Only [.otp, .odBook, .irq] (eventAlarm 18 (burnThermometer 7 2 u)) u := by simp
    rw [(hend _).boot rfl, (hend _).aon rfl]
    exact hchecked
  · exact hchecked

/-! ### The rails step -/

theorem railsInRange_of_stage {d : Dev} (hstage : d.boot.stage = .railsS) (hpwr : d.aon.pwrEn = true) : railsInRange d =
    arm .bootLimit sec (arm .refTimeout (5 * ms) (enterStage .refclk (disarm .railTimeout (onAon (fun a =>
      { a with coreOk := true, serOk := true, hkOk := true, clamp := false, railFails := 0 }) d)))) := by
  simp [railsInRange, hstage, hpwr]

/-- What giving up may reach. -/
@[simp] def giveUpParts : List Part := [.aon, .boot, .irq, .out, .timer .bootLimit, .timer .dormant]

section
variable {S : List Part} {d e : Dev}

@[simp] theorem only_startDormantTimer (hS : Within [.timer .dormant] S = true) : Only S (startDormantTimer d) e ↔ Only S d e :=
  Only.iff (T := [.timer .dormant]) (by simp [startDormantTimer]) hS

@[simp] theorem only_giveUp (hS : Within giveUpParts S = true) : Only S (giveUp d) e ↔ Only S d e :=
  Only.iff (T := giveUpParts) (by simp [giveUp]) hS

end

theorem giveUp_dormant (d : Dev) : (giveUp d).boot.stage = .down ∧ (giveUp d).aon = { d.aon with
    power := .dormant, railFails := 0, refFails := 0, fanPullDown := true, rpWindow := false } := by
  have hend (u : Dev) : Only [.timer .dormant, .out] (startDormantTimer (presentUnpowered u)) u := by simp
  rw [giveUp, (hend _).boot rfl, (hend _).aon rfl]
  exact ⟨by simp, by simp⟩

/-- The device after a rails step has failed, before it is known how often. -/
def railFailed (d : Dev) : Dev :=
  onAon (fun a => { a with pwrEn := false, railFailCount := (a.railFailCount + 1) % 65536, railFails := a.railFails + 1,
                           railSawTimeout := true }) d

theorem railTimeout_of_stage {d : Dev} (hstage : d.boot.stage = .railsS) : railTimeout d =
    if 2 ≤ d.aon.railFails then giveUp (railFailed d) else arm .railRetry sec (railFailed d) := by
  simp [railTimeout, hstage, railFailed]

/-- The device after the reference has failed, before it is known how often. -/
def refFailed (d : Dev) : Dev :=
  disarm .bootLimit (onAon (fun a =>
    { a with pwrEn := false, coreOk := false, serOk := false, hkOk := false, refFailCount := (a.refFailCount + 1) % 65536,
             refFails := a.refFails + 1 }) d)

theorem refclkTimeout_of_stage {d : Dev} (hstage : d.boot.stage = .refclk) : refclkTimeout d =
    if 2 ≤ d.aon.refFails then giveUp (refFailed d) else arm .railRetry sec (enterStage .railsS (refFailed d)) := by
  have hfails : (refFailed d).aon.refFails = d.aon.refFails + 1 := rfl
  simp only [refclkTimeout, hstage, ne_eq, not_true_eq_false, if_false]
  by_cases h : 2 ≤ d.aon.refFails
  · rw [if_pos h]
    exact if_pos (by simpa using h)
  · rw [if_neg h]
    exact if_neg (by simpa using h)

/-! ### The reference -/

theorem refclkLock_of_stage {d : Dev} (hstage : d.boot.stage = .refclk) : refclkLock d =
    defaultVlans (sensorsFromOtp (otpCheck (enterStage .otpCheck (disarm .refTimeout (onAon (fun a => { a with refFails := 0 }) d))))) := by
  simp [refclkLock, hstage]

/-- What a locked reference leaves: OTP_CHECK's stage and findings. -/
theorem refclkLock_reads {d : Dev} (hstage : d.boot.stage = .refclk) :
    (refclkLock d).boot.stage = .otpCheck ∧ (refclkLock d).aon.refFails = 0 ∧ armed .refTimeout (refclkLock d) = false ∧
    (refclkLock d).otp.firstVariant = some (d.otp.firstVariant.getD (refclkLock d).otp.variant) := by
  rw [refclkLock_of_stage hstage]
  generalize hu : enterStage .otpCheck (disarm .refTimeout (onAon (fun a => { a with refFails := 0 }) d)) = u
  have hfront : Only [.aon, .boot, .timer .bootLimit, .irq, .timer .refTimeout] u d := by simp [← hu]
  have hend : Only [.heat, .st] (defaultVlans (sensorsFromOtp (otpCheck u))) (otpCheck u) := by simp
  have hcheck : Only otpCheckParts (otpCheck u) u := by simp
  obtain ⟨hvariant, hfirst⟩ := variants_otpCheck u
  obtain ⟨hboot, hfails⟩ := stage_otpCheck u
  refine ⟨?_, ?_, ?_, ?_⟩
  · rw [hend.boot rfl, hboot, ← hu, stage_enterStage]
  · rw [hend.aon rfl, hfails, ← hu, aon_enterStage]; rfl
  · have hafter : Only [.boot, .timer .bootLimit, .irq] u (disarm .refTimeout (onAon (fun a => { a with refFails := 0 }) d)) := by
      simp [← hu]
    rw [hend.armed _ rfl, hcheck.armed _ rfl, hafter.armed _ rfl, armed_disarm_self]
  · rw [hend.otp rfl, hfirst, hvariant, hfront.otp rfl]

theorem only_refclkLock {d : Dev} (hstage : d.boot.stage = .refclk) :
    Only (.heat :: .st :: .timer .bootLimit :: .timer .refTimeout :: otpCheckParts) (refclkLock d) d := by
  rw [refclkLock_of_stage hstage]
  simp

/-- Before the first OTP_CHECK every unit of Table 2-7 is held; after it those that the variant lacks. -/
theorem heldBalls_of_firstVariant {d : Dev} (h : d.otp.firstVariant = some d.otp.variant) (u : BallUnit) :
    heldBalls d u = if lacksBalls d.otp.variant u then some (safeBalls u) else none := by
  have hballs : ballVariant d = d.otp.variant := by
    simp only [ballVariant, h]
    exact ite_eq_right_iff.mpr Eq.symm
  rw [heldBalls, hballs]

theorem heldBalls_of_none {d : Dev} (h : d.otp.firstVariant = none) (u : BallUnit) : heldBalls d u = some (safeBalls u) := by
  cases u <;> simp [heldBalls, ballVariant, h, lacksBalls]

theorem aon_sysReset {cause : ResetCause} (hcause : cause ≠ .resetN) (d : Dev) :
    (sysReset cause d).aon = { resetAon cause (haltedWork d) d.aon with pwrEn := true } := by
  simp [sysReset_eq hcause, aon_resetOver, (only_haltedWork d).aon rfl]

theorem cables_sysReset_rail (d : Dev) : (sysReset .rail d).cables = [] := by
  rw [sysReset_eq (by decide)]
  exact cables_resetOver_rail (d := haltedWork d)

theorem railOutOfRange_of_powered {r : Rail} {d : Dev} (hpwr : d.aon.pwrEn = true) (hok : railOk d.aon r = true) :
    railOutOfRange r d = sysReset .rail (onAon (fun a => { a with clamp := true, coreOk := false, serOk := false, hkOk := false }) d) := by
  simp [railOutOfRange, hpwr, hok]

/-- Settles O10. -/
theorem railsAndReference : Obligations.RailsAndReference := by
  unfold Obligations.RailsAndReference
  refine ⟨fun s hstage hpwr => ?_, fun s hstage harmed => ?_, fun s hstage harmed => ?_, fun s r hpwr hok => ?_,
    fun s hstage => ?_, fun s hstage harmed => ?_⟩
  · refine answers_of_effect (f := railsInRange) rfl (railsInRange_of_stage (d := hush s.dev) hstage hpwr) ?_
    generalize hu : enterStage .refclk (disarm .railTimeout (onAon _ (hush s.dev))) = u
    have hfront : Only [.aon, .boot, .irq, .timer .bootLimit, .timer .railTimeout, .odBook, .out] u s.dev := by simp [← hu]
    have hstop : Only [.boot, .irq, .timer .bootLimit] u (disarm .railTimeout (onAon (fun a =>
        { a with coreOk := true, serOk := true, hkOk := true, clamp := false, railFails := 0 }) (hush s.dev))) := by simp [← hu]
    have hend : Only [.timer .bootLimit, .timer .refTimeout, .odBook, .irq]
        (settle (arm .bootLimit sec (arm .refTimeout (5 * ms) u))) u := by simp
    have hall : Only [.aon, .boot, .irq, .timer .bootLimit, .timer .railTimeout, .timer .refTimeout, .odBook, .out]
        (settle (arm .bootLimit sec (arm .refTimeout (5 * ms) u))) s.dev := (hend.mono (by decide)).trans (hfront.mono (by decide))
    refine ⟨?_, ?_, ?_, ?_, ?_, hall.sameSwitch rfl, hall.samePower rfl, hall.sameTime rfl, hall.sameStores rfl, hall.odCfg rfl⟩
    · rw [hend.aon rfl, ← hu, aon_enterStage]; rfl
    · rw [hend.boot rfl, ← hu, stage_enterStage]; rfl
    · rw [hend.armed _ rfl, hstop.armed _ rfl, armed_disarm_self]
    · rw [runsFor_settle, runsFor_arm_other (by decide)]
      exact runsFor_arm_self
    · exact runsFor_settle.mpr runsFor_arm_self
  · refine answers_of_expiry (f := railTimeout) rfl harmed ?_
    rw [railTimeout_of_stage (d := expired .railTimeout s.dev) hstage, expired_aon]
    have hfront : Only [.aon, .now, .tm, .timer .railTimeout, .odBook, .out] (railFailed (expired .railTimeout s.dev)) s.dev := by
      simp [railFailed]
    by_cases h : 2 ≤ s.dev.aon.railFails
    · rw [if_pos h]
      obtain ⟨hboot, haon⟩ := giveUp_dormant (railFailed (expired .railTimeout s.dev))
      have hall : Only (.now :: .tm :: .timer .railTimeout :: .odBook :: giveUpParts)
          (settle (giveUp (railFailed (expired .railTimeout s.dev)))) s.dev := by
        simpa using hfront.mono (S := .now :: .tm :: .timer .railTimeout :: .odBook :: giveUpParts) (by decide)
      refine ⟨by rw [settle_aon, haon]; rfl, by rw [settle_aon, haon]; rfl, fun hless => absurd h (by omega), fun _ => ⟨?_, ?_⟩,
        hall.sameSwitch rfl, hall.samePower rfl, hall.sameStores rfl, hall.odCfg rfl⟩
      · rw [settle_boot, hboot]
      · rw [settle_aon, haon]
    · rw [if_neg h]
      have hall : Only [.aon, .now, .tm, .timer .railTimeout, .odBook, .out, .irq, .timer .railRetry]
          (settle (arm .railRetry sec (railFailed (expired .railTimeout s.dev)))) s.dev := by
        simpa using hfront.mono (S := [.aon, .now, .tm, .timer .railTimeout, .odBook, .out, .irq, .timer .railRetry]) (by decide)
      exact ⟨by simp [railFailed], by simp [railFailed],
        fun _ => ⟨by rw [hall.boot rfl]; exact hstage, runsFor_settle.mpr runsFor_arm_self⟩, fun hmore => absurd hmore h,
        hall.sameSwitch rfl, hall.samePower rfl, hall.sameStores rfl, hall.odCfg rfl⟩
  · refine answers_of_expiry (f := railRetry) rfl harmed ?_
    have hretry : railRetry (expired .railRetry s.dev) = startRails (expired .railRetry s.dev) := if_pos hstage
    rw [hretry]
    have hall : Only (.now :: .tm :: .timer .railRetry :: .odBook :: .out :: railsParts) (settle (startRails (expired .railRetry s.dev))) s.dev := by
      simp
    exact ⟨by simp, by simp, by simp, hall.sameSwitch rfl, hall.samePower rfl, hall.sameStores rfl, hall.odCfg rfl⟩
  · refine answers_of_effect (f := railOutOfRange r) rfl (railOutOfRange_of_powered (d := hush s.dev) hpwr hok) ?_
    set e := onAon (fun a => { a with clamp := true, coreOk := false, serOk := false, hkOk := false }) (hush s.dev)
    obtain ⟨hcause, -, -, hstage, -, -, -, -, hcfg, -, -, -, hfab, -, -, -, hflash, -⟩ :=
      leftBySysReset (cause := .rail) (u := e) (d := s.dev) (by decide) ⟨rfl, rfl, rfl, rfl, rfl, rfl, rfl, rfl⟩
    have haon : (settle (sysReset .rail e)).aon = { resetAon .rail (haltedWork e) e.aon with pwrEn := true } := by
      rw [settle_aon, aon_sysReset (by decide)]
    refine ⟨by rw [haon]; rfl, hcause, by rw [haon]; rfl, by rw [haon]; rfl, ?_, hstage, hcfg, hfab, hflash⟩
    rw [settle_cables, cables_sysReset_rail]
  · refine answers_of_effect (f := refclkLock) rfl rfl ?_
    obtain ⟨hboot, hfails, harmed, hfirst⟩ := refclkLock_reads (d := hush s.dev) hstage
    have hsettle : Only [.odBook, .irq] (settle (refclkLock (hush s.dev))) (refclkLock (hush s.dev)) := by simp
    have hall : Only (.out :: .heat :: .st :: .timer .bootLimit :: .timer .refTimeout :: otpCheckParts)
        (settle (refclkLock (hush s.dev))) s.dev :=
      (hsettle.mono (by decide)).trans (((only_refclkLock (d := hush s.dev) hstage).mono (by decide)).trans (by simp))
    generalize refclkLock (hush s.dev) = u at *
    have hotp := hsettle.otp rfl
    refine ⟨by rw [settle_boot, hboot], by rw [settle_aon, hfails], by rw [armed_settle, harmed], fun hnone => ⟨?_, ?_⟩, ?_,
      hall.flash rfl, hall.cables rfl, hall.fab rfl, hall.rt rfl⟩
    · exact heldBalls_of_none hnone
    · refine heldBalls_of_firstVariant ?_
      rw [hotp, hfirst, hush_otp, hnone]
      rfl
    · intro v hv
      rw [hotp, hfirst, hush_otp, hv]
      rfl
  · refine answers_of_expiry (f := refclkTimeout) rfl harmed ?_
    rw [refclkTimeout_of_stage (d := expired .refTimeout s.dev) hstage, expired_aon]
    have hfront : Only [.aon, .now, .tm, .timer .refTimeout, .timer .bootLimit, .odBook, .out]
        (refFailed (expired .refTimeout s.dev)) s.dev := by simp [refFailed]
    by_cases h : 2 ≤ s.dev.aon.refFails
    · rw [if_pos h]
      obtain ⟨hboot, haon⟩ := giveUp_dormant (refFailed (expired .refTimeout s.dev))
      have hall : Only (.now :: .tm :: .timer .refTimeout :: .odBook :: giveUpParts)
          (settle (giveUp (refFailed (expired .refTimeout s.dev)))) s.dev := by
        simpa using hfront.mono (S := .now :: .tm :: .timer .refTimeout :: .odBook :: giveUpParts) (by decide)
      refine ⟨by rw [settle_aon, haon]; rfl, by rw [settle_aon, haon]; rfl, fun hless => absurd h (by omega), fun _ => ⟨?_, ?_⟩,
        hall.sameSwitch rfl, hall.samePower rfl, hall.sameStores rfl, hall.odCfg rfl⟩
      · rw [settle_boot, hboot]
      · rw [settle_aon, haon]
    · rw [if_neg h]
      have hall : Only [.aon, .boot, .now, .tm, .timer .refTimeout, .timer .bootLimit, .odBook, .out, .irq, .timer .railRetry]
          (settle (arm .railRetry sec (enterStage .railsS (refFailed (expired .refTimeout s.dev))))) s.dev := by
        simpa using hfront.mono
          (S := [.aon, .boot, .now, .tm, .timer .refTimeout, .timer .bootLimit, .odBook, .out, .irq, .timer .railRetry]) (by decide)
      exact ⟨by simp [refFailed], by simp [refFailed], fun _ => ⟨by simp, runsFor_settle.mpr runsFor_arm_self⟩,
        fun hmore => absurd hmore h, hall.sameSwitch rfl, hall.samePower rfl, hall.sameStores rfl, hall.odCfg rfl⟩

end Sys2Proof.Proofs.Rails


/-! DORMANT, waking and leaving ACTIVE (chapter 3). -/

namespace Sys2Proof.Proofs.Dormant

open Sys2Proof Sys2Proof.Machine Sys2Proof.Safety
open Sys2Proof.Proofs.ShapersAndTally
open Sys2Proof.Proofs.Frames
open Sys2Proof.Proofs.Running
open Sys2Proof.Proofs.Boot
open Sys2Proof.Proofs.StartUp

/-! ### What is still queued when the drain ends (R73) -/

theorem sending_endSending (p q : Nat) (d : Dev) :
    (swPort (endSending p d) q).sending = if q = p then none else (swPort d q).sending := by
  unfold endSending
  split
  · rename_i hnone
    split
    · rename_i h; rw [h, hnone]
    · rfl
  · rename_i c x _
    have hrelease (u : Dev) : (swPort (release p c x u) q).sending = (swPort u q).sending :=
      (show Only releaseParts (release p c x u) u by simp).sending q rfl
    rw [hrelease]
    split
    · rename_i h; subst h; simp
    · rename_i h
      rw [swPort, setSwPort]
      exact congrArg SwPort.sending (tget_tset_other _ _ _ h)

/-- One port of the drain. -/
def drainPort (d : Dev) (p : Nat) : Dev := dropPort p 0x13 (endSending p d)

theorem sending_drainPort (p q : Nat) (d : Dev) :
    (swPort (drainPort d p) q).sending = if q = p then none else (swPort d q).sending := by
  have hdrop (u : Dev) : (swPort (dropPort p 0x13 u) q).sending = (swPort u q).sending :=
    (show Only releaseParts (dropPort p 0x13 u) u by simp).sending q rfl
  rw [drainPort, hdrop, sending_endSending]

theorem sending_drained (l : List Nat) (d : Dev) {q : Nat} (h : q ∈ l ∨ (swPort d q).sending = none) :
    (swPort (l.foldl drainPort d) q).sending = none := by
  induction l generalizing d with
  | nil => exact h.resolve_left (by simp)
  | cons p l ih =>
    rw [List.foldl_cons]
    refine ih _ ?_
    rw [sending_drainPort]
    by_cases hq : q = p
    · exact .inr (if_pos hq)
    · rw [if_neg hq]
      exact h.imp_left fun h => (List.mem_cons.mp h).resolve_left hq

@[simp] theorem only_drainDrop {S : List Part} {d e : Dev} (hS : Within endingParts S = true) :
    Only S (drainDrop d) e ↔ Only S d e := by
  refine Only.iff (T := endingParts) ?_ hS
  exact Only.foldl _ (fun u p _ => by simp) d

theorem sending_drainDrop (d : Dev) {p : Nat} (hp : p < 16) : (swPort (drainDrop d) p).sending = none := by
  have hdrained : drainDrop d = (List.range 16).foldl drainPort d := rfl
  rw [hdrained]
  exact sending_drained _ _ (.inl (List.mem_range.mpr hp))

/-! ### Notifications (R142, R173) -/

section
variable {S : List Part} {d e : Dev}

@[simp] theorem only_queueNguzo (octets : List Byte) (hS : Within [.ng] S = true) : Only S (queueNguzo octets d) e ↔ Only S d e := by
  refine Only.iff (T := [.ng]) ?_ hS
  unfold queueNguzo
  dsimp only
  split <;> simp

/-- What a message on a transport may reach. -/
@[simp] def carryParts : List Part := [.out, .ng, .cables, .timers]

@[simp] theorem only_carry (via : Transport) (vdm : Nat) (octets : List Byte) (hS : Within carryParts S = true) :
    Only S (carry via vdm octets d) e ↔ Only S d e := by
  refine Only.iff (T := carryParts) ?_ hS
  unfold carry
  split <;> simp

@[simp] theorem only_noteSent (hS : Within [.odBook] S = true) : Only S (noteSent d) e ↔ Only S d e := by
  rw [noteSent, only_onOd_book rfl rfl rfl hS]

/-- What a notification may reach. -/
@[simp] def notifyParts : List Part := .hw :: .sessions :: .odBook :: carryParts

theorem only_ringWrite {msg : List Byte} {u : Dev} (h : ringWrite msg d = some u) : Only [.hw] u d := by
  unfold ringWrite at h
  extract_lets entry hw tail used wraps needed ring tail' at h
  obtain ⟨-, h⟩ := Option.ite_none_left_eq_some.mp h
  obtain rfl := Option.some.inj h
  rw [only_raiseIrq _ (by simp), only_onHw _ (by simp)]
  exact .refl _ d

@[simp] theorem only_sendNotify (s obj el : Nat) (via : Transport) (merged : Bool) (value : List Byte)
    (hS : Within notifyParts S = true) : Only S (sendNotify s obj el via merged value d) e ↔ Only S d e := by
  refine Only.iff (T := notifyParts) ?_ hS
  unfold sendNotify
  dsimp only
  split
  · simp
  · split
    · split
      · rename_i u hu
        simpa using ((only_ringWrite hu).mono (S := notifyParts) (by simp)).trans (by simp)
      · simp
    · simp

@[simp] theorem only_notifyDormant (hS : Within notifyParts S = true) : Only S (notifyDormant d) e ↔ Only S d e := by
  refine Only.iff (T := notifyParts) ?_ hS
  exact Only.foldl _ (fun u x _ => by simp) d

end

/-- A notification leaves what waits for the journal. -/
theorem pendingJournal_sendNotify (s obj el : Nat) (via : Transport) (merged : Bool) (value : List Byte) (d : Dev) :
    (sendNotify s obj el via merged value d).od.pendingJournal = d.od.pendingJournal := by
  have hcarry (octets : List Byte) (u : Dev) : (emit (.zop via octets) (carry via 0x1F octets u)).od = u.od :=
    (show Only carryParts (emit (.zop via octets) (carry via 0x1F octets u)) u by simp).od rfl
  unfold sendNotify
  dsimp only
  split
  · rfl
  · split
    · split
      · rename_i u hu
        have hjournal : u.od.pendingJournal = d.od.pendingJournal := by rw [(only_ringWrite hu).od rfl]
        simp only [emit_od]
        exact hjournal
      · rfl
    · rw [hcarry]; rfl

theorem pendingJournal_notifyDormant (d : Dev) : (notifyDormant d).od.pendingJournal = d.od.pendingJournal :=
  List.foldlRecOn (motive := fun u : Dev => u.od.pendingJournal = d.od.pendingJournal) _ _ rfl
    fun u hu _ _ => (pendingJournal_sendNotify _ _ _ _ _ _ u).trans hu

/-! ### Entry into DORMANT (R74) -/

/-- The ports as they read at entry, and what the host wrote for waking, go to AON; PWR_EN falls. -/
def dormantAon (u : Dev) (a : Aon) : Aon :=
  { a with wakeEnable := BitVec.ofNat 6 (cfg u 0x14 3), dormTimer := cfg u 0x14 4, power := .dormant, pwrEn := false, coreOk := false,
           serOk := false, hkOk := false, wakeLatch := 0, fanPullDown := true, rpWindow := false, dbRp := none,
           rpSuppress0 := (cable u 0).guard == .wet, dryChecks0 := (cable u 0).dryCount,
           rpSuppress1 := (cable u 1).guard == .wet, dryChecks1 := (cable u 1).dryCount }

/-- The device stops for DORMANT, once its subscribers are told. -/
def sleepFrom (u : Dev) : Dev :=
  arm .latchedBoot (5 * ms) (startDormantTimer (presentUnpowered (enterStage .down (onAon (dormantAon u) (stopDomains u)))))

theorem pendingJournal_of_dormantBlock {d : Dev} (h : dormantBlock d = 0) : d.od.pendingJournal = [] := by
  by_contra hne
  have : d.od.pendingJournal != [] := by simpa using hne
  simp only [dormantBlock, this, b2n, if_true] at h
  omega

theorem dormantEntry_of_idle {d : Dev} (hstage : d.boot.stage = .ready) (hpower : d.aon.power = .idle)
    (hleaving : d.boot.leaving = false) (htarget : cfg d 0x14 1 = 3) (hblock : dormantBlock d = 0) :
    dormantEntry d = sleepFrom (notifyDormant d) := by
  have hjournal : flushJournal (notifyDormant d) = notifyDormant d :=
    if_pos ((pendingJournal_notifyDormant d).trans (pendingJournal_of_dormantBlock hblock))
  simp only [dormantEntry, hstage, hpower, hleaving, htarget, hblock, hjournal]
  rfl

section
variable (u : Dev)

/-- What the last steps of the entry reach once the domains have stopped. -/
theorem only_sleepFrom : Only [.boot, .irq, .out, .timer .bootLimit, .timer .dormant, .timer .latchedBoot]
    (sleepFrom u) (onAon (dormantAon u) (stopDomains u)) := by simp [sleepFrom]

theorem aon_sleepFrom : (sleepFrom u).aon = dormantAon u u.aon := (only_sleepFrom u).aon rfl
theorem flash_sleepFrom : (sleepFrom u).flash = u.flash := (only_sleepFrom u).flash rfl
theorem otp_sleepFrom : (sleepFrom u).otp = otpSysReset u.otp := (only_sleepFrom u).otp rfl
theorem now_sleepFrom : (sleepFrom u).now = u.now := (only_sleepFrom u).now rfl

theorem stage_sleepFrom : (sleepFrom u).boot.stage = .down := by
  have hend (w : Dev) : Only [.out, .timer .dormant, .timer .latchedBoot]
      (arm .latchedBoot (5 * ms) (startDormantTimer (presentUnpowered w))) w := by simp
  rw [sleepFrom, (hend _).boot rfl, stage_enterStage]

theorem runsFor_sleepFrom (h : cfg u 0x14 4 ≠ 0) : runsFor .dormant (cfg u 0x14 4 * sec) (sleepFrom u) := by
  have hfront : Only [.boot, .irq, .out, .timer .bootLimit]
      (presentUnpowered (enterStage .down (onAon (dormantAon u) (stopDomains u)))) (onAon (dormantAon u) (stopDomains u)) := by simp
  have htimer : (presentUnpowered (enterStage .down (onAon (dormantAon u) (stopDomains u)))).aon.dormTimer = cfg u 0x14 4 := by
    rw [hfront.aon rfl]; rfl
  rw [sleepFrom, runsFor_arm_other (by decide), startDormantTimer, htimer, if_neg h]
  exact runsFor_arm_self

end

/-! ### Waking (R70, R99, R100) -/

theorem bootFromWake_eq (d : Dev) : bootFromWake d = startRails (onBoot (fun b => { b with startAt := d.now })
    (onAon (fun a => { a with railSawTimeout := false, wakeLatch := 0, rpWindow := false })
      (disarm .dormant (disarm .latchedBoot d)))) := rfl

/-- What a boot by a wake may reach. -/
@[simp] def wakeParts : List Part := .timer .dormant :: .timer .latchedBoot :: railsParts

@[simp] theorem only_bootFromWake {S : List Part} {d e : Dev} (hS : Within wakeParts S = true) :
    Only S (bootFromWake d) e ↔ Only S d e := Only.iff (T := wakeParts) (by simp [bootFromWake_eq]) hS

theorem bootFromWake_boots (d : Dev) : (bootFromWake d).boot = { d.boot with startAt := d.now, stage := .railsS } ∧
    (bootFromWake d).aon = { d.aon with railSawTimeout := false, wakeLatch := 0, rpWindow := false, pwrEn := true, fanPullDown := false } ∧
    runsFor .railTimeout (10 * ms) (bootFromWake d) := by
  rw [bootFromWake_eq]
  exact ⟨by simp, by simp, runsFor_startRails _⟩

/-- The sources of a wake that are enabled. -/
def wakeBits (i : Nat) (also : BitVec 6) (d : Dev) : BitVec 6 := (BitVec.ofNat 6 (2 ^ i) ||| also) &&& d.aon.wakeEnable

theorem wake_of_dormant {i : Nat} {also : BitVec 6} {d : Dev} (hdormant : isDormant d = true) (hreset : d.aon.resetNLow = false)
    (hwindow : d.aon.window = none) (henabled : d.aon.wakeEnable.getLsbD i = true) (hlatched : armed .latchedBoot d = false) :
    wake i also d = bootFromWake (onAon (fun a => { a with lastWake := (wakeBits i also d ||| a.wakeLatch).zeroExtend 8 }) d) := by
  simp only [wake, hdormant, hreset, hwindow, henabled, hlatched]
  rfl

/-! ### The guard's check and the Rp windows of DORMANT (R67, R69) -/

theorem rpWindow_of_dormant (opens : Bool) {d : Dev} (hdormant : isDormant d = true) (hout : d.out = []) : rpWindow opens d =
    { d with aon := { d.aon with rpWindow := opens },
             out := [.cc 0 (if opens && !d.aon.rpSuppress0 then 2 else 1), .cc 1 (if opens && !d.aon.rpSuppress1 then 2 else 1)] } := by
  simp only [rpWindow, hdormant, Bool.not_true, Bool.false_eq_true, if_false, emit, bankSilent, heldSilent, portHeld, unitOfPort,
    onAon, Option.any_none, Bool.or_self, hout]
  rfl

theorem dormantMoisture_of_dormant (k0 k1 : Nat) {d : Dev} (hdormant : isDormant d = true) : dormantMoisture k0 k1 d =
    { d with aon := { d.aon with
        rpSuppress0 := (wetNext (cfg d 0x2300 0) k0 d.aon.rpSuppress0 d.aon.dryChecks0).1
        dryChecks0 := (wetNext (cfg d 0x2300 0) k0 d.aon.rpSuppress0 d.aon.dryChecks0).2
        rpSuppress1 := (wetNext (cfg d 0x2300 0) k1 d.aon.rpSuppress1 d.aon.dryChecks1).1
        dryChecks1 := (wetNext (cfg d 0x2300 0) k1 d.aon.rpSuppress1 d.aon.dryChecks1).2 } } := by
  simp only [dormantMoisture, hdormant]
  rfl

theorem wetNext_of_low {k r : Nat} {wet : Bool} {dry : Nat} (h : r < k) : (wetNext k r wet dry).1 = true := by
  simp [wetNext, h]

theorem wetNext_of_wet {k r dry : Nat} (h : dry < 2) : (wetNext k r true dry).1 = true := by
  unfold wetNext
  split
  · rfl
  · split
    · rfl
    · rfl

/-! ### Leaving ACTIVE (R71, R73) -/

theorem leaveActive_leaves (d : Dev) : (leaveActive d).aon = { d.aon with power := .idle } ∧
    (leaveActive d).boot = { d.boot with leaving := true } ∧ (leaveActive d).ng.node = .off ∧ runsFor .drain ms (leaveActive d) := by
  have hend (u : Dev) : Only [.timer .drain, .timer .idleHold] (arm .drain ms (disarm .idleHold u)) u := by simp
  have hnode (u : Dev) : Only (.timer .listen :: sourceParts) (disqualify .nguzo (disarm .listen u)) u := by simp
  have hstop (u : Dev) : Only nodeParts (ngStop u) u := by simp
  refine ⟨?_, ?_, ?_, runsFor_arm_self⟩
  · rw [leaveActive, (hend _).aon rfl, (hstop _).aon rfl]; rfl
  · rw [leaveActive, (hend _).boot rfl, (hstop _).boot rfl]; rfl
  · rw [leaveActive, (hend _).ng rfl, ngStop, (hnode _).ng rfl]; rfl

/-- Settles O11. -/
theorem dormantAndIdle : Obligations.DormantAndIdle := by
  unfold Obligations.DormantAndIdle
  refine ⟨fun s opens hdormant => ?_, fun s k0 k1 hdormant => ?_, fun s hstage hpower hleaving htarget hblock => ?_,
    fun s also harmed hdormant hreset henabled hlatched hwindow => ?_, fun s harmed hlatch => ?_,
    fun s harmed hstage hpower htarget hactivity => ?_, fun s harmed => ?_⟩
  · exact answers_became (f := rpWindow opens) rfl (rpWindow_of_dormant (d := hush s.dev) opens hdormant rfl)
  · have heffect := dormantMoisture_of_dormant (d := hush s.dev) k0 k1 hdormant
    refine answers_of_effect (f := dormantMoisture k0 k1) rfl heffect ?_
    refine ⟨fun h => ?_, fun h => ?_, fun hwet hdry => ?_, fun hwet hdry => ?_, became_settle _⟩ <;> rw [settle_aon]
    · exact wetNext_of_low h
    · exact wetNext_of_low h
    · show (wetNext _ _ s.dev.aon.rpSuppress0 s.dev.aon.dryChecks0).1 = true
      rw [hwet]; exact wetNext_of_wet hdry
    · show (wetNext _ _ s.dev.aon.rpSuppress1 s.dev.aon.dryChecks1).1 = true
      rw [hwet]; exact wetNext_of_wet hdry
  · refine answers_of_effect (f := dormantEntry) rfl
      (dormantEntry_of_idle (d := hush s.dev) hstage hpower hleaving htarget hblock) ?_
    have htold : Only (.odBook :: .out :: notifyParts) (notifyDormant (hush s.dev)) s.dev := by simp
    generalize notifyDormant (hush s.dev) = u at htold
    have hcfg := htold.cfg rfl
    refine ⟨by rw [settle_aon, aon_sleepFrom]; rfl, by rw [settle_aon, aon_sleepFrom]; rfl, by rw [settle_boot, stage_sleepFrom],
      by rw [settle_aon, aon_sleepFrom, ← hcfg]; rfl, runsFor_settle.mpr runsFor_arm_self, fun htimer => ?_, ?_, ?_, ?_, ?_⟩
    · rw [runsFor_settle, ← hcfg]
      exact runsFor_sleepFrom u (by rwa [hcfg])
    · rw [settle_flash, flash_sleepFrom, htold.flash rfl]
    · rw [settle_otp, otp_sleepFrom, ← htold.otp rfl]; rfl
    · rw [settle_otp, otp_sleepFrom, ← htold.otp rfl]; rfl
    · rw [settle_now, now_sleepFrom, htold.now rfl]
  · refine answers_of_expiry (f := wake 5 also) rfl harmed ?_
    have hstill : armed .latchedBoot (expired .dormant s.dev) = false := by
      rw [(show Only [.now, .tm, .timer .dormant, .odBook, .out] (expired .dormant s.dev) s.dev by simp).armed _ rfl, hlatched]
    rw [wake_of_dormant (d := expired .dormant s.dev) hdormant hreset hwindow henabled hstill]
    generalize hu : onAon _ (expired .dormant s.dev) = u
    have hall : Only (.now :: .tm :: .odBook :: .out :: wakeParts) (settle (bootFromWake u)) s.dev := by simp [← hu]
    obtain ⟨hboot, haon, -⟩ := bootFromWake_boots u
    rw [settle_aon, settle_boot, hboot, haon]
    subst hu
    exact ⟨rfl, rfl, rfl, hall.sameSwitch rfl, hall.samePower rfl, hall.sameStores rfl, hall.odCfg rfl⟩
  · refine answers_of_expiry (f := latchedBoot) rfl harmed ?_
    have hwakes : latchedBoot (expired .latchedBoot s.dev) =
        bootFromWake (onAon (fun a => { a with lastWake := a.wakeLatch.zeroExtend 8 }) (expired .latchedBoot s.dev)) := if_neg hlatch
    rw [hwakes]
    generalize hu : onAon _ (expired .latchedBoot s.dev) = u
    have hall : Only (.now :: .tm :: .odBook :: .out :: wakeParts) (settle (bootFromWake u)) s.dev := by simp [← hu]
    obtain ⟨hboot, haon, -⟩ := bootFromWake_boots u
    rw [settle_aon, settle_boot, hboot, haon]
    subst hu
    exact ⟨rfl, rfl, rfl, rfl, hall.sameSwitch rfl, hall.samePower rfl, hall.sameStores rfl, hall.odCfg rfl⟩
  · refine answers_of_expiry (f := idleHold) rfl harmed ?_
    have hleaves : idleHold (expired .idleHold s.dev) = leaveActive (expired .idleHold s.dev) :=
      if_pos ⟨hstage, hpower, htarget, by rw [show activity (expired .idleHold s.dev) = false from hactivity]; rfl⟩
    rw [hleaves]
    obtain ⟨haon, hboot, hnode, hdrain⟩ := leaveActive_leaves (expired .idleHold s.dev)
    have hall : Only (.now :: .odBook :: .out :: .irq :: targetParts) (settle (leaveActive (expired .idleHold s.dev))) s.dev := by simp
    rw [settle_aon, settle_boot, settle_ng, haon, hboot]
    exact ⟨rfl, rfl, hnode, runsFor_settle.mpr hdrain, hall.sameSwitch rfl, hall.samePower rfl, hall.sameStores rfl, hall.odCfg rfl⟩
  · refine answers_of_expiry (f := drainTimeout) rfl harmed ?_
    have hdrop (u : Dev) : Only (.odBook :: .irq :: endingParts) (settle (drainDrop u)) u := by simp
    have hsending (u : Dev) {p : Nat} (hp : p < 16) := sending_drainDrop u hp
    have hall : Only (.boot :: .now :: .tm :: .timer .drain :: .odBook :: .irq :: endingParts)
        (settle (drainTimeout (expired .drain s.dev))) s.dev := by simp [drainTimeout]
    refine ⟨?_, ?_, ?_, fun p hp => ?_, ?_, ?_⟩
    · rw [drainTimeout, (hdrop _).boot rfl]; rfl
    · rw [drainTimeout, (hdrop _).armed _ rfl, armed_onBoot, armed_expired_self]
    · rw [drainTimeout, (hdrop _).aon rfl]; rfl
    · rw [swPort_settle, drainTimeout, hsending _ hp]
    · exact hall.sameStores rfl
    · exact hall.odCfg rfl

/-! ### Wake events (R70, R97, R100) -/

theorem wakeBits_alone {i : Nat} {d : Dev} (henabled : d.aon.wakeEnable.getLsbD i = true) :
    wakeBits i 0 d = BitVec.ofNat 6 (2 ^ i) := by
  apply BitVec.eq_of_getLsbD_eq
  intro j hj
  simp only [wakeBits, BitVec.getLsbD_and, BitVec.getLsbD_or, BitVec.getLsbD_ofNat,
    Nat.testBit_two_pow]
  by_cases h : i = j
  · subst h; simp [hj, henabled]
  · simp [h]

/-- What is claimed of a wake that latches `latched`. -/
def Woken (i : Nat) (latched : BitVec 6) (t d : Dev) : Prop :=
  t.aon.lastWake = (BitVec.ofNat 6 (2 ^ i) ||| d.aon.wakeLatch).zeroExtend 8 ∧
  t.aon.pwrEn = true ∧ t.boot.stage = .railsS ∧ t.boot.startAt = d.now ∧ runsFor .railTimeout (10 * ms) t ∧
  t.boot.latched = latched ∧
  SameSwitch t d ∧ SamePower t d ∧ SameTime t d ∧ SameStores t d ∧ t.od.cfg = d.od.cfg

section
variable {i : Nat} {d : Dev} (hdormant : isDormant d = true) (hreset : d.aon.resetNLow = false)
  (henabled : d.aon.wakeEnable.getLsbD i = true) (hlatched : armed .latchedBoot d = false) (hwindow : d.aon.window = none)
include hdormant hreset henabled hlatched hwindow

theorem woken_wake : Woken i d.boot.latched (settle (wake i 0 (hush d))) d := by
  rw [wake_of_dormant (d := hush d) hdormant hreset hwindow henabled hlatched, wakeBits_alone (d := hush d) henabled]
  generalize hu : onAon _ (hush d) = u
  have hall : Only (.odBook :: .out :: wakeParts) (settle (bootFromWake u)) d := by simp [← hu]
  obtain ⟨hboot, haon, hrails⟩ := bootFromWake_boots u
  rw [Woken, settle_aon, settle_boot, hboot, haon]
  subst hu
  exact ⟨rfl, rfl, rfl, rfl, runsFor_settle.mpr hrails, rfl, hall.sameSwitch rfl, hall.samePower rfl, hall.sameTime rfl,
    hall.sameStores rfl, hall.odCfg rfl⟩

theorem woken_wakeAttach {vbus : Bool} (hsees : vbus = true ∨ comparatorsRun d i = true) :
    Woken i (d.boot.latched ||| BitVec.ofNat 6 (2 ^ i)) (settle (wakeAttach i vbus (hush d))) d := by
  have heffect : wakeAttach i vbus (hush d) =
      onBoot (fun b => { b with latched := b.latched ||| BitVec.ofNat 6 (2 ^ i) }) (wake i 0 (hush d)) := by
    have hsees' : (vbus || comparatorsRun (hush d) i) = true := by
      rw [show comparatorsRun (hush d) i = comparatorsRun d i from rfl]
      simpa using hsees
    have hserved : (isDormant (hush d) && !(hush d).aon.resetNLow && (hush d).aon.wakeEnable.getLsbD i) = true := by
      rw [show isDormant (hush d) = true from hdormant, hush_aon, hreset, henabled]
      rfl
    simp only [wakeAttach, hsees', hserved]
    rfl
  rw [heffect, wake_of_dormant (d := hush d) hdormant hreset hwindow henabled hlatched, wakeBits_alone (d := hush d) henabled]
  generalize hu : onAon _ (hush d) = u
  obtain ⟨hboot, haon, hrails⟩ := bootFromWake_boots u
  have hall : Only (.odBook :: .out :: wakeParts)
      (settle (onBoot (fun b => { b with latched := b.latched ||| BitVec.ofNat 6 (2 ^ i) }) (bootFromWake u))) d := by simp [← hu]
  rw [Woken, settle_aon, settle_boot, onBoot_aon, onBoot_boot, hboot, haon]
  subst hu
  exact ⟨rfl, rfl, rfl, rfl, runsFor_settle.mpr hrails, rfl, hall.sameSwitch rfl, hall.samePower rfl, hall.sameTime rfl,
    hall.sameStores rfl, hall.odCfg rfl⟩

end

/-- Settles O12. -/
theorem wakeEvents : Obligations.WakeEvents := by
  unfold Obligations.WakeEvents
  intro s c i vbus hc hdormant hreset henabled hlatched hwindow hsees hbank
  simp only [List.mem_cons, Prod.mk.injEq, List.not_mem_nil, or_false] at hc
  have hwake := woken_wake hdormant hreset henabled hlatched hwindow
  have hattach (h : i < 2) := woken_wakeAttach hdormant hreset henabled hlatched hwindow (hsees h)
  obtain ⟨rfl, rfl⟩ | ⟨rfl, rfl⟩ | ⟨rfl, rfl⟩ | ⟨rfl, rfl⟩ | ⟨rfl, rfl⟩ := hc
  · exact answers_of_effect (f := wakeAttach 0 vbus) rfl rfl (hattach (by decide))
  · exact answers_of_effect (f := wakeAttach 1 vbus) rfl rfl (hattach (by decide))
  · exact answers_of_effect (f := wake 2 0) rfl rfl hwake
  · exact answers_of_effect (f := wake 3 0) rfl rfl hwake
  · exact answers_of_effect (f := fun d => if d.aon.bankH then wake 4 0 d else d) rfl (if_pos (hbank rfl)) hwake

/-! ### A dead-battery start (R76, R77) -/

theorem deadBatteryStart_of_off {v0 v1 : Nat} {rp : RpLevel} {d : Dev} (hoff : aonRuns d = false) (hvbus : 4000 < v0 ∨ 4000 < v1) :
    deadBatteryStart v0 v1 rp d = arm .xtal sec
      { d with
        aon := { d.aon with preReg := true, dbPort := some (if 4000 < v0 then 0 else 1), dbClosed := false, dbRp := some rp,
                            lastReset := .por, lastWake := 0x40, railSawTimeout := false,
                            window := some { all := true, sampleA := none }, pwrEn := false }
        boot := { d.boot with startAt := d.now, stage := .strapsS } } := by
  have hserved : (aonRuns d || (decide (v0 ≤ 4000) && decide (v1 ≤ 4000))) = false := by
    rw [hoff]
    simpa [Nat.not_le, imp_iff_not_or] using hvbus
  rw [deadBatteryStart, hserved]
  rfl

theorem vsysTakeover_of_closed {d : Dev} (hpre : d.aon.preReg = true) (hclosed : d.aon.dbClosed = true) (hwindow : d.aon.window = none)
    (hreset : d.aon.resetNLow = false) : vsysTakeover d = arm .railTimeout (10 * ms)
      { d with aon := { d.aon with preReg := false, pwrEn := true, fanPullDown := false }
               boot := { d.boot with stage := .railsS } } := by
  have hclear : ¬ ((onAon (fun a => { a with preReg := false }) d).aon.window.isSome ||
      (onAon (fun a => { a with preReg := false }) d).aon.resetNLow) = true := by simp [hwindow, hreset]
  rw [vsysTakeover, if_neg (by simp [hpre, hclosed])]
  exact if_neg hclear

/-- Settles O13. -/
theorem deadBattery : Obligations.DeadBattery := by
  unfold Obligations.DeadBattery
  refine ⟨fun s v0 v1 rp hoff hvbus => ?_, fun s n hport hpre hclosed => ?_, fun s hpre hclosed hwindow hreset => ?_⟩
  · exact answers_became (f := deadBatteryStart v0 v1 rp) rfl (deadBatteryStart_of_off (d := hush s.dev) hoff hvbus)
  · have heffect : deadBatteryClose (hush s.dev) =
        setCable n.val (fun c => { c with gateOn := true }) (onAon (fun a => { a with dbClosed := true }) (hush s.dev)) := by
      simp [deadBatteryClose, hport, hpre, hclosed]
    refine answers_of_effect (f := deadBatteryClose) rfl heffect ?_
    generalize hu : setCable n.val _ _ = u
    have hall : Only [.cable n.val, .aon, .odBook, .out, .irq] (settle u) s.dev := by simp [← hu]
    refine ⟨by rw [settle_aon, ← hu]; rfl, ?_, fun m hm => hall.cable m ?_, hall.boot rfl, hall.sameSwitch rfl, hall.sameTime rfl,
      hall.sameStores rfl, hall.odCfg rfl⟩
    · rw [(show Only [.odBook, .irq] (settle u) u by simp).cable _ rfl, ← hu]
      simp
    · simp [Part.seenIn, Ne.symm hm]
  · exact answers_became (f := vsysTakeover) rfl (vsysTakeover_of_closed (d := hush s.dev) hpre hclosed hwindow hreset)

end Sys2Proof.Proofs.Dormant


/-! The host window: transactions, registers, mailbox and fuse words (chapters 5 and 16). -/

namespace Sys2Proof.Proofs.HostWindow

open Sys2Proof Sys2Proof.Machine Sys2Proof.Safety
open Sys2Proof.Proofs.ShapersAndTally
open Sys2Proof.Proofs.Frames
open Sys2Proof.Proofs.Running
open Sys2Proof.Proofs.Stores
open Sys2Proof.Proofs.Boot (only_setRaw)
open Sys2Proof.Proofs.Rails (only_setWeak)

/-! ### Transactions -/

@[simp] theorem hwAnswers_hush (d : Dev) : hwAnswers (hush d) = hwAnswers d := rfl

theorem bankH_of_answers {d : Dev} (h : hwAnswers d = true) : d.aon.bankH = true := (Bool.and_eq_true_iff.mp h).2

@[simp] theorem only_addressed {S : List Part} {d e : Dev} (hS : Within [.hw] S = true) :
    Only S (addressed d) e ↔ Only S d e := only_onHw _ hS

@[simp] theorem only_xferError {S : List Part} {d e : Dev} (i : Nat) (hS : Within [.hw] S = true) :
    Only S (xferError i d) e ↔ Only S d e := Only.iff (T := [.hw]) (by simp [xferError]) hS

theorem length_readWords (n a : Nat) (d : Dev) : (readWords n a d).1.length = n := by
  induction n generalizing a d with
  | zero => rfl
  | succ n ih => simp [readWords, ih]

theorem only_readWord (d : Dev) (a : Nat) : Only [.hw] (readWord d a).2 d := by
  unfold readWord
  repeat' split
  all_goals simp

/-- What reading words touches. -/
theorem only_readWords (n a : Nat) (d : Dev) : Only [.hw] (readWords n a d).2 d := by
  induction n generalizing a d with
  | zero => exact .refl _ _
  | succ n ih => exact (ih _ _).trans (only_readWord _ _)

/-- Words on the lines, which nothing silences while the window answers. -/
theorem emit_window {d : Dev} (hbank : d.aon.bankH = true) (hout : d.out = []) (ws : List Word) :
    emit (.window ws) d = { d with out := [.window ws] } := by
  simp [emit, bankSilent, heldSilent, hbank, hout]

theorem emit_octets {d : Dev} (hbank : d.aon.bankH = true) (hout : d.out = []) (bs : List Byte) :
    emit (.octets bs) d = { d with out := [.octets bs] } := by
  simp [emit, bankSilent, heldSilent, hbank, hout]

section
variable {d : Dev} (hanswers : hwAnswers d = true)
include hanswers

theorem qspiRead_of_misaligned {a : Nat} (h : a % 4 ≠ 0) (n : Nat) (cut : Bool) :
    qspiReadTransaction a n cut d = xferError 4 (addressed d) := by
  simp only [qspiReadTransaction, hanswers, h, Bool.not_true, Bool.false_eq_true, if_false, ne_eq, not_false_eq_true, if_true]
  rfl

theorem qspiRead_of_aligned {a : Nat} (h : a % 4 = 0) (n : Nat) (cut : Bool) (hout : d.out = []) :
    qspiReadTransaction a n cut d = (let r := readWords n a (addressed d)
      let u : Dev := { r.2 with out := [.window r.1] }
      if cut then xferError 3 u else u) := by
  have honly := only_readWords n a (addressed d)
  have hbank : (readWords n a (addressed d)).2.aon.bankH = true := by rw [honly.aon rfl]; exact bankH_of_answers hanswers
  have hquiet : (readWords n a (addressed d)).2.out = [] := by rw [honly.out rfl]; exact hout
  simp only [qspiReadTransaction, hanswers, h, Bool.not_true, Bool.false_eq_true, if_false, ne_eq, not_true_eq_false]
  rw [show onHw (fun h => { h with hiz := false }) d = addressed d from rfl, emit_window hbank hquiet]
  rfl

theorem qspiWrite_of_misaligned {a : Nat} (h : a % 4 ≠ 0) (ws : List Word) (cut : Bool) :
    qspiWriteTransaction a ws cut d = xferError 4 (addressed d) := by
  simp only [qspiWriteTransaction, hanswers, h, Bool.not_true, Bool.false_eq_true, if_false, ne_eq, not_false_eq_true, if_true]
  rfl

theorem qspiWrite_of_aligned {a : Nat} (h : a % 4 = 0) (ws : List Word) (cut : Bool) :
    qspiWriteTransaction a ws cut d =
      if cut then xferError 3 (writeWords ws a (addressed d)) else writeWords ws a (addressed d) := by
  simp only [qspiWriteTransaction, hanswers, h, Bool.not_true, Bool.false_eq_true, if_false, ne_eq, not_true_eq_false]
  rfl

/-- One word written at an address of 24 bits. -/
theorem qspiWrite_word {a : Nat} (h : a % 4 = 0) (ha : a < 2 ^ 24) (w : Word) :
    qspiWriteTransaction a [w] false d = writeWord a w (addressed d) := by
  rw [qspiWrite_of_aligned hanswers h, if_neg Bool.false_ne_true, writeWords, writeWords, Nat.mod_eq_of_lt ha]

theorem hostWrite_word {a : Nat} (h : a % 4 = 0) (ha : a < 2 ^ 24) (v : Nat) :
    hostWrite a v d = writeWord a (BitVec.ofNat 32 v) (addressed d) := qspiWrite_word hanswers h ha _

/-- One word read at an address of 24 bits. -/
theorem qspiRead_word {a : Nat} (h : a % 4 = 0) (ha : a < 2 ^ 24) (hout : d.out = []) :
    qspiReadTransaction a 1 false d =
      { (readWord (addressed d) a).2 with out := [.window [(readWord (addressed d) a).1]] } := by
  rw [qspiRead_of_aligned hanswers h 1 false hout]
  simp only [readWords, Nat.mod_eq_of_lt ha, Bool.false_eq_true, if_false]

end

/-! ### Words -/

theorem leNat_leBytes (n v : Nat) : leNat (leBytes n v) = v % 256 ^ n := by
  induction n generalizing v with
  | zero => simp [leBytes, leNat, Nat.mod_one]
  | succ n ih =>
    simp only [leBytes, leNat, ih, BitVec.toNat_ofNat]
    rw [show 256 ^ (n + 1) = 256 * 256 ^ n from pow_succ' 256 n, Nat.mod_mul]

theorem length_leBytes (n v : Nat) : (leBytes n v).length = n := by
  induction n generalizing v with
  | zero => rfl
  | succ n ih => simp [leBytes, ih]

/-- A word written into a memory reads back. -/
theorem memWord_writeBytes (m : Mem) (a : Nat) (w : Word) : memWord (writeBytes 0 m a (leBytes 4 w.toNat)) a = w := by
  have hread := readBytes_writeBytes 0 m a (leBytes 4 w.toNat)
  rw [length_leBytes] at hread
  rw [memWord, hread, leNat_leBytes, Nat.mod_eq_of_lt (by have := w.isLt; omega), BitVec.ofNat_toNat, BitVec.setWidth_eq]

theorem byteAt_wordWrite (m : Mem) {a i : Nat} (w : Word) (h : i < a ∨ a + 4 ≤ i) :
    byteAt 0 (writeBytes 0 m a (leBytes 4 w.toNat)) i = byteAt 0 m i :=
  byteAt_writeBytes_outside 0 _ m a i (by rwa [length_leBytes])

/-! ### The address map (Table 5-3) -/

theorem definedReg_of_staging {a : Nat} (h : inStaging a = true) : definedReg a = false := by
  simp only [inStaging, Bool.and_eq_true, decide_eq_true_eq] at h
  simp [definedReg]
  omega

theorem definedReg_of_buffer {a : Nat} (h : 0x1000 ≤ a) : definedReg a = false := by
  simp [definedReg]
  omega

theorem definedReg_of_gap {a : Nat} (h : 0x900 ≤ a) : definedReg a = false := by
  simp [definedReg]
  omega

section
variable {d : Dev} {a : Nat}

/-- A register of an address that the window serves takes the word. -/
theorem writeWord_reg (w : Word) (hserved : (odServes d || earlyServed a) = true) (hdefined : definedReg a = true)
    (hpresent : absentReg d a = false) : writeWord a w d = regWrite a w d := by
  have hrefused : (!odServes d && !earlyServed a) = false := by
    rw [← Bool.not_or, hserved, Bool.not_true]
  simp [writeWord, hrefused, hdefined, hpresent]

theorem regWrite_readOnly {w : Word} (h : readOnlyReg a = true) : regWrite a w d = xferError xRoWrite d := if_pos h

variable (hserves : odServes d = true)
include hserves

theorem writeWord_staging (w : Word) (h : inStaging a = true) : writeWord a w d =
    onHw (fun x => { x with staging := writeBytes 0 x.staging (a - 0x10000) (leBytes 4 w.toNat) }) d := by
  have hrange := h
  simp only [inStaging, Bool.and_eq_true, decide_eq_true_eq] at hrange
  simp only [writeWord, hserves, definedReg_of_staging h, h, Bool.not_true, Bool.false_and, Bool.false_eq_true, if_false, if_true]
  rw [if_neg (by omega)]

theorem writeWord_request (w : Word) (hlo : 0x1000 ≤ a) (hhi : a < 0x1200) : writeWord a w d =
    if d.hw.mbxBusy then onHw (fun x => { x with mbxOverrun := true }) d
    else onHw (fun x => { x with reqBuf := writeBytes 0 x.reqBuf (a - 0x1000) (leBytes 4 w.toNat) }) d := by
  simp only [writeWord, hserves, definedReg_of_buffer hlo, Bool.not_true, Bool.false_and, Bool.false_eq_true, if_false]
  rw [if_pos ⟨hlo, hhi⟩]

theorem writeWord_gap (w : Word) (hlo : 0x900 ≤ a) (hhi : a < 0x1000) : writeWord a w d = xferError 1 d := by
  have hstaging : inStaging a = false := by simp [inStaging]; omega
  simp only [writeWord, hserves, definedReg_of_gap hlo, hstaging, Bool.not_true, Bool.false_and, Bool.false_eq_true, if_false]
  rw [if_neg (by omega), if_neg (by omega), if_neg (by omega), if_neg (by omega)]
  rfl

theorem readWord_staging (h : inStaging a = true) : readWord d a = (memWord d.hw.staging (a - 0x10000), d) := by
  have hrange := h
  simp only [inStaging, Bool.and_eq_true, decide_eq_true_eq] at hrange
  simp only [readWord, hserves, definedReg_of_staging h, h, Bool.not_true, Bool.false_and, Bool.false_eq_true, if_false, if_true]
  rw [if_neg (by omega), if_neg (by omega), if_neg (by omega)]

theorem readWord_reg (hdefined : definedReg a = true) (hpresent : absentReg d a = false) :
    readWord d a = (BitVec.ofNat 32 (regValue d a), d) := by
  simp [readWord, hserves, hdefined, hpresent]

theorem readWord_absent (hdefined : definedReg a = true) (habsent : absentReg d a = true) :
    readWord d a = (0xA85EA85E, xferError 0 d) := by
  simp [readWord, hserves, hdefined, habsent, xAbsent]

theorem readWord_gap (hlo : 0x900 ≤ a) (hhi : a < 0x1000) : readWord d a = (0, xferError 1 d) := by
  have hstaging : inStaging a = false := by simp [inStaging]; omega
  simp only [readWord, hserves, definedReg_of_gap hlo, hstaging, Bool.not_true, Bool.false_and, Bool.false_eq_true, if_false]
  rw [if_neg (by omega), if_neg (by omega), if_neg (by omega), if_neg (by omega)]
  rfl

end

/-! ### Reads and writes of the window -/

theorem exec_read {a : BitVec 24} {n : Nat} {cut : Bool} {c : Instr} (s : State) (h : c = .qspiRead a n cut ∨ c = .qread a n cut) :
    exec c s = run (qspiReadTransaction a.toNat n cut) s := by
  rcases h with rfl | rfl <;> rfl

/-- Settles O22. -/
theorem windowReads : Obligations.WindowReads := by
  unfold Obligations.WindowReads
  refine ⟨fun s a n cut c hc hanswers => ⟨fun halign => ⟨length_readWords _ _ _, ?_⟩, fun hmis => ?_⟩,
    fun s a c hc hanswers hserves halign => ?_⟩
  · exact answers_became (exec_read s hc) (qspiRead_of_aligned (d := hush s.dev) hanswers halign n cut rfl)
  · refine answers_of_effect (exec_read s hc) (qspiRead_of_misaligned (d := hush s.dev) hanswers hmis n cut) ⟨became_settle _, ?_⟩
    rw [settle_out]
    rfl
  · have hword := qspiRead_word (d := hush s.dev) hanswers halign a.isLt rfl
    refine ⟨fun hstaging => ?_, fun hdefined hpresent => ?_, fun hdefined habsent => ?_, fun hlo hhi => ?_⟩
    · rw [readWord_staging (d := addressed (hush s.dev)) hserves hstaging] at hword
      exact answers_became (exec_read s hc) hword
    · rw [readWord_reg (d := addressed (hush s.dev)) hserves hdefined hpresent] at hword
      exact answers_became (exec_read s hc) hword
    · rw [readWord_absent (d := addressed (hush s.dev)) hserves hdefined habsent] at hword
      exact answers_became (exec_read s hc) hword
    · rw [readWord_gap (d := addressed (hush s.dev)) hserves hlo hhi] at hword
      exact answers_became (exec_read s hc) hword

theorem exec_write {a : BitVec 24} {ws : List Word} {cut : Bool} {c : Instr} (s : State)
    (h : c = .qspiWrite a ws cut ∨ c = .qwrite a ws cut) : exec c s = run (qspiWriteTransaction a.toNat ws cut) s := by
  rcases h with rfl | rfl <;> rfl

/-- One word written, however the host writes it. -/
theorem exec_writeOne {a : BitVec 24} {w : Word} {c : Instr} (s : State)
    (h : c = .qspiWrite a [w] false ∨ c = .qwrite a [w] false ∨ c = .registerWrite a w) :
    exec c s = run (qspiWriteTransaction a.toNat [w] false) s := by
  rcases h with rfl | rfl | rfl
  · rfl
  · rfl
  · show run (hostWrite a.toNat w.toNat) s = _
    rw [show hostWrite a.toNat w.toNat = qspiWriteTransaction a.toNat [w] false by
      funext d; rw [hostWrite, BitVec.ofNat_toNat, BitVec.setWidth_eq]]

/-- Settles O23. -/
theorem windowWrites : Obligations.WindowWrites := by
  unfold Obligations.WindowWrites
  refine ⟨fun s a ws cut c hc hanswers => ⟨fun halign => ?_, fun hmis => ?_⟩, fun s a w c hc hanswers hserves halign => ?_⟩
  · exact answers_became (exec_write s hc) (qspiWrite_of_aligned (d := hush s.dev) hanswers halign ws cut)
  · exact answers_became (exec_write s hc) (qspiWrite_of_misaligned (d := hush s.dev) hanswers hmis ws cut)
  · have hword := qspiWrite_word (d := hush s.dev) hanswers halign a.isLt w
    have hexec := exec_writeOne s hc
    have hserves' : odServes (addressed (hush s.dev)) = true := hserves
    refine ⟨fun hstaging => ?_, fun hlo hhi => ⟨fun hidle => ?_, fun hbusy => ?_⟩, fun hreg => ?_, fun hreg => ?_,
      fun hro hdefined hpresent => ?_, fun hlo hhi => ?_⟩
    · rw [writeWord_staging hserves' w hstaging] at hword
      refine answers_of_effect hexec hword ⟨?_, fun i hi => ?_, ?_⟩
      · rw [settle_hw_staging]
        exact memWord_writeBytes _ _ w
      · rw [settle_hw_staging]
        exact byteAt_wordWrite _ w hi
      · rw [settle_hw_staging]
        exact became_settle _
    · have hfree : ¬ (addressed (hush s.dev)).hw.mbxBusy = true := by
        rw [show (addressed (hush s.dev)).hw.mbxBusy = false from hidle]; decide
      rw [writeWord_request hserves' w hlo hhi, if_neg hfree] at hword
      refine answers_of_effect hexec hword ⟨?_, fun i hi => ?_, ?_⟩
      · rw [settle_hw_reqBuf]
        exact memWord_writeBytes _ _ w
      · rw [settle_hw_reqBuf]
        exact byteAt_wordWrite _ w hi
      · rw [settle_hw_reqBuf]
        exact became_settle _
    · rw [writeWord_request hserves' w hlo hhi, if_pos (show (addressed (hush s.dev)).hw.mbxBusy = true from hbusy)] at hword
      exact answers_became hexec hword
    · rw [hreg, writeWord_reg (d := addressed (hush s.dev)) w (by rw [hserves']; rfl) rfl rfl] at hword
      exact answers_became (hreg ▸ hexec) hword
    · rw [hreg, writeWord_reg (d := addressed (hush s.dev)) w (by rw [hserves']; rfl) rfl rfl] at hword
      exact answers_became (hreg ▸ hexec) hword
    · rw [writeWord_reg (d := addressed (hush s.dev)) w (by rw [hserves']; rfl) hdefined hpresent, regWrite_readOnly hro] at hword
      exact answers_became hexec hword
    · rw [writeWord_gap hserves' w hlo hhi] at hword
      exact answers_became hexec hword

/-! ### Registers that start an action -/

theorem xferError_badOpcode : ∀ d : Dev, xferError xBadOpcode d =
    onHw (fun h => { h with xferStatus := h.xferStatus ||| 0x20, irqStatus := h.irqStatus ||| 0x200 }) d := fun _ => rfl

section
variable {d : Dev} (hanswers : hwAnswers d = true)
include hanswers

/-- A doorbell (R165, R170, R171). -/
theorem hostWrite_doorbell (w : Word) : hostWrite 0x200 w.toNat d = doorbell w (addressed d) := by
  rw [hostWrite_word hanswers (by decide) (by decide), BitVec.ofNat_toNat, BitVec.setWidth_eq,
    writeWord_reg w (by simp [earlyServed]) rfl rfl]
  rfl

theorem hostWrite_bootDone : hostWrite 0x10 16 d = bootDoneClear (addressed d) := by
  rw [hostWrite_word hanswers (by decide) (by decide), writeWord_reg _ (by simp [earlyServed]) rfl rfl]
  rfl

/-- The command of HW_OTP_CMD in bits 1:0 and its word in bits 25:16. -/
theorem hostWrite_otpCmd (k : Nat) (a : BitVec 10) : k < 4 → hostWrite 0x20 (k + 65536 * a.toNat) d =
    match k with
    | 1 => otpReadCmd a.toNat (addressed d)
    | 2 => otpProgramCmd a.toNat (addressed d)
    | _ => xferError xBadValue (addressed d) := by
  intro hk
  have ha := a.isLt
  have hv : (BitVec.ofNat 32 (k + 65536 * a.toNat)).toNat = k + 65536 * a.toNat := by
    rw [BitVec.toNat_ofNat, Nat.mod_eq_of_lt (by omega)]
  have hcmd : bits (k + 65536 * a.toNat) 1 0 = k := by simp only [bits]; omega
  have hword : bits (k + 65536 * a.toNat) 25 16 = a.toNat := by simp only [bits]; omega
  rw [hostWrite_word hanswers (by decide) (by decide), writeWord_reg _ (by simp [earlyServed]) rfl rfl]
  show otpCmd _ _ = _
  rw [otpCmd, hv, hcmd, hword] <;> rfl

end

theorem sessionOf_setSession_self (n : Nat) (f : Session → Session) (d : Dev) :
    sessionOf (setSession n f d) n = f (sessionOf d n) := tget_tset_self _ _ _ _

theorem sessionOf_setSession_other {n m : Nat} (f : Session → Session) (d : Dev) (h : m ≠ n) :
    sessionOf (setSession n f d) m = sessionOf d m := tget_tset_other _ _ _ h

theorem sessionOf_settle (d : Dev) (n : Nat) : sessionOf (settle d) n = sessionOf d n := by simp [sessionOf]

/-- Settles O24. -/
theorem windowStatusAndMailbox : Obligations.WindowStatusAndMailbox := by
  unfold Obligations.WindowStatusAndMailbox
  intro s hanswers
  have hanswers' : hwAnswers (hush s.dev) = true := hanswers
  have hbank := bankH_of_answers hanswers
  refine ⟨?_, ?_, fun op hop => ?_, fun w hserves hidle hlo hhi => ?_, fun w hbusy => ?_, fun w hdown hidle => ?_, fun hdone => ?_⟩
  · refine answers_became (f := rdsr) rfl ?_
    rw [rdsr, if_pos hanswers']
    exact (emit_octets (d := addressed (hush s.dev)) hbank rfl _).trans rfl
  · refine answers_became (f := rdid) rfl ?_
    rw [rdid, if_pos hanswers']
    exact (emit_octets (d := addressed (hush s.dev)) hbank rfl _).trans rfl
  · refine answers_became (f := badOpcode op) rfl ?_
    rw [badOpcode, if_pos (by simp [hanswers, hop]), xferError_badOpcode]
    rfl
  · refine answers_became (f := hostWrite 0x200 w.toNat) rfl ?_
    have hfree : ¬ (addressed (hush s.dev)).hw.mbxBusy = true := by
      rw [show (addressed (hush s.dev)).hw.mbxBusy = false from hidle]; decide
    have hserved : ¬ (!odServes (addressed (hush s.dev))) = true := by
      rw [show odServes (addressed (hush s.dev)) = true from hserves]; decide
    rw [hostWrite_doorbell hanswers', doorbell, if_neg hfree, if_neg hserved, if_neg (by omega)]
    rfl
  · refine answers_became (f := hostWrite 0x200 w.toNat) rfl ?_
    rw [hostWrite_doorbell hanswers', doorbell, if_pos (show (addressed (hush s.dev)).hw.mbxBusy = true from hbusy)]
    rfl
  · refine answers_became (f := hostWrite 0x200 w.toNat) rfl ?_
    have hfree : ¬ (addressed (hush s.dev)).hw.mbxBusy = true := by
      rw [show (addressed (hush s.dev)).hw.mbxBusy = false from hidle]; decide
    have hrefused : (!odServes (addressed (hush s.dev))) = true := by
      rw [show odServes (addressed (hush s.dev)) = false from hdown]; rfl
    rw [hostWrite_doorbell hanswers', doorbell, if_neg hfree, if_pos hrefused]
    rfl
  · have heffect : hostWrite 0x10 16 (hush s.dev) = _ := (hostWrite_bootDone hanswers').trans (if_pos hdone)
    refine answers_of_effect (f := hostWrite 0x10 16) rfl heffect ?_
    generalize hu : setSession 0 _ _ = u
    have hall : Only [.boot, .odBook, .sessions, .hw, .out, .irq] (settle u) s.dev := by subst hu; simp
    have hself := (sessionOf_settle u 0).trans ((congrArg (sessionOf · 0) hu.symm).trans (sessionOf_setSession_self _ _ _))
    refine ⟨by rw [settle_boot, ← hu]; rfl, ?_, ?_, ?_, fun n hn => ?_, hall.aon rfl, hall.sameSwitch rfl, hall.samePower rfl,
      hall.sameTime rfl, hall.sameStores rfl, hall.odCfg rfl⟩
    · rw [hself]
    · rw [hself]; rfl
    · rw [hself]; rfl
    · rw [sessionOf_settle, ← hu, sessionOf_setSession_other _ _ hn]
      rfl

/-! ### Fuse words -/

theorem not_isSome {α : Type} {o : Option α} (h : o = none) : ¬ o.isSome = true := by simp [h]

/-- What programming starts when the conditions hold. -/
theorem underConds_of_met {host permitted : Bool} {f : Dev → Dev} {d : Dev} (h : firstCond d permitted = 0) :
    underConds host permitted f d = f (onOtp (fun o => { o with condFail := 0 }) d) := by
  simp [underConds, h]

/-- A burn of one blank word that carries ECC. -/
theorem startBurn_word {d : Dev} {a : Nat} {w : BitVec 39} (hblank : otpSeen d a = 0) :
    startBurn .word true [(a, w)] d =
      onOtp (fun o => { o with burn := some { kind := .word, todo := [(a, w)], host := true, failed := oOk } }) d := by
  simp [startBurn, burnNext, hblank]

/-- The last word of a burn of one word, burned with no bit weak or in error, reads back as given. -/
theorem otpProgramDone_clean {d : Dev} {a : Nat} {w : BitVec 39}
    (hburn : d.otp.burn = some { kind := .word, todo := [(a, w)], host := true, failed := 0 }) (hblank : otpRaw d a = 0) :
    otpProgramDone { weak := 0, extra := 0 } d =
      otpResult true oOk (onOtp (fun o => { o with burn := none }) (setWeak a w 0 (setRaw a w.toNat d))) := by
  have hmask : w.toNat &&& 549755813887 = w.toNat :=
    (Nat.and_two_pow_sub_one_eq_mod w.toNat 39).trans (Nat.mod_eq_of_lt w.isLt)
  simp [otpProgramDone, hburn, hblank, burnNext, endBurn, oOk, hmask]

/-- Settles O25. -/
theorem fuseWords : Obligations.FuseWords := by
  unfold Obligations.FuseWords
  refine ⟨fun s a hanswers => ?_, fun s a hanswers hnone hbank hconds hblank => ?_, fun s a w hburn hblank => ?_⟩
  · exact answers_became (f := hostWrite 0x20 (1 + 65536 * a.toNat)) rfl (hostWrite_otpCmd (d := hush s.dev) hanswers 1 a (by decide))
  · have heffect : hostWrite 0x20 (2 + 65536 * a.toNat) (hush s.dev) =
        onOtp (fun o => { o with burn := some { kind := .word, todo := [(a.toNat, BitVec.ofNat 39 (codeword s.dev.hw.otpData.toNat))],
                                                host := true, failed := oOk } })
          (onOtp (fun o => { o with condFail := 0 }) (addressed (hush s.dev))) := by
      refine (hostWrite_otpCmd (d := hush s.dev) hanswers 2 a (by decide)).trans ?_
      show otpProgramCmd a.toNat _ = _
      rw [otpProgramCmd, if_neg (not_isSome (show (addressed (hush s.dev)).otp.burn = none from hnone))]
      refine (underConds_of_met (d := addressed (hush s.dev)) hconds).trans ?_
      rw [if_neg (by omega)]
      exact (if_neg (not_not_intro hblank)).trans (startBurn_word hblank)
    refine answers_of_effect (f := hostWrite 0x20 (2 + 65536 * a.toNat)) rfl heffect ?_
    generalize hu : onOtp _ (onOtp _ _) = u
    have hall : Only [.otp, .odBook, .hw, .out, .irq] (settle u) s.dev := by subst hu; simp
    exact ⟨by rw [settle_otp, ← hu]; rfl, hall.flash rfl, hall.heat rfl, hall.sameSwitch rfl, hall.samePower rfl,
      hall.sameTime rfl, hall.sameAon rfl, hall.odCfg rfl⟩
  · refine answers_of_effect (f := otpProgramDone { weak := 0, extra := 0 }) rfl
      (otpProgramDone_clean (d := hush s.dev) hburn hblank) ?_
    generalize hu : otpResult true oOk _ = u
    have hall : Only [.otp, .odBook, .hw, .out, .irq] (settle u) s.dev := by
      subst hu
      simp [otpResult, only_setWeak, only_setRaw]
    have hotp := (settle_otp u).trans (congrArg Dev.otp hu.symm)
    have harray : tget 0 (settle u).otp.array a = w := by
      rw [hotp]
      exact (tget_tset_self _ _ _ _).trans (by simp)
    have hmarginal : otpWeak (settle u) a = otpWeak s.dev a &&& ~~~w := by
      rw [otpWeak, hotp]
      exact (tget_tset_self _ _ _ _).trans BitVec.or_zero
    refine ⟨by rw [hotp]; rfl, by rw [otpRaw, harray], ?_, fun b hb => ⟨?_, ?_⟩, ?_, hall.flash rfl, hall.sameSwitch rfl,
      hall.samePower rfl, hall.sameTime rfl, hall.sameAon rfl, hall.odCfg rfl⟩
    · rw [otpFirm, harray, hmarginal]
      congr 1
      ext i
      simp only [BitVec.getElem_and, BitVec.getElem_not, Bool.not_and, Bool.not_not]
      cases w[i] <;> simp
    · rw [otpRaw, hotp]
      exact congrArg BitVec.toNat (tget_tset_other _ _ _ hb)
    · rw [otpWeak, hotp]
      exact tget_tset_other _ _ _ hb
    · rw [← hu]
      simp [otpResult]

end Sys2Proof.Proofs.HostWindow


/-! Time sources: PPS_IN, PTP, hold-off and lock of the timebase (chapter 10). -/

namespace Sys2Proof.Proofs.TimeSources

open Sys2Proof Sys2Proof.Machine Sys2Proof.Safety
open Sys2Proof.Proofs.ShapersAndTally
open Sys2Proof.Proofs.Frames
open Sys2Proof.Proofs.Running

/-- Of the timebase's record, waiting for a timer changes the timebase alone. -/
theorem expired_tm (t : Timer) (d : Dev) : ∃ tb, (expired t d).tm = { d.tm with tb := tb } := elapse_tm _ (hush d)

/-! ### What a selection leaves -/

/-- The timebase's record without what selecting a source or passing time changes. -/
def unselected (d : Dev) : TimeBase :=
  { d.tm with tb := 0, rateTrim := 0, lag := 0, lateLag := 0, state := .freerun, source := none, everSelected := false,
              slewing := false, stepCount := 0, ppsSecond := 0 }

/-- The same without since when the sources are qualified. -/
def measured (d : Dev) : TimeBase := { unselected d with qualPtp := none, qualPps := none, qualNg := none }

section
variable {d t : Dev}

theorem measured_of_unselected (h : unselected t = unselected d) : measured t = measured d := by simp only [measured, h]

theorem qualSince_of_unselected (h : unselected t = unselected d) (s : TimeSource) : qualSince t s = qualSince d s := by
  cases s
  · show (unselected t).qualPtp = (unselected d).qualPtp; rw [h]
  · show (unselected t).qualPps = (unselected d).qualPps; rw [h]
  · show (unselected t).qualNg = (unselected d).qualNg; rw [h]

@[simp] theorem unselected_stepTime (delta : Int) : unselected (stepTime delta d) = unselected d := rfl
@[simp] theorem unselected_stepThroughLag (delta : Int) : unselected (stepThroughLag delta d) = unselected d := rfl
@[simp] theorem unselected_drawTrim : unselected (drawTrim d) = unselected d := rfl
@[simp] theorem unselected_elapse (ns : Nat) : unselected (elapse ns d) = unselected d := by
  obtain ⟨tb, h⟩ := elapse_tm ns d
  simp only [unselected, h]
@[simp] theorem unselected_arm (u : Timer) (ns : Nat) : unselected (arm u ns d) = unselected d := rfl
@[simp] theorem unselected_disarm (u : Timer) : unselected (disarm u d) = unselected d := rfl
@[simp] theorem unselected_settle : unselected (settle d) = unselected d := by simp [unselected]

@[simp] theorem unselected_residual (v : Int) : unselected (residual v d) = unselected d := by
  unfold Machine.residual
  repeat' split
  all_goals rfl

@[simp] theorem unselected_selectSource (s : TimeSource) : unselected (selectSource s d) = unselected d := by
  unfold selectSource
  extract_lets off u
  have hu : unselected u = unselected d := rfl
  repeat' split
  · rw [unselected_residual, hu]
  · rw [unselected_drawTrim, unselected_residual, hu]
  · rw [unselected_residual, unselected_stepThroughLag]
    exact hu

@[simp] theorem unselected_noSource : unselected (noSource d) = unselected d := by
  unfold noSource
  split <;> rfl

@[simp] theorem unselected_replaceSource (s : TimeSource) : unselected (replaceSource s d) = unselected d := by
  unfold replaceSource
  dsimp only
  split <;> simp

@[simp] theorem unselected_reselect : unselected (reselect d) = unselected d := by
  unfold reselect
  repeat' split
  all_goals simp

@[simp] theorem unselected_holdoffExpiry : unselected (holdoffExpiry d) = unselected d := by
  unfold holdoffExpiry
  dsimp only
  repeat' split
  all_goals simp

@[simp] theorem measured_setQual (s : TimeSource) (q : Option Nat) : measured (setQual s q d) = measured d := by cases s <;> rfl

@[simp] theorem measured_disqualify (s : TimeSource) : measured (disqualify s d) = measured d := by
  unfold disqualify
  split
  · rfl
  · rw [measured_of_unselected unselected_reselect, measured_setQual]

@[simp] theorem measured_qualify (s : TimeSource) : measured (qualify s d) = measured d := by
  unfold qualify
  dsimp only
  repeat' split
  · rfl
  · rw [measured_of_unselected unselected_holdoffExpiry, measured_of_unselected unselected_reselect, measured_setQual]
  · rw [measured_of_unselected unselected_reselect, measured_setQual]

@[simp] theorem measured_drawTrim : measured (drawTrim d) = measured d := measured_of_unselected unselected_drawTrim
@[simp] theorem measured_residual (v : Int) : measured (residual v d) = measured d := measured_of_unselected (unselected_residual v)

theorem qualSince_setQual (s : TimeSource) (q : Option Nat) : qualSince (setQual s q d) s = q := by cases s <;> rfl

theorem qualSince_setQual_other {s y : TimeSource} (q : Option Nat) (h : y ≠ s) : qualSince (setQual s q d) y = qualSince d y := by
  cases s <;> cases y <;> simp_all [setQual, qualSince]

/-- A source that is disqualified is qualified no more. -/
theorem qualSince_disqualify (s : TimeSource) : qualSince (disqualify s d) s = none := by
  unfold disqualify
  split
  next h => simpa using h
  next => rw [qualSince_of_unselected unselected_reselect, qualSince_setQual]

/-- A source that is selected is being locked to. -/
theorem selectSource_selects (s : TimeSource) : (selectSource s d).tm.source = some s ∧ (selectSource s d).tm.state = .locking ∧
    (selectSource s d).tm.everSelected = true := by
  have hresidual (v : Int) (u : Dev) : (residual v u).tm = u.tm := by
    unfold Machine.residual
    repeat' split
    all_goals rfl
  unfold selectSource
  extract_lets off u
  have hu : u.tm.source = some s ∧ u.tm.state = .locking ∧ u.tm.everSelected = true := ⟨rfl, rfl, rfl⟩
  repeat' split
  · rw [hresidual]; exact hu
  · have hdraw (w : Dev) : (drawTrim w).tm.source = w.tm.source ∧ (drawTrim w).tm.state = w.tm.state ∧
        (drawTrim w).tm.everSelected = w.tm.everSelected := ⟨rfl, rfl, rfl⟩
    obtain ⟨hsource, hstate, hever⟩ := hdraw (residual off u)
    rw [hsource, hstate, hever, hresidual]
    exact hu
  · rw [hresidual]; exact hu

/-! ### Frames -/

/-- What a source that qualifies may reach: a held-off one is awaited. -/
@[simp] def qualifyParts : List Part := .now :: sourceParts

variable {S : List Part} {e : Dev}

@[simp] theorem only_holdoffExpiry (hS : Within qualifyParts S = true) : Only S (holdoffExpiry d) e ↔ Only S d e := by
  refine Only.iff (T := qualifyParts) ?_ hS
  unfold holdoffExpiry
  dsimp only
  repeat' split
  all_goals simp

@[simp] theorem only_qualify (s : TimeSource) (hS : Within qualifyParts S = true) : Only S (qualify s d) e ↔ Only S d e :=
  Only.iff (T := qualifyParts) (by simp [qualify]) hS

@[simp] theorem only_ptpMeasured (off : Int) (hS : Within qualifyParts S = true) : Only S (ptpMeasured off d) e ↔ Only S d e :=
  Only.iff (T := qualifyParts) (by simp [ptpMeasured]) hS

@[simp] theorem only_setPtp (p : Nat) (f : PtpPort → PtpPort) (hS : Within [.tm] S = true) : Only S (setPtp p f d) e ↔ Only S d e :=
  only_onTm _ hS

theorem only_forwardEvent (p : Nat) (o : List Byte) (captured : Bool) : Only [.free, .out] (forwardEvent p o captured d) d := by
  unfold forwardEvent
  split
  · exact .refl _ _
  · refine Only.foldl _ (fun u q _ => ?_) d
    split <;> simp

theorem only_ppsInEdge : Only (.timer .ppsIn :: qualifyParts) (ppsInEdge d) d := by
  simp [ppsInEdge]

end

/-! ### PPS_IN -/

/-- The edge as it is recorded, before a source is qualified or disqualified by it. -/
def edgeSeen (d : Dev) : Dev :=
  let t : Int := (taiNs d : Int) - cfg d 0x6030 1
  let phase : Int := t - divRound t sec * sec
  let good : Bool := match d.tm.ppsLast with
    | some l => decide ((d.now : Int) - l - sec ≤ 100000 ∧ (sec : Int) + l - d.now ≤ 100000)
    | none => false
  let outside := decide (100000 < phase.natAbs)
  let u := arm .ppsIn (1100 * ms) (onTm (fun t =>
    { t with ppsLast := some d.now, ppsPhase := phase,
             ppsGood := if good then t.ppsGood + 1 else 1,
             ppsBad := if outside then t.ppsBad + 1 else 0,
             ppsReject := if outside then satInc t.ppsReject else t.ppsReject }) d)
  if u.tm.source = some .ppsIn then drawTrim (residual phase u) else u

section
variable {d : Dev} (hruns : ttbRuns d = true) (hon : cfgOn d 0x6030 0 = true)
include hruns hon

theorem ppsInEdge_eq : ppsInEdge d =
    if 3 ≤ (edgeSeen d).tm.ppsBad ∧ (edgeSeen d).tm.qualPps.isSome then
      disqualify .ppsIn (onTm (fun t => { t with ppsGood := 0 }) (edgeSeen d))
    else if 3 ≤ (edgeSeen d).tm.ppsGood ∧ ((edgeSeen d).tm.state ≠ .freerun ∨ (edgeSeen d).tm.timeSet) then
      qualify .ppsIn (if (edgeSeen d).tm.qualPps.isNone then onTm (fun t => { t with ppsBad := 0 }) (edgeSeen d) else edgeSeen d)
    else edgeSeen d := by
  unfold ppsInEdge
  rw [if_neg (by simp [hruns, hon])]
  rfl

omit hruns hon in
theorem ppsLast_edgeSeen : (edgeSeen d).tm.ppsLast = some d.now := by
  unfold edgeSeen
  extract_lets t phase good outside u
  split
  · exact congrArg TimeBase.ppsLast (measured_drawTrim.trans (measured_residual (d := u) phase))
  · rfl

omit hruns hon in
theorem mem_timers_edgeSeen : (Timer.ppsIn, d.now + 1100 * ms) ∈ (edgeSeen d).timers := by
  unfold edgeSeen
  extract_lets t phase good outside u
  have hu : (Timer.ppsIn, d.now + 1100 * ms) ∈ u.timers := runsFor_arm_self (d := onTm _ d)
  split
  · have hrest : Only sourceParts (drawTrim (residual phase u)) u := by simp
    exact (hrest.mem_timers .ppsIn rfl _).mpr hu
  · exact hu

end

/-! ### The first source -/

section
variable {d : Dev} {s : TimeSource}

/-- With no other source qualified none waits for HOLDOFF. -/
theorem holdoffExpiry_of_alone (hsource : d.tm.source = some s) (halone : ∀ y, y ≠ s → qualSince d y = none) :
    holdoffExpiry d = d := by
  have hlower (y : TimeSource) (hy : y ∈ (priorities d).filter fun x => decide (rankOf d x < rankOf d s)) : qualSince d y = none := by
    refine halone y fun h => ?_
    subst h
    simp at hy
  have hheld : ((priorities d).filter fun x => decide (rankOf d x < rankOf d s)).find? (fun x => heldOff d x) = none := by
    rw [List.find?_eq_none]
    intro y hy
    simp [heldOff, hlower y hy]
  have hsome : ((priorities d).filter fun x => decide (rankOf d x < rankOf d s)).find? (fun x => (qualSince d x).isSome) = none := by
    rw [List.find?_eq_none]
    intro y hy
    simp [hlower y hy]
  simp only [holdoffExpiry, hsource, hheld, hsome]

/-- The first source that qualifies is selected. -/
theorem qualify_of_first (hsource : d.tm.source = none) (hnone : ∀ y, qualSince d y = none) (hs : s ∈ priorities d) :
    (qualify s d).tm.source = some s ∧ (qualify s d).tm.state = .locking ∧ (qualify s d).tm.everSelected = true ∧
      qualSince (qualify s d) s = some d.now := by
  have hself : qualSince (setQual s (some d.now) d) s = some d.now := qualSince_setQual s _
  have hother (y : TimeSource) (hy : y ≠ s) : qualSince (setQual s (some d.now) d) y = none := by
    rw [qualSince_setQual_other _ hy, hnone y]
  have hsource' : (setQual s (some d.now) d).tm.source = none := by rw [← hsource]; cases s <;> rfl
  have hprio : priorities (setQual s (some d.now) d) = priorities d := by cases s <;> rfl
  have hfind : (priorities d).find? (fun x => (qualSince (setQual s (some d.now) d) x).isSome) = some s := by
    obtain ⟨x, hx⟩ := Option.isSome_iff_exists.mp (List.find?_isSome.mpr ⟨s, hs, by rw [hself]; rfl⟩ :
      ((priorities d).find? fun x => (qualSince (setQual s (some d.now) d) x).isSome).isSome = true)
    have hqual := List.find?_some hx
    rw [hx]
    refine congrArg some (by_contra fun hne => ?_)
    rw [hother x hne] at hqual
    cases hqual
  have hreselect : reselect (setQual s (some d.now) d) = selectSource s (setQual s (some d.now) d) := by
    simp only [reselect, hsource', hprio, hfind]
  have hqualify : qualify s d = selectSource s (setQual s (some d.now) d) := by
    have hidle : holdoffExpiry (selectSource s (setQual s (some d.now) d)) = selectSource s (setQual s (some d.now) d) :=
      holdoffExpiry_of_alone (selectSource_selects s).1 fun y hy => by
        rw [qualSince_of_unselected (unselected_selectSource s), hother y hy]
    simp only [qualify, hnone s, Option.isSome_none, Bool.false_eq_true, if_false, hreselect, hidle, ite_self]
  obtain ⟨hsel, hlocking, hever⟩ := selectSource_selects (d := setQual s (some d.now) d) s
  rw [hqualify]
  exact ⟨hsel, hlocking, hever, by rw [qualSince_of_unselected (unselected_selectSource s), hself]⟩

end

/-- The third good edge qualifies PPS_IN where no source is. -/
theorem ppsInEdge_of_third {d : Dev} {l : Nat} (hruns : ttbRuns d = true) (hon : cfgOn d 0x6030 0 = true)
    (hlast : d.tm.ppsLast = some l) (hgood : (d.now : Int) - l - sec ≤ 100000 ∧ (sec : Int) + l - d.now ≤ 100000)
    (htwo : 2 ≤ d.tm.ppsGood) (hset : d.tm.state ≠ .freerun ∨ d.tm.timeSet = true) (hsource : d.tm.source = none)
    (hnone : ∀ y, qualSince d y = none) (hprio : TimeSource.ppsIn ∈ priorities d) :
    (ppsInEdge d).tm.source = some .ppsIn ∧ (ppsInEdge d).tm.state = .locking ∧ (ppsInEdge d).tm.everSelected = true ∧
      (ppsInEdge d).tm.qualPps = some d.now := by
  have hpps : d.tm.qualPps = none := hnone .ppsIn
  have hsame : (edgeSeen d).now = d.now ∧ (edgeSeen d).tm.source = d.tm.source ∧ (edgeSeen d).tm.state = d.tm.state ∧
      (edgeSeen d).tm.timeSet = d.tm.timeSet ∧ (∀ y, qualSince (edgeSeen d) y = qualSince d y) ∧
      priorities (edgeSeen d) = priorities d ∧ (edgeSeen d).tm.ppsGood = d.tm.ppsGood + 1 := by
    unfold edgeSeen
    extract_lets t phase good outside u
    have hg : good = true := by simp only [good, hlast, decide_eq_true_eq]; exact hgood
    rw [if_neg (show ¬ u.tm.source = some .ppsIn by rw [show u.tm.source = d.tm.source from rfl, hsource]; simp)]
    refine ⟨rfl, rfl, rfl, rfl, fun y => by cases y <;> rfl, rfl, ?_⟩
    show (if good then d.tm.ppsGood + 1 else 1) = _
    rw [hg, if_pos rfl]
  obtain ⟨hnow, hsource', hstate, htime, hqual, hprio', hcount⟩ := hsame
  have hpps' : (edgeSeen d).tm.qualPps = none := (hqual .ppsIn).trans hpps
  rw [ppsInEdge_eq hruns hon, if_neg (by simp [hpps']), if_pos ⟨by omega, by rw [hstate, htime]; exact hset⟩, if_pos (by simp [hpps'])]
  have hfirst := qualify_of_first (d := onTm (fun t => { t with ppsBad := 0 }) (edgeSeen d)) (s := .ppsIn)
    (hsource'.trans hsource) (fun y => (show _ = qualSince (edgeSeen d) y by cases y <;> rfl).trans ((hqual y).trans (hnone y)))
    (by rw [show priorities (onTm (fun t => { t with ppsBad := 0 }) (edgeSeen d)) = priorities d from hprio']; exact hprio)
  obtain ⟨hsel, hlocking, hever, hsince⟩ := hfirst
  exact ⟨hsel, hlocking, hever, hsince.trans (congrArg some hnow)⟩

/-! ### PTP -/

/-- A port whose frames reach the wire. -/
def Reaches (d : Dev) (p : Nat) : Prop := portHeld d p = false ∧ (p ≠ 12 ∨ d.aon.bankH = true)

section
variable {d : Dev} {p : Nat} {o : List Byte}

theorem emit_frame (h : Reaches d p) (o : List Byte) : emit (.frame p o) d = { d with out := d.out ++ [.frame p o] } := by
  obtain ⟨hheld, hbank⟩ := h
  have hbank' : (p == 12 && !d.aon.bankH) = false := by
    rcases hbank with h12 | hh
    · simp [h12]
    · simp [hh]
  simp [emit, bankSilent, heldSilent, hheld, hbank']

theorem whilePort_of_reaches (h : Reaches d p) (f : Dev → Dev) : whilePort p f d = f d := by
  obtain ⟨hheld, hbank⟩ := h
  have hbank' : (p != 12 || d.aon.bankH) = true := by
    rcases hbank with h12 | hh
    · simp [h12]
    · simp [hh]
  simp [whilePort, whileBank, hheld, hbank']

/-- What only emits keeps what is emitted. -/
theorem mem_out_emit {x e : Emission} (h : x ∈ d.out) : x ∈ (emit e d).out := by
  unfold emit
  split
  · exact h
  · exact List.mem_append_left _ h

/-- The transparent clock passes an event message without correction to every other port that may send. -/
theorem mem_out_forwardEvent {q : Nat} (hq : q < 16) (hne : q ≠ p) (htcp : isTcPort d p = true) (htcq : isTcPort d q = true)
    (hup : portUp d q = true) (hopen : (swPort d q).fenced = false) (hreach : Reaches d q) :
    Emission.frame q o ∈ (forwardEvent p o false d).out := by
  have hkept (l : List Nat) (u : Dev) (h : Emission.frame q o ∈ u.out) :
      Emission.frame q o ∈ (l.foldl (fun u r => emit (.frame r o) u) u).out :=
    List.foldlRecOn (motive := fun u : Dev => Emission.frame q o ∈ u.out) l _ h fun u hu r _ => mem_out_emit hu
  have hsent (l : List Nat) (u : Dev) (hl : q ∈ l) (hu : Reaches u q) :
      Emission.frame q o ∈ (l.foldl (fun u r => emit (.frame r o) u) u).out := by
    induction l generalizing u with
    | nil => cases hl
    | cons r l ih =>
      rw [List.foldl_cons]
      by_cases hr : r = q
      · subst hr
        refine hkept l _ ?_
        rw [emit_frame hu]
        simp
      · refine ih _ (by simpa [Ne.symm hr] using hl) ?_
        unfold emit
        split <;> exact hu
  unfold forwardEvent
  rw [if_neg (by simp [htcp])]
  refine hsent _ d ?_ hreach
  simp [hq, hne, htcq, hup, hopen]

theorem ptpMeasured_measures (off : Int) :
    ∃ n, measured (ptpMeasured off d) = { measured d with ptpOffset := off, ptpGood := n } := by
  unfold ptpMeasured
  extract_lets limit ok u v
  have hv : measured v = measured u := by
    simp only [v]
    split
    · rw [measured_drawTrim, measured_residual]
    · rfl
  refine ⟨u.tm.ptpGood, ?_⟩
  have hu : measured u = { measured d with ptpOffset := off, ptpGood := u.tm.ptpGood } := rfl
  rw [← hu, ← hv]
  repeat' split
  · rw [measured_disqualify]
  · rw [measured_qualify]
  · rfl

theorem ptpOffset_ptpMeasured (off : Int) : (ptpMeasured off d).tm.ptpOffset = off := by
  obtain ⟨n, h⟩ := ptpMeasured_measures (d := d) off
  have hfield := congrArg TimeBase.ptpOffset h
  exact hfield

theorem ptpSyncRx_ptpMeasured (off : Int) : (ptpMeasured off d).tm.ptpSyncRx = d.tm.ptpSyncRx := by
  obtain ⟨n, h⟩ := ptpMeasured_measures (d := d) off
  have hfield := congrArg TimeBase.ptpSyncRx h
  exact hfield

theorem ptpOf_setPtp_self (f : PtpPort → PtpPort) : ptpOf (setPtp p f d) p = f (ptpOf d p) := tget_tset_self _ _ _ _
theorem ptpOf_setPtp_other {q : Nat} (f : PtpPort → PtpPort) (h : q ≠ p) : ptpOf (setPtp p f d) q = ptpOf d q :=
  tget_tset_other _ _ _ h

end

/-! ### The commands -/

theorem ppsLast_of_measured {t d : Dev} (h : measured t = measured d) : t.tm.ppsLast = d.tm.ppsLast := by
  have hfield := congrArg TimeBase.ppsLast h
  exact hfield

theorem ppsGood_of_measured {t d : Dev} (h : measured t = measured d) : t.tm.ppsGood = d.tm.ppsGood := by
  have hfield := congrArg TimeBase.ppsGood h
  exact hfield

theorem ppsLast_ppsInEdge {d : Dev} (hruns : ttbRuns d = true) (hon : cfgOn d 0x6030 0 = true) :
    (ppsInEdge d).tm.ppsLast = some d.now := by
  rw [ppsInEdge_eq hruns hon, ← ppsLast_edgeSeen]
  repeat' split
  · rw [ppsLast_of_measured (measured_disqualify _)]; rfl
  · rw [ppsLast_of_measured (measured_qualify _)]; rfl
  · rw [ppsLast_of_measured (measured_qualify _)]
  · rfl

theorem mem_timers_ppsInEdge {d : Dev} (hruns : ttbRuns d = true) (hon : cfgOn d 0x6030 0 = true) :
    (Timer.ppsIn, d.now + 1100 * ms) ∈ (ppsInEdge d).timers := by
  have hrest : Only (.tm :: qualifyParts) (ppsInEdge d) (edgeSeen d) := by
    rw [ppsInEdge_eq hruns hon]
    simp
  exact (hrest.mem_timers .ppsIn rfl _).mpr mem_timers_edgeSeen

section
variable {s : State}

/-- An expiry that ends a source's qualification. -/
theorem only_disqualified {t : Timer} {f : TimeBase → TimeBase} (src : TimeSource) :
    Only (.timer t :: .odBook :: .out :: .irq :: qualifyParts) (settle (disqualify src (onTm f (expired t s.dev)))) s.dev := by
  simp [Within, Part.covers]

theorem ppsInTimeout_ends (harmed : armed .ppsIn s.dev = true) :
    Answers .ppsInTimeout s fun t => t.tm.qualPps = none ∧ t.tm.ppsGood = 0 ∧ t.tm.ppsLast = none ∧ SameSwitch t s.dev ∧
      SamePower t s.dev ∧ t.ng = s.dev.ng ∧ SameStores t s.dev := by
  refine answers_of_expiry (f := fun d => disqualify .ppsIn (onTm (fun t => { t with ppsGood := 0, ppsLast := none }) d)) rfl harmed ?_
  have hall := only_disqualified (s := s) (t := .ppsIn) (f := fun t => { t with ppsGood := 0, ppsLast := none }) .ppsIn
  refine ⟨?_, ?_, ?_, hall.sameSwitch rfl, hall.samePower rfl, hall.ng rfl, hall.sameStores rfl⟩
  · rw [settle_tm]
    exact qualSince_disqualify .ppsIn
  · rw [settle_tm]
    exact ppsGood_of_measured (measured_disqualify _)
  · rw [settle_tm]
    exact ppsLast_of_measured (measured_disqualify _)

theorem announceTimeout_ends (harmed : armed .announce s.dev = true) :
    Answers .announceReceiptTimeout s fun t => t.tm.ptpSlave = false ∧ t.tm.qualPtp = none ∧ t.tm.ptpGood = 0 ∧
      SameSwitch t s.dev ∧ SamePower t s.dev ∧ SameStores t s.dev := by
  refine answers_of_expiry (f := fun d => disqualify .ptp (onTm (fun t =>
    { t with ptpSlave := false, ptpGood := 0, ptpSyncRx := none, ptpMaster := [] }) d)) rfl harmed ?_
  have hall := only_disqualified (s := s) (t := .announce)
    (f := fun t => { t with ptpSlave := false, ptpGood := 0, ptpSyncRx := none, ptpMaster := [] }) .ptp
  have hmeasured := measured_disqualify (d := onTm (fun t =>
    { t with ptpSlave := false, ptpGood := 0, ptpSyncRx := none, ptpMaster := [] }) (expired .announce s.dev)) .ptp
  have hslave := congrArg TimeBase.ptpSlave hmeasured
  have hgood := congrArg TimeBase.ptpGood hmeasured
  refine ⟨?_, ?_, ?_, hall.sameSwitch rfl, hall.samePower rfl, hall.sameStores rfl⟩
  · rw [settle_tm]
    exact hslave
  · rw [settle_tm]
    exact qualSince_disqualify .ptp
  · rw [settle_tm]
    exact hgood

/-- An event message without a timestamp is counted and goes on as it came. -/
theorem notCaptured_passesOn {c : Instr} {p : Nat} {o : List Byte} {f : Dev → Dev} (hexec : exec c s = run f s)
    (hf : f (hush s.dev) = notCaptured p o (hush s.dev)) :
    Answers c s fun t => t.tm.tsMissed = satInc s.dev.tm.tsMissed ∧ t.tm.ptpOffset = s.dev.tm.ptpOffset ∧
      t.tm.ptpPorts = s.dev.tm.ptpPorts ∧ t.tm.source = s.dev.tm.source ∧
      (∀ q : Nat, q < 16 → q ≠ p → isTcPort s.dev p = true → isTcPort s.dev q = true → portUp s.dev q = true →
        (swPort s.dev q).fenced = false → portHeld s.dev q = false → (q ≠ 12 ∨ s.dev.aon.bankH = true) →
        Emission.frame q o ∈ t.out) ∧
      SameSwitch t s.dev ∧ SamePower t s.dev ∧ t.ng = s.dev.ng ∧ SameStores t s.dev ∧ SameAon t s.dev := by
  refine answers_of_effect hexec hf ?_
  have hcounted : Only [.free, .out] (notCaptured p o (hush s.dev))
    (onTm (fun t => { t with tsMissed := satInc t.tsMissed }) (hush s.dev)) := only_forwardEvent _ _ _
  have hall : Only [.free, .out, .tm, .odBook, .irq] (settle (notCaptured p o (hush s.dev))) s.dev := by
    rw [only_settle (by decide)]
    exact (hcounted.mono (by decide)).trans (by simp)
  have htm := hcounted.tm rfl
  refine ⟨?_, ?_, ?_, ?_, fun q hq hne htcp htcq hup hopen hheld hbank => ?_, hall.sameSwitch rfl, hall.samePower rfl, hall.ng rfl,
    hall.sameStores rfl, hall.sameAon rfl⟩
  iterate 4 (rw [settle_tm, htm]; rfl)
  rw [settle_out]
  exact mem_out_forwardEvent (d := onTm (fun t => { t with tsMissed := satInc t.tsMissed }) (hush s.dev)) hq hne htcp htcq hup hopen
    ⟨hheld, hbank⟩

end

/-! ### PTP messages -/

section
variable {s : State} {p : SPort} {o : List Byte} {err : Int} (hreach : Reaches (hush s.dev) p.val)
  (htakes : ptpTakes (hush s.dev) p.val o = true)
include hreach htakes

theorem ptpSync_measures (htype : ptpType o = 0) (hmaster : fromMaster s.dev p.val o = true) (hone : ptpTwoStep o = false) :
    Answers (.ptpSync p o true err) s fun t =>
      t.tm.ptpOffset = stampNow s.dev p.val err - ptpStamp o - correctionNs o - (ptpOf s.dev p.val).peerDelay ∧ SameSwitch t s.dev ∧
        SamePower t s.dev ∧ SameStores t s.dev ∧ t.aon = s.dev.aon := by
  have hforward := only_forwardEvent (d := hush s.dev) p.val o true
  have htm := hforward.tm rfl
  have hmaster' : fromMaster (forwardEvent p.val o true (hush s.dev)) p.val o = true := by
    simp only [fromMaster, htm, ptpPort, ptpDomainOf, hforward.cfg rfl]
    exact hmaster
  have hpeer : ptpOf (forwardEvent p.val o true (hush s.dev)) p.val = ptpOf s.dev p.val := by rw [ptpOf, htm]; rfl
  refine answers_of_effect (f := whilePort p.val (ptpSync p.val o true err)) rfl (u := ptpMeasured
    (stampNow s.dev p.val err - ptpStamp o - correctionNs o - (ptpOf s.dev p.val).peerDelay)
    (forwardEvent p.val o true (hush s.dev))) ?_ ?_
  · rw [whilePort_of_reaches hreach]
    simp only [ptpSync, htakes, htype, hmaster', hone, hpeer]
    rfl
  · have hall : Only (.odBook :: .irq :: .out :: qualifyParts) (settle (ptpMeasured
        (stampNow s.dev p.val err - ptpStamp o - correctionNs o - (ptpOf s.dev p.val).peerDelay)
        (forwardEvent p.val o true (hush s.dev)))) s.dev := by
      rw [only_settle (by decide), only_ptpMeasured _ (by decide)]
      exact (hforward.mono (by decide)).trans (by simp)
    exact ⟨by rw [settle_tm, ptpOffset_ptpMeasured], hall.sameSwitch rfl, hall.samePower rfl, hall.sameStores rfl, hall.aon rfl⟩

theorem ptpSync_twoStep (htype : ptpType o = 0) (hmaster : fromMaster s.dev p.val o = true) (htwo : ptpTwoStep o = true) :
    Answers (.ptpSync p o true err) s fun t =>
      t.tm.ptpSyncRx = some (ptpSequence o, stampNow s.dev p.val err, correctionNs o) ∧ t.tm.ptpOffset = s.dev.tm.ptpOffset ∧
        SameSwitch t s.dev ∧ SamePower t s.dev ∧ SameStores t s.dev ∧ SameAon t s.dev := by
  have hforward := only_forwardEvent (d := hush s.dev) p.val o true
  have htm := hforward.tm rfl
  have hmaster' : fromMaster (forwardEvent p.val o true (hush s.dev)) p.val o = true := by
    simp only [fromMaster, htm, ptpPort, ptpDomainOf, hforward.cfg rfl]
    exact hmaster
  refine answers_of_effect (f := whilePort p.val (ptpSync p.val o true err)) rfl (u := onTm (fun t =>
    { t with ptpSyncRx := some (ptpSequence o, stampNow s.dev p.val err, correctionNs o) })
    (forwardEvent p.val o true (hush s.dev))) ?_ ?_
  · rw [whilePort_of_reaches hreach]
    simp only [ptpSync, htakes, htype, hmaster', htwo]
    rfl
  · have hall : Only [.odBook, .irq, .out, .tm, .free] (settle (onTm (fun t =>
        { t with ptpSyncRx := some (ptpSequence o, stampNow s.dev p.val err, correctionNs o) })
        (forwardEvent p.val o true (hush s.dev)))) s.dev := by
      rw [only_settle (by decide), only_onTm _ (by decide)]
      exact (hforward.mono (by decide)).trans (by simp)
    refine ⟨by rw [settle_tm]; rfl, ?_, hall.sameSwitch rfl, hall.samePower rfl, hall.sameStores rfl, hall.sameAon rfl⟩
    rw [settle_tm, onTm_tm, htm]
    rfl

/-- A port of TC_PORTS answers a request with its turnaround time. -/
theorem pdelayReq_oneStep (htype : ptpType o = 2) (htc : isTcPort s.dev p.val = true) (hmode : cfg s.dev 0x6020 3 ≠ 1) :
    Answers (.pdelayReq p o true err) s fun t =>
      (∃ turn : Nat, t.out = [.frame p.val (ptpFrame s.dev p.val pdelayDa 3 0 (ptpCorrection o + turn * 65536)
        (ptpSequence o) (stampOctets 0 ++ ptpSender o))]) ∧ t.tm = s.dev.tm ∧ SameSwitch t s.dev ∧ SamePower t s.dev := by
  have htc' : isTcPort (hush s.dev) p.val = true := htc
  have hmode' : ¬ cfg (drawFree (hush s.dev)).2 0x6020 3 = 1 := hmode
  refine answers_of_effect (f := whilePort p.val (pdelayReq p.val o true err)) rfl rfl ?_
  rw [whilePort_of_reaches hreach]
  simp only [pdelayReq, htakes, htype, htc', hmode', Bool.not_true, bne_self_eq_false, Bool.or_self, Bool.false_eq_true, if_false]
  rw [emit_frame (d := (drawFree (hush s.dev)).2) hreach]
  refine ⟨⟨_, by rw [settle_out]; rfl⟩, by rw [settle_tm]; rfl, ?_, ?_⟩
  · exact ⟨by rw [settle_fab]; rfl, by rw [settle_st]; rfl, by rw [settle_rt]; rfl, by rw [settle_cls]; rfl⟩
  · exact ⟨by rw [settle_cables]; rfl, by rw [settle_slots]; rfl, by rw [settle_shep]; rfl⟩

@[inherit_doc pdelayReq_oneStep]
theorem pdelayReq_twoStep (htype : ptpType o = 2) (htc : isTcPort s.dev p.val = true) (hmode : cfg s.dev 0x6020 3 = 1) :
    Answers (.pdelayReq p o true err) s fun t =>
      (∃ turn : Nat, t.out = [.frame p.val (ptpFrame s.dev p.val pdelayDa 3 0x0200 0 (ptpSequence o)
          (stampOctets (stampNow s.dev p.val err).toNat ++ ptpSender o)),
        .frame p.val (ptpFrame s.dev p.val pdelayDa 0xA 0 (ptpCorrection o) (ptpSequence o)
          (stampOctets ((stampNow s.dev p.val err).toNat + turn) ++ ptpSender o))]) ∧
      t.tm = s.dev.tm ∧ SameSwitch t s.dev ∧ SamePower t s.dev := by
  have htc' : isTcPort (hush s.dev) p.val = true := htc
  have hmode' : cfg (drawFree (hush s.dev)).2 0x6020 3 = 1 := hmode
  refine answers_of_effect (f := whilePort p.val (pdelayReq p.val o true err)) rfl rfl ?_
  rw [whilePort_of_reaches hreach]
  simp only [pdelayReq, htakes, htype, htc', hmode', Bool.not_true, bne_self_eq_false, Bool.or_self, Bool.false_eq_true, if_false,
    if_true]
  have hfirst (x : List Byte) : Reaches (emit (.frame p.val x) (drawFree (hush s.dev)).2) p.val := by
    rw [emit_frame (d := (drawFree (hush s.dev)).2) hreach]
    exact hreach
  rw [emit_frame (hfirst _), emit_frame (d := (drawFree (hush s.dev)).2) hreach]
  refine ⟨⟨_, by rw [settle_out]; rfl⟩, by rw [settle_tm]; rfl, ?_, ?_⟩
  · exact ⟨by rw [settle_fab]; rfl, by rw [settle_st]; rfl, by rw [settle_rt]; rfl, by rw [settle_cls]; rfl⟩
  · exact ⟨by rw [settle_cables]; rfl, by rw [settle_slots]; rfl, by rw [settle_shep]; rfl⟩

omit hreach htakes in
/-- What a measured peer delay is, and what stands. -/
theorem setPeerDelay_sets {c : Instr} {f : Dev → Dev} {n : Nat} {round inPeer : Int} (hexec : exec c s = run f s)
    (hf : f (hush s.dev) = setPeerDelay n round inPeer (hush s.dev)) :
    Answers c s fun t => (ptpOf t n).peerDelay = ((round - inPeer) / 2).toNat ∧ (ptpOf t n).reqTx = none ∧
      (ptpOf t n).respRx = none ∧ (∀ q : Nat, q ≠ n → ptpOf t q = ptpOf s.dev q) ∧ SameSwitch t s.dev ∧ SamePower t s.dev ∧
      SameAon t s.dev := by
  refine answers_of_effect hexec hf ?_
  have hall : Only [.odBook, .irq, .out, .tm] (settle (setPeerDelay n round inPeer (hush s.dev))) s.dev := by simp [setPeerDelay]
  have hptp (q : Nat) : ptpOf (settle (setPeerDelay n round inPeer (hush s.dev))) q = ptpOf (setPeerDelay n round inPeer (hush s.dev)) q := by
    rw [ptpOf, settle_tm]; rfl
  have hself := (hptp n).trans (ptpOf_setPtp_self _)
  refine ⟨by rw [hself], by rw [hself], by rw [hself], fun q hq => ?_, hall.sameSwitch rfl, hall.samePower rfl, hall.sameAon rfl⟩
  rw [hptp q, setPeerDelay, ptpOf_setPtp_other _ hq]
  rfl

theorem pdelayResp_measures {t1 : Nat} (htype : ptpType o = 3) (hseq : ptpSequence o = (ptpOf s.dev p.val).reqSeq)
    (hreq : (ptpOf s.dev p.val).reqTx = some t1) (hone : ptpTwoStep o = false) :
    Answers (.pdelayResp p o ⟨true, err⟩) s fun t =>
      (ptpOf t p.val).peerDelay = ((stampNow s.dev p.val err - t1 - correctionNs o) / 2).toNat ∧ (ptpOf t p.val).reqTx = none ∧
        (∀ q : Nat, q ≠ p.val → ptpOf t q = ptpOf s.dev q) ∧ SameSwitch t s.dev ∧ SamePower t s.dev ∧ SameAon t s.dev := by
  have hseq' : ptpSequence o = (ptpOf (hush s.dev) p.val).reqSeq := hseq
  have hreq' : (ptpOf (hush s.dev) p.val).reqTx = some t1 := hreq
  refine answers_of_answers (setPeerDelay_sets (n := p.val) (f := whilePort p.val (pdelayResp p.val o true err)) rfl
    (round := stampNow s.dev p.val err - t1) (inPeer := correctionNs o) ?_) fun t ht => ?_
  · rw [whilePort_of_reaches hreach]
    simp only [pdelayResp, htakes, htype, ← hseq', hreq', hone]
    simp
    rfl
  · obtain ⟨hdelay, htx, -, hothers, hswitch, hpower, haon⟩ := ht
    exact ⟨hdelay, htx, hothers, hswitch, hpower, haon⟩

theorem followUp_delays {t1 : Nat} {t4 t2 : Int} (htype : ptpType o = 0xA) (hseq : ptpSequence o = (ptpOf s.dev p.val).reqSeq)
    (hreq : (ptpOf s.dev p.val).reqTx = some t1) (hresp : (ptpOf s.dev p.val).respRx = some (t4, t2)) :
    Answers (.ptpFollowUp p o) s fun t =>
      (ptpOf t p.val).peerDelay = ((t4 - t1 - (ptpStamp o + correctionNs o - t2)) / 2).toNat ∧
        (ptpOf t p.val).respRx = none ∧ (∀ q : Nat, q ≠ p.val → ptpOf t q = ptpOf s.dev q) ∧ SameSwitch t s.dev ∧
        SamePower t s.dev ∧ SameAon t s.dev := by
  have hseq' : ptpSequence o = (ptpOf (hush s.dev) p.val).reqSeq := hseq
  have hreq' : (ptpOf (hush s.dev) p.val).reqTx = some t1 := hreq
  have hresp' : (ptpOf (hush s.dev) p.val).respRx = some (t4, t2) := hresp
  refine answers_of_answers (setPeerDelay_sets (n := p.val) (f := whilePort p.val (ptpFollowUp p.val o)) rfl
    (round := t4 - t1) (inPeer := ptpStamp o + correctionNs o - t2) ?_) fun t ht => ?_
  · rw [whilePort_of_reaches hreach]
    simp only [ptpFollowUp, htakes, htype, ← hseq', hreq', hresp']
    simp
  · obtain ⟨hdelay, -, hrx, hothers, hswitch, hpower, haon⟩ := ht
    exact ⟨hdelay, hrx, hothers, hswitch, hpower, haon⟩

theorem followUp_measures {rx corr : Int} (htype : ptpType o = 8) (hmaster : fromMaster s.dev p.val o = true)
    (hsync : s.dev.tm.ptpSyncRx = some (ptpSequence o, rx, corr)) :
    Answers (.ptpFollowUp p o) s fun t => t.tm.ptpSyncRx = none ∧
      t.tm.ptpOffset = rx - ptpStamp o - correctionNs o - corr - (ptpOf s.dev p.val).peerDelay ∧
      SameSwitch t s.dev ∧ SamePower t s.dev ∧ SameStores t s.dev ∧ t.aon = s.dev.aon := by
  have hmaster' : fromMaster (hush s.dev) p.val o = true := hmaster
  have hsync' : (hush s.dev).tm.ptpSyncRx = some (ptpSequence o, rx, corr) := hsync
  refine answers_of_effect (f := whilePort p.val (ptpFollowUp p.val o)) rfl (u := ptpMeasured
    (rx - ptpStamp o - correctionNs o - corr - (ptpOf s.dev p.val).peerDelay)
    (onTm (fun t => { t with ptpSyncRx := none }) (hush s.dev))) ?_ ?_
  · rw [whilePort_of_reaches hreach]
    simp only [ptpFollowUp, htakes, htype, hmaster', hsync']
    simp
    rfl
  · have hall : Only (.odBook :: .irq :: .out :: qualifyParts) (settle (ptpMeasured
        (rx - ptpStamp o - correctionNs o - corr - (ptpOf s.dev p.val).peerDelay)
        (onTm (fun t => { t with ptpSyncRx := none }) (hush s.dev)))) s.dev := by simp
    refine ⟨?_, by rw [settle_tm, ptpOffset_ptpMeasured], hall.sameSwitch rfl, hall.samePower rfl, hall.sameStores rfl, hall.aon rfl⟩
    rw [settle_tm, ptpSyncRx_ptpMeasured]
    rfl

/-- The first master is followed. -/
theorem announce_slaves (hp : p.val = ptpPort s.dev) (htype : ptpType o = 0xB) (hdomain : ptpDomain o = ptpDomainOf s.dev)
    (hbest : cfg s.dev 0x6020 2 = 0) (hslave : s.dev.tm.ptpSlave = false) :
    Answers (.ptpAnnounce p o) s fun t => t.tm.ptpSlave = true ∧ t.tm.ptpMaster = announceKey o ∧
      runsFor .announce (3 * sec) t ∧ SameSwitch t s.dev ∧ SamePower t s.dev ∧ SameStores t s.dev ∧ SameAon t s.dev := by
  have hp' : p.val = ptpPort (hush s.dev) := hp
  have hdomain' : ptpDomain o = ptpDomainOf (hush s.dev) := hdomain
  have hbest' : cfg (hush s.dev) 0x6020 2 = 0 := hbest
  have hslave' : (hush s.dev).tm.ptpSlave = false := hslave
  refine answers_of_effect (f := whilePort p.val (ptpAnnounce p.val o)) rfl (u := arm .announce (3 * sec) (onTm (fun t =>
    { t with ptpSlave := true, ptpMaster := announceKey o, ptpGood := 0, ptpSyncRx := none }) (hush s.dev))) ?_ ?_
  · rw [whilePort_of_reaches hreach, ptpAnnounce, if_neg (by rw [htakes, ← hp', ← hdomain', htype]; simp)]
    simp only [hbest', hslave']
    simp
  · generalize hu : onTm _ (hush s.dev) = u
    have hall : Only [.odBook, .irq, .out, .tm, .timer .announce] (settle (arm .announce (3 * sec) u)) s.dev := by subst hu; simp
    refine ⟨?_, ?_, by simp, hall.sameSwitch rfl, hall.samePower rfl, hall.sameStores rfl, hall.sameAon rfl⟩
    iterate 2 (rw [settle_tm, ← hu]; rfl)

end

section
variable {s : State}

theorem pdelayReqInterval_sends {p : SPort} (hreach : Reaches s.dev p.val) (harmed : armed (.pdelay p.val) s.dev = true)
    (hacts : ptpActs s.dev p.val = true) (hport : isTcPort s.dev p.val = true ∨ p.val = ptpPort s.dev) :
    Answers (.pdelayReqInterval p) s fun t => (ptpOf t p.val).reqSeq = ((ptpOf s.dev p.val).reqSeq + 1) % 65536 ∧
      (ptpOf t p.val).reqTx.isSome = true ∧
      t.out = [.frame p.val (ptpFrame s.dev p.val pdelayDa 2 0 0 (((ptpOf s.dev p.val).reqSeq + 1) % 65536)
        (stampOctets 0 ++ List.replicate 10 0))] ∧
      runsFor (.pdelay p.val) sec t ∧ SameSwitch t s.dev ∧ SamePower t s.dev := by
  refine answers_of_expiry rfl harmed ?_
  obtain ⟨tb, htm⟩ := expired_tm (.pdelay p.val) s.dev
  have hptp : ptpOf (expired (.pdelay p.val) s.dev) p.val = ptpOf s.dev p.val := by rw [ptpOf, htm]; rfl
  have hacts' : ptpActs (expired (.pdelay p.val) s.dev) p.val = true := hacts
  have hport' : (isTcPort (expired (.pdelay p.val) s.dev) p.val || p.val == ptpPort (expired (.pdelay p.val) s.dev)) = true := by
    rcases hport with h | h
    · rw [show isTcPort (expired (.pdelay p.val) s.dev) p.val = true from h, Bool.true_or]
    · rw [show ptpPort (expired (.pdelay p.val) s.dev) = p.val from h.symm, beq_self_eq_true, Bool.or_true]
  rw [if_neg (by simp [hacts', hport'])]
  extract_lets seq u
  have hseq : seq = ((ptpOf s.dev p.val).reqSeq + 1) % 65536 := congrArg (fun x : PtpPort => (x.reqSeq + 1) % 65536) hptp
  have hself : ptpOf u p.val = { ptpOf (expired (.pdelay p.val) s.dev) p.val with
      reqSeq := seq, reqTx := some (taiNs (expired (.pdelay p.val) s.dev)), respRx := none } := ptpOf_setPtp_self _
  have hreach' : Reaches u p.val := hreach
  rw [emit_frame hreach']
  have hall : Only [.odBook, .irq, .out, .tm, .now, .timer (.pdelay p.val)] (settle (arm (.pdelay p.val) sec { u with out :=
      u.out ++ [.frame p.val (ptpFrame u p.val pdelayDa 2 0 0 seq (stampOctets 0 ++ List.replicate 10 0))] })) s.dev := by
    rw [only_settle (by simp), only_arm _ _ (by simp), only_out _ (by simp)]
    simp [u]
  refine ⟨?_, ?_, ?_, by simp, hall.sameSwitch rfl, hall.samePower rfl⟩
  · rw [ptpOf, settle_tm, ← hseq]
    show (ptpOf u p.val).reqSeq = seq
    rw [hself]
  · rw [ptpOf, settle_tm]
    show (ptpOf u p.val).reqTx.isSome = true
    rw [hself]
    rfl
  · rw [settle_out, ← hseq]
    rfl

theorem ptpMasterInterval_sends (harmed : armed .ptpMaster s.dev = true) (hacts : ptpActs s.dev (ptpPort s.dev) = true)
    (hreach : Reaches s.dev (ptpPort s.dev)) (hmode : cfg s.dev 0x6020 2 ≠ 0) (hslave : s.dev.tm.ptpSlave = false) :
    Answers .ptpMasterInterval s fun t => t.tm.ptpSeq = (s.dev.tm.ptpSeq + 1) % 65536 ∧
      t.out = [.frame (ptpPort s.dev) (ptpFrame s.dev (ptpPort s.dev) ptpDa 0xB 0 0 s.dev.tm.ptpSeq
          (stampOctets 0 ++ beBytes 3 0 ++ (ownKey s.dev).take 16 ++ [0x20] ++ profileTlv s.dev)),
        .frame (ptpPort s.dev) (ptpFrame s.dev (ptpPort s.dev) ptpDa 0 0 0 s.dev.tm.ptpSeq (stampOctets (taiNs t)))] ∧
      runsFor .ptpMaster sec t ∧ SameSwitch t s.dev ∧ SamePower t s.dev := by
  refine answers_of_expiry rfl harmed ?_
  have hon : ptpOn s.dev = true := by
    simp only [ptpActs, Bool.and_eq_true] at hacts
    obtain ⟨⟨⟨⟨-, hon⟩, -⟩, -⟩, -⟩ := hacts
    exact hon
  have hport : ptpPort (expired .ptpMaster s.dev) = ptpPort s.dev := rfl
  rw [if_neg (by rw [show ptpOn (expired .ptpMaster s.dev) = true from hon]; decide)]
  extract_lets u p seq announce sync
  have hacts' : ptpActs u p = true := hacts
  have hmode' : ¬ cfg u 0x6020 2 = 0 := hmode
  obtain ⟨tb, htm⟩ := expired_tm .ptpMaster s.dev
  have htm' : u.tm = { s.dev.tm with tb := tb } := htm
  have hslave' : u.tm.ptpSlave = false := by rw [htm']; exact hslave
  have hseq : seq = s.dev.tm.ptpSeq := by simp only [seq, htm']
  have hown : ownKey u = ownKey s.dev := by simp only [ownKey, htm']
  have htlv : profileTlv u = profileTlv s.dev := by simp only [profileTlv, htm']; rfl
  rw [if_neg (by simp [hacts', hmode', hslave'])]
  have hfirst : Reaches (onTm (fun t => { t with ptpSeq := (seq + 1) % 65536 }) u) p := hreach
  rw [emit_frame hfirst]
  rw [emit_frame (d := { onTm (fun t => { t with ptpSeq := (seq + 1) % 65536 }) u with
    out := (onTm (fun t => { t with ptpSeq := (seq + 1) % 65536 }) u).out ++ [.frame p announce] }) (show Reaches _ p from hreach)]
  generalize hw : ({ onTm (fun t => { t with ptpSeq := (seq + 1) % 65536 }) u with
    out := ((onTm (fun t => { t with ptpSeq := (seq + 1) % 65536 }) u).out ++ [.frame p announce]) ++ [.frame p sync] } : Dev) = w
  have hall : Only [.odBook, .irq, .out, .tm, .now, .timer .ptpMaster] (settle w) s.dev := by
    subst hw
    rw [only_settle (by simp), only_out _ (by simp)]
    simp [u]
  have hruns : runsFor .ptpMaster sec u := by simp [u]
  refine ⟨by rw [settle_tm, ← hw, ← hseq]; rfl, ?_, ?_, hall.sameSwitch rfl, hall.samePower rfl⟩
  · rw [settle_out, taiNs, settle_tm, ← hw, ← hseq, ← hown, ← htlv]
    rfl
  · rw [runsFor_settle, ← hw]
    exact hruns

end

/-- Settles O48. -/
theorem timeSources : Obligations.TimeSources := by
  unfold Obligations.TimeSources
  refine ⟨fun s hruns hon => ?_, fun s l hruns hon hlast hgood htwo hset hsource hpps hptp hng hprio => ?_, fun s hoff => ?_,
    fun s harmed => ppsInTimeout_ends harmed, fun s p o err hheld hbank htakes => ?_, fun s p o hheld hbank htakes => ?_,
    fun s harmed => announceTimeout_ends harmed, fun s p hheld hbank harmed hacts hport => ?_,
    fun s harmed hacts hheld hbank hmode hslave => ?_, fun s c x hsource hfind => ?_, fun s harmed hlocking => ?_⟩
  · refine answers_of_effect (f := ppsInEdge) rfl rfl ?_
    have hall : Only (.timer .ppsIn :: .odBook :: .irq :: .out :: qualifyParts) (settle (ppsInEdge (hush s.dev))) s.dev := by
      rw [only_settle (by decide)]
      exact (only_ppsInEdge.mono (by decide)).trans (by simp)
    refine ⟨?_, ?_, hall.sameSwitch rfl, hall.samePower rfl, hall.ng rfl, hall.sameStores rfl, hall.aon rfl⟩
    · rw [settle_tm]
      exact ppsLast_ppsInEdge (d := hush s.dev) hruns hon
    · rw [settle_timers]
      exact mem_timers_ppsInEdge (d := hush s.dev) hruns hon
  · refine answers_of_effect (f := ppsInEdge) rfl rfl ?_
    obtain ⟨hsel, hstate, hever, hqual⟩ := ppsInEdge_of_third (d := hush s.dev) hruns hon hlast hgood htwo hset hsource
      (fun y => by
        cases y
        · exact hptp
        · exact hpps
        · exact hng) hprio
    rw [settle_tm]
    exact ⟨hsel, hstate, hqual, hever⟩
  · refine answers_became (f := ppsInEdge) rfl ?_
    exact if_pos (by rw [show cfgOn (hush s.dev) 0x6030 0 = false from hoff]; simp)
  · have hreach : Reaches (hush s.dev) p.val := ⟨hheld, hbank⟩
    have htakes' : ptpTakes (hush s.dev) p.val o = true := htakes
    refine ⟨fun htype => ⟨?_, fun hmaster hone => ?_, fun hmaster htwo => ?_⟩, fun htype => ⟨?_, fun htc hmode => ?_, fun htc hmode => ?_⟩,
      fun htype => ⟨?_, fun t1 hseq hreq hone => ?_⟩⟩
    · refine notCaptured_passesOn (f := whilePort p.val (ptpSync p.val o false err)) rfl ?_
      rw [whilePort_of_reaches hreach]
      simp [ptpSync, htakes', htype]
    · exact ptpSync_measures hreach htakes' htype hmaster hone
    · exact ptpSync_twoStep hreach htakes' htype hmaster htwo
    · refine notCaptured_passesOn (f := whilePort p.val (pdelayReq p.val o false err)) rfl ?_
      rw [whilePort_of_reaches hreach]
      simp [pdelayReq, htakes', htype]
    · exact pdelayReq_oneStep hreach htakes' htype htc hmode
    · exact pdelayReq_twoStep hreach htakes' htype htc hmode
    · refine notCaptured_passesOn (f := whilePort p.val (pdelayResp p.val o false err)) rfl ?_
      rw [whilePort_of_reaches hreach]
      simp [pdelayResp, htakes', htype]
    · exact pdelayResp_measures hreach htakes' htype hseq hreq hone
  · have hreach : Reaches (hush s.dev) p.val := ⟨hheld, hbank⟩
    have htakes' : ptpTakes (hush s.dev) p.val o = true := htakes
    refine ⟨fun rx corr htype hmaster hsync => ?_, fun t1 t4 t2 htype hseq hreq hresp => ?_, fun hp htype hdomain hbest hslave => ?_⟩
    · exact followUp_measures hreach htakes' htype hmaster hsync
    · exact followUp_delays hreach htakes' htype hseq hreq hresp
    · exact announce_slaves hreach htakes' hp htype hdomain hbest hslave
  · exact pdelayReqInterval_sends ⟨hheld, hbank⟩ harmed hacts hport
  · exact ptpMasterInterval_sends harmed hacts ⟨hheld, hbank⟩ hmode hslave
  · refine answers_of_effect (f := holdoffExpiry) rfl (u := selectSource x (hush s.dev)) ?_ ?_
    · have hfind' : ((priorities (hush s.dev)).filter fun y => decide (rankOf (hush s.dev) y < rankOf (hush s.dev) c)).find?
          (fun y => heldOff (hush s.dev) y) = some x := hfind
      simp only [holdoffExpiry, show (hush s.dev).tm.source = some c from hsource, hfind']
    · have hall : Only (.odBook :: .irq :: .out :: sourceParts) (settle (selectSource x (hush s.dev))) s.dev := by simp
      obtain ⟨hsel, hstate, -⟩ := selectSource_selects (d := hush s.dev) x
      exact ⟨by rw [settle_tm, hsel], by rw [settle_tm, hstate], hall.sameSwitch rfl, hall.samePower rfl, hall.ng rfl, hall.sameStores rfl⟩
  · refine answers_of_expiry (f := fun d =>
      if d.tm.state = .locking then onTm (fun t => { t with state := .locked, slewing := false }) d else d) rfl harmed ?_
    obtain ⟨tb, htm⟩ := expired_tm .lockWait s.dev
    have hlocking' : (expired .lockWait s.dev).tm.state = .locking := by rw [htm]; exact hlocking
    rw [if_pos hlocking']
    have hall : Only [.now, .tm, .timer .lockWait, .odBook, .out, .irq]
        (settle (onTm (fun t => { t with state := .locked, slewing := false }) (expired .lockWait s.dev))) s.dev := by simp
    refine ⟨?_, ?_, ?_, hall.sameSwitch rfl, hall.samePower rfl, hall.ng rfl, hall.sameStores rfl⟩
    iterate 3 (rw [settle_tm, onTm_tm, htm])

end Sys2Proof.Proofs.TimeSources


/-! Pins, epochs and egress windows (chapter 10). -/

namespace Sys2Proof.Proofs.PinsAndEpochs

open Sys2Proof Sys2Proof.Machine Sys2Proof.Safety
open Sys2Proof.Proofs.ShapersAndTally
open Sys2Proof.Proofs.Frames
open Sys2Proof.Proofs.Running
open Sys2Proof.Proofs.HostWindow (length_leBytes)
open Sys2Proof.Proofs.TimeSources (Reaches emit_frame mem_out_emit expired_tm)

/-! ### Pins -/

/-- HIRQ_N is low exactly while its bank is in range and an enabled bit is set. -/
theorem hirqPin_low_iff (d : Dev) : hirqPin d = .low ↔
    d.aon.bankH = true ∧ ∃ i : Nat, d.hw.irqStatus.getLsbD i = true ∧ d.hw.irqEnable.getLsbD i = true := by
  have hbit : d.hw.irqStatus &&& d.hw.irqEnable ≠ 0 ↔ ∃ i : Nat, d.hw.irqStatus.getLsbD i = true ∧ d.hw.irqEnable.getLsbD i = true := by
    constructor
    · intro hne
      by_contra hnone
      refine hne (BitVec.eq_of_getLsbD_eq fun i _ => ?_)
      refine (BitVec.getLsbD_and).trans ((Bool.and_eq_false_iff.mpr ?_).trans BitVec.getLsbD_zero.symm)
      by_cases hi : d.hw.irqStatus.getLsbD i = true
      · exact .inr (Bool.eq_false_iff.mpr fun he => hnone ⟨i, hi, he⟩)
      · exact .inl (Bool.eq_false_iff.mpr hi)
    · rintro ⟨i, hs, he⟩ hzero
      have hand := congrArg (BitVec.getLsbD · i) hzero
      simp [hs, he] at hand
  rw [← hbit, hirqPin]
  cases d.aon.bankH <;> simp

theorem hirqPin_of_not_low (d : Dev) (h : hirqPin d ≠ .low) : hirqPin d = .highZ := by
  unfold hirqPin at h ⊢
  split at h
  · exact absurd rfl h
  next hoff => rw [if_neg hoff]

/-! ### Time that passes -/

section
variable {d e : Dev} {S : List Part}

@[simp] theorem only_passTai (ns : Nat) (hS : Within [.now, .tm] S = true) : Only S (passTai ns d) e ↔ Only S d e := only_elapse _ hS

@[simp] theorem only_passSched (s : Int) (hS : Within [.now, .tm] S = true) : Only S (passSched s d) e ↔ Only S d e :=
  Only.iff (T := [.now, .tm]) (by simp [passSched]) hS

@[simp] theorem only_passCycle (o : Nat) (hS : Within [.now, .tm] S = true) : Only S (passCycle o d) e ↔ Only S d e := only_passTai _ hS

theorem passTai_tm (ns : Nat) (d : Dev) : ∃ tb, (passTai ns d).tm = { d.tm with tb := tb } := elapse_tm _ d

theorem passSched_tm (s : Int) (d : Dev) : ∃ tb, (passSched s d).tm = { d.tm with tb := tb } := by
  unfold passSched
  split
  · exact passTai_tm _ d
  · exact ⟨d.tm.tb, rfl⟩

end

/-! ### The whole second -/

/-- PPS_OUT rises for its width when its mode lets it. -/
theorem ppsOutSecond_rises {s : State} (hruns : ttbRuns s.dev = true) :
    Answers .ppsOutSecond s fun t =>
      ((cfg s.dev 0x6030 2 = 1 ∨ cfg s.dev 0x6030 2 = 2 ∧ (s.dev.tm.state = .locked ∨ s.dev.tm.state = .holdover)) →
        t.tm.ppsOut = true ∧ runsFor .ppsPulse (cfg s.dev 0x6030 3 * ms) t) ∧
      ((cfg s.dev 0x6030 2 = 0 ∨ cfg s.dev 0x6030 2 = 2 ∧ s.dev.tm.state ≠ .locked ∧ s.dev.tm.state ≠ .holdover) →
        t.tm.ppsOut = s.dev.tm.ppsOut) ∧ t.tm.ppsSecond = taiNs t / sec ∧
      t.tm.source = s.dev.tm.source ∧ SameSwitch t s.dev ∧ SamePower t s.dev ∧ t.ng = s.dev.ng ∧ SameStores t s.dev := by
  refine answers_of_effect (f := ppsOutSecond) rfl rfl ?_
  unfold ppsOutSecond
  rw [if_neg (by rw [show ttbRuns (hush s.dev) = true from hruns]; decide)]
  extract_lets w second locked u mode
  have hw : Only [.now, .tm, .odBook, .out] w s.dev := by
    simp only [w]
    split <;> simp
  obtain ⟨tb, htm⟩ : ∃ tb, w.tm = { s.dev.tm with tb := tb } := by
    simp only [w]
    split
    · exact passTai_tm _ (hush s.dev)
    · exact ⟨s.dev.tm.tb, rfl⟩
  have hmode : mode = cfg s.dev 0x6030 2 := hw.cfg rfl _ _
  have hwidth : cfg u 0x6030 3 = cfg s.dev 0x6030 3 := hw.cfg rfl _ _
  have hlocked : locked = true ↔ s.dev.tm.state = .locked ∨ s.dev.tm.state = .holdover := by simp [locked, htm]
  have hu : Only [.now, .tm, .odBook, .out] u s.dev := by
    simp only [u, only_onTm _ (show Within [.tm] [.now, .tm, .odBook, .out] = true from rfl)]
    exact hw
  have hutm : u.tm.ppsOut = s.dev.tm.ppsOut ∧ u.tm.source = s.dev.tm.source ∧ u.tm.ppsSecond = taiNs u / sec :=
    ⟨by simp [u, htm], by simp [u, htm], rfl⟩
  obtain ⟨hout, hsource, hsecond⟩ := hutm
  split
  next hhigh =>
    set v := arm .ppsPulse (cfg u 0x6030 3 * ms) (onTm (fun t => { t with ppsOut := true }) u) with hv
    have hall : Only [.now, .tm, .timer .ppsPulse, .odBook, .out, .irq] (settle v) s.dev := by
      rw [only_settle (by decide), hv, only_arm _ _ (by decide), only_onTm _ (by decide)]
      exact hu.mono (by decide)
    refine ⟨fun _ => ⟨by rw [settle_tm]; rfl, ?_⟩, fun hlow => ?_, by rw [taiNs, settle_tm]; exact hsecond, ?_, hall.sameSwitch rfl,
      hall.samePower rfl, hall.ng rfl, hall.sameStores rfl⟩
    · rw [runsFor_settle, ← hwidth]
      exact runsFor_arm_self
    · rw [hmode, hlocked] at hhigh
      rcases hlow with h0 | ⟨h2, hl, hh⟩
      · simp [h0] at hhigh
      · simp [h2, hl, hh] at hhigh
    · rw [settle_tm]; exact hsource
  next hlow =>
    have hall : Only [.now, .tm, .odBook, .out, .irq] (settle u) s.dev := by
      rw [only_settle (by decide)]
      exact hu.mono (by decide)
    rw [hmode, hlocked] at hlow
    refine ⟨fun hhigh => absurd hhigh hlow, fun _ => by rw [settle_tm]; exact hout, by rw [taiNs, settle_tm]; exact hsecond,
      by rw [settle_tm]; exact hsource, hall.sameSwitch rfl, hall.samePower rfl, hall.ng rfl, hall.sameStores rfl⟩

/-! ### Pulses -/

/-- A pulse's end lowers its pin and changes nothing else of the timebase. -/
theorem pulse_ends {s : State} {c : Instr} {t : Timer} {f : TimeBase → TimeBase} (hexec : exec c s = run (onExpiry t (onTm f)) s)
    (harmed : armed t s.dev = true) :
    Answers c s fun u => (∃ tb, u.tm = f { s.dev.tm with tb := tb }) ∧ armed t u = false ∧ SameSwitch u s.dev ∧ SamePower u s.dev := by
  refine answers_of_expiry hexec harmed ?_
  obtain ⟨tb, htm⟩ := expired_tm t s.dev
  have hall : Only [.now, .tm, .timer t, .odBook, .out, .irq] (settle (onTm f (expired t s.dev))) s.dev := by
    simp [Within, Part.covers]
  refine ⟨⟨tb, by rw [settle_tm, onTm_tm, htm]⟩, ?_, hall.sameSwitch (by simp [Part.seenIn]), hall.samePower (by simp [Part.seenIn])⟩
  rw [armed_settle]
  exact armed_expired_self

/-! ### Pods that are told of a new PERIOD -/

/-- The timebase's record but for its streams. -/
def pins (d : Dev) : TimeBase := { d.tm with epochs := [] }

section
variable {d e : Dev} {S : List Part} {n : Nat}

@[simp] theorem only_vdmAgain (hS : Within (sendParts n) S = true) : Only S (vdmAgain n d) e ↔ Only S d e :=
  Only.iff (T := sendParts n) (Only.foldl _ (fun u m _ => by simp) d) hS

@[simp] theorem only_vdmSend (v : VdmStep) (hS : Within (sendParts n) S = true) : Only S (vdmSend n v d) e ↔ Only S d e :=
  Only.iff (T := sendParts n) (by simp [vdmSend]) hS

@[simp] theorem only_podIdle (hS : Within (.tm :: sendParts n) S = true) : Only S (podIdle n d) e ↔ Only S d e := by
  refine Only.iff (T := .tm :: sendParts n) ?_ hS
  unfold podIdle
  dsimp only
  split
  · simp
  · split <;> simp

theorem vdmSend_tm (v : VdmStep) : (vdmSend n v d).tm = d.tm :=
  (show Only (sendParts n) (vdmSend n v d) d by simp).tm (by simp [Part.seenIn])

theorem pins_podIdle : pins (podIdle n d) = pins d := by
  unfold podIdle
  dsimp only
  split
  · rfl
  · split
    · rw [pins, vdmSend_tm]; rfl
    · rfl

theorem epochOf_podIdle (k : Nat) : ∃ r, epochOf (podIdle n d) k = { epochOf d k with resub := r } := by
  unfold podIdle
  dsimp only
  split
  · exact ⟨_, rfl⟩
  · split
    next j _ =>
      rw [epochOf, vdmSend_tm]
      by_cases hj : k = j
      · subst hj
        exact ⟨_, tget_tset_self _ _ _ _⟩
      · exact ⟨(epochOf d k).resub, tget_tset_other _ _ _ hj⟩
    next => exact ⟨_, rfl⟩

theorem mem_out_present {x : Emission} (code : Nat) (h : x ∈ d.out) : x ∈ (present_ n code d).out := by
  unfold present_
  split
  · exact h
  · exact mem_out_emit (d := setCable n _ d) h

theorem mem_out_collision {x : Emission} (busy : Bool) (h : x ∈ d.out) : x ∈ (collision n busy d).out := by
  unfold collision
  dsimp only
  split
  · exact mem_out_present _ h
  · exact h

theorem mem_out_pdSend {x : Emission} (m : PdMsg) (h : x ∈ d.out) : x ∈ (pdSend n m d).out := by
  unfold pdSend
  split
  · exact mem_out_emit (d := setCable n _ (collision n true d)) (mem_out_collision true h)
  · exact h

theorem mem_out_vdmSend {x : Emission} (v : VdmStep) (h : x ∈ d.out) : x ∈ (vdmSend n v d).out := by
  unfold vdmSend vdmAgain
  exact List.foldlRecOn (motive := fun u : Dev => x ∈ u.out) _ _ h fun u hu m _ => mem_out_pdSend m hu

theorem mem_out_podIdle {x : Emission} (h : x ∈ d.out) : x ∈ (podIdle n d).out := by
  unfold podIdle
  dsimp only
  split
  · exact h
  · split
    · exact mem_out_vdmSend (d := setEpoch _ _ d) _ h
    · exact h

end

/-! ### Epoch marks -/

/-- The COUNT and the stream in an epoch mark. -/
theorem markOctets_fields {d : Dev} (k count : Nat) (at_ : Int) (period : Nat) (hmac : (baseMac d).length = 6) :
    ((markOctets d k count at_ period).drop 14).take 4 = leBytes 4 count ∧
      ((markOctets d k count at_ period).drop 18).take 1 = leBytes 1 k := by
  have hhead (rest : List Byte) : ([0x03, 0x5A, 0x4F, 0x45, 0x00, BitVec.ofNat 8 k] ++ (baseMac d ++ (beBytes 2 (cfg d 0x6030 8) ++ rest))).drop 14 =
      rest := by
    rw [← List.append_assoc, ← List.append_assoc]
    exact List.drop_left' (by simp [hmac, beBytes, length_leBytes])
  unfold markOctets
  simp only [List.append_assoc]
  constructor
  · rw [hhead]
    exact List.take_left' (length_leBytes 4 count)
  · rw [show 18 = 14 + 4 from rfl, ← List.drop_drop, hhead, List.drop_left' (length_leBytes 4 count)]
    exact List.take_left' (length_leBytes 1 k)

/-- Every port of a list that reaches the wire gets its mark. -/
theorem marks_sent {l : List Nat} {n : Nat} (k count : Nat) (at_ : Int) (period : Nat) (d : Dev) (hn : n ∈ l) (hreach : Reaches d n)
    (hmac : (baseMac d).length = 6) :
    ∃ o : List Byte, Emission.frame n o ∈ (l.foldl (fun d n => emit (.frame n (markOctets d k count at_ period)) d) d).out ∧
      (o.drop 14).take 4 = leBytes 4 count ∧ (o.drop 18).take 1 = leBytes 1 k := by
  induction l generalizing d with
  | nil => cases hn
  | cons m l ih =>
    rw [List.foldl_cons]
    by_cases hm : n = m
    · subst hm
      obtain ⟨hcount, hstream⟩ := markOctets_fields k count at_ period hmac
      refine ⟨_, ?_, hcount, hstream⟩
      refine List.foldlRecOn (motive := fun u : Dev => Emission.frame n (markOctets d k count at_ period) ∈ u.out) l _ ?_
        fun u hu r _ => mem_out_emit hu
      rw [emit_frame hreach]
      simp
    · refine ih _ (by simpa [hm] using hn) ?_ ?_
      · unfold emit
        split <;> exact hreach
      · unfold emit
        split <;> exact hmac

/-! ### What follows from the fuses -/

theorem portHeld_congr {t d : Dev} (h : t.otp = d.otp) (p : Nat) : portHeld t p = portHeld d p := by
  unfold portHeld unitHeld ballVariant
  rw [h]

theorem baseMac_congr {t d : Dev} (h : t.otp = d.otp) : baseMac t = baseMac d := by
  have hword : otpWord t = otpWord d := by
    funext a
    unfold otpWord otpRaw
    rw [h]
  unfold baseMac recordOf walk
  rw [hword]

/-! ### The boundary -/

/-- What a boundary may reach before the pods hear of it. -/
@[simp] def boundaryParts : List Part := [.now, .tm, .out, .timer (.epochPulse 0), .timer (.epochPulse 1)]

/-- What telling the pods may reach. -/
def tellParts : List Part := .tm :: .cables :: .out :: (List.range 8).map fun n => .timersOf (.port n)

section
variable {d : Dev}

theorem only_epochPin (n k period : Nat) : Only [.tm, .timer (.epochPulse n)] (epochPin n k period d) d := by
  simp [epochPin, Within, Part.covers]

theorem epochPin_epochs (n k period : Nat) : (epochPin n k period d).tm.epochs = d.tm.epochs := by
  unfold epochPin
  split
  · rfl
  · by_cases h : n = 0
    · subst h; rfl
    · simp [h]

/-- The pin of the stream rises. -/
theorem epochPin_zero_rises {k period : Nat} (h : cfg d 0x6030 5 = k) : (epochPin 0 k period d).tm.epochOut0 = true ∧
    runsFor (.epochPulse 0) (min (cfg d 0x6030 7 * us) (period / 2)) (epochPin 0 k period d) := by
  unfold epochPin
  rw [if_neg (not_not.mpr h)]
  exact ⟨rfl, runsFor_arm_self⟩

@[inherit_doc epochPin_zero_rises]
theorem epochPin_one_rises {k period : Nat} (h : cfg d 0x6030 6 = k) : (epochPin 1 k period d).tm.epochOut1 = true ∧
    runsFor (.epochPulse 1) (min (cfg d 0x6030 7 * us) (period / 2)) (epochPin 1 k period d) := by
  unfold epochPin
  rw [if_neg (not_not.mpr h)]
  exact ⟨rfl, runsFor_arm_self⟩

theorem epochPin_one_epochOut0 (k period : Nat) : (epochPin 1 k period d).tm.epochOut0 = d.tm.epochOut0 := by
  unfold epochPin
  split <;> rfl

/-- Of the streams and the pins the pods' being told changes what is still to be told alone. -/
theorem told_stands (d : Dev) : let t := (List.range 8).foldl (fun d n => podIdle n d) d
    Only tellParts t d ∧ pins t = pins d ∧ (∀ k, ∃ r, epochOf t k = { epochOf d k with resub := r }) ∧ ∀ x ∈ d.out, x ∈ t.out := by
  refine List.foldlRecOn (motive := fun t : Dev => Only tellParts t d ∧ pins t = pins d ∧
    (∀ k, ∃ r, epochOf t k = { epochOf d k with resub := r }) ∧ ∀ x ∈ d.out, x ∈ t.out) (List.range 8) _
    ⟨.refl _ _, rfl, fun k => ⟨_, rfl⟩, fun x hx => hx⟩ fun u hu n hn => ?_
  obtain ⟨honly, hpins, hepochs, hout⟩ := hu
  have hwithin : ∀ n ∈ List.range 8, Within (.tm :: sendParts n) tellParts = true := by decide
  refine ⟨(only_podIdle (hwithin n hn)).mpr honly, pins_podIdle.trans hpins, fun k => ?_, fun x hx => mem_out_podIdle (hout x hx)⟩
  obtain ⟨r, hr⟩ := hepochs k
  obtain ⟨r', hr'⟩ := epochOf_podIdle (d := u) (n := n) k
  exact ⟨r', by rw [hr', hr]⟩

end

/-- The stream's record at its boundary. -/
def bounded (d : Dev) (k : Nat) : Epoch :=
  let e := epochOf d k
  let p := cfg d (0x6040 + k) 1 * us
  { e with count := countAt e e.next, anchor := if p != e.period then e.next else e.anchor,
           base := if p != e.period then countAt e e.next else e.base, period := p, next := e.next + p,
           resub := if p != e.period then e.marks else e.resub }

/-- The device at the boundary of stream `k`, its pins raised, before the marks go out. -/
def atBoundary (d : Dev) (k : Nat) : Dev :=
  let p := cfg d (0x6040 + k) 1 * us
  epochPin 1 k p (epochPin 0 k p (setEpoch k (fun _ => bounded d k) (passSched (epochOf d k).next d)))

section
variable {d : Dev} {k : Nat}

theorem only_atBoundary : Only boundaryParts (atBoundary d k) d := by
  unfold atBoundary
  exact ((only_epochPin 1 _ _).mono (by decide)).trans (((only_epochPin 0 _ _).mono (by decide)).trans (by simp))

theorem epochBoundary_eq (hruns : ttbRuns d = true) (hon : (epochOf d k).enabled = true) :
    epochBoundary k d = ((List.range 8).filter fun n =>
        (epochOf d k).marks.getLsbD n && (cable (atBoundary d k) n).pod == .linkUp && !(swPort (atBoundary d k) n).fenced &&
          fabricRuns (atBoundary d k) && !(atBoundary d k).fab.resetting).foldl
      (fun u n => emit (.frame n (markOctets u k (countAt (epochOf d k) (epochOf d k).next) (epochOf d k).next
        (cfg d (0x6040 + k) 1 * us))) u) (atBoundary d k) := by
  have hpassed : Only [.now, .tm] (passSched (epochOf d k).next d) d := by simp
  obtain ⟨tb, htm⟩ := passSched_tm (epochOf d k).next d
  have hepoch : epochOf (passSched (epochOf d k).next d) k = epochOf d k := by rw [epochOf, htm]; rfl
  have hset (f : Epoch → Epoch) (u : Dev) : setEpoch k f u = setEpoch k (fun _ => f (epochOf u k)) u := rfl
  unfold epochBoundary
  rw [if_neg (by simp [hruns, hon])]
  extract_lets w count p changed u v
  have hp : p = cfg d (0x6040 + k) 1 * us := congrArg (· * us) (hpassed.cfg rfl _ _)
  have hv : v = atBoundary d k := by
    simp only [v, u, changed, hp, atBoundary]
    rw [hset]
    simp only [hepoch, w, count, bounded]
  rw [← hv, ← hp]

theorem atBoundary_epoch : epochOf (atBoundary d k) k = bounded d k := by
  simp only [atBoundary, epochOf, epochPin_epochs]
  exact tget_tset_self _ _ _ _

theorem atBoundary_pins :
    (cfg d 0x6030 5 = k → (atBoundary d k).tm.epochOut0 = true ∧
      runsFor (.epochPulse 0) (min (cfg d 0x6030 7 * us) (cfg d (0x6040 + k) 1 * us / 2)) (atBoundary d k)) ∧
    (cfg d 0x6030 6 = k → (atBoundary d k).tm.epochOut1 = true ∧
      runsFor (.epochPulse 1) (min (cfg d 0x6030 7 * us) (cfg d (0x6040 + k) 1 * us / 2)) (atBoundary d k)) := by
  unfold atBoundary
  extract_lets p
  generalize hu : setEpoch k _ (passSched (epochOf d k).next d) = u
  have honly : Only [.now, .tm] u d := by subst hu; simp
  have hpinned : Only [.tm, .timer (.epochPulse 0)] (epochPin 0 k p u) u := only_epochPin 0 k p
  have hlast : Only [.tm, .timer (.epochPulse 1)] (epochPin 1 k p (epochPin 0 k p u)) (epochPin 0 k p u) := only_epochPin 1 k p
  have hcfg (obj el : Nat) : cfg u obj el = cfg d obj el := honly.cfg rfl obj el
  have hcfg' (obj el : Nat) : cfg (epochPin 0 k p u) obj el = cfg d obj el := (hpinned.cfg rfl obj el).trans (hcfg obj el)
  refine ⟨fun h => ?_, fun h => ?_⟩
  · obtain ⟨hhigh, hruns⟩ := epochPin_zero_rises (period := p) ((hcfg _ _).trans h)
    refine ⟨(epochPin_one_epochOut0 k p).trans hhigh, ?_⟩
    rw [hlast.runsFor _ rfl (hlast.now rfl), ← hcfg]
    exact hruns
  · rw [← hcfg' 0x6030 7]
    exact epochPin_one_rises (period := p) ((hcfg' _ _).trans h)

end

theorem epochBoundary_marks {s : State} {k : Fin 16} (hruns : ttbRuns s.dev = true) (hon : (epochOf s.dev k.val).enabled = true) :
    let e := epochOf s.dev k.val
    let p := cfg s.dev (0x6040 + k.val) 1 * us
    let count := (((e.base : Int) + (e.next - e.anchor) / (e.period : Int)) % (2 ^ 32 : Int)).toNat
    Answers (.epochBoundary k) s fun t =>
      (epochOf t k.val).count = count ∧ (epochOf t k.val).next = e.next + p ∧ (epochOf t k.val).period = p ∧
      (p ≠ e.period → (epochOf t k.val).anchor = e.next ∧ (epochOf t k.val).base = count) ∧
      (p = e.period → (epochOf t k.val).anchor = e.anchor ∧ (epochOf t k.val).base = e.base) ∧
      (cfg s.dev 0x6030 5 = k.val → t.tm.epochOut0 = true ∧ runsFor (.epochPulse 0) (min (cfg s.dev 0x6030 7 * us) (p / 2)) t) ∧
      (cfg s.dev 0x6030 6 = k.val → t.tm.epochOut1 = true ∧ runsFor (.epochPulse 1) (min (cfg s.dev 0x6030 7 * us) (p / 2)) t) ∧
      (∀ n : Nat, n < 8 → e.marks.getLsbD n = true → (cable s.dev n).pod = .linkUp → (swPort s.dev n).fenced = false →
        portHeld s.dev n = false →
        fabricRuns s.dev = true → s.dev.fab.resetting = false → (baseMac s.dev).length = 6 →
        ∃ o : List Byte, Emission.frame n o ∈ t.out ∧ (o.drop 14).take 4 = leBytes 4 count ∧ (o.drop 18).take 1 = leBytes 1 k.val) ∧
      SameSwitch t s.dev ∧ t.slots = s.dev.slots ∧ SameStores t s.dev ∧ t.ng = s.dev.ng := by
  intro e p count
  obtain ⟨d, hd⟩ : ∃ d, d = hush s.dev := ⟨_, rfl⟩
  obtain ⟨u, hu⟩ : ∃ u, u = atBoundary d k.val := ⟨_, rfl⟩
  obtain ⟨v, hv⟩ : ∃ v, v = epochBoundary k.val d := ⟨_, rfl⟩
  obtain ⟨t, ht⟩ : ∃ t, t = (List.range 8).foldl (fun d n => podIdle n d) v := ⟨_, rfl⟩
  have hrun : ttbRuns d = true := hd ▸ hruns
  have hlive : (epochOf d k.val).enabled = true := hd ▸ hon
  refine answers_of_effect (f := epochThenPods k.val) (u := t) rfl (by rw [ht, hv, hd]; rfl) ?_
  have hboundary : Only boundaryParts u d := hu ▸ only_atBoundary
  have hmarked : Only [.out] v u := by
    rw [hv, epochBoundary_eq hrun hlive, ← hu]
    exact Only.foldl _ (fun w n _ => by simp) _
  obtain ⟨htold, hpins, hepochs, hout⟩ := told_stands v
  rw [← ht] at htold hpins hepochs hout
  have hall : Only (.now :: .timer (.epochPulse 0) :: .timer (.epochPulse 1) :: .odBook :: .irq :: tellParts) (settle t) s.dev := by
    rw [only_settle (by decide)]
    exact (htold.mono (by decide)).trans ((hmarked.mono (by decide)).trans ((hboundary.mono (by decide)).trans
      (hd ▸ (only_hush (d := s.dev) (by decide)).mpr (.refl _ _))))
  have htu : Only tellParts t u := htold.trans (hmarked.mono (by decide))
  obtain ⟨r, hr⟩ := hepochs k.val
  have hepoch : epochOf (settle t) k.val = { bounded d k.val with resub := r } := by
    rw [epochOf, settle_tm]
    refine hr.trans ?_
    rw [show epochOf v k.val = epochOf u k.val by rw [epochOf, hmarked.tm rfl]; rfl, hu, atBoundary_epoch]
  have hpin : pins t = pins u := hpins.trans (by rw [pins, pins, hmarked.tm rfl])
  have hout0 : (pins t).epochOut0 = (pins u).epochOut0 := by rw [hpin]
  have hout1 : (pins t).epochOut1 = (pins u).epochOut1 := by rw [hpin]
  obtain ⟨hrise0, hrise1⟩ := atBoundary_pins (d := d) (k := k.val)
  rw [← hu] at hrise0 hrise1
  have hcfg (obj el : Nat) : cfg d obj el = cfg s.dev obj el := by rw [hd]; rfl
  have hsame : epochOf d k.val = e := by rw [hd]; rfl
  rw [hcfg, hcfg, hcfg] at hrise0 hrise1
  have hfields : (bounded d k.val).count = count ∧ (bounded d k.val).next = e.next + p ∧ (bounded d k.val).period = p ∧
      (bounded d k.val).anchor = (if p != e.period then e.next else e.anchor) ∧
      (bounded d k.val).base = (if p != e.period then count else e.base) := by
    simp only [bounded, hsame, hcfg]
    exact ⟨rfl, rfl, rfl, rfl, rfl⟩
  obtain ⟨hcount, hnext, hperiod, hanchor, hbase⟩ := hfields
  refine ⟨by rw [hepoch]; exact hcount, by rw [hepoch]; exact hnext, by rw [hepoch]; exact hperiod, fun hne => ?_, fun heq => ?_,
    fun h0 => ?_, fun h1 => ?_, fun n hn hmark hlink hopen hheld hfab hreset hmac => ?_, hall.sameSwitch (by decide),
    hall.slots (by decide), hall.sameStores (by decide), hall.ng (by decide)⟩
  · rw [hepoch]
    exact ⟨hanchor.trans (if_pos (bne_iff_ne.mpr hne)), hbase.trans (if_pos (bne_iff_ne.mpr hne))⟩
  · have hno : ¬ (p != e.period) = true := fun h => bne_iff_ne.mp h heq
    rw [hepoch]
    exact ⟨hanchor.trans (if_neg hno), hbase.trans (if_neg hno)⟩
  · obtain ⟨hhigh, hpulse⟩ := hrise0 h0
    refine ⟨by rw [settle_tm]; exact hout0.trans hhigh, ?_⟩
    rw [runsFor_settle, htu.runsFor _ (by decide) (htu.now (by decide))]
    exact hpulse
  · obtain ⟨hhigh, hpulse⟩ := hrise1 h1
    refine ⟨by rw [settle_tm]; exact hout1.trans hhigh, ?_⟩
    rw [runsFor_settle, htu.runsFor _ (by decide) (htu.now (by decide))]
    exact hpulse
  · have haon : u.aon = s.dev.aon := (hboundary.aon rfl).trans (by rw [hd]; rfl)
    have hotp : u.otp = s.dev.otp := (hboundary.otp rfl).trans (by rw [hd]; rfl)
    have hfabric : u.fab = s.dev.fab := (hboundary.fab rfl).trans (by rw [hd]; rfl)
    have hcable : cable u n = cable s.dev n := (hboundary.cable n rfl).trans (by rw [hd]; rfl)
    have hport : swPort u n = swPort s.dev n := by rw [swPort, hfabric]; rfl
    have hreach : Reaches u n := ⟨by rw [portHeld_congr hotp]; exact hheld, .inl (by omega)⟩
    obtain ⟨o, ho, hfields⟩ := marks_sent (l := (List.range 8).filter fun n =>
        (epochOf d k.val).marks.getLsbD n && (cable u n).pod == .linkUp && !(swPort u n).fenced && fabricRuns u && !u.fab.resetting)
      k.val count e.next p u (by
        simp only [List.mem_filter, List.mem_range, Bool.and_eq_true, Bool.not_eq_true', beq_iff_eq]
        refine ⟨hn, ⟨⟨⟨by rw [hsame]; exact hmark, by rw [hcable, hlink]⟩, by rw [hport, hopen]⟩, ?_⟩, by rw [hfabric, hreset]⟩
        rw [fabricRuns, haon]
        exact hfab) hreach (by rw [baseMac_congr hotp]; exact hmac)
    refine ⟨o, ?_, hfields⟩
    rw [settle_out]
    refine hout _ ?_
    rw [hv, epochBoundary_eq hrun hlive, ← hu, hsame, hcfg]
    rw [hsame] at ho
    exact ho

/-! ### Windows -/

theorem swPort_setSwPort_other {p q : Nat} (f : SwPort → SwPort) (d : Dev) (h : q ≠ p) : swPort (setSwPort p f d) q = swPort d q :=
  tget_tset_other _ _ _ h

/-- A command that moves a port's window, after such time as it waits for. -/
theorem windowMoved {s : State} {c : Instr} {f : Dev → Dev} {u : Dev} (p : Nat) (w : Option Nat) (hexec : exec c s = run f s)
    (hu : Only [.now, .tm] u (hush s.dev)) (hf : f (hush s.dev) = setSwPort p (fun x => { x with openWin := w }) u) :
    Answers c s fun t => (swPort t p).openWin = w ∧ (∀ q : Nat, q ≠ p → swPort t q = swPort s.dev q) ∧ SamePower t s.dev ∧
      t.ng = s.dev.ng ∧ SameStores t s.dev := by
  refine answers_of_effect hexec hf ?_
  have hfab : u.fab = s.dev.fab := hu.fab rfl
  have hall : Only [.now, .tm, .fab, .odBook, .out, .irq] (settle (setSwPort p (fun x => { x with openWin := w }) u)) s.dev := by
    rw [only_settle (by decide), only_setSwPort_of_kept (f := fun x => { x with openWin := w }) (fun _ => rfl) (fun _ => rfl) (by decide)]
    exact (hu.mono (by decide)).trans ((only_hush (by decide)).mpr (.refl _ _))
  refine ⟨?_, fun q hq => ?_, hall.samePower rfl, hall.ng rfl, hall.sameStores rfl⟩
  · rw [swPort_settle, swPort_setSwPort_self]
  · rw [swPort_settle, swPort_setSwPort_other _ _ hq, swPort, hfab]
    rfl

/-- Settles O49. -/
theorem pinsAndEpochs : Obligations.PinsAndEpochs := by
  unfold Obligations.PinsAndEpochs
  refine ⟨fun d => ⟨hirqPin_low_iff d, hirqPin_of_not_low d, fun hon => ?_, fun hoff => ?_⟩, fun s hruns => ppsOutSecond_rises hruns,
    fun s => ⟨fun harmed => ?_, fun harmed => ?_, fun harmed => ?_⟩, fun s k hruns hon => epochBoundary_marks hruns hon,
    fun s p n => ⟨fun hport hruns hn => ?_, fun hopen => ?_⟩⟩
  · simp [ppsOutPin, epochOutPin, hon, pinOf]
  · simp [ppsOutPin, epochOutPin, fanPin, hoff, pinOf]
  · refine answers_of_answers (pulse_ends rfl harmed) fun t ht => ?_
    obtain ⟨⟨tb, htm⟩, hstop, hswitch, hpower⟩ := ht
    exact ⟨by rw [htm], hstop, by rw [htm], hswitch, hpower⟩
  · refine answers_of_answers (pulse_ends rfl harmed) fun t ht => ?_
    obtain ⟨⟨tb, htm⟩, -, hswitch, hpower⟩ := ht
    exact ⟨by rw [htm], by rw [htm], by rw [htm], hswitch, hpower⟩
  · refine answers_of_answers (pulse_ends rfl harmed) fun t ht => ?_
    obtain ⟨⟨tb, htm⟩, -, hswitch, hpower⟩ := ht
    exact ⟨by rw [htm], by rw [htm], by rw [htm], hswitch, hpower⟩
  · refine windowMoved (f := windowOpen p.val n.val)
      (u := if windowIsOpen (hush s.dev) p.val n.val then hush s.dev else passCycle (winOpenAt (hush s.dev) p.val n.val) (hush s.dev))
      p.val (some n.val) rfl (by split <;> simp) (if_pos ?_)
    show (hasPort s.dev p.val && ttbRuns s.dev && decide (n.val < winCount s.dev p.val)) = true
    simp [hport, hruns, hn]
  · exact windowMoved (f := windowClose p.val n.val)
      (u := if windowIsOpen (hush s.dev) p.val n.val then passCycle (winCloseAt (hush s.dev) p.val n.val) (hush s.dev) else hush s.dev)
      p.val none rfl (by split <;> simp) (if_pos hopen)

end Sys2Proof.Proofs.PinsAndEpochs


/-! The Nguzo node: what it sends (chapter 9). -/

namespace Sys2Proof.Proofs.NguzoBus

open Sys2Proof Sys2Proof.Machine Sys2Proof.Safety
open Sys2Proof.Proofs.ShapersAndTally
open Sys2Proof.Proofs.Frames
open Sys2Proof.Proofs.Running

/-! ### Channels and buffers -/

section
variable {d e : Dev} {S : List Part}

@[simp] theorem chan_setChan_self (b : Bool) (f : Chan → Chan) : chan (setChan b f d) b = f (chan d b) := by cases b <;> rfl
@[simp] theorem chan_setChan_not (b : Bool) (f : Chan → Chan) : chan (setChan b f d) (!b) = chan d (!b) := by cases b <;> rfl
@[simp] theorem chan_settle (b : Bool) : chan (settle d) b = chan d b := by cases b <;> simp [chan]
@[simp] theorem chan_emit (x : Emission) (b : Bool) : chan (emit x d) b = chan d b := by
  unfold emit
  split <;> rfl

@[simp] theorem only_setBuffer (id : Nat) (x : BusFrame) (hS : Within [.ng] S = true) : Only S (setBuffer id x d) e ↔ Only S d e :=
  only_onNg _ hS

@[simp] theorem only_sendBus (b : Bool) (id flags : Nat) (p : List Byte) (hS : Within [.ng, .out] S = true) :
    Only S (sendBus b id flags p d) e ↔ Only S d e := Only.iff (T := [.ng, .out]) (by simp [sendBus]) hS

@[simp] theorem only_holdChannel (b : Bool) (words : Nat) (hS : Within [.ng] S = true) :
    Only S (holdChannel b words d) e ↔ Only S d e := Only.iff (T := [.ng]) (by simp [holdChannel]) hS

theorem busBuffer_setBuffer_self (id : Nat) (x : BusFrame) : busBuffer (setBuffer id x d) id = x := tget_tset_self _ _ _ _
theorem busBuffer_setBuffer_other {id j : Nat} (x : BusFrame) (h : j ≠ id) : busBuffer (setBuffer id x d) j = busBuffer d j :=
  tget_tset_other _ _ _ h
theorem busBuffer_settle (id : Nat) : busBuffer (settle d) id = busBuffer d id := by simp [busBuffer]

/-- What sending leaves of the node: all but its counters of frames sent. -/
def node (n : Nguzo) : Nguzo := { n with chA := { n.chA with txFrames := 0 }, chB := { n.chB with txFrames := 0 } }

theorem node_sendBus (b : Bool) (id flags : Nat) (p : List Byte) : node (sendBus b id flags p d).ng = node d.ng := by
  simp only [sendBus, emit]
  split <;> cases b <;> rfl

end

/-! ### Frames on the line -/

/-- The channel on which a frame would go out is not held in its safe state. -/
def Wired (d : Dev) (b : Bool) : Prop := d.aon.bankN = true ∧ (b = true → unitHeld d .nguzoB = false)

section
variable {d : Dev}

theorem emit_nguzo (hbank : d.aon.bankN = true) (b : Bool) (o : List Byte) :
    (emit (.nguzo b o) d).out = d.out ++ (if b && unitHeld d .nguzoB then [] else [.nguzo b o]) := by
  simp only [emit, bankSilent, heldSilent, hbank, Bool.not_true, Bool.false_or]
  split <;> simp

/-- A frame sent on each channel of a list. -/
def sendAll (l : List Bool) (id flags : Nat) (p : List Byte) (d : Dev) : Dev := l.foldl (fun d b => sendBus b id flags p d) d

theorem only_sendAll (l : List Bool) (id flags : Nat) (p : List Byte) : Only [.ng, .out] (sendAll l id flags p d) d :=
  Only.foldl l (fun u b _ => by simp) d

theorem node_sendAll (l : List Bool) (id flags : Nat) (p : List Byte) : node (sendAll l id flags p d).ng = node d.ng :=
  List.foldlRecOn (motive := fun u : Dev => node u.ng = node d.ng) l _ rfl fun _ hu _ _ => (node_sendBus _ _ _ _).trans hu

theorem out_sendAll (hbank : d.aon.bankN = true) (l : List Bool) (id flags : Nat) (p : List Byte) :
    (sendAll l id flags p d).out = d.out ++ (l.filter fun b => !(b && unitHeld d .nguzoB)).map fun b =>
      .nguzo b (frameOctets id d.ng.cycle.toNat flags p) := by
  induction l generalizing d with
  | nil => simp [sendAll]
  | cons b l ih =>
    have honly : Only [.ng, .out] (sendBus b id flags p d) d := by simp
    have hcycle : (sendBus b id flags p d).ng.cycle = d.ng.cycle := by
      have h := congrArg Nguzo.cycle (node_sendBus (d := d) b id flags p)
      exact h
    have hfirst : (sendBus b id flags p d).out =
        d.out ++ (if b && unitHeld d .nguzoB then [] else [.nguzo b (frameOctets id d.ng.cycle.toNat flags p)]) :=
      emit_nguzo (d := setChan b (fun c => { c with txFrames := satInc c.txFrames }) d) hbank b _
    have hheld : unitHeld (sendBus b id flags p d) .nguzoB = unitHeld d .nguzoB := by
      unfold unitHeld ballVariant
      rw [honly.otp rfl]
    have haon : (sendBus b id flags p d).aon.bankN = true := by rw [honly.aon rfl]; exact hbank
    have hrest := ih (d := sendBus b id flags p d) haon
    rw [hheld, hcycle, hfirst] at hrest
    refine hrest.trans ?_
    cases hb : b && unitHeld d .nguzoB <;>
      simp only [List.filter_cons, hb, Bool.not_false, Bool.not_true, Bool.false_eq_true, if_true, if_false, List.map_cons,
        List.append_assoc, List.cons_append, List.nil_append]

end

/-! ### The static segment -/

section
variable {d : Dev} {slot : Nat}

/-- NULL frames sent on several channels have the same payload. -/
theorem foldl_nulls (l : List Bool) (flags : Nat) :
    l.foldl (fun u b => sendBus b slot flags (nullPayload u) u) d = sendAll l slot flags (nullPayload d) d := by
  induction l generalizing d with
  | nil => rfl
  | cons b l ih =>
    have honly : Only [.ng, .out] (sendBus b slot flags (nullPayload d) d) d := by simp
    have hwords : busPar (sendBus b slot flags (nullPayload d) d) 5 = busPar d 5 := honly.cfg rfl _ _
    have hnull : nullPayload (sendBus b slot flags (nullPayload d) d) = nullPayload d :=
      congrArg (fun n => List.replicate (4 * n) (0 : Byte)) hwords
    rw [List.foldl_cons, ih, hnull]
    rfl

theorem staticSlotTransmit_of_ready (hready : bufferReady d slot = true) (hsome : slotChannels d slot ≠ []) :
    staticSlotTransmit slot d = setBuffer slot BusFrame.none (onNg (fun n => { n with toBus := satInc n.toBus })
      (sendAll (slotChannels d slot) slot (flagsOf (isSyncSlot d slot) (d.ng.node == .coldstart) false (busBuffer d slot).epoch)
        (busBuffer d slot).payload d)) := by
  unfold staticSlotTransmit
  rw [if_neg hsome, if_pos hready]
  rfl

theorem staticSlotTransmit_of_empty (hempty : bufferReady d slot = false) :
    staticSlotTransmit slot d =
      sendAll (slotChannels d slot) slot (flagsOf (isSyncSlot d slot) (d.ng.node == .coldstart) true false) (nullPayload d) d := by
  unfold staticSlotTransmit
  extract_lets on_ sync start x
  split
  next hnone => simp only [on_] at hnone; rw [hnone]; rfl
  next =>
    rw [if_neg (by simp [hempty])]
    exact foldl_nulls _ _

theorem staticSlotTransmit_of_none (hnone : slotChannels d slot = []) : staticSlotTransmit slot d = d := if_pos hnone

theorem slotChannels_eq (hown : force d (0x6100 + slot) 1 = 1) (hlo : 1 ≤ slot) (hhi : slot ≤ busPar d 3)
    (hsync : (d.ng.node == .synchronised || isSyncSlot d slot) = true) :
    slotChannels d slot = [false, true].filter fun b => onChannel (force d (0x6100 + slot) 0) b && maySend d b := by
  simp only [slotChannels, ownsSlot, hown, hlo, hhi, hsync]
  simp

end

/-- What a static slot's frames leave. -/
def SlotRest (t d : Dev) : Prop :=
  t.ng.node = d.ng.node ∧ SameSwitch t d ∧ SamePower t d ∧ t.tm = d.tm ∧ SameStores t d ∧ SameAon t d

section
variable {s : State} {slot : Nat} (hbank : s.dev.aon.bankN = true) (hown : force s.dev (0x6100 + slot) 1 = 1) (hlo : 1 ≤ slot)
  (hhi : slot ≤ busPar s.dev 3) (hsync : (s.dev.ng.node == .synchronised || isSyncSlot s.dev slot) = true)
include hbank hown hlo hhi hsync

/-- The frames that a slot's owner sends, on the channels where it may and whose balls are its own. -/
theorem slot_frames {ok : Chan → Bool} (hmay : ∀ b, maySend s.dev b = ok (chan s.dev b)) :
    (bufferReady s.dev slot = false → Answers (.staticSlotTransmit slot) s fun t =>
      t.out = ([false, true].filter fun b => onChannel (force s.dev (0x6100 + slot) 0) b && ok (chan s.dev b) &&
          !(b && unitHeld s.dev .nguzoB)).map (fun b => .nguzo b (frameOctets slot s.dev.ng.cycle.toNat
            (flagsOf (isSyncSlot s.dev slot) (s.dev.ng.node == .coldstart) true false) (nullPayload s.dev))) ∧
        t.ng.buffers = s.dev.ng.buffers ∧ SlotRest t s.dev) ∧
    (bufferReady s.dev slot = true →
      ([false, true].filter fun b => onChannel (force s.dev (0x6100 + slot) 0) b && ok (chan s.dev b) &&
          !(b && unitHeld s.dev .nguzoB)) ≠ [] →
      Answers (.staticSlotTransmit slot) s fun t =>
      t.out = ([false, true].filter fun b => onChannel (force s.dev (0x6100 + slot) 0) b && ok (chan s.dev b) &&
          !(b && unitHeld s.dev .nguzoB)).map (fun b => .nguzo b (frameOctets slot s.dev.ng.cycle.toNat
            (flagsOf (isSyncSlot s.dev slot) (s.dev.ng.node == .coldstart) false (busBuffer s.dev slot).epoch)
            (busBuffer s.dev slot).payload)) ∧
        busBuffer t slot = BusFrame.none ∧ (∀ id : Nat, id ≠ slot → busBuffer t id = busBuffer s.dev id) ∧
        t.ng.toBus = satInc s.dev.ng.toBus ∧ SlotRest t s.dev) := by
  obtain ⟨l, hl⟩ : ∃ l, l = slotChannels (hush s.dev) slot := ⟨_, rfl⟩
  have hchans : ([false, true].filter fun b => onChannel (force s.dev (0x6100 + slot) 0) b && ok (chan s.dev b) &&
      !(b && unitHeld s.dev .nguzoB)) = l.filter fun b => !(b && unitHeld s.dev .nguzoB) := by
    rw [hl, slotChannels_eq (d := hush s.dev) hown hlo hhi hsync, List.filter_filter]
    refine List.filter_congr fun b _ => ?_
    rw [show maySend (hush s.dev) b = ok (chan s.dev b) from hmay b, Bool.and_comm]
    rfl
  rw [hchans]
  have hout (flags : Nat) (p : List Byte) := out_sendAll (d := hush s.dev) hbank l slot flags p
  refine ⟨fun hempty => ?_, fun hready hsome => ?_⟩
  · refine answers_of_effect (f := staticSlotTransmit slot) rfl (staticSlotTransmit_of_empty (d := hush s.dev) hempty) ?_
    rw [← hl]
    generalize hflags : flagsOf _ _ true false = flags
    have hall : Only [.ng, .odBook, .irq, .out] (settle (sendAll l slot flags (nullPayload (hush s.dev)) (hush s.dev))) s.dev := by
      rw [only_settle (by decide)]
      exact ((only_sendAll _ _ _ _).mono (by decide)).trans (by simp)
    have hnode := node_sendAll (d := hush s.dev) l slot flags (nullPayload (hush s.dev))
    have hbuffers := congrArg Nguzo.buffers hnode
    have hstate := congrArg Nguzo.node hnode
    refine ⟨?_, by rw [settle_ng]; exact hbuffers, by rw [settle_ng]; exact hstate, hall.sameSwitch rfl, hall.samePower rfl,
      hall.tm rfl, hall.sameStores rfl, hall.sameAon rfl⟩
    rw [settle_out, hout, ← hflags]
    rfl
  · have hsome' : slotChannels (hush s.dev) slot ≠ [] := by
      rw [← hl]
      rintro rfl
      exact hsome rfl
    refine answers_of_effect (f := staticSlotTransmit slot) rfl (staticSlotTransmit_of_ready (d := hush s.dev) hready hsome') ?_
    rw [← hl]
    generalize hflags : flagsOf _ _ false _ = flags
    obtain ⟨u, hu⟩ : ∃ u, u = sendAll l slot flags (busBuffer (hush s.dev) slot).payload (hush s.dev) := ⟨_, rfl⟩
    rw [← hu]
    have honly : Only [.ng, .out] u (hush s.dev) := hu ▸ only_sendAll _ _ _ _
    have hall : Only [.ng, .odBook, .irq, .out] (settle (setBuffer slot BusFrame.none (onNg (fun n => { n with toBus := satInc n.toBus }) u)))
        s.dev := by
      rw [only_settle (by decide), only_setBuffer _ _ (by decide), only_onNg _ (by decide)]
      exact (honly.mono (by decide)).trans (by simp)
    have hnode : node u.ng = node s.dev.ng := by rw [hu, node_sendAll]; rfl
    have hbuffers := congrArg Nguzo.buffers hnode
    have hstate := congrArg Nguzo.node hnode
    have hcount := congrArg Nguzo.toBus hnode
    refine ⟨?_, ?_, fun id hid => ?_, ?_, by rw [settle_ng]; exact hstate, hall.sameSwitch rfl, hall.samePower rfl, hall.tm rfl,
      hall.sameStores rfl, hall.sameAon rfl⟩
    · rw [settle_out]
      show u.out = _
      rw [hu, hout, ← hflags]
      rfl
    · rw [busBuffer_settle, busBuffer_setBuffer_self]
    · rw [busBuffer_settle, busBuffer_setBuffer_other _ hid]
      exact congrArg (fun b => tget BusFrame.none b id) hbuffers
    · rw [settle_ng]
      exact congrArg satInc hcount

end

/-! ### The dynamic segment -/

section
variable {d : Dev} {b : Bool}

/-- A frame sent in the dynamic segment: the channel counts it and is held until a macrotick after its end. -/
theorem chan_sent (id flags words : Nat) (p : List Byte) (f : Nguzo → Nguzo) (hf : ∀ c, chan (onNg f d) c = chan d c) :
    chan (holdChannel b words (sendBus b id flags p (onNg f d))) b = { chan d b with
        txFrames := satInc (chan d b).txFrames
        busyUntil := (chan d b).minislot * minislotNs d + busPar d 9 * us + (105 + 32 * words) * 40 + us } ∧
      chan (holdChannel b words (sendBus b id flags p (onNg f d))) (!b) = chan d (!b) := by
  have honly : Only [.ng, .out] (sendBus b id flags p (onNg f d)) d := by simp
  have hslot : minislotNs (sendBus b id flags p (onNg f d)) = minislotNs d := congrArg (· * us) (honly.cfg rfl 0x5000 8)
  have hoffset : busPar (sendBus b id flags p (onNg f d)) 9 = busPar d 9 := honly.cfg rfl 0x5000 9
  refine ⟨?_, ?_⟩
  · rw [holdChannel, chan_setChan_self, sendBus, chan_emit, chan_setChan_self, hf]
    rw [sendBus] at hslot hoffset
    rw [hslot, hoffset]
  · rw [holdChannel, chan_setChan_not, sendBus, chan_emit, chan_setChan_not, hf]

/-- What holds of the channels and the planes after a frame of so many words in the dynamic segment. -/
def Holds (b : Bool) (words : Nat) (t d : Dev) : Prop :=
  (chan t b).txFrames = satInc (chan d b).txFrames ∧ (chan t b).position = (chan d b).position ∧
  (chan t b).busyUntil = (chan d b).minislot * (busPar d 8 * us) + busPar d 9 * us + (105 + 32 * words) * 40 + us ∧
  chan t (!b) = chan d (!b) ∧ SameSwitch t d ∧ SamePower t d ∧ t.tm = d.tm ∧ SameStores t d ∧ SameAon t d

/-- A frame sent in the dynamic segment, with what else changes of the node's buffers and counters. -/
theorem dynamic_sends {s : State} {c : Instr} {g : Dev → Dev} {f h : Nguzo → Nguzo} {id flags words : Nat} {p : List Byte}
    (hexec : exec c s = run g s) (hbank : s.dev.aon.bankN = true) (hheld : b = true → unitHeld s.dev .nguzoB = false)
    (hf : ∀ u c, chan (onNg f u) c = chan u c) (hh : ∀ u c, chan (onNg h u) c = chan u c)
    (hcycle : (f s.dev.ng).cycle = s.dev.ng.cycle)
    (hg : g (hush s.dev) = onNg h (holdChannel b words (sendBus b id flags p (onNg f (hush s.dev))))) :
    Answers c s fun t => t.out = [.nguzo b (frameOctets id s.dev.ng.cycle.toNat flags p)] ∧ Holds b words t s.dev ∧
      ∃ u : Dev, u.ng = (holdChannel b words (sendBus b id flags p (onNg f (hush s.dev)))).ng ∧ t.ng = h u.ng := by
  refine answers_of_effect hexec hg ?_
  obtain ⟨u, hu⟩ : ∃ u, u = holdChannel b words (sendBus b id flags p (onNg f (hush s.dev))) := ⟨_, rfl⟩
  obtain ⟨hself, hother⟩ := chan_sent (d := hush s.dev) (b := b) id flags words p f (hf _)
  rw [← hu] at hself hother ⊢
  have hall : Only [.ng, .odBook, .irq, .out] (settle (onNg h u)) s.dev := by rw [hu]; simp
  have hsame : chan (settle (onNg h u)) b = chan u b := (chan_settle _).trans (hh _ _)
  refine ⟨?_, ⟨?_, ?_, ?_, ?_, hall.sameSwitch rfl, hall.samePower rfl, hall.tm rfl, hall.sameStores rfl, hall.sameAon rfl⟩,
    u, rfl, by rw [settle_ng]; rfl⟩
  · rw [settle_out]
    show u.out = _
    rw [hu]
    refine (emit_nguzo (d := setChan b (fun c => { c with txFrames := satInc c.txFrames }) (onNg f (hush s.dev))) hbank b _).trans ?_
    have hsilent : (b && unitHeld s.dev .nguzoB) = false := by
      cases b
      · rfl
      · exact hheld rfl
    have hcyc : (onNg f (hush s.dev)).ng.cycle = s.dev.ng.cycle := hcycle
    rw [show unitHeld (setChan b (fun c => { c with txFrames := satInc c.txFrames }) (onNg f (hush s.dev))) .nguzoB =
      unitHeld s.dev .nguzoB from rfl, hsilent, hcyc]
    rfl
  · rw [hsame, hself]; rfl
  · rw [hsame, hself]; rfl
  · rw [hsame, hself]; rfl
  · rw [chan_settle, hh, hother]
    rfl

theorem chan_onNg_of_same {f : Nguzo → Nguzo} (hA : ∀ n, (f n).chA = n.chA) (hB : ∀ n, (f n).chB = n.chB) (u : Dev) (c : Bool) :
    chan (onNg f u) c = chan u c := by
  cases c
  · exact hA _
  · exact hB _

end

/-- What a dynamic frame of the gateway leaves of the node: its buffer `x` is empty or marked sent on the channel, and a first copy
counts; `other` says whether the other channel is still to send it. -/
def gatewaySent (x : BusFrame) (b other : Bool) (id : Nat) (n : Nguzo) : Nguzo :=
  let x' := if b then { x with sentB := true } else { x with sentA := true }
  let kept := { n with buffers := tset BusFrame.none n.buffers id (if !other || (x'.sentA && x'.sentB) then BusFrame.none else x') }
  if !(x.sentA || x.sentB) then { kept with toBus := satInc kept.toBus } else kept

theorem onNg_gatewaySent (x : BusFrame) (b other : Bool) (id : Nat) (d : Dev) : onNg (gatewaySent x b other id) d =
    let x' := if b then { x with sentB := true } else { x with sentA := true }
    let d := setBuffer id (if !other || (x'.sentA && x'.sentB) then BusFrame.none else x') d
    if !(x.sentA || x.sentB) then onNg (fun n => { n with toBus := satInc n.toBus }) d else d := by
  show onNg (fun n => gatewaySent x b other id n) d = _
  unfold gatewaySent
  dsimp only
  split <;> rfl

section
variable {d : Dev} {b : Bool} {i : Nat}

theorem dynamic_silent (h : d.ng.node ≠ .synchronised ∨ (chan d b).state ≠ .synchronised ∨ channelHeld d b = true ∨ entryAt d b = none) :
    dynamicFrameTransmit b d = d := by
  unfold dynamicFrameTransmit
  split
  · rfl
  next hfree =>
    rw [not_or, not_or, not_not, not_not, Bool.not_eq_true] at hfree
    obtain ⟨hnode, hchan, hheld⟩ := hfree
    have hnone : entryAt d b = none := by
      rcases h with h | h | h | h
      · exact absurd hnode h
      · exact absurd hchan h
      · rw [hheld] at h; cases h
      · exact h
    rw [hnone]

variable (hnode : d.ng.node = .synchronised) (hchan : (chan d b).state = .synchronised) (hfree : channelHeld d b = false)
  (hentry : entryAt d b = some i) (hmay : force d (0x6180 + i) 4 ≠ 0)
include hnode hchan hfree hentry hmay

theorem dynamic_gateway (hid : force d (0x6180 + i) 1 ≠ 900) (hready : bufferReady d (force d (0x6180 + i) 1) = true)
    (hunsent : (if b then (busBuffer d (force d (0x6180 + i) 1)).sentB else (busBuffer d (force d (0x6180 + i) 1)).sentA) = false) :
    dynamicFrameTransmit b d =
      if dynamicFits d b ((busBuffer d (force d (0x6180 + i) 1)).payload.length / 4) = true then
        onNg (gatewaySent (busBuffer d (force d (0x6180 + i) 1)) b
            (onChannel (force d (0x6180 + i) 3) (!b) && (chan d (!b)).state == .synchronised) (force d (0x6180 + i) 1))
          (holdChannel b ((busBuffer d (force d (0x6180 + i) 1)).payload.length / 4)
            (sendBus b (force d (0x6180 + i) 1) (flagsOf false false false (busBuffer d (force d (0x6180 + i) 1)).epoch)
              (busBuffer d (force d (0x6180 + i) 1)).payload (onNg id d)))
      else d := by
  unfold dynamicFrameTransmit
  rw [if_neg (by simp [hnode, hchan, hfree]), hentry]
  dsimp only
  rw [if_neg hmay, if_neg hid]
  rw [onNg_gatewaySent]
  simp only [hready, hunsent]
  cases dynamicFits d b ((busBuffer d (force d (0x6180 + i) 1)).payload.length / 4) <;> rfl

theorem dynamic_zop (hid : force d (0x6180 + i) 1 = 900) (hsome : (if b then d.ng.zopB else d.ng.zopA) ≠ [])
    (hfits : dynamicFits d b ((if (packMessages 252 (if b then d.ng.zopB else d.ng.zopA)).1.length ≤ 248
      then (packMessages 252 (if b then d.ng.zopB else d.ng.zopA)).1 ++ leBytes 4 0
      else (packMessages 252 (if b then d.ng.zopB else d.ng.zopA)).1).length / 4) = true) :
    dynamicFrameTransmit b d =
      let r := packMessages 252 (if b then d.ng.zopB else d.ng.zopA)
      let payload := if r.1.length ≤ 248 then r.1 ++ leBytes 4 0 else r.1
      onNg id (holdChannel b (payload.length / 4) (sendBus b 900 0 payload
        (onNg (fun n => if b then { n with zopB := r.2 } else { n with zopA := r.2 }) d))) := by
  unfold dynamicFrameTransmit
  rw [if_neg (by simp [hnode, hchan, hfree]), hentry]
  dsimp only
  rw [if_neg hmay, if_pos hid, if_neg (by simp [hsome, hfits])]
  rfl

end

theorem chan_gatewaySent (x : BusFrame) (b other : Bool) (id : Nat) (u : Dev) (c : Bool) :
    chan (onNg (gatewaySent x b other id) u) c = chan u c := by
  have hA (n : Nguzo) : (gatewaySent x b other id n).chA = n.chA := by unfold gatewaySent; dsimp only; split <;> rfl
  have hB (n : Nguzo) : (gatewaySent x b other id n).chB = n.chB := by unfold gatewaySent; dsimp only; split <;> rfl
  exact chan_onNg_of_same hA hB u c

/-! ### The gateway -/

/-- What a frame that the gateway takes or drops may reach. -/
theorem only_gatewayToBus (o : List Byte) (d : Dev) : Only [.ng, .fab] (gatewayToBus o d) d := by
  unfold gatewayToBus
  dsimp only
  repeat' split
  all_goals simp

/-- Settles O46. -/
theorem nguzoSending : Obligations.NguzoSending := by
  unfold Obligations.NguzoSending
  refine ⟨fun s slot hbank hown hlo hhi => ?_, fun s slot hnot => ?_, fun s b i hbank hheld hnode hchan hfree hentry hmay => ?_,
    fun s b hnot => ?_, fun s b hnode hon => ?_, fun s o hruns => ⟨fun htaken => ?_, fun hnot => ?_⟩⟩
  · refine ⟨fun hnode => ?_, fun hnode hsync hlow hhigh => ?_, fun hnode hnot => ?_, fun hnode hcold => ?_⟩
    · have hmay (b : Bool) : maySend s.dev b = ((chan s.dev b).state == .synchronised) := by rw [maySend, hnode]
      have hframes := slot_frames hbank hown hlo hhi (by simp [hnode]) (ok := fun c => c.state == .synchronised) hmay
      rw [show (s.dev.ng.node == .coldstart) = false by rw [hnode]; rfl] at hframes
      exact hframes
    · have hmay (b : Bool) : maySend s.dev b = ((chan s.dev b).enabled && (chan s.dev b).state == .joining) := by
        rw [maySend, hnode]
        simp [hlow, hhigh]
      have hsync' : isSyncSlot s.dev slot = true := hsync
      have hframes := slot_frames hbank hown hlo hhi (by simp [hsync']) (ok := fun c => c.enabled && c.state == .joining) hmay
      rw [show (s.dev.ng.node == .coldstart) = true by rw [hnode]; rfl, hsync'] at hframes
      exact hframes
    · refine answers_became (f := staticSlotTransmit slot) rfl (staticSlotTransmit_of_none (d := hush s.dev) ?_)
      refine List.filter_eq_nil_iff.mpr fun b _ => ?_
      rcases hnot with hsync | hcold
      · have hsync' : isSyncSlot (hush s.dev) slot = false := hsync
        have hother : ((hush s.dev).ng.node == .synchronised) = false := by
          rw [show (hush s.dev).ng.node = .coldstart from hnode]; rfl
        simp only [hsync', hother, Bool.or_self, Bool.and_false, Bool.false_eq_true, not_false_eq_true]
      · have hmay : maySend (hush s.dev) b = false := by
          rw [maySend, show (hush s.dev).ng.node = .coldstart from hnode]
          rcases hcold with h0 | h4
          · simp [h0]
          · simp [show ¬ s.dev.ng.coldCycles ≤ 4 by omega]
        simp [hmay]
    · refine answers_became (f := staticSlotTransmit slot) rfl (staticSlotTransmit_of_none (d := hush s.dev) ?_)
      refine List.filter_eq_nil_iff.mpr fun b _ => ?_
      have hmay : maySend (hush s.dev) b = false := by
        unfold maySend
        split
        next h => exact absurd h hnode
        next h => exact absurd h hcold
        next => rfl
      simp [hmay]
  · refine answers_became (f := staticSlotTransmit slot) rfl (staticSlotTransmit_of_none (d := hush s.dev) ?_)
    refine List.filter_eq_nil_iff.mpr fun b _ => ?_
    have hown : ownsSlot (hush s.dev) slot = false := by
      rw [← Bool.not_eq_true]
      simp only [ownsSlot, Bool.and_eq_true, beq_iff_eq, decide_eq_true_eq]
      rintro ⟨⟨h1, h2⟩, h3⟩
      rcases hnot with h | h | h
      · exact h h1
      · omega
      · exact absurd h3 (not_le.mpr h)
    simp [hown]
  · refine ⟨fun hid hready hunsent => ⟨fun hfits => ?_, fun hfits => ?_⟩, fun hid hsome hfits => ?_⟩
    · have heffect := (dynamic_gateway (d := hush s.dev) hnode hchan hfree hentry hmay hid hready hunsent).trans (if_pos hfits)
      refine answers_of_answers (dynamic_sends (g := dynamicFrameTransmit b) (f := id) rfl hbank hheld (fun _ _ => rfl)
        (chan_gatewaySent _ _ _ _) rfl heffect) fun t ht => ?_
      obtain ⟨hout, hholds, -⟩ := ht
      exact ⟨hout, hholds⟩
    · refine answers_became (f := dynamicFrameTransmit b) rfl ?_
      exact (dynamic_gateway (d := hush s.dev) hnode hchan hfree hentry hmay hid hready hunsent).trans
        (if_neg (Bool.eq_false_iff.mp hfits))
    · have heffect := dynamic_zop (d := hush s.dev) hnode hchan hfree hentry hmay hid hsome hfits
      refine answers_of_answers (dynamic_sends (g := dynamicFrameTransmit b) (h := id) rfl hbank hheld
        (chan_onNg_of_same (fun n => by cases b <;> rfl) (fun n => by cases b <;> rfl)) (fun _ _ => rfl)
        (by cases b <;> rfl) heffect) fun t ht => ?_
      obtain ⟨hout, hholds, u, hu, hng⟩ := ht
      refine ⟨hout, ?_, hholds⟩
      have hzop := node_sendBus (d := onNg (fun n => if b then { n with zopB := (packMessages 252 (if b then s.dev.ng.zopB else s.dev.ng.zopA)).2 }
        else { n with zopA := (packMessages 252 (if b then s.dev.ng.zopB else s.dev.ng.zopA)).2 }) (hush s.dev)) b 900 0
        (if (packMessages 252 (if b then s.dev.ng.zopB else s.dev.ng.zopA)).1.length ≤ 248
          then (packMessages 252 (if b then s.dev.ng.zopB else s.dev.ng.zopA)).1 ++ leBytes 4 0
          else (packMessages 252 (if b then s.dev.ng.zopB else s.dev.ng.zopA)).1)
      have hqueue : t.ng = u.ng := hng
      show (if b then t.ng.zopB else t.ng.zopA) = _
      rw [hqueue, hu]
      cases b
      · exact congrArg Nguzo.zopA hzop
      · exact congrArg Nguzo.zopB hzop
  · exact answers_became (f := dynamicFrameTransmit b) rfl (dynamic_silent (d := hush s.dev) hnot)
  · have heffect : minislotBoundary b (hush s.dev) = _ := if_neg (by
      rw [not_or]
      exact ⟨hnode, by rw [show chan (hush s.dev) b = chan s.dev b from rfl, hon]; decide⟩)
    refine answers_of_effect (f := minislotBoundary b) rfl heffect ?_
    generalize hu : setChan b _ (hush s.dev) = u
    have hall : Only [.ng, .odBook, .irq, .out] (settle u) s.dev := by subst hu; simp
    refine ⟨?_, ?_, ?_, hall.sameSwitch rfl, hall.samePower rfl, hall.tm rfl, hall.sameStores rfl, hall.sameAon rfl⟩
    · rw [chan_settle, ← hu, chan_setChan_self]
      rfl
    · rw [chan_settle, ← hu, chan_setChan_self]
      rfl
    · rw [chan_settle, ← hu, chan_setChan_not]
      rfl
  · obtain ⟨htype, hentry, hlong, hwords⟩ := htaken
    obtain ⟨u, hu⟩ : ∃ u, u = if (busBuffer s.dev (leNat ((framePayload o).take 2) % 1024)).at_ != 0 then
      onNg (fun n => { n with overwritten := satInc n.overwritten }) (hush s.dev) else hush s.dev := ⟨_, rfl⟩
    have honly : Only [.ng] u (hush s.dev) := by subst hu; simp
    have hbuffers : u.ng.buffers = s.dev.ng.buffers := by subst hu; split <;> rfl
    have hcount : u.ng.overwritten = if (busBuffer s.dev (leNat ((framePayload o).take 2) % 1024)).at_ = 0 then s.dev.ng.overwritten
        else satInc s.dev.ng.overwritten := by
      rw [hu]
      by_cases hfull : (busBuffer s.dev (leNat ((framePayload o).take 2) % 1024)).at_ = 0
      · rw [if_pos hfull, if_neg (by rw [bne_iff_ne]; exact not_not_intro hfull)]
        rfl
      · rw [if_neg hfull, if_pos (bne_iff_ne.mpr hfull)]
        rfl
    have hnow : u.now = s.dev.now := honly.now rfl
    refine answers_of_effect (f := gatewayToBus o) rfl (u := setBuffer (leNat ((framePayload o).take 2) % 1024)
      { payload := ((framePayload o).drop 12).take (4 * (leNat ((framePayload o).take 2) / 1024)), epoch := bit (oct (framePayload o) 3) 2
        at_ := u.now + 1, sentA := false, sentB := false } u) ?_ ?_
    · subst hu
      unfold gatewayToBus
      rw [if_neg (by rw [show fabricRuns (hush s.dev) = true from hruns]; decide)]
      refine if_pos ⟨htype, hentry, ?_⟩
      rw [Bool.and_eq_true, Bool.or_eq_true, decide_eq_true_eq, decide_eq_true_eq, beq_iff_eq]
      exact ⟨hlong, hwords⟩
    · generalize hbuf : BusFrame.mk _ _ _ _ _ = buf
      have hall : Only [.ng, .odBook, .irq, .out] (settle (setBuffer (leNat ((framePayload o).take 2) % 1024) buf u)) s.dev := by
        rw [only_settle (by decide), only_setBuffer _ _ (by decide)]
        exact (honly.mono (by decide)).trans (by simp)
      refine ⟨?_, ?_, ?_, fun j hj => ?_, ?_, hall.sameSwitch rfl, hall.samePower rfl, hall.tm rfl, hall.sameStores rfl, hall.sameAon rfl⟩
      · rw [busBuffer_settle, busBuffer_setBuffer_self, ← hbuf]
      · rw [busBuffer_settle, busBuffer_setBuffer_self, ← hbuf, hnow]
      · rw [busBuffer_settle, busBuffer_setBuffer_self, ← hbuf]
      · rw [busBuffer_settle, busBuffer_setBuffer_other _ hj, busBuffer, hbuffers]
        rfl
      · rw [settle_ng]
        exact hcount
  · refine answers_of_effect (f := gatewayToBus o) rfl (u := dropAt 14 0x15 (onNg (fun n => { n with toBusDrop := satInc n.toBusDrop })
      (hush s.dev))) ?_ ?_
    · unfold gatewayToBus
      rw [if_neg (by rw [show fabricRuns (hush s.dev) = true from hruns]; decide)]
      refine if_neg fun h => hnot ?_
      obtain ⟨htype, hentry, hfits⟩ := h
      rw [Bool.and_eq_true, Bool.or_eq_true, decide_eq_true_eq, decide_eq_true_eq, beq_iff_eq] at hfits
      exact ⟨htype, hentry, hfits⟩
    · have hdropped : Only [.fab] (dropAt 14 0x15 (onNg (fun n => { n with toBusDrop := satInc n.toBusDrop }) (hush s.dev)))
        (onNg (fun n => { n with toBusDrop := satInc n.toBusDrop }) (hush s.dev)) := by simp
      have hall : Only [.fab, .ng, .odBook, .irq, .out] (settle (dropAt 14 0x15 (onNg (fun n => { n with toBusDrop := satInc n.toBusDrop })
        (hush s.dev)))) s.dev := by simp
      refine ⟨?_, hall.samePower rfl, hall.tm rfl, hall.sameStores rfl, hall.sameAon rfl⟩
      rw [settle_ng, hdropped.ng rfl]
      rfl

end Sys2Proof.Proofs.NguzoBus


/-! SUPPORT. The frames of a received frame's decision, of what a port starts to send (chapters 11 to 14), and of table findings. -/

namespace Sys2Proof.Proofs.Frames

open Sys2Proof Sys2Proof.Machine Sys2Proof.Safety

section
variable {S : List Part} {d e : Dev}

/-! ### Counting and findings -/

@[simp] theorem only_addCounter (set_ i v : Nat) (hS : Within [.fab] S = true) : Only S (addCounter set_ i v d) e ↔ Only S d e :=
  only_setCounter _ _ _ hS

@[simp] theorem only_countRx (p len da : Nat) (hS : Within [.fab] S = true) : Only S (countRx p len da d) e ↔ Only S d e :=
  Only.iff (T := [.fab]) (by simp [countRx]) hS

@[simp] theorem only_countTx (p c len da : Nat) (hS : Within [.fab] S = true) : Only S (countTx p c len da d) e ↔ Only S d e :=
  Only.iff (T := [.fab]) (by simp [countTx]) hS

/-- What a finding of an error in a table may reach. -/
@[simp] def findParts : List Part := [.fab, .st, .odBook, .irq]

@[simp] theorem only_eccFind (h : EccHit) (hS : Within findParts S = true) : Only S (eccFind h d) e ↔ Only S d e :=
  Only.iff (T := findParts) (by simp [eccFind]) hS

@[simp] theorem only_eccFindAll (l : List EccHit) (hS : Within findParts S = true) : Only S (eccFindAll l d) e ↔ Only S d e :=
  Only.iff (Only.foldl (S := findParts) _ (fun _ _ _ => by simp) d) hS

@[simp] theorem only_unpoison (t i : Nat) (hS : Within [.st] S = true) : Only S (unpoison t i d) e ↔ Only S d e := only_onSt _ hS

@[simp] theorem only_putStation (loc : Nat) (x : Station) (hS : Within [.st] S = true) :
    Only S (putStation loc x d) e ↔ Only S d e :=
  Only.iff (T := [.st]) (by simp [putStation]) hS

@[simp] theorem only_offerLearn (p mac fid : Nat) (hS : Within [.fab, .st] S = true) :
    Only S (offerLearn p mac fid d) e ↔ Only S d e := by
  refine Only.iff (T := [.fab, .st]) ?_ hS
  unfold offerLearn
  split
  · simp
  · split <;> simp

@[simp] theorem only_learnFrom (p vid : Nat) (o : List Byte) (hS : Within [.fab, .st] S = true) :
    Only S (learnFrom p vid o d) e ↔ Only S d e :=
  Only.iff (T := [.fab, .st]) (by simp [learnFrom]) hS

/-! ### Classification and policing -/

@[simp] theorem only_setPolicer (i : Nat) (f : Policer → Policer) (hS : Within [.policers] S = true) :
    Only S (setPolicer i f d) e ↔ Only S d e := by
  refine Only.iff (T := [.policers]) (fun v hv => ?_) hS
  cases v
  case cls => exact absurd (unseen hv .policers (by simp)) Bool.noConfusion
  all_goals rfl

@[simp] theorem only_countRule (r len mode : Nat) (hS : Within [.fab] S = true) : Only S (countRule r len mode d) e ↔ Only S d e :=
  Only.iff (T := [.fab]) (by simp [countRule]) hS

/-- What classification and policing may reach. -/
@[simp] def classParts : List Part := [.fab, .cls, .odBook, .irq]

theorem only_policeFrame (i p len : Nat) : Only classParts (policeFrame i p len d).2.2 d := by
  unfold policeFrame
  dsimp only
  split
  · simp
  · split
    · simp
    · split <;> simp

theorem only_classify (p vid : Nat) (o : List Byte) : Only classParts (classify p vid o d).2 d := by
  unfold classify
  dsimp only
  split
  · simp
  · exact only_policeFrame _ _ _
  · split
    · simp
    · simp only [classParts, only_countRule, Within, List.all_cons, List.any_cons, Part.covers_self, Bool.true_or, List.all_nil, Bool.and_true]
      exact (only_policeFrame _ _ _).trans (by simp)

/-! ### Copies and mirrors -/

/-- What placing a copy may reach. -/
@[simp] def copyParts : List Part := releaseParts

@[simp] theorem only_mirrorCopy (m : Nat) (o : List Byte) (stamp fromPort : Nat) (hS : Within releaseParts S = true) :
    Only S (mirrorCopy m o stamp fromPort d) e ↔ Only S d e := by
  refine Only.iff (T := releaseParts) ?_ hS
  unfold mirrorCopy
  dsimp only
  rw [only_ite]
  refine ⟨fun _ => .refl _ d, fun _ => ?_⟩
  rw [only_ite]
  refine ⟨fun _ => by simp, fun _ => ?_⟩
  rw [only_ite]
  refine ⟨fun _ => by simp, fun _ => ?_⟩
  split <;> simp

@[simp] theorem only_mirrorAll (el p : Nat) (o : List Byte) (stamp fromPort : Nat) (hS : Within releaseParts S = true) :
    Only S (mirrorAll el p o stamp fromPort d) e ↔ Only S d e :=
  Only.iff (Only.foldl (S := releaseParts) _ (fun _ _ _ => by simp) d) hS

@[simp] theorem only_chargeShapers (p c : Nat) (o : List Byte) (hS : Within [.fab] S = true) :
    Only S (chargeShapers p c o d) e ↔ Only S d e := by
  refine Only.iff (T := [.fab]) ?_ hS
  unfold chargeShapers
  dsimp only
  rw [only_ite]
  refine ⟨fun _ => .refl _ d, fun _ => ?_⟩
  rw [only_setSwPort_of_kept (fun w => by split <;> rfl) (fun w => by split <;> rfl) (by decide)]
  simp

/-- A port begins to send. -/
@[simp] theorem only_setSending (p : Nat) (x : Option (Nat × Copy)) (hS : Within [.fab, .sends] S = true) :
    Only S (setSwPort p (fun w => { w with sending := x }) d) e ↔ Only S d e :=
  only_setSwPort_of_fenced (fun _ => rfl) hS

@[simp] theorem only_startCopy (p c : Nat) (x : Copy) (hS : Within endingParts S = true) :
    Only S (startCopy p c x d) e ↔ Only S d e :=
  Only.iff (T := endingParts) (by simp [startCopy]) hS

@[simp] theorem only_toResidue (q c : Nat) (x : Copy) (hS : Within releaseParts S = true) :
    Only S (toResidue q c x d) e ↔ Only S d e := by
  refine Only.iff (T := releaseParts) ?_ hS
  unfold toResidue
  split <;> simp

@[simp] theorem only_admitTo (r : Ready) (frame q : Nat) (hS : Within releaseParts S = true) :
    Only S (admitTo r frame q d) e ↔ Only S d e := by
  refine Only.iff (T := releaseParts) ?_ hS
  unfold admitTo
  dsimp only
  rw [only_ite]
  refine ⟨fun _ => by simp, fun _ => ?_⟩
  rw [only_ite]
  refine ⟨fun _ => by simp, fun _ => ?_⟩
  split <;> simp

@[simp] theorem only_maskDests (p : Nat) (ports : BitVec 16) (hS : Within [.fab] S = true) :
    Only S (maskDests p ports d).2 e ↔ Only S d e :=
  Only.iff (T := [.fab]) (Only.foldl _ (fun _ _ _ => by simp) d) hS

@[simp] theorem only_cutCopy (r : Ready) (frame q : Nat) (hS : Within endingParts S = true) :
    Only S (cutCopy r frame q d) e ↔ Only S d e :=
  Only.iff (T := endingParts) (by simp [cutCopy]) hS

@[simp] theorem only_finishDecision (r : Ready) (ports : BitVec 16) (routed policed : Bool) (hS : Within endingParts S = true) :
    Only S (finishDecision r ports routed policed d) e ↔ Only S d e := by
  refine Only.iff (T := endingParts) ?_ hS
  unfold finishDecision
  dsimp only
  split
  · simp
  · split
    · simp
    · rw [only_pauseCheckAll (by decide)]
      exact (Only.foldl _ (fun _ _ _ => by simp) _).trans (by simp)

/-! ### Routing -/

/-- What routing a frame may reach. -/
@[simp] def routeParts : List Part := .rt :: .odBook :: .irq :: endingParts

@[simp] theorem only_puntFrame (r : Ready) (reason v : Nat) (hS : Within endingParts S = true) :
    Only S (puntFrame r reason v d) e ↔ Only S d e :=
  Only.iff (T := endingParts) (by simp [puntFrame]) hS

@[simp] theorem only_tableFault (r : Ready) (v : Nat) (hS : Within routeParts S = true) :
    Only S (tableFault r v d) e ↔ Only S d e :=
  Only.iff (T := routeParts) (by simp [tableFault]) hS

@[simp] theorem only_routeDrop (p cause : Nat) (hS : Within [.fab, .rt] S = true) :
    Only S (routeDrop p cause d) e ↔ Only S d e :=
  Only.iff (T := [.fab, .rt]) (by simp [routeDrop]) hS

@[simp] theorem only_toLoop (r : Ready) (v : Nat) (rest : List Nat) (hS : Within routeParts S = true) :
    Only S (toLoop r v rest d) e ↔ Only S d e := by
  refine Only.iff (T := routeParts) ?_ hS
  unfold toLoop
  dsimp only
  split <;> simp

@[simp] theorem only_routeOn (r : Ready) (v : Nat) (x : RouteEnd) (hS : Within routeParts S = true) :
    Only S (routeOn r v x d) e ↔ Only S d e := by
  refine Only.iff (T := routeParts) ?_ hS
  unfold routeOn
  split <;> simp

/-! ### The decision -/

/-- What the decision of a frame may reach. -/
@[simp] def decisionParts : List Part := .st :: .cls :: routeParts

@[simp] theorem only_decideFrame (p tc : Nat) (o : List Byte) (stamp : Nat) (hS : Within decisionParts S = true) :
    Only S (decideFrame p tc o stamp d) e ↔ Only S d e := by
  refine Only.iff (T := decisionParts) ?_ hS
  unfold decideFrame
  dsimp only
  split
  · simp
  · split
    · simp
    · simp
    · generalize hc : (ite (p = 13) _ _ : ClassEnd × Dev) = r
      have hr : Only decisionParts r.2 d := by
        subst hc
        split
        · simp
        · split
          · simp
          · split
            · simp
            · exact ((only_classify _ _ _).mono (by decide)).trans (by simp)
      have hend (k : ClassEnd) (u w : Dev) (hw : Only decisionParts w u) :
          Only decisionParts (match k.mirror with | some m => mirrorCopy m o stamp p w | none => w) u := by
        split
        · simpa using hw
        · exact hw
      refine (hend r.1 r.2 _ (only_ite.mpr ⟨fun _ => by simp, fun _ => ?_⟩)).trans hr
      split
      · split <;> simp
      · simp

@[simp] theorem only_pauseReceived (p quanta : Nat) (hS : Within releaseParts S = true) :
    Only S (pauseReceived p quanta d) e ↔ Only S d e :=
  Only.iff (T := releaseParts) (by simp [pauseReceived]) hS

@[simp] theorem only_macControl (p : Nat) (o : List Byte) (hS : Within releaseParts S = true) :
    Only S (macControl p o d) e ↔ Only S d e :=
  Only.iff (T := releaseParts) (by simp [macControl]) hS

@[simp] theorem only_receiveFrame (p tc : Nat) (o : List Byte) (rxOk : Bool) (stamp : Nat) (hS : Within decisionParts S = true) :
    Only S (receiveFrame p tc o rxOk stamp d) e ↔ Only S d e :=
  Only.iff (T := decisionParts) (by simp [receiveFrame]) hS

@[simp] theorem only_frameDecision (p : Nat) (o : List Byte) (rxOk : Bool) (firstNs : Nat) (ecc : List EccHit)
    (hS : Within decisionParts S = true) : Only S (frameDecision p o rxOk firstNs ecc d) e ↔ Only S d e :=
  Only.iff (T := decisionParts) (by simp [frameDecision]) hS

end

end Sys2Proof.Proofs.Frames


/-! The Nguzo node: what it receives, and how its states follow (chapter 9). -/

namespace Sys2Proof.Proofs.NguzoReception

open Sys2Proof Sys2Proof.Machine Sys2Proof.Safety
open Sys2Proof.Proofs.StepAndTimers
open Sys2Proof.Proofs.ShapersAndTally
open Sys2Proof.Proofs.Frames
open Sys2Proof.Proofs.Running
open Sys2Proof.Proofs.NguzoBus
open Sys2Proof.Proofs.TimeSources (expired_tm)

/-! ### Operations of the node -/

section
variable {d e : Dev} {S : List Part} {b : Bool} {f : NgFrame}

theorem whileBus_of_wired (hbank : d.aon.bankN = true) (hheld : b = true → unitHeld d .nguzoB = false) (g : Dev → Dev) :
    whileBus b g d = g d := by
  have hfree : (b && unitHeld d .nguzoB) = false := by
    cases b
    · rfl
    · exact hheld rfl
  unfold whileBus whileBank
  rw [if_neg (by simp [hfree]), if_pos hbank]

/-- What entering LISTEN reaches: the node and its listen timer. -/
theorem only_enterListen_node (hS : Within [.ng, .timer .listen] S = true) : Only S (enterListen d) e ↔ Only S d e :=
  Only.iff (T := [.ng, .timer .listen]) (by simp [enterListen]) hS

theorem armed_enterListen : armed .listen (enterListen d) = true := armed_arm_self _ _ _

@[simp] theorem only_countFault (x : FrameFault) (hS : Within [.ng] S = true) : Only S (countFault b x d) e ↔ Only S d e :=
  Only.iff (T := [.ng]) (by simp [countFault]) hS

@[simp] theorem only_noteBusy (hS : Within [.ng] S = true) : Only S (noteBusy b f d) e ↔ Only S d e :=
  Only.iff (T := [.ng]) (by simp [noteBusy]) hS

@[simp] theorem only_coldstartAbort (hS : Within [.ng, .timer .listen] S = true) : Only S (coldstartAbort d) e ↔ Only S d e :=
  Only.iff (T := [.ng, .timer .listen]) (by simp [coldstartAbort, only_enterListen_node]) hS

@[simp] theorem only_markBoth (t : Taken) (hS : Within [.fab] S = true) : Only S (markBoth t d) e ↔ Only S d e :=
  Only.iff (T := [.fab]) (by simp [markBoth]) hS

@[simp] theorem only_synchronise (hS : Within [.ng] S = true) : Only S (synchronise d) e ↔ Only S d e :=
  Only.iff (T := [.ng]) (by simp [synchronise]) hS

/-- An enabled stream is placed again. -/
def rebaseStream (d : Dev) (k : Nat) : Dev := if (epochOf d k).enabled then setEpoch k (epochPlaced (schedNs d)) d else d

theorem epochsRebase_eq : epochsRebase d = (List.range 16).foldl rebaseStream d := rfl

@[simp] theorem only_epochsRebase (hS : Within [.tm] S = true) : Only S (epochsRebase d) e ↔ Only S d e := by
  rw [epochsRebase_eq]
  exact Only.iff (Only.foldl (S := [.tm]) _ (fun _ _ _ => by simp [rebaseStream]) d) hS

theorem inForce_epochsRebase : (epochsRebase d).tm.inForce = d.tm.inForce := by
  rw [epochsRebase_eq]
  refine List.foldlRecOn (motive := fun u : Dev => u.tm.inForce = d.tm.inForce) _ _ rfl fun u hu k _ => ?_
  unfold rebaseStream
  split
  · exact hu
  · exact hu

/-- A default is read of the variant alone. -/
theorem defaultOf_congr {t : Dev} (hotp : t.otp = d.otp) (obj el : Nat) : defaultOf t obj el = defaultOf d obj el := by
  show defaultOf { d with otp := t.otp } obj el = _
  rw [hotp]

/-- A value in force is read of what is in force and of the defaults. -/
theorem force_congr {t : Dev} (hforce : t.tm.inForce = d.tm.inForce) (hod : t.od.dflt = d.od.dflt) (hotp : t.otp = d.otp)
    (obj el : Nat) : force t obj el = force d obj el := by
  unfold force odDefault
  rw [hforce, hod, defaultOf_congr hotp]

end

/-! ### A frame on a running node -/

section
variable {d : Dev} {b : Bool} {f : NgFrame}
variable (hon : (chan d b).enabled = true) (hstate : (chan d b).state ∉ [ChanState.off, .clamped, .recovering])
include hon hstate

/-- A frame that fails a test on a node with a cycle. -/
theorem received_faulty {x : FrameFault} (hnode : d.ng.node = .integrating ∨ d.ng.node = .synchronised)
    (hfault : frameFault d b f = some x) :
    nguzoFrameReceived b f d = countFault b x (if (slotAt d f).isNone then noteBusy b f d else d) := by
  simp only [List.mem_cons, List.not_mem_nil, or_false, not_or] at hstate
  obtain ⟨hoff, hclamped, hrecovering⟩ := hstate
  obtain ⟨u, hu⟩ : ∃ u, u = if (slotAt d f).isNone then noteBusy b f d else d := ⟨_, rfl⟩
  have hcold : (countFault b x u).ng.node ≠ .coldstart := by
    have hsame : (countFault b x u).ng.node = d.ng.node := by
      subst hu
      split <;> cases b <;> rfl
    rw [hsame]
    rcases hnode with h | h <;> simp [h]
  have hlisten : d.ng.node ≠ .listen := by rcases hnode with h | h <;> simp [h]
  have hrun : d.ng.node ≠ .off := by rcases hnode with h | h <;> simp [h]
  unfold nguzoFrameReceived
  rw [if_neg (by simp [hon, hrun, hoff, hclamped]), if_neg hrecovering, if_neg hlisten, hfault]
  dsimp only
  rw [← hu]
  split
  · exact if_neg fun h => hcold h.1
  · rfl

/-- A coldstarting node meets a faulty frame in another's slot, or another's START. -/
theorem received_conflict {k : Nat} (hnode : d.ng.node = .coldstart) (hslot : slotAt d f = some k) (hk : k ≠ busPar d 12)
    (hmeets : (frameFault d b f).isSome = true ∨ f.start = true) :
    ∃ g : Chan → Chan, nguzoFrameReceived b f d = coldstartAbort (setChan b g d) := by
  simp only [List.mem_cons, List.not_mem_nil, or_false, not_or] at hstate
  obtain ⟨hoff, hclamped, hrecovering⟩ := hstate
  unfold nguzoFrameReceived
  rw [if_neg (by simp [hon, hnode, hoff, hclamped]), if_neg hrecovering, if_neg (by simp [hnode])]
  simp only [hslot, Option.isNone_some, Bool.false_eq_true, if_false]
  cases hfault : frameFault d b f with
  | some x =>
    obtain ⟨g, hg⟩ : ∃ g, countFault b x d = setChan b g d := ⟨_, rfl⟩
    refine ⟨g, ?_⟩
    rw [← hg]
    have hslot' : slotAt (countFault b x d) f = some k := hslot
    have hnode' : (countFault b x d).ng.node = .coldstart := by cases b <;> exact hnode
    dsimp only
    rw [hslot']
    exact if_pos ⟨hnode', hk⟩
  | none =>
    refine ⟨_, if_pos ⟨hnode, ?_, ?_⟩⟩
    · simpa [hfault] using hmeets
    · have hid : f.slotId.toNat = k := by
        unfold frameFault at hfault
        split at hfault
        · cases hfault
        · rw [hslot] at hfault
          dsimp only at hfault
          split at hfault
          · cases hfault
          next h => exact not_not.mp (not_or.mp h).1
      rw [hid]
      exact hk

/-- A later copy of a valid frame that both channels carry. -/
theorem received_again {x : Taken} (hnode : d.ng.node = .synchronised) (hfault : frameFault d b f = none) (hsync : f.sync = false)
    (hboth : assignedAb d f.slotId.toNat = true)
    (hother : (d.ng.taken.find? fun t => t.id == f.slotId.toNat && t.chB != b) = some x) :
    ∃ g : Chan → Chan, (∀ c, (g c).rxValid = satInc c.rxValid) ∧ nguzoFrameReceived b f d = discardCopy x f (setChan b g d) := by
  simp only [List.mem_cons, List.not_mem_nil, or_false, not_or] at hstate
  obtain ⟨hoff, hclamped, hrecovering⟩ := hstate
  obtain ⟨g, hg, hu⟩ : ∃ g : Chan → Chan, (∀ c, (g c).rxValid = c.rxValid) ∧
      (if (slotAt d f).isNone then noteBusy b f d else d) = setChan b g d := by
    split
    · exact ⟨fun c => { c with
        minislot := max c.minislot ((f.endNs.toNat - staticNs d) / minislotNs d)
        busyUntil := max c.busyUntil (f.endNs.toNat - staticNs d + us) }, fun _ => rfl, rfl⟩
    · exact ⟨id, fun _ => rfl, by cases b <;> rfl⟩
  refine ⟨fun c => { g c with rxValid := satInc (g c).rxValid }, fun c => congrArg satInc (hg c), ?_⟩
  unfold nguzoFrameReceived
  rw [if_neg (by simp [hon, hnode, hoff, hclamped]), if_neg hrecovering, if_neg (by simp [hnode]), hfault]
  dsimp only
  rw [hu]
  have hnode' : (setChan b g d).ng.node ≠ .coldstart := by
    have hsame : (setChan b g d).ng.node = .synchronised := by cases b <;> exact hnode
    simp [hsame]
  have hother' : ((setChan b g d).ng.taken.find? fun t => t.id == f.slotId.toNat && t.chB != b) = some x := by cases b <;> exact hother
  rw [if_neg fun h => hnode' h.1]
  have hslot (h : Chan → Chan) (u : Dev) : slotAt (setChan b h u) f = slotAt u f := rfl
  have hboth' (h : Chan → Chan) : assignedAb (setChan b h (setChan b g d)) f.slotId.toNat = true := hboth
  unfold validFrame
  cases hs : slotAt d f <;> simp only [hslot, hs, hsync, hother', hboth', if_true, Bool.false_eq_true, if_false] <;> cases b <;> rfl

end

/-! ### A copy taken -/

section
variable {d : Dev} {b : Bool} {f : NgFrame} {rx : Int}

theorem only_zopFrame : Only [.odBook, .ng] (zopFrame b f d) d := by
  unfold zopFrame
  split
  · exact .refl _ d
  · exact (only_onOd_book rfl rfl rfl (by decide)).mpr (by simp)

/-- What the node's record keeps when a copy is taken. -/
def Kept (n m : Nguzo) : Prop :=
  n = { m with inbox := n.inbox, fromBus := n.fromBus, taken := n.taken }

theorem takenFrame_eq : takenFrame b f rx d = zopFrame b f d ∨ takenFrame b f rx d = d ∨
    (f.null = false ∧ gatewayEntry d f.slotId.toNat 0 ≠ none ∧ ∃ tc o, takenFrame b f rx d =
      receiveFrame 14 tc o true d.now (onNg (fun n => { n with fromBus := satInc n.fromBus }) d)) := by
  unfold takenFrame
  split
  · exact .inl rfl
  · split
    · exact .inr (.inl rfl)
    next hnull =>
      cases hg : gatewayEntry d f.slotId.toNat 0 with
      | none => exact .inr (.inl rfl)
      | some g => exact .inr (.inr ⟨Bool.eq_false_iff.mpr hnull, by simp, _, _, rfl⟩)

theorem only_takenFrame : Only (.ng :: decisionParts) (takenFrame b f rx d) d := by
  rcases takenFrame_eq (b := b) (f := f) (rx := rx) (d := d) with h | h | ⟨-, -, tc, o, h⟩
  · rw [h]; exact only_zopFrame.mono (by decide)
  · rw [h]; exact .refl _ d
  · rw [h]; simp

/-- A frame that no gateway entry takes reaches the engine alone. -/
theorem only_takenFrame_of_untaken (h : f.null = true ∨ gatewayEntry d f.slotId.toNat 0 = none) :
    Only [.odBook, .ng] (takenFrame b f rx d) d := by
  rcases takenFrame_eq (b := b) (f := f) (rx := rx) (d := d) with h' | h' | ⟨hnull, hentry, -⟩
  · rw [h']; exact only_zopFrame
  · rw [h']; exact .refl _ d
  · rcases h with h | h
    · rw [hnull] at h; cases h
    · exact absurd h hentry

theorem kept_takenFrame : Kept (takenFrame b f rx d).ng d.ng := by
  rcases takenFrame_eq (b := b) (f := f) (rx := rx) (d := d) with h | h | ⟨-, -, tc, o, h⟩
  · rw [h]
    unfold zopFrame
    split <;> rfl
  · rw [h]; rfl
  · rw [h]
    have honly : Only decisionParts (receiveFrame 14 tc o true d.now (onNg (fun n => { n with fromBus := satInc n.fromBus }) d))
      (onNg (fun n => { n with fromBus := satInc n.fromBus }) d) := by simp
    rw [honly.ng rfl]
    rfl

theorem kept_takeCopy : Kept (takeCopy b f rx d).ng d.ng := by
  have h := kept_takenFrame (b := b) (f := f) (rx := rx) (d := d)
  unfold takeCopy
  dsimp only
  rw [onNg_ng, h]
  rfl

theorem only_takeCopy {S : List Part} (h : Only S (takenFrame b f rx d) d) (hS : Within [.ng] S = true) :
    Only S (takeCopy b f rx d) d := by
  unfold takeCopy
  exact (only_onNg _ hS).mpr h

end

section
variable {d : Dev} {x : Taken} {f : NgFrame}

theorem only_discardCopy : Only [.fab, .free, .ng] (discardCopy x f d) d := by simp [discardCopy]

theorem only_discardCopy_late (h : 412 < f.endNs - x.endNs) : Only [.ng] (discardCopy x f d) d := by
  unfold discardCopy
  dsimp only
  rw [only_onNg _ (by decide), if_neg (by omega), if_neg (by omega)]
  exact .refl _ d

theorem discardCopy_ng : (discardCopy x f d).ng = { d.ng with
    dupDiscard := satInc d.ng.dupDiscard, abMismatch := if x.crc = f.crc then d.ng.abMismatch else satInc d.ng.abMismatch } := by
  unfold discardCopy
  dsimp only
  rw [onNg_ng]
  split
  · rfl
  · split
    · split <;> rfl
    · rfl

end

/-! ### A SYNC frame in LISTEN -/

section
variable {d : Dev} {b : Bool} {f : NgFrame}
variable (hon : (chan d b).enabled = true) (hstate : (chan d b).state ∉ [ChanState.off, .clamped, .recovering])
  (hnode : d.ng.node = .listen) (hsync : syncInListen d f = true)
include hon hstate hnode hsync

/-- A node in LISTEN that meets a valid SYNC frame tries to integrate on it. -/
theorem received_sync : nguzoFrameReceived b f d =
    if (integrate b f.slotId.toNat f (setChan b (fun c => { c with rxValid := satInc c.rxValid }) d)).ng.node = .integrating then
      takeCopy b f (edgeTai d f) (integrate b f.slotId.toNat f (setChan b (fun c => { c with rxValid := satInc c.rxValid }) d))
    else integrate b f.slotId.toNat f (setChan b (fun c => { c with rxValid := satInc c.rxValid }) d) := by
  simp only [List.mem_cons, List.not_mem_nil, or_false, not_or] at hstate
  obtain ⟨hoff, hclamped, hrecovering⟩ := hstate
  have hparts := hsync
  simp only [syncInListen, Bool.and_eq_true, decide_eq_true_eq, Option.isNone_iff_eq_none] at hparts
  obtain ⟨⟨⟨⟨⟨hbits, -⟩, hflags⟩, hlow⟩, hhigh⟩, hlength⟩ := hparts
  have hcontent : listenContentOk d f = true := by
    have hid : ¬ f.slotId = 0#10 := by
      intro h
      rw [h] at hlow
      exact absurd hlow (by decide)
    simp [listenContentOk, hid, hflags, hhigh, hlength]
  unfold nguzoFrameReceived
  rw [if_neg (by simp [hon, hnode, hoff, hclamped]), if_neg hrecovering, if_pos hnode, hbits]
  dsimp only
  rw [hcontent, hsync]
  rfl

theorem received_follows (hanchor : isAnchor d = false) :
    ∃ u, nguzoFrameReceived b f d = takeCopy b f (edgeTai d f) u ∧ Only [.tm, .ng, .timer .listen] u d ∧
      u.ng = { (setChan b (fun c => { c with rxValid := satInc c.rxValid }) d).ng with
        node := .integrating, cycle := f.cycle, joinCycle := true, fullOk := false } ∧
      armed .listen u = false ∧ u.tm.inForce = d.tm.inForce := by
  obtain ⟨v, hv⟩ : ∃ v, v = setChan b (fun c => { c with rxValid := satInc c.rxValid }) d := ⟨_, rfl⟩
  obtain ⟨u, hu⟩ : ∃ u, u = integrate b f.slotId.toNat f v := ⟨_, rfl⟩
  have hanchor' : isAnchor v = false := by rw [hv]; exact hanchor
  have hshape : ∃ delta near, u = disarm .listen (onNg (fun x => { x with
        node := .integrating, cycle := f.cycle, joinCycle := true, fullOk := false })
      (onTm (fun t => { t with cycleIndex := toTwos 32 near }) (epochsRebase (stepTime delta v)))) := by
    rw [hu]
    unfold integrate
    dsimp only
    rw [hanchor']
    exact ⟨_, _, rfl⟩
  obtain ⟨delta, near, hshape⟩ := hshape
  have hstepped : Only [.tm] (epochsRebase (stepTime delta v)) v := by simp
  have hforce : (epochsRebase (stepTime delta v)).tm.inForce = d.tm.inForce := inForce_epochsRebase.trans (by rw [hv]; rfl)
  generalize epochsRebase (stepTime delta v) = w at hshape hstepped hforce
  have hng : u.ng = { v.ng with node := .integrating, cycle := f.cycle, joinCycle := true, fullOk := false } := by
    rw [hshape]
    exact congrArg (fun n : Nguzo => { n with node := .integrating, cycle := f.cycle, joinCycle := true, fullOk := false })
      (hstepped.ng rfl)
  refine ⟨u, ?_, ?_, by rw [hng, hv], ?_, ?_⟩
  · rw [received_sync hon hstate hnode hsync, ← hv, ← hu, if_pos (by rw [hng])]
  · rw [hshape, only_disarm _ (by decide), only_onNg _ (by decide), only_onTm _ (by decide)]
    exact (hstepped.mono (by decide)).trans (by rw [hv]; simp)
  · rw [hshape]
    exact armed_disarm_self _ _
  · rw [hshape]
    exact hforce

theorem received_disagrees (hanchor : isAnchor d = true)
    (hdiffers : busPar d 15 < (deviation d b f.slotId.toNat f).natAbs ∨ f.cycle.toNat ≠ d.tm.cycleIndex % 256) :
    nguzoFrameReceived b f d = enterListen (onNg (fun x => { x with anchorConflict := satInc x.anchorConflict })
      (setChan b (fun c => { c with rxValid := satInc c.rxValid }) d)) := by
  obtain ⟨v, hv⟩ : ∃ v, v = setChan b (fun c => { c with rxValid := satInc c.rxValid }) d := ⟨_, rfl⟩
  have hshape : integrate b f.slotId.toNat f v = enterListen (onNg (fun x => { x with anchorConflict := satInc x.anchorConflict }) v) := by
    have hanchor' : isAnchor v = true := by rw [hv]; exact hanchor
    have hdiffers' : ¬ ((deviation v b f.slotId.toNat f).natAbs ≤ busPar v 15 ∧ f.cycle.toNat = v.tm.cycleIndex % 256) := by
      rw [hv]
      rintro ⟨h1, h2⟩
      rcases hdiffers with h | h
      · exact absurd h1 (not_le.mpr h)
      · exact h h2
    unfold integrate
    dsimp only
    rw [if_pos hanchor', if_neg hdiffers']
  rw [received_sync hon hstate hnode hsync, ← hv, hshape]
  exact if_neg (show NodeState.listen ≠ NodeState.integrating by decide)

end

/-! ### The end of a cycle -/

section
variable {d : Dev}

theorem chan_bothChans (b : Bool) (g : Chan → Chan) : chan (bothChans g d) b = g (chan d b) := by cases b <;> rfl

/-- The channels after a cycle, judged, and the cycle marked as ended. -/
def judged (d : Dev) : Dev :=
  bothChans (recover d) (onNg (fun n => { n with ended := true }) d)

theorem cycleEnd_synchronises (hended : d.ng.ended = false) (heven : d.ng.cycle.getLsbD 0 = false)
    (hready : d.ng.node = .integrating ∧ d.ng.joinCycle = false ∧ d.ng.fullOk = true ∨ d.ng.node = .coldstart ∧ d.ng.coldCycles = 4) :
    cycleEnd d = onNg (fun n => { n with fullOk := false }) (synchronise (judged d)) := by
  have heven' : (judged d).ng.cycle.getLsbD 0 = false := heven
  unfold cycleEnd
  rw [if_neg (by rcases hready with ⟨h, -⟩ | ⟨h, -⟩ <;> simp [h, hended])]
  dsimp only
  rw [show bothChans _ _ = judged d from rfl, heven', if_neg (by decide)]
  rcases hready with ⟨hnode, hjoin, hok⟩ | ⟨hnode, hcold⟩
  · rw [show (judged d).ng.node = .integrating from hnode]
    dsimp only
    rw [if_neg (by rw [show (judged d).ng.joinCycle = false from hjoin]; decide), if_pos (show (judged d).ng.fullOk = true from hok)]
  · rw [show (judged d).ng.node = .coldstart from hnode]
    dsimp only
    rw [if_pos (show (judged d).ng.coldCycles = 4 from hcold)]

theorem cycleEnd_relistens (hended : d.ng.ended = false) (heven : d.ng.cycle.getLsbD 0 = false) (hnode : d.ng.node = .integrating)
    (hjoin : d.ng.joinCycle = false) (hok : d.ng.fullOk = false) :
    cycleEnd d = onNg (fun n => { n with fullOk := false }) (enterListen (judged d)) := by
  have heven' : (judged d).ng.cycle.getLsbD 0 = false := heven
  unfold cycleEnd
  rw [if_neg (by simp [hnode, hended])]
  dsimp only
  rw [show bothChans _ _ = judged d from rfl, heven', if_neg (by decide), show (judged d).ng.node = .integrating from hnode]
  dsimp only
  rw [if_neg (by rw [show (judged d).ng.joinCycle = false from hjoin]; decide),
    if_neg (by rw [show (judged d).ng.fullOk = false from hok]; decide)]

@[simp] theorem only_judged : Only [.ng] (judged d) d := by simp [judged]

theorem recover_joining {c : Chan} (h : c.state = .joining) : (recover d c).state = .joining := by
  unfold recover
  rw [if_pos (by simp [h])]
  exact h

end

/-! ### The guardian and the listen timer -/

section
variable {d : Dev} {b : Bool} {n : Nat}

/-- The cycles of the guardian's cuts within 64 cycles, this one among them. -/
def recentTrips (d : Dev) : List Nat :=
  (d.ng.tripCycles.filter fun x => decide ((d.tm.cycleIndex + 2 ^ 32 - x) % 2 ^ 32 < 64)) ++ [d.tm.cycleIndex]

theorem guardTrip_closed (hnode : d.ng.node ≠ .off) (hon : (chan d b).enabled = true) (hclosed : guardOpen d b n = false) :
    guardTrip b n d =
      if busPar d 18 ≤ (recentTrips d).length ∧ d.ng.node = .synchronised then
        enterListen (onNg (fun m => { m with tripCycles := [] })
          (onNg (fun m => { m with guardTrip := satInc m.guardTrip, tripCycles := recentTrips d }) d))
      else onNg (fun m => { m with guardTrip := satInc m.guardTrip, tripCycles := recentTrips d }) d := by
  unfold guardTrip
  exact if_neg (by simp [hnode, hon, hclosed])

end

/-- Settles O47. -/
theorem nguzoReceiving : Obligations.NguzoReceiving := by
  unfold Obligations.NguzoReceiving
  refine ⟨fun s b f hbank hheld hon hstate => ?_, fun s b hbank hheld hnode => ?_, fun s b n hnode hon => ?_,
    fun s harmed hnode => ?_, fun s hended heven hready => ?_, fun s hended heven hnode hjoin hok => ?_⟩
  · have hwired : whileBus b (nguzoFrameReceived b f) (hush s.dev) = nguzoFrameReceived b f (hush s.dev) :=
      whileBus_of_wired (d := hush s.dev) hbank hheld _
    refine ⟨fun x hnode hfault => ?_, fun k hnode hslot hk hmeets => ?_, fun x hnode hfault hsync hboth hother => ?_,
      fun hnode hanchor hsync => ?_, fun hnode hanchor hsync hdiffers => ?_⟩
    · exact answers_became (f := whileBus b (nguzoFrameReceived b f)) rfl
        (hwired.trans (received_faulty (d := hush s.dev) hon hstate hnode hfault))
    · obtain ⟨g, hg⟩ := received_conflict (d := hush s.dev) hon hstate hnode hslot hk hmeets
      refine answers_of_effect (f := whileBus b (nguzoFrameReceived b f)) rfl (hwired.trans hg) ?_
      obtain ⟨u, hu⟩ : ∃ u, u = coldstartAbort (setChan b g (hush s.dev)) := ⟨_, rfl⟩
      have honly : Only [.ng, .timer .listen] u (hush s.dev) := by subst hu; simp
      have hall : Only [.ng, .timer .listen, .odBook, .irq, .out] (settle u) s.dev := by subst hu; simp
      have hcount : u.ng.coldstartAbort = satInc s.dev.ng.coldstartAbort := by subst hu; cases b <;> rfl
      have harmed : armed .listen u = true := by subst hu; exact armed_enterListen
      have hlisten : u.ng.node = .listen := by subst hu; rfl
      rw [← hu]
      exact ⟨by rw [settle_ng]; exact hlisten, by rw [armed_settle]; exact harmed, by rw [settle_ng]; exact hcount,
        by rw [settle_out]; exact honly.out rfl, hall.sameSwitch rfl, hall.samePower rfl, hall.tm rfl, hall.sameStores rfl,
        hall.sameAon rfl⟩
    · obtain ⟨g, hvalid, hg⟩ := received_again (d := hush s.dev) hon hstate hnode hfault hsync hboth hother
      refine answers_of_effect (f := whileBus b (nguzoFrameReceived b f)) rfl (hwired.trans hg) ?_
      obtain ⟨v, hv⟩ : ∃ v, v = setChan b g (hush s.dev) := ⟨_, rfl⟩
      have hv' : Only [.ng, .out, .odBook] v s.dev := by subst hv; simp
      have hchan : chan v b = g (chan s.dev b) := by subst hv; exact chan_setChan_self _ _
      have hmismatch : v.ng.abMismatch = s.dev.ng.abMismatch := by subst hv; cases b <;> rfl
      have hdup : v.ng.dupDiscard = s.dev.ng.dupDiscard := by subst hv; cases b <;> rfl
      have htaken : v.ng.taken = s.dev.ng.taken := by subst hv; cases b <;> rfl
      have hinbox : v.ng.inbox = s.dev.ng.inbox := by subst hv; cases b <;> rfl
      have hng := discardCopy_ng (d := v) (x := x) (f := f)
      have hlate := only_discardCopy_late (d := v) (x := x) (f := f)
      have hdiscard := only_discardCopy (d := v) (x := x) (f := f)
      rw [← hv]
      generalize discardCopy x f v = w at hng hlate hdiscard
      have hall : Only [.fab, .free, .ng, .odBook, .irq, .out] (settle w) s.dev :=
        (only_settle (by decide)).mpr ((hdiscard.mono (by decide)).trans (hv'.mono (by decide)))
      refine ⟨?_, ?_, ?_, ?_, ?_, fun hgap => ?_, hall.samePower rfl, hall.tm rfl, hall.sameStores rfl, hall.sameAon rfl⟩
      · rw [settle_ng, hng, ← hdup]
      · rw [chan_settle]
        have hsame : chan w b = chan v b := by unfold chan; rw [hng]
        rw [hsame, hchan, hvalid]
      · rw [settle_ng, hng, ← hmismatch]
      · rw [settle_ng, hng, ← htaken]
      · rw [settle_ng, hng, ← hinbox]
      · exact ((only_settle (S := [.ng, .odBook, .irq, .out]) (by decide)).mpr
          (((hlate hgap).mono (by decide)).trans (hv'.mono (by decide)))).sameSwitch rfl
    · obtain ⟨u, heffect, hjoined, hng, harmed, hforce⟩ := received_follows (d := hush s.dev) hon hstate hnode hsync hanchor
      refine answers_of_effect (f := whileBus b (nguzoFrameReceived b f)) rfl (hwired.trans heffect) ?_
      generalize edgeTai (hush s.dev) f = rx
      have hkept := kept_takeCopy (b := b) (f := f) (rx := rx) (d := u)
      have hcopy : Only (.ng :: decisionParts) (takeCopy b f rx u) u := only_takeCopy only_takenFrame (by decide)
      have huntaken (h : f.null = true ∨ gatewayEntry s.dev f.slotId.toNat 0 = none) :
          Only [.odBook, .ng] (takeCopy b f rx u) u := by
        refine only_takeCopy (only_takenFrame_of_untaken (h.imp_right fun h => ?_)) (by decide)
        have hforce' (obj el : Nat) : force u obj el = force (hush s.dev) obj el :=
          force_congr hforce (congrArg Od.dflt (hjoined.od rfl)) (hjoined.otp rfl) obj el
        simp only [gatewayEntry, hforce']
        exact h
      generalize takeCopy b f rx u = w at hkept hcopy huntaken
      have hvalid : (chan u b).rxValid = satInc (chan s.dev b).rxValid := by
        unfold chan
        rw [hng]
        cases b <;> rfl
      refine ⟨by rw [settle_ng, hkept, hng], by rw [settle_ng, hkept, hng], by rw [settle_ng, hkept, hng], ?_, ?_, fun hnone => ?_⟩
      · rw [armed_settle, hcopy.armed _ rfl]
        exact harmed
      · rw [chan_settle, ← hvalid]
        unfold chan
        rw [hkept]
      · have hw : Only [.odBook, .irq, .ng] (settle w) u := (only_settle (by decide)).mpr ((huntaken hnone).mono (by decide))
        have hall : Only [.tm, .ng, .timer .listen, .odBook, .irq, .out] (settle w) s.dev :=
          (hw.mono (by decide)).trans ((hjoined.mono (by decide)).trans (by simp))
        refine ⟨?_, hall.sameSwitch rfl, hall.samePower rfl, hall.sameStores rfl, hall.sameAon rfl⟩
        rw [hw.out rfl, hjoined.out rfl]
        rfl
    · have heffect := received_disagrees (d := hush s.dev) hon hstate hnode hsync hanchor hdiffers
      refine answers_of_effect (f := whileBus b (nguzoFrameReceived b f)) rfl (hwired.trans heffect) ?_
      generalize hu : enterListen _ = u
      have honly : Only [.ng, .timer .listen] u (hush s.dev) := by subst hu; simp [only_enterListen_node]
      have hall : Only [.ng, .timer .listen, .odBook, .irq, .out] (settle u) s.dev := by subst hu; simp [only_enterListen_node]
      have hcount : u.ng.anchorConflict = satInc s.dev.ng.anchorConflict := by subst hu; cases b <;> rfl
      have harmed : armed .listen u = true := by subst hu; exact armed_enterListen
      have hlisten : u.ng.node = .listen := by subst hu; rfl
      exact ⟨by rw [settle_ng]; exact hlisten, by rw [armed_settle]; exact harmed, by rw [settle_ng]; exact hcount,
        by rw [settle_out]; exact honly.out rfl, hall.sameSwitch rfl, hall.samePower rfl, hall.tm rfl, hall.sameStores rfl,
        hall.sameAon rfl⟩
  · have hwired (g : Dev → Dev) : whileBus b g (hush s.dev) = g (hush s.dev) := whileBus_of_wired (d := hush s.dev) hbank hheld g
    refine ⟨fun hon hfree => ?_, ?_, fun hclamped => ⟨?_, ?_⟩⟩
    · have heffect : channelClamp b false (hush s.dev) = setChan b (fun c =>
          { c with state := .clamped, clampCount := min (c.clampCount + 1) 0xFFFF, sawSync := false }) (hush s.dev) := by
        have hon' : (chan (hush s.dev) b).enabled = true := hon
        have hfree' : (chan (hush s.dev) b).state ≠ .clamped := hfree
        have hnode' : (hush s.dev).ng.node ≠ .off := hnode
        refine if_neg ?_
        rw [not_or, not_or, not_or, hon']
        exact ⟨Bool.false_ne_true, hnode', by decide, hfree'⟩
      refine answers_of_effect (f := whileBus b (channelClamp b false)) rfl ((hwired _).trans heffect) ?_
      generalize hu : setChan b _ (hush s.dev) = u
      have hall : Only [.ng, .odBook, .irq, .out] (settle u) s.dev := by subst hu; simp
      refine ⟨?_, ?_, ?_, ?_, hall.sameSwitch rfl, hall.samePower rfl, hall.tm rfl, hall.sameStores rfl, hall.sameAon rfl⟩
      · rw [chan_settle, ← hu, chan_setChan_self]
      · rw [chan_settle, ← hu, chan_setChan_self]; rfl
      · rw [chan_settle, ← hu, chan_setChan_not]; rfl
      · rw [settle_ng, ← hu]; cases b <;> rfl
    · have heffect : channelClamp b true (hush s.dev) = hush s.dev := by
        unfold channelClamp
        exact if_pos (.inl rfl)
      exact answers_became (f := whileBus b (channelClamp b true)) rfl ((hwired _).trans heffect)
    · have heffect : nitProbe b true (hush s.dev) = _ := if_pos ⟨hclamped, rfl⟩
      refine answers_of_effect (f := whileBus b (nitProbe b true)) rfl ((hwired _).trans heffect) ?_
      generalize hu : setChan b _ (hush s.dev) = u
      have hall : Only [.ng, .odBook, .irq, .out] (settle u) s.dev := by subst hu; simp
      refine ⟨?_, ?_, ?_, hall.sameSwitch rfl, hall.samePower rfl, hall.tm rfl, hall.sameStores rfl⟩
      · rw [chan_settle, ← hu, chan_setChan_self]
      · rw [chan_settle, ← hu, chan_setChan_not]; rfl
      · rw [settle_ng, ← hu]; cases b <;> rfl
    · have heffect : nitProbe b false (hush s.dev) = hush s.dev := if_neg (by simp)
      exact answers_became (f := whileBus b (nitProbe b false)) rfl ((hwired _).trans heffect)
  · refine ⟨fun hopen => ?_, fun hclosed => ?_⟩
    · have hopen' : guardOpen (hush s.dev) b n = true := hopen
      exact answers_became (f := guardTrip b n) rfl (if_pos (.inr (.inr hopen')))
    · refine answers_of_effect (f := guardTrip b n) rfl (guardTrip_closed (d := hush s.dev) hnode hon hclosed) ?_
      obtain ⟨u, hu⟩ : ∃ u, u = onNg (fun m => { m with guardTrip := satInc m.guardTrip, tripCycles := recentTrips s.dev }) (hush s.dev) :=
        ⟨_, rfl⟩
      obtain ⟨w, hw⟩ : ∃ w, w = enterListen (onNg (fun m => { m with tripCycles := [] }) u) := ⟨_, rfl⟩
      rw [show onNg (fun m => { m with guardTrip := satInc m.guardTrip, tripCycles := recentTrips (hush s.dev) }) (hush s.dev) = u
        from hu.symm, ← hw]
      have hcount : u.ng.guardTrip = satInc s.dev.ng.guardTrip := by subst hu; rfl
      have hnode' : u.ng.node = s.dev.ng.node := by subst hu; rfl
      have htrips : u.ng.tripCycles = recentTrips s.dev := by subst hu; rfl
      have hu' : Only [.ng, .out, .odBook] u s.dev := by subst hu; simp
      have hwu : Only [.ng, .timer .listen] w u := by subst hw; simp [only_enterListen_node]
      by_cases hfull : busPar (hush s.dev) 18 ≤ (recentTrips (hush s.dev)).length ∧ (hush s.dev).ng.node = .synchronised
      · rw [if_pos hfull]
        have hall : Only [.ng, .timer .listen, .odBook, .irq, .out] (settle w) s.dev :=
          (only_settle (by decide)).mpr ((hwu.mono (by decide)).trans (hu'.mono (by decide)))
        have hwtrips : w.ng.tripCycles = [] := by subst hw; rfl
        have hwcount : w.ng.guardTrip = u.ng.guardTrip := by subst hw; rfl
        have hwnode : w.ng.node = .listen := by subst hw; rfl
        have harmed : armed .listen w = true := by subst hw; exact armed_enterListen
        refine ⟨by rw [settle_ng, hwcount, hcount], fun _ _ => ⟨by rw [settle_ng]; exact hwnode, by rw [settle_ng]; exact hwtrips,
          by rw [armed_settle]; exact harmed⟩, fun hfew => ?_, hall.sameSwitch rfl, hall.samePower rfl, hall.tm rfl,
          hall.sameStores rfl, hall.sameAon rfl⟩
        exact absurd hfull.1 (not_le.mpr hfew)
      · rw [if_neg hfull]
        have hall : Only [.ng, .odBook, .irq, .out] (settle u) s.dev := (only_settle (by decide)).mpr (hu'.mono (by decide))
        exact ⟨by rw [settle_ng, hcount], fun hsync hmany => absurd ⟨hmany, hsync⟩ hfull,
          fun _ => ⟨by rw [settle_ng, hnode'], by rw [settle_ng, htrips]; rfl⟩, hall.sameSwitch rfl, hall.samePower rfl, hall.tm rfl,
          hall.sameStores rfl, hall.sameAon rfl⟩
  · refine answers_of_expiry (f := fun d => if d.ng.node ≠ .listen then d
      else if cfgOn d 0x5000 11 && (!isKeeper d || ownsSyncSlot d) then
        onNg (fun n => { n with node := .coldstart, coldCycles := 0, coldstartCount := satInc n.coldstartCount }) d
      else enterListen d) rfl harmed ?_
    obtain ⟨v, hv⟩ : ∃ v, v = expired .listen s.dev := ⟨_, rfl⟩
    have hv' : Only [.now, .tm, .timer .listen, .odBook, .out] v s.dev := by subst hv; simp
    have hng : v.ng = s.dev.ng := hv'.ng rfl
    have hmay : cfgOn v 0x5000 11 = cfgOn s.dev 0x5000 11 := by rw [cfgOn, cfgOn, hv'.cfg rfl]
    have hkeeper : isKeeper v = isKeeper s.dev := by subst hv; rfl
    have hin : v.tm.inForce = s.dev.tm.inForce := by
      obtain ⟨tb, htb⟩ := expired_tm (t := .listen) (d := s.dev)
      rw [hv, htb]
    have hforce (obj el : Nat) : force v obj el = force s.dev obj el :=
      force_congr hin (by subst hv; rfl) (hv'.otp rfl) obj el
    have howns : ownsSyncSlot v = ownsSyncSlot s.dev := by
      have hbus : busPar v 12 = busPar s.dev 12 := hv'.cfg rfl _ _
      simp only [ownsSyncSlot, hkeeper, hbus, hforce]
    rw [← hv]
    dsimp only
    rw [if_neg (by rw [hng, hnode]; decide), hmay, hkeeper, howns]
    obtain ⟨w, hw⟩ : ∃ w, w = if (cfgOn s.dev 0x5000 11 && (!isKeeper s.dev || ownsSyncSlot s.dev)) = true then
        onNg (fun n => { n with node := .coldstart, coldCycles := 0, coldstartCount := satInc n.coldstartCount }) v
      else enterListen v := ⟨_, rfl⟩
    have hwv : Only [.ng, .timer .listen] w v := by subst hw; simp [only_enterListen_node]
    have hall : Only [.now, .tm, .ng, .timer .listen, .odBook, .irq, .out] (settle w) s.dev :=
      (only_settle (by decide)).mpr ((hwv.mono (by decide)).trans (hv'.mono (by decide)))
    rw [← hw]
    refine ⟨fun hon hkeep => ?_, fun hnot => ?_, hall.sameSwitch rfl, hall.samePower rfl, hall.sameStores rfl, hall.aon rfl⟩
    · rw [if_pos (by rcases hkeep with h | h <;> simp [hon, h])] at hw
      rw [settle_ng, hw, onNg_ng, hng]
    · rw [if_neg (by rcases hnot with h | ⟨h, h'⟩ <;> simp [*])] at hw
      exact ⟨by rw [settle_ng, hw]; rfl, by rw [armed_settle, hw]; exact armed_enterListen⟩
  · refine answers_of_effect (f := cycleEnd) rfl (cycleEnd_synchronises (d := hush s.dev) hended heven hready) ?_
    generalize hu : onNg _ (synchronise (judged (hush s.dev))) = u
    have hall : Only [.ng, .odBook, .irq, .out] (settle u) s.dev := by
      rw [only_settle (by decide), ← hu, only_onNg _ (by decide), only_synchronise (by decide)]
      exact (only_judged.mono (by decide)).trans (by simp)
    refine ⟨by rw [settle_ng, ← hu]; rfl, by rw [settle_ng, ← hu]; rfl, by rw [settle_ng, ← hu]; rfl, fun b hjoining => ?_,
      hall.sameSwitch rfl, hall.samePower rfl, hall.tm rfl, hall.sameStores rfl, hall.sameAon rfl⟩
    have hchan : chan u b = (fun c => if c.state = ChanState.joining then { c with state := .synchronised } else c)
        (recover (hush s.dev) (chan s.dev b)) := by
      rw [← hu]
      cases b <;> rfl
    rw [chan_settle, hchan]
    exact (congrArg Chan.state (if_pos (recover_joining hjoining)))
  · refine answers_of_effect (f := cycleEnd) rfl (cycleEnd_relistens (d := hush s.dev) hended heven hnode hjoin hok) ?_
    generalize hu : onNg _ (enterListen (judged (hush s.dev))) = u
    have hall : Only [.ng, .timer .listen, .odBook, .irq, .out] (settle u) s.dev := by
      rw [only_settle (by decide), ← hu, only_onNg _ (by decide), only_enterListen_node (by decide)]
      exact (only_judged.mono (by decide)).trans (by simp)
    exact ⟨by rw [settle_ng, ← hu]; rfl, by rw [armed_settle, ← hu]; exact armed_enterListen, hall.sameSwitch rfl,
      hall.samePower rfl, hall.tm rfl, hall.sameStores rfl, hall.sameAon rfl⟩

end Sys2Proof.Proofs.NguzoReception


/-! The start of a schedule cycle: bundles, shadows, the lag and the enables (chapters 4, 9 and 10). -/

namespace Sys2Proof.Proofs.CycleStart

open Sys2Proof Sys2Proof.Machine Sys2Proof.Safety
open Sys2Proof.Proofs.ShapersAndTally
open Sys2Proof.Proofs.Frames
open Sys2Proof.Proofs.Running
open Sys2Proof.Proofs.TimeSources
open Sys2Proof.Proofs.PinsAndEpochs
open Sys2Proof.Proofs.HostWindow
open Sys2Proof.Proofs.NguzoBus
open Sys2Proof.Proofs.NguzoReception

section
variable {d e : Dev} {S : List Part}

/-! ### Bundles -/

@[simp] theorem only_bundleReport (b : Scheduled) (state result index : Nat) (hS : Within [.sessions] S = true) :
    Only S (bundleReport b state result index d) e ↔ Only S d e :=
  Only.iff (T := [.sessions]) (by simp [bundleReport]) hS

/-- A change of the list of what waits for the journal. -/
theorem only_pendingJournal (l : List JournalItem) (hS : Within [.odBook] S = true) :
    Only S (onOd (fun o => { o with pendingJournal := l }) d) e ↔ Only S d e := only_onOd_book rfl rfl rfl hS

@[simp] theorem only_noteChange (x : JournalItem) (hS : Within [.odBook, .timer .journal] S = true) :
    Only S (noteChange x d) e ↔ Only S d e := by
  refine Only.iff (T := [.odBook, .timer .journal]) ?_ hS
  have hnote : Only [.odBook, .timer .journal] (onOd (fun o => { o with pendingJournal := o.pendingJournal ++ [x] }) d) d :=
    (only_onOd_book rfl rfl rfl (by decide)).mpr (.refl _ d)
  unfold noteChange
  dsimp only
  split
  · exact hnote
  · split
    · exact .refl _ d
    · exact (only_arm _ _ (by decide)).mpr hnote

theorem applyBundle_ok {b : Scheduled} {d' : Dev} (h : bundleWrites b.sess b.writes 0 d = .ok d') :
    Only [.odBook, .sessions, .timer .journal] (applyBundle d b) d' := by
  unfold applyBundle
  rw [h]
  dsimp only
  split <;> simp

theorem applyBundle_error {b : Scheduled} {st i : Nat} (h : bundleWrites b.sess b.writes 0 d = .error (st, i)) :
    applyBundle d b = bundleReport b 4 st i d := by
  unfold applyBundle
  rw [h]

/-! ### The timebase at a cycle start -/

/-- The timebase's record without its streams and their pins. -/
def streamless (t : TimeBase) : TimeBase := { t with epochs := [], epochOut0 := false, epochOut1 := false }

/-- ENABLE of one stream takes effect. -/
def enableStream (d : Dev) (k : Nat) : Dev :=
  let on_ := cfgOn d (0x6040 + k) 0
  let e := epochOf d k
  if on_ == e.enabled then d
  else if !on_ then
    setEpoch k (fun e => { e with enabled := false }) d
  else
    let a : Int := cfg d (0x6040 + k) 2 * us
    let p : Nat := cfg d (0x6040 + k) 1 * us
    setEpoch k (fun e =>
      epochPlaced (schedNs d - cycleInto d) { e with enabled := true, anchor := a, base := 0, period := p }) d

/-- A pin follows its stream. -/
def pinFollows (d : Dev) (n : Nat) : Dev :=
  let k := cfg d 0x6030 (5 + n)
  if k < 16 ∧ (epochOf d k).enabled then d else epochOutLow n d

theorem epochEnables_eq : epochEnables d = [0, 1].foldl pinFollows ((List.range 16).foldl enableStream d) := by
  unfold epochEnables epochPinsFollow
  rfl

theorem kept_of_streamless {t u : TimeBase} (h : streamless t = streamless u) :
    t.inForce = u.inForce ∧ t.lag = u.lag ∧ t.lateLag = u.lateLag ∧ t.qualNg = u.qualNg :=
  ⟨by have h := congrArg TimeBase.inForce h; exact h, by have h := congrArg TimeBase.lag h; exact h,
    by have h := congrArg TimeBase.lateLag h; exact h, by have h := congrArg TimeBase.qualNg h; exact h⟩

theorem inForce_of_measured {t : Dev} (h : measured t = measured d) : t.tm.inForce = d.tm.inForce := by
  have h := congrArg TimeBase.inForce h
  exact h

theorem streamless_epochOutLow (n : Nat) : streamless (epochOutLow n d).tm = streamless d.tm := by
  show streamless (if n = 0 then { d.tm with epochOut0 := false } else { d.tm with epochOut1 := false }) = _
  split <;> rfl

theorem streamless_epochEnables : streamless (epochEnables d).tm = streamless d.tm := by
  have hstreams : streamless ((List.range 16).foldl enableStream d).tm = streamless d.tm :=
    List.foldlRecOn (motive := fun u : Dev => streamless u.tm = streamless d.tm) _ _ rfl fun u hu k _ => by
      unfold enableStream
      dsimp only
      split
      · exact hu
      · split <;> exact hu
  rw [epochEnables_eq]
  generalize (List.range 16).foldl enableStream d = v at hstreams
  refine List.foldlRecOn (motive := fun u : Dev => streamless u.tm = streamless d.tm) _ _ hstreams fun u hu n _ => ?_
  unfold pinFollows
  dsimp only
  split
  · exact hu
  · rw [streamless_epochOutLow]
    exact hu

/-- What the timebase's part of a cycle start may reach. -/
@[simp] def streamParts : List Part := [.tm, .timer (.epochPulse 0), .timer (.epochPulse 1)]

theorem only_pinFollows {n : Nat} (hn : n ∈ [0, 1]) : Only streamParts (pinFollows d n) d := by
  have hn' : n = 0 ∨ n = 1 := by simpa using hn
  rcases hn' with rfl | rfl <;> simp [pinFollows, epochOutLow]

theorem only_epochEnables : Only streamParts (epochEnables d) d := by
  rw [epochEnables_eq]
  exact (Only.foldl _ (fun u n hn => only_pinFollows hn) _).trans (Only.foldl _ (fun u k _ => by simp [enableStream]) d)

theorem streamless_epochsRebase : streamless (epochsRebase d).tm = streamless d.tm := by
  rw [epochsRebase_eq]
  refine List.foldlRecOn (motive := fun u : Dev => streamless u.tm = streamless d.tm) _ _ rfl fun u hu k _ => ?_
  unfold rebaseStream
  split
  · exact hu
  · exact hu

/-- The timebase's part of a cycle start: the lag is drained, the count goes on, the shadows take effect and the streams follow. -/
def opened (d : Dev) : Dev :=
  let jumps := d.tm.lag != d.tm.lateLag && d.ng.chA.state == .off && d.ng.chB.state == .off
  let begun := cycleCount d
  let d := lagDrain d
  let d := onTm (fun t => { t with cycleIndex := if jumps then cycleCount d else begun }) d
  epochEnables (applySchedule (if jumps then epochsRebase d else d))

/-- The bus's clean sheet for the cycle that begins. -/
def fresh (d : Dev) : Dev :=
  let count := d.tm.cycleIndex % 256
  let runs := d.ng.node != .off
  bothChans (fun c => { c with position := 0, minislot := 0, busyUntil := 0 }) (onNg (fun n =>
    { n with cycle := if runs then BitVec.ofNat 8 count else n.cycle, taken := [], ended := false,
             devEven := if count % 2 = 0 then [] else n.devEven, devOdd := [],
             coldCycles := if n.node ≠ .coldstart then 0
               else if n.coldCycles = 0 then (if count = 0 then 1 else 0) else n.coldCycles + 1 }) d)

/-- A keeper that has lost its SYNC_SLOT gives its coldstart up. -/
def keeping (d : Dev) : Dev := if isKeeper d && !ownsSyncSlot d then lacksSyncSlot d else d

theorem cycleBegin_eq : cycleBegin d = fresh (keeping (applyEnables (opened d))) := by
  unfold cycleBegin fresh keeping opened
  dsimp only

@[simp] theorem only_applySchedule (hS : Within [.tm] S = true) : Only S (applySchedule d) e ↔ Only S d e := by
  have h : applySchedule d = onTm (fun t => { t with inForce := d.od.cfg.filter fun x => shadowed (x.1 / 256) (x.1 % 256) }) d := rfl
  rw [h, only_onTm _ hS]

theorem only_opened : Only streamParts (opened d) d := by
  unfold opened
  extract_lets jumps begun u v
  refine only_epochEnables.trans ?_
  have hv : Only streamParts v d := by simp [v, u, lagDrain]
  rw [only_applySchedule (by decide), only_ite]
  exact ⟨fun _ => (only_epochsRebase (by decide)).mpr hv, fun _ => hv⟩

theorem streamless_opened : ∃ i, streamless (opened d).tm = streamless { d.tm with
    lag := drained (d.ng.chA.state == .off && d.ng.chB.state == .off) (d.tm.lag - d.tm.lateLag) + d.tm.lateLag
    lateLag := 0, cycleIndex := i, inForce := d.od.cfg.filter fun x => shadowed (x.1 / 256) (x.1 % 256) } := by
  unfold opened
  extract_lets jumps begun u v
  refine ⟨if jumps = true then cycleCount u else begun, ?_⟩
  rw [streamless_epochEnables]
  have hu : streamless (if jumps = true then epochsRebase v else v).tm = streamless v.tm := by
    split
    · exact streamless_epochsRebase
    · rfl
  have hod : (if jumps = true then epochsRebase v else v).od = d.od := by
    split
    · exact (show Only [.tm] (epochsRebase v) v by simp).od rfl
    · rfl
  generalize (if jumps = true then epochsRebase v else v) = w at hu hod
  show { streamless w.tm with inForce := w.od.cfg.filter fun x => shadowed (x.1 / 256) (x.1 % 256) } = _
  rw [hu, hod]
  rfl

/-! ### The enables -/

/-- What waits of the enables, and what is enabled. -/
def asked (n : Nguzo) : Option Bool × Option Bool × Bool × Bool := (n.pendEnA, n.pendEnB, n.chA.enabled, n.chB.enabled)

theorem asked_applyEnable (b v : Bool) : asked (applyEnable b v d).ng =
    if b then (d.ng.pendEnA, none, d.ng.chA.enabled, v) else (none, d.ng.pendEnB, v, d.ng.chB.enabled) := by
  unfold applyEnable
  dsimp only
  split
  next h =>
    rw [beq_iff_eq] at h
    subst h
    cases b <;> rfl
  · split
    next h => subst h; cases b <;> rfl
    next h => rw [Bool.not_eq_true] at h; subst h; cases b <;> rfl

theorem applyEnable_tm (b v : Bool) : (applyEnable b v d).tm = d.tm := by
  unfold applyEnable
  dsimp only
  repeat' split
  all_goals rfl

theorem asked_bothChans {g : Chan → Chan} (hg : ∀ c, (g c).enabled = c.enabled) : asked (bothChans g d).ng = asked d.ng := by
  show (_, _, (g d.ng.chA).enabled, (g d.ng.chB).enabled) = _
  rw [hg, hg]
  rfl

theorem asked_enterListen : asked (enterListen d).ng = asked d.ng := by
  refine (asked_bothChans (d := onNg _ d) fun c => ?_).trans rfl
  split <;> rfl

theorem asked_ngStop : asked (ngStop d).ng = asked d.ng := by
  unfold ngStop
  dsimp only
  generalize hu : disarm .listen _ = u
  have h : Only sourceParts (disqualify .nguzo u) u := by simp
  rw [h.ng rfl, ← hu]
  rfl

theorem asked_nodeFollows : asked (nodeFollows d).ng = asked d.ng := by
  unfold nodeFollows
  dsimp only
  split
  · split
    · rw [asked_enterListen, asked_bothChans fun c => by split <;> rfl]
    · rfl
  · split
    · rfl
    · exact asked_ngStop

theorem measured_congr {t : Dev} (h : t.tm = d.tm) : measured t = measured d := by simp only [measured, unselected, h]

theorem enterListen_tm : (enterListen d).tm = d.tm := rfl

theorem ngStop_disqualifies : ∃ u, ngStop d = disqualify .nguzo u ∧ u.tm = d.tm := ⟨_, rfl, rfl⟩

theorem measured_nodeFollows : measured (nodeFollows d) = measured d := by
  unfold nodeFollows
  dsimp only
  split
  · split
    · exact measured_congr (enterListen_tm.trans rfl)
    · rfl
  · split
    · rfl
    · obtain ⟨u, hu, htm⟩ := ngStop_disqualifies (d := d)
      rw [hu, measured_disqualify, measured_congr htm]

/-- The pending writes of the two enables, applied. -/
def enabled (d : Dev) : Dev :=
  let d := match d.ng.pendEnA with
    | some v => applyEnable false v d
    | none => d
  match d.ng.pendEnB with
  | some v => applyEnable true v d
  | none => d

theorem applyEnables_eq : applyEnables d = nodeFollows (enabled d) := rfl

theorem asked_enabled : asked (enabled d).ng =
    (none, none, d.ng.pendEnA.getD d.ng.chA.enabled, d.ng.pendEnB.getD d.ng.chB.enabled) := by
  have hfirst : ∀ u : Dev, asked (match u.ng.pendEnA with | some v => applyEnable false v u | none => u).ng =
      (none, u.ng.pendEnB, u.ng.pendEnA.getD u.ng.chA.enabled, u.ng.chB.enabled) := fun u => by
    cases h : u.ng.pendEnA with
    | none => simp [asked, h]
    | some v => simp [asked_applyEnable]
  have hsecond : ∀ u : Dev, asked (match u.ng.pendEnB with | some v => applyEnable true v u | none => u).ng =
      (u.ng.pendEnA, none, u.ng.chA.enabled, u.ng.pendEnB.getD u.ng.chB.enabled) := fun u => by
    cases h : u.ng.pendEnB with
    | none => simp [asked, h]
    | some v => simp [asked_applyEnable]
  have hmid := hfirst d
  simp only [asked, Prod.mk.injEq] at hmid
  obtain ⟨h1, h2, h3, h4⟩ := hmid
  refine (hsecond _).trans ?_
  rw [h1, h2, h3, h4]

theorem enabled_tm : (enabled d).tm = d.tm := by
  unfold enabled
  dsimp only
  split <;> split <;> simp [applyEnable_tm]

theorem asked_applyEnables : asked (applyEnables d).ng =
    (none, none, d.ng.pendEnA.getD d.ng.chA.enabled, d.ng.pendEnB.getD d.ng.chB.enabled) :=
  asked_nodeFollows.trans asked_enabled

theorem measured_applyEnables : measured (applyEnables d) = measured d := by
  rw [applyEnables_eq, measured_nodeFollows, measured_congr enabled_tm]

/-- The enables leave the timebase alone where the bus is no qualified source, or the node has no reason to stop. -/
theorem applyEnables_tm (h : d.tm.qualNg = none ∨ d.ng.pendEnA = none ∧ d.ng.pendEnB = none ∧ fabricRuns d = true ∧
    (d.ng.chA.enabled = true ∨ d.ng.chB.enabled = true)) : (applyEnables d).tm = d.tm := by
  rcases h with hqual | ⟨hA, hB, hruns, hany⟩
  · rw [applyEnables_eq, ← enabled_tm (d := d)]
    have hqual' : (enabled d).tm.qualNg = none := by rw [enabled_tm]; exact hqual
    generalize enabled d = u at hqual'
    unfold nodeFollows
    dsimp only
    split
    · split
      · exact enterListen_tm.trans rfl
      · rfl
    · split
      · rfl
      · obtain ⟨w, hw, htm⟩ := ngStop_disqualifies (d := u)
        have hnone : (qualSince w .nguzo).isNone = true := by
          show w.tm.qualNg.isNone = true
          rw [htm, hqual']
          rfl
        rw [hw, disqualify, if_pos hnone, htm]
  · have hsame : enabled d = d := by
      unfold enabled
      simp only [hA, hB]
    rw [applyEnables_eq, hsame]
    have hany' : (d.ng.chA.enabled || d.ng.chB.enabled) = true := by rcases hany with h | h <;> simp [h]
    unfold nodeFollows
    simp only [hany', hruns, Bool.and_self, if_true]
    split
    · exact enterListen_tm.trans rfl
    · rfl

theorem asked_keeping : asked (keeping d).ng = asked d.ng := by
  unfold keeping lacksSyncSlot
  dsimp only
  split
  · split
    · exact asked_enterListen
    · rfl
  · rfl

/-- A keeper's loss of its slot is all that the timebase's record shows of it. -/
theorem keeping_tm : ∃ n, (keeping d).tm = { d.tm with syncSlotMissing := n } := by
  unfold keeping lacksSyncSlot
  dsimp only
  split
  · split <;> exact ⟨_, rfl⟩
  · exact ⟨_, rfl⟩

theorem only_keeping : Only [.tm, .ng, .timer .listen] (keeping d) d := by
  have hcounted : Only [.tm, .ng, .timer .listen] (onTm (fun t => { t with syncSlotMissing := satInc t.syncSlotMissing }) d) d := by simp
  unfold keeping lacksSyncSlot
  dsimp only
  split
  · split
    · exact (only_enterListen_node (by decide)).mpr hcounted
    · exact hcounted
  · exact .refl _ d

theorem only_fresh : Only [.ng] (fresh d) d := by simp [fresh]

theorem fresh_tm : (fresh d).tm = d.tm := rfl

theorem asked_fresh : asked (fresh d).ng = asked d.ng := rfl

/-! ### The cycle that begins -/

/-- What the start of a cycle may reach. -/
@[simp] def cycleParts : List Part := .ng :: .timer .listen :: .timer (.epochPulse 0) :: .timer (.epochPulse 1) :: sourceParts

theorem only_cycleBegin : Only cycleParts (cycleBegin d) d := by
  rw [cycleBegin_eq]
  exact (only_fresh.mono (by decide)).trans ((only_keeping.mono (by decide)).trans
    (((only_applyEnables (S := cycleParts) (by decide)).mpr (.refl _ _)).trans (only_opened.mono (by decide))))

theorem inForce_cycleBegin : (cycleBegin d).tm.inForce = d.od.cfg.filter fun x => shadowed (x.1 / 256) (x.1 % 256) := by
  rw [cycleBegin_eq]
  obtain ⟨i, hopened⟩ := streamless_opened (d := d)
  obtain ⟨hforce, -⟩ := kept_of_streamless hopened
  obtain ⟨n, hkeep⟩ := keeping_tm (d := applyEnables (opened d))
  have hsame := inForce_of_measured (measured_applyEnables (d := opened d))
  generalize applyEnables (opened d) = w at hkeep hsame
  rw [fresh_tm, hkeep]
  exact hsame.trans hforce

theorem asked_cycleBegin : asked (cycleBegin d).ng =
    (none, none, d.ng.pendEnA.getD d.ng.chA.enabled, d.ng.pendEnB.getD d.ng.chB.enabled) := by
  rw [cycleBegin_eq, asked_fresh, asked_keeping, asked_applyEnables, only_opened.ng rfl]

theorem lag_cycleBegin (h : d.tm.qualNg = none ∨ d.ng.pendEnA = none ∧ d.ng.pendEnB = none ∧ fabricRuns d = true ∧
    (d.ng.chA.enabled = true ∨ d.ng.chB.enabled = true)) :
    (cycleBegin d).tm.lag =
        drained (d.ng.chA.state == .off && d.ng.chB.state == .off) (d.tm.lag - d.tm.lateLag) + d.tm.lateLag ∧
      (cycleBegin d).tm.lateLag = 0 := by
  rw [cycleBegin_eq]
  obtain ⟨i, hopened⟩ := streamless_opened (d := d)
  obtain ⟨-, hlag, hlate, hqual⟩ := kept_of_streamless hopened
  have hng := (only_opened (d := d)).ng rfl
  have htm : (applyEnables (opened d)).tm = (opened d).tm := applyEnables_tm (by
    unfold fabricRuns at h ⊢
    rw [hqual, hng, only_opened.aon rfl]
    exact h)
  obtain ⟨n, hkeep⟩ := keeping_tm (d := applyEnables (opened d))
  generalize applyEnables (opened d) = w at hkeep htm
  have hfresh : (fresh (keeping w)).tm = { (opened d).tm with syncSlotMissing := n } :=
    fresh_tm.trans (hkeep.trans (by rw [htm]))
  rw [hfresh]
  generalize (opened d).tm = t at hlag hlate
  exact ⟨hlag, hlate⟩

/-- The bus's clean sheet: the cycle counter of a node that runs, and nothing taken or passed yet. -/
theorem fresh_sheet : ((fresh d).ng.node ≠ .off → (fresh d).ng.cycle = BitVec.ofNat 8 (d.tm.cycleIndex % 256)) ∧ (fresh d).ng.taken = [] ∧
    (fresh d).ng.ended = false ∧ (fresh d).ng.chA.position = 0 ∧ (fresh d).ng.chB.position = 0 := by
  refine ⟨fun hnode => ?_, rfl, rfl, rfl, rfl⟩
  have hnode' : (d.ng.node != .off) = true := bne_iff_ne.mpr hnode
  exact if_pos hnode'

theorem cycleBegin_sheet : ((cycleBegin d).ng.node ≠ .off → (cycleBegin d).ng.cycle = BitVec.ofNat 8 ((cycleBegin d).tm.cycleIndex % 256)) ∧
    (cycleBegin d).ng.taken = [] ∧ (cycleBegin d).ng.ended = false ∧ (cycleBegin d).ng.chA.position = 0 ∧
    (cycleBegin d).ng.chB.position = 0 := by
  rw [cycleBegin_eq, fresh_tm]
  exact fresh_sheet

/-- With no bundle scheduled, the time up to the cycle start is all that passes before it. -/
theorem untilStart (h : d.od.scheduled = []) : Only [.now, .tm, .odBook] (applyBundles (toNextStart d)) d ∧
    ∃ tb, (applyBundles (toNextStart d)).tm = { d.tm with tb := tb } := by
  have hnext : Only [.now, .tm] (toNextStart d) d := by simp [toNextStart]
  have htm : ∃ tb, (toNextStart d).tm = { d.tm with tb := tb } := by
    unfold toNextStart
    split
    · exact ⟨d.tm.tb, rfl⟩
    · exact passSched_tm _ d
  have hnone : (toNextStart d).od.scheduled = [] := by rw [hnext.od rfl, h]
  generalize toNextStart d = u at hnext htm hnone
  unfold applyBundles
  split
  · exact ⟨hnext.mono (by decide), htm⟩
  · dsimp only
    rw [hnone]
    exact ⟨(only_onOd_book rfl rfl rfl (by decide)).mpr (hnext.mono (by decide)), htm⟩

end

theorem scheduleCycleStart_eq {d : Dev} (h : ttbRuns d = true) : scheduleCycleStart d = cycleBegin (applyBundles (toNextStart d)) := by
  unfold scheduleCycleStart
  exact if_neg (by simp [h])

/-- Settles O50. -/
theorem scheduleCycleStart : Obligations.ScheduleCycleStart := by
  unfold Obligations.ScheduleCycleStart
  refine ⟨fun d d' b hok => ?_, fun d b st i herror => ?_, fun s hruns => ?_, fun s hruns hnone hbus => ?_⟩
  · have h := applyBundle_ok hok
    exact ⟨h.odCfg rfl, h.tm rfl, h.sameSwitch rfl⟩
  · rw [applyBundle_error herror]
    have h : Only [.sessions] (bundleReport b 4 st i d) d := by simp
    have hwaiting : (bundleReport b 4 st i d).od.pendingJournal = d.od.pendingJournal := by
      unfold bundleReport
      dsimp only
      split <;> rfl
    refine ⟨h.odCfg rfl, hwaiting, ⟨h.sameSwitch rfl, h.samePower rfl, h.sameTime rfl, h.sameStores rfl, h.sameAon rfl⟩,
      fun n hn => ?_, fun hstate hserial => ?_⟩
    · unfold bundleReport
      dsimp only
      split
      · exact sessionOf_setSession_other _ _ hn
      · rfl
    · have hdue : bundleReport b 4 st i d = setSession b.sess (fun x => { x with bState := 4, bResult := st, bFail := i }) d :=
        if_pos ⟨hstate, hserial⟩
      rw [hdue, sessionOf_setSession_self]
      exact ⟨rfl, rfl, rfl⟩
  · refine answers_of_effect (f := Machine.scheduleCycleStart) rfl (scheduleCycleStart_eq (d := hush s.dev) hruns) ?_
    generalize applyBundles (toNextStart (hush s.dev)) = e
    have hforce := inForce_cycleBegin (d := e)
    have hasked := asked_cycleBegin (d := e)
    have hbegin := only_cycleBegin (d := e)
    obtain ⟨hcycle, htaken, hended, hA, hB⟩ := cycleBegin_sheet (d := e)
    generalize cycleBegin e = u at hforce hasked hbegin hcycle htaken hended hA hB
    simp only [asked, Prod.mk.injEq] at hasked
    obtain ⟨hpendA, hpendB, -, -⟩ := hasked
    have hsettle : Only [.odBook, .irq] (settle u) u := by simp
    rw [hsettle.ng rfl, hsettle.tm rfl, hsettle.odCfg rfl, hbegin.odCfg rfl]
    exact ⟨hforce, hcycle, htaken, hended, hpendA, hpendB, hA, hB⟩
  · refine answers_of_effect (f := Machine.scheduleCycleStart) rfl (scheduleCycleStart_eq (d := hush s.dev) hruns) ?_
    obtain ⟨hpassed, tb, htm⟩ := untilStart (d := hush s.dev) hnone
    generalize applyBundles (toNextStart (hush s.dev)) = e at hpassed htm
    have hng : e.ng = s.dev.ng := hpassed.ng rfl
    have hactive : fabricRuns e = fabricRuns s.dev := by unfold fabricRuns; rw [hpassed.aon rfl]; rfl
    have hbus' : e.tm.qualNg = none ∨ e.ng.pendEnA = none ∧ e.ng.pendEnB = none ∧ fabricRuns e = true ∧
        (e.ng.chA.enabled = true ∨ e.ng.chB.enabled = true) := by
      rw [htm, hng, hactive]
      exact hbus
    obtain ⟨hlag, hlate⟩ := lag_cycleBegin hbus'
    have hasked := asked_cycleBegin (d := e)
    have hbegin := only_cycleBegin (d := e)
    generalize cycleBegin e = u at hlag hlate hasked hbegin
    simp only [asked, Prod.mk.injEq] at hasked
    obtain ⟨-, -, hA, hB⟩ := hasked
    have hsettle : Only [.odBook, .irq] (settle u) u := by simp
    have hall : Only (.now :: .odBook :: .irq :: .out :: cycleParts) (settle u) s.dev :=
      (hsettle.mono (by decide)).trans ((hbegin.mono (by decide)).trans ((hpassed.mono (by decide)).trans (by simp)))
    rw [hsettle.ng rfl, hsettle.tm rfl]
    refine ⟨?_, hlate, fun v hv => ?_, fun v hv => ?_, hall.odCfg rfl, hall.sameSwitch rfl, hall.samePower rfl, hall.sameStores rfl,
      hall.aon rfl, hall.boot rfl⟩
    · rw [hlag, htm, hng]
      simp only [drained, Bool.and_eq_true, beq_iff_eq]
      rfl
    · rw [hA, hng, hv]; rfl
    · rw [hB, hng, hv]; rfl

end Sys2Proof.Proofs.CycleStart


/-! SUPPORT. What the operations on queues, charges and residues keep of the switch (chapters 11 and 14): what ports send and last
dropped, the traffic counters, and what has gone out. -/

namespace Sys2Proof.Proofs.Switching

open Sys2Proof Sys2Proof.Machine Sys2Proof.Safety
open Sys2Proof.Proofs.ShapersAndTally
open Sys2Proof.Proofs.Frames
open Sys2Proof.Proofs.TimeSources (mem_out_emit)
open Sys2Proof.Proofs.PinsAndEpochs (swPort_setSwPort_other)

/-! ### Reading a switch port and a counter after an update -/

section
variable {d : Dev} {p q : Nat}

theorem swPort_setSwPort (f : SwPort → SwPort) : swPort (setSwPort p f d) q = if q = p then f (swPort d p) else swPort d q := by
  split
  next h => subst h; exact swPort_setSwPort_self _ _ _
  next h => exact swPort_setSwPort_other _ _ h

theorem counterOf_addCounter_self (k n : Nat) : counterOf (addCounter 1 k n d) 1 k = (counterOf d 1 k + n) % 2 ^ 64 :=
  counterOf_setCounter_self (by decide) _ _ _

theorem counterOf_addCounter_other {k i : Nat} (n : Nat) (h : i ≠ k) : counterOf (addCounter 1 k n d) 1 i = counterOf d 1 i :=
  counterOf_setCounter_other (by decide) h _ _

/-- A counter of another set than the ports' leaves theirs. -/
theorem counterOf_addCounter_set {set_ k i n : Nat} (h : set_ ≠ 1) : counterOf (addCounter set_ k n d) 1 i = counterOf d 1 i := by
  match set_, h with
  | 0, _ => rfl
  | 1, h => exact absurd rfl h
  | m + 2, _ =>
    show tget 0 (if k % 4 = 3 then _ else _ : Fabric).set1 i = _
    split <;> rfl

end

/-! ### What lasts -/

/-- A switch port without its PAUSE state and its use of headroom. -/
def lasting (w : SwPort) : SwPort := { w with xoff := false, headUse := 0 }

/-- The fabric's record without its counters, ports, queues and residues. -/
def base (f : Fabric) : Fabric :=
  { f with ports := [], queues := [], residues := [], set0 := [], set1 := [], set2 := [], depthMax := [] }

/-- What an operation on charges leaves: the ports but for PAUSE and headroom, the traffic counters of the ports but for PAUSE sent,
and what has gone out. -/
structure Calm (t d : Dev) : Prop where
  ports : ∀ q, lasting (swPort t q) = lasting (swPort d q)
  base : base t.fab = base d.fab
  out : ∀ x ∈ d.out, x ∈ t.out
  counts : ∀ k, k % 32 ≠ 9 → counterOf t 1 k = counterOf d 1 k

namespace Calm

variable {t u d : Dev}

theorem refl (d : Dev) : Calm d d := ⟨fun _ => rfl, rfl, fun _ h => h, fun _ _ => rfl⟩

theorem trans (h : Calm t u) (h' : Calm u d) : Calm t d :=
  ⟨fun q => (h.ports q).trans (h'.ports q), h.base.trans h'.base, fun x hx => h.out x (h'.out x hx),
    fun k hk => (h.counts k hk).trans (h'.counts k hk)⟩

theorem foldl {α : Type} {f : Dev → α → Dev} (l : List α) (hf : ∀ d, ∀ a ∈ l, Calm (f d a) d) (d : Dev) : Calm (l.foldl f d) d :=
  List.foldlRecOn (motive := fun u => Calm u d) l f (.refl d) fun u hu a ha => (hf u a ha).trans hu

/-- A device that differs in no plane that matters here. -/
theorem of_same (hfab : t.fab = d.fab) (hout : t.out = d.out) : Calm t d := by
  refine ⟨fun q => ?_, by rw [hfab], fun x hx => by rw [hout]; exact hx, fun k _ => ?_⟩
  · unfold swPort; rw [hfab]
  · unfold counterOf; rw [hfab]

theorem disarmed {a : Timer} (h : Calm t d) : Calm (disarm a t) d := (of_same (t := disarm a t) (d := t) rfl rfl).trans h
theorem armed {a : Timer} {ns : Nat} (h : Calm t d) : Calm (arm a ns t) d := (of_same (t := arm a ns t) (d := t) rfl rfl).trans h

section
variable (h : Calm t d) (q : Nat)
include h

theorem sending : (swPort t q).sending = (swPort d q).sending := by have := congrArg SwPort.sending (h.ports q); exact this
theorem cutFrom : (swPort t q).cutFrom = (swPort d q).cutFrom := by have := congrArg SwPort.cutFrom (h.ports q); exact this
theorem cutBad : (swPort t q).cutBad = (swPort d q).cutBad := by have := congrArg SwPort.cutBad (h.ports q); exact this
theorem cutIn : (swPort t q).cutIn = (swPort d q).cutIn := by have := congrArg SwPort.cutIn (h.ports q); exact this
theorem lastDrop : (swPort t q).lastDrop = (swPort d q).lastDrop := by have := congrArg SwPort.lastDrop (h.ports q); exact this
omit q
theorem puntQ : t.fab.puntQ = d.fab.puntQ := by have := congrArg Fabric.puntQ h.base; exact this
theorem eccDouble : t.fab.eccDouble = d.fab.eccDouble := by have := congrArg Fabric.eccDouble h.base; exact this
theorem nextFrame : t.fab.nextFrame = d.fab.nextFrame := by have := congrArg Fabric.nextFrame h.base; exact this

end

end Calm

section
variable {d : Dev} {p c : Nat} {x : Copy}

theorem calm_setQueue (f : Queue → Queue) : Calm (setQueue p c f d) d := ⟨fun _ => rfl, rfl, fun _ h => h, fun _ _ => rfl⟩

theorem calm_setSwPort {f : SwPort → SwPort} (hf : ∀ w, lasting (f w) = lasting w) : Calm (setSwPort p f d) d := by
  refine ⟨fun q => ?_, rfl, fun _ h => h, fun _ _ => rfl⟩
  rw [swPort_setSwPort]
  split
  next h => subst h; exact hf _
  next => rfl

theorem calm_setCounter_two (i v : Nat) : Calm (setCounter 2 i v d) d := by
  have hports : (setCounter 2 i v d).fab.ports = d.fab.ports := by
    show (if i % 4 = 3 then _ else _ : Fabric).ports = _
    split <;> rfl
  have hset : (setCounter 2 i v d).fab.set1 = d.fab.set1 := by
    show (if i % 4 = 3 then _ else _ : Fabric).set1 = _
    split <;> rfl
  have hbase : base (setCounter 2 i v d).fab = base d.fab := by
    show base (if i % 4 = 3 then _ else _) = _
    split <;> rfl
  refine ⟨fun q => ?_, hbase, fun _ h => h, fun k _ => ?_⟩
  · unfold swPort
    rw [hports]
  · show tget 0 (setCounter 2 i v d).fab.set1 k = _
    rw [hset]
    rfl

theorem calm_residues (l : List Residue) : Calm (onFab (fun f => { f with residues := l }) d) d :=
  ⟨fun _ => rfl, rfl, fun _ h => h, fun _ _ => rfl⟩

theorem calm_enqueue : Calm (enqueue p c x d) d := by
  have hput : Calm (setSwPort x.fromPort (fun w => { w with headUse := w.headUse + x.head }) (setQueue p c (fun q =>
      { q with copies := q.copies ++ [x], foldUse := q.foldUse + x.fold, comUse := q.comUse + x.common }) d)) d :=
    (calm_setSwPort (f := fun w => { w with headUse := w.headUse + x.head }) fun _ => rfl).trans (calm_setQueue _)
  unfold enqueue
  dsimp only
  split
  · exact (calm_setCounter_two _ _).trans hput
  · exact hput

theorem calm_giveBack : Calm (giveBack p c x d) d :=
  (calm_setSwPort (f := fun w => { w with headUse := w.headUse - x.head }) fun _ => rfl).trans (calm_setQueue _)

theorem calm_sendPause (quanta : Nat) : Calm (sendPause p quanta d) d := by
  refine ⟨fun q => ?_, ?_, fun y hy => mem_out_emit hy, fun k hk => ?_⟩
  · unfold sendPause emit
    split <;> rfl
  · unfold sendPause emit
    split <;> rfl
  · have hcount : counterOf (countPort p 9 1 d) 1 k = counterOf d 1 k := counterOf_addCounter_other 1 (by omega)
    unfold sendPause emit
    split <;> exact hcount

theorem calm_pauseCheck : Calm (pauseCheck d p) d := by
  have hoff : Calm (setSwPort p (fun w => { w with xoff := false }) d) d :=
    calm_setSwPort (f := fun w => { w with xoff := false }) fun _ => rfl
  have hon : Calm (setSwPort p (fun w => { w with xoff := true }) d) d :=
    calm_setSwPort (f := fun w => { w with xoff := true }) fun _ => rfl
  unfold pauseCheck
  dsimp only
  split
  · split
    · exact hoff.disarmed
    · exact .refl d
  · split
    · split
      · exact ((calm_sendPause _).trans hoff).disarmed
      · exact .refl d
    · split
      · exact ((calm_sendPause _).trans hon).armed
      · exact .refl d

theorem calm_pauseCheckAll : Calm (pauseCheckAll d) d := Calm.foldl _ (fun _ _ _ => calm_pauseCheck) d

theorem calm_retestCopy (comFell : Bool) (acc : Dev × List (Nat × Nat) × List ResCopy) (y : ResCopy) :
    Calm (retestCopy p c comFell acc y).1 acc.1 := by
  unfold retestCopy
  dsimp only
  split
  · exact .refl _
  · split
    · exact calm_enqueue
    · exact .refl _

/-- The residues tested again one after another, with the queues passed over and what is left. -/
def retested (p c : Nat) (comFell : Bool) (d : Dev) : Dev × List (Nat × Nat) × List Residue :=
  d.fab.residues.foldl (fun (acc : Dev × List (Nat × Nat) × List Residue) res =>
    let s := res.copies.foldl (retestCopy p c comFell) (acc.1, acc.2.1, [])
    (s.1, s.2.1, if s.2.2 = [] then acc.2.2 else acc.2.2 ++ [{ res with copies := s.2.2 }])) (d, [], [])

theorem retest_eq (comFell : Bool) : retest p c comFell d =
    (d.fab.residues.filter fun x => !((retested p c comFell d).2.2.any fun y => y.frame == x.frame)).foldl
      (fun d x => disarm (.residue x.frame) d)
      (onFab (fun f => { f with residues := (retested p c comFell d).2.2 }) (retested p c comFell d).1) := rfl

theorem calm_retested (comFell : Bool) : Calm (retested p c comFell d).1 d := by
  refine List.foldlRecOn (motive := fun u : Dev × List (Nat × Nat) × List Residue => Calm u.1 d) _ _ (.refl d) fun u hu r _ => ?_
  refine (List.foldlRecOn (motive := fun v : Dev × List (Nat × Nat) × List ResCopy => Calm v.1 d) r.copies
    (retestCopy p c comFell) hu fun v hv y _ => (calm_retestCopy comFell v y).trans hv)

theorem calm_retest (comFell : Bool) : Calm (retest p c comFell d) d := by
  rw [retest_eq]
  refine (Calm.foldl _ (fun u _ _ => (Calm.refl u).disarmed) _).trans ?_
  exact (calm_residues _).trans (calm_retested comFell)

theorem calm_release : Calm (release p c x d) d := calm_pauseCheckAll.trans ((calm_retest _).trans calm_giveBack)

/-! ### PAUSE leaves queues and residues -/

/-- The queues and the residues stand. -/
def SameQueues (t d : Dev) : Prop := t.fab.queues = d.fab.queues ∧ t.fab.residues = d.fab.residues

theorem SameQueues.trans {t u d : Dev} (h : SameQueues t u) (h' : SameQueues u d) : SameQueues t d :=
  ⟨h.1.trans h'.1, h.2.trans h'.2⟩

theorem SameQueues.queueOf {t d : Dev} (h : SameQueues t d) (p c : Nat) : queueOf t p c = queueOf d p c := by
  obtain ⟨h, -⟩ := h
  unfold Machine.queueOf
  rw [h]

theorem sameQueues_setCounter (set_ i v : Nat) : SameQueues (setCounter set_ i v d) d := by
  unfold setCounter
  dsimp only
  split
  · exact ⟨rfl, rfl⟩
  · exact ⟨rfl, rfl⟩
  · split <;> exact ⟨rfl, rfl⟩

theorem sameQueues_emit (e : Emission) : SameQueues (emit e d) d := by
  unfold emit
  split <;> exact ⟨rfl, rfl⟩

theorem sameQueues_sendPause (quanta : Nat) : SameQueues (sendPause p quanta d) d :=
  (sameQueues_emit _).trans (sameQueues_setCounter _ _ _)

theorem sameQueues_pauseCheck : SameQueues (pauseCheck d p) d := by
  unfold pauseCheck
  dsimp only
  split
  · split <;> exact ⟨rfl, rfl⟩
  · split
    · split
      · exact sameQueues_sendPause (d := setSwPort p (fun w => { w with xoff := false }) d) 0
      · exact ⟨rfl, rfl⟩
    · split
      · exact sameQueues_sendPause (d := setSwPort p (fun w => { w with xoff := true }) d) _
      · exact ⟨rfl, rfl⟩

theorem sameQueues_pauseCheckAll : SameQueues (pauseCheckAll d) d :=
  List.foldlRecOn (motive := fun u => SameQueues u d) _ _ ⟨rfl, rfl⟩ fun _ hu _ _ => sameQueues_pauseCheck.trans hu

/-- Where no residue waits there is nothing to test again. -/
theorem retest_of_nil (h : d.fab.residues = []) (comFell : Bool) : retest p c comFell d = d := by
  rw [retest_eq, retested, h]
  show onFab (fun f => { f with residues := [] }) d = d
  unfold onFab
  rw [← h]

/-- Where no residue waits a release gives the charge back and no more. -/
theorem sameQueues_release (h : d.fab.residues = []) : SameQueues (release p c x d) (giveBack p c x d) := by
  unfold release
  rw [retest_of_nil (d := giveBack p c x d) h]
  exact sameQueues_pauseCheckAll

/-! ### A copy joins a queue, or is dropped -/

theorem queueOf_enqueue : queueOf (enqueue p c x d) p c = { queueOf d p c with
    copies := (queueOf d p c).copies ++ [x], foldUse := (queueOf d p c).foldUse + x.fold, comUse := (queueOf d p c).comUse + x.common } := by
  have hput : queueOf (setSwPort x.fromPort (fun w => { w with headUse := w.headUse + x.head }) (setQueue p c (fun q =>
      { q with copies := q.copies ++ [x], foldUse := q.foldUse + x.fold, comUse := q.comUse + x.common }) d)) p c = _ :=
    queueOf_setQueue_self p c (fun q =>
      { q with copies := q.copies ++ [x], foldUse := q.foldUse + x.fold, comUse := q.comUse + x.common }) d
  unfold enqueue
  dsimp only
  split
  · rw [(sameQueues_setCounter _ _ _).queueOf]
    exact hput
  · exact hput

theorem residues_enqueue : (enqueue p c x d).fab.residues = d.fab.residues := by
  unfold enqueue
  dsimp only
  split
  · exact (sameQueues_setCounter _ _ _).2
  · rfl

theorem sameQueues_setSwPort (f : SwPort → SwPort) : SameQueues (setSwPort p f d) d := ⟨rfl, rfl⟩

theorem sameQueues_dropAt (code : Nat) : SameQueues (dropAt p code d) d :=
  (sameQueues_setSwPort _).trans (sameQueues_setCounter _ _ _)

theorem sameQueues_dropCopy (code : Nat) : SameQueues (dropCopy p c code d) d :=
  (sameQueues_setCounter _ _ _).trans (sameQueues_dropAt _)

theorem swPort_setCounter (set_ i v q : Nat) : swPort (setCounter set_ i v d) q = swPort d q := by
  unfold setCounter swPort
  dsimp only
  split
  · rfl
  · rfl
  · split <;> rfl

theorem swPort_dropAt (code q : Nat) :
    swPort (dropAt p code d) q = if q = p then { swPort d p with lastDrop := code } else swPort d q := by
  unfold dropAt
  rw [swPort_setSwPort]
  simp only [countPort, addCounter, swPort_setCounter]

theorem lastDrop_dropAt (code : Nat) : (swPort (dropAt p code d) p).lastDrop = code := by
  rw [swPort_dropAt, if_pos rfl]

theorem swPort_dropCopy (code q : Nat) :
    swPort (dropCopy p c code d) q = if q = p then { swPort d p with lastDrop := code } else swPort d q := by
  unfold dropCopy countQueue addCounter
  rw [swPort_setCounter, swPort_dropAt]

theorem counterOf_dropAt_self (code : Nat) :
    counterOf (dropAt p code d) 1 (32 * p + 10 + code) = (counterOf d 1 (32 * p + 10 + code) + 1) % 2 ^ 64 := by
  have h := counterOf_addCounter_self (d := d) (32 * p + (10 + code)) 1
  rw [← Nat.add_assoc] at h
  unfold dropAt countPort
  rw [← Nat.add_assoc]
  exact h

theorem counterOf_dropAt_other {code k : Nat} (h : k ≠ 32 * p + 10 + code) : counterOf (dropAt p code d) 1 k = counterOf d 1 k := by
  unfold dropAt countPort
  exact counterOf_addCounter_other (d := d) 1 (by omega)

theorem counterOf_dropCopy {code k : Nat} (h : k ≠ 32 * p + 10 + code) : counterOf (dropCopy p c code d) 1 k = counterOf d 1 k := by
  unfold dropCopy countQueue
  rw [counterOf_addCounter_set (by decide), counterOf_dropAt_other h]

theorem out_dropAt (code : Nat) : (dropAt p code d).out = d.out := (show Only [.fab] (dropAt p code d) d by simp).out rfl

end

end Sys2Proof.Proofs.Switching


/-! Frame decisions: a received frame is discarded under its reason, or queued with its charge; the end of a frame that is cut
through (chapters 11, 12 and 14). -/

namespace Sys2Proof.Proofs.FrameDecisions

open Sys2Proof Sys2Proof.Machine Sys2Proof.Safety
open Sys2Proof.Proofs.ShapersAndTally
open Sys2Proof.Proofs.Frames
open Sys2Proof.Proofs.Running
open Sys2Proof.Proofs.TimeSources (Reaches whilePort_of_reaches mem_out_emit)
open Sys2Proof.Proofs.PinsAndEpochs (swPort_setSwPort_other portHeld_congr)
open Sys2Proof.Proofs.Switching

/-! ### What is looked up and policed on the way -/

/-- What looking a frame up leaves: the queues, the ports' counters, and what has gone out. -/
structure Passing (t d : Dev) : Prop where
  queues : SameQueues t d
  next : t.fab.nextFrame = d.fab.nextFrame
  counts : ∀ k, counterOf t 1 k = counterOf d 1 k
  xoff : ∀ q, (swPort t q).xoff = (swPort d q).xoff
  out : t.out = d.out

namespace Passing

variable {t u d : Dev}

theorem trans (h : Passing t u) (h' : Passing u d) : Passing t d :=
  ⟨h.queues.trans h'.queues, h.next.trans h'.next, fun k => (h.counts k).trans (h'.counts k),
    fun q => (h.xoff q).trans (h'.xoff q), h.out.trans h'.out⟩

theorem of_same (hfab : t.fab = d.fab) (hout : t.out = d.out) : Passing t d :=
  ⟨⟨by rw [hfab], by rw [hfab]⟩, by rw [hfab], fun k => by unfold counterOf; rw [hfab], fun q => by unfold swPort; rw [hfab], hout⟩

theorem refl (d : Dev) : Passing d d := of_same rfl rfl

/-- An operation that touches no port's queues, nor the fabric at all. -/
theorem of_only {S : List Part} (h : Only S t d) (hS : [View.fab, .out].all (Clear S) = true) : Passing t d :=
  of_same (h.fab (clear_of_all hS (by simp))) (h.out (clear_of_all hS (by simp)))

end Passing

section
variable {d : Dev} {p vid : Nat} {o : List Byte}

theorem passing_offerLearn (mac fid : Nat) : Passing (offerLearn p mac fid d) d := by
  have hst (f : StationTab → StationTab) : Passing (onSt f d) d := .of_same rfl rfl
  have hput (loc : Nat) (x : Station) : Passing (putStation loc x d) d :=
    .of_only (S := [.st]) (by simp) (by decide)
  have hmoves (u : Dev) : Passing (setSwPort p (fun w => { w with movesIn := satInc w.movesIn }) u) u := by
    refine ⟨⟨rfl, rfl⟩, rfl, fun _ => rfl, fun q => ?_, rfl⟩
    rw [swPort_setSwPort]
    split
    next h => subst h; rfl
    next => rfl
  unfold offerLearn
  split
  · split <;> exact hst _
  · split
    · exact .refl d
    · split
      · split
        · exact .refl d
        · exact hst _
      · split
        · exact .refl d
        · split
          · split
            · exact hput _ _
            · exact .refl d
          · split
            · exact (hmoves _).trans (hput _ _)
            · exact hst _

theorem passing_learnFrom : Passing (learnFrom p vid o d) d := by
  unfold learnFrom
  dsimp only
  split
  · exact .refl d
  · exact passing_offerLearn _ _

theorem passing_addCounter_rule (i n : Nat) : Passing (addCounter 0 i n d) d :=
  ⟨⟨rfl, rfl⟩, rfl, fun _ => rfl, fun _ => rfl, rfl⟩

theorem passing_countRule (r len mode : Nat) : Passing (countRule r len mode d) d := by
  unfold countRule
  split
  · exact (passing_addCounter_rule _ _).trans (passing_addCounter_rule _ _)
  · exact .refl d

theorem passing_policeFrame (i len : Nat) : Passing (policeFrame i p len d).2.2 d := by
  have hfault : Only [.cls, .odBook, .irq] (eventAlarm 6 (onCls (fun c => { c with eccDouble := satInc c.eccDouble }) d)) d := by simp
  unfold policeFrame
  dsimp only
  split
  · exact .refl d
  · split
    · exact .of_only hfault (by decide)
    · split
      · exact .refl d
      · exact .of_same rfl rfl

theorem passing_classify : Passing (classify p vid o d).2 d := by
  have hfault : Only [.cls, .odBook, .irq] (eventAlarm 6 (onCls (fun c => { c with eccDouble := satInc c.eccDouble }) d)) d := by simp
  unfold classify
  dsimp only
  split
  · exact .of_only hfault (by decide)
  · exact passing_policeFrame _ _
  · split
    · exact passing_countRule _ _ _
    · exact (passing_countRule _ _ _).trans ((passing_policeFrame _ _).trans (passing_countRule _ _ _))

/-! ### What a finding leaves -/

theorem ports_setCounter (set_ i v : Nat) : (setCounter set_ i v d).fab.ports = d.fab.ports := by
  unfold setCounter
  dsimp only
  split
  · rfl
  · rfl
  · split <;> rfl

theorem ports_eccFind (h : EccHit) : (eccFind h d).fab.ports = d.fab.ports := by
  have halarm (f : StationTab → StationTab) : (eventAlarm 6 (onSt f d)).fab = d.fab :=
    (show Only [.odBook, .irq] (eventAlarm 6 (onSt f d)) (onSt f d) by simp).fab rfl
  have hset (i j v : Nat) (f : Fabric → Fabric) (hf : ∀ x, (f x).ports = x.ports) :
      (onFab f (setCounter i j v d)).fab.ports = d.fab.ports := (hf _).trans (ports_setCounter _ _ _)
  unfold eccFind
  extract_lets t
  split_ifs
  · rfl
  · rfl
  · rfl
  · exact hset _ _ _ _ fun _ => rfl
  · rfl
  · exact congrArg Fabric.ports (halarm _)
  · exact congrArg Fabric.ports (halarm _)

theorem ports_eccFindAll (l : List EccHit) : (eccFindAll l d).fab.ports = d.fab.ports :=
  List.foldlRecOn (motive := fun u : Dev => u.fab.ports = d.fab.ports) l _ rfl fun _ hu h _ => (ports_eccFind h).trans hu

theorem portUp_congr {t : Dev} {S : List Part} (h : Only S t d) (hS : [View.otp, .cfgs].all (Clear S) = true)
    (hlink : (swPort t p).link = (swPort d p).link) : portUp t p = portUp d p := by
  have hpresent : present t = present d := by
    unfold present
    rw [h.otp (clear_of_all hS (by simp))]
  unfold portUp hasPort linkIsUp cfgOn
  rw [hpresent, hlink, h.cfg (clear_of_all hS (by simp))]

/-! ### What is counted -/

theorem counterOf_countRx {len da k : Nat} (h4 : k ≠ 32 * p + 4) (h5 : k ≠ 32 * p + 5) :
    counterOf (countRx p len da d) 1 k =
      if k = 32 * p + 1 then (counterOf d 1 k + len) % 2 ^ 64
      else if k = 32 * p then (counterOf d 1 k + 1) % 2 ^ 64 else counterOf d 1 k := by
  have hcounted : counterOf (countPort p 1 len (countPort p 0 1 d)) 1 k =
      if k = 32 * p + 1 then (counterOf d 1 k + len) % 2 ^ 64
      else if k = 32 * p then (counterOf d 1 k + 1) % 2 ^ 64 else counterOf d 1 k := by
    unfold countPort
    split
    next h => subst h; rw [counterOf_addCounter_self, counterOf_addCounter_other _ (by omega)]
    next h =>
      rw [counterOf_addCounter_other _ h]
      split
      next h => subst h; rw [Nat.add_zero, counterOf_addCounter_self]
      next h => rw [counterOf_addCounter_other _ (by simpa using h)]
  unfold countRx
  dsimp only
  rw [← hcounted]
  split
  · exact counterOf_addCounter_other _ h5
  · split
    · exact counterOf_addCounter_other _ h4
    · rfl

theorem sameQueues_countRx (len da : Nat) : SameQueues (countRx p len da d) d := by
  have hcounted : SameQueues (countPort p 1 len (countPort p 0 1 d)) d :=
    (sameQueues_setCounter _ _ _).trans (sameQueues_setCounter _ _ _)
  unfold countRx
  dsimp only
  split
  · exact (sameQueues_setCounter _ _ _).trans hcounted
  · split
    · exact (sameQueues_setCounter _ _ _).trans hcounted
    · exact hcounted

theorem nextFrame_countRx (len da : Nat) : (countRx p len da d).fab.nextFrame = d.fab.nextFrame := by
  unfold countRx
  dsimp only
  split
  · rfl
  · split <;> rfl

theorem ports_countRx (len da : Nat) : (countRx p len da d).fab.ports = d.fab.ports := by
  unfold countRx
  dsimp only
  split
  · rfl
  · split <;> rfl

theorem swPort_countRx (len da q : Nat) : swPort (countRx p len da d) q = swPort d q := by
  unfold swPort
  rw [ports_countRx]

end

/-! ### A frame dropped -/

/-- A received frame `o` that port `p` drops with a reason, from the device `d` that holds the findings of its lookups. -/
def Dropped (s : State) (d : Dev) (p : Nat) (o : List Byte) (code : Nat) (t : Dev) : Prop :=
  counterOf t 1 (32 * p) = (counterOf d 1 (32 * p) + 1) % 2 ^ 64 ∧
  counterOf t 1 (32 * p + 1) = (counterOf d 1 (32 * p + 1) + frameLen o) % 2 ^ 64 ∧
  counterOf t 1 (32 * p + 10 + code) = (counterOf d 1 (32 * p + 10 + code) + 1) % 2 ^ 64 ∧
  (swPort t p).lastDrop = code ∧ t.fab.queues = d.fab.queues ∧ t.fab.residues = d.fab.residues ∧ t.out = [] ∧
  SamePower t s.dev ∧ SameTime t s.dev ∧ SameStores t s.dev ∧ SameAon t s.dev

theorem dropped_of_passing {s : State} {d u : Dev} {p code : Nat} {o : List Byte} (hd : Only findParts d (hush s.dev))
    (hu : Passing u (countRx p (frameLen o) (frameDa o) d))
    (honly : Only decisionParts u (countRx p (frameLen o) (frameDa o) d)) :
    Dropped s d p o code (settle (dropAt p code u)) := by
  have hcounted : Only [.fab] (countRx p (frameLen o) (frameDa o) d) d := by simp
  have hdrop : Only [.fab, .odBook, .irq] (settle (dropAt p code u)) u := by simp
  have hall : Only decisionParts (settle (dropAt p code u)) s.dev :=
    (hdrop.mono (by decide)).trans (honly.trans ((hcounted.mono (by decide)).trans ((hd.mono (by decide)).trans (by simp))))
  have hqueues := (sameQueues_dropAt (d := u) (p := p) code).trans (hu.queues.trans (sameQueues_countRx _ _))
  refine ⟨?_, ?_, ?_, ?_, ?_, ?_, ?_, hall.samePower rfl, hall.sameTime rfl, hall.sameStores rfl, hall.sameAon rfl⟩
  · rw [counterOf_settle, counterOf_dropAt_other (by omega), hu.counts, counterOf_countRx (by omega) (by omega),
      if_neg (by omega), if_pos rfl]
  · rw [counterOf_settle, counterOf_dropAt_other (by omega), hu.counts, counterOf_countRx (by omega) (by omega), if_pos rfl]
  · rw [counterOf_settle, counterOf_dropAt_self, hu.counts, counterOf_countRx (by omega) (by omega), if_neg (by omega),
      if_neg (by omega)]
  · rw [swPort_settle, lastDrop_dropAt]
  · rw [settle_fab]; exact hqueues.1
  · rw [settle_fab]; exact hqueues.2
  · rw [settle_out, out_dropAt, hu.out, hcounted.out rfl, hd.out rfl]
    rfl

/-! ### The decision -/

section
variable {d : Dev} {p tc stamp vid : Nat} {o : List Byte} {ok : Bool}

theorem receiveFrame_of_up (hruns : fabricRuns d = true) (h15 : p ≠ 15) (hup : portUp d p = true) :
    receiveFrame p tc o ok stamp d =
      let u := countRx p (frameLen o) (frameDa o) d
      if u.fab.resetting = true then dropAt p 0x14 u
      else if maxFrame u p < frameLen o then dropAt p 0x02 u
      else if (!ok || decide (frameLen o < 64)) = true then dropAt p 0x01 u
      else mirrorAll 1 p o stamp p (if frameType o = 0x8808 ∧ !isTagged o then macControl p o u else decideFrame p tc o stamp u) := by
  unfold receiveFrame
  rw [if_neg (by simp [hruns, h15, hup])]

theorem resetting_countRx (len da : Nat) : (countRx p len da d).fab.resetting = d.fab.resetting := by
  unfold countRx
  dsimp only
  split
  · rfl
  · split <;> rfl

theorem maxFrame_countRx (len da q : Nat) : maxFrame (countRx p len da d) q = maxFrame d q := by
  have honly : Only [.fab] (countRx p len da d) d := by simp
  exact honly.cfg rfl _ _

theorem receiveFrame_of_resetting (hruns : fabricRuns d = true) (h15 : p ≠ 15) (hup : portUp d p = true)
    (hreset : d.fab.resetting = true) :
    receiveFrame p tc o ok stamp d = dropAt p 0x14 (countRx p (frameLen o) (frameDa o) d) := by
  rw [receiveFrame_of_up hruns h15 hup]
  exact if_pos ((resetting_countRx _ _).trans hreset)

theorem receiveFrame_of_long (hruns : fabricRuns d = true) (h15 : p ≠ 15) (hup : portUp d p = true)
    (hreset : d.fab.resetting = false) (hlong : maxFrame d p < frameLen o) :
    receiveFrame p tc o ok stamp d = dropAt p 0x02 (countRx p (frameLen o) (frameDa o) d) := by
  rw [receiveFrame_of_up hruns h15 hup]
  dsimp only
  rw [resetting_countRx, maxFrame_countRx, hreset, if_neg (by decide), if_pos hlong]

theorem receiveFrame_of_bad (hruns : fabricRuns d = true) (h15 : p ≠ 15) (hup : portUp d p = true)
    (hreset : d.fab.resetting = false) (hfits : frameLen o ≤ maxFrame d p) (hbad : ok = false ∨ frameLen o < 64) :
    receiveFrame p tc o ok stamp d = dropAt p 0x01 (countRx p (frameLen o) (frameDa o) d) := by
  rw [receiveFrame_of_up hruns h15 hup]
  dsimp only
  rw [resetting_countRx, maxFrame_countRx, hreset, if_neg (by decide), if_neg (not_lt.mpr hfits),
    if_pos (by rcases hbad with h | h <;> simp [h])]

/-- No session mirrors a frame. -/
theorem mirrorAll_of_none {el fromPort : Nat} (h : mirrorsOf d el p = []) : mirrorAll el p o stamp fromPort d = d := by
  unfold mirrorAll
  rw [h]
  rfl

theorem mirrorsOf_congr {t : Dev} {el : Nat} (h : ∀ obj e, cfg t obj e = cfg d obj e) : mirrorsOf t el p = mirrorsOf d el p := by
  unfold mirrorsOf
  simp only [h]

/-- A frame in good order is decided. -/
theorem receiveFrame_of_good (hruns : fabricRuns d = true) (h15 : p ≠ 15) (hup : portUp d p = true)
    (hgood : d.fab.resetting = false ∧ frameLen o ≤ maxFrame d p ∧ ok = true ∧ 64 ≤ frameLen o ∧ frameType o ≠ 0x8808 ∧
      mirrorsOf d 1 p = []) :
    receiveFrame p tc o ok stamp d = decideFrame p tc o stamp (countRx p (frameLen o) (frameDa o) d) := by
  obtain ⟨hreset, hlen, hok, hlong, htype, hmirrors⟩ := hgood
  rw [receiveFrame_of_up hruns h15 hup]
  dsimp only
  rw [resetting_countRx, maxFrame_countRx, hreset, if_neg (by decide), if_neg (not_lt.mpr hlen), if_neg (by simp [hok, hlong]),
    if_neg (by simp [htype])]
  refine mirrorAll_of_none ?_
  obtain ⟨u, hu⟩ : ∃ u, u = countRx p (frameLen o) (frameDa o) d := ⟨_, rfl⟩
  have honly : Only [.fab] u d := by rw [hu]; simp
  rw [← hu]
  have hdecided : Only decisionParts (decideFrame p tc o stamp u) u := by simp
  rw [mirrorsOf_congr fun obj e => (hdecided.cfg rfl obj e).trans (honly.cfg rfl obj e)]
  exact hmirrors

theorem decideFrame_fenced (hfenced : (swPort d p).fenced = true) (hadmits : fenceAdmits d p o = false) :
    decideFrame p tc o stamp d = dropAt p 0x03 d := by
  unfold decideFrame
  exact if_pos (by simp [hfenced, hadmits])

theorem decideFrame_vlanDrop (hfree : (swPort d p).fenced = false) (hvlan : vlanIngress d p (frameVid o) = .drop) :
    decideFrame p tc o stamp d = dropAt p 0x04 d := by
  unfold decideFrame
  simp [hfree, hvlan]

theorem decideFrame_vlanFault (hfree : (swPort d p).fenced = false) (hvlan : vlanIngress d p (frameVid o) = .fault) :
    decideFrame p tc o stamp d = dropAt p 0x05 d := by
  unfold decideFrame
  simp [hfree, hvlan]

/-- A decided frame, ready for its destinations. -/
def readyOf (c : ClassEnd) (p vid stamp : Nat) (o : List Byte) (many : Bool) : Ready where
  octets := o
  vid := vid
  cls := c.cls
  pcp := c.pcp
  inPort := p
  stamp := stamp
  many := many
  punt := none

variable {c : ClassEnd} {d2 : Dev} (hfree : (swPort d p).fenced = false) (hp : p ≤ 12)
  (hvid : vlanIngress d p (frameVid o) = .vid vid) (hclass : classify p vid o (learnFrom p vid o d) = (c, d2))
  (hmirror : c.mirror = none)
include hfree hp hvid hclass hmirror

/-- A frame that a rule or a policer stops. -/
theorem decideFrame_stopped (hdrop : c.drop ≠ 0) : decideFrame p tc o stamp d = dropAt p c.drop d2 := by
  unfold decideFrame
  simp [hfree, hvid, show p ≠ 13 by omega, show p ≠ 14 by omega, hclass, hmirror, hdrop]

/-- A frame that is bridged. -/
theorem decideFrame_bridged (hdrop : c.drop = 0) (hrouter : routerVrf d2 p o = none) :
    decideFrame p tc o stamp d = finishDecision (readyOf c p vid stamp o (bridgeDests d2 vid o).many)
      (bridgeDests d2 vid o).ports false c.policed d2 := by
  unfold decideFrame readyOf
  simp [hfree, hvid, show p ≠ 13 by omega, show p ≠ 14 by omega, hclass, hmirror, hdrop, hrouter]

end

/-! ### One destination -/

section
variable {d : Dev} {r : Ready} {q : Nat} {ports : BitVec 16} {policed : Bool}

theorem finishDecision_one (hmask : maskDests r.inPort ports d = ([q], d)) (hcls : r.cls ≠ 7) :
    finishDecision r ports false policed d =
      pauseCheckAll (admitTo r d.fab.nextFrame q (onFab (fun f => { f with nextFrame := d.fab.nextFrame + 1 }) d)) := by
  unfold finishDecision
  rw [hmask]
  dsimp only
  rw [if_neg (by simp)]
  refine if_neg ?_
  unfold cutsThrough
  simp [hcls]

theorem admitTo_admitted {frame a k : Nat} (hcls : r.cls ≠ 7) (hmany : r.many = false)
    (hadmit : admission d q r.cls (r.copy frame).cells (foldOf d q r.cls) = some (a, k)) :
    admitTo r frame q d = enqueue q r.cls { r.copy frame with fold := a, common := k } d := by
  unfold admitTo
  dsimp only
  rw [if_neg fun h => hcls h.1, hmany, if_neg (by simp), hadmit]

theorem admitTo_dropped {frame : Nat} (hcls : r.cls ≠ 7) (hmany : r.many = false)
    (hadmit : admission d q r.cls (r.copy frame).cells (foldOf d q r.cls) = none) (hxoff : (swPort d r.inPort).xoff = false) :
    admitTo r frame q d = dropCopy q r.cls 0x0C d := by
  unfold admitTo
  dsimp only
  rw [if_neg fun h => hcls h.1, hmany, if_neg (by simp), hadmit]
  dsimp only
  rw [if_neg (by simp [headroomTakes, hxoff]), if_neg (by simp)]

end

/-! ### The end of a frame that is cut through -/

/-- The end of a frame goes out on a port whose balls are its own. -/
theorem emit_frameEnd {d : Dev} {q : Nat} {k : FrameEnd} (h : Reaches d q) :
    emit (.frameEnd q k) d = { d with out := d.out ++ [.frameEnd q k] } := by
  obtain ⟨hheld, hbank⟩ := h
  have hbank' : (q == 12 && !d.aon.bankH) = false := by
    rcases hbank with h | h
    · simp [h]
    · simp [h]
  simp [emit, bankSilent, heldSilent, hheld, hbank']

section
variable {d : Dev} {p q c len : Nat} {x : Copy}

/-- What a copy in transmission gives back when its frame turns out shorter: of common, then of its fold. -/
def comBack (len : Nat) (x : Copy) : Nat := min x.common (x.fold + x.common - min x.cells (cellsOf len))
@[inherit_doc comBack] def foldBack (len : Nat) (x : Copy) : Nat :=
  min x.fold (x.fold + x.common - min x.cells (cellsOf len) - comBack len x)

/-- The copy in transmission with the charge of its frame's length. -/
def trimmed (len : Nat) (x : Copy) : Copy :=
  { x with cells := min x.cells (cellsOf len), fold := x.fold - foldBack len x, common := x.common - comBack len x }

/-- The egress of a frame that has ended, before its residues are tested again. -/
def trimEgress (q c len : Nat) (x : Copy) (d : Dev) : Dev :=
  setSwPort q (fun w => { w with cutFrom := none, sending := some (c, trimmed len x) })
    (setQueue q c (fun z => { z with foldUse := z.foldUse - foldBack len x, comUse := z.comUse - comBack len x }) d)

/-- The egress of a frame that has ended well. -/
def egressTrimmed (q c len : Nat) (x : Copy) (d : Dev) : Dev :=
  pauseCheckAll (retest q c (decide (0 < comBack len x)) (trimEgress q c len x d))

theorem cutEgressEnd_eq (h : (swPort d q).sending = some (c, x)) (bad : Bool) : cutEgressEnd q len bad d =
    if bad then emit (.frameEnd q .fcsInverted) (setSwPort q (fun w => { w with cutBad := satInc w.cutBad }) (egressTrimmed q c len x d))
    else egressTrimmed q c len x d := by
  unfold cutEgressEnd
  rw [h]
  rfl

theorem calm_egressTrimmed : Calm (egressTrimmed q c len x d) (trimEgress q c len x d) := calm_pauseCheckAll.trans (calm_retest _)

theorem only_egressTrimmed : Only endingParts (egressTrimmed q c len x d) d := by
  have hport : Only endingParts (trimEgress q c len x d) d := by
    unfold trimEgress
    rw [only_setSwPort_of_fenced (f := fun w => { w with cutFrom := none, sending := some (c, trimmed len x) }) (fun _ => rfl) (by decide)]
    simp
  unfold egressTrimmed
  rw [only_pauseCheckAll (by decide), only_retest _ _ _ (by decide)]
  exact hport

theorem swPort_trimEgress (m : Nat) : swPort (trimEgress q c len x d) m =
    if m = q then { swPort d q with cutFrom := none, sending := some (c, trimmed len x) } else swPort d m :=
  swPort_setSwPort _

theorem queueOf_egressTrimmed (h : d.fab.residues = []) : queueOf (egressTrimmed q c len x d) q c =
    { queueOf d q c with foldUse := (queueOf d q c).foldUse - foldBack len x, comUse := (queueOf d q c).comUse - comBack len x } := by
  unfold egressTrimmed
  rw [sameQueues_pauseCheckAll.queueOf, retest_of_nil (d := trimEgress q c len x d) h]
  exact queueOf_setQueue_self q c (fun z => { z with foldUse := z.foldUse - foldBack len x, comUse := z.comUse - comBack len x }) d

/-- The egress of a frame that has ended, well or with an error. -/
theorem cutEgressEnd_ends (h : (swPort d q).sending = some (c, x)) (bad : Bool) :
    Only endingParts (cutEgressEnd q len bad d) d ∧
    (∀ m, (swPort (cutEgressEnd q len bad d) m).cutIn = (swPort d m).cutIn ∧
      (swPort (cutEgressEnd q len bad d) m).lastDrop = (swPort d m).lastDrop) ∧
    (swPort (cutEgressEnd q len bad d) q).cutFrom = none ∧
    (swPort (cutEgressEnd q len bad d) q).sending = some (c, trimmed len x) ∧
    (swPort (cutEgressEnd q len bad d) q).cutBad = (if bad then satInc (swPort d q).cutBad else (swPort d q).cutBad) ∧
    (d.fab.residues = [] → queueOf (cutEgressEnd q len bad d) q c =
      { queueOf d q c with foldUse := (queueOf d q c).foldUse - foldBack len x, comUse := (queueOf d q c).comUse - comBack len x }) ∧
    (bad = true → Reaches d q → Emission.frameEnd q .fcsInverted ∈ (cutEgressEnd q len bad d).out) := by
  obtain ⟨u, hu⟩ : ∃ u, u = egressTrimmed q c len x d := ⟨_, rfl⟩
  have hcalm : Calm u (trimEgress q c len x d) := by rw [hu]; exact calm_egressTrimmed
  have honly : Only endingParts u d := by rw [hu]; exact only_egressTrimmed
  have hqueue (hnil : d.fab.residues = []) := queueOf_egressTrimmed (q := q) (c := c) (len := len) (x := x) hnil
  rw [← hu] at hqueue
  have hmid (m : Nat) : (swPort u m).cutIn = (swPort d m).cutIn ∧ (swPort u m).lastDrop = (swPort d m).lastDrop := by
    rw [hcalm.cutIn, hcalm.lastDrop, swPort_trimEgress]
    split
    next h => subst h; exact ⟨rfl, rfl⟩
    next => exact ⟨rfl, rfl⟩
  have hfrom : (swPort u q).cutFrom = none := by rw [hcalm.cutFrom, swPort_trimEgress, if_pos rfl]
  have hsend : (swPort u q).sending = some (c, trimmed len x) := by rw [hcalm.sending, swPort_trimEgress, if_pos rfl]
  have hbad : (swPort u q).cutBad = (swPort d q).cutBad := by rw [hcalm.cutBad, swPort_trimEgress, if_pos rfl]
  rw [cutEgressEnd_eq h, ← hu]
  cases bad
  · exact ⟨honly, hmid, hfrom, hsend, hbad, hqueue, fun h => by cases h⟩
  · rw [if_pos rfl]
    obtain ⟨v, hv⟩ : ∃ v, v = setSwPort q (fun w => { w with cutBad := satInc w.cutBad }) u := ⟨_, rfl⟩
    have hvonly : Only [.fab] v u := by rw [hv]; simp
    have hvfab : (emit (.frameEnd q .fcsInverted) v).fab = v.fab :=
      (show Only [.out] (emit (.frameEnd q .fcsInverted) v) v by simp).fab rfl
    have hport (m : Nat) : swPort (emit (.frameEnd q .fcsInverted) v) m =
        if m = q then { swPort u q with cutBad := satInc (swPort u q).cutBad } else swPort u m := by
      rw [show swPort (emit (.frameEnd q .fcsInverted) v) m = swPort v m by unfold swPort; rw [hvfab], hv, swPort_setSwPort]
    rw [← hv]
    refine ⟨?_, fun m => ?_, ?_, ?_, ?_, fun hnil => ?_, fun _ hreach => ?_⟩
    · rw [only_emit _ (by decide)]
      exact (hvonly.mono (by decide)).trans honly
    · rw [hport]
      split
      next h => subst h; exact hmid _
      next => exact hmid m
    · rw [hport, if_pos rfl]; exact hfrom
    · rw [hport, if_pos rfl]; exact hsend
    · rw [hport, if_pos rfl, if_pos rfl]; exact congrArg satInc hbad
    · rw [(sameQueues_emit _).queueOf, hv]
      exact hqueue hnil
    · obtain ⟨hheld, hbank⟩ := hreach
      have hlike : Reaches v q := by
        refine ⟨?_, hbank.imp_right fun h => ?_⟩
        · rw [portHeld_congr (t := v) (d := d) ((hvonly.otp rfl).trans (honly.otp rfl))]
          exact hheld
        · rw [hvonly.aon rfl, honly.aon rfl]
          exact h
      rw [emit_frameEnd hlike]
      simp

theorem cutThroughFrameEnd_of_cutIn (hin : (swPort d p).cutIn = true) (bad : Bool) : cutThroughFrameEnd p len bad d =
    let u := setSwPort p (fun w => { w with cutIn := false }) d
    let v := match (List.range 16).find? fun q => (swPort d q).cutFrom == some p with
      | some q => cutEgressEnd q len bad u
      | none => u
    if bad then dropAt p 0x01 v else v := by
  have hfrom (q : Nat) : (swPort (setSwPort p (fun w => { w with cutIn := false }) d) q).cutFrom = (swPort d q).cutFrom := by
    rw [swPort_setSwPort]
    split
    next h => subst h; rfl
    next => rfl
  unfold cutThroughFrameEnd
  rw [if_neg (by simp [hin])]
  simp only [hfrom] <;> rfl

end

/-! ### Receiving -/

section
variable {s : State} {p : SPort} {o : List Byte} {ok : Bool} {at_ : Nat} {ecc : List EccHit}
  (hreach : Reaches s.dev p.val) (hruns : fabricRuns s.dev = true) (h15 : p.val ≠ 15) (hup : portUp s.dev p.val = true)
include hreach hruns h15 hup

/-- A frame on a port that is up is received with what its lookups found. -/
theorem answers_received {P : Dev → Prop} (hP : ∀ tc, P (settle (receiveFrame p.val tc o ok (min at_ s.dev.now) (eccFindAll ecc (hush s.dev))))) :
    Answers (.frameDecision p o ok at_ ecc) s P := by
  have heffect : whilePort p.val (frameDecision p.val o ok at_ ecc) (hush s.dev) =
      receiveFrame p.val (gatewayClass (hush s.dev) o) o ok (min at_ s.dev.now) (eccFindAll ecc (hush s.dev)) := by
    rw [whilePort_of_reaches (d := hush s.dev) hreach]
    have hruns' : fabricRuns (hush s.dev) = true := hruns
    exact if_neg (by simp [hruns'])
  exact answers_of_effect (f := whilePort p.val (frameDecision p.val o ok at_ ecc)) rfl heffect (hP _)

omit hreach h15 hup in
theorem fabricRuns_found : fabricRuns (eccFindAll ecc (hush s.dev)) = true := by
  have honly : Only findParts (eccFindAll ecc (hush s.dev)) (hush s.dev) := by simp
  unfold fabricRuns
  rw [honly.aon rfl]
  exact hruns

omit hreach hruns h15 in
theorem portUp_found : portUp (eccFindAll ecc (hush s.dev)) p.val = true := by
  have honly : Only findParts (eccFindAll ecc (hush s.dev)) (hush s.dev) := by simp
  rw [portUp_congr honly (by decide) (by unfold swPort; rw [ports_eccFindAll])]
  exact hup

/-- A frame dropped after a look that leaves the queues. -/
theorem answers_dropped {code : Nat} {u : Dev}
    (hdrop : ∀ tc, receiveFrame p.val tc o ok (min at_ s.dev.now) (eccFindAll ecc (hush s.dev)) = dropAt p.val code u)
    (hpass : Passing u (countRx p.val (frameLen o) (frameDa o) (eccFindAll ecc (hush s.dev))))
    (honly : Only decisionParts u (countRx p.val (frameLen o) (frameDa o) (eccFindAll ecc (hush s.dev)))) :
    Answers (.frameDecision p o ok at_ ecc) s (Dropped s (eccFindAll ecc (hush s.dev)) p.val o code) := by
  refine answers_received hreach hruns h15 hup fun tc => ?_
  rw [hdrop]
  exact dropped_of_passing (by simp) hpass honly

end

/-- Settles O51. -/
theorem frameDecisions : Obligations.FrameDecisions := by
  unfold Obligations.FrameDecisions
  refine ⟨fun s p o ok at_ ecc hheld hbank hruns h15 hup => ?_, fun s p len bad hheld hbank => ?_⟩
  · have hreach : Reaches s.dev p.val := ⟨hheld, hbank⟩
    have hfound : Only findParts (eccFindAll ecc (hush s.dev)) (hush s.dev) := by simp
    have hruns' := fabricRuns_found (ecc := ecc) hruns
    have hup' := portUp_found (ecc := ecc) hup
    have hdropped {code : Nat} {u : Dev} := answers_dropped (ok := ok) (o := o) (at_ := at_) (ecc := ecc) (code := code) (u := u)
      hreach hruns h15 hup
    have hreceived {P : Dev → Prop} := answers_received (ok := ok) (o := o) (at_ := at_) (ecc := ecc) (P := P) hreach hruns h15 hup
    obtain ⟨d, hd⟩ : ∃ d, d = eccFindAll ecc (hush s.dev) := ⟨_, rfl⟩
    rw [← hd] at hfound hruns' hup' ⊢
    have hnow : d.now = s.dev.now := hfound.now rfl
    intro e1 d1 dropped good
    have hd1 : d1 = countRx p.val (frameLen o) (frameDa o) d := rfl
    have hfree1 : (swPort d1 p.val).fenced = (swPort d p.val).fenced := by rw [hd1, swPort_countRx]
    have hgood (hg : good) (tc : Nat) : receiveFrame p.val tc o ok (min at_ s.dev.now) d = decideFrame p.val tc o (min at_ s.dev.now) d1 :=
      receiveFrame_of_good hruns' h15 hup' hg
    have hdrops {code : Nat} {u : Dev} (hdrop : ∀ tc, receiveFrame p.val tc o ok (min at_ s.dev.now) d = dropAt p.val code u)
        (hpass : Passing u d1) (honly : Only decisionParts u d1) : Answers (.frameDecision p o ok at_ ecc) s (dropped code) := by
      have h := hdropped (code := code) (u := u)
      rw [← hd] at h
      exact h hdrop hpass honly
    refine ⟨fun hreset => ?_, fun hreset hlong => ?_, fun hreset hfits hbad => ?_, fun hg hfenced hadmits => ?_,
      fun hg hfree hvlan => ?_, fun hg hfree hvlan => ?_, fun vid c d2 hg hfree hp hvid hclass hmirror => ?_⟩
    · exact hdrops (fun tc => receiveFrame_of_resetting hruns' h15 hup' hreset) (.refl _) (.refl _ _)
    · exact hdrops (fun tc => receiveFrame_of_long hruns' h15 hup' hreset hlong) (.refl _) (.refl _ _)
    · exact hdrops (fun tc => receiveFrame_of_bad hruns' h15 hup' hreset hfits hbad) (.refl _) (.refl _ _)
    · exact hdrops (fun tc => (hgood hg tc).trans (decideFrame_fenced (hfree1.trans hfenced) hadmits)) (.refl _) (.refl _ _)
    · exact hdrops (fun tc => (hgood hg tc).trans (decideFrame_vlanDrop (hfree1.trans hfree) hvlan)) (.refl _) (.refl _ _)
    · exact hdrops (fun tc => (hgood hg tc).trans (decideFrame_vlanFault (hfree1.trans hfree) hvlan)) (.refl _) (.refl _ _)
    · have hlearned : Only [.fab, .st] (learnFrom p.val vid o d1) d1 := by simp
      have hpass : Passing d2 d1 := by
        have h := passing_classify (d := learnFrom p.val vid o d1) (p := p.val) (vid := vid) (o := o)
        rw [hclass] at h
        exact h.trans passing_learnFrom
      have honly : Only decisionParts d2 d1 := by
        have h := only_classify (d := learnFrom p.val vid o d1) p.val vid o
        rw [hclass] at h
        exact (h.mono (by decide)).trans (hlearned.mono (by decide))
      refine ⟨fun hstop => ?_, fun q hdrop hrouter hdests hq hmask hcls => ?_⟩
      · exact hdrops (fun tc => (hgood hg tc).trans (decideFrame_stopped (hfree1.trans hfree) hp hvid hclass hmirror hstop)) hpass honly
      · intro x
        obtain ⟨r, hr⟩ : ∃ r, r = readyOf c p.val vid (min at_ s.dev.now) o false := ⟨_, rfl⟩
        obtain ⟨v, hv⟩ : ∃ v, v = onFab (fun f => { f with nextFrame := d2.fab.nextFrame + 1 }) d2 := ⟨_, rfl⟩
        have hcopy : r.copy d2.fab.nextFrame = x := by
          have hnext : d2.fab.nextFrame = d.fab.nextFrame := hpass.next.trans (nextFrame_countRx _ _)
          rw [hr, hnext, ← hnow]
          rfl
        have hend (tc : Nat) : receiveFrame p.val tc o ok (min at_ s.dev.now) d = pauseCheckAll (admitTo r d2.fab.nextFrame q v) := by
          have hb := decideFrame_bridged (tc := tc) (stamp := min at_ s.dev.now) (hfree1.trans hfree) hp hvid hclass hmirror hdrop hrouter
          rw [hdests] at hb
          rw [hgood hg tc, hb, ← hr, hv]
          exact finishDecision_one (r := r) (by rw [hr]; exact hmask) (by rw [hr]; exact hcls)
        have hvd : Only decisionParts v s.dev := by
          rw [hv, only_onFab rfl (by decide)]
          have h1 : Only [.fab] d1 d := by rw [hd1]; simp
          exact honly.trans ((h1.mono (by decide)).trans ((hfound.mono (by decide)).trans (by simp)))
        have hvq : SameQueues v d := by
          rw [hv]
          exact hpass.queues.trans (sameQueues_countRx _ _)
        have hall : Only decisionParts (settle (pauseCheckAll (admitTo r d2.fab.nextFrame q v))) s.dev := by
          rw [only_settle (by decide), only_pauseCheckAll (by decide), only_admitTo _ _ _ (by decide)]
          exact hvd
        have hcls' : r.cls ≠ 7 := by rw [hr]; exact hcls
        have hmany : r.many = false := by rw [hr]; rfl
        have hrcls : r.cls = c.cls := by rw [hr]; rfl
        refine ⟨fun a k hadmit => ?_, fun hadmit hxoff => ?_⟩
        · refine hreceived fun tc => ?_
          rw [← hd, hend tc]
          have hadmitted := admitTo_admitted (d := v) (r := r) (q := q) (frame := d2.fab.nextFrame) (a := a) (k := k) hcls' hmany (by
            rw [hcopy, hrcls, hv]
            exact hadmit)
          rw [hcopy, hrcls] at hadmitted
          rw [hadmitted] at hall ⊢
          have hqueues := sameQueues_pauseCheckAll (d := enqueue q c.cls { x with fold := a, common := k } v)
          have hqueue := queueOf_enqueue (d := v) (p := q) (c := c.cls) (x := { x with fold := a, common := k })
          have hres := residues_enqueue (d := v) (p := q) (c := c.cls) (x := { x with fold := a, common := k })
          have hcalm := (calm_pauseCheckAll (d := enqueue q c.cls { x with fold := a, common := k } v)).trans calm_enqueue
          rw [hvq.queueOf] at hqueue
          refine ⟨?_, ?_, ?_, ?_, ?_, hall.samePower rfl, hall.sameTime rfl, hall.sameStores rfl, hall.sameAon rfl⟩
          · rw [queueOf_settle, hqueues.queueOf, hqueue]
          · rw [queueOf_settle, hqueues.queueOf, hqueue]
          · rw [queueOf_settle, hqueues.queueOf, hqueue]
          · rw [settle_fab, hqueues.2, hres, hvq.2]
          · rw [settle_fab, hcalm.nextFrame, hv]
            exact congrArg (· + 1) (hpass.next.trans (nextFrame_countRx _ _))
        · refine hreceived fun tc => ?_
          rw [← hd, hend tc]
          have hxoff' : (swPort v r.inPort).xoff = false := by
            rw [hr, hv]
            exact (hpass.xoff _).trans (by rw [hd1, swPort_countRx]; exact hxoff)
          have hdropped := admitTo_dropped (d := v) (r := r) (q := q) (frame := d2.fab.nextFrame) hcls' hmany (by
            rw [hcopy, hrcls, hv]
            exact hadmit) hxoff'
          rw [hrcls] at hdropped
          rw [hdropped] at hall ⊢
          have hqueues := sameQueues_pauseCheckAll.trans ((sameQueues_dropCopy (d := v) (p := q) (c := c.cls) 0x0C).trans hvq)
          have hcalm := calm_pauseCheckAll (d := dropCopy q c.cls 0x0C v)
          refine ⟨?_, ?_, ?_, hall.samePower rfl, hall.sameTime rfl, hall.sameStores rfl, hall.sameAon rfl⟩
          · rw [swPort_settle, hcalm.lastDrop, swPort_dropCopy, if_pos rfl]
          · rw [settle_fab, hqueues.1]
          · rw [settle_fab, hqueues.2]
  · have hreach : Reaches s.dev p.val := ⟨hheld, hbank⟩
    have heffect : whilePort p.val (cutThroughFrameEnd p.val len bad) (hush s.dev) = cutThroughFrameEnd p.val len bad (hush s.dev) :=
      whilePort_of_reaches (d := hush s.dev) hreach _
    refine ⟨fun hout => ?_, fun hin hnone => ?_, fun q c x hin hsome hsend => ?_⟩
    · refine answers_became (f := whilePort p.val (cutThroughFrameEnd p.val len bad)) rfl (heffect.trans ?_)
      have hout' : (swPort (hush s.dev) p.val).cutIn = false := hout
      exact if_pos (by simp [hout'])
    · have hend := cutThroughFrameEnd_of_cutIn (d := hush s.dev) (len := len) hin bad
      rw [show ((List.range 16).find? fun q => (swPort (hush s.dev) q).cutFrom == some p.val) = none from hnone] at hend
      refine answers_of_effect (f := whilePort p.val (cutThroughFrameEnd p.val len bad)) rfl (heffect.trans hend) ?_
      dsimp only
      obtain ⟨u, hu⟩ : ∃ u, u = setSwPort p.val (fun w => { w with cutIn := false }) (hush s.dev) := ⟨_, rfl⟩
      have honly : Only [.fab, .odBook, .out] u s.dev := by rw [hu]; simp
      have hport : swPort u p.val = { swPort s.dev p.val with cutIn := false } := by rw [hu]; exact swPort_setSwPort_self _ _ _
      have hqueues : u.fab.queues = s.dev.fab.queues := by rw [hu]; rfl
      have hquiet : u.out = [] := by rw [hu]; rfl
      rw [← hu]
      cases bad
      · have hall : Only [.fab, .odBook, .irq, .out] (settle u) s.dev := (only_settle (by decide)).mpr (honly.mono (by decide))
        refine ⟨?_, ?_, fun h => (by cases h), fun _ => ?_, ?_, hall.samePower rfl, hall.sameTime rfl, hall.sameStores rfl, hall.sameAon rfl⟩
        · rw [swPort_settle]; exact congrArg SwPort.cutIn hport
        · rw [settle_out]; exact hquiet
        · rw [swPort_settle, if_neg Bool.false_ne_true, hport]
        · rw [settle_fab]; exact hqueues
      · have hall : Only [.fab, .odBook, .irq, .out] (settle (dropAt p.val 0x01 u)) s.dev := by
          rw [only_settle (by decide), only_dropAt _ _ (by decide)]
          exact honly.mono (by decide)
        refine ⟨?_, ?_, fun _ => ?_, fun h => (by cases h), ?_, hall.samePower rfl, hall.sameTime rfl, hall.sameStores rfl, hall.sameAon rfl⟩
        · rw [swPort_settle, if_pos rfl, swPort_dropAt, if_pos rfl]; exact congrArg SwPort.cutIn hport
        · rw [settle_out, if_pos rfl, out_dropAt]; exact hquiet
        · rw [swPort_settle, if_pos rfl, lastDrop_dropAt]
        · rw [settle_fab, if_pos rfl, (sameQueues_dropAt _).1]; exact hqueues
    · intro n extra com fold
      have hend := cutThroughFrameEnd_of_cutIn (d := hush s.dev) (len := len) hin bad
      rw [show ((List.range 16).find? fun q => (swPort (hush s.dev) q).cutFrom == some p.val) = some q from hsome] at hend
      refine answers_of_effect (f := whilePort p.val (cutThroughFrameEnd p.val len bad)) rfl (heffect.trans hend) ?_
      dsimp only
      obtain ⟨u, hu⟩ : ∃ u, u = setSwPort p.val (fun w => { w with cutIn := false }) (hush s.dev) := ⟨_, rfl⟩
      have honly : Only [.fab, .odBook, .out] u s.dev := by rw [hu]; simp
      have hport (m : Nat) : swPort u m = if m = p.val then { swPort s.dev p.val with cutIn := false } else swPort s.dev m := by
        rw [hu]; exact swPort_setSwPort _
      have hfab : u.fab.residues = s.dev.fab.residues ∧ u.fab.queues = s.dev.fab.queues := by rw [hu]; exact ⟨rfl, rfl⟩
      have hsend' : (swPort u q).sending = some (c, x) := by
        rw [hport, ← hsend]
        split
        next h => rw [h]
        next => rfl
      have hcutBad : (swPort u q).cutBad = (swPort s.dev q).cutBad := by
        rw [hport]
        split
        next h => rw [h]
        next => rfl
      obtain ⟨hends, hmid, hfrom, hsending, hbad, hqueue, hgone⟩ := cutEgressEnd_ends (len := len) hsend' bad
      rw [← hu]
      generalize cutEgressEnd q len bad u = v at hends hmid hfrom hsending hbad hqueue hgone
      obtain ⟨hcutIn, hlast⟩ := hmid p.val
      have hvd : Only (.odBook :: endingParts) v s.dev := (hends.mono (by decide)).trans (honly.mono (by decide))
      have hq (hnil : s.dev.fab.residues = []) : (queueOf v q c).foldUse = (queueOf s.dev q c).foldUse - fold ∧
          (queueOf v q c).comUse = (queueOf s.dev q c).comUse - com := by
        have huq : queueOf u q c = queueOf s.dev q c := by unfold queueOf; rw [hfab.2]
        rw [hqueue (hfab.1.trans hnil), huq]
        exact ⟨rfl, rfl⟩
      cases bad
      · have hall : Only (.odBook :: .irq :: endingParts) (settle v) s.dev := (only_settle (by decide)).mpr (hvd.mono (by decide))
        refine ⟨?_, ?_, ?_, fun h => (by cases h), fun _ => ⟨?_, ?_⟩, fun hnil => ?_, hall.samePower rfl, hall.sameTime rfl,
          hall.sameStores rfl, hall.sameAon rfl⟩
        · rw [swPort_settle]; exact hcutIn.trans (by rw [hport, if_pos rfl])
        · rw [swPort_settle]; exact hfrom
        · rw [swPort_settle]; exact hsending
        · rw [swPort_settle]; exact hbad.trans hcutBad
        · rw [swPort_settle]; exact hlast.trans (by rw [hport, if_pos rfl])
        · rw [queueOf_settle]; exact hq hnil
      · have hall : Only (.odBook :: .irq :: endingParts) (settle (dropAt p.val 0x01 v)) s.dev := by
          rw [only_settle (by decide), only_dropAt _ _ (by decide)]
          exact hvd.mono (by decide)
        have hdropped (m : Nat) : (swPort (dropAt p.val 0x01 v) m).cutIn = (swPort v m).cutIn ∧
            (swPort (dropAt p.val 0x01 v) m).cutFrom = (swPort v m).cutFrom ∧
            (swPort (dropAt p.val 0x01 v) m).sending = (swPort v m).sending ∧
            (swPort (dropAt p.val 0x01 v) m).cutBad = (swPort v m).cutBad := by
          rw [swPort_dropAt]
          split
          next h => subst h; exact ⟨rfl, rfl, rfl, rfl⟩
          next => exact ⟨rfl, rfl, rfl, rfl⟩
        rw [if_pos rfl]
        refine ⟨?_, ?_, ?_, fun _ => ⟨?_, ?_, fun hheld' hbank' => ?_⟩, fun h => (by cases h), fun hnil => ?_, hall.samePower rfl,
          hall.sameTime rfl, hall.sameStores rfl, hall.sameAon rfl⟩
        · rw [swPort_settle, (hdropped _).1]; exact hcutIn.trans (by rw [hport, if_pos rfl])
        · rw [swPort_settle, (hdropped _).2.1]; exact hfrom
        · rw [swPort_settle, (hdropped _).2.2.1]; exact hsending
        · rw [swPort_settle, (hdropped _).2.2.2]; exact hbad.trans (congrArg satInc hcutBad)
        · rw [swPort_settle, lastDrop_dropAt]
        · rw [settle_out, out_dropAt]
          refine hgone rfl ⟨?_, hbank'.imp_right fun h => ?_⟩
          · rw [portHeld_congr (t := u) (d := s.dev) (honly.otp rfl)]
            exact hheld'
          · rw [honly.aon rfl]
            exact h
        · rw [queueOf_settle, (sameQueues_dropAt _).queueOf]; exact hq hnil

end Sys2Proof.Proofs.FrameDecisions


/-! Transmission, ageing and residues (chapter 11, and the scheduler of chapter 14). -/

namespace Sys2Proof.Proofs.Transmission

open Sys2Proof Sys2Proof.Machine Sys2Proof.Safety
open Sys2Proof.Proofs.StepAndTimers
open Sys2Proof.Proofs.ShapersAndTally
open Sys2Proof.Proofs.Frames
open Sys2Proof.Proofs.Running
open Sys2Proof.Proofs.TimeSources (Reaches mem_out_emit emit_frame)
open Sys2Proof.Proofs.PinsAndEpochs (swPort_setSwPort_other portHeld_congr)
open Sys2Proof.Proofs.Switching
open Sys2Proof.Proofs.FrameDecisions (emit_frameEnd mirrorAll_of_none mirrorsOf_congr)

/-! ### Selection -/

/-- What a selection leaves: all but deficits, and whose turn it is. -/
structure Picked (t d : Dev) : Prop where
  only : Only [.fab] t d
  base : base t.fab = base d.fab
  residues : t.fab.residues = d.fab.residues
  copies : ∀ p c, (queueOf t p c).copies = (queueOf d p c).copies
  counts : ∀ k, counterOf t 1 k = counterOf d 1 k
  lastDrop : ∀ q, (swPort t q).lastDrop = (swPort d q).lastDrop

namespace Picked

variable {t u d : Dev} {p c : Nat}

theorem refl (d : Dev) : Picked d d := ⟨.refl _ _, rfl, rfl, fun _ _ => rfl, fun _ => rfl, fun _ => rfl⟩

theorem trans (h : Picked t u) (h' : Picked u d) : Picked t d :=
  ⟨h.only.trans h'.only, h.base.trans h'.base, h.residues.trans h'.residues, fun p c => (h.copies p c).trans (h'.copies p c),
    fun k => (h.counts k).trans (h'.counts k), fun q => (h.lastDrop q).trans (h'.lastDrop q)⟩

theorem setQueue {f : Queue → Queue} (hf : ∀ q, (f q).copies = q.copies) : Picked (setQueue p c f d) d := by
  refine ⟨by simp, rfl, rfl, fun m k => ?_, fun _ => rfl, fun _ => rfl⟩
  by_cases hkey : 8 * m + k = 8 * p + c
  · unfold queueOf
    rw [hkey]
    show (queueOf (Machine.setQueue p c f d) p c).copies = _
    rw [queueOf_setQueue_self]
    exact hf _
  · exact congrArg Queue.copies (tget_tset_other _ _ _ hkey)

theorem setSwPort {f : SwPort → SwPort} (hfence : ∀ w, (f w).fenced = w.fenced) (hsend : ∀ w, (f w).sending = w.sending)
    (hdrop : ∀ w, (f w).lastDrop = w.lastDrop) : Picked (setSwPort p f d) d := by
  refine ⟨(only_setSwPort_of_kept hfence hsend (by decide)).mpr (.refl _ _), rfl, rfl, fun _ _ => rfl, fun _ => rfl, fun q => ?_⟩
  rw [swPort_setSwPort]
  split
  next h => subst h; exact hdrop _
  next => rfl

end Picked

section
variable {d : Dev} {p c : Nat} {x : Copy}

theorem picked_dwrr (g : List Nat) (fuel : Nat) : Picked (dwrr p g fuel d).2 d := by
  induction fuel generalizing d with
  | zero => exact .refl d
  | succ fuel ih =>
    have hturn (u : Dev) (m : Nat) : Picked (setSwPort p (fun w => { w with member := nextMember g m, fresh := true }) u) u :=
      .setSwPort (fun _ => rfl) (fun _ => rfl) fun _ => rfl
    unfold dwrr
    extract_lets w m u
    have hu : Picked u d := by
      simp only [u]
      split
      · exact .setQueue fun _ => rfl
      · exact .refl d
    clear_value u
    split
    · exact (ih (d := _)).trans ((hturn _ _).trans hu)
    · exact hu
    next v len _ _ =>
      have hv : Picked v u := by
        simp only [v]
        split
        · exact (Picked.setSwPort (f := fun w => { w with fresh := false }) (fun _ => rfl) (fun _ => rfl) fun _ => rfl).trans
            (.setQueue (f := fun q => { q with deficit := q.deficit + cfg u (shapeObj p) (8 + m) * 256 }) fun _ => rfl)
        · exact .refl u
      clear_value v
      split
      · exact (Picked.setQueue (f := fun q => { q with deficit := q.deficit - len }) fun _ => rfl).trans (hv.trans hu)
      · exact (ih (d := _)).trans ((hturn _ _).trans (hv.trans hu))

theorem picked_pickQueue : Picked (pickQueue p d).2 d := by
  unfold pickQueue
  extract_lets g level
  split
  · exact .refl d
  · split
    · exact picked_dwrr _ _
    · exact .refl d

theorem picked_chargeShapers (o : List Byte) : Picked (chargeShapers p c o d) d := by
  unfold chargeShapers
  dsimp only
  split
  · exact .refl d
  · refine (Picked.setSwPort (fun w => ?_) (fun w => ?_) fun w => ?_).trans (.setQueue fun q => ?_)
    all_goals split <;> rfl

end

/-! ### A copy discarded -/

/-- The head of a queue taken off and counted as a drop, its charge not yet released. -/
def beheaded (p c code : Nat) (x : Copy) (rest : List Copy) (d : Dev) : Dev :=
  dropCopy p c code (setQueue p c (fun q => { q with copies := rest })
    (onFab (fun f => { f with loop := f.loop.filter fun y => p != 15 || y.frame != x.frame }) d))

section
variable {d : Dev} {p c code : Nat} {x : Copy} {rest : List Copy}

theorem dropHead_cons (h : (queueOf d p c).copies = x :: rest) :
    dropHead p c code d = release p c x (beheaded p c code x rest d) := by
  unfold dropHead
  rw [h]
  rfl

theorem swPort_beheaded (q : Nat) : swPort (beheaded p c code x rest d) q =
    if q = p then { swPort d p with lastDrop := code } else swPort d q := by
  unfold beheaded
  rw [swPort_dropCopy]
  rfl

theorem base_dropCopy {u : Dev} (q k code : Nat) : base (dropCopy q k code u).fab = base u.fab := by
  have hcounted : base (countQueue q k 2 1 (dropAt q code u)).fab = base (dropAt q code u).fab :=
    (calm_setCounter_two (d := dropAt q code u) _ _).base
  exact hcounted.trans rfl

theorem dropHead_drops (h : (queueOf d p c).copies = x :: rest) (hidle : (swPort d p).sending = none) :
    (swPort (dropHead p c code d) p).lastDrop = code ∧ (swPort (dropHead p c code d) p).sending = none ∧
      (dropHead p c code d).fab.eccDouble = d.fab.eccDouble := by
  rw [dropHead_cons h]
  have hcalm := calm_release (d := beheaded p c code x rest d) (p := p) (c := c) (x := x)
  have hbase : (beheaded p c code x rest d).fab.eccDouble = d.fab.eccDouble := by
    have h := congrArg Fabric.eccDouble (base_dropCopy (u := setQueue p c (fun q => { q with copies := rest })
      (onFab (fun f => { f with loop := f.loop.filter fun y => p != 15 || y.frame != x.frame }) d)) p c code)
    exact h
  refine ⟨?_, ?_, hcalm.eccDouble.trans hbase⟩
  · rw [hcalm.lastDrop, swPort_beheaded, if_pos rfl]
  · rw [hcalm.sending, swPort_beheaded, if_pos rfl]
    exact hidle

/-- An event alarm is latched, and stays so when what follows has settled. -/
theorem alarmLatched_settle {i : Nat} (h : d.od.alarmLatched.getLsbD i = true) : (settle d).od.alarmLatched.getLsbD i = true := by
  have halarms : (settleAlarms d).od.alarmLatched.getLsbD i = true := by
    unfold settleAlarms
    split
    · exact h
    · dsimp only
      split
      · show (d.od.alarmLatched ||| _ : BitVec 64).getLsbD i = true
        rw [BitVec.getLsbD_or, h, Bool.true_or]
      · show (d.od.alarmLatched ||| _ : BitVec 64).getLsbD i = true
        rw [BitVec.getLsbD_or, h, Bool.true_or]
  unfold settle settleSubs
  split
  · exact halarms
  · exact halarms

theorem alarmLatched_eventAlarm {i : Nat} (hi : i < 64) : (eventAlarm i d).od.alarmLatched.getLsbD i = true := by
  have hbit : (BitVec.ofNat 64 (2 ^ i)).getLsbD i = true := by
    rw [BitVec.getLsbD_ofNat]
    simp [hi]
  unfold eventAlarm
  dsimp only
  split
  · show (d.od.alarmLatched ||| BitVec.ofNat 64 (2 ^ i) : BitVec 64).getLsbD i = true
    rw [BitVec.getLsbD_or, hbit, Bool.or_true]
  · show (d.od.alarmLatched ||| BitVec.ofNat 64 (2 ^ i) : BitVec 64).getLsbD i = true
    rw [BitVec.getLsbD_or, hbit, Bool.or_true]

theorem bufferEcc_alarms : (bufferEcc d).fab.eccDouble = satInc d.fab.eccDouble ∧ (∀ q, swPort (bufferEcc d) q = swPort d q) ∧
    (bufferEcc d).od.alarmLatched.getLsbD 7 = true ∧ (bufferEcc d).fab.puntQ = d.fab.puntQ ∧ (bufferEcc d).fab.residues = d.fab.residues := by
  have hfab : (bufferEcc d).fab = { d.fab with eccDouble := satInc d.fab.eccDouble } :=
    (show Only [.odBook, .irq] (bufferEcc d) (onFab (fun f => { f with eccDouble := satInc f.eccDouble }) d) by simp [bufferEcc]).fab rfl
  refine ⟨by rw [hfab], fun q => ?_, alarmLatched_eventAlarm (by decide), by rw [hfab], by rw [hfab]⟩
  unfold swPort
  rw [hfab]

@[simp] theorem only_bufferEcc {S : List Part} {e : Dev} (hS : Within [.fab, .odBook, .irq] S = true) :
    Only S (bufferEcc d) e ↔ Only S d e := Only.iff (T := [.fab, .odBook, .irq]) (by simp [bufferEcc]) hS

end

/-! ### A copy started -/

/-- What a mirror leaves: what has gone out, and the traffic counters. -/
def Later (t d : Dev) : Prop := (∀ e ∈ d.out, e ∈ t.out) ∧ ∀ k, k % 32 < 8 → counterOf t 1 k = counterOf d 1 k

section
variable {t u d : Dev} {p c : Nat} {x : Copy}

theorem Later.refl (d : Dev) : Later d d := ⟨fun _ h => h, fun _ _ => rfl⟩

theorem Later.trans (h : Later t u) (h' : Later u d) : Later t d :=
  ⟨fun e he => h.1 e (h'.1 e he), fun k hk => (h.2 k hk).trans (h'.2 k hk)⟩

theorem later_of_calm (h : Calm t d) : Later t d := ⟨h.out, fun k hk => h.counts k (by omega)⟩

theorem later_dropAt {code : Nat} (hcode : 8 ≤ (10 + code) % 32) : Later (dropAt p code d) d := by
  refine ⟨fun e he => ?_, fun k hk => counterOf_dropAt_other (by omega)⟩
  rw [out_dropAt]
  exact he

theorem later_dropCopy {code : Nat} (hcode : 8 ≤ (10 + code) % 32) : Later (dropCopy p c code d) d := by
  refine ⟨fun e he => ?_, fun k hk => counterOf_dropCopy (by omega)⟩
  rw [(show Only [.fab] (dropCopy p c code d) d by simp).out rfl]
  exact he

theorem later_mirrorCopy (m : Nat) (o : List Byte) (stamp fromPort : Nat) : Later (mirrorCopy m o stamp fromPort d) d := by
  have hfab (f : Fabric → Fabric) (hf : (f d.fab).set1 = d.fab.set1) : Later (onFab f d) d :=
    ⟨fun _ h => h, fun k _ => by show tget 0 (f d.fab).set1 k = _; rw [hf]; rfl⟩
  unfold mirrorCopy
  extract_lets obj dest cl t' o' n fail
  have hfail : Later (fail d) d := (later_dropAt (by decide)).trans (hfab _ rfl)
  split
  · exact .refl d
  · split
    · exact hfail
    · split
      · exact later_dropCopy (by decide)
      · split
        · exact hfail
        · exact (later_of_calm (calm_pauseCheckAll.trans calm_enqueue)).trans (hfab _ rfl)

theorem later_mirrorAll (el : Nat) (o : List Byte) (stamp fromPort : Nat) : Later (mirrorAll el p o stamp fromPort d) d :=
  List.foldlRecOn (motive := fun u => Later u d) _ _ (.refl d) fun _ hu _ _ => (later_mirrorCopy _ _ _ _).trans hu

theorem counterOf_countTx {len da : Nat} : counterOf (countTx p c len da d) 1 (32 * p + 2) = (counterOf d 1 (32 * p + 2) + 1) % 2 ^ 64 := by
  have hcounted : counterOf (countQueue p c 1 len (countQueue p c 0 1 (countPort p 3 len (countPort p 2 1 d)))) 1 (32 * p + 2) =
      (counterOf d 1 (32 * p + 2) + 1) % 2 ^ 64 := by
    unfold countQueue countPort
    rw [counterOf_addCounter_set (by decide), counterOf_addCounter_set (by decide), counterOf_addCounter_other _ (by omega),
      counterOf_addCounter_self]
  unfold countTx
  dsimp only
  rw [← hcounted]
  split
  · exact counterOf_addCounter_other _ (by omega)
  · split
    · exact counterOf_addCounter_other _ (by omega)
    · rfl

theorem sameQueues_countTx {len da : Nat} : SameQueues (countTx p c len da d) d := by
  have hcounted : SameQueues (countQueue p c 1 len (countQueue p c 0 1 (countPort p 3 len (countPort p 2 1 d)))) d :=
    (sameQueues_setCounter _ _ _).trans ((sameQueues_setCounter _ _ _).trans ((sameQueues_setCounter _ _ _).trans
      (sameQueues_setCounter _ _ _)))
  unfold countTx
  dsimp only
  split
  · exact (sameQueues_setCounter _ _ _).trans hcounted
  · split
    · exact (sameQueues_setCounter _ _ _).trans hcounted
    · exact hcounted

/-- A copy as it leaves is read of what is configured and of the VLAN table. -/
theorem egressOctets_congr {S : List Part} (h : Only S t d) (hS : [View.cfgs, .st].all (Clear S) = true) (p c : Nat) (x : Copy) :
    egressOctets t p c x = egressOctets d p c x := by
  have hcfg (obj el : Nat) : cfg t obj el = cfg d obj el := h.cfg (clear_of_all hS (by simp)) obj el
  have hvlan (vid : Nat) : vlanOf t vid = vlanOf d vid := by unfold vlanOf; rw [h.st (clear_of_all hS (by simp))]
  unfold egressOctets cfgOn
  simp only [hcfg, hvlan]

/-- The copy counted and put on the line, not yet mirrored. -/
def started (p c : Nat) (x : Copy) (d : Dev) : Dev :=
  let o := egressOctets d p c x
  let d := countTx p c (frameLen o) (frameDa o) (chargeShapers p c o d)
  let d := if x.cut then countPort p 10 1 d else d
  emit (.frame p o) (setSwPort p (fun w => { w with sending := some (c, x) }) d)

theorem startCopy_eq : startCopy p c x d =
    if x.mirror then started p c x d else mirrorAll 2 p (egressOctets d p c x) x.stamp x.fromPort (started p c x d) := rfl

theorem started_starts : (swPort (started p c x d) p).sending = some (c, x) ∧
    counterOf (started p c x d) 1 (32 * p + 2) = (counterOf d 1 (32 * p + 2) + 1) % 2 ^ 64 ∧
    (∀ q k, (queueOf (started p c x d) q k).copies = (queueOf d q k).copies) ∧ (started p c x d).fab.residues = d.fab.residues ∧
    (Reaches d p → Emission.frame p (egressOctets d p c x) ∈ (started p c x d).out) := by
  unfold started
  extract_lets o v w
  have hcharged := picked_chargeShapers (d := d) (p := p) (c := c) o
  have hv : SameQueues v (chargeShapers p c o d) := sameQueues_countTx
  have hvonly : Only [.fab] v d := by
    simp only [v]
    rw [only_countTx _ _ _ _ (by decide)]
    exact hcharged.only
  have hvcount : counterOf v 1 (32 * p + 2) = (counterOf d 1 (32 * p + 2) + 1) % 2 ^ 64 := by
    simp only [v]
    rw [counterOf_countTx, hcharged.counts]
  have hw : SameQueues w (chargeShapers p c o d) ∧ Only [.fab] w d ∧
      counterOf w 1 (32 * p + 2) = (counterOf d 1 (32 * p + 2) + 1) % 2 ^ 64 := by
    simp only [w]
    split
    · exact ⟨(sameQueues_setCounter _ _ _).trans hv, (only_countPort _ _ _ (by decide)).mpr hvonly,
        (counterOf_addCounter_other _ (by omega)).trans hvcount⟩
    · exact ⟨hv, hvonly, hvcount⟩
  obtain ⟨hwq, hwonly, hwcount⟩ := hw
  clear_value w
  obtain ⟨y, hy⟩ : ∃ y, y = setSwPort p (fun z => { z with sending := some (c, x) }) w := ⟨_, rfl⟩
  have hfab : (emit (.frame p o) y).fab = y.fab := (show Only [.out] (emit (.frame p o) y) y by simp).fab rfl
  have hyq : SameQueues y (chargeShapers p c o d) := by rw [hy]; exact (sameQueues_setSwPort _).trans hwq
  have hq := (sameQueues_emit (d := y) (.frame p o)).trans hyq
  rw [← hy]
  refine ⟨?_, ?_, fun q k => ?_, ?_, fun hreach => ?_⟩
  · unfold swPort
    rw [hfab]
    show (swPort y p).sending = _
    rw [hy, swPort_setSwPort_self]
  · unfold counterOf
    rw [hfab]
    show counterOf y 1 (32 * p + 2) = _
    rw [hy]
    exact hwcount
  · rw [hq.queueOf]
    exact hcharged.copies q k
  · exact hq.2.trans hcharged.residues
  · have hlike : Reaches y p := by
      obtain ⟨hheld, hbank⟩ := hreach
      have hyonly : Only [.fab, .sends] y d := by
        rw [hy, only_setSending _ _ (by decide)]
        exact hwonly.mono (by decide)
      refine ⟨?_, hbank.imp_right fun h => ?_⟩
      · rw [portHeld_congr (t := y) (d := d) (hyonly.otp rfl)]
        exact hheld
      · rw [hyonly.aon rfl]
        exact h
    rw [emit_frame hlike]
    exact List.mem_append_right _ (List.mem_singleton.mpr rfl)

theorem startCopy_starts : (swPort (startCopy p c x d) p).sending = some (c, x) ∧
    counterOf (startCopy p c x d) 1 (32 * p + 2) = (counterOf d 1 (32 * p + 2) + 1) % 2 ^ 64 ∧
    (mirrorsOf d 2 p = [] → (∀ q k, (queueOf (startCopy p c x d) q k).copies = (queueOf d q k).copies) ∧
      (startCopy p c x d).fab.residues = d.fab.residues) ∧
    (Reaches d p → Emission.frame p (egressOctets d p c x) ∈ (startCopy p c x d).out) := by
  obtain ⟨hsend, hcount, hcopies, hres, hout⟩ := started_starts (p := p) (c := c) (x := x) (d := d)
  have hlike : mirrorsOf (started p c x d) 2 p = mirrorsOf d 2 p := by
    refine mirrorsOf_congr fun obj e => ?_
    have honly : Only endingParts (started p c x d) d := by
      unfold started
      extract_lets o v w
      rw [only_emit _ (by decide), only_setSending _ _ (by decide)]
      have hv : Only endingParts v d := (only_countTx _ _ _ _ (by decide)).mpr ((picked_chargeShapers o).only.mono (by decide))
      simp only [w]
      split
      · exact (only_countPort _ _ _ (by decide)).mpr hv
      · exact hv
    exact honly.cfg rfl obj e
  rw [startCopy_eq]
  generalize started p c x d = u at hsend hcount hcopies hres hout hlike
  split
  · exact ⟨hsend, hcount, fun _ => ⟨hcopies, hres⟩, hout⟩
  · have hmirrored : Only releaseParts (mirrorAll 2 p (egressOctets d p c x) x.stamp x.fromPort u) u := by simp
    obtain ⟨hgone, hcounts⟩ := later_mirrorAll (d := u) (p := p) 2 (egressOctets d p c x) x.stamp x.fromPort
    refine ⟨?_, ?_, fun hnone => ?_, fun hreach => hgone _ (hout hreach)⟩
    · rw [hmirrored.sending p rfl]; exact hsend
    · rw [hcounts _ (by omega)]; exact hcount
    · rw [mirrorAll_of_none (hlike.trans hnone)]
      exact ⟨hcopies, hres⟩

end

end Sys2Proof.Proofs.Transmission


/-! SUPPORT. Ageing: a sweep ends with no stray at the head of any queue, for as many discards as there are copies waiting
(chapter 11, R396). -/

namespace Sys2Proof.Proofs.Ageing

open Sys2Proof Sys2Proof.Machine Sys2Proof.Safety
open Sys2Proof.Proofs.ShapersAndTally
open Sys2Proof.Proofs.Frames
open Sys2Proof.Proofs.Switching
open Sys2Proof.Proofs.Transmission (dropHead_cons beheaded Picked)

/-! ### How many copies wait -/

/-- The copies in the queue of a key. -/
def lengthAt (t : Tbl Queue) (k : Nat) : Nat := (tget Queue.reset t k).copies.length

/-- The copies queued under the keys that a sweep tests. -/
def queued (d : Dev) : Nat := ∑ k ∈ Finset.range 128, lengthAt d.fab.queues k

/-- The copies of a list of residues. -/
def residual (l : List Residue) : Nat := (l.map fun r => r.copies.length).sum

/-- What a list of keys reads of a table is no more than the table holds. -/
theorem sum_lengthAt_le (n : Nat) (t : Tbl Queue) : ∑ k ∈ Finset.range n, lengthAt t k ≤ (t.map fun q => q.2.copies.length).sum := by
  induction t with
  | nil => exact le_of_eq (Finset.sum_eq_zero fun _ _ => rfl)
  | cons e t ih =>
    obtain ⟨key, q⟩ := e
    have hread (k : Nat) : lengthAt ((key, q) :: t) k ≤ (if key = k then q.copies.length else 0) + lengthAt t k := by
      have hfind : tfind ((key, q) :: t) k = if key == k then some q else tfind t k := rfl
      unfold lengthAt tget
      rw [hfind]
      by_cases h : key = k <;> simp [h]
    have hone : ∑ k ∈ Finset.range n, (if key = k then q.copies.length else 0) ≤ q.copies.length := by
      rw [Finset.sum_ite_eq]
      split <;> omega
    calc ∑ k ∈ Finset.range n, lengthAt ((key, q) :: t) k
        ≤ ∑ k ∈ Finset.range n, ((if key = k then q.copies.length else 0) + lengthAt t k) := Finset.sum_le_sum fun k _ => hread k
      _ = ∑ k ∈ Finset.range n, (if key = k then q.copies.length else 0) + ∑ k ∈ Finset.range n, lengthAt t k :=
        Finset.sum_add_distrib
      _ ≤ q.copies.length + (t.map fun q => q.2.copies.length).sum := Nat.add_le_add hone ih
      _ = (((key, q) :: t).map fun q => q.2.copies.length).sum := by simp

section
variable {d : Dev} {p c k : Nat}

theorem queued_le_waiting : queued d + residual d.fab.residues ≤ waitingCopies d :=
  Nat.add_le_add_right (sum_lengthAt_le 128 d.fab.queues) _

theorem lengthAt_queue : lengthAt d.fab.queues (8 * p + c) = (queueOf d p c).copies.length := rfl

/-- A queue changed where a sweep looks. -/
theorem queued_setQueue (f : Queue → Queue) : queued (setQueue p c f d) + (if 8 * p + c < 128 then (queueOf d p c).copies.length else 0) =
    queued d + (if 8 * p + c < 128 then (f (queueOf d p c)).copies.length else 0) := by
  have hkey (k : Nat) : lengthAt (setQueue p c f d).fab.queues k =
      if 8 * p + c = k then (f (queueOf d p c)).copies.length else lengthAt d.fab.queues k := by
    by_cases h : 8 * p + c = k
    · rw [if_pos h, ← h]
      exact congrArg (fun q : Queue => q.copies.length) (tget_tset_self _ _ _ _)
    · rw [if_neg h]
      exact congrArg (fun q : Queue => q.copies.length) (tget_tset_other _ _ _ (Ne.symm h))
  unfold queued
  by_cases hin : 8 * p + c < 128
  · have hmem : 8 * p + c ∈ Finset.range 128 := Finset.mem_range.mpr hin
    rw [if_pos hin, if_pos hin, ← Finset.add_sum_erase _ _ hmem, ← Finset.add_sum_erase _ (fun k => lengthAt d.fab.queues k) hmem]
    have hrest : ∑ k ∈ (Finset.range 128).erase (8 * p + c), lengthAt (setQueue p c f d).fab.queues k =
        ∑ k ∈ (Finset.range 128).erase (8 * p + c), lengthAt d.fab.queues k :=
      Finset.sum_congr rfl fun k hk => by rw [hkey, if_neg (Ne.symm (Finset.ne_of_mem_erase hk))]
    rw [hrest, hkey, if_pos rfl, lengthAt_queue]
    omega
  · rw [if_neg hin, if_neg hin, Nat.add_zero, Nat.add_zero]
    refine Finset.sum_congr rfl fun k hk => ?_
    rw [hkey, if_neg]
    rintro rfl
    exact hin (Finset.mem_range.mp hk)

theorem queued_congr {t : Dev} (h : t.fab.queues = d.fab.queues) : queued t = queued d := by unfold queued; rw [h]

theorem queued_enqueue (x : Copy) : queued (enqueue p c x d) ≤ queued d + 1 := by
  have hput := queued_setQueue (d := d) (p := p) (c := c) fun q =>
    { q with copies := q.copies ++ [x], foldUse := q.foldUse + x.fold, comUse := q.comUse + x.common }
  have hsame : queued (enqueue p c x d) = queued (setQueue p c (fun q =>
      { q with copies := q.copies ++ [x], foldUse := q.foldUse + x.fold, comUse := q.comUse + x.common }) d) := by
    unfold enqueue
    dsimp only
    split
    · exact queued_congr (sameQueues_setCounter (d := setSwPort x.fromPort (fun w => { w with headUse := w.headUse + x.head }) _) _ _ _).1
    · rfl
  rw [hsame]
  split at hput
  next => simp only [List.length_append, List.length_singleton] at hput; omega
  next => omega

/-- A residue copy that joins a queue waits no longer in the residue. -/
theorem queued_retestCopy (comFell : Bool) (acc : Dev × List (Nat × Nat) × List ResCopy) (y : ResCopy) :
    queued (retestCopy p c comFell acc y).1 + (retestCopy p c comFell acc y).2.2.length ≤ queued acc.1 + acc.2.2.length + 1 := by
  unfold retestCopy
  dsimp only
  split
  · simp only [List.length_append, List.length_singleton]; omega
  · split
    next a k _ =>
      have h := queued_enqueue (d := acc.1) (p := y.port) (c := y.cls) { y.copy with fold := a, common := k }
      dsimp only at h ⊢
      omega
    · simp only [List.length_append, List.length_singleton]; omega

theorem queued_foldl_retestCopy (comFell : Bool) (l : List ResCopy) (acc : Dev × List (Nat × Nat) × List ResCopy) :
    queued (l.foldl (retestCopy p c comFell) acc).1 + (l.foldl (retestCopy p c comFell) acc).2.2.length ≤
      queued acc.1 + acc.2.2.length + l.length := by
  induction l generalizing acc with
  | nil => simp
  | cons y l ih =>
    have h1 := queued_retestCopy (p := p) (c := c) comFell acc y
    have h2 := ih (retestCopy p c comFell acc y)
    simp only [List.foldl_cons, List.length_cons]
    omega

/-- One residue tested again. -/
def retestResidue (p c : Nat) (comFell : Bool) (acc : Dev × List (Nat × Nat) × List Residue) (res : Residue) :
    Dev × List (Nat × Nat) × List Residue :=
  let s := res.copies.foldl (retestCopy p c comFell) (acc.1, acc.2.1, [])
  (s.1, s.2.1, if s.2.2 = [] then acc.2.2 else acc.2.2 ++ [{ res with copies := s.2.2 }])

theorem queued_foldl_retestResidue (comFell : Bool) (l : List Residue) (acc : Dev × List (Nat × Nat) × List Residue) :
    queued (l.foldl (retestResidue p c comFell) acc).1 + residual (l.foldl (retestResidue p c comFell) acc).2.2 ≤
      queued acc.1 + residual acc.2.2 + residual l := by
  induction l generalizing acc with
  | nil => simp [residual]
  | cons r l ih =>
    have h2 := ih (retestResidue p c comFell acc r)
    have h1 : queued (retestResidue p c comFell acc r).1 + residual (retestResidue p c comFell acc r).2.2 ≤
        queued acc.1 + residual acc.2.2 + r.copies.length := by
      have h := queued_foldl_retestCopy (p := p) (c := c) comFell r.copies (acc.1, acc.2.1, [])
      unfold retestResidue
      dsimp only at h ⊢
      split
      next hnil => rw [hnil] at h; simp only [List.length_nil] at h; omega
      next => simp only [residual, List.map_append, List.map_cons, List.map_nil, List.sum_append, List.sum_cons, List.sum_nil,
                List.length_nil] at h ⊢; omega
    have hr : residual (r :: l) = r.copies.length + residual l := by simp [residual]
    rw [List.foldl_cons, hr]
    omega

theorem retest_waiting (comFell : Bool) : queued (retest p c comFell d) + residual (retest p c comFell d).fab.residues ≤
    queued d + residual d.fab.residues := by
  have hfold : retested p c comFell d = d.fab.residues.foldl (retestResidue p c comFell) (d, [], []) := rfl
  have hbound := queued_foldl_retestResidue (p := p) (c := c) comFell d.fab.residues (d, [], [])
  rw [← hfold] at hbound
  rw [retest_eq]
  generalize retested p c comFell d = r at hbound
  have hzero : residual ([] : List Residue) = 0 := rfl
  dsimp only at hbound
  rw [hzero, Nat.add_zero] at hbound
  have hsame (l : List Residue) (u : Dev) : SameQueues (l.foldl (fun d x => disarm (.residue x.frame) d) u) u :=
    List.foldlRecOn (motive := fun v => SameQueues v u) l _ ⟨rfl, rfl⟩ fun _ hv _ _ => hv
  obtain ⟨hq, hr⟩ := hsame (d.fab.residues.filter fun x => !(r.2.2.any fun y => y.frame == x.frame))
    (onFab (fun f => { f with residues := r.2.2 }) r.1)
  rw [queued_congr hq, hr]
  exact hbound

/-- A copy discarded from the head of a queue waits no longer. -/
theorem dropHead_waiting {code : Nat} {x : Copy} {rest : List Copy} (h : (queueOf d p c).copies = x :: rest) (hkey : 8 * p + c < 128) :
    queued (dropHead p c code d) + residual (dropHead p c code d).fab.residues + 1 ≤ queued d + residual d.fab.residues := by
  rw [dropHead_cons h]
  obtain ⟨u, hu⟩ : ∃ u, u = beheaded p c code x rest d := ⟨_, rfl⟩
  have hcut : queued u + 1 = queued d ∧ u.fab.residues = d.fab.residues := by
    have hset := queued_setQueue (d := onFab (fun f => { f with loop := f.loop.filter fun y => p != 15 || y.frame != x.frame }) d)
      (p := p) (c := c) fun q => { q with copies := rest }
    rw [if_pos hkey, if_pos hkey] at hset
    have hlen : (queueOf (onFab (fun f => { f with loop := f.loop.filter fun y => p != 15 || y.frame != x.frame }) d) p c).copies.length =
        rest.length + 1 := by
      show (queueOf d p c).copies.length = _
      rw [h]
      rfl
    have hd : queued (onFab (fun f => { f with loop := f.loop.filter fun y => p != 15 || y.frame != x.frame }) d) = queued d := rfl
    have hsame : SameQueues u (setQueue p c (fun q => { q with copies := rest })
        (onFab (fun f => { f with loop := f.loop.filter fun y => p != 15 || y.frame != x.frame }) d)) := by
      rw [hu]
      exact sameQueues_dropCopy _
    rw [queued_congr hsame.1, hsame.2]
    refine ⟨?_, rfl⟩
    rw [hlen, hd] at hset
    dsimp only at hset
    omega
  rw [← hu]
  have hgive : queued (giveBack p c x u) = queued u := by
    have hset := queued_setQueue (d := u) (p := p) (c := c) fun q =>
      { q with foldUse := q.foldUse - x.fold, comUse := q.comUse - x.common }
    have hsame : queued (giveBack p c x u) = queued (setQueue p c (fun q =>
      { q with foldUse := q.foldUse - x.fold, comUse := q.comUse - x.common }) u) := rfl
    rw [hsame]
    dsimp only at hset
    omega
  have hretest := retest_waiting (d := giveBack p c x u) (p := p) (c := c) (decide (0 < x.common))
  have hpause := sameQueues_pauseCheckAll (d := retest p c (decide (0 < x.common)) (giveBack p c x u))
  unfold release
  rw [queued_congr hpause.1, hpause.2]
  have hres : (giveBack p c x u).fab.residues = u.fab.residues := rfl
  rw [hres, hgive, hcut.2] at hretest
  omega

/-! ### A sweep -/

theorem queueOf_key (k : Nat) : 8 * (k / 8) + k % 8 = k := by omega

theorem headIsStray_cons (h : headIsStray d k = true) :
    ∃ x rest, (queueOf d (k / 8) (k % 8)).copies = x :: rest := by
  unfold headIsStray at h
  split at h
  next x rest hx => exact ⟨x, rest, hx⟩
  next => cases h

/-- A sweep with a discard for each copy waiting leaves no stray at the head of a queue. -/
theorem headIsStray_sweepHeads (n : Nat) (h : queued d + residual d.fab.residues ≤ n) (hk : k < 128) :
    headIsStray (sweepHeads n d) k = false := by
  induction n generalizing d with
  | zero =>
    by_contra hstray
    obtain ⟨x, rest, hx⟩ := headIsStray_cons (d := d) (Bool.not_eq_false _ ▸ hstray)
    have hone : lengthAt d.fab.queues k ≤ queued d :=
      Finset.single_le_sum (f := fun k => lengthAt d.fab.queues k) (fun _ _ => Nat.zero_le _) (Finset.mem_range.mpr hk)
    rw [← queueOf_key k, lengthAt_queue, hx, List.length_cons] at hone
    omega
  | succ n ih =>
    unfold sweepHeads
    split
    next j hj =>
      have hjk : j < 128 := List.mem_range.mp (List.mem_of_find?_eq_some hj)
      obtain ⟨x, rest, hx⟩ := headIsStray_cons (List.find?_some hj)
      have hless := dropHead_waiting (code := 0x0F) hx (by rw [queueOf_key]; exact hjk)
      exact ih (by omega)
    next hnone =>
      have hclean := List.find?_eq_none.mp hnone k (List.mem_range.mpr hk)
      simpa using hclean

/-! ### Where no residue waits -/

/-- A discard takes the head of one queue and nothing else of the queues' copies, where no residue waits. -/
theorem dropHead_suffix {code : Nat} (hnil : d.fab.residues = []) (m l : Nat) :
    (∃ gone, (queueOf d m l).copies = gone ++ (queueOf (dropHead p c code d) m l).copies) ∧ (dropHead p c code d).fab.residues = [] := by
  cases h : (queueOf d p c).copies with
  | nil =>
    have hsame : dropHead p c code d = d := by unfold dropHead; rw [h]
    rw [hsame]
    exact ⟨⟨[], rfl⟩, hnil⟩
  | cons x rest =>
    rw [dropHead_cons h]
    obtain ⟨v, hv⟩ : ∃ v, v = setQueue p c (fun q => { q with copies := rest })
      (onFab (fun f => { f with loop := f.loop.filter fun y => p != 15 || y.frame != x.frame }) d) := ⟨_, rfl⟩
    have hu : SameQueues (beheaded p c code x rest d) v := by rw [hv]; exact sameQueues_dropCopy _
    have hvnil : v.fab.residues = [] := by rw [hv]; exact hnil
    have hrelease := sameQueues_release (d := beheaded p c code x rest d) (p := p) (c := c) (x := x) (hu.2.trans hvnil)
    refine ⟨?_, hrelease.2.trans (hu.2.trans hvnil)⟩
    have hgive : (queueOf (giveBack p c x (beheaded p c code x rest d)) m l).copies = (queueOf (beheaded p c code x rest d) m l).copies :=
      (Picked.setQueue (f := fun q => { q with foldUse := q.foldUse - x.fold, comUse := q.comUse - x.common }) fun _ => rfl).copies m l
    rw [hrelease.queueOf, hgive, hu.queueOf, hv]
    by_cases hkey : 8 * m + l = 8 * p + c
    · refine ⟨[x], ?_⟩
      have hd : (queueOf d m l).copies = x :: rest := by
        rw [← h]
        unfold queueOf
        rw [hkey]
      rw [hd]
      refine congrArg (x :: ·) ?_
      unfold queueOf
      rw [hkey]
      exact (congrArg Queue.copies (queueOf_setQueue_self p c (fun q => { q with copies := rest }) _)).symm
    · exact ⟨[], (congrArg Queue.copies (tget_tset_other _ _ _ hkey)).symm⟩

theorem sweepHeads_suffix (n : Nat) (hnil : d.fab.residues = []) (m l : Nat) :
    (∃ gone, (queueOf d m l).copies = gone ++ (queueOf (sweepHeads n d) m l).copies) ∧ (sweepHeads n d).fab.residues = [] := by
  induction n generalizing d with
  | zero => exact ⟨⟨[], rfl⟩, hnil⟩
  | succ n ih =>
    unfold sweepHeads
    split
    next j hj =>
      obtain ⟨⟨gone, hgone⟩, hnil'⟩ := dropHead_suffix (p := j / 8) (c := j % 8) (code := 0x0F) hnil m l
      obtain ⟨⟨more, hmore⟩, hend⟩ := ih hnil'
      exact ⟨⟨gone ++ more, by rw [hgone, hmore, List.append_assoc]⟩, hend⟩
    next => exact ⟨⟨[], rfl⟩, hnil⟩

theorem only_sweepHeads (n : Nat) : Only releaseParts (sweepHeads n d) d := by
  induction n generalizing d with
  | zero => exact .refl _ d
  | succ n ih =>
    unfold sweepHeads
    split
    · exact ih.trans (by simp)
    · exact .refl _ d

end

end Sys2Proof.Proofs.Ageing


/-! Transmission and ageing as the obligation states them: selection, the last octet of a copy, a sweep and a residue's time-out. -/

namespace Sys2Proof.Proofs.TransmissionAndAgeing

open Sys2Proof Sys2Proof.Machine Sys2Proof.Safety
open Sys2Proof.Proofs.StepAndTimers
open Sys2Proof.Proofs.ShapersAndTally
open Sys2Proof.Proofs.Frames
open Sys2Proof.Proofs.Running
open Sys2Proof.Proofs.TimeSources (Reaches)
open Sys2Proof.Proofs.PinsAndEpochs (swPort_setSwPort_other portHeld_congr)
open Sys2Proof.Proofs.Switching
open Sys2Proof.Proofs.FrameDecisions (emit_frameEnd mirrorsOf_congr)
open Sys2Proof.Proofs.Transmission
open Sys2Proof.Proofs.Ageing

/-! ### Selection -/

section
variable {d u : Dev} {p c : Nat} {x : Copy} {rest : List Copy} (hstart : canStart d p = true) (hpick : pickQueue p d = (some c, u))
  (hcopies : (queueOf u p c).copies = x :: rest)
include hstart hpick hcopies

theorem transmitSelect_picked (e : Bool) : transmitSelect p e d =
    if fenceStops u p x then dropHead p c 0x0A u
    else if isStray u c x then dropHead p c 0x0F u
    else if e then bufferEcc (dropHead p c 0x11 u)
    else startCopy p c x (setQueue p c (fun q => { q with copies := rest }) u) := by
  unfold transmitSelect
  rw [if_neg (by simp [hstart]), hpick]
  dsimp only
  rw [hcopies]

omit hcopies in
theorem picked_of_pick : Picked u d := by
  have h := picked_pickQueue (d := d) (p := p)
  rw [hpick] at h
  exact h

omit hcopies in
theorem idle_of_pick : (swPort u p).sending = none := by
  rw [(picked_of_pick hstart hpick).only.sending p rfl]
  simp only [canStart, Bool.and_eq_true, Option.isNone_iff_eq_none] at hstart
  obtain ⟨⟨⟨-, h⟩, -⟩, -⟩ := hstart
  exact h

end

/-- What a selection leaves beside the switch. -/
theorem rest_of_only {S : List Part} {t d : Dev} (h : Only S t d)
    (hS : [View.cables, .slots, .shep, .tm, .ng, .otp, .flash, .heat, .aon, .boot, .now].all (Clear S) = true) :
    SamePower t d ∧ SameTime t d ∧ SameStores t d ∧ SameAon t d := by
  have hv {v : View} (hv : v ∈ [View.cables, .slots, .shep, .tm, .ng, .otp, .flash, .heat, .aon, .boot, .now]) :=
    clear_of_all hS hv
  exact ⟨⟨h.cables (hv (by simp)), h.slots (hv (by simp)), h.shep (hv (by simp))⟩, ⟨h.tm (hv (by simp)), h.ng (hv (by simp))⟩,
    ⟨h.otp (hv (by simp)), h.flash (hv (by simp)), h.heat (hv (by simp))⟩,
    h.aon (hv (by simp)), h.boot (hv (by simp)), h.now (hv (by simp))⟩

theorem transmitSelect_selects {s : State} {p : SPort} {e : Bool} {c : Nat} {u : Dev} {x : Copy} {rest : List Copy}
    (hstart : canStart (hush s.dev) p.val = true) (hpick : pickQueue p.val (hush s.dev) = (some c, u))
    (hcopies : (queueOf u p.val c).copies = x :: rest) :
    (fenceStops u p.val x = true → Answers (.transmitSelect p e) s fun t => (swPort t p.val).lastDrop = 0x0A ∧
      (swPort t p.val).sending = none ∧ SamePower t s.dev ∧ SameTime t s.dev ∧ SameStores t s.dev ∧ SameAon t s.dev) ∧
    (fenceStops u p.val x = false → isStray u c x = true →
      Answers (.transmitSelect p e) s fun t => (swPort t p.val).lastDrop = 0x0F ∧ (swPort t p.val).sending = none ∧
        SamePower t s.dev ∧ SameTime t s.dev ∧ SameStores t s.dev ∧ SameAon t s.dev) ∧
    (fenceStops u p.val x = false → isStray u c x = false →
      (Answers (.transmitSelect p true) s fun t => (swPort t p.val).lastDrop = 0x11 ∧ (swPort t p.val).sending = none ∧
        t.fab.eccDouble = satInc s.dev.fab.eccDouble ∧ t.od.alarmLatched.getLsbD 7 = true ∧ SamePower t s.dev ∧
        SameTime t s.dev ∧ SameStores t s.dev ∧ SameAon t s.dev) ∧
      (Answers (.transmitSelect p false) s fun t => (swPort t p.val).sending = some (c, x) ∧
        (portHeld s.dev p.val = false → (p.val ≠ 12 ∨ s.dev.aon.bankH = true) →
          Emission.frame p.val (egressOctets s.dev p.val c x) ∈ t.out) ∧
        counterOf t 1 (32 * p.val + 2) = (counterOf s.dev 1 (32 * p.val + 2) + 1) % 2 ^ 64 ∧
        (mirrorsOf s.dev 2 p.val = [] → (queueOf t p.val c).copies = rest ∧ t.fab.residues = s.dev.fab.residues) ∧
        SamePower t s.dev ∧ SameTime t s.dev ∧ SameStores t s.dev ∧ SameAon t s.dev)) := by
  have heffect (e : Bool) := transmitSelect_picked hstart hpick hcopies e
  have hpicked := picked_of_pick hstart hpick
  have hidle := idle_of_pick hstart hpick
  have hud : Only [.fab, .odBook, .out] u s.dev := (hpicked.only.mono (by decide)).trans (by simp)
  have hbase : u.fab.eccDouble = s.dev.fab.eccDouble := by
    have h := congrArg Fabric.eccDouble hpicked.base
    exact h
  have hdropped {code : Nat} : Only (.odBook :: .irq :: endingParts) (settle (dropHead p.val c code u)) s.dev := by
    rw [only_settle (by decide), only_dropHead _ _ _ (by decide)]
    exact hud.mono (by decide)
  refine ⟨fun hstops => ?_, fun hpasses hstray => ?_, fun hpasses hfresh => ⟨?_, ?_⟩⟩
  · obtain ⟨hlast, hsend, -⟩ := dropHead_drops (code := 0x0A) hcopies hidle
    refine answers_of_effect (f := transmitSelect p.val e) rfl ((heffect e).trans (if_pos hstops)) ?_
    refine ⟨?_, ?_, rest_of_only hdropped (by decide)⟩
    · rw [swPort_settle]; exact hlast
    · rw [swPort_settle]; exact hsend
  · obtain ⟨hlast, hsend, -⟩ := dropHead_drops (code := 0x0F) hcopies hidle
    have h := heffect e
    rw [if_neg (by simp [hpasses]), if_pos hstray] at h
    refine answers_of_effect (f := transmitSelect p.val e) rfl h ?_
    refine ⟨?_, ?_, rest_of_only hdropped (by decide)⟩
    · rw [swPort_settle]; exact hlast
    · rw [swPort_settle]; exact hsend
  · obtain ⟨hlast, hsend, hecc⟩ := dropHead_drops (code := 0x11) hcopies hidle
    have h := heffect true
    rw [if_neg (by simp [hpasses]), if_neg (by simp [hfresh]), if_pos rfl] at h
    refine answers_of_effect (f := transmitSelect p.val true) rfl h ?_
    have hd : Only (.odBook :: .irq :: endingParts) (dropHead p.val c 0x11 u) s.dev := by
      rw [only_dropHead _ _ _ (by decide)]
      exact hud.mono (by decide)
    obtain ⟨v, hv⟩ : ∃ v, v = dropHead p.val c 0x11 u := ⟨_, rfl⟩
    rw [← hv] at hlast hsend hecc hd ⊢
    obtain ⟨hcount, hports, halarm, -, -⟩ := bufferEcc_alarms (d := v)
    have hall : Only (.odBook :: .irq :: endingParts) (settle (bufferEcc v)) s.dev := by
      rw [only_settle (by decide), only_bufferEcc (by decide)]
      exact hd
    refine ⟨?_, ?_, ?_, alarmLatched_settle halarm, rest_of_only hall (by decide)⟩
    · rw [swPort_settle, hports]; exact hlast
    · rw [swPort_settle, hports]; exact hsend
    · rw [settle_fab, hcount, hecc, hbase]
  · have h := heffect false
    rw [if_neg (by simp [hpasses]), if_neg (by simp [hfresh]), if_neg (by decide)] at h
    refine answers_of_effect (f := transmitSelect p.val false) rfl h ?_
    obtain ⟨v, hv⟩ : ∃ v, v = setQueue p.val c (fun q => { q with copies := rest }) u := ⟨_, rfl⟩
    have hvd : Only [.fab, .odBook, .out] v s.dev := by rw [hv, only_setQueue _ _ _ (by decide)]; exact hud
    have hvcopies : (queueOf v p.val c).copies = rest := by rw [hv, queueOf_setQueue_self]
    have hvres : v.fab.residues = s.dev.fab.residues := by rw [hv]; exact hpicked.residues
    have hvcount : counterOf v 1 (32 * p.val + 2) = counterOf s.dev 1 (32 * p.val + 2) := by rw [hv]; exact hpicked.counts _
    obtain ⟨hsend, hcount, hqueues, hout⟩ := startCopy_starts (p := p.val) (c := c) (x := x) (d := v)
    have honly : Only (.odBook :: endingParts) (startCopy p.val c x v) s.dev := by
      rw [only_startCopy _ _ _ (by decide)]
      exact hvd.mono (by decide)
    rw [← hv]
    generalize startCopy p.val c x v = w at hsend hcount hqueues hout honly
    have hall : Only (.odBook :: .irq :: endingParts) (settle w) s.dev := (only_settle (by decide)).mpr (honly.mono (by decide))
    refine ⟨?_, fun hheld hbank => ?_, ?_, fun hnone => ?_, rest_of_only hall (by decide)⟩
    · rw [swPort_settle]; exact hsend
    · rw [settle_out, ← egressOctets_congr hvd (by decide)]
      refine hout ⟨?_, hbank.imp_right fun h => ?_⟩
      · rw [portHeld_congr (t := v) (d := s.dev) (hvd.otp rfl)]
        exact hheld
      · rw [hvd.aon rfl]
        exact h
    · rw [counterOf_settle, hcount, hvcount]
    · obtain ⟨hkept, hres⟩ := hqueues (by rw [mirrorsOf_congr fun obj e => hvd.cfg rfl obj e]; exact hnone)
      rw [queueOf_settle, settle_fab, hkept, hres]
      exact ⟨hvcopies, hvres⟩

/-! ### The last octet -/

section
variable {d : Dev} {p c : Nat} {x : Copy}

/-- A copy in transmission is gone, its charge not yet released. -/
def unsent (p : Nat) (d : Dev) : Dev := setSwPort p (fun w => { w with sending := none, cutFrom := none }) d

theorem endSending_some (h : (swPort d p).sending = some (c, x)) : endSending p d = release p c x (unsent p d) := by
  unfold endSending
  rw [h]
  rfl

theorem endSending_ends (h : (swPort d p).sending = some (c, x)) :
    (swPort (endSending p d) p).sending = none ∧ (swPort (endSending p d) p).cutFrom = none ∧
    (swPort (endSending p d) p).lastDrop = (swPort d p).lastDrop ∧ (endSending p d).fab.puntQ = d.fab.puntQ ∧
    (endSending p d).fab.eccDouble = d.fab.eccDouble ∧ (∀ e ∈ d.out, e ∈ (endSending p d).out) ∧
    (d.fab.residues = [] → (queueOf (endSending p d) p c).foldUse = (queueOf d p c).foldUse - x.fold ∧
      (queueOf (endSending p d) p c).comUse = (queueOf d p c).comUse - x.common ∧
      (queueOf (endSending p d) p c).copies = (queueOf d p c).copies) := by
  rw [endSending_some h]
  obtain ⟨u, hu⟩ : ∃ u, u = unsent p d := ⟨_, rfl⟩
  have hport : swPort u p = { swPort d p with sending := none, cutFrom := none } := by rw [hu]; exact swPort_setSwPort_self _ _ _
  have hfab : base u.fab = base d.fab ∧ SameQueues u d ∧ u.out = d.out := by rw [hu]; exact ⟨rfl, ⟨rfl, rfl⟩, rfl⟩
  obtain ⟨hbase, hqueues, hout⟩ := hfab
  have hcalm := calm_release (d := u) (p := p) (c := c) (x := x)
  rw [← hu]
  refine ⟨?_, ?_, ?_, ?_, ?_, fun e he => hcalm.out e (by rw [hout]; exact he), fun hnil => ?_⟩
  · rw [hcalm.sending, hport]
  · rw [hcalm.cutFrom, hport]
  · rw [hcalm.lastDrop, hport]
  · have h := congrArg Fabric.puntQ hbase
    exact hcalm.puntQ.trans h
  · have h := congrArg Fabric.eccDouble hbase
    exact hcalm.eccDouble.trans h
  · have hgive : queueOf (giveBack p c x u) p c = { queueOf u p c with
        foldUse := (queueOf u p c).foldUse - x.fold, comUse := (queueOf u p c).comUse - x.common } :=
      queueOf_setQueue_self p c (fun q => { q with foldUse := q.foldUse - x.fold, comUse := q.comUse - x.common }) u
    rw [(sameQueues_release (hqueues.2.trans hnil)).queueOf, hgive, hqueues.queueOf]
    exact ⟨rfl, rfl, rfl⟩

/-- What is done with the punt of a copy that has left without an error. -/
def punted (p : Nat) (x : Copy) (d : Dev) : Dev :=
  match x.punt with
  | some pt => if p = 13 then onFab (fun f => { f with puntQ := f.puntQ ++ [pt] }) d else d
  | none => d

theorem copyTransmitted_well (h : (swPort d p).sending = some (c, x)) : copyTransmitted p false d = endSending p (punted p x d) := by
  unfold copyTransmitted
  rw [h]
  dsimp only
  unfold punted
  cases x.punt <;> simp

/-- A copy in whose cells an error was found after its start. -/
def damaged (p c : Nat) (d : Dev) : Dev := emit (.frameEnd p .errorCode) (bufferEcc (dropCopy p c 0x11 d))

theorem copyTransmitted_damaged (h : (swPort d p).sending = some (c, x)) : copyTransmitted p true d = endSending p (damaged p c d) := by
  unfold copyTransmitted
  rw [h]
  dsimp only
  unfold damaged
  cases x.punt <;> simp

theorem damaged_damages : (swPort (damaged p c d) p).sending = (swPort d p).sending ∧ (swPort (damaged p c d) p).lastDrop = 0x11 ∧
    (damaged p c d).fab.eccDouble = satInc d.fab.eccDouble ∧ (damaged p c d).fab.puntQ = d.fab.puntQ ∧
    Only [.fab, .odBook, .irq, .out] (damaged p c d) d ∧ (Reaches d p → Emission.frameEnd p .errorCode ∈ (damaged p c d).out) := by
  obtain ⟨u, hu⟩ : ∃ u, u = dropCopy p c 0x11 d := ⟨_, rfl⟩
  have hport : swPort u p = { swPort d p with lastDrop := 0x11 } := by rw [hu, swPort_dropCopy, if_pos rfl]
  have hbase : base u.fab = base d.fab := by rw [hu]; exact base_dropCopy _ _ _
  have hud : Only [.fab] u d := by rw [hu]; simp
  obtain ⟨hcount, hports, -, hpunt, -⟩ := bufferEcc_alarms (d := u)
  obtain ⟨v, hv⟩ : ∃ v, v = bufferEcc u := ⟨_, rfl⟩
  rw [← hv] at hcount hports hpunt
  have hvd : Only [.fab, .odBook, .irq, .out] v d := by
    rw [hv, only_bufferEcc (by decide)]
    exact hud.mono (by decide)
  have hfab : (damaged p c d).fab = v.fab := by
    unfold damaged
    rw [← hu, ← hv]
    exact (show Only [.out] (emit (.frameEnd p .errorCode) v) v by simp).fab rfl
  have hpunt' := congrArg Fabric.puntQ hbase
  have hecc' := congrArg Fabric.eccDouble hbase
  have hread : swPort (damaged p c d) p = swPort v p := by unfold swPort; rw [hfab]
  refine ⟨?_, ?_, ?_, ?_, ?_, fun hreach => ?_⟩
  · rw [hread, hports, hport]
  · rw [hread, hports, hport]
  · rw [hfab, hcount]
    exact congrArg satInc hecc'
  · rw [hfab, hpunt]
    exact hpunt'
  · unfold damaged
    rw [← hu, ← hv, only_emit _ (by decide)]
    exact hvd
  · have hlike : Reaches v p := by
      obtain ⟨hheld, hbank⟩ := hreach
      refine ⟨?_, hbank.imp_right fun h => ?_⟩
      · rw [portHeld_congr (t := v) (d := d) (hvd.otp rfl)]
        exact hheld
      · rw [hvd.aon rfl]
        exact h
    unfold damaged
    rw [← hu, ← hv, emit_frameEnd hlike]
    simp

end

/-! ### A residue's time-out -/

section
variable {d : Dev} {code : Nat}

/-- Residue copies dropped with a reason. -/
def dropAll (code : Nat) (l : List ResCopy) (d : Dev) : Dev := l.foldl (fun d x => dropCopy x.port x.cls code d) d

theorem only_dropAll (l : List ResCopy) : Only [.fab] (dropAll code l d) d := Only.foldl l (fun _ _ _ => by simp) d

theorem sameQueues_dropAll (l : List ResCopy) : SameQueues (dropAll code l d) d :=
  List.foldlRecOn (motive := fun u => SameQueues u d) l _ ⟨rfl, rfl⟩ fun _ hu _ _ => (sameQueues_dropCopy _).trans hu

theorem lastDrop_dropAll {l : List ResCopy} {x : ResCopy} (hx : x ∈ l) : (swPort (dropAll code l d) x.port).lastDrop = code := by
  have hkept (l : List ResCopy) (u : Dev) (q : Nat) (h : (swPort u q).lastDrop = code) : (swPort (dropAll code l u) q).lastDrop = code :=
    List.foldlRecOn (motive := fun v : Dev => (swPort v q).lastDrop = code) l _ h fun v hv y _ => by
      rw [swPort_dropCopy]
      split
      · rfl
      · exact hv
  induction l generalizing d with
  | nil => cases hx
  | cons y l ih =>
    rcases List.mem_cons.mp hx with rfl | hx
    · exact hkept l _ _ (by rw [swPort_dropCopy, if_pos rfl])
    · exact ih hx

end

/-- Settles O52. -/
theorem transmission : Obligations.Transmission := by
  unfold Obligations.Transmission
  refine ⟨fun s p e => ⟨fun hstop => ?_, fun hstart hnone => ?_, fun c u x rest hstart hpick hcopies => ?_⟩,
    fun s p => ⟨fun hnone e => ?_, fun c x hsend => ⟨?_, ?_⟩⟩, fun s => ⟨fun hruns hleaving => ?_, fun hruns => ?_⟩,
    fun s frame harmed => ?_⟩
  · exact answers_became (f := transmitSelect p.val e) rfl (if_pos (by simp [hstop]))
  · refine answers_became (f := transmitSelect p.val e) rfl ?_
    unfold transmitSelect
    rw [if_neg (by simp [hstart])]
    dsimp only
    rw [hnone]
  · exact transmitSelect_selects hstart hpick hcopies
  · refine answers_became (f := copyTransmitted p.val e) rfl ?_
    unfold copyTransmitted
    rw [show (swPort (hush s.dev) p.val).sending = none from hnone]
  · refine answers_of_effect (f := copyTransmitted p.val false) rfl (copyTransmitted_well (d := hush s.dev) hsend) ?_
    obtain ⟨u, hu⟩ : ∃ u, u = punted p.val x (hush s.dev) := ⟨_, rfl⟩
    have hud : Only [.fab] u (hush s.dev) ∧ SameQueues u (hush s.dev) ∧ u.fab.ports = s.dev.fab.ports := by
      rw [hu]
      unfold punted
      split
      · split
        · exact ⟨(only_onFab rfl (by decide)).mpr (.refl _ _), ⟨rfl, rfl⟩, rfl⟩
        · exact ⟨.refl _ _, ⟨rfl, rfl⟩, rfl⟩
      · exact ⟨.refl _ _, ⟨rfl, rfl⟩, rfl⟩
    obtain ⟨honly, hqueues, hports⟩ := hud
    have hport (q : Nat) : swPort u q = swPort s.dev q := by unfold swPort; rw [hports]
    obtain ⟨hidle, hfrom, hlast, hpunt, -, -, hcharge⟩ := endSending_ends (d := u) (p := p.val) (c := c) (x := x)
      (by rw [hport]; exact hsend)
    have hall : Only (.odBook :: .irq :: endingParts) (settle (endSending p.val u)) s.dev := by
      rw [only_settle (by decide), only_endSending _ (by decide)]
      exact (honly.mono (by decide)).trans (by simp)
    rw [← hu]
    generalize endSending p.val u = v at hidle hfrom hlast hpunt hcharge hall
    refine ⟨?_, ?_, ?_, fun hnot => ?_, fun pt hp hpt => ?_, fun hnil => ?_, rest_of_only hall (by decide)⟩
    · rw [swPort_settle]; exact hidle
    · rw [swPort_settle]; exact hfrom
    · rw [swPort_settle, hlast, hport]
    · rw [settle_fab, hpunt, hu]
      unfold punted
      rcases hnot with hp | hx
      · split
        · rw [if_neg hp]; rfl
        · rfl
      · rw [hx]
        rfl
    · rw [settle_fab, hpunt, hu]
      unfold punted
      rw [hpt]
      dsimp only
      rw [if_pos hp]
      rfl
    · rw [queueOf_settle]
      have h := hcharge (hqueues.2.trans hnil)
      rw [hqueues.queueOf] at h
      exact h
  · refine answers_of_effect (f := copyTransmitted p.val true) rfl (copyTransmitted_damaged (d := hush s.dev) hsend) ?_
    obtain ⟨hsame, hlast, hecc, hpunt, honly, hgone⟩ := damaged_damages (d := hush s.dev) (p := p.val) (c := c)
    generalize damaged p.val c (hush s.dev) = u at hsame hlast hecc hpunt honly hgone
    obtain ⟨hidle, -, hlast', hpunt', hecc', hout, -⟩ := endSending_ends (d := u) (p := p.val) (c := c) (x := x)
      (hsame.trans hsend)
    have hall : Only (.odBook :: .irq :: endingParts) (settle (endSending p.val u)) s.dev := by
      rw [only_settle (by decide), only_endSending _ (by decide)]
      exact (honly.mono (by decide)).trans (by simp)
    refine ⟨?_, ?_, fun hheld hbank => ?_, ?_, ?_, rest_of_only hall (by decide)⟩
    · rw [swPort_settle]; exact hidle
    · rw [swPort_settle, hlast', hlast]
    · rw [settle_out]
      exact hout _ (hgone ⟨hheld, hbank⟩)
    · rw [settle_fab, hecc', hecc]; rfl
    · rw [settle_fab, hpunt', hpunt]; rfl
  · refine answers_became (f := ageSweep) rfl (if_pos ?_)
    have hruns' : fabricRuns (hush s.dev) = false := hruns
    rw [hruns', show (hush s.dev).boot.leaving = false from hleaving]
    rfl
  · have heffect : ageSweep (hush s.dev) = sweepHeads (waitingCopies (hush s.dev)) (hush s.dev) := by
      refine if_neg ?_
      rcases hruns with h | h
      · rw [show fabricRuns (hush s.dev) = true from h]
        simp
      · rw [show (hush s.dev).boot.leaving = true from h]
        simp
    refine answers_of_effect (f := ageSweep) rfl heffect ?_
    have hclean (k : Nat) (hk : k < 128) := headIsStray_sweepHeads (d := hush s.dev) (k := k) (waitingCopies (hush s.dev))
      queued_le_waiting hk
    have hsuffix (hnil : s.dev.fab.residues = []) (m l : Nat) := sweepHeads_suffix (d := hush s.dev) (waitingCopies (hush s.dev)) hnil m l
    have honly := only_sweepHeads (d := hush s.dev) (waitingCopies (hush s.dev))
    generalize sweepHeads (waitingCopies (hush s.dev)) (hush s.dev) = u at hclean hsuffix honly
    have hall : Only (.odBook :: .irq :: releaseParts) (settle u) s.dev := by
      rw [only_settle (by decide)]
      exact (honly.mono (by decide)).trans (by simp)
    have hsettle : Only [.odBook, .irq] (settle u) u := by simp
    refine ⟨fun p c x rest hp hc hx => ⟨?_, fun hnil => ?_⟩, fun hnil => ?_, rest_of_only hall (by decide)⟩
    · have hkey : headIsStray u (8 * p + c) = false := hclean _ (by omega)
      rw [queueOf_settle] at hx
      have hx' : (queueOf u ((8 * p + c) / 8) ((8 * p + c) % 8)).copies = x :: rest := by
        rw [show (8 * p + c) / 8 = p by omega, show (8 * p + c) % 8 = c by omega]
        exact hx
      unfold headIsStray at hkey
      rw [hx', show (8 * p + c) % 8 = c by omega] at hkey
      have hage := of_decide_eq_false hkey
      rw [hsettle.now rfl, hsettle.cfg rfl]
      omega
    · obtain ⟨⟨gone, hgone⟩, -⟩ := hsuffix hnil p c
      rw [queueOf_settle] at hx
      exact ⟨gone, by rw [← hx]; exact hgone⟩
    · rw [settle_fab]
      exact (hsuffix hnil 0 0).2
  · refine answers_of_expiry (f := fun d => match d.fab.residues.find? fun r => r.frame == frame with
      | none => d
      | some r => onFab (fun f => { f with residues := f.residues.filter fun x => x.frame != frame })
          (r.copies.foldl (fun d x => dropCopy x.port x.cls 0x0D d) d)) rfl harmed ?_
    obtain ⟨u, hu⟩ : ∃ u, u = expired (.residue frame) s.dev := ⟨_, rfl⟩
    have hfab : u.fab = s.dev.fab := by rw [hu]; rfl
    have honly : Only [.now, .tm, .timer (.residue frame), .odBook, .out] u s.dev := by rw [hu]; simp
    have hoff : armed (.residue frame) u = false := by rw [hu]; exact armed_expired_self
    rw [← hu]
    cases hfind : u.fab.residues.find? fun r => r.frame == frame with
    | none =>
      have hall : Only [.now, .tm, .timer (.residue frame), .odBook, .irq, .out] (settle u) s.dev :=
        (only_settle (by simp)).mpr (honly.mono (by simp))
      have hsettle : Only [.odBook, .irq] (settle u) u := by simp
      rw [settle_fab, hfab]
      rw [hfab] at hfind
      refine ⟨fun r hr hframe => ?_, fun r hr _ => hr, fun r hr => ?_, rfl, hsettle.now rfl, ?_, hall.samePower rfl,
        hall.sameStores rfl, hall.ng rfl, hall.aon rfl⟩
      · have h := List.find?_eq_none.mp hfind r hr
        simp [hframe] at h
      · rw [hfind] at hr
        cases hr
      · rw [armed_settle]; exact hoff
    | some r =>
      dsimp only
      obtain ⟨v, hv⟩ : ∃ v, v = dropAll 0x0D r.copies u := ⟨_, rfl⟩
      have hvu : Only [.fab] v u := by rw [hv]; exact only_dropAll _
      have hvq : SameQueues v u := by rw [hv]; exact sameQueues_dropAll _
      have hvlast (x : ResCopy) (hx : x ∈ r.copies) : (swPort v x.port).lastDrop = 0x0D := by rw [hv]; exact lastDrop_dropAll hx
      rw [show r.copies.foldl (fun d x => dropCopy x.port x.cls 0x0D d) u = v from hv.symm]
      obtain ⟨w, hw⟩ : ∃ w, w = onFab (fun f => { f with residues := f.residues.filter fun x => x.frame != frame }) v := ⟨_, rfl⟩
      have hwu : Only [.fab] w u := by rw [hw, only_onFab rfl (by decide)]; exact hvu
      have hres : w.fab.residues = s.dev.fab.residues.filter fun x => x.frame != frame := by
        rw [hw]
        show v.fab.residues.filter _ = _
        rw [hvq.2, hfab]
      have hqueues : w.fab.queues = s.dev.fab.queues := by
        rw [hw]
        show v.fab.queues = _
        rw [hvq.1, hfab]
      have hport (q : Nat) : swPort w q = swPort v q := by rw [hw]; rfl
      rw [← hw]
      have hall : Only [.fab, .now, .tm, .timer (.residue frame), .odBook, .irq, .out] (settle w) s.dev :=
        (only_settle (by simp)).mpr ((hwu.mono (by simp)).trans (honly.mono (by simp)))
      have hsettle : Only [.fab, .odBook, .irq] (settle w) u := (only_settle (by decide)).mpr (hwu.mono (by decide))
      rw [hfab] at hfind
      refine ⟨fun y hy hframe => ?_, fun y hy hframe => ?_, fun y hy x hx => ?_, ?_, hsettle.now rfl, ?_, hall.samePower rfl,
        hall.sameStores rfl, hall.ng rfl, hall.aon rfl⟩
      · rw [settle_fab, hres, List.mem_filter] at hy
        simp [hframe] at hy
      · rw [settle_fab, hres, List.mem_filter]
        exact ⟨hy, by simpa using hframe⟩
      · rw [hfind] at hy
        cases hy
        rw [swPort_settle, hport]
        exact hvlast x hx
      · rw [settle_fab, hqueues]
      · rw [hsettle.armed _ rfl]
        exact hoff

end Sys2Proof.Proofs.TransmissionAndAgeing


/-! SUPPORT. What is written into the station table and its stash: an insertion, a removal, the ager and the scrubber. -/

namespace Sys2Proof.Proofs.StationEntries

open Sys2Proof Sys2Proof.Machine Sys2Proof.Safety
open Sys2Proof.Proofs.ShapersAndTally
open Sys2Proof.Proofs.Frames

variable {d t u : Dev} {loc way i : Nat} {e : Station}

/-- `t` is `d` with other entries in the station table and the stash. -/
def EntriesOnly (t d : Dev) : Prop :=
  t = onSt (fun s => { s with ways := t.st.ways, stash := t.st.stash, poison := t.st.poison }) d

theorem EntriesOnly.refl (d : Dev) : EntriesOnly d d := rfl

theorem EntriesOnly.trans (h : EntriesOnly t u) (h' : EntriesOnly u d) : EntriesOnly t d := by
  unfold EntriesOnly at h h' ⊢
  rw [h', onSt] at h
  exact h

theorem EntriesOnly.foldl {α : Type} {f : Dev → α → Dev} (l : List α) (hf : ∀ d, ∀ a ∈ l, EntriesOnly (f d a) d) (d : Dev) :
    EntriesOnly (l.foldl f d) d :=
  List.foldlRecOn (motive := fun u => EntriesOnly u d) l f (.refl d) fun u hu a ha => (hf u a ha).trans hu

theorem EntriesOnly.only (h : EntriesOnly t d) : Only [.st] t d := by
  rw [h]
  simp

theorem EntriesOnly.st (h : EntriesOnly t d) :
    t.st = { d.st with ways := t.st.ways, stash := t.st.stash, poison := t.st.poison } := by
  have hst := congrArg Dev.st h
  exact hst

/-- The table code and the index that the poison of a location is kept under. -/
def placeOf (loc : Nat) : Nat × Nat := if 0x10000 ≤ loc then (tStash, loc - 0x10000) else (tStation, loc)

theorem placeOf_way (h : way < 0x10000) : placeOf way = (tStation, way) := if_neg (by omega)
theorem placeOf_stash : placeOf (0x10000 + i) = (tStash, i) := by simp [placeOf]

/-! ### One entry written or removed -/

theorem entriesOnly_putStation : EntriesOnly (putStation loc e d) d := by
  unfold putStation
  split <;> rfl

theorem entriesOnly_dropStation : EntriesOnly (dropStation loc d) d := by
  unfold dropStation
  split <;> rfl

@[simp] theorem ways_putStation_way (h : way < 0x10000) : (putStation way e d).st.ways = tput d.st.ways way e := by
  rw [putStation, if_neg (by omega)]; rfl
@[simp] theorem stash_putStation_way (h : way < 0x10000) : (putStation way e d).st.stash = d.st.stash := by
  rw [putStation, if_neg (by omega)]; rfl
@[simp] theorem ways_putStation_stash : (putStation (0x10000 + i) e d).st.ways = d.st.ways := by
  rw [putStation, if_pos (by omega)]; rfl
@[simp] theorem stash_putStation_stash : (putStation (0x10000 + i) e d).st.stash = tput d.st.stash i e := by
  rw [putStation, if_pos (by omega), Nat.add_sub_cancel_left]; rfl
@[simp] theorem ways_dropStation_way (h : way < 0x10000) : (dropStation way d).st.ways = terase d.st.ways way := by
  rw [dropStation, if_neg (by omega)]; rfl
@[simp] theorem stash_dropStation_way (h : way < 0x10000) : (dropStation way d).st.stash = d.st.stash := by
  rw [dropStation, if_neg (by omega)]; rfl
@[simp] theorem ways_dropStation_stash : (dropStation (0x10000 + i) d).st.ways = d.st.ways := by
  rw [dropStation, if_pos (by omega)]; rfl
@[simp] theorem stash_dropStation_stash : (dropStation (0x10000 + i) d).st.stash = terase d.st.stash i := by
  rw [dropStation, if_pos (by omega), Nat.add_sub_cancel_left]; rfl

theorem poison_putStation : (putStation loc e d).st.poison = d.st.poison.filter fun x => x ≠ placeOf loc := by
  unfold putStation placeOf
  split <;> rfl

theorem poison_dropStation : (dropStation loc d).st.poison = d.st.poison.filter fun x => x ≠ placeOf loc := by
  unfold dropStation placeOf
  split <;> rfl

theorem stationAt_putStation_self : stationAt (putStation loc e d) loc = some e := by
  unfold stationAt putStation
  split
  · exact tfind_tput_self _ _ _
  · exact tfind_tput_self _ _ _

/-! ### Insertion (R454-R456) -/

theorem entriesOnly_moveWay (m : Nat × Nat) : EntriesOnly (moveWay m d) d := by
  unfold moveWay
  split
  · exact entriesOnly_dropStation.trans entriesOnly_putStation
  · rfl

/-- The entries that an insertion moves, and those that count it. -/
def relocated (moves : List (Nat × Nat)) (d : Dev) : Dev :=
  onSt (fun t => { t with relocations := min (t.relocations + moves.length) 0xFFFFFFFF })
    (moves.foldl (fun d m => moveWay m d) (onSt (fun t => { t with victim := (t.victim + 1) % 4 }) d))

theorem relocated_st (moves : List (Nat × Nat)) :
    (relocated moves d).st = { d.st with
      ways := (relocated moves d).st.ways, stash := (relocated moves d).st.stash, poison := (relocated moves d).st.poison
      victim := (d.st.victim + 1) % 4, relocations := min (d.st.relocations + moves.length) 0xFFFFFFFF } := by
  unfold relocated
  obtain ⟨v, hv⟩ : ∃ v, v = moves.foldl (fun d m => moveWay m d) (onSt (fun t => { t with victim := (t.victim + 1) % 4 }) d) := ⟨_, rfl⟩
  have hst := (EntriesOnly.foldl (f := fun d m => moveWay m d) moves (fun _ m _ => entriesOnly_moveWay m)
    (onSt (fun t => { t with victim := (t.victim + 1) % 4 }) d)).st
  rw [← hv] at hst ⊢
  show { v.st with relocations := min (v.st.relocations + moves.length) 0xFFFFFFFF } = _
  rw [hst]
  rfl

theorem only_relocated (moves : List (Nat × Nat)) : Only [.st] (relocated moves d) d := by
  unfold relocated
  rw [only_onSt _ (by decide)]
  exact (EntriesOnly.foldl moves (fun _ m _ => entriesOnly_moveWay m) _).only.trans (by simp)

theorem stationInsert_of_place {stash : Bool} {moves : List (Nat × Nat)}
    (h : placeKey (stationCuckoo d) d.st.victim (bucketsOf d e.mac.toNat e.fid.toNat).1 (bucketsOf d e.mac.toNat e.fid.toNat).2 = some (moves, way)) :
    stationInsert e stash d = (some way, putStation way e (relocated moves d)) := by
  unfold stationInsert
  dsimp only
  rw [h]
  rfl

theorem stationInsert_of_no_place
    (h : placeKey (stationCuckoo d) d.st.victim (bucketsOf d e.mac.toNat e.fid.toNat).1 (bucketsOf d e.mac.toNat e.fid.toNat).2 = none) :
    stationInsert e false d = (none, onSt (fun t => { t with victim := (t.victim + 1) % 4 }) d) := by
  unfold stationInsert
  dsimp only
  rw [h]
  rfl

theorem stationInsert_into_stash
    (h : placeKey (stationCuckoo d) d.st.victim (bucketsOf d e.mac.toNat e.fid.toNat).1 (bucketsOf d e.mac.toNat e.fid.toNat).2 = none)
    (hlock : isLocked d tStash 0 = false) (hfree : ((List.range 32).find? fun s => (tfind d.st.stash s).isNone) = some i) :
    stationInsert e true d = (some (0x10000 + i), putStation (0x10000 + i) e (onSt (fun t => { t with victim := (t.victim + 1) % 4 }) d)) := by
  unfold stationInsert
  dsimp only
  rw [h]
  have hlock' : isLocked (onSt (fun t => { t with victim := (t.victim + 1) % 4 }) d) tStash 0 = false := hlock
  have hfree' : ((List.range 32).find? fun s => (tfind (onSt (fun t => { t with victim := (t.victim + 1) % 4 }) d).st.stash s).isNone) = some i :=
    hfree
  simp only [hlock', Bool.not_true, Bool.false_eq_true, if_false]
  rw [hfree']

theorem stationInsert_of_full
    (h : placeKey (stationCuckoo d) d.st.victim (bucketsOf d e.mac.toNat e.fid.toNat).1 (bucketsOf d e.mac.toNat e.fid.toNat).2 = none)
    (hfull : isLocked d tStash 0 = true ∨ ∀ i : Nat, i < 32 → (tfind d.st.stash i).isSome = true) :
    stationInsert e true d = (none, onSt (fun t => { t with learnFull := satInc t.learnFull })
      (onSt (fun t => { t with victim := (t.victim + 1) % 4 }) d)) := by
  unfold stationInsert
  dsimp only
  rw [h]
  have hnone : (if isLocked (onSt (fun t => { t with victim := (t.victim + 1) % 4 }) d) tStash 0 then none
      else (List.range 32).find? fun s => (tfind (onSt (fun t => { t with victim := (t.victim + 1) % 4 }) d).st.stash s).isNone) = none := by
    rcases hfull with hlock | hall
    · exact if_pos hlock
    · split
      · rfl
      · refine List.find?_eq_none.mpr fun s hs => ?_
        have hsome : (tfind (onSt (fun t => { t with victim := (t.victim + 1) % 4 }) d).st.stash s).isSome = true :=
          hall s (List.mem_range.mp hs)
        rw [Bool.not_eq_true, Option.isNone_eq_false_iff]
        exact hsome
  simp only [Bool.not_true, Bool.false_eq_true, if_false]
  rw [hnone]

/-! ### Ageing (R459, R463) -/

/-- What the ager makes of an entry: a static one, and one that is poisoned, stand. -/
def aged (poisoned : Bool) : Option Station → Option Station
  | none => none
  | some e => if e.static_ || poisoned then some e else if e.age = 0 then none else some { e with age := e.age - 1 }

theorem entriesOnly_ageEntry : EntriesOnly (ageEntry loc d) d := by
  unfold ageEntry
  split
  · rfl
  · split
    · rfl
    · split
      · exact entriesOnly_dropStation
      · exact entriesOnly_putStation

theorem tfind_ageEntry_way (h : way < 0x10000) (k : Nat) :
    tfind (ageEntry way d).st.ways k = if k = way then aged (poisoned d tStation way) (tfind d.st.ways way) else tfind d.st.ways k := by
  have hat : stationAt d way = tfind d.st.ways way := if_neg (by omega)
  have hpoison : stationPoisoned d way = poisoned d tStation way := if_neg (by omega)
  unfold ageEntry
  rw [hat, hpoison]
  cases hfind : tfind d.st.ways way with
  | none =>
    dsimp only [aged]
    split
    · next hk => rw [hk]; exact hfind
    · rfl
  | some e =>
    simp only [aged]
    by_cases hk : k = way
    · subst hk
      rw [if_pos rfl]
      split
      · exact hfind
      · split
        · rw [ways_dropStation_way h, tfind_terase_self]
        · rw [ways_putStation_way h, tfind_tput_self]
    · rw [if_neg hk]
      split
      · rfl
      · split
        · rw [ways_dropStation_way h, tfind_terase_other _ hk]
        · rw [ways_putStation_way h, tfind_tput_other _ _ hk]

theorem stash_ageEntry_way (h : way < 0x10000) : (ageEntry way d).st.stash = d.st.stash := by
  unfold ageEntry
  split
  · rfl
  · split
    · rfl
    · split
      · exact stash_dropStation_way h
      · exact stash_putStation_way h

theorem poisoned_filter {l : List (Nat × Nat)} {x y : Nat × Nat} (h : y ≠ x) : (l.filter fun z => z ≠ x).contains y = l.contains y := by
  rw [Bool.eq_iff_iff]
  simp [List.mem_filter, h]

theorem poisoned_ageEntry_other {k : Nat} (h : way < 0x10000) (hk : k ≠ way) :
    poisoned (ageEntry way d) tStation k = poisoned d tStation k := by
  have hne : (tStation, k) ≠ placeOf way := by simp [placeOf_way h, hk]
  unfold ageEntry
  split
  · rfl
  · split
    · rfl
    · split
      · rw [poisoned, poison_dropStation, poisoned_filter hne]; rfl
      · rw [poisoned, poison_putStation, poisoned_filter hne]; rfl

/-- The ager at several ways. -/
theorem tfind_ageAll {l : List Nat} (hl : ∀ w ∈ l, w < 0x10000) (hnodup : l.Nodup) (d : Dev) (k : Nat) :
    tfind (l.foldl (fun d w => ageEntry w d) d).st.ways k =
      if k ∈ l then aged (poisoned d tStation k) (tfind d.st.ways k) else tfind d.st.ways k := by
  induction l generalizing d with
  | nil => rfl
  | cons w l ih =>
    obtain ⟨hw, hrest⟩ := List.forall_mem_cons.mp hl
    obtain ⟨hfresh, hnodup'⟩ := List.nodup_cons.mp hnodup
    rw [List.foldl_cons, ih hrest hnodup', tfind_ageEntry_way hw]
    by_cases hk : k = w
    · subst hk
      simp [hfresh]
    · simp [hk, poisoned_ageEntry_other hw hk]

theorem stash_ageAll {l : List Nat} (hl : ∀ w ∈ l, w < 0x10000) (d : Dev) :
    (l.foldl (fun d w => ageEntry w d) d).st.stash = d.st.stash :=
  List.foldlRecOn (motive := fun u : Dev => u.st.stash = d.st.stash) l _ rfl fun _ hu w hw => (stash_ageEntry_way (hl w hw)).trans hu

theorem ways_ageEntry_stash : (ageEntry (0x10000 + i) d).st.ways = d.st.ways := by
  unfold ageEntry
  split
  · rfl
  · split
    · rfl
    · split
      · exact ways_dropStation_stash
      · exact ways_putStation_stash

theorem tfind_ageEntry_stash (k : Nat) :
    tfind (ageEntry (0x10000 + i) d).st.stash k =
      if k = i then aged (poisoned d tStash i) (tfind d.st.stash i) else tfind d.st.stash k := by
  have hat : stationAt d (0x10000 + i) = tfind d.st.stash i := by
    rw [stationAt, if_pos (by omega), Nat.add_sub_cancel_left]
  have hpoison : stationPoisoned d (0x10000 + i) = poisoned d tStash i := by
    rw [stationPoisoned, if_pos (by omega), Nat.add_sub_cancel_left]
  unfold ageEntry
  rw [hat, hpoison]
  cases hfind : tfind d.st.stash i with
  | none =>
    dsimp only [aged]
    split
    · next hk => rw [hk]; exact hfind
    · rfl
  | some e =>
    simp only [aged]
    by_cases hk : k = i
    · subst hk
      rw [if_pos rfl]
      split
      · exact hfind
      · split
        · rw [stash_dropStation_stash, tfind_terase_self]
        · rw [stash_putStation_stash, tfind_tput_self]
    · rw [if_neg hk]
      split
      · rfl
      · split
        · rw [stash_dropStation_stash, tfind_terase_other _ hk]
        · rw [stash_putStation_stash, tfind_tput_other _ _ hk]

/-! ### Scrubbing (R471) -/

/-- The location of a poisoned station way or stash entry. -/
def locOf (x : Nat × Nat) : Nat := if x.1 = tStash then 0x10000 + x.2 else x.2

theorem tfind_dropStation (k : Nat) :
    tfind (dropStation loc d).st.ways k = if k = loc ∧ loc < 0x10000 then none else tfind d.st.ways k := by
  by_cases hloc : loc < 0x10000
  · rw [ways_dropStation_way hloc]
    by_cases hk : k = loc
    · rw [hk, if_pos ⟨rfl, hloc⟩, tfind_terase_self]
    · rw [if_neg (fun h => hk h.1), tfind_terase_other _ hk]
  · rw [if_neg (fun h => hloc h.2), dropStation, if_pos (by omega)]
    rfl

theorem poisoned_dropStation (t i : Nat) :
    poisoned (dropStation loc d) t i = (poisoned d t i && decide ((t, i) ≠ placeOf loc)) := by
  rw [poisoned, poison_dropStation, Bool.eq_iff_iff]
  simp [poisoned, List.mem_filter]

theorem locOf_station : locOf (tStation, i) = i := rfl
theorem locOf_stash : locOf (tStash, i) = 0x10000 + i := rfl

/-- The poisoned entries that the scrubber writes as zero. -/
def cleared (l : List (Nat × Nat)) (d : Dev) : Dev := l.foldl (fun d x => dropStation (locOf x) d) d

theorem entriesOnly_cleared (l : List (Nat × Nat)) : EntriesOnly (cleared l d) d := .foldl l (fun _ _ _ => entriesOnly_dropStation) d

theorem cleared_clears {l : List (Nat × Nat)} (hi : i < 0x10000) (hmem : (tStation, i) ∈ l) :
    tfind (cleared l d).st.ways i = none ∧ poisoned (cleared l d) tStation i = false := by
  induction l generalizing d with
  | nil => cases hmem
  | cons x l ih =>
    have hkeep : ∀ (l : List (Nat × Nat)) (d : Dev), tfind d.st.ways i = none → poisoned d tStation i = false →
        tfind (cleared l d).st.ways i = none ∧ poisoned (cleared l d) tStation i = false := by
      intro l d hnone hclean
      refine List.foldlRecOn (motive := fun u : Dev => tfind u.st.ways i = none ∧ poisoned u tStation i = false) l _ ⟨hnone, hclean⟩ ?_
      rintro u ⟨hu, hpu⟩ x -
      rw [tfind_dropStation, poisoned_dropStation, hu, hpu]
      simp
    rcases List.mem_cons.mp hmem with hx | hl
    · subst hx
      refine hkeep l _ ?_ ?_
      · show tfind (dropStation i d).st.ways i = none
        rw [tfind_dropStation, if_pos ⟨rfl, hi⟩]
      · show poisoned (dropStation i d) tStation i = false
        rw [poisoned_dropStation, placeOf_way hi]
        simp
    · exact ih hl

theorem cleared_keeps {l : List (Nat × Nat)} (hl : ∀ x ∈ l, x.1 = tStation ∨ x.1 = tStash) :
    (∀ i : Nat, i < 0x10000 → (tStation, i) ∉ l → tfind (cleared l d).st.ways i = tfind d.st.ways i) ∧
    ∀ t i : Nat, t ≠ tStation → t ≠ tStash → poisoned (cleared l d) t i = poisoned d t i := by
  refine ⟨fun i hi hnot => ?_, fun t i hstation hstash => ?_⟩
  · refine List.foldlRecOn (motive := fun u : Dev => tfind u.st.ways i = tfind d.st.ways i) l _ rfl ?_
    rintro u hu ⟨table, k⟩ hx
    rw [tfind_dropStation, if_neg, hu]
    rintro ⟨hk, hlt⟩
    rcases hl _ hx with h | h
    · have htable : table = tStation := h
      subst htable
      rw [locOf_station] at hk
      exact hnot (hk ▸ hx)
    · have htable : table = tStash := h
      subst htable
      rw [locOf_stash] at hk
      omega
  · refine List.foldlRecOn (motive := fun u => poisoned u t i = poisoned d t i) l _ rfl ?_
    intro u hu x _
    rw [poisoned_dropStation, hu]
    have hne : (t, i) ≠ placeOf (locOf x) := by
      unfold placeOf
      split
      · exact fun h => hstash (congrArg Prod.fst h)
      · exact fun h => hstation (congrArg Prod.fst h)
    simp [hne]

end Sys2Proof.Proofs.StationEntries


/-! SUPPORT. The station table at work: learning, the stash, the ager, the flush and the scrubber. -/

namespace Sys2Proof.Proofs.StationTableAtWork

open Sys2Proof Sys2Proof.Machine Sys2Proof.Safety
open Sys2Proof.Proofs.ShapersAndTally
open Sys2Proof.Proofs.Frames
open Sys2Proof.Proofs.Running
open Sys2Proof.Proofs.Switching (swPort_setSwPort)
open Sys2Proof.Proofs.StationEntries
open Sys2Proof.Proofs.TransmissionAndAgeing (rest_of_only)
open Sys2Proof.Proofs.Transmission (alarmLatched_eventAlarm)

/-- A command that changes nothing but the station tables. -/
theorem only_settle_of_st {u d : Dev} (h : Only [.st] u (hush d)) : Only [.st, .odBook, .irq, .out] (settle u) d := by
  rw [only_settle (by decide)]
  exact (h.mono (by decide)).trans (by simp)

/-! ### Learning (R452-R457) -/

section
variable {d : Dev} {q : LearnReq} {rest : List LearnReq} {loc : Nat} {o : Station}

/-- The entry that a request is learned as. -/
def learned (q : LearnReq) : Station :=
  { mac := q.mac, fid := q.fid, static_ := false, flock := false, age := 7, dest := BitVec.ofNat 12 q.port }

/-- The queue without the request that is taken up. -/
def taken (rest : List LearnReq) (d : Dev) : Dev := onSt (fun t => { t with learnQ := rest }) d

theorem learnStep_known (hq : d.st.learnQ = q :: rest) (hfind : stationFind d q.mac.toNat q.fid.toNat = some loc)
    (hat : stationAt d loc = some o) (hdynamic : o.static_ = false) (hfree : locFree d loc = true) :
    learnStep d = putStation loc { o with age := 7 } (taken rest d) := by
  have hfind' : stationFind (taken rest d) q.mac.toNat q.fid.toNat = some loc := hfind
  have hat' : stationAt (taken rest d) loc = some o := hat
  have hfree' : locFree (taken rest d) loc = true := hfree
  unfold learnStep
  rw [hq]
  dsimp only
  rw [show onSt (fun t => { t with learnQ := rest }) d = taken rest d from rfl, hfind']
  dsimp only
  rw [hat']
  simp [hdynamic, hfree']

theorem learnStep_limited (hq : d.st.learnQ = q :: rest) (hfind : stationFind d q.mac.toNat q.fid.toNat = none)
    (hlimit : cfg d (0x8000 + 0x40 * q.port) 4 ≠ 0) (hfull : cfg d (0x8000 + 0x40 * q.port) 4 ≤ learnedOn d q.port) :
    learnStep d = setSwPort q.port (fun w => { w with limitHit := satInc w.limitHit }) (taken rest d) := by
  have hfind' : stationFind (taken rest d) q.mac.toNat q.fid.toNat = none := hfind
  unfold learnStep
  rw [hq]
  dsimp only
  rw [show onSt (fun t => { t with learnQ := rest }) d = taken rest d from rfl, hfind']
  exact if_pos ⟨hlimit, hfull⟩

theorem learnStep_inserts (hq : d.st.learnQ = q :: rest) (hfind : stationFind d q.mac.toNat q.fid.toNat = none)
    (hlimit : cfg d (0x8000 + 0x40 * q.port) 4 = 0 ∨ learnedOn d q.port < cfg d (0x8000 + 0x40 * q.port) 4) :
    learnStep d = (stationInsert (learned q) true (taken rest d)).2 := by
  have hfind' : stationFind (taken rest d) q.mac.toNat q.fid.toNat = none := hfind
  unfold learnStep
  rw [hq]
  dsimp only
  rw [show onSt (fun t => { t with learnQ := rest }) d = taken rest d from rfl, hfind']
  refine if_neg ?_
  show ¬ (cfg d (0x8000 + 0x40 * q.port) 4 ≠ 0 ∧ cfg d (0x8000 + 0x40 * q.port) 4 ≤ learnedOn d q.port)
  omega

theorem only_taken : Only [.st] (taken rest d) d := by simp [taken]

end

/-! ### The stash -/

section
variable {d : Dev} {i : Nat} {e : Station}

/-- The stash entry that is tried next. -/
def nextTried (d : Dev) : Option Nat :=
  (List.range 32).find? fun i => (tfind d.st.stash ((d.st.drainNext + i) % 32)).isSome && !poisoned d tStash ((d.st.drainNext + i) % 32)

/-- The round robin gone on past the entry tried. -/
def tried (n : Nat) (d : Dev) : Dev := onSt (fun t => { t with drainNext := (n + 1) % 32 }) d

theorem stashDrain_tries (hlock : isLocked d tStash 0 = false) (hnext : nextTried d = some i)
    (he : tfind d.st.stash ((d.st.drainNext + i) % 32) = some e) :
    stashDrain d = match (stationInsert e false (tried ((d.st.drainNext + i) % 32) d)).1 with
      | some _ => dropStation (0x10000 + (d.st.drainNext + i) % 32) (stationInsert e false (tried ((d.st.drainNext + i) % 32) d)).2
      | none => (stationInsert e false (tried ((d.st.drainNext + i) % 32) d)).2 := by
  unfold nextTried at hnext
  unfold stashDrain
  dsimp only
  rw [hlock, hnext]
  dsimp only
  rw [show onSt (fun t => { t with drainNext := ((d.st.drainNext + i) % 32 + 1) % 32 }) d = tried ((d.st.drainNext + i) % 32) d from rfl,
    show tfind (tried ((d.st.drainNext + i) % 32) d).st.stash ((d.st.drainNext + i) % 32) = some e from he]
  rfl

end

/-! ### The ager -/

section
variable {d : Dev} {i : Nat}

theorem agerVisit_bucket (hi : i < 2 * halfBuckets d) (hon : cfg d 0x8400 1 ≠ 0) (hlock : isLocked d tStation i = false) :
    agerVisit i d = [4 * i, 4 * i + 1, 4 * i + 2, 4 * i + 3].foldl (fun d w => ageEntry w d) d := by
  unfold agerVisit
  dsimp only
  rw [if_neg hon, if_pos hi, hlock]
  rfl

theorem agerVisit_stash (hi : i < 32) (hon : cfg d 0x8400 1 ≠ 0) (hlock : isLocked d tStash 0 = false) :
    agerVisit (2 * halfBuckets d + i) d = ageEntry (0x10000 + i) d := by
  unfold agerVisit
  dsimp only
  rw [if_neg hon, if_neg (by omega), if_pos (by omega), hlock, Nat.add_sub_cancel_left]
  rfl

theorem halfBuckets_le (d : Dev) : halfBuckets d ≤ 8192 := by
  unfold halfBuckets
  split <;> omega

end

/-! ### Errors found -/

theorem eccFind_table {d : Dev} {table : Byte} {i : Nat} (htable : table.toNat < 0xB0) :
    (eccFind { table := table, index := i, double := false } d).st = { d.st with eccCorrected := satInc d.st.eccCorrected } ∧
    poisoned (eccFind { table := table, index := i, double := true } d) table.toNat i = true ∧
    (poisoned d table.toNat i = false →
      (eccFind { table := table, index := i, double := true } d).od.alarmLatched.getLsbD 6 = true) := by
  have hbuffer : table.toNat ≠ 0xC0 := by omega
  have hcounters : ¬ 0xB0 ≤ table.toNat := by omega
  obtain ⟨u, hu⟩ : ∃ u, u = eventAlarm 6 (onSt (fun s => { s with poison := s.poison ++ [(table.toNat, i)] }) d) := ⟨_, rfl⟩
  have hpoison : poisoned u table.toNat i = true := by
    have honly : Only [.odBook, .irq] u (onSt (fun s => { s with poison := s.poison ++ [(table.toNat, i)] }) d) := by
      rw [hu]; simp
    rw [poisoned, honly.st rfl]
    simp [onSt]
  have halarm : u.od.alarmLatched.getLsbD 6 = true := by rw [hu]; exact alarmLatched_eventAlarm (by decide)
  unfold eccFind
  simp only [hbuffer, hcounters, ← hu, if_false, Bool.not_true, Bool.false_eq_true, Bool.not_false, if_true]
  refine ⟨rfl, ?_, fun hclean => ?_⟩
  · split
    · assumption
    · split
      · exact hpoison
      · exact hpoison
  · rw [if_neg (by simp [hclean])]
    split
    · exact halarm
    · exact halarm

/-! ### The scrubber -/

section
variable {d : Dev} {x : Nat × Nat}

/-- The poisoned station ways and stash entries that no mordant bit covers. -/
def scrubbed (d : Dev) : List (Nat × Nat) := d.st.poison.filter fun x =>
  (x.1 == tStation && !isLocked d tStation (x.2 / 4)) || (x.1 == tStash && !isLocked d tStash 0)

theorem mem_scrubbed : x ∈ scrubbed d ↔ x ∈ d.st.poison ∧
    ((x.1 = tStation ∧ isLocked d tStation (x.2 / 4) = false) ∨ (x.1 = tStash ∧ isLocked d tStash 0 = false)) := by
  simp [scrubbed, List.mem_filter]

theorem mem_scrubbed_table (x : Nat × Nat) (hx : x ∈ scrubbed d) : x.1 = tStation ∨ x.1 = tStash :=
  (mem_scrubbed.mp hx).2.imp And.left And.left

theorem scrubPass_clears {us_ : Nat} {ecc : List EccHit} : scrubPass us_ ecc d = onSt (fun t => { t with scrubUs := us_ % 2 ^ 32 })
    (cleared (scrubbed (eccFindAll ecc d)) (eccFindAll ecc d)) := rfl

end

/-! ### The statement -/

/-- Settles O54. -/
theorem stationTableWork : Obligations.StationTableWork := by
  refine ⟨fun s q rest hq => ?_, fun s hq => ?_, fun s i e hlock hnext he => ?_, fun s hlock => ?_, fun s i hi => ⟨fun hoff => ?_, fun hon hlock => ?_⟩,
    fun s i hi hon hlock => ?_, fun s => ?_, fun s us_ ecc => ?_, fun d table i htable => eccFind_table htable⟩
  · refine ⟨fun loc o hfind hat hdynamic hfree => ?_, fun hfind hlimit hfull => ?_, fun hfind hlimit => ⟨fun moves way hplace hway => ?_,
      fun i hplace hlock hnone => ?_, fun hplace hfull => ?_⟩⟩
    · refine answers_of_effect (f := learnStep) rfl (learnStep_known (d := hush s.dev) hq hfind hat hdynamic hfree) ?_
      have hall := only_settle_of_st (d := s.dev) (u := putStation loc { o with age := 7 } (taken rest (hush s.dev)))
        (entriesOnly_putStation.only.trans only_taken)
      refine ⟨?_, hall.fab rfl, ?_, hall.rt rfl, hall.cls rfl, rest_of_only hall (by decide)⟩
      · rw [stationAt, settle_st]
        exact stationAt_putStation_self
      · rw [settle_st, entriesOnly_putStation.st]
        rfl
    · refine answers_of_effect (f := learnStep) rfl (learnStep_limited (d := hush s.dev) hq hfind hlimit hfull) ?_
      obtain ⟨u, hu⟩ : ∃ u, u = setSwPort q.port (fun w => { w with limitHit := satInc w.limitHit }) (taken rest (hush s.dev)) := ⟨_, rfl⟩
      have honly : Only [.fab] u (taken rest (hush s.dev)) := by
        rw [hu]
        exact (only_setSwPort_of_kept (f := fun w => { w with limitHit := satInc w.limitHit }) (fun _ => rfl) (fun _ => rfl)
          (by decide)).mpr (.refl _ _)
      have hport : (swPort u q.port).limitHit = satInc (swPort s.dev q.port).limitHit := by
        rw [hu, swPort_setSwPort, if_pos rfl]
        rfl
      rw [← hu]
      have hall : Only [.fab, .st, .odBook, .irq, .out] (settle u) s.dev := by
        rw [only_settle (by decide)]
        exact (honly.mono (by decide)).trans ((only_taken.mono (by decide)).trans (by simp))
      refine ⟨?_, ?_, ?_, ?_, hall.rt rfl, hall.cls rfl, rest_of_only hall (by decide)⟩
      · rw [swPort_settle]; exact hport
      · rw [settle_st, honly.st rfl]; rfl
      · rw [settle_st, honly.st rfl]; rfl
      · rw [settle_st, honly.st rfl]; rfl
    · have hplaced := stationInsert_of_place (stash := true) (d := taken rest (hush s.dev)) (e := learned q) hplace
      refine answers_of_effect (f := learnStep) rfl
        ((learnStep_inserts (d := hush s.dev) hq hfind hlimit).trans (congrArg Prod.snd hplaced)) ?_
      have hst := relocated_st (d := taken rest (hush s.dev)) moves
      have hnil : moves = [] → (relocated moves (taken rest (hush s.dev))).st.stash = s.dev.st.stash ∧
          (relocated moves (taken rest (hush s.dev))).st.ways = s.dev.st.ways := by
        intro h
        subst h
        exact ⟨rfl, rfl⟩
      have hmoved := only_relocated (d := taken rest (hush s.dev)) moves
      generalize relocated moves (taken rest (hush s.dev)) = v at hst hnil hmoved
      have hall := only_settle_of_st (d := s.dev) (u := putStation way (learned q) v)
        (entriesOnly_putStation.only.trans (hmoved.trans only_taken))
      have hput := (entriesOnly_putStation (loc := way) (e := learned q) (d := v)).st
      have hways := ways_putStation_way (d := v) (e := learned q) hway
      have hstash := stash_putStation_way (d := v) (e := learned q) hway
      refine ⟨?_, ?_, ?_, fun h => ?_, hall.fab rfl, ?_, hall.rt rfl, hall.cls rfl, rest_of_only hall (by decide)⟩
      · rw [settle_st, hways]; exact tfind_tput_self _ _ _
      · rw [settle_st, hput, hst]; rfl
      · rw [settle_st, hput, hst]; rfl
      · obtain ⟨hs, hw⟩ := hnil h
        rw [settle_st, hways, hstash, hs, hw]
        exact ⟨rfl, fun i hi => tfind_tput_other _ _ hi⟩
      · rw [settle_st, hput, hst]; rfl
    · have hstashed := stationInsert_into_stash (d := taken rest (hush s.dev)) (e := learned q) hplace hlock hnone
      refine answers_of_effect (f := learnStep) rfl
        ((learnStep_inserts (d := hush s.dev) hq hfind hlimit).trans (congrArg Prod.snd hstashed)) ?_
      obtain ⟨v, hv⟩ : ∃ v, v = onSt (fun t => { t with victim := (t.victim + 1) % 4 }) (taken rest (hush s.dev)) := ⟨_, rfl⟩
      have hmoved : Only [.st] v (taken rest (hush s.dev)) := by rw [hv]; simp
      have hst : v.st = { s.dev.st with learnQ := rest, victim := (s.dev.st.victim + 1) % 4 } := by rw [hv]; rfl
      rw [← hv]
      have hall := only_settle_of_st (d := s.dev) (u := putStation (0x10000 + i) (learned q) v)
        (entriesOnly_putStation.only.trans (hmoved.trans only_taken))
      have hput := (entriesOnly_putStation (loc := 0x10000 + i) (e := learned q) (d := v)).st
      refine ⟨?_, ?_, fun j hj => ?_, hall.fab rfl, ?_, hall.rt rfl, hall.cls rfl, rest_of_only hall (by decide)⟩
      · rw [settle_st, stash_putStation_stash]; exact tfind_tput_self _ _ _
      · rw [settle_st, ways_putStation_stash, hst]
      · rw [settle_st, stash_putStation_stash, tfind_tput_other _ _ hj, hst]
      · rw [settle_st, hput, hst]
    · have hfull' := stationInsert_of_full (d := taken rest (hush s.dev)) (e := learned q) hplace hfull
      refine answers_of_effect (f := learnStep) rfl
        ((learnStep_inserts (d := hush s.dev) hq hfind hlimit).trans (congrArg Prod.snd hfull')) ?_
      have hall := only_settle_of_st (d := s.dev) (u := onSt (fun t => { t with learnFull := satInc t.learnFull })
        (onSt (fun t => { t with victim := (t.victim + 1) % 4 }) (taken rest (hush s.dev)))) (by simp [taken])
      refine ⟨?_, ?_, ?_, hall.fab rfl, ?_, hall.rt rfl, hall.cls rfl, rest_of_only hall (by decide)⟩
      · rw [settle_st]; rfl
      · rw [settle_st]; rfl
      · rw [settle_st]; rfl
      · rw [settle_st]; rfl
  · refine answers_became (f := learnStep) rfl ?_
    unfold learnStep
    rw [show (hush s.dev).st.learnQ = [] from hq]
  · refine ⟨fun moves way hplace hway => ?_, fun hplace => ?_⟩
    · have hplaced := stationInsert_of_place (stash := false) (d := tried ((s.dev.st.drainNext + i) % 32) (hush s.dev)) (e := e) hplace
      have htries := stashDrain_tries (d := hush s.dev) hlock hnext he
      rw [show (hush s.dev).st.drainNext = s.dev.st.drainNext from rfl, hplaced] at htries
      refine answers_of_effect (f := stashDrain) rfl htries ?_
      have hst := relocated_st (d := tried ((s.dev.st.drainNext + i) % 32) (hush s.dev)) moves
      have hmoved := only_relocated (d := tried ((s.dev.st.drainNext + i) % 32) (hush s.dev)) moves
      generalize relocated moves (tried ((s.dev.st.drainNext + i) % 32) (hush s.dev)) = v at hst hmoved
      obtain ⟨u, hu⟩ : ∃ u, u = putStation way e v := ⟨_, rfl⟩
      have hput : EntriesOnly u v := by rw [hu]; exact entriesOnly_putStation
      have hways : tfind u.st.ways way = some e := by
        rw [hu, ways_putStation_way hway]
        exact tfind_tput_self _ _ _
      dsimp only
      rw [← hu]
      have hdrop := (entriesOnly_dropStation (loc := 0x10000 + (s.dev.st.drainNext + i) % 32) (d := u)).trans hput
      have hall := only_settle_of_st (d := s.dev) (hdrop.only.trans (hmoved.trans (by simp [tried])))
      refine ⟨?_, ?_, ?_, hall.fab rfl, hall.rt rfl, rest_of_only hall (by decide)⟩
      · rw [settle_st, ways_dropStation_stash]; exact hways
      · rw [settle_st, stash_dropStation_stash]; exact tfind_terase_self _ _
      · rw [settle_st, hdrop.st, hst]; rfl
    · have hnone := stationInsert_of_no_place (d := tried ((s.dev.st.drainNext + i) % 32) (hush s.dev)) (e := e) hplace
      have htries := stashDrain_tries (d := hush s.dev) hlock hnext he
      rw [show (hush s.dev).st.drainNext = s.dev.st.drainNext from rfl, hnone] at htries
      refine answers_of_effect (f := stashDrain) rfl htries ?_
      have hall := only_settle_of_st (d := s.dev) (u := onSt (fun t => { t with victim := (t.victim + 1) % 4 })
        (tried ((s.dev.st.drainNext + i) % 32) (hush s.dev))) (by simp [tried])
      exact ⟨by rw [settle_st]; rfl, hall.fab rfl, hall.rt rfl, rest_of_only hall (by decide)⟩
  · exact answers_became (f := stashDrain) rfl (if_pos hlock)
  · refine answers_became (f := Machine.agerVisit i) rfl ?_
    unfold Machine.agerVisit
    rcases hoff with hoff | hlock
    · exact if_pos hoff
    · dsimp only
      split
      · rfl
      · rw [if_pos (show i < 2 * halfBuckets (hush s.dev) from hi), if_pos (show isLocked (hush s.dev) tStation i = true from hlock)]
  · refine answers_of_effect (f := Machine.agerVisit i) rfl (agerVisit_bucket (d := hush s.dev) hi hon hlock) ?_
    have hbuckets := halfBuckets_le s.dev
    have hplaces : ∀ w ∈ [4 * i, 4 * i + 1, 4 * i + 2, 4 * i + 3], w < 0x10000 := by
      intro w hw
      simp only [List.mem_cons, List.not_mem_nil, or_false] at hw
      omega
    have hways := tfind_ageAll hplaces (by simp) (hush s.dev)
    have hstash := stash_ageAll hplaces (hush s.dev)
    have honly := (EntriesOnly.foldl (f := fun d w => ageEntry w d) [4 * i, 4 * i + 1, 4 * i + 2, 4 * i + 3]
      (fun _ _ _ => entriesOnly_ageEntry) (hush s.dev)).only
    generalize [4 * i, 4 * i + 1, 4 * i + 2, 4 * i + 3].foldl (fun d w => ageEntry w d) (hush s.dev) = u at hways hstash honly
    have hall := only_settle_of_st honly
    refine ⟨fun w hw => ?_, fun j hj => ?_, ?_, hall.fab rfl, hall.rt rfl, hall.cls rfl, rest_of_only hall (by decide)⟩
    · rw [settle_st, hways, if_pos (by simp only [List.mem_cons]; omega)]
      rfl
    · rw [settle_st, hways, if_neg (by simp only [List.mem_cons, List.not_mem_nil, or_false]; omega)]
      rfl
    · rw [settle_st]; exact hstash
  · refine answers_of_effect (f := Machine.agerVisit (2 * halfBuckets s.dev + i)) rfl (agerVisit_stash (d := hush s.dev) hi hon hlock) ?_
    have hall := only_settle_of_st (d := s.dev) (entriesOnly_ageEntry (loc := 0x10000 + i) (d := hush s.dev)).only
    refine ⟨?_, fun j hj => ?_, ?_, hall.fab rfl, hall.rt rfl, hall.cls rfl, rest_of_only hall (by decide)⟩
    · rw [settle_st, tfind_ageEntry_stash, if_pos rfl]
      rfl
    · rw [settle_st, tfind_ageEntry_stash, if_neg hj]
      rfl
    · rw [settle_st, ways_ageEntry_stash]
      rfl
  · obtain ⟨u, hu⟩ : ∃ u, u = flushDone (hush s.dev) := ⟨_, rfl⟩
    have hst : u.st = { s.dev.st with flushing := [] } := by
      rw [hu]
      unfold flushDone
      split
      next h =>
        show s.dev.st = _
        rw [← show s.dev.st.flushing = [] from h]
      next => rfl
    have hidle : s.dev.st.flushing ≠ [] → armed .flushEnd u = false := by
      intro h
      rw [hu, flushDone, if_neg (show (hush s.dev).st.flushing ≠ [] from h)]
      exact armed_disarm_self _ _
    have honly : Only [.st, .timer .flushEnd] u (hush s.dev) := by
      rw [hu, flushDone]
      split
      · exact .refl _ _
      · simp
    refine answers_of_effect (f := flushDone) rfl hu.symm ?_
    have hall : Only [.st, .timer .flushEnd, .odBook, .irq, .out] (settle u) s.dev := by
      rw [only_settle (by decide)]
      exact (honly.mono (by decide)).trans (by simp)
    exact ⟨by rw [settle_st]; exact hst, fun h => by rw [armed_settle]; exact hidle h, hall.fab rfl, hall.rt rfl, hall.cls rfl,
      rest_of_only hall (by decide)⟩
  · have hfound : Only findParts (eccFindAll ecc (hush s.dev)) (hush s.dev) := by simp
    refine answers_of_effect (f := scrubPass us_ ecc) rfl (scrubPass_clears (us_ := us_) (ecc := ecc) (d := hush s.dev)) ?_
    generalize eccFindAll ecc (hush s.dev) = u at hfound ⊢
    obtain ⟨v, hv⟩ : ∃ v, v = cleared (scrubbed u) u := ⟨_, rfl⟩
    have hclear (i : Nat) (hi : i < 0x10000) (hmem : (tStation, i) ∈ scrubbed u) :
        tfind v.st.ways i = none ∧ poisoned v tStation i = false := by rw [hv]; exact cleared_clears hi hmem
    have hkeep := cleared_keeps (d := u) (mem_scrubbed_table (d := u))
    have hentries : EntriesOnly v u := by rw [hv]; exact entriesOnly_cleared _
    rw [← hv] at hkeep ⊢
    obtain ⟨hways, hpoison⟩ := hkeep
    have hsettle : Only [.st, .odBook, .irq] (settle (onSt (fun t => { t with scrubUs := us_ % 2 ^ 32 }) v)) u := by
      rw [only_settle (by decide), only_onSt _ (by decide)]
      exact hentries.only.mono (by decide)
    have hhush : Only (.out :: findParts) (hush s.dev) s.dev := by simp
    have hall := (hsettle.mono (S := .out :: findParts) (by decide)).trans ((hfound.mono (by decide)).trans hhush)
    refine ⟨?_, fun i hi hmem hfree => ?_, fun i hi hnot => ?_, fun i hmem => ?_, ?_, hsettle.fab rfl, hsettle.rt rfl, hsettle.cls rfl,
      rest_of_only hall (by decide)⟩
    · rw [settle_st]; rfl
    · obtain ⟨hnone, hclean⟩ := hclear i hi (mem_scrubbed.mpr ⟨hmem, .inl ⟨rfl, hfree⟩⟩)
      exact ⟨by rw [settle_st]; exact hnone, by rw [poisoned, settle_st]; exact hclean⟩
    · rw [settle_st]
      exact hways i hi fun h => hnot (mem_scrubbed.mp h).1
    · have hstill := (hpoison tVlan i (by decide) (by decide)).trans (List.contains_iff_mem.mpr hmem)
      rw [poisoned, settle_st]
      exact hstill
    · rw [settle_st]
      show v.st.vlans = u.st.vlans
      rw [hentries.st]

end Sys2Proof.Proofs.StationTableAtWork


/-! SUPPORT. The second pass of a routed frame (chapter 13): what the frame leaves at port L, and what its lookup reads. -/

namespace Sys2Proof.Proofs.SecondPass

open Sys2Proof Sys2Proof.Machine Sys2Proof.Safety
open Sys2Proof.Proofs.ShapersAndTally
open Sys2Proof.Proofs.Frames
open Sys2Proof.Proofs.Switching
open Sys2Proof.Proofs.FrameDecisions
open Sys2Proof.Proofs.Transmission
open Sys2Proof.Proofs.PinsAndEpochs (swPort_setSwPort_other)

/-! ### What the lookup reads -/

section
variable {S : List Part} {t d : Dev}

theorem poisoned_congr (hst : t.st = d.st) (table i : Nat) : poisoned t table i = poisoned d table i := by
  unfold poisoned
  rw [hst]

theorem probe6_congr (hrt : t.rt = d.rt) (hst : t.st = d.st) (v a len : Nat) : probe6 t v a len = probe6 d v a len := by
  unfold probe6 find6
  simp only [hrt, poisoned_congr hst]

theorem pass6_congr (hrt : t.rt = d.rt) (hst : t.st = d.st) (v a n : Nat) (l : List Nat) : pass6 t v a n l = pass6 d v a n l := by
  induction n generalizing l with
  | zero => cases l <;> rfl
  | succ n ih =>
    cases l with
    | nil => rfl
    | cons c l =>
      unfold pass6
      rw [probe6_congr hrt hst]
      cases probe6 d v a c with
      | none => exact ih l
      | some r => rfl

/-- Where a lookup leads is read of the tables, of what is configured, and of which ports the variant has. -/
theorem afterLookup_congr (h : Only S t d) (hS : [View.cfgs, .st, .rt, .otp].all (Clear S) = true) (v c : Nat) (pcp : Option Nat)
    (o : List Byte) (defEl : Nat) (e : TrieEnd) : afterLookup t v c pcp o defEl e = afterLookup d v c pcp o defEl e := by
  have hcfg (obj el : Nat) : cfg t obj el = cfg d obj el := h.cfg (clear_of_all hS (by simp)) obj el
  have hst : t.st = d.st := h.st (clear_of_all hS (by simp))
  have hrt : t.rt = d.rt := h.rt (clear_of_all hS (by simp))
  have hotp : t.otp = d.otp := h.otp (clear_of_all hS (by simp))
  have hegress (p : Nat) (x : Copy) : egressOctets t p c x = egressOctets d p c x :=
    egressOctets_congr h (by
      have hc := clear_of_all hS (v := .cfgs) (by simp)
      have hs := clear_of_all hS (v := .st) (by simp)
      rw [List.all_cons, List.all_cons, hc, hs]
      rfl) p c x
  have hhop (nh : Nat) : throughHop t v c nh pcp o = throughHop d v c nh pcp o := by
    unfold throughHop hopOf rewrite maxFrame vlanMembers vlanOf present
    simp only [poisoned_congr hst, hrt, hst, hcfg, hotp, hegress]
  cases e with
  | hop nh => exact hhop nh
  | fault => rfl
  | default =>
    show (if cfg t (0x9400 + v) defEl = 0xFFFF then _ else throughHop t v c (cfg t (0x9400 + v) defEl) pcp o) = _
    rw [hcfg, hhop]
    rfl

end

/-! ### The frames held at port L -/

section
variable {d : Dev} {p c : Nat} {x : Copy}

theorem loop_of_base {t d : Dev} (h : base t.fab = base d.fab) : t.fab.loop = d.fab.loop := by
  have hloop := congrArg Fabric.loop h
  exact hloop

theorem loop_setCounter (set_ i v : Nat) : (setCounter set_ i v d).fab.loop = d.fab.loop := by
  unfold setCounter
  dsimp only
  split
  · rfl
  · rfl
  · split <;> rfl

theorem loop_dropCopy (code : Nat) : (dropCopy p c code d).fab.loop = d.fab.loop := loop_of_base (base_dropCopy p c code)

theorem loop_countTx (len da : Nat) : (countTx p c len da d).fab.loop = d.fab.loop := by
  unfold countTx countQueue countPort addCounter
  dsimp only
  split
  · simp only [loop_setCounter]
  · split <;> simp only [loop_setCounter]

theorem loop_toResidue (q : Nat) : (toResidue q c x d).fab.loop = d.fab.loop := by
  unfold toResidue
  split
  · rfl
  · split
    · exact loop_dropCopy _
    · rfl

theorem loop_admitTo (r : Ready) (frame q : Nat) : (admitTo r frame q d).fab.loop = d.fab.loop := by
  unfold admitTo
  extract_lets y c'
  split
  · exact loop_dropCopy _
  · split
    · exact loop_toResidue _
    · split
      · exact loop_of_base calm_enqueue.base
      · split
        · exact loop_of_base calm_enqueue.base
        · split
          · exact loop_toResidue _
          · exact loop_dropCopy _

theorem loop_mirrorCopy (m : Nat) (o : List Byte) (stamp fromPort : Nat) : (mirrorCopy m o stamp fromPort d).fab.loop = d.fab.loop := by
  unfold mirrorCopy
  extract_lets obj dest cl t' o' n fail
  have hfail : (fail d).fab.loop = d.fab.loop := rfl
  split
  · rfl
  · split
    · exact hfail
    · split
      · exact loop_dropCopy _
      · split
        · exact hfail
        · exact (loop_of_base (calm_pauseCheckAll.trans calm_enqueue).base).trans rfl

theorem loop_mirrorAll (el : Nat) (o : List Byte) (stamp fromPort : Nat) : (mirrorAll el p o stamp fromPort d).fab.loop = d.fab.loop :=
  List.foldlRecOn (motive := fun u : Dev => u.fab.loop = d.fab.loop) _ _ rfl fun _ hu _ _ => (loop_mirrorCopy _ _ _ _).trans hu

theorem loop_maskDests (ports : BitVec 16) : (maskDests p ports d).2.fab.loop = d.fab.loop :=
  List.foldlRecOn (motive := fun u : Dev => u.fab.loop = d.fab.loop) _ _ rfl fun _ hu _ _ => hu

/-- A routed frame is never cut through, and its decision leaves the frames held at port L. -/
theorem loop_finishDecision_routed (r : Ready) (ports : BitVec 16) (policed : Bool) :
    (finishDecision r ports true policed d).fab.loop = d.fab.loop := by
  have hmask := loop_maskDests (d := d) (p := r.inPort) ports
  unfold finishDecision
  extract_lets m u
  have hu : u.fab.loop = d.fab.loop := hmask
  clear_value u
  split
  · exact hu
  next frame v _ =>
    have hv : v.fab.loop = d.fab.loop := hu
    clear_value v
    split
    · rw [if_neg (by simp [cutsThrough])]
      exact (loop_of_base calm_pauseCheckAll.base).trans ((loop_admitTo _ _ _).trans hv)
    · refine (loop_of_base calm_pauseCheckAll.base).trans ?_
      exact List.foldlRecOn (motive := fun u : Dev => u.fab.loop = d.fab.loop) _ _ hv fun _ hu _ _ => (loop_admitTo _ _ _).trans hu

end

/-! ### The frame taken from port L -/

/-- The copy taken from its queue at port L, counted and mirrored there, what it held released. -/
def reentered (c : Nat) (x : Copy) (rest : List Copy) (d : Dev) : Dev :=
  release 15 c x (onFab (fun f => { f with loop := f.loop.filter fun y => y.frame != x.frame })
    (mirrorAll 2 15 x.octets x.stamp x.fromPort (countTx 15 c (frameLen x.octets) (frameDa x.octets)
      (setQueue 15 c (fun q => { q with copies := rest }) d))))

/-- The frame as it goes on from its second pass. -/
def readyAgain (c : Nat) (x : Copy) : Ready where
  octets := x.octets
  vid := x.tagVid.getD 0
  cls := c
  pcp := x.pcp
  inPort := x.fromPort
  stamp := x.stamp
  many := false
  punt := none

section
variable {d u : Dev} {p c : Nat} {x : Copy} {rest : List Copy}

theorem only_reentered : Only endingParts (reentered c x rest d) d := by simp [reentered]

theorem loop_reentered : (reentered c x rest d).fab.loop = d.fab.loop.filter fun y => y.frame != x.frame := by
  unfold reentered
  rw [loop_of_base calm_release.base]
  show (mirrorAll _ _ _ _ _ _).fab.loop.filter _ = _
  rw [loop_mirrorAll, loop_countTx]
  rfl

theorem queueOf_dwrr (g : List Nat) (fuel : Nat) {q k : Nat} (hkey : 8 * q + k < 8 * p) :
    queueOf (dwrr p g fuel d).2 q k = queueOf d q k := by
  have hset (u : Dev) (m : Nat) (f : Queue → Queue) : queueOf (setQueue p m f u) q k = queueOf u q k :=
    tget_tset_other _ _ _ (by omega)
  induction fuel generalizing d with
  | zero => rfl
  | succ fuel ih =>
    unfold dwrr
    extract_lets w m u
    have hu : queueOf u q k = queueOf d q k := by
      simp only [u]
      split
      · exact hset _ _ _
      · rfl
    clear_value u
    split
    · exact (ih (d := _)).trans hu
    · exact hu
    next v len _ _ =>
      have hv : queueOf v q k = queueOf u q k := by
        simp only [v]
        split
        · exact hset u m (fun q => { q with deficit := q.deficit + cfg u (shapeObj p) (8 + m) * 256 })
        · rfl
      clear_value v
      split
      · exact (hset v m (fun q => { q with deficit := q.deficit - len })).trans (hv.trans hu)
      · exact (ih (d := _)).trans (hv.trans hu)

theorem queueOf_pickQueue {q k : Nat} (hkey : 8 * q + k < 8 * p) : queueOf (pickQueue p d).2 q k = queueOf d q k := by
  unfold pickQueue
  extract_lets g level
  split
  · rfl
  · split
    · exact queueOf_dwrr _ _ hkey
    · rfl

theorem dwrr_member {g : List Nat} {fuel m : Nat} (h : (dwrr p g fuel d).1 = some m) : m ∈ g := by
  induction fuel generalizing d with
  | zero => cases h
  | succ fuel ih =>
    unfold dwrr at h
    extract_lets w n u at h
    split at h
    · exact ih h
    next hstate =>
      split at hstate
      next hg => rw [← Option.some.inj h]; exact List.contains_iff_mem.mp hg
      next => cases hstate
    next hstate =>
      split at hstate
      next hg =>
        split at h
        · rw [← Option.some.inj h]; exact List.contains_iff_mem.mp hg
        · exact ih h
      next => cases hstate

theorem pickQueue_lt (h : (pickQueue p d).1 = some c) : c < 8 := by
  have hlevels (m : Nat) (hm : m ∈ [7, 6, 5, 4, 3, 2, 1, 0]) : m < 8 := by
    simp only [List.mem_cons, List.not_mem_nil, or_false] at hm
    omega
  unfold pickQueue at h
  extract_lets g level at h
  split at h
  · cases h
  next m hm =>
    split at h
    · exact hlevels c (List.mem_of_mem_filter (dwrr_member h))
    · cases h
      exact hlevels c (List.mem_of_find?_eq_some hm)

/-- Where nothing is mirrored and no residue waits, the queues of other ports stand. -/
theorem queueOf_reentered (hmirror : mirrorsOf d 2 15 = []) (hres : d.fab.residues = []) {q k : Nat} (hkey : 8 * q + k < 120) :
    queueOf (reentered c x rest d) q k = queueOf d q k ∧ (reentered c x rest d).fab.residues = [] := by
  have hset (u : Dev) (f : Queue → Queue) : queueOf (setQueue 15 c f u) q k = queueOf u q k :=
    tget_tset_other _ _ _ (by omega)
  obtain ⟨v, hv⟩ : ∃ v, v = countTx 15 c (frameLen x.octets) (frameDa x.octets) (setQueue 15 c (fun q => { q with copies := rest }) d) :=
    ⟨_, rfl⟩
  have hsame : SameQueues v (setQueue 15 c (fun q => { q with copies := rest }) d) := by rw [hv]; exact sameQueues_countTx
  have hmirror' : mirrorsOf v 2 15 = [] := by
    refine (mirrorsOf_congr (d := d) fun obj e => ?_).trans hmirror
    exact (show Only [.fab] v d by rw [hv]; simp).cfg rfl obj e
  unfold reentered
  rw [← hv, mirrorAll_of_none hmirror']
  have hrel := sameQueues_release (d := onFab (fun f => { f with loop := f.loop.filter fun y => y.frame != x.frame }) v)
    (p := 15) (c := c) (x := x) (hsame.2.trans hres)
  refine ⟨?_, hrel.2.trans (hsame.2.trans hres)⟩
  rw [hrel.queueOf]
  exact (hset _ (fun q => { q with foldUse := q.foldUse - x.fold, comUse := q.comUse - x.common })).trans
    ((hsame.queueOf q k).trans (hset _ _))

end

end Sys2Proof.Proofs.SecondPass


/-! SUPPORT. Routes at work: the second pass, the route commands of the object dictionary, repair and punts. -/

namespace Sys2Proof.Proofs.RoutesAtWork

open Sys2Proof Sys2Proof.Machine Sys2Proof.Safety
open Sys2Proof.Proofs.ShapersAndTally
open Sys2Proof.Proofs.Frames
open Sys2Proof.Proofs.Running
open Sys2Proof.Proofs.Switching
open Sys2Proof.Proofs.FrameDecisions
open Sys2Proof.Proofs.Transmission
open Sys2Proof.Proofs.TransmissionAndAgeing (rest_of_only)
open Sys2Proof.Proofs.StationTableAtWork (only_settle_of_st)
open Sys2Proof.Proofs.SecondPass
open Sys2Proof.Proofs.NguzoReception (defaultOf_congr)

/-! ### The second pass -/

section
variable {d v : Dev} {c : Nat} {x : Copy} {rest : List Copy} {f : LoopFrame} {ecc : List EccHit}

theorem resetting_eccFind (h : EccHit) : (eccFind h d).fab.resetting = d.fab.resetting := by
  have hcounter (k i : Nat) : (setCounter k i 0 d).fab.resetting = d.fab.resetting := by
    unfold setCounter
    dsimp only
    split
    · rfl
    · rfl
    · split <;> rfl
  unfold eccFind
  extract_lets t u
  have hu : u.fab = d.fab :=
    (show Only [.odBook, .irq, .st] u d by simp [u]).fab rfl
  clear_value u
  split
  · split <;> rfl
  · split
    · rfl
    · split
      · have hc := hcounter (t - 0xB0) h.index
        generalize setCounter (t - 0xB0) h.index 0 d = y at hc ⊢
        exact hc
      · split
        · rfl
        · split <;> exact congrArg Fabric.resetting hu

theorem resetting_eccFindAll (l : List EccHit) : (eccFindAll l d).fab.resetting = d.fab.resetting :=
  List.foldlRecOn (motive := fun u : Dev => u.fab.resetting = d.fab.resetting) l _ rfl fun _ hu h _ => (resetting_eccFind h).trans hu

/-- A frame of a VRF that is off, and one that probes the rest of its list. -/
def passedAgain (c : Nat) (x : Copy) (f : LoopFrame) (w : Dev) : Dev :=
  if cfg w (0x9400 + f.vrf) 0 = 0 then routeDrop x.fromPort causeUnroutable w
  else
    match pass6 w f.vrf (routeDst x.octets) 6 f.cands with
    | .inr _ => puntFrame (readyAgain c x) 1 f.vrf w
    | .inl e => routeOn (readyAgain c x) f.vrf (afterLookup w f.vrf c x.pcp x.octets 3 e) w

section
variable (hruns : fabricRuns d = true) (hreset : d.fab.resetting = false) (hpick : pickQueue 15 (eccFindAll ecc d) = (some c, v))
  (hcopies : (queueOf v 15 c).copies = x :: rest)
include hruns hreset hpick hcopies

theorem secondPass_stray (hstray : isStray v c x = true) : secondPass ecc d = dropHead 15 c 0x0F v := by
  unfold secondPass
  rw [hruns, hreset]
  dsimp only [Bool.not_true, Bool.or_self]
  rw [if_neg (by decide), hpick]
  dsimp only
  rw [hcopies]
  exact if_pos hstray

theorem secondPass_passes (hfresh : isStray v c x = false) (hloop : (v.fab.loop.find? fun f => f.frame == x.frame) = some f) :
    secondPass ecc d = passedAgain c x f (reentered c x rest v) := by
  unfold secondPass
  rw [hruns, hreset]
  dsimp only [Bool.not_true, Bool.or_self]
  rw [if_neg (by decide), hpick]
  dsimp only
  rw [hcopies]
  dsimp only
  rw [if_neg (by simp [hfresh]), loop_mirrorAll, loop_countTx]
  rw [show (setQueue 15 c (fun q => { q with copies := rest }) v).fab.loop = v.fab.loop from rfl, hloop]
  rfl

end

/-! ### A punted frame -/

theorem portsOf_onePort {m : BitVec 16} {q : Nat} (hq : q < 16) (hm : m.getLsbD q = true) : portsOf (onePort q &&& m) = [q] := by
  have hbit (i : Nat) (hi : i ∈ List.range 16) : (onePort q &&& m).getLsbD i = decide (i = q) := by
    have hlt := List.mem_range.mp hi
    rw [BitVec.getLsbD_and, onePort, BitVec.getLsbD_ofNat, Nat.testBit_two_pow]
    by_cases h : i = q
    · subst h
      simp [hm, hlt]
    · have h' : q ≠ i := fun e => h e.symm
      simp [h, h']
  unfold portsOf
  rw [List.filter_congr hbit]
  have hall : ∀ q < 16, (List.range 16).filter (fun i => decide (i = q)) = [q] := by decide
  exact hall q hq

variable {r : Ready} {ports : BitVec 16} {q : Nat}

theorem maskDests_one (hq : q < 16) (hpresent : hasPort d q = true) (hother : r.inPort ≠ q) (hup : portUp d q = true)
    (hfree : (swPort d q).fenced = false) : maskDests r.inPort (onePort q) d = ([q], d) := by
  have hne : q ≠ r.inPort := fun h => hother h.symm
  unfold maskDests
  rw [portsOf_onePort hq hpresent]
  simp [hne, hup, hfree]

theorem finishDecision_routed (hmask : maskDests r.inPort ports d = ([q], d)) : finishDecision r ports true false d =
    pauseCheckAll (admitTo r d.fab.nextFrame q (onFab (fun f => { f with nextFrame := d.fab.nextFrame + 1 }) d)) := by
  unfold finishDecision
  rw [hmask]
  dsimp only
  rw [if_neg (by simp)]
  exact if_neg (by simp [cutsThrough])

theorem admission_of_fold {n p k : Nat} (h : (queueOf d p k).foldUse + n ≤ foldOf d p k) :
    admission d p k n (foldOf d p k) = some (n, 0) := by
  unfold admission
  dsimp only
  rw [show min n (foldOf d p k - (queueOf d p k).foldUse) = n by omega, Nat.sub_self]
  rfl

/-- A frame that goes to port M with a reason joins its class's queue there. -/
theorem puntFrame_queues {reason k : Nat} (hpresent : hasPort d 13 = true) (hother : r.inPort ≠ 13) (hup : portUp d 13 = true)
    (hfree : (swPort d 13).fenced = false) (hcls : r.cls ≠ 7)
    (hroom : (queueOf d 13 r.cls).foldUse + cellsOf (frameLen r.octets) ≤ foldOf d 13 r.cls) :
    ∃ y : Copy, (queueOf (puntFrame r reason k d) 13 r.cls).copies = (queueOf d 13 r.cls).copies ++ [y] ∧ y.octets = r.octets ∧
      ∃ p : Punt, y.punt = some p ∧ p.reason = reason ∧ p.vrf = k ∧ p.inPort = r.inPort := by
  unfold puntFrame
  extract_lets dst n pt
  have hmask : maskDests ({ r with punt := some pt, many := false } : Ready).inPort (onePort 13) d = ([13], d) :=
    maskDests_one (r := { r with punt := some pt, many := false }) (by decide) hpresent hother hup hfree
  rw [finishDecision_routed hmask]
  obtain ⟨u, hu⟩ : ∃ u, u = onFab (fun f => { f with nextFrame := d.fab.nextFrame + 1 }) d := ⟨_, rfl⟩
  have hqueue : queueOf u 13 r.cls = queueOf d 13 r.cls := by rw [hu]; rfl
  have hadmit : admission u 13 r.cls (cellsOf (frameLen r.octets)) (foldOf u 13 r.cls) = some (cellsOf (frameLen r.octets), 0) := by
    refine admission_of_fold ?_
    rw [hqueue, hu]
    exact hroom
  rw [← hu, admitTo_admitted (r := { r with punt := some pt, many := false }) hcls rfl hadmit, sameQueues_pauseCheckAll.queueOf,
    queueOf_enqueue, hqueue]
  exact ⟨_, rfl, rfl, pt, rfl, rfl, rfl, rfl⟩

end

/-! ### The statement -/

/-- What the second pass of a frame leaves alone. -/
theorem beside_of_passed {s : State} {u v w t : Dev} {c : Nat} {x : Copy} {rest : List Copy} (hu : Only findParts u (hush s.dev))
    (hpicked : Picked v u) (hw : w = reentered c x rest v) (ht : Only (.rt :: .odBook :: .irq :: endingParts) t w) (hloop : t.fab.loop = w.fab.loop) :
    ((settle t).fab.loop = u.fab.loop.filter fun y => y.frame != x.frame) ∧ SamePower (settle t) s.dev ∧ SameTime (settle t) s.dev ∧
      SameStores (settle t) s.dev ∧ SameAon (settle t) s.dev := by
  have hreenter : Only endingParts w v := by rw [hw]; exact only_reentered
  have hhush : Only (.st :: .rt :: .odBook :: .irq :: endingParts) (hush s.dev) s.dev := by simp
  have hall : Only (.st :: .rt :: .odBook :: .irq :: endingParts) (settle t) s.dev := by
    rw [only_settle (by decide)]
    exact (ht.mono (by decide)).trans ((hreenter.mono (by decide)).trans ((hpicked.only.mono (by decide)).trans
      ((hu.mono (by decide)).trans hhush)))
  refine ⟨?_, rest_of_only hall (by decide)⟩
  rw [settle_fab, hloop, hw, loop_reentered, loop_of_base hpicked.base]

/-! ### Route commands (R494) -/

section
variable {d : Dev} {q : RouteCmd} {way : Nat}

/-- A command that names its list of routes and its result, and leaves all but the route tables. -/
def Ended (q : RouteCmd) (result : Nat) (l : List Route) (d t : Dev) : Prop :=
  t.rt.running = none ∧ t.rt.routes = l ∧ sel t q.sess 0x9600 5 = result ∧ armed .route t = false ∧ t.fab = d.fab ∧ t.cls = d.cls ∧
    SamePower t d ∧ SameTime t d ∧ SameStores t d ∧ SameAon t d

theorem sel_setSel_self (s obj el v : Nat) : sel (setSel s obj el v d) s obj el = v := by
  have hdefault : odDefault (setSel s obj el v d) obj el = odDefault d obj el := rfl
  unfold sel
  rw [hdefault]
  show (tfind (if v = odDefault d obj el then _ else _) _).getD _ = v
  split
  next h => rw [tfind_terase_self, h]; rfl
  next => rw [tfind_tput_self]; rfl

theorem sel_settle (s obj el : Nat) : sel (settle d) s obj el = sel d s obj el := by
  obtain ⟨h, -⟩ := became_settle d
  rw [h]
  rfl

theorem ended_routeEnd {u : Dev} {result : Nat} {l : List Route} (hrunning : u.rt.running = some q) (hu : Only [.rt, .st] u (hush d)) :
    Ended q result l d (settle (routeEnd result l u)) ∧ (settle (routeEnd result l u)).rt = { u.rt with running := none, routes := l } := by
  have heq : routeEnd result l u = disarm .route (onRt (fun r => { r with running := none, routes := l }) (setSel q.sess 0x9600 5 result u)) := by
    unfold routeEnd
    rw [hrunning]
  have honly : Only [.od, .rt, .timer .route] (routeEnd result l u) u := by rw [heq]; simp
  have hhush : Only [.od, .rt, .st, .timer .route, .irq, .out] (hush d) d := by simp
  have hall : Only [.od, .rt, .st, .timer .route, .irq, .out] (settle (routeEnd result l u)) d := by
    rw [only_settle (by decide)]
    exact (honly.mono (by decide)).trans ((hu.mono (by decide)).trans hhush)
  have hrt : (settle (routeEnd result l u)).rt = { u.rt with running := none, routes := l } := by
    rw [settle_rt, heq]
    rfl
  refine ⟨⟨by rw [hrt], by rw [hrt], ?_, ?_, hall.fab rfl, hall.cls rfl, rest_of_only hall (by decide)⟩, hrt⟩
  · rw [sel_settle, heq]
    exact sel_setSel_self _ _ _ _
  · rw [armed_settle, heq]
    exact armed_disarm_self _ _

end

section
variable {d : Dev} {q : RouteCmd} {way : Nat}

/-- The list of routes without the route that a command names. -/
def without (q : RouteCmd) (d : Dev) : List Route := d.rt.routes.filter fun x => !sameRoute x q.route

/-- The entry that an IPv6 command adds. -/
def entry6 (q : RouteCmd) : V6Entry :=
  { prefix_ := q.route.addr, length := q.route.length, vrf := q.route.vrf, nextHop := BitVec.ofNat 12 q.route.nh }

/-- The table with the next hop of one way exchanged. -/
def rehopped (way : Nat) (q : RouteCmd) (d : Dev) : Dev := onRt (fun t => { t with ways6 :=
  (t.ways6.map fun x => if x.1 = way then (x.1, { x.2 with nextHop := BitVec.ofNat 12 q.route.nh }) else x) }) d

theorem only_drop6 {e : Dev} : Only [.rt, .st] (drop6 way e) e := by
  unfold drop6
  split
  · simp
  · simp [addCount6]

variable (hrunning : d.rt.running = some q)
include hrunning

theorem routeCommandDone_add4 (hadd : q.add = true) (h4 : q.route.v6 = false) : routeCommandDone d =
    if (buildTrie (without q d ++ [q.route])).fits then routeEnd rDone (without q d ++ [q.route]) (storeTrie (buildTrie (without q d ++ [q.route])) d)
    else routeEnd rFull d.rt.routes d := by
  unfold routeCommandDone
  rw [hrunning]
  dsimp only
  rw [hadd, if_pos rfl, h4]
  rfl

theorem routeCommandDone_change6 (hadd : q.add = true) (h6 : q.route.v6 = true)
    (hfind : find6 d q.route.vrf q.route.length q.route.addr.toNat = some way) :
    routeCommandDone d = routeEnd rDone (without q d ++ [q.route]) (rehopped way q d) := by
  unfold routeCommandDone
  rw [hrunning]
  dsimp only
  rw [hadd, if_pos rfl, h6, if_pos rfl, hfind]
  rfl

theorem routeCommandDone_add6 (hadd : q.add = true) (h6 : q.route.v6 = true)
    (hfind : find6 d q.route.vrf q.route.length q.route.addr.toNat = none) :
    routeCommandDone d = match (insert6 (entry6 q) d).1 with
      | some _ => routeEnd rDone (without q d ++ [q.route]) (insert6 (entry6 q) d).2
      | none => routeEnd rFull d.rt.routes (insert6 (entry6 q) d).2 := by
  unfold routeCommandDone
  rw [hrunning]
  dsimp only
  rw [hadd, if_pos rfl, h6, if_pos rfl, hfind]
  rfl

theorem routeCommandDone_absent (hdelete : q.add = false) (habsent : (d.rt.routes.any fun x => sameRoute x q.route) = false) :
    routeCommandDone d = routeEnd rNotFound d.rt.routes d := by
  unfold routeCommandDone
  rw [hrunning]
  dsimp only
  rw [hdelete, if_neg (by simp), habsent]
  rfl

/-- A route that is there leaves the tables and the list. -/
theorem routeCommandDone_removes (hdelete : q.add = false) (hfound : (d.rt.routes.any fun x => sameRoute x q.route) = true) :
    ∃ u, Only [.rt, .st] u d ∧ u.rt.running = some q ∧ routeCommandDone d = routeEnd rDone (without q d) u := by
  have heq : routeCommandDone d = if q.route.v6 then
      match find6 d q.route.vrf q.route.length q.route.addr.toNat with
      | some way => routeEnd rDone (without q d) (drop6 way d)
      | none => routeEnd rDone (without q d) d
      else routeEnd rDone (without q d) (storeTrie (buildTrie (without q d)) d) := by
    unfold routeCommandDone
    rw [hrunning]
    dsimp only
    rw [hdelete, if_neg (by simp), hfound]
    rfl
  rw [heq]
  split
  · split
    next way _ =>
      refine ⟨drop6 way d, only_drop6, ?_, rfl⟩
      unfold drop6
      split <;> exact hrunning
    next => exact ⟨d, .refl _ _, hrunning, rfl⟩
  · refine ⟨storeTrie (buildTrie (without q d)) d, ?_, hrunning, rfl⟩
    simp [storeTrie]

end

section
variable {d : Dev} {e : V6Entry} {way : Nat}

theorem insert6_way : (insert6 e d).1 =
    (placeKey (cuckoo6 d) d.rt.victim (buckets6 e.vrf e.length e.prefix_.toNat).1 (buckets6 e.vrf e.length e.prefix_.toNat).2).map (·.2) := by
  unfold insert6
  dsimp only
  split
  next h => rw [h]; rfl
  next h => rw [h]; rfl

theorem insert6_none (h : (insert6 e d).1 = none) : (insert6 e d).2 = onRt (fun r => { r with victim := (r.victim + 1) % 4 }) d := by
  unfold insert6 at h ⊢
  dsimp only at h ⊢
  split
  · rfl
  next hplace =>
    rw [hplace] at h
    cases h

/-- The entries that an IPv6 insertion moves. -/
def relocated6 (moves : List (Nat × Nat)) (d : Dev) : Dev :=
  moves.foldl (fun d m =>
    match tfind d.rt.ways6 m.1 with
    | some x => onRt (fun r => { r with ways6 := tput (terase r.ways6 m.1) m.2 x }) d
    | none => d) (onRt (fun r => { r with victim := (r.victim + 1) % 4 }) d)

theorem insert6_some (h : (insert6 e d).1 = some way) : ∃ moves, (insert6 e d).2 = put6 way e (relocated6 moves d) := by
  unfold insert6 at h ⊢
  dsimp only at h ⊢
  split
  next hplace =>
    rw [hplace] at h
    cases h
  next moves _ hplace =>
    rw [hplace] at h
    cases h
    exact ⟨moves, rfl⟩

theorem relocated6_keeps (moves : List (Nat × Nat)) :
    Only [.rt] (relocated6 moves d) d ∧ (relocated6 moves d).rt.running = d.rt.running := by
  unfold relocated6
  refine List.foldlRecOn (motive := fun u : Dev => Only [.rt] u d ∧ u.rt.running = d.rt.running) _ _ ⟨by simp, rfl⟩ ?_
  rintro u ⟨hu, hrunning⟩ m -
  split
  · exact ⟨(only_onRt _ (by decide)).mpr hu, hrunning⟩
  · exact ⟨hu, hrunning⟩

theorem put6_puts : Only [.rt, .st] (put6 way e d) d ∧ (put6 way e d).rt.running = d.rt.running ∧ tfind (put6 way e d).rt.ways6 way = some e := by
  refine ⟨?_, rfl, ?_⟩
  · simp [put6, bloomSet, addCount6]
  · exact tfind_tput_self _ _ _

end

/-- Settles O55. -/
theorem routesAtWork : Obligations.RoutesAtWork := by
  refine ⟨?_, fun s c v x rest ecc => ?_, fun s ecc hstop => ?_, fun s q hrunning => ?_, fun s hidle => ?_,
    fun s table i htable => ⟨fun hod => ?_, fun hhost => ?_⟩, fun s x rest hq => ?_⟩
  · intro s c v x rest f ecc u hruns hreset hpick hcopies hfresh hloop beside
    have hu : Only findParts u (hush s.dev) := by simp [u]
    have hpicked : Picked v u := by
      have h := picked_pickQueue (d := u) (p := 15)
      rw [hpick] at h
      exact h
    have hlt : c < 8 := pickQueue_lt (p := 15) (d := u) (by rw [hpick])
    have hpasses := secondPass_passes (d := hush s.dev) hruns (by rw [← resetting_eccFindAll ecc]; exact hreset) hpick hcopies hfresh
      (by rw [loop_of_base hpicked.base]; exact hloop)
    have hother (k : Nat) (hk : k < 8) : queueOf v 13 k = queueOf u 13 k := by
      have h := queueOf_pickQueue (d := u) (p := 15) (q := 13) (k := k) (by omega)
      rw [hpick] at h
      exact h
    clear_value u
    obtain ⟨w, hw⟩ : ∃ w, w = reentered c x rest v := ⟨_, rfl⟩
    have hreenter : Only endingParts w u := by
      rw [hw]
      exact only_reentered.trans (hpicked.only.mono (by decide))
    have hcfg := hreenter.cfg rfl (0x9400 + f.vrf) 0
    have hpass := pass6_congr (hreenter.rt rfl) (hreenter.st rfl) f.vrf (routeDst x.octets) 6 f.cands
    have hafter (e : TrieEnd) := afterLookup_congr hreenter (by decide) f.vrf c x.pcp x.octets 3 e
    rw [← hw] at hpasses
    have hbeside {t : Dev} (ht : Only (.rt :: .odBook :: .irq :: endingParts) t w) (hl : t.fab.loop = w.fab.loop) : beside (settle t) :=
      beside_of_passed hu hpicked hw ht hl
    have hst {t : Dev} (ht : Only (.rt :: .odBook :: .irq :: endingParts) t w) : (settle t).st = u.st := by
      rw [settle_st, ht.st rfl, hreenter.st rfl]
    have hdrop (cause : Nat) : tget 0 (settle (routeDrop x.fromPort cause w)).rt.causes = tget 0 (tset 0 u.rt.causes cause
        (satInc (tget 0 u.rt.causes cause))) := by
      rw [settle_rt, ← hreenter.rt rfl]
      rfl
    refine ⟨fun hoff => ?_, fun hon => ⟨fun e cause hpass6 hlookup => ?_, fun e o vid ports hpass6 hlookup => ?_,
      fun l hpass6 hfrom hres hmirror hpresent hup hfree hcls hroom => ?_⟩⟩
    · rw [passedAgain, if_pos (hcfg.trans hoff)] at hpasses
      refine answers_of_effect (f := secondPass ecc) rfl hpasses ?_
      have honly : Only (.rt :: .odBook :: .irq :: endingParts) (routeDrop x.fromPort causeUnroutable w) w := by simp
      refine ⟨?_, ?_, hst honly, hbeside honly rfl⟩
      · rw [settle_rt, ← hreenter.rt rfl]; rfl
      · rw [swPort_settle]; exact lastDrop_dropAt _
    · rw [passedAgain, if_neg (by rw [hcfg]; exact hon), hpass, hpass6] at hpasses
      dsimp only at hpasses
      rw [hafter, hlookup] at hpasses
      refine answers_of_effect (f := secondPass ecc) rfl hpasses ?_
      have honly : Only (.rt :: .odBook :: .irq :: endingParts) (routeDrop x.fromPort cause w) w := by simp
      refine ⟨?_, ?_, hst honly, hbeside honly rfl⟩
      · show tget 0 (settle (routeDrop x.fromPort cause w)).rt.causes cause = _
        rw [hdrop, tget_tset_self]
      · rw [swPort_settle]; exact lastDrop_dropAt _
    · rw [passedAgain, if_neg (by rw [hcfg]; exact hon), hpass, hpass6] at hpasses
      dsimp only at hpasses
      rw [hafter, hlookup] at hpasses
      refine answers_of_effect (f := secondPass ecc) rfl hpasses ?_
      obtain ⟨y, hy⟩ : ∃ y, y = onRt (fun t => { t with routed := tset 0 t.routed f.vrf (satInc (tget 0 t.routed f.vrf)) }) w := ⟨_, rfl⟩
      have hyw : Only [.rt] y w := by rw [hy]; simp
      have hrt : y.rt = { u.rt with routed := tset 0 u.rt.routed f.vrf (satInc (tget 0 u.rt.routed f.vrf)) } := by
        rw [hy, ← hreenter.rt rfl]; rfl
      show _ ∧ _
      unfold routeOn
      dsimp only
      rw [← hy]
      obtain ⟨t, ht⟩ : ∃ t, t = finishDecision { readyAgain c x with octets := o, vid := vid, many := false } ports true false y := ⟨_, rfl⟩
      have hty : Only endingParts t y := by rw [ht]; simp
      have honly : Only (.rt :: .odBook :: .irq :: endingParts) t w := (hty.mono (by decide)).trans (hyw.mono (by decide))
      have hl : t.fab.loop = w.fab.loop := by
        rw [ht, loop_finishDecision_routed]
        exact congrArg Fabric.loop (hyw.fab rfl)
      rw [← ht]
      refine ⟨?_, ?_, hst honly, hbeside honly hl⟩
      · rw [settle_rt, hty.rt rfl, hrt]
        exact tget_tset_self _ _ _ _
      · rw [settle_rt, hty.rt rfl, hrt]
    · rw [passedAgain, if_neg (by rw [hcfg]; exact hon), hpass, hpass6] at hpasses
      dsimp only at hpasses
      refine answers_of_effect (f := secondPass ecc) rfl hpasses ?_
      have hmirror' : mirrorsOf v 2 15 = [] := (mirrorsOf_congr fun obj e => hpicked.only.cfg rfl obj e).trans hmirror
      have hqueue := (queueOf_reentered (c := c) (x := x) (rest := rest) hmirror' (hpicked.residues.trans hres) (q := 13) (k := c)
        (by omega)).1
      rw [← hw, hother c hlt] at hqueue
      obtain ⟨y, hcopy, hoctets, hpunt⟩ := puntFrame_queues (d := w) (r := readyAgain c x) (reason := 1) (k := f.vrf)
        (by unfold hasPort present; rw [hreenter.otp rfl]; exact hpresent) hfrom
        (by
          unfold portUp hasPort present linkIsUp cfgOn
          rw [hreenter.otp rfl, hreenter.cfg rfl]
          exact hup)
        ((hreenter.fenced 13 rfl).trans hfree) hcls
        (by
          unfold foldOf
          rw [show (readyAgain c x).cls = c from rfl, hqueue, hreenter.cfg rfl]
          exact hroom)
      have hpuntOnly : Only endingParts (puntFrame (readyAgain c x) 1 f.vrf w) w := by simp
      have hl : (puntFrame (readyAgain c x) 1 f.vrf w).fab.loop = w.fab.loop := loop_finishDecision_routed _ _ _
      generalize puntFrame (readyAgain c x) 1 f.vrf w = t at hcopy hpuntOnly hl
      have honly : Only (.rt :: .odBook :: .irq :: endingParts) t w := hpuntOnly.mono (by decide)
      refine ⟨?_, hst honly, hbeside honly hl, y, ?_, hoctets, hpunt⟩
      · rw [settle_rt, hpuntOnly.rt rfl, hreenter.rt rfl]
      · rw [queueOf_settle, ← hqueue]
        exact hcopy
  · intro u hruns hreset hpick hcopies hstray
    have hu : Only findParts u (hush s.dev) := by simp [u]
    have hpicked : Picked v u := by
      have h := picked_pickQueue (d := u) (p := 15)
      rw [hpick] at h
      exact h
    have hstrays := secondPass_stray (d := hush s.dev) hruns (by rw [← resetting_eccFindAll ecc]; exact hreset) hpick hcopies hstray
    clear_value u
    refine answers_of_effect (f := secondPass ecc) rfl hstrays ?_
    have honly : Only releaseParts (dropHead 15 c 0x0F v) v := by simp
    have hhush : Only (.st :: .odBook :: .irq :: releaseParts) (hush s.dev) s.dev := by simp
    have hall : Only (.st :: .odBook :: .irq :: releaseParts) (settle (dropHead 15 c 0x0F v)) s.dev := by
      rw [only_settle (by decide)]
      exact (honly.mono (by decide)).trans ((hpicked.only.mono (by decide)).trans ((hu.mono (by decide)).trans hhush))
    have hrelease := calm_release (d := beheaded 15 c 0x0F x rest v) (p := 15) (c := c) (x := x)
    refine ⟨?_, ?_, ?_, ?_, rest_of_only hall (by decide)⟩
    · rw [swPort_settle, dropHead_cons hcopies, hrelease.lastDrop, swPort_beheaded, if_pos rfl]
    · rw [settle_fab, dropHead_cons hcopies, loop_of_base hrelease.base, beheaded, loop_dropCopy, ← loop_of_base hpicked.base]
      rfl
    · rw [settle_rt, honly.rt rfl, hpicked.only.rt rfl]
    · rw [settle_st, honly.st rfl, hpicked.only.st rfl]
  · refine answers_became (f := secondPass ecc) rfl ?_
    unfold secondPass
    rw [show fabricRuns (hush s.dev) = false from hstop]
    rfl
  · intro same rest e6 ends
    have hends (result : Nat) (l : List Route) (t : Dev) : Ended q result l s.dev t → ends result l t := id
    have hrun : (hush s.dev).rt.running = some q := hrunning
    refine ⟨fun hadd h4 => ?_, fun way hadd h6 hfind => ?_, fun hadd h6 hfull hfind => ?_, fun way hadd h6 hplaced hfind => ?_,
      fun hdelete habsent => ?_, fun hdelete hfound => ?_⟩
    · have heffect := routeCommandDone_add4 hrun hadd h4
      rw [show without q (hush s.dev) = rest from rfl] at heffect
      by_cases hfits : (buildTrie (rest ++ [q.route])).fits = true
      · rw [if_pos hfits] at heffect
        refine answers_of_effect (f := routeCommandDone) rfl heffect ?_
        rw [if_pos hfits]
        exact hends _ _ _ (ended_routeEnd (u := storeTrie (buildTrie (rest ++ [q.route])) (hush s.dev)) hrun (by simp [storeTrie])).1
      · rw [if_neg hfits] at heffect
        refine answers_of_effect (f := routeCommandDone) rfl heffect ?_
        rw [if_neg hfits]
        obtain ⟨hended, hrt⟩ := ended_routeEnd (d := s.dev) (result := rFull) (l := s.dev.rt.routes) hrun (.refl _ _)
        exact ⟨hends _ _ _ hended, (congrArg RouteTab.first hrt).trans rfl, (congrArg RouteTab.pool0 hrt).trans rfl,
          (congrArg RouteTab.pool1 hrt).trans rfl⟩
    · refine answers_of_effect (f := routeCommandDone) rfl (routeCommandDone_change6 hrun hadd h6 hfind) ?_
      obtain ⟨hended, hrt⟩ := ended_routeEnd (d := s.dev) (u := rehopped way q (hush s.dev)) (result := rDone)
        (l := without q (hush s.dev) ++ [q.route]) hrun (by simp [rehopped])
      exact ⟨hends _ _ _ hended, (congrArg RouteTab.bloom hrt).trans rfl, (congrArg RouteTab.count6 hrt).trans rfl⟩
    · have heffect := routeCommandDone_add6 hrun hadd h6 hfind
      have hfull' : (insert6 (entry6 q) (hush s.dev)).1 = none := by
        rw [insert6_way] at hfull ⊢
        exact hfull
      rw [hfull', insert6_none hfull'] at heffect
      refine answers_of_effect (f := routeCommandDone) rfl heffect ?_
      obtain ⟨hended, hrt⟩ := ended_routeEnd (d := s.dev) (u := onRt (fun r => { r with victim := (r.victim + 1) % 4 }) (hush s.dev))
        (result := rFull) (l := s.dev.rt.routes) hrun (by simp)
      exact ⟨hends _ _ _ hended, (congrArg RouteTab.ways6 hrt).trans rfl⟩
    · have heffect := routeCommandDone_add6 hrun hadd h6 hfind
      have hplaced' : (insert6 (entry6 q) (hush s.dev)).1 = some way := by
        rw [insert6_way] at hplaced ⊢
        exact hplaced
      obtain ⟨moves, hmoves⟩ := insert6_some hplaced'
      rw [hplaced', hmoves] at heffect
      refine answers_of_effect (f := routeCommandDone) rfl heffect ?_
      obtain ⟨hmoved, hstill⟩ := relocated6_keeps (d := hush s.dev) moves
      obtain ⟨hput, hstill', hway⟩ := put6_puts (d := relocated6 moves (hush s.dev)) (e := entry6 q) (way := way)
      generalize put6 way (entry6 q) (relocated6 moves (hush s.dev)) = u at hput hstill' hway
      obtain ⟨hended, hrt⟩ := ended_routeEnd (d := s.dev) (u := u) (result := rDone) (l := without q (hush s.dev) ++ [q.route])
        (hstill'.trans (hstill.trans hrun)) (hput.trans (hmoved.mono (by decide)))
      refine ⟨hends _ _ _ hended, ?_⟩
      rw [hrt]
      exact hway
    · refine answers_of_effect (f := routeCommandDone) rfl (routeCommandDone_absent hrun hdelete habsent) ?_
      obtain ⟨hended, hrt⟩ := ended_routeEnd (d := s.dev) (result := rNotFound) (l := s.dev.rt.routes) hrun (.refl _ _)
      exact ⟨hends _ _ _ hended, (congrArg RouteTab.first hrt).trans rfl, (congrArg RouteTab.ways6 hrt).trans rfl⟩
    · obtain ⟨u, hu, hrun', heffect⟩ := routeCommandDone_removes hrun hdelete hfound
      refine answers_of_effect (f := routeCommandDone) rfl heffect ?_
      exact hends _ _ _ (ended_routeEnd hrun' hu).1
  · refine answers_became (f := routeCommandDone) rfl ?_
    unfold routeCommandDone
    rw [show (hush s.dev).rt.running = none from hidle]
  · have hrepair : routeRepair table.toNat i (hush s.dev) = unpoison table.toNat i (hush s.dev) := by
      refine if_pos ?_
      rw [show cfg (hush s.dev) 0x9500 0 = 0 from hod]
      simpa [or_assoc] using htable
    refine answers_of_effect (f := routeRepair table.toNat i) rfl hrepair ?_
    have hall := only_settle_of_st (d := s.dev) (u := unpoison table.toNat i (hush s.dev)) (by simp)
    have hpoison : (settle (unpoison table.toNat i (hush s.dev))).st.poison = s.dev.st.poison.filter fun x => x ≠ (table.toNat, i) := by
      rw [settle_st]
      rfl
    refine ⟨?_, fun x hx hne => ?_, hall.rt rfl, ?_, hall.fab rfl, rest_of_only hall (by decide)⟩
    · rw [poisoned, hpoison]
      simp
    · rw [hpoison, List.mem_filter]
      exact ⟨hx, decide_eq_true hne⟩
    · rw [settle_st]
      rfl
  · refine answers_became (f := routeRepair table.toNat i) rfl (if_neg ?_)
    rw [show decide (cfg (hush s.dev) 0x9500 0 = 0) = false from decide_eq_false hhost]
    simp
  · obtain ⟨u, hu⟩ : ∃ u, u = puntReceived (hush s.dev) := ⟨_, rfl⟩
    have hpunt : u = onFab (fun f => { f with puntQ := rest }) (onRt (fun r => { r with
        lastPunt := leBytes 1 x.reason ++ leBytes 1 x.vrf ++ leBytes 1 x.family ++ leBytes 1 x.inPort ++ (x.dst ++ List.replicate 16 0).take 16
        depth := if x.reason = 1 then satInc r.depth else r.depth }) (hush s.dev)) := by
      rw [hu]
      unfold puntReceived
      rw [show (hush s.dev).fab.puntQ = x :: rest from hq]
    refine answers_of_effect (f := puntReceived) rfl hu.symm ?_
    have honly : Only [.fab, .rt] u (hush s.dev) := by
      rw [hpunt, only_onFab rfl (by decide)]
      simp
    have hhush : Only [.fab, .rt, .odBook, .irq, .out] (hush s.dev) s.dev := by simp
    have hall : Only [.fab, .rt, .odBook, .irq, .out] (settle u) s.dev := by
      rw [only_settle (by decide)]
      exact (honly.mono (by decide)).trans hhush
    refine ⟨?_, ?_, ?_, ?_, hall.st rfl, hall.cls rfl, rest_of_only hall (by decide)⟩
    · rw [settle_fab, hpunt]
      rfl
    · rw [settle_rt, hpunt]
      rfl
    · rw [settle_rt, hpunt]
      show (leBytes 1 x.reason ++ leBytes 1 x.vrf ++ leBytes 1 x.family ++ leBytes 1 x.inPort ++
        (x.dst ++ List.replicate 16 0).take 16).length = 20
      simp [leBytes]
    · rw [settle_rt, hpunt]
      rfl

end Sys2Proof.Proofs.RoutesAtWork


/-! SUPPORT. Fan channels (chapter 15): what the duty, the watch on the speed and the commissioning routine do to a channel. -/

namespace Sys2Proof.Proofs.FanChannels

open Sys2Proof Sys2Proof.Machine Sys2Proof.Safety
open Sys2Proof.Proofs.StepAndTimers
open Sys2Proof.Proofs.ShapersAndTally
open Sys2Proof.Proofs.Frames
open Sys2Proof.Proofs.Running

section
variable {S : List Part} {d e t : Dev} {f g : Nat} {h : Fan → Fan}

/-! ### Reading a channel -/

theorem fanOf_setFan (f : Nat) (h : Fan → Fan) (d : Dev) (g : Nat) : fanOf (setFan f h d) g = if g = f then h (fanOf d f) else fanOf d g := by
  split
  next hg => subst hg; exact tget_tset_self _ _ _ _
  next hg => exact tget_tset_other _ _ _ hg

@[simp] theorem fanOf_setFan_self : fanOf (setFan f h d) f = h (fanOf d f) := tget_tset_self _ _ _ _

theorem fanOf_setFan_other (hg : g ≠ f) : fanOf (setFan f h d) g = fanOf d g := tget_tset_other _ _ _ hg

theorem fanOf_congr (h : t.heat = d.heat) (f : Nat) : fanOf t f = fanOf d f := by
  unfold fanOf
  rw [h]

@[simp] theorem fanOf_settle (d : Dev) (f : Nat) : fanOf (settle d) f = fanOf d f := by
  have h : Only [.odBook, .irq] (settle d) d := by simp
  exact fanOf_congr (h.heat rfl) f

/-! ### What may be reached -/

@[simp] theorem only_fanUpdate (f : Nat) (hS : Within [.heat] S = true) : Only S (fanUpdate f d) e ↔ Only S d e :=
  Only.iff (T := [.heat]) (by simp [fanUpdate]) hS

@[simp] theorem only_fansFollow (hS : Within [.heat] S = true) : Only S (fansFollow d) e ↔ Only S d e :=
  Only.iff (T := [.heat]) (by simp [fansFollow]) hS

/-- The timers by which the speed of a channel is watched. -/
@[simp] def watchParts (f : Nat) : List Part := [.timer (.stall f), .timer (.unstall f)]

@[simp] theorem only_fanWatch (f : Nat) (hS : Within (watchParts f) S = true) : Only S (fanWatch f d) e ↔ Only S d e := by
  refine Only.iff (T := watchParts f) ?_ hS
  simp [fanWatch]

@[simp] theorem only_setRpm (f rpm : Nat) (hS : Within (.heat :: watchParts f) S = true) : Only S (setRpm f rpm d) e ↔ Only S d e :=
  Only.iff (T := .heat :: watchParts f) (by simp [setRpm]) hS

@[simp] theorem only_commPhase (f i : Nat) (hS : Within [.heat, .timer (.comm f)] S = true) : Only S (commPhase f i d) e ↔ Only S d e :=
  Only.iff (T := [.heat, .timer (.comm f)]) (by simp [commPhase]) hS

@[simp] theorem only_commEnd (f state : Nat) (hS : Within [.heat, .timer (.comm f)] S = true) : Only S (commEnd f state d) e ↔ Only S d e :=
  Only.iff (T := [.heat, .timer (.comm f)]) (by simp [commEnd]) hS

@[simp] theorem only_commAbort (f state : Nat) (hS : Within [.heat, .timer (.comm f)] S = true) :
    Only S (commAbort f state d) e ↔ Only S d e :=
  Only.iff (T := [.heat, .timer (.comm f)]) (by simp [commAbort]) hS

/-- A channel is watched by its timers alone. -/
@[simp] theorem fanOf_fanWatch (f g : Nat) (d : Dev) : fanOf (fanWatch f d) g = fanOf d g := by
  have h : Only (watchParts f) (fanWatch f d) d := by simp
  exact fanOf_congr (h.heat rfl) g

@[simp] theorem fanOf_arm (u : Timer) (ns : Nat) (d : Dev) (g : Nat) : fanOf (arm u ns d) g = fanOf d g := rfl
@[simp] theorem fanOf_disarm (u : Timer) (d : Dev) (g : Nat) : fanOf (disarm u d) g = fanOf d g := rfl

/-! ### The duty -/

/-- A channel beside the duty it is to have. -/
def undriven (x : Fan) : Fan := { x with wanted := 0, newDuty := false }

theorem undriven_fanUpdate (f : Nat) (d : Dev) (g : Nat) : undriven (fanOf (fanUpdate f d) g) = undriven (fanOf d g) := by
  unfold fanUpdate
  dsimp only
  split
  · rfl
  · rw [fanOf_setFan]
    split
    next hg => rw [hg]; rfl
    next => rfl

theorem fanOf_fanUpdate_other (d : Dev) (hg : g ≠ f) : fanOf (fanUpdate f d) g = fanOf d g := by
  unfold fanUpdate
  dsimp only
  split
  · rfl
  · exact fanOf_setFan_other hg

theorem wanted_fanUpdate (hhas : hasFan d f = true) : (fanOf (fanUpdate f d) f).wanted = fanDemand d f := by
  unfold fanUpdate
  dsimp only
  rw [hhas]
  split
  next h => simpa using h
  next => rw [fanOf_setFan_self]

theorem undriven_fansFollow (d : Dev) (g : Nat) : undriven (fanOf (fansFollow d) g) = undriven (fanOf d g) :=
  (undriven_fanUpdate 1 _ g).trans (undriven_fanUpdate 0 d g)

theorem rpm_of_undriven {x y : Fan} (h : undriven x = undriven y) : x.rpm = y.rpm := by have := congrArg Fan.rpm h; exact this
theorem stall_of_undriven {x y : Fan} (h : undriven x = undriven y) : x.stall = y.stall := by have := congrArg Fan.stall h; exact this
theorem commState_of_undriven {x y : Fan} (h : undriven x = undriven y) : x.commState = y.commState := by
  have := congrArg Fan.commState h
  exact this

theorem hasFan_congr (hotp : t.otp = d.otp) (f : Nat) : hasFan t f = hasFan d f := by
  unfold hasFan hasUnit
  rw [hotp]

theorem hasFan_of_only (h : Only S t d) (hS : Clear S .otp = true) (f : Nat) : hasFan t f = hasFan d f :=
  hasFan_congr (h.otp hS) f

/-- What asks for full drive: a fault of the model, another channel's stall, or a silent host. -/
def FullDrive (d : Dev) (f : Nat) : Prop :=
  (∃ g < 2, g ≠ f ∧ hasFan d g = true ∧ (fanOf d g).stall = true) ∨ (d.heat.silent = true ∧ cfg d (fanObj f) 10 = 0)

theorem fanDemand_of_full (h : FullDrive d f) : fanDemand d f = 1024 := by
  unfold fanDemand
  dsimp only
  rw [if_pos]
  rcases h with ⟨g, hg, hne, hhas, hstall⟩ | ⟨hsilent, hmode⟩
  · have hany : ((List.range 2).any fun g => g != f && hasFan d g && (fanOf d g).stall) = true :=
      List.any_eq_true.mpr ⟨g, List.mem_range.mpr hg, by simp [hne, hhas, hstall]⟩
    rw [hany]
    simp
  · simp [hsilent, hmode]

theorem fullDrive_fanUpdate (k : Nat) (h : FullDrive d f) : FullDrive (fanUpdate k d) f := by
  have honly : Only [.heat] (fanUpdate k d) d := by simp
  rcases h with ⟨g, hg, hne, hhas, hstall⟩ | ⟨hsilent, hmode⟩
  · refine .inl ⟨g, hg, hne, ?_, ?_⟩
    · rw [hasFan_of_only honly rfl]; exact hhas
    · rw [stall_of_undriven (undriven_fanUpdate k d g)]; exact hstall
  · refine .inr ⟨?_, ?_⟩
    · unfold fanUpdate
      dsimp only
      split <;> exact hsilent
    · rw [honly.cfg rfl]; exact hmode

/-- Where full drive is asked for, both channels that the variant has get it. -/
theorem wanted_fansFollow (hf : f < 2) (hhas : hasFan d f = true) (hfull : FullDrive d f) : (fanOf (fansFollow d) f).wanted = 1024 := by
  unfold fansFollow
  have honly : Only [.heat] (fanUpdate 0 d) d := by simp
  obtain rfl | rfl : f = 0 ∨ f = 1 := by omega
  · rw [fanOf_fanUpdate_other _ (by decide), wanted_fanUpdate hhas, fanDemand_of_full hfull]
  · rw [wanted_fanUpdate (by rw [hasFan_of_only honly rfl]; exact hhas), fanDemand_of_full (fullDrive_fanUpdate 0 hfull)]

/-! ### Commissioning -/

theorem undriven_commPhase (i : Nat) (d : Dev) : undriven (fanOf (commPhase f i d) f) =
    undriven { fanOf d f with commStep := i, commSum := 0, commN := d.now } := by
  unfold commPhase
  rw [fanOf_arm, undriven_fanUpdate, fanOf_setFan_self]

theorem runsFor_commPhase (i : Nat) (d : Dev) : runsFor (.comm f) (commSpan i) (commPhase f i d) := runsFor_arm_self

theorem undriven_commEnd (state : Nat) (d : Dev) (g : Nat) : undriven (fanOf (commEnd f state d) g) =
    undriven (if g = f then { fanOf d f with commState := state, commFound := [] } else fanOf d g) := by
  unfold commEnd
  rw [undriven_fanUpdate, fanOf_disarm, fanOf_setFan]

theorem armed_commEnd (state : Nat) (d : Dev) : armed (.comm f) (commEnd f state d) = false := by
  unfold commEnd
  rw [(show Only [.heat] (fanUpdate f (disarm (.comm f) (setFan f (fun x => { x with commState := state, commFound := [] }) d)))
    (disarm (.comm f) (setFan f (fun x => { x with commState := state, commFound := [] }) d)) by simp).armed _ rfl]
  exact armed_disarm_self _ _

theorem rpm_commAbort (state : Nat) (d : Dev) (g : Nat) : (fanOf (commAbort f state d) g).rpm = (fanOf d g).rpm ∧
    (fanOf (commAbort f state d) g).stall = (fanOf d g).stall := by
  unfold commAbort
  split
  · have h := undriven_commEnd (f := f) state d g
    refine ⟨(rpm_of_undriven h).trans ?_, (stall_of_undriven h).trans ?_⟩
    · split
      next hg => rw [hg]
      next => rfl
    · split
      next hg => rw [hg]
      next => rfl
  · exact ⟨rfl, rfl⟩

theorem commState_commAbort (state : Nat) (h : (fanOf d f).commState = 1) : (fanOf (commAbort f state d) f).commState = state := by
  unfold commAbort
  rw [if_pos h, commState_of_undriven (undriven_commEnd state d f), if_pos rfl]

end

end Sys2Proof.Proofs.FanChannels


/-! SUPPORT. The critical comparator (chapter 15, R557): what it takes from a port, and what its release gives back. -/

namespace Sys2Proof.Proofs.CriticalComparator

open Sys2Proof Sys2Proof.Machine Sys2Proof.Safety
open Sys2Proof.Proofs.StepAndTimers
open Sys2Proof.Proofs.ShapersAndTally
open Sys2Proof.Proofs.Frames
open Sys2Proof.Proofs.Running
open Sys2Proof.Proofs.Shepherd
open Sys2Proof.Proofs.FanChannels

/-- Of steps one after another, where all but one leave what `R` compares, that one is seen as if it were alone. -/
theorem foldl_at {R : Dev → Dev → Prop} (hrefl : ∀ d, R d d) (htrans : ∀ {t u d}, R t u → R u d → R t d) {f : Dev → Nat → Dev} {n : Nat}
    {l : List Nat} (hnodup : l.Nodup) (hn : n ∈ l) (hf : ∀ u m, m ∈ l → m ≠ n → R (f u m) u) (d : Dev) :
    ∃ u, R u d ∧ R (l.foldl f d) (f u n) := by
  obtain ⟨a, b, rfl⟩ := List.append_of_mem hn
  have hside (l' : List Nat) (hl' : ∀ m ∈ l', m ∈ a ++ n :: b ∧ m ≠ n) (v : Dev) : R (l'.foldl f v) v :=
    List.foldlRecOn (motive := fun u => R u v) l' f (hrefl v) fun u hu m hm => htrans (hf u m (hl' m hm).1 (hl' m hm).2) hu
  rw [List.nodup_append] at hnodup
  obtain ⟨-, hb, hab⟩ := hnodup
  refine ⟨a.foldl f d, hside a (fun m hm => ⟨List.mem_append_left _ hm, hab m hm n (by simp)⟩) d, ?_⟩
  rw [List.foldl_append, List.foldl_cons]
  exact hside b (fun m hm => ⟨List.mem_append_right _ (List.mem_cons_of_mem _ hm), fun h => (List.nodup_cons.mp hb).1 (h ▸ hm)⟩) _

section
variable {S : List Part} {d e : Dev} {n m : Nat}

@[simp] theorem only_cutGates (cause : ShedCause) (n : Nat) (hS : Within (portParts n) S = true) :
    Only S (cutGates cause n d) e ↔ Only S d e :=
  Only.iff (T := portParts n) (by simp [cutGates]) hS

/-- What the comparator does to a port. -/
def critCut (d : Dev) (n : Nat) : Dev :=
  if critTakes (cable d n) then
    vconnOff n (setCable n (fun c' => { c' with claim := portOut (cable d n) }) (cutGates .critical n d))
  else vconnOff n d

theorem only_critCut (d : Dev) (n : Nat) : Only (portParts n) (critCut d n) d := by simp [critCut]

theorem cable_critCut_other (d : Dev) (h : m ≠ n) : cable (critCut d m) n = cable d n :=
  (only_critCut d m).cable n (by simp [Part.seenIn, h])

@[simp] theorem gateOn_gatesDown (n : Nat) (path : PathState) (d : Dev) : (cable (gatesDown n path d) n).gateOn = false := by
  unfold gatesDown guardNow
  dsimp only
  split <;> simp

@[simp] theorem gateOn_gatesOff (n : Nat) (path : PathState) (d : Dev) : (cable (gatesOff n path d) n).gateOn = false := by
  unfold gatesOff startDischarge
  dsimp only
  split <;> simp

/-- A port that is taken loses its gates and its VCONN and keeps its claim; any other loses its VCONN. -/
theorem cable_critCut_self (d : Dev) (n : Nat) : (cable (critCut d n) n).vconn ≠ 1 ∧
    (critTakes (cable d n) = true → (cable (critCut d n) n).gateOn = false ∧ (cable (critCut d n) n).shedCause = .critical ∧
      (cable (critCut d n) n).claim = portOut (cable d n)) ∧
    (critTakes (cable d n) = false → (cable (critCut d n) n).gateOn = (cable d n).gateOn) := by
  have hvconn (u : Dev) : (cable (vconnOff n u) n).vconn ≠ 1 := by
    simp only [vconnOff, cable_setCable_self]
    split
    · decide
    next h => exact h
  unfold critCut
  split
  next h => exact ⟨hvconn _, fun _ => by simp [vconnOff, cutGates], fun h' => by rw [h] at h'; cases h'⟩
  next h => exact ⟨hvconn _, fun h' => absurd h' h, fun _ => by simp [vconnOff]⟩

/-- The ports of a device that the comparator has gone over, each as if it were alone. -/
theorem critCut_all {n : Nat} (hn : n < 8) (d : Dev) : ∃ u, cable u n = cable d n ∧
    cable ((List.range 8).foldl critCut d) n = cable (critCut u n) n :=
  foldl_at (R := fun t d => cable t n = cable d n) (fun _ => rfl) (fun h h' => h.trans h') List.nodup_range (List.mem_range.mpr hn)
    (fun u m _ hm => cable_critCut_other u hm) d

/-- What the comparator does to the fans. -/
def critFans (d : Dev) : Dev :=
  (List.range 2).foldl (fun d f => if hasFan d f then setFan f (fun x => { x with highTicks := 160 }) d else d) d

theorem only_critFans : Only [.heat] (critFans d) d := Only.foldl _ (fun u f _ => by simp) d

theorem highTicks_critFans {f : Nat} (hf : f < 2) (hhas : hasFan d f = true) : (fanOf (critFans d) f).highTicks = 160 := by
  obtain ⟨u, ⟨hfan, hhas'⟩, hlast, -⟩ := foldl_at (R := fun t d => fanOf t f = fanOf d f ∧ hasFan t f = hasFan d f)
    (f := fun d k => if hasFan d k then setFan k (fun x => { x with highTicks := 160 }) d else d) (n := f) (fun _ => ⟨rfl, rfl⟩)
    (fun h h' => ⟨h.1.trans h'.1, h.2.trans h'.2⟩) (List.nodup_range (n := 2)) (List.mem_range.mpr hf)
    (fun u m _ hm => by
      split
      · exact ⟨fanOf_setFan_other fun h => hm h.symm, rfl⟩
      · exact ⟨rfl, rfl⟩) d
  unfold critFans
  rw [hlast, if_pos (hhas'.trans hhas), fanOf_setFan_self]

/-- The shepherd's record when the comparator asserts. -/
def critNoted (d : Dev) : Dev :=
  onShep (fun s => { s with critical := true, critCount := (s.critCount + 1) % 2 ^ 32, restoreSet := [], restoreSince := none }) d

theorem critAssert_asserts (hlives : critLives d = true) (hclear : d.shep.critical = false) :
    critAssert d = needStep (critFans ((List.range 8).foldl critCut (critNoted d))) := by
  unfold critAssert
  rw [if_neg (by simp [hlives, hclear])]
  rfl

/-- What the comparator reaches of the ports. -/
@[simp] def critParts : List Part := [.cables, .timers]

theorem only_critCuts : Only critParts ((List.range 8).foldl critCut d) d :=
  Only.foldl _ (fun u n _ => (only_critCut u n).mono (by simp)) d

theorem stepDue_needStep : (needStep d).shep.stepDue = true ∧
    (needStep d).shep = { d.shep with stepDue := true, shedEventAt := (needStep d).shep.shedEventAt } := by
  unfold needStep
  split
  next h => exact ⟨h, by rw [← h]⟩
  next => exact ⟨rfl, rfl⟩

/-! ### Release -/

/-- What the release does to a port. -/
def critGive (d : Dev) (n : Nat) : Dev := if (cable d n).vbusWait && (cable d n).guardFresh then applyVbus n d else d

theorem only_critGive (d : Dev) (n : Nat) : Only (vbusParts n) (critGive d n) d := by
  unfold critGive
  split
  · simp
  · exact .refl _ _

theorem critical_critGive (d : Dev) (n : Nat) : (critGive d n).shep.critical = d.shep.critical := by
  have hshep := (only_critGive d n).shepRest (by simp [Part.seenIn])
  rw [hshep]

/-- A port whose VBUS waited for the comparator alone is supplied. -/
theorem critGive_supplies (hwait : (cable d n).vbusWait = true) (hfresh : (cable d n).guardFresh = true) (hdry : (cable d n).guard ≠ .wet)
    (hfree : (cable d n).path ≠ .latched) (hbooked : (cable d n).booked ≠ 0) (hshort : armed (.shortRetry n) d = false)
    (hinrush : armed (.inrushRetry n) d = false) (hcrit : d.shep.critical = false) :
    (cable (critGive d n) n).gateOn = true ∧ (cable (critGive d n) n).vbusWait = false := by
  have hgive : critGive d n = rampUp n d := by
    unfold critGive applyVbus
    simp [hwait, hfresh, hdry, hfree, hbooked, hshort, hinrush, hcrit]
  rw [hgive, cable_rampUp]
  exact ⟨rfl, rfl⟩

end

end Sys2Proof.Proofs.CriticalComparator


/-! SUPPORT. Fans, tachometers, stall, silence, commissioning and the critical comparator (chapter 15). -/

namespace Sys2Proof.Proofs.FansAndCritical

open Sys2Proof Sys2Proof.Machine Sys2Proof.Safety
open Sys2Proof.Proofs.StepAndTimers
open Sys2Proof.Proofs.ShapersAndTally
open Sys2Proof.Proofs.Frames
open Sys2Proof.Proofs.Running
open Sys2Proof.Proofs.Shepherd
open Sys2Proof.Proofs.FanChannels
open Sys2Proof.Proofs.CriticalComparator

/-! ### The duty's buffer and the tachometer -/

section
variable {d : Dev} {f : Nat}

/-- A PWM period of a channel as it begins: `full` holds the pin high. -/
def reloaded (full : Bool) (x : Fan) : Fan :=
  let period := (x.period + 1) % 2 ^ 32
  let duty := if x.newDuty then x.wanted else x.applied
  let acc := x.fraction + duty * 5 % 32
  { x with period := period, applied := duty, newDuty := false, appliedPeriod := if x.newDuty then period else x.appliedPeriod
           fraction := acc % 32, highTicks := if full then 160 else duty * 5 / 32 + acc / 32 }

theorem fanReload_reloads (hruns : mgtRuns d = true) (hhas : hasFan d f = true) : fanReload f d = fanWatch f (arm (.fanReload f) (40 * us)
    (setFan f (reloaded (d.shep.critical || !isReady d)) (reach (.fanReload f) d))) := by
  unfold fanReload
  rw [if_neg (by simp [hkpRuns, hruns, hhas])]
  rfl

/-- A tachometer's edge noted. -/
def edgeNoted (f : Nat) (d : Dev) : Dev := setFan f (fun x => { x with lastEdge := some d.now }) d

/-- The edges that the speed is measured over, the newest first. -/
def edgesSeen (f : Nat) (d : Dev) : List Nat := (d.now :: (fanOf d f).edges).take 5

/-- An edge that counts, with the second in which the next is awaited. -/
def edgeCounted (f : Nat) (d : Dev) : Dev := arm (.tach f) sec (setFan f (fun x => { x with edges := edgesSeen f d }) (edgeNoted f d))

theorem tachEdge_early {e : Nat} (hruns : mgtRuns d = true) (hhas : hasFan d f = true) (hlast : (fanOf d f).lastEdge = some e)
    (hearly : d.now < e + 250 * us) : tachEdge f d = edgeNoted f d := by
  unfold tachEdge
  rw [if_neg (by simp [hkpRuns, hruns, hhas])]
  dsimp only
  rw [hlast]
  exact if_pos (decide_eq_true hearly)

theorem tachEdge_counts (hruns : mgtRuns d = true) (hhas : hasFan d f = true)
    (hlate : ∀ e, (fanOf d f).lastEdge = some e → e + 250 * us ≤ d.now) :
    tachEdge f d = (edgesSeen f d)[cfg d (fanObj f) 6]?.elim (edgeCounted f d)
      fun b => setRpm f (240000000 / max 1 ((d.now - b) / 250)) (edgeCounted f d) := by
  unfold tachEdge
  rw [if_neg (by simp [hkpRuns, hruns, hhas])]
  refine (if_neg ?_).trans ?_
  · cases hlast : (fanOf d f).lastEdge with
    | none => simp
    | some e =>
      have h := hlate e hlast
      simp only [decide_eq_true_eq]
      exact Nat.not_lt.mpr h
  · show (match (edgesSeen f d)[cfg d (fanObj f) 6]? with | some _ => _ | none => _) = _
    cases (edgesSeen f d)[cfg d (fanObj f) 6]? <;> rfl

end

/-! ### The commissioning routine -/

section
variable {d : Dev} {f : Nat}

/-- A settle or measure period of the routine has ended. -/
def commRun (f : Nat) (d : Dev) : Dev :=
  let x := fanOf d f
  if x.commState ≠ 1 then d
  else if x.commStep % 2 = 0 then commPhase f (x.commStep + 1) d
  else if x.commStep = 1 then
    let full := commIntegral d x / commSpan 1
    commPhase f 2 (setFan f (fun x => commTarget { x with fullRpm := full }) d)
  else commSearch f d

variable (hcomm : (fanOf d f).commState = 1)
include hcomm

theorem commRun_settled (heven : (fanOf d f).commStep % 2 = 0) : commRun f d = commPhase f ((fanOf d f).commStep + 1) d := by
  unfold commRun
  rw [if_neg (by simp [hcomm]), if_pos heven]

theorem commRun_full (hone : (fanOf d f).commStep = 1) : commRun f d =
    commPhase f 2 (setFan f (fun x => commTarget { x with fullRpm := commIntegral d (fanOf d f) / commSpan 1 }) d) := by
  unfold commRun
  rw [if_neg (by simp [hcomm]), if_neg (by rw [hone]; decide), if_pos hone]

/-- The last of the eighty steps. -/
theorem commRun_last (hlast : (fanOf d f).commStep = 161) : ∃ v, commRun f d =
    commStore f (setFan f (fun x => commTarget { x with commFound := x.commFound ++ [v] }) d) := by
  unfold commRun
  rw [if_neg (by simp [hcomm]), if_neg (by rw [hlast]; decide), if_neg (by rw [hlast]; decide)]
  unfold commSearch
  dsimp only
  rw [hlast]
  exact ⟨_, rfl⟩

end

/-! ### The statement -/

/-- What a command of the fans may reach, with the time that its expiry takes. -/
@[simp] def fanParts : List Part := [.heat, .now, .tm, .timers, .odBook, .irq, .out]

theorem only_settle_fan {s : State} {u v : Dev} (h : Only fanParts u v) (hv : Only fanParts v s.dev) : Only fanParts (settle u) s.dev :=
  (only_settle (by decide)).mpr (h.trans hv)

theorem only_expired_fan (t : Timer) (d : Dev) : Only fanParts (expired t d) d := by simp

theorem only_hush_fan (d : Dev) : Only fanParts (hush d) d := by simp

theorem fanOf_expired (t : Timer) (d : Dev) (f : Nat) : fanOf (expired t d) f = fanOf d f := rfl
theorem fanOf_hush (d : Dev) (f : Nat) : fanOf (hush d) f = fanOf d f := rfl

/-- Settles O58. -/
theorem fansAndCritical : Obligations.FansAndCritical := by
  refine ⟨fun s f hruns hhas => ?_, fun s f hbank hruns hhas => ?_, fun s f => ?_, fun s hlives hclear => ?_, fun s hoff => ?_,
    fun s => ⟨fun hclear => ?_, fun hcrit => ?_⟩⟩
  · intro x
    refine answers_of_effect (f := fanReload f.val) rfl (fanReload_reloads (d := hush s.dev) hruns hhas) ?_
    obtain ⟨v, hv⟩ : ∃ v, v = arm (.fanReload f.val) (40 * us) (setFan f.val (reloaded ((hush s.dev).shep.critical || !isReady (hush s.dev)))
      (reach (.fanReload f.val) (hush s.dev))) := ⟨_, rfl⟩
    have hself : fanOf v f.val = reloaded (s.dev.shep.critical || !isReady s.dev) x := by
      rw [hv, fanOf_arm, fanOf_setFan_self]
      rfl
    have hother (g : Nat) (hg : g ≠ f.val) : fanOf v g = fanOf s.dev g := by
      rw [hv, fanOf_arm, fanOf_setFan_other hg]
      rfl
    have hruns' : runsFor (.fanReload f.val) (40 * us) v := by rw [hv]; exact runsFor_arm_self
    have hvs : Only fanParts v s.dev := by rw [hv]; simp
    rw [← hv]
    have hwatch : Only (watchParts f.val) (fanWatch f.val v) v := by simp
    have hall := only_settle_fan (s := s) (hwatch.mono (by simp)) hvs
    simp only [fanOf_settle, fanOf_fanWatch, hself]
    refine ⟨rfl, rfl, rfl, fun hfull => ?_, fun hclear hready => ?_, ?_, fun g hg => hother g hg, hall.sameSwitch (by decide), hall.samePower (by decide),
      hall.otp rfl, hall.flash rfl, hall.ng rfl⟩
    · refine if_pos ?_
      rcases hfull with h | h <;> simp [h]
    · simp only [reloaded, hclear, hready, Bool.not_true, Bool.or_self, Bool.false_eq_true, if_false]
      omega
    · rw [runsFor_settle, hwatch.runsFor _ rfl (hwatch.now rfl)]
      exact hruns'
  · intro x same
    have hrun {u : Dev} (h : tachEdge f.val (hush s.dev) = u) : whileBank (·.bankS) (tachEdge f.val) (hush s.dev) = u :=
      (if_pos hbank).trans h
    have hsame {u : Dev} (hu : Only (.heat :: .timer (.tach f.val) :: watchParts f.val) u (hush s.dev))
        (hother : ∀ g, g ≠ f.val → fanOf u g = fanOf s.dev g) : same (settle u) := by
      have hhush : Only [.heat, .timers, .odBook, .irq, .out] (hush s.dev) s.dev := by simp
      have hall : Only [.heat, .timers, .odBook, .irq, .out] (settle u) s.dev :=
        (only_settle (by decide)).mpr ((hu.mono (by simp)).trans hhush)
      exact ⟨fun g hg => by rw [fanOf_settle]; exact hother g hg, hall.sameSwitch (by decide), hall.samePower (by decide),
        hall.sameTime (by decide), hall.otp rfl, hall.flash rfl, hall.sameAon (by decide)⟩
    refine ⟨fun e hlast hearly => ?_, fun e hlast hmode => ?_⟩
    · refine answers_of_effect (f := whileBank (·.bankS) (tachEdge f.val)) rfl (hrun (tachEdge_early hruns hhas hlast hearly)) ?_
      refine ⟨?_, hsame (by simp [edgeNoted]) fun g hg => fanOf_setFan_other hg⟩
      rw [fanOf_settle, edgeNoted, fanOf_setFan_self]
      rfl
    · have hlate : ∀ e, (fanOf (hush s.dev) f.val).lastEdge = some e → e + 250 * us ≤ (hush s.dev).now := by
        intro k hk
        rcases hlast with hnone | ⟨hsome, hpast⟩
        · rw [show (fanOf (hush s.dev) f.val).lastEdge = none from hnone] at hk
          cases hk
        · rw [show (fanOf (hush s.dev) f.val).lastEdge = some e from hsome] at hk
          cases hk
          exact hpast
      refine answers_of_effect (f := whileBank (·.bankS) (tachEdge f.val)) rfl (hrun (tachEdge_counts hruns hhas hlate)) ?_
      have hmode' : cfg (hush s.dev) (fanObj f.val) 6 = cfg s.dev (fanObj f.val) 6 := rfl
      obtain ⟨v, hv⟩ : ∃ v, v = edgeCounted f.val (hush s.dev) := ⟨_, rfl⟩
      have hself : fanOf v f.val = { x with lastEdge := some s.dev.now, edges := (s.dev.now :: x.edges).take 5 } := by
        rw [hv, edgeCounted, fanOf_arm, fanOf_setFan_self, edgeNoted, fanOf_setFan_self]
        rfl
      have hother (g : Nat) (hg : g ≠ f.val) : fanOf v g = fanOf s.dev g := by
        rw [hv, edgeCounted, fanOf_arm, fanOf_setFan_other hg, edgeNoted, fanOf_setFan_other hg]
        rfl
      have hruns' : runsFor (.tach f.val) sec v := by rw [hv]; exact runsFor_arm_self
      have hvs : Only (.heat :: .timer (.tach f.val) :: watchParts f.val) v (hush s.dev) := by
        rw [hv]
        simp [edgeCounted, edgeNoted]
      have hseen : edgesSeen f.val (hush s.dev) = (s.dev.now :: x.edges).take 5 := rfl
      rw [← hv, hseen, hmode', List.getElem?_take_of_lt hmode]
      cases hget : (s.dev.now :: x.edges)[cfg s.dev (fanObj f.val) 6]? with
      | none =>
        simp only [Option.elim]
        exact ⟨by rw [fanOf_settle, hself], by rw [fanOf_settle, hself], runsFor_settle.mpr hruns', fun b hb => (by cases hb),
          fun _ => by rw [fanOf_settle, hself], hsame hvs hother⟩
      | some b =>
        obtain ⟨u, hu⟩ : ∃ u, u = setRpm f.val (240000000 / max 1 (((hush s.dev).now - b) / 250)) v := ⟨_, rfl⟩
        have huv : Only (.heat :: watchParts f.val) u v := by rw [hu]; simp
        have hfan (g : Nat) : fanOf u g = if g = f.val then { fanOf v f.val with
            rpm := 240000000 / max 1 (((hush s.dev).now - b) / 250)
            commSum := (fanOf v f.val).commSum + (fanOf v f.val).rpm * (v.now - (fanOf v f.val).commN), commN := v.now } else fanOf v g := by
          rw [hu, setRpm, fanOf_fanWatch, fanOf_setFan]
        simp only [Option.elim]
        rw [← hu]
        refine ⟨?_, ?_, ?_, fun c hc => ?_, fun hlen => ?_, hsame ((huv.mono (by simp)).trans hvs) fun g hg => ?_⟩
        · rw [fanOf_settle, hfan, if_pos rfl, hself]
        · rw [fanOf_settle, hfan, if_pos rfl, hself]
        · rw [runsFor_settle, huv.runsFor _ rfl (huv.now rfl)]
          exact hruns'
        · cases hc
          rw [fanOf_settle, hfan, if_pos rfl]
          rfl
        · have hlt := (List.getElem?_eq_some_iff.mp hget).1
          omega
        · rw [hfan, if_neg hg]
          exact hother g hg
  · intro beside
    have hbeside {u v : Dev} (hu : Only fanParts u v) (hv : Only fanParts v s.dev) : beside (settle u) := by
      have hall := only_settle_fan hu hv
      exact ⟨hall.sameSwitch (by decide), hall.samePower (by decide), hall.otp rfl, hall.flash rfl, hall.ng rfl, hall.aon rfl⟩
    refine ⟨fun harmed => ?_, fun harmed hhas => ?_, fun harmed => ?_, fun harmed => ?_, fun harmed hcomm => ?_⟩
    · refine answers_of_expiry (f := setRpm f.val 0) rfl harmed ?_
      have hoff : armed (.tach f.val) (expired (.tach f.val) s.dev) = false := armed_expired_self
      have hd := only_expired_fan (.tach f.val) s.dev
      have hfan := fanOf_expired (.tach f.val) s.dev
      generalize expired (.tach f.val) s.dev = d at hoff hd hfan
      have honly : Only (.heat :: watchParts f.val) (setRpm f.val 0 d) d := by simp
      refine ⟨?_, ?_, fun g hg => ?_, hbeside (honly.mono (by simp)) hd⟩
      · rw [fanOf_settle, setRpm, fanOf_fanWatch, fanOf_setFan_self]
      · rw [armed_settle, honly.armed _ rfl]
        exact hoff
      · rw [fanOf_settle, setRpm, fanOf_fanWatch, fanOf_setFan_other hg, hfan]
    · refine answers_of_expiry (f := fun d => fansFollow (commAbort f.val 4 (setFan f.val (fun x => { x with stall := true }) d))) rfl harmed ?_
      have hd := only_expired_fan (.stall f.val) s.dev
      have hfan := fanOf_expired (.stall f.val) s.dev
      generalize expired (.stall f.val) s.dev = d at hd hfan
      obtain ⟨v, hv⟩ : ∃ v, v = setFan f.val (fun x => { x with stall := true }) d := ⟨_, rfl⟩
      have hvself : fanOf v f.val = { fanOf s.dev f.val with stall := true } := by rw [hv, fanOf_setFan_self, hfan]
      have hvd : Only [.heat] v d := by rw [hv]; simp
      rw [← hv]
      obtain ⟨hrpm, hstall⟩ := rpm_commAbort (f := f.val) 4 v f.val
      have hstate : (fanOf s.dev f.val).commState = 1 → (fanOf (commAbort f.val 4 v) f.val).commState = 4 := by
        intro h
        exact commState_commAbort 4 (by rw [hvself]; exact h)
      have hwv : Only [.heat, .timer (.comm f.val)] (commAbort f.val 4 v) v := by simp
      generalize commAbort f.val 4 v = w at hrpm hstall hstate hwv
      have hfollow := undriven_fansFollow w f.val
      have htotp : w.otp = s.dev.otp := (hwv.otp rfl).trans ((hvd.otp rfl).trans (hd.otp rfl))
      have hfw : Only [.heat] (fansFollow w) w := by simp
      have hwall : Only fanParts w s.dev := (hwv.mono (by simp)).trans ((hvd.mono (by decide)).trans hd)
      refine ⟨?_, ?_, fun g hg hhasg => ?_, fun h => ?_, hbeside (hfw.mono (by decide)) hwall⟩
      · rw [fanOf_settle, stall_of_undriven hfollow, hstall, hvself]
      · rw [fanOf_settle, rpm_of_undriven hfollow, hrpm, hvself]
      · rw [fanOf_settle]
        refine wanted_fansFollow g.isLt (by rw [hasFan_congr htotp]; exact hhasg) (.inl ⟨f.val, f.isLt, fun h => hg (Fin.ext h.symm), ?_, ?_⟩)
        · rw [hasFan_congr htotp]; exact hhas
        · rw [hstall, hvself]
      · rw [fanOf_settle, commState_of_undriven hfollow]
        exact hstate h
    · refine answers_of_expiry (f := fun d => fansFollow (fanWatch f.val (setFan f.val (fun x => { x with stall := false }) d))) rfl harmed ?_
      have hd := only_expired_fan (.unstall f.val) s.dev
      have hfan := fanOf_expired (.unstall f.val) s.dev
      generalize expired (.unstall f.val) s.dev = d at hd hfan
      obtain ⟨w, hw⟩ : ∃ w, w = fanWatch f.val (setFan f.val (fun x => { x with stall := false }) d) := ⟨_, rfl⟩
      have hwd : Only (.heat :: watchParts f.val) w d := by rw [hw]; simp
      have hwfan (g : Nat) : fanOf w g = if g = f.val then { fanOf s.dev f.val with stall := false } else fanOf s.dev g := by
        rw [hw, fanOf_fanWatch, fanOf_setFan, hfan, hfan]
      rw [← hw]
      have hfw : Only [.heat] (fansFollow w) w := by simp
      refine ⟨?_, ?_, fun g hg => ?_, hbeside (hfw.mono (by decide)) ((hwd.mono (by simp)).trans hd)⟩
      · rw [fanOf_settle, stall_of_undriven (undriven_fansFollow w f.val), hwfan, if_pos rfl]
      · rw [fanOf_settle, rpm_of_undriven (undriven_fansFollow w f.val), hwfan, if_pos rfl]
      · rw [fanOf_settle, stall_of_undriven (undriven_fansFollow w g), hwfan, if_neg hg]
    · refine answers_of_expiry (f := fun d => fansFollow (onHeat (fun h => { h with silent := true }) d)) rfl harmed ?_
      have hoff : armed .heartbeat (expired .heartbeat s.dev) = false := armed_expired_self
      have hd := only_expired_fan .heartbeat s.dev
      have hfan := fanOf_expired .heartbeat s.dev
      generalize expired .heartbeat s.dev = d at hoff hd hfan
      obtain ⟨w, hw⟩ : ∃ w, w = onHeat (fun h => { h with silent := true }) d := ⟨_, rfl⟩
      have hwd : Only [.heat] w d := by rw [hw]; simp
      have hsilent : w.heat.silent = true := by rw [hw]; rfl
      have hwfan : fanOf w f.val = fanOf s.dev f.val := by rw [← hfan, hw]; rfl
      have hcfg (obj el : Nat) : cfg w obj el = cfg s.dev obj el := (hwd.cfg rfl obj el).trans (hd.cfg rfl obj el)
      have hkept : (fansFollow w).heat.silent = true := by
        unfold fansFollow fanUpdate
        dsimp only
        split
        · split <;> exact hsilent
        · split <;> exact hsilent
      rw [← hw]
      have hfw : Only [.heat] (fansFollow w) w := by simp
      refine ⟨?_, fun hhas hmode => ?_, ?_, ?_, hbeside (hfw.mono (by decide)) ((hwd.mono (by decide)).trans hd)⟩
      · rw [settle_heat]; exact hkept
      · rw [fanOf_settle]
        refine wanted_fansFollow f.isLt ?_ (.inr ⟨hsilent, by rw [hcfg]; exact hmode⟩)
        rw [hasFan_congr ((hwd.otp rfl).trans (hd.otp rfl))]
        exact hhas
      · rw [fanOf_settle, rpm_of_undriven (undriven_fansFollow w f.val), hwfan]
      · rw [armed_settle, hfw.armed _ rfl, hwd.armed _ rfl]
        exact hoff
    · intro x d
      have hd := only_expired_fan (.comm f.val) s.dev
      have hx : fanOf d f.val = x := fanOf_expired (.comm f.val) s.dev f.val
      have hcomm' : (fanOf d f.val).commState = 1 := by rw [hx]; exact hcomm
      refine ⟨fun heven => ?_, fun hone => ?_, fun hlast hkind => ?_⟩
      · refine answers_of_expiry (f := commRun f.val) rfl harmed ?_
        show _ ∧ _
        rw [show expired (.comm f.val) s.dev = d from rfl, commRun_settled hcomm' (by rw [hx]; exact heven), hx]
        have hfan := undriven_commPhase (f := f.val) (x.commStep + 1) d
        have hrun := runsFor_commPhase (f := f.val) (x.commStep + 1) d
        have honly : Only [.heat, .timer (.comm f.val)] (commPhase f.val (x.commStep + 1) d) d := by simp
        generalize commPhase f.val (x.commStep + 1) d = u at hfan hrun honly
        rw [hx] at hfan
        rw [fanOf_settle]
        exact ⟨(commState_of_undriven hfan).trans hcomm, (congrArg Fan.commStep hfan :), (congrArg Fan.commDuty hfan :),
          (congrArg Fan.commSum hfan :), runsFor_settle.mpr hrun, hbeside (honly.mono (by simp)) hd⟩
      · refine answers_of_expiry (f := commRun f.val) rfl harmed ?_
        show _ ∧ _
        rw [show expired (.comm f.val) s.dev = d from rfl, commRun_full hcomm' (by rw [hx]; exact hone), hx]
        obtain ⟨v, hv⟩ : ∃ v, v = setFan f.val (fun x' => commTarget { x' with fullRpm := commIntegral d x / commSpan 1 }) d := ⟨_, rfl⟩
        have hvfan : fanOf v f.val = commTarget { x with fullRpm := commIntegral d x / commSpan 1 } := by
          rw [hv, fanOf_setFan_self, hx]
        have hvd : Only [.heat] v d := by rw [hv]; simp
        rw [← hv]
        have hfan := undriven_commPhase (f := f.val) 2 v
        have hrun := runsFor_commPhase (f := f.val) 2 v
        have honly : Only [.heat, .timer (.comm f.val)] (commPhase f.val 2 v) v := by simp
        generalize commPhase f.val 2 v = u at hfan hrun honly
        rw [hvfan] at hfan
        rw [fanOf_settle]
        exact ⟨(commState_of_undriven hfan).trans hcomm, (congrArg Fan.commStep hfan :), (congrArg Fan.fullRpm hfan :),
          (congrArg Fan.commDuty hfan :), runsFor_settle.mpr hrun, hbeside (honly.mono (by simp)) ((hvd.mono (by decide)).trans hd)⟩
      · obtain ⟨k, hk⟩ := commRun_last hcomm' (by rw [hx]; exact hlast)
        refine answers_of_expiry (f := commRun f.val) rfl harmed ?_
        show _ ∧ _
        rw [show expired (.comm f.val) s.dev = d from rfl, hk]
        obtain ⟨v, hv⟩ : ∃ v, v = setFan f.val (fun x => if x.commKind = 1 then { x with base := x.commFound }
          else { x with now := x.commFound, ageing := (divRound (1000 * (x.commFound.sum : Int)) x.base.sum).toNat })
          (setFan f.val (fun x => commTarget { x with commFound := x.commFound ++ [k] }) d) := ⟨_, rfl⟩
        have hvfan : fanOf v f.val = { commTarget { x with commFound := x.commFound ++ [k] } with base := x.commFound ++ [k] } := by
          rw [hv, fanOf_setFan_self, fanOf_setFan_self, hx]
          exact if_pos hkind
        have hvd : Only [.heat] v d := by rw [hv]; simp
        unfold commStore
        rw [← hv]
        have hfan := undriven_commEnd (f := f.val) 2 v f.val
        have hoff := armed_commEnd (f := f.val) 2 v
        have honly : Only [.heat, .timer (.comm f.val)] (commEnd f.val 2 v) v := by simp
        generalize commEnd f.val 2 v = u at hfan hoff honly
        rw [if_pos rfl, hvfan] at hfan
        rw [fanOf_settle, armed_settle]
        exact ⟨commState_of_undriven hfan, hoff, ⟨k, (congrArg Fan.base hfan :)⟩, hbeside (honly.mono (by simp)) ((hvd.mono (by decide)).trans hd)⟩
  · have hasserts := critAssert_asserts (d := hush s.dev) hlives hclear
    obtain ⟨v, hv⟩ : ∃ v, v = critNoted (hush s.dev) := ⟨_, rfl⟩
    have hvd : Only [.shep] v (hush s.dev) := by rw [hv]; simp [critNoted]
    have hvshep : v.shep = { s.dev.shep with
        critical := true, critCount := (s.dev.shep.critCount + 1) % 2 ^ 32, restoreSet := [], restoreSince := none } := by rw [hv]; rfl
    have hcut (n : Nat) (hn : n < 8) := critCut_all hn v
    have hwv := only_critCuts (d := v)
    rw [← hv] at hasserts
    generalize (List.range 8).foldl critCut v = w at hasserts hcut hwv
    have hyw := only_critFans (d := w)
    have hfans (f : Nat) (hf : f < 2) := highTicks_critFans (d := w) hf
    generalize critFans w = y at hasserts hyw hfans
    refine answers_of_effect (f := critAssert) rfl hasserts ?_
    obtain ⟨hdue, hshep⟩ := stepDue_needStep (d := y)
    have hstep : Only stepParts (needStep y) y := by simp
    generalize needStep y = t at hdue hshep hstep
    have hts : Only [.cables, .timers, .heat, .shep, .odBook, .irq, .out] (settle t) s.dev := by
      have hhush : Only [.cables, .timers, .heat, .shep, .odBook, .irq, .out] (hush s.dev) s.dev := by simp
      exact (only_settle (by decide)).mpr ((hstep.mono (by decide)).trans ((hyw.mono (by decide)).trans ((hwv.mono (by decide)).trans
        ((hvd.mono (by decide)).trans hhush))))
    rw [hyw.shep rfl, hwv.shep rfl, hvshep] at hshep
    have hcable (n : Nat) : cable (settle t) n = cable w n :=
      cable_of_cables (by rw [settle_cables, hstep.cables rfl, hyw.cables rfl]) n
    refine ⟨?_, ?_, ?_, ?_, fun n hn => ?_, fun n hsource hon => ?_, fun f hf hhas => ?_, hts.sameSwitch (by decide), hts.slots rfl,
      hts.sameTime (by decide), hts.otp rfl, hts.flash rfl, hts.sameAon (by decide)⟩
    · rw [settle_shep, hshep]
    · rw [settle_shep, hshep]
    · rw [settle_shep, hshep]
    · rw [settle_shep]; exact hdue
    · obtain ⟨u, hu, hlast⟩ := hcut n hn
      have hsame : cable u n = cable s.dev n := hu.trans (hvd.cable n rfl)
      have hself := cable_critCut_self u n
      rw [← hlast, ← hcable, hsame] at hself
      exact hself
    · simp [critTakes, hsource, hon]
    · rw [fanOf_settle, fanOf_congr (hstep.heat rfl)]
      refine hfans f hf ?_
      rw [hasFan_congr ((hwv.otp rfl).trans (hvd.otp rfl))]
      exact hhas
  · refine answers_became (f := critAssert) rfl (if_pos ?_)
    rcases hoff with h | h
    · rw [show critLives (hush s.dev) = false from h]; rfl
    · rw [show (hush s.dev).shep.critical = true from h]; simp
  · refine answers_became (f := critRelease) rfl (if_neg ?_)
    rw [show (hush s.dev).shep.critical = false from hclear]
    simp
  · obtain ⟨v, hv⟩ : ∃ v, v = onShep (fun s => { s with critical := false }) (hush s.dev) := ⟨_, rfl⟩
    have hvd : Only [.shep] v (hush s.dev) := by rw [hv]; simp
    have hvclear : v.shep.critical = false := by rw [hv]; rfl
    have heffect : critRelease (hush s.dev) = (List.range 8).foldl critGive v := by
      rw [hv]
      exact if_pos hcrit
    have hat (n : Nat) (hn : n < 8) := foldl_at (R := fun t d => cable t n = cable d n ∧ t.shep.critical = d.shep.critical ∧
        armed (.shortRetry n) t = armed (.shortRetry n) d ∧ armed (.inrushRetry n) t = armed (.inrushRetry n) d) (f := critGive)
      (fun _ => ⟨rfl, rfl, rfl, rfl⟩) (fun h h' => ⟨h.1.trans h'.1, h.2.1.trans h'.2.1, h.2.2.1.trans h'.2.2.1, h.2.2.2.trans h'.2.2.2⟩)
      (List.nodup_range (n := 8)) (List.mem_range.mpr hn) (fun u m _ hm =>
        ⟨(only_critGive u m).cable n (by simp [Part.seenIn, hm]), critical_critGive u m,
          (only_critGive u m).armed _ (by simp [Part.seenIn, Ne.symm hm]), (only_critGive u m).armed _ (by simp [Part.seenIn, Ne.symm hm])⟩) v
    have hall : Only [.cables, .timers, .shepDue] ((List.range 8).foldl critGive v) v :=
      Only.foldl _ (fun u n _ => (only_critGive u n).mono (by simp)) v
    have hover (n : Nat) (hn : 8 ≤ n) : cable ((List.range 8).foldl critGive v) n = cable v n :=
      List.foldlRecOn (motive := fun u => cable u n = cable v n) _ _ rfl fun u hu m hm =>
        ((only_critGive u m).cable n (by have := List.mem_range.mp hm; simp [Part.seenIn]; omega)).trans hu
    generalize (List.range 8).foldl critGive v = w at heffect hat hall hover
    refine answers_of_effect (f := critRelease) rfl heffect ?_
    have hws : Only [.cables, .timers, .shep, .odBook, .irq, .out] (settle w) s.dev := by
      have hhush : Only [.cables, .timers, .shep, .odBook, .irq, .out] (hush s.dev) s.dev := by simp
      exact (only_settle (by decide)).mpr ((hall.mono (by decide)).trans ((hvd.mono (by decide)).trans hhush))
    have hcable (n : Nat) : cable (settle w) n = cable w n := cable_of_cables (settle_cables w) n
    have hvcable (n : Nat) : cable v n = cable s.dev n := hvd.cable n rfl
    refine ⟨?_, fun n hn => ?_, fun n hn hwait hfresh hdry hfree hbooked hshort hinrush => ?_, hws.sameSwitch (by decide), hws.slots rfl,
      hws.sameTime (by decide), hws.sameStores (by decide), hws.sameAon (by decide)⟩
    · rw [settle_shep, hall.shepRest rfl]
      exact hvclear
    · rw [hcable, ← hvcable]
      by_cases hlt : n < 8
      · obtain ⟨u, ⟨hu, -⟩, hlast, -⟩ := hat n hlt
        rw [hlast, ← hu]
        have hidle : critGive u n = u := by
          refine if_neg ?_
          rw [hu, hvcable]
          rcases hn with h | h | h
          · omega
          · simp [h]
          · simp [h]
        rw [hidle]
      · exact hover n (by omega)
    · obtain ⟨u, ⟨hu, hcrit', hshort', hinrush'⟩, hlast, -⟩ := hat n hn
      have hsame : cable u n = cable s.dev n := hu.trans (hvcable n)
      rw [hcable, hlast]
      refine critGive_supplies ?_ ?_ ?_ ?_ ?_ ?_ ?_ (hcrit'.trans hvclear)
      · rw [hsame]; exact hwait
      · rw [hsame]; exact hfresh
      · rw [hsame]; exact hdry
      · rw [hsame]; exact hfree
      · rw [hsame]; exact hbooked
      · rw [hshort', hvd.armed _ rfl]; exact hshort
      · rw [hinrush', hvd.armed _ rfl]; exact hinrush

end Sys2Proof.Proofs.FansAndCritical


/-! SUPPORT. Commands that are one write of the object dictionary: what an admitted one does, by the kind of its element. -/

namespace Sys2Proof.Proofs.RowWrites

open Sys2Proof Sys2Proof.Machine Sys2Proof.Safety
open Sys2Proof.Proofs.ShapersAndTally
open Sys2Proof.Proofs.Frames
open Sys2Proof.Proofs.Running
open Sys2Proof.Proofs.HostWindow (leNat_leBytes)

section
variable {c : Instr} {s : State} {P : Dev → Prop} {d u : Dev} {sess obj el v n : Nat} {k : ObjKind} {payload : List Byte}

/-! ### A write that is served -/

theorem emit_status (b : Byte) (d : Dev) : emit (.status b) d = { d with out := d.out ++ [.status b] } := rfl

theorem valueBytes_of_admitted (h : AdmittedValue s.dev sess obj el v) : valueBytes (hush s.dev) obj el v = some (octetsOf s.dev obj el v) := by
  obtain ⟨⟨e, he, hv⟩, -⟩ := h
  unfold valueBytes octetsOf
  rw [he]
  exact if_pos hv

theorem leNat_octetsOf (h : AdmittedValue s.dev sess obj el v) : leNat (octetsOf s.dev obj el v) = v := by
  obtain ⟨⟨e, he, hv⟩, -⟩ := h
  unfold octetsOf
  rw [he]
  exact (leNat_leBytes _ _).trans (Nat.mod_eq_of_lt hv)

theorem rowWrite_admitted (h : Admitted s.dev sess obj el payload) :
    rowWrite sess obj el payload (hush s.dev) = emit (.status 0) (odWriteNow (hush s.dev) sess obj el payload) := by
  obtain ⟨hserves, hok⟩ := h
  unfold rowWrite
  rw [show odServes (hush s.dev) = true from hserves, hok]
  rfl

theorem rowValue_admitted (h : AdmittedValue s.dev sess obj el v) : rowValue sess obj el v (hush s.dev) =
    emit (.status 0) (odWriteNow (hush s.dev) sess obj el (octetsOf s.dev obj el v)) := by
  unfold rowValue
  rw [valueBytes_of_admitted h]
  exact rowWrite_admitted h.2

/-! ### Actions -/

/-- The actions whose elements the tables flag as persistent: OP of MDIO, and the two flushes. -/
def journaledAction : ObjKind → Nat → Bool
  | .mdio, 5 | .vlanPort, 8 | .station, 10 => true
  | _, _ => false

/-- Every other action holds no value, and none is journaled. -/
theorem action_not_persistent (k : ObjKind) :
    (k.elems.all fun x => !isAction k x.1 || journaledAction k x.1 || !bit x.2.flags 0) = true := by
  cases k <;> rfl

theorem isPersistent_action (hobj : objAt obj = some (k, n)) (hact : isAction k el = true)
    (hplain : journaledAction k el = false) : isPersistent d obj el = false := by
  unfold isPersistent odElem
  rw [hobj]
  dsimp only
  split
  next e he =>
    split at he
    · cases he
    · have hflag : bit e.flags 0 = false := by
        unfold elemOf at he
        split at he
        · cases he
        · obtain ⟨x, hx, rfl⟩ := Option.map_eq_some_iff.mp he
          have hel : x.1 = el := by simpa using List.find?_some hx
          have hall := List.all_eq_true.mp (action_not_persistent k) x (List.mem_of_find?_eq_some hx)
          rw [hel, hact, hplain] at hall
          simpa using hall
      unfold odFlags
      dsimp only
      rw [hflag, Bool.and_false, if_neg (by simp)]
      exact hflag
  next => rfl

/-- A write of an action does the action and no more. -/
theorem odWriteNow_action (hobj : objAt obj = some (k, n)) (hact : isAction k el = true) (hplain : journaledAction k el = false) :
    odWriteNow d sess obj el payload = act d sess k n el (leNat payload) payload := by
  unfold odWriteNow
  dsimp only
  rw [isPersistent_action hobj hact hplain, if_neg (by simp)]
  unfold odPerform
  rw [hobj]
  exact if_pos hact

/-- A command that is an action reports OK. -/
theorem answers_action (hexec : exec c s = run (rowValue sess obj el v) s) (h : AdmittedValue s.dev sess obj el v)
    (hobj : objAt obj = some (k, n)) (hact : isAction k el = true) (hplain : journaledAction k el = false)
    (hu : act (hush s.dev) sess k n el v (octetsOf s.dev obj el v) = u)
    (hP : P (settle (emit (.status 0) u))) : Answers c s P := by
  refine answers_of_effect hexec ((rowValue_admitted h).trans ?_) hP
  rw [odWriteNow_action hobj hact hplain, leNat_octetsOf h, hu]

/-- The same where its effect is all that is asked. -/
theorem answers_action_became (hexec : exec c s = run (rowValue sess obj el v) s) (h : AdmittedValue s.dev sess obj el v)
    (hobj : objAt obj = some (k, n)) (hact : isAction k el = true) (hplain : journaledAction k el = false)
    (hu : act (hush s.dev) sess k n el v (octetsOf s.dev obj el v) = u)
    {w : Dev} (hw : emit (.status 0) u = w) : Answers c s fun t => Became t w :=
  answers_action hexec h hobj hact hplain hu (hw ▸ became_settle _)

/-- The same where the status is reported and more is asked. -/
theorem serves_action (hexec : exec c s = run (rowValue sess obj el v) s) (h : AdmittedValue s.dev sess obj el v)
    (hobj : objAt obj = some (k, n)) (hact : isAction k el = true) (hplain : journaledAction k el = false)
    (hu : act (hush s.dev) sess k n el v (octetsOf s.dev obj el v) = u)
    (hP : P (settle (emit (.status 0) u))) : Serves c s P := by
  refine answers_action hexec h hobj hact hplain hu ⟨?_, hP⟩
  rw [settle_out, emit_status]
  exact List.mem_append_right _ (List.mem_singleton.mpr rfl)

/-! ### Values that are stored -/

theorem serves_stored (hexec : exec c s = run (rowValue sess obj el v) s) (h : AdmittedValue s.dev sess obj el v)
    (hu : odWriteNow (hush s.dev) sess obj el (octetsOf s.dev obj el v) = u) (hP : P (settle (emit (.status 0) u))) : Serves c s P := by
  refine answers_of_effect hexec ((rowValue_admitted h).trans (congrArg _ hu)) ⟨?_, hP⟩
  rw [settle_out, emit_status]
  exact List.mem_append_right _ (List.mem_singleton.mpr rfl)

/-- What the record of a stored value in the journal may reach. -/
@[simp] def noteParts : List Part := [.odBook, .timer .journal]

end

end Sys2Proof.Proofs.RowWrites


/-! The elements OP of MDIO, FLUSH and FLUSH_FID are flagged persistent (flag bit 0), so a write of one also waits for the journal
(R145): a clause that says the whole next device and not that entry fails. -/

namespace Sys2Proof.Proofs.JournaledActions

open Sys2Proof Sys2Proof.Machine Sys2Proof.Safety
open Sys2Proof.Proofs.Running

/-- Whether a step leaves something waiting for the journal. -/
def leavesPending (c : Instr) (s : State) : Bool :=
  match exec c s with
  | .next t => !t.dev.od.pendingJournal.isEmpty
  | _ => false

/-- A step that leaves something for the journal does not become a device with nothing waiting. -/
theorem not_answers_became {c : Instr} {s : State} {w : Dev} (hleaves : leavesPending c s = true)
    (hw : w.od.pendingJournal.isEmpty = true) : ¬ Answers c s fun t => Became t w := by
  rintro ⟨t, hexec, -, hbecame, -⟩
  have hsame : t.dev.od.pendingJournal = w.od.pendingJournal := (congrArg (fun d : Dev => d.od.pendingJournal) hbecame :)
  simp [leavesPending, hexec, hsame, hw] at hleaves

/-- Refutes O28: FLUSH is flagged persistent, so a FALSE written to it waits for the journal. -/
theorem not_resetAndAlarmWrites : ¬ Obligations.ResetAndAlarmWrites := by
  unfold Obligations.ResetAndAlarmWrites
  rintro ⟨-, -, -, -, -, -, h⟩
  refine not_answers_became (c := .flush 0 false) (s := Sys2Proof.Tests.up) (by decide +kernel) ?_ (h _ _ ?_)
  · decide +kernel
  · exact .inr (.inr (.inr (.inr (.inr (.inr (.inr (.inl ⟨0, rfl, Sys2Proof.Tests.admittedValue_of_admitted (by decide +kernel)⟩)))))))

/-- Refutes O29: OP of MDIO is flagged persistent, so the access that it starts also waits for the journal. -/
theorem not_timeBusAndMdioWrites : ¬ Obligations.TimeBusAndMdioWrites := by
  unfold Obligations.TimeBusAndMdioWrites
  rintro ⟨-, -, h⟩
  refine not_answers_became (c := .mdioOp 2) (s := Sys2Proof.Tests.up) (by decide +kernel) ?_ (h _ _ ?_ ?_)
  · decide +kernel
  · exact Sys2Proof.Tests.admittedValue_of_admitted (by decide +kernel)
  · decide +kernel

end Sys2Proof.Proofs.JournaledActions


/-! SUPPORT. Power Delivery messages (chapter 7): what sending one, or making an offer, does to a port. -/

namespace Sys2Proof.Proofs.PdMessages

open Sys2Proof Sys2Proof.Machine Sys2Proof.Safety
open Sys2Proof.Proofs.StepAndTimers
open Sys2Proof.Proofs.ShapersAndTally
open Sys2Proof.Proofs.Frames
open Sys2Proof.Proofs.Running
open Sys2Proof.Proofs.Shepherd

section
variable {S : List Part} {d e t : Dev} {n k : Nat} {m : PdMsg}

/-! ### A message goes out -/

/-- A port beside the Rp that it shows and the messages that wait for their GoodCRC. -/
def unsaid (c : Cable) : Cable := { c with rpNow := 0, presentRp := false, lastSent := none, txQueue := [], retries := 0 }

theorem cable_present_other (code : Nat) (hk : k ≠ n) : cable (present_ n code d) k = cable d k :=
  (show Only (sendParts n) (present_ n code d) d by simp).cable k (by simp [Part.seenIn, hk.symm])

theorem unsaid_present (n code : Nat) (d : Dev) (k : Nat) : unsaid (cable (present_ n code d) k) = unsaid (cable d k) := by
  by_cases hk : k = n
  · subst hk
    unfold present_
    split
    · rfl
    · rw [cable_emit, cable_setCable_self]
      rfl
  · rw [cable_present_other code hk]

theorem cable_collision_other (busy : Bool) (hk : k ≠ n) : cable (collision n busy d) k = cable d k :=
  (show Only (sendParts n) (collision n busy d) d by simp).cable k (by simp [Part.seenIn, hk.symm])

theorem unsaid_collision (n : Nat) (busy : Bool) (d : Dev) (k : Nat) : unsaid (cable (collision n busy d) k) = unsaid (cable d k) := by
  unfold collision
  dsimp only
  split
  · exact unsaid_present n _ d k
  · rfl

@[simp] theorem cable_transmit_self (n : Nat) (m : PdMsg) (d : Dev) :
    cable (transmit n m d) n = { cable (collision n true d) n with lastSent := some m, retries := 0 } := by
  unfold transmit
  rw [cable_arm, cable_emit, cable_setCable_self]

theorem cable_transmit_other (m : PdMsg) (hk : k ≠ n) : cable (transmit n m d) k = cable d k :=
  (show Only (sendParts n) (transmit n m d) d by simp).cable k (by simp [Part.seenIn, hk.symm])

theorem unsaid_transmit (n : Nat) (m : PdMsg) (d : Dev) (k : Nat) : unsaid (cable (transmit n m d) k) = unsaid (cable d k) := by
  by_cases hk : k = n
  · subst hk
    rw [cable_transmit_self]
    exact unsaid_collision k true d k
  · rw [cable_transmit_other m hk]

theorem cable_pdSend_other (m : PdMsg) (hk : k ≠ n) : cable (pdSend n m d) k = cable d k :=
  (show Only (sendParts n) (pdSend n m d) d by simp).cable k (by simp [Part.seenIn, hk.symm])

theorem unsaid_pdSend (n : Nat) (m : PdMsg) (d : Dev) (k : Nat) : unsaid (cable (pdSend n m d) k) = unsaid (cable d k) := by
  unfold pdSend
  split
  · exact unsaid_transmit n m d k
  · by_cases hk : k = n
    · subst hk
      rw [cable_setCable_self]
      rfl
    · rw [cable_setCable_other _ _ hk]

theorem pdSend_of_quiet (h : (cable d n).lastSent = none) : pdSend n m d = transmit n m d := by
  unfold pdSend
  rw [h]
  rfl

/-- A port whose balls are its own says on its wire what it emits. -/
theorem mem_out_emit_pd (n : CPort) (m : PdMsg) (hheld : portHeld d n.val = false) : Emission.pd n m ∈ (emit (.pd n m) d).out := by
  unfold emit
  rw [show heldSilent d (.pd n m) = false from hheld]
  exact List.mem_append_right _ (List.mem_singleton.mpr rfl)

theorem portHeld_congr (h : t.otp = d.otp) (n : Nat) : portHeld t n = portHeld d n := by
  unfold portHeld unitHeld ballVariant
  rw [h]

/-- A port with nothing outstanding says a message at once. -/
theorem says_transmit (n : CPort) (m : PdMsg) (hheld : portHeld d n.val = false) : Says n m (transmit n.val m d) := by
  refine ⟨?_, by rw [cable_transmit_self]⟩
  unfold transmit
  rw [show Fin.ofNat 8 n.val = n from Fin.ext (Nat.mod_eq_of_lt n.isLt)]
  refine mem_out_emit_pd n m ((portHeld_congr ?_ n.val).trans hheld)
  exact (show Only (Frames.sendParts n.val) (setCable n.val _ (collision n.val true d)) d by simp).otp rfl

theorem says_pdSend (n : CPort) (m : PdMsg) (hheld : portHeld d n.val = false) (hquiet : (cable d n.val).lastSent = none) :
    Says n m (pdSend n.val m d) := by
  rw [pdSend_of_quiet hquiet]
  exact says_transmit n m hheld

/-! ### An offer is made -/

/-- A port beside its messages and its offer. -/
def unoffered (c : Cable) : Cable :=
  { unsaid c with cableAsk := .notAsked, offer := [], offerMw := 0, offerHeld := false, capsSent := 0, awaiting := .nothing }

theorem unoffered_of_unsaid {x y : Cable} (h : unsaid x = unsaid y) : unoffered x = unoffered y := by
  unfold unoffered
  rw [h]

@[simp] theorem only_lowOffer (n : Nat) (hS : Within stepParts S = true) : Only S (lowOffer n d) e ↔ Only S d e :=
  Only.iff (T := stepParts) (by simp [lowOffer]) hS

/-- What an offer may reach: the port's messages, and a step of the shepherd. -/
@[simp] def offerParts (n : Nat) : List Part := stepParts ++ Frames.sendParts n

@[simp] theorem only_sendCaps (n : Nat) (hS : Within (offerParts n) S = true) : Only S (sendCaps n d) e ↔ Only S d e :=
  Only.iff (T := offerParts n) (by simp [sendCaps]) hS

@[simp] theorem only_recomputeOffer (n : Nat) (hS : Within (offerParts n) S = true) : Only S (recomputeOffer n d) e ↔ Only S d e :=
  Only.iff (T := offerParts n) (by simp [recomputeOffer]) hS

theorem unoffered_sendCaps (n : Nat) (d : Dev) (k : Nat) : unoffered (cable (sendCaps n d) k) = unoffered (cable d k) := by
  by_cases hk : k = n
  · subst hk
    unfold sendCaps lowOffer
    dsimp only
    split
    · split
      · rw [cable_needStep]
      · rfl
    split
    · rfl
    split
    · rw [unoffered_of_unsaid (unsaid_pdSend _ _ _ _), cable_setCable_self]
      rfl
    · rw [unoffered_of_unsaid (unsaid_pdSend _ _ _ _), cable_disarm, cable_disarm, cable_setCable_self]
      rfl
  · rw [(show Only (offerParts n) (sendCaps n d) d by simp).cable k (by simp [Part.seenIn, Ne.symm hk])]

theorem unoffered_recomputeOffer (n : Nat) (d : Dev) (k : Nat) : unoffered (cable (recomputeOffer n d) k) = unoffered (cable d k) := by
  by_cases hk : k = n
  · subst hk
    unfold recomputeOffer lowOffer
    dsimp only
    split
    · split
      · rw [cable_needStep]
      · rfl
    split
    · rw [cable_setCable_self]
      rfl
    split
    · split
      · rw [cable_needStep]
      · rfl
    split
    · rfl
    split
    · rw [unoffered_of_unsaid (unsaid_pdSend _ _ _ _), unoffered_sendCaps]
    · rw [unoffered_sendCaps]
  · rw [(show Only (offerParts n) (recomputeOffer n d) d by simp).cable k (by simp [Part.seenIn, Ne.symm hk])]

end

end Sys2Proof.Proofs.PdMessages


/-! SUPPORT. Writes of the heat and air folios (chapter 15). -/

namespace Sys2Proof.Proofs.HeatWrites

open Sys2Proof Sys2Proof.Machine Sys2Proof.Safety
open Sys2Proof.Proofs.StepAndTimers
open Sys2Proof.Proofs.ShapersAndTally
open Sys2Proof.Proofs.Frames
open Sys2Proof.Proofs.Running
open Sys2Proof.Proofs.Shepherd
open Sys2Proof.Proofs.FanChannels
open Sys2Proof.Proofs.CriticalComparator (foldl_at)
open Sys2Proof.Proofs.PdMessages
open Sys2Proof.Proofs.RowWrites
open Sys2Proof.Proofs.HostWindow (leNat_leBytes)

section
variable {S : List Part} {d e t : Dev} {sess obj el v n m f : Nat} {k : ObjKind}

/-- An element that may be written is there. -/
theorem present_of_admitted (h : AdmittedValue d sess obj el v) (hobj : objAt obj = some (k, n)) :
    kindAbsent (hush d) k n = false ∧ elemAbsent (hush d) k n el = false := by
  obtain ⟨⟨x, hx, -⟩, -⟩ := h
  unfold odElem at hx
  rw [hobj] at hx
  dsimp only at hx
  split at hx
  · cases hx
  next habsent => simpa using habsent

/-- What a write that passes has passed (R130). -/
theorem passed_of_admitted {r : Role} {x : Elem} {payload : List Byte} (h : odVerify d sess r obj el payload = stOk)
    (hobj : objAt obj = some (k, n)) (hx : odElem d obj el = some x) :
    odBusy d obj true = false ∧ odStatus d obj el = exOk ∧ mayWrite d sess r k obj el x = true ∧
      sizeFits k el payload.length x.ty = true ∧ inRangeOf d sess k n el x (leNat payload) = true ∧
      writeCheck d sess k n obj el (leNat payload) = stOk := by
  unfold odVerify at h
  rw [hobj, hx] at h
  dsimp only at h
  split at h
  · cases h
  next hbusy =>
  split at h
  next hex => exact absurd h (by simpa [stOk, exOk] using hex)
  next hex =>
  split at h
  · cases h
  next hmay =>
  split at h
  · cases h
  next hsize =>
  split at h
  · cases h
  next hrange => simpa using ⟨by simpa using hbusy, by simpa using hex, by simpa using hmay, by simpa using hsize, by simpa using hrange, h⟩

theorem odVerify_of_passed {r : Role} {x : Elem} {payload : List Byte} (hobj : objAt obj = some (k, n)) (hx : odElem d obj el = some x)
    (hbusy : odBusy d obj true = false) (hex : odStatus d obj el = exOk) (hmay : mayWrite d sess r k obj el x = true)
    (hsize : sizeFits k el payload.length x.ty = true) (hrange : inRangeOf d sess k n el x (leNat payload) = true) :
    odVerify d sess r obj el payload = writeCheck d sess k n obj el (leNat payload) := by
  unfold odVerify
  rw [hobj, hx]
  simp [hbusy, hex, hmay, hsize, hrange]

/-- A write that a check refuses reports that and does nothing. -/
theorem rowWrite_refused {st : Nat} {payload : List Byte} (hserves : odServes d = true)
    (hst : odVerify d sess .custodian obj el payload = st) (hne : st ≠ stOk) :
    rowWrite sess obj el payload d = emit (.status (BitVec.ofNat 8 st)) d := by
  unfold rowWrite
  rw [hserves, hst]
  dsimp only
  rw [if_neg hne]
  rfl

theorem objAt_sensor (r : Fin 4) : objAt (0xC400 + r.val) = some (.sensor, r.val) := by
  revert r
  decide

theorem objAt_fan (f : Fin 2) : objAt (fanObj f.val) = some (.fan, f.val) := by
  revert f
  decide

/-! ### AGEING before there is a baseline -/

/-- The element COMMISSION of a channel. -/
theorem elem_commission (d : Dev) (f : Fin 2) (h : kindAbsent d .fan f.val = false) : ∃ x : Elem, x.ty = .enum ∧
    x.lo = 0 ∧ x.hi = 2 ∧ odElem d (fanObj f.val) 15 = some x := by
  have helem : ∃ x, elemOf .fan f.val 15 = some x ∧ x.ty = .enum ∧ x.lo = 0 ∧ x.hi = 2 := ⟨_, rfl, rfl, rfl, rfl⟩
  obtain ⟨x, hx, hty, hlo, hhi⟩ := helem
  refine ⟨x, hty, hlo, hhi, ?_⟩
  unfold odElem
  rw [objAt_fan]
  simp [h, elemAbsent, hx]

/-- A write of AGEING where a write of BASELINE would pass, before a baseline was found. -/
theorem rowValue_ageing_refused (f : Fin 2) (h : AdmittedValue d 1 (fanObj f.val) 15 1) (hbase : (fanOf d f.val).base = []) :
    rowValue 1 (fanObj f.val) 15 2 (hush d) = emit (.status 0x14) (hush d) := by
  obtain ⟨x, hty, hlo, hhi, hx⟩ := elem_commission (hush d) f (present_of_admitted h (objAt_fan f)).1
  have hbytes (v : Nat) (hv : v < 256) : leNat (leBytes 1 v) = v := (leNat_leBytes _ _).trans (Nat.mod_eq_of_lt hv)
  obtain ⟨-, hserves, hok⟩ := h
  have hone : octetsOf d (fanObj f.val) 15 1 = leBytes 1 1 := by
    unfold octetsOf
    rw [hx]
    dsimp only
    rw [hty]
    rfl
  rw [hone] at hok
  obtain ⟨hbusy, hex, hmay, -, -, -⟩ := passed_of_admitted hok (objAt_fan f) hx
  have hverify : odVerify (hush d) 1 .custodian (fanObj f.val) 15 (leBytes 1 2) = stRange := by
    rw [odVerify_of_passed (objAt_fan f) hx hbusy hex hmay (by rw [hty]; rfl) ?_, hbytes 2 (by decide)]
    · unfold writeCheck checkOther
      have hnone : (fanOf (hush d) f.val).base = [] := hbase
      simp [hnone, need]
    · rw [hbytes 2 (by decide)]
      unfold inRangeOf
      rw [hty]
      simp [rangeOf, hlo, hhi, valueOf, inGap]
  have hvalue : valueBytes (hush d) (fanObj f.val) 15 2 = some (leBytes 1 2) := by
    unfold valueBytes
    rw [hx]
    dsimp only
    rw [hty]
    rfl
  unfold rowValue
  rw [hvalue]
  exact rowWrite_refused hserves hverify (by decide)

theorem hasFan_of_present (f : Fin 2) (h : kindAbsent d .fan f.val = false) : hasFan d f.val = true := by
  unfold hasFan
  have h' : f.val = 1 → hasUnit d 6 = true := by simpa [kindAbsent] using h
  have hf := f.isLt
  rcases Nat.lt_or_ge f.val 1 with h0 | h1
  · simp [show f.val = 0 by omega]
  · simp [h' (by omega)]

/-- A channel whose routine begins. -/
def commBegun (v : Nat) (x : Fan) : Fan := { x with commState := 1, commKind := v, commDuty := 1024, commFound := [] }

theorem commission_starts (hhas : hasFan d f = true) (hkind : v = 1 ∨ (v = 2 ∧ (fanOf d f).base ≠ [])) :
    commission f v d = commPhase f 0 (setFan f (commBegun v) d) := by
  unfold commission
  rw [if_neg (by simp [hhas]), if_neg (by omega), if_neg]
  · rfl
  · rintro (h | ⟨h, hbase⟩)
    · omega
    · rcases hkind with hk | ⟨-, hne⟩
      · omega
      · exact hne hbase

theorem commission_aborts (hhas : hasFan d f = true) (hruns : (fanOf d f).commState = 1) : commission f 0 d = commEnd f 5 d := by
  unfold commission commAbort
  rw [if_neg (by simp [hhas]), if_pos rfl, if_pos hruns]

theorem fanOf_commPhase_other (i : Nat) {g : Nat} (hg : g ≠ f) : fanOf (commPhase f i d) g = fanOf d g := by
  unfold commPhase
  rw [fanOf_arm, fanOf_fanUpdate_other _ hg, fanOf_setFan_other hg]

theorem fanOf_commEnd_other (state : Nat) {g : Nat} (hg : g ≠ f) : fanOf (commEnd f state d) g = fanOf d g := by
  unfold commEnd
  rw [fanOf_fanUpdate_other _ hg, fanOf_disarm, fanOf_setFan_other hg]

/-- A channel's duty is a matter of the channels alone. -/
theorem heat_fanUpdate (f : Nat) (d : Dev) : { (fanUpdate f d).heat with fans := [] } = { d.heat with fans := [] } := by
  unfold fanUpdate
  dsimp only
  split <;> rfl

theorem heat_commPhase (i : Nat) (d : Dev) : { (commPhase f i d).heat with fans := [] } = { d.heat with fans := [] } :=
  heat_fanUpdate f _

theorem heat_fansFollow (d : Dev) : { (fansFollow d).heat with fans := [] } = { d.heat with fans := [] } :=
  (heat_fanUpdate 1 _).trans (heat_fanUpdate 0 d)

/-! ### A heartbeat -/

/-- What a heartbeat does before the fans follow. -/
def beaten (d : Dev) : Dev :=
  let u := onHeat (fun h => { h with silent := false }) d
  if cfg d 0xC700 0 = 0 then disarm .heartbeat u else arm .heartbeat (cfg d 0xC700 0 * ms) u

@[simp] theorem only_beaten (hS : Within [.heat, .timer .heartbeat] S = true) : Only S (beaten d) e ↔ Only S d e :=
  Only.iff (T := [.heat, .timer .heartbeat]) (by simp [beaten]) hS

theorem heartbeat_eq (d : Dev) : heartbeat d = fansFollow (beaten d) := rfl

theorem silent_beaten (d : Dev) : (beaten d).heat.silent = false := by
  unfold beaten
  dsimp only
  split <;> rfl

/-! ### RESTART -/

@[simp] theorem only_setCeilings (n : Nat) (a b : Option Nat) (hS : Within [.cable n] S = true) :
    Only S (setCeilings n a b d) e ↔ Only S d e :=
  Only.iff (T := [.cable n]) (by simp [setCeilings]) hS

@[simp] theorem only_releaseCeiling (n : Nat) (hS : Within (offerParts n) S = true) : Only S (releaseCeiling n d) e ↔ Only S d e :=
  Only.iff (T := offerParts n) (by simp [releaseCeiling]) hS

/-- No ceiling is in force on a port. -/
def Unceiled (c : Cable) : Prop := c.thermCeil = none ∧ c.sinkCeil = none

theorem unceiled_of_unoffered {x y : Cable} (h : unoffered x = unoffered y) (hy : Unceiled y) : Unceiled x :=
  ⟨(congrArg Cable.thermCeil h :).trans hy.1, (congrArg Cable.sinkCeil h :).trans hy.2⟩

theorem unceiled_releaseCeiling (n : Nat) (d : Dev) : Unceiled (cable (releaseCeiling n d) n) := by
  unfold releaseCeiling
  dsimp only
  split
  next h => simpa [Unceiled] using h
  · have hset : Unceiled (cable (setCable n (fun c => { c with hotSince := none, coolSince := none }) (setCeilings n none none d)) n) := by
      rw [cable_setCable_self, setCeilings, cable_setCable_self]
      exact ⟨rfl, rfl⟩
    split
    · exact hset
    · exact unceiled_of_unoffered (unoffered_recomputeOffer _ _ _) hset

theorem cable_releaseCeiling_other (hm : m ≠ n) : cable (releaseCeiling n d) m = cable d m :=
  (show Only (offerParts n) (releaseCeiling n d) d by simp).cable m (by simp [Part.seenIn, hm.symm])

/-- Every ceiling is released. -/
def releaseAll (d : Dev) : Dev := (List.range 8).foldl (fun d n => releaseCeiling n d) d

theorem unceiled_releaseAll (hn : n < 8) (d : Dev) : Unceiled (cable (releaseAll d) n) := by
  obtain ⟨u, -, hlast⟩ := foldl_at (R := fun t d => cable t n = cable d n) (fun _ => rfl) (fun h h' => h.trans h') List.nodup_range
    (List.mem_range.mpr hn) (fun u m _ hm => cable_releaseCeiling_other (n := m) (d := u) hm.symm) d
  unfold releaseAll
  rw [hlast]
  exact unceiled_releaseCeiling n u

theorem only_releaseAll : Only [.cables, .timers, .out, .shepDue] (releaseAll d) d :=
  Only.foldl _ (fun u n _ => by simp) d


theorem only_modelStart : Only [.heat] (modelStart d) d := by simp [modelStart]

/-- The channels aside, heat and air are as the model's start left them. -/
theorem restartModel_runs (h : hasUnit d 4 = true) : restartModel true d = fansFollow (releaseAll (modelStart d)) := by
  unfold restartModel
  rw [h]
  rfl

theorem ambient_of_nodes (d : Dev) {i : Nat} (h5 : 5 ≤ i) (h16 : i < 16) : (modelStart d).heat.t.getD i 0 = ambient d := by
  unfold modelStart onHeat
  dsimp only
  rw [List.getD_append_right _ _ _ _ (by simpa using h5), List.getD_replicate _ (by simp; omega)]

end

/-- Settles O31, write by write; a release of every ceiling leaves no port under one, whatever offers it makes on the way. -/
theorem heatWrites : Obligations.HeatWrites := by
  unfold Obligations.HeatWrites
  refine ⟨fun s h => ?_, fun s r h => ?_, fun s f v h hkind => ?_, fun s f h hruns => ?_, fun s f h hbase => ?_, fun s h => ?_⟩
  · have hmodel : hasUnit (hush s.dev) 4 = true := by simpa [kindAbsent] using (present_of_admitted h (k := .model) (n := 0) rfl).1
    have hrun : restartModel (1 == 1) (hush s.dev) = _ := restartModel_runs hmodel
    refine serves_action rfl h (k := .model) (n := 0) rfl rfl rfl hrun ?_
    have hceil (n : Nat) (hn : n < 8) := unceiled_releaseAll hn (modelStart (hush s.dev))
    have hnodes (i : Nat) (h5 : 5 ≤ i) (h16 : i < 16) := ambient_of_nodes (hush s.dev) h5 h16
    have hrel : Only [.cables, .timers, .out, .shepDue] (releaseAll (modelStart (hush s.dev))) (modelStart (hush s.dev)) := only_releaseAll
    have hall : Only [.heat, .cables, .timers, .out, .shepDue, .odBook, .irq]
        (settle (emit (.status 0) (fansFollow (releaseAll (modelStart (hush s.dev)))))) s.dev := by
      refine (only_settle (by decide)).mpr ((only_emit _ (by decide)).mpr ((only_fansFollow (by decide)).mpr ?_))
      exact (hrel.mono (by decide)).trans ((only_modelStart.mono (by decide)).trans ((only_hush (by decide)).mpr (.refl _ _)))
    have hheat : (releaseAll (modelStart (hush s.dev))).heat = (modelStart (hush s.dev)).heat := hrel.heat rfl
    have hcable (n : Nat) : cable (settle (emit (.status 0) (fansFollow (releaseAll (modelStart (hush s.dev)))))) n =
        cable (releaseAll (modelStart (hush s.dev))) n :=
      (show Only [.heat, .out, .odBook, .irq] (settle (emit (.status 0) (fansFollow (releaseAll (modelStart (hush s.dev))))))
        (releaseAll (modelStart (hush s.dev))) by simp).cable n rfl
    generalize releaseAll (modelStart (hush s.dev)) = u at hall hceil hheat hcable
    have hfans := heat_fansFollow u
    rw [hheat] at hfans
    have hsettled : (settle (emit (.status 0) (fansFollow u))).heat = (fansFollow u).heat := settle_heat _
    refine ⟨?_, ?_, fun i h5 h16 => ?_, fun n hn => ?_, ?_, hall.odCfg rfl, hall.slots rfl, hall.otp rfl, hall.flash rfl, hall.sameAon (by decide)⟩
    · rw [hsettled]; exact (congrArg (·.fault) hfans :)
    · rw [hsettled]; exact (congrArg (·.lastStepAt) hfans :)
    · rw [hsettled]; refine .trans ?_ (hnodes i h5 h16); exact (congrArg (·.t.getD i 0) hfans :)
    · rw [hcable]; exact hceil n hn
    · rw [hsettled]; exact (congrArg (·.sensors) hfans :)
  · refine answers_action rfl h (objAt_sensor r) rfl rfl rfl ⟨?_, ?_, fun m hm => ?_⟩
    · rw [settle_heat]
      exact became_settle (emit (.status 0) (retrySensor r.val true (hush s.dev)))
    · unfold sensorOf
      rw [settle_heat]
      exact tget_tset_self _ _ _ _
    · unfold sensorOf
      rw [settle_heat]
      exact tget_tset_other _ _ _ hm
  · have hhas : hasFan (hush s.dev) f.val = true := hasFan_of_present f (present_of_admitted h (objAt_fan f)).1
    refine serves_action rfl h (objAt_fan f) rfl rfl (commission_starts hhas hkind) ?_
    have hall : Only [.heat, .timer (.comm f.val), .out, .odBook, .irq]
        (settle (emit (.status 0) (commPhase f.val 0 (setFan f.val (commBegun v) (hush s.dev))))) s.dev := by
      simp
    have hfan := undriven_commPhase (f := f.val) 0 (setFan f.val (commBegun v) (hush s.dev))
    rw [fanOf_setFan_self] at hfan
    have hother (g : Nat) (hg : g ≠ f.val) : fanOf (commPhase f.val 0 (setFan f.val (commBegun v) (hush s.dev))) g = fanOf s.dev g :=
      (fanOf_commPhase_other 0 hg).trans (fanOf_setFan_other hg)
    have hran := runsFor_commPhase (f := f.val) 0 (setFan f.val (commBegun v) (hush s.dev))
    have hheat := heat_commPhase (f := f.val) 0 (setFan f.val (commBegun v) (hush s.dev))
    generalize commPhase f.val 0 (setFan f.val (commBegun v) (hush s.dev)) = u at hall hfan hother hran hheat
    refine ⟨?_, ?_, ?_, ?_, fun g hg => ?_, ?_, hall.odCfg rfl, hall.sameSwitch (by simp [Part.seenIn]), hall.samePower rfl, hall.sameTime rfl, hall.sameAon (by simp [Part.seenIn])⟩
    · rw [fanOf_settle]; exact (congrArg Fan.commState hfan :)
    · rw [fanOf_settle]; exact (congrArg Fan.commKind hfan :)
    · rw [fanOf_settle]; exact (congrArg Fan.commStep hfan :)
    · exact runsFor_settle.mpr hran
    · rw [fanOf_settle]; exact hother g hg
    · rw [settle_heat]; exact (congrArg (·.sensors) hheat :)
  · have hhas : hasFan (hush s.dev) f.val = true := hasFan_of_present f (present_of_admitted h (objAt_fan f)).1
    refine serves_action rfl h (objAt_fan f) rfl rfl (commission_aborts hhas hruns) ?_
    have hall : Only [.heat, .timer (.comm f.val), .out, .odBook, .irq] (settle (emit (.status 0) (commEnd f.val 5 (hush s.dev)))) s.dev := by
      simp
    have hfan := undriven_commEnd (f := f.val) 5 (hush s.dev) f.val
    rw [if_pos rfl] at hfan
    have hstopped := armed_commEnd (f := f.val) 5 (hush s.dev)
    have hother (g : Nat) (hg : g ≠ f.val) : fanOf (commEnd f.val 5 (hush s.dev)) g = fanOf s.dev g := fanOf_commEnd_other 5 hg
    generalize commEnd f.val 5 (hush s.dev) = u at hall hfan hother hstopped
    refine ⟨?_, ?_, fun g hg => ?_, hall.odCfg rfl, hall.sameSwitch (by simp [Part.seenIn]), hall.samePower rfl, hall.sameTime rfl, hall.sameAon (by simp [Part.seenIn])⟩
    · rw [fanOf_settle]; exact (congrArg Fan.commState hfan :)
    · rw [armed_settle]; exact hstopped
    · rw [fanOf_settle]; exact hother g hg
  · exact answers_of_effect rfl (rowValue_ageing_refused f h hbase) (became_settle _)
  · refine serves_action rfl h (k := .heartbeat) (n := 0) rfl rfl rfl (heartbeat_eq _) ?_
    have hbeat : Only [.heat, .timer .heartbeat, .out, .odBook] (beaten (hush s.dev)) s.dev := by simp
    have hfollow : Only [.heat] (fansFollow (beaten (hush s.dev))) (beaten (hush s.dev)) := by simp
    have hall : Only [.heat, .timer .heartbeat, .out, .odBook, .irq]
        (settle (emit (.status 0) (fansFollow (beaten (hush s.dev))))) s.dev :=
      (only_settle (by decide)).mpr ((only_emit _ (by decide)).mpr ((hfollow.mono (by decide)).trans (hbeat.mono (by decide))))
    have hsilent := silent_beaten (hush s.dev)
    refine ⟨?_, fun hoff => ?_, fun hon => ?_, hall.odCfg rfl, hall.sameSwitch (by decide), hall.samePower rfl, hall.sameTime rfl,
      hall.sameAon (by decide)⟩
    · rw [settle_heat]
      exact (congrArg (·.silent) (heat_fansFollow (beaten (hush s.dev))) :).trans hsilent
    · rw [armed_settle]
      refine (hfollow.armed .heartbeat rfl).trans ?_
      have hoff' : cfg (hush s.dev) 0xC700 0 = 0 := hoff
      unfold beaten
      dsimp only
      rw [if_pos hoff']
      exact armed_disarm_self _ _
    · refine runsFor_settle.mpr ?_
      have hon' : cfg (hush s.dev) 0xC700 0 ≠ 0 := hon
      have hran : runsFor .heartbeat (cfg s.dev 0xC700 0 * ms) (beaten (hush s.dev)) := by
        unfold beaten
        dsimp only
        rw [if_neg hon']
        exact runsFor_arm_self
      exact (hfollow.runsFor .heartbeat rfl (hfollow.now rfl)).mpr hran
end Sys2Proof.Proofs.HeatWrites


/-! SUPPORT. Writes that reach the tables (chapters 12 and 13): flushes, EDITOR, and the route commands. -/

namespace Sys2Proof.Proofs.TableWrites

open Sys2Proof Sys2Proof.Machine Sys2Proof.Safety
open Sys2Proof.Proofs.StepAndTimers
open Sys2Proof.Proofs.ShapersAndTally
open Sys2Proof.Proofs.Frames
open Sys2Proof.Proofs.Running
open Sys2Proof.Proofs.RoutesAtWork (sel_setSel_self sel_settle)
open Sys2Proof.Proofs.RowWrites
open Sys2Proof.Proofs.Stores (cfg_setCfg_self)
open Sys2Proof.Proofs.CycleStart (only_noteChange)

section
variable {S : List Part} {d e : Dev} {s : State} {c : Instr} {P : Dev → Prop} {sess obj el v n : Nat} {k : ObjKind} {payload : List Byte}

/-- A write is what it does, with its entry for the journal. -/
theorem only_odWriteNow : Only noteParts (odWriteNow d sess obj el payload) (odPerform d sess obj el payload) := by
  unfold odWriteNow
  dsimp only
  split
  · exact (only_noteChange _ (by decide)).mpr (.refl _ _)
  · exact .refl _ _

/-- What a write of a value that is served leaves behind, apart from the journal's record of it. -/
theorem serves_noted (hexec : exec c s = run (rowValue sess obj el v) s) (h : AdmittedValue s.dev sess obj el v)
    (hP : ∀ t, Only (.timer .journal :: [.out, .odBook, .irq]) t (odPerform (hush s.dev) sess obj el (octetsOf s.dev obj el v)) → P t) :
    Serves c s P := by
  refine serves_stored hexec h rfl (hP _ ?_)
  exact (only_settle (by decide)).mpr ((only_emit _ (by decide)).mpr (only_odWriteNow.mono (by decide)))

theorem odPerform_action (hobj : objAt obj = some (k, n)) (hact : isAction k el = true) :
    odPerform d sess obj el payload = act d sess k n el (leNat payload) payload := by
  unfold odPerform
  rw [hobj]
  exact if_pos hact

/-- A flush that starts, by a write. -/
theorem flush_serves {f : FlushSel} (hexec : exec c s = run (rowValue sess obj el v) s) (h : AdmittedValue s.dev sess obj el v)
    (hobj : objAt obj = some (k, n)) (hact : isAction k el = true)
    (hflush : act (hush s.dev) sess k n el v (octetsOf s.dev obj el v) = flushStart f (hush s.dev)) :
    Serves c s fun t =>
      (∀ x, x ∈ t.st.ways ↔ x ∈ s.dev.st.ways ∧ (flushes f x.2 = false ∨ isLocked s.dev tStation (x.1 / 4) = true)) ∧
      (∀ x, x ∈ t.st.stash ↔ x ∈ s.dev.st.stash ∧ (flushes f x.2 = false ∨ isLocked s.dev tStash 0 = true)) ∧
      t.st.flushing = s.dev.st.flushing ++ [f] ∧ runsFor .flushEnd ms t ∧ t.st.vlans = s.dev.st.vlans ∧
      t.rt = s.dev.rt ∧ t.cls = s.dev.cls ∧ t.fab = s.dev.fab ∧ t.od.cfg = s.dev.od.cfg ∧ SamePower t s.dev ∧
      SameTime t s.dev ∧ SameStores t s.dev ∧ SameAon t s.dev := by
  refine serves_noted hexec h fun t ht => ?_
  rw [odPerform_action hobj hact, leNat_octetsOf h, hflush] at ht
  have hstart : Only [.st, .timer .flushEnd] (flushStart f (hush s.dev)) (hush s.dev) := by simp [flushStart]
  have hall : Only [.st, .timer .flushEnd, .timer .journal, .out, .odBook, .irq] t s.dev :=
    (ht.mono (by decide)).trans ((hstart.mono (by decide)).trans ((only_hush (by decide)).mpr (.refl _ _)))
  have hst : t.st = (flushStart f (hush s.dev)).st := ht.st rfl
  refine ⟨fun x => ?_, fun x => ?_, by rw [hst]; rfl, ?_, by rw [hst]; rfl, hall.rt rfl, hall.cls rfl, hall.fab rfl, hall.odCfg rfl,
    hall.samePower rfl, hall.sameTime rfl, hall.sameStores (by decide), hall.sameAon (by decide)⟩
  · rw [hst]
    have hmem : x ∈ (flushStart f (hush s.dev)).st.ways ↔
        x ∈ s.dev.st.ways ∧ (!flushes f x.2 || isLocked s.dev tStation (x.1 / 4)) = true := List.mem_filter
    simpa using hmem
  · rw [hst]
    have hmem : x ∈ (flushStart f (hush s.dev)).st.stash ↔
        x ∈ s.dev.st.stash ∧ (!flushes f x.2 || isLocked s.dev tStash 0) = true := List.mem_filter
    simpa using hmem
  · exact (ht.runsFor .flushEnd rfl (ht.now rfl)).mpr runsFor_arm_self

theorem objAt_vlanPort (p : SPort) : objAt (vlanPortObj p.val) = some (.vlanPort, p.val) := by
  revert p
  decide

theorem odPerform_editor : odPerform d 1 0x9500 0 payload =
    if cfg d 0x9500 0 = leNat payload then setCfg 0x9500 0 (leNat payload) d else clearRoutes (setCfg 0x9500 0 (leNat payload) d) := rfl

/-- The command that a session's selectors make. -/
def routeAsked (d : Dev) (s op : Nat) : RouteCmd :=
  let len := sel d s 0x9600 3
  let octets := leBytes 16 (sel d s 0x9600 2)
  let v6 := sel d s 0x9600 1 == 1
  let addr := if v6 then maskTo (beNat octets) len else beNat (octets.take 4) / 2 ^ (32 - len) * 2 ^ (32 - len)
  { add := op == 1, sess := s
    route := { vrf := sel d s 0x9600 0, v6 := v6, addr := BitVec.ofNat 128 addr, length := len, nh := sel d s 0x9600 4 } }

theorem routeStart_eq (s op : Nat) (d : Dev) :
    routeStart s op d = setSel s 0x9600 5 rRunning (onRt (fun t => { t with running := some (routeAsked d s op) }) d) := rfl

end

/-- Settles O30: a flush, EDITOR and the two route commands, each apart from the journal's record of the write. -/
theorem tableWrites : Obligations.TableWrites := by
  unfold Obligations.TableWrites
  refine ⟨?_, fun s v h => ?_, fun s sess add h => ?_⟩
  · rintro s c f (⟨p, rfl, h, rfl⟩ | ⟨fid, rfl, h, rfl⟩)
    · exact flush_serves rfl h (objAt_vlanPort p) rfl rfl
    · exact flush_serves rfl h (k := .station) (n := 0) rfl rfl rfl
  · refine serves_noted rfl h fun t ht => ?_
    rw [odPerform_editor, leNat_octetsOf h] at ht
    obtain hsame | hdiffers := eq_or_ne v (cfg s.dev 0x9500 0)
    · rw [if_pos (show cfg (hush s.dev) 0x9500 0 = v from hsame.symm)] at ht
      have hall : Only [.od, .timer .journal, .out, .irq] t s.dev := (ht.mono (by decide)).trans (by simp)
      exact ⟨(ht.cfg rfl 0x9500 0).trans (cfg_setCfg_self _ _ _ _), fun hne => absurd hsame hne, fun _ => hall.rt rfl,
        congrArg _ (hall.st rfl), hall.cls rfl, hall.fab rfl, hall.samePower rfl, hall.sameTime rfl, hall.sameStores (by decide),
        hall.sameAon (by decide)⟩
    · rw [if_neg (show cfg (hush s.dev) 0x9500 0 ≠ v from hdiffers.symm)] at ht
      have hall : Only [.od, .timer .journal, .out, .irq, .st, .rt] t s.dev := (ht.mono (by decide)).trans (by simp [clearRoutes])
      exact ⟨(ht.cfg rfl 0x9500 0).trans (cfg_setCfg_self _ _ _ _), fun _ => ht.rt rfl, fun heq => absurd heq hdiffers,
        congrArg (·.ways) (ht.st rfl), hall.cls rfl, hall.fab rfl, hall.samePower rfl, hall.sameTime rfl, hall.sameStores (by decide),
        hall.sameAon (by decide)⟩
  · have hobj : objAt 0x9600 = some (.routeCommand, 0) := rfl
    have hexec : exec (if add then .routeAdd sess else .routeDelete sess) s = run (rowValue sess.toNat 0x9600 6 (if add then 1 else 2)) s := by
      cases add <;> rfl
    refine serves_action hexec h hobj rfl rfl (routeStart_eq _ _ _) ?_
    have hall : Only [.od, .rt, .out, .irq] (settle (emit (.status 0) (setSel sess.toNat 0x9600 5 rRunning
        (onRt (fun t => { t with running := some (routeAsked (hush s.dev) sess.toNat (if add then 1 else 2)) }) (hush s.dev))))) s.dev := by
      simp
    refine ⟨⟨routeAsked (hush s.dev) sess.toNat (if add then 1 else 2), ?_, ?_, rfl, rfl, rfl, rfl, rfl⟩, ?_, ?_, hall.st rfl, hall.cls rfl,
      hall.fab rfl, hall.samePower rfl, hall.sameTime rfl, hall.sameStores (by decide), hall.sameAon (by decide)⟩
    · rw [settle_rt]
      rfl
    · cases add <;> rfl
    · rw [sel_settle]
      exact sel_setSel_self _ _ _ _
    · rw [settle_od_cfg]
      rfl

end Sys2Proof.Proofs.TableWrites


/-! SUPPORT. Programming writes of the fuse folio (chapter 16). -/

namespace Sys2Proof.Proofs.FuseBurns

open Sys2Proof Sys2Proof.Machine Sys2Proof.Safety
open Sys2Proof.Proofs.StepAndTimers
open Sys2Proof.Proofs.ShapersAndTally
open Sys2Proof.Proofs.Frames
open Sys2Proof.Proofs.Running
open Sys2Proof.Proofs.HostWindow (length_leBytes leNat_leBytes underConds_of_met)
open Sys2Proof.Proofs.RowWrites

section
variable {d u : Dev} {s : State} {c : Instr} {sess obj el v n l a : Nat} {k : ObjKind} {payload : List Byte}

/-! ### A write that acts -/

/-- A command is a write that is served, with an action that leads to `u`. -/
def Acts (c : Instr) (s : State) (u : Dev) : Prop := ∃ f : Dev → Dev, exec c s = run f s ∧ f (hush s.dev) = emit (.status 0) u

theorem Acts.answers {P : Dev → Prop} (h : Acts c s u) (hP : P (settle (emit (.status 0) u))) : Answers c s P := by
  obtain ⟨f, hexec, heffect⟩ := h
  exact answers_of_effect hexec heffect hP

theorem Acts.became {w : Dev} (h : Acts c s u) (hw : emit (.status 0) u = w) : Answers c s fun t => Became t w :=
  h.answers (hw ▸ became_settle _)

theorem Acts.serves {P : Dev → Prop} (h : Acts c s u) (hP : P (settle (emit (.status 0) u))) : Serves c s P := by
  refine h.answers ⟨?_, hP⟩
  rw [settle_out, emit_status]
  exact List.mem_append_right _ (List.mem_singleton.mpr rfl)

theorem acts_of_value (hexec : exec c s = run (rowValue sess obj el v) s) (h : AdmittedValue s.dev sess obj el v)
    (hobj : objAt obj = some (k, n)) (hact : isAction k el = true) (hplain : journaledAction k el = false)
    (hu : act (hush s.dev) sess k n el v (octetsOf s.dev obj el v) = u) : Acts c s u := by
  refine ⟨_, hexec, (rowValue_admitted h).trans ?_⟩
  rw [odWriteNow_action hobj hact hplain, leNat_octetsOf h, hu]

theorem acts_of_octets (hexec : exec c s = run (rowWrite sess obj el payload) s) (h : Admitted s.dev sess obj el payload)
    (hobj : objAt obj = some (k, n)) (hact : isAction k el = true) (hplain : journaledAction k el = false)
    (hu : act (hush s.dev) sess k n el (leNat payload) payload = u) : Acts c s u := by
  refine ⟨_, hexec, (rowWrite_admitted h).trans ?_⟩
  rw [odWriteNow_action hobj hact hplain, hu]

/-! ### Octets and words -/

theorem beNat_beBytes (n v : Nat) : beNat (beBytes n v) = v % 256 ^ n := by
  unfold beNat beBytes
  rw [List.reverse_reverse, leNat_leBytes]

theorem length_leWords : (payload : List Byte) → (leWords payload).length = payload.length / 4
  | [] | [_] | [_, _] | [_, _, _] => by simp [leWords]
  | a :: b :: c :: e :: l => by
    simp only [leWords, List.length_cons, length_leWords l]
    omega

/-- A key has eight words. -/
theorem length_keyWords (v : Nat) : (leWords (beBytes 32 v)).length = 8 := by
  rw [length_leWords]
  simp [beBytes, length_leBytes]

/-! ### The fuses read alike -/

/-- The bits burned, and those left weak, are the same. -/
def SameFuses (t d : Dev) : Prop := t.otp.array = d.otp.array ∧ t.otp.marginal = d.otp.marginal

theorem otpSeen_congr (h : SameFuses u d) (a : Nat) : otpSeen u a = otpSeen d a := by
  unfold otpSeen otpWeak
  rw [h.1, h.2]

theorem logical_congr (h : SameFuses u d) (l : Nat) : logical u l = logical d l := by
  unfold logical otpRaw
  rw [h.1]

theorem logicalTodo_congr (h : SameFuses u d) (l v : Nat) : logicalTodo u l v = logicalTodo d l v := by
  unfold logicalTodo otpFirm otpWeak
  rw [h.1, h.2]

theorem walk_congr (h : SameFuses u d) (b : OtpBank) : walk u b = walk d b := by
  have hword : otpWord u = otpWord d := by
    funext a
    unfold otpWord otpRaw
    rw [h.1]
  unfold walk
  rw [hword]

theorem uid_congr (h : SameFuses u d) : uid u = uid d := by
  unfold uid recordOf
  rw [walk_congr h]

/-! ### Conditions and burns -/

/-- The conditions of a programming write judged. -/
def judged (c : Nat) (d : Dev) : Dev := onOtp (fun o => { o with condFail := BitVec.ofNat 4 c }) d

theorem sameFuses_judged (c : Nat) (d : Dev) : SameFuses (judged c d) d := ⟨rfl, rfl⟩

theorem underConds_met {permitted : Bool} {f : Dev → Dev} (h : firstCond d permitted = 0) : underConds false permitted f d = f (judged 0 d) :=
  underConds_of_met h

theorem underConds_unmet {permitted : Bool} {f : Dev → Dev} (h : firstCond d permitted ≠ 0) :
    underConds false permitted f d = otpResult false oAccess (judged (firstCond d permitted) d) := by
  unfold underConds
  exact if_neg h

/-- A programming write that a condition refuses. -/
def refused (c : Nat) (d : Dev) : Dev := otpResult false oAccess (judged c d)

theorem otpAppend_unmet {record : List Byte} (h : firstCond d true ≠ 0) : otpAppend sess record d = refused (firstCond d true) d := by
  unfold otpAppend
  exact underConds_unmet h

theorem otpVoid_unmet (h : firstCond d true ≠ 0) : otpVoid a d = refused (firstCond d true) d := underConds_unmet h

theorem otpKeyData_unmet {permitted : Bool} {key : Nat}
    (hpermitted : permitted = (sess == 0 && decide (d.otp.lifecycle ≤ 2) && decide (sel d sess 0xD020 0 ≤ 5)))
    (h : firstCond d permitted ≠ 0) : otpKeyData sess key d = refused (firstCond d permitted) d := by
  subst hpermitted
  unfold otpKeyData
  exact underConds_unmet h

theorem otpRevoke_unmet {mask : Nat} (h : firstCond d true ≠ 0) : otpRevoke mask d = refused (firstCond d true) d := underConds_unmet h

theorem otpAdvance_unmet {target : Nat} (h : firstCond d (mayAdvance d sess target) ≠ 0) :
    otpAdvance sess target d = refused (firstCond d (mayAdvance d sess target)) d := underConds_unmet h

/-- A burn that runs. -/
def burning (kind : BurnKind) (todo : List (Nat × BitVec 39)) (o : Otp) : Otp :=
  { o with result := oRunning, burn := some { kind := kind, todo := todo, host := false, failed := oOk } }

/-- A burn whose first word may be burned runs. -/
theorem startBurn_runs {kind : BurnKind} {todo : List (Nat × BitVec 39)} (hsome : todo ≠ [])
    (hblank : ∀ x ∈ todo.head?, hasEcc x.1 = true → kind = .scrap ∨ otpSeen d x.1 = 0) :
    startBurn kind false todo d = onOtp (burning kind todo) d := by
  match todo, hsome with
  | (a, w) :: rest, _ =>
    have hok : ¬ (hasEcc a && otpSeen d a != 0 && decide (kind ≠ .scrap)) = true := by
      have h := hblank (a, w) rfl
      cases hecc : hasEcc a with
      | false => simp
      | true => rcases h hecc with h | h <;> simp [h]
    exact if_neg hok

/-- The copies of a logical word carry no ECC. -/
theorem hasEcc_copyAddr (hl : l ≤ 20) {c : Nat} (hc : c ≤ 2) : hasEcc (copyAddr l c) = false := by
  unfold hasEcc copyAddr
  simp
  omega

theorem mem_logicalTodo {x : Nat × BitVec 39} (h : x ∈ logicalTodo d l v) : ∃ c ≤ 2, x.1 = copyAddr l c := by
  obtain ⟨c, hc, rfl⟩ := List.mem_map.mp h
  have hmem : c ∈ [0, 1, 2] := List.mem_of_mem_filter hc
  exact ⟨c, by simp at hmem; omega, rfl⟩

/-- A burn of logical words alone runs. -/
theorem startBurn_logical {kind : BurnKind} {todo : List (Nat × BitVec 39)} (hsome : todo ≠ [])
    (hlogical : ∀ x ∈ todo, ∃ l ≤ 20, ∃ c ≤ 2, x.1 = copyAddr l c) : startBurn kind false todo d = onOtp (burning kind todo) d := by
  refine startBurn_runs hsome fun x hx hecc => ?_
  obtain ⟨l, hl, c, hc, hat⟩ := hlogical x (List.mem_of_head? hx)
  rw [hat, hasEcc_copyAddr hl hc] at hecc
  cases hecc

/-- A key burned into a blank slot. -/
theorem burnKey_runs {kind : BurnKind} {slot : Nat} {v : Nat} (hblank : ∀ i < 8, otpSeen d (128 + 8 * slot + i) = 0) :
    burnKey kind slot (beBytes 32 v) d = onOtp (burning kind
      (((leWords (beBytes 32 v)).zipIdx.map fun x => (128 + 8 * slot + x.2, BitVec.ofNat 39 (codeword x.1))) ++
        logicalTodo d 2 (logical d 2 ||| 2 ^ slot))) d := by
  have hany : ¬ ((List.range 8).any fun i => otpSeen d (128 + 8 * slot + i) != 0) = true := by
    simpa using hblank
  unfold burnKey
  rw [if_neg hany]
  have hlength := length_keyWords v
  match hwords : leWords (beBytes 32 v), hlength with
  | w :: ws, _ =>
    exact startBurn_runs (by simp) fun x hx _ => .inr (by simp at hx; subst hx; exact hblank 0 (by decide))

/-! ### What each write starts -/

theorem otpVoid_runs {r : OtpRec} (h : firstCond d true = 0)
    (hrec : ((walk d .customer).recs.find? fun r => r.addr == a && usable r) = some r)
    (hblank : otpSeen d (a + r.payload.length + 2) = 0) : otpVoid a d =
      onOtp (burning .voidRec [(a + r.payload.length + 2, BitVec.ofNat 39 (codeword statusVoid))]) (judged 0 d) := by
  have hseen : otpSeen (judged 0 d) (a + r.payload.length + 2) = 0 := (otpSeen_congr (sameFuses_judged 0 d) _).trans hblank
  unfold otpVoid
  rw [underConds_met h, walk_congr (sameFuses_judged 0 d), hrec]
  dsimp only
  rw [if_neg (not_not.mpr hseen)]
  exact startBurn_runs (by simp) fun x hx _ => .inr (by simp at hx; subst hx; exact hseen)

/-- The bank that a session names. -/
def bankNamed (d : Dev) (sess : Nat) : OtpBank := if sel d sess 0xD010 0 = 1 then .patch else .customer

/-- The words of a record with its CRC, from an address on. -/
def recordTodo (ws : List Nat) (at_ : Nat) : List (Nat × BitVec 39) :=
  (ws ++ [(crc32c (wordOctets ws)).toNat]).zipIdx.map fun x => (at_ + x.2, BitVec.ofNat 39 (codeword x.1))

/-- A record that its bank takes, if it has room. -/
def RecordFits (d : Dev) (sess : Nat) (record : List Byte) : Prop :=
  let ws := leWords record
  record.length % 4 = 0 ∧ ws ≠ [] ∧ kindDefined (bankNamed d sess) (ws.headD 0 / 2 ^ 24) = true ∧
    ws.headD 0 / 2 ^ 16 % 256 = ws.length - 1 ∧ wellFormedRecord (ws.headD 0 / 2 ^ 24) (ws.headD 0 % 2 ^ 16) (ws.drop 1) = true

theorem otpAppend_met {record : List Byte} (h : firstCond d true = 0) (hfits : RecordFits d sess record) : otpAppend sess record d =
    if (walk d (bankNamed d sess)).unreadable ∨ bankEnd (bankNamed d sess) < (walk d (bankNamed d sess)).next + (leWords record).length + 2 then
      otpResult false oFull (judged 0 d)
    else startBurn (.record (if bankNamed d sess = .patch then 1 else 0) (walk d (bankNamed d sess)).next ((leWords record).length - 1)) false
      (recordTodo (leWords record) (walk d (bankNamed d sess)).next) (judged 0 d) := by
  obtain ⟨hlen, hws, hkind, hheader, hformed⟩ := hfits
  have hpos : 0 < (leWords record).length := List.length_pos_iff.mpr hws
  unfold otpAppend
  dsimp only
  rw [underConds_met h]
  rw [if_neg]
  · rw [walk_congr (sameFuses_judged 0 d), hheader]
    have hroom : (walk d (bankNamed d sess)).next + ((leWords record).length - 1) + 3 =
        (walk d (bankNamed d sess)).next + (leWords record).length + 2 := by omega
    unfold bankNamed at hroom ⊢
    rw [hroom]
    rfl
  · unfold bankNamed at hkind
    simp only [List.length_drop]
    rintro (h1 | h1 | h1 | h1 | h1)
    · exact h1 hlen
    · exact hws h1
    · rw [hkind] at h1; cases h1
    · exact h1 hheader
    · rw [hformed] at h1; cases h1

theorem recordTodo_runs {kind : BurnKind} {ws : List Nat} (hws : ws ≠ []) {at_ : Nat} (hblank : otpSeen d at_ = 0) :
    startBurn kind false (recordTodo ws at_) d = onOtp (burning kind (recordTodo ws at_)) d := by
  match ws, hws with
  | w :: ws, _ => exact startBurn_runs (by simp [recordTodo]) fun x hx _ => .inr (by simp [recordTodo] at hx; subst hx; exact hblank)

/-- What a burned key comes with: its words, then its bit of KEYS_PRESENT. -/
def keyTodo (d : Dev) (slot v : Nat) : List (Nat × BitVec 39) :=
  ((leWords (beBytes 32 v)).zipIdx.map fun x => (128 + 8 * slot + x.2, BitVec.ofNat 39 (codeword x.1))) ++
    logicalTodo d 2 (logical d 2 ||| 2 ^ slot)

theorem take_keyTodo (d : Dev) (slot v : Nat) : (keyTodo d slot v).take 8 =
    (leWords (beBytes 32 v)).zipIdx.map fun x => (128 + 8 * slot + x.2, BitVec.ofNat 39 (codeword x.1)) :=
  List.take_left' (by simp [length_keyWords])

/-- The check value of a key. -/
def keyCheckOf (d : Dev) (v : Nat) : List Byte := (hmac (beBytes 32 v) (ascii [0x5A, 0x43, 0x48, 0x4B] ++ uid d)).take 4

theorem otpKeyData_runs {key : Nat} (hlife : d.otp.lifecycle ≤ 2) (hslot : sel d 0 0xD020 0 ≤ 5) (h : firstCond d true = 0)
    (hblank : ∀ i < 8, otpSeen d (128 + 8 * sel d 0 0xD020 0 + i) = 0) : otpKeyData 0 key d =
      onOtp (burning (.key (sel d 0 0xD020 0) (keyCheckOf d key)) (keyTodo d (sel d 0 0xD020 0) key)) (judged 0 d) := by
  have hpermitted : ((0 == 0) && decide (d.otp.lifecycle ≤ 2) && decide (sel d 0 0xD020 0 ≤ 5)) = true := by simp [hlife, hslot]
  unfold otpKeyData
  dsimp only
  rw [hpermitted, underConds_met h, uid_congr (sameFuses_judged 0 d),
    burnKey_runs fun i hi => (otpSeen_congr (sameFuses_judged 0 d) _).trans (hblank i hi), logical_congr (sameFuses_judged 0 d),
    logicalTodo_congr (sameFuses_judged 0 d)]
  rfl

theorem otpKeygen_runs (hlife : d.otp.lifecycle ≤ 2) (hslot : sel d 0 0xD020 0 = 6 ∨ sel d 0 0xD020 0 = 7) (h : firstCond d true = 0)
    (hblank : ∀ i < 8, otpSeen d (128 + 8 * sel d 0 0xD020 0 + i) = 0) : otpKeygen 0 true d =
      onOtp (burning (.keygen (sel d 0 0xD020 0) (publicOf (drawScalar d).1)) (keyTodo d (sel d 0 0xD020 0) (drawScalar d).1))
        (judged 0 (drawScalar d).2) := by
  have hpermitted : ((0 == 0) && decide (d.otp.lifecycle ≤ 2) && (sel d 0 0xD020 0 == 6 || sel d 0 0xD020 0 == 7)) = true := by
    simp [hlife, hslot]
  have hsame : SameFuses (drawScalar (judged 0 d)).2 d := ⟨rfl, rfl⟩
  unfold otpKeygen
  rw [if_neg (by simp)]
  dsimp only
  rw [hpermitted, underConds_met h, burnKey_runs fun i hi => (otpSeen_congr hsame _).trans (hblank i hi), logical_congr hsame,
    logicalTodo_congr hsame]
  rfl

theorem otpRevoke_falls {mask : Nat} (h : firstCond d true = 0) (hfalls : logical d 1 &&& mask ≠ logical d 1) :
    otpRevoke mask d = otpResult false oNotMonotonic (judged 0 d) := by
  unfold otpRevoke
  rw [underConds_met h]
  unfold burnLogical
  rw [logical_congr (sameFuses_judged 0 d)]
  exact if_pos hfalls

theorem otpRevoke_runs {mask : Nat} (h : firstCond d true = 0) (hrises : logical d 1 &&& mask = logical d 1)
    (hsome : logicalTodo d 1 mask ≠ []) : otpRevoke mask d = onOtp (burning .revoke (logicalTodo d 1 mask)) (judged 0 d) := by
  unfold otpRevoke
  rw [underConds_met h]
  unfold burnLogical
  rw [logical_congr (sameFuses_judged 0 d), if_neg (not_not.mpr hrises), logicalTodo_congr (sameFuses_judged 0 d)]
  exact startBurn_logical hsome fun x hx => ⟨1, by decide, mem_logicalTodo hx⟩

/-- What a transition of the lifecycle burns. -/
def advanceTodo (d : Dev) (target : Nat) : List (Nat × BitVec 39) :=
  (if target = 4 then scrapTodo else []) ++ logicalTodo d 0 (logical d 0 ||| 0xFF * 2 ^ (8 * (target - 1)))

theorem otpAdvance_runs {target : Nat} (h : firstCond d true = 0) (hmay : mayAdvance d sess target = true) (hsome : advanceTodo d target ≠ []) :
    otpAdvance sess target d = onOtp (burning (if target = 4 then .scrap else .lifecycle) (advanceTodo d target)) (judged 0 d) := by
  unfold otpAdvance
  rw [hmay, underConds_met h]
  dsimp only
  rw [logical_congr (sameFuses_judged 0 d), logicalTodo_congr (sameFuses_judged 0 d)]
  unfold advanceTodo at hsome ⊢
  split
  next ht =>
    rw [if_pos ht] at hsome
    exact startBurn_runs hsome fun x _ _ => .inl rfl
  next ht =>
    rw [if_neg ht] at hsome
    exact startBurn_logical hsome fun x hx => ⟨0, by decide, mem_logicalTodo hx⟩

/-- What a rollback counter burns. -/
def rollbackTodo (d : Dev) (v : Nat) : List (Nat × BitVec 39) :=
  [0, 1, 2, 3].flatMap fun i => logicalTodo d (3 + i) (logical d (3 + i) ||| (2 ^ v - 1) / 2 ^ (32 * i) % 2 ^ 32)

theorem rollbackTodo_congr (h : SameFuses u d) (v : Nat) : rollbackTodo u v = rollbackTodo d v := by
  unfold rollbackTodo
  simp only [logical_congr h, logicalTodo_congr h]

theorem otpRollback_runs (h : firstCond d true = 0) (hrises : rollbackCount d < v) (hsome : rollbackTodo d v ≠ []) :
    otpRollback v d = onOtp (burning .rollback (rollbackTodo d v)) (judged 0 d) := by
  unfold otpRollback
  rw [if_neg (by omega), underConds_met h]
  show startBurn .rollback false (rollbackTodo (judged 0 d) v) (judged 0 d) = _
  rw [rollbackTodo_congr (sameFuses_judged 0 d)]
  refine startBurn_logical hsome fun x hx => ?_
  obtain ⟨i, hi, hx'⟩ := List.mem_flatMap.mp hx
  have hle : i ≤ 3 := by simp at hi; omega
  exact ⟨3 + i, by omega, mem_logicalTodo hx'⟩

theorem otpRollback_unmet (h : firstCond d true ≠ 0) (hrises : rollbackCount d < v) : otpRollback v d = refused (firstCond d true) d := by
  unfold otpRollback
  rw [if_neg (by omega)]
  exact underConds_unmet h

theorem otp_settled (f : Otp → Otp) (d : Dev) : (settle (emit (.status 0) (onOtp f d))).otp = f d.otp := settle_otp _

theorem only_burning (d : Dev) (f : Otp → Otp) :
    Only [.otp, .out, .odBook, .irq] (settle (emit (.status 0) (onOtp f (judged 0 (hush d))))) d := by simp [judged]

end

/-- Settles O33, write by write. -/
theorem fuseWrites : Obligations.FuseWrites := by
  unfold Obligations.FuseWrites
  refine ⟨?_, fun s a r h hcond hrec hblank => ?_, fun s sess record h hcond => ?_, fun s sess key h h0 hlife hslot hcond hblank => ?_,
    fun s sess h h0 hlife hslot hcond hblank => ?_, fun s mask h hcond => ?_, fun s sess target h hmay hcond => ?_, fun s v h => ?_⟩
  · rintro s c permitted (⟨sess, record, rfl, rfl, h⟩ | ⟨a, rfl, rfl, h⟩ | ⟨sess, key, rfl, h, rfl⟩ | ⟨mask, rfl, rfl, h⟩ | ⟨sess, target, rfl, h, rfl⟩) hcond
    · exact (acts_of_octets rfl h (k := .otpRecord) (n := 0) rfl rfl rfl (otpAppend_unmet (d := hush s.dev) hcond)).became rfl
    · exact (acts_of_value rfl h (k := .otpRecord) (n := 0) rfl rfl rfl (otpVoid_unmet (d := hush s.dev) hcond)).became rfl
    · exact (acts_of_octets rfl h (k := .otpKeys) (n := 0) rfl rfl rfl (otpKeyData_unmet (d := hush s.dev) rfl hcond)).became rfl
    · exact (acts_of_value rfl h (k := .otpKeys) (n := 0) rfl rfl rfl (otpRevoke_unmet (d := hush s.dev) hcond)).became rfl
    · exact (acts_of_value rfl h (k := .lifecycle) (n := 0) rfl rfl rfl (otpAdvance_unmet (d := hush s.dev) hcond)).became rfl
  · exact (acts_of_value rfl h (k := .otpRecord) (n := 0) rfl rfl rfl (otpVoid_runs (d := hush s.dev) hcond hrec hblank)).became rfl
  · intro b ws w hlen hws hkind hheader hformed
    have hfits : RecordFits (hush s.dev) sess.toNat record := ⟨hlen, hws, hkind, hheader, hformed⟩
    have hact := otpAppend_met (d := hush s.dev) hcond hfits
    refine ⟨fun hfull => ?_, fun hreadable hroom hblank => ?_⟩
    · exact (acts_of_octets rfl h (k := .otpRecord) (n := 0) rfl rfl rfl (hact.trans (if_pos hfull))).answers (settle_otp _)
    · have hstarts := hact.trans (if_neg (show ¬ (w.unreadable = true ∨ bankEnd b < w.next + ws.length + 2) by simp [hreadable]; omega))
      have hruns := hstarts.trans (recordTodo_runs (d := judged 0 (hush s.dev)) hws hblank)
      refine (acts_of_octets rfl h (k := .otpRecord) (n := 0) rfl rfl rfl hruns).serves ⟨otp_settled _ _, ?_⟩
      have hall := only_burning s.dev (burning (.record (if b = .patch then 1 else 0) w.next (ws.length - 1)) (recordTodo ws w.next))
      exact ⟨hall.sameSwitch (by decide), hall.samePower rfl, hall.sameTime rfl, hall.sameAon (by decide), hall.flash rfl, hall.heat rfl, hall.odCfg rfl⟩
  · have hsess : sess = 0 := BitVec.eq_of_toNat_eq h0
    subst hsess
    have hkey : beNat (beBytes 32 key.toNat) = key.toNat := (beNat_beBytes _ _).trans (Nat.mod_eq_of_lt key.isLt)
    have hact := otpKeyData_runs (d := hush s.dev) (key := key.toNat) hlife hslot hcond hblank
    have hacts := acts_of_octets (c := .keyData 0 key) rfl h (k := .otpKeys) (n := 0) rfl rfl rfl ((congrArg (otpKeyData 0 · (hush s.dev)) hkey).trans hact)
    have hall := only_burning s.dev (burning (.key (sel s.dev 0 0xD020 0) (keyCheckOf s.dev key.toNat)) (keyTodo s.dev (sel s.dev 0 0xD020 0) key.toNat))
    exact hacts.serves ⟨⟨_, otp_settled _ _, rfl, take_keyTodo _ _ _⟩, hall.sameSwitch (by decide), hall.samePower rfl, hall.sameTime rfl,
      hall.sameAon (by decide), hall.odCfg rfl⟩
  · have hsess : sess = 0 := BitVec.eq_of_toNat_eq h0
    subst hsess
    have hacts := acts_of_value (c := .keygen 0 true) rfl h (k := .otpKeys) (n := 0) rfl rfl rfl
      (otpKeygen_runs (d := hush s.dev) hlife hslot hcond hblank)
    have hscalar : 1 ≤ (drawScalar (hush s.dev)).1 ∧ (drawScalar (hush s.dev)).1 < p256N := by
      have hmod := Nat.mod_lt (drawFree (hush s.dev)).1.toNat (show 0 < p256N - 1 by decide)
      unfold drawScalar
      dsimp only
      omega
    have hfree : (drawScalar (hush s.dev)).2 = (drawFree (hush s.dev)).2 := rfl
    rw [hfree] at hacts
    generalize (drawScalar (hush s.dev)).1 = x at hacts hscalar
    have hall : Only [.free, .otp, .out, .odBook, .irq] (settle (emit (.status 0) (onOtp (burning (.keygen (sel (hush s.dev) 0 0xD020 0) (publicOf x))
        (keyTodo (hush s.dev) (sel (hush s.dev) 0 0xD020 0) x)) (judged 0 (drawFree (hush s.dev)).2)))) s.dev := by
      simp [judged]
    refine hacts.serves ⟨⟨x, _, hscalar.1, hscalar.2, otp_settled _ _, rfl⟩, ?_, hall.sameSwitch (by decide), hall.samePower rfl, hall.sameTime rfl,
      hall.sameAon (by decide), hall.odCfg rfl⟩
    exact settle_free _
  · refine ⟨fun hfalls => ?_, fun hrises hsome => ?_⟩
    · exact (acts_of_value rfl h (k := .otpKeys) (n := 0) rfl rfl rfl (otpRevoke_falls (d := hush s.dev) hcond hfalls)).serves (settle_otp _)
    · exact (acts_of_value rfl h (k := .otpKeys) (n := 0) rfl rfl rfl (otpRevoke_runs (d := hush s.dev) hcond hrises hsome)).serves (otp_settled _ _)
  · intro todo hsome
    exact (acts_of_value rfl h (k := .lifecycle) (n := 0) rfl rfl rfl (otpAdvance_runs (d := hush s.dev) hcond hmay hsome)).serves (otp_settled _ _)
  · refine ⟨fun hstays => ?_, fun hrises hcond hsome => ?_, fun hrises hcond => ?_⟩
    · exact (acts_of_value rfl h (k := .lifecycle) (n := 0) rfl rfl rfl (if_pos (show v ≤ rollbackCount (hush s.dev) from hstays))).became rfl
    · exact (acts_of_value rfl h (k := .lifecycle) (n := 0) rfl rfl rfl (otpRollback_runs (d := hush s.dev) hcond hrises hsome)).serves (otp_settled _ _)
    · exact (acts_of_value rfl h (k := .lifecycle) (n := 0) rfl rfl rfl (otpRollback_unmet (d := hush s.dev) hcond hrises)).answers (settle_otp _)

end Sys2Proof.Proofs.FuseBurns


/-! SUPPORT. The table DMA engine (chapter 5): what the records of a descriptor may reach, and how one ends. -/

namespace Sys2Proof.Proofs.DescriptorLife

open Sys2Proof Sys2Proof.Machine Sys2Proof.Safety
open Sys2Proof.Proofs.StepAndTimers
open Sys2Proof.Proofs.ShapersAndTally
open Sys2Proof.Proofs.Frames
open Sys2Proof.Proofs.Running
open Sys2Proof.Proofs.StationEntries
open Sys2Proof.Proofs.RoutesAtWork (only_drop6)
open Sys2Proof.Proofs.HostWindow (length_leBytes)

/-- What the records of a descriptor may reach, beside the staging area. -/
@[simp] def recordParts : List Part := [.fab, .st, .rt, .cls, .timers, .out, .odBook, .irq]

/-- The host window beside the staging area and what raises an interrupt. -/
def unstaged (h : HostWin) : HostWin := { h with staging := [], irqStatus := 0, irqPort := 0 }

/-- Records were at work: on the tables, and in the staging area. -/
def Worked (t d : Dev) : Prop := Only (.hw :: recordParts) t d ∧ unstaged t.hw = unstaged d.hw

section
variable {t u d : Dev} {S : List Part}

theorem Worked.refl (d : Dev) : Worked d d := ⟨.refl _ _, rfl⟩

theorem Worked.trans (h : Worked t u) (h' : Worked u d) : Worked t d := ⟨h.1.trans h'.1, h.2.trans h'.2⟩

theorem worked_of_only (h : Only S t d) (hS : Within S recordParts = true) : Worked t d := by
  have h' := h.mono hS
  refine ⟨h'.mono (by decide), ?_⟩
  have hrest : t.hw = { d.hw with irqStatus := t.hw.irqStatus, irqPort := t.hw.irqPort } := h'.hwRest rfl
  rw [hrest]
  rfl

theorem worked_stage (a : Nat) (o : List Byte) (d : Dev) : Worked (stage a o d) d := ⟨by simp [stage], rfl⟩

theorem worked_foldl {α : Type} {f : Dev → α → Dev} (l : List α) (hf : ∀ d, ∀ a ∈ l, Worked (f d a) d) (d : Dev) : Worked (l.foldl f d) d :=
  List.foldlRecOn (motive := fun u => Worked u d) l f (.refl d) fun u hu a ha => (hf u a ha).trans hu

/-! ### Records -/

theorem only_dropStation (loc : Nat) (d : Dev) : Only [.st] (dropStation loc d) d := entriesOnly_dropStation.only

theorem only_moveWay (m : Nat × Nat) (d : Dev) : Only [.st] (moveWay m d) d := by
  unfold moveWay
  split
  · exact (only_dropStation _ _).trans (by simp)
  · exact .refl _ _

theorem only_stationInsert (e : Station) (stash : Bool) (d : Dev) : Only [.st] (stationInsert e stash d).2 d := by
  unfold stationInsert
  dsimp only
  generalize placeKey _ _ _ _ = r
  have hv : Only [.st] (onSt (fun t => { t with victim := (t.victim + 1) % 4 }) d) d := by simp
  generalize onSt (fun t => { t with victim := (t.victim + 1) % 4 }) d = v at hv
  match r with
  | some (moves, way) =>
    have hmoves : Only [.st] (moves.foldl (fun u m => moveWay m u) v) v := Only.foldl _ (fun u m _ => only_moveWay m u) v
    exact .trans (by simp) (hmoves.trans hv)
  | none =>
    dsimp only
    split
    · exact hv
    · split
      · exact .trans (by simp) hv
      · exact .trans (by simp) hv

theorem only_put6 (way : Nat) (e : V6Entry) (d : Dev) : Only [.rt, .st] (put6 way e d) d := by simp [put6, addCount6, bloomSet]

theorem only_insert6 (e : V6Entry) (d : Dev) : Only [.rt, .st] (insert6 e d).2 d := by
  unfold insert6
  dsimp only
  generalize placeKey _ _ _ _ = r
  have hv : Only [.rt, .st] (onRt (fun r => { r with victim := (r.victim + 1) % 4 }) d) d := by simp
  generalize onRt (fun r => { r with victim := (r.victim + 1) % 4 }) d = v at hv
  match r with
  | none => exact hv
  | some (moves, way) =>
    refine (only_put6 way e _).trans (Only.trans (Only.foldl _ (fun u m _ => ?_) v) hv)
    split
    · simp
    · exact .refl _ _

theorem only_lock (table index life : Nat) (d : Dev) : Only [.st, .timers] (lock table index life d).2 d := by
  unfold lock
  dsimp only
  split
  · exact .refl _ _
  · simp

theorem only_unlock (table index : Nat) (d : Dev) : Only [.st, .timers] (unlock table index d) d := by simp [unlock, applyDeferred]

theorem worked_writeStationRec (loc : Nat) (o : List Byte) (d : Dev) : Worked (writeStationRec loc o d) d := by
  unfold writeStationRec
  split
  · exact worked_of_only (S := [.st]) (by simp) (by decide)
  · exact worked_of_only (only_dropStation _ _) (by decide)

theorem worked_writeV6Rec (way : Nat) (o : List Byte) (d : Dev) : Worked (writeV6Rec way o d) d := by
  unfold writeV6Rec
  dsimp only
  split
  · exact worked_of_only ((only_put6 _ _ _).trans only_drop6) (by decide)
  · exact worked_of_only only_drop6 (by decide)

theorem worked_writeRecord (t i : Nat) (o : List Byte) (d : Dev) : Worked (writeRecord t i o d).2 d := by
  have htables (u : Dev) (h : Only [.st, .rt, .cls] u d) : Worked u d := worked_of_only h (by decide)
  unfold writeRecord
  extract_lets named words
  clear_value named words
  by_cases hStation : t = tStation
  · rw [if_pos hStation]
    split
    · exact .refl d
    split
    · exact .refl d
    · exact worked_foldl _ (fun u x _ => worked_writeStationRec _ _ u) d
  rw [if_neg hStation]
  by_cases hStash : t = tStash
  · rw [if_pos hStash]
    split
    · exact .refl d
    split
    · exact .refl d
    · exact worked_foldl _ (fun u x _ => worked_writeStationRec _ _ u) d
  rw [if_neg hStash]
  by_cases hVlan : t = tVlan
  · rw [if_pos hVlan]
    exact htables _ (by simp [writeVlan, setVlan])
  rw [if_neg hVlan]
  by_cases hFlock : t = tFlock
  · rw [if_pos hFlock]
    exact htables _ (by simp)
  rw [if_neg hFlock]
  by_cases hFirst : t = tFirst
  · rw [if_pos hFirst]
    exact htables _ (by simp)
  rw [if_neg hFirst]
  by_cases hPool0 : t = tPool0
  · rw [if_pos hPool0]
    exact worked_foldl _ (fun u x _ => worked_of_only (S := [.st, .rt]) (by simp) (by decide)) d
  rw [if_neg hPool0]
  by_cases hPool1 : t = tPool1
  · rw [if_pos hPool1]
    exact worked_foldl _ (fun u x _ => worked_of_only (S := [.st, .rt]) (by simp) (by decide)) d
  rw [if_neg hPool1]
  by_cases hHash6 : t = tHash6
  · rw [if_pos hHash6]
    split
    · exact .refl d
    · exact worked_foldl _ (fun u x _ => worked_writeV6Rec _ _ u) d
  rw [if_neg hHash6]
  by_cases hBloom : t = tBloom
  · rw [if_pos hBloom]
    exact htables _ (by simp [writeBloom, bloomSet])
  rw [if_neg hBloom]
  by_cases hNextHop : t = tNextHop
  · rw [if_pos hNextHop]
    exact htables _ (by simp [setHop])
  rw [if_neg hNextHop]
  by_cases hRule : t = tRule
  · rw [if_pos hRule]
    exact htables _ (by simp [writeRule])
  rw [if_neg hRule]
  exact htables _ (by simp [writePolicer])

theorem worked_runRecord (q : Desc) (i : Nat) (d : Dev) : Worked (runRecord q i d).2.2 d := by
  have hst (u : Dev) (h : Only [.st, .timers] u d) : Worked u d := worked_of_only h (by decide)
  have hrt (u : Dev) (h : Only [.rt, .st] u d) : Worked u d := worked_of_only h (by decide)
  unfold runRecord
  dsimp only
  split
  · exact worked_stage _ _ d
  split
  · exact worked_writeRecord _ _ _ d
  split
  · exact hst _ (only_lock _ _ _ d)
  split
  · exact hst _ (only_unlock _ _ d)
  split
  · split
    · split
      · exact worked_stage _ _ d
      · exact .refl d
    split
    · split
      · exact hst _ ((only_dropStation _ d).mono (by decide))
      · exact .refl d
    split
    · exact .refl d
    split
    · exact .refl d
    · split <;> exact hst _ ((only_stationInsert _ _ d).mono (by decide))
  · split
    · split
      · exact worked_stage _ _ d
      · exact .refl d
    split
    · split
      · exact hrt _ only_drop6
      · exact .refl d
    split
    · exact .refl d
    · split <;> exact hrt _ (only_insert6 _ d)

theorem worked_runRecords (q : Desc) (n i : Nat) (acc : Nat × Nat) (d : Dev) : Worked (runRecords q n i acc d).2 d := by
  induction n generalizing i acc d with
  | zero => exact .refl d
  | succ n ih => exact (ih _ _ _).trans (worked_runRecord q i d)

/-! ### A descriptor ends -/

/-- The staging area with a descriptor's results. -/
def resulted (q : Desc) (status result done : Nat) (m : Mem) : Mem :=
  writeBytes 0 (writeBytes 0 (writeBytes 0 m (q.at_ + 16) (leBytes 1 status)) (q.at_ + 20) (leBytes 4 result)) (q.at_ + 24) (leBytes 2 done)

/-- The staging area exchanged. -/
def staged (m : Mem) (d : Dev) : Dev := onHw (fun h => { h with staging := m }) d

theorem stage_staged (a : Nat) (o : List Byte) (m : Mem) (d : Dev) : stage a o (staged m d) = staged (writeBytes 0 m a o) d := rfl

/-- The engine goes on past a descriptor, or stops. -/
def passed (q : Desc) (status : Nat) (d : Dev) : Dev :=
  let size := d.hw.ringSize.toNat
  onHw (fun h =>
    { h with
      tdmaHead := BitVec.ofNat 6 (if h.tdmaHead.toNat + 1 < size then h.tdmaHead.toNat + 1 else 0), tdmaRun := none
      tdmaStopped := h.tdmaStopped || (bit q.flags 1 && status != dOk) }) d

/-- The interrupts of a descriptor's end. -/
def signalled (q : Desc) (status : Nat) (d : Dev) : Dev :=
  let u := if bit q.flags 0 then raiseIrq 3 d else d
  if status = dOk then u else raiseIrq 4 u

theorem finishDesc_eq (q : Desc) (status result done : Nat) (d : Dev) :
    finishDesc q status result done d = signalled q status (passed q status (staged (resulted q status result done d.hw.staging) d)) := by
  have hfirst : stage (q.at_ + 16) (leBytes 1 status) d = staged (writeBytes 0 d.hw.staging (q.at_ + 16) (leBytes 1 status)) d := rfl
  unfold finishDesc
  rw [hfirst, stage_staged, stage_staged]
  rfl

theorem signalled_hw (q : Desc) (status : Nat) (d : Dev) :
    (signalled q status d).hw = { d.hw with irqStatus := (signalled q status d).hw.irqStatus } := by
  unfold signalled
  dsimp only
  split <;> split <;> rfl

theorem finishDesc_hw (q : Desc) (status result done : Nat) (d : Dev) : (finishDesc q status result done d).hw =
    { d.hw with
      staging := resulted q status result done d.hw.staging
      tdmaHead := BitVec.ofNat 6 (if d.hw.tdmaHead.toNat + 1 < d.hw.ringSize.toNat then d.hw.tdmaHead.toNat + 1 else 0)
      tdmaRun := none, tdmaStopped := d.hw.tdmaStopped || (bit q.flags 1 && status != dOk)
      irqStatus := (finishDesc q status result done d).hw.irqStatus } := by
  rw [finishDesc_eq]
  exact signalled_hw q status _

theorem only_finishDesc (q : Desc) (status result done : Nat) (d : Dev) : Only [.hw] (finishDesc q status result done d) d := by
  simp [finishDesc, stage]

theorem irq_raiseIrq_self {i : Nat} (hi : i < 10) (d : Dev) : irq (raiseIrq i d) i = true := by
  unfold irq raiseIrq onHw
  rw [BitVec.getLsbD_or, BitVec.getLsbD_ofNat, Nat.testBit_two_pow_self]
  simp [hi]

theorem irq_raiseIrq {i j : Nat} (h : irq d j = true) : irq (raiseIrq i d) j = true := by
  unfold irq at h ⊢
  unfold raiseIrq onHw
  rw [BitVec.getLsbD_or, h, Bool.true_or]

theorem irq3_finishDesc (q : Desc) (status result done : Nat) (d : Dev) (hflag : bit q.flags 0 = true) :
    irq (finishDesc q status result done d) 3 = true := by
  unfold finishDesc
  dsimp only
  rw [if_pos hflag]
  split
  · exact irq_raiseIrq_self (by decide) _
  · exact irq_raiseIrq (irq_raiseIrq_self (by decide) _)

theorem irq4_finishDesc (q : Desc) (status result done : Nat) (d : Dev) (hstatus : status ≠ dOk) :
    irq (finishDesc q status result done d) 4 = true := by
  unfold finishDesc
  dsimp only
  rw [if_neg hstatus]
  exact irq_raiseIrq_self (by decide) _

theorem byteAt_resulted_outside (q : Desc) (status result done : Nat) (m : Mem) {i : Nat} (h : i < q.at_ + 16 ∨ q.at_ + 26 ≤ i) :
    byteAt 0 (resulted q status result done m) i = byteAt 0 m i := by
  unfold resulted
  rw [byteAt_writeBytes_outside, byteAt_writeBytes_outside, byteAt_writeBytes_outside]
  all_goals rw [length_leBytes]; omega

/-- Octets that a write of others beside them leaves. -/
theorem readBytes_writeBytes_beside (m : Mem) {a b n : Nat} (bs : List Byte) (h : a + n ≤ b ∨ b + bs.length ≤ a) :
    readBytes 0 (writeBytes 0 m b bs) a n = readBytes 0 m a n := by
  unfold readBytes
  refine List.map_congr_left fun i hi => byteAt_writeBytes_outside 0 bs m b _ ?_
  have := List.mem_range.mp hi
  omega

theorem byteAt_resulted_status (q : Desc) (status result done : Nat) (m : Mem) :
    byteAt 0 (resulted q status result done m) (q.at_ + 16) = BitVec.ofNat 8 status := by
  unfold resulted
  rw [byteAt_writeBytes_outside, byteAt_writeBytes_outside]
  · exact byteAt_writeBytes_inside 0 [BitVec.ofNat 8 status] m (q.at_ + 16) 0 Nat.zero_lt_one
  all_goals rw [length_leBytes]; omega

theorem readBytes_resulted_result (q : Desc) (status result done : Nat) (m : Mem) :
    readBytes 0 (resulted q status result done m) (q.at_ + 20) 4 = leBytes 4 result := by
  unfold resulted
  rw [readBytes_writeBytes_beside _ _ (.inl (by omega))]
  have h := readBytes_writeBytes 0 (writeBytes 0 m (q.at_ + 16) (leBytes 1 status)) (q.at_ + 20) (leBytes 4 result)
  rwa [length_leBytes] at h

theorem readBytes_resulted_done (q : Desc) (status result done : Nat) (m : Mem) :
    readBytes 0 (resulted q status result done m) (q.at_ + 24) 2 = leBytes 2 done := by
  unfold resulted
  have h := readBytes_writeBytes 0
    (writeBytes 0 (writeBytes 0 m (q.at_ + 16) (leBytes 1 status)) (q.at_ + 20) (leBytes 4 result)) (q.at_ + 24) (leBytes 2 done)
  rwa [length_leBytes] at h

/-- What a device that settles after a descriptor's end has taken over from it. -/
theorem finished_of_hw {q : Desc} {status result done : Nat} {s : Dev} (hsw : SameSwitch t u)
    (hhw : t.hw = { (finishDesc q status result done u).hw with tdmaPace := t.hw.tdmaPace, irqStatus := t.hw.irqStatus })
    (hirq : ∀ i, (0x27F#10).getLsbD i = true → irq t i = irq (finishDesc q status result done u) i)
    (hhead : u.hw.tdmaHead = s.hw.tdmaHead) (hring : u.hw.ringSize = s.hw.ringSize) (hstop : u.hw.tdmaStopped = false) :
    Finished q status result done u s t := by
  rw [finishDesc_hw] at hhw
  refine ⟨hsw, ?_, ?_, ?_, fun i hi => ?_, ?_, ?_, fun h => ?_, fun h => ?_, ?_⟩
  · rw [hhw]; exact byteAt_resulted_status _ _ _ _ _
  · rw [hhw]; exact readBytes_resulted_result _ _ _ _ _
  · rw [hhw]; exact readBytes_resulted_done _ _ _ _ _
  · rw [hhw]; exact byteAt_resulted_outside _ _ _ _ _ hi
  · rw [hhw, hhead, hring]
  · rw [hhw]
  · rw [hirq 3 (by decide)]; exact irq3_finishDesc _ _ _ _ _ h
  · rw [hirq 4 (by decide)]; exact irq4_finishDesc _ _ _ _ _ h
  · rw [hhw, hstop]; rfl

end

end Sys2Proof.Proofs.DescriptorLife


/-! SUPPORT. The life of a descriptor of the table DMA engine (chapter 5, R177-R192). -/

namespace Sys2Proof.Proofs.TableDma

open Sys2Proof Sys2Proof.Machine Sys2Proof.Safety
open Sys2Proof.Proofs.StepAndTimers
open Sys2Proof.Proofs.ShapersAndTally
open Sys2Proof.Proofs.Frames
open Sys2Proof.Proofs.Running
open Sys2Proof.Proofs.DescriptorLife

section
variable {d u : Dev} {c : Instr} {s : State} {cmd n : Nat} {ecc : List EccHit} {q : Desc} {r : DescRun}

/-- The commands of the engine, by the number that a descriptor names them with. -/
theorem exec_tdma (h : (c, cmd) ∈ ([(.tdmaRead ecc, cRead), (.tdmaWrite, cWrite), (.tdmaInsert, cInsert), (.tdmaDelete, cDelete),
      (.tdmaSearch, cSearch), (.tdmaLock, cLock), (.tdmaUnlock, cUnlock)] : List (Instr × Nat)))
    (hecc : cmd ≠ cRead → ecc = []) (s : State) : exec c s = run (tdma cmd ecc) s := by
  simp only [List.mem_cons, Prod.mk.injEq, List.not_mem_nil, or_false] at h
  rcases h with ⟨rfl, rfl⟩ | ⟨rfl, rfl⟩ | ⟨rfl, rfl⟩ | ⟨rfl, rfl⟩ | ⟨rfl, rfl⟩ | ⟨rfl, rfl⟩ | ⟨rfl, rfl⟩
  · rfl
  all_goals rw [hecc (by decide)]; rfl

/-! ### What a command comes to -/

theorem tdmaRuns_of_may (h : tdmaMayRun d) : tdmaRuns d = true := by
  obtain ⟨hmgt, -, henabled, hstopped, hfab, -⟩ := h
  simp [tdmaRuns, hmgt, henabled, hstopped, hfab]

theorem not_stopped_of_may (h : tdmaMayRun d) : d.hw.tdmaStopped = false := by
  obtain ⟨-, -, -, hstopped, -, -⟩ := h
  exact hstopped

theorem tdma_refused (h : tdmaMayRun d) (hcmd : (headDesc d).cmd = cmd) (hst : descCheck d (headDesc d) ≠ dOk) :
    tdma cmd ecc d = finishDesc (headDesc d) (descCheck d (headDesc d)) 0 0 d := by
  obtain ⟨-, hidle, -, -, -, hhead⟩ := id h
  unfold tdma
  dsimp only
  rw [tdmaRuns_of_may h, hidle]
  dsimp only
  rw [if_neg (by simp), if_neg hhead, if_neg (by simp [hcmd]), if_pos hst]

theorem tdma_begins (h : tdmaMayRun d) (hcmd : (headDesc d).cmd = cmd) (hst : descCheck d (headDesc d) = dOk) :
    tdma cmd ecc d = repace (tdmaGoOn d.hw.tdmaPace { desc := headDesc d, next := 0, status := dOk, result := 0 } (eccFindAll ecc d)) := by
  obtain ⟨-, hidle, -, -, -, hhead⟩ := id h
  unfold tdma
  dsimp only
  rw [tdmaRuns_of_may h, hidle]
  dsimp only
  rw [if_neg (by simp), if_neg hhead, if_neg (by simp [hcmd]), if_neg (by simp [hst])]

theorem tdma_goes_on (h : tdmaRuns d = true) (hrun : d.hw.tdmaRun = some r) (hcmd : r.desc.cmd = cmd) :
    tdma cmd ecc d = repace (tdmaGoOn d.hw.tdmaPace r (eccFindAll ecc d)) := by
  unfold tdma
  dsimp only
  rw [h, hrun]
  dsimp only
  rw [if_neg (by simp), if_pos hcmd]

theorem tdmaGoOn_ends (hnext : r.next ≤ r.desc.count) (hall : r.desc.count - r.next ≤ n) :
    tdmaGoOn n r d = finishDesc r.desc (runRecords r.desc (r.desc.count - r.next) r.next (r.status, r.result) d).1.1
      (runRecords r.desc (r.desc.count - r.next) r.next (r.status, r.result) d).1.2 r.desc.count
      (runRecords r.desc (r.desc.count - r.next) r.next (r.status, r.result) d).2 := by
  unfold tdmaGoOn
  dsimp only
  rw [Nat.min_eq_right hall, if_pos (by omega), Nat.add_sub_cancel' hnext]

theorem tdmaGoOn_stands (hshort : n < q.count) :
    tdmaGoOn n { desc := q, next := 0, status := dOk, result := 0 } d =
      onHw (fun h => { h with tdmaRun := some { desc := q, next := n, status := (runRecords q n 0 (dOk, 0) d).1.1
                                                result := (runRecords q n 0 (dOk, 0) d).1.2 } }) (runRecords q n 0 (dOk, 0) d).2 := by
  unfold tdmaGoOn
  dsimp only
  rw [Nat.sub_zero, Nat.min_eq_left (by omega), if_neg (by omega), Nat.zero_add]

/-! ### The device after it -/

theorem only_repace (d : Dev) : Only [.free, .hw] (repace d) d := by simp [repace]

theorem repace_hw (d : Dev) : (repace d).hw = { d.hw with tdmaPace := (repace d).hw.tdmaPace } := rfl

theorem settle_hw_eq (d : Dev) : (settle d).hw = { d.hw with irqStatus := (settle d).hw.irqStatus } := by
  obtain ⟨h, -⟩ := became_settle d
  exact (congrArg (·.hw) h :)

/-- Findings of errors and records leave the engine's own registers. -/
theorem worked_of_records (ecc : List EccHit) (q : Desc) (k i : Nat) (acc : Nat × Nat) (d : Dev) :
    Worked (runRecords q k i acc (eccFindAll ecc (hush d))).2 d := by
  refine (worked_runRecords q k i acc _).trans (worked_of_only (S := .out :: [.fab, .st, .odBook, .irq]) ?_ (by decide))
  simp

/-- What stands beside the tables that the engine works on. -/
def Stands (t d : Dev) : Prop := SamePower t d ∧ SameTime t d ∧ SameStores t d ∧ SameAon t d ∧ t.od.cfg = d.od.cfg

theorem stands_of_only {t : Dev} (h : Only (.free :: .hw :: recordParts) t d) : Stands t d :=
  ⟨h.samePower rfl, h.sameTime rfl, h.sameStores (by decide), h.sameAon (by decide), h.odCfg rfl⟩

/-- A descriptor that ends on what its records left. -/
theorem finished_of_worked {status result done : Nat} (hu : Worked u d) (hstop : d.hw.tdmaStopped = false) {v : Dev}
    (hv : Only [.free, .hw] v (finishDesc q status result done u))
    (hhw : v.hw = { (finishDesc q status result done u).hw with tdmaPace := v.hw.tdmaPace }) :
    Finished q status result done u d (settle v) ∧ (settle v).timers = u.timers ∧ Stands (settle v) d := by
  have hvu : Only [.free, .hw] v u := hv.trans ((only_finishDesc _ _ _ _ u).mono (by decide))
  have htu : Only [.free, .hw, .odBook, .irq] (settle v) u := (only_settle (by decide)).mpr (hvu.mono (by decide))
  have hsettled := settle_hw_eq v
  refine ⟨finished_of_hw (htu.sameSwitch (by decide)) ?_ (fun i hi => ?_) (congrArg (·.tdmaHead) hu.2 :) (congrArg (·.ringSize) hu.2 :)
    ((congrArg (·.tdmaStopped) hu.2 :).trans hstop), htu.timers rfl, stands_of_only ((htu.mono (by decide)).trans (hu.1.mono (by decide)))⟩
  · rw [hsettled, hhw]
  · rw [irq_settle _ hi]
    exact (congrArg (fun h : HostWin => h.irqStatus.getLsbD i) hhw :)

end

/-- Settles O26: a descriptor refused, one that ends, one that stands, and one that goes on to its end. -/
theorem tableDma : Obligations.TableDma := by
  unfold Obligations.TableDma
  intro s c k ecc hc hecc n d stands q
  have hexec := exec_tdma hc hecc s
  refine ⟨fun hmay hcmd hok hall => ?_, fun hmay hcmd hok hshort => ?_, fun hmay hcmd hbad => ?_, fun r hruns hrun hcmd hnext hall => ?_⟩
  · intro x
    have hran : tdma k ecc (hush s.dev) = repace (finishDesc q x.1.1 x.1.2 q.count x.2) :=
      (tdma_begins (d := hush s.dev) (ecc := ecc) hmay hcmd hok).trans (congrArg repace (tdmaGoOn_ends (Nat.zero_le _) hall))
    refine answers_of_effect hexec hran ?_
    exact finished_of_worked (worked_of_records ecc q q.count 0 (dOk, 0) s.dev) (not_stopped_of_may hmay) (only_repace _) (repace_hw _)
  · intro x
    have hran : tdma k ecc (hush s.dev) = repace (onHw (fun h => { h with tdmaRun := some { desc := q, next := n, status := x.1.1, result := x.1.2 } }) x.2) :=
      (tdma_begins (d := hush s.dev) (ecc := ecc) hmay hcmd hok).trans (congrArg repace (tdmaGoOn_stands hshort))
    refine answers_of_effect hexec hran ?_
    have hworked : Worked x.2 s.dev := worked_of_records ecc q n 0 (dOk, 0) s.dev
    generalize x.2 = u at hworked ⊢
    generalize hv : onHw (fun h => { h with tdmaRun := some { desc := q, next := n, status := x.1.1, result := x.1.2 } }) u = v
    have htu : Only [.free, .hw, .odBook, .irq] (settle (repace v)) u := by
      refine (only_settle (by decide)).mpr (((only_repace v).mono (by decide)).trans ?_)
      subst hv
      simp
    refine ⟨htu.sameSwitch (by decide), htu.timers rfl, ?_, stands_of_only ((htu.mono (by decide)).trans (hworked.1.mono (by decide)))⟩
    rw [settle_hw_eq, repace_hw, ← hv]
    rfl
  · have hran := tdma_refused (d := hush s.dev) (ecc := ecc) hmay hcmd hbad
    refine answers_of_effect hexec hran ?_
    obtain ⟨hfinished, -, hstands⟩ := finished_of_worked (u := hush s.dev) (status := descCheck s.dev q) (q := q) (result := 0) (done := 0)
      (worked_of_only (S := [.out, .odBook]) (by simp) (by decide)) (not_stopped_of_may hmay) (.refl _ _) rfl
    exact ⟨hfinished, hstands⟩
  · intro x
    have hran : tdma k ecc (hush s.dev) = repace (finishDesc r.desc x.1.1 x.1.2 r.desc.count x.2) :=
      (tdma_goes_on (d := hush s.dev) (ecc := ecc) hruns hrun hcmd).trans (congrArg repace (tdmaGoOn_ends hnext hall))
    refine answers_of_effect hexec hran ?_
    have hstop : s.dev.hw.tdmaStopped = false := by
      have h := hruns
      simp only [tdmaRuns, Bool.and_eq_true, Bool.not_eq_true'] at h
      exact h.1.2
    exact finished_of_worked (worked_of_records ecc r.desc (r.desc.count - r.next) r.next (r.status, r.result) s.dev) hstop (only_repace _)
      (repace_hw _)

end Sys2Proof.Proofs.TableDma


/-! SUPPORT. Booting from an image (chapter 3): the host image load, replay, and the start of the planes. -/

namespace Sys2Proof.Proofs.ImageBoot

open Sys2Proof Sys2Proof.Machine Sys2Proof.Safety
open Sys2Proof.Proofs.StepAndTimers
open Sys2Proof.Proofs.ShapersAndTally
open Sys2Proof.Proofs.Frames
open Sys2Proof.Proofs.Running
open Sys2Proof.Proofs.FanChannels
open Sys2Proof.Proofs.HostWindow
open Sys2Proof.Proofs.FuseBurns (SameFuses logical_congr walk_congr)
open Sys2Proof.Proofs.DescriptorLife (irq_raiseIrq irq_raiseIrq_self)

section
variable {S : List Part} {d e t : Dev} {n : Nat}

/-! ### The planes start -/

/-- What the start of a port may reach. -/
@[simp] def startParts (n : Nat) : List Part := [.cable n, .usb2, .timersOf (.port n), .out, .free, .fence n, .sends, .fab, .timersOf .switch]

@[simp] theorem only_presentIdle (n : Nat) (hS : Within (sendParts n) S = true) : Only S (presentIdle n d) e ↔ Only S d e := by
  refine Only.iff (T := sendParts n) ?_ hS
  unfold presentIdle
  split <;> simp

@[simp] theorem only_attachSink (n orient ma : Nat) (hS : Within (startParts n) S = true) :
    Only S (attachSink n orient ma d) e ↔ Only S d e :=
  Only.iff (T := startParts n) (by simp [attachSink]) hS

@[simp] theorem only_startPort (n : Nat) (hS : Within (startParts n) S = true) : Only S (startPort n d) e ↔ Only S d e :=
  Only.iff (T := startParts n) (by simp [startPort, heldSink, deadBatterySink]) hS

@[simp] theorem only_ptpProfileChanged (hS : Within (.timers :: sourceParts) S = true) : Only S (ptpProfileChanged d) e ↔ Only S d e := by
  refine Only.iff (T := .timers :: sourceParts) ?_ hS
  have hpolls : Only (.timers :: sourceParts) ([8, 9, 10, 11, 12].foldl (fun d p => if armed (.pdelay p) d then d else arm (.pdelay p) sec d) d) d :=
    Only.foldl _ (fun u p _ => by simp) d
  have hstops : Only (.timers :: sourceParts) ([8, 9, 10, 11, 12].foldl (fun d p => disarm (.pdelay p) d) d) d :=
    Only.foldl _ (fun u p _ => by simp) d
  unfold ptpProfileChanged
  split
  · generalize [8, 9, 10, 11, 12].foldl (fun d p => if armed (.pdelay p) d then d else arm (.pdelay p) sec d) d = u at hpolls
    dsimp only
    split
    · exact hpolls
    · exact .trans (by simp) hpolls
  · generalize [8, 9, 10, 11, 12].foldl (fun d p => disarm (.pdelay p) d) d = u at hstops
    exact .trans (by simp) hstops

/-- The boot record, the host window and the flash stand. -/
def Records (t d : Dev) : Prop := t.boot = d.boot ∧ t.hw = d.hw ∧ t.flash = d.flash

theorem records_of_only (h : Only S t d) (hS : [View.boot, .hw, .flash].all (Clear S) = true) : Records t d :=
  ⟨h.boot (clear_of_all hS (by simp)), h.hw (clear_of_all hS (by simp)), h.flash (clear_of_all hS (by simp))⟩

theorem Records.trans {u : Dev} (h : Records t u) (h' : Records u d) : Records t d :=
  ⟨h.1.trans h'.1, h.2.1.trans h'.2.1, h.2.2.trans h'.2.2⟩

theorem records_foldl {f : Dev → Nat → Dev} (l : List Nat) (hf : ∀ d, ∀ a ∈ l, Records (f d a) d) (d : Dev) : Records (l.foldl f d) d :=
  List.foldlRecOn (motive := fun u => Records u d) l f ⟨rfl, rfl, rfl⟩ fun u hu a ha => (hf u a ha).trans hu

theorem records_startPlanes : Records (startPlanes d) d := by
  unfold startPlanes
  extract_lets a b c u v p
  have ha : Records a d := records_foldl _ (fun w n _ => records_of_only (S := startParts n) (by simp) rfl) d
  have hb : Records b a := ⟨rfl, rfl, rfl⟩
  have hc : Records c b := records_foldl _ (fun w n _ => records_of_only (S := [.timers]) (by simp) rfl) b
  have hu : Records u c := records_of_only (S := .timers :: sourceParts) (by simp [u]) rfl
  have hv : Records v u := records_of_only (S := [.timers]) (by simp [v]) rfl
  refine .trans (u := v) (records_of_only (S := [.heat, .timers]) ?_ rfl) (hv.trans (hu.trans (hc.trans (hb.trans ha))))
  by_cases hp : p = 0 <;> simp [hp]

/-! ### What was latched -/

theorem records_latchedAttach (hboot : booting d = false) : Records (latchedAttach n d) d := by
  refine records_of_only (S := sendParts n) ?_ rfl
  unfold latchedAttach ccDebounce
  simp [hboot, shortTestStart]

theorem records_latchedSlot : Records (latchedSlot n d) d := by
  refine records_of_only (S := [.slots, .out]) ?_ rfl
  unfold latchedSlot slotFound slotRead slotTake bookSlot i2c
  dsimp only
  split
  · split <;> simp
  · simp

/-! ### Replay completes -/

/-- The boot record beside whether the device is leaving ACTIVE. -/
def unleaving (b : Boot) : Boot := { b with leaving := false }

theorem boot_enterActive (d : Dev) : (enterActive d).boot = { d.boot with leaving := false } :=
  (show Only nodeParts (enterActive d) (disarm .idleHold (disarm .drain (onBoot (fun b => { b with leaving := false })
    (onAon (fun a => { a with power := .active }) d)))) by simp [enterActive]).boot rfl

theorem boot_leaveActive (d : Dev) : (leaveActive d).boot = { d.boot with leaving := true } :=
  (show Only (.timer .drain :: .timer .idleHold :: nodeParts) (leaveActive d) (onBoot (fun b => { b with leaving := true })
    (onAon (fun a => { a with power := .idle }) d)) by simp [leaveActive]).boot rfl

theorem unleaving_followTarget (d : Dev) : unleaving (followTarget d).boot = unleaving d.boot := by
  have hactive : unleaving (enterActive d).boot = unleaving d.boot := by rw [boot_enterActive]; rfl
  have hleaves : unleaving (leaveActive d).boot = unleaving d.boot := by rw [boot_leaveActive]; rfl
  unfold followTarget
  split
  · rfl
  split
  · exact hactive
  · split
    · exact hactive
    · rfl
  · split
    · rfl
    · split <;> rfl
  · rfl
  · exact hleaves
  · rfl

/-- READY is entered, with BOOT_DONE and the stage's interrupt. -/
def readied (d : Dev) : Dev :=
  let u := onAon (fun a => { a with power := .idle }) d
  enterStage .ready (onBoot (fun b => { b with bootDone := true, bootTime := (u.now - b.startAt) / 1000 }) u)

/-- What a boot that saw a rail time out reports. -/
def reported (d : Dev) : Dev := if d.aon.railSawTimeout then eventAlarm 20 d else d

/-- The events that boot latched are acted on. -/
def unlatched (latched : BitVec 6) (d : Dev) : Dev :=
  (List.range 4).foldl (fun d s => if latched.getLsbD (2 + s) then latchedSlot s d else d)
    ((List.range 2).foldl (fun d n => if latched.getLsbD n then latchedAttach n d else d) d)

theorem replayDone_eq (hstage : d.boot.stage = .replay) : replayDone d =
    followTarget (unlatched (reported (readied d)).boot.latched
      (startPlanes (onBoot (fun b => { b with latched := 0 }) (reported (readied d))))) := if_neg (not_not.mpr hstage)

theorem booting_of_boot (h : t.boot = d.boot) : booting t = booting d := by
  unfold booting
  rw [h]

theorem records_unlatched (latched : BitVec 6) (hboot : booting d = false) : Records (unlatched latched d) d := by
  have hattach : Records ((List.range 2).foldl (fun d n => if latched.getLsbD n then latchedAttach n d else d) d) d := by
    refine List.foldlRecOn (motive := fun u => Records u d) _ _ ⟨rfl, rfl, rfl⟩ fun u hu n _ => ?_
    split
    · exact (records_latchedAttach ((booting_of_boot hu.1).trans hboot)).trans hu
    · exact hu
  refine (records_foldl _ (fun u s _ => ?_) _).trans hattach
  split
  · exact records_latchedSlot
  · exact ⟨rfl, rfl, rfl⟩

theorem boot_reported (d : Dev) : (reported d).boot = d.boot :=
  (show Only [.odBook, .irq] (reported d) d by unfold reported; split <;> simp).boot rfl

theorem flash_reported (d : Dev) : (reported d).flash = d.flash :=
  (show Only [.odBook, .irq] (reported d) d by unfold reported; split <;> simp).flash rfl

theorem irq_eventAlarm {i j : Nat} (h : irq d j = true) : irq (eventAlarm i d) j = true := by
  unfold eventAlarm
  dsimp only
  split
  · exact irq_raiseIrq (d := onOd _ d) h
  · exact h

theorem irq_reported {j : Nat} (h : irq d j = true) : irq (reported d) j = true := by
  unfold reported
  split
  · exact irq_eventAlarm h
  · exact h

theorem irq_of_hw (h : t.hw = d.hw) (i : Nat) : irq t i = irq d i := by
  unfold irq
  rw [h]

/-- The planes up, before the device follows TARGET. -/
def planesUp (d : Dev) : Dev :=
  unlatched (reported (readied d)).boot.latched (startPlanes (onBoot (fun b => { b with latched := 0 }) (reported (readied d))))

theorem only_followTarget_self : Only targetParts (followTarget d) d := by simp

theorem enterStage_ready (d : Dev) : enterStage .ready d = raiseIrq 0 (disarm .bootLimit (onBoot (fun b => { b with stage := .ready }) d)) := rfl

theorem irq_enterStage_ready (d : Dev) : irq (enterStage .ready d) 0 = true := by
  rw [enterStage_ready]
  generalize disarm _ _ = u
  exact irq_raiseIrq_self (by omega) u

theorem irq_readied (d : Dev) : irq (readied d) 0 = true := irq_enterStage_ready _

theorem records_planes (latched : BitVec 6) (hboot : booting d = false) : Records (unlatched latched (startPlanes d)) d := by
  have hstart : Records (startPlanes d) d := records_startPlanes
  exact (records_unlatched latched ((booting_of_boot hstart.1).trans hboot)).trans hstart

theorem boot_unlatching (d : Dev) : (onBoot (fun b => { b with latched := 0 }) (reported (readied d))).boot = { (readied d).boot with latched := 0 } :=
  congrArg (fun b : Boot => { b with latched := 0 }) (boot_reported (readied d))

/-- The records with the planes up are those of READY. -/
theorem records_ready (d : Dev) : (planesUp d).boot = { (readied d).boot with latched := 0 } ∧ (planesUp d).hw = (reported (readied d)).hw ∧
    (planesUp d).flash = d.flash := by
  have hidle : booting (onBoot (fun b => { b with latched := 0 }) (reported (readied d))) = false := by
    unfold booting
    rw [boot_unlatching]
    rfl
  obtain ⟨hboot, hhw, hflash⟩ := records_planes (reported (readied d)).boot.latched hidle
  rw [boot_unlatching] at hboot
  have hflash' : (reported (readied d)).flash = d.flash := (flash_reported (readied d)).trans rfl
  unfold planesUp
  generalize unlatched _ _ = t at hboot hhw hflash
  exact ⟨hboot, hhw, hflash.trans hflash'⟩

/-! ### Replay -/

/-- The keep area has been replayed: the boot record beside its count, AON and the flash stand. -/
def Replayed (t d : Dev) : Prop := t.boot = { d.boot with replayCount := t.boot.replayCount } ∧ t.aon = d.aon ∧ t.flash = d.flash

theorem Replayed.refl (d : Dev) : Replayed d d := ⟨rfl, rfl, rfl⟩

theorem Replayed.trans {u : Dev} (h : Replayed t u) (h' : Replayed u d) : Replayed t d := by
  obtain ⟨hboot, haon, hflash⟩ := h
  obtain ⟨hboot', haon', hflash'⟩ := h'
  refine ⟨?_, haon.trans haon', hflash.trans hflash'⟩
  rw [hboot, hboot']

theorem replayed_applyKept (r : KeepRec) (d : Dev) : Replayed (applyKept d r) d := by
  unfold applyKept
  split <;> exact ⟨rfl, rfl, rfl⟩

theorem replayed_keepStep (r : KeepRec) (p : Replay) (d : Dev) : Replayed (keepStep r p d).2 d := by
  unfold keepStep
  dsimp only
  split
  · exact replayed_applyKept r d
  · exact .refl d
  · exact .refl d
  · exact .refl d
  · split
    · exact List.foldlRecOn (motive := fun u => Replayed u d) _ _ (.refl d) fun u hu r _ => (replayed_applyKept r u).trans hu
    · exact .refl d
  · exact .refl d

theorem replayed_keepWalk (sector n : Nat) (p : Replay) (d : Dev) : Replayed (keepWalk sector n p d).2 d := by
  induction n generalizing p d with
  | zero => exact .refl d
  | succ n ih =>
    unfold keepWalk
    split
    · exact .refl d
    · exact .refl d
    · exact (ih _ _).trans (replayed_keepStep _ p d)

theorem replaySector_congr (h : t.flash = d.flash) : replaySector t = replaySector d := by
  unfold replaySector headerValid headerGeneration
  rw [h]

theorem boot_keepReplay (d : Dev) : (keepReplay d).boot = { d.boot with replayCount := (keepReplay d).boot.replayCount } ∧
    (keepReplay d).aon = d.aon ∧ (d.aon.bankF = false ∨ replaySector d ≠ none → (keepReplay d).flash = d.flash) := by
  unfold keepReplay
  generalize 5462 = fuel
  by_cases hbank : d.aon.bankF = false
  · rw [if_pos hbank]
    exact ⟨rfl, rfl, fun _ => rfl⟩
  rw [if_neg hbank]
  split
  next hnone =>
    unfold formatKeep
    rw [if_neg hbank]
    generalize writeBytes erased _ _ _ = m
    exact ⟨rfl, rfl, fun h => absurd hnone (h.resolve_left hbank)⟩
  next i _ =>
    obtain ⟨hboot, haon, hflash⟩ := replayed_keepWalk i fuel { group := none, clean := true, off := 16, serial := 0 } d
    exact ⟨hboot, haon, fun _ => hflash⟩

theorem only_applyObjectDefaults : Only [.od] (applyObjectDefaults d) d := by
  unfold applyObjectDefaults
  refine Only.foldl _ (fun u p _ => ?_) d
  unfold applyDefault
  dsimp only
  split <;> simp

/-- What step REPLAY leaves of the boot record, of AON and of the flash. -/
theorem startReplay_leaves (d : Dev) :
    (startReplay d).boot = { d.boot with stage := .replay, replayCount := (startReplay d).boot.replayCount } ∧ (startReplay d).aon = d.aon ∧
      (d.aon.bankF = false ∨ replaySector d ≠ none → (startReplay d).flash = d.flash) := by
  have hstart : Only [.od, .heat] (applyObjectDefaults (modelStart (enterStage .replay d))) (enterStage .replay d) :=
    (only_applyObjectDefaults.mono (by decide)).trans (by simp [modelStart])
  obtain ⟨hboot, haon, hflash⟩ := boot_keepReplay (applyObjectDefaults (modelStart (enterStage .replay d)))
  have hflash' : (enterStage .replay d).flash = d.flash := rfl
  rw [hstart.boot rfl] at hboot
  rw [hstart.aon rfl] at haon hflash
  rw [hstart.flash rfl, replaySector_congr ((hstart.flash rfl).trans hflash')] at hflash
  unfold startReplay
  generalize keepReplay (applyObjectDefaults (modelStart (enterStage .replay d))) = u at hboot haon hflash
  exact ⟨hboot, haon, hflash⟩

/-! ### The host's image load -/

theorem hostWrite_bootCtrl (hanswers : hwAnswers d = true) (v : Nat) :
    hostWrite 0x14 v d = bootCtrl (BitVec.ofNat 32 v) (addressed d) := by
  rw [hostWrite_word hanswers (by decide) (by decide), writeWord_reg _ (by simp [earlyServed]) rfl rfl]
  rfl

theorem bootCtrl_hdrValid (d : Dev) : bootCtrl (BitVec.ofNat 32 8) d = hdrValid d := rfl

theorem bootCtrl_imageEnd (d : Dev) : bootCtrl (BitVec.ofNat 32 32) d = imageEnd d := rfl

theorem bootCtrl_release (hstage : d.boot.stage = .hold) : bootCtrl (BitVec.ofNat 32 1) d = startImageLoad d := by
  have hrelease : bootRelease 0 d = startImageLoad d := by simp [bootRelease, hstage]
  unfold bootCtrl
  rw [hstage]
  exact hrelease

theorem bootCtrl_blockValid (len : BitVec 13) (hpos : 0 < len.toNat) (hmax : len.toNat ≤ 4096) :
    bootCtrl (BitVec.ofNat 32 (16 + 65536 * len.toNat)) d = blockValid len.toNat d := by
  have hlen := len.isLt
  have hv : (BitVec.ofNat 32 (16 + 65536 * len.toNat)).toNat = 16 + 65536 * len.toNat := by
    rw [BitVec.toNat_ofNat, Nat.mod_eq_of_lt (by omega)]
  have hbits : bits (16 + 65536 * len.toNat) 28 16 = len.toNat := by simp only [bits]; omega
  have hlow (i : Nat) (hi : i < 16) : bit (16 + 65536 * len.toNat) i = bit 16 i := by
    unfold bit
    have hmod : (16 + 65536 * len.toNat) % 2 ^ 16 = 16 := by omega
    have h := Nat.testBit_mod_two_pow (16 + 65536 * len.toNat) 16 i
    rw [hmod] at h
    simpa [hi] using h.symm
  unfold bootCtrl
  rw [hv]
  dsimp only
  rw [hbits, hlow 0 (by decide), hlow 3 (by decide), hlow 4 (by decide), hlow 5 (by decide)]
  rw [if_neg]
  · rfl
  · simp [show bit 16 0 = false from rfl, show bit 16 4 = true from rfl]
    omega

theorem imageValid_congr (h : t.otp = d.otp) (hdr body : List Byte) : imageValid t hdr body = imageValid d hdr body := by
  have hfuses : SameFuses t d := ⟨by rw [h], by rw [h]⟩
  unfold imageValid rollbackCount imageKey recordOf
  simp only [logical_congr hfuses, walk_congr hfuses]

theorem triedImage_congr (hboot : t.boot = d.boot) (hflash : t.flash = d.flash) : triedImage t = triedImage d := by
  unfold triedImage slotHeader
  rw [hboot, hflash]

/-- A header that the host has staged. -/
def headed (d : Dev) : Dev :=
  enterStage .imageHost (onBoot (fun b =>
    { b with header := readBytes 0 d.hw.staging 0 128, hdrTaken := true, imageReject := false, blockTaken := false,
             blockCount := 0, body := [], trying := 2 }) d)

theorem hdrValid_takes (hstage : d.boot.stage = .noImage ∨ d.boot.stage = .imageHost) : hdrValid d = headed d := by
  refine if_neg ?_
  rcases hstage with h | h <;> simp [h]

/-- A block that the host has staged. -/
def blocked (len : Nat) (d : Dev) : Dev :=
  onBoot (fun b => { b with body := b.body ++ readBytes 0 d.hw.staging 0x1000 len, blockTaken := true, blockCount := b.blockCount + 1 }) d

theorem blockValid_takes {len : Nat} (hstage : d.boot.stage = .imageHost) (htaken : d.boot.hdrTaken = true) (hpos : 0 < len) (hmax : len ≤ 4096) :
    blockValid len d = blocked len d := by
  refine if_neg ?_
  simp [hstage, htaken]
  omega

@[simp] theorem only_enterStage (st : Stage) (hS : Within [.boot, .irq, .timer .bootLimit] S = true) :
    Only S (enterStage st d) e ↔ Only S d e := by
  refine Only.iff (T := [.boot, .irq, .timer .bootLimit]) ?_ hS
  unfold enterStage
  cases st <;> simp

/-- What the host's image load may reach. -/
@[simp] def loadParts : List Part := [.boot, .hw, .timer .bootLimit, .out, .odBook]

theorem only_imageEnd : Only [.boot, .irq, .timer .bootLimit] (imageEnd d) d := by
  unfold imageEnd rejectImage noImage
  simp

theorem only_addressed : Only loadParts (addressed (hush d)) d := by simp [addressed]

theorem boot_enterStage (st : Stage) (d : Dev) : (enterStage st d).boot = { d.boot with stage := st } := by
  unfold enterStage
  cases st <;> rfl

/-- The record of an image that runs. -/
def verified (d : Dev) : Dev :=
  onBoot (fun b => { b with image := b.trying, version := hdrVersion (triedImage d).1, rollback := hdrRollback (triedImage d).1, stage := .policy }) d

theorem imageVerifyDone_runs (hstage : d.boot.stage = .verify) (hvalid : imageValid d (triedImage d).1 (triedImage d).2 = true)
    (hlife : d.otp.lifecycle ≠ 4) (hglitch : d.aon.glitchHalt = false) (halarm : d.boot.otpAlarm = false) :
    imageVerifyDone d = startReplay (verified d) := by
  unfold imageVerifyDone
  rw [if_neg (not_not.mpr hstage)]
  dsimp only
  rw [if_pos hvalid]
  unfold runImage
  dsimp only
  rw [if_pos]
  · rfl
  · show (if d.otp.lifecycle = 4 ∨ d.aon.glitchHalt = true then 1 else if d.boot.otpAlarm = true then _ else 0) = 0
    rw [if_neg (by simp [hlife, hglitch]), if_neg (by simp [halarm])]

end

/-- Settles O16. -/
theorem imageBoot : Obligations.ImageBoot := by
  unfold Obligations.ImageBoot
  refine ⟨fun s hanswers hstage => ?_, fun s len hanswers hstage htaken hpos hmax => ?_, fun s hanswers hstage htaken => ?_,
    fun s answers hstage => ?_, fun s hstage hvalid hlife hglitch halarm => ?_, fun s hstage => ?_, fun s hanswers hstage hhost => ?_⟩
  · have heffect : hostWrite 0x14 8 (hush s.dev) = headed (addressed (hush s.dev)) :=
      (hostWrite_bootCtrl (d := hush s.dev) hanswers 8).trans ((bootCtrl_hdrValid _).trans (hdrValid_takes hstage))
    refine answers_of_effect (f := hostWrite 0x14 8) rfl heffect ?_
    have hall : Only loadParts (settle (headed (addressed (hush s.dev)))) s.dev :=
      (only_settle (by decide)).mpr (.trans (by simp [headed]) only_addressed)
    exact ⟨settle_boot _, hall.aon rfl, settle_hw_staging _, hall.sameSwitch (by decide), hall.samePower rfl, hall.sameTime rfl,
      hall.sameStores (by decide), hall.odCfg rfl⟩
  · have heffect : hostWrite 0x14 (16 + 65536 * len.toNat) (hush s.dev) = blocked len.toNat (addressed (hush s.dev)) :=
      (hostWrite_bootCtrl (d := hush s.dev) hanswers _).trans ((bootCtrl_blockValid len hpos hmax).trans (blockValid_takes hstage htaken hpos hmax))
    refine answers_of_effect (f := hostWrite 0x14 (16 + 65536 * len.toNat)) rfl heffect ?_
    have hall : Only loadParts (settle (blocked len.toNat (addressed (hush s.dev)))) s.dev :=
      (only_settle (by decide)).mpr (.trans (by simp [blocked]) only_addressed)
    exact ⟨settle_boot _, hall.aon rfl, settle_hw_staging _, hall.sameSwitch (by decide), hall.samePower rfl, hall.sameTime rfl,
      hall.sameStores (by decide), hall.odCfg rfl⟩
  · have heffect : hostWrite 0x14 32 (hush s.dev) = imageEnd (addressed (hush s.dev)) :=
      (hostWrite_bootCtrl (d := hush s.dev) hanswers 32).trans (bootCtrl_imageEnd _)
    refine answers_of_effect (f := hostWrite 0x14 32) rfl heffect ?_
    have hall : Only loadParts (settle (imageEnd (addressed (hush s.dev)))) s.dev :=
      (only_settle (by decide)).mpr ((only_imageEnd.mono (by decide)).trans only_addressed)
    have hstart : ¬ ((addressed (hush s.dev)).boot.stage ≠ .imageHost ∨ (!(addressed (hush s.dev)).boot.hdrTaken) = true) := by
      rw [show (addressed (hush s.dev)).boot = s.dev.boot from rfl, hstage, htaken]
      decide
    refine ⟨fun hlength hvalid => ?_, fun hlength => ?_, hall.aon rfl, hall.sameSwitch (by decide), hall.samePower rfl, hall.sameTime rfl,
      hall.sameStores (by decide)⟩
    · rw [settle_boot]
      unfold imageEnd
      rw [if_neg hstart, if_neg]
      · rfl
      · rw [show (addressed (hush s.dev)).boot = s.dev.boot from rfl, imageValid_congr (t := addressed (hush s.dev)) (d := s.dev) rfl, hvalid]
        simp [hlength]
    · rw [settle_boot]
      unfold imageEnd
      rw [if_neg hstart, if_pos (.inl hlength)]
      rfl
  · refine answers_of_effect (f := imageLoadDone answers) rfl (if_neg (not_not.mpr hstage)) ?_
    have hload (st : Stage) : Only loadParts (settle (enterStage st (hush s.dev))) s.dev := by simp
    have heffect : (if answers && (hush s.dev).aon.bankF then enterStage .verify (hush s.dev) else noImage (hush s.dev)) =
        enterStage (if answers && s.dev.aon.bankF then .verify else .noImage) (hush s.dev) := by
      show (if answers && s.dev.aon.bankF then enterStage .verify (hush s.dev) else enterStage .noImage (hush s.dev)) = _
      split <;> rfl
    rw [heffect]
    generalize (if answers && s.dev.aon.bankF then Stage.verify else .noImage) = st
    have hall := hload st
    refine ⟨?_, hall.aon rfl, hall.sameSwitch (by decide), hall.samePower rfl, hall.sameTime rfl, hall.sameStores (by decide)⟩
    rw [settle_boot]
    exact boot_enterStage st _
  · have hvalid' : imageValid (hush s.dev) (triedImage (hush s.dev)).1 (triedImage (hush s.dev)).2 = true := by
      rw [imageValid_congr (t := hush s.dev) (d := s.dev) rfl, triedImage_congr (t := hush s.dev) (d := s.dev) rfl rfl]
      exact hvalid
    have heffect : imageVerifyDone (hush s.dev) = startReplay (verified (hush s.dev)) :=
      imageVerifyDone_runs (d := hush s.dev) hstage hvalid' hlife hglitch halarm
    refine answers_of_effect (f := imageVerifyDone) rfl heffect ?_
    obtain ⟨hboot, haon, hflash⟩ := startReplay_leaves (verified (hush s.dev))
    rw [settle_boot, settle_aon, settle_flash]
    generalize startReplay (verified (hush s.dev)) = u at hboot haon hflash
    exact ⟨(congrArg (·.stage) hboot :), (congrArg (·.image) hboot :), (congrArg (·.version) hboot :), (congrArg (·.rollback) hboot :), haon,
      fun h => hflash h⟩
  · have heffect : replayDone (hush s.dev) = followTarget (planesUp (hush s.dev)) := replayDone_eq (d := hush s.dev) hstage
    refine answers_of_effect (f := replayDone) rfl heffect ?_
    obtain ⟨hboot, hhw, hflash⟩ := records_ready (hush s.dev)
    have hleave := unleaving_followTarget (planesUp (hush s.dev))
    rw [hboot] at hleave
    have hstage' : (followTarget (planesUp (hush s.dev))).boot.stage = .ready := (congrArg (·.stage) hleave :)
    refine ⟨?_, ?_, ?_, ?_, ?_, ?_⟩
    · rw [settle_boot]; exact hstage'
    · rw [settle_boot]; exact (congrArg (·.bootDone) hleave :)
    · unfold odServes
      rw [settle_boot, hstage']
    · rw [settle_boot]; exact (congrArg (·.latched) hleave :)
    · rw [irq_settle _ (by decide), irq_of_hw (only_followTarget_self.hw rfl), irq_of_hw hhw]
      exact irq_reported (irq_readied (hush s.dev))
    · rw [settle_flash, only_followTarget_self.flash rfl]
      exact hflash
  · have heffect : hostWrite 0x14 1 (hush s.dev) = enterStage .imageHost (addressed (hush s.dev)) :=
      (hostWrite_bootCtrl (d := hush s.dev) hanswers 1).trans
        ((bootCtrl_release (d := addressed (hush s.dev)) hstage).trans (if_pos hhost))
    refine answers_of_effect (f := hostWrite 0x14 1) rfl heffect ?_
    have hall : Only loadParts (settle (enterStage .imageHost (addressed (hush s.dev)))) s.dev :=
      (only_settle (by decide)).mpr (.trans (by simp) only_addressed)
    exact ⟨settle_boot _, hall.aon rfl, hall.sameSwitch (by decide), hall.samePower rfl, hall.sameTime rfl, hall.sameStores (by decide)⟩

end Sys2Proof.Proofs.ImageBoot


/-! SUPPORT. Requests to the object dictionary (chapter 4): taken off their transport, executed once, answered. -/

namespace Sys2Proof.Proofs.Requests

open Sys2Proof Sys2Proof.Machine Sys2Proof.Safety
open Sys2Proof.Proofs.StepAndTimers
open Sys2Proof.Proofs.ShapersAndTally
open Sys2Proof.Proofs.Frames
open Sys2Proof.Proofs.Running
open Sys2Proof.Proofs.Shepherd
open Sys2Proof.Proofs.PdMessages (cable_pdSend_other)
open Sys2Proof.Proofs.HostWindow (sessionOf_setSession_self sessionOf_settle)

section
variable {S : List Part} {d e t u : Dev} {q : ZReq} {op : Byte} {via : Transport} {octets : List Byte} {n : Nat} {a : Answer}

/-! ### The transports -/

/-- What a message on a transport may reach. -/
@[simp] def wireParts : List Part :=
  [.out, .ng, .hw, .cables, .timer .respSent, .timersOf (.port 0), .timersOf (.port 1), .timersOf (.port 2), .timersOf (.port 3),
   .timersOf (.port 4), .timersOf (.port 5), .timersOf (.port 6), .timersOf (.port 7)]

theorem sendParts_within : ∀ n : CPort, Within (Frames.sendParts n.val) wireParts = true := by decide

theorem only_pdSend_wire (n : CPort) (m : PdMsg) : Only wireParts (pdSend n.val m d) d :=
  (show Only (Frames.sendParts n.val) (pdSend n.val m d) d by simp).mono (sendParts_within n)

theorem only_mailboxDone : Only wireParts (mailboxDone octets d) d := by simp [mailboxDone]

theorem only_carry_wire (via : Transport) (vdm : Nat) : Only wireParts (carry via vdm octets d) d := by
  unfold carry
  split
  · exact .refl _ _
  · simp
  · simp
  · exact only_pdSend_wire _ _

theorem only_sendOctets (via : Transport) (octets : List Byte) : Only wireParts (sendOctets via octets d) d := by
  unfold sendOctets
  rw [only_emit _ (by simp)]
  split
  · exact only_mailboxDone
  · exact only_carry_wire _ _

/-- A message on a transport touches no cable port but the one of its pod link. -/
def ByPort (via : Transport) (t d : Dev) : Prop := ∀ m : Nat, (∀ n id, via = .pd n id → m ≠ n.val) → cable t m = cable d m

theorem byPort_of_cables (h : t.cables = d.cables) : ByPort via t d := fun m _ => by rw [cable, h]; rfl

theorem ByPort.trans {x : Dev} (h : ByPort via t u) (h' : ByPort via u x) : ByPort via t x := fun m hm => (h m hm).trans (h' m hm)

theorem byPort_carry (vdm : Nat) : ByPort via (carry via vdm octets d) d := by
  unfold carry
  split
  · exact byPort_of_cables rfl
  · exact byPort_of_cables (by simp)
  · refine byPort_of_cables ((show Only [.ng] (queueNguzo octets d) d by simp).cables rfl)
  · exact fun m hm => cable_pdSend_other _ (hm _ _ rfl)

theorem byPort_sendOctets : ByPort via (sendOctets via octets d) d := by
  unfold sendOctets
  dsimp only
  refine .trans (byPort_of_cables (emit_cables _ _)) ?_
  split
  · exact byPort_of_cables (by simp [mailboxDone])
  · exact byPort_carry _

theorem zop_mem_sendOctets : Emission.zop via octets ∈ (sendOctets via octets d).out := by
  unfold sendOctets emit
  exact List.mem_append_right _ (List.mem_singleton.mpr rfl)

theorem only_takeRequest (q : ZReq) (op : Byte) : Only wireParts (takeRequest q op d) d := by
  unfold takeRequest
  split
  · simp
  · rename_i n id _
    have hport : Only (.out :: [.cable n.val]) (pdReceive n.val id (fun d => d) d) d := by
      unfold pdReceive
      dsimp only
      split
      · exact .refl _ _
      split
      · simp
      · simp
    exact hport.mono (by simp)
  · exact .refl _ _

theorem byPort_takeRequest : ByPort q.via (takeRequest q op d) d := by
  unfold takeRequest
  split
  · exact byPort_of_cables rfl
  · rename_i n id hvia
    intro m hm
    have hne : m ≠ n.val := hm n id hvia
    unfold pdReceive
    dsimp only
    split
    · rfl
    split
    · simp
    · simp [cable_setCable_other _ _ hne]
  · exact byPort_of_cables rfl

/-! ### What stands around a request -/

/-- What a request may reach beside the effect of its opcode. -/
@[simp] def requestParts : List Part := [.odBook, .sessions, .free, .timersOf .engine] ++ wireParts

theorem samePlanes_of_only (h : Only requestParts t d) (hport : ByPort via t d) : SamePlanes via t d :=
  ⟨h.sameSwitch rfl, ⟨hport, h.slots rfl, h.shep rfl⟩, h.tm rfl, h.sameStores (by decide), h.sameAon (by decide)⟩

theorem SamePlanes.trans {x : Dev} (h : SamePlanes via t u) (h' : SamePlanes via u x) : SamePlanes via t x := by
  obtain ⟨⟨hfab, hst, hrt, hcls⟩, ⟨hcable, hslots, hshep⟩, htm, ⟨hotp, hflash, hheat⟩, haon, hboot, hnow⟩ := h
  obtain ⟨⟨hfab', hst', hrt', hcls'⟩, ⟨hcable', hslots', hshep'⟩, htm', ⟨hotp', hflash', hheat'⟩, haon', hboot', hnow'⟩ := h'
  exact ⟨⟨hfab.trans hfab', hst.trans hst', hrt.trans hrt', hcls.trans hcls'⟩,
    ⟨ByPort.trans hcable hcable', hslots.trans hslots', hshep.trans hshep'⟩, htm.trans htm',
    ⟨hotp.trans hotp', hflash.trans hflash', hheat.trans hheat'⟩, haon.trans haon', hboot.trans hboot', hnow.trans hnow'⟩

theorem only_taken (q : ZReq) (op : Byte) (d : Dev) : Only requestParts (taken q op d) d :=
  ((only_takeRequest q op).mono (by decide)).trans ((only_hush (by decide)).mpr (.refl _ _))

theorem samePlanes_taken (q : ZReq) (op : Byte) (d : Dev) : SamePlanes q.via (taken q op d) d :=
  samePlanes_of_only (only_taken q op d) (byPort_takeRequest.trans (byPort_of_cables rfl))

theorem od_taken (q : ZReq) (op : Byte) (d : Dev) : (taken q op d).od = (hush d).od := (only_takeRequest q op).od rfl

theorem sessionOf_taken (q : ZReq) (op : Byte) (d : Dev) (n : Nat) : sessionOf (taken q op d) n = sessionOf d n := by
  unfold sessionOf
  rw [od_taken]
  rfl

theorem serving_taken (q : ZReq) (op : Byte) (d : Dev) : sessionServes q (taken q op d) = sessionServes q d ∧
    tagFails q op (taken q op d) = tagFails q op d := by
  have hotp : (taken q op d).otp = d.otp := (only_taken q op d).otp rfl
  have hboot : (taken q op d).boot = d.boot := (only_taken q op d).boot rfl
  have hroam : isRoaming (taken q op d) (reqSession q) = isRoaming d (reqSession q) := by
    unfold isRoaming sessionCount isSmall
    rw [hotp]
  have hright : boundRight (taken q op d) (reqSession q) q.via = boundRight d (reqSession q) q.via := by
    unfold boundRight
    rw [hroam]
  refine ⟨?_, ?_⟩
  · unfold sessionServes sessionOpen
    dsimp only
    rw [sessionOf_taken, hboot, hright]
  · unfold tagFails
    dsimp only
    rw [hroam, sessionOf_taken]

theorem run_of_accepted {act : Nat → ZReq → Dev → Answer × Dev} (h : Accepted op q d) :
    zopRequest op act q (hush d) = execOnce q op act (taken q op d) := by
  obtain ⟨hreaches, hwhole, hwell, hroom, hserves, htag⟩ := h
  obtain ⟨hserves', htag'⟩ := serving_taken q op d
  unfold zopRequest
  rw [if_pos (show reaches q op (hush d) = true from hreaches)]
  unfold serveRequest
  rw [if_neg (by simp [hwhole, hwell]), if_neg (by simp [hroom])]
  rw [if_neg (by rw [show takeRequest q op (hush d) = taken q op d from rfl, hserves', hserves]; decide),
    if_neg (by rw [show takeRequest q op (hush d) = taken q op d from rfl, htag', htag]; decide)]
  rfl

/-! ### An answer that executes nothing -/

theorem only_refuse (q : ZReq) (op : Byte) (st aux : Nat) : Only (.odBook :: wireParts) (refuse q op st aux d) d := by
  unfold refuse
  dsimp only
  refine ((only_sendOctets _ _).mono (by decide)).trans ?_
  rw [only_onOd_book rfl rfl rfl (by decide)]
  exact .refl _ _

theorem byPort_refuse (q : ZReq) (op : Byte) (st aux : Nat) : ByPort q.via (refuse q op st aux d) d := by
  unfold refuse
  dsimp only
  exact byPort_sendOctets.trans (byPort_of_cables rfl)

/-- A refusal counts under its status and no more. -/
theorem od_refuse (q : ZReq) (op : Byte) (st aux : Nat) : (refuse q op st aux d).od =
    { d.od with stale := d.od.stale + b2n (st == stStale), busy := d.od.busy + b2n (st == stBusy)
                integrity := d.od.integrity + b2n (st == stIntegrity), sessionCnt := d.od.sessionCnt + b2n (st == stSession)
                duplicate := d.od.duplicate + b2n (st == stDuplicate) } := by
  unfold refuse
  exact (only_sendOctets _ _).od rfl

theorem responds_settle_send {x : Dev} : responds q octets (settle (sendOctets q.via octets x)) := by
  unfold responds
  rw [settle_out]
  exact zop_mem_sendOctets

theorem responds_refuse {st aux : Nat} (hst : st ≠ stIntegrity) (hks : (sessionOf u (reqSession q)).ks = (sessionOf d (reqSession q)).ks) :
    responds q (refusalOctets q op st aux d) (settle (refuse q op st aux u)) := by
  unfold refuse refusalOctets
  rw [hks, show (st == stIntegrity) = false by simpa using hst, Bool.false_or]
  exact responds_settle_send

/-! ### A request that is executed -/

/-- A proof that fails counts in INTEGRITY. -/
def judged (a : Answer) (u : Dev) : Dev := onOd (fun o => { o with integrity := o.integrity + b2n (a.status == stIntegrity) }) u

theorem only_judged (a : Answer) : Only [.odBook] (judged a d) d := (only_onOd_book rfl rfl rfl (by decide)).mpr (.refl _ _)

/-- What is counted and kept of a request that was executed. -/
def entered (q : ZReq) (n : Nat) (a : Answer) (octets : List Byte) (u : Dev) : Dev :=
  let v := noteExecuted q (judged a u)
  if sessionOpen v (reqSession q) then setSession (reqSession q) (seqAdvance n q.seq a.status octets) v else v

/-- The device that answered. -/
def replied (q : ZReq) (n : Nat) (a : Answer) (octets : List Byte) (u : Dev) : Dev :=
  settle (sendOctets q.via octets (entered q n a octets u))

/-- What the record of an execution may reach. -/
@[simp] def recordParts (s : Nat) : List Part := [.odBook, .sessions, .free, .timer (.sessionIdle s)]

theorem only_noteService (hS : Within [.odBook, .free] S = true) : Only S (noteService d) e ↔ Only S d e := by
  refine Only.iff (T := [.odBook, .free]) ?_ hS
  show Only [.odBook, .free] (drawFree (onOd _ d)).2 d
  rw [only_drawFree (by decide), only_onOd_book rfl rfl rfl (by decide)]
  exact .refl _ _

/-- The session's idle time starts again; only a roaming session that is open has one. -/
def noteVia (q : ZReq) (d : Dev) : Dev :=
  if sessionOpen d (reqSession q) then setSession (reqSession q) (fun x => { x with lastVia := viaCode q.via }) d else d

/-- The count of an executed request and its service time. -/
def noteCount (d : Dev) : Dev := noteService (onOd (fun o => { o with executed := o.executed + 1 }) d)

theorem noteExecuted_eq (q : ZReq) (d : Dev) : noteExecuted q d =
    if isRoaming (noteVia q (noteCount d)) (reqSession q) && (sessionOf (noteVia q (noteCount d)) (reqSession q)).isOpen then
      arm (.sessionIdle (reqSession q)) (cfg (noteVia q (noteCount d)) 0x1000 6 * sec) (noteVia q (noteCount d))
    else noteVia q (noteCount d) := rfl

theorem only_noteVia (q : ZReq) : Only [.sessions] (noteVia q d) d := by
  unfold noteVia
  split
  · simp
  · exact .refl _ _

theorem only_noteCount : Only [.odBook, .free] (noteCount d) d := by
  unfold noteCount
  rw [only_noteService (by decide), only_onOd_book rfl rfl rfl (by decide)]
  exact .refl _ _

theorem only_noteExecuted (q : ZReq) : Only (recordParts (reqSession q)) (noteExecuted q d) d := by
  have hvia : Only (recordParts (reqSession q)) (noteVia q (noteCount d)) d :=
    ((only_noteVia q).mono (by simp)).trans (only_noteCount.mono (by simp))
  rw [noteExecuted_eq]
  split
  · rw [only_arm _ _ (by simp)]
    exact hvia
  · exact hvia

theorem sessionOf_noteVia (q : ZReq) (d : Dev) : sessionOf (noteVia q d) (reqSession q) =
    if sessionOpen d (reqSession q) then { sessionOf d (reqSession q) with lastVia := viaCode q.via }
    else sessionOf d (reqSession q) := by
  unfold noteVia
  split
  · exact sessionOf_setSession_self _ _ _
  · rfl

theorem sessionOf_noteExecuted (q : ZReq) (d : Dev) : sessionOf (noteExecuted q d) (reqSession q) =
    if sessionOpen d (reqSession q) then { sessionOf d (reqSession q) with lastVia := viaCode q.via }
    else sessionOf d (reqSession q) := by
  have hvia := sessionOf_noteVia q (noteCount d)
  have hsame : sessionOf (noteExecuted q d) (reqSession q) = sessionOf (noteVia q (noteCount d)) (reqSession q) := by
    rw [noteExecuted_eq]
    split <;> rfl
  exact hsame.trans hvia

theorem sessionOpen_noteExecuted (q : ZReq) (d : Dev) : sessionOpen (noteExecuted q d) (reqSession q) = sessionOpen d (reqSession q) := by
  unfold sessionOpen
  rw [sessionOf_noteExecuted]
  split <;> rfl

theorem od_noteExecuted (q : ZReq) (d : Dev) : (noteExecuted q d).od =
    { d.od with executed := d.od.executed + 1, watchOd := (noteExecuted q d).od.watchOd, sessions := (noteExecuted q d).od.sessions } := by
  have hvia : (noteVia q (noteCount d)).od = { d.od with
      executed := d.od.executed + 1, watchOd := (noteVia q (noteCount d)).od.watchOd
      sessions := (noteVia q (noteCount d)).od.sessions } := by
    unfold noteVia
    split <;> rfl
  rw [noteExecuted_eq]
  split
  · exact hvia
  · exact hvia

theorem only_entered (q : ZReq) (n : Nat) (a : Answer) (octets : List Byte) (u : Dev) :
    Only (recordParts (reqSession q)) (entered q n a octets u) u := by
  unfold entered
  dsimp only
  split
  · rw [only_setSession _ _ (by simp)]
    exact (only_noteExecuted q).trans ((only_judged a).mono (by simp))
  · exact (only_noteExecuted q).trans ((only_judged a).mono (by simp))

theorem only_replied (q : ZReq) (n : Nat) (a : Answer) (octets : List Byte) (u : Dev) :
    Only (recordParts (reqSession q) ++ wireParts) (replied q n a octets u) u := by
  refine (only_settle (by simp)).mpr (((only_sendOctets _ _).mono (by simp)).trans ((only_entered q n a octets u).mono (by simp)))

theorem samePlanes_replied : SamePlanes q.via (replied q n a octets u) u := by
  refine samePlanes_of_only ((only_replied q n a octets u).mono (by simp [Owner.of])) ?_
  refine .trans (byPort_of_cables (settle_cables _)) (byPort_sendOctets.trans (byPort_of_cables ?_))
  exact (only_entered q n a octets u).cables (by simp [Part.seenIn])

theorem responds_replied : responds q octets (replied q n a octets u) := responds_settle_send

theorem od_entered (q : ZReq) (n : Nat) (a : Answer) (octets : List Byte) (u : Dev) : (entered q n a octets u).od =
    { u.od with executed := u.od.executed + 1, integrity := u.od.integrity + b2n (a.status == stIntegrity)
                watchOd := (entered q n a octets u).od.watchOd, sessions := (entered q n a octets u).od.sessions } := by
  have hnoted := od_noteExecuted q (judged a u)
  unfold entered
  dsimp only
  split
  · have hset (g : Session → Session) (v : Dev) : (setSession (reqSession q) g v).od =
        { v.od with sessions := (setSession (reqSession q) g v).od.sessions } := rfl
    rw [hset, hnoted]
    rfl
  · exact hnoted

theorem od_sendOctets (via : Transport) (octets : List Byte) : (sendOctets via octets d).od = d.od := (only_sendOctets _ _).od rfl

theorem sessionOf_entered : sessionOf (entered q n a octets u) (reqSession q) =
    if sessionOpen u (reqSession q) then
      seqAdvance n q.seq a.status octets { sessionOf u (reqSession q) with lastVia := viaCode q.via }
    else sessionOf u (reqSession q) := by
  have hopen : sessionOpen (noteExecuted q (judged a u)) (reqSession q) = sessionOpen u (reqSession q) := sessionOpen_noteExecuted q _
  have hses := sessionOf_noteExecuted q (judged a u)
  rw [show sessionOpen (judged a u) (reqSession q) = sessionOpen u (reqSession q) from rfl,
    show sessionOf (judged a u) (reqSession q) = sessionOf u (reqSession q) from rfl] at hses
  unfold entered
  dsimp only
  rw [hopen]
  by_cases h : sessionOpen u (reqSession q) = true
  · rw [if_pos h] at hses ⊢
    rw [if_pos h, sessionOf_setSession_self, hses]
  · rw [if_neg h] at hses ⊢
    rw [if_neg h, hses]

theorem sessionOf_replied : sessionOf (replied q n a octets u) (reqSession q) =
    if sessionOpen u (reqSession q) then
      seqAdvance n q.seq a.status octets { sessionOf u (reqSession q) with lastVia := viaCode q.via }
    else sessionOf u (reqSession q) := by
  unfold replied
  rw [sessionOf_settle, ← sessionOf_entered, sessionOf, od_sendOctets]
  rfl

theorem execOnce_ahead {act : Nat → ZReq → Dev → Answer × Dev} {n : Nat} (h : Accepted op q d) (hahead : Ahead q n d)
    (hact : act (reqSession q) q (taken q op d) = (a, u)) (hlen : (answerOctets q op a d).length ≤ maxMessage q.via)
    (hrec : recorded a.status = true) :
    settle (zopRequest op act q (hush d)) = replied q n a (answerOctets q op a d) u := by
  rw [run_of_accepted h]
  unfold execOnce
  dsimp only
  rw [sessionOf_taken, show seqCase (sessionOf d (reqSession q)) q.seq = .ahead n from hahead]
  dsimp only
  rw [hact]
  dsimp only
  rw [show (responseOctets q op a.status 0 a.payload (if a.plain then none else (sessionOf d (reqSession q)).ks)) = answerOctets q op a d from rfl,
    if_neg (Nat.not_lt.mpr hlen), if_pos hrec]
  rfl

end

/-! ### The exactly-once rules -/

section
variable {q : ZReq} {op : Byte} {s : State} {c : Instr} {act : Nat → ZReq → Dev → Answer × Dev} {P : Dev → Prop}

/-- A request that is new to its session runs, and is answered. -/
theorem answers_ahead {n : Nat} {a : Answer} {u : Dev} (hexec : exec c s = run (zopRequest op act q) s) (h : Accepted op q s.dev)
    (hahead : Ahead q n s.dev) (hact : act (reqSession q) q (taken q op s.dev) = (a, u))
    (hlen : (answerOctets q op a s.dev).length ≤ maxMessage q.via) (hrec : recorded a.status = true)
    (hP : P (replied q n a (answerOctets q op a s.dev) u)) : Answers c s P :=
  answers_of_effect hexec rfl (execOnce_ahead h hahead hact hlen hrec ▸ hP)

/-- A request that the session has seen is refused with nothing executed. -/
theorem answers_refused {st aux : Nat} (hexec : exec c s = run (zopRequest op act q) s) (h : Accepted op q s.dev)
    (hcase : execOnce q op act (taken q op s.dev) = refuse q op st aux (taken q op s.dev))
    (hP : P (settle (refuse q op st aux (taken q op s.dev)))) : Answers c s P :=
  answers_of_effect hexec (run_of_accepted h) (hcase ▸ hP)

theorem samePlanes_refused (st aux : Nat) (d : Dev) : SamePlanes q.via (settle (refuse q op st aux (taken q op d))) d := by
  refine SamePlanes.trans (samePlanes_of_only ?_ (.trans (byPort_of_cables (settle_cables _)) (byPort_refuse q op st aux))) (samePlanes_taken q op d)
  exact (only_settle (by decide)).mpr ((only_refuse q op st aux).mono (by decide))

/-- What a refusal says, counts and leaves. -/
structure Refused (q : ZReq) (op : Byte) (st aux : Nat) (t d : Dev) : Prop where
  responds : responds q (refusalOctets q op st aux d) t
  duplicate : t.od.duplicate = d.od.duplicate + b2n (st == stDuplicate)
  stale : t.od.stale = d.od.stale + b2n (st == stStale)
  executed : t.od.executed = d.od.executed
  cfg : t.od.cfg = d.od.cfg
  sessions : t.od.sessions = d.od.sessions
  scheduled : t.od.scheduled = d.od.scheduled
  planes : SamePlanes q.via t d

theorem refused_stands (q : ZReq) (op : Byte) (st aux : Nat) (d : Dev) (hst : st ≠ stIntegrity) :
    Refused q op st aux (settle (refuse q op st aux (taken q op d))) d where
  responds := responds_refuse hst (by rw [sessionOf_taken])
  duplicate := by rw [settle_od_duplicate, od_refuse, od_taken]; rfl
  stale := by rw [settle_od_stale, od_refuse, od_taken]; rfl
  executed := by rw [settle_od_executed, od_refuse, od_taken]; rfl
  cfg := by rw [settle_od_cfg, od_refuse, od_taken]; rfl
  sessions := by rw [settle_od_sessions, od_refuse, od_taken]; rfl
  scheduled := by rw [settle_od_scheduled, od_refuse, od_taken]; rfl
  planes := samePlanes_refused st aux d

end

/-- Settles O17. -/
theorem requestsRunOnce : Obligations.RequestsRunOnce := by
  unfold Obligations.RequestsRunOnce
  intro s q c op act hmem hacc
  have hexec : exec c s = run (zopRequest op act q) s := by
    simp only [List.mem_cons, Prod.mk.injEq, List.not_mem_nil, or_false] at hmem
    obtain ⟨rfl, rfl, rfl⟩ | ⟨rfl, rfl, rfl⟩ | ⟨rfl, rfl, rfl⟩ | ⟨rfl, rfl, rfl⟩ | ⟨rfl, rfl, rfl⟩ | ⟨rfl, rfl, rfl⟩ |
      ⟨rfl, rfl, rfl⟩ | ⟨rfl, rfl, rfl⟩ | ⟨rfl, rfl, rfl⟩ := hmem
    all_goals rfl
  refine ⟨fun n hahead => ?_, fun octets hcase hcache => ?_, fun i hcase => ?_, fun hcase => ?_⟩
  · intro r octets hlen hrec
    refine answers_ahead hexec hacc hahead rfl hlen hrec ⟨responds_replied, ?_, samePlanes_replied, ?_, ?_, fun hopen => ?_⟩
    · rw [replied, settle_od_executed, od_sendOctets, od_entered]
    · rw [replied, settle_od_cfg, od_sendOctets, od_entered]
    · rw [replied, settle_od_scheduled, od_sendOctets, od_entered]
    · rw [sessionOf_replied, if_pos hopen]
  · refine answers_of_effect hexec (u := sendOctets q.via octets (taken q op s.dev)) ?_ ?_
    · rw [run_of_accepted hacc, execOnce]
      dsimp only
      rw [sessionOf_taken, hcase]
      dsimp only
      rw [hcache]
    · refine ⟨responds_settle_send, ?_, ?_, ?_, ?_, ?_⟩
      · rw [settle_od_executed, od_sendOctets, od_taken]
        rfl
      · rw [settle_od_cfg, od_sendOctets, od_taken]
        rfl
      · rw [settle_od_sessions, od_sendOctets, od_taken]
        rfl
      · rw [settle_od_scheduled, od_sendOctets, od_taken]
        rfl
      · refine SamePlanes.trans (samePlanes_of_only ?_ (.trans (byPort_of_cables (settle_cables _)) byPort_sendOctets))
          (samePlanes_taken q op s.dev)
        exact (only_settle (by decide)).mpr ((only_sendOctets _ _).mono (by decide))
  · have hrefused : execOnce q op act (taken q op s.dev) =
        refuse q op stDuplicate ((((sessionOf s.dev (reqSession q)).statuses[i]?).getD 0x1C).toNat) (taken q op s.dev) := by
      rw [execOnce]
      dsimp only
      rw [sessionOf_taken, hcase]
    have hsame := refused_stands q op stDuplicate (((sessionOf s.dev (reqSession q)).statuses[i]?).getD 0x1C).toNat s.dev (by decide)
    exact answers_refused hexec hacc hrefused ⟨hsame.responds, hsame.duplicate, hsame.executed, hsame.cfg, hsame.sessions,
      hsame.scheduled, hsame.planes⟩
  · have hrefused : execOnce q op act (taken q op s.dev) = refuse q op stStale 0 (taken q op s.dev) := by
      rw [execOnce]
      dsimp only
      rw [sessionOf_taken, hcase]
    have hsame := refused_stands q op stStale 0 s.dev (by decide)
    exact answers_refused hexec hacc hrefused ⟨hsame.responds, hsame.stale, hsame.executed, hsame.cfg, hsame.sessions,
      hsame.scheduled, hsame.planes⟩

end Sys2Proof.Proofs.Requests


/-! SUPPORT. READ and WRITE requests, undefined opcodes and passed deadlines (chapter 4). -/

namespace Sys2Proof.Proofs.ReadAndWrite

open Sys2Proof Sys2Proof.Machine Sys2Proof.Safety
open Sys2Proof.Proofs.StepAndTimers
open Sys2Proof.Proofs.ShapersAndTally
open Sys2Proof.Proofs.Frames
open Sys2Proof.Proofs.Running
open Sys2Proof.Proofs.HostWindow (length_leBytes)
open Sys2Proof.Proofs.Requests
open Sys2Proof.Proofs.RowWrites (noteParts)
open Sys2Proof.Proofs.TableWrites (only_odWriteNow)

section
variable {d u t : Dev} {q : ZReq} {op : Byte} {via : Transport} {a : Answer} {n : Nat} {octets : List Byte}

/-! ### How long an answer is -/

theorem length_responseOctets (q : ZReq) (op : Byte) (st aux : Nat) (payload : List Byte) (ks : Option (List Byte)) :
    (responseOctets q op st aux payload ks).length ≤ 20 + payload.length := by
  have htag (k msg : List Byte) : (tagOf k msg).length ≤ 8 := List.length_take_le 8 _
  unfold responseOctets
  dsimp only
  split
  next k =>
    rw [List.length_append]
    refine (Nat.add_le_add_left (htag k _) _).trans ?_
    simp only [List.length_append, List.length_cons, List.length_nil, length_leBytes]
    omega
  next =>
    simp only [List.length_append, List.length_cons, List.length_nil, length_leBytes]
    omega

theorem maxMessage_ge (via : Transport) : 24 ≤ maxMessage via := by
  cases via <;> simp [maxMessage]

/-- An answer of at most four octets fits every transport. -/
theorem fits_short (q : ZReq) (op : Byte) (a : Answer) (d : Dev) (h : a.payload.length ≤ 4) :
    (answerOctets q op a d).length ≤ maxMessage q.via := by
  have hlen : (answerOctets q op a d).length ≤ 20 + a.payload.length := length_responseOctets ..
  have hmax := maxMessage_ge q.via
  omega

/-! ### What an answered request leaves -/

theorem cfg_replied : (replied q n a octets u).od.cfg = u.od.cfg := by
  rw [replied, settle_od_cfg, od_sendOctets, od_entered]

theorem cfg_taken (q : ZReq) (op : Byte) (d : Dev) : (taken q op d).od.cfg = d.od.cfg := by
  rw [od_taken]
  rfl

theorem pendingJournal_replied : (replied q n a octets u).od.pendingJournal = u.od.pendingJournal := by
  rw [replied, settle_od_pendingJournal, od_sendOctets, od_entered]

theorem od_odRead (d : Dev) (s obj el : Nat) : (odRead d s obj el).2.2.od = d.od := by
  unfold odRead
  dsimp only
  split
  · split <;> rfl
  · rfl

theorem samePlanes_noted (h : Only noteParts t d) : SamePlanes via t d := samePlanes_of_only (h.mono (by decide)) (byPort_of_cables (h.cables rfl))

/-- A change that the journal may take waits for it. -/
theorem noteChange_waits {item : JournalItem} (h : armed .journal d = true ∨ attemptWaits d = false) :
    (noteChange item d).od.pendingJournal = d.od.pendingJournal ++ [item] ∧ armed .journal (noteChange item d) = true := by
  unfold noteChange
  dsimp only
  by_cases harmed : armed .journal d = true
  · rw [if_pos harmed]
    exact ⟨rfl, harmed⟩
  · rw [if_neg harmed, if_neg (by simpa using h.resolve_left harmed)]
    exact ⟨rfl, by simp⟩

end

/-- Settles O18. -/
theorem readAndWrite : Obligations.ReadAndWrite := by
  unfold Obligations.ReadAndWrite
  refine ⟨fun s q n e hacc hahead hpayload => ?_, fun s q n hacc hahead => ?_, fun s q n op hop hacc hahead => ?_,
    fun s q op hreaches hwhole hwell => ?_⟩
  · intro d hplain hbusy hthere helem hmay r hok hlen
    have hact : doRead (reqSession q) q d = (⟨stOk, r.2.1, false⟩, r.2.2) := by
      unfold doRead
      dsimp only
      rw [if_neg (by simp [hpayload]), hbusy, if_neg (by decide), hthere, if_neg (by decide), helem]
      dsimp only
      rw [hplain, if_neg (by decide), hmay, if_neg (by decide)]
      rw [← hok]
    refine answers_ahead (act := doRead) rfl hacc hahead hact hlen rfl ⟨responds_replied, ?_⟩
    rw [cfg_replied, od_odRead, cfg_taken]
  · intro d hok u
    have hact : doWrite (reqSession q) q d = (ans stOk, odWriteNow d (reqSession q) q.object.toNat q.element.toNat q.payload) := by
      unfold doWrite
      dsimp only
      rw [if_pos hok]
    have hnote : Only noteParts (odWriteNow d (reqSession q) q.object.toNat q.element.toNat q.payload) u := only_odWriteNow
    refine answers_ahead (act := doWrite) rfl hacc hahead hact (fits_short _ _ _ _ (by decide)) rfl
      ⟨responds_replied, SamePlanes.trans samePlanes_replied (samePlanes_noted hnote), ?_, fun hpersists hmay => ?_⟩
    · rw [cfg_replied]
      exact hnote.odCfg rfl
    · have hnow : odWriteNow d (reqSession q) q.object.toNat q.element.toNat q.payload = noteChange
          { values := [(q.object.toNat, q.element.toNat, leBytes q.payload.length (cfg u q.object.toNat q.element.toNat))],
            group := false } u := if_pos hpersists
      obtain ⟨hpending, harmed⟩ := noteChange_waits (d := u) hmay
      refine ⟨?_, ?_⟩
      · rw [pendingJournal_replied, hnow, hpending]
      · rw [(only_replied _ _ _ _ _).armed .journal (by simp [Part.seenIn, Owner.of]), hnow]
        exact harmed
  · have hexec : exec (.notifyRequest q op) s = run (zopRequest op doUndefined q) s := by
      show run (fun d => if undefinedOpcode op then zopRequest op doUndefined q d else d) s = _
      simp only [hop, if_true]
    refine answers_ahead hexec hacc hahead (a := ans stAccess) rfl (fits_short _ _ _ _ (by decide)) rfl
      ⟨responds_replied, ?_, SamePlanes.trans samePlanes_replied (samePlanes_taken q op s.dev)⟩
    rw [cfg_replied, cfg_taken]
  · have heffect : answerDeadline q op (hush s.dev) =
        refuse q op stDeadline 0 (onOd (fun o => { o with watchDeadline := satInc o.watchDeadline }) (taken q op s.dev)) := by
      unfold answerDeadline
      dsimp only
      rw [show reaches q op (hush s.dev) = true from hreaches, hwhole, hwell]
      rfl
    have hlate : Only [.odBook] (onOd (fun o => { o with watchDeadline := satInc o.watchDeadline }) (taken q op s.dev)) (taken q op s.dev) :=
      (only_onOd_book rfl rfl rfl (by decide)).mpr (.refl _ _)
    refine answers_of_effect (f := answerDeadline q op) rfl heffect ⟨responds_refuse (by decide) ?_, ?_, ?_, ?_, ?_⟩
    · exact congrArg Session.ks (sessionOf_taken q op s.dev _)
    · rw [settle_od_watchDeadline, od_refuse, onOd, od_taken]
      rfl
    · rw [settle_od_cfg, od_refuse, onOd, od_taken]
      rfl
    · rw [settle_od_sessions, od_refuse, onOd, od_taken]
      rfl
    · refine SamePlanes.trans (samePlanes_of_only ?_ (.trans (byPort_of_cables (settle_cables _)) (byPort_refuse q op _ _)))
        (SamePlanes.trans (samePlanes_of_only (hlate.mono (by decide)) (byPort_of_cables rfl)) (samePlanes_taken q op s.dev))
      exact (only_settle (by decide)).mpr ((only_refuse q op _ _).mono (by decide))

end Sys2Proof.Proofs.ReadAndWrite


/-! SUPPORT. Bundles: opened, filled, committed, aborted, run out (R129-R135). -/

namespace Sys2Proof.Proofs.Bundles

open Sys2Proof Sys2Proof.Machine Sys2Proof.Safety
open Sys2Proof.Proofs.StepAndTimers
open Sys2Proof.Proofs.ShapersAndTally
open Sys2Proof.Proofs.Frames
open Sys2Proof.Proofs.Running
open Sys2Proof.Proofs.HostWindow (length_leBytes sessionOf_setSession_self sessionOf_settle)
open Sys2Proof.Proofs.Requests
open Sys2Proof.Proofs.ReadAndWrite

section
variable {S : List Part} {d u t : Dev} {q : ZReq} {op : Byte} {via : Transport} {a : Answer} {n : Nat} {octets : List Byte}

/-! ### What an answered request leaves of the engine -/

/-- A field of the session that the record of the request does not hold. -/
theorem session_replied {α : Type} (f : Session → α)
    (hf : ∀ n seq st octets x v, f (seqAdvance n seq st octets { x with lastVia := v }) = f x) :
    f (sessionOf (replied q n a octets u) (reqSession q)) = f (sessionOf u (reqSession q)) := by
  rw [sessionOf_replied]
  split
  · exact hf ..
  · rfl

@[simp] theorem sessionOf_arm (t : Timer) (ns : Nat) (d : Dev) (n : Nat) : sessionOf (arm t ns d) n = sessionOf d n := rfl
@[simp] theorem sessionOf_disarm (t : Timer) (d : Dev) (n : Nat) : sessionOf (disarm t d) n = sessionOf d n := rfl

theorem scheduled_replied : (replied q n a octets u).od.scheduled = u.od.scheduled := by
  rw [replied, settle_od_scheduled, od_sendOctets, od_entered]

theorem scheduled_taken (q : ZReq) (op : Byte) (d : Dev) : (taken q op d).od.scheduled = d.od.scheduled := by
  rw [od_taken]
  rfl

theorem now_replied : (replied q n a octets u).now = u.now := (only_replied q n a octets u).now (by simp [Part.seenIn])

theorem now_taken (q : ZReq) (op : Byte) (d : Dev) : (taken q op d).now = d.now := (only_taken q op d).now rfl

theorem cfg_of_taken (q : ZReq) (op : Byte) (d : Dev) (obj el : Nat) : cfg (taken q op d) obj el = cfg d obj el :=
  (only_taken q op d).cfg rfl obj el

theorem roleOf_taken (q : ZReq) (op : Byte) (d : Dev) (n : Nat) : roleOf (taken q op d) n = roleOf d n := by
  unfold roleOf
  rw [sessionOf_taken, (only_taken q op d).otp rfl]

/-- The effect of an opcode on the engine's own state. -/
@[simp] def engineParts : List Part := [.odBook, .sessions, .free, .timersOf .engine]

theorem samePlanes_engine (h : Only engineParts t d) : SamePlanes via t d := samePlanes_of_only (h.mono (by decide)) (byPort_of_cables (h.cables rfl))

/-- What a request of the engine's own leaves. -/
theorem samePlanes_answered (h : Only engineParts u (taken q op d)) : SamePlanes q.via (replied q n a octets u) d :=
  SamePlanes.trans samePlanes_replied (SamePlanes.trans (samePlanes_engine h) (samePlanes_taken q op d))

theorem cfg_answered (h : Only engineParts u (taken q op d)) : (replied q n a octets u).od.cfg = d.od.cfg := by
  rw [cfg_replied, h.odCfg rfl, cfg_taken]

theorem firstCycleAfter_taken (q : ZReq) (op : Byte) (d : Dev) (ns : Nat) : firstCycleAfter (taken q op d) ns = firstCycleAfter d ns := by
  have htm : (taken q op d).tm = d.tm := (only_taken q op d).tm rfl
  unfold firstCycleAfter cyclePeriod schedNs taiNs
  rw [htm, cfg_of_taken]

/-! ### A session's bundle -/

/-- The session with an empty bundle; with none; and with one committed as number `k` for a cycle. -/
def withOpen (x : Session) : Session := { x with bundle := some [], bState := 1, bApply := 0, bResult := 0, bFail := 0 }
@[inherit_doc withOpen] def withNone (x : Session) : Session := { x with bundle := none, bState := 0, bApply := 0, bResult := 0, bFail := 0 }
@[inherit_doc withOpen] def withCommitted (k cycle : Nat) (x : Session) : Session :=
  { x with bundle := none, bState := 2, bApply := cycle, bResult := 0, bFail := 0, bSerial := k }

theorem discardBundle_of_some {s : Nat} (h : (sessionOf d s).bundle.isSome = true) :
    discardBundle s d = disarm (.bundle s) (setSession s withNone d) := if_pos h

theorem bundle_discarded (s : Nat) (d : Dev) : (sessionOf (discardBundle s d) s).bundle = none := by
  by_cases h : (sessionOf d s).bundle.isSome = true
  · rw [discardBundle_of_some h, sessionOf_disarm, sessionOf_setSession_self]
    rfl
  · rw [discardBundle, if_neg h]
    simpa using h

theorem bState_discarded {s : Nat} (h : (sessionOf d s).bundle.isSome = true) : (sessionOf (discardBundle s d) s).bState = 0 := by
  rw [discardBundle_of_some h, sessionOf_disarm, sessionOf_setSession_self]
  rfl

theorem scheduled_discarded (s : Nat) (d : Dev) : (discardBundle s d).od.scheduled = d.od.scheduled := by
  unfold discardBundle
  split <;> rfl

end

/-- The device that a commit leaves. -/
def committed (sess k cycle : Nat) (ws : List BWrite) (d : Dev) : Dev :=
  onOd (fun o => { o with commits := k, scheduled := o.scheduled ++ [{ sess := sess, serial := k, cycle := cycle, writes := ws }] })
    (setSession sess (withCommitted k cycle) (disarm (.bundle sess) d))

theorem only_committed (sess k cycle : Nat) (ws : List BWrite) (d : Dev) : Only engineParts (committed sess k cycle ws d) d := by
  unfold committed
  rw [only_onOd_book rfl rfl rfl (by decide)]
  simp [Owner.of]

/-- The device without the session's bundle that was committed last. -/
def unscheduled (sess : Nat) (d : Dev) : Dev :=
  setSession sess (fun x => { x with bState := 0, bApply := 0, bResult := 0, bFail := 0 })
    (onOd (fun o => { o with scheduled := eraseLast (fun b => b.sess == sess) o.scheduled }) d)

theorem only_unscheduled (sess : Nat) (d : Dev) : Only engineParts (unscheduled sess d) d := by
  unfold unscheduled
  rw [only_setSession _ _ (by decide), only_onOd_book rfl rfl rfl (by decide)]
  exact .refl _ _

/-- Settles O19. -/
theorem bundleLife : Obligations.BundleLife := by
  unfold Obligations.BundleLife
  refine ⟨fun s q n hacc hahead hpayload hnone hroom => ?_, fun s q n ws hacc hahead hopen => ?_,
    fun s q n ws hacc hahead hpayload hopen hroom => ?_, fun s q n hacc hahead hpayload => ⟨fun hopen => ?_, fun hnone hany => ?_⟩,
    fun s n harmed hopen => ?_⟩
  · have hact : doBundleOpen (reqSession q) q (taken q opBundleOpen s.dev) = (ans stOk,
        arm (.bundle (reqSession q)) (cfg s.dev 0x1000 7 * ms) (setSession (reqSession q) withOpen (taken q opBundleOpen s.dev))) := by
      have hbundles : openBundles (taken q opBundleOpen s.dev) = openBundles s.dev := by
        unfold openBundles
        rw [od_taken]
        rfl
      unfold doBundleOpen
      rw [if_neg (by simp [hpayload]), if_neg, cfg_of_taken]
      · rfl
      rw [sessionOf_taken, hnone, hbundles]
      simpa using hroom
    have hu : Only engineParts (arm (.bundle (reqSession q)) (cfg s.dev 0x1000 7 * ms) (setSession (reqSession q) withOpen (taken q opBundleOpen s.dev)))
        (taken q opBundleOpen s.dev) := by simp [Owner.of]
    refine answers_ahead (act := doBundleOpen) rfl hacc hahead hact (fits_short _ _ _ _ (by decide)) rfl
      ⟨responds_replied, ?_, ?_, ?_, cfg_answered hu, samePlanes_answered hu⟩
    · rw [session_replied Session.bundle fun _ _ _ _ _ _ => rfl]
      rw [sessionOf_arm, sessionOf_setSession_self]
      rfl
    · rw [session_replied Session.bState fun _ _ _ _ _ _ => rfl]
      rw [sessionOf_arm, sessionOf_setSession_self]
      rfl
    · rw [(only_replied _ _ _ _ _).runsFor (.bundle (reqSession q)) (by simp [Part.seenIn, Owner.of]) now_replied]
      exact runsFor_arm_self
  · intro d hok hlen ws' hroom
    have hact : doBundleAdd (reqSession q) q d = (ans stOk, setSession (reqSession q) (fun x => { x with bundle := some ws' }) d) := by
      unfold doBundleAdd
      rw [show (sessionOf d (reqSession q)).bundle = some ws from (congrArg Session.bundle (sessionOf_taken q _ s.dev _)).trans hopen]
      dsimp only
      rw [hok, if_neg (by decide), if_neg (by omega), if_neg (by simp), roleOf_taken, if_neg (by exact Nat.not_lt.mpr hroom)]
    have hu : Only engineParts (setSession (reqSession q) (fun x => { x with bundle := some ws' }) d) d := by simp
    refine answers_ahead (act := doBundleAdd) rfl hacc hahead hact (fits_short _ _ _ _ (by decide)) rfl
      ⟨responds_replied, ?_, cfg_answered hu, samePlanes_answered hu⟩
    rw [session_replied Session.bundle fun _ _ _ _ _ _ => rfl]
    exact congrArg Session.bundle (sessionOf_setSession_self _ _ _)
  · intro cycle
    have hact : doBundleCommit (reqSession q) q (taken q opBundleCommit s.dev) = (ansOk (leBytes 4 cycle),
        committed (reqSession q) (s.dev.od.commits + 1) cycle ws (taken q opBundleCommit s.dev)) := by
      have hsched := scheduled_taken q opBundleCommit s.dev
      have hcommits : (taken q opBundleCommit s.dev).od.commits = s.dev.od.commits := by
        rw [od_taken]
        rfl
      have hahead0 (e : Nat) : (e % 2 ^ 32 + 2 ^ 32 - e % 2 ^ 32) % 2 ^ 32 = 0 := by omega
      unfold doBundleCommit
      rw [if_neg (by simp [hpayload]), show (sessionOf (taken q opBundleCommit s.dev) (reqSession q)).bundle = some ws from
        (congrArg Session.bundle (sessionOf_taken q _ s.dev _)).trans hopen]
      dsimp only
      rw [if_neg (show ¬ q.payload.length = 4 by simp [hpayload]), hahead0, if_neg (by decide), hsched, if_neg (by omega),
        firstCycleAfter_taken, hcommits]
      rfl
    have hu := only_committed (reqSession q) (s.dev.od.commits + 1) cycle ws (taken q opBundleCommit s.dev)
    refine answers_ahead (act := doBundleCommit) rfl hacc hahead hact (fits_short _ _ _ _ (by simp [ansOk, length_leBytes])) rfl
      ⟨responds_replied, ?_, ?_, ?_, cfg_answered hu, samePlanes_answered hu⟩
    · rw [scheduled_replied, ← scheduled_taken q opBundleCommit s.dev]
      rfl
    · rw [session_replied Session.bundle fun _ _ _ _ _ _ => rfl]
      exact congrArg Session.bundle (sessionOf_setSession_self _ _ _)
    · rw [session_replied Session.bState fun _ _ _ _ _ _ => rfl]
      exact congrArg Session.bState (sessionOf_setSession_self _ _ _)
  · have hact : doBundleAbort (reqSession q) q (taken q opBundleAbort s.dev) =
        (ans stOk, discardBundle (reqSession q) (taken q opBundleAbort s.dev)) := by
      unfold doBundleAbort
      rw [if_neg (by simp [hpayload]), if_pos (by rwa [sessionOf_taken])]
    have hu : Only engineParts (discardBundle (reqSession q) (taken q opBundleAbort s.dev)) (taken q opBundleAbort s.dev) := by simp
    refine answers_ahead (act := doBundleAbort) rfl hacc hahead hact (fits_short _ _ _ _ (by decide)) rfl
      ⟨responds_replied, ?_, ?_, ?_, cfg_answered hu, samePlanes_answered hu⟩
    · rw [session_replied Session.bundle fun _ _ _ _ _ _ => rfl, bundle_discarded]
    · rw [session_replied Session.bState fun _ _ _ _ _ _ => rfl, bState_discarded (by rwa [sessionOf_taken])]
    · rw [scheduled_replied, scheduled_discarded, scheduled_taken]
  · have hact : doBundleAbort (reqSession q) q (taken q opBundleAbort s.dev) =
        (ans stOk, unscheduled (reqSession q) (taken q opBundleAbort s.dev)) := by
      unfold doBundleAbort
      rw [if_neg (by simp [hpayload]), if_neg (by simp [sessionOf_taken, hnone]), scheduled_taken, if_pos hany]
      rfl
    have hu := only_unscheduled (reqSession q) (taken q opBundleAbort s.dev)
    refine answers_ahead (act := doBundleAbort) rfl hacc hahead hact (fits_short _ _ _ _ (by decide)) rfl
      ⟨responds_replied, ?_, ?_, cfg_answered hu, samePlanes_answered hu⟩
    · rw [session_replied Session.bState fun _ _ _ _ _ _ => rfl]
      exact congrArg Session.bState (sessionOf_setSession_self _ _ _)
    · rw [scheduled_replied, ← scheduled_taken q opBundleAbort s.dev]
      rfl
  · refine answers_of_expiry (f := discardBundle n.toNat) rfl harmed ?_
    have hopen' : (sessionOf (expired (.bundle n.toNat) s.dev) n.toNat).bundle.isSome = true := hopen
    have hall : Only [.now, .tm, .odBook, .out, .sessions, .timersOf .engine, .irq]
        (settle (discardBundle n.toNat (expired (.bundle n.toNat) s.dev))) s.dev := by
      refine (only_settle (by decide)).mpr ((only_discardBundle _ (by decide)).mpr ?_)
      exact (only_expired _ (by simp [Owner.of])).mpr (.refl _ _)
    refine ⟨?_, ?_, ?_, ?_, hall.odCfg rfl, hall.sameSwitch rfl, hall.samePower rfl, hall.sameStores (by decide), hall.aon rfl⟩
    · rw [sessionOf_settle, bundle_discarded]
    · rw [sessionOf_settle, bState_discarded hopen']
    · rw [armed_settle, discardBundle_of_some hopen', armed_disarm_self]
    · rw [settle_od_scheduled, scheduled_discarded]
      rfl

end Sys2Proof.Proofs.Bundles


/-! SUPPORT. Sessions that open and close, and subscriptions (R116-R118, R141, R142). -/

namespace Sys2Proof.Proofs.Subscriptions

open Sys2Proof Sys2Proof.Machine Sys2Proof.Safety
open Sys2Proof.Proofs.StepAndTimers
open Sys2Proof.Proofs.ShapersAndTally
open Sys2Proof.Proofs.Frames
open Sys2Proof.Proofs.Running
open Sys2Proof.Proofs.HostWindow (length_leBytes sessionOf_setSession_self sessionOf_setSession_other sessionOf_settle)
open Sys2Proof.Proofs.Dormant (only_ringWrite)
open Sys2Proof.Proofs.Requests
open Sys2Proof.Proofs.ReadAndWrite
open Sys2Proof.Proofs.Bundles

section
variable {S : List Part} {d u t e : Dev} {q : ZReq} {op : Byte} {via : Transport} {a : Answer} {n s : Nat} {octets : List Byte}

/-! ### Sessions that open -/

theorem isRoaming_congr (h : t.otp = d.otp) (n : Nat) : isRoaming t n = isRoaming d n := by
  unfold isRoaming sessionCount isSmall
  rw [h]

theorem isRoaming_taken (q : ZReq) (op : Byte) (d : Dev) (n : Nat) : isRoaming (taken q op d) n = isRoaming d n :=
  isRoaming_congr ((only_taken q op d).otp rfl) n

theorem ten_le_of_roaming (h : isRoaming d n = true) : 10 ≤ n := by
  unfold isRoaming at h
  simpa using (Bool.and_eq_true_iff.mp h).1

/-- A roaming session as it opens for the client of a request. -/
def opened (q : ZReq) : Session := { Session.fresh with isOpen := true, clientId := q.payload }

/-- The device that answered SESSION_OPEN. -/
def welcomed (q : ZReq) (octets : List Byte) (u : Dev) : Dev := settle (sendOctets q.via octets (noteExecuted q u))

theorem serveOpen_ok (h : AcceptedOpen q d) (hroam : isRoaming d (reqSession q) = true) {payload : List Byte}
    (hanswer : openAnswer q (taken q opSessionOpen d) = (ansOk payload, u)) :
    settle (sessionOpenRequest q (hush d)) =
      welcomed q (responseOctets q opSessionOpen stOk 0 payload (sessionOf d (reqSession q)).ks) u := by
  obtain ⟨hreaches, hwhole, hwell, hroom, hright, htag⟩ := h
  have hten := ten_le_of_roaming hroam
  have hright' : boundRight (taken q opSessionOpen d) (reqSession q) q.via = true := by
    rw [← hright]
    unfold boundRight
    rw [isRoaming_taken]
  unfold sessionOpenRequest
  rw [if_pos (show reaches q opSessionOpen (hush d) = true from hreaches),
    show takeRequest q opSessionOpen (hush d) = taken q opSessionOpen d from rfl]
  unfold serveOpen
  dsimp only
  rw [if_neg (by simp [hwhole, hwell]), if_neg (by simp [hroom]), hright', (serving_taken q opSessionOpen d).2, htag,
    show (reqSession q == 1) = false by simp; omega, show decide (reqSession q < 10) = false by simp; omega, hanswer, sessionOf_taken]
  rfl

theorem idle_noteExecuted (hroam : isRoaming d (reqSession q) = true) (hopen : (sessionOf d (reqSession q)).isOpen = true) :
    runsFor (.sessionIdle (reqSession q)) (cfg d 0x1000 6 * sec) (noteExecuted q d) := by
  have hvia : Only [.sessions, .odBook, .free] (noteVia q (noteCount d)) d := ((only_noteVia q).mono (by decide)).trans (only_noteCount.mono (by decide))
  have hopen' : (sessionOf (noteVia q (noteCount d)) (reqSession q)).isOpen = true := by
    rw [sessionOf_noteVia]
    split <;> exact hopen
  rw [noteExecuted_eq, if_pos (by rw [isRoaming_congr (hvia.otp rfl), hroam, hopen']; rfl), hvia.cfg rfl]
  exact runsFor_arm_self

theorem sessionOf_welcomed : sessionOf (welcomed q octets u) (reqSession q) = sessionOf (noteExecuted q u) (reqSession q) := by
  unfold welcomed
  rw [sessionOf_settle, sessionOf, od_sendOctets]
  rfl

theorem only_welcomed (q : ZReq) (octets : List Byte) (u : Dev) : Only (recordParts (reqSession q) ++ wireParts) (welcomed q octets u) u :=
  (only_settle (by simp)).mpr (((only_sendOctets _ _).mono (by simp)).trans ((only_noteExecuted q).mono (by simp)))

theorem samePlanes_welcomed : SamePlanes q.via (welcomed q octets u) u := by
  refine samePlanes_of_only ((only_welcomed q octets u).mono (by simp [Owner.of])) ?_
  refine .trans (byPort_of_cables (settle_cables _)) (byPort_sendOctets.trans (byPort_of_cables ?_))
  exact (only_noteExecuted q).cables (by simp [Part.seenIn])

/-- What an opened session gets, once it stands as `x`. -/
theorem welcomed_stands {x : Session} (hu : Only engineParts u (taken q opSessionOpen d)) (hx : sessionOf u (reqSession q) = x)
    (hopen : x.isOpen = true) (hroam : isRoaming d (reqSession q) = true) (hcount : u.od.executed = d.od.executed) :
    sessionOf (welcomed q octets u) (reqSession q) = { x with lastVia := viaCode q.via } ∧
    runsFor (.sessionIdle (reqSession q)) (cfg d 0x1000 6 * sec) (welcomed q octets u) ∧
    (welcomed q octets u).od.executed = d.od.executed + 1 ∧ (welcomed q octets u).od.cfg = d.od.cfg ∧
    SamePlanes q.via (welcomed q octets u) d := by
  have hroam' : isRoaming u (reqSession q) = true := (isRoaming_congr (hu.otp rfl) _).trans ((isRoaming_taken q _ d _).trans hroam)
  refine ⟨?_, ?_, ?_, ?_, SamePlanes.trans samePlanes_welcomed (SamePlanes.trans (samePlanes_engine hu) (samePlanes_taken q _ d))⟩
  · rw [sessionOf_welcomed, sessionOf_noteExecuted, hx, if_pos]
    unfold sessionOpen
    rw [hx, hopen, Bool.or_true]
  · have hidle := idle_noteExecuted hroam' (hx ▸ hopen)
    rw [hu.cfg rfl, cfg_of_taken] at hidle
    have hsent : Only wireParts (sendOctets q.via octets (noteExecuted q u)) (noteExecuted q u) := only_sendOctets _ _
    exact runsFor_settle.mpr ((hsent.runsFor (.sessionIdle (reqSession q)) rfl (hsent.now rfl)).mpr hidle)
  · rw [welcomed, settle_od_executed, od_sendOctets, od_noteExecuted, hcount]
  · rw [welcomed, settle_od_cfg, od_sendOctets, od_noteExecuted, hu.odCfg rfl, cfg_taken]

/-! ### Subscriptions across a command -/

/-- Two subscriptions are the same but for what they have seen. -/
def SameSub (x y : Sub) : Prop :=
  x.sess = y.sess ∧ x.object = y.object ∧ x.element = y.element ∧ x.interval = y.interval ∧ x.periodic = y.periodic ∧ x.via = y.via

theorem sameSub_settleSub (d : Dev) (x : Sub) : SameSub (settleSub d x) x := by
  unfold settleSub
  dsimp only
  split
  · exact ⟨rfl, rfl, rfl, rfl, rfl, rfl⟩
  · exact ⟨rfl, rfl, rfl, rfl, rfl, rfl⟩

theorem subs_settleAlarms (d : Dev) : (settleAlarms d).od.subs = d.od.subs := by
  unfold settleAlarms
  dsimp only
  split
  · rfl
  split <;> rfl

/-- What settles keeps every subscription but what it has seen. -/
theorem subs_settle (d : Dev) : ∃ f : Sub → Sub, (∀ x, SameSub (f x) x) ∧ (settle d).od.subs = d.od.subs.map f := by
  have hirq : (settle d).od.subs = (settleSubs (settleAlarms d)).od.subs := rfl
  rw [hirq, ← subs_settleAlarms d]
  generalize settleAlarms d = u
  unfold settleSubs
  split
  · exact ⟨settleSub u, sameSub_settleSub u, rfl⟩
  · exact ⟨id, fun x => ⟨rfl, rfl, rfl, rfl, rfl, rfl⟩, (List.map_id _).symm⟩

theorem subs_replied : ∃ f : Sub → Sub, (∀ x, SameSub (f x) x) ∧ (replied q n a octets u).od.subs = u.od.subs.map f := by
  obtain ⟨f, hf, hsubs⟩ := subs_settle (sendOctets q.via octets (entered q n a octets u))
  refine ⟨f, hf, hsubs.trans ?_⟩
  rw [od_sendOctets, od_entered]

/-- No subscription of a session is left where none was. -/
theorem noSub_settle (h : ∀ x ∈ d.od.subs, x.sess ≠ s) : ∀ x ∈ (settle d).od.subs, x.sess ≠ s := by
  obtain ⟨f, hf, hsubs⟩ := subs_settle d
  intro x hx
  rw [hsubs] at hx
  obtain ⟨y, hy, rfl⟩ := List.mem_map.mp hx
  obtain ⟨hsess, -⟩ := hf y
  exact hsess ▸ h y hy

theorem noSub_replied (h : ∀ x ∈ u.od.subs, x.sess ≠ s) : ∀ x ∈ (replied q n a octets u).od.subs, x.sess ≠ s := by
  refine noSub_settle ?_
  rw [od_sendOctets, od_entered]
  exact h

/-! ### Sessions that end -/

theorem dropSessionState_od (s : Nat) (d : Dev) : (dropSessionState s d).od =
    { (discardBundle s d).od with subs := d.od.subs.filter fun x => x.sess ≠ s } := by
  unfold dropSessionState discardBundle
  dsimp only
  split <;> rfl

theorem noSub_dropped (s : Nat) (d : Dev) : ∀ x ∈ (dropSessionState s d).od.subs, x.sess ≠ s := by
  intro x hx
  rw [dropSessionState_od] at hx
  simpa using (List.mem_filter.mp hx).2

theorem sessionOf_dropped (s : Nat) (d : Dev) (m : Nat) : sessionOf (dropSessionState s d) m = sessionOf (discardBundle s d) m := by
  unfold sessionOf
  rw [dropSessionState_od]

theorem scheduled_dropped (s : Nat) (d : Dev) : (dropSessionState s d).od.scheduled = d.od.scheduled := by
  rw [dropSessionState_od]
  exact scheduled_discarded s d

/-- A session that is closed: what it had is gone. -/
theorem closed_stands (s : Nat) (d : Dev) : (sessionOf (closeSession s d) s).isOpen = false ∧ (sessionOf (closeSession s d) s).bundle = none ∧
    (∀ x ∈ (closeSession s d).od.subs, x.sess ≠ s) ∧ (closeSession s d).od.scheduled = d.od.scheduled := by
  have hself : sessionOf (closeSession s d) s = _ := sessionOf_setSession_self s _ _
  refine ⟨?_, ?_, noSub_dropped s d, scheduled_dropped s d⟩
  · rw [hself]
    rfl
  · rw [hself]
    rfl

/-- A field of a session that the loss of its bundle leaves. -/
theorem session_discarded {α : Type} (f : Session → α) (hf : ∀ x, f (withNone x) = f x) (s : Nat) (d : Dev) :
    f (sessionOf (discardBundle s d) s) = f (sessionOf d s) := by
  by_cases h : (sessionOf d s).bundle.isSome = true
  · rw [discardBundle_of_some h, sessionOf_disarm, sessionOf_setSession_self, hf]
  · rw [discardBundle, if_neg h]

/-- Session 0 as a close leaves it. -/
def closedZero (d : Dev) : Dev :=
  setSession 0 (fun x => { x with role := if d.otp.lifecycle = 2 then .observer else x.role }) (dropSessionState 0 d)

theorem only_closedZero (d : Dev) : Only engineParts (closedZero d) d := by simp [closedZero]

/-- What a close leaves of session 0. -/
theorem closedZero_stands (d : Dev) : (sessionOf (closedZero d) 0).role = (if d.otp.lifecycle = 2 then .observer else (sessionOf d 0).role) ∧
    (sessionOf (closedZero d) 0).bundle = none ∧ (sessionOf (closedZero d) 0).challenge = (sessionOf d 0).challenge ∧
    (∀ x ∈ (closedZero d).od.subs, x.sess ≠ 0) ∧ (closedZero d).od.scheduled = d.od.scheduled := by
  have hself : sessionOf (closedZero d) 0 =
      { sessionOf (dropSessionState 0 d) 0 with
        role := if d.otp.lifecycle = 2 then .observer else (sessionOf (dropSessionState 0 d) 0).role } :=
    sessionOf_setSession_self 0 (fun x => { x with role := if d.otp.lifecycle = 2 then .observer else x.role }) (dropSessionState 0 d)
  rw [sessionOf_dropped] at hself
  refine ⟨?_, ?_, ?_, noSub_dropped 0 d, scheduled_dropped 0 d⟩
  · rw [hself, session_discarded Session.role fun _ => rfl]
  · rw [hself]
    exact bundle_discarded 0 d
  · rw [hself]
    exact session_discarded Session.challenge (fun _ => rfl) 0 d

/-! ### Subscribing -/

/-- A subscription in place of what the session had to the element. -/
def subscribed (x : Sub) (d : Dev) : Dev :=
  disarm (.notify x.sess x.object x.element)
    (onOd (fun o => { o with subs := (o.subs.filter fun y => !isSub x.sess x.object x.element y) ++ [x] }) d)

theorem only_subscribed (x : Sub) (d : Dev) : Only engineParts (subscribed x d) d := by
  unfold subscribed
  rw [only_disarm _ (by simp [Owner.of]), only_onOd_book rfl rfl rfl (by decide)]
  exact .refl _ _

theorem only_cancelSub (s obj el : Nat) (d : Dev) : Only engineParts (cancelSub s obj el d) d := by
  unfold cancelSub
  rw [only_disarm _ (by simp [Owner.of]), only_onOd_book rfl rfl rfl (by decide)]
  exact .refl _ _

theorem subs_taken (q : ZReq) (op : Byte) (d : Dev) : (taken q op d).od.subs = d.od.subs := by
  rw [od_taken]
  rfl

/-- Whether a subscription is to an element does not depend on what it has seen. -/
theorem isSub_congr {s obj el : Nat} {x y : Sub} (h : SameSub x y) : isSub s obj el x = isSub s obj el y := by
  obtain ⟨hsess, hobj, hel, -⟩ := h
  unfold isSub
  rw [hsess, hobj, hel]

/-! ### Notifications -/

theorem only_setSub (s obj el : Nat) (f : Sub → Sub) (hS : Within [.odBook] S = true) : Only S (setSub s obj el f d) e ↔ Only S d e := by
  unfold setSub
  exact only_onOd_book rfl rfl rfl hS

/-- The device that has sent a notification: what its transport made of it, with the number taken. -/
structure Notified (via : Transport) (s : Nat) (octets : List Byte) (t d : Dev) : Prop where
  sent : Emission.zop via octets ∈ t.out
  number : (sessionOf t s).notifySeq = (sessionOf d s).notifySeq + 1
  only : Only (.sessions :: .odBook :: wireParts) t d
  byPort : ByPort via t d

/-- The next number of a session's notifications is taken. -/
def numbered (s : Nat) (d : Dev) : Dev := noteSent (setSession s (fun x => { x with notifySeq := x.notifySeq + 1, lost := false }) d)

theorem only_numbered (s : Nat) (d : Dev) : Only [.sessions, .odBook] (numbered s d) d := by simp [numbered]

theorem notifySeq_numbered (s : Nat) (d : Dev) : (sessionOf (numbered s d) s).notifySeq = (sessionOf d s).notifySeq + 1 := by
  have hself : sessionOf (numbered s d) s = { sessionOf d s with notifySeq := (sessionOf d s).notifySeq + 1, lost := false } :=
    sessionOf_setSession_self s (fun x => { x with notifySeq := x.notifySeq + 1, lost := false }) d
  rw [hself]

theorem mem_out_zop {d : Dev} : Emission.zop via octets ∈ (emit (.zop via octets) d).out :=
  List.mem_append_right _ (List.mem_singleton.mpr rfl)

theorem sessionOf_emit (x : Emission) (d : Dev) (n : Nat) : sessionOf (emit x d) n = sessionOf d n := by
  unfold sessionOf
  rw [emit_od]

theorem notified_carry : Notified via s octets (emit (.zop via octets) (carry via 0x1F octets (numbered s d))) d where
  sent := mem_out_zop
  number := by
    rw [sessionOf_emit, sessionOf, (only_carry_wire via 0x1F).od rfl]
    exact notifySeq_numbered s d
  only := by
    rw [only_emit _ (by decide)]
    exact ((only_carry_wire via 0x1F).mono (by decide)).trans ((only_numbered s d).mono (by decide))
  byPort := .trans (byPort_of_cables (emit_cables _ _)) ((byPort_carry 0x1F).trans (byPort_of_cables rfl))

theorem notified_ring {u : Dev} (h : ringWrite octets d = some u) :
    Notified .mailbox s octets (emit (.zop .mailbox octets) (numbered s u)) d where
  sent := mem_out_zop
  number := by
    have hsame : sessionOf u s = sessionOf d s := by rw [sessionOf, (only_ringWrite h).od rfl]; rfl
    rw [sessionOf_emit, notifySeq_numbered, hsame]
  only := by
    rw [only_emit _ (by decide)]
    exact ((only_numbered s u).mono (by decide)).trans ((only_ringWrite h).mono (by decide))
  byPort := .trans (byPort_of_cables (emit_cables _ _)) (byPort_of_cables ((only_ringWrite h).cables rfl))

/-- A notification that fits its transport and finds room goes out. -/
theorem notified_sendNotify {obj el : Nat} {merged : Bool} {value : List Byte}
    (hoctets : notificationOctets s (sessionOf d s).notifySeq.toNat obj el (b2n ((sessionOf d s).lost || merged)) value (sessionOf d s).ks = octets)
    (hlen : octets.length ≤ maxMessage via) (hring : via = .mailbox → (ringWrite octets d).isSome = true) :
    Notified via s octets (sendNotify s obj el via merged value d) d := by
  unfold sendNotify
  dsimp only
  rw [hoctets, if_neg (Nat.not_lt.mpr hlen)]
  cases via with
  | mailbox =>
    obtain ⟨u, hu⟩ := Option.isSome_iff_exists.mp (hring rfl)
    rw [hu]
    exact notified_ring hu
  | udp => exact notified_carry
  | nguzo => exact notified_carry
  | pd => exact notified_carry

/-- A subscription whose spacing starts again once its notification is out. -/
theorem notified_stands {x : Dev} {obj el ns : Nat} (h : Notified via s octets u x)
    (hx : Only [.now, .tm, .odBook, .out] x d) (hu : Only [.odBook] t u) (hses : sessionOf t s = sessionOf u s)
    (hseq : sessionOf x s = sessionOf d s) :
    Emission.zop via octets ∈ (settle (arm (.notify s obj el) ns t)).out ∧
    (sessionOf (settle (arm (.notify s obj el) ns t)) s).notifySeq = (sessionOf d s).notifySeq + 1 ∧
    runsFor (.notify s obj el) ns (settle (arm (.notify s obj el) ns t)) ∧
    (settle (arm (.notify s obj el) ns t)).od.cfg = d.od.cfg ∧ SameSwitch (settle (arm (.notify s obj el) ns t)) d ∧
    PowerBeside via (settle (arm (.notify s obj el) ns t)) d ∧ SameStores (settle (arm (.notify s obj el) ns t)) d ∧
    (settle (arm (.notify s obj el) ns t)).aon = d.aon := by
  have hall : Only ([.now, .tm, .odBook, .sessions, .timersOf .engine] ++ wireParts) (settle (arm (.notify s obj el) ns t)) d := by
    refine (only_settle (by decide)).mpr ((only_arm _ _ (by simp [Owner.of])).mpr ?_)
    exact (hu.mono (by decide)).trans ((h.only.mono (by decide)).trans (hx.mono (by decide)))
  have hport : ByPort via (settle (arm (.notify s obj el) ns t)) d :=
    .trans (byPort_of_cables (settle_cables _)) (.trans (byPort_of_cables (hu.cables rfl)) (h.byPort.trans (byPort_of_cables (hx.cables rfl))))
  refine ⟨?_, ?_, runsFor_settle.mpr runsFor_arm_self, hall.odCfg rfl, hall.sameSwitch rfl, ⟨hport, hall.slots rfl, hall.shep rfl⟩,
    hall.sameStores (by decide), hall.aon rfl⟩
  · rw [settle_out]
    exact (hu.out rfl).symm ▸ h.sent
  · rw [sessionOf_settle, sessionOf_arm, hses, h.number, hseq]

end

/-- Settles O20. -/
theorem sessionsAndSubscriptions : Obligations.SessionsAndSubscriptions := by
  unfold Obligations.SessionsAndSubscriptions
  refine ⟨fun s q hacc hroam hlen hclosed => ?_, fun s q hacc hroam hlen hopen hsame => ?_,
    fun s q n hacc hahead hpayload => ⟨fun hten => ?_, fun hzero => ?_⟩, fun s n harmed => ?_,
    fun s q n e mode interval hacc hahead hlen hmode hinterval => ?_, fun s q n hacc hahead hlen hmode hthere => ?_,
    fun s n obj el x hserves hfind honchange hchanged => ?_, fun s n obj el x hserves hfind hperiodic harmed => ?_⟩
  · have hten := ten_le_of_roaming hroam
    have hfresh : sessionOf (setSession (reqSession q) (fun _ => opened q)
        (taken q opSessionOpen s.dev)) (reqSession q) = opened q :=
      sessionOf_setSession_self _ _ _
    have hanswer : openAnswer q (taken q opSessionOpen s.dev) = (ansOk [0, 0, 0, 0],
        setSession (reqSession q) (fun _ => opened q) (taken q opSessionOpen s.dev)) := by
      unfold openAnswer
      dsimp only
      rw [if_neg (by simp [hlen]), if_neg (by omega), sessionOf_taken, hclosed, if_pos (by rfl)]
      show (ansOk (openPayload (setSession (reqSession q) (fun _ => opened q) (taken q opSessionOpen s.dev)) (reqSession q) false), _) = _
      have hrole : roleOf (setSession (reqSession q) (fun _ => opened q) (taken q opSessionOpen s.dev)) (reqSession q) = .observer := by
        unfold roleOf
        rw [if_neg (by simp; omega), if_neg (by simp; omega), hfresh]
        rfl
      unfold openPayload
      have hbytes : leBytes 2 (0 : Half).toNat ++ leBytes 1 Role.observer.code ++ leBytes 1 (b2n false) = [0, 0, 0, 0] := by decide
      rw [hfresh, hrole, show (opened q).highest = 0 from rfl, hbytes]
      rfl
    obtain ⟨hses, hidle, hcount, hcfg, hplanes⟩ := welcomed_stands (octets := responseOctets q opSessionOpen stOk 0 [0, 0, 0, 0]
      (sessionOf s.dev (reqSession q)).ks) (d := s.dev) (by simp) hfresh rfl hroam (by rw [show ∀ (f : Session → Session) (d : Dev), (setSession (reqSession q) f d).od.executed = d.od.executed from fun _ _ => rfl, od_taken]; rfl)
    refine answers_of_effect (f := sessionOpenRequest q) rfl rfl ?_
    rw [serveOpen_ok hacc hroam hanswer]
    exact ⟨responds_settle_send, hses, by rw [hses]; rfl, by rw [hses]; rfl, hidle, hcount, hcfg, hplanes⟩
  · have hten := ten_le_of_roaming hroam
    have hanswer : openAnswer q (taken q opSessionOpen s.dev) =
        (ansOk (openPayload s.dev (reqSession q) true), taken q opSessionOpen s.dev) := by
      unfold openAnswer
      dsimp only
      rw [if_neg (by simp [hlen]), if_neg (by omega), sessionOf_taken, hopen, if_neg (by decide), if_pos hsame]
      unfold openPayload
      rw [sessionOf_taken, roleOf_taken]
    obtain ⟨hses, hidle, hcount, hcfg, hplanes⟩ := welcomed_stands (octets := responseOctets q opSessionOpen stOk 0
      (openPayload s.dev (reqSession q) true) (sessionOf s.dev (reqSession q)).ks) (d := s.dev) (.refl _ _) (sessionOf_taken q _ s.dev _)
      hopen hroam (by rw [od_taken]; rfl)
    refine answers_of_effect (f := sessionOpenRequest q) rfl rfl ?_
    rw [serveOpen_ok hacc hroam hanswer]
    exact ⟨responds_settle_send, hses, hidle, hcount, hcfg, hplanes⟩
  · have hact : doSessionClose (reqSession q) q (taken q opSessionClose s.dev) =
        (ans stOk, closeSession (reqSession q) (taken q opSessionClose s.dev)) := by
      unfold doSessionClose
      rw [if_neg (by simp [hpayload]), if_neg (by omega), if_neg (by omega)]
    have hu : Only engineParts (closeSession (reqSession q) (taken q opSessionClose s.dev)) (taken q opSessionClose s.dev) := by simp
    obtain ⟨hshut, hbundle, hsubs, hsched⟩ := closed_stands (reqSession q) (taken q opSessionClose s.dev)
    refine answers_ahead (act := doSessionClose) rfl hacc hahead hact (fits_short _ _ _ _ (by decide)) rfl
      ⟨responds_replied, ?_, noSub_replied hsubs, ?_, ?_, cfg_answered hu, samePlanes_answered hu⟩
    · rw [session_replied Session.isOpen fun _ _ _ _ _ _ => rfl, hshut]
    · rw [session_replied Session.bundle fun _ _ _ _ _ _ => rfl, hbundle]
    · rw [scheduled_replied, hsched, scheduled_taken]
  · have hact : doSessionClose (reqSession q) q (taken q opSessionClose s.dev) = (ans stOk, closedZero (taken q opSessionClose s.dev)) := by
      unfold doSessionClose
      rw [if_neg (by simp [hpayload]), if_pos hzero]
      rfl
    have hu := only_closedZero (taken q opSessionClose s.dev)
    obtain ⟨hrole, hbundle, hchallenge, hsubs, hsched⟩ := closedZero_stands (taken q opSessionClose s.dev)
    have hsame {α : Type} (f : Session → α) (hf : ∀ n seq st octets x v, f (seqAdvance n seq st octets { x with lastVia := v }) = f x) :
        f (sessionOf (replied q n (ans stOk) (answerOctets q opSessionClose (ans stOk) s.dev) (closedZero (taken q opSessionClose s.dev))) 0) =
          f (sessionOf (closedZero (taken q opSessionClose s.dev)) 0) := by
      have h := session_replied (q := q) (n := n) (a := ans stOk) (octets := answerOctets q opSessionClose (ans stOk) s.dev)
        (u := closedZero (taken q opSessionClose s.dev)) f hf
      rwa [hzero] at h
    refine answers_ahead (act := doSessionClose) rfl hacc hahead hact (fits_short _ _ _ _ (by decide)) rfl
      ⟨responds_replied, ?_, noSub_replied hsubs, ?_, ?_, ?_, cfg_answered hu, samePlanes_answered hu⟩
    · rw [hsame Session.role fun _ _ _ _ _ _ => rfl, hrole, sessionOf_taken, (only_taken q _ s.dev).otp rfl]
    · rw [hsame Session.bundle fun _ _ _ _ _ _ => rfl, hbundle]
    · rw [hsame Session.challenge fun _ _ _ _ _ _ => rfl, hchallenge, sessionOf_taken]
    · rw [scheduled_replied, hsched, scheduled_taken]
  · refine answers_of_expiry (f := closeSession n.toNat) rfl harmed ?_
    have hall : Only [.now, .tm, .odBook, .out, .sessions, .timersOf .engine, .irq]
        (settle (closeSession n.toNat (expired (.sessionIdle n.toNat) s.dev))) s.dev := by
      refine (only_settle (by decide)).mpr ((only_closeSession _ (by decide)).mpr ?_)
      exact (only_expired _ (by simp [Owner.of])).mpr (.refl _ _)
    obtain ⟨hshut, hbundle, hsubs, hsched⟩ := closed_stands n.toNat (expired (.sessionIdle n.toNat) s.dev)
    refine ⟨?_, noSub_settle hsubs, ?_, ?_, hall.odCfg rfl, hall.sameSwitch rfl, hall.samePower rfl, hall.sameStores (by decide), hall.aon rfl⟩
    · rw [sessionOf_settle, hshut]
    · rw [sessionOf_settle, hbundle]
    · rw [settle_od_scheduled, hsched]
      rfl
  · intro d hmay helem hflag hmodes hmax hmine hroom
    let x : Sub := { sess := reqSession q, object := q.object.toNat, element := q.element.toNat, periodic := mode == 2, interval := interval,
                     via := q.via, seen := (odRead d (reqSession q) q.object.toNat q.element.toNat).2.1, changed := false, merged := false }
    let u := if mode = 2 then arm (.notify (reqSession q) q.object.toNat q.element.toNat) (interval * ms) (subscribed x d) else subscribed x d
    have hact : doSubscribe (reqSession q) q d = (ans stOk, u) := by
      have hsubs : d.od.subs = s.dev.od.subs := subs_taken q _ s.dev
      have hothers : ((d.od.subs.filter fun x => !isSub (reqSession q) q.object.toNat q.element.toNat x).filter
          fun x => x.sess == reqSession q).length < 64 := by
        rw [hsubs]
        refine Nat.lt_of_le_of_lt (List.Sublist.length_le ?_) hmine
        exact List.filter_sublist.filter _
      have hall : (d.od.subs.filter fun x => !isSub (reqSession q) q.object.toNat q.element.toNat x).length < 4096 := by
        rw [hsubs]
        exact Nat.lt_of_le_of_lt (List.length_filter_le _ _) hroom
      unfold doSubscribe
      dsimp only
      rw [if_neg (by simp [hlen]), hmode, hinterval, if_neg (show ¬ mode = 0 by omega), hmay, if_neg (by simp),
        if_neg (show ¬ mode = 0 by omega), helem]
      dsimp only
      rw [if_neg (by omega), hflag, if_neg (by simp), if_neg (by omega), if_neg (by omega)]
      rfl
    have hu : Only engineParts u d := by
      have hsub := only_subscribed x d
      by_cases h : mode = 2
      · rw [show u = arm (.notify (reqSession q) q.object.toNat q.element.toNat) (interval * ms) (subscribed x d) from if_pos h,
          only_arm _ _ (by simp [Owner.of])]
        exact hsub
      · rw [show u = subscribed x d from if_neg h]
        exact hsub
    refine answers_ahead (act := doSubscribe) rfl hacc hahead hact (fits_short _ _ _ _ (by decide)) rfl
      ⟨responds_replied, ?_, fun htwo => ?_, cfg_answered hu, samePlanes_answered hu⟩
    · obtain ⟨f, hf, hsubs⟩ := subs_replied (q := q) (n := n) (a := ans stOk) (octets := answerOctets q opSubscribe (ans stOk) s.dev) (u := u)
      obtain ⟨hsess, hobj, hel, hint, hper, hvia⟩ := hf x
      refine ⟨f x, ?_, hsess, hobj, hel, hint, hper, hvia⟩
      rw [hsubs]
      refine List.mem_map_of_mem ?_
      have hin : u.od.subs = (subscribed x d).od.subs := by
        simp only [u]
        split <;> rfl
      rw [hin]
      exact List.mem_append_right _ (List.mem_singleton.mpr rfl)
    · rw [(only_replied _ _ _ _ _).runsFor (.notify (reqSession q) q.object.toNat q.element.toNat) (by simp [Part.seenIn, Owner.of]) now_replied,
        show u = _ from if_pos htwo]
      exact runsFor_arm_self
  · have hact : doSubscribe (reqSession q) q (taken q opSubscribe s.dev) =
        (ans stOk, cancelSub (reqSession q) q.object.toNat q.element.toNat (taken q opSubscribe s.dev)) := by
      unfold doSubscribe
      dsimp only
      rw [if_neg (by simp [hlen]), hmode, if_pos rfl, hthere, if_neg (by simp), if_pos rfl]
    have hu := only_cancelSub (reqSession q) q.object.toNat q.element.toNat (taken q opSubscribe s.dev)
    refine answers_ahead (act := doSubscribe) rfl hacc hahead hact (fits_short _ _ _ _ (by decide)) rfl
      ⟨responds_replied, ?_, ?_, cfg_answered hu, samePlanes_answered hu⟩
    · obtain ⟨f, hf, hsubs⟩ := subs_replied (q := q) (n := n) (a := ans stOk) (octets := answerOctets q opSubscribe (ans stOk) s.dev)
        (u := cancelSub (reqSession q) q.object.toNat q.element.toNat (taken q opSubscribe s.dev))
      rw [hsubs, List.all_map, List.all_eq_true]
      intro y hy
      have hnot : (!isSub (reqSession q) q.object.toNat q.element.toNat y) = true := (List.mem_filter.mp hy).2
      simpa [isSub_congr (hf y)] using hnot
    · rw [(only_replied _ _ _ _ _).armed (.notify (reqSession q) q.object.toNat q.element.toNat) (by simp [Part.seenIn, Owner.of])]
      exact armed_disarm_self _ _
  · intro d y octets hroom hlen hring
    have heffect : notifySpaced n.toNat obj.toNat el.toNat (hush s.dev) =
        arm (.notify n.toNat obj.toNat el.toNat) (x.interval * ms) (setSub n.toNat obj.toNat el.toNat
          (fun z => { z with seen := (odRead d n.toNat obj.toNat el.toNat).2.1, changed := false, merged := false })
          (sendNotify n.toNat obj.toNat el.toNat x.via x.merged (odRead d n.toNat obj.toNat el.toNat).2.1 d)) := by
      unfold notifySpaced
      rw [show (hush s.dev).od.subs.find? (isSub n.toNat obj.toNat el.toNat) = some x from hfind]
      dsimp only
      rw [honchange, hchanged, if_neg (by decide), show notifyRoom (reach (.notify n.toNat obj.toNat el.toNat) (hush s.dev)) = true from hroom,
        if_neg (by decide)]
    have hsent : Notified x.via n.toNat octets (sendNotify n.toNat obj.toNat el.toNat x.via x.merged (odRead d n.toNat obj.toNat el.toNat).2.1 d) d :=
      notified_sendNotify rfl hlen hring
    refine answers_of_effect (f := fun d => if odServes d then notifySpaced n.toNat obj.toNat el.toNat d else d) rfl
      ((if_pos hserves).trans heffect) ?_
    exact notified_stands hsent (by simp [d]) ((only_setSub _ _ _ _ (by decide)).mpr (.refl _ _)) rfl rfl
  · intro d y octets hroom hlen hring
    have heffect : notifyTick n.toNat obj.toNat el.toNat (hush s.dev) =
        arm (.notify n.toNat obj.toNat el.toNat) (x.interval * ms)
          (sendNotify n.toNat obj.toNat el.toNat x.via x.merged (odRead d n.toNat obj.toNat el.toNat).2.1 d) := by
      have hroom' : notifyRoom (reach (.notify n.toNat obj.toNat el.toNat) (hush s.dev)) = true := hroom
      unfold notifyTick
      rw [show (hush s.dev).od.subs.find? (isSub n.toNat obj.toNat el.toNat) = some x from hfind]
      dsimp only
      rw [hperiodic, show armed (.notify n.toNat obj.toNat el.toNat) (hush s.dev) = true from harmed, if_neg (by decide), hroom', if_pos rfl]
      rfl
    have hsent : Notified x.via n.toNat octets (sendNotify n.toNat obj.toNat el.toNat x.via x.merged (odRead d n.toNat obj.toNat el.toNat).2.1 d) d :=
      notified_sendNotify rfl hlen hring
    refine answers_of_effect (f := fun d => if odServes d then notifyTick n.toNat obj.toNat el.toNat d else d) rfl
      ((if_pos hserves).trans heffect) ?_
    exact notified_stands hsent ((only_setSub _ _ _ _ (by decide)).mpr (by simp)) (.refl _ _) rfl rfl

end Sys2Proof.Proofs.Subscriptions


/-! SUPPORT. Proving a role: challenge, proof, lockout (R119, R121, R122). -/

namespace Sys2Proof.Proofs.RoleProofs

open Sys2Proof Sys2Proof.Machine Sys2Proof.Safety
open Sys2Proof.Proofs.StepAndTimers
open Sys2Proof.Proofs.ShapersAndTally
open Sys2Proof.Proofs.Frames
open Sys2Proof.Proofs.Running
open Sys2Proof.Proofs.HostWindow (length_leBytes sessionOf_setSession_self sessionOf_settle)
open Sys2Proof.Proofs.FuseBurns (uid_congr)
open Sys2Proof.Proofs.Requests
open Sys2Proof.Proofs.ReadAndWrite
open Sys2Proof.Proofs.Bundles
open Sys2Proof.Proofs.Subscriptions

section
variable {d u t : Dev} {q : ZReq} {op : Byte} {a : Answer} {n s : Nat}

/-! ### How long a digest is -/

theorem length_shaBlocks : (k : Nat) → (h w : List Word) → h.length ≤ 8 → (shaBlocks k h w).length ≤ 8
  | 0, _, _, hlen => hlen
  | k + 1, h, w, hlen => length_shaBlocks k _ _ (by
      unfold shaBlock
      dsimp only
      rw [List.length_zipWith]
      exact (Nat.min_le_left _ _).trans hlen)

theorem length_sha256 (m : List Byte) : (sha256 m).length ≤ 32 := by
  unfold sha256
  dsimp only
  have hblocks := length_shaBlocks ((m ++ [0x80] ++ List.replicate ((119 - m.length % 64) % 64) 0 ++ beBytes 8 (8 * m.length)).length / 64) shaInit
    (beWords (m ++ [0x80] ++ List.replicate ((119 - m.length % 64) % 64) 0 ++ beBytes 8 (8 * m.length))) (by decide)
  generalize shaBlocks _ shaInit _ = words at hblocks ⊢
  have hbytes (w : Word) : (beBytes 4 w.toNat).length = 4 := by simp [beBytes, length_leBytes]
  simp only [List.length_flatMap, hbytes, List.map_const', List.sum_replicate, smul_eq_mul]
  omega

theorem length_hmac (k m : List Byte) : (hmac k m).length ≤ 32 := length_sha256 _

/-! ### Who may prove -/

theorem canProve_taken (q : ZReq) (op : Byte) (d : Dev) (s : Nat) : canProve (taken q op d) s q = canProve d s q := by
  have hport : fromUnproved (taken q op d) q = fromUnproved d q := by
    unfold fromUnproved
    split
    · rename_i port _ _ _ _ _ _ _ hvia
      have hcable : cable (taken q op d) port.val = cable d port.val :=
        byPort_takeRequest (q := q) (op := op) (d := hush d) port.val fun n id h => nomatch hvia.symm.trans h
      rw [hcable]
    · rfl
  unfold canProve
  rw [hport, isRoaming_taken, (only_taken q op d).otp rfl]

/-- A session that can prove a role has no pod link for its transport. -/
theorem room_of_canProve (h : Accepted op q d) (hcan : canProve d (reqSession q) q = true) : 252 ≤ maxMessage q.via := by
  obtain ⟨-, -, -, -, hserves, -⟩ := h
  have hright : boundRight d (reqSession q) q.via = true := by
    simp only [sessionServes, Bool.and_eq_true] at hserves
    exact hserves.1.2
  have hsess : isRoaming d (reqSession q) = true ∨ reqSession q = 0 := by
    simp only [canProve, Bool.and_eq_true, Bool.or_eq_true, beq_iff_eq] at hcan
    exact hcan.1.imp id And.left
  revert hright
  cases q.via with
  | mailbox | udp | nguzo => simp [maxMessage]
  | pd n id =>
    intro hright
    have hn : reqSession q = 2 + n.val := by simpa [boundRight] using hright
    obtain hroam | hzero := hsess
    · have hten := ten_le_of_roaming hroam
      omega
    · omega

theorem fits_proof (h : Accepted op q d) (hcan : canProve d (reqSession q) q = true) (a : Answer) (hlen : a.payload.length ≤ 232) :
    (answerOctets q op a d).length ≤ maxMessage q.via := by
  have hanswer : (answerOctets q op a d).length ≤ 20 + a.payload.length := length_responseOctets ..
  have hroom := room_of_canProve h hcan
  omega

theorem free_taken (q : ZReq) (op : Byte) (d : Dev) : (taken q op d).free = d.free := by
  unfold taken takeRequest
  split
  · rfl
  · unfold pdReceive
    dsimp only
    split
    · rfl
    split
    · rw [emit_free]
      rfl
    · rw [ite_self]
      exact emit_free _ _
  · rfl

theorem liveChallenge_taken (q : ZReq) (op : Byte) (d : Dev) (s : Nat) : liveChallenge (taken q op d) s = liveChallenge d s := by
  have htimers : ((taken q op d).timers.any fun t => t.1 == .nonce s && decide (d.now ≤ t.2)) =
      d.timers.any fun t => t.1 == .nonce s && decide (d.now ≤ t.2) := by
    have hfilter (l : List (Timer × Nat)) : (l.any fun t => t.1 == .nonce s && decide (d.now ≤ t.2)) =
        (l.filter fun x => decide (x.1 = .nonce s)).any fun t => decide (d.now ≤ t.2) := List.any_filter.symm
    have hsame := (only_takeRequest q op (d := hush d)).timer (.nonce s) rfl
    rw [hfilter, hfilter, show taken q op d = takeRequest q op (hush d) from rfl, hsame]
    rfl
  unfold liveChallenge
  rw [now_taken, htimers, sessionOf_taken]

theorem roleKey_congr (h : t.otp = d.otp) (role slot : Nat) : roleKey t role slot = roleKey d role slot := by
  unfold roleKey keyOctets keyUsable keyPresent keyEccBad keyWords logical otpWord otpRaw
  rw [h]

theorem proofText_congr (h : t.otp = d.otp) (label : List Byte) (s : Nat) (c : Challenge) : proofText label t s c = proofText label d s c := by
  unfold proofText
  rw [uid_congr ⟨congrArg Otp.array h, congrArg Otp.marginal h⟩]

/-! ### What a proof leaves -/

theorem proofFails_replied : (replied q n a octets u).od.proofFails = u.od.proofFails := by
  rw [replied, settle_od_proofFails, od_sendOctets, od_entered]

/-- The session that awaits a proof of its challenge. -/
def challenged (s : Nat) (c : Challenge) (d : Dev) : Dev :=
  arm (.nonce s) (10 * sec) (setSession s (fun x => { x with challenge := some c }) (drawFree d).2)

theorem only_challenged (s : Nat) (c : Challenge) (d : Dev) : Only engineParts (challenged s c d) d := by
  simp [challenged, Owner.of]

theorem challenge_challenged (s : Nat) (c : Challenge) (d : Dev) : (sessionOf (challenged s c d) s).challenge = some c := by
  unfold challenged
  rw [sessionOf_arm, sessionOf_setSession_self]

/-- The session that proved a role. -/
def proved (s : Nat) (c : Challenge) (ks : Option (List Byte)) (d : Dev) : Dev :=
  disarm (.nonce s) (setSession s (fun x => { x with role := Role.ofCode c.role, challenge := none, ks := ks }) d)

theorem only_proved (s : Nat) (c : Challenge) (ks : Option (List Byte)) (d : Dev) : Only engineParts (proved s c ks d) d := by
  simp [proved, Owner.of]

theorem sessionOf_proved (s : Nat) (c : Challenge) (ks : Option (List Byte)) (d : Dev) :
    sessionOf (proved s c ks d) s = { sessionOf d s with role := Role.ofCode c.role, challenge := none, ks := ks } := by
  unfold proved
  rw [sessionOf_disarm, sessionOf_setSession_self]

/-- A failure, counted, with its nonce used up. -/
def failing (s : Nat) (d : Dev) : Dev :=
  onOd (fun o => { o with proofFails := o.proofFails + 1, failTimes := slide d.od.failTimes d.now })
    (disarm (.nonce s) (setSession s (fun x => { x with challenge := none }) d))

theorem proofFailed_eq (s : Nat) (d : Dev) : proofFailed s d =
    if 8 ≤ (slide d.od.failTimes d.now).length then arm .lockout (60 * sec) (onOd (fun o => { o with lockout := true }) (failing s d))
    else failing s d := rfl

theorem only_failing (s : Nat) (d : Dev) : Only engineParts (failing s d) d := by
  unfold failing
  rw [only_onOd_book rfl rfl rfl (by decide)]
  simp [Owner.of]

theorem only_proofFailed (s : Nat) (d : Dev) : Only engineParts (proofFailed s d) d := by
  rw [proofFailed_eq]
  split
  · rw [only_arm _ _ (by decide), only_onOd_book rfl rfl rfl (by decide)]
    exact only_failing s d
  · exact only_failing s d

theorem proofFailed_stands (s : Nat) (d : Dev) : (sessionOf (proofFailed s d) s).role = (sessionOf d s).role ∧
    (sessionOf (proofFailed s d) s).challenge = none ∧ (proofFailed s d).od.proofFails = d.od.proofFails + 1 ∧
    (8 ≤ (slide d.od.failTimes d.now).length → (proofFailed s d).od.lockout = true ∧ runsFor .lockout (60 * sec) (proofFailed s d)) := by
  have hself : sessionOf (failing s d) s = { sessionOf d s with challenge := none } :=
    sessionOf_setSession_self s (fun x => { x with challenge := none }) d
  have hses : sessionOf (proofFailed s d) s = { sessionOf d s with challenge := none } := by
    rw [← hself, proofFailed_eq]
    split <;> rfl
  refine ⟨by rw [hses], by rw [hses], ?_, fun hmany => ?_⟩
  · rw [proofFailed_eq]
    split <;> rfl
  · rw [proofFailed_eq, if_pos hmany]
    exact ⟨rfl, runsFor_arm_self⟩

end

/-- Settles O21. -/
theorem roleProofs : Obligations.RoleProofs := by
  unfold Obligations.RoleProofs
  refine ⟨fun s q n role slot hel hacc hahead hcan hlen hfree hrole hslot hlo hhi hone => ?_,
    fun s q n c k hel hacc hahead hcan hlen hlive hkey => ?_, fun s n harmed => ?_, fun s harmed => ?_⟩
  · intro nd
    have hexec : exec (.sessionProveChallenge q) s = run (zopRequest opSessionProve doChallenge q) s := by
      show run (zopRequest opSessionProve doChallenge { q with element := 0 }) s = _
      rw [show { q with element := 0 } = q by rw [← hel]]
    have hact : doChallenge (reqSession q) q (taken q opSessionProve s.dev) = (ansOk nd,
        challenged (reqSession q) { role := role, keySlot := slot, nc := q.payload.drop 2, nd := nd } (taken q opSessionProve s.dev)) := by
      have hlock : lockoutOn (taken q opSessionProve s.dev) = false := by
        unfold lockoutOn
        rw [od_taken]
        exact hfree
      unfold doChallenge
      rw [canProve_taken, hcan, if_neg (by decide), if_neg (by simp [hlen]), hlock, if_neg (by decide), ← hrole, ← hslot]
      dsimp only
      rw [if_neg (by omega)]
      simp only [nd]
      rw [← free_taken q opSessionProve s.dev]
      rfl
    have hu := only_challenged (reqSession q) { role := role, keySlot := slot, nc := q.payload.drop 2, nd := nd } (taken q opSessionProve s.dev)
    refine answers_ahead hexec hacc hahead hact (fits_proof hacc hcan _ (by simp [ansOk, nd, length_leBytes])) rfl
      ⟨responds_replied, ?_, ?_, cfg_answered hu, samePlanes_answered hu⟩
    · rw [session_replied Session.challenge fun _ _ _ _ _ _ => rfl, challenge_challenged]
    · rw [(only_replied _ _ _ _ _).runsFor (.nonce (reqSession q)) (by simp [Part.seenIn, Owner.of]) now_replied]
      exact runsFor_arm_self
  · have hexec : exec (.sessionProveProof q) s = run (zopRequest opSessionProve doProof q) s := by
      show run (zopRequest opSessionProve doProof { q with element := 1 }) s = _
      rw [show { q with element := 1 } = q by rw [← hel]]
    have hotp : (taken q opSessionProve s.dev).otp = s.dev.otp := (only_taken q opSessionProve s.dev).otp rfl
    by_cases hmatch : q.payload = hmac k (proofText [0x5A, 0x50, 0x52, 0x56] s.dev (reqSession q) c)
    · have hact : doProof (reqSession q) q (taken q opSessionProve s.dev) =
          (⟨stOk, hmac k (proofText [0x5A, 0x44, 0x45, 0x56] s.dev (reqSession q) c), true⟩,
            proved (reqSession q) c (if isRoaming s.dev (reqSession q) then some (hmac k (sessionText (reqSession q) c)) else none)
              (taken q opSessionProve s.dev)) := by
        unfold doProof
        rw [canProve_taken, hcan, if_neg (by decide), if_neg (by simp [hlen]), liveChallenge_taken, hlive]
        dsimp only
        rw [roleKey_congr hotp, hkey]
        dsimp only
        rw [proofText_congr hotp, proofText_congr hotp, if_neg (by simpa using hmatch.symm), isRoaming_taken]
        rfl
      have hu := only_proved (reqSession q) c (if isRoaming s.dev (reqSession q) then some (hmac k (sessionText (reqSession q) c)) else none)
        (taken q opSessionProve s.dev)
      have hlong := length_hmac k (proofText [0x5A, 0x44, 0x45, 0x56] s.dev (reqSession q) c)
      refine answers_ahead hexec hacc hahead hact (fits_proof hacc hcan _ (by simp only; omega)) rfl
        ⟨fun _ => ⟨responds_replied, ?_, ?_, fun hroam => ?_, ?_⟩, fun hne => absurd hmatch hne, cfg_answered hu, samePlanes_answered hu⟩
      · rw [session_replied Session.role fun _ _ _ _ _ _ => rfl, sessionOf_proved]
      · rw [session_replied Session.challenge fun _ _ _ _ _ _ => rfl, sessionOf_proved]
      · rw [session_replied Session.ks fun _ _ _ _ _ _ => rfl, sessionOf_proved]
        exact if_pos hroam
      · rw [proofFails_replied]
        exact (congrArg Od.proofFails (od_taken q opSessionProve s.dev) :)
    · have hact : doProof (reqSession q) q (taken q opSessionProve s.dev) = (ans stIntegrity, proofFailed (reqSession q) (taken q opSessionProve s.dev)) := by
        unfold doProof
        rw [canProve_taken, hcan, if_neg (by decide), if_neg (by simp [hlen]), liveChallenge_taken, hlive]
        dsimp only
        rw [roleKey_congr hotp, hkey]
        dsimp only
        rw [proofText_congr hotp, if_pos (Ne.symm hmatch)]
      have hu := only_proofFailed (reqSession q) (taken q opSessionProve s.dev)
      obtain ⟨hrole, hchallenge, hfails, hlock⟩ := proofFailed_stands (reqSession q) (taken q opSessionProve s.dev)
      refine answers_ahead hexec hacc hahead hact (fits_proof hacc hcan _ (by simp [ans])) rfl
        ⟨fun heq => absurd heq hmatch, fun _ => ⟨responds_replied, ?_, ?_, ?_, fun hmany => ?_⟩, cfg_answered hu, samePlanes_answered hu⟩
      · rw [session_replied Session.role fun _ _ _ _ _ _ => rfl, hrole, sessionOf_taken]
      · rw [session_replied Session.challenge fun _ _ _ _ _ _ => rfl, hchallenge]
      · rw [proofFails_replied, hfails, od_taken]
        rfl
      · obtain ⟨hlocked, hruns⟩ := hlock (by rwa [od_taken, now_taken])
        refine ⟨?_, ?_⟩
        · rw [replied, settle_od_lockout, od_sendOctets, od_entered]
          exact hlocked
        · rw [(only_replied _ _ _ _ _).runsFor .lockout (by simp [Part.seenIn, Owner.of]) now_replied]
          exact hruns
  · refine answers_of_expiry (f := setSession n.toNat fun x => { x with challenge := none }) rfl harmed ?_
    have hall : Only [.now, .tm, .odBook, .out, .sessions, .timer (.nonce n.toNat), .irq]
        (settle (setSession n.toNat (fun x => { x with challenge := none }) (expired (.nonce n.toNat) s.dev))) s.dev := by
      refine (only_settle (by simp)).mpr ((only_setSession _ _ (by simp)).mpr ?_)
      exact (only_expired _ (by simp)).mpr (.refl _ _)
    refine ⟨?_, ?_, ?_, hall.odCfg (by simp [Part.seenIn]), hall.sameSwitch (by simp [Part.seenIn]), hall.samePower (by simp [Part.seenIn]),
      hall.sameStores (by simp [Part.seenIn])⟩
    · rw [sessionOf_settle, sessionOf_setSession_self]
    · rw [sessionOf_settle, sessionOf_setSession_self]
      rfl
    · rw [armed_settle]
      exact armed_expired_self
  · exact answers_of_expiry (f := onOd fun o => { o with lockout := false }) rfl harmed (became_settle _)

end Sys2Proof.Proofs.RoleProofs


/-! SUPPORT. Restoring shed ports, the overrun cut, and the supplies of the banks (R26, R32, R292, R293, R303). -/

namespace Sys2Proof.Proofs.Restoring

open Sys2Proof Sys2Proof.Machine Sys2Proof.Safety
open Sys2Proof.Proofs.StepAndTimers
open Sys2Proof.Proofs.ShapersAndTally
open Sys2Proof.Proofs.Frames
open Sys2Proof.Proofs.Running
open Sys2Proof.Proofs.Shepherd
open Sys2Proof.Proofs.CriticalComparator
open Sys2Proof.Proofs.PdMessages
open Sys2Proof.Proofs.Transmission (alarmLatched_settle alarmLatched_eventAlarm)

section
variable {S : List Part} {t u d e : Dev} {n m : Nat}

/-! ### What a check looks at -/

/-- A device whose ports, slots and settings are those of another. -/
def SameLedger (t d : Dev) : Prop := (∀ obj el, cfg t obj el = cfg d obj el) ∧ t.slots = d.slots ∧ (∀ n, cable t n = cable d n)

theorem sameLedger_of_only (h : Only S t d) (hS : [View.cfgs, .slots, .cables].all (Clear S) = true) : SameLedger t d := by
  simp only [List.all_cons, List.all_nil, Bool.and_true, Bool.and_eq_true] at hS
  obtain ⟨hcfg, hslots, hcables⟩ := hS
  exact ⟨h.cfg hcfg, h.slots hslots, cable_of_cables (h.cables hcables)⟩

theorem ceilingOf_congr (h : SameLedger t d) (n : Nat) : ceilingOf t n = ceilingOf d n := by
  obtain ⟨hcfg, -, hcable⟩ := h
  unfold ceilingOf preId
  rw [hcable, hcfg]

theorem restoreOrder_congr (h : SameLedger t d) : restoreOrder t = restoreOrder d := by
  have hceiling := ceilingOf_congr h
  obtain ⟨-, -, hcable⟩ := h
  unfold restoreOrder
  simp only [hcable, hceiling]

theorem restoreTake_congr (h : SameLedger t d) : (l : List Nat) → (free : Int) → restoreTake t l free = restoreTake d l free
  | [], _ => rfl
  | n :: l, free => by
    obtain ⟨hcfg, hslots, hcable⟩ := h
    simp only [restoreTake, hcfg, hcable, restoreTake_congr ⟨hcfg, hslots, hcable⟩ l]

theorem ledgerFree_same (h : SameLedger t d) : ledgerFree t = ledgerFree d := by
  obtain ⟨hcfg, hslots, hcable⟩ := h
  exact ledgerFree_congr hcfg hslots hcable

/-- The ports that a check would restore. -/
def toRestore (d : Dev) : List Nat := restoreTake d (restoreOrder d) (ledgerFree d)

theorem toRestore_congr (h : SameLedger t d) : toRestore t = toRestore d := by
  unfold toRestore
  rw [restoreOrder_congr h, ledgerFree_same h, restoreTake_congr h]

theorem restoreTake_sublist (d : Dev) : (l : List Nat) → (free : Int) → (restoreTake d l free).Sublist l
  | [], _ => .slnil
  | n :: l, free => by
    unfold restoreTake
    dsimp only
    split
    · exact List.nil_sublist _
    · exact (restoreTake_sublist d l _).cons_cons n

/-- A port that takes part is a cable port that is shed and not WET. -/
theorem mem_restoreOrder (h : n ∈ restoreOrder d) : n < 8 ∧ (cable d n).guard ≠ .wet := by
  unfold restoreOrder at h
  obtain ⟨r, -, hr⟩ := List.mem_flatMap.mp h
  obtain ⟨hshed, -⟩ := List.mem_filter.mp hr
  obtain ⟨hn, hport⟩ := List.mem_filter.mp hshed
  refine ⟨List.mem_range.mp hn, fun hwet => ?_⟩
  simp [ceilingOf, hwet] at hport

theorem nodup_restoreOrder (d : Dev) : (restoreOrder d).Nodup := by
  unfold restoreOrder
  refine List.nodup_flatMap.mpr ⟨fun r _ => (List.nodup_range.filter _).filter _, ?_⟩
  refine List.nodup_range.imp ?_
  intro a b hab
  rw [Function.onFun, List.disjoint_left]
  intro n ha hb
  have hrank : (cable d n).rank = a := by simpa using (List.mem_filter.mp ha).2
  have hrank' : (cable d n).rank = b := by simpa using (List.mem_filter.mp hb).2
  exact hab (hrank.symm.trans hrank')

/-! ### A port is restored -/

/-- What restoring a port may reach. -/
@[simp] def restoreParts (n : Nat) : List Part := .irq :: vbusParts n

/-- A port that is restored, before its VBUS. -/
def restarted (n : Nat) (d : Dev) : Dev :=
  let d := pdIdsReset n (unidentify n d)
  let c := cable d n
  setCable n (fun c' => { c' with
    booked := preId d, vconn := if wantsVconn d c then 1 else c.vconn, contract := .none, restored := true, path := .off }) d

theorem restorePort_eq (n : Nat) (d : Dev) : restorePort n d = raiseIrqPort (24 + n) (applyVbus n (restarted n d)) := rfl

theorem only_restarted (n : Nat) : Only [.cable n] (restarted n d) d := by simp [restarted]

theorem only_restorePort (n : Nat) : Only (restoreParts n) (restorePort n d) d := by
  rw [restorePort_eq, only_raiseIrqPort _ (by simp), only_applyVbus _ (by simp)]
  exact (only_restarted n).mono (by simp)

/-- Applying VBUS keeps what the PD engine and the identification hold, and books nothing but the first allowance. -/
theorem applyVbus_keeps (n : Nat) (d : Dev) : (cable (applyVbus n d) n).contract = (cable d n).contract ∧
    (cable (applyVbus n d) n).pod = (cable d n).pod ∧ (cable (applyVbus n d) n).restored = (cable d n).restored ∧
    ((cable (applyVbus n d) n).booked = (cable d n).booked ∨ (cable (applyVbus n d) n).booked = preId d) := by
  unfold applyVbus
  dsimp only
  split
  · simp
  split
  · split <;> simp
  split
  · simp
  split <;> simp

theorem gateOn_applyVbus_of_booked (hlatched : (cable d n).path ≠ .latched) (hwet : (cable d n).guard ≠ .wet)
    (hfresh : (cable d n).guardFresh = true) (hshort : armed (.shortRetry n) d = false) (hinrush : armed (.inrushRetry n) d = false)
    (hcrit : d.shep.critical = false) (hbooked : (cable d n).booked ≠ 0) : applyVbus n d = rampUp n d := by
  unfold applyVbus
  simp [hlatched, hwet, hfresh, hshort, hinrush, hcrit, hbooked]

theorem cable_applyVbus_of_stale (hlatched : (cable d n).path ≠ .latched) (hfresh : (cable d n).guardFresh = false) :
    cable (applyVbus n d) n = { cable d n with vbusWait := true } := by
  unfold applyVbus
  dsimp only
  rw [if_neg hlatched, if_pos (by simp [hfresh])]
  split <;> simp

theorem cable_restarted (n : Nat) (d : Dev) : (cable (restarted n d) n).booked = preId d ∧ (cable (restarted n d) n).contract = .none ∧
    (cable (restarted n d) n).pod = .none ∧ (cable (restarted n d) n).restored = true ∧ (cable (restarted n d) n).path = .off ∧
    (cable (restarted n d) n).guard = (cable d n).guard ∧ (cable (restarted n d) n).guardFresh = (cable d n).guardFresh ∧
    (cable (restarted n d) n).gateOn = (cable d n).gateOn := by
  have hpre : preId (pdIdsReset n (unidentify n d)) = preId d :=
    (show Only [.cable n] (pdIdsReset n (unidentify n d)) d by simp).cfg rfl _ _
  unfold restarted
  dsimp only
  simp only [cable_setCable_self, hpre]
  simp [pdIdsReset, unidentify]

/-- What a restored port holds. -/
theorem cable_restorePort (n : Nat) (d : Dev) (hwet : (cable d n).guard ≠ .wet) (hcrit : d.shep.critical = false) :
    (cable (restorePort n d) n).booked = preId d ∧ (cable (restorePort n d) n).contract = .none ∧
    (cable (restorePort n d) n).pod = .none ∧ (cable (restorePort n d) n).restored = true ∧
    ((cable d n).guardFresh = true → armed (.shortRetry n) d = false → armed (.inrushRetry n) d = false → preId d ≠ 0 →
      (cable (restorePort n d) n).gateOn = true) ∧
    ((cable d n).guardFresh = false → (cable (restorePort n d) n).gateOn = (cable d n).gateOn ∧
      (cable (restorePort n d) n).vbusWait = true) := by
  obtain ⟨hbooked, hcontract, hpod, hrestored, hpath, hguard, hfresh, hgate⟩ := cable_restarted n d
  obtain ⟨kcontract, kpod, krestored, kbooked⟩ := applyVbus_keeps n (restarted n d)
  have hpre : preId (restarted n d) = preId d := (only_restarted n).cfg rfl _ _
  rw [restorePort_eq, cable_raiseIrqPort]
  refine ⟨?_, kcontract.trans hcontract, kpod.trans hpod, krestored.trans hrestored, fun hf hs hi hne => ?_, fun hf => ?_⟩
  · rcases kbooked with h | h
    · rw [h, hbooked]
    · rw [h, hpre]
  · have hlast : Only [.cable n] (restarted n d) d := only_restarted n
    rw [gateOn_applyVbus_of_booked (by simp [hpath]) (by rwa [hguard]) (hfresh.trans hf) ((hlast.armed _ rfl).trans hs)
      ((hlast.armed _ rfl).trans hi) ((congrArg _ (hlast.shep rfl)).trans hcrit) (by rwa [hbooked]), cable_rampUp]
  · rw [cable_applyVbus_of_stale (by simp [hpath]) (hfresh.trans hf)]
    generalize cable (restarted n d) n = c at hgate ⊢
    exact ⟨hgate, rfl⟩

/-- What the restoring of another port leaves for one. -/
structure Unmoved (n : Nat) (t d : Dev) : Prop where
  cable : cable t n = cable d n
  short : armed (.shortRetry n) t = armed (.shortRetry n) d
  inrush : armed (.inrushRetry n) t = armed (.inrushRetry n) d
  critical : t.shep.critical = d.shep.critical
  preId : preId t = preId d
  told : d.hw.irqPort.getLsbD (24 + n) = true → t.hw.irqPort.getLsbD (24 + n) = true

theorem Unmoved.refl (n : Nat) (d : Dev) : Unmoved n d d := ⟨rfl, rfl, rfl, rfl, rfl, id⟩

theorem Unmoved.trans {t u d : Dev} (h : Unmoved n t u) (h' : Unmoved n u d) : Unmoved n t d :=
  ⟨h.cable.trans h'.cable, h.short.trans h'.short, h.inrush.trans h'.inrush, h.critical.trans h'.critical, h.preId.trans h'.preId,
    fun x => h.told (h'.told x)⟩

theorem irqPort_restorePort (n : Nat) (d : Dev) : (restorePort n d).hw.irqPort = d.hw.irqPort ||| BitVec.ofNat 32 (2 ^ (24 + n)) := by
  have hwas : (applyVbus n (restarted n d)).hw = d.hw :=
    (show Only (vbusParts n) (applyVbus n (restarted n d)) d from (only_applyVbus n (by simp)).mpr ((only_restarted n).mono (by simp))).hw
      (by simp [Part.seenIn])
  rw [restorePort_eq, ← hwas]
  rfl

theorem unmoved_restorePort (d : Dev) (hm : m ≠ n) : Unmoved n (restorePort m d) d where
  cable := (only_restorePort m).cable n (by simp [Part.seenIn, hm])
  short := (only_restorePort m).armed _ (by simp [Part.seenIn, Owner.of, hm.symm])
  inrush := (only_restorePort m).armed _ (by simp [Part.seenIn, Owner.of, hm.symm])
  critical := by
    have hrest := (only_restorePort m (d := d)).shepRest (by simp [Part.seenIn])
    exact (congrArg Machine.Shepherd.critical hrest :)
  preId := (only_restorePort m).cfg (by simp [Part.seenIn]) _ _
  told := fun h => by
    rw [irqPort_restorePort, BitVec.getLsbD_or, h, Bool.true_or]

/-! ### A check -/

/-- What a check does once its time has come and the next one is armed. -/
def restoreNow (d : Dev) : Dev :=
  if !planesRun d || d.shep.stepDue || d.shep.critical then d
  else if ledgerFree d < 0 then needStep d
  else
    match toRestore d, d.shep.restoreSince with
    | [], _ => reexamine (onShep (fun s => { s with restoreSet := [], restoreSince := none }) d)
    | s, some t =>
      if s ≠ d.shep.restoreSet then onShep (fun x => { x with restoreSet := s, restoreSince := some d.now }) d
      else if d.now < t + cfg d 0x4200 7 * sec then d
      else onShep (fun x => { x with restoreSet := [], restoreSince := none }) (s.foldl (fun d n => restorePort n d) d)
    | s, none => onShep (fun x => { x with restoreSet := s, restoreSince := some d.now }) d

theorem restoreCheck_eq : restoreCheck = onExpiry .restore (fun d => restoreNow (arm .restore (100 * ms) d)) := rfl

/-- The device of a check, with the next one armed. -/
def checked (d : Dev) : Dev := arm .restore (100 * ms) (expired .restore d)

theorem only_checked (d : Dev) : Only [.now, .tm, .timer .restore, .odBook, .out] (checked d) d := by simp [checked]

theorem sameLedger_checked (d : Dev) : SameLedger (checked d) d := sameLedger_of_only (only_checked d) rfl

theorem now_checked {d : Dev} : (checked d).now = d.now + timeLeft .restore d := rfl

/-- A check that may restore. -/
structure Checks (d : Dev) : Prop where
  armed : armed .restore d = true
  runs : planesRun d = true
  idle : d.shep.stepDue = false
  clear : d.shep.critical = false

theorem Checks.gate {d : Dev} (h : Checks d) : (!planesRun (checked d) || (checked d).shep.stepDue || (checked d).shep.critical) = false := by
  rw [show (checked d).shep = d.shep from (only_checked d).shep rfl, h.idle, h.clear, show planesRun (checked d) = planesRun d from rfl, h.runs]
  rfl

/-- What stands of a check that keeps to the shepherd. -/
theorem stands_check {d v : Dev} (h : Only [.shep, .timer .overrun] v (checked d)) : runsFor .restore (100 * ms) (settle v) ∧
    (settle v).cables = d.cables ∧ BesidePort (settle v) d ∧ SameSwitch (settle v) d ∧ (settle v).shep = v.shep ∧
    (settle v).now = (checked d).now := by
  have hall : Only [.shep, .timer .overrun, .now, .tm, .timer .restore, .odBook, .out, .irq] (settle v) d :=
    (only_settle (by decide)).mpr ((h.mono (by decide)).trans ((only_checked d).mono (by decide)))
  refine ⟨runsFor_settle.mpr ((h.runsFor .restore rfl (h.now rfl)).mpr runsFor_arm_self), hall.cables rfl, hall.besidePort rfl,
    hall.sameSwitch rfl, by simp, ?_⟩
  rw [settle_now]
  exact h.now rfl

theorem restoreNow_holds {d : Dev} (h : Checks d) (hfree : 0 ≤ ledgerFree d) {x : Nat} {l : List Nat} (hset : toRestore d = x :: l)
    (hnew : d.shep.restoreSince = none ∨ toRestore d ≠ d.shep.restoreSet) : restoreNow (checked d) =
      onShep (fun s => { s with restoreSet := toRestore d, restoreSince := some (checked d).now }) (checked d) := by
  unfold restoreNow
  rw [h.gate, if_neg (by decide), ledgerFree_same (sameLedger_checked d), if_neg (by omega), toRestore_congr (sameLedger_checked d), hset,
    show (checked d).shep = d.shep from (only_checked d).shep rfl]
  rcases hsince : d.shep.restoreSince with _ | since
  · rfl
  · rw [hsince, hset] at hnew
    exact if_pos (hnew.resolve_left (by simp))

theorem restoreNow_waits {d : Dev} (h : Checks d) (hfree : 0 ≤ ledgerFree d) {x since : Nat} {l : List Nat} (hset : toRestore d = x :: l)
    (hsince : d.shep.restoreSince = some since) (hsame : toRestore d = d.shep.restoreSet) : restoreNow (checked d) =
      if d.now + timeLeft .restore d < since + cfg d 0x4200 7 * sec then checked d
      else onShep (fun x => { x with restoreSet := [], restoreSince := none }) ((toRestore d).foldl (fun d n => restorePort n d) (checked d)) := by
  unfold restoreNow
  rw [h.gate, if_neg (by decide), ledgerFree_same (sameLedger_checked d), if_neg (by omega), toRestore_congr (sameLedger_checked d), hset,
    show (checked d).shep = d.shep from (only_checked d).shep rfl, hsince, (only_checked d).cfg rfl]
  dsimp only
  rw [if_neg (by rw [← hset, hsame]; simp)]
  rfl

/-- A set that is not empty was chosen under a FREE that is not negative. -/
theorem free_of_toRestore {d : Dev} (h : toRestore d ≠ []) : 0 ≤ ledgerFree d := by
  unfold toRestore at h
  cases hl : restoreOrder d with
  | nil =>
    rw [hl] at h
    exact absurd rfl h
  | cons n l =>
    rw [hl] at h
    unfold restoreTake at h
    dsimp only at h
    split at h
    · exact absurd rfl h
    · omega

/-- With no port refused a check examines none again. -/
theorem reexamine_of_none {d : Dev} (h : ∀ n < 8, (cable d n).firstRefused = false) : reexamine d = d := by
  rw [reexamine_eq]
  refine List.foldlRecOn (motive := fun u => u = d) (List.range 8) reexamineOne rfl fun u hu n hn => ?_
  subst hu
  unfold reexamineOne
  rw [if_neg]
  rw [looksAgain_iff, h n (List.mem_range.mp hn)]
  simp

/-- What every port that is restored may reach. -/
@[simp] def restoreWide : List Part :=
  [.irq, .shepDue, .timer .overrun, .timer .droopMax, .cables, .timersOf (.port 0), .timersOf (.port 1), .timersOf (.port 2),
   .timersOf (.port 3), .timersOf (.port 4), .timersOf (.port 5), .timersOf (.port 6), .timersOf (.port 7)]

theorem only_restoreAll {l : List Nat} (hl : ∀ n ∈ l, n < 8) : Only restoreWide (l.foldl (fun d n => restorePort n d) d) d := by
  refine Only.foldl l (fun u n hn => (only_restorePort n).mono ?_) d
  have hn := hl n hn
  interval_cases n <;> decide

/-! ### The overrun cut -/

theorem mem_lowestPriority (h : n ∈ lowestPriority d) : n < 8 ∧ (cable d n).gateOn = true := by
  unfold lowestPriority at h
  obtain ⟨hport, -⟩ := List.mem_filter.mp h
  obtain ⟨hn, hon⟩ := List.mem_filter.mp hport
  exact ⟨List.mem_range.mp hn, (Bool.and_eq_true_iff.mp hon).2⟩

theorem nodup_lowestPriority (d : Dev) : (lowestPriority d).Nodup := (List.nodup_range.filter _).filter _

theorem lowestPriority_congr (h : ∀ n, cable t n = cable d n) : lowestPriority t = lowestPriority d := by
  unfold lowestPriority
  simp only [h]

theorem cable_cutGates_other (cause : ShedCause) (hm : m ≠ n) : cable (cutGates cause m d) n = cable d n :=
  (show Only (portParts m) (cutGates cause m d) d by simp).cable n (by simp [Part.seenIn, hm])

theorem booked_gatesOff (n : Nat) (path : PathState) (d : Dev) : (cable (gatesOff n path d) n).booked = (cable d n).booked := by
  unfold gatesOff startDischarge gatesDown guardNow
  dsimp only
  split <;> split <;> simp

theorem cable_cutGates (cause : ShedCause) (n : Nat) (d : Dev) : (cable (cutGates cause n d) n).gateOn = false ∧
    (cable (cutGates cause n d) n).shedCause = cause ∧ (cable (cutGates cause n d) n).booked = (cable d n).booked := by
  unfold cutGates
  simp [booked_gatesOff]

/-- The ports that a cut takes. -/
def cutAll (d : Dev) : Dev := (lowestPriority d).foldl (fun d n => cutGates .overrun n d) d

theorem only_cutAll : Only restoreWide (cutAll d) d := by
  refine Only.foldl _ (fun u n hn => (show Only (portParts n) (cutGates .overrun n u) u by simp).mono ?_) d
  obtain ⟨hn, -⟩ := mem_lowestPriority hn
  interval_cases n <;> decide

theorem cable_cutAll_of_mem (h : n ∈ lowestPriority d) : (cable (cutAll d) n).gateOn = false ∧ (cable (cutAll d) n).shedCause = .overrun ∧
    (cable (cutAll d) n).booked = (cable d n).booked := by
  obtain ⟨u, hu, hlast⟩ := foldl_at (R := fun t d => cable t n = cable d n) (f := fun d n => cutGates .overrun n d) (fun _ => rfl)
    (fun h h' => h.trans h') (nodup_lowestPriority d) h (fun u m _ hm => cable_cutGates_other _ hm) d
  rw [cutAll, hlast, ← hu]
  exact cable_cutGates .overrun n u

theorem cable_cutAll_of_not_mem (h : n ∉ lowestPriority d) : cable (cutAll d) n = cable d n :=
  List.foldlRecOn (motive := fun u => cable u n = cable d n) (lowestPriority d) _ rfl fun u hu m hm => by
    have hne : m ≠ n := fun hmn => h (hmn ▸ hm)
    exact (cable_cutGates_other _ hne).trans hu

theorem cable_eventAlarm (i : Nat) (d : Dev) (n : Nat) : cable (eventAlarm i d) n = cable d n := by
  unfold eventAlarm
  dsimp only
  split <;> rfl

theorem alarmEvents_eventAlarm (i : Nat) (hi : i < 64) (d : Dev) : (eventAlarm i d).od.alarmEvents.getLsbD i = true := by
  have hbit : (BitVec.ofNat 64 (2 ^ i)).getLsbD i = true := by
    rw [BitVec.getLsbD_ofNat]
    simp [hi]
  have hevents : (eventAlarm i d).od.alarmEvents = d.od.alarmEvents ||| BitVec.ofNat 64 (2 ^ i) := by
    unfold eventAlarm
    dsimp only
    split <;> rfl
  rw [hevents, BitVec.getLsbD_or, hbit, Bool.or_true]

theorem watchOverrun_eventAlarm (i : Nat) (d : Dev) : (eventAlarm i d).od.watchOverrun = d.od.watchOverrun := by
  unfold eventAlarm
  dsimp only
  split <;> rfl

/-- What an overrun cut leaves, once its event is recorded. -/
theorem cut_stands {v : Dev} (hv : Only [.odBook] v (overrunCut (expired .overrun d))) (hdue : d.shep.stepDue = true) :
    (∀ n ∈ lowestPriority d, (cable (settle (eventAlarm 2 v)) n).gateOn = false ∧
      (cable (settle (eventAlarm 2 v)) n).shedCause = .overrun ∧ (cable (settle (eventAlarm 2 v)) n).booked = (cable d n).booked) ∧
    (∀ n : Nat, n ∉ lowestPriority d → cable (settle (eventAlarm 2 v)) n = cable d n) ∧ (settle (eventAlarm 2 v)).shep.overrun = true ∧
    (settle (eventAlarm 2 v)).shep.stepDue = true ∧ runsFor .overrun (2 * ms) (settle (eventAlarm 2 v)) ∧
    (settle (eventAlarm 2 v)).od.alarmLatched.getLsbD 2 = true ∧ (settle (eventAlarm 2 v)).od.alarmEvents.getLsbD 2 = true ∧
    BesidePort (settle (eventAlarm 2 v)) d ∧ SameSwitch (settle (eventAlarm 2 v)) d := by
  have hcut : Only restoreWide (cutAll (expired .overrun d)) (expired .overrun d) := only_cutAll
  have hafter : Only [.odBook, .irq] (settle (eventAlarm 2 v)) (overrunCut (expired .overrun d)) :=
    (only_settle (by decide)).mpr ((only_eventAlarm 2 (by decide)).mpr (hv.mono (by decide)))
  have hall : Only (.shep :: .now :: .tm :: .odBook :: .out :: restoreWide) (settle (eventAlarm 2 v)) d := by
    refine (hafter.mono (by decide)).trans ?_
    unfold overrunCut
    rw [only_arm _ _ (by decide), only_onShep _ (by decide)]
    exact (hcut.mono (by decide)).trans ((only_expired _ (by decide)).mpr (.refl _ _))
  have hlow : lowestPriority (expired .overrun d) = lowestPriority d := lowestPriority_congr fun _ => rfl
  have hcable (n : Nat) : cable (settle (eventAlarm 2 v)) n = cable (cutAll (expired .overrun d)) n := hafter.cable n rfl
  have hshep : (settle (eventAlarm 2 v)).shep = { (cutAll (expired .overrun d)).shep with overrun := true } := hafter.shep rfl
  refine ⟨fun n hn => ?_, fun n hn => ?_, by rw [hshep], ?_, ?_, ?_, ?_, hall.besidePort rfl, hall.sameSwitch rfl⟩
  · rw [hcable]
    exact cable_cutAll_of_mem (d := expired .overrun d) (hlow.symm ▸ hn)
  · rw [hcable]
    exact cable_cutAll_of_not_mem (d := expired .overrun d) (hlow.symm ▸ hn)
  · rw [hshep]
    have hdue' : (cutAll (expired .overrun d)).shep = (expired .overrun d).shep := by
      unfold cutAll
      exact (Only.foldl (S := [.cables, .timers]) _ (fun u n _ => by simp) (expired .overrun d)).shep rfl
    rw [hdue']
    exact hdue
  · exact (hafter.runsFor .overrun rfl (hafter.now rfl)).mpr runsFor_arm_self
  · exact alarmLatched_settle (alarmLatched_eventAlarm (by decide))
  · rw [settle_od_alarmEvents]
    exact alarmEvents_eventAlarm 2 (by decide) v

/-! ### VCONN_IN leaves its range -/

theorem only_vconnFault (n : Nat) : Only (offerParts n) (vconnFault n d) d := by
  unfold vconnFault
  split
  · exact .refl _ _
  · simp

theorem vconn_of_unoffered {x y : Cable} (h : unoffered x = unoffered y) : x.vconn = y.vconn := (congrArg Cable.vconn h :)

theorem vconn_vconnFault (n : Nat) (d : Dev) : (cable (vconnFault n d) n).vconn = if (cable d n).vconn = 1 then 2 else (cable d n).vconn := by
  unfold vconnFault
  by_cases h : (cable d n).vconn = 1
  · rw [if_neg (by simpa using h), if_pos h, vconn_of_unoffered (unoffered_recomputeOffer n _ n), cable_setCable_self]
  · rw [if_pos h, if_neg h]

theorem only_vconnAll : Only [.cables, .timers, .out, .shepDue] ((List.range 8).foldl (fun d n => vconnFault n d) d) d :=
  Only.foldl _ (fun u n _ => (only_vconnFault n).mono (by simp)) d

theorem vconn_vconnAll (hn : n < 8) : (cable ((List.range 8).foldl (fun d n => vconnFault n d) d) n).vconn =
    if (cable d n).vconn = 1 then 2 else (cable d n).vconn := by
  obtain ⟨u, hu, hlast⟩ := foldl_at (R := fun t d => cable t n = cable d n) (f := fun d n => vconnFault n d) (fun _ => rfl)
    (fun h h' => h.trans h') List.nodup_range (List.mem_range.mpr hn)
    (fun u m _ hm => (only_vconnFault m).cable n (by simp [Part.seenIn, hm])) d
  rw [hlast, vconn_vconnFault, hu]

theorem cable_vconnAll_of_off (h : (cable d n).vconn ≠ 1) : cable ((List.range 8).foldl (fun d n => vconnFault n d) d) n = cable d n :=
  List.foldlRecOn (motive := fun u => cable u n = cable d n) (List.range 8) _ rfl fun u hu m _ => by
    by_cases hm : m = n
    · subst hm
      rw [vconnFault, if_pos (by rwa [hu]), hu]
    · exact ((only_vconnFault m).cable n (by simp [Part.seenIn, hm])).trans hu

end

/-- Settles O45. -/
theorem restoreAndOverrun : Obligations.RestoreAndOverrun := by
  unfold Obligations.RestoreAndOverrun
  refine ⟨fun s harmed hruns hidle hclear => ?_, fun s c hc hdue harmed => ?_, fun s ok => ?_⟩
  · intro set_
    have hcheck : Checks s.dev := ⟨harmed, hruns, hidle, hclear⟩
    refine ⟨fun hne hnew => ?_, fun since hne hsince hsame hsoon => ?_, fun since hne hsince hsame hlate => ?_, fun hneg => ?_,
      fun hempty hfree hnone => ?_⟩
    · obtain ⟨x, l, hl⟩ := List.exists_cons_of_ne_nil hne
      refine answers_of_expiry (f := fun d => restoreNow (arm .restore (100 * ms) d)) rfl harmed ?_
      show _ ∧ _
      rw [show restoreNow (arm .restore (100 * ms) (expired .restore s.dev)) = restoreNow (checked s.dev) from rfl,
        restoreNow_holds hcheck (free_of_toRestore hne) hl hnew]
      obtain ⟨hruns, hcables, hbeside, hswitch, hshep, hnow⟩ := stands_check (d := s.dev)
        (v := onShep (fun x => { x with restoreSet := toRestore s.dev, restoreSince := some (checked s.dev).now }) (checked s.dev)) (by simp)
      refine ⟨?_, hruns, hcables, hbeside, hswitch⟩
      rw [hshep, hnow]
      exact congrArg (fun x : Machine.Shepherd => { x with restoreSet := toRestore s.dev, restoreSince := some (checked s.dev).now })
        ((only_checked s.dev).shep rfl)
    · obtain ⟨x, l, hl⟩ := List.exists_cons_of_ne_nil hne
      refine answers_of_expiry (f := fun d => restoreNow (arm .restore (100 * ms) d)) rfl harmed ?_
      show _ ∧ _
      rw [show restoreNow (arm .restore (100 * ms) (expired .restore s.dev)) = restoreNow (checked s.dev) from rfl,
        restoreNow_waits hcheck (free_of_toRestore hne) hl hsince hsame, if_pos hsoon]
      obtain ⟨-, hcables, hbeside, hswitch, hshep, -⟩ := stands_check (.refl _ (checked s.dev))
      exact ⟨hshep.trans ((only_checked s.dev).shep rfl), hcables, hbeside, hswitch⟩
    · obtain ⟨x, l, hl⟩ := List.exists_cons_of_ne_nil hne
      refine answers_of_expiry (f := fun d => restoreNow (arm .restore (100 * ms) d)) rfl harmed ?_
      show _ ∧ _
      rw [show restoreNow (arm .restore (100 * ms) (expired .restore s.dev)) = restoreNow (checked s.dev) from rfl,
        restoreNow_waits hcheck (free_of_toRestore hne) hl hsince hsame, if_neg (Nat.not_lt.mpr hlate)]
      have hmem (n : Nat) (hn : n ∈ toRestore s.dev) : n < 8 ∧ (cable s.dev n).guard ≠ .wet := mem_restoreOrder ((restoreTake_sublist _ _ _).subset hn)
      have hnodup : (toRestore s.dev).Nodup := (restoreTake_sublist _ _ _).nodup (nodup_restoreOrder s.dev)
      have hkept : Only restoreWide ((toRestore s.dev).foldl (fun d n => restorePort n d) (checked s.dev)) (checked s.dev) :=
        only_restoreAll fun n hn => (hmem n hn).1
      have hall : Only (.shep :: .now :: .tm :: .timer .restore :: .odBook :: .out :: restoreWide)
          (settle (onShep (fun x => { x with restoreSet := [], restoreSince := none })
            ((toRestore s.dev).foldl (fun d n => restorePort n d) (checked s.dev)))) s.dev := by
        refine (only_settle (by decide)).mpr ((only_onShep _ (by decide)).mpr ?_)
        exact (hkept.mono (by decide)).trans ((only_checked s.dev).mono (by decide))
      refine ⟨fun n hn => ?_, fun n hn => ?_, ?_, ?_, hall.besidePort rfl, hall.sameSwitch rfl⟩
      · obtain ⟨hlt, hdry⟩ := hmem n hn
        obtain ⟨u, hu, hlast⟩ := foldl_at (R := Unmoved n) (f := fun d n => restorePort n d) (Unmoved.refl n) (Unmoved.trans) hnodup hn
          (fun v m _ hm => unmoved_restorePort v hm) (checked s.dev)
        have hcable : cable u n = cable s.dev n := hu.cable
        have hpre : preId u = cfg s.dev 0x2300 3 := hu.preId.trans ((only_checked s.dev).cfg rfl _ _)
        have hsame (m : Nat) : cable (settle (onShep (fun x => { x with restoreSet := [], restoreSince := none })
            ((toRestore s.dev).foldl (fun d n => restorePort n d) (checked s.dev)))) m =
            cable ((toRestore s.dev).foldl (fun d n => restorePort n d) (checked s.dev)) m := by
          rw [cable_of_cables (settle_cables _), cable_onShep]
        obtain ⟨hbooked, hcontract, hpod, hrestored, hramps, hstale⟩ := cable_restorePort n u (by rwa [hcable])
          (hu.critical.trans ((congrArg _ ((only_checked s.dev).shep rfl)).trans hclear))
        rw [hsame, hlast.cable]
        refine ⟨hbooked.trans hpre, hcontract, hpod, hrestored, ?_, fun hfresh hshort hinrush hne => ?_, fun hfresh => ?_⟩
        · rw [settle_hw_irqPort]
          refine hlast.told ?_
          rw [irqPort_restorePort, BitVec.getLsbD_or]
          have hbit : (BitVec.ofNat 32 (2 ^ (24 + n))).getLsbD (24 + n) = true := by interval_cases n <;> decide
          rw [hbit, Bool.or_true]
        · exact hramps (by rwa [hcable]) (hu.short.trans (((only_checked s.dev).armed _ rfl).trans hshort))
            (hu.inrush.trans (((only_checked s.dev).armed _ rfl).trans hinrush)) (by rwa [hpre])
        · obtain ⟨hgate, hwait⟩ := hstale (by rwa [hcable])
          exact ⟨hgate.trans (by rw [hcable]), hwait⟩
      · rw [cable_of_cables (settle_cables _), cable_onShep]
        refine List.foldlRecOn (motive := fun u => cable u n = cable s.dev n) (toRestore s.dev) _ rfl fun u hu m hm => ?_
        have hne : m ≠ n := fun hmn => hn (hmn ▸ hm)
        exact (unmoved_restorePort u hne).cable.trans hu
      · rw [settle_shep]
        rfl
      · refine runsFor_settle.mpr (runsFor_onShep.mpr ?_)
        exact (hkept.runsFor .restore rfl (hkept.now rfl)).mpr runsFor_arm_self
    · refine answers_of_expiry (f := fun d => restoreNow (arm .restore (100 * ms) d)) rfl harmed ?_
      show _ ∧ _
      have hnow : restoreNow (checked s.dev) = needStep (checked s.dev) := by
        unfold restoreNow
        rw [hcheck.gate, if_neg (by decide), ledgerFree_same (sameLedger_checked s.dev), if_pos hneg]
      have hstep : needStep (checked s.dev) =
          arm .overrun (2 * ms) (onShep (fun x => { x with stepDue := true, shedEventAt := (checked s.dev).now }) (checked s.dev)) := by
        unfold needStep
        rw [show (checked s.dev).shep = s.dev.shep from (only_checked s.dev).shep rfl, hidle]
        rfl
      rw [show restoreNow (arm .restore (100 * ms) (expired .restore s.dev)) = restoreNow (checked s.dev) from rfl, hnow, hstep]
      obtain ⟨hruns, hcables, hbeside, hswitch, hshep, hnow⟩ := stands_check (d := s.dev) (v := arm .overrun (2 * ms)
        (onShep (fun x => { x with stepDue := true, shedEventAt := (checked s.dev).now }) (checked s.dev))) (by simp)
      refine ⟨?_, runsFor_settle.mpr runsFor_arm_self, hruns, hcables, hbeside, hswitch⟩
      rw [hshep, hnow]
      exact congrArg (fun x : Machine.Shepherd => { x with stepDue := true, shedEventAt := (checked s.dev).now }) ((only_checked s.dev).shep rfl)
    · refine answers_of_expiry (f := fun d => restoreNow (arm .restore (100 * ms) d)) rfl harmed ?_
      show _ ∧ _
      have hnow : restoreNow (checked s.dev) = onShep (fun x => { x with restoreSet := [], restoreSince := none }) (checked s.dev) := by
        unfold restoreNow
        rw [hcheck.gate, if_neg (by decide), ledgerFree_same (sameLedger_checked s.dev), if_neg (by omega),
          toRestore_congr (sameLedger_checked s.dev), show toRestore s.dev = [] from hempty]
        exact reexamine_of_none hnone
      rw [show restoreNow (arm .restore (100 * ms) (expired .restore s.dev)) = restoreNow (checked s.dev) from rfl, hnow]
      obtain ⟨hruns, hcables, hbeside, hswitch, hshep, -⟩ := stands_check (d := s.dev)
        (v := onShep (fun x => { x with restoreSet := [], restoreSince := none }) (checked s.dev)) (by simp)
      refine ⟨?_, hcables, hruns, hbeside, hswitch⟩
      rw [hshep]
      exact congrArg (fun x : Machine.Shepherd => { x with restoreSet := [], restoreSince := none }) ((only_checked s.dev).shep rfl)
  · obtain ⟨rfl, hfirst⟩ | ⟨rfl, hagain⟩ := hc
    · obtain ⟨hcut, hother, hover, hdue', hruns, hlatched, hevent, hbeside, hswitch⟩ := cut_stands (d := s.dev)
        (v := onOd (fun o => { o with watchOverrun := satInc o.watchOverrun }) (overrunCut (expired .overrun s.dev)))
        ((only_onOd_book rfl rfl rfl (by decide)).mpr (.refl _ _)) hdue
      refine answers_of_effect (f := shedOverrunCut) rfl ((if_neg (by simp [hdue, hfirst])).trans (onExpiry_hush_of_armed harmed))
        ⟨hcut, hother, hover, hdue', hruns, hlatched, hevent, fun _ => ?_, hbeside, hswitch⟩
      have hod : (overrunCut (expired .overrun s.dev)).od = (hush s.dev).od := by
        unfold overrunCut
        rw [show ∀ (f : Machine.Shepherd → Machine.Shepherd) (d : Dev), (arm .overrun (2 * ms) (onShep f d)).od = d.od from fun _ _ => rfl]
        exact (only_cutAll (d := expired .overrun s.dev)).od rfl
      rw [settle_od_watchOverrun, watchOverrun_eventAlarm]
      show satInc (overrunCut (expired .overrun s.dev)).od.watchOverrun = _
      rw [hod]
      rfl
    · obtain ⟨hcut, hother, hover, hdue', hruns, hlatched, hevent, hbeside, hswitch⟩ :=
        cut_stands (d := s.dev) (.refl _ (overrunCut (expired .overrun s.dev))) hdue
      exact answers_of_effect (f := overrunCutRepeat) rfl ((if_neg (by simp [hdue, hagain])).trans (onExpiry_hush_of_armed harmed))
        ⟨hcut, hother, hover, hdue', hruns, hlatched, hevent, fun h => Instr.noConfusion h, hbeside, hswitch⟩
  · refine ⟨answers_became rfl rfl, answers_became rfl rfl, answers_became rfl rfl, answers_became rfl rfl, answers_became rfl rfl, ?_⟩
    refine answers_of_effect (f := bankSupplyChange .vconn false) rfl rfl ?_
    show _ ∧ _
    rw [show bankSupplyChange .vconn false (hush s.dev) =
      (List.range 8).foldl (fun d n => vconnFault n d) (onAon (fun a => { a with vconnOk := false }) (hush s.dev)) from rfl]
    have hkept := only_vconnAll (d := onAon (fun a => { a with vconnOk := false }) (hush s.dev))
    have hall : Only [.cables, .timers, .out, .shepDue, .aon, .odBook, .irq] (settle ((List.range 8).foldl (fun d n => vconnFault n d)
        (onAon (fun a => { a with vconnOk := false }) (hush s.dev)))) s.dev :=
      (only_settle (by decide)).mpr ((hkept.mono (by decide)).trans (by simp))
    refine ⟨?_, fun n hn => ?_, fun n hoff => ?_, hall.besidePort rfl, hall.sameSwitch rfl⟩
    · rw [settle_aon, hkept.aon rfl]
      rfl
    · rw [cable_of_cables (settle_cables _), vconn_vconnAll hn]
      rw [show cable (onAon (fun a => { a with vconnOk := false }) (hush s.dev)) n = cable s.dev n from rfl]
      split
      · exact ⟨by decide, fun _ => rfl⟩
      · rename_i h
        exact ⟨h, fun h' => absurd h' h⟩
    · rw [cable_of_cables (settle_cables _)]
      exact cable_vconnAll_of_off hoff

end Sys2Proof.Proofs.Restoring


/-! SUPPORT. An event of one cable port (chapters 6 to 8): what it may reach, what its effect leaves when the device has settled, the
offer of a port whose entries in the ledger stand, and the fence. -/

namespace Sys2Proof.Proofs.PortEvents

open Sys2Proof Sys2Proof.Machine Sys2Proof.Safety
open Sys2Proof.Proofs.StepAndTimers
open Sys2Proof.Proofs.ShapersAndTally
open Sys2Proof.Proofs.Frames
open Sys2Proof.Proofs.Running
open Sys2Proof.Proofs.Shepherd
open Sys2Proof.Proofs.PdMessages

section
variable {S : List Part} {t u d e : Dev} {n m : Nat} {tm : Timer}

/-! ### Effects that have settled -/

@[simp] theorem cable_settle (d : Dev) (n : Nat) : cable (settle d) n = cable d n := cable_of_cables (settle_cables d) n
@[simp] theorem cable_hush (d : Dev) (n : Nat) : cable (hush d) n = cable d n := rfl
@[simp] theorem cable_expired (tm : Timer) (d : Dev) (n : Nat) : cable (expired tm d) n = cable d n := rfl
@[simp] theorem cable_eventAlarm (i : Nat) (d : Dev) (n : Nat) : cable (eventAlarm i d) n = cable d n := Restoring.cable_eventAlarm i d n

theorem only_of_subset {T : List Part} (h : Only S t d) (hST : S ⊆ T) : Only T t d :=
  h.mono (List.all_eq_true.mpr fun q hq => List.any_eq_true.mpr ⟨q, hST hq, Part.covers_self q⟩)

/-- What the effect of a command may reach, seen once the device has settled. -/
theorem only_settled (h : Only S u (hush d)) : Only (.odBook :: .irq :: .out :: S) (settle u) d :=
  (only_settle (by simp [Part.covers])).mpr ((only_of_subset h fun q hq => by simp [hq]).trans ((only_hush (by simp [Part.covers])).mpr (.refl _ d)))

/-- The same for the command of a timer. -/
theorem only_settled_expired (h : Only S u (expired tm d)) : Only (.now :: .tm :: .timer tm :: .odBook :: .irq :: .out :: S) (settle u) d :=
  (only_settle (by simp [Part.covers])).mpr
    ((only_of_subset h fun q hq => by simp [hq]).trans ((only_expired tm (by simp [Part.covers])).mpr (.refl _ d)))

/-- The same for a command after which a device in READY follows TARGET (R71). -/
theorem only_settled_target (h : Only S u (hush d)) : Only (.odBook :: .irq :: .out :: targetParts ++ S) (settle (followTarget u)) d :=
  (only_settle (by simp [Part.covers])).mpr ((only_followTarget (by simp [Part.covers])).mpr
    ((only_of_subset h fun q hq => by simp [hq]).trans ((only_hush (by simp [Part.covers])).mpr (.refl _ d))))

theorem only_settled_target_expired (h : Only S u (expired tm d)) :
    Only (.now :: .timer tm :: .odBook :: .irq :: .out :: .tm :: targetParts ++ S) (settle (followTarget u)) d :=
  (only_settle (by simp [Part.covers])).mpr ((only_followTarget (by simp [Part.covers])).mpr
    ((only_of_subset h fun q hq => by simp [hq]).trans ((only_expired tm (by simp [Part.covers])).mpr (.refl _ d))))

@[simp] theorem cable_followTarget (d : Dev) (n : Nat) : cable (followTarget d) n = cable d n :=
  (show Only targetParts (followTarget d) d by simp).cable n rfl

/-- A command after which a device in READY follows TARGET. -/
theorem answers_of_target {c : Instr} {s : State} {f : Dev → Dev} {P : Dev → Prop} (hexec : exec c s = run (thenTarget f) s)
    (hf : f (hush s.dev) = u) (hP : P (settle (followTarget u))) : Answers c s P :=
  answers_of_effect hexec (congrArg followTarget hf) hP

theorem shep_arm (tm : Timer) (ns : Nat) (d : Dev) : (arm tm ns d).shep = d.shep := rfl

theorem armed_arm_other {tm' : Timer} {ns : Nat} (h : tm ≠ tm') : armed tm (arm tm' ns d) = armed tm d :=
  (show Only [.timer tm'] (arm tm' ns d) d by simp).armed tm (by simp [Part.seenIn, Ne.symm h])

theorem shep_followTarget (d : Dev) : (followTarget d).shep = d.shep := (show Only targetParts (followTarget d) d by simp).shep rfl

theorem onlyPort_of_only (h : Only S t d) (hcables : ∀ m, m ≠ n → Clear S (.cable m) = true)
    (hbeside : [View.slots, .otp, .flash, .heat, .rt, .clsBut].all (Clear S) = true) : OnlyPort n t d :=
  ⟨h.otherCables n hcables, h.besidePort hbeside⟩

/-! ### What all of a list of views agree on -/

/-- The devices agree in each of the views. -/
def Agree (l : List View) (t d : Dev) : Prop := ∀ v ∈ l, v.Agrees t d

theorem Agree.refl (l : List View) (d : Dev) : Agree l d d := fun v _ => .refl v d

theorem Agree.trans {l : List View} (h : Agree l t u) (h' : Agree l u d) : Agree l t d := fun v hv => (h v hv).trans (h' v hv)

theorem Agree.of_only {l : List View} (h : Only S t d) (hS : l.all (Clear S) = true) : Agree l t d :=
  fun v hv => h v (clear_of_all hS hv)

theorem Agree.mem_timers {l : List View} (h : Agree l t d) (hl : .timer tm ∈ l) (a : Nat) : (tm, a) ∈ t.timers ↔ (tm, a) ∈ d.timers := by
  have hsame : (t.timers.filter fun x => x.1 = tm) = d.timers.filter fun x => x.1 = tm := h _ hl
  simpa using congrArg ((tm, a) ∈ ·) hsame

theorem armed_iff_mem : armed tm d = true ↔ ∃ a, (tm, a) ∈ d.timers := by simp [armed]

theorem Agree.armed {l : List View} (h : Agree l t d) (hl : .timer tm ∈ l) : Machine.armed tm t = Machine.armed tm d := by
  rw [Bool.eq_iff_iff, armed_iff_mem, armed_iff_mem]
  exact exists_congr fun a => h.mem_timers hl a

/-! ### VBUS under admission -/

theorem wantsVconn_congr (haon : t.aon = d.aon) (hshep : t.shep = d.shep) (c : Cable) : wantsVconn t c = wantsVconn d c := by
  unfold wantsVconn
  rw [haon, hshep]

theorem firstNeed_congr (hcfg : ∀ obj el, cfg t obj el = cfg d obj el) (haon : t.aon = d.aon) (hshep : t.shep = d.shep) (c : Cable) :
    firstNeed t c = firstNeed d c := by
  unfold firstNeed preId
  rw [hcfg, wantsVconn_congr haon hshep]

/-- A port as its first allowance books it. -/
def allowed (n : Nat) (d : Dev) : Dev :=
  setCable n (fun c => { c with powerRole := .source, booked := preId d, vconn := if wantsVconn d c then 1 else c.vconn,
                                vconnSource := true }) d

/-- A dry port with no booking ramps when FREE covers its first allowance. -/
theorem applyVbus_admits (hlatched : (cable d n).path ≠ .latched) (hwet : (cable d n).guard ≠ .wet)
    (hfresh : (cable d n).guardFresh = true) (hshort : armed (.shortRetry n) d = false) (hinrush : armed (.inrushRetry n) d = false)
    (hcrit : d.shep.critical = false) (hbooked : (cable d n).booked = 0) (hfree : (firstNeed d (cable d n) : Int) ≤ ledgerFree d) :
    applyVbus n d = rampUp n (allowed n d) := by
  unfold applyVbus
  simp [hlatched, hwet, hfresh, hshort, hinrush, hcrit, hbooked, hfree, allowed]

theorem cable_rampUp_allowed (n : Nat) (d : Dev) : (cable (rampUp n (allowed n d)) n).gateOn = true ∧
    (cable (rampUp n (allowed n d)) n).booked = preId d ∧
    (cable (rampUp n (allowed n d)) n).retriesLeft = if (cable d n).path = .faultShort then (cable d n).retriesLeft - 1 else (cable d n).retriesLeft := by
  rw [cable_rampUp, allowed, cable_setCable_self]
  exact ⟨rfl, rfl, rfl⟩

/-- What a first allowance and its ramp reach. -/
theorem only_rampUp_allowed (n : Nat) (d : Dev) : Only (rampParts n) (rampUp n (allowed n d)) d := by simp [allowed]

/-! ### Gates -/

/-- A port beside its gates, its converter, its discharge and the guard's check that their fall starts. -/
def ungated (c : Cable) : Cable :=
  { c with gateOn := false, vctl := 0, ilim := 0, vcorr := 0, path := .off, guardRuns := false, guardFresh := false, discharge := false,
           ladder := { c.ladder with due := false } }

theorem ungated_gatesDown (n : Nat) (path : PathState) (d : Dev) : ungated (cable (gatesDown n path d) n) = ungated (cable d n) := by
  unfold gatesDown guardNow
  dsimp only
  split
  · rw [cable_arm, cable_disarm, cable_setCable_self, cable_pathTimersOff, cable_setCable_self]
    rfl
  · rw [cable_pathTimersOff, cable_setCable_self]
    rfl

theorem ungated_gatesOff (n : Nat) (path : PathState) (d : Dev) : ungated (cable (gatesOff n path d) n) = ungated (cable d n) := by
  rw [← ungated_gatesDown n path d]
  unfold gatesOff startDischarge
  dsimp only
  split
  · rw [cable_arm, cable_setCable_self, cable_setCable_self]
    rfl
  · rw [cable_setCable_self]
    rfl

theorem ungated_powerOff (n : Nat) (d : Dev) : ungated (cable (powerOff n d) n) = ungated (cable d n) := ungated_gatesOff n _ d

/-! ### The fence -/

theorem fenced_setFence (p : Nat) (b : Bool) (d : Dev) : (swPort (setFence p b d) p).fenced = b := by
  have hport : (swPort (setSwPort p (fun w => { w with fenced := b }) d) p).fenced = b := by rw [swPort_setSwPort_self]
  unfold setFence
  dsimp only
  split
  · split
    · rw [(show Only endingParts (emit _ (endSending p (dropCopy p _ 0x0A (setSwPort p (fun w => { w with fenced := b }) d))))
        (setSwPort p (fun w => { w with fenced := b }) d) by simp).fenced p rfl, hport]
    · exact hport
  · exact hport

theorem fenced_settle {b : Bool} (h : (swPort d n).fenced = b) : (swPort (settle d) n).fenced = b :=
  ((show Only [.odBook, .irq] (settle d) d by simp).fenced n rfl).trans h

/-! ### Sending, exactly -/

/-- What sending from a port reaches: its engine, the time a GoodCRC may take, and its wire. -/
@[simp] def wireParts (n : Nat) : List Part := [.cable n, .timer (.crcRx n), .out]

theorem only_transmit_wire (n : Nat) (x : PdMsg) (d : Dev) : Only (wireParts n) (transmit n x d) d := by
  simp [transmit, collision, present_]

theorem only_pdSend_wire (n : Nat) (x : PdMsg) (d : Dev) : Only (wireParts n) (pdSend n x d) d := by
  unfold pdSend
  split
  · exact only_transmit_wire n x d
  · simp

/-- What an offer reaches. -/
@[simp] def capsParts (n : Nat) : List Part := .timer (.sender n) :: .timer (.srcCap n) :: stepParts ++ wireParts n

theorem only_sendCaps_caps (n : Nat) (d : Dev) : Only (capsParts n) (sendCaps n d) d := by
  unfold sendCaps
  dsimp only
  split
  · simp
  split
  · exact .refl _ d
  split
  · exact ((only_pdSend_wire n _ _).mono (by simp)).trans (by simp)
  · exact ((only_pdSend_wire n _ _).mono (by simp)).trans (by simp)

/-! ### The offer -/

/-- The entries of the ledger, and what of port `n` an offer is built from, stand. -/
structure SameTerms (n : Nat) (t d : Dev) : Prop where
  cfg : ∀ obj el, cfg t obj el = cfg d obj el
  slots : t.slots = d.slots
  out : ∀ m, portOut (cable t m) = portOut (cable d m)
  inn : ∀ m, portIn (cable t m) = portIn (cable d m)
  bits : (cable t n).cableBits = (cable d n).cableBits
  booked : (cable t n).booked = (cable d n).booked
  guard : (cable t n).guard = (cable d n).guard
  ceiling : (cable t n).ceiling = (cable d n).ceiling
  therm : (cable t n).thermCeil = (cable d n).thermCeil

theorem ledgerFree_of_entries (hcfg : ∀ obj el, cfg t obj el = cfg d obj el) (hslots : t.slots = d.slots)
    (hout : ∀ m, portOut (cable t m) = portOut (cable d m)) (hin : ∀ m, portIn (cable t m) = portIn (cable d m)) :
    ledgerFree t = ledgerFree d ∧ outflow t = outflow d ∧ sinkInflow t = sinkInflow d := by
  have hslot (s : Nat) : slotOf t s = slotOf d s := by unfold slotOf; rw [hslots]
  have hflow : outflow t = outflow d := by simp only [outflow, hcfg, hslot, hout]
  have hsink : sinkInflow t = sinkInflow d := by simp only [sinkInflow, hin]
  exact ⟨by simp only [ledgerFree, inflow, hflow, hsink, hcfg], hflow, hsink⟩

theorem SameTerms.trans (h : SameTerms n t u) (h' : SameTerms n u d) : SameTerms n t d :=
  ⟨fun _ _ => (h.cfg _ _).trans (h'.cfg _ _), h.slots.trans h'.slots, fun m => (h.out m).trans (h'.out m),
    fun m => (h.inn m).trans (h'.inn m), h.bits.trans h'.bits, h.booked.trans h'.booked, h.guard.trans h'.guard,
    h.ceiling.trans h'.ceiling, h.therm.trans h'.therm⟩

theorem sameTerms_hush (n : Nat) (d : Dev) : SameTerms n (hush d) d :=
  ⟨fun _ _ => rfl, rfl, fun _ => rfl, fun _ => rfl, rfl, rfl, rfl, rfl, rfl⟩

theorem offerPower_congr (h : SameTerms n t d) : offerPower t n = offerPower d n := by
  obtain ⟨hfree, -, -⟩ := ledgerFree_of_entries h.cfg h.slots h.out h.inn
  simp only [offerPower, ceilingOf, preId, hfree, h.booked, h.guard, h.ceiling, h.therm, h.cfg]

theorem buildOffer_congr (h : SameTerms n t d) (p : Nat) : buildOffer t n p = buildOffer d n p := by
  obtain ⟨-, hflow, hsink⟩ := ledgerFree_of_entries h.cfg h.slots h.out h.inn
  have hcfg : Machine.cfg t = Machine.cfg d := funext fun _ => funext fun _ => h.cfg _ _
  have hma : offerMa t n p = offerMa d n p := by
    funext mv
    simp only [offerMa, cableMa, h.bits, hcfg]
  have hvolts : offerVolts t n p = offerVolts d n p := by
    unfold offerVolts cableMv
    rw [hma, h.bits, hcfg]
  have hflags : offerFlags t n = offerFlags d n := by
    unfold offerFlags rolePref cfgOn
    rw [hflow, hsink, hcfg]
  unfold buildOffer
  rw [hma, hvolts, hflags, hcfg]

theorem portRuns_congr (hboot : t.boot = d.boot) (hotp : t.otp = d.otp) (n : Nat) : portRuns t n = portRuns d n := by
  unfold portRuns planesRun isReady isHalted hasPort Machine.present
  rw [hboot, hotp, portHeld_congr hotp]

theorem portHeld_of_runs (h : portRuns d n = true) : portHeld d n = false := by
  simp only [portRuns, Bool.and_eq_true, Bool.not_eq_true'] at h
  obtain ⟨⟨⟨-, -⟩, hheld⟩, -⟩ := h
  exact hheld

theorem says_settle {n : CPort} {x : PdMsg} (h : Says n x d) : Says n x (settle d) := by
  obtain ⟨hout, hsent⟩ := h
  exact ⟨by rwa [settle_out], by rwa [cable_settle]⟩

/-- An offer that nothing holds back goes out at once. -/
theorem says_sendCaps (n : CPort) (hheld : portHeld d n.val = false) (hpower : 500 ≤ offerPower d n.val)
    (hcable : cablePending (cable d n.val) = false)
    (hasks : asksCable (cable d n.val) (buildOffer d n.val (offerPower d n.val).toNat) = false)
    (hquiet : (cable d n.val).lastSent = none) :
    Says n (.sourceCaps (buildOffer d n.val (offerPower d n.val).toNat)) (sendCaps n.val d) := by
  unfold sendCaps
  dsimp only
  rw [if_neg (not_lt.mpr hpower), hcable, if_neg (by decide), hasks, if_neg (by decide)]
  refine says_pdSend n _ ((portHeld_congr ?_ n.val).trans hheld) ?_
  · exact (show Only (portParts n.val) (disarm _ (disarm _ (setCable n.val _ d))) d by simp).otp rfl
  · rw [cable_disarm, cable_disarm, cable_setCable_self]
    exact hquiet

theorem otp_of_besidePort (h : BesidePort t d) : t.otp = d.otp := by
  obtain ⟨-, ⟨hotp, -, -⟩, -, -⟩ := h
  exact hotp

end

end Sys2Proof.Proofs.PortEvents


/-! SUPPORT. Inrush, droop and discharge (chapter 8, R278 to R282). -/

namespace Sys2Proof.Proofs.InrushAndDroop

open Sys2Proof Sys2Proof.Machine Sys2Proof.Safety
open Sys2Proof.Proofs.StepAndTimers
open Sys2Proof.Proofs.ShapersAndTally
open Sys2Proof.Proofs.Frames
open Sys2Proof.Proofs.Running
open Sys2Proof.Proofs.Shepherd
open Sys2Proof.Proofs.CriticalComparator
open Sys2Proof.Proofs.PdMessages
open Sys2Proof.Proofs.PortEvents
open Sys2Proof.Proofs.Transmission (alarmLatched_settle alarmLatched_eventAlarm)

section
variable {t u d : Dev} {n m : Nat}

/-! ### A ramp ends -/

/-- A port whose ramp has reached vSafe5V and whose PD engine starts. -/
def ramped (n : Nat) (d : Dev) : Dev :=
  setCable n (fun c => { c with contract := .implicit, mv := 5000, ma := c.booked / 5 })
    (disarm (.window n) (setCable n (fun c => { c with path := .on, retriesLeft := 3 }) d))

theorem inrushDone_ramps (hpath : (cable d n).path = .inrush) (hpd : (cable d n).contract ≠ .typecOnly)
    (hfail : (cable d n).pdFail = false) (hswap : (cable d n).swapping ≠ 2) : inrushDone n d = sendCaps n (ramped n d) := by
  unfold inrushDone
  dsimp only
  rw [if_neg (by simp [hpath]), if_neg (by simp [hpd, hfail]), if_neg hswap]
  rfl

theorem cable_ramped (n : Nat) (d : Dev) : cable (ramped n d) n =
    { cable d n with path := .on, retriesLeft := 3, contract := .implicit, mv := 5000, ma := (cable d n).booked / 5 } := by
  unfold ramped
  simp

theorem only_ramped (n : Nat) (d : Dev) : Only [.cable n, .timer (.window n)] (ramped n d) d := by simp [ramped]

theorem sameTerms_ramped (n : Nat) (d : Dev) : SameTerms n (ramped n d) d := by
  have hport (m : Nat) : portOut (cable (ramped n d) m) = portOut (cable d m) ∧ portIn (cable (ramped n d) m) = portIn (cable d m) := by
    by_cases hm : m = n
    · subst hm
      rw [cable_ramped]
      exact ⟨rfl, rfl⟩
    · rw [(only_ramped n d).cable m (by simp [Part.seenIn, Ne.symm hm])]
      exact ⟨rfl, rfl⟩
  exact ⟨(only_ramped n d).cfg rfl, (only_ramped n d).slots rfl, fun m => (hport m).1, fun m => (hport m).2, by rw [cable_ramped],
    by rw [cable_ramped], by rw [cable_ramped], by rw [cable_ramped], by rw [cable_ramped]⟩

/-- What a port that has ramped keeps of it while its offer goes out. -/
theorem on_of_unoffered {x c : Cable}
    (h : unoffered x = unoffered { c with path := .on, retriesLeft := 3, contract := .implicit, mv := 5000, ma := c.booked / 5 }) :
    (x.path = .on ∧ x.retriesLeft = 3 ∧ x.contract = .implicit) ∧ x.mv = 5000 ∧ x.booked = c.booked :=
  ⟨⟨(congrArg Cable.path h :), (congrArg Cable.retriesLeft h :), (congrArg Cable.contract h :)⟩, (congrArg Cable.mv h :),
    (congrArg Cable.booked h :)⟩

/-! ### A ramp is aborted -/

/-- What the abort of a ramp reaches. -/
@[simp] def abortParts (n : Nat) : List Part :=
  [.odBook, .irq, .fab, .fence n, .sends, .timersOf .switch, .out, .cable n, .timersOf (.port n)]

theorem only_inrushAbort (n : Nat) (d : Dev) : Only (abortParts n) (inrushAbort n d) d := by simp [inrushAbort]

theorem gateOn_powerOff (n : Nat) (d : Dev) : (cable (powerOff n d) n).gateOn = false := gateOn_gatesOff n _ d

/-- What the abort of a ramp leaves. -/
structure Aborted (n : Nat) (t d : Dev) : Prop where
  gate : (cable t n).gateOn = false
  booked : (cable t n).booked = 0
  fence : (swPort t n).fenced = true
  count : (cable t n).inrushFailCount = inc16 (cable d n).inrushFailCount
  alarm : t.od.alarmLatched.getLsbD 10 = true
  retry : runsFor (.inrushRetry n) (250 * ms) t

/-- An aborted ramp is counted, and its gates are off. -/
def rampOff (n : Nat) (d : Dev) : Dev := powerOff n (setCable n (fun c => { c with inrushFailCount := inc16 c.inrushFailCount }) d)

/-- Its booking and its VCONN are gone. -/
def rampReturned (n : Nat) (d : Dev) : Dev := vconnOff n (setCable n (fun c => { c with booked := 0 }) d)

theorem inrushAbort_eq (n : Nat) (d : Dev) :
    inrushAbort n d = arm (.inrushRetry n) (250 * ms) (eventAlarm 10 (rampReturned n (setFence n true (rampOff n d)))) := rfl

theorem inrushFailCount_of_ungated {x y : Cable} (h : ungated x = ungated y) : x.inrushFailCount = y.inrushFailCount :=
  (congrArg Cable.inrushFailCount h :)

theorem cable_rampReturned (n : Nat) (d : Dev) : cable (rampReturned n d) n =
    { cable d n with booked := 0, vconn := if (cable d n).vconn = 1 then 0 else (cable d n).vconn } := by
  unfold rampReturned vconnOff
  rw [cable_setCable_self, cable_setCable_self]

theorem cable_rampOff (n : Nat) (d : Dev) : (cable (rampOff n d) n).gateOn = false ∧
    (cable (rampOff n d) n).inrushFailCount = inc16 (cable d n).inrushFailCount := by
  refine ⟨gateOn_powerOff n _, ?_⟩
  unfold rampOff
  rw [inrushFailCount_of_ungated (ungated_powerOff n _), cable_setCable_self]

theorem aborted_inrushAbort (n : Nat) (d : Dev) : Aborted n (inrushAbort n d) d := by
  obtain ⟨hgate, hcount⟩ := cable_rampOff n d
  rw [inrushAbort_eq]
  generalize rampOff n d = u at hcount hgate
  have hcable : cable (arm (.inrushRetry n) (250 * ms) (eventAlarm 10 (rampReturned n (setFence n true u)))) n =
      { cable u n with booked := 0, vconn := if (cable u n).vconn = 1 then 0 else (cable u n).vconn } := by
    rw [cable_arm, cable_eventAlarm, cable_rampReturned, cable_setFence]
  have hfence : (swPort (rampReturned n (setFence n true u)) n).fenced = true :=
    ((show Only [.cable n] (rampReturned n (setFence n true u)) (setFence n true u) by simp [rampReturned]).fenced n rfl).trans (fenced_setFence n true u)
  generalize rampReturned n (setFence n true u) = v at hcable hfence ⊢
  generalize cable u n = c at hgate hcount hcable
  refine ⟨?_, ?_, ?_, ?_, alarmLatched_eventAlarm (by decide), runsFor_arm_self⟩
  · rw [hcable]
    exact hgate
  · rw [hcable]
  · rw [(show Only [.odBook, .irq, .timer (.inrushRetry n)] (arm (.inrushRetry n) (250 * ms) (eventAlarm 10 v)) v by simp).fenced n rfl]
    exact hfence
  · rw [hcable]
    exact hcount

theorem inrushRetry_admits (harmed : armed (.inrushRetry n) d = true) (htypec : (cable d n).typec = .attachedSrc)
    (hrole : (cable d n).powerRole = .source) (hwet : (cable d n).guard ≠ .wet) (hfresh : (cable d n).guardFresh = true)
    (hlatched : (cable d n).path ≠ .latched) (hshort : armed (.shortRetry n) (expired (.inrushRetry n) d) = false)
    (hcrit : d.shep.critical = false) (hbooked : (cable d n).booked = 0)
    (hfree : (firstNeed (expired (.inrushRetry n) d) (cable d n) : Int) ≤ ledgerFree (expired (.inrushRetry n) d)) :
    inrushRetry n (hush d) = rampUp n (allowed n (expired (.inrushRetry n) d)) := by
  unfold inrushRetry
  rw [onExpiry_hush_of_armed harmed]
  dsimp only
  rw [cable_expired, if_neg (by simp [htypec, hrole])]
  exact applyVbus_admits hlatched hwet hfresh hshort (armed_disarm_self _ _) hcrit hbooked hfree

/-! ### A droop freezes the ramps -/

/-- A droop freezes one port's ramp. -/
def freeze (d : Dev) (n : Nat) : Dev :=
  if (cable d n).path = .inrush then disarm (.window n) (setCable n (fun c => { c with path := .frozen, frozenAt := d.now }) d) else d

/-- A droop begins. -/
def drooped (d : Dev) : Dev := onShep (fun s => { s with droop := true, droopCount := satInc s.droopCount }) d

theorem droopStart_eq (hruns : planesRun d = true) (hdroop : d.shep.droop = false) :
    droopStart d = arm .droopMax (5 * ms) ((List.range 8).foldl freeze (drooped d)) := by
  unfold droopStart
  rw [hruns, hdroop]
  rfl

theorem only_freeze (d : Dev) (n : Nat) : Only [.cable n, .timer (.window n)] (freeze d n) d := by
  unfold freeze
  split
  · simp
  · exact .refl _ d

theorem only_freezes (d : Dev) : Only [.cables, .timers] ((List.range 8).foldl freeze d) d :=
  Only.foldl _ (fun u n _ => (only_freeze u n).mono (by simp)) d

theorem cable_freezes (hn : n < 8) (hpath : (cable d n).path = .inrush) :
    cable ((List.range 8).foldl freeze d) n = { cable d n with path := .frozen, frozenAt := d.now } ∧
    armed (.window n) ((List.range 8).foldl freeze d) = false := by
  obtain ⟨u, hu, hlast⟩ := foldl_at (R := Agree [.now, .cable n, .timer (.window n)]) (Agree.refl _) Agree.trans (f := freeze)
    List.nodup_range (List.mem_range.mpr hn) (fun v m _ hm => .of_only (only_freeze v m) (by simp [Part.seenIn, hm])) d
  have hcable : cable u n = cable d n := hu (.cable n) (by simp)
  have hnow : u.now = d.now := hu .now (by simp)
  have hfrozen : freeze u n = disarm (.window n) (setCable n (fun c => { c with path := .frozen, frozenAt := u.now }) u) := by
    unfold freeze
    rw [if_pos (by rw [hcable, hpath])]
  constructor
  · rw [show cable _ n = cable (freeze u n) n from hlast (.cable n) (by simp), hfrozen, cable_disarm, cable_setCable_self, hcable, hnow]
  · rw [hlast.armed (by simp), hfrozen]
    exact armed_disarm_self _ _

theorem cable_freezes_of_not (hpath : (cable d n).path ≠ .inrush) : cable ((List.range 8).foldl freeze d) n = cable d n := by
  refine List.foldlRecOn (motive := fun u => cable u n = cable d n) (List.range 8) _ rfl fun u hu m _ => ?_
  by_cases hm : m = n
  · subst hm
    rw [freeze, if_neg (by rwa [hu]), hu]
  · exact ((only_freeze u m).cable n (by simp [Part.seenIn, hm])).trans hu

/-- The end of a droop resumes one port's ramp. -/
def resume (d : Dev) (n : Nat) : Dev :=
  if (cable d n).path = .frozen then
    armAt (.window n) ((cable d n).windowEnd + (d.now - (cable d n).frozenAt)) (setCable n (fun c =>
      { c with path := .inrush, windowEnd := (cable d n).windowEnd + (d.now - (cable d n).frozenAt) }) (noteFreeze n d))
  else d

/-- A droop ends. -/
def recovered (d : Dev) : Dev := disarm .droopMax (onShep (fun s => { s with droop := false }) d)

theorem droopEnd_eq (hdroop : d.shep.droop = true) : droopEnd d = (List.range 8).foldl resume (recovered d) := by
  unfold droopEnd
  rw [hdroop]
  rfl

theorem only_resume (d : Dev) (n : Nat) : Only [.cable n, .timer (.window n), .shep] (resume d n) d := by
  unfold resume noteFreeze
  split
  · simp
  · exact .refl _ d

theorem shep_resume (d : Dev) (n : Nat) : (resume d n).shep.droop = d.shep.droop ∧ d.shep.freezeMax ≤ (resume d n).shep.freezeMax := by
  unfold resume
  split
  · exact ⟨rfl, le_max_left _ _⟩
  · exact ⟨rfl, le_rfl⟩

theorem only_resumes (d : Dev) : Only [.cables, .timers, .shep] ((List.range 8).foldl resume d) d :=
  Only.foldl _ (fun u n _ => (only_resume u n).mono (by simp)) _

/-- When the inrush window of a port ends that was frozen until now. -/
def extended (n : Nat) (d : Dev) : Nat := (cable d n).windowEnd + (d.now - (cable d n).frozenAt)

theorem cable_resumes (hn : n < 8) (hpath : (cable d n).path = .frozen) :
    cable ((List.range 8).foldl resume d) n = { cable d n with path := .inrush, windowEnd := extended n d } ∧
    (Timer.window n, extended n d) ∈ ((List.range 8).foldl resume d).timers ∧
    (d.now - (cable d n).frozenAt) / us ≤ ((List.range 8).foldl resume d).shep.freezeMax := by
  obtain ⟨u, ⟨hu, -⟩, hlast, hmax⟩ := foldl_at (f := resume)
    (R := fun t d => Agree [.now, .cable n, .timer (.window n)] t d ∧ d.shep.freezeMax ≤ t.shep.freezeMax)
    (fun d => ⟨.refl _ d, le_rfl⟩) (fun h h' => ⟨h.1.trans h'.1, h'.2.trans h.2⟩) List.nodup_range (List.mem_range.mpr hn)
    (fun v m _ hm => ⟨.of_only (only_resume v m) (by simp [Part.seenIn, hm]), (shep_resume v m).2⟩) d
  have hcable : cable u n = cable d n := hu (.cable n) (by simp)
  have hnow : u.now = d.now := hu .now (by simp)
  have hends : extended n u = extended n d := by rw [extended, hcable, hnow]; rfl
  have hresumed : resume u n = armAt (.window n) (extended n d)
      (setCable n (fun c => { c with path := .inrush, windowEnd := extended n d }) (noteFreeze n u)) := by
    rw [← hends]
    unfold resume
    rw [if_pos (by rw [hcable, hpath])]
    rfl
  refine ⟨?_, ?_, ?_⟩
  · rw [show cable _ n = cable (resume u n) n from hlast (.cable n) (by simp), hresumed, cable_armAt, cable_setCable_self, noteFreeze,
      cable_onShep, hcable]
  · rw [hlast.mem_timers (by simp), hresumed]
    simp [armAt]
  · refine le_trans ?_ hmax
    rw [hresumed, ← hcable, ← hnow]
    exact le_max_right _ _

theorem cable_resumes_of_not (hpath : (cable d n).path ≠ .frozen) : cable ((List.range 8).foldl resume d) n = cable d n := by
  refine List.foldlRecOn (motive := fun u => cable u n = cable d n) (List.range 8) _ rfl fun u hu m _ => ?_
  by_cases hm : m = n
  · subst hm
    rw [resume, if_neg (by rwa [hu]), hu]
  · exact ((only_resume u m).cable n (by simp [Part.seenIn, hm])).trans hu

theorem droop_resumes (d : Dev) : ((List.range 8).foldl resume (recovered d)).shep.droop = false ∧
    armed .droopMax ((List.range 8).foldl resume (recovered d)) = false :=
  ⟨List.foldlRecOn (motive := fun u => u.shep.droop = false) (List.range 8) _ rfl fun u hu m _ => (shep_resume u m).1.trans hu,
    List.foldlRecOn (motive := fun u => armed .droopMax u = false) (List.range 8) _ (armed_disarm_self _ _) fun u hu m _ =>
      ((only_resume u m).armed _ rfl).trans hu⟩

/-- What a droop's limit does to one port. -/
def limit (d : Dev) (n : Nat) : Dev := if (cable d n).path = .frozen then inrushAbort n (noteFreeze n d) else d

theorem droopLimit_eq : droopLimit = onExpiry .droopMax fun d => (List.range 8).foldl limit d := rfl

theorem only_limit (d : Dev) (n : Nat) : Only (.shep :: abortParts n) (limit d n) d := by
  unfold limit noteFreeze
  split
  · exact (only_of_subset (only_inrushAbort n _) (by simp)).trans (by simp)
  · exact .refl _ d

theorem limited (hn : n < 8) (hpath : (cable d n).path = .frozen) :
    (cable ((List.range 8).foldl limit d) n).gateOn = false ∧ (cable ((List.range 8).foldl limit d) n).booked = 0 ∧
    (swPort ((List.range 8).foldl limit d) n).fenced = true ∧
    (cable ((List.range 8).foldl limit d) n).inrushFailCount = inc16 (cable d n).inrushFailCount ∧
    runsFor (.inrushRetry n) (250 * ms) ((List.range 8).foldl limit d) := by
  obtain ⟨u, hu, hlast⟩ := foldl_at (R := Agree [.now, .cable n, .timer (.inrushRetry n), .fenced n]) (Agree.refl _) Agree.trans (f := limit)
    List.nodup_range (List.mem_range.mpr hn) (fun v m _ hm => .of_only (only_limit v m) (by simp [Part.seenIn, hm, hm.symm])) d
  have hcable : cable u n = cable d n := hu (.cable n) (by simp)
  have hlimit : limit u n = inrushAbort n (noteFreeze n u) := by
    unfold limit
    rw [if_pos (by rw [hcable, hpath])]
  obtain ⟨hgate, hzero, hfence, hcount, -, hretry⟩ := aborted_inrushAbort n (noteFreeze n u)
  rw [show cable _ n = cable (limit u n) n from hlast (.cable n) (by simp), hlimit]
  refine ⟨hgate, hzero, ?_, ?_, ?_⟩
  · rw [show (swPort _ n).fenced = (swPort (limit u n) n).fenced from hlast (.fenced n) (by simp), hlimit]
    exact hfence
  · rw [hcount, noteFreeze, cable_onShep, hcable]
  · unfold runsFor
    rw [hlast.mem_timers (by simp), show Dev.now _ = (limit u n).now from hlast .now (by simp), hlimit]
    exact hretry

theorem cable_limits_of_not (hpath : (cable d n).path ≠ .frozen) : cable ((List.range 8).foldl limit d) n = cable d n := by
  refine List.foldlRecOn (motive := fun u => cable u n = cable d n) (List.range 8) _ rfl fun u hu m _ => ?_
  by_cases hm : m = n
  · subst hm
    rw [limit, if_neg (by rwa [hu]), hu]
  · exact ((only_limit u m).cable n (by simp [Part.seenIn, hm])).trans hu

theorem besidePort_limits (d : Dev) : BesidePort ((List.range 8).foldl limit d) d :=
  List.foldlRecOn (motive := fun u => BesidePort u d) (List.range 8) _ ((Only.refl [] _).besidePort rfl) fun u hu m _ =>
    besidePort_trans ((only_limit u m).besidePort rfl) hu

/-! ### VBUS is down -/

/-- Whether a port whose discharge has ended waits tSrcRecover. -/
def recovers (n : Nat) (d : Dev) : Bool :=
  (cable d n).typec == .attachedSrc && (cable d n).powerRole == .source && !armed (.inrushRetry n) d

theorem discharged_eq (hpath : (cable d n).path = .discharging) (hswap : (cable d n).swapping ≠ 1) :
    discharged n d = if recovers n d then arm (.tsrcRecover n) (800 * ms) (setCable n (fun c => { c with path := .off }) d)
      else setCable n (fun c => { c with path := .off }) d := by
  unfold discharged
  dsimp only
  rw [if_neg (fun h => hswap h.1), hpath]
  rfl

theorem cable_discharged (hpath : (cable d n).path = .discharging) (hswap : (cable d n).swapping ≠ 1) :
    cable (discharged n d) n = { cable d n with path := .off } := by
  rw [discharged_eq hpath hswap]
  split <;> simp

theorem only_discharged (hpath : (cable d n).path = .discharging) (hswap : (cable d n).swapping ≠ 1) :
    Only [.cable n, .timer (.tsrcRecover n)] (discharged n d) d := by
  rw [discharged_eq hpath hswap]
  split <;> simp

/-- A port whose discharge has ended. -/
def quieted (n : Nat) (d : Dev) : Dev := disarm (.discharge n) (setCable n (fun c => { c with discharge := false }) d)

theorem cable_quieted (n : Nat) (d : Dev) : cable (quieted n d) n = { cable d n with discharge := false } := by
  unfold quieted
  rw [cable_disarm, cable_setCable_self]

theorem dischargeDone_ends (hdis : (cable d n).discharge = true) : dischargeDone n d = discharged n (quieted n d) := by
  unfold dischargeDone
  rw [hdis]
  rfl

/-- A port whose discharge is given up. -/
def gaveUp (n : Nat) (d : Dev) : Dev := setCable n (fun c => { c with discharge := false, dischargeFail := inc16 c.dischargeFail }) d

theorem cable_gaveUp (n : Nat) (d : Dev) :
    cable (gaveUp n d) n = { cable d n with discharge := false, dischargeFail := inc16 (cable d n).dischargeFail } := cable_setCable_self _ _ _

theorem dischargeTimeout_gives_up (harmed : armed (.discharge n) d = true) (hswap : (cable d n).swapping ≠ 1) :
    dischargeTimeout n (hush d) = discharged n (gaveUp n (expired (.discharge n) d)) := by
  unfold dischargeTimeout
  rw [onExpiry_hush_of_armed harmed]
  dsimp only
  rw [cable_expired, if_neg fun h => hswap h.1]
  rfl

end

/-- Settles O43. -/
theorem inrushAndDroop : Obligations.InrushAndDroop := by
  unfold Obligations.InrushAndDroop
  refine ⟨fun s n hpath hpd hfail hswap => ?_, fun s n hpath harmed => ?_,
    fun s n harmed htypec hrole hwet hfresh hlatched hshort hcrit hbooked hfree => ?_, fun s hready hdroop => ?_, fun s hdroop => ?_,
    fun s harmed => ?_, fun s n hpath hswap => ⟨fun hdis => ?_, fun harmed => ?_⟩⟩
  · refine answers_of_effect rfl (inrushDone_ramps (d := hush s.dev) hpath hpd hfail hswap) ?_
    have hall := only_settled (d := s.dev) (((only_sendCaps_caps n.val (ramped n.val (hush s.dev))).mono (by simp)).trans
      ((only_ramped n.val (hush s.dev)).mono (S := .timer (.window n.val) :: capsParts n.val) (by simp)))
    have hcable := (unoffered_sendCaps n.val (ramped n.val (hush s.dev)) n.val).trans (congrArg _ (cable_ramped n.val (hush s.dev)))
    rw [cable_hush] at hcable
    obtain ⟨hkept, hmv, hbooked⟩ := on_of_unoffered hcable
    show _ ∧ _
    rw [cable_settle]
    refine ⟨hkept.1, hkept.2.1, hkept.2.2, hmv, hbooked, ?_, fun hruns hpower hpending hasks hquiet => ?_,
      onlyPort_of_only hall (fun m hm => by simp [Part.seenIn, hm.symm]) rfl, hall.sameSwitch rfl, hall.sameAon rfl⟩
    · rw [armed_settle, (only_sendCaps_caps n.val _).armed (.window n.val) rfl]
      exact armed_disarm_self _ _
    · have hterms : SameTerms n.val (ramped n.val (hush s.dev)) s.dev := (sameTerms_ramped n.val (hush s.dev)).trans (sameTerms_hush n.val s.dev)
      have hheld : portHeld s.dev n.val = false := portHeld_of_runs hruns
      rw [← offerPower_congr hterms, ← buildOffer_congr hterms] at hasks ⊢
      rw [← offerPower_congr hterms] at hpower
      refine says_settle (says_sendCaps n ((portHeld_congr ((only_ramped n.val (hush s.dev)).otp rfl) _).trans hheld) hpower ?_ ?_ ?_)
      · rw [cable_ramped]
        exact hpending
      · rw [cable_ramped]
        exact hasks
      · rw [cable_ramped]
        exact hquiet
  · have hfails : inrushFail n.val (hush s.dev) = inrushAbort n.val (expired (.window n.val) s.dev) := by
      unfold inrushFail
      rw [if_neg (by simp [hpath])]
      exact onExpiry_hush_of_armed harmed
    refine answers_of_effect rfl hfails ?_
    have hall := only_settled_expired (d := s.dev) (only_inrushAbort n.val (expired (.window n.val) s.dev))
    obtain ⟨hgate, hzero, hfence, hcount, halarm, hretry⟩ := aborted_inrushAbort n.val (expired (.window n.val) s.dev)
    show _ ∧ _
    rw [cable_settle]
    exact ⟨hgate, hzero, fenced_settle hfence, hcount, alarmLatched_settle halarm, runsFor_settle.mpr hretry,
      hall.otherCables n.val (fun m hm => by simp [Part.seenIn, hm.symm]), hall.besidePort rfl⟩
  · have hback : Only [.now, .tm, .timer (.inrushRetry n.val), .odBook, .out] (expired (.inrushRetry n.val) s.dev) s.dev := by simp
    have hneed : (firstNeed (expired (.inrushRetry n.val) s.dev) (cable s.dev n.val) : Int) ≤ ledgerFree (expired (.inrushRetry n.val) s.dev) := by
      rw [firstNeed_congr (hback.cfg rfl) (hback.aon rfl) (hback.shep rfl), ledgerFree_congr (hback.cfg rfl) (hback.slots rfl) (fun _ => rfl)]
      exact hfree
    refine answers_of_effect rfl (inrushRetry_admits (n := n.val) harmed htypec hrole hwet hfresh hlatched
      ((hback.armed (.shortRetry n.val) (by simp [Part.seenIn])).trans hshort) hcrit hbooked hneed) ?_
    have hall := only_settled_expired (d := s.dev) (only_rampUp_allowed n.val (expired (.inrushRetry n.val) s.dev))
    obtain ⟨hgate, hbook, -⟩ := cable_rampUp_allowed n.val (expired (.inrushRetry n.val) s.dev)
    show _ ∧ _
    rw [cable_settle]
    exact ⟨hgate, hbook.trans (hback.cfg rfl _ _), hall.otherCables n.val (fun m hm => by simp [Part.seenIn, hm.symm]),
      hall.besidePort rfl, hall.sameSwitch rfl⟩
  · refine answers_of_effect rfl (droopStart_eq (d := hush s.dev) (by simp [planesRun, isReady, hready]) hdroop) ?_
    have hfreezes := only_freezes (drooped (hush s.dev))
    have hall := only_settled (d := s.dev) (u := arm .droopMax (5 * ms) ((List.range 8).foldl freeze (drooped (hush s.dev))))
      (S := [.cables, .timers, .shep])
      ((only_arm _ _ (by decide)).mpr ((hfreezes.mono (by decide)).trans ((only_onShep _ (by decide)).mpr (.refl _ _))))
    refine ⟨?_, runsFor_settle.mpr runsFor_arm_self, fun n hn hpath => ?_, fun n hpath => ?_, hall.besidePort rfl, hall.sameSwitch rfl,
      hall.sameAon rfl⟩
    · rw [settle_shep, shep_arm]
      exact hfreezes.shep rfl
    · obtain ⟨hcable, harmed⟩ := cable_freezes (d := drooped (hush s.dev)) hn hpath
      rw [cable_settle, cable_arm, armed_settle, armed_arm_other (by simp)]
      exact ⟨hcable, harmed⟩
    · rw [cable_settle, cable_arm]
      exact cable_freezes_of_not (d := drooped (hush s.dev)) hpath
  · refine answers_of_effect rfl (droopEnd_eq (d := hush s.dev) hdroop) ?_
    have hall := only_settled ((only_resumes (recovered (hush s.dev))).trans
      (show Only [.cables, .timers, .shep] (recovered (hush s.dev)) (hush s.dev) by simp [recovered]))
    obtain ⟨hover, hidle⟩ := droop_resumes (hush s.dev)
    refine ⟨(congrArg _ (settle_shep _)).trans hover, (armed_settle _ _).trans hidle, fun n hn hpath => ?_, fun n hpath => ?_, hall.besidePort rfl,
      hall.sameSwitch rfl, hall.sameAon rfl⟩
    · show _ ∧ _
      rw [cable_settle, settle_timers, settle_shep]
      exact cable_resumes (d := recovered (hush s.dev)) hn hpath
    · rw [cable_settle]
      exact cable_resumes_of_not (d := recovered (hush s.dev)) hpath
  · refine answers_of_effect rfl ((congrFun droopLimit_eq _).trans (onExpiry_hush_of_armed harmed)) ?_
    have hback : Only [.now, .tm, .timer .droopMax, .odBook, .out] (expired .droopMax s.dev) s.dev := by simp
    refine ⟨fun n hn hpath => ?_, fun n hpath => ?_, ?_⟩
    · obtain ⟨hgate, hzero, hfence, hcount, hretry⟩ := limited (d := expired .droopMax s.dev) hn hpath
      rw [cable_settle]
      exact ⟨hgate, hzero, fenced_settle hfence, hcount, runsFor_settle.mpr hretry⟩
    · rw [cable_settle]
      exact cable_limits_of_not (d := expired .droopMax s.dev) hpath
    · exact besidePort_trans ((show Only [.odBook, .irq] (settle _) _ by simp).besidePort rfl)
        (besidePort_trans (besidePort_limits _) (hback.besidePort rfl))
  · refine answers_of_effect rfl (dischargeDone_ends (d := hush s.dev) hdis) ?_
    have hquiet := cable_quieted n.val (hush s.dev)
    have hpath' : (cable (quieted n.val (hush s.dev)) n.val).path = .discharging := by rw [hquiet]; exact hpath
    have hswap' : (cable (quieted n.val (hush s.dev)) n.val).swapping ≠ 1 := by rw [hquiet]; exact hswap
    have hends := only_discharged hpath' hswap'
    have hall := only_settled (d := s.dev) ((hends.mono (by simp)).trans
      (show Only [.cable n.val, .timer (.tsrcRecover n.val), .timer (.discharge n.val)] (quieted n.val (hush s.dev)) (hush s.dev) by simp [quieted]))
    refine ⟨?_, ?_, fun htypec hrole hretry => ?_, hall.otherCables n.val (fun m hm => by simp [Part.seenIn, hm.symm]), hall.besidePort rfl,
      hall.sameSwitch rfl, hall.sameAon rfl⟩
    · rw [cable_settle, cable_discharged hpath' hswap', hquiet]
      rfl
    · rw [armed_settle, hends.armed (.discharge n.val) (by simp [Part.seenIn])]
      exact armed_disarm_self _ _
    · rw [runsFor_settle, discharged_eq hpath' hswap', if_pos (by
        rw [recovers, hquiet, (show Only [.cable n.val, .timer (.discharge n.val)] (quieted n.val (hush s.dev)) (hush s.dev) by
          simp [quieted]).armed (.inrushRetry n.val) rfl]
        simp [htypec, hrole, show armed (.inrushRetry n.val) (hush s.dev) = false from hretry])]
      exact runsFor_arm_self
  · refine answers_of_target rfl (dischargeTimeout_gives_up harmed hswap) ?_
    have hgave := cable_gaveUp n.val (expired (.discharge n.val) s.dev)
    have hpath' : (cable (gaveUp n.val (expired (.discharge n.val) s.dev)) n.val).path = .discharging := by rw [hgave]; exact hpath
    have hswap' : (cable (gaveUp n.val (expired (.discharge n.val) s.dev)) n.val).swapping ≠ 1 := by rw [hgave]; exact hswap
    have hall := only_settled_target_expired (d := s.dev) ((only_discharged hpath' hswap').trans
      (show Only [.cable n.val, .timer (.tsrcRecover n.val)] (gaveUp n.val (expired (.discharge n.val) s.dev)) (expired (.discharge n.val) s.dev) by
        simp [gaveUp]))
    show _ ∧ _
    rw [cable_settle, cable_followTarget, cable_discharged hpath' hswap', hgave]
    exact ⟨rfl, rfl, rfl, hall.otherCables n.val (fun m hm => by simp [Part.seenIn, hm.symm]), hall.besidePort rfl⟩

end Sys2Proof.Proofs.InrushAndDroop


/-! SUPPORT. The fault ladder (chapter 8, R294 to R303): what a detector takes from a port, and the retry of a short. -/

namespace Sys2Proof.Proofs.FaultLadder

open Sys2Proof Sys2Proof.Machine Sys2Proof.Safety
open Sys2Proof.Proofs.StepAndTimers
open Sys2Proof.Proofs.ShapersAndTally
open Sys2Proof.Proofs.Frames
open Sys2Proof.Proofs.Running
open Sys2Proof.Proofs.Shepherd
open Sys2Proof.Proofs.CriticalComparator
open Sys2Proof.Proofs.PdMessages
open Sys2Proof.Proofs.PortEvents

section
variable {S : List Part} {t u d e : Dev} {n m : Nat}

/-! ### A fault turns the gates off -/

/-- What a fault may reach. -/
@[simp] def faultParts (n : Nat) : List Part := [.shepDue, .timer .overrun, .cable n, .timersOf (.port n)]

/-- What a fault leaves of a port that was `c`. -/
structure Faulted (path : PathState) (latch : Bool) (x c : Cable) : Prop where
  gate : x.gateOn = false
  path : x.path = if latch then .latched else path
  due : x.ladder.due = true
  discharge : x.discharge = c.discharge
  short : x.shortCount = c.shortCount
  oc : x.ocCount = c.ocCount
  ov : x.ovCount = c.ovCount
  reverse : x.reverseCount = c.reverseCount
  booked : c.powerRole ≠ .sink → x.booked = c.booked
  inflow : c.powerRole = .sink → x.booked = 0

theorem discharge_gatesDown (n : Nat) (path : PathState) (d : Dev) : (cable (gatesDown n path d) n).discharge = (cable d n).discharge := by
  unfold gatesDown guardNow
  dsimp only
  split
  · rw [cable_arm, cable_disarm, cable_setCable_self, cable_pathTimersOff, cable_setCable_self]
  · rw [cable_pathTimersOff, cable_setCable_self]

theorem cable_setBooked (n mw : Nat) (d : Dev) : cable (setBooked n mw d) n = { cable d n with booked := mw } := by
  unfold setBooked
  dsimp only
  split
  · rw [cable_needStep, cable_setCable_self]
  · rw [cable_setCable_self]

theorem faulted_of_ungated {path : PathState} {latch : Bool} {x y c : Cable} (h : ungated y = ungated c)
    (hgate : y.gateOn = false) (hpath : y.path = if latch then .latched else path) (hdis : y.discharge = c.discharge)
    (hx : x = { y with ladder := { y.ladder with due := true }, booked := if y.powerRole = .sink then 0 else y.booked }) :
    Faulted path latch x c := by
  have hrole : y.powerRole = c.powerRole := (congrArg Cable.powerRole h :)
  have hbooked : y.booked = c.booked := (congrArg Cable.booked h :)
  subst hx
  exact ⟨hgate, hpath, rfl, hdis, (congrArg Cable.shortCount h :), (congrArg Cable.ocCount h :), (congrArg Cable.ovCount h :),
    (congrArg Cable.reverseCount h :), fun hne => (if_neg (by rwa [hrole])).trans hbooked, fun heq => if_pos (by rwa [hrole])⟩

/-- A port whose gates a fault has turned off, before the step that follows is called for. -/
def cutOff (n : Nat) (path : PathState) (latch : Bool) (d : Dev) : Dev :=
  setCable n (fun c => { c with ladder := { c.ladder with due := true } }) (gatesDown n (if latch then .latched else path) d)

theorem faultOff_eq (n : Nat) (path : PathState) (latch : Bool) (d : Dev) : faultOff n path latch d =
    needStep (if (cable (cutOff n path latch d) n).powerRole = .sink then setBooked n 0 (cutOff n path latch d) else cutOff n path latch d) := rfl

theorem cable_faultOff (n : Nat) (path : PathState) (latch : Bool) (d : Dev) : cable (faultOff n path latch d) n =
    { cable (cutOff n path latch d) n with
      booked := if (cable (cutOff n path latch d) n).powerRole = .sink then 0 else (cable (cutOff n path latch d) n).booked } := by
  rw [faultOff_eq, cable_needStep]
  generalize cutOff n path latch d = v
  by_cases hrole : (cable v n).powerRole = .sink
  · rw [if_pos hrole, if_pos hrole, cable_setBooked]
  · rw [if_neg hrole, if_neg hrole]

theorem faulted_faultOff (n : Nat) (path : PathState) (latch : Bool) (d : Dev) :
    Faulted path latch (cable (faultOff n path latch d) n) (cable d n) := by
  refine faulted_of_ungated (ungated_gatesDown n (if latch then .latched else path) d) (gateOn_gatesDown n _ d) (path_gatesDown n _ d)
    (discharge_gatesDown n _ d) ?_
  rw [cable_faultOff, cutOff, cable_setCable_self]

theorem stepDue_faultOff (n : Nat) (path : PathState) (latch : Bool) (d : Dev) : (faultOff n path latch d).shep.stepDue = true :=
  stepDue_needStep.1

theorem only_faultOff_exact (n : Nat) (path : PathState) (latch : Bool) (d : Dev) : Only (faultParts n) (faultOff n path latch d) d := by simp

/-! ### A PORT reset ends a sink's fault -/

/-- What a PORT reset may reach. -/
@[simp] def resetParts (n : Nat) : List Part := .od :: teardownParts n

/-- What a port is sending, marked with the copy that its charge has moved in. -/
def marked (p c : Nat) (l : List Copy) (d : Dev) : Dev :=
  match l with
  | x :: _ => setSwPort p (fun w => { w with sending := some (c, x) }) d
  | [] => d

theorem only_marked (p c : Nat) (l : List Copy) (d : Dev) : Only [.fab, .sends] (marked p c l d) d := by
  cases l with
  | nil => exact .refl _ d
  | cons x l => exact (only_setSwPort_of_fenced (f := fun w => { w with sending := some (c, x) }) (fun _ => rfl) (by decide)).mpr (.refl _ d)

theorem only_rechargeFold (p c : Nat) (d : Dev) : Only [.fab, .sends] (rechargeFold p c d) d := by
  unfold rechargeFold
  dsimp only
  rw [only_setQueue _ _ _ (by decide)]
  exact only_marked p c _ d

/-- The other state of a port's switch port at its reset. -/
def portCleared (n : Nat) (d : Dev) : Dev :=
  setSwPort n (fun w => { w with link := false, speed := 0, lastDrop := 0, halfDuplex := 0, pauseIgnored := 0, cutBad := 0, limitHit := 0,
                                 movesIn := 0 }) d

theorem only_portCleared (n : Nat) (d : Dev) : Only [.fab] (portCleared n d) d := by simp [portCleared]

theorem only_dropPortConfig (n : Nat) (d : Dev) : Only [.od] (dropPortConfig n d) d := by
  unfold dropPortConfig
  simp

/-- A port's engine and its attachment at its reset (Table 3-6). -/
def cableCleared (n : Nat) (d : Dev) : Dev :=
  setCable n (fun c =>
      { Cable.reset with path := c.path, discharge := c.discharge, rpNow := c.rpNow, presentRp := c.presentRp,
                         heat := c.heat, thermCeil := c.thermCeil, sinkCeil := c.sinkCeil, lastDerate := c.lastDerate,
                         hotSince := c.hotSince, coolSince := c.coolSince, rank := cfg d 0x2400 6, ladder := c.ladder,
                         typec := .errorRecovery, resetting := true }) d

theorem portResetOne_eq (hruns : portRuns d n = true) : portResetOne n d = arm (.errRec n) tErrorRecovery (present_ n 0 (cableCleared n
    ((List.range 8).foldl (fun d c => rechargeFold n c d) (dropPortConfig n (portCleared n (portDown n (teardown n d))))))) := by
  unfold portResetOne
  rw [hruns]
  rfl

/-- What a PORT reset may reach once the port is torn down. -/
@[simp] def clearedParts (n : Nat) : List Part := .od :: .cable n :: .timersOf (.port n) :: linkParts

theorem only_cleared (n : Nat) (u : Dev) : Only (clearedParts n) (arm (.errRec n) tErrorRecovery (present_ n 0 (cableCleared n
    ((List.range 8).foldl (fun d c => rechargeFold n c d) (dropPortConfig n (portCleared n (portDown n u))))))) u := by
  rw [only_arm _ _ (by simp), only_present _ _ (by simp), cableCleared, only_setCable _ _ (by simp)]
  refine (Only.foldl (S := clearedParts n) _ (fun v c _ => (only_rechargeFold n c v).mono (by simp)) _).trans ?_
  refine ((only_dropPortConfig n _).mono (by simp)).trans ?_
  refine ((only_portCleared n _).mono (by simp)).trans ?_
  simp

theorem stepDue_teardown (n : Nat) (d : Dev) : (teardown n d).shep.stepDue = true := by
  have hrest : Only (.usb2 :: .tm :: podParts n) (teardown n d) (needStep (setFence n true d)) := by
    unfold teardown
    dsimp only
    simp
  rw [hrest.shep rfl]
  exact stepDue_needStep.1

theorem cable_cleared (n : Nat) (d : Dev) : (cable (present_ n 0 (cableCleared n d)) n).gateOn = false ∧
    (cable (present_ n 0 (cableCleared n d)) n).typec = .errorRecovery ∧ (cable (present_ n 0 (cableCleared n d)) n).booked = 0 := by
  have hcable : cable (cableCleared n d) n = { Cable.reset with
      path := (cable d n).path, discharge := (cable d n).discharge, rpNow := (cable d n).rpNow, presentRp := (cable d n).presentRp,
      heat := (cable d n).heat, thermCeil := (cable d n).thermCeil, sinkCeil := (cable d n).sinkCeil, lastDerate := (cable d n).lastDerate,
      hotSince := (cable d n).hotSince, coolSince := (cable d n).coolSince, rank := cfg d 0x2400 6, ladder := (cable d n).ladder,
      typec := .errorRecovery, resetting := true } := cable_setCable_self _ _ _
  have h := (unsaid_present n 0 (cableCleared n d) n).trans (congrArg _ hcable)
  generalize cable (present_ n 0 (cableCleared n d)) n = x at h ⊢
  exact ⟨(congrArg Cable.gateOn h :), (congrArg Cable.typec h :), (congrArg Cable.booked h :)⟩

/-- A PORT reset takes the port back to rest. -/
theorem portResetOne_rests (hruns : portRuns d n = true) : (cable (portResetOne n d) n).gateOn = false ∧
    (cable (portResetOne n d) n).typec = .errorRecovery ∧ (cable (portResetOne n d) n).booked = 0 ∧
    (portResetOne n d).shep.stepDue = true ∧ Only (resetParts n) (portResetOne n d) d := by
  have hcleared := only_cleared n (teardown n d)
  rw [portResetOne_eq hruns, cable_arm]
  obtain ⟨hgate, htypec, hbooked⟩ := cable_cleared n
    ((List.range 8).foldl (fun d c => rechargeFold n c d) (dropPortConfig n (portCleared n (portDown n (teardown n d)))))
  exact ⟨hgate, htypec, hbooked, (congrArg _ (hcleared.shep rfl)).trans (stepDue_teardown n d),
    (hcleared.mono (by simp)).trans ((only_teardown n (by simp)).mpr (.refl _ d))⟩

/-! ### The detectors -/

theorem detects_iff : detects d n = true ↔ (cable d n).gateOn = true ∧ hasPort d n = true := by simp [detects]

/-- A short is noted. -/
def shorted (n : Nat) (d : Dev) : Dev :=
  setCable n (fun c => { c with shortCount := inc16 c.shortCount, ladder := { c.ladder with short := true } }) d

/-- Whether a short uses up the last retry. -/
def lastShort (c : Cable) : Bool := c.powerRole == .source && c.retriesLeft == 0

theorem shortDetect_live (hdet : detects d n = true) : shortDetect n d =
    if (cable d n).powerRole = .source ∧ lastShort (cable d n) = false
      then arm (.shortRetry n) sec (faultOff n .faultShort (lastShort (cable d n)) (shorted n d))
      else faultOff n .faultShort (lastShort (cable d n)) (shorted n d) := by
  unfold shortDetect lastShort shorted
  rw [if_neg (by simp [hdet])]

theorem shortDetect_stuck (hgate : (cable d n).gateOn = false) (hruns : portRuns d n = true) :
    shortDetect n d = faultOff n .faultShort true (shorted n d) := by
  unfold shortDetect stuckGate shorted
  rw [if_pos (by simp [detects, hgate]), if_pos hruns]

theorem cable_shortDetect (hdet : detects d n = true) :
    cable (shortDetect n d) n = cable (faultOff n .faultShort (lastShort (cable d n)) (shorted n d)) n := by
  rw [shortDetect_live hdet]
  split
  · rw [cable_arm]
  · rfl

theorem stepDue_shortDetect (hdet : detects d n = true) : (shortDetect n d).shep.stepDue = true := by
  rw [shortDetect_live hdet]
  split
  · rw [shep_arm]
    exact stepDue_faultOff n _ _ _
  · exact stepDue_faultOff n _ _ _

theorem only_shorted (n : Nat) (d : Dev) : Only (faultParts n) (shorted n d) d := by simp [shorted]

theorem only_shortDetect (hdet : detects d n = true) : Only (faultParts n) (shortDetect n d) d := by
  rw [shortDetect_live hdet]
  split
  · rw [only_arm _ _ (by simp)]
    exact (only_faultOff_exact n _ _ _).trans (only_shorted n d)
  · exact (only_faultOff_exact n _ _ _).trans (only_shorted n d)

/-- An overcurrent, an overvoltage or a reverse current is noted. -/
def overdrawn (n : Nat) (d : Dev) : Dev :=
  setCable n (fun c => { c with ocCount := inc16 c.ocCount, ocTimes := slide (cable d n).ocTimes d.now }) d
@[inherit_doc overdrawn] def overvolted (n : Nat) (d : Dev) : Dev :=
  setCable n (fun c => { c with ovCount := inc16 c.ovCount, ovTimes := slide (cable d n).ovTimes d.now }) d
@[inherit_doc overdrawn] def reversed (n : Nat) (d : Dev) : Dev :=
  setCable n (fun c => { c with reverseCount := inc16 c.reverseCount, revTimes := slide (cable d n).revTimes d.now }) d

theorem overcurrent_live (hdet : detects d n = true) (hrole : (cable d n).powerRole = .source) (hpath : (cable d n).path ≠ .frozen)
    (hwindow : (cable d n).windowEnd ≤ d.now) : overcurrent n d =
      faultOff n .faultOc (decide (3 ≤ (slide (cable d n).ocTimes d.now).length)) (overdrawn n d) := by
  unfold overcurrent
  dsimp only
  rw [if_neg (by simp [hdet, hrole, hpath, Nat.not_lt.mpr hwindow])]
  rfl

theorem overcurrent_blanked (hwindow : d.now < (cable d n).windowEnd) : overcurrent n d = d := by
  unfold overcurrent
  dsimp only
  rw [if_pos (by simp [hwindow])]

theorem overVoltage_live (hdet : detects d n = true) :
    overVoltage n d = faultOff n .faultOv (decide (2 ≤ (slide (cable d n).ovTimes d.now).length)) (overvolted n d) := by
  unfold overVoltage overvolted
  dsimp only
  rw [hdet, if_neg (by decide)]

theorem reverseCurrent_live (hdet : detects d n = true) (hrole : (cable d n).powerRole ≠ .sink) :
    reverseCurrent n d = faultOff n .faultReverse (decide (2 ≤ (slide (cable d n).revTimes d.now).length)) (reversed n d) := by
  unfold reverseCurrent
  dsimp only
  rw [hdet, if_neg (by decide), if_pos hrole]
  rfl

/-- A sink's reverse current is noted again once its port is reset. -/
def reverseKept (n count : Nat) (times : List Nat) (latch : Bool) (d : Dev) : Dev :=
  setCable n (fun c => { c with reverseCount := count, revTimes := times, path := if latch then .latched else c.path }) d

theorem reverseCurrent_sink (hdet : detects d n = true) (hrole : (cable d n).powerRole = .sink) : reverseCurrent n d =
    reverseKept n (inc16 (cable d n).reverseCount) (slide (cable d n).revTimes d.now) (decide (2 ≤ (slide (cable d n).revTimes d.now).length))
      (portResetOne n (faultOff n .faultReverse (decide (2 ≤ (slide (cable d n).revTimes d.now).length)) (reversed n d))) := by
  have hcount : (cable (reversed n d) n).reverseCount = inc16 (cable d n).reverseCount := by rw [reversed, cable_setCable_self]
  rw [← hcount]
  unfold reverseCurrent
  dsimp only
  rw [hdet, if_neg (by decide), if_neg (by simp [hrole])]
  rfl

/-- What a fault alone leaves, once the device has settled. -/
theorem fault_settled (h : Only (faultParts n) u (hush d)) :
    OnlyPort n (settle u) d ∧ SameSwitch (settle u) d ∧ SameAon (settle u) d :=
  have hall := only_settled h
  ⟨onlyPort_of_only hall (fun m hm => by simp [Part.seenIn, hm.symm]) rfl, hall.sameSwitch rfl, hall.sameAon rfl⟩

theorem only_reversed_off (n : Nat) (d : Dev) : Only (faultParts n)
    (faultOff n .faultReverse (decide (2 ≤ (slide (cable d n).revTimes d.now).length)) (reversed n d)) d :=
  (only_faultOff_exact n _ _ _).trans (by simp [reversed])

theorem only_reverseKept (count : Nat) (times : List Nat) (latch : Bool) (h : Only (resetParts n) u d) :
    Only (resetParts n) (reverseKept n count times latch u) d :=
  (only_setCable _ _ (by simp)).mpr h

theorem cable_reverseKept (count : Nat) (times : List Nat) (latch : Bool) (d : Dev) :
    (cable (reverseKept n count times latch d) n).gateOn = (cable d n).gateOn ∧ (cable (reverseKept n count times latch d) n).reverseCount = count ∧
    (cable (reverseKept n count times latch d) n).typec = (cable d n).typec ∧
    (cable (reverseKept n count times latch d) n).booked = (cable d n).booked := by
  rw [reverseKept, cable_setCable_self]
  exact ⟨rfl, rfl, rfl, rfl⟩

/-! ### A short is tried again -/

/-- What a retry of a short does. -/
def retried (n : Nat) (d : Dev) : Dev :=
  if (cable d n).path ≠ .faultShort then d
  else if (cable d n).typec ≠ .attachedSrc then setCable n (fun c => { c with path := .off, retriesLeft := 3 }) d
  else applyVbus n d

theorem shortRetry_eq (harmed : armed (.shortRetry n) d = true) : shortRetry n (hush d) = retried n (expired (.shortRetry n) d) :=
  onExpiry_hush_of_armed harmed

theorem retried_gone (hpath : (cable d n).path = .faultShort) (htypec : (cable d n).typec ≠ .attachedSrc) :
    retried n d = setCable n (fun c => { c with path := .off, retriesLeft := 3 }) d := by
  unfold retried
  rw [if_neg (by simp [hpath]), if_pos htypec]

theorem retried_supplies (hpath : (cable d n).path = .faultShort) (htypec : (cable d n).typec = .attachedSrc) :
    retried n d = applyVbus n d := by
  unfold retried
  rw [if_neg (by simp [hpath]), if_neg (by simp [htypec])]

end

/-- Settles O42. -/
theorem faultLadder : Obligations.FaultLadder := by
  unfold Obligations.FaultLadder
  refine ⟨fun s n hdet => ⟨?_, fun hrole hpath hwindow => ?_, fun hwindow => ?_, ?_, fun hrole => ?_, fun hrole hruns => ?_⟩,
    fun s n hgate hruns => ?_, fun s n harmed hpath => ⟨fun htypec hwet => ⟨fun hfresh hinrush hcrit hbooked hfree => ?_, fun hstale => ?_⟩,
      fun htypec => ?_⟩⟩
  · refine answers_of_effect (f := shortDetect n.val) rfl rfl ?_
    obtain ⟨hport, hswitch, haon⟩ := fault_settled (only_shortDetect (d := hush s.dev) hdet)
    obtain ⟨hgate, hpath, hdue, hdis, hshort, -, -, -, hbooked, hinflow⟩ :=
      faulted_faultOff n.val .faultShort (lastShort (cable (hush s.dev) n.val)) (shorted n.val (hush s.dev))
    rw [shorted, cable_setCable_self] at hshort hdis hbooked hinflow
    intro latch
    rw [cable_settle, cable_shortDetect (d := hush s.dev) hdet, settle_shep]
    refine ⟨hgate, hshort, hpath, hdue, stepDue_shortDetect hdet, hdis, fun hrole hlatch => ?_, fun hrole => hbooked (by simp [hrole]),
      hinflow, hport, hswitch, haon⟩
    rw [runsFor_settle, shortDetect_live (d := hush s.dev) hdet, if_pos ⟨hrole, hlatch⟩]
    exact runsFor_arm_self
  · refine answers_of_effect rfl (overcurrent_live (d := hush s.dev) hdet hrole hpath hwindow) ?_
    obtain ⟨hport, hswitch, haon⟩ := fault_settled (d := s.dev) (n := n.val)
      ((only_faultOff_exact n.val .faultOc (decide (3 ≤ (slide (cable s.dev n.val).ocTimes s.dev.now).length)) (overdrawn n.val (hush s.dev))).trans
        (by simp [overdrawn]))
    obtain ⟨hgate, hfault, -, -, -, hcount, -⟩ := faulted_faultOff n.val .faultOc
      (decide (3 ≤ (slide (cable s.dev n.val).ocTimes s.dev.now).length)) (overdrawn n.val (hush s.dev))
    rw [overdrawn, cable_setCable_self] at hcount
    show _ ∧ _
    rw [cable_settle, settle_shep]
    exact ⟨hgate, hcount, hfault.trans (if_congr decide_eq_true_iff rfl rfl), stepDue_faultOff _ _ _ _, hport, hswitch, haon⟩
  · exact answers_became rfl (overcurrent_blanked (d := hush s.dev) hwindow)
  · refine answers_of_effect rfl (overVoltage_live (d := hush s.dev) hdet) ?_
    obtain ⟨hport, hswitch, haon⟩ := fault_settled (d := s.dev) (n := n.val)
      ((only_faultOff_exact n.val .faultOv (decide (2 ≤ (slide (cable s.dev n.val).ovTimes s.dev.now).length)) (overvolted n.val (hush s.dev))).trans
        (by simp [overvolted]))
    obtain ⟨hgate, hfault, -, -, -, -, hcount, -⟩ := faulted_faultOff n.val .faultOv
      (decide (2 ≤ (slide (cable s.dev n.val).ovTimes s.dev.now).length)) (overvolted n.val (hush s.dev))
    rw [overvolted, cable_setCable_self] at hcount
    show _ ∧ _
    rw [cable_settle, settle_shep]
    exact ⟨hgate, hcount, hfault.trans (if_congr decide_eq_true_iff rfl rfl), stepDue_faultOff _ _ _ _, hport, hswitch, haon⟩
  · refine answers_of_target rfl (reverseCurrent_live (d := hush s.dev) hdet hrole) ?_
    have hall := only_settled_target (d := s.dev) (S := faultParts n.val) ((only_faultOff_exact n.val .faultReverse
      (decide (2 ≤ (slide (cable s.dev n.val).revTimes s.dev.now).length)) (reversed n.val (hush s.dev))).trans (by simp [reversed]))
    obtain ⟨hgate, hfault, -, -, -, -, -, hcount, -⟩ := faulted_faultOff n.val .faultReverse
      (decide (2 ≤ (slide (cable s.dev n.val).revTimes s.dev.now).length)) (reversed n.val (hush s.dev))
    rw [reversed, cable_setCable_self] at hcount
    show _ ∧ _
    rw [cable_settle, cable_followTarget, settle_shep, shep_followTarget]
    exact ⟨hgate, hcount, hfault.trans (if_congr decide_eq_true_iff rfl rfl), stepDue_faultOff _ _ _ _, onlyPort_of_only hall (fun m hm => by simp [Part.seenIn, hm.symm]) rfl⟩
  · refine answers_of_target rfl (reverseCurrent_sink (d := hush s.dev) hdet hrole) ?_
    have hback := only_reversed_off n.val (hush s.dev)
    generalize faultOff n.val .faultReverse _ (reversed n.val (hush s.dev)) = v at hback
    obtain ⟨hgate, htypec, hbooked, hdue, hreset⟩ := portResetOne_rests (d := v) (n := n.val)
      ((portRuns_congr (hback.boot rfl) (hback.otp rfl) n.val).trans hruns)
    have hreach := hreset.trans (hback.mono (by simp))
    generalize portResetOne n.val v = w at hgate htypec hbooked hdue hreach
    have hall := only_settled_target (d := s.dev) (only_reverseKept (n := n.val) (inc16 (cable (hush s.dev) n.val).reverseCount)
      (slide (cable (hush s.dev) n.val).revTimes (hush s.dev).now) (decide (2 ≤ (slide (cable (hush s.dev) n.val).revTimes (hush s.dev).now).length)) hreach)
    obtain ⟨kgate, kcount, ktypec, kbooked⟩ := cable_reverseKept (n := n.val) (inc16 (cable (hush s.dev) n.val).reverseCount)
      (slide (cable (hush s.dev) n.val).revTimes (hush s.dev).now) (decide (2 ≤ (slide (cable (hush s.dev) n.val).revTimes (hush s.dev).now).length)) w
    show _ ∧ _
    rw [cable_settle, cable_followTarget, settle_shep, shep_followTarget]
    exact ⟨kgate.trans hgate, kcount, ktypec.trans htypec, kbooked.trans hbooked, hdue,
      hall.othersStand n.val (fun m hm => by simp [Part.seenIn, hm.symm]), hall.besidePort rfl⟩
  · refine answers_of_effect rfl (shortDetect_stuck (d := hush s.dev) hgate hruns) ?_
    obtain ⟨hport, hswitch, haon⟩ := fault_settled (d := s.dev) (n := n.val)
      ((only_faultOff_exact n.val .faultShort true (shorted n.val (hush s.dev))).trans (only_shorted n.val (hush s.dev)))
    obtain ⟨-, hpath, -, -, hcount, -⟩ := faulted_faultOff n.val .faultShort true (shorted n.val (hush s.dev))
    rw [shorted, cable_setCable_self] at hcount
    show _ ∧ _
    rw [cable_settle, settle_shep]
    exact ⟨hpath, hcount, stepDue_faultOff _ _ _ _, hport, hswitch, haon⟩
  · have hback : Only [.now, .tm, .timer (.shortRetry n.val), .odBook, .out] (expired (.shortRetry n.val) s.dev) s.dev := by simp
    have hneed : (firstNeed (expired (.shortRetry n.val) s.dev) (cable s.dev n.val) : Int) ≤ ledgerFree (expired (.shortRetry n.val) s.dev) := by
      rw [firstNeed_congr (hback.cfg rfl) (hback.aon rfl) (hback.shep rfl), ledgerFree_congr (hback.cfg rfl) (hback.slots rfl) (fun _ => rfl)]
      exact hfree
    have happly : shortRetry n.val (hush s.dev) = rampUp n.val (allowed n.val (expired (.shortRetry n.val) s.dev)) := by
      rw [shortRetry_eq harmed, retried_supplies (d := expired (.shortRetry n.val) s.dev) hpath htypec]
      exact applyVbus_admits (by rw [cable_expired, hpath]; decide) hwet hfresh (armed_disarm_self _ _)
        ((hback.armed (.inrushRetry n.val) (by simp [Part.seenIn])).trans hinrush) hcrit hbooked hneed
    refine answers_of_effect rfl happly ?_
    have hall := only_settled_expired (d := s.dev) (only_rampUp_allowed n.val (expired (.shortRetry n.val) s.dev))
    obtain ⟨hgate, hbook, hleft⟩ := cable_rampUp_allowed n.val (expired (.shortRetry n.val) s.dev)
    show _ ∧ _
    rw [cable_settle]
    exact ⟨hgate, hbook.trans (hback.cfg rfl _ _), hleft.trans (if_pos hpath),
      onlyPort_of_only hall (fun m hm => by simp [Part.seenIn, hm.symm]) rfl, hall.sameSwitch rfl⟩
  · refine answers_of_effect rfl ((shortRetry_eq harmed).trans (retried_supplies (d := expired (.shortRetry n.val) s.dev) hpath htypec)) ?_
    have hall := only_settled_expired (d := s.dev) (only_applyVbus_of_not_wet (d := expired (.shortRetry n.val) s.dev) (n := n.val) hwet)
    show _ ∧ _
    rw [cable_settle, Restoring.cable_applyVbus_of_stale (d := expired (.shortRetry n.val) s.dev) (by rw [cable_expired, hpath]; decide) hstale]
    exact ⟨rfl, onlyPort_of_only hall (fun m hm => by simp [Part.seenIn, hm.symm]) rfl, hall.sameSwitch rfl⟩
  · refine answers_of_effect rfl ((shortRetry_eq harmed).trans (retried_gone (d := expired (.shortRetry n.val) s.dev) hpath htypec)) ?_
    have hall := only_settled_expired (d := s.dev) (tm := .shortRetry n.val) (S := [.cable n.val]) (u := setCable n.val (fun c => { c with path := .off, retriesLeft := 3 })
      (expired (.shortRetry n.val) s.dev)) (by simp)
    show _ ∧ _
    rw [cable_settle, cable_setCable_self]
    exact ⟨rfl, onlyPort_of_only hall (fun m hm => by simp [Part.seenIn, hm.symm]) rfl, hall.sameSwitch rfl⟩

end Sys2Proof.Proofs.FaultLadder


/-! SUPPORT. The chassis slots (chapter 6, R213, R214, R223): polls, identity blocks, profiles, and a bus that is stuck. -/

namespace Sys2Proof.Proofs.SlotIdentification

open Sys2Proof Sys2Proof.Machine Sys2Proof.Safety
open Sys2Proof.Proofs.StepAndTimers
open Sys2Proof.Proofs.ShapersAndTally
open Sys2Proof.Proofs.Frames
open Sys2Proof.Proofs.Running
open Sys2Proof.Proofs.Shepherd
open Sys2Proof.Proofs.PortEvents

section
variable {S : List Part} {t u d e : Dev} {x y p state : Nat}

/-! ### A slot's record -/

@[simp] theorem slotOf_setSlot_self (x : Nat) (f : SlotRec → SlotRec) (d : Dev) : slotOf (setSlot x f d) x = f (slotOf d x) := tget_tset_self _ _ _ _
theorem slotOf_setSlot_other (f : SlotRec → SlotRec) (d : Dev) (h : y ≠ x) : slotOf (setSlot x f d) y = slotOf d y := tget_tset_other _ _ _ h

theorem slotOf_of_slots (h : t.slots = d.slots) (x : Nat) : slotOf t x = slotOf d x := by unfold slotOf; rw [h]

@[simp] theorem slotOf_emit (e : Emission) (d : Dev) (x : Nat) : slotOf (emit e d) x = slotOf d x :=
  slotOf_of_slots ((show Only [.out] (emit e d) d by simp).slots rfl) x
@[simp] theorem slotOf_arm (tm : Timer) (ns : Nat) (d : Dev) (x : Nat) : slotOf (arm tm ns d) x = slotOf d x := rfl
@[simp] theorem slotOf_disarm (tm : Timer) (d : Dev) (x : Nat) : slotOf (disarm tm d) x = slotOf d x := rfl
@[simp] theorem slotOf_settle (d : Dev) (x : Nat) : slotOf (settle d) x = slotOf d x := slotOf_of_slots (settle_slots d) x
@[simp] theorem slotOf_i2c (x what : Nat) (d : Dev) (y : Nat) : slotOf (i2c x what d) y = slotOf d y := slotOf_emit _ d y
@[simp] theorem slotOf_needStep (d : Dev) (x : Nat) : slotOf (needStep d) x = slotOf d x :=
  slotOf_of_slots ((show Only stepParts (needStep d) d by simp).slots rfl) x

@[simp] theorem only_i2c (x what : Nat) (hS : Within [.out] S = true) : Only S (i2c x what d) e ↔ Only S d e := only_emit _ hS

/-- What a START puts on the bus of a bank that is in range. -/
theorem out_i2c (x : Slot) (what : Nat) (hbank : d.aon.bankS = true) : (i2c x.val what d).out = d.out ++ [.i2c x what] := by
  unfold i2c emit
  rw [if_neg (by simp [bankSilent, heldSilent, hbank]), show Fin.ofNat 4 x.val = x from Fin.ext (Nat.mod_eq_of_lt x.isLt)]

/-! ### A profile is booked -/

/-- The ceiling of profile `p` is admitted on a slot (R286). -/
def Fits (d : Dev) (x p : Nat) : Prop :=
  (slotCeiling d x p : Int) - (slotOf d x).booked ≤ ledgerFree d ∨ slotCeiling d x p ≤ (slotOf d x).booked

/-- What FREE and the profiles are read from stands. -/
structure SameBooks (t d : Dev) : Prop where
  cfg : ∀ obj el, cfg t obj el = cfg d obj el
  cables : t.cables = d.cables
  booked : ∀ y, (slotOf t y).booked = (slotOf d y).booked

theorem SameBooks.trans (h : SameBooks t u) (h' : SameBooks u d) : SameBooks t d :=
  ⟨fun _ _ => (h.cfg _ _).trans (h'.cfg _ _), h.cables.trans h'.cables, fun y => (h.booked y).trans (h'.booked y)⟩

theorem SameBooks.of_only (h : Only S t d) (hS : [View.cfgs, .cables, .slots].all (Clear S) = true) : SameBooks t d :=
  ⟨h.cfg (clear_of_all hS (by simp)), h.cables (clear_of_all hS (by simp)),
    fun y => congrArg _ (slotOf_of_slots (h.slots (clear_of_all hS (by simp))) y)⟩

theorem SameBooks.setSlot {f : SlotRec → SlotRec} (hf : ∀ c, (f c).booked = c.booked) (x : Nat) (d : Dev) : SameBooks (setSlot x f d) d := by
  have honly : Only [.slot x] (Machine.setSlot x f d) d := by simp
  refine ⟨honly.cfg rfl, honly.cables rfl, fun y => ?_⟩
  by_cases hy : y = x
  · subst hy
    rw [slotOf_setSlot_self, hf]
  · rw [slotOf_setSlot_other f d hy]

theorem SameBooks.ledgerFree (h : SameBooks t d) : ledgerFree t = ledgerFree d := by
  have hcable (n : Nat) : cable t n = cable d n := cable_of_cables h.cables n
  simp only [Machine.ledgerFree, inflow, sinkInflow, outflow, h.cfg, h.booked, hcable]

theorem SameBooks.slotCeiling (h : SameBooks t d) (x p : Nat) : slotCeiling t x p = slotCeiling d x p := by
  simp only [Machine.slotCeiling, h.cfg]

theorem SameBooks.ngShare (h : SameBooks t d) (p : Nat) : ngShare t p = ngShare d p := by simp only [Machine.ngShare, h.cfg]

theorem SameBooks.matchProfile (h : SameBooks t d) (b : List Byte) (place : Nat) : matchProfile t b place = matchProfile d b place := by
  simp only [Machine.matchProfile, h.cfg]

theorem SameBooks.fits (h : SameBooks t d) (x p : Nat) : Fits t x p ↔ Fits d x p := by
  unfold Fits
  rw [h.slotCeiling, h.booked, h.ledgerFree]

theorem bookSlot_of_fits (h : Fits d x p) : bookSlot x (slotCeiling d x p) d = (true, setSlot x (fun c => { c with booked := slotCeiling d x p }) d) :=
  if_pos h

theorem bookSlot_of_not_fits (h : ¬ Fits d x p) : bookSlot x (slotCeiling d x p) d = (false, d) := if_neg h

theorem slotTake_of_fits (h : Fits d x p) : (slotTake x p state d).1 = true ∧ slotOf (slotTake x p state d).2 x =
    { slotOf d x with booked := slotCeiling d x p, state := state, profileId := p, profileOn := true, ng := ngShare d p } := by
  unfold slotTake
  rw [bookSlot_of_fits h]
  simp

theorem slotTake_of_not_fits (h : ¬ Fits d x p) : (slotTake x p state d).1 = false ∧
    slotOf (slotTake x p state d).2 x = { slotOf d x with state := state } := by
  unfold slotTake
  rw [bookSlot_of_not_fits h]
  simp

theorem only_slotTake (x p state : Nat) (d : Dev) : Only [.slot x] (slotTake x p state d).2 d := by
  unfold slotTake bookSlot
  dsimp only
  rw [only_setSlot _ _ (by simp)]
  split <;> simp

theorem only_slotProfile (x p state : Nat) (d : Dev) : Only [.slot x, .out] (slotProfile x p state d) d :=
  (only_emit _ (by simp [Part.covers])).mpr ((only_slotTake x p state d).mono (by simp [Part.covers]))

/-- A slot has taken profile `p`. -/
def Took (x p : Nat) (t d : Dev) : Prop := (slotOf t x).profileId = p ∧ (slotOf t x).profileOn = true ∧
  (slotOf t x).booked = slotCeiling d x p ∧ (slotOf t x).ng = ngShare d p

/-- A slot has kept its profile and its booking. -/
def Kept (x : Nat) (t d : Dev) : Prop := (slotOf t x).profileId = (slotOf d x).profileId ∧ (slotOf t x).booked = (slotOf d x).booked

/-- The host is told whether a profile is applied. -/
def Told (x p : Nat) (t d : Dev) : Prop :=
  (Fits d x p → Took x p t d ∧ Emission.notice (.slotProfile x true) ∈ t.out) ∧
  (¬ Fits d x p → Kept x t d ∧ Emission.notice (.slotProfile x false) ∈ t.out)

theorem mem_out_notice (n : HostNotice) (d : Dev) : Emission.notice n ∈ (emit (.notice n) d).out := by simp [emit, bankSilent, heldSilent]

/-- A profile's allowance is booked where it fits, from a device on which the books stand. -/
theorem slotTake_takes (hbooks : SameBooks u d) (hid : (slotOf u x).profileId = (slotOf d x).profileId) :
    (slotOf (slotTake x p state u).2 x).state = state ∧ (Fits d x p → Took x p (slotTake x p state u).2 d ∧ (slotTake x p state u).1 = true) ∧
    (¬ Fits d x p → Kept x (slotTake x p state u).2 d ∧ (slotTake x p state u).1 = false) := by
  by_cases h : Fits d x p
  · obtain ⟨hdone, hslot⟩ := slotTake_of_fits (state := state) ((hbooks.fits x p).mpr h)
    unfold Took
    rw [hslot]
    exact ⟨rfl, fun _ => ⟨⟨rfl, rfl, hbooks.slotCeiling x p, hbooks.ngShare p⟩, hdone⟩, fun hno => absurd h hno⟩
  · obtain ⟨hdone, hslot⟩ := slotTake_of_not_fits (state := state) (fun hu => h ((hbooks.fits x p).mp hu))
    unfold Kept
    rw [hslot]
    exact ⟨rfl, fun hyes => absurd hyes h, fun _ => ⟨⟨hid, hbooks.booked x⟩, hdone⟩⟩

/-- What else the record of a slot holds, beside what a profile takes. -/
def bare (c : SlotRec) : SlotRec := { c with booked := 0, state := 0, profileId := 0, profileOn := false, ng := NgShare.none }

theorem clampCount_of_bare {b c : SlotRec} (h : bare b = bare c) : b.clampCount = c.clampCount := (congrArg SlotRec.clampCount h :)
theorem identity_of_bare {b c : SlotRec} (h : bare b = bare c) : b.identity = c.identity := (congrArg SlotRec.identity h :)

theorem bare_slotTake (x p state : Nat) (d : Dev) : bare (slotOf (slotTake x p state d).2 x) = bare (slotOf d x) := by
  by_cases h : Fits d x p
  · rw [(slotTake_of_fits h).2]
    rfl
  · rw [(slotTake_of_not_fits h).2]
    rfl

theorem slotOf_slotProfile (x p state : Nat) (d : Dev) : slotOf (slotProfile x p state d) x = slotOf (slotTake x p state d).2 x := slotOf_emit _ _ x

theorem told_arm {tm : Timer} {ns : Nat} (h : Told x p t d) : Told x p (arm tm ns t) d := h

theorem told_settle (h : Told x p t d) : Told x p (settle t) d := by
  unfold Told Took Kept at *
  rwa [slotOf_settle, settle_out]

theorem mem_out_slotProfile (x p state : Nat) (d : Dev) :
    Emission.notice (.slotProfile x (slotTake x p state d).1) ∈ (slotProfile x p state d).out := mem_out_notice _ _

theorem told_slotProfile (hbooks : SameBooks u d) (hid : (slotOf u x).profileId = (slotOf d x).profileId) :
    (slotOf (slotProfile x p state u) x).state = state ∧ Told x p (slotProfile x p state u) d := by
  obtain ⟨hstate, htook, hkept⟩ := slotTake_takes (p := p) (state := state) hbooks hid
  unfold Told Took Kept at *
  rw [slotOf_slotProfile]
  refine ⟨hstate, fun h => ?_, fun h => ?_⟩
  · obtain ⟨htook, hdone⟩ := htook h
    exact ⟨htook, hdone ▸ mem_out_slotProfile x p state u⟩
  · obtain ⟨hkept, hdone⟩ := hkept h
    exact ⟨hkept, hdone ▸ mem_out_slotProfile x p state u⟩

/-! ### The commands of a slot -/

/-- What a command of one slot may reach. -/
@[simp] def slotParts (x : Nat) : List Part :=
  [.slot x, .out, .timer (.slotPoll x), .timer (.slotRetry x), .timer (.busClear x), .timer (.clampRetry x), .now, .tm, .odBook, .shepDue,
    .timer .overrun]

theorem only_expired_slot {tm : Timer} (htm : .timer tm ∈ slotParts x) (d : Dev) : Only (slotParts x) (expired tm d) d := by
  refine (only_expired tm ?_).mpr (.refl _ d)
  simp only [Within, List.all_cons, List.all_nil, Bool.and_true, Bool.and_eq_true, List.any_eq_true]
  exact ⟨⟨.now, by simp, by simp⟩, ⟨.tm, by simp, by simp⟩, ⟨_, htm, by simp⟩, ⟨.odBook, by simp, by simp⟩, ⟨.out, by simp, by simp⟩⟩

theorem whileBank_of_ok {ok : Aon → Bool} {f : Dev → Dev} (h : ok d.aon = true) : whileBank ok f d = f d := if_pos h

theorem bank_hush {f : Dev → Dev} (h : d.aon.bankS = true) : whileBank (fun a => a.bankS) f (hush d) = f (hush d) := whileBank_of_ok (d := hush d) h

/-- A slot is polled again 250 ms later, and now addressed. -/
def polled (x : Nat) (d : Dev) : Dev := i2c x 1 (arm (.slotPoll x) (250 * ms) d)

theorem only_polled (x : Nat) (d : Dev) : Only [.timer (.slotPoll x), .out] (polled x d) d := by simp [polled]

/-- What a poll leaves of the device that its timer's end made. -/
structure Polled (x : Slot) (u d : Dev) : Prop where
  reach : Only (slotParts x.val) u d
  record : slotOf u x.val = slotOf d x.val
  out : u.out = [.i2c x 1]
  runs : runsFor (.slotPoll x.val) (250 * ms) u
  books : SameBooks u d
  bank : u.aon.bankS = true

theorem polled_expired (x : Slot) (hbank : d.aon.bankS = true) : Polled x (polled x.val (expired (.slotPoll x.val) d)) d := by
  have hpolled : Only (slotParts x.val) (polled x.val (expired (.slotPoll x.val) d)) d :=
    ((only_polled x.val _).mono (by simp [Part.covers])).trans (only_expired_slot (by simp) d)
  refine ⟨hpolled, slotOf_i2c _ _ _ _, out_i2c x 1 hbank, ?_, ?_, (congrArg Aon.bankS (hpolled.aon rfl)).trans hbank⟩
  · exact ((show Only [.out] (polled x.val (expired (.slotPoll x.val) d)) (arm (.slotPoll x.val) (250 * ms) (expired (.slotPoll x.val) d)) by
      simp [polled]).runsFor (.slotPoll x.val) rfl ((only_polled x.val _).now rfl)).mpr runsFor_arm_self
  · exact .of_only (S := [.timer (.slotPoll x.val), .out, .now, .tm, .odBook])
      (((only_polled x.val _).mono (by simp [Part.covers])).trans (by simp [Part.covers])) rfl

/-- A module that answers no more is lost. -/
def lost (x : Nat) (d : Dev) : Dev :=
  disarm (.slotRetry x) (disarm (.clampRetry x) (disarm (.busClear x) (setSlot x (fun c =>
    { c with state := 0, profileId := 0, profileOn := false, nacks := 0, tries := 0, clears := 0, booked := 0, ng := NgShare.none })
      (needStep d))))

theorem slotPoll_eq (ack : Bool) (hready : d.boot.stage = .ready) (harmed : armed (.slotPoll x) d = true)
    (hon : cfgOn d (slotObj x) 0 = true) : slotPoll x ack (hush d) =
      if ack then if (slotOf d x).state = 0 then slotFound x (polled x (expired (.slotPoll x) d))
        else setSlot x (fun c => { c with nacks := 0 }) (polled x (expired (.slotPoll x) d))
      else if (slotOf d x).state = 0 then polled x (expired (.slotPoll x) d)
      else if (slotOf d x).nacks < 2 then setSlot x (fun c => { c with nacks := c.nacks + 1 }) (polled x (expired (.slotPoll x) d))
      else lost x (polled x (expired (.slotPoll x) d)) := by
  have hbook : Only [.now, .tm, .timer (.slotPoll x), .odBook, .out] (arm (.slotPoll x) (250 * ms) (expired (.slotPoll x) d)) d := by
    simp [Part.covers]
  have hcfg : cfgOn (arm (.slotPoll x) (250 * ms) (expired (.slotPoll x) d)) (slotObj x) 0 = true := by
    unfold cfgOn at *
    rwa [hbook.cfg rfl]
  unfold slotPoll
  rw [if_neg (by simp [booting, hready]), if_neg (by simp [isReady, hready]), onExpiry_hush_of_armed harmed]
  dsimp only
  rw [if_neg (by simp [hcfg])]
  rfl

/-- A module found has its allowance booked, from a record that starts afresh. -/
def founding (x : Nat) (d : Dev) : Dev := setSlot x (fun c => { c with nacks := 0, tries := 0, clears := 0 }) d

theorem slotFound_eq (x : Nat) (d : Dev) : slotFound x d = slotRead x (slotTake x 0 1 (founding x d)).2 := rfl

theorem slotOf_slotRead (x : Nat) (d : Dev) : slotOf (slotRead x d) x = { slotOf d x with state := 1 } := by
  unfold slotRead
  rw [slotOf_i2c, slotOf_setSlot_self]

theorem out_slotRead (x : Slot) (hbank : d.aon.bankS = true) : (slotRead x.val d).out = d.out ++ [.i2c x 2] := out_i2c x 2 hbank

theorem took_settle (h : Took x p t d) : Took x p (settle t) d := by
  unfold Took at *
  rwa [slotOf_settle]

theorem kept_settle (h : Kept x t d) : Kept x (settle t) d := by
  unfold Kept at *
  rwa [slotOf_settle]

theorem only_slotRead (x : Nat) (d : Dev) : Only [.slot x, .out] (slotRead x d) d := by simp [slotRead]

theorem out_slotTake (x p state : Nat) (d : Dev) : (slotTake x p state d).2.out = d.out := (only_slotTake x p state d).out rfl

/-- A module found is booked for, and its block is being read. -/
theorem slotFound_finds (x : Slot) (hbooks : SameBooks u d) (hbank : u.aon.bankS = true) (hrec : slotOf u x.val = slotOf d x.val) :
    (slotOf (slotFound x.val u) x.val).state = 1 ∧ (Fits d x.val 0 → Took x.val 0 (slotFound x.val u) d) ∧
    (¬ Fits d x.val 0 → Kept x.val (slotFound x.val u) d) ∧ Only (slotParts x.val) (slotFound x.val u) u ∧
    (slotFound x.val u).out = u.out ++ [.i2c x 2] ∧ (∀ tm ns, runsFor tm ns (slotFound x.val u) ↔ runsFor tm ns u) := by
  have hslot : slotOf (founding x.val u) x.val = { slotOf u x.val with nacks := 0, tries := 0, clears := 0 } := slotOf_setSlot_self x.val _ u
  have hfounding : SameBooks (founding x.val u) u := .setSlot (f := fun c => { c with nacks := 0, tries := 0, clears := 0 }) (fun _ => rfl) x.val u
  obtain ⟨hstate, htook, hkept⟩ := slotTake_takes (x := x.val) (p := 0) (state := 1) (hfounding.trans hbooks) (by rw [hslot, hrec])
  have htake : Only [.slot x.val] (slotTake x.val 0 1 (founding x.val u)).2 u := (only_slotTake x.val 0 1 _).trans (by simp [founding])
  rw [slotFound_eq]
  generalize (slotTake x.val 0 1 (founding x.val u)).2 = v at hstate htook hkept htake
  have hread : Only [.slot x.val, .out] (slotRead x.val v) u := (only_slotRead x.val v).trans (htake.mono (by simp [Part.covers]))
  unfold Took Kept at *
  rw [slotOf_slotRead]
  refine ⟨rfl, fun h => (htook h).1, fun h => (hkept h).1, hread.mono (by simp [Part.covers]), ?_, fun tm ns => hread.runsFor tm rfl (hread.now rfl)⟩
  rw [out_slotRead x ((congrArg Aon.bankS (htake.aon rfl)).trans hbank), htake.out rfl]

/-- A bus that a clamp is about to record. -/
def clamping (x : Nat) (d : Dev) : Dev := setSlot x (fun c => { c with clampCount := inc16 c.clampCount, clears := 0, tries := 0 }) d

theorem slotClamp_eq (x : Nat) (d : Dev) : slotClamp x d = arm (.clampRetry x) (10 * sec) (slotProfile x 0 4 (clamping x d)) := rfl

theorem only_slotClamp (x : Nat) (d : Dev) : Only [.slot x, .out, .timer (.clampRetry x)] (slotClamp x d) d := by
  rw [slotClamp_eq, only_arm _ _ (by simp [Part.covers])]
  exact ((only_slotProfile x 0 4 _).mono (by simp [Part.covers])).trans (by simp [clamping, Part.covers])

/-- What a clamp leaves, from a device on which the books stand. -/
theorem clamped_slotClamp (hbooks : SameBooks u d) (hid : (slotOf u x).profileId = (slotOf d x).profileId)
    (hcount : (slotOf u x).clampCount = (slotOf d x).clampCount) :
    (slotOf (slotClamp x u) x).state = 4 ∧ (slotOf (slotClamp x u) x).clampCount = inc16 (slotOf d x).clampCount ∧
    runsFor (.clampRetry x) (10 * sec) (slotClamp x u) ∧ Told x 0 (slotClamp x u) d := by
  have hslot : slotOf (clamping x u) x = { slotOf u x with clampCount := inc16 (slotOf u x).clampCount, clears := 0, tries := 0 } :=
    slotOf_setSlot_self x _ u
  have hclamping : SameBooks (clamping x u) u :=
    .setSlot (f := fun c => { c with clampCount := inc16 c.clampCount, clears := 0, tries := 0 }) (fun _ => rfl) x u
  obtain ⟨hstate, htold⟩ := told_slotProfile (x := x) (p := 0) (state := 4) (hclamping.trans hbooks) (by rw [hslot]; exact hid)
  have hbare : bare (slotOf (slotProfile x 0 4 (clamping x u)) x) = bare (slotOf (clamping x u) x) := by
    rw [slotOf_slotProfile, bare_slotTake]
  rw [slotClamp_eq, slotOf_arm]
  generalize slotProfile x 0 4 (clamping x u) = v at hstate htold hbare
  refine ⟨hstate, ?_, runsFor_arm_self, told_arm htold⟩
  rw [clampCount_of_bare hbare, hslot, ← hcount]

/-- Every other slot, the cable ports, the switch and the stores stand. -/
def Alone (x : Nat) (t d : Dev) : Prop :=
  (∀ y : Nat, y ≠ x → slotOf t y = slotOf d y) ∧ t.cables = d.cables ∧ SameSwitch t d ∧ SameStores t d

theorem alone_settle (h : Only (slotParts x) u d) : Alone x (settle u) d := by
  have hall : Only (.irq :: slotParts x) (settle u) d := (only_settle (by simp [Part.covers])).mpr (h.mono (by simp [Part.covers]))
  exact ⟨fun y hy => hall.slot y (by simp [Part.seenIn, hy.symm]), hall.cables rfl, hall.sameSwitch rfl, hall.sameStores rfl⟩

theorem books_hush (d : Dev) : SameBooks (hush d) d := ⟨fun _ _ => rfl, rfl, fun _ => rfl⟩

/-- What the end of a read may reach. -/
@[simp] def readParts (x : Nat) : List Part := [.slot x, .out, .timer (.clampRetry x), .timer (.slotRetry x)]

theorem read_settles (h : Only (readParts x) u (hush d)) : Alone x (settle u) d ∧ SameAon (settle u) d :=
  ⟨alone_settle ((h.mono (by simp [Part.covers])).trans (show Only (slotParts x) (hush d) d by simp [Part.covers])),
    (only_settled h).sameAon rfl⟩

/-- A valid block is kept. -/
def blockKept (x : Nat) (block : List Byte) (d : Dev) : Dev := disarm (.clampRetry x) (setSlot x (fun c => { c with identity := block }) d)

theorem books_blockKept (x : Nat) (block : List Byte) (d : Dev) : SameBooks (blockKept x block d) d := by
  have hset : SameBooks (setSlot x (fun c => { c with identity := block }) d) d :=
    .setSlot (f := fun c => { c with identity := block }) (fun _ => rfl) x d
  exact ⟨hset.cfg, hset.cables, hset.booked⟩

theorem slotOf_blockKept (x : Nat) (block : List Byte) (d : Dev) : slotOf (blockKept x block d) x = { slotOf d x with identity := block } := by
  rw [blockKept, slotOf_disarm, slotOf_setSlot_self]

theorem identity_slotProfile (x p state : Nat) (d : Dev) : (slotOf (slotProfile x p state d) x).identity = (slotOf d x).identity := by
  rw [slotOf_slotProfile, identity_of_bare (bare_slotTake x p state d)]

theorem slotReadDone_valid {block : List Byte} (hready : d.boot.stage = .ready) (hstate : (slotOf d x).state = 1)
    (hretry : armed (.slotRetry x) d = false) (hvalid : identValid block = true)
    (hp : matchProfile d block (8 + x) = p) : slotReadDone x block d = slotProfile x p 2 (blockKept x block d) := by
  rw [← hp, ← (books_blockKept x block d).matchProfile]
  unfold slotReadDone
  dsimp only
  rw [if_neg (by simp [isReady, hready, hstate, hretry]), if_pos hvalid]
  rfl

theorem slotReadDone_invalid {block : List Byte} (hready : d.boot.stage = .ready) (hstate : (slotOf d x).state = 1)
    (hretry : armed (.slotRetry x) d = false) (hvalid : identValid block = false) : slotReadDone x block d =
      if (slotOf d x).tries = 0 then arm (.slotRetry x) (10 * ms) (setSlot x (fun c => { c with tries := 1 }) d) else slotProfile x 0 3 d := by
  unfold slotReadDone
  dsimp only
  rw [if_neg (by simp [isReady, hready, hstate, hretry]), if_neg (by simp [hvalid])]

theorem slotBusClear_attempts (r : BusClear) (hready : d.boot.stage = .ready) (hon : cfgOn d (slotObj x) 0 = true)
    (hstate : (slotOf d x).state ≠ 4) : slotBusClear x r (hush d) = slotAttempt x r (expired (.busClear x) d) := by
  have hon' : cfgOn (hush d) (slotObj x) 0 = true := hon
  unfold slotBusClear
  rw [if_neg (by
    simp only [Bool.or_eq_true, Bool.and_eq_true, Bool.not_eq_true', beq_iff_eq, not_or, not_and]
    exact ⟨⟨by simp [isReady, hready], by simp [hon']⟩, fun h => absurd h hstate⟩)]
  rfl

/-- A clamped bus is tried afresh. -/
def afresh (x : Nat) (d : Dev) : Dev := setSlot x (fun c => { c with clears := 0 }) (expired (.clampRetry x) d)

theorem slotClampRetry_attempts (r : BusClear) (harmed : armed (.clampRetry x) d = true) :
    slotClampRetry x r (hush d) = slotAttempt x r (afresh x d) := onExpiry_hush_of_armed harmed

theorem slotOf_afresh (x : Nat) (d : Dev) : slotOf (afresh x d) x = { slotOf d x with clears := 0 } := slotOf_setSlot_self x _ _

theorem books_afresh (x : Nat) (d : Dev) : SameBooks (afresh x d) d :=
  (SameBooks.setSlot (f := fun c => { c with clears := 0 }) (fun _ => rfl) x _).trans
    (.of_only (S := [.now, .tm, .timer (.clampRetry x), .odBook, .out]) (by simp) rfl)

theorem only_afresh (x : Nat) (d : Dev) : Only (slotParts x) (afresh x d) d :=
  (only_setSlot _ _ (by simp [Part.covers])).mpr (only_expired_slot (by simp) d)

/-- SCL pulses are on the bus of a slot. -/
def pulsed (x : Nat) (d : Dev) : Dev := i2c x 3 d

theorem slotAttempt_cleared (hstate : (slotOf d x).state ≠ 4) :
    slotAttempt x .cleared d = setSlot x (fun c => { c with clears := 0 }) (pulsed x d) := by
  unfold slotAttempt
  dsimp only
  rw [if_neg hstate]
  rfl

/-- A bus that is clear again lets its slot be read. -/
def rereading (x : Nat) (d : Dev) : Dev :=
  disarm (.clampRetry x) (setSlot x (fun c => { c with tries := 0 }) (setSlot x (fun c => { c with clears := 0 }) (pulsed x (afresh x d))))

theorem slotAttempt_reread (hstate : (slotOf d x).state = 4) : slotAttempt x .cleared d =
    slotRead x (disarm (.clampRetry x) (setSlot x (fun c => { c with tries := 0 }) (setSlot x (fun c => { c with clears := 0 }) (pulsed x d)))) := by
  unfold slotAttempt
  dsimp only
  rw [if_pos hstate]
  rfl

theorem slotAttempt_sdaLow (x : Nat) (d : Dev) : slotAttempt x .sdaLow d =
    if (slotOf d x).clears < 2 then arm (.busClear x) (10 * ms) (setSlot x (fun c => { c with clears := c.clears + 1 }) (pulsed x d))
    else slotClamp x (pulsed x d) := rfl

theorem slotAttempt_sclLow (x : Nat) (d : Dev) : slotAttempt x .sclLow d = slotClamp x (pulsed x d) := rfl

theorem only_pulsed (x : Nat) (d : Dev) : Only [.out] (pulsed x d) d := by simp [pulsed]

theorem slotOf_pulsed (x : Nat) (d : Dev) (y : Nat) : slotOf (pulsed x d) y = slotOf d y := slotOf_i2c x 3 d y

/-- A bus that is clamped after its pulses. -/
theorem clamped_pulsed (hbooks : SameBooks u d) (hid : (slotOf u x).profileId = (slotOf d x).profileId)
    (hcount : (slotOf u x).clampCount = (slotOf d x).clampCount) :
    ((slotOf (settle (slotClamp x (pulsed x u))) x).state = 4 ∧
      (slotOf (settle (slotClamp x (pulsed x u))) x).clampCount = inc16 (slotOf d x).clampCount ∧
      runsFor (.clampRetry x) (10 * sec) (settle (slotClamp x (pulsed x u))) ∧ Told x 0 (settle (slotClamp x (pulsed x u))) d) ∧
    (Only (slotParts x) u d → Alone x (settle (slotClamp x (pulsed x u))) d) := by
  have hpulsed : SameBooks (pulsed x u) u := .of_only (only_pulsed x u) rfl
  obtain ⟨hstate, hclamps, hruns, htold⟩ := clamped_slotClamp (x := x) (hpulsed.trans hbooks) (by rwa [slotOf_pulsed]) (by rwa [slotOf_pulsed])
  refine ⟨?_, fun h => alone_settle (((only_slotClamp x _).mono (by simp [Part.covers])).trans (((only_pulsed x u).mono (by simp [Part.covers])).trans h))⟩
  rw [slotOf_settle]
  exact ⟨hstate, hclamps, runsFor_settle.mpr hruns, told_settle htold⟩

end

/-- Settles O37. -/
theorem slotIdentification : Obligations.SlotIdentification := by
  unfold Obligations.SlotIdentification
  intro s x hbank hready alone fits took kept told clamped
  refine ⟨fun harmed hon => ?_, fun harmed hon hheld => ?_, fun hstate hretry block => ?_, fun harmed => ?_, fun hon hstate => ⟨?_, ?_, ?_⟩,
    fun harmed hstate => ⟨?_, ?_, ?_⟩⟩
  · refine answers_of_effect rfl ((bank_hush hbank).trans (slotPoll_eq true hready harmed hon)) ?_
    rw [if_pos rfl]
    obtain ⟨hpolled, hrec, hout, hruns, hbooks, hbank'⟩ := polled_expired x hbank
    generalize polled x.val (expired (.slotPoll x.val) s.dev) = u at hpolled hrec hout hruns hbooks hbank'
    split
    · rename_i hnone
      obtain ⟨hstate, hfits, hnot, hread, hsent, hruns'⟩ := slotFound_finds x hbooks hbank' hrec
      refine ⟨runsFor_settle.mpr ((hruns' (.slotPoll x.val) (250 * ms)).mpr hruns), fun _ => ⟨?_, ?_, fun hf => ?_, fun hf => ?_⟩, fun hne => absurd hnone hne, alone_settle (hread.trans hpolled)⟩
      · rw [slotOf_settle, hstate]
      · rw [settle_out, hsent, hout]
        rfl
      · exact took_settle (hfits hf)
      · exact kept_settle (hnot hf)
    · rename_i hheld
      refine ⟨?_, fun hnone => absurd hnone hheld, fun _ => ⟨?_, ?_⟩, alone_settle ?_⟩
      · exact runsFor_settle.mpr hruns
      · rw [slotOf_settle, slotOf_setSlot_self, hrec]
      · rw [settle_out]
        exact hout
      · exact (only_setSlot _ _ (by simp [Part.covers])).mpr hpolled
  · refine answers_of_effect rfl ((bank_hush hbank).trans (slotPoll_eq false hready harmed hon)) ?_
    rw [if_neg (by decide), if_neg hheld]
    obtain ⟨hpolled, hrec, hout, hruns, -, -⟩ := polled_expired x hbank
    generalize polled x.val (expired (.slotPoll x.val) s.dev) = u at hpolled hrec hout hruns
    split
    · rename_i hfew
      refine ⟨runsFor_settle.mpr hruns, (settle_out _).trans hout, fun _ => ?_, fun hmany => absurd hfew (Nat.not_lt.mpr hmany),
        alone_settle ((only_setSlot _ _ (by simp [Part.covers])).mpr hpolled)⟩
      rw [slotOf_settle, slotOf_setSlot_self, hrec]
    · rename_i hmany
      have hlost : Only [.slot x.val, .timer (.slotRetry x.val), .timer (.busClear x.val), .timer (.clampRetry x.val), .shepDue, .timer .overrun]
          (lost x.val u) u := by simp [lost, Part.covers]
      have hslot : slotOf (lost x.val u) x.val = { slotOf u x.val with
          state := 0, profileId := 0, profileOn := false, nacks := 0, tries := 0, clears := 0, booked := 0, ng := NgShare.none } := by
        rw [lost, slotOf_disarm, slotOf_disarm, slotOf_disarm, slotOf_setSlot_self, slotOf_needStep]
      have hdue : (lost x.val u).shep.stepDue = true := CriticalComparator.stepDue_needStep.1
      refine ⟨runsFor_settle.mpr ((hlost.runsFor (.slotPoll x.val) rfl (hlost.now rfl)).mpr hruns),
        (settle_out _).trans ((hlost.out rfl).trans hout), fun hfew => absurd hfew hmany, fun _ => ?_,
        alone_settle ((hlost.mono (by simp [Part.covers])).trans hpolled)⟩
      rw [slotOf_settle, hslot, settle_shep]
      exact ⟨rfl, rfl, rfl, rfl, hdue⟩
  · by_cases hvalid : identValid block = true
    · refine answers_of_effect rfl ((bank_hush hbank).trans (slotReadDone_valid (d := hush s.dev) hready hstate hretry hvalid
        ((books_hush s.dev).matchProfile block (8 + x.val)))) ?_
      have hreach : Only (readParts x.val) (blockKept x.val block (hush s.dev)) (hush s.dev) := by simp [blockKept, Part.covers]
      have hslot : slotOf (blockKept x.val block (hush s.dev)) x.val = { slotOf s.dev x.val with identity := block } := slotOf_blockKept x.val block _
      have hbooks : SameBooks (blockKept x.val block (hush s.dev)) s.dev := (books_blockKept x.val block (hush s.dev)).trans (books_hush s.dev)
      generalize blockKept x.val block (hush s.dev) = u at hreach hslot hbooks
      obtain ⟨halone, haon⟩ := read_settles (d := s.dev)
        (((only_slotProfile x.val (matchProfile s.dev block (8 + x.val)) 2 u).mono (by simp [Part.covers])).trans hreach)
      obtain ⟨hdone, htold⟩ := told_slotProfile (x := x.val) (p := matchProfile s.dev block (8 + x.val)) (state := 2) hbooks (by rw [hslot])
      have hident := identity_slotProfile x.val (matchProfile s.dev block (8 + x.val)) 2 u
      generalize slotProfile x.val (matchProfile s.dev block (8 + x.val)) 2 u = v at halone haon hdone htold hident
      refine ⟨fun _ => ⟨?_, ?_, told_settle htold⟩, fun hno => absurd hno (by simp [hvalid]), fun hno => absurd hno (by simp [hvalid]), halone, haon⟩
      · rw [slotOf_settle]
        exact hdone
      · rw [slotOf_settle, hident, hslot]
    · have hbad : identValid block = false := by simpa using hvalid
      refine answers_of_effect rfl ((bank_hush hbank).trans (slotReadDone_invalid (d := hush s.dev) hready hstate hretry hbad)) ?_
      split
      · rename_i hfirst
        obtain ⟨halone, haon⟩ := read_settles (x := x.val) (d := s.dev)
          (u := arm (.slotRetry x.val) (10 * ms) (setSlot x.val (fun c => { c with tries := 1 }) (hush s.dev))) (by simp [Part.covers])
        refine ⟨fun hyes => absurd hyes hvalid, fun _ _ => ⟨?_, runsFor_settle.mpr runsFor_arm_self⟩, fun _ hagain => absurd hfirst hagain, halone, haon⟩
        rw [slotOf_settle, slotOf_arm, slotOf_setSlot_self]
        rfl
      · rename_i hagain
        obtain ⟨halone, haon⟩ := read_settles (x := x.val) (d := s.dev) ((only_slotProfile x.val 0 3 (hush s.dev)).mono (by simp [Part.covers]))
        obtain ⟨hdone, htold⟩ := told_slotProfile (x := x.val) (p := 0) (state := 3) (books_hush s.dev) rfl
        refine ⟨fun hyes => absurd hyes hvalid, fun _ hfirst => absurd hfirst hagain, fun _ _ => ⟨?_, told_settle htold⟩, halone, haon⟩
        rw [slotOf_settle]
        exact hdone
  · refine answers_of_effect rfl ((bank_hush hbank).trans (onExpiry_hush_of_armed harmed)) ?_
    refine ⟨?_, (settle_out _).trans (out_slotRead x hbank), alone_settle (((only_slotRead x.val _).mono (by simp [Part.covers])).trans (only_expired_slot (by simp) s.dev))⟩
    rw [slotOf_settle, slotOf_slotRead]
    rfl
  · refine answers_of_effect rfl ((bank_hush hbank).trans ((slotBusClear_attempts .cleared hready hon hstate).trans
      (slotAttempt_cleared (d := expired (.busClear x.val) s.dev) hstate))) ?_
    have hset : Only [.slot x.val, .out] (setSlot x.val (fun c => { c with clears := 0 }) (pulsed x.val (expired (.busClear x.val) s.dev)))
      (expired (.busClear x.val) s.dev) := by simp [pulsed]
    refine ⟨?_, ?_, alone_settle ((hset.mono (by simp [Part.covers])).trans (only_expired_slot (by simp) s.dev))⟩
    · rw [slotOf_settle, slotOf_setSlot_self, slotOf_pulsed]
      rfl
    · rw [settle_out]
      exact out_i2c x 3 hbank
  · refine answers_of_effect rfl ((bank_hush hbank).trans ((slotBusClear_attempts .sdaLow hready hon hstate).trans (slotAttempt_sdaLow _ _))) ?_
    have hfront : Only (slotParts x.val) (expired (.busClear x.val) s.dev) s.dev := only_expired_slot (by simp) s.dev
    have hbooks : SameBooks (expired (.busClear x.val) s.dev) s.dev :=
      .of_only (S := [.now, .tm, .timer (.busClear x.val), .odBook, .out]) (by simp) rfl
    obtain ⟨hclamped, halone⟩ := clamped_pulsed (x := x.val) hbooks rfl rfl
    split
    · rename_i hfew
      refine ⟨fun _ => ⟨?_, runsFor_settle.mpr runsFor_arm_self, ?_⟩, fun hmany => absurd hfew (Nat.not_lt.mpr hmany), alone_settle ?_⟩
      · rw [slotOf_settle, slotOf_arm, slotOf_setSlot_self, slotOf_pulsed]
        rfl
      · rw [settle_out]
        exact out_i2c x 3 hbank
      · rw [only_arm _ _ (by simp [Part.covers]), only_setSlot _ _ (by simp [Part.covers])]
        exact ((only_pulsed x.val _).mono (by simp [Part.covers])).trans hfront
    · rename_i hmany
      exact ⟨fun hfew => absurd hfew hmany, fun _ => hclamped, halone hfront⟩
  · refine answers_of_effect rfl ((bank_hush hbank).trans ((slotBusClear_attempts .sclLow hready hon hstate).trans (slotAttempt_sclLow _ _))) ?_
    have hbooks : SameBooks (expired (.busClear x.val) s.dev) s.dev :=
      .of_only (S := [.now, .tm, .timer (.busClear x.val), .odBook, .out]) (by simp) rfl
    obtain ⟨hclamped, halone⟩ := clamped_pulsed (x := x.val) hbooks rfl rfl
    exact ⟨hclamped, halone (only_expired_slot (by simp) s.dev)⟩
  · refine answers_of_effect rfl ((bank_hush hbank).trans ((slotClampRetry_attempts .cleared harmed).trans
      (slotAttempt_reread (by rw [slotOf_afresh]; exact hstate)))) ?_
    have hback : Only [.slot x.val, .timer (.clampRetry x.val)] (rereading x.val s.dev) (pulsed x.val (afresh x.val s.dev)) := by
      simp [rereading, Part.covers]
    have hpulsed : Only (slotParts x.val) (pulsed x.val (afresh x.val s.dev)) s.dev :=
      ((only_pulsed x.val _).mono (by simp [Part.covers])).trans (only_afresh x.val s.dev)
    have hread := only_slotRead x.val (rereading x.val s.dev)
    rw [show disarm (.clampRetry x.val) _ = rereading x.val s.dev from rfl]
    refine ⟨?_, ?_, ?_, alone_settle ((hread.mono (by simp [Part.covers])).trans ((hback.mono (by simp [Part.covers])).trans hpulsed))⟩
    · rw [slotOf_settle, slotOf_slotRead]
    · rw [settle_out, out_slotRead x ((congrArg Aon.bankS ((hback.aon rfl).trans (hpulsed.aon rfl))).trans hbank), hback.out rfl, pulsed,
        out_i2c (d := afresh x.val s.dev) x 3 hbank]
      rfl
    · rw [armed_settle, hread.armed (.clampRetry x.val) rfl]
      exact armed_disarm_self _ _
  · refine answers_of_effect rfl ((bank_hush hbank).trans ((slotClampRetry_attempts .sdaLow harmed).trans (slotAttempt_sdaLow _ _))) ?_
    rw [if_pos (by rw [slotOf_afresh]; exact Nat.zero_lt_two)]
    refine ⟨?_, runsFor_settle.mpr runsFor_arm_self, alone_settle ?_⟩
    · rw [slotOf_settle, slotOf_arm, slotOf_setSlot_self, slotOf_pulsed, slotOf_afresh]
    · rw [only_arm _ _ (by simp [Part.covers]), only_setSlot _ _ (by simp [Part.covers])]
      exact ((only_pulsed x.val _).mono (by simp [Part.covers])).trans (only_afresh x.val s.dev)
  · refine answers_of_effect rfl ((bank_hush hbank).trans ((slotClampRetry_attempts .sclLow harmed).trans (slotAttempt_sclLow _ _))) ?_
    obtain ⟨hclamped, halone⟩ := clamped_pulsed (x := x.val) (books_afresh x.val s.dev) (by rw [slotOf_afresh]) (by rw [slotOf_afresh])
    exact ⟨hclamped, halone (only_afresh x.val s.dev)⟩

end Sys2Proof.Proofs.SlotIdentification


/-! SUPPORT. The sink's side of the PD engine (chapter 7, R237 to R249, R551): what choosing, asking and Fast Role Swap readiness reach, and
what of the port they leave alone. -/

namespace Sys2Proof.Proofs.SinkSide

open Sys2Proof Sys2Proof.Machine Sys2Proof.Safety
open Sys2Proof.Proofs.StepAndTimers
open Sys2Proof.Proofs.ShapersAndTally
open Sys2Proof.Proofs.Frames
open Sys2Proof.Proofs.Running
open Sys2Proof.Proofs.Shepherd
open Sys2Proof.Proofs.PdMessages
open Sys2Proof.Proofs.PortEvents

section
variable {S : List Part} {t u d e : Dev} {n m : Nat}

/-! ### Frames -/

@[simp] theorem only_sendRequest (n : Nat) (g : Nego) (hS : Within (Frames.sendParts n) S = true) :
    Only S (sendRequest n g d) e ↔ Only S d e := Only.iff (T := Frames.sendParts n) (by simp [sendRequest]) hS

@[simp] theorem only_eprExit (n : Nat) (hS : Within (Frames.sendParts n) S = true) : Only S (eprExit n d) e ↔ Only S d e :=
  Only.iff (T := Frames.sendParts n) (by simp [eprExit]) hS

@[simp] theorem only_sinkRequest (n : Nat) (hS : Within (Frames.sendParts n) S = true) : Only S (sinkRequest n d) e ↔ Only S d e := by
  refine Only.iff (T := Frames.sendParts n) ?_ hS
  unfold sinkRequest
  dsimp only
  split
  · simp
  · split <;> simp

@[simp] theorem only_sinkReview (n : Nat) (hS : Within (Frames.sendParts n) S = true) : Only S (sinkReview n d) e ↔ Only S d e :=
  Only.iff (T := Frames.sendParts n) (by simp [sinkReview, followSinkCeil]) hS

@[simp] theorem only_frsUpdate (n : Nat) (hS : Within [.cable n] S = true) : Only S (frsUpdate n d) e ↔ Only S d e :=
  Only.iff (T := [.cable n]) (by simp [frsUpdate]) hS

/-! ### A sink asks -/

/-- A port beside its messages, its offer, and what a sink asks for. -/
def unasked (c : Cable) : Cable := { unoffered c with nego := none, epr := .off, frs := .off, vctl := 0, ilim := 0 }

theorem unasked_of_unoffered {x y : Cable} (h : unoffered x = unoffered y) : unasked x = unasked y := by
  unfold unasked
  rw [h]

theorem unasked_pdSend (n : Nat) (x : PdMsg) (d : Dev) : unasked (cable (pdSend n x d) n) = unasked (cable d n) :=
  unasked_of_unoffered (unoffered_of_unsaid (unsaid_pdSend n x d n))

theorem unasked_sendRequest (n : Nat) (g : Nego) (d : Dev) : unasked (cable (sendRequest n g d) n) = unasked (cable d n) := by
  unfold sendRequest
  dsimp only
  rw [unasked_pdSend, cable_disarm, cable_setCable_self]
  rfl

theorem unasked_eprExit (n : Nat) (d : Dev) : unasked (cable (eprExit n d) n) = unasked (cable d n) := by
  unfold eprExit
  dsimp only
  rw [cable_disarm, cable_disarm, unasked_pdSend, cable_setCable_self]
  rfl

theorem unasked_sinkRequest (n : Nat) (d : Dev) : unasked (cable (sinkRequest n d) n) = unasked (cable d n) := by
  unfold sinkRequest
  dsimp only
  split
  · exact unasked_eprExit n d
  · split
    · exact unasked_sendRequest n _ d
    · rfl

theorem unasked_sinkReview (n : Nat) (d : Dev) : unasked (cable (sinkReview n d) n) = unasked (cable d n) := by
  unfold sinkReview followSinkCeil
  dsimp only
  split
  · rfl
  split
  · exact unasked_sinkRequest n d
  split
  · rfl
  split
  · exact unasked_sendRequest n _ d
  · rfl

theorem unasked_frsUpdate (n : Nat) (d : Dev) : unasked (cable (frsUpdate n d) n) = unasked (cable d n) := by
  unfold frsUpdate
  dsimp only
  split
  · rfl
  split
  · rw [cable_setCable_self]
    rfl
  split
  · rw [cable_setCable_self]
    rfl
  · rfl

end

end Sys2Proof.Proofs.SinkSide


/-! SUPPORT. The connector guard and VCONN (chapter 6, R197 to R203, R218). -/

namespace Sys2Proof.Proofs.ConnectorGuard

open Sys2Proof Sys2Proof.Machine Sys2Proof.Safety
open Sys2Proof.Proofs.StepAndTimers
open Sys2Proof.Proofs.ShapersAndTally
open Sys2Proof.Proofs.Frames
open Sys2Proof.Proofs.Running
open Sys2Proof.Proofs.Shepherd
open Sys2Proof.Proofs.CriticalComparator
open Sys2Proof.Proofs.PdMessages
open Sys2Proof.Proofs.PortEvents
open Sys2Proof.Proofs.SinkSide

section
variable {S : List Part} {t u d e : Dev} {n m : Nat} {k : PinKohm}

/-! ### A check starts -/

/-- A port on which a check has started. -/
def checking (c : Cable) : Cable :=
  { c with guardRuns := true, guardReverse := !c.guardReverse, guardAfterAttach := hasPartner c && !c.gateOn }

/-- The device on which it has. -/
def checkStarted (n : Nat) (d : Dev) : Dev :=
  arm (.guardEnd n) (20 * ms) (arm (.guard n) (guardPeriod (setCable n checking d) n) (setCable n checking d))

theorem guardCheck_starts (hruns : portRuns d n = true) (hidle : (cable d n).guardRuns = false) (harmed : armed (.guard n) d = true) :
    guardCheck n (hush d) = checkStarted n (expired (.guard n) d) := by
  have hruns' : portRuns (hush d) n = true := hruns
  unfold guardCheck
  rw [if_neg (by rw [hruns', cable_hush, hidle]; decide)]
  exact onExpiry_hush_of_armed harmed

theorem guardPeriod_checking (n : Nat) (d : Dev) : guardPeriod (setCable n checking d) n = guardPeriod d n := by
  unfold guardPeriod
  rw [cable_setCable_self]
  rfl

theorem only_checkStarted (n : Nat) (d : Dev) : Only (portParts n) (checkStarted n d) d := by simp [checkStarted]

/-! ### A check ends -/

/-- The lowest reading of a check. -/
def lowest (c : Cable) (k : PinKohm) : Nat := (guardReads c k).foldl min 0xFFFFFFFF

/-- A port after a reading of `r` kΩ. -/
def read (w r : Nat) (c : Cable) : Cable :=
  { guardNext w r c with guardRuns := false, guardFresh := (guardNext w r c).guard != .wet && c.guardAfterAttach && !c.gateOn }

/-- The device once the guard's state has taken the reading. -/
def graded (n : Nat) (k : PinKohm) (d : Dev) : Dev :=
  setCable n (fun c => { guardNext (cfg d 0x2300 0) (lowest (cable d n) k) c with guardRuns := false }) d

/-- The device after it. -/
def readDone (n : Nat) (k : PinKohm) (d : Dev) : Dev :=
  setCable n (fun x => { x with guardFresh :=
    (cable (graded n k d) n).guard != .wet && (cable d n).guardAfterAttach && !(cable (graded n k d) n).gateOn }) (graded n k d)

theorem readDone_keeps (n : Nat) (k : PinKohm) (d : Dev) : (cable (readDone n k d) n).guard = (cable (graded n k d) n).guard ∧
    (cable (readDone n k d) n).vbusWait = (cable (graded n k d) n).vbusWait := by
  rw [readDone, cable_setCable_self]
  exact ⟨rfl, rfl⟩

theorem cable_readDone (n : Nat) (k : PinKohm) (d : Dev) :
    cable (readDone n k d) n = read (cfg d 0x2300 0) (lowest (cable d n) k) (cable d n) := by
  rw [readDone, cable_setCable_self, graded, cable_setCable_self]
  rfl

theorem only_readDone (n : Nat) (k : PinKohm) (d : Dev) : Only [.cable n] (readDone n k d) d := by simp [readDone, graded]

/-- What a result brings about, on a port that was `c` before the check. -/
def acts (n : Nat) (c : Cable) (d : Dev) : Dev :=
  if (cable d n).guard = .wet ∧ c.guard ≠ .wet then becameWet n d
  else if (cable d n).guard ≠ .wet ∧ (cable d n).vbusWait = true ∧ c.guardAfterAttach = true then applyVbus n d
  else if (cable d n).guard ≠ .wet ∧ c.guard = .wet then frsUpdate n d
  else d

theorem guardCheckDone_eq (harmed : armed (.guardEnd n) d = true) (hruns : (cable d n).guardRuns = true) :
    guardCheckDone n k (hush d) = acts n (cable d n) (readDone n k (expired (.guardEnd n) d)) := by
  unfold guardCheckDone
  rw [onExpiry_hush_of_armed harmed]
  dsimp only
  rw [cable_expired, if_neg (by simp [hruns])]
  obtain ⟨hguard, hwait⟩ := readDone_keeps n k (expired (.guardEnd n) d)
  rw [acts, hguard, hwait]
  rfl

theorem guard_read (w r : Nat) (c : Cable) : (read w r c).guard =
    if (wetNext w r (c.guard == .wet) c.dryCount).1 then .wet else if r ≤ 2000 then .damp else .dry := rfl

theorem dryCount_read (w r : Nat) (c : Cable) : (read w r c).dryCount = (wetNext w r (c.guard == .wet) c.dryCount).2 := rfl

theorem wetNext_low {w r : Nat} (h : r < w) (wet : Bool) (dry : Nat) : wetNext w r wet dry = (true, 0) := if_pos h

theorem wetNext_damp {w r : Nat} (h : w ≤ r) (hlow : r ≤ 2000) (wet : Bool) (dry : Nat) : wetNext w r wet dry = (wet, 0) := by
  rw [wetNext, if_neg (Nat.not_lt.mpr h), if_pos (by simp [hlow])]

theorem wetNext_of_dry {w r : Nat} (h : w ≤ r) (dry : Nat) : wetNext w r false dry = (false, 0) := by
  rw [wetNext, if_neg (Nat.not_lt.mpr h), if_pos (by simp)]

theorem wetNext_counts {w r dry : Nat} (h : w ≤ r) (hhigh : 2000 < r) (hfew : dry < 2) : wetNext w r true dry = (true, dry + 1) := by
  rw [wetNext, if_neg (Nat.not_lt.mpr h), if_neg (by simp [hhigh]), if_pos hfew]

theorem wetNext_dries {w r dry : Nat} (h : w ≤ r) (hhigh : 2000 < r) (hmany : 2 ≤ dry) : wetNext w r true dry = (false, 0) := by
  rw [wetNext, if_neg (Nat.not_lt.mpr h), if_neg (by simp [hhigh]), if_neg (Nat.not_lt.mpr hmany)]

/-- What a reading makes of the guard's state. -/
theorem read_states (w r : Nat) (c : Cable) :
    (r < w → (read w r c).guard = .wet ∧ (read w r c).dryCount = 0) ∧
    (w ≤ r → c.guard = .wet →
      (r ≤ 2000 → (read w r c).guard = .wet ∧ (read w r c).dryCount = 0) ∧
      (2000 < r → c.dryCount < 2 → (read w r c).guard = .wet ∧ (read w r c).dryCount = c.dryCount + 1) ∧
      (2000 < r → 2 ≤ c.dryCount → (read w r c).guard = .dry)) ∧
    (w ≤ r → c.guard ≠ .wet → (read w r c).guard = if r ≤ 2000 then .damp else .dry) := by
  rw [guard_read, dryCount_read]
  refine ⟨fun h => ?_, fun h hwet => ?_, fun h hdry => ?_⟩
  · rw [wetNext_low h]
    exact ⟨rfl, rfl⟩
  · have hbit : (c.guard == .wet) = true := by simp [hwet]
    rw [hbit]
    refine ⟨fun hlow => ?_, fun hhigh hfew => ?_, fun hhigh hmany => ?_⟩
    · rw [wetNext_damp h hlow]
      exact ⟨rfl, rfl⟩
    · rw [wetNext_counts h hhigh hfew]
      exact ⟨rfl, rfl⟩
    · rw [wetNext_dries h hhigh hmany]
      exact if_neg (Nat.not_le.mpr hhigh)
  · have hbit : (c.guard == .wet) = false := by simp [hdry]
    rw [hbit, wetNext_of_dry h]
    rfl

/-! ### What the result's consequences leave -/

/-- The guard's record of a port. -/
def record (c : Cable) : Bool × Nat × Wetness × Nat := (c.guardRuns, c.guardLast, c.guard, c.dryCount)

theorem record_of_unasked {x y : Cable} (h : unasked x = unasked y) : record x = record y := (congrArg record h :)

theorem record_applyVbus (n : Nat) (d : Dev) : record (cable (applyVbus n d) n) = record (cable d n) := by
  unfold applyVbus
  dsimp only
  split
  · rfl
  split
  · split
    · rw [cable_needStep, cable_setCable_self]
      rfl
    · rw [cable_setCable_self]
      rfl
  split
  · rw [cable_rampUp]
    rfl
  split
  · rw [cable_rampUp, cable_setCable_self]
    rfl
  · rw [cable_setCable_self]
    rfl

/-- A port that has become WET keeps all but its VCONN and what it asks for. -/
theorem unasked_becameWet (n : Nat) (d : Dev) : unasked (cable (becameWet n d) n) =
    if (cable d n).powerRole = .source ∧ sourcing (cable d n) then unasked (cable d n)
    else unasked { cable d n with vconn := if (cable d n).vconn = 1 then 0 else (cable d n).vconn } := by
  unfold becameWet
  dsimp only
  rw [cable_arm]
  split
  · rw [cable_needStep, cable_arm]
  · rw [unasked_frsUpdate, unasked_sinkReview]
    split
    · rw [unasked_eprExit, vconnOff, cable_setCable_self, cable_arm]
    · rw [vconnOff, cable_setCable_self, cable_arm]

theorem only_becameWet (n : Nat) (d : Dev) : Only (.shepDue :: .timer .overrun :: Frames.sendParts n) (becameWet n d) d := by
  unfold becameWet
  dsimp only
  split
  · simp
  · rw [only_frsUpdate _ (by simp), only_sinkReview _ (by simp), only_ite]
    simp

theorem only_acts (n : Nat) (c : Cable) (d : Dev) : Only (.timer .droopMax :: .shepDue :: .timer .overrun :: Frames.sendParts n) (acts n c d) d := by
  unfold acts
  split
  · exact (only_becameWet n d).mono (by simp)
  split
  · simp
  split
  · simp
  · exact .refl _ d

theorem record_acts (n : Nat) (c : Cable) (d : Dev) : record (cable (acts n c d) n) = record (cable d n) := by
  unfold acts
  split
  · have h := unasked_becameWet n d
    split at h
    · exact record_of_unasked h
    · exact (record_of_unasked h).trans rfl
  split
  · exact record_applyVbus n d
  split
  · exact record_of_unasked (unasked_frsUpdate n d)
  · rfl

theorem gateOn_of_unasked {x y : Cable} (h : unasked x = unasked y) : x.gateOn = y.gateOn := (congrArg Cable.gateOn h :)
theorem guardFresh_of_unasked {x y : Cable} (h : unasked x = unasked y) : x.guardFresh = y.guardFresh := (congrArg Cable.guardFresh h :)
theorem vconn_of_unasked {x y : Cable} (h : unasked x = unasked y) : x.vconn = y.vconn := (congrArg Cable.vconn h :)

theorem becameWet_keeps (n : Nat) (d : Dev) : (cable (becameWet n d) n).gateOn = (cable d n).gateOn ∧
    (cable (becameWet n d) n).guardFresh = (cable d n).guardFresh ∧
    (¬ ((cable d n).powerRole = .source ∧ sourcing (cable d n) = true) → (cable (becameWet n d) n).vconn ≠ 1) := by
  have h := unasked_becameWet n d
  split at h
  · rename_i hsrc
    exact ⟨gateOn_of_unasked h, guardFresh_of_unasked h, fun hno => absurd hsrc hno⟩
  · refine ⟨(gateOn_of_unasked h).trans rfl, (guardFresh_of_unasked h).trans rfl, fun _ => ?_⟩
    rw [vconn_of_unasked h]
    dsimp only
    split
    · decide
    · assumption

theorem stepDue_becameWet (hrole : (cable d n).powerRole = .source) (hsrc : sourcing (cable d n) = true) : (becameWet n d).shep.stepDue = true := by
  unfold becameWet
  dsimp only
  rw [cable_arm, if_pos ⟨hrole, hsrc⟩]
  exact stepDue_needStep.1

/-- A result that is WET supplies nothing. -/
theorem acts_wet {c : Cable} (hwet : (cable d n).guard = .wet) : acts n c d = if c.guard ≠ .wet then becameWet n d else d := by
  unfold acts
  by_cases hc : c.guard = .wet
  · rw [if_neg (fun h => h.2 hc), if_neg (fun h => h.1 hwet), if_neg (fun h => h.1 hwet), if_neg (fun h => h hc)]
  · rw [if_pos ⟨hwet, hc⟩, if_pos hc]

/-- A check that did not begin with the gates off leaves them. -/
theorem gateOn_acts {c : Cable} (hafter : c.guardAfterAttach = false) : (cable (acts n c d) n).gateOn = (cable d n).gateOn := by
  unfold acts
  split
  · exact (becameWet_keeps n d).1
  split
  · rename_i h
    exact absurd h.2.2 (by simp [hafter])
  split
  · exact gateOn_of_unasked (unasked_frsUpdate n d)
  · rfl

/-- VBUS waited for a check that ends without WET. -/
theorem acts_supplies {c : Cable} (hdry : (cable d n).guard ≠ .wet) (hwait : (cable d n).vbusWait = true) (hafter : c.guardAfterAttach = true) :
    acts n c d = applyVbus n d := by
  unfold acts
  rw [if_neg (fun h => hdry h.1), if_pos ⟨hdry, hwait, hafter⟩]

theorem firstNeed_read (w r : Nat) (c : Cable) (d : Dev) (hafter : (read w r c).guard ≠ .wet) (hbefore : c.guard ≠ .wet) :
    firstNeed d (read w r c) = firstNeed d c := by
  have hwants : wantsVconn d (read w r c) = wantsVconn d c := by
    unfold wantsVconn
    rw [show ((read w r c).guard != .wet) = true by simpa using hafter, show (c.guard != .wet) = true by simpa using hbefore]
    rfl
  unfold firstNeed
  rw [hwants]

/-- A reading moves nothing in the ledger. -/
theorem ledgerFree_readDone (n : Nat) (k : PinKohm) (d : Dev) : ledgerFree (readDone n k d) = ledgerFree d := by
  have hread := cable_readDone n k d
  have honly := only_readDone n k d
  have hport (m : Nat) : portOut (cable (readDone n k d) m) = portOut (cable d m) ∧ portIn (cable (readDone n k d) m) = portIn (cable d m) := by
    by_cases hm : m = n
    · subst hm
      rw [hread]
      exact ⟨rfl, rfl⟩
    · rw [honly.cable m (by simp [Part.seenIn, Ne.symm hm])]
      exact ⟨rfl, rfl⟩
  exact (ledgerFree_of_entries (honly.cfg rfl) (honly.slots rfl) (fun m => (hport m).1) (fun m => (hport m).2)).1

theorem applyVbus_refuses (hlatched : (cable d n).path ≠ .latched) (hwet : (cable d n).guard ≠ .wet)
    (hfresh : (cable d n).guardFresh = true) (hshort : armed (.shortRetry n) d = false) (hinrush : armed (.inrushRetry n) d = false)
    (hcrit : d.shep.critical = false) (hbooked : (cable d n).booked = 0) (hfree : ledgerFree d < (firstNeed d (cable d n) : Int)) :
    applyVbus n d = setCable n (fun c => { c with firstRefused := true, vbusWait := false }) d := by
  unfold applyVbus
  simp [hlatched, hwet, hfresh, hshort, hinrush, hcrit, hbooked, not_le.mpr hfree]

end

/-- Settles O35. -/
theorem connectorGuard : Obligations.ConnectorGuard := by
  unfold Obligations.ConnectorGuard
  refine ⟨fun s n hruns hidle harmed => ?_, fun s n k harmed hruns => ?_, fun s n k harmed => ?_, fun s n hon => ?_⟩
  · refine answers_of_effect rfl (guardCheck_starts hruns hidle harmed) ?_
    have hall := only_settled_expired (d := s.dev) (only_checkStarted n.val (expired (.guard n.val) s.dev))
    refine ⟨?_, runsFor_settle.mpr runsFor_arm_self, ?_, hall.otherCables n.val (fun m hm => by simp [Part.seenIn, hm.symm]), hall.besidePort rfl,
      hall.sameSwitch rfl, hall.aon rfl, hall.boot rfl⟩
    · rw [cable_settle, checkStarted, cable_arm, cable_arm, cable_setCable_self]
      rfl
    · rw [runsFor_settle, checkStarted, runsFor_arm_other (by simp), guardPeriod_checking]
      exact runsFor_arm_self
  · refine answers_of_effect rfl (guardCheckDone_eq harmed hruns) ?_
    have hback : Only [.now, .tm, .timer (.guardEnd n.val), .odBook, .out] (expired (.guardEnd n.val) s.dev) s.dev := by simp
    have hread := cable_readDone n.val k (expired (.guardEnd n.val) s.dev)
    rw [hback.cfg rfl, cable_expired] at hread
    have hreach := only_readDone n.val k (expired (.guardEnd n.val) s.dev)
    generalize readDone n.val k (expired (.guardEnd n.val) s.dev) = u at hread hreach
    have hall := only_settled_expired (d := s.dev) ((only_acts n.val (cable s.dev n.val) u).trans (hreach.mono (by simp)))
    have hrecord := record_acts n.val (cable s.dev n.val) u
    intro r
    obtain ⟨hlow, hwet, hdry⟩ := read_states (cfg s.dev 0x2300 0) r (cable s.dev n.val)
    have hstate : (cable (acts n.val (cable s.dev n.val) u) n.val).guard = (read (cfg s.dev 0x2300 0) r (cable s.dev n.val)).guard ∧
        (cable (acts n.val (cable s.dev n.val) u) n.val).dryCount = (read (cfg s.dev 0x2300 0) r (cable s.dev n.val)).dryCount ∧
        (cable (acts n.val (cable s.dev n.val) u) n.val).guardRuns = false ∧
        (cable (acts n.val (cable s.dev n.val) u) n.val).guardLast = (if 2200 < r then 0xFFFFFFFF else r) := by
      rw [hread] at hrecord
      simp only [record, Prod.mk.injEq] at hrecord
      obtain ⟨hruns, hlast, hguard, hcount⟩ := hrecord
      exact ⟨hguard, hcount, hruns, hlast⟩
    obtain ⟨hguard, hcount, hruns', hlast⟩ := hstate
    have hwetNow (h : r < cfg s.dev 0x2300 0) : (cable u n.val).guard = .wet := by
      rw [hread]
      exact (hlow h).1
    have hgate : (cable u n.val).gateOn = (cable s.dev n.val).gateOn := by rw [hread]; rfl
    have hrole : (cable u n.val).powerRole = (cable s.dev n.val).powerRole := by rw [hread]; rfl
    have hsrc : sourcing (cable u n.val) = sourcing (cable s.dev n.val) := by rw [hread]; rfl
    have hfresh (h : r < cfg s.dev 0x2300 0) : (cable u n.val).guardFresh = false := by
      have : (cable u n.val).guardFresh = ((cable u n.val).guard != .wet && (cable s.dev n.val).guardAfterAttach && !(cable s.dev n.val).gateOn) := by
        rw [hread]
        rfl
      rw [this, hwetNow h]
      rfl
    rw [cable_settle, hguard, hcount, hruns', hlast, settle_shep]
    refine ⟨rfl, rfl, hlow, hwet, hdry, fun hafter => (gateOn_acts hafter).trans hgate, fun h => ?_, fun h hnew hr hs => ?_, fun h hnew hs => ?_,
      hall.otherCables n.val (fun m hm => by simp [Part.seenIn, hm.symm]), hall.besidePort rfl, hall.sameSwitch rfl⟩
    · rw [acts_wet (hwetNow h)]
      split
      · obtain ⟨kgate, kfresh, -⟩ := becameWet_keeps n.val u
        exact ⟨kfresh.trans (hfresh h), kgate.trans hgate⟩
      · exact ⟨hfresh h, hgate⟩
    · rw [acts_wet (hwetNow h), if_pos hnew]
      exact stepDue_becameWet (hrole.trans hr) (hsrc.trans hs)
    · rw [acts_wet (hwetNow h), if_pos hnew]
      exact (becameWet_keeps n.val u).2.2 (by rw [hsrc, hs]; simp)
  · intro c r hruns hdry hhigh hafter hwait hoff hlatched hshort hinrush hcrit hbooked
    refine answers_of_effect rfl (guardCheckDone_eq harmed hruns) ?_
    have hback : Only [.now, .tm, .timer (.guardEnd n.val), .odBook, .out] (expired (.guardEnd n.val) s.dev) s.dev := by simp
    have hread := cable_readDone n.val k (expired (.guardEnd n.val) s.dev)
    rw [hback.cfg rfl, cable_expired] at hread
    have hreach := only_readDone n.val k (expired (.guardEnd n.val) s.dev)
    have hreach' : Only [.cable n.val, .now, .tm, .timer (.guardEnd n.val), .odBook, .out] (readDone n.val k (expired (.guardEnd n.val) s.dev)) s.dev :=
      (hreach.mono (by simp)).trans (hback.mono (by simp [Part.covers]))
    have hfree : ledgerFree (readDone n.val k (expired (.guardEnd n.val) s.dev)) = ledgerFree s.dev :=
      (ledgerFree_readDone n.val k _).trans (ledgerFree_congr (hback.cfg rfl) (hback.slots rfl) fun _ => rfl)
    generalize readDone n.val k (expired (.guardEnd n.val) s.dev) = u at hread hreach hreach' hfree
    have hall := only_settled_expired (d := s.dev) ((only_acts n.val c u).trans (hreach.mono (by simp)))
    obtain ⟨-, -, hstays⟩ := read_states (cfg s.dev 0x2300 0) r c
    have hdry' : (read (cfg s.dev 0x2300 0) r c).guard ≠ .wet := by
      rw [hstays hhigh hdry]
      split <;> decide
    change cable u n.val = read (cfg s.dev 0x2300 0) r c at hread
    have hneed : firstNeed u (cable u n.val) = firstNeed s.dev c := by
      rw [hread, firstNeed_congr (hreach'.cfg rfl) (hreach'.aon rfl) (hreach'.shep rfl), firstNeed_read _ _ _ _ hdry' hdry]
    have hfresh : (read (cfg s.dev 0x2300 0) r c).guardFresh = true := by
      rw [show (read (cfg s.dev 0x2300 0) r c).guardFresh = ((read (cfg s.dev 0x2300 0) r c).guard != .wet && c.guardAfterAttach && !c.gateOn) from rfl,
        hafter, hoff]
      simpa using hdry'
    have hsupply : acts n.val c u = applyVbus n.val u := acts_supplies (by rwa [hread]) (by rw [hread]; exact hwait) hafter
    have hshort' := (hreach'.armed (.shortRetry n.val) (by simp [Part.seenIn])).trans hshort
    have hinrush' := (hreach'.armed (.inrushRetry n.val) (by simp [Part.seenIn])).trans hinrush
    have hshep := hreach'.shep rfl
    have hcrit' : u.shep.critical = false := by rwa [hshep]
    have hpre : preId u = cfg s.dev 0x2300 3 := hreach'.cfg rfl _ _
    refine ⟨fun hfits => ?_, fun hshy => ?_, hall.otherCables n.val (fun m hm => by simp [Part.seenIn, hm.symm]), hall.besidePort rfl, hall.sameSwitch rfl⟩
    · rw [cable_settle, hsupply, applyVbus_admits (by rw [hread]; exact hlatched) (by rwa [hread]) (by rw [hread]; exact hfresh) hshort' hinrush' hcrit'
        (by rw [hread]; exact hbooked) (by rw [hneed, hfree]; exact hfits)]
      obtain ⟨hgate, hbook, -⟩ := cable_rampUp_allowed n.val u
      refine ⟨hgate, hbook.trans hpre, ?_, ?_⟩
      · rw [cable_rampUp]
      · rw [cable_rampUp, show (allowed n.val u).shep = u.shep from (show Only [.cable n.val] (allowed n.val u) u by simp [allowed]).shep rfl, hshep]
    · rw [cable_settle, hsupply, applyVbus_refuses (by rw [hread]; exact hlatched) (by rwa [hread]) (by rw [hread]; exact hfresh) hshort' hinrush' hcrit'
        (by rw [hread]; exact hbooked) (by rw [hneed, hfree]; exact hshy), cable_setCable_self, hread]
      exact ⟨hoff, hbooked, rfl⟩
  · have hfault : vconnFault n.val (hush s.dev) = recomputeOffer n.val (setCable n.val (fun c => { c with vconn := 2, cableBits := 0 }) (hush s.dev)) :=
      if_neg (by simpa using hon)
    refine answers_of_effect rfl hfault ?_
    have hcable := (unoffered_recomputeOffer n.val (setCable n.val (fun c => { c with vconn := 2, cableBits := 0 }) (hush s.dev)) n.val).trans
      (congrArg unoffered (cable_setCable_self _ _ _))
    have hall := only_settled (d := s.dev) (S := offerParts n.val)
      (u := recomputeOffer n.val (setCable n.val (fun c => { c with vconn := 2, cableBits := 0 }) (hush s.dev))) (by simp)
    generalize recomputeOffer n.val (setCable n.val (fun c => { c with vconn := 2, cableBits := 0 }) (hush s.dev)) = u at hcable hall
    rw [cable_hush] at hcable
    show _ ∧ _
    rw [cable_settle]
    exact ⟨(congrArg Cable.vconn hcable :), (congrArg Cable.cableBits hcable :), (congrArg Cable.gateOn hcable :), (congrArg Cable.booked hcable :),
      hall.otherCables n.val (fun m hm => by simp [Part.seenIn, hm.symm]), hall.besidePort rfl, hall.sameSwitch rfl, hall.sameAon rfl⟩

end Sys2Proof.Proofs.ConnectorGuard


/-! SUPPORT. The end of an attachment (chapter 6, R85, R206, R219): links that go down, and what a teardown leaves of a port. -/

namespace Sys2Proof.Proofs.Detach

open Sys2Proof Sys2Proof.Machine Sys2Proof.Safety
open Sys2Proof.Proofs.StepAndTimers
open Sys2Proof.Proofs.ShapersAndTally
open Sys2Proof.Proofs.Frames
open Sys2Proof.Proofs.Running
open Sys2Proof.Proofs.Shepherd
open Sys2Proof.Proofs.CriticalComparator
open Sys2Proof.Proofs.PdMessages
open Sys2Proof.Proofs.PortEvents
open Sys2Proof.Proofs.Switching (Calm calm_release lasting)

section
variable {S : List Part} {t u d e : Dev} {n m p q c code : Nat}

/-! ### Links -/

/-- Every link stands. -/
def SameLinks (t d : Dev) : Prop := ∀ q, (swPort t q).link = (swPort d q).link

theorem SameLinks.refl (d : Dev) : SameLinks d d := fun _ => rfl
theorem SameLinks.trans (h : SameLinks t u) (h' : SameLinks u d) : SameLinks t d := fun q => (h q).trans (h' q)

theorem SameLinks.of_fab (h : t.fab = d.fab) : SameLinks t d := fun q => by unfold swPort; rw [h]

theorem SameLinks.of_ports (h : t.fab.ports = d.fab.ports) : SameLinks t d := fun q => by unfold swPort; rw [h]

theorem SameLinks.of_calm (h : Calm t d) : SameLinks t d := fun q => by have := congrArg SwPort.link (h.ports q); exact this

theorem sameLinks_setSwPort {f : SwPort → SwPort} (hf : ∀ w, (f w).link = w.link) : SameLinks (setSwPort p f d) d :=
  fun q => swPort_setSwPort_apply hf q

theorem SameLinks.foldl {α : Type} {f : Dev → α → Dev} (l : List α) (hf : ∀ d a, SameLinks (f d a) d) (d : Dev) : SameLinks (l.foldl f d) d :=
  List.foldlRecOn (motive := fun u => SameLinks u d) l f (.refl d) fun u hu a _ => (hf u a).trans hu

theorem sameLinks_setCounter (set_ i v : Nat) : SameLinks (setCounter set_ i v d) d := by
  refine .of_ports ?_
  unfold setCounter
  dsimp only
  split
  · rfl
  · rfl
  · split <;> rfl

theorem sameLinks_dropCopy : SameLinks (dropCopy p c code d) d :=
  (sameLinks_setCounter _ _ _).trans ((sameLinks_setSwPort (f := fun w => { w with lastDrop := code }) fun _ => rfl).trans (sameLinks_setCounter _ _ _))

theorem sameLinks_dropHead : SameLinks (dropHead p c code d) d := by
  unfold dropHead
  split
  · exact .refl d
  · refine (SameLinks.of_calm calm_release).trans (sameLinks_dropCopy.trans ?_)
    exact SameLinks.of_ports rfl

theorem sameLinks_dropQueue : SameLinks (dropQueue p c code d) d := SameLinks.foldl _ (fun _ _ => sameLinks_dropHead) d

theorem sameLinks_dropPort : SameLinks (dropPort p code d) d := by
  refine (SameLinks.foldl _ (fun _ _ => sameLinks_dropQueue) _).trans ?_
  unfold dropResidues
  dsimp only
  exact (SameLinks.of_ports rfl).trans (SameLinks.foldl _ (fun _ _ => sameLinks_dropCopy) d)

theorem sameLinks_endSending : SameLinks (endSending p d) d := by
  unfold endSending
  split
  · exact .refl d
  · exact (SameLinks.of_calm calm_release).trans (sameLinks_setSwPort (f := fun w => { w with sending := none, cutFrom := none }) fun _ => rfl)

theorem sameLinks_flushPort (p : Nat) (d : Dev) : SameLinks (flushPort p d) d :=
  .of_fab ((show Only [.st, .timer .flushEnd] (flushPort p d) d by simp [flushPort, flushStart, Part.covers]).fab rfl)

theorem sameLinks_disarm (tm : Timer) (d : Dev) : SameLinks (disarm tm d) d := .of_fab rfl

theorem sameLinks_portDown : SameLinks (portDown p d) d :=
  (sameLinks_flushPort p _).trans (sameLinks_dropPort.trans (sameLinks_endSending.trans ((sameLinks_disarm _ _).trans
    (sameLinks_setSwPort (f := fun w => { w with pausedUntil := none }) fun _ => rfl))))

theorem link_linkDown (p : Nat) (d : Dev) : (swPort (linkDown p d) p).link = false := by
  unfold linkDown
  split
  · rw [sameLinks_portDown p, swPort_setSwPort_self]
  · rename_i h
    simpa using h

/-! ### A teardown -/

/-- A port beside its USB 2.0 pair. -/
def unpaired (c : Cable) : Cable := { c with usb2Closed := false, usb2Conflict := false }

theorem unpaired_of_but {S : List Part} (h : Only S t d) (hS : Clear S (.cableBut n) = true) : unpaired (cable t n) = unpaired (cable d n) := by
  have hbut : cable t n = { cable d n with usb2Closed := (cable t n).usb2Closed, usb2Conflict := (cable t n).usb2Conflict } := h (.cableBut n) hS
  rw [hbut]
  rfl

theorem unpaired_usb2Join (n : Nat) (d : Dev) (m : Nat) : unpaired (cable (usb2Join n d) m) = unpaired (cable d m) :=
  unpaired_of_but (show Only [.usb2] (usb2Join n d) d by simp) rfl

theorem unpaired_usb2Leave (n : Nat) (d : Dev) (m : Nat) : unpaired (cable (usb2Leave n d) m) = unpaired (cable d m) :=
  unpaired_of_but (show Only [.usb2] (usb2Leave n d) d by simp) rfl

/-- A port whose allocation is returned, and whose pod link, profile and identification are gone. -/
def returned (c : Cable) : Cable :=
  { c with booked := 0, reserved := 0, claim := 0, shedCause := .none, vconn := 0, podOpen := false, vdm := .idle, vdmTries := 0, modeVdo := 0,
           identBuf := [], identTries := 0, laneOn := false, laneRate := 0, muxRoute := .nothing, pod := .none, profileOn := false,
           ceiling := none, ng := NgShare.none, swapOpen := false }

/-- The first half of a teardown: the port is fenced, its allocation returned, its pod link and its identification gone. -/
def closed (n : Nat) (d : Dev) : Dev :=
  unidentify n (podClose n (setCable n (fun c => { c with booked := 0, reserved := 0, claim := 0, shedCause := .none, vconn := 0 })
    (needStep (setFence n true d))))

/-- The membership and the epoch marks of the port are gone too. -/
def unmarked (n : Nat) (d : Dev) : Dev := ccTimersOff n (dropMarks n (clearProfileVlan n (closed n d)))

/-- What is left of the attachment is forgotten. -/
def bared (n : Nat) (d : Dev) : Dev :=
  setCable n (fun c =>
    { c with orientation := 0, cc1 := .nothing, cc2 := .nothing, cableBits := 0, emark := 0, cableAsk := .notAsked,
             accessory := 0, profileId := 0, powerRole := .none, dataRole := .none, vconnSource := false, epr := .off,
             firstRefused := false, retriesLeft := 3, guardAfterAttach := false, guardFresh := false, vbusWait := false,
             hardResets := 0 }) d

theorem teardown_eq (n : Nat) (d : Dev) : teardown n d = usb2Leave n (bared n (pdIdsReset n (pdForget n (powerOff n (unmarked n d))))) := rfl

theorem cable_podClose (n : Nat) (d : Dev) : cable (podClose n d) n =
    { cable d n with podOpen := false, vdm := .idle, vdmTries := 0, modeVdo := 0, identBuf := [], identTries := 0, laneOn := false,
                     laneRate := 0, muxRoute := .nothing } := by
  unfold podClose
  dsimp only
  rw [cable_disarm, cable_disarm, cable_setCable_self, cable_linkDown]
  split
  · rw [cable_closeSession]
  · rfl

theorem cable_unmarked (n : Nat) (d : Dev) : cable (unmarked n d) n = { returned (cable d n) with rank := (cable (unmarked n d) n).rank } := by
  have hmarks : cable (unmarked n d) n = cable (closed n d) n :=
    (show Only [.timersOf (.port n), .tm, .st] (unmarked n d) (closed n d) by
      rw [unmarked, ccTimersOff, only_dropTimers (o := .port n) (fun x hx => ?_) (by simp)]
      · simp
      · split at hx <;> simp_all).cable n rfl
  rw [hmarks, closed, unidentify, cable_setCable_self, cable_podClose, cable_setCable_self, cable_needStep, cable_setFence]
  rfl

/-- A port whose PD engine has forgotten its exchange and its MessageIDs. -/
def forgotten (c : Cable) : Cable :=
  { c with contract := .none, pdoKind := .fixed, pos := 0, mv := 0, reserved := 0, ma := 0, offer := [], offerMw := 0, offerHeld := false,
           mismatch := false, nego := none, awaiting := .nothing, lastSent := none, txQueue := [], retries := 0, capsSent := 0,
           frs := .off, frsPartner := 0, epr := if c.epr = .refused then .refused else .off, authBusy := false,
           vctl := if c.frs = .armed then 0 else c.vctl, chunks := Chunks.none,
           ladder := { c.ladder with alertReset := false }, bist := none, swapping := 0, restored := false }

theorem cable_pdForget (n : Nat) (d : Dev) : cable (pdForget n d) n = forgotten (cable d n) := by
  unfold pdForget
  rw [cable_pdTimersOff, cable_setCable_self]
  rfl

theorem cable_pdIdsReset (n : Nat) (d : Dev) : cable (pdIdsReset n d) n =
    { cable d n with txId := 0, txIdP := 0, txIdPP := 0, rxId := none, rxIdP := none, rxIdPP := none } := cable_setCable_self n _ d

/-- What a teardown leaves of a port that was `c`. -/
structure Torn (x c : Cable) : Prop where
  gate : x.gateOn = false
  booked : x.booked = 0
  claim : x.claim = 0
  vconn : x.vconn = 0
  contract : x.contract = .none
  podOpen : x.podOpen = false
  pod : x.pod = .none
  profile : x.profileId = 0
  retries : x.retriesLeft = 3
  lines : x.cc1 = .nothing ∧ x.cc2 = .nothing
  typec : x.typec = c.typec
  rp : x.rpNow = c.rpNow
  drp : x.drpRp = c.drpRp
  recoveries : x.recoveries = c.recoveries
  shorts : x.ccShortCount = c.ccShortCount

theorem torn_of_chain {x y z c : Cable} {rank : Nat} (hx : unpaired x = unpaired { forgotten y with
      txId := 0, txIdP := 0, txIdPP := 0, rxId := none, rxIdP := none, rxIdPP := none, orientation := 0, cc1 := .nothing, cc2 := .nothing,
      cableBits := 0, emark := 0, cableAsk := .notAsked, accessory := 0, profileId := 0, powerRole := .none, dataRole := .none,
      vconnSource := false, epr := .off, firstRefused := false, retriesLeft := 3, guardAfterAttach := false, guardFresh := false,
      vbusWait := false, hardResets := 0 })
    (hy : ungated y = ungated z) (hgate : y.gateOn = false) (hz : z = { returned c with rank := rank }) : Torn x c := by
  subst hz
  exact {
    gate := (congrArg Cable.gateOn hx :).trans hgate
    booked := (congrArg Cable.booked hx :).trans (congrArg Cable.booked hy :)
    claim := (congrArg Cable.claim hx :).trans (congrArg Cable.claim hy :)
    vconn := (congrArg Cable.vconn hx :).trans (congrArg Cable.vconn hy :)
    contract := (congrArg Cable.contract hx :)
    podOpen := (congrArg Cable.podOpen hx :).trans (congrArg Cable.podOpen hy :)
    pod := (congrArg Cable.pod hx :).trans (congrArg Cable.pod hy :)
    profile := (congrArg Cable.profileId hx :)
    retries := (congrArg Cable.retriesLeft hx :)
    lines := ⟨(congrArg Cable.cc1 hx :), (congrArg Cable.cc2 hx :)⟩
    typec := (congrArg Cable.typec hx :).trans (congrArg Cable.typec hy :)
    rp := (congrArg Cable.rpNow hx :).trans (congrArg Cable.rpNow hy :)
    drp := (congrArg Cable.drpRp hx :).trans (congrArg Cable.drpRp hy :)
    recoveries := (congrArg Cable.recoveries hx :).trans (congrArg Cable.recoveries hy :)
    shorts := (congrArg Cable.ccShortCount hx :).trans (congrArg Cable.ccShortCount hy :) }

theorem cable_bared (n : Nat) (d : Dev) : unpaired (cable (usb2Leave n (bared n (pdIdsReset n (pdForget n d)))) n) =
    unpaired { forgotten (cable d n) with
      txId := 0, txIdP := 0, txIdPP := 0, rxId := none, rxIdP := none, rxIdPP := none, orientation := 0, cc1 := .nothing, cc2 := .nothing,
      cableBits := 0, emark := 0, cableAsk := .notAsked, accessory := 0, profileId := 0, powerRole := .none, dataRole := .none,
      vconnSource := false, epr := .off, firstRefused := false, retriesLeft := 3, guardAfterAttach := false, guardFresh := false,
      vbusWait := false, hardResets := 0 } := by
  rw [unpaired_usb2Leave, bared, cable_setCable_self, cable_pdIdsReset, cable_pdForget]

theorem torn_teardown (n : Nat) (d : Dev) : Torn (cable (teardown n d) n) (cable d n) := by
  have hpower := ungated_powerOff n (unmarked n d)
  have hgate : (cable (powerOff n (unmarked n d)) n).gateOn = false := InrushAndDroop.gateOn_powerOff n _
  have hunmarked := cable_unmarked n d
  rw [teardown_eq]
  have hbared := cable_bared n (powerOff n (unmarked n d))
  generalize cable (usb2Leave n (bared n (pdIdsReset n (pdForget n (powerOff n (unmarked n d)))))) n = x at hbared ⊢
  generalize cable (powerOff n (unmarked n d)) n = y at hpower hgate hbared
  generalize cable (unmarked n d) n = z at hpower hunmarked
  exact torn_of_chain hbared hpower hgate hunmarked

/-- A teardown leaves the port fenced and its link down. -/
theorem fenced_teardown (n : Nat) (d : Dev) : (swPort (teardown n d) n).fenced = true := by
  have hrest : Only (.usb2 :: .tm :: .shepDue :: .timer .overrun :: podParts n) (teardown n d) (setFence n true d) := by
    unfold teardown
    dsimp only
    simp
  rw [hrest.fenced n rfl]
  exact fenced_setFence n true d

theorem link_podClose (n : Nat) (d : Dev) : (swPort (podClose n d) n).link = false :=
  (SameLinks.of_fab (d := linkDown n (if (cable d n).podOpen then closeSession (2 + n) d else d)) rfl n).trans (link_linkDown n _)

theorem link_teardown (n : Nat) (d : Dev) : (swPort (teardown n d) n).link = false := by
  have hrest : Only (.usb2 :: .tm :: .st :: portParts n) (teardown n d) (podClose n
      (setCable n (fun c => { c with booked := 0, reserved := 0, claim := 0, shedCause := .none, vconn := 0 }) (needStep (setFence n true d)))) := by
    unfold teardown
    dsimp only
    simp
  rw [SameLinks.of_fab (hrest.fab rfl) n]
  exact link_podClose n _

theorem only_teardown_self (n : Nat) (d : Dev) : Only (teardownParts n) (teardown n d) d := by simp

/-! ### What a port presents -/

theorem cable_present_self (n code : Nat) (d : Dev) : cable (present_ n code d) n = if (cable d n).rpNow = code then cable d n
    else { cable d n with rpNow := code, presentRp := decide (2 ≤ code) } := by
  unfold present_
  split
  · rfl
  · rw [cable_emit, cable_setCable_self]

theorem rpNow_present (n code : Nat) (d : Dev) : (cable (present_ n code d) n).rpNow = code := by
  rw [cable_present_self]
  split
  · assumption
  · rfl

/-- What a port that is not attached presents, and how long. -/
@[simp] def restParts (n : Nat) : List Part := [.cable n, .timer (.drp n), .out]

theorem only_present_exact (n code : Nat) (d : Dev) : Only [.cable n, .out] (present_ n code d) d := by
  unfold present_
  split
  · exact .refl _ d
  · simp

theorem only_presentIdle_rest (n : Nat) (d : Dev) : Only (restParts n) (presentIdle n d) d := by
  unfold presentIdle
  split
  · exact ((only_present_exact n _ _).mono (by simp)).trans (by simp)
  · exact ((only_present_exact n _ _).mono (by simp)).trans (by simp)
  · exact (only_arm _ _ (by simp)).mpr ((only_present_exact n _ _).mono (by simp))

theorem unsaid_presentIdle (n : Nat) (d : Dev) : unsaid (cable (presentIdle n d) n) = unsaid (cable d n) := by
  unfold presentIdle
  split
  · exact unsaid_present n 1 _ n
  · exact unsaid_present n _ _ n
  · rw [cable_arm]
    exact unsaid_present n _ _ n

end

end Sys2Proof.Proofs.Detach


/-! SUPPORT. Type-C on a cable port (chapter 6, R194 to R196, R208, R219): debounce, attach, DRP, CC short. -/

namespace Sys2Proof.Proofs.CableAttach

open Sys2Proof Sys2Proof.Machine Sys2Proof.Safety
open Sys2Proof.Proofs.StepAndTimers
open Sys2Proof.Proofs.ShapersAndTally
open Sys2Proof.Proofs.Frames
open Sys2Proof.Proofs.Running
open Sys2Proof.Proofs.Shepherd
open Sys2Proof.Proofs.CriticalComparator
open Sys2Proof.Proofs.PdMessages
open Sys2Proof.Proofs.PortEvents
open Sys2Proof.Proofs.Detach

section
variable {S : List Part} {t u d e : Dev} {n m : Nat} {cc1 cc2 : CcLine}

/-! ### The debounce -/

/-- A port whose lines are seen. -/
def seen (n : Nat) (cc1 cc2 : CcLine) (d : Dev) : Dev := setCable n (fun c => { c with cc1 := cc1, cc2 := cc2 }) d

/-- Whether a line shows Rd or Rp. -/
def shows (l : CcLine) : Bool := l == .rd || isRp l

/-- The debounce of a port has begun. -/
def waiting (n : Nat) (d : Dev) : Dev :=
  arm (.ccDebounce n) tCcDebounce (disarm (.drp n) (setCable n (fun c => { c with typec := .attachWait }) d))

theorem shows_nothing (hra : cc1 = .ra ∨ cc2 = .ra) (hbare : cc1 = .nothing ∨ cc2 = .nothing) :
    (!(shows cc1 || shows cc2 || (cc1 == .ra && cc2 == .ra))) = true := by
  obtain rfl | rfl := hra
  · obtain h | rfl := hbare
    · exact absurd h (by decide)
    · rfl
  · obtain rfl | h := hbare
    · rfl
    · exact absurd h (by decide)

theorem not_booting_of_runs (h : portRuns d n = true) : booting d = false := by
  simp only [portRuns, Bool.and_eq_true] at h
  obtain ⟨⟨⟨hplanes, -⟩, -⟩, -⟩ := h
  unfold planesRun isReady isHalted at hplanes
  unfold booting
  cases hs : d.boot.stage <;> simp_all

theorem ccDebounce_unattached (hruns : portRuns d n = true) (hidle : (cable d n).typec = .unattached) : ccDebounce n cc1 cc2 d =
    if !(shows cc1 || shows cc2 || (cc1 == .ra && cc2 == .ra)) then shortTestStart n cc1 cc2 (seen n cc1 cc2 d)
    else waiting n (shortTestStart n cc1 cc2 (seen n cc1 cc2 d)) := by
  unfold ccDebounce
  dsimp only
  rw [if_neg (by simp [not_booting_of_runs hruns]), if_neg (by simp [hruns, hidle])]
  rfl

theorem ccDebounce_booting (hboot : booting d = true) (hn : n < 2) : ccDebounce n cc1 cc2 d =
    onBoot (fun b => { b with latched := b.latched ||| BitVec.ofNat 6 (2 ^ n) }) (seen n cc1 cc2 d) := by
  unfold ccDebounce
  dsimp only
  rw [if_pos (by simp [hboot, hn])]
  rfl

theorem shortTestStart_of_no_ra (h1 : cc1 ≠ .ra) (h2 : cc2 ≠ .ra) : shortTestStart n cc1 cc2 d = d :=
  if_neg fun h => h.1.elim h1 h2

theorem shortTestStart_of_ra (h : cc1 = .ra ∨ cc2 = .ra) (hrp : (cable d n).rpNow = 2) :
    shortTestStart n cc1 cc2 d = arm (.ccShort n) ms (present_ n (raiseCode cc1 cc2) d) := if_pos ⟨h, hrp⟩

theorem raiseCode_ge (cc1 cc2 : CcLine) : 4 ≤ raiseCode cc1 cc2 := by
  unfold raiseCode
  split
  · split <;> decide
  · decide

theorem mem_out_present (n : CPort) {code : Nat} (hnew : (cable d n.val).rpNow ≠ code) (hheld : portHeld d n.val = false) :
    Emission.cc n code ∈ (present_ n.val code d).out := by
  unfold present_
  rw [if_neg hnew, show Fin.ofNat 8 n.val = n from Fin.ext (Nat.mod_eq_of_lt n.isLt)]
  unfold emit
  rw [if_neg (by
    simp only [bankSilent, heldSilent, Bool.false_or]
    rw [portHeld_congr (t := setCable n.val _ d) (d := d) rfl, hheld]
    decide)]
  exact List.mem_append_right _ (List.mem_singleton.mpr rfl)

/-! ### Attaching -/

theorem only_usb2Join_self (n : Nat) (d : Dev) : Only [.cable n] (usb2Join n d) d := by
  unfold usb2Join
  dsimp only
  split
  · exact .refl _ d
  · simp

/-- What attaching a partner reaches. -/
@[simp] def attachParts (n : Nat) : List Part := .cable n :: .timersOf (.port n) :: fenceParts n

theorem cable_guardNow (n : Nat) (d : Dev) : cable (guardNow n d) n = { cable d n with guardRuns := false, guardFresh := false } := by
  unfold guardNow
  rw [cable_arm, cable_disarm, cable_setCable_self]

/-- A port beside what it presents and its USB 2.0 pair. -/
def shown (c : Cable) : Cable := unpaired (unsaid c)

theorem shown_present (n code : Nat) (d : Dev) : shown (cable (present_ n code d) n) = shown (cable d n) :=
  congrArg unpaired (unsaid_present n code d n)

theorem shown_usb2Join (n : Nat) (d : Dev) : shown (cable (usb2Join n d) n) = shown (cable d n) :=
  (congrArg unsaid (unpaired_usb2Join n d n) :)

/-- A port that is fenced, presents a level, has its USB 2.0 pair, and waits for a check of the guard. -/
def settledIn (n code : Nat) (d : Dev) : Dev := guardNow n (usb2Join n (present_ n code (setFence n true d)))

theorem shown_settledIn (n code : Nat) (d : Dev) : shown (cable (settledIn n code d) n) =
    shown { cable d n with guardRuns := false, guardFresh := false } := by
  have h := (shown_usb2Join n (present_ n code (setFence n true d))).trans (shown_present n code (setFence n true d))
  rw [cable_setFence] at h
  rw [settledIn, cable_guardNow]
  generalize cable (usb2Join n (present_ n code (setFence n true d))) n = x at h ⊢
  generalize cable d n = c at h ⊢
  have hc := congrArg (fun z : Cable => { z with guardRuns := false, guardFresh := false }) h
  exact hc

theorem only_settledIn (n code : Nat) (d : Dev) : Only (attachParts n) (settledIn n code d) d := by
  unfold settledIn
  rw [only_guardNow _ (by simp)]
  refine ((only_usb2Join_self n _).mono (by simp)).trans ?_
  exact ((only_present_exact n code _).mono (by simp)).trans (by simp)

theorem fenced_settledIn (n code : Nat) (d : Dev) : (swPort (settledIn n code d) n).fenced = true := by
  have hrest : Only [.cable n, .timersOf (.port n), .out] (settledIn n code d) (setFence n true d) := by
    unfold settledIn
    rw [only_guardNow _ (by simp)]
    exact ((only_usb2Join_self n _).mono (by simp)).trans ((only_present_exact n code _).mono (by simp))
  rw [hrest.fenced n rfl]
  exact fenced_setFence n true d

theorem runsFor_settledIn (n code : Nat) (d : Dev) : runsFor (.guard n) 0 (settledIn n code d) := runsFor_arm_self

/-- A port's record as a source. -/
def asSource (o rank : Nat) (c : Cable) : Cable :=
  { c with typec := .attachedSrc, orientation := o, powerRole := .source, dataRole := .dfp, vconnSource := true, vbusWait := true, rank := rank }

theorem attachSource_eq (n o : Nat) (d : Dev) : attachSource n o d =
    settledIn n (rpInitial (setCable n (asSource o (cfg d 0x2400 6)) d) n) (setCable n (asSource o (cfg d 0x2400 6)) d) := rfl

/-- What attaching a sink partner leaves of a port that was `c`. -/
structure Sourced (o : Nat) (x c : Cable) : Prop where
  typec : x.typec = .attachedSrc
  role : x.powerRole = .source
  dataRole : x.dataRole = .dfp
  orientation : x.orientation = o
  gate : x.gateOn = c.gateOn
  waits : x.vbusWait = true
  stale : x.guardFresh = false
  booked : x.booked = c.booked
  emark : x.emark = c.emark

theorem sourced_of_shown {x c : Cable} {o rank : Nat} (h : shown x = shown { asSource o rank c with guardRuns := false, guardFresh := false }) :
    Sourced o x c :=
  ⟨(congrArg Cable.typec h :), (congrArg Cable.powerRole h :), (congrArg Cable.dataRole h :), (congrArg Cable.orientation h :),
    (congrArg Cable.gateOn h :), (congrArg Cable.vbusWait h :), (congrArg Cable.guardFresh h :), (congrArg Cable.booked h :),
    (congrArg Cable.emark h :)⟩

theorem attachSource_attaches (n o : Nat) (d : Dev) : Sourced o (cable (attachSource n o d) n) (cable d n) ∧
    (swPort (attachSource n o d) n).fenced = true ∧ runsFor (.guard n) 0 (attachSource n o d) ∧ Only (attachParts n) (attachSource n o d) d := by
  rw [attachSource_eq]
  have hcable := cable_setCable_self n (asSource o (cfg d 0x2400 6)) d
  have honly : Only (attachParts n) (setCable n (asSource o (cfg d 0x2400 6)) d) d := by simp
  generalize rpInitial (setCable n (asSource o (cfg d 0x2400 6)) d) n = code
  generalize setCable n (asSource o (cfg d 0x2400 6)) d = u at hcable honly ⊢
  have hshown := shown_settledIn n code u
  rw [hcable] at hshown
  exact ⟨sourced_of_shown hshown, fenced_settledIn n code u, runsFor_settledIn n code u, (only_settledIn n code u).trans honly⟩

/-- A port's record as a sink of `ma`. -/
def asSink (o ma rank : Nat) (c : Cable) : Cable :=
  { c with typec := .attachedSnk, orientation := o, powerRole := .sink, dataRole := .ufp, contract := .implicit,
           mv := 5000, ma := ma, booked := 5 * ma, path := if c.path = .latched then .latched else .on,
           gateOn := decide (c.path ≠ .latched), discharge := false, vconnSource := false, rank := rank }

/-- The current that a sink takes from its Rp. -/
def sinkMa (d : Dev) (ma : Nat) : Nat := if isHalted d then min ma 1500 else ma

theorem attachSink_eq (n o ma : Nat) (d : Dev) : attachSink n o ma d =
    settledIn n 1 (disarm (.discharge n) (setCable n (asSink o (sinkMa d ma) (cfg d 0x2400 6)) d)) := rfl

/-- What attaching a source partner leaves of a port that was `c`. -/
structure Sunk (current : Nat) (x c : Cable) : Prop where
  typec : x.typec = .attachedSnk
  role : x.powerRole = .sink
  dataRole : x.dataRole = .ufp
  contract : x.contract = .implicit
  mv : x.mv = 5000
  ma : x.ma = current
  booked : x.booked = 5 * current
  gate : x.gateOn = decide (c.path ≠ .latched)
  discharge : x.discharge = false

theorem sunk_of_shown {x c : Cable} {o ma rank : Nat} (h : shown x = shown { asSink o ma rank c with guardRuns := false, guardFresh := false }) :
    Sunk ma x c :=
  ⟨(congrArg Cable.typec h :), (congrArg Cable.powerRole h :), (congrArg Cable.dataRole h :), (congrArg Cable.contract h :),
    (congrArg Cable.mv h :), (congrArg Cable.ma h :), (congrArg Cable.booked h :), (congrArg Cable.gateOn h :), (congrArg Cable.discharge h :)⟩

theorem attachSink_attaches (n o ma : Nat) (d : Dev) : Sunk (sinkMa d ma) (cable (attachSink n o ma d) n) (cable d n) ∧
    (swPort (attachSink n o ma d) n).fenced = true ∧ Only (attachParts n) (attachSink n o ma d) d := by
  rw [attachSink_eq]
  have hcable : cable (disarm (.discharge n) (setCable n (asSink o (sinkMa d ma) (cfg d 0x2400 6)) d)) n =
      asSink o (sinkMa d ma) (cfg d 0x2400 6) (cable d n) := by rw [cable_disarm, cable_setCable_self]
  have honly : Only (attachParts n) (disarm (.discharge n) (setCable n (asSink o (sinkMa d ma) (cfg d 0x2400 6)) d)) d := by simp
  generalize disarm (.discharge n) (setCable n (asSink o (sinkMa d ma) (cfg d 0x2400 6)) d) = u at hcable honly ⊢
  have hshown := shown_settledIn n 1 u
  rw [hcable] at hshown
  exact ⟨sunk_of_shown hshown, fenced_settledIn n 1 u, (only_settledIn n 1 u).trans honly⟩

/-- The lines at the end of a debounce. -/
def debounced (n : Nat) (cc1 cc2 : CcLine) (id : CableId) (d : Dev) : Dev :=
  disarm (.ccDebounce n) (setCable n (fun c => { c with cc1 := cc1, cc2 := cc2, emark := cableByte id }) (reach (.ccDebounce n) d))

theorem cable_debounced (n : Nat) (cc1 cc2 : CcLine) (id : CableId) (d : Dev) :
    cable (debounced n cc1 cc2 id d) n = { cable d n with cc1 := cc1, cc2 := cc2, emark := cableByte id } := by
  rw [debounced, cable_disarm, cable_setCable_self]
  rfl

/-- What the end of a debounce and what follows it may reach. -/
@[simp] def ccParts (n : Nat) : List Part := .now :: .tm :: attachParts n

theorem only_debounced (n : Nat) (cc1 cc2 : CcLine) (id : CableId) (d : Dev) : Only (ccParts n) (debounced n cc1 cc2 id d) d := by
  simp [debounced]

theorem roleNow_congr (hboot : t.boot = d.boot) (hcfg : ∀ obj el, cfg t obj el = cfg d obj el) (n : Nat) : roleNow t n = roleNow d n := by
  unfold roleNow rolePref isHalted
  rw [hboot, hcfg]

/-- The rest of a port that takes no power partner. -/
def backToRest (n : Nat) (d : Dev) : Dev := presentIdle n (setCable n (fun c => { c with typec := .unattached, emark := 0 }) d)

/-- An accessory of kind `k` is on the port. -/
def accessory (n k : Nat) (d : Dev) : Dev := setCable n (fun c => { c with typec := .accessory, accessory := k }) (disarm (.tryWait n) d)

theorem ccAttach_attachWait (id : CableId) (hruns : portRuns d n = true) (hwait : (cable d n).typec = .attachWait)
    (harmed : armed (.ccDebounce n) d = true) : ccAttach n cc1 cc2 id d =
      if cc1 = .ra ∧ cc2 = .ra then accessory n 1 (debounced n cc1 cc2 id d)
      else if (cc1 = .rd ∧ cc2 = .rd) ∨ (isRp cc1 && isRp cc2) then accessory n 2 (debounced n cc1 cc2 id d)
      else if cc1 = .rd ∨ cc2 = .rd then
        if roleNow (debounced n cc1 cc2 id d) n = 2 then backToRest n (debounced n cc1 cc2 id d)
        else if isDual n ∧ roleNow (debounced n cc1 cc2 id d) n = 1 then
          arm (.tryWait n) tTrySnk (present_ n 1 (setCable n (fun c => { c with typec := .trySnk }) (debounced n cc1 cc2 id d)))
        else attachSource n (if cc1 = .rd then 1 else 2) (debounced n cc1 cc2 id d)
      else if (isRp cc1 || isRp cc2) && isDual n && decide (roleNow (debounced n cc1 cc2 id d) n ≠ 3) then
        attachSink n (if isRp cc1 then 1 else 2) (if isRp cc1 then lineMa cc1 else lineMa cc2) (debounced n cc1 cc2 id d)
      else backToRest n (debounced n cc1 cc2 id d) := by
  have htrying : ((cable d n).typec == .trySnk) = false := by rw [hwait]; rfl
  unfold ccAttach
  dsimp only
  rw [if_neg (by simp [hruns, hwait, harmed]), htrying, if_neg (c := (false = true)) (by decide)]
  rfl

/-! ### Events of the debounce, seen from the queue -/

/-- A port whose Rp is raised for the test of a short. -/
def tested (n : Nat) (cc1 cc2 : CcLine) (d : Dev) : Dev := arm (.ccShort n) ms (present_ n (raiseCode cc1 cc2) (seen n cc1 cc2 d))

theorem cable_tested (hrp : (cable d n).rpNow = 2) : cable (tested n cc1 cc2 d) n =
    { cable d n with cc1 := cc1, cc2 := cc2, rpNow := raiseCode cc1 cc2, presentRp := true } := by
  have hcode := raiseCode_ge cc1 cc2
  rw [tested, cable_arm, cable_present_self, seen, cable_setCable_self, if_neg (by dsimp only; omega),
    decide_eq_true (show 2 ≤ raiseCode cc1 cc2 by omega)]

theorem shortTestStart_seen (h : cc1 = .ra ∨ cc2 = .ra) (hrp : (cable d n).rpNow = 2) :
    shortTestStart n cc1 cc2 (seen n cc1 cc2 d) = tested n cc1 cc2 d :=
  shortTestStart_of_ra h (by rw [seen, cable_setCable_self]; exact hrp)

/-- What the lines of an unattached port reach. -/
@[simp] def debounceParts (n : Nat) : List Part := [.cable n, .timersOf (.port n), .out]

theorem only_tested (n : Nat) (cc1 cc2 : CcLine) (d : Dev) : Only (debounceParts n) (tested n cc1 cc2 d) d := by
  unfold tested
  rw [only_arm _ _ (by simp)]
  exact ((only_present_exact n _ _).mono (by simp)).trans (by simp [seen])

theorem only_waiting (n : Nat) (d : Dev) : Only (debounceParts n) (waiting n d) d := by simp [waiting]

theorem cable_waiting (n : Nat) (d : Dev) : cable (waiting n d) n = { cable d n with typec := .attachWait } := by
  rw [waiting, cable_arm, cable_disarm, cable_setCable_self]

theorem runsFor_waiting (n : Nat) (d : Dev) : runsFor (.ccDebounce n) (150 * ms) (waiting n d) := runsFor_arm_self

theorem not_armed_waiting (n : Nat) (d : Dev) : armed (.drp n) (waiting n d) = false := by
  rw [waiting, armed_arm_other (by simp)]
  exact armed_disarm_self _ _

theorem runsFor_tested (n : Nat) (cc1 cc2 : CcLine) (d : Dev) : runsFor (.ccShort n) ms (tested n cc1 cc2 d) := runsFor_arm_self

theorem mem_out_tested (n : CPort) (hrp : (cable d n.val).rpNow = 2) (hruns : portRuns d n.val = true) :
    Emission.cc n (raiseCode cc1 cc2) ∈ (tested n.val cc1 cc2 d).out := by
  have hcode := raiseCode_ge cc1 cc2
  refine mem_out_present n (d := seen n.val cc1 cc2 d) ?_ ((portHeld_congr rfl n.val).trans (portHeld_of_runs hruns))
  rw [seen, cable_setCable_self]
  dsimp only
  omega

/-! ### After TARGET is followed -/

theorem fenced_target {b : Bool} (h : (swPort d n).fenced = b) : (swPort (settle (followTarget d)) n).fenced = b :=
  ((show Only (.odBook :: .irq :: targetParts) (settle (followTarget d)) d by simp).fenced n rfl).trans h

theorem runsFor_target {tm : Timer} {ns : Nat} (htm : Clear targetParts (.timer tm) = true) (h : runsFor tm ns d) :
    runsFor tm ns (settle (followTarget d)) := by
  have honly : Only targetParts (followTarget d) d := by simp
  exact runsFor_settle.mpr ((honly.runsFor tm htm (honly.now rfl)).mpr h)

/-! ### Rest, recovery and short -/

theorem typec_of_unsaid {x y : Cable} (h : unsaid x = unsaid y) : x.typec = y.typec := (congrArg Cable.typec h :)

theorem cable_ladderEnds (n : Nat) (d : Dev) : cable (ladderEnds n d) n =
    { cable d n with path := if isFault (cable d n).path then .off else (cable d n).path, retriesLeft := 3, ladder := Ladder.clear,
                     pdFail := false, recoveries := 0 } := by
  rw [ladderEnds, cable_disarm, cable_setCable_self]

theorem only_ladderEnds (n : Nat) (d : Dev) : Only (portParts n) (ladderEnds n d) d := by simp [ladderEnds]

/-- A fault ladder that has ended. -/
structure LadderOver (x : Cable) : Prop where
  path : isFault x.path = false
  retries : x.retriesLeft = 3
  pdFail : x.pdFail = false

theorem ladderOver_ladderEnds (n : Nat) (d : Dev) : LadderOver (cable (ladderEnds n d) n) := by
  rw [cable_ladderEnds]
  refine ⟨?_, rfl, rfl⟩
  dsimp only
  split
  · rfl
  · simp_all

theorem torn_ladderEnds {x : Cable} (n : Nat) (h : Torn (cable d n) x) : Torn (cable (ladderEnds n d) n)
    { x with recoveries := 0 } := by
  rw [cable_ladderEnds]
  generalize cable d n = y at h
  exact { h with retries := rfl, recoveries := rfl }

/-- A port at rest after an attachment. -/
def atRest (n : Nat) (d : Dev) : Dev := presentIdle n (setCable n (fun c => { c with typec := .unattached }) (ladderEnds n (teardown n d)))

theorem unsaid_atRest (n : Nat) (d : Dev) : unsaid (cable (atRest n d) n) =
    unsaid { cable (ladderEnds n (teardown n d)) n with typec := .unattached } := by
  rw [atRest, unsaid_presentIdle, cable_setCable_self]

theorem only_atRest (n : Nat) (d : Dev) : Only (portParts n ++ [.out]) (atRest n d) (teardown n d) := by
  unfold atRest
  exact ((only_presentIdle_rest n _).mono (by simp [Part.covers])).trans (by simp [ladderEnds, Part.covers])

/-- What is left of a port that was attached. -/
structure Rested (x : Cable) : Prop where
  typec : x.typec = .unattached
  gate : x.gateOn = false
  booked : x.booked = 0
  claim : x.claim = 0
  vconn : x.vconn = 0
  contract : x.contract = .none
  podOpen : x.podOpen = false
  pod : x.pod = .none
  profile : x.profileId = 0
  ended : LadderOver x

theorem rested_of_unsaid {x y c : Cable} (h : unsaid x = unsaid { y with typec := .unattached }) (hy : Torn y c) (hover : LadderOver y) : Rested x :=
  { typec := (congrArg Cable.typec h :)
    gate := (congrArg Cable.gateOn h :).trans hy.gate
    booked := (congrArg Cable.booked h :).trans hy.booked
    claim := (congrArg Cable.claim h :).trans hy.claim
    vconn := (congrArg Cable.vconn h :).trans hy.vconn
    contract := (congrArg Cable.contract h :).trans hy.contract
    podOpen := (congrArg Cable.podOpen h :).trans hy.podOpen
    pod := (congrArg Cable.pod h :).trans hy.pod
    profile := (congrArg Cable.profileId h :).trans hy.profile
    ended := {
      path := (congrArg (fun z : Cable => isFault z.path) h :).trans hover.path
      retries := (congrArg Cable.retriesLeft h :).trans hover.retries
      pdFail := (congrArg Cable.pdFail h :).trans hover.pdFail } }

theorem rested_atRest (n : Nat) (d : Dev) : Rested (cable (atRest n d) n) := by
  have h := unsaid_atRest n d
  have hover := ladderOver_ladderEnds n (teardown n d)
  have htorn := torn_ladderEnds n (torn_teardown n d)
  generalize cable (ladderEnds n (teardown n d)) n = y at h hover htorn
  exact rested_of_unsaid h htorn hover

theorem ccDetach_attached (hruns : portRuns d n = true) (h1 : (cable d n).typec ≠ .unattached) (h2 : (cable d n).typec ≠ .errorRecovery)
    (h3 : (cable d n).typec ≠ .ccShort) : ccDetach n d = atRest n d := by
  unfold ccDetach
  rw [if_neg (by simp [hruns])]
  split
  · exact absurd ‹_› h1
  · exact absurd ‹_› h2
  · exact absurd ‹_› h3
  · rfl

/-- The lines of a port without a partner are bare. -/
def bareLines (n : Nat) (d : Dev) : Dev := ladderEnds n (setCable n (fun c => { c with cc1 := .nothing, cc2 := .nothing, emark := 0 }) d)

theorem ccDetach_idle (hruns : portRuns d n = true)
    (h : (cable d n).typec = .unattached ∨ (cable d n).typec = .errorRecovery ∨ (cable d n).typec = .ccShort) : ccDetach n d = bareLines n d := by
  unfold ccDetach
  rw [if_neg (by simp [hruns])]
  obtain h | h | h := h <;> rw [h] <;> rfl

theorem cable_bareLines (n : Nat) (d : Dev) : LadderOver (cable (bareLines n d) n) ∧ (cable (bareLines n d) n).typec = (cable d n).typec ∧
    (cable (bareLines n d) n).cc1 = .nothing ∧ (cable (bareLines n d) n).cc2 = .nothing := by
  refine ⟨ladderOver_ladderEnds n _, ?_⟩
  rw [bareLines, cable_ladderEnds, cable_setCable_self]
  exact ⟨rfl, rfl, rfl⟩

/-- A port in ErrorRecovery. -/
theorem cable_enterErrorRecovery (n : Nat) (d : Dev) : let x := cable (enterErrorRecovery n d) n
    x.typec = .errorRecovery ∧ x.recoveries = (cable d n).recoveries ∧ x.gateOn = false ∧ x.booked = 0 ∧ x.rpNow = 0 := by
  have hrp := rpNow_present n 0 (setCable n (fun c => { c with typec := .errorRecovery }) (teardown n d))
  have h := unsaid_present n 0 (setCable n (fun c => { c with typec := .errorRecovery }) (teardown n d)) n
  have htorn := torn_teardown n d
  rw [cable_setCable_self] at h
  dsimp only
  unfold enterErrorRecovery
  rw [cable_arm]
  generalize cable (present_ n 0 (setCable n (fun c => { c with typec := .errorRecovery }) (teardown n d))) n = x at hrp h ⊢
  generalize cable (teardown n d) n = y at h htorn
  exact ⟨(congrArg Cable.typec h :), (congrArg Cable.recoveries h :).trans htorn.recoveries, (congrArg Cable.gateOn h :).trans htorn.gate,
    (congrArg Cable.booked h :).trans htorn.booked, hrp⟩

theorem runsFor_enterErrorRecovery (n : Nat) (d : Dev) : runsFor (.errRec n) (25 * ms) (enterErrorRecovery n d) := runsFor_arm_self

/-- A port that has entered CC_SHORT. -/
theorem cable_enterCcShort (n : Nat) (d : Dev) : let x := cable (enterCcShort n d) n
    x.typec = .ccShort ∧ x.ccShortCount = inc16 (cable d n).ccShortCount ∧ x.gateOn = false ∧ x.vconn = 0 ∧ x.booked = 0 ∧ x.rpNow = 2 := by
  have hrp := rpNow_present n 2 (teardown n d)
  have h := unsaid_present n 2 (teardown n d) n
  have htorn := torn_teardown n d
  dsimp only
  unfold enterCcShort
  rw [cable_arm, cable_setCable_self]
  generalize cable (present_ n 2 (teardown n d)) n = x at hrp h ⊢
  generalize cable (teardown n d) n = y at h htorn
  exact ⟨rfl, congrArg inc16 ((congrArg Cable.ccShortCount h :).trans htorn.shorts), (congrArg Cable.gateOn h :).trans htorn.gate,
    (congrArg Cable.vconn h :).trans htorn.vconn, (congrArg Cable.booked h :).trans htorn.booked, hrp⟩

theorem only_enterCcShort_self (n : Nat) (d : Dev) : Only (teardownParts n) (enterCcShort n d) d := by simp [enterCcShort]

/-- The Rp that was raised for a test is down again. -/
def lowered (n : Nat) (d : Dev) : Dev :=
  if 4 ≤ (cable d n).rpNow && ((cable d n).typec == .unattached || (cable d n).typec == .attachWait) then present_ n 2 d else d

theorem only_lowered (n : Nat) (d : Dev) : Only [.cable n, .out] (lowered n d) d := by
  unfold lowered
  split
  · exact only_present_exact n 2 d
  · exact .refl _ d

theorem cable_lowered (n : Nat) (d : Dev) : cable (lowered n d) n =
      { cable d n with rpNow := (cable (lowered n d) n).rpNow, presentRp := (cable (lowered n d) n).presentRp } ∧
    (cable (lowered n d) n).rpNow = if 4 ≤ (cable d n).rpNow ∧ ((cable d n).typec = .unattached ∨ (cable d n).typec = .attachWait) then 2
      else (cable d n).rpNow := by
  unfold lowered
  split
  · rename_i h
    refine ⟨?_, (rpNow_present n 2 d).trans (if_pos (by simpa using h)).symm⟩
    rw [cable_present_self]
    split <;> rfl
  · rename_i h
    exact ⟨rfl, (if_neg (by simpa using h)).symm⟩

/-- A port that alternates presents the other of Rp and Rd for another half of its period. -/
theorem presentIdle_toggles (hrole : roleNow d n ≤ 1) : (cable (presentIdle n d) n).rpNow = (if (cable d n).drpRp then rpInitial d n else 1) ∧
    runsFor (.drp n) (37500 * us) (presentIdle n d) := by
  have hidle : presentIdle n d = arm (.drp n) tDrpHalf (present_ n (if (cable d n).drpRp then rpInitial d n else 1) d) := by
    unfold presentIdle
    split
    · omega
    · omega
    · rfl
  rw [hidle, cable_arm]
  exact ⟨rpNow_present n _ d, runsFor_arm_self⟩

/-- A port whose lines are read under a raised Rp, while it is in CC_SHORT. -/
def retested (n : Nat) (d : Dev) : Dev := present_ n 2 (elapse ms (present_ n 4 (arm (.ccShortRe n) sec d)))

theorem cable_retested (n : Nat) (d : Dev) : cable (retested n d) n = { cable d n with rpNow := 2, presentRp := true } := by
  have h4 := cable_present_self n 4 (arm (.ccShortRe n) sec d)
  have hrp := rpNow_present n 4 (arm (.ccShortRe n) sec d)
  have h2 := cable_present_self n 2 (elapse ms (present_ n 4 (arm (.ccShortRe n) sec d)))
  rw [show cable (elapse ms (present_ n 4 (arm (.ccShortRe n) sec d))) n = cable (present_ n 4 (arm (.ccShortRe n) sec d)) n from rfl, hrp,
    if_neg (by decide), h4, cable_arm] at h2
  rw [retested, h2]
  split <;> rfl

theorem only_retested (n : Nat) (d : Dev) : Only [.cable n, .out, .now, .tm, .timer (.ccShortRe n)] (retested n d) d := by
  unfold retested
  refine ((only_present_exact n 2 _).mono (by simp)).trans ((only_elapse _ (by simp)).mpr ?_)
  exact ((only_present_exact n 4 _).mono (by simp)).trans (by simp)

theorem runsFor_retested (n : Nat) (d : Dev) : runsFor (.ccShortRe n) (sec - ms) (retested n d) := by
  have hcarry (u : Dev) : runsFor (.ccShortRe n) (sec - ms) (present_ n 2 u) ↔ runsFor (.ccShortRe n) (sec - ms) u :=
    (only_present_exact n 2 u).runsFor _ (by simp [Part.seenIn]) ((only_present_exact n 2 u).now rfl)
  have hrun : runsFor (.ccShortRe n) sec (present_ n 4 (arm (.ccShortRe n) sec d)) :=
    ((only_present_exact n 4 _).runsFor _ (by simp [Part.seenIn]) ((only_present_exact n 4 _).now rfl)).mpr runsFor_arm_self
  rw [retested, hcarry]
  unfold runsFor at hrun ⊢
  have hsum : (elapse ms (present_ n 4 (arm (.ccShortRe n) sec d))).now + (sec - ms) = (present_ n 4 (arm (.ccShortRe n) sec d)).now + sec := by
    show (present_ n 4 (arm (.ccShortRe n) sec d)).now + ms + (sec - ms) = _
    have : ms ≤ sec := by decide
    omega
  rw [hsum]
  exact hrun

end

/-! ### What the debounce, its end and a detach answer -/

theorem ccDebounce_answers (s : State) (n : CPort) (cc1 cc2 : CcLine) (hruns : portRuns s.dev n.val = true)
    (hidle : (cable s.dev n.val).typec = .unattached) :
    (cc1 ≠ .ra → cc2 ≠ .ra → (cc1 = .rd ∨ cc2 = .rd ∨ isRp cc1 = true ∨ isRp cc2 = true) →
      Answers (.ccDebounce n cc1 cc2) s fun t =>
        cable t n.val = { cable s.dev n.val with typec := .attachWait, cc1 := cc1, cc2 := cc2 } ∧
        runsFor (.ccDebounce n.val) (150 * ms) t ∧ armed (.drp n.val) t = false ∧
        (∀ m : Nat, m ≠ n.val → cable t m = cable s.dev m) ∧ t.shep = s.dev.shep ∧ BesidePort t s.dev ∧ SameSwitch t s.dev ∧
        SameTime t s.dev ∧ SameAon t s.dev) ∧
    ((cc1 = .ra ∨ cc2 = .ra) → (cable s.dev n.val).rpNow = 2 →
      Answers (.ccDebounce n cc1 cc2) s fun t =>
        cable t n.val = { cable s.dev n.val with
          typec := (cable t n.val).typec, cc1 := cc1, cc2 := cc2, rpNow := raiseCode cc1 cc2, presentRp := true } ∧
        Emission.cc n (raiseCode cc1 cc2) ∈ t.out ∧ runsFor (.ccShort n.val) ms t ∧
        (cc1 = .ra → cc2 = .ra → (cable t n.val).typec = .attachWait) ∧
        (cc1 = .nothing ∨ cc2 = .nothing → (cable t n.val).typec = .unattached) ∧
        (∀ m : Nat, m ≠ n.val → cable t m = cable s.dev m) ∧ t.shep = s.dev.shep ∧ BesidePort t s.dev ∧ SameSwitch t s.dev ∧
        SameTime t s.dev ∧ SameAon t s.dev) := by
  refine ⟨fun h1 h2 hshows => ?_, fun hra hrp => ?_⟩
  · have hnone : (!(shows cc1 || shows cc2 || (cc1 == .ra && cc2 == .ra))) = false := by
      unfold shows
      obtain h | h | h | h := hshows <;> simp [h]
    have heff : ccDebounce n.val cc1 cc2 (hush s.dev) = waiting n.val (seen n.val cc1 cc2 (hush s.dev)) := by
      rw [ccDebounce_unattached (d := hush s.dev) hruns hidle, shortTestStart_of_no_ra h1 h2, hnone, if_neg (by decide)]
    refine answers_of_effect rfl heff ?_
    have hall := only_settled (d := s.dev) ((only_waiting n.val (seen n.val cc1 cc2 (hush s.dev))).trans
      (show Only (debounceParts n.val) (seen n.val cc1 cc2 (hush s.dev)) (hush s.dev) by simp [seen]))
    refine ⟨?_, runsFor_settle.mpr (runsFor_waiting _ _), ?_, hall.otherCables n.val (fun m hm => by simp [Part.seenIn, hm.symm]), hall.shep rfl,
      hall.besidePort rfl, hall.sameSwitch rfl, hall.sameTime rfl, hall.sameAon rfl⟩
    · rw [cable_settle, cable_waiting, seen, cable_setCable_self]
      rfl
    · rw [armed_settle]
      exact not_armed_waiting _ _
  · have heff : ccDebounce n.val cc1 cc2 (hush s.dev) =
        if !(shows cc1 || shows cc2 || (cc1 == .ra && cc2 == .ra)) then tested n.val cc1 cc2 (hush s.dev)
        else waiting n.val (tested n.val cc1 cc2 (hush s.dev)) := by
      rw [ccDebounce_unattached (d := hush s.dev) hruns hidle, shortTestStart_seen hra (by exact hrp)]
    have htested := cable_tested (d := hush s.dev) (n := n.val) (cc1 := cc1) (cc2 := cc2) hrp
    have hreach := only_tested n.val cc1 cc2 (hush s.dev)
    have htests := runsFor_tested n.val cc1 cc2 (hush s.dev)
    have hsays := mem_out_tested (d := hush s.dev) (cc1 := cc1) (cc2 := cc2) n hrp hruns
    rw [cable_hush] at htested
    generalize tested n.val cc1 cc2 (hush s.dev) = u at heff htested hreach htests hsays
    refine answers_of_effect rfl heff ?_
    by_cases hshows : (!(shows cc1 || shows cc2 || (cc1 == .ra && cc2 == .ra))) = true
    · rw [if_pos hshows]
      have hall := only_settled hreach
      refine ⟨?_, ?_, runsFor_settle.mpr htests, fun hc1 hc2 => ?_, fun _ => ?_, hall.otherCables n.val (fun m hm => by simp [Part.seenIn, hm.symm]),
        hall.shep rfl, hall.besidePort rfl, hall.sameSwitch rfl, hall.sameTime rfl, hall.sameAon rfl⟩
      · rw [cable_settle, htested]
      · rw [settle_out]
        exact hsays
      · rw [hc1, hc2] at hshows
        exact absurd hshows (by decide)
      · rw [cable_settle, htested]
        exact hidle
    · rw [if_neg hshows]
      have hwaits := cable_waiting n.val u
      have hall := only_settled ((only_waiting n.val u).trans hreach)
      have hkeeps : Only [.cable n.val, .timer (.drp n.val), .timer (.ccDebounce n.val)] (waiting n.val u) u := by simp [waiting]
      refine ⟨?_, ?_, ?_, fun _ _ => ?_, fun hbare => ?_, hall.otherCables n.val (fun m hm => by simp [Part.seenIn, hm.symm]),
        hall.shep rfl, hall.besidePort rfl, hall.sameSwitch rfl, hall.sameTime rfl, hall.sameAon rfl⟩
      · rw [cable_settle, hwaits, htested]
      · rw [settle_out, hkeeps.out rfl]
        exact hsays
      · exact runsFor_settle.mpr ((hkeeps.runsFor _ (by simp [Part.seenIn]) (hkeeps.now rfl)).mpr htests)
      · rw [cable_settle, hwaits]
      · exact absurd (shows_nothing hra hbare) hshows

theorem ccAttach_answers (s : State) (n : CPort) (cc1 cc2 : CcLine) (id : CableId) (hruns : portRuns s.dev n.val = true)
    (hwait : (cable s.dev n.val).typec = .attachWait) (harmed : armed (.ccDebounce n.val) s.dev = true) :
    (cc1 = .rd ∧ cc2 ≠ .rd → roleNow s.dev n.val ≠ 2 → (isDual n.val = true → roleNow s.dev n.val ≠ 1) →
      Answers (.ccAttach n cc1 cc2 id) s fun t =>
        (cable t n.val).typec = .attachedSrc ∧ (cable t n.val).powerRole = .source ∧ (cable t n.val).dataRole = .dfp ∧
        (cable t n.val).orientation = 1 ∧ (cable t n.val).gateOn = (cable s.dev n.val).gateOn ∧
        (cable t n.val).vbusWait = true ∧ (cable t n.val).guardFresh = false ∧
        (cable t n.val).booked = (cable s.dev n.val).booked ∧ (cable t n.val).emark = cableByte id ∧
        (swPort t n.val).fenced = true ∧ runsFor (.guard n.val) 0 t ∧ (∀ m : Nat, m ≠ n.val → cable t m = cable s.dev m) ∧
        BesidePort t s.dev) ∧
    (cc1 = .rd ∧ cc2 ≠ .rd → isDual n.val = true → roleNow s.dev n.val = 1 →
      Answers (.ccAttach n cc1 cc2 id) s fun t => (cable t n.val).typec = .trySnk ∧ (cable t n.val).rpNow = 1 ∧
        runsFor (.tryWait n.val) (100 * ms) t ∧ (∀ m : Nat, m ≠ n.val → cable t m = cable s.dev m) ∧ BesidePort t s.dev) ∧
    (isRp cc1 = true → isRp cc2 = false → cc2 ≠ .rd → isDual n.val = true → roleNow s.dev n.val ≠ 3 →
      let ma := if isHalted s.dev then min (lineMa cc1) 1500 else lineMa cc1
      Answers (.ccAttach n cc1 cc2 id) s fun t =>
        (cable t n.val).typec = .attachedSnk ∧ (cable t n.val).powerRole = .sink ∧ (cable t n.val).dataRole = .ufp ∧
        (cable t n.val).contract = .implicit ∧ (cable t n.val).mv = 5000 ∧ (cable t n.val).ma = ma ∧
        (cable t n.val).booked = 5 * ma ∧ (cable t n.val).gateOn = decide ((cable s.dev n.val).path ≠ .latched) ∧
        (cable t n.val).discharge = false ∧ (swPort t n.val).fenced = true ∧
        (∀ m : Nat, m ≠ n.val → cable t m = cable s.dev m) ∧ BesidePort t s.dev) ∧
    (cc1 = .ra → cc2 = .ra →
      Answers (.ccAttach n cc1 cc2 id) s fun t => (cable t n.val).typec = .accessory ∧ (cable t n.val).accessory = 1 ∧
        (cable t n.val).powerRole = (cable s.dev n.val).powerRole ∧ (cable t n.val).gateOn = (cable s.dev n.val).gateOn ∧
        (∀ m : Nat, m ≠ n.val → cable t m = cable s.dev m) ∧ BesidePort t s.dev) ∧
    ((cc1 = .rd ∧ cc2 = .rd) ∨ (isRp cc1 = true ∧ isRp cc2 = true) →
      Answers (.ccAttach n cc1 cc2 id) s fun t => (cable t n.val).typec = .accessory ∧ (cable t n.val).accessory = 2 ∧
        (cable t n.val).powerRole = (cable s.dev n.val).powerRole ∧ (cable t n.val).gateOn = (cable s.dev n.val).gateOn ∧
        (∀ m : Nat, m ≠ n.val → cable t m = cable s.dev m) ∧ BesidePort t s.dev) := by
  have heff := ccAttach_attachWait (d := hush s.dev) (cc1 := cc1) (cc2 := cc2) id hruns hwait harmed
  have hcable := cable_debounced n.val cc1 cc2 id (hush s.dev)
  have hreach := only_debounced n.val cc1 cc2 id (hush s.dev)
  rw [cable_hush] at hcable
  generalize debounced n.val cc1 cc2 id (hush s.dev) = u at heff hcable hreach
  have hrole : roleNow u n.val = roleNow s.dev n.val := (roleNow_congr (hreach.boot rfl) (hreach.cfg rfl) n.val).trans rfl
  rw [hrole] at heff
  have haccessory (k : Nat) (h : ccAttach n.val cc1 cc2 id (hush s.dev) = accessory n.val k u) :
      Answers (.ccAttach n cc1 cc2 id) s fun t => (cable t n.val).typec = .accessory ∧ (cable t n.val).accessory = k ∧
        (cable t n.val).powerRole = (cable s.dev n.val).powerRole ∧ (cable t n.val).gateOn = (cable s.dev n.val).gateOn ∧
        (∀ m : Nat, m ≠ n.val → cable t m = cable s.dev m) ∧ BesidePort t s.dev := by
    refine answers_of_target rfl h ?_
    have hall := only_settled_target (d := s.dev) ((show Only (ccParts n.val) (accessory n.val k u) u by simp [accessory]).trans hreach)
    rw [cable_settle, cable_followTarget, accessory, cable_setCable_self, cable_disarm, hcable]
    exact ⟨rfl, rfl, rfl, rfl, hall.otherCables n.val (fun m hm => by simp [Part.seenIn, hm.symm]), hall.besidePort rfl⟩
  refine ⟨fun ⟨h1, h2⟩ hnot hdual => ?_, fun ⟨h1, h2⟩ hdual htry => ?_, fun h1 h2 h3 hdual hnot => ?_, fun h1 h2 => ?_, fun hboth => ?_⟩
  · subst h1
    rw [if_neg (by simp), if_neg (by simp [h2, isRp]), if_pos (.inl rfl), if_neg hnot, if_neg (fun h => hdual h.1 h.2), if_pos rfl] at heff
    refine answers_of_target rfl heff ?_
    obtain ⟨hsourced, hfenced, hruns', hgoes⟩ := attachSource_attaches n.val 1 u
    have hall := only_settled_target (d := s.dev) ((hgoes.mono (by simp)).trans hreach)
    generalize attachSource n.val 1 u = v at hsourced hfenced hruns' hall
    rw [hcable] at hsourced
    rw [cable_settle, cable_followTarget]
    exact ⟨hsourced.typec, hsourced.role, hsourced.dataRole, hsourced.orientation, hsourced.gate, hsourced.waits, hsourced.stale,
      hsourced.booked, hsourced.emark, fenced_target hfenced, runsFor_target rfl hruns',
      hall.otherCables n.val (fun m hm => by simp [Part.seenIn, hm.symm]), hall.besidePort rfl⟩
  · subst h1
    rw [if_neg (by simp), if_neg (by simp [h2, isRp]), if_pos (.inl rfl), if_neg (by omega), if_pos ⟨hdual, htry⟩] at heff
    refine answers_of_target rfl heff ?_
    have hrp := rpNow_present n.val 1 (setCable n.val (fun c => { c with typec := .trySnk }) u)
    have hsame := unsaid_present n.val 1 (setCable n.val (fun c => { c with typec := .trySnk }) u) n.val
    have hgoes := only_present_exact n.val 1 (setCable n.val (fun c => { c with typec := .trySnk }) u)
    rw [cable_setCable_self] at hsame
    have hall := only_settled_target (d := s.dev) ((show Only (ccParts n.val) (arm (.tryWait n.val) tTrySnk
      (present_ n.val 1 (setCable n.val (fun c => { c with typec := .trySnk }) u))) u from
        (only_arm _ _ (by simp)).mpr ((hgoes.mono (by simp)).trans (by simp))).trans hreach)
    rw [cable_settle, cable_followTarget, cable_arm]
    exact ⟨typec_of_unsaid hsame, hrp, runsFor_target rfl runsFor_arm_self,
      hall.otherCables n.val (fun m hm => by simp [Part.seenIn, hm.symm]), hall.besidePort rfl⟩
  · have h1ra : cc1 ≠ .ra := fun h => by rw [h] at h1; exact absurd h1 (by decide)
    have h1rd : cc1 ≠ .rd := fun h => by rw [h] at h1; exact absurd h1 (by decide)
    rw [if_neg (by simp [h1ra]), if_neg (by simp [h1rd, h2]), if_neg (by simp [h1rd, h3]), if_pos (by simp [h1, hdual, hnot]), if_pos h1,
      if_pos h1] at heff
    refine answers_of_target rfl heff ?_
    obtain ⟨hsunk, hfenced, hgoes⟩ := attachSink_attaches n.val 1 (lineMa cc1) u
    have hall := only_settled_target (d := s.dev) ((hgoes.mono (by simp)).trans hreach)
    have hma : sinkMa u (lineMa cc1) = if isHalted s.dev then min (lineMa cc1) 1500 else lineMa cc1 := by
      unfold sinkMa isHalted
      rw [hreach.boot rfl]
      rfl
    generalize attachSink n.val 1 (lineMa cc1) u = v at hsunk hfenced hall
    rw [hma, hcable] at hsunk
    show _ ∧ _
    rw [cable_settle, cable_followTarget]
    exact ⟨hsunk.typec, hsunk.role, hsunk.dataRole, hsunk.contract, hsunk.mv, hsunk.ma, hsunk.booked, hsunk.gate, hsunk.discharge,
      fenced_target hfenced, hall.otherCables n.val (fun m hm => by simp [Part.seenIn, hm.symm]), hall.besidePort rfl⟩
  · rw [if_pos ⟨h1, h2⟩] at heff
    exact haccessory 1 heff
  · have hra : ¬ (cc1 = .ra ∧ cc2 = .ra) := by
      rintro ⟨rfl, rfl⟩
      exact absurd hboth (by decide)
    rw [if_neg hra, if_pos (by simpa using hboth)] at heff
    exact haccessory 2 heff

theorem ccDetach_answers (s : State) (n : CPort) (hruns : portRuns s.dev n.val = true) :
    ((cable s.dev n.val).typec ≠ .unattached → (cable s.dev n.val).typec ≠ .errorRecovery →
      (cable s.dev n.val).typec ≠ .ccShort →
      Answers (.ccDetach n) s fun t =>
        (cable t n.val).typec = .unattached ∧ (cable t n.val).booked = 0 ∧ (cable t n.val).claim = 0 ∧
        (cable t n.val).contract = .none ∧ (cable t n.val).gateOn = false ∧ (cable t n.val).vconn = 0 ∧
        (cable t n.val).podOpen = false ∧ (cable t n.val).pod = .none ∧ (cable t n.val).profileId = 0 ∧
        isFault (cable t n.val).path = false ∧ (cable t n.val).retriesLeft = 3 ∧ (cable t n.val).pdFail = false ∧
        (swPort t n.val).fenced = true ∧ (swPort t n.val).link = false ∧ OthersStand n.val t s.dev ∧ BesidePort t s.dev) ∧
    ((cable s.dev n.val).typec = .unattached ∨ (cable s.dev n.val).typec = .errorRecovery ∨
      (cable s.dev n.val).typec = .ccShort →
      Answers (.ccDetach n) s fun t =>
        (cable t n.val).typec = (cable s.dev n.val).typec ∧ (cable t n.val).cc1 = .nothing ∧ (cable t n.val).cc2 = .nothing ∧
        isFault (cable t n.val).path = false ∧ (cable t n.val).retriesLeft = 3 ∧ (cable t n.val).pdFail = false ∧
        (∀ m : Nat, m ≠ n.val → cable t m = cable s.dev m) ∧ BesidePort t s.dev) := by
  refine ⟨fun h1 h2 h3 => ?_, fun hidle => ?_⟩
  · refine answers_of_target rfl (ccDetach_attached (d := hush s.dev) hruns h1 h2 h3) ?_
    have hrested := rested_atRest n.val (hush s.dev)
    have hfence := fenced_teardown n.val (hush s.dev)
    have hlink := link_teardown n.val (hush s.dev)
    have hrest := only_atRest n.val (hush s.dev)
    have htear := only_teardown_self n.val (hush s.dev)
    generalize teardown n.val (hush s.dev) = v at hfence hlink hrest htear
    generalize atRest n.val (hush s.dev) = u at hrested hrest
    have hall := only_settled_target (d := s.dev) ((hrest.mono (by simp [Part.covers])).trans htear)
    have hlink' : (swPort (settle (followTarget u)) n.val).link = (swPort v n.val).link :=
      SameLinks.of_fab ((show Only (.odBook :: .irq :: targetParts) (settle (followTarget u)) u by simp).fab rfl |>.trans (hrest.fab rfl)) n.val
    rw [cable_settle, cable_followTarget]
    exact ⟨hrested.typec, hrested.booked, hrested.claim, hrested.contract, hrested.gate, hrested.vconn, hrested.podOpen, hrested.pod,
      hrested.profile, hrested.ended.path, hrested.ended.retries, hrested.ended.pdFail, fenced_target ((hrest.fenced n.val rfl).trans hfence),
      hlink'.trans hlink, hall.othersStand n.val (fun m hm => by simp [Part.seenIn, hm.symm]), hall.besidePort rfl⟩
  · refine answers_of_target rfl (ccDetach_idle (d := hush s.dev) hruns hidle) ?_
    obtain ⟨hended, htypec, hcc1, hcc2⟩ := cable_bareLines n.val (hush s.dev)
    have hall := only_settled_target (d := s.dev) (u := bareLines n.val (hush s.dev)) (S := portParts n.val) (by simp [bareLines, ladderEnds])
    generalize bareLines n.val (hush s.dev) = u at hended htypec hcc1 hcc2 hall
    rw [cable_settle, cable_followTarget]
    exact ⟨htypec, hcc1, hcc2, hended.path, hended.retries, hended.pdFail,
      hall.otherCables n.val (fun m hm => by simp [Part.seenIn, hm.symm]), hall.besidePort rfl⟩

/-- Settles O34. -/
theorem cableAttach : Obligations.CableAttach := by
  unfold Obligations.CableAttach
  refine ⟨ccDebounce_answers, fun s n cc1 cc2 hboot hn => ?_, ccAttach_answers, ccDetach_answers,
    fun s n harmed hruns hdual hidle hrole => ?_, fun s n harmed htrying => ?_, fun s n harmed hmany hfew => ?_, fun s n harmed => ?_,
    fun s n harmed hruns => ⟨?_, ?_⟩, fun s n harmed hshort => ⟨?_, ?_⟩⟩
  · refine answers_of_effect rfl (ccDebounce_booting (d := hush s.dev) (cc1 := cc1) (cc2 := cc2) hboot hn) ?_
    have hall := only_settled (d := s.dev) (S := [.cable n.val, .boot])
      (u := onBoot (fun b => { b with latched := b.latched ||| BitVec.ofNat 6 (2 ^ n.val) }) (seen n.val cc1 cc2 (hush s.dev))) (by simp [seen])
    refine ⟨?_, ?_, hall.otherCables n.val (fun m hm => by simp [Part.seenIn, hm.symm]), hall.sameSwitch rfl, hall.sameStores rfl,
      hall.sameTime rfl, hall.aon rfl⟩
    · rw [settle_boot]
      rfl
    · rw [cable_settle, seen, show cable (onBoot _ (setCable n.val _ (hush s.dev))) n.val = cable (setCable n.val _ (hush s.dev)) n.val from rfl,
        cable_setCable_self]
      rfl
  · have heff : drpToggle n.val (hush s.dev) =
        presentIdle n.val (setCable n.val (fun c => { c with drpRp := !c.drpRp }) (expired (.drp n.val) s.dev)) := by
      unfold drpToggle
      rw [onExpiry_hush_of_armed harmed]
      refine if_pos ?_
      have hruns' : portRuns (expired (.drp n.val) s.dev) n.val = true := (portRuns_congr rfl rfl n.val).trans hruns
      have hrole' : roleNow (expired (.drp n.val) s.dev) n.val = roleNow s.dev n.val := roleNow_congr rfl (fun _ _ => rfl) n.val
      rw [hruns', hrole', cable_expired, hidle, hdual]
      simpa using hrole
    refine answers_of_effect rfl heff ?_
    have hcable := cable_setCable_self n.val (fun c => { c with drpRp := !c.drpRp }) (expired (.drp n.val) s.dev)
    have hreach : Only [.cable n.val] (setCable n.val (fun c => { c with drpRp := !c.drpRp }) (expired (.drp n.val) s.dev)) (expired (.drp n.val) s.dev) := by
      simp
    have hrole' : roleNow (setCable n.val (fun c => { c with drpRp := !c.drpRp }) (expired (.drp n.val) s.dev)) n.val = roleNow s.dev n.val :=
      roleNow_congr rfl (fun _ _ => rfl) n.val
    have hinitial : rpInitial (setCable n.val (fun c => { c with drpRp := !c.drpRp }) (expired (.drp n.val) s.dev)) n.val = rpInitial s.dev n.val := rfl
    rw [cable_expired] at hcable
    generalize setCable n.val (fun c => { c with drpRp := !c.drpRp }) (expired (.drp n.val) s.dev) = u at hcable hreach hrole' hinitial
    have hidles := presentIdle_toggles (d := u) (n := n.val) (by omega)
    have hsame := unsaid_presentIdle n.val u
    have hall := only_settled_expired (d := s.dev) ((only_presentIdle_rest n.val u).trans (hreach.mono (by simp)))
    obtain ⟨hrp, hrun⟩ := hidles
    rw [hcable] at hsame hrp
    rw [hinitial] at hrp
    generalize presentIdle n.val u = v at hsame hrp hrun hall
    rw [cable_settle]
    refine ⟨(congrArg Cable.drpRp hsame :), hrp.trans ?_, runsFor_settle.mpr hrun,
      hall.otherCables n.val (fun m hm => by simp [Part.seenIn, hm.symm]), hall.besidePort rfl, hall.sameSwitch rfl, hall.aon rfl, hall.boot rfl⟩
    cases (cable s.dev n.val).drpRp <;> rfl
  · have heff : trySnkTimeout n.val (hush s.dev) =
        attachSource n.val (if (cable s.dev n.val).cc1 = .rd then 1 else 2) (expired (.tryWait n.val) s.dev) := by
      unfold trySnkTimeout
      rw [onExpiry_hush_of_armed harmed]
      exact if_neg (not_not.mpr htrying)
    refine answers_of_target rfl heff ?_
    obtain ⟨hsourced, hfenced, hruns, hgoes⟩ :=
      attachSource_attaches n.val (if (cable s.dev n.val).cc1 = .rd then 1 else 2) (expired (.tryWait n.val) s.dev)
    have hall := only_settled_target_expired (d := s.dev) hgoes
    generalize attachSource n.val (if (cable s.dev n.val).cc1 = .rd then 1 else 2) (expired (.tryWait n.val) s.dev) = v at hsourced hfenced hruns hall
    rw [cable_settle, cable_followTarget]
    exact ⟨hsourced.typec, hsourced.role, hsourced.orientation, hsourced.waits, fenced_target hfenced, runsFor_target rfl hruns,
      hall.otherCables n.val (fun m hm => by simp [Part.seenIn, hm.symm]), hall.besidePort rfl⟩
  · have heff : errorRecovery n.val (hush s.dev) = enterErrorRecovery n.val
        (setCable n.val (fun c => { c with recoveries := c.recoveries + 1 }) (expired (.noResponse n.val) s.dev)) := by
      unfold errorRecovery
      rw [onExpiry_hush_of_armed harmed]
      unfold noResponse
      rw [cable_expired]
      exact (if_neg (by omega)).trans (if_pos hfew)
    refine answers_of_target rfl heff ?_
    have hcable := cable_setCable_self n.val (fun c => { c with recoveries := c.recoveries + 1 }) (expired (.noResponse n.val) s.dev)
    have hreach : Only [.cable n.val] (setCable n.val (fun c => { c with recoveries := c.recoveries + 1 }) (expired (.noResponse n.val) s.dev))
      (expired (.noResponse n.val) s.dev) := by simp
    generalize setCable n.val (fun c => { c with recoveries := c.recoveries + 1 }) (expired (.noResponse n.val) s.dev) = u at hcable hreach
    obtain ⟨htypec, hcount, hgate, hbooked, hrp⟩ := cable_enterErrorRecovery n.val u
    have hrun := runsFor_enterErrorRecovery n.val u
    have hall := only_settled_target_expired (d := s.dev) ((show Only (teardownParts n.val) (enterErrorRecovery n.val u) u by simp).trans
      (hreach.mono (by simp)))
    generalize enterErrorRecovery n.val u = v at htypec hcount hgate hbooked hrp hrun hall
    rw [hcable] at hcount
    rw [cable_settle, cable_followTarget]
    exact ⟨htypec, hcount, hgate, hbooked, hrp, runsFor_target rfl hrun, hall.othersStand n.val (fun m hm => by simp [Part.seenIn, hm.symm]),
      hall.besidePort rfl⟩
  · refine answers_of_expiry rfl harmed ?_
    have hcable := cable_setCable_self n.val (fun c => { c with typec := .unattached, resetting := false }) (expired (.errRec n.val) s.dev)
    have hreach : Only [.cable n.val] (setCable n.val (fun c => { c with typec := .unattached, resetting := false }) (expired (.errRec n.val) s.dev))
      (expired (.errRec n.val) s.dev) := by simp
    generalize setCable n.val (fun c => { c with typec := .unattached, resetting := false }) (expired (.errRec n.val) s.dev) = u at hcable hreach
    have hsame := unsaid_presentIdle n.val u
    have hall := only_settled_expired (d := s.dev) ((only_presentIdle_rest n.val u).trans (hreach.mono (by simp)))
    generalize presentIdle n.val u = v at hsame hall
    rw [hcable] at hsame
    rw [cable_settle]
    exact ⟨typec_of_unsaid hsame, (congrArg Cable.resetting hsame :), hall.otherCables n.val (fun m hm => by simp [Part.seenIn, hm.symm]),
      hall.besidePort rfl, hall.sameSwitch rfl, hall.aon rfl, hall.boot rfl⟩
  · have hlow := only_lowered n.val (expired (.ccShort n.val) s.dev)
    obtain ⟨hcable, -⟩ := cable_lowered n.val (expired (.ccShort n.val) s.dev)
    have heff : ccShortTest n.val true (hush s.dev) = enterCcShort n.val (lowered n.val (expired (.ccShort n.val) s.dev)) := by
      unfold ccShortTest
      rw [onExpiry_hush_of_armed harmed]
      refine if_pos ?_
      have : portRuns (lowered n.val (expired (.ccShort n.val) s.dev)) n.val = true :=
        (portRuns_congr (hlow.boot rfl) (hlow.otp rfl) n.val).trans hruns
      exact this
    refine answers_of_target rfl heff ?_
    generalize lowered n.val (expired (.ccShort n.val) s.dev) = u at hlow hcable
    rw [cable_expired] at hcable
    obtain ⟨htypec, hcount, hgate, hvconn, hbooked, hrp⟩ := cable_enterCcShort n.val u
    have hrun : runsFor (.ccShortRe n.val) sec (enterCcShort n.val u) := runsFor_arm_self
    have hall := only_settled_target_expired (d := s.dev) ((only_enterCcShort_self n.val u).trans (hlow.mono (by simp)))
    generalize enterCcShort n.val u = v at htypec hcount hgate hvconn hbooked hrp hrun hall
    rw [hcable] at hcount
    rw [cable_settle, cable_followTarget]
    exact ⟨htypec, hcount, hgate, hvconn, hbooked, hrp, runsFor_target rfl hrun,
      hall.othersStand n.val (fun m hm => by simp [Part.seenIn, hm.symm]), hall.besidePort rfl⟩
  · have heff : ccShortTest n.val false (hush s.dev) = lowered n.val (expired (.ccShort n.val) s.dev) := by
      unfold ccShortTest
      rw [onExpiry_hush_of_armed harmed]
      rfl
    refine answers_of_target rfl heff ?_
    have hlow := only_lowered n.val (expired (.ccShort n.val) s.dev)
    obtain ⟨hcable, hrp⟩ := cable_lowered n.val (expired (.ccShort n.val) s.dev)
    have hall := only_settled_target_expired (d := s.dev) hlow
    rw [cable_expired] at hcable hrp
    have hshep : (settle (followTarget (lowered n.val (expired (.ccShort n.val) s.dev)))).shep = s.dev.shep := hall.shep rfl
    generalize lowered n.val (expired (.ccShort n.val) s.dev) = u at hlow hcable hrp hall hshep
    rw [cable_settle, cable_followTarget]
    exact ⟨hcable, hrp, hall.otherCables n.val (fun m hm => by simp [Part.seenIn, hm.symm]), hshep, hall.besidePort rfl, hall.sameSwitch rfl⟩
  · have heff : ccShortRetest n.val true (hush s.dev) = retested n.val (expired (.ccShortRe n.val) s.dev) := by
      unfold ccShortRetest
      rw [onExpiry_hush_of_armed harmed]
      exact if_neg (not_not.mpr hshort)
    refine answers_of_effect rfl heff ?_
    have hall := only_settled_expired (d := s.dev) (only_retested n.val (expired (.ccShortRe n.val) s.dev))
    have hcable := cable_retested n.val (expired (.ccShortRe n.val) s.dev)
    have hrun := runsFor_retested n.val (expired (.ccShortRe n.val) s.dev)
    generalize retested n.val (expired (.ccShortRe n.val) s.dev) = u at hall hcable hrun
    rw [cable_settle]
    exact ⟨hcable, runsFor_settle.mpr hrun, hall.otherCables n.val (fun m hm => by simp [Part.seenIn, hm.symm]), hall.shep rfl,
      hall.besidePort rfl, hall.sameSwitch rfl⟩
  · have heff : ccShortRetest n.val false (hush s.dev) = presentIdle n.val (setCable n.val (fun c => { c with typec := .unattached })
        (disarm (.ccShortRe n.val) (retested n.val (expired (.ccShortRe n.val) s.dev)))) := by
      unfold ccShortRetest
      rw [onExpiry_hush_of_armed harmed]
      exact if_neg (not_not.mpr hshort)
    refine answers_of_effect rfl heff ?_
    have hretest := only_retested n.val (expired (.ccShortRe n.val) s.dev)
    generalize retested n.val (expired (.ccShortRe n.val) s.dev) = u at hretest
    have hcable := cable_setCable_self n.val (fun c => { c with typec := .unattached }) (disarm (.ccShortRe n.val) u)
    have hstill : armed (.ccShortRe n.val) (setCable n.val (fun c => { c with typec := .unattached }) (disarm (.ccShortRe n.val) u)) = false :=
      armed_disarm_self _ _
    have hreach : Only [.cable n.val, .timer (.ccShortRe n.val)] (setCable n.val (fun c => { c with typec := .unattached }) (disarm (.ccShortRe n.val) u)) u := by
      simp
    generalize setCable n.val (fun c => { c with typec := .unattached }) (disarm (.ccShortRe n.val) u) = v at hcable hstill hreach
    have hsame := unsaid_presentIdle n.val v
    have hidles := only_presentIdle_rest n.val v
    have hall := only_settled_expired (d := s.dev) (S := [.cable n.val, .out, .now, .tm, .timer (.ccShortRe n.val), .timer (.drp n.val)])
      ((hidles.mono (by simp)).trans ((hreach.mono (by simp)).trans (hretest.mono (by simp))))
    have hquiet := (hidles.armed (.ccShortRe n.val) (by simp [Part.seenIn])).trans hstill
    generalize presentIdle n.val v = w at hsame hall hquiet
    rw [hcable] at hsame
    rw [cable_settle, armed_settle]
    exact ⟨typec_of_unsaid hsame, hquiet, hall.otherCables n.val (fun m hm => by simp [Part.seenIn, hm.symm]), hall.shep rfl,
      hall.besidePort rfl, hall.sameSwitch rfl⟩

end Sys2Proof.Proofs.CableAttach


/-! SUPPORT. Receiving a message (chapter 7, R251, R253): a device that has heard one, and what answers it. -/

namespace Sys2Proof.Proofs.PdReceiving

open Sys2Proof Sys2Proof.Machine Sys2Proof.Safety
open Sys2Proof.Proofs.StepAndTimers
open Sys2Proof.Proofs.ShapersAndTally
open Sys2Proof.Proofs.Frames
open Sys2Proof.Proofs.Running
open Sys2Proof.Proofs.Shepherd
open Sys2Proof.Proofs.PdMessages
open Sys2Proof.Proofs.PortEvents

section
variable {S : List Part} {t u v d e : Dev} {n : CPort} {id : BitVec 3} {m : PdMsg} {c : Instr} {s : State} {f : Dev → Dev} {P : Dev → Prop}

/-! ### A message is heard -/

theorem runs_of_listens {n : Nat} (h : pdListens d n = true) : portRuns d n = true := by
  simp only [pdListens, Bool.and_eq_true] at h
  obtain ⟨⟨⟨⟨hruns, -⟩, -⟩, -⟩, -⟩ := h
  exact hruns

theorem held_of_listens {n : Nat} (h : pdListens d n = true) : portHeld d n = false := portHeld_of_runs (runs_of_listens h)

theorem emit_pd (hheld : portHeld d n.val = false) : emit (.pd n m) d = { d with out := d.out ++ [.pd n m] } := by
  unfold emit
  rw [show heldSilent d (.pd n m) = false from hheld]
  rfl

/-- The device once a message's GoodCRC is out and its MessageID is stored. -/
def heard (n : CPort) (id : BitVec 3) (d : Dev) : Dev :=
  setCable n.val (fun c => { c with rxId := some id }) { d with out := d.out ++ [.pd n (.goodCrc id)] }

theorem ofNat_val (n : CPort) : Fin.ofNat 8 n.val = n := Fin.ext (Nat.mod_eq_of_lt n.isLt)

/-- A new message is acted on. -/
theorem pdReceive_new (h : Hears d n.val id) : pdReceive n.val id f d = f (heard n id d) := by
  obtain ⟨hlistens, hnew, hbist⟩ := h
  unfold pdReceive
  dsimp only
  rw [if_neg (by simp [hlistens]), if_neg hnew, if_neg hbist, ofNat_val, emit_pd (held_of_listens hlistens)]
  rfl

/-- A repeated one gets its GoodCRC and nothing more. -/
theorem pdReceive_again (hlistens : pdListens d n.val = true) (hold : (cable d n.val).rxId = some id) :
    pdReceive n.val id f d = { d with out := d.out ++ [.pd n (.goodCrc id)] } := by
  unfold pdReceive
  dsimp only
  rw [if_neg (by simp [hlistens]), if_pos hold, ofNat_val, emit_pd (held_of_listens hlistens)]

@[simp] theorem cable_heard (n : CPort) (id : BitVec 3) (d : Dev) :
    cable (heard n id d) n.val = { cable d n.val with rxId := some id } := cable_setCable_self n.val _ _

theorem only_heard (n : CPort) (id : BitVec 3) (d : Dev) : Only [.cable n.val, .out] (heard n id d) d :=
  (only_setCable _ _ (by simp)).mpr ((only_out (d.out ++ [.pd n (.goodCrc id)]) (by simp)).mpr (.refl _ d))

theorem out_heard (n : CPort) (id : BitVec 3) (d : Dev) : (heard n id (hush d)).out = [.pd n (.goodCrc id)] := rfl

/-! ### Its answer -/

/-- The parts of a port's own exchange. -/
@[simp] def exchangeParts (n : Nat) : List Part := [.cable n, .timersOf (.port n), .out, .shep, .free]

/-- A device from which a port answers the message it heard: what the port carries stands, and its wire is as it was. -/
structure Answering (n : CPort) (v d : Dev) : Prop where
  only : Only (exchangeParts n.val) v d
  contract : (cable v n.val).contract = (cable d n.val).contract
  booked : (cable v n.val).booked = (cable d n.val).booked
  gate : (cable v n.val).gateOn = (cable d n.val).gateOn
  quiet : (cable v n.val).lastSent = (cable d n.val).lastSent

theorem Answering.trans (h : Answering n v u) (h' : Answering n u d) : Answering n v d :=
  ⟨h.only.trans h'.only, h.contract.trans h'.contract, h.booked.trans h'.booked, h.gate.trans h'.gate, h.quiet.trans h'.quiet⟩

theorem Answering.of_cable (honly : Only (exchangeParts n.val) v d) {f : Cable → Cable} (hcable : cable v n.val = f (cable d n.val))
    (hf : ∀ c, (f c).contract = c.contract ∧ (f c).booked = c.booked ∧ (f c).gateOn = c.gateOn ∧ (f c).lastSent = c.lastSent) : Answering n v d := by
  obtain ⟨hcontract, hbooked, hgate, hquiet⟩ := hf (cable d n.val)
  exact ⟨honly, by rw [hcable, hcontract], by rw [hcable, hbooked], by rw [hcable, hgate], by rw [hcable, hquiet]⟩

theorem answering_heard (n : CPort) (id : BitVec 3) (d : Dev) : Answering n (heard n id d) d :=
  .of_cable ((only_heard n id d).mono (by simp)) (f := fun c => { c with rxId := some id }) (cable_heard n id d) fun _ => ⟨rfl, rfl, rfl, rfl⟩

theorem answering_setCable {f : Cable → Cable}
    (hf : ∀ c, (f c).contract = c.contract ∧ (f c).booked = c.booked ∧ (f c).gateOn = c.gateOn ∧ (f c).lastSent = c.lastSent) :
    Answering n (setCable n.val f d) d := .of_cable (by simp) (cable_setCable_self n.val f d) hf

theorem answering_disarm {tm : Timer} (htm : Owner.of tm = .port n.val) : Answering n (disarm tm d) d :=
  by
  have hcovers : Part.covers (.timersOf (.port n.val)) (.timer tm) = true := decide_eq_true htm
  have hwithin : Within [.timer tm] [.timersOf (.port n.val)] = true := by
    show ((Part.covers _ _ || false) && true) = true
    rw [hcovers]
    rfl
  exact ⟨((only_disarm tm hwithin).mpr (.refl _ d)).mono (by simp), rfl, rfl, rfl, rfl⟩

/-- A port that has answered what it heard. -/
theorem replies_of (hruns : portRuns d n.val = true) (hv : Answering n v (hush d)) (honly : Only (exchangeParts n.val) u v)
    (hkeeps : unsaid (cable u n.val) = unsaid (cable v n.val))
    (hsays : portHeld v n.val = false → (cable v n.val).lastSent = none → Says n m u) : Replies n m (settle u) d := by
  have hall := only_settled (honly.trans hv.only)
  have hheld : portHeld v n.val = false := (portHeld_congr (hv.only.otp rfl) n.val).trans (portHeld_of_runs hruns)
  refine ⟨fun hquiet => says_settle (hsays hheld (hv.quiet.trans hquiet)), ?_, ?_, ?_,
    hall.otherCables n.val (fun k hk => by simp [Part.seenIn, hk.symm]), hall.sameSwitch rfl, hall.sameTime rfl, hall.sameStores rfl,
    hall.sameAon rfl⟩
  · rw [cable_settle]
    exact (congrArg Cable.contract hkeeps :).trans hv.contract
  · rw [cable_settle]
    exact (congrArg Cable.booked hkeeps :).trans hv.booked
  · rw [cable_settle]
    exact (congrArg Cable.gateOn hkeeps :).trans hv.gate

theorem only_pdSend_exchange (n : Nat) (m : PdMsg) (d : Dev) : Only (exchangeParts n) (pdSend n m d) d :=
  (only_pdSend_wire n m d).mono (by simp)

theorem replies_pdSend (hruns : portRuns d n.val = true) (hv : Answering n v (hush d)) : Replies n m (settle (pdSend n.val m v)) d :=
  replies_of hruns hv (only_pdSend_exchange _ _ _) (unsaid_pdSend _ _ _ _) fun hheld hquiet => says_pdSend n m hheld hquiet

/-- A command that hears a message and answers it. -/
theorem answers_replies_and (hexec : exec c s = run (pdReceive n.val id f) s) (h : Hears s.dev n.val id)
    (hf : f (heard n id (hush s.dev)) = pdSend n.val m v) (hv : Answering n v (heard n id (hush s.dev))) (hP : P (settle (pdSend n.val m v))) :
    Answers c s fun t => Replies n m t s.dev ∧ P t := by
  refine answers_of_effect hexec ((pdReceive_new (d := hush s.dev) h).trans hf) ⟨?_, hP⟩
  obtain ⟨hlistens, -, -⟩ := h
  exact replies_pdSend (runs_of_listens hlistens) (hv.trans (answering_heard n id _))

theorem answers_replies (hexec : exec c s = run (pdReceive n.val id f) s) (h : Hears s.dev n.val id)
    (hf : f (heard n id (hush s.dev)) = pdSend n.val m v) (hv : Answering n v (heard n id (hush s.dev))) :
    Answers c s fun t => Replies n m t s.dev :=
  answers_of_answers (answers_replies_and (P := fun _ => True) hexec h hf hv trivial) fun _ ⟨hr, _⟩ => hr

/-- The simplest answer: nothing else of the port changes. -/
theorem answers_replies_at_once (hexec : exec c s = run (pdReceive n.val id f) s) (h : Hears s.dev n.val id)
    (hf : f (heard n id (hush s.dev)) = pdSend n.val m (heard n id (hush s.dev))) : Answers c s fun t => Replies n m t s.dev :=
  answers_replies hexec h hf ⟨.refl _ _, rfl, rfl, rfl, rfl⟩

/-- A command that hears a message. -/
theorem answers_hearing (hexec : exec c s = run (pdReceive n.val id f) s) (h : Hears s.dev n.val id)
    (hf : f (heard n id (hush s.dev)) = u) (hP : P (settle u)) : Answers c s P :=
  answers_of_effect hexec ((pdReceive_new (d := hush s.dev) h).trans hf) hP

/-- What a heard message reaches, seen once the device has settled. -/
theorem only_settled_heard (h : Only S u (heard n id (hush d))) : Only (.odBook :: .irq :: .out :: .cable n.val :: S) (settle u) d :=
  only_of_subset (only_settled ((only_of_subset h fun q hq => List.mem_cons_of_mem _ (List.mem_cons_of_mem _ hq)).trans
    ((only_heard n id (hush d)).mono (S := .cable n.val :: .out :: S) (by simp)))) fun q hq => by
      simp only [List.mem_cons] at hq ⊢
      tauto

end

end Sys2Proof.Proofs.PdReceiving


/-! SUPPORT. The questions that a port answers (chapter 7, R239, R251, R255, R257 to R259). -/

namespace Sys2Proof.Proofs.PdAnswers

open Sys2Proof Sys2Proof.Machine Sys2Proof.Safety
open Sys2Proof.Proofs.StepAndTimers
open Sys2Proof.Proofs.ShapersAndTally
open Sys2Proof.Proofs.Frames
open Sys2Proof.Proofs.Running
open Sys2Proof.Proofs.Shepherd
open Sys2Proof.Proofs.PdMessages
open Sys2Proof.Proofs.PortEvents
open Sys2Proof.Proofs.PdReceiving

section
variable {S : List Part} {t u v d : Dev} {n : CPort} {id : BitVec 3} {m : PdMsg} {c : Instr} {s : State} {f : Dev → Dev} {P : Dev → Prop}

/-! ### Repeated messages -/

theorem answers_again (hexec : exec c s = run (pdReceive n.val id f) s) (hlistens : pdListens s.dev n.val = true)
    (hold : (cable s.dev n.val).rxId = some id) :
    Answers c s fun t => Became t { hush s.dev with out := [.pd n (.goodCrc id)] } :=
  answers_became hexec (pdReceive_again (d := hush s.dev) hlistens hold)

theorem vdmReceive_again {p : VdmStep → Bool} (hlistens : pdListens d n.val = true) (hold : (cable d n.val).rxId = some id) :
    vdmReceive n.val id p f d = { d with out := d.out ++ [.pd n (.goodCrc id)] } := by
  unfold vdmReceive
  exact pdReceive_again hlistens hold

/-- So do the answers to VDMs. -/
theorem vdm_again (a : VdmAnswer) (hc : c = .enterMode n ⟨id, a⟩ ∨ c = .identityRead n ⟨id, a⟩ ∨ c = .linkRate n ⟨id, a⟩ ∨ c = .epochSubscribe n ⟨id, a⟩)
    (hlistens : pdListens s.dev n.val = true) (hold : (cable s.dev n.val).rxId = some id) :
    Answers c s fun t => Became t { hush s.dev with out := [.pd n (.goodCrc id)] } := by
  have hagain {p : VdmStep → Bool} {f : Dev → Dev} := vdmReceive_again (d := hush s.dev) (p := p) (f := f) hlistens hold
  obtain rfl | rfl | rfl | rfl := hc
  · exact answers_became (f := enterMode n.val id a) rfl (by unfold enterMode; exact hagain)
  · exact answers_became (f := identityRead n.val id a) rfl (by unfold identityRead; exact hagain)
  · exact answers_became (f := linkRate n.val id a) rfl (by unfold linkRate; exact hagain)
  · exact answers_became (f := epochSubscribe n.val id a) rfl (by unfold epochSubscribe; exact hagain)

/-! ### Chunks -/

/-- A port from which the first chunk of `left` goes out. -/
def chunked (n next : Nat) (left : List Byte) (d : Dev) : Dev :=
  setCable n (fun x => { x with chunks := { left := left.drop chunkSize, next := next + 1 } }) d

theorem sendChunk_eq (n size : Nat) (d : Dev) : sendChunk n size d =
    pdSend n (.security (cable d n).chunks.next size ((cable d n).chunks.left.take chunkSize))
      (chunked n (cable d n).chunks.next (cable d n).chunks.left d) := rfl

theorem answering_chunked (next : Nat) (left : List Byte) : Answering n (chunked n.val next left d) d :=
  answering_setCable fun _ => ⟨rfl, rfl, rfl, rfl⟩

theorem chunks_pdSend (n : Nat) (m : PdMsg) (d : Dev) : (cable (pdSend n m d) n).chunks = (cable d n).chunks :=
  (congrArg Cable.chunks (unsaid_pdSend n m d n) :)

theorem chunks_chunked (n next : Nat) (left : List Byte) (d : Dev) :
    (cable (chunked n next left d) n).chunks = { left := left.drop chunkSize, next := next + 1 } := by
  rw [chunked, cable_setCable_self]

/-- A port that answers an authentication request with `octets`. -/
def answeringWith (n : Nat) (octets : List Byte) (d : Dev) : Dev :=
  chunked n 0 octets (setCable n (fun c => { c with chunks := { left := octets, next := 0 } })
    (setCable n (fun c => { c with authBusy := true }) d))

theorem authAnswer_eq (n : Nat) (octets : List Byte) (d : Dev) : authAnswer n octets d =
    pdSend n (.security 0 octets.length (octets.take chunkSize)) (answeringWith n octets d) := by
  unfold authAnswer sendSecurity
  rw [sendChunk_eq, cable_setCable_self]
  rfl

theorem cable_answeringWith (n : Nat) (octets : List Byte) (d : Dev) : cable (answeringWith n octets d) n =
    { cable d n with authBusy := true, chunks := { left := octets.drop chunkSize, next := 1 } } := by
  rw [answeringWith, chunked, cable_setCable_self, cable_setCable_self, cable_setCable_self]

theorem answering_answeringWith (octets : List Byte) : Answering n (answeringWith n.val octets d) d :=
  .of_cable (by simp [answeringWith, chunked])
    (f := fun c => { c with authBusy := true, chunks := { left := octets.drop chunkSize, next := 1 } })
    (cable_answeringWith n.val octets d) fun _ => ⟨rfl, rfl, rfl, rfl⟩

theorem answered_authAnswer (n : Nat) (octets : List Byte) (d : Dev) :
    (cable (pdSend n m (answeringWith n octets d)) n).authBusy = true ∧
    (cable (pdSend n m (answeringWith n octets d)) n).chunks = { left := octets.drop chunkSize, next := 1 } := by
  have hsame := unsaid_pdSend n m (answeringWith n octets d) n
  rw [cable_answeringWith] at hsame
  generalize cable (pdSend n m (answeringWith n octets d)) n = x at hsame ⊢
  exact ⟨(congrArg Cable.authBusy hsame :), (congrArg Cable.chunks hsame :)⟩

/-! ### Errors of authentication -/

/-- An exchange that ended in an ERROR response is counted. -/
def authRefused (d : Dev) : Dev := onShep (fun s => { s with authErrors := satInc s.authErrors }) d

theorem answering_authRefused : Answering n (authRefused d) d := ⟨by simp [authRefused], rfl, rfl, rfl, rfl⟩

theorem shep_pdSend (n : Nat) (m : PdMsg) (d : Dev) : (pdSend n m d).shep = d.shep := (only_pdSend_wire n m d).shep rfl

theorem authError_eq (n code : Nat) (d : Dev) : authError n code d = pdSend n (.security 0 4 (authHeader 0x7F code 0)) (authRefused d) := rfl

/-- An ERROR response of code `code`. -/
theorem answers_authError {code : Nat} (hexec : exec c s = run (pdReceive n.val id f) s) (h : Hears s.dev n.val id)
    (hf : f (heard n id (hush s.dev)) = authError n.val code (disarm (.chunkResp n.val) (heard n id (hush s.dev)))) :
    Answers c s fun t => Replies n (.security 0 4 (authHeader 0x7F code 0)) t s.dev ∧ t.shep.authErrors = satInc s.dev.shep.authErrors := by
  have hv : Answering n (authRefused (disarm (.chunkResp n.val) (heard n id (hush s.dev)))) (heard n id (hush s.dev)) :=
    answering_authRefused.trans (answering_disarm rfl)
  have hshep : (authRefused (disarm (.chunkResp n.val) (heard n id (hush s.dev)))).shep.authErrors = satInc s.dev.shep.authErrors := rfl
  rw [authError_eq] at hf
  generalize authRefused (disarm (.chunkResp n.val) (heard n id (hush s.dev))) = v at hf hv hshep
  refine answers_replies_and (P := fun t => t.shep.authErrors = satInc s.dev.shep.authErrors) hexec h hf hv ?_
  rw [settle_shep, shep_pdSend]
  exact hshep

/-- A message that ends the wait for its answer. -/
theorem answers_awaited (hexec : exec c s = run (pdReceive n.val id f) s) (h : Hears s.dev n.val id)
    (hf : f (heard n id (hush s.dev)) = disarm (.sender n.val) (setAwait n.val .nothing (heard n id (hush s.dev)))) :
    Answers c s fun t => armed (.sender n.val) t = false ∧
      cable t n.val = { cable s.dev n.val with rxId := some id, awaiting := .nothing } ∧ OnlyPort n.val t s.dev := by
  refine answers_hearing hexec h hf ?_
  have hall := only_settled_heard (d := s.dev) (S := portParts n.val) (n := n) (id := id)
    (u := disarm (.sender n.val) (setAwait n.val .nothing (heard n id (hush s.dev)))) (by simp)
  refine ⟨?_, ?_, onlyPort_of_only hall (fun m hm => by simp [Part.seenIn, hm.symm]) rfl⟩
  · rw [armed_settle]
    exact armed_disarm_self _ _
  · rw [cable_settle, cable_disarm, setAwait, cable_setCable_self, cable_heard]
    rfl

theorem notSupportedMsg_sinkCaps {n : Nat} (h : (cable d n).awaiting = .sinkCaps) :
    notSupportedMsg n d = disarm (.sender n) (setAwait n .nothing d) := by
  unfold notSupportedMsg
  dsimp only
  rw [h]
  rfl

theorem chunkAsked_asks {n : Nat} (hleft : (cable d n).chunks.left ≠ []) (harmed : armed (.chunk n) d = true) :
    chunkAsked n d = sendChunk n (chunkSize * (cable d n).chunks.next + (cable d n).chunks.left.length) (disarm (.chunk n) d) :=
  if_neg (by simp [hleft, harmed])

/-! ### Questions -/

theorem getSourceCap_offers (hears : Hears s.dev n.val id) (hsource : (cable s.dev n.val).powerRole = .source)
    (hoffer : (cable s.dev n.val).offer ≠ []) :
    Answers (.getSourceCap n id) s fun t => Replies n (.sourceCaps (cable s.dev n.val).offer) t s.dev := by
  refine answers_replies (v := disarm (.sender n.val) (setAwait n.val .capsAnswer (heard n id (hush s.dev)))) rfl hears ?_
    ((answering_disarm rfl).trans (answering_setCable fun _ => ⟨rfl, rfl, rfl, rfl⟩))
  dsimp only
  rw [cable_heard, if_pos (by exact hsource), if_neg (by exact hoffer)]
  rfl

theorem getSourceCap_refused (hears : Hears s.dev n.val id) (hsink : (cable s.dev n.val).powerRole ≠ .source)
    (hnone : isDual n.val = false ∨ roleNow s.dev n.val = 2) :
    Answers (.getSourceCap n id) s fun t => Replies n .notSupported t s.dev := by
  refine answers_replies_at_once rfl hears ?_
  dsimp only
  rw [cable_heard, if_neg (by exact hsink),
    if_pos (hnone.symm.imp (fun h => (show roleNow (heard n id (hush s.dev)) n.val = 2 from h)) fun h => by simp [h])]

theorem portIn_heard (m : Nat) : portIn (cable (heard n id (hush d)) m) = portIn (cable d m) := by
  by_cases hm : m = n.val
  · subst hm
    rw [cable_heard]
    rfl
  · rw [(only_heard n id (hush d)).cable m (by simp [Part.seenIn, Ne.symm hm])]
    rfl

theorem sinkPdos_heard (n : CPort) (id : BitVec 3) (d : Dev) (m : Nat) : sinkPdos (heard n id (hush d)) m = sinkPdos d m := by
  have hcfg : cfg (heard n id (hush d)) = cfg d := rfl
  have hunit : hasUnit (heard n id (hush d)) = hasUnit d := rfl
  unfold sinkPdos fixedVolts rolePref
  rw [hcfg, hunit]

theorem getSinkCap_answers (hears : Hears s.dev n.val id) :
    Answers (.getSinkCap n id) s fun t => Replies n (if isDual n.val then .sinkCaps (sinkPdos s.dev n.val) else .notSupported) t s.dev := by
  refine answers_replies_at_once rfl hears ?_
  rw [sinkPdos_heard]
  exact (apply_ite (pdSend n.val · _) _ _ _).symm

/-- What Status reports stands when its event flags are read. -/
theorem statusOctets_heard (n : CPort) (id : BitVec 3) (d : Dev) : statusOctets (heard n id (hush d)) n.val = statusOctets d n.val := by
  have honly := only_heard n id (hush d)
  have hheat : (heard n id (hush d)).heat = d.heat := rfl
  have hsmall : isSmall (heard n id (hush d)) = isSmall d := rfl
  have hsink : sinkInflow (heard n id (hush d)) = sinkInflow d := by
    unfold sinkInflow
    rw [portIn_heard, portIn_heard]
  unfold statusOctets statusTemp
  rw [cable_heard, hheat, hsmall, hsink]
  rfl

theorem getStatus_reports (hears : Hears s.dev n.val id) (hquiet : (cable s.dev n.val).nego = none) :
    Answers (.getStatus n id) s fun t => Replies n (.status (statusOctets s.dev n.val) (cable s.dev n.val).mismatch) t s.dev ∧
      (cable t n.val).ocpEvent = false ∧ (cable t n.val).otpEvent = false := by
  refine answers_replies_and (v := setCable n.val (fun c => { c with ocpEvent := false, otpEvent := false }) (heard n id (hush s.dev))) rfl hears ?_
    (answering_setCable fun _ => ⟨rfl, rfl, rfl, rfl⟩) ?_
  · dsimp only
    rw [statusOctets_heard, cable_heard]
    dsimp only
    rw [show (cable (hush s.dev) n.val).nego = none from hquiet]
    rfl
  · have hsame := unsaid_pdSend n.val (.status (statusOctets s.dev n.val) (cable s.dev n.val).mismatch)
      (setCable n.val (fun c => { c with ocpEvent := false, otpEvent := false }) (heard n id (hush s.dev))) n.val
    rw [cable_setCable_self] at hsame
    rw [cable_settle]
    generalize cable (pdSend n.val _ _) n.val = x at hsame ⊢
    exact ⟨(congrArg Cable.ocpEvent hsame :), (congrArg Cable.otpEvent hsame :)⟩

theorem getBatteryStatus_reports (hears : Hears s.dev n.val id) :
    Answers (.getBatteryStatus n id) s fun t => Replies n (.batteryStatus (BitVec.ofNat 32
      (cfg s.dev 0x3200 1 * 65536 + cfg s.dev 0x3200 2 * 1024 + cfg s.dev 0x3200 0 * 512))) t s.dev := by
  refine answers_replies_at_once rfl hears ?_
  rw [show cfg (heard n id (hush s.dev)) = cfg s.dev from rfl]

theorem getPpsStatus_reports (hears : Hears s.dev n.val id) :
    Answers (.getPpsStatus n id) s fun t => Replies n (.ppsStatus (leBytes 2 ((cable s.dev n.val).vbus / 20) ++
      [BitVec.ofNat 8 (min 255 ((cable s.dev n.val).ibus.toNat / 50)), 0])) t s.dev := by
  refine answers_replies_at_once rfl hears ?_
  dsimp only
  rw [cable_heard]
  rfl

theorem unsupported_answered {m : OtherMsg} (hears : Hears s.dev n.val id)
    (hm : m = .unlisted ∨ m = .eprGetSourceCap ∨ (m = .bistCarrier ∧ isDual n.val = true)) :
    Answers (.unsupportedMessage n id m) s fun t => Replies n .notSupported t s.dev := by
  obtain rfl | rfl | ⟨rfl, hdual⟩ := hm
  · exact answers_replies_at_once rfl hears rfl
  · exact answers_replies_at_once rfl hears rfl
  · exact answers_replies_at_once rfl hears (if_pos hdual)

theorem unsupported_discarded {m : OtherMsg} (hears : Hears s.dev n.val id)
    (hm : m = .alert ∨ (m = .bistCarrier ∧ isDual n.val = false)) :
    Answers (.unsupportedMessage n id m) s fun t => t.out = [.pd n (.goodCrc id)] ∧
      cable t n.val = { cable s.dev n.val with rxId := some id } ∧ OnlyPort n.val t s.dev := by
  refine answers_hearing (u := heard n id (hush s.dev)) rfl hears ?_ ?_
  · obtain rfl | ⟨rfl, hdual⟩ := hm
    · rfl
    · exact if_neg (by simp [hdual])
  · have hall := only_settled_heard (d := s.dev) (S := []) (.refl [] (heard n id (hush s.dev)))
    rw [settle_out, cable_settle, cable_heard]
    exact ⟨rfl, rfl, onlyPort_of_only hall (fun k hk => by simp [Part.seenIn, hk.symm]) rfl⟩

theorem chunkRequest_answered (hears : Hears s.dev n.val id) (harmed : armed (.chunk n.val) s.dev = true)
    (hleft : (cable s.dev n.val).chunks.left ≠ []) :
    Answers (.unsupportedMessage n id .chunkRequest) s fun t => Replies n (.security (cable s.dev n.val).chunks.next
        (26 * (cable s.dev n.val).chunks.next + (cable s.dev n.val).chunks.left.length)
        ((cable s.dev n.val).chunks.left.take 26)) t s.dev ∧ armed (.chunk n.val) t = false ∧
      (cable t n.val).chunks = { left := (cable s.dev n.val).chunks.left.drop 26, next := (cable s.dev n.val).chunks.next + 1 } := by
  have hasked := chunkAsked_asks (d := heard n id (hush s.dev)) (n := n.val) (by rw [cable_heard]; exact hleft) harmed
  rw [sendChunk_eq, cable_disarm, cable_heard] at hasked
  have hv : Answering n (chunked n.val (cable s.dev n.val).chunks.next (cable s.dev n.val).chunks.left
      (disarm (.chunk n.val) (heard n id (hush s.dev)))) (heard n id (hush s.dev)) := (answering_chunked _ _).trans (answering_disarm rfl)
  have hchunks := chunks_chunked n.val (cable s.dev n.val).chunks.next (cable s.dev n.val).chunks.left (disarm (.chunk n.val) (heard n id (hush s.dev)))
  have hoff : armed (.chunk n.val) (chunked n.val (cable s.dev n.val).chunks.next (cable s.dev n.val).chunks.left
      (disarm (.chunk n.val) (heard n id (hush s.dev)))) = false := armed_disarm_self _ _
  change _ = pdSend _ _ (chunked n.val (cable s.dev n.val).chunks.next (cable s.dev n.val).chunks.left (disarm (.chunk n.val) (heard n id (hush s.dev)))) at hasked
  generalize chunked n.val _ _ (disarm (.chunk n.val) (heard n id (hush s.dev))) = v at hasked hv hchunks hoff
  refine answers_replies_and (v := v) rfl hears hasked hv ⟨?_, ?_⟩
  · rw [armed_settle, (only_pdSend_wire n.val _ _).armed _ (by simp [Part.seenIn])]
    exact hoff
  · rw [cable_settle, chunks_pdSend]
    exact hchunks

theorem firstChunk_answered (hears : Hears s.dev n.val id) :
    Answers (.unsupportedMessage n id .firstChunk) s fun t => Replies n (.chunkRequest 1) t s.dev ∧ runsFor (.chunkResp n.val) (27 * ms) t := by
  refine answers_hearing (u := arm (.chunkResp n.val) (27 * ms) (pdSend n.val (.chunkRequest 1) (heard n id (hush s.dev)))) rfl hears rfl ?_
  obtain ⟨hlistens, -, -⟩ := hears
  refine ⟨replies_of (runs_of_listens hlistens) (answering_heard n id _) ?_ (unsaid_pdSend _ _ _ _) fun hheld hquiet =>
    says_pdSend n (.chunkRequest 1) hheld hquiet, runsFor_settle.mpr runsFor_arm_self⟩
  exact (only_arm _ _ (by simp)).mpr (only_pdSend_exchange _ _ _)

theorem testData_starts (hears : Hears s.dev n.val id) :
    Answers (.bist n id .testData) s fun t => (cable t n.val).bist = some .testData ∧
      (cable t n.val).contract = (cable s.dev n.val).contract ∧ OnlyPort n.val t s.dev ∧ SameSwitch t s.dev := by
  refine answers_hearing (u := setCable n.val (fun c => { c with bist := some .testData }) (heard n id (hush s.dev))) rfl hears rfl ?_
  have hall := only_settled_heard (d := s.dev) (n := n) (id := id) (S := [.cable n.val])
    (u := setCable n.val (fun c => { c with bist := some .testData }) (heard n id (hush s.dev))) (by simp)
  rw [cable_settle, cable_setCable_self, cable_heard]
  exact ⟨rfl, rfl, onlyPort_of_only hall (fun k hk => by simp [Part.seenIn, hk.symm]) rfl, hall.sameSwitch rfl⟩

theorem carrier_sent (hears : Hears s.dev n.val id) (hdual : isDual n.val = true) :
    Answers (.bist n id .carrier) s fun t => Emission.pd n (.bist true) ∈ t.out ∧
      cable t n.val = { cable s.dev n.val with rxId := some id } ∧ OnlyPort n.val t s.dev ∧ SameSwitch t s.dev := by
  refine answers_hearing (u := emit (.pd n (.bist true)) (heard n id (hush s.dev))) rfl hears ?_ ?_
  · exact (if_pos hdual).trans (by rw [ofNat_val])
  · obtain ⟨hlistens, -, -⟩ := hears
    have hheld : portHeld (heard n id (hush s.dev)) n.val = false := held_of_listens (d := s.dev) hlistens
    have hall := only_settled_heard (d := s.dev) (n := n) (id := id) (S := [.out]) (u := emit (.pd n (.bist true)) (heard n id (hush s.dev))) (by simp)
    rw [settle_out, cable_settle, cable_emit, cable_heard]
    exact ⟨mem_out_emit_pd n _ hheld, rfl, onlyPort_of_only hall (fun k hk => by simp [Part.seenIn, hk.symm]) rfl, hall.sameSwitch rfl⟩

/-! ### Authentication -/

/-- The device once a request's own time-out is stopped. -/
def asked (n : CPort) (id : BitVec 3) (d : Dev) : Dev := disarm (.chunkResp n.val) (heard n id (hush d))

theorem cable_asked (n : CPort) (id : BitVec 3) (d : Dev) : cable (asked n id d) n.val = { cable d n.val with rxId := some id } := by
  rw [asked, cable_disarm, cable_heard]
  rfl

theorem answering_asked (n : CPort) (id : BitVec 3) (d : Dev) : Answering n (asked n id d) (heard n id (hush d)) := answering_disarm rfl

theorem security_refused (hears : Hears s.dev n.val id) (hoff : cfgOn s.dev 0x3200 3 = false) (a : AuthReq) :
    Answers (.securityRequest n id a) s fun t => Replies n .notSupported t s.dev := by
  have hoff' : cfgOn (asked n id s.dev) 0x3200 3 = false := hoff
  refine answers_replies (v := asked n id s.dev) rfl hears ?_ (answering_asked n id s.dev)
  exact if_pos (by rw [show cfgOn (disarm (.chunkResp n.val) (heard n id (hush s.dev))) 0x3200 3 = false from hoff']; rfl)

/-- A request while another exchange is in progress. -/
theorem security_busy (hears : Hears s.dev n.val id) (hon : cfgOn s.dev 0x3200 3 = true) (hbusy : (cable s.dev n.val).authBusy = true) (a : AuthReq) :
    Answers (.securityRequest n id a) s fun t => Replies n (.security 0 4 (authHeader 0x7F 3 0)) t s.dev ∧
      t.shep.authErrors = satInc s.dev.shep.authErrors := by
  have hon' : cfgOn (asked n id s.dev) 0x3200 3 = true := hon
  refine answers_authError rfl hears ?_
  exact (if_neg (by rw [show cfgOn (disarm (.chunkResp n.val) (heard n id (hush s.dev))) 0x3200 3 = true from hon']; decide)).trans
    (if_pos (by rw [cable_disarm, cable_heard]; exact hbusy))

theorem otpWord_congr (hotp : t.otp = d.otp) : otpWord t = otpWord d := by
  funext a
  unfold otpWord otpRaw
  rw [hotp]

theorem logical_congr (hotp : t.otp = d.otp) : logical t = logical d := by
  funext l
  unfold logical otpRaw
  rw [hotp]

theorem keyUsable_congr (hotp : t.otp = d.otp) : keyUsable t = keyUsable d := by
  funext slot
  unfold keyUsable keyPresent keyEccBad keyWords
  rw [hotp, logical_congr hotp, otpWord_congr hotp]

theorem authDigest_congr (hotp : t.otp = d.otp) : authDigest t = authDigest d := by
  funext slot
  unfold authDigest recordOf walk
  rw [otpWord_congr hotp]

/-- The keys and the chains that the fuses and the flash hold. -/
theorem populated_congr (hotp : t.otp = d.otp) (hflash : t.flash = d.flash) : populated t = populated d ∧ chainOf t = chainOf d ∧
    authSlots t = authSlots d := by
  have hchain : chainOf t = chainOf d := by
    funext slot
    unfold chainOf
    rw [hflash]
  have hpopulated : populated t = populated d := by
    funext slot
    unfold populated
    rw [hchain, keyUsable_congr hotp, authDigest_congr hotp]
  exact ⟨hpopulated, hchain, by unfold authSlots; rw [hpopulated]⟩

/-- The digests that a Get_Digests is answered with. -/
def digestsOf (d : Dev) : List Byte :=
  authHeader 0x01 1 (authSlots d) ++ (([0, 1].filter fun k => populated d k).flatMap fun k => sha256 (chainOf d k))

theorem digestsOf_asked (n : CPort) (id : BitVec 3) (d : Dev) : digestsOf (asked n id d) = digestsOf d := by
  obtain ⟨hpopulated, hchain, hslots⟩ := populated_congr (t := asked n id d) (d := d) rfl rfl
  unfold digestsOf
  rw [hpopulated, hchain, hslots]

/-- What a request does once authentication is on and no other exchange is in progress. -/
def exchange (n : Nat) (a : AuthReq) (d : Dev) : Dev :=
  match a with
  | .getDigests => authAnswer n (digestsOf d) d
  | .getCertificate slot off len =>
    if populated d slot && decide (off + len ≤ (chainOf d slot).length) then
      authAnswer n (authHeader 0x02 slot 0 ++ ((chainOf d slot).drop off).take len) d
    else authError n 1 d
  | .challenge slot nonce =>
    if populated d slot then
      arm (.auth n) (100 * ms) (setCable n (fun c => { c with authBusy := true, authSlot := slot, authNonce := nonce }) d)
    else authError n 1 d
  | .other => authError n 1 d

theorem securityRequest_idle (a : AuthReq) (hears : Hears s.dev n.val id) (hon : cfgOn s.dev 0x3200 3 = true)
    (hidle : (cable s.dev n.val).authBusy = false) : securityRequest n.val id a (hush s.dev) = exchange n.val a (asked n id s.dev) := by
  have hon' : cfgOn (asked n id s.dev) 0x3200 3 = true := hon
  have hidle' : (cable (asked n id s.dev) n.val).authBusy = false := by rw [cable_asked]; exact hidle
  unfold securityRequest
  refine (pdReceive_new (d := hush s.dev) hears).trans ?_
  change (if !cfgOn (asked n id s.dev) 0x3200 3 then _ else if (cable (asked n id s.dev) n.val).authBusy then _ else _) = _
  rw [hon', hidle', if_neg (by decide), if_neg (by decide)]
  rfl

theorem digests_answered (hears : Hears s.dev n.val id) (hon : cfgOn s.dev 0x3200 3 = true) (hidle : (cable s.dev n.val).authBusy = false) :
    Answers (.securityRequest n id .getDigests) s fun t =>
      Replies n (.security 0 (digestsOf s.dev).length ((digestsOf s.dev).take 26)) t s.dev ∧ (cable t n.val).authBusy = true ∧
      (cable t n.val).chunks = { left := (digestsOf s.dev).drop 26, next := 1 } := by
  have heff := securityRequest_idle .getDigests hears hon hidle
  rw [exchange, digestsOf_asked, authAnswer_eq] at heff
  refine answers_of_effect rfl heff ⟨?_, ?_⟩
  · obtain ⟨hlistens, -, -⟩ := hears
    exact replies_pdSend (runs_of_listens hlistens) ((answering_answeringWith _).trans ((answering_asked n id s.dev).trans (answering_heard n id _)))
  · rw [cable_settle]
    exact answered_authAnswer n.val _ _

theorem other_refused (hears : Hears s.dev n.val id) (hon : cfgOn s.dev 0x3200 3 = true) (hidle : (cable s.dev n.val).authBusy = false) :
    Answers (.securityRequest n id .other) s fun t => Replies n (.security 0 4 (authHeader 0x7F 1 0)) t s.dev ∧
      t.shep.authErrors = satInc s.dev.shep.authErrors := by
  have heff := securityRequest_idle .other hears hon hidle
  rw [exchange, authError_eq] at heff
  refine answers_of_effect rfl heff ⟨?_, ?_⟩
  · obtain ⟨hlistens, -, -⟩ := hears
    exact replies_pdSend (runs_of_listens hlistens) (answering_authRefused.trans ((answering_asked n id s.dev).trans (answering_heard n id _)))
  · rw [settle_shep, shep_pdSend]
    rfl

theorem challenge_taken {slot : Nat} {nonce : BitVec 256} (hears : Hears s.dev n.val id) (hon : cfgOn s.dev 0x3200 3 = true)
    (hidle : (cable s.dev n.val).authBusy = false) (hslot : populated s.dev slot = true) :
    Answers (.securityRequest n id (.challenge slot nonce)) s fun t => (cable t n.val).authBusy = true ∧
      (cable t n.val).authSlot = slot ∧ (cable t n.val).authNonce = nonce ∧ runsFor (.auth n.val) (100 * ms) t ∧
      OnlyPort n.val t s.dev ∧ SameSwitch t s.dev := by
  obtain ⟨hpopulated, -, -⟩ := populated_congr (t := asked n id s.dev) (d := s.dev) rfl rfl
  have heff := securityRequest_idle (.challenge slot nonce) hears hon hidle
  rw [exchange, hpopulated, hslot, if_pos rfl] at heff
  refine answers_of_effect rfl heff ?_
  have hcable := cable_setCable_self n.val (fun c => { c with authBusy := true, authSlot := slot, authNonce := nonce }) (asked n id s.dev)
  have hreach : Only (portParts n.val ++ [.out]) (setCable n.val (fun c => { c with authBusy := true, authSlot := slot, authNonce := nonce })
      (asked n id s.dev)) (hush s.dev) :=
    (only_setCable _ _ (by simp)).mpr ((only_disarm _ (by simp)).mpr ((only_heard n id (hush s.dev)).mono (by simp)))
  generalize setCable n.val (fun c => { c with authBusy := true, authSlot := slot, authNonce := nonce }) (asked n id s.dev) = u at hcable hreach
  have hall := only_settled (d := s.dev) ((only_arm (S := portParts n.val ++ [.out]) (d := u) (e := hush s.dev) (.auth n.val) (100 * ms) (by simp)).mpr hreach)
  rw [cable_settle, cable_arm, hcable]
  exact ⟨rfl, rfl, rfl, runsFor_settle.mpr runsFor_arm_self, onlyPort_of_only hall (fun k hk => by simp [Part.seenIn, hk.symm]) rfl, hall.sameSwitch rfl⟩

/-! ### Time-outs -/

theorem chunk_given_up (harmed : armed (.chunk n.val) s.dev = true) : Answers (.chunkSenderTimeout n) s fun t =>
    cable t n.val = { cable s.dev n.val with authBusy := false, chunks := Chunks.none } ∧ armed (.chunk n.val) t = false ∧
    OnlyPort n.val t s.dev ∧ SameSwitch t s.dev := by
  have heff : chunkSenderTimeout n.val (hush s.dev) =
      setCable n.val (fun c => { c with chunks := Chunks.none, authBusy := false }) (expired (.chunk n.val) s.dev) :=
    (if_pos harmed).trans (onExpiry_hush_of_armed harmed)
  refine answers_of_effect rfl heff ?_
  have hall := only_settled_expired (d := s.dev) (tm := .chunk n.val) (S := [.cable n.val])
    (u := setCable n.val (fun c => { c with chunks := Chunks.none, authBusy := false }) (expired (.chunk n.val) s.dev)) (by simp)
  rw [cable_settle, cable_setCable_self, armed_settle]
  exact ⟨rfl, armed_disarm_self _ _, onlyPort_of_only hall (fun k hk => by simp [Part.seenIn, hk.symm]) rfl, hall.sameSwitch rfl⟩

/-- The device once the challenge's salt and scalar are drawn and the answer is counted. -/
def signed (n : Nat) (d : Dev) : Dev :=
  onShep (fun s => { s with authCount := satInc s.authCount }) (drawScalar (drawFree (disarm (.auth n) d)).2).2

theorem only_signed (n : Nat) (d : Dev) : Only [.timer (.auth n), .free, .shep] (signed n d) d := by
  unfold signed drawScalar
  simp

/-- The octets of a CHALLENGE_AUTH, for a salt and a scalar. -/
def challengeAuth (key : List Byte) (d : Dev) (n : Nat) (salt : List Byte) (k : Nat) : List Byte :=
  let body := challengeBody d (cable d n).authSlot salt
  body ++ ecdsaSign (beNat key) k (authHeader 0x83 (cable d n).authSlot 0 ++ beBytes 32 (cable d n).authNonce.toNat ++ body)

theorem challengeAuthDone_signs {key : List Byte} {n : Nat} (hlistens : pdListens d n = true) (harmed : armed (.auth n) d = true)
    (hkey : keyOctets d (6 + (cable d n).authSlot) = some key) :
    ∃ salt k, challengeAuthDone n d = authAnswer n (challengeAuth key (disarm (.auth n) d) n salt k) (signed n d) := by
  have hkey' : keyOctets (disarm (.auth n) d) (6 + (cable d n).authSlot) = some key := hkey
  refine ⟨beBytes 32 (drawFree (disarm (.auth n) d)).1.toNat, (drawScalar (drawFree (disarm (.auth n) d)).2).1, ?_⟩
  unfold challengeAuthDone
  dsimp only
  rw [if_neg (by simp [hlistens, harmed]), hkey']
  rfl

theorem challenge_signed {key : List Byte} (hlistens : pdListens s.dev n.val = true) (harmed : armed (.auth n.val) s.dev = true)
    (hquiet : (cable s.dev n.val).lastSent = none) (hkey : keyOctets s.dev (6 + (cable s.dev n.val).authSlot) = some key) :
    Answers (.challengeAuthDone n) s fun t => (cable t n.val).authBusy = true ∧ armed (.auth n.val) t = false ∧
      t.shep.authCount = satInc s.dev.shep.authCount ∧
      (∃ (salt : List Byte) (k : Nat),
        let body := challengeBody s.dev (cable s.dev n.val).authSlot salt
        let octets := body ++ ecdsaSign (beNat key) k
          (authHeader 0x83 (cable s.dev n.val).authSlot 0 ++ beBytes 32 (cable s.dev n.val).authNonce.toNat ++ body)
        Says n (.security 0 octets.length (octets.take 26)) t ∧
        (cable t n.val).chunks = { left := octets.drop 26, next := 1 }) ∧
      OnlyPort n.val t s.dev ∧ SameSwitch t s.dev ∧ SameAon t s.dev := by
  obtain ⟨salt, k, heff⟩ := challengeAuthDone_signs (d := hush s.dev) (n := n.val) hlistens harmed hkey
  have hoctets : challengeAuth key (disarm (.auth n.val) (hush s.dev)) n.val salt k = challengeAuth key s.dev n.val salt k := by
    obtain ⟨-, hchain, hslots⟩ := populated_congr (t := disarm (.auth n.val) (hush s.dev)) (d := s.dev) rfl rfl
    unfold challengeAuth challengeBody
    rw [hchain, hslots, cable_disarm, cable_hush]
  rw [hoctets, authAnswer_eq] at heff
  have hsigned := only_signed n.val (hush s.dev)
  have hoff : armed (.auth n.val) (signed n.val (hush s.dev)) = false := armed_disarm_self _ _
  have hcount : (signed n.val (hush s.dev)).shep.authCount = satInc s.dev.shep.authCount := rfl
  generalize signed n.val (hush s.dev) = v at heff hsigned hoff hcount
  have hanswer := answering_answeringWith (n := n) (d := v) (challengeAuth key s.dev n.val salt k)
  have hheld : portHeld (answeringWith n.val (challengeAuth key s.dev n.val salt k) v) n.val = false :=
    (portHeld_congr ((hanswer.only.otp rfl).trans (hsigned.otp rfl)) n.val).trans (held_of_listens hlistens)
  have hquiet' : (cable (answeringWith n.val (challengeAuth key s.dev n.val salt k) v) n.val).lastSent = none := by
    rw [hanswer.quiet, hsigned.cable n.val rfl]
    exact hquiet
  obtain ⟨hbusy, hchunks⟩ := answered_authAnswer (m := .security 0 (challengeAuth key s.dev n.val salt k).length
    ((challengeAuth key s.dev n.val salt k).take chunkSize)) n.val (challengeAuth key s.dev n.val salt k) v
  have hsays := says_pdSend n (.security 0 (challengeAuth key s.dev n.val salt k).length ((challengeAuth key s.dev n.val salt k).take chunkSize))
    hheld hquiet'
  have hreach := only_pdSend_exchange n.val (.security 0 (challengeAuth key s.dev n.val salt k).length
    ((challengeAuth key s.dev n.val salt k).take chunkSize)) (answeringWith n.val (challengeAuth key s.dev n.val salt k) v)
  have hcarry : Only [.cable n.val, .timer (.crcRx n.val), .out] (pdSend n.val (.security 0 (challengeAuth key s.dev n.val salt k).length
      ((challengeAuth key s.dev n.val salt k).take chunkSize)) (answeringWith n.val (challengeAuth key s.dev n.val salt k) v)) v :=
    (only_pdSend_wire n.val _ _).trans (by simp [answeringWith, chunked])
  refine answers_of_effect rfl heff ?_
  generalize pdSend n.val _ (answeringWith n.val _ v) = u at hbusy hchunks hsays hreach hcarry
  have hall := only_settled (d := s.dev) ((hreach.trans hanswer.only).trans (hsigned.mono (by simp [Part.covers])))
  rw [cable_settle, armed_settle, settle_shep, hcarry.armed _ (by simp [Part.seenIn]), hcarry.shep rfl]
  exact ⟨hbusy, hoff, hcount, ⟨salt, k, says_settle hsays, hchunks⟩,
    onlyPort_of_only hall (fun k hk => by simp [Part.seenIn, hk.symm]) rfl, hall.sameSwitch rfl, hall.sameAon rfl⟩

end

/-- Settles O41. -/
theorem pdAnswers : Obligations.PdAnswers := by
  unfold Obligations.PdAnswers
  refine ⟨fun s n id c hlistens hold hc => ?_, fun s n id hears => ⟨getSourceCap_offers hears, getSourceCap_refused hears, getSinkCap_answers hears, getStatus_reports hears,
    getPpsStatus_reports hears, getBatteryStatus_reports hears, answers_replies_at_once rfl hears rfl, answers_replies_at_once rfl hears rfl,
    fun m hm => unsupported_answered hears hm, fun m hm => unsupported_discarded hears hm, fun hawait => ?_, fun hawait => ?_,
    chunkRequest_answered hears, firstChunk_answered hears, testData_starts hears, carrier_sent hears, security_refused hears,
    security_busy hears, fun hon hidle => ?_⟩, fun s n harmed => ?_, fun s n key hlistens harmed hquiet hkey => ?_⟩
  · obtain hc | ⟨a, ha⟩ := hc
    · simp only [List.mem_cons, List.not_mem_nil, or_false] at hc
      obtain rfl | rfl | rfl | rfl | rfl | rfl | rfl | rfl | rfl | rfl | rfl | rfl | rfl | rfl | rfl := hc
      all_goals exact answers_again rfl hlistens hold
    · exact vdm_again a ha hlistens hold
  · exact answers_awaited rfl hears (if_pos (by rw [cable_heard]; exact hawait))
  · exact answers_awaited rfl hears (notSupportedMsg_sinkCaps (by rw [cable_heard]; exact hawait))
  · exact ⟨digests_answered hears hon hidle, fun slot nonce hslot => challenge_taken hears hon hidle hslot, other_refused hears hon hidle⟩
  · exact chunk_given_up harmed
  · exact challenge_signed hlistens harmed hquiet hkey

end Sys2Proof.Proofs.PdAnswers


/-! SUPPORT. Hard Reset (chapter 7, R253, R266, R267): what one leaves of a port, and what it has said. -/

namespace Sys2Proof.Proofs.HardReset

open Sys2Proof Sys2Proof.Machine Sys2Proof.Safety
open Sys2Proof.Proofs.StepAndTimers
open Sys2Proof.Proofs.ShapersAndTally
open Sys2Proof.Proofs.Frames
open Sys2Proof.Proofs.Running
open Sys2Proof.Proofs.Shepherd
open Sys2Proof.Proofs.CriticalComparator
open Sys2Proof.Proofs.PdMessages
open Sys2Proof.Proofs.PortEvents
open Sys2Proof.Proofs.FaultLadder (cable_setBooked)
open Sys2Proof.Proofs.Detach
open Sys2Proof.Proofs.PdReceiving
open Sys2Proof.Proofs.Switching (Calm calm_release)

section
variable {S : List Part} {t u v d e : Dev} {n m p q c code : Nat}

/-! ### What was said stays said -/

/-- What has gone out of the second device has gone out of the first. -/
def Outlasts (t d : Dev) : Prop := ∀ x ∈ d.out, x ∈ t.out

theorem Outlasts.refl (d : Dev) : Outlasts d d := fun _ h => h
theorem Outlasts.trans (h : Outlasts t u) (h' : Outlasts u d) : Outlasts t d := fun x hx => h x (h' x hx)

theorem Outlasts.of_out (h : t.out = d.out) : Outlasts t d := fun x hx => by rw [h]; exact hx

theorem Outlasts.of_only (h : Only S t d) (hS : Clear S .out = true) : Outlasts t d := .of_out (h.out hS)

theorem Outlasts.foldl {α : Type} {f : Dev → α → Dev} (l : List α) (hf : ∀ d a, Outlasts (f d a) d) (d : Dev) : Outlasts (l.foldl f d) d :=
  List.foldlRecOn (motive := fun u => Outlasts u d) l f (.refl d) fun u hu a _ => (hf u a).trans hu

theorem outlasts_emit (x : Emission) (d : Dev) : Outlasts (emit x d) d := by
  intro y hy
  unfold emit
  split
  · exact hy
  · exact List.mem_append_left _ hy

theorem outlasts_release {x : Copy} : Outlasts (release p c x d) d := (calm_release (d := d)).out

theorem outlasts_dropCopy : Outlasts (dropCopy p c code d) d := .of_only (show Only [.fab] (dropCopy p c code d) d by simp) rfl

theorem outlasts_dropHead : Outlasts (dropHead p c code d) d := by
  unfold dropHead
  split
  · exact .refl d
  · exact outlasts_release.trans (outlasts_dropCopy.trans (.of_out rfl))

theorem outlasts_dropPort : Outlasts (dropPort p code d) d :=
  (Outlasts.foldl _ (fun d c => Outlasts.foldl _ (fun _ _ => outlasts_dropHead) d) _).trans
    ((Outlasts.of_out rfl).trans (Outlasts.foldl _ (fun _ _ => outlasts_dropCopy) d))

theorem outlasts_endSending : Outlasts (endSending p d) d := by
  unfold endSending
  split
  · exact .refl d
  · exact outlasts_release.trans (.of_out rfl)

theorem outlasts_setFence (p : Nat) (b : Bool) (d : Dev) : Outlasts (setFence p b d) d := by
  unfold setFence
  dsimp only
  split
  · split
    · exact (outlasts_emit _ _).trans (outlasts_endSending.trans (outlasts_dropCopy.trans (.of_out rfl)))
    · exact .of_out rfl
  · exact .of_out rfl

theorem outlasts_flushPort (p : Nat) (d : Dev) : Outlasts (flushPort p d) d := .of_out rfl

theorem outlasts_linkDown (p : Nat) (d : Dev) : Outlasts (linkDown p d) d := by
  unfold linkDown portDown
  split
  · exact (outlasts_flushPort p _).trans
      (outlasts_dropPort.trans (outlasts_endSending.trans (.of_out rfl)))
  · exact .refl d

theorem outlasts_podClose (n : Nat) (d : Dev) : Outlasts (podClose n d) d := by
  unfold podClose
  dsimp only
  refine (Outlasts.of_out rfl).trans ((outlasts_linkDown n _).trans ?_)
  split
  · exact .of_only (show Only sessionParts (closeSession (2 + n) d) d by simp) rfl
  · exact .refl d

theorem outlasts_present (n code : Nat) (d : Dev) : Outlasts (present_ n code d) d := by
  unfold present_
  split
  · exact .refl d
  · exact (outlasts_emit _ _).trans (.of_out rfl)

theorem outlasts_collision (n : Nat) (busy : Bool) (d : Dev) : Outlasts (collision n busy d) d := by
  unfold collision
  dsimp only
  split
  · exact outlasts_present n _ d
  · exact .refl d

theorem outlasts_transmit (n : Nat) (m : PdMsg) (d : Dev) : Outlasts (transmit n m d) d :=
  (Outlasts.of_out rfl).trans ((outlasts_emit _ _).trans ((Outlasts.of_out rfl).trans (outlasts_collision n true d)))

theorem outlasts_pdSend (n : Nat) (m : PdMsg) (d : Dev) : Outlasts (pdSend n m d) d := by
  unfold pdSend
  split
  · exact outlasts_transmit n m d
  · exact .of_out rfl

theorem outlasts_sendDone (n : Nat) (d : Dev) : Outlasts (sendDone n d) d := by
  unfold sendDone
  dsimp only
  split
  · exact (outlasts_transmit n _ _).trans (.of_out rfl)
  · exact (outlasts_collision n false _).trans (.of_out rfl)

/-! ### The PD engine of the port is reset -/

/-- A port whose PD engine Hard Reset has wiped. -/
def wiped (c : Cable) : Cable :=
  { forgotten c with txId := 0, txIdP := 0, txIdPP := 0, rxId := none, rxIdP := none, rxIdPP := none, hardResetCount := inc16 c.hardResetCount }

/-- The device on which it has, and NoResponseTimer runs. -/
def engineReset (n : Nat) (d : Dev) : Dev :=
  arm (.noResponse n) (5 * sec) (setCable n (fun c => { c with hardResetCount := inc16 c.hardResetCount }) (pdIdsReset n (pdForget n d)))

theorem cable_engineReset (n : Nat) (d : Dev) : cable (engineReset n d) n = wiped (cable d n) := by
  rw [engineReset, cable_arm, cable_setCable_self, cable_pdIdsReset, cable_pdForget]
  rfl

theorem hardResetCore_eq (n : Nat) (d : Dev) : hardResetCore n d =
    if (cable d n).powerRole = .sink then hardResetSink n (engineReset n d) else hardResetSource n (engineReset n d) := by
  have hrole : (cable (engineReset n d) n).powerRole = (cable d n).powerRole := by rw [cable_engineReset]; rfl
  rw [← hrole]
  rfl

theorem only_engineReset (n : Nat) (d : Dev) : Only (portParts n) (engineReset n d) d := by simp [engineReset]

/-- A port whose pod link has ended. -/
def podClosed (c : Cable) : Cable :=
  { c with podOpen := false, vdm := .idle, vdmTries := 0, modeVdo := 0, identBuf := [], identTries := 0, laneOn := false, laneRate := 0,
           muxRoute := .nothing }

/-- The timers that a pod link's end, or a fence, leaves. -/
@[simp] def closeParts (n : Nat) : List Part :=
  [.cable n, .fence n, .timer (.vdm n), .timer (.linkUp n), .odBook, .sessions, .timersOf .engine, .fab, .sends, .st, .timersOf .switch, .out]

theorem only_podClose_close (n : Nat) (d : Dev) : Only (closeParts n) (podClose n d) d := by
  unfold podClose
  dsimp only
  simp

/-! ### A sink -/

theorem cable_hardResetSink (n : Nat) (d : Dev) : cable (hardResetSink n d) n = podClosed { cable d n with booked := 0 } := by
  rw [hardResetSink, cable_podClose, cable_setBooked]
  rfl

theorem only_hardResetSink_close (n : Nat) (d : Dev) : Only (.shepDue :: .timer .overrun :: closeParts n) (hardResetSink n d) d := by
  unfold hardResetSink
  exact ((only_podClose_close n _).mono (by simp)).trans (by simp [setBooked])

/-! ### A source -/

/-- A port of a source, behind its fence, with its pod link gone. -/
def fencedOff (n : Nat) (d : Dev) : Dev :=
  setCable n (fun c => { c with booked := min c.booked (preId (unidentify n (podClose n (setFence n true d)))) })
    (unidentify n (podClose n (setFence n true d)))

/-- VBUS of a source goes, or comes back once it may. -/
def vbusGone (n : Nat) (d : Dev) : Dev :=
  let c := cable d n
  if isShed c || c.path == .latched || c.path == .faultShort then d
  else if isFault c.path then if c.discharge || c.ladder.due then d else arm (.tsrcRecover n) (800 * ms) d
  else if c.gateOn || c.discharge then powerOff n d
  else arm (.tsrcRecover n) (800 * ms) d

theorem hardResetSource_eq (n : Nat) (d : Dev) : hardResetSource n d = vbusGone n (fencedOff n d) := by
  unfold hardResetSource vbusGone fencedOff
  rfl

theorem only_fencedOff (n : Nat) (d : Dev) : Only (closeParts n) (fencedOff n d) d := by
  unfold fencedOff
  rw [only_setCable _ _ (by simp), only_unidentify _ (by simp)]
  exact (only_podClose_close n _).trans (by simp)

theorem cable_fencedOff (n : Nat) (d : Dev) : ∃ rank, cable (fencedOff n d) n =
    { podClosed (cable d n) with booked := min (cable d n).booked (cfg d 0x2300 3), pod := .none, profileOn := false, ceiling := none,
                                 rank := rank, ng := NgShare.none, swapOpen := false } := by
  have hpre : preId (unidentify n (podClose n (setFence n true d))) = cfg d 0x2300 3 :=
    (show Only (.fence n :: podParts n) (unidentify n (podClose n (setFence n true d))) d by simp).cfg rfl _ _
  refine ⟨cfg (podClose n (setFence n true d)) 0x2400 6, ?_⟩
  unfold fencedOff
  rw [hpre, cable_setCable_self, unidentify, cable_setCable_self, cable_podClose, cable_setFence]
  rfl

theorem fenced_fencedOff (n : Nat) (d : Dev) : (swPort (fencedOff n d) n).fenced = true := by
  have hrest : Only (podParts n) (fencedOff n d) (setFence n true d) := by simp [fencedOff]
  rw [hrest.fenced n rfl]
  exact fenced_setFence n true d

theorem ungated_vbusGone (n : Nat) (d : Dev) : ungated (cable (vbusGone n d) n) = ungated (cable d n) := by
  unfold vbusGone
  dsimp only
  split
  · rfl
  split
  · split
    · rfl
    · rw [cable_arm]
  split
  · exact ungated_powerOff n d
  · rw [cable_arm]

theorem only_vbusGone (n : Nat) (d : Dev) : Only (portParts n) (vbusGone n d) d := by
  unfold vbusGone
  dsimp only
  simp

theorem runsFor_powerOff {tm : Timer} {ns : Nat} (htm : ∀ d, runsFor tm ns (pathTimersOff n d) ↔ runsFor tm ns d)
    (hguard : tm ≠ .guard n) (hend : tm ≠ .guardEnd n) (hdis : tm ≠ .discharge n) : runsFor tm ns (powerOff n d) ↔ runsFor tm ns d := by
  have hdown (path : PathState) : runsFor tm ns (gatesDown n path d) ↔ runsFor tm ns d := by
    unfold gatesDown guardNow
    dsimp only
    split
    · rw [runsFor_arm_other hguard, runsFor_disarm_other hend, runsFor_setCable, htm, runsFor_setCable]
    · rw [htm, runsFor_setCable]
  unfold powerOff gatesOff startDischarge
  dsimp only
  split
  · rw [runsFor_arm_other hdis, runsFor_setCable, runsFor_setCable, hdown]
  · rw [runsFor_setCable, hdown]

theorem runsFor_noResponse_vbusGone {ns : Nat} : runsFor (.noResponse n) ns (vbusGone n d) ↔ runsFor (.noResponse n) ns d := by
  unfold vbusGone
  dsimp only
  split
  · rfl
  split
  · split
    · rfl
    · exact runsFor_arm_other (by simp)
  split
  · exact runsFor_powerOff (fun d => by simp [runsFor, pathTimersOff]) (by simp) (by simp) (by simp)
  · exact runsFor_arm_other (by simp)

/-! ### Hard Reset -/

/-- What Hard Reset leaves of a port that was `c`. -/
structure Reset (x c : Cable) : Prop where
  contract : x.contract = .none
  txId : x.txId = 0
  count : x.hardResetCount = inc16 c.hardResetCount
  podOpen : x.podOpen = false
  pps : x.ppsTimeoutCount = c.ppsTimeoutCount
  failed : x.retryFailCount = c.retryFailCount
  sink : c.powerRole = .sink → x.booked = 0 ∧ x.gateOn = c.gateOn

theorem reset_sink {x c : Cable} (h : x = podClosed { wiped c with booked := 0 }) : Reset x c := by
  subst h
  exact ⟨rfl, rfl, rfl, rfl, rfl, rfl, fun _ => ⟨rfl, rfl⟩⟩

theorem reset_source {x y c : Cable} {booked rank : Nat} (h : ungated x = ungated y) (hy : y = { podClosed (wiped c) with
      booked := booked, pod := .none, profileOn := false, ceiling := none, rank := rank, ng := NgShare.none, swapOpen := false })
    (hrole : c.powerRole ≠ .sink) : Reset x c ∧ x.booked = booked := by
  subst hy
  exact ⟨⟨(congrArg Cable.contract h :), (congrArg Cable.txId h :), (congrArg Cable.hardResetCount h :), (congrArg Cable.podOpen h :),
    (congrArg Cable.ppsTimeoutCount h :), (congrArg Cable.retryFailCount h :), fun hsink => absurd hsink hrole⟩, (congrArg Cable.booked h :)⟩

theorem cable_hardResetSource (n : Nat) (d : Dev) : (cable d n).powerRole ≠ .sink →
    Reset (cable (hardResetSource n (engineReset n d)) n) (cable d n) ∧
    (cable (hardResetSource n (engineReset n d)) n).booked = min (cable d n).booked (cfg d 0x2300 3) := by
  intro hrole
  obtain ⟨rank, hoff⟩ := cable_fencedOff n (engineReset n d)
  have hgone := ungated_vbusGone n (fencedOff n (engineReset n d))
  rw [cable_engineReset, (only_engineReset n d).cfg rfl] at hoff
  rw [hardResetSource_eq]
  exact reset_source hgone hoff hrole

theorem reset_hardResetCore (n : Nat) (d : Dev) : Reset (cable (hardResetCore n d) n) (cable d n) := by
  rw [hardResetCore_eq]
  split
  · exact reset_sink (by rw [cable_hardResetSink, cable_engineReset])
  · exact (cable_hardResetSource n d ‹_›).1

theorem booked_hardResetCore (hrole : (cable d n).powerRole ≠ .sink) :
    (cable (hardResetCore n d) n).booked = min (cable d n).booked (cfg d 0x2300 3) := by
  rw [hardResetCore_eq, if_neg hrole]
  exact (cable_hardResetSource n d hrole).2

theorem fenced_hardResetCore (hrole : (cable d n).powerRole ≠ .sink) : (swPort (hardResetCore n d) n).fenced = true := by
  rw [hardResetCore_eq, if_neg hrole, hardResetSource_eq, (only_vbusGone n _).fenced n rfl]
  exact fenced_fencedOff n _

theorem runsFor_hardResetCore (n : Nat) (d : Dev) : runsFor (.noResponse n) (5 * sec) (hardResetCore n d) := by
  have hrun : runsFor (.noResponse n) (5 * sec) (engineReset n d) := runsFor_arm_self
  rw [hardResetCore_eq]
  split
  · exact ((only_hardResetSink_close n _).runsFor _ (by simp [Part.seenIn]) ((only_hardResetSink_close n _).now rfl)).mpr hrun
  · rw [hardResetSource_eq, runsFor_noResponse_vbusGone]
    exact ((only_fencedOff n _).runsFor _ (by simp [Part.seenIn]) ((only_fencedOff n _).now rfl)).mpr hrun

theorem fencedOff_keeps {x c : Cable} {booked rank : Nat} (h : x = { podClosed (wiped c) with
      booked := booked, pod := .none, profileOn := false, ceiling := none, rank := rank, ng := NgShare.none, swapOpen := false }) :
    x.path = c.path ∧ x.gateOn = c.gateOn ∧ x.powerRole = c.powerRole := by
  subst h
  exact ⟨rfl, rfl, rfl⟩

/-- A source whose gates were on discharges. -/
theorem discharges_hardResetCore (hrole : (cable d n).powerRole = .source) (hgate : (cable d n).gateOn = true) (hpath : (cable d n).path = .on) :
    (cable (hardResetCore n d) n).gateOn = false ∧ (cable (hardResetCore n d) n).path = .discharging ∧
    runsFor (.discharge n) (650 * ms) (hardResetCore n d) := by
  obtain ⟨rank, hoff⟩ := cable_fencedOff n (engineReset n d)
  rw [cable_engineReset] at hoff
  obtain ⟨hpath', hgate', hrole'⟩ := fencedOff_keeps hoff
  rw [hpath] at hpath'
  rw [hgate] at hgate'
  rw [hrole] at hrole'
  clear hoff
  rw [hardResetCore_eq, if_neg (by rw [hrole]; decide), hardResetSource_eq]
  generalize fencedOff n (engineReset n d) = w at hpath' hgate' hrole'
  have hgone : vbusGone n w = gatesOff n .discharging w := by
    simp [vbusGone, powerOff, isShed, isFault, hpath', hgate', hrole']
  rw [hgone]
  refine ⟨gateOn_gatesOff n _ w, path_gatesOff n _ w, ?_⟩
  unfold gatesOff
  dsimp only
  rw [if_pos (by simp [hrole', hgate'])]
  exact runsFor_arm_self

theorem outlasts_fencedOff (n : Nat) (d : Dev) : Outlasts (fencedOff n d) d := by
  have hclosed := (outlasts_podClose n (setFence n true d)).trans (outlasts_setFence n true d)
  unfold fencedOff
  generalize podClose n (setFence n true d) = u at hclosed ⊢
  exact (Outlasts.of_only (S := [.cable n]) (by simp) rfl).trans hclosed

theorem outlasts_hardResetCore (n : Nat) (d : Dev) : Outlasts (hardResetCore n d) d := by
  have hreset : Outlasts (engineReset n d) d := .of_only (only_engineReset n d) rfl
  rw [hardResetCore_eq]
  split
  · refine Outlasts.trans ?_ hreset
    unfold hardResetSink
    exact (outlasts_podClose n _).trans (.of_only (show Only (.cable n :: stepParts) (setBooked n 0 _) _ by simp [setBooked]) rfl)
  · refine Outlasts.trans ?_ hreset
    rw [hardResetSource_eq]
    refine (Outlasts.of_only (only_vbusGone n _) rfl).trans ?_
    exact (outlasts_fencedOff n _)

/-! ### Hard Reset that the port sends -/

theorem sendHardReset_eq (n : Nat) (d : Dev) : sendHardReset n d = arm (.hardDone n) (5 * ms)
    (setCable n (fun c => { c with hardResets := c.hardResets + 1 }) (hardResetCore n (emit (.pdHardReset (Fin.ofNat 8 n)) d))) := rfl

theorem reset_counted {x c : Cable} (h : Reset x c) : Reset { x with hardResets := x.hardResets + 1 } c :=
  ⟨h.contract, h.txId, h.count, h.podOpen, h.pps, h.failed, h.sink⟩

theorem cable_sendHardReset (n : Nat) (d : Dev) : cable (sendHardReset n d) n =
    { cable (hardResetCore n (emit (.pdHardReset (Fin.ofNat 8 n)) d)) n with
      hardResets := (cable (hardResetCore n (emit (.pdHardReset (Fin.ofNat 8 n)) d)) n).hardResets + 1 } := by
  rw [sendHardReset_eq, cable_arm, cable_setCable_self]

theorem reset_sendHardReset (n : Nat) (d : Dev) : Reset (cable (sendHardReset n d) n) (cable d n) := by
  have h := reset_hardResetCore n (emit (.pdHardReset (Fin.ofNat 8 n)) d)
  rw [cable_emit] at h
  rw [cable_sendHardReset]
  generalize cable (hardResetCore n (emit (.pdHardReset (Fin.ofNat 8 n)) d)) n = x at h ⊢
  exact reset_counted h

theorem mem_out_sendHardReset (n : CPort) (hheld : portHeld d n.val = false) : Emission.pdHardReset n ∈ (sendHardReset n.val d).out := by
  have hsaid : Emission.pdHardReset n ∈ (emit (.pdHardReset n) d).out := by
    unfold emit
    rw [show heldSilent d (.pdHardReset n) = false from hheld]
    exact List.mem_append_right _ (List.mem_singleton.mpr rfl)
  have hstill := outlasts_hardResetCore n.val (emit (.pdHardReset n) d) _ hsaid
  have hsame : Only (portParts n.val) (sendHardReset n.val d) (hardResetCore n.val (emit (.pdHardReset n) d)) := by
    rw [sendHardReset_eq, ofNat_val]
    generalize hardResetCore n.val (emit (.pdHardReset n) d) = u
    simp
  rw [hsame.out rfl]
  exact hstill

theorem runsFor_sendHardReset (n : Nat) (d : Dev) : runsFor (.noResponse n) (5 * sec) (sendHardReset n d) ∧
    runsFor (.hardDone n) (5 * ms) (sendHardReset n d) := by
  rw [sendHardReset_eq]
  exact ⟨(runsFor_arm_other (by simp)).mpr (runsFor_setCable.mpr (runsFor_hardResetCore n _)), runsFor_arm_self⟩

end

end Sys2Proof.Proofs.HardReset


/-! SUPPORT. Swaps, Fast Role Swap and resets (chapter 7, R247 to R250, R266, R267, R270). -/

namespace Sys2Proof.Proofs.SwapsAndResets

open Sys2Proof Sys2Proof.Machine Sys2Proof.Safety
open Sys2Proof.Proofs.StepAndTimers
open Sys2Proof.Proofs.ShapersAndTally
open Sys2Proof.Proofs.Frames
open Sys2Proof.Proofs.Running
open Sys2Proof.Proofs.Shepherd
open Sys2Proof.Proofs.CriticalComparator
open Sys2Proof.Proofs.PdMessages
open Sys2Proof.Proofs.PortEvents
open Sys2Proof.Proofs.FaultLadder (cable_setBooked)
open Sys2Proof.Proofs.Detach
open Sys2Proof.Proofs.PdReceiving
open Sys2Proof.Proofs.HardReset

section
variable {S : List Part} {t u v d : Dev} {n : CPort} {id : BitVec 3} {m : PdMsg} {c : Instr} {s : State} {f : Dev → Dev} {P : Dev → Prop}

/-! ### Swaps that a partner asks for -/

/-- A port that has answered a swap. -/
def offered (n code : Nat) (ok : Bool) (d : Dev) : Dev := if ok then setCable n (fun c => { c with swapping := code }) d else d

theorem swapAnswer_eq (n code : Nat) (ok : Bool) (d : Dev) : swapAnswer n code ok d =
    pdSend n (if ok then .accept else .reject) (offered n code ok d) := by cases ok <;> rfl

theorem answering_offered (code : Nat) (ok : Bool) : Answering n (offered n.val code ok d) d := by
  cases ok
  · exact ⟨.refl _ _, rfl, rfl, rfl, rfl⟩
  · exact answering_setCable (f := fun c => { c with swapping := code }) fun _ => ⟨rfl, rfl, rfl, rfl⟩

/-- A swap that is answered from a device that differs from the one that heard it in what it reserves. -/
theorem answers_swap {code : Nat} {ok : Bool} (hexec : exec c s = run (pdReceive n.val id f) s) (h : Hears s.dev n.val id)
    (hf : f (heard n id (hush s.dev)) = swapAnswer n.val code ok v) (hv : Answering n v (heard n id (hush s.dev))) :
    Answers c s fun t => Replies n (if ok then .accept else .reject) t s.dev :=
  answers_replies hexec h (hf.trans (swapAnswer_eq n.val code ok v)) ((answering_offered code ok).trans hv)

theorem answering_self : Answering n d d := ⟨.refl _ _, rfl, rfl, rfl, rfl⟩

/-- What a swap's policy reads stands. -/
theorem policy_heard (n : CPort) (id : BitVec 3) (d : Dev) (i : Nat) : swapAllowed (heard n id (hush d)) n.val i = swapAllowed d n.val i ∧
    roleNow (heard n id (hush d)) n.val = roleNow d n.val ∧ isHalted (heard n id (hush d)) = isHalted d ∧
    cfg (heard n id (hush d)) = cfg d := ⟨rfl, rfl, rfl, rfl⟩

theorem ledgerFree_heard (n : CPort) (id : BitVec 3) (d : Dev) : ledgerFree (heard n id (hush d)) = ledgerFree d := by
  have hport (m : Nat) : portOut (cable (heard n id (hush d)) m) = portOut (cable d m) ∧
      portIn (cable (heard n id (hush d)) m) = portIn (cable d m) := by
    by_cases hm : m = n.val
    · subst hm
      rw [cable_heard]
      exact ⟨rfl, rfl⟩
    · rw [(only_heard n id (hush d)).cable m (by simp [Part.seenIn, Ne.symm hm])]
      exact ⟨rfl, rfl⟩
  exact (ledgerFree_of_entries ((only_heard n id (hush d)).cfg rfl) ((only_heard n id (hush d)).slots rfl) (fun m => (hport m).1) fun m => (hport m).2).1

theorem prSwap_of_source (hears : Hears s.dev n.val id) (hrole : (cable s.dev n.val).powerRole = .source) :
    Answers (.prSwap n id) s fun t => Replies n
      (if isDual n.val && swapAllowed s.dev n.val 0 && roleNow s.dev n.val != 3 then .accept else .reject) t s.dev := by
  refine answers_swap (code := 1) (v := heard n id (hush s.dev)) rfl hears ?_ answering_self
  obtain ⟨hallowed, hrolenow, -, -⟩ := policy_heard n id s.dev 0
  dsimp only
  rw [cable_heard, if_pos (by exact hrole), hallowed, hrolenow]

theorem prSwap_of_sink_refused (hears : Hears s.dev n.val id) (hrole : (cable s.dev n.val).powerRole = .sink)
    (hnot : isDual n.val = false ∨ swapAllowed s.dev n.val 1 = false ∨ roleNow s.dev n.val = 2 ∨ (cable s.dev n.val).guard = .wet) :
    Answers (.prSwap n id) s fun t => Replies n .reject t s.dev := by
  refine answers_swap (code := 2) (ok := false) (v := heard n id (hush s.dev)) rfl hears ?_ answering_self
  obtain ⟨hallowed, hrolenow, -, -⟩ := policy_heard n id s.dev 1
  dsimp only
  rw [cable_heard, if_neg (by rw [show (cable (hush s.dev) n.val).powerRole = .sink from hrole]; decide), hallowed, hrolenow]
  refine if_pos ?_
  obtain h | h | h | h := hnot
  · simp [h]
  · simp [h]
  · simp [h]
  · simp [h]

theorem prSwap_of_sink (hears : Hears s.dev n.val id) (hrole : (cable s.dev n.val).powerRole = .sink) (hdual : isDual n.val = true)
    (hallowed : swapAllowed s.dev n.val 1 = true) (hpref : roleNow s.dev n.val ≠ 2) (hwet : (cable s.dev n.val).guard ≠ .wet) :
    Answers (.prSwap n id) s fun t => Replies n
      (if ledgerFree s.dev < ((5 * rpMa (cfg s.dev (cableObj n.val) 3) : Nat) : Int) then .wait else .accept) t s.dev := by
  obtain ⟨hallow, hrolenow, -, hcfg⟩ := policy_heard n id s.dev 1
  have hgo : (!(isDual n.val && swapAllowed (heard n id (hush s.dev)) n.val 1 && roleNow (heard n id (hush s.dev)) n.val != 2 &&
      (cable (heard n id (hush s.dev)) n.val).guard != .wet)) = false := by
    rw [hallow, hrolenow, cable_heard]
    simp [hdual, hallowed, hpref, hwet]
  split
  · next hshort =>
    refine answers_replies_at_once rfl hears ?_
    dsimp only
    rw [if_neg (by rw [cable_heard]; exact fun h => absurd (hrole.symm.trans h) (by decide)), hgo, if_neg (by decide), hcfg, ledgerFree_heard]
    exact if_pos hshort
  · next hfits =>
    refine answers_swap (code := 2) (ok := true)
      (v := setCable n.val (fun c => { c with reserved := 5 * rpMa (cfg s.dev (cableObj n.val) 3) }) (heard n id (hush s.dev))) rfl hears ?_
      (answering_setCable fun _ => ⟨rfl, rfl, rfl, rfl⟩)
    dsimp only
    rw [if_neg (by rw [cable_heard]; exact fun h => absurd (hrole.symm.trans h) (by decide)), hgo, if_neg (by decide), hcfg, ledgerFree_heard]
    exact if_neg hfits

theorem drSwap_answered (hears : Hears s.dev n.val id) :
    Answers (.drSwap n id) s fun t => Replies n
      (if isDual n.val && swapAllowed s.dev n.val 2 && !(cable s.dev n.val).podOpen then .accept else .reject) t s.dev := by
  refine answers_swap (code := 5) (v := heard n id (hush s.dev)) rfl hears ?_ answering_self
  obtain ⟨hallowed, -, -, -⟩ := policy_heard n id s.dev 2
  rw [cable_heard, hallowed]
  rfl

theorem vconnSwap_of_source (hears : Hears s.dev n.val id) (hvconn : (cable s.dev n.val).vconnSource = true) :
    Answers (.vconnSwap n id) s fun t => Replies n (if swapAllowed s.dev n.val 3 then .accept else .reject) t s.dev := by
  refine answers_swap (code := 7) (v := heard n id (hush s.dev)) rfl hears ?_ answering_self
  obtain ⟨hallowed, -, -, -⟩ := policy_heard n id s.dev 3
  dsimp only
  rw [cable_heard, if_pos (by exact hvconn), hallowed]

theorem wantsVconn_heard (n : CPort) (id : BitVec 3) (d : Dev) :
    wantsVconn (heard n id (hush d)) (cable (heard n id (hush d)) n.val) = wantsVconn d (cable d n.val) := by
  rw [wantsVconn_congr (d := d) rfl rfl, cable_heard]
  rfl

theorem vconnSwap_of_other (hears : Hears s.dev n.val id) (hvconn : (cable s.dev n.val).vconnSource = false) :
    Answers (.vconnSwap n id) s fun t => Replies n
      (if swapAllowed s.dev n.val 3 && !isHalted s.dev && wantsVconn s.dev (cable s.dev n.val) && decide (1000 ≤ ledgerFree s.dev)
        then .accept else .reject) t s.dev := by
  obtain ⟨hallowed, -, hhalted, -⟩ := policy_heard n id s.dev 3
  have hsrc : ¬ (cable (heard n id (hush s.dev)) n.val).vconnSource = true := by
    rw [cable_heard]
    simpa using hvconn
  have hasked : (swapAllowed (heard n id (hush s.dev)) n.val 3 && !isHalted (heard n id (hush s.dev)) &&
      wantsVconn (heard n id (hush s.dev)) (cable (heard n id (hush s.dev)) n.val) && decide (1000 ≤ ledgerFree (heard n id (hush s.dev)))) =
      (swapAllowed s.dev n.val 3 && !isHalted s.dev && wantsVconn s.dev (cable s.dev n.val) && decide (1000 ≤ ledgerFree s.dev)) := by
    rw [hallowed, hhalted, wantsVconn_heard, ledgerFree_heard]
  split
  · next hok =>
    refine answers_swap (code := 6) (ok := true) (v := setCable n.val (fun c => { c with reserved := 1000 }) (heard n id (hush s.dev))) rfl hears ?_
      (answering_setCable fun _ => ⟨rfl, rfl, rfl, rfl⟩)
    dsimp only
    rw [if_neg hsrc, hasked]
    exact if_pos hok
  · next hno =>
    refine answers_swap (code := 6) (ok := false) (v := heard n id (hush s.dev)) rfl hears ?_ answering_self
    dsimp only
    rw [if_neg hsrc, hasked]
    exact if_neg hno

/-! ### Fast Role Swap -/

/-- A port that the FRS signal has made a source. -/
def swapped (ma : Nat) (critical : Bool) (c : Cable) : Cable :=
  { c with powerRole := .source, typec := .attachedSrc, booked := 5 * ma, frs := .swapped, contract := .implicit, pdoKind := .fixed, pos := 0,
           mv := 5000, ma := ma, nego := none, lastSent := none, txQueue := [], swapping := 4, epr := if c.epr = .refused then .refused else .off,
           awaiting := .swapAnswer, gateOn := !critical, path := .on, shedCause := if critical then .critical else c.shedCause }

/-- The device on which it has. -/
def roleTaken (n : Nat) (d : Dev) : Dev :=
  setConverter n 5000 (frsMa (cable d n).frsPartner)
    (setCable n (swapped (frsMa (cable d n).frsPartner) (pdTimersOff n (setBooked n 0 d)).shep.critical) (pdTimersOff n (setBooked n 0 d)))

theorem frSwapSignal_eq (hlistens : pdListens d n.val = true) (harmed : (cable d n.val).frs = .armed) : frSwapSignal n.val d =
    pdSend n.val .frSwap (present_ n.val (rpInitial (roleTaken n.val d) n.val) (needStep (roleTaken n.val d))) := by
  unfold frSwapSignal
  dsimp only
  rw [if_neg (by simp [hlistens, harmed])]
  rfl

theorem only_roleTaken (n : Nat) (d : Dev) : Only (.timersOf (.port n) :: .cable n :: stepParts) (roleTaken n d) d := by simp [roleTaken]

theorem cable_roleTaken (n : Nat) (d : Dev) : cable (roleTaken n d) n =
    { swapped (frsMa (cable d n).frsPartner) d.shep.critical { cable d n with booked := 0 } with
      vctl := vctlOf 5000, ilim := ilimOf (frsMa (cable d n).frsPartner), vcorr := 0 } := by
  have hcrit : (pdTimersOff n (setBooked n 0 d)).shep.critical = d.shep.critical :=
    (congrArg Shepherd.critical ((show Only (portParts n ++ stepParts) (pdTimersOff n (setBooked n 0 d)) d by simp).shepRest rfl) :)
  rw [roleTaken, hcrit, setConverter, cable_setCable_self, cable_setCable_self, cable_pdTimersOff, cable_setBooked]

/-- What the FRS signal leaves of a port that was `c`. -/
structure Swapped (critical : Bool) (x c : Cable) : Prop where
  role : x.powerRole = .source
  frs : x.frs = .swapped
  mv : x.mv = 5000
  booked : x.booked = 5 * frsMa c.frsPartner
  gate : x.gateOn = !critical
  vctl : x.vctl = vctlOf 5000
  awaiting : x.awaiting = .swapAnswer

theorem swapped_of_unsaid {x y c : Cable} {critical : Bool} {ilim : Nat} (h : unsaid x = unsaid y)
    (hy : y = { swapped (frsMa c.frsPartner) critical { c with booked := 0 } with vctl := vctlOf 5000, ilim := ilim, vcorr := 0 }) :
    Swapped critical x c := by
  subst hy
  exact ⟨(congrArg Cable.powerRole h :), (congrArg Cable.frs h :), (congrArg Cable.mv h :), (congrArg Cable.booked h :), (congrArg Cable.gateOn h :),
    (congrArg Cable.vctl h :), (congrArg Cable.awaiting h :)⟩

theorem lastSent_present (n code : Nat) (d : Dev) : (cable (present_ n code d) n).lastSent = (cable d n).lastSent := by
  rw [cable_present_self]
  split <;> rfl

theorem frSwapSignal_swaps (hlistens : pdListens s.dev n.val = true) (harmed : (cable s.dev n.val).frs = .armed) :
    Answers (.frSwapSignal n) s fun t =>
      (cable t n.val).powerRole = .source ∧ (cable t n.val).frs = .swapped ∧ (cable t n.val).mv = 5000 ∧
      (cable t n.val).booked = 5 * frsMa (cable s.dev n.val).frsPartner ∧ (cable t n.val).gateOn = !s.dev.shep.critical ∧
      (cable t n.val).vctl = vctlOf 5000 ∧ (cable t n.val).awaiting = .swapAnswer ∧ Says n .frSwap t ∧ t.shep.stepDue = true ∧
      OnlyPort n.val t s.dev ∧ SameSwitch t s.dev ∧ SameAon t s.dev := by
  refine answers_of_effect rfl (frSwapSignal_eq (d := hush s.dev) hlistens harmed) ?_
  have hcable := cable_roleTaken n.val (hush s.dev)
  have htaken := only_roleTaken n.val (hush s.dev)
  generalize roleTaken n.val (hush s.dev) = w at hcable htaken ⊢
  generalize rpInitial w n.val = code
  have hquiet : (cable (present_ n.val code (needStep w)) n.val).lastSent = none := by
    rw [lastSent_present, cable_needStep, hcable]
    rfl
  have hpresent := only_present_exact n.val code (needStep w)
  have hsame := (unsaid_pdSend n.val .frSwap (present_ n.val code (needStep w)) n.val).trans (unsaid_present n.val code (needStep w) n.val)
  rw [cable_needStep] at hsame
  have hswapped := swapped_of_unsaid (c := cable (hush s.dev) n.val) hsame hcable
  have hdue : (present_ n.val code (needStep w)).shep.stepDue = true := by
    rw [hpresent.shep rfl]
    exact stepDue_needStep.1
  have hreach : Only (.timersOf (.port n.val) :: .cable n.val :: .out :: stepParts) (present_ n.val code (needStep w)) (hush s.dev) :=
    (hpresent.mono (by simp)).trans ((only_needStep (by simp)).mpr (htaken.mono (by simp)))
  generalize present_ n.val code (needStep w) = u at hquiet hswapped hdue hreach ⊢
  have hsays := says_pdSend n .frSwap ((portHeld_congr (hreach.otp rfl) n.val).trans (held_of_listens (d := s.dev) hlistens)) hquiet
  have hsend := only_pdSend_wire n.val .frSwap u
  have hall := only_settled (d := s.dev) ((hsend.mono (by simp)).trans hreach)
  rw [cable_settle, settle_shep, hsend.shep rfl]
  exact ⟨hswapped.role, hswapped.frs, hswapped.mv, hswapped.booked, hswapped.gate, hswapped.vctl, hswapped.awaiting, says_settle hsays, hdue,
    onlyPort_of_only hall (fun k hk => by simp [Part.seenIn, hk.symm]) rfl, hall.sameSwitch rfl, hall.sameAon rfl⟩

/-! ### Soft Reset -/

/-- A port whose engine a Soft_Reset has returned to its start. -/
def softened (c : Cable) : Cable :=
  { c with softResetCount := inc16 c.softResetCount, nego := none, awaiting := .nothing, lastSent := none, txQueue := [], swapping := 0,
           reserved := 0, chunks := Chunks.none, authBusy := false, rxId := some 0 }

/-- The device on which it has. -/
def softResetDone (n : Nat) (d : Dev) : Dev :=
  setCable n softened (pdIdsReset n (emit (.pd (Fin.ofNat 8 n) (.goodCrc 0)) (disarm (.sender n) (disarm (.srcCap n) (disarm (.psTrans n)
    (disarm (.sinkReq n) (disarm (.tsrc n) (disarm (.waitReoffer n) (disarm (.crcRx n) (disarm (.chunk n) (disarm (.chunkResp n)
      (disarm (.auth n) d))))))))))))

theorem softReset_eq (hlistens : pdListens d n.val = true) : softReset n.val d = pdSend n.val .accept (softResetDone n.val d) := by
  unfold softReset
  dsimp only
  rw [if_neg (by simp [hlistens])]
  rfl

theorem only_softResetDone (n : Nat) (d : Dev) : Only (exchangeParts n) (softResetDone n d) d := by simp [softResetDone]

theorem cable_softResetDone (n : Nat) (d : Dev) : cable (softResetDone n d) n =
    softened { cable d n with txId := 0, txIdP := 0, txIdPP := 0, rxId := none, rxIdP := none, rxIdPP := none } := by
  rw [softResetDone, cable_setCable_self, cable_pdIdsReset, cable_emit]
  simp only [cable_disarm]

theorem softReset_answered (hlistens : pdListens s.dev n.val = true) :
    Answers (.softReset n) s fun t => Says n .accept t ∧
      (cable t n.val).softResetCount = inc16 (cable s.dev n.val).softResetCount ∧ (cable t n.val).txId = 0 ∧
      (cable t n.val).nego = none ∧ (cable t n.val).gateOn = (cable s.dev n.val).gateOn ∧
      (cable t n.val).booked = (cable s.dev n.val).booked ∧ (cable t n.val).contract = (cable s.dev n.val).contract ∧
      (swPort t n.val).fenced = (swPort s.dev n.val).fenced ∧ OnlyPort n.val t s.dev ∧ SameAon t s.dev := by
  refine answers_of_effect rfl (softReset_eq (d := hush s.dev) hlistens) ?_
  have hcable := cable_softResetDone n.val (hush s.dev)
  have hreach := only_softResetDone n.val (hush s.dev)
  generalize softResetDone n.val (hush s.dev) = u at hcable hreach ⊢
  have hquiet : (cable u n.val).lastSent = none := by rw [hcable]; rfl
  have hsays := says_pdSend n .accept ((portHeld_congr (hreach.otp rfl) n.val).trans (held_of_listens (d := s.dev) hlistens)) hquiet
  have hsame := unsaid_pdSend n.val .accept u n.val
  have hall := only_settled (d := s.dev) ((only_pdSend_exchange n.val .accept u).trans hreach)
  rw [hcable, cable_hush] at hsame
  rw [hall.fenced n.val rfl, cable_settle]
  generalize cable (pdSend n.val .accept u) n.val = x at hsame ⊢
  exact ⟨says_settle hsays, (congrArg Cable.softResetCount hsame :), (congrArg Cable.txId hsame :), (congrArg Cable.nego hsame :),
    (congrArg Cable.gateOn hsame :), (congrArg Cable.booked hsame :), (congrArg Cable.contract hsame :), rfl,
    onlyPort_of_only hall (fun k hk => by simp [Part.seenIn, hk.symm]) rfl, hall.sameAon rfl⟩

/-! ### Hard Reset -/

theorem hardReset_eq {received : Bool} (hruns : portRuns d n.val = true) (hshed : isShed (cable d n.val) = false)
    (hattached : (cable d n.val).typec = .attachedSrc ∨ (cable d n.val).typec = .attachedSnk) :
    hardReset n.val received d = if received then hardResetCore n.val d else sendHardReset n.val d := by
  unfold hardReset
  rw [if_neg (by simp [hruns, hshed])]
  obtain h | h := hattached <;> rw [h]

/-- What either kind of Hard Reset does to a port. -/
structure HardlyReset (n : CPort) (u d : Dev) : Prop where
  reset : Reset (cable u n.val) (cable d n.val)
  waits : runsFor (.noResponse n.val) (5 * sec) u
  source : (cable d n.val).powerRole ≠ .sink → (swPort u n.val).fenced = true ∧
    (cable u n.val).booked = min (cable d n.val).booked (cfg d 0x2300 3)
  drains : (cable d n.val).powerRole = .source → (cable d n.val).gateOn = true → (cable d n.val).path = .on →
    (cable u n.val).gateOn = false ∧ (cable u n.val).path = .discharging ∧ runsFor (.discharge n.val) (650 * ms) u
  only : Only (hardResetParts n.val) u d

theorem hardlyReset_core (n : CPort) (d : Dev) : HardlyReset n (hardResetCore n.val d) d :=
  ⟨reset_hardResetCore n.val d, runsFor_hardResetCore n.val d, fun h => ⟨fenced_hardResetCore h, booked_hardResetCore h⟩,
    discharges_hardResetCore, by simp⟩

theorem hardlyReset_send (n : CPort) (d : Dev) : HardlyReset n (sendHardReset n.val d) d := by
  have hcore := hardlyReset_core n (emit (.pdHardReset (Fin.ofNat 8 n.val)) d)
  have hcable := cable_sendHardReset n.val d
  have hrest : Only [.cable n.val, .timer (.hardDone n.val)] (sendHardReset n.val d) (hardResetCore n.val (emit (.pdHardReset (Fin.ofNat 8 n.val)) d)) := by
    rw [sendHardReset_eq]
    generalize hardResetCore n.val (emit (.pdHardReset (Fin.ofNat 8 n.val)) d) = v
    simp
  have hsent := reset_sendHardReset n.val d
  have hwhole : Only (hardResetParts n.val) (sendHardReset n.val d) d := by simp
  generalize hardResetCore n.val (emit (.pdHardReset (Fin.ofNat 8 n.val)) d) = v at hcore hcable hrest
  generalize sendHardReset n.val d = u at hcable hrest hsent hwhole ⊢
  obtain ⟨hreset, hwaits, hsource, hdrains, honly⟩ := hcore
  have hcfg : cfg (emit (.pdHardReset (Fin.ofNat 8 n.val)) d) = cfg d := funext fun _ => funext fun _ =>
    (show Only [.out] (emit (.pdHardReset (Fin.ofNat 8 n.val)) d) d by simp).cfg rfl _ _
  rw [cable_emit] at hsource hdrains
  rw [hcfg] at hsource
  refine ⟨hsent, (hrest.runsFor _ (by simp [Part.seenIn]) (hrest.now rfl)).mpr hwaits, fun h => ?_, fun h1 h2 h3 => ?_, ?_⟩
  · obtain ⟨hfenced, hbooked⟩ := hsource h
    rw [hrest.fenced n.val rfl, hcable]
    exact ⟨hfenced, hbooked⟩
  · obtain ⟨hgate, hpath, hrun⟩ := hdrains h1 h2 h3
    rw [hcable]
    exact ⟨hgate, hpath, (hrest.runsFor _ (by simp [Part.seenIn]) (hrest.now rfl)).mpr hrun⟩
  · exact hwhole

theorem hardReset_answered (received : Bool) (hruns : portRuns s.dev n.val = true) (hshed : isShed (cable s.dev n.val) = false)
    (hattached : (cable s.dev n.val).typec = .attachedSrc ∨ (cable s.dev n.val).typec = .attachedSnk) :
    Answers (.hardReset n received) s fun t =>
      (cable t n.val).contract = .none ∧ (cable t n.val).txId = 0 ∧
      (cable t n.val).hardResetCount = inc16 (cable s.dev n.val).hardResetCount ∧ (cable t n.val).podOpen = false ∧
      runsFor (.noResponse n.val) (5 * sec) t ∧ (received = false → Emission.pdHardReset n ∈ t.out) ∧
      ((cable s.dev n.val).powerRole = .sink → (cable t n.val).booked = 0 ∧
        (cable t n.val).gateOn = (cable s.dev n.val).gateOn) ∧
      ((cable s.dev n.val).powerRole ≠ .sink → (swPort t n.val).fenced = true ∧
        (cable t n.val).booked = min (cable s.dev n.val).booked (cfg s.dev 0x2300 3)) ∧
      ((cable s.dev n.val).powerRole = .source → (cable s.dev n.val).gateOn = true → (cable s.dev n.val).path = .on →
        (cable t n.val).gateOn = false ∧ (cable t n.val).path = .discharging ∧ runsFor (.discharge n.val) (650 * ms) t) ∧
      OnlyPort n.val t s.dev ∧ SameAon t s.dev := by
  have heff := hardReset_eq (d := hush s.dev) (received := received) hruns hshed hattached
  have hdone : HardlyReset n (if received then hardResetCore n.val (hush s.dev) else sendHardReset n.val (hush s.dev)) (hush s.dev) := by
    cases received
    · rw [if_neg (by decide)]
      exact hardlyReset_send n (hush s.dev)
    · rw [if_pos rfl]
      exact hardlyReset_core n (hush s.dev)
  have hsays : received = false → Emission.pdHardReset n ∈ (if received then hardResetCore n.val (hush s.dev) else sendHardReset n.val (hush s.dev)).out := by
    rintro rfl
    rw [if_neg (by decide)]
    exact mem_out_sendHardReset (d := hush s.dev) n (portHeld_of_runs (d := s.dev) hruns)
  refine answers_of_effect rfl heff ?_
  generalize (if received then hardResetCore n.val (hush s.dev) else sendHardReset n.val (hush s.dev)) = u at hdone hsays
  obtain ⟨hreset, hwaits, hsource, hdrains, honly⟩ := hdone
  have hall := only_settled (d := s.dev) honly
  rw [cable_settle, settle_out]
  exact ⟨hreset.contract, hreset.txId, hreset.count, hreset.podOpen, runsFor_settle.mpr hwaits, hsays, hreset.sink,
    fun h => ⟨fenced_settle (hsource h).1, (hsource h).2⟩, fun h1 h2 h3 => by
      obtain ⟨hgate, hpath, hrun⟩ := hdrains h1 h2 h3
      exact ⟨hgate, hpath, runsFor_settle.mpr hrun⟩,
    onlyPort_of_only hall (fun k hk => by simp [Part.seenIn, hk.symm]) rfl, hall.sameAon rfl⟩

/-! ### vSafe5V comes back -/

/-- A port whose VBUS may come back. -/
def reopened (n : Nat) (d : Dev) : Dev := setCable n (fun c => { c with path := .off }) d

theorem tsrcRecover_eq (harmed : armed (.tsrcRecover n.val) s.dev = true) (htypec : (cable s.dev n.val).typec = .attachedSrc)
    (hrole : (cable s.dev n.val).powerRole = .source) (hlatched : (cable s.dev n.val).path ≠ .latched)
    (hshed : isShed (cable s.dev n.val) = false) :
    tsrcRecover n.val (hush s.dev) = applyVbus n.val (reopened n.val (expired (.tsrcRecover n.val) s.dev)) := by
  unfold tsrcRecover
  rw [onExpiry_hush_of_armed harmed]
  dsimp only
  rw [cable_expired]
  exact if_neg (by simp [htypec, hrole, hlatched, hshed])

theorem cable_reopened (n : Nat) (d : Dev) : cable (reopened n d) n = { cable d n with path := .off } := cable_setCable_self n _ d

theorem only_reopened (n : Nat) (d : Dev) : Only [.cable n] (reopened n d) d := by simp [reopened]

theorem applyVbus_waits {n : Nat} (hlatched : (cable d n).path ≠ .latched) (hfresh : (cable d n).guardFresh = false) (hwet : (cable d n).guard ≠ .wet) :
    applyVbus n d = setCable n (fun c => { c with vbusWait := true }) d := by
  unfold applyVbus
  dsimp only
  rw [if_neg hlatched, if_pos (by simp [hfresh]), if_neg (fun h => hwet h.1)]

end

/-- Settles O40. -/
theorem swapsAndResets : Obligations.SwapsAndResets := by
  unfold Obligations.SwapsAndResets
  refine ⟨fun s n id hears => ⟨prSwap_of_source hears, prSwap_of_sink hears, prSwap_of_sink_refused hears, drSwap_answered hears,
    vconnSwap_of_source hears, vconnSwap_of_other hears⟩, fun s n => frSwapSignal_swaps, fun s n => softReset_answered,
    fun s n received => hardReset_answered received, fun s n harmed => ?_, fun s n harmed htypec hrole hlatched hshed hwet => ?_⟩
  · exact answers_became rfl (onExpiry_hush_of_armed harmed)
  · have heff := tsrcRecover_eq harmed htypec hrole hlatched hshed
    have hcable := cable_reopened n.val (expired (.tsrcRecover n.val) s.dev)
    have hreach := only_reopened n.val (expired (.tsrcRecover n.val) s.dev)
    have hback : Only [.now, .tm, .timer (.tsrcRecover n.val), .odBook, .out] (expired (.tsrcRecover n.val) s.dev) s.dev := by simp
    rw [cable_expired] at hcable
    have hshep : (reopened n.val (expired (.tsrcRecover n.val) s.dev)).shep = s.dev.shep := (hreach.shep rfl).trans (hback.shep rfl)
    have harm (tm : Timer) (hne : tm ≠ .tsrcRecover n.val) : armed tm (reopened n.val (expired (.tsrcRecover n.val) s.dev)) = armed tm s.dev :=
      (hreach.armed tm rfl).trans (hback.armed tm (by simp [Part.seenIn, hne.symm]))
    generalize reopened n.val (expired (.tsrcRecover n.val) s.dev) = w at heff hcable hreach hshep harm
    have hpath : (cable w n.val).path ≠ .latched := by rw [hcable]; exact fun h => nomatch h
    have hwet' : (cable w n.val).guard ≠ .wet := by rw [hcable]; exact hwet
    refine ⟨fun hfresh hshort hinrush hcrit hbooked => ?_, fun hstale => ?_⟩
    · rw [Restoring.gateOn_applyVbus_of_booked hpath hwet' (by rw [hcable]; exact hfresh) ((harm _ (by simp)).trans hshort)
        ((harm _ (by simp)).trans hinrush) (by rw [hshep]; exact hcrit) (by rw [hcable]; exact hbooked)] at heff
      refine answers_of_effect rfl heff ?_
      have hall := only_settled_expired (d := s.dev) ((show Only (rampParts n.val) (rampUp n.val w) w by simp).trans (hreach.mono (by simp)))
      rw [cable_settle, cable_rampUp, hcable, hshep]
      exact ⟨rfl, rfl, rfl, rfl, onlyPort_of_only hall (fun k hk => by simp [Part.seenIn, hk.symm]) rfl, hall.sameSwitch rfl⟩
    · rw [applyVbus_waits hpath (by rw [hcable]; exact hstale) hwet'] at heff
      refine answers_of_effect rfl heff ?_
      have hall := only_settled_expired (d := s.dev) ((show Only [.cable n.val] (setCable n.val (fun c => { c with vbusWait := true }) w) w by simp).trans
        (hreach.mono (by simp)))
      rw [cable_settle, cable_setCable_self, hcable]
      exact ⟨rfl, onlyPort_of_only hall (fun k hk => by simp [Part.seenIn, hk.symm]) rfl, hall.sameSwitch rfl, hall.shep rfl⟩

end Sys2Proof.Proofs.SwapsAndResets


/-! SUPPORT. The steps of a pod link's identification (chapter 6, R205 to R220): what a profile puts in force, what a vendor-defined
message leaves of a port, and how the fence goes. -/

namespace Sys2Proof.Proofs.PodSteps

open Sys2Proof Sys2Proof.Machine Sys2Proof.Safety
open Sys2Proof.Proofs.StepAndTimers
open Sys2Proof.Proofs.ShapersAndTally
open Sys2Proof.Proofs.Frames
open Sys2Proof.Proofs.PinsAndEpochs (only_vdmAgain only_vdmSend only_podIdle)
open Sys2Proof.Proofs.Running
open Sys2Proof.Proofs.Shepherd
open Sys2Proof.Proofs.PdMessages
open Sys2Proof.Proofs.PortEvents

section
variable {S : List Part} {t u v d e : Dev} {n p k : Nat}

/-! ### The switch settings of a profile -/

/-- What the switch settings of a profile may reach. -/
@[simp] def switchParts : List Part := [.od, .st, .policers, .fab, .sends]

@[simp] theorem only_applyProfileVlan (n vid : Nat) (hS : Within [.od, .st] S = true) :
    Only S (applyProfileVlan n vid d) e ↔ Only S d e :=
  Only.iff (T := [.od, .st]) (by simp [applyProfileVlan, setVlan]) hS

@[simp] theorem only_applyTemplate (n template : Nat) (hS : Within [.od, .st, .policers] S = true) :
    Only S (applyTemplate n template d) e ↔ Only S d e :=
  Only.iff (T := [.od, .st, .policers]) (by simp [applyTemplate, writePolicer]) hS

@[simp] theorem only_applyFold (n fold : Nat) (hS : Within [.od, .fab, .sends] S = true) : Only S (applyFold n fold d) e ↔ Only S d e := by
  refine Only.iff (T := [.od, .fab, .sends]) ?_ hS
  unfold applyFold
  dsimp only
  refine (Only.foldl _ (fun u c _ => ?_) _).trans ?_
  · exact ((FaultLadder.only_rechargeFold n c _).mono (by decide)).trans (by simp)
  · split
    · exact .refl _ d
    · exact (only_onFab (f := fun b => { b with foldCapped := b.foldCapped + 1 }) rfl (by decide)).mpr (.refl _ d)

@[simp] theorem only_applySwitch (n p : Nat) (hS : Within switchParts S = true) : Only S (applySwitch n p d) e ↔ Only S d e :=
  Only.iff (T := switchParts) (by simp [applySwitch]) hS

/-! ### A profile is applied -/

/-- A port that holds a profile's values. -/
def provisioned (d : Dev) (p : Nat) (c : Cable) : Cable :=
  { c with ceiling := if p = 0 then none else some (profCeiling d p), rank := cfg d (0x2400 + p) 6, profileId := p, profileOn := true,
           profRate := if p = 0 then 1 else cfg d (0x2400 + p) 14, profStream := if p = 0 then 0xFF else cfg d (0x2400 + p) 13,
           ng := ngShare d p }

/-- The device on which it does, with the switch settings in force. -/
def provided (n p : Nat) (d : Dev) : Dev := applySwitch n p (setCable n (provisioned d p) d)

theorem provision_eq (n p : Nat) (d : Dev) : provision n p d = recomputeOffer n (provided n p d) := rfl

theorem cable_provided (n p : Nat) (d : Dev) : cable (provided n p d) n = provisioned d p (cable d n) := by
  unfold provided
  generalize provisioned d p = f
  rw [(show Only switchParts (applySwitch n p (setCable n f d)) (setCable n f d) by simp).cable n rfl, cable_setCable_self]

theorem only_provided (n p : Nat) (d : Dev) : Only (.cable n :: switchParts) (provided n p d) d := by simp [provided]

/-- What a profile may reach. -/
@[simp] def profileParts (n : Nat) : List Part := switchParts ++ offerParts n

theorem only_provision_self (n p : Nat) (d : Dev) : Only (profileParts n) (provision n p d) d := by
  rw [provision_eq]
  exact (only_recomputeOffer n (by simp)).mpr ((only_provided n p d).mono (by simp))

@[simp] theorem only_provision (n p : Nat) (hS : Within (profileParts n) S = true) : Only S (provision n p d) e ↔ Only S d e :=
  Only.iff (only_provision_self n p d) hS

theorem unoffered_provision (n p : Nat) (d : Dev) : unoffered (cable (provision n p d) n) = unoffered (provisioned d p (cable d n)) := by
  rw [provision_eq, unoffered_recomputeOffer, cable_provided]

theorem tryProfile_of_fits (h : CeilingFits d n p) : tryProfile n p d = (true, provision n p d) := if_pos h

theorem tryProfile_of_short (h : ¬ CeilingFits d n p) : tryProfile n p d = (false, raiseIrqPort (8 + n) d) := if_neg h

@[simp] theorem only_tryProfile (n p : Nat) (hS : Within (.irq :: profileParts n) S = true) :
    Only S (tryProfile n p d).2 e ↔ Only S d e := by
  refine Only.iff (T := .irq :: profileParts n) ?_ hS
  by_cases h : CeilingFits d n p
  · rw [tryProfile_of_fits h]
    dsimp only
    exact (only_provision_self n p d).mono (by simp)
  · rw [tryProfile_of_short h]
    dsimp only
    exact (only_raiseIrqPort _ (by simp)).mpr (.refl _ d)

/-! ### The fence -/

/-- What the end of a port's identification may reach. -/
@[simp] def liftParts (n : Nat) : List Part := .irq :: fenceParts n

@[simp] theorem only_liftFence (n : Nat) (hS : Within (liftParts n) S = true) : Only S (liftFence n d) e ↔ Only S d e :=
  Only.iff (T := liftParts n) (by simp [liftFence]) hS

theorem fenced_liftFence (n : Nat) (d : Dev) : (swPort (liftFence n d) n).fenced = false :=
  ((show Only [.irq] (liftFence n d) (setFence n false d) by simp [liftFence]).fenced n rfl).trans (fenced_setFence n false d)

theorem irqPort_raiseIrqPort (i : Nat) (hi : i < 32) (d : Dev) : (raiseIrqPort i d).hw.irqPort.getLsbD i = true := by
  show (d.hw.irqPort ||| BitVec.ofNat 32 (2 ^ i)).getLsbD i = true
  rw [BitVec.getLsbD_or, BitVec.getLsbD_ofNat, Nat.testBit_two_pow_self, decide_eq_true hi]
  simp

theorem irqPort_liftFence (n : CPort) (d : Dev) : (liftFence n.val d).hw.irqPort.getLsbD n.val = true :=
  irqPort_raiseIrqPort n.val (Nat.lt_of_lt_of_le n.isLt (by decide)) _

/-! ### The lane mux -/

@[simp] theorem only_muxUpdate (n : Nat) (hS : Within [.cable n, .free] S = true) : Only S (muxUpdate n d) e ↔ Only S d e := by
  refine Only.iff (T := [.cable n, .free]) ?_ hS
  unfold muxUpdate
  simp

/-- A port beside where its mux connects. -/
def unrouted (c : Cable) : Cable := { c with muxRoute := .nothing }

theorem unrouted_muxUpdate (n : Nat) (d : Dev) : unrouted (cable (muxUpdate n d) n) = unrouted (cable d n) := by
  unfold muxUpdate
  dsimp only
  split
  · rfl
  · split
    · rw [cable_setCable_self, (show Only [.free] (drawFree d).2 d by simp).cable n rfl]
      rfl
    · rw [cable_setCable_self]
      rfl

/-! ### Vendor-defined messages -/

/-- A port beside its messages, at the start of a step of R208. -/
theorem unsaid_vdmAgain (n : Nat) (d : Dev) : unsaid (cable (vdmAgain n d) n) = unsaid (cable d n) := by
  unfold vdmAgain
  generalize vdmMessages d (cable d n).vdm = l
  exact List.foldlRecOn (motive := fun u => unsaid (cable u n) = unsaid (cable d n)) l _ rfl
    fun u hu m _ => (unsaid_pdSend n m u n).trans hu

/-- A port in a step of R208. -/
def stepped (step : VdmStep) (c : Cable) : Cable := { c with vdm := step, vdmTries := 0 }

theorem unsaid_vdmSend (n : Nat) (step : VdmStep) (d : Dev) : unsaid (cable (vdmSend n step d) n) = unsaid (stepped step (cable d n)) := by
  unfold vdmSend
  rw [unsaid_vdmAgain, cable_disarm, cable_setCable_self]
  rfl

theorem vdmMessages_congr (h : ∀ obj el, cfg t obj el = cfg d obj el) (hotp : podSvid t = podSvid d) (step : VdmStep) :
    vdmMessages t step = vdmMessages d step := by
  cases step
  case epoch => simp only [vdmMessages, h, hotp]
  all_goals simp only [vdmMessages, hotp]

/-- A step that one message makes up says it at once on a port that waits for nothing. -/
theorem says_vdmAgain {n : CPort} {m : PdMsg} (hheld : portHeld d n.val = false) (hquiet : (cable d n.val).lastSent = none)
    (hm : vdmMessages d (cable d n.val).vdm = [m]) : Says n m (vdmAgain n.val d) := by
  unfold vdmAgain
  rw [hm]
  exact says_pdSend n m hheld hquiet

/-! ### The steps of R208 -/

@[simp] theorem only_startDiscovery (n : Nat) (hS : Within (sendParts n) S = true) : Only S (startDiscovery n d) e ↔ Only S d e :=
  Only.iff (T := sendParts n) (by simp [startDiscovery]) hS

@[simp] theorem only_afterContract (n : Nat) (hS : Within (sendParts n) S = true) : Only S (afterContract n d) e ↔ Only S d e :=
  Only.iff (T := sendParts n) (by simp [afterContract]) hS

@[simp] theorem only_startLink (n : Nat) (hS : Within (sendParts n) S = true) : Only S (startLink n d) e ↔ Only S d e :=
  Only.iff (T := sendParts n) (by simp [startLink]) hS

@[simp] theorem only_startRead (n : Nat) (hS : Within (sendParts n) S = true) : Only S (startRead n d) e ↔ Only S d e :=
  Only.iff (T := sendParts n) (by simp [startRead]) hS

/-- What a port's profile with its fence may reach. -/
@[simp] def identParts (n : Nat) : List Part := .free :: .fence n :: .irq :: .timersOf .switch :: profileParts n

@[simp] theorem only_notAPod (n : Nat) (hS : Within (identParts n) S = true) : Only S (notAPod n d) e ↔ Only S d e :=
  Only.iff (T := identParts n) (by simp [notAPod]) hS

@[simp] theorem only_podFailed (n : Nat) (hS : Within (.irq :: profileParts n) S = true) : Only S (podFailed n d) e ↔ Only S d e :=
  Only.iff (T := .irq :: profileParts n) (by simp [podFailed]) hS

@[simp] theorem only_identified (n : Nat) (b : List Byte) (hS : Within (.irq :: profileParts n) S = true) :
    Only S (identified n b d) e ↔ Only S d e :=
  Only.iff (T := .irq :: profileParts n) (by simp [identified]) hS

@[simp] theorem only_badBlock (n : Nat) (hS : Within (.irq :: profileParts n) S = true) : Only S (badBlock n d) e ↔ Only S d e :=
  Only.iff (T := .irq :: profileParts n) (by simp [badBlock]) hS

/-! ### A port's discovery starts -/

theorem unsaid_startDiscovery (n : Nat) (d : Dev) : unsaid (cable (startDiscovery n d) n) =
    unsaid (stepped .discoverIdentity { cable d n with pod := .discovering, identBuf := [], identTries := 0 }) := by
  unfold startDiscovery
  rw [unsaid_vdmSend, cable_setCable_self]

theorem unsaid_startRead (n : Nat) (d : Dev) : unsaid (cable (startRead n d) n) =
    unsaid (stepped (.identity 0) { cable d n with pod := .reading, identBuf := [] }) := by
  unfold startRead
  rw [unsaid_vdmSend, cable_setCable_self]

/-- A port beside its identification. -/
def unstepped (c : Cable) : Cable :=
  { unoffered c with pod := .none, vdm := .idle, vdmTries := 0, identBuf := [], identTries := 0, muxRoute := .nothing }

theorem unstepped_of_unoffered {x y : Cable} (h : unoffered x = unoffered y) : unstepped x = unstepped y := by
  unfold unstepped
  rw [h]

theorem unstepped_of_unrouted {x y : Cable} (h : unrouted x = unrouted y) : unstepped x = unstepped y :=
  show unstepped (unrouted x) = unstepped (unrouted y) by rw [h]

theorem unstepped_afterContract (n : Nat) (d : Dev) : unstepped (cable (afterContract n d) n) = unstepped (cable d n) := by
  unfold afterContract
  dsimp only
  split
  · exact (unstepped_of_unoffered (unoffered_of_unsaid (unsaid_startDiscovery n d))).trans rfl
  · rfl

end

end Sys2Proof.Proofs.PodSteps


/-! SUPPORT. The source's side of a contract (chapter 7, R231 to R236, R253, R254, R268): what a GoodCRC, a contract that comes into
force, and a partner without PD leave of a port. -/

namespace Sys2Proof.Proofs.SourceSide

open Sys2Proof Sys2Proof.Machine Sys2Proof.Safety
open Sys2Proof.Proofs.StepAndTimers
open Sys2Proof.Proofs.ShapersAndTally
open Sys2Proof.Proofs.Frames
open Sys2Proof.Proofs.Running
open Sys2Proof.Proofs.Shepherd
open Sys2Proof.Proofs.CriticalComparator
open Sys2Proof.Proofs.PdMessages
open Sys2Proof.Proofs.PortEvents
open Sys2Proof.Proofs.FaultLadder (cable_setBooked)
open Sys2Proof.Proofs.Detach
open Sys2Proof.Proofs.PdReceiving
open Sys2Proof.Proofs.HardReset (podClosed outlasts_sendDone)
open Sys2Proof.Proofs.PodSteps

section
variable {S : List Part} {t u v d e : Dev} {n : Nat} {g : Nego}

/-! ### A message is acknowledged -/

/-- A port whose message outstanding has its GoodCRC: the counter of its SOP type has advanced. -/
def counted (c : Cable) : Cable :=
  match c.lastSent with
  | some (.cableIdentity false) => { c with lastSent := none, txIdP := c.txIdP + 1 }
  | some (.cableIdentity true) => { c with lastSent := none, txIdPP := c.txIdPP + 1 }
  | _ => { c with lastSent := none, txId := c.txId + 1 }

theorem counted_of_plain {c : Cable} {m : PdMsg} (h : c.lastSent = some m) (hm : ∀ b, m ≠ .cableIdentity b) :
    counted c = { c with lastSent := none, txId := c.txId + 1 } := by
  unfold counted
  split
  · exact absurd (Option.some.inj (h.symm.trans ‹_›)) (hm _)
  · exact absurd (Option.some.inj (h.symm.trans ‹_›)) (hm _)
  · rfl

theorem counted_of_near {c : Cable} (h : c.lastSent = some (.cableIdentity false)) :
    counted c = { c with lastSent := none, txIdP := c.txIdP + 1 } := by
  unfold counted
  rw [h]

/-- The device on which it has, before the next message in the queue. -/
def released (n : Nat) (d : Dev) : Dev := disarm (.crcRx n) (setCable n counted d)

theorem cable_released (n : Nat) (d : Dev) : cable (released n d) n = counted (cable d n) := by
  rw [released, cable_disarm, cable_setCable_self]

theorem sendDone_eq (n : Nat) (d : Dev) : sendDone n d = match (cable (released n d) n).txQueue with
    | m :: rest => transmit n m (setCable n (fun c => { c with txQueue := rest }) (released n d))
    | [] => collision n false (released n d) := rfl

theorem unsaid_sendDone (n : Nat) (d : Dev) : unsaid (cable (sendDone n d) n) = unsaid (counted (cable d n)) := by
  rw [sendDone_eq]
  have hcable := cable_released n d
  generalize released n d = u at hcable ⊢
  rw [← hcable]
  split
  · rw [unsaid_transmit, cable_setCable_self]
    rfl
  · exact unsaid_collision n false u n

theorem only_sendDone_wire (n : Nat) (d : Dev) : Only (wireParts n) (sendDone n d) d := by
  rw [sendDone_eq]
  have hreach : Only (wireParts n) (released n d) d := by simp [released]
  generalize released n d = u at hreach ⊢
  split
  · exact (only_transmit_wire n _ _).trans (((only_setCable _ _ (by simp)).mpr (.refl _ u)).trans hreach)
  · exact (show Only (wireParts n) (collision n false u) u by simp [collision, present_]).trans hreach

/-- A GoodCRC of the message outstanding. -/
theorem goodcrc_of_plain {m : PdMsg} (hlistens : pdListens d n = true) (h : (cable d n).lastSent = some m)
    (hm : ∀ b, m ≠ .cableIdentity b) : goodcrc n (cable d n).txId d = acknowledged n m (sendDone n d) := by
  unfold goodcrc
  dsimp only
  rw [if_neg (by simp [hlistens]), h]
  dsimp only
  refine if_neg fun hne => hne ?_
  split
  · exact absurd rfl (hm _)
  · exact absurd rfl (hm _)
  · rfl

theorem goodcrc_of_near (hlistens : pdListens d n = true) (h : (cable d n).lastSent = some (.cableIdentity false)) :
    goodcrc n (cable d n).txIdP d = acknowledged n (.cableIdentity false) (sendDone n d) := by
  unfold goodcrc
  dsimp only
  rw [if_neg (by simp [hlistens]), h]
  exact if_neg fun hne => hne rfl

/-- One that carries another MessageID says nothing. -/
theorem goodcrc_of_stale {m : PdMsg} {id : BitVec 3} (hlistens : pdListens d n = true) (h : (cable d n).lastSent = some m)
    (hm : ∀ b, m ≠ .cableIdentity b) (hid : id ≠ (cable d n).txId) : goodcrc n id d = d := by
  unfold goodcrc
  dsimp only
  rw [if_neg (by simp [hlistens]), h]
  dsimp only
  refine if_pos ?_
  split
  · exact absurd rfl (hm _)
  · exact absurd rfl (hm _)
  · exact hid

/-! ### A contract comes into force -/

/-- A source's port under a contract. -/
def contracted (g : Nego) (c : Cable) : Cable :=
  { c with contract := .spr, pdoKind := g.kind, pos := g.pos, mv := g.mv, ma := g.ma, ilim := ilimOf g.ma, mismatch := g.mismatch,
           swapping := 0, swapOpen := false, hardResets := 0, recoveries := 0 }

/-- The device on which it is, with its fence and its keep-alive. -/
def underContract (n : Nat) (g : Nego) (d : Dev) : Dev :=
  let first := !explicit (cable d n)
  let held := (cable d n).pdoKind == .pps && !first
  let d := setCable n (fun c =>
    { c with contract := .spr, pdoKind := g.kind, pos := g.pos, mv := g.mv, ma := g.ma, ilim := ilimOf g.ma,
             mismatch := g.mismatch }) d
  let d := responded n (contractUnfences n d)
  if g.kind = .pps then (if held then d else arm (.srcPps n) (15 * sec) d) else disarm (.srcPps n) d

theorem cable_contractUnfences (n : Nat) (d : Dev) : cable (contractUnfences n d) n = { cable d n with swapping := 0, swapOpen := false } := by
  unfold contractUnfences
  dsimp only
  rw [cable_setCable_self]
  split
  · rw [cable_setFence]
  · rfl

theorem cable_responded (n : Nat) (d : Dev) : cable (responded n d) n = { cable d n with hardResets := 0, recoveries := 0 } := by
  unfold responded
  rw [cable_disarm, cable_setCable_self]

theorem cable_underContract (n : Nat) (g : Nego) (d : Dev) : cable (underContract n g d) n = contracted g (cable d n) := by
  unfold underContract
  dsimp only
  have hall (x : Dev) : cable (responded n (contractUnfences n x)) n =
      { cable x n with swapping := 0, swapOpen := false, hardResets := 0, recoveries := 0 } := by
    rw [cable_responded, cable_contractUnfences]
  split
  · split
    · rw [hall, cable_setCable_self]
      rfl
    · rw [cable_arm, hall, cable_setCable_self]
      rfl
  · rw [cable_disarm, hall, cable_setCable_self]
    rfl

@[simp] theorem only_contractUnfences (n : Nat) (hS : Within (.cable n :: fenceParts n) S = true) :
    Only S (contractUnfences n d) e ↔ Only S d e :=
  Only.iff (T := .cable n :: fenceParts n) (by simp [contractUnfences]) hS

theorem only_underContract (n : Nat) (g : Nego) (d : Dev) : Only (portParts n ++ fenceParts n) (underContract n g d) d := by
  simp [underContract]

/-- The contract's negotiation is over. -/
def concluded (c : Cable) : Cable := { c with nego := none, awaiting := .nothing }

theorem unoffered_endNego (hrole : (cable d n).powerRole = .source) :
    unoffered (cable (endNego n d) n) = unoffered (concluded (cable d n)) := by
  unfold endNego
  dsimp only
  rw [cable_setCable_self, if_pos (by exact hrole)]
  split
  · rw [unoffered_recomputeOffer, cable_setCable_self, cable_setCable_self]
    rfl
  · rw [cable_setCable_self]
    rfl

@[simp] theorem only_endNego (n : Nat) (hS : Within (offerParts n) S = true) : Only S (endNego n d) e ↔ Only S d e :=
  Only.iff (T := offerParts n) (by simp [endNego]) hS

theorem unstepped_firstContract (n : Nat) (d : Dev) : unstepped (cable (firstContract n d) n) = unstepped (cable d n) := by
  unfold firstContract
  dsimp only
  have hoffer := unstepped_of_unoffered (unoffered_recomputeOffer n d n)
  generalize recomputeOffer n d = u at hoffer ⊢
  rw [← hoffer]
  split
  · refine (unstepped_of_unoffered (unoffered_of_unsaid (unsaid_pdSend n _ _ n))).trans ?_
    unfold setAwait
    rw [cable_setCable_self]
    rfl
  · exact unstepped_afterContract n u

@[simp] theorem only_firstContract (n : Nat) (hS : Within (offerParts n) S = true) : Only S (firstContract n d) e ↔ Only S d e :=
  Only.iff (T := offerParts n) (by simp [firstContract]) hS

theorem sourceContract_eq (n : Nat) (g : Nego) (d : Dev) : sourceContract n g d =
    if !explicit (cable d n) then firstContract n (collision n false (endNego n (underContract n g d)))
    else collision n false (endNego n (underContract n g d)) := rfl

theorem unstepped_sourceContract (hrole : (cable d n).powerRole = .source) :
    unstepped (cable (sourceContract n g d) n) = unstepped (concluded (contracted g (cable d n))) := by
  have hcable := cable_underContract n g d
  rw [sourceContract_eq]
  generalize underContract n g d = u at hcable ⊢
  have hend : unstepped (cable (collision n false (endNego n u)) n) = unstepped (concluded (contracted g (cable d n))) := by
    rw [← hcable]
    exact unstepped_of_unoffered ((unoffered_of_unsaid (unsaid_collision n false _ n)).trans (unoffered_endNego (by rw [hcable]; exact hrole)))
  split
  · rw [unstepped_firstContract, hend]
  · exact hend

/-- What a source's contract may reach. -/
@[simp] def contractParts (n : Nat) : List Part := offerParts n ++ fenceParts n

theorem only_sourceContract (n : Nat) (g : Nego) (d : Dev) : Only (contractParts n) (sourceContract n g d) d := by
  have hreach := (only_underContract n g d).mono (S := contractParts n) (by simp)
  rw [sourceContract_eq]
  generalize underContract n g d = u at hreach ⊢
  split
  · rw [only_firstContract n (by simp), only_collision n _ (by simp), only_endNego n (by simp)]
    exact hreach
  · rw [only_collision n _ (by simp), only_endNego n (by simp)]
    exact hreach

/-! ### A partner that is no pod -/

/-- A port beside its offer, its mux and its profile. -/
def unprofiled (c : Cable) : Cable :=
  { unrouted (unoffered c) with ceiling := none, rank := 0, profileId := 0, profileOn := false, profRate := 0, profStream := 0,
                                ng := NgShare.none }

theorem unprofiled_of_unoffered {x y : Cable} (h : unoffered x = unoffered y) : unprofiled x = unprofiled y := by
  unfold unprofiled
  rw [h]

theorem unprofiled_of_unrouted {x y : Cable} (h : unrouted x = unrouted y) : unprofiled x = unprofiled y :=
  show unprofiled (unrouted x) = unprofiled (unrouted y) by rw [h]

theorem unprofiled_tryProfile (n p : Nat) (d : Dev) : unprofiled (cable (tryProfile n p d).2 n) = unprofiled (cable d n) := by
  by_cases h : CeilingFits d n p
  · rw [tryProfile_of_fits h]
    dsimp only
    rw [unprofiled_of_unoffered (unoffered_provision n p d)]
    rfl
  · rw [tryProfile_of_short h]
    rfl

/-- A port whose partner is no pod, before its profile. -/
def podless (n : Nat) (d : Dev) : Dev := muxUpdate n (setCable n (fun c => { c with pod := .notAPod, vdm := .idle }) d)

theorem notAPod_eq (n : Nat) (d : Dev) : notAPod n d =
    if (tryProfile n 0 (podless n d)).1 then liftFence n (tryProfile n 0 (podless n d)).2 else (tryProfile n 0 (podless n d)).2 := rfl

theorem unrouted_podless (n : Nat) (d : Dev) : unrouted (cable (podless n d) n) = unrouted { cable d n with pod := .notAPod, vdm := .idle } := by
  rw [podless, unrouted_muxUpdate, cable_setCable_self]

theorem only_podless (n : Nat) (d : Dev) : Only [.cable n, .free] (podless n d) d := by simp [podless]

@[simp] theorem cable_liftFence (n : Nat) (d : Dev) (m : Nat) : cable (liftFence n d) m = cable d m :=
  (show Only (liftParts n) (liftFence n d) d by simp).cable m rfl

theorem unprofiled_notAPod (n : Nat) (d : Dev) :
    unprofiled (cable (notAPod n d) n) = unprofiled { cable d n with pod := .notAPod, vdm := .idle } := by
  rw [notAPod_eq, ← unprofiled_of_unrouted (unrouted_podless n d), ← unprofiled_tryProfile n 0 (podless n d)]
  split
  · rw [cable_liftFence]
  · rfl

/-! ### Type-C current -/

/-- A port whose PD engine and pod link are gone. -/
def silenced (n : Nat) (d : Dev) : Dev := podClose n (pdForget n d)

theorem cable_silenced (n : Nat) (d : Dev) : cable (silenced n d) n = podClosed (forgotten (cable d n)) := by
  rw [silenced, cable_podClose, cable_pdForget]
  rfl

/-- What their end may reach. -/
@[simp] def silentParts (n : Nat) : List Part := .fence n :: podParts n

theorem only_silenced (n : Nat) (d : Dev) : Only (podParts n) (silenced n d) d := by simp [silenced]

theorem ledgerFree_silenced (hreserved : (cable d n).reserved = 0) : ledgerFree (silenced n d) = ledgerFree d := by
  have hcable := cable_silenced n d
  have hreach := only_silenced n d
  generalize silenced n d = u at hcable hreach ⊢
  have hport (m : Nat) : portOut (cable u m) = portOut (cable d m) ∧ portIn (cable u m) = portIn (cable d m) := by
    by_cases hm : m = n
    · subst hm
      rw [hcable]
      refine ⟨?_, rfl⟩
      unfold portOut
      rw [hreserved]
      rfl
    · rw [hreach.cable m (by simp [Part.seenIn, Ne.symm hm])]
      exact ⟨rfl, rfl⟩
  exact (ledgerFree_of_entries (hreach.cfg rfl) (hreach.slots rfl) (fun m => (hport m).1) fun m => (hport m).2).1

/-- A port that sources Type-C current. -/
def typecOnly (n ma : Nat) (d : Dev) : Dev := setConverter n 5000 ma (setCable n (fun c =>
  { c with contract := .typecOnly, pdoKind := .fixed, mv := 5000, ma := ma, booked := 5 * ma }) (silenced n d))

/-- A port whose Type-C current is not admitted. -/
def unsupplied (n : Nat) (d : Dev) : Dev :=
  needStep (vconnOff n (setCable n (fun c => { c with booked := 0, firstRefused := true }) (powerOff n (setFence n true (silenced n d)))))

theorem nonPd_eq (n : Nat) (d : Dev) : nonPd n d =
    if (5 * rpMa (cfg d (cableObj n) 3) : Int) - (cable (silenced n d) n).booked ≤ ledgerFree (silenced n d) then
      notAPod n (typecOnly n (rpMa (cfg d (cableObj n) 3)) d)
    else unsupplied n d := rfl

theorem cable_typecOnly (n ma : Nat) (d : Dev) : ∃ vctl, cable (typecOnly n ma d) n =
    { podClosed (forgotten (cable d n)) with contract := .typecOnly, pdoKind := .fixed, mv := 5000, ma := ma, booked := 5 * ma,
                                             vctl := vctl, ilim := ilimOf ma, vcorr := 0 } := by
  refine ⟨vctlOf 5000, ?_⟩
  rw [typecOnly, setConverter, cable_setCable_self, cable_setCable_self, cable_silenced]

theorem only_typecOnly (n ma : Nat) (d : Dev) : Only (podParts n) (typecOnly n ma d) d := by
  unfold typecOnly
  rw [only_setConverter _ _ _ (by simp), only_setCable _ _ (by simp)]
  exact only_silenced n d

theorem cable_vconnOff (n : Nat) (d : Dev) : cable (vconnOff n d) n =
    { cable d n with vconn := if (cable d n).vconn = 1 then 0 else (cable d n).vconn } := cable_setCable_self n _ d

theorem unsupplied_off (n : Nat) (d : Dev) : (cable (unsupplied n d) n).gateOn = false ∧ (cable (unsupplied n d) n).booked = 0 ∧
    (cable (unsupplied n d) n).firstRefused = true := by
  have hgate := InrushAndDroop.gateOn_powerOff n (setFence n true (silenced n d))
  unfold unsupplied
  generalize powerOff n (setFence n true (silenced n d)) = w at hgate ⊢
  rw [cable_needStep, cable_vconnOff, cable_setCable_self]
  exact ⟨hgate, rfl, rfl⟩

theorem fenced_unsupplied (n : Nat) (d : Dev) : (swPort (unsupplied n d) n).fenced = true := by
  have hrest : Only (stepParts ++ portParts n) (unsupplied n d) (setFence n true (silenced n d)) := by simp [unsupplied]
  rw [hrest.fenced n rfl]
  exact fenced_setFence n true _

theorem stepDue_unsupplied (n : Nat) (d : Dev) : (unsupplied n d).shep.stepDue = true := by
  unfold unsupplied
  exact stepDue_needStep.1

theorem only_unsupplied (n : Nat) (d : Dev) : Only (hardResetParts n) (unsupplied n d) d := by
  unfold unsupplied
  rw [only_needStep (by simp), only_vconnOff _ (by simp), only_setCable _ _ (by simp), only_powerOff _ (by simp), only_setFence _ _ (by simp)]
  exact (only_silenced n d).mono (by simp)

end

end Sys2Proof.Proofs.SourceSide


/-! SUPPORT. The source's Requests, its offers and its time-outs (chapter 7, R231 to R236, R253, R254, R268). -/

namespace Sys2Proof.Proofs.SourceContracts

open Sys2Proof Sys2Proof.Machine Sys2Proof.Safety
open Sys2Proof.Proofs.StepAndTimers
open Sys2Proof.Proofs.ShapersAndTally
open Sys2Proof.Proofs.Frames
open Sys2Proof.Proofs.Running
open Sys2Proof.Proofs.Shepherd
open Sys2Proof.Proofs.CriticalComparator
open Sys2Proof.Proofs.PdMessages
open Sys2Proof.Proofs.PortEvents
open Sys2Proof.Proofs.FaultLadder (cable_setBooked)
open Sys2Proof.Proofs.Detach
open Sys2Proof.Proofs.PdReceiving
open Sys2Proof.Proofs.HardReset
open Sys2Proof.Proofs.PodSteps
open Sys2Proof.Proofs.SourceSide

section
variable {S : List Part} {t u v d e : Dev} {n : CPort} {id : BitVec 3} {rdo : Word} {g : Nego} {m : PdMsg} {c : Instr} {s : State} {tm : Timer}
  {P : Dev → Prop}

/-! ### Requests -/

/-- A source that has heard a Request: what ran for one has stopped, and the keep-alive of a PPS contract runs afresh. -/
def asked (n : Nat) (d : Dev) : Dev :=
  let c := cable d n
  let d := disarm (.sender n) (disarm (.waitReoffer n) d)
  if c.contract = .spr ∧ c.pdoKind = .pps then arm (.srcPps n) (15 * sec) d else d

theorem only_asked (n : Nat) (d : Dev) : Only [.timersOf (.port n)] (asked n d) d := by simp [asked]

theorem cable_asked (n : Nat) (d : Dev) (m : Nat) : cable (asked n d) m = cable d m := (only_asked n d).cable m rfl

theorem answering_asked (n : CPort) (d : Dev) : Answering n (asked n.val d) d :=
  .of_cable ((only_asked n.val d).mono (by simp)) (f := fun c => c) (cable_asked n.val d n.val) fun _ => ⟨rfl, rfl, rfl, rfl⟩

/-- A source that has promised a choice, with its rise booked. -/
def promised (g : Nego) (c : Cable) : Cable := { c with nego := some g, awaiting := .nothing, booked := max c.booked g.booking }

/-- What a Request gets. -/
def requestEnd (n : Nat) (d : Dev) : RequestEnd → Dev
  | .accept g => pdSend n .accept (setCable n (promised g) d)
  | .wait => negoOver n (pdSend n .wait d)
  | .reject => negoOver n (pdSend n .reject d)

theorem inTransition_heard (n : CPort) (id : BitVec 3) (d : Dev) : inTransition (heard n id (hush d)) n.val = inTransition d n.val := by
  unfold inTransition
  rw [cable_heard]
  rfl

/-- The device on which a Request is judged. -/
def judged (n : CPort) (id : BitVec 3) (d : Dev) : Dev := asked n.val (heard n id (hush d))

theorem cable_judged (n : CPort) (id : BitVec 3) (d : Dev) : cable (judged n id d) n.val = { cable d n.val with rxId := some id } := by
  rw [judged, cable_asked, cable_heard, cable_hush]

theorem answering_judged (n : CPort) (id : BitVec 3) (d : Dev) : Answering n (judged n id d) (hush d) :=
  (answering_asked n _).trans (answering_heard n id (hush d))

theorem ledgerFree_judged (n : CPort) (id : BitVec 3) (d : Dev) : ledgerFree (judged n id d) = ledgerFree d := by
  have hasked := only_asked n.val (heard n id (hush d))
  refine Eq.trans ?_ (SwapsAndResets.ledgerFree_heard n id d)
  exact ledgerFree_congr (hasked.cfg rfl) (hasked.slots rfl) fun m => hasked.cable m rfl

theorem judgeRequest_congr {n : Nat} (hfree : ledgerFree t = ledgerFree d) (hoffer : (cable t n).offer = (cable d n).offer)
    (hbooked : (cable t n).booked = (cable d n).booked) : judgeRequest t n rdo = judgeRequest d n rdo := by
  have hasks : requestOf (cable t n) rdo = requestOf (cable d n) rdo := by
    unfold requestOf
    rw [hoffer]
  unfold judgeRequest
  dsimp only
  rw [hasks, hfree, hbooked]

theorem judgeRequest_judged (n : CPort) (id : BitVec 3) (d : Dev) (rdo : Word) :
    judgeRequest (judged n id d) n.val rdo = judgeRequest d n.val rdo := by
  have hcable := cable_judged n id d
  have hfree := ledgerFree_judged n id d
  generalize judged n id d = w at hcable hfree ⊢
  exact judgeRequest_congr hfree (by rw [hcable]) (by rw [hcable])

/-- What a source does with a Request that it has heard. -/
def requestHeard (n : Nat) (rdo : Word) (d : Dev) : Dev :=
  if (cable d n).powerRole ≠ .source || inTransition d n then protocolError n d
  else requestEnd n (asked n d) (judgeRequest (asked n d) n rdo)

theorem request_def (n : Nat) (id : BitVec 3) (rdo : Word) (d : Dev) : request n id rdo d = pdReceive n id (requestHeard n rdo) d := by
  have hheard (u : Dev) : (if (cable u n).powerRole ≠ .source || inTransition u n then protocolError n u
      else match judgeRequest (asked n u) n rdo with
        | .accept g => pdSend n .accept (setCable n (promised g) (asked n u))
        | .wait => negoOver n (pdSend n .wait (asked n u))
        | .reject => negoOver n (pdSend n .reject (asked n u))) = requestHeard n rdo u := by
    unfold requestHeard
    generalize judgeRequest (asked n u) n rdo = j
    cases j with
    | accept g => rfl
    | wait => rfl
    | reject => rfl
  rw [← funext hheard]
  rfl

theorem request_eq (hears : Hears s.dev n.val id) (hrole : (cable s.dev n.val).powerRole = .source)
    (htrans : inTransition s.dev n.val = false) :
    request n.val id rdo (hush s.dev) = requestEnd n.val (judged n id s.dev) (judgeRequest s.dev n.val rdo) := by
  rw [request_def, pdReceive_new (d := hush s.dev) hears, ← judgeRequest_judged n id]
  exact if_neg (by rw [inTransition_heard, htrans, cable_heard]; simp [hrole])

theorem judge_rejects (h : requestOf (cable d n.val) rdo = none ∨ ∃ g, requestOf (cable d n.val) rdo = some (g, false)) :
    judgeRequest d n.val rdo = .reject := by
  unfold judgeRequest
  dsimp only
  obtain h | ⟨g, h⟩ := h
  · rw [h]
  · rw [h]
    rfl

theorem judge_waits (h : requestOf (cable d n.val) rdo = some (g, true)) (hmismatch : g.mismatch = false)
    (hfree : ledgerFree d < (g.booking : Int) - (cable d n.val).booked) : judgeRequest d n.val rdo = .wait := by
  unfold judgeRequest
  dsimp only
  rw [h]
  dsimp only
  rw [if_neg (by decide), if_neg (by simp [hmismatch]), if_pos hfree]

theorem judge_accepts (h : requestOf (cable d n.val) rdo = some (g, true))
    (hfits : g.mismatch = true ∨ (g.booking : Int) - (cable d n.val).booked ≤ ledgerFree d) : judgeRequest d n.val rdo = .accept g := by
  unfold judgeRequest
  dsimp only
  rw [h]
  dsimp only
  rw [if_neg (by decide)]
  obtain hmismatch | hfree := hfits
  · exact if_pos hmismatch
  · split
    · rfl
    · exact if_neg (not_lt.mpr hfree)

theorem negoOver_of_source {n : Nat} (h : (cable d n).powerRole = .source) : negoOver n d = setCable n concluded d := by
  unfold negoOver
  dsimp only
  rw [cable_setCable_self]
  exact if_pos h

/-- What a source's answer may reach. -/
@[simp] def answerParts (n : Nat) : List Part := .timer .overrun :: exchangeParts n

theorem only_of_exchange (h : Only (answerParts n.val) u (hush d)) :
    OnlyPort n.val (settle u) d ∧ SameSwitch (settle u) d ∧ SameAon (settle u) d := by
  have hall := only_settled h
  exact ⟨onlyPort_of_only hall (fun k hk => by simp [Part.seenIn, hk.symm]) rfl, hall.sameSwitch rfl, hall.sameAon rfl⟩

/-- A Request that is not accepted leaves the contract and the offer as they stood. -/
theorem turned_down (hears : Hears s.dev n.val id) (hrole : (cable s.dev n.val).powerRole = .source) (m : PdMsg) :
    let t := settle (negoOver n.val (pdSend n.val m (judged n id s.dev)))
    ((cable s.dev n.val).lastSent = none → Says n m t) ∧ (cable t n.val).booked = (cable s.dev n.val).booked ∧
      (cable t n.val).contract = (cable s.dev n.val).contract ∧ (cable t n.val).offer = (cable s.dev n.val).offer ∧
      (cable t n.val).offerHeld = (cable s.dev n.val).offerHeld ∧ (cable t n.val).nego = none ∧ OnlyPort n.val t s.dev ∧
      SameSwitch t s.dev ∧ SameAon t s.dev := by
  obtain ⟨hlistens, -, -⟩ := hears
  have hcable := cable_judged n id s.dev
  have hjudged := (answering_judged n id s.dev).only
  generalize judged n id s.dev = w at hcable hjudged
  have hsame := unsaid_pdSend n.val m w n.val
  have hreach := (only_pdSend_exchange n.val m w).trans hjudged
  have hsays : (cable s.dev n.val).lastSent = none → Says n m (pdSend n.val m w) := fun hquiet =>
    says_pdSend n m ((portHeld_congr (hjudged.otp rfl) n.val).trans (held_of_listens (d := s.dev) hlistens)) (by rw [hcable]; exact hquiet)
  generalize pdSend n.val m w = y at hsame hreach hsays
  rw [hcable] at hsame
  have hrole' : (cable y n.val).powerRole = .source := (congrArg Cable.powerRole hsame :).trans hrole
  rw [negoOver_of_source hrole']
  have hover : Only (exchangeParts n.val) (setCable n.val concluded y) (hush s.dev) := (only_setCable _ _ (by simp)).mpr hreach
  dsimp only
  rw [cable_settle, cable_setCable_self]
  refine ⟨fun hquiet => ?_, ?_, ?_, ?_, ?_, rfl, only_of_exchange (hover.mono (by simp))⟩
  · obtain ⟨hout, hsent⟩ := hsays hquiet
    exact says_settle ⟨hout, by rw [cable_setCable_self]; exact hsent⟩
  · exact (congrArg Cable.booked hsame :)
  · exact (congrArg Cable.contract hsame :)
  · exact (congrArg Cable.offer hsame :)
  · exact (congrArg Cable.offerHeld hsame :)

theorem request_accepted (hears : Hears s.dev n.val id) (hrole : (cable s.dev n.val).powerRole = .source)
    (htrans : inTransition s.dev n.val = false) (hjudge : judgeRequest s.dev n.val rdo = .accept g) :
    Answers (.request n id rdo) s fun t => ((cable s.dev n.val).lastSent = none → Says n .accept t) ∧
      (cable t n.val).booked = max (cable s.dev n.val).booked g.booking ∧ (cable t n.val).nego = some g ∧
      (cable t n.val).contract = (cable s.dev n.val).contract ∧ OnlyPort n.val t s.dev ∧ SameSwitch t s.dev ∧ SameAon t s.dev := by
  refine answers_of_effect rfl (request_eq hears hrole htrans) ?_
  rw [hjudge]
  show _ ∧ _
  unfold requestEnd
  dsimp only
  obtain ⟨hlistens, -, -⟩ := hears
  have hcable := cable_judged n id s.dev
  have hjudged := (answering_judged n id s.dev).only
  generalize judged n id s.dev = w at hcable hjudged
  have hbooked := cable_setCable_self n.val (promised g) w
  have hreach : Only (exchangeParts n.val) (setCable n.val (promised g) w) (hush s.dev) := (only_setCable _ _ (by simp)).mpr hjudged
  rw [hcable] at hbooked
  generalize setCable n.val (promised g) w = y at hbooked hreach ⊢
  have hsame := unsaid_pdSend n.val .accept y n.val
  rw [hbooked] at hsame
  rw [cable_settle]
  refine ⟨fun hquiet => says_settle (says_pdSend n .accept
      ((portHeld_congr (hreach.otp rfl) n.val).trans (held_of_listens (d := s.dev) hlistens)) (by rw [hbooked]; exact hquiet)), ?_, ?_, ?_,
    only_of_exchange (((only_pdSend_exchange n.val .accept y).trans hreach).mono (by simp))⟩
  · exact (congrArg Cable.booked hsame :)
  · exact (congrArg Cable.nego hsame :)
  · exact (congrArg Cable.contract hsame :)

theorem request_answered (hears : Hears s.dev n.val id) (hrole : (cable s.dev n.val).powerRole = .source)
    (htrans : inTransition s.dev n.val = false) :
    let stands (t : Dev) : Prop := (cable t n.val).booked = (cable s.dev n.val).booked ∧
      (cable t n.val).contract = (cable s.dev n.val).contract ∧ (cable t n.val).offer = (cable s.dev n.val).offer ∧
      (cable t n.val).offerHeld = (cable s.dev n.val).offerHeld ∧ (cable t n.val).nego = none ∧ OnlyPort n.val t s.dev ∧
      SameSwitch t s.dev ∧ SameAon t s.dev
    ((requestOf (cable s.dev n.val) rdo = none ∨ ∃ g, requestOf (cable s.dev n.val) rdo = some (g, false)) →
      Answers (.request n id rdo) s fun t => ((cable s.dev n.val).lastSent = none → Says n .reject t) ∧ stands t) ∧
    (∀ g : Nego, requestOf (cable s.dev n.val) rdo = some (g, true) → g.mismatch = false →
      ledgerFree s.dev < (g.booking : Int) - (cable s.dev n.val).booked →
      Answers (.request n id rdo) s fun t => ((cable s.dev n.val).lastSent = none → Says n .wait t) ∧ stands t) ∧
    (∀ g : Nego, requestOf (cable s.dev n.val) rdo = some (g, true) →
      (g.mismatch = true ∨ (g.booking : Int) - (cable s.dev n.val).booked ≤ ledgerFree s.dev) →
      Answers (.request n id rdo) s fun t => ((cable s.dev n.val).lastSent = none → Says n .accept t) ∧
        (cable t n.val).booked = max (cable s.dev n.val).booked g.booking ∧ (cable t n.val).nego = some g ∧
        (cable t n.val).contract = (cable s.dev n.val).contract ∧ OnlyPort n.val t s.dev ∧ SameSwitch t s.dev ∧
        SameAon t s.dev) := by
  have heff := request_eq (rdo := rdo) hears hrole htrans
  refine ⟨fun hoff => ?_, fun g hin hmismatch hfree => ?_, fun g hin hfits => request_accepted hears hrole htrans (judge_accepts hin hfits)⟩
  · rw [judge_rejects hoff] at heff
    exact answers_of_effect rfl heff (turned_down hears hrole .reject)
  · rw [judge_waits hin hmismatch hfree] at heff
    exact answers_of_effect rfl heff (turned_down hears hrole .wait)

/-! ### GoodCRC -/

/-- What a GoodCRC of the source's messages may reach. -/
theorem goodcrc_settles {w : Dev} (h : Only (answerParts n.val) w (sendDone n.val (hush d))) :
    OnlyPort n.val (settle w) d ∧ SameSwitch (settle w) d ∧ SameAon (settle w) d :=
  only_of_exchange (h.trans ((only_sendDone_wire n.val (hush d)).mono (by simp)))

/-- A source that has accepted a choice books no more than it. -/
def lowered (n : Nat) (g : Nego) (d : Dev) : Dev := if g.booking < (cable d n).booked then setBooked n g.booking d else d

theorem cable_lowered (n : Nat) (g : Nego) (d : Dev) : cable (lowered n g d) n = { cable d n with booked := min (cable d n).booked g.booking } := by
  unfold lowered
  split
  · next h => rw [cable_setBooked, min_eq_right h.le]
  · next h => rw [min_eq_left (not_lt.mp h)]

theorem only_lowered (n : Nat) (g : Nego) (d : Dev) : Only (.cable n :: stepParts) (lowered n g d) d := by simp [lowered]

theorem acknowledged_accept {n : Nat} (hnego : (cable d n).nego = some g) (hkeep : isKeepAlive (cable d n) g = false) :
    acknowledged n .accept d = arm (.tsrc n) (30 * ms) (lowered n g d) := by
  unfold acknowledged
  dsimp only
  rw [hnego]
  dsimp only
  rw [if_neg (by simp [hkeep])]
  rfl

theorem acknowledged_psRdy {n : Nat} (hnego : (cable d n).nego = some g) : acknowledged n .psRdy d = sourceContract n g d := by
  unfold acknowledged
  dsimp only
  rw [hnego]

theorem acknowledged_wait {n : Nat} (hrole : (cable d n).powerRole = .source) :
    acknowledged n .wait d = arm (.waitReoffer n) (100 * ms) d := if_pos hrole

/-- What a port that has its GoodCRC keeps. -/
theorem sent_plain {n : Nat} (hsent : (cable d n).lastSent = some m) (hm : ∀ b, m ≠ .cableIdentity b) :
    unsaid (cable (sendDone n d) n) = unsaid { cable d n with txId := (cable d n).txId + 1 } := by
  rw [unsaid_sendDone, counted_of_plain hsent hm]
  rfl

theorem goodcrc_accept (hlistens : pdListens s.dev n.val = true) (hnego : (cable s.dev n.val).nego = some g)
    (hsent : (cable s.dev n.val).lastSent = some .accept) (hkeep : isKeepAlive (cable s.dev n.val) g = false) :
    Answers (.goodcrc n (cable s.dev n.val).txId) s fun t => runsFor (.tsrc n.val) (30 * ms) t ∧
      (cable t n.val).txId = (cable s.dev n.val).txId + 1 ∧
      (cable t n.val).booked = min (cable s.dev n.val).booked g.booking ∧ OnlyPort n.val t s.dev ∧ SameSwitch t s.dev ∧
      SameAon t s.dev := by
  refine answers_of_effect rfl (goodcrc_of_plain (d := hush s.dev) hlistens hsent (by simp)) ?_
  have hsame := sent_plain (d := hush s.dev) hsent (by simp)
  have hsettles := fun w => goodcrc_settles (n := n) (d := s.dev) (w := w)
  rw [cable_hush] at hsame
  generalize sendDone n.val (hush s.dev) = u at hsame hsettles ⊢
  have hnego' : (cable u n.val).nego = some g := (congrArg Cable.nego hsame :).trans hnego
  have hkeep' : isKeepAlive (cable u n.val) g = false := (congrArg (isKeepAlive · g) hsame :).trans hkeep
  rw [acknowledged_accept hnego' hkeep', cable_settle, cable_arm, cable_lowered]
  refine ⟨runsFor_settle.mpr runsFor_arm_self, (congrArg Cable.txId hsame :), ?_, hsettles _ ?_⟩
  · exact congrArg (min · g.booking) (congrArg Cable.booked hsame :)
  · exact (only_arm _ _ (by simp)).mpr ((only_lowered n.val g u).mono (by simp))

theorem contracted_of_unstepped {x y : Cable} (h : unstepped x = unstepped (concluded (contracted g y))) :
    x.contract = .spr ∧ x.pos = g.pos ∧ x.mv = g.mv ∧ x.ma = g.ma ∧ x.ilim = ilimOf g.ma ∧ x.nego = none ∧ x.hardResets = 0 ∧
      x.booked = y.booked :=
  ⟨(congrArg Cable.contract h :), (congrArg Cable.pos h :), (congrArg Cable.mv h :), (congrArg Cable.ma h :), (congrArg Cable.ilim h :),
    (congrArg Cable.nego h :), (congrArg Cable.hardResets h :), (congrArg Cable.booked h :)⟩

theorem goodcrc_psRdy (hlistens : pdListens s.dev n.val = true) (hnego : (cable s.dev n.val).nego = some g)
    (hsent : (cable s.dev n.val).lastSent = some .psRdy) (hrole : (cable s.dev n.val).powerRole = .source) :
    Answers (.goodcrc n (cable s.dev n.val).txId) s fun t =>
      (cable t n.val).contract = .spr ∧ (cable t n.val).pos = g.pos ∧ (cable t n.val).mv = g.mv ∧ (cable t n.val).ma = g.ma ∧
      (cable t n.val).ilim = ilimOf g.ma ∧ (cable t n.val).nego = none ∧ (cable t n.val).hardResets = 0 ∧
      (cable t n.val).booked = (cable s.dev n.val).booked ∧ OnlyPort n.val t s.dev ∧ SameAon t s.dev := by
  refine answers_of_effect rfl (goodcrc_of_plain (d := hush s.dev) hlistens hsent (by simp)) ?_
  have hsame := sent_plain (d := hush s.dev) hsent (by simp)
  have hwire := only_sendDone_wire n.val (hush s.dev)
  rw [cable_hush] at hsame
  generalize sendDone n.val (hush s.dev) = u at hsame hwire ⊢
  rw [acknowledged_psRdy ((congrArg Cable.nego hsame :).trans hnego)]
  obtain ⟨hcontract, hpos, hmv, hma, hilim, hover, hresets, hkept⟩ :=
    contracted_of_unstepped (unstepped_sourceContract (g := g) ((congrArg Cable.powerRole hsame :).trans hrole))
  have hbooked : (cable u n.val).booked = (cable s.dev n.val).booked := (congrArg Cable.booked hsame :)
  have hall := only_settled (d := s.dev) ((only_sourceContract n.val g u).trans (hwire.mono (by simp)))
  rw [cable_settle]
  exact ⟨hcontract, hpos, hmv, hma, hilim, hover, hresets, hkept.trans hbooked,
    onlyPort_of_only hall (fun k hk => by simp [Part.seenIn, hk.symm]) rfl, hall.sameAon rfl⟩

theorem goodcrc_wait (hlistens : pdListens s.dev n.val = true) (hsent : (cable s.dev n.val).lastSent = some .wait)
    (hrole : (cable s.dev n.val).powerRole = .source) :
    Answers (.goodcrc n (cable s.dev n.val).txId) s fun t => runsFor (.waitReoffer n.val) (100 * ms) t ∧
      (cable t n.val).booked = (cable s.dev n.val).booked ∧ (cable t n.val).offer = (cable s.dev n.val).offer ∧
      OnlyPort n.val t s.dev ∧ SameSwitch t s.dev ∧ SameAon t s.dev := by
  refine answers_of_effect rfl (goodcrc_of_plain (d := hush s.dev) hlistens hsent (by simp)) ?_
  have hsame := sent_plain (d := hush s.dev) hsent (by simp)
  have hsettles := fun w => goodcrc_settles (n := n) (d := s.dev) (w := w)
  rw [cable_hush] at hsame
  generalize sendDone n.val (hush s.dev) = u at hsame hsettles ⊢
  rw [acknowledged_wait ((congrArg Cable.powerRole hsame :).trans hrole), cable_settle, cable_arm]
  exact ⟨runsFor_settle.mpr runsFor_arm_self, (congrArg Cable.booked hsame :), (congrArg Cable.offer hsame :),
    hsettles _ ((only_arm _ _ (by simp)).mpr (.refl _ u))⟩

end

end Sys2Proof.Proofs.SourceContracts


/-! SUPPORT. What the source does of itself: it asks its cable, offers, retries and gives up (chapter 7, R203, R232, R234, R236, R254,
R268). -/

namespace Sys2Proof.Proofs.SourceTimes

open Sys2Proof Sys2Proof.Machine Sys2Proof.Safety
open Sys2Proof.Proofs.StepAndTimers
open Sys2Proof.Proofs.ShapersAndTally
open Sys2Proof.Proofs.Frames
open Sys2Proof.Proofs.Running
open Sys2Proof.Proofs.Shepherd
open Sys2Proof.Proofs.CriticalComparator
open Sys2Proof.Proofs.PdMessages
open Sys2Proof.Proofs.PortEvents
open Sys2Proof.Proofs.Detach
open Sys2Proof.Proofs.PdReceiving
open Sys2Proof.Proofs.HardReset
open Sys2Proof.Proofs.PodSteps
open Sys2Proof.Proofs.SourceSide
open Sys2Proof.Proofs.SourceContracts

section
variable {S : List Part} {t u v d e : Dev} {n : CPort} {id : BitVec 3} {g : Nego} {m : PdMsg} {c : Instr} {s : State} {tm : Timer}

/-! ### What an offer leaves -/

/-- An offer does not ask a cable again that has answered. -/
theorem cableAsk_sendCaps {n : Nat} (h : (cable d n).cableAsk = .answered) : (cable (sendCaps n d) n).cableAsk = .answered := by
  unfold sendCaps
  dsimp only
  split
  · unfold lowOffer
    split
    · rw [cable_needStep]
      exact h
    · exact h
  split
  · exact h
  split
  · next hasks => simp [asksCable, h] at hasks
  · have hsame := unsaid_pdSend n (.sourceCaps (buildOffer d n (offerPower d n).toNat)) (disarm (.sender n) (disarm (.srcCap n)
      (setCable n (fun c => { c with offer := buildOffer d n (offerPower d n).toNat, offerMw := (offerPower d n).toNat, offerHeld := false,
                                     capsSent := c.capsSent + 1, awaiting := .capsAnswer }) d))) n
    rw [cable_disarm, cable_disarm, cable_setCable_self] at hsame
    exact (congrArg Cable.cableAsk hsame :).trans h

/-- A port whose offer is out. -/
def openedWith (pdos : List Word) (mw : Nat) (c : Cable) : Cable :=
  { c with offer := pdos, offerMw := mw, offerHeld := false, capsSent := c.capsSent + 1, awaiting := .capsAnswer }

/-- A port that asks its cable first. -/
def asking (c : Cable) : Cable := { c with cableAsk := .near }

theorem unsaid_sendCaps_of_open {n : Nat} (hpower : 500 ≤ offerPower d n) (hpending : cablePending (cable d n) = false)
    (hasks : asksCable (cable d n) (buildOffer d n (offerPower d n).toNat) = false) :
    unsaid (cable (sendCaps n d) n) = unsaid (openedWith (buildOffer d n (offerPower d n).toNat) (offerPower d n).toNat (cable d n)) := by
  unfold sendCaps
  dsimp only
  rw [if_neg (not_lt.mpr hpower), hpending, if_neg (by decide), hasks, if_neg (by decide), unsaid_pdSend, cable_disarm, cable_disarm,
    cable_setCable_self]
  rfl

theorem sendCaps_of_asking {n : Nat} (hpower : 500 ≤ offerPower d n) (hpending : cablePending (cable d n) = false)
    (hasks : asksCable (cable d n) (buildOffer d n (offerPower d n).toNat) = true) :
    sendCaps n d = pdSend n (.cableIdentity false) (setCable n asking d) := by
  unfold sendCaps
  dsimp only
  rw [if_neg (not_lt.mpr hpower), hpending, if_neg (by decide), hasks, if_pos rfl]
  rfl

/-! ### The cable's answer -/

/-- A port that knows its cable. -/
def cableKnown (bits_ : Byte) (c : Cable) : Cable := { c with cableAsk := .answered, cableBits := bits_ }

/-- A port that has its cable's answer on SOP'. -/
def nearHeard (n : Nat) (d : Dev) : Dev :=
  emit (.pd (Fin.ofNat 8 n) (.goodCrc (nextId (cable d n).rxIdP))) (setCable n (fun c => { c with rxIdP := some (nextId (cable d n).rxIdP) }) d)

theorem cable_nearHeard (n : Nat) (d : Dev) : cable (nearHeard n d) n = { cable d n with rxIdP := some (nextId (cable d n).rxIdP) } := by
  rw [nearHeard, cable_emit, cable_setCable_self]

theorem only_nearHeard (n : Nat) (d : Dev) : Only [.cable n, .out] (nearHeard n d) d := by simp [nearHeard]

theorem cableNear_of_passive {n : Nat} (h : (cable d n).emark.getLsbD 4 = false) : cableNear n d =
    cableRead n (cable d n).emark (nearHeard n d) := by
  have hemark : (cable (nearHeard n d) n).emark = (cable d n).emark := by rw [cable_nearHeard]
  rw [← hemark] at h ⊢
  exact if_neg (by rw [← Bool.not_eq_true] at h; exact h)

theorem cableRead_known (n : Nat) (bits_ : Byte) (d : Dev) : unoffered (cable (cableRead n bits_ d) n) = unoffered (cableKnown bits_ (cable d n)) ∧
    (cable (cableRead n bits_ d) n).cableAsk = .answered := by
  have hknown := cable_setCable_self n (cableKnown bits_) d
  have hread : cableRead n bits_ d = if (cable (setCable n (cableKnown bits_) d) n).powerRole = .source then
      sendCaps n (setCable n (cableKnown bits_) d) else setCable n (cableKnown bits_) d := rfl
  rw [hread]
  generalize setCable n (cableKnown bits_) d = u at hknown
  have hask : (cable u n).cableAsk = .answered := by rw [hknown]; rfl
  rw [← hknown]
  split
  · exact ⟨unoffered_sendCaps n u n, cableAsk_sendCaps hask⟩
  · exact ⟨rfl, hask⟩

theorem only_cableRead (n : Nat) (bits_ : Byte) (d : Dev) : Only (capsParts n) (cableRead n bits_ d) d := by
  unfold cableRead
  dsimp only
  split
  · exact (only_sendCaps_caps n _).trans (by simp)
  · simp

theorem goodcrc_cable (hlistens : pdListens s.dev n.val = true) (hsent : (cable s.dev n.val).lastSent = some (.cableIdentity false))
    (hpassive : (cable s.dev n.val).emark.getLsbD 4 = false) :
    Answers (.goodcrc n (cable s.dev n.val).txIdP) s fun t => (cable t n.val).cableAsk = .answered ∧
      (cable t n.val).cableBits = (cable s.dev n.val).emark ∧ (cable t n.val).txIdP = (cable s.dev n.val).txIdP + 1 ∧
      (cable t n.val).booked = (cable s.dev n.val).booked ∧ OnlyPort n.val t s.dev ∧ SameSwitch t s.dev ∧ SameAon t s.dev := by
  refine answers_of_effect rfl (goodcrc_of_near (d := hush s.dev) hlistens hsent) ?_
  have hsame := unsaid_sendDone n.val (hush s.dev)
  have hsettles := fun w => goodcrc_settles (n := n) (d := s.dev) (w := w)
  rw [cable_hush, counted_of_near hsent] at hsame
  generalize sendDone n.val (hush s.dev) = u at hsame hsettles ⊢
  have hemark : (cable u n.val).emark = (cable s.dev n.val).emark := (congrArg Cable.emark hsame :)
  have hcount : (cable u n.val).txIdP = (cable s.dev n.val).txIdP + 1 := (congrArg Cable.txIdP hsame :)
  have hbooked : (cable u n.val).booked = (cable s.dev n.val).booked := (congrArg Cable.booked hsame :)
  show _ ∧ _
  rw [show acknowledged n.val (.cableIdentity false) u = cableNear n.val u from rfl, cableNear_of_passive (hemark ▸ hpassive), hemark]
  obtain ⟨hcable, hask⟩ := cableRead_known n.val (cable s.dev n.val).emark (nearHeard n.val u)
  have hreach := (only_cableRead n.val (cable s.dev n.val).emark (nearHeard n.val u)).mono (S := answerParts n.val) (by simp)
  rw [cable_nearHeard] at hcable
  have hheard := (only_nearHeard n.val u).mono (S := answerParts n.val) (by simp)
  generalize cableRead n.val (cable s.dev n.val).emark (nearHeard n.val u) = w at hcable hask hreach ⊢
  rw [cable_settle]
  exact ⟨hask, (congrArg Cable.cableBits hcable :), (congrArg Cable.txIdP hcable :).trans hcount, (congrArg Cable.booked hcable :).trans hbooked,
    hsettles w (hreach.trans hheard)⟩

/-! ### A transition ends -/

theorem only_of_expiry (h : Only (.timer .overrun :: exchangeParts n.val) u (expired tm d)) :
    OnlyPort n.val (settle u) d ∧ SameSwitch (settle u) d := by
  have hall := only_settled_expired h
  exact ⟨onlyPort_of_only hall (fun k hk => by simp [Part.seenIn, hk.symm]) rfl, hall.sameSwitch rfl⟩

theorem portHeld_expired (hruns : portRuns d n.val = true) : portHeld (expired tm d) n.val = false :=
  (portHeld_congr ((show Only [.now, .tm, .timer tm, .odBook, .out] (expired tm d) d by simp).otp rfl) n.val).trans (portHeld_of_runs hruns)

theorem tsrcTransition_answered (harmed : armed (.tsrc n.val) s.dev = true) (hruns : portRuns s.dev n.val = true)
    (hnego : (cable s.dev n.val).nego = some g) :
    Answers (.tsrcTransition n) s fun t => (cable t n.val).vctl = vctlOf g.mv ∧ (cable t n.val).ilim = ilimOf g.ma ∧
      ((cable s.dev n.val).lastSent = none → Says n .psRdy t) ∧ (cable t n.val).booked = (cable s.dev n.val).booked ∧
      OnlyPort n.val t s.dev ∧ SameSwitch t s.dev := by
  have heff : tsrcTransition n.val (hush s.dev) = pdSend n.val .psRdy (setConverter n.val g.mv g.ma (expired (.tsrc n.val) s.dev)) := by
    unfold tsrcTransition
    rw [onExpiry_hush_of_armed harmed, cable_expired, hnego]
  refine answers_of_effect rfl heff ?_
  have hset : cable (setConverter n.val g.mv g.ma (expired (.tsrc n.val) s.dev)) n.val =
      { cable s.dev n.val with vctl := vctlOf g.mv, ilim := ilimOf g.ma, vcorr := 0 } := cable_setCable_self n.val _ _
  have hreach : Only [.cable n.val] (setConverter n.val g.mv g.ma (expired (.tsrc n.val) s.dev)) (expired (.tsrc n.val) s.dev) := by simp
  have hheld := portHeld_expired (tm := .tsrc n.val) hruns
  generalize setConverter n.val g.mv g.ma (expired (.tsrc n.val) s.dev) = u at hset hreach ⊢
  have hsame := unsaid_pdSend n.val .psRdy u n.val
  rw [hset] at hsame
  rw [cable_settle]
  exact ⟨(congrArg Cable.vctl hsame :), (congrArg Cable.ilim hsame :),
    fun hquiet => says_settle (says_pdSend n .psRdy ((portHeld_congr (hreach.otp rfl) n.val).trans hheld) (by rw [hset]; exact hquiet)),
    (congrArg Cable.booked hsame :),
    only_of_expiry (((only_pdSend_exchange n.val .psRdy u).trans (hreach.mono (by simp))).mono (by simp))⟩

/-! ### A new offer -/

theorem sameTerms_expired (n : Nat) (tm : Timer) (d : Dev) : SameTerms n (expired tm d) d :=
  ⟨(show Only [.now, .tm, .timer tm, .odBook, .out] (expired tm d) d by simp).cfg rfl, rfl, fun _ => rfl, fun _ => rfl, rfl, rfl, rfl, rfl, rfl⟩

theorem pdListens_expired (n : Nat) (tm : Timer) (d : Dev) : pdListens (expired tm d) n = pdListens d n := by
  have hback : Only [.now, .tm, .timer tm, .odBook, .out] (expired tm d) d := by simp
  unfold pdListens
  dsimp only
  rw [portRuns_congr (hback.boot rfl) (hback.otp rfl), cable_expired]

theorem caps_eq (hc : c = .waitReoffer n ∧ tm = .waitReoffer n.val ∨
      c = .sourceCapabilityTimeout n ∧ tm = .srcCap n.val ∧ (cable s.dev n.val).capsSent < 50)
    (harmed : armed tm s.dev = true) (hlistens : pdListens s.dev n.val = true) (hrole : (cable s.dev n.val).powerRole = .source) :
    ∃ f, exec c s = run f s ∧ f (hush s.dev) = sendCaps n.val (expired tm s.dev) := by
  have hlistens' := (pdListens_expired n.val tm s.dev).trans hlistens
  obtain ⟨rfl, rfl⟩ | ⟨rfl, rfl, hfew⟩ := hc
  · refine ⟨waitReoffer n.val, rfl, ?_⟩
    unfold waitReoffer
    rw [onExpiry_hush_of_armed harmed, hlistens', cable_expired, hrole]
    rfl
  · refine ⟨sourceCapabilityTimeout n.val, rfl, ?_⟩
    unfold sourceCapabilityTimeout
    rw [onExpiry_hush_of_armed harmed]
    dsimp only
    rw [hlistens', cable_expired, if_neg (by simp [hrole]), if_neg (by omega)]

theorem caps_answered (hc : c = .waitReoffer n ∧ tm = .waitReoffer n.val ∨
      c = .sourceCapabilityTimeout n ∧ tm = .srcCap n.val ∧ (cable s.dev n.val).capsSent < 50)
    (harmed : armed tm s.dev = true) (hlistens : pdListens s.dev n.val = true) (hrole : (cable s.dev n.val).powerRole = .source)
    (hpower : 500 ≤ offerPower s.dev n.val) (hpending : cablePending (cable s.dev n.val) = false) :
    let offer := buildOffer s.dev n.val (offerPower s.dev n.val).toNat
    (asksCable (cable s.dev n.val) offer = false →
      Answers c s fun t => (cable t n.val).offer = offer ∧ (cable t n.val).offerHeld = false ∧
        (cable t n.val).awaiting = .capsAnswer ∧ (cable t n.val).capsSent = (cable s.dev n.val).capsSent + 1 ∧
        ((cable s.dev n.val).lastSent = none → Says n (.sourceCaps offer) t) ∧
        (cable t n.val).booked = (cable s.dev n.val).booked ∧ OnlyPort n.val t s.dev ∧ SameSwitch t s.dev) ∧
    (asksCable (cable s.dev n.val) offer = true →
      Answers c s fun t => (cable t n.val).cableAsk = .near ∧ (cable t n.val).offer = (cable s.dev n.val).offer ∧
        ((cable s.dev n.val).lastSent = none → Says n (.cableIdentity false) t) ∧
        (cable t n.val).booked = (cable s.dev n.val).booked ∧ OnlyPort n.val t s.dev ∧ SameSwitch t s.dev) := by
  obtain ⟨f, hexec, heff⟩ := caps_eq hc harmed hlistens hrole
  have hheld := portHeld_expired (tm := tm) (runs_of_listens hlistens)
  have hterms := sameTerms_expired n.val tm s.dev
  have hpower' := offerPower_congr hterms
  have hoffer := buildOffer_congr hterms
  have hcable := cable_expired tm s.dev n.val
  have hsettles := fun w => only_of_expiry (n := n) (tm := tm) (d := s.dev) (u := w)
  clear hc harmed
  generalize expired tm s.dev = w at heff hheld hterms hpower' hoffer hcable hsettles
  dsimp only
  rw [← hpower', ← hoffer, ← hcable]
  rw [← hpower'] at hpower
  rw [← hcable] at hpending
  refine ⟨fun hopen => answers_of_effect hexec heff ?_, fun hasks => answers_of_effect hexec (heff.trans (sendCaps_of_asking hpower hpending hasks)) ?_⟩
  · have hsame := unsaid_sendCaps_of_open hpower hpending hopen
    have hsays := says_sendCaps n hheld hpower hpending hopen
    have hreach := (only_sendCaps_caps n.val w).mono (S := .timer .overrun :: exchangeParts n.val) (by simp)
    generalize sendCaps n.val w = x at hsame hsays hreach
    rw [cable_settle]
    exact ⟨(congrArg Cable.offer hsame :), (congrArg Cable.offerHeld hsame :), (congrArg Cable.awaiting hsame :),
      (congrArg Cable.capsSent hsame :), fun hquiet => says_settle (hsays hquiet), (congrArg Cable.booked hsame :), hsettles x hreach⟩
  · have hset := cable_setCable_self n.val asking w
    have hreach : Only (exchangeParts n.val) (setCable n.val asking w) w := by simp
    generalize setCable n.val asking w = x at hset hreach
    have hsame := unsaid_pdSend n.val (.cableIdentity false) x n.val
    rw [hset] at hsame
    rw [cable_settle]
    exact ⟨(congrArg Cable.cableAsk hsame :), (congrArg Cable.offer hsame :),
      fun hquiet => says_settle (says_pdSend n _ ((portHeld_congr (hreach.otp rfl) n.val).trans hheld) (by rw [hset]; exact hquiet)),
      (congrArg Cable.booked hsame :), hsettles _ (((only_pdSend_exchange n.val _ x).trans hreach).mono (by simp))⟩

/-! ### A partner without PD -/

theorem typecOnly_of_unprofiled {x y z : Cable} {ma vctl : Nat} (h : unprofiled x = unprofiled { z with pod := .notAPod, vdm := .idle })
    (hz : z = { podClosed (forgotten y) with
      contract := .typecOnly, pdoKind := .fixed, mv := 5000, ma := ma, booked := 5 * ma, vctl := vctl, ilim := ilimOf ma, vcorr := 0 }) :
    x.contract = .typecOnly ∧ x.mv = 5000 ∧ x.ma = ma ∧ x.booked = 5 * ma ∧ x.pod = .notAPod := by
  subst hz
  exact ⟨(congrArg Cable.contract h :), (congrArg Cable.mv h :), (congrArg Cable.ma h :), (congrArg Cable.booked h :), (congrArg Cable.pod h :)⟩

theorem notAPod_typecOnly (n ma : Nat) (d : Dev) : (cable (notAPod n (typecOnly n ma d)) n).contract = .typecOnly ∧
    (cable (notAPod n (typecOnly n ma d)) n).mv = 5000 ∧ (cable (notAPod n (typecOnly n ma d)) n).ma = ma ∧
    (cable (notAPod n (typecOnly n ma d)) n).booked = 5 * ma ∧ (cable (notAPod n (typecOnly n ma d)) n).pod = .notAPod := by
  have hpod := unprofiled_notAPod n (typecOnly n ma d)
  obtain ⟨vctl, hcable⟩ := cable_typecOnly n ma d
  exact typecOnly_of_unprofiled hpod hcable

theorem sourceCapabilityTimeout_nonPd (harmed : armed (.srcCap n.val) s.dev = true) (hlistens : pdListens s.dev n.val = true)
    (hrole : (cable s.dev n.val).powerRole = .source) (hmany : 50 ≤ (cable s.dev n.val).capsSent) :
    sourceCapabilityTimeout n.val (hush s.dev) = nonPd n.val (expired (.srcCap n.val) s.dev) := by
  unfold sourceCapabilityTimeout
  rw [onExpiry_hush_of_armed harmed]
  dsimp only
  rw [pdListens_expired, hlistens, cable_expired, if_neg (by simp [hrole]), if_pos hmany]

theorem nonPd_answered (harmed : armed (.srcCap n.val) s.dev = true) (hlistens : pdListens s.dev n.val = true)
    (hrole : (cable s.dev n.val).powerRole = .source) (hmany : 50 ≤ (cable s.dev n.val).capsSent)
    (hreserved : (cable s.dev n.val).reserved = 0) :
    let ma := rpMa (cfg s.dev (cableObj n.val) 3)
    (((5 * ma : Nat) : Int) - (cable s.dev n.val).booked ≤ ledgerFree s.dev →
      Answers (.sourceCapabilityTimeout n) s fun t => (cable t n.val).contract = .typecOnly ∧ (cable t n.val).mv = 5000 ∧
        (cable t n.val).ma = ma ∧ (cable t n.val).booked = 5 * ma ∧ (cable t n.val).pod = .notAPod ∧ OnlyPort n.val t s.dev) ∧
    (ledgerFree s.dev < ((5 * ma : Nat) : Int) - (cable s.dev n.val).booked →
      Answers (.sourceCapabilityTimeout n) s fun t => (cable t n.val).gateOn = false ∧ (cable t n.val).booked = 0 ∧
        (cable t n.val).firstRefused = true ∧ (swPort t n.val).fenced = true ∧ t.shep.stepDue = true ∧
        OnlyPort n.val t s.dev) := by
  have heff := sourceCapabilityTimeout_nonPd harmed hlistens hrole hmany
  have hterms := sameTerms_expired n.val (.srcCap n.val) s.dev
  obtain ⟨hfree, -, -⟩ := ledgerFree_of_entries hterms.cfg hterms.slots hterms.out hterms.inn
  have hcfg : cfg (expired (.srcCap n.val) s.dev) (cableObj n.val) 3 = cfg s.dev (cableObj n.val) 3 := hterms.cfg _ _
  have hcable := cable_expired (.srcCap n.val) s.dev n.val
  have hsettles := fun S w => only_settled_expired (S := S) (tm := .srcCap n.val) (d := s.dev) (u := w)
  generalize expired (.srcCap n.val) s.dev = w at heff hfree hcfg hcable hsettles
  have hbooked : (cable (silenced n.val w) n.val).booked = (cable s.dev n.val).booked := by rw [cable_silenced, hcable]; rfl
  rw [nonPd_eq, hbooked, ledgerFree_silenced (by rw [hcable]; exact hreserved), hfree, hcfg] at heff
  generalize rpMa (cfg s.dev (cableObj n.val) 3) = ma at heff ⊢
  refine ⟨fun hfits => ?_, fun hshort => ?_⟩
  · rw [if_pos (by push_cast at hfits; exact hfits)] at heff
    refine answers_of_effect rfl heff ?_
    obtain ⟨hcontract, hmv, hma, hbook, hpod⟩ := notAPod_typecOnly n.val ma w
    have hall := hsettles _ _ (((only_notAPod n.val (d := typecOnly n.val ma w) (e := typecOnly n.val ma w)
      (S := identParts n.val ++ podParts n.val) (by simp)).mpr (.refl _ _)).trans ((only_typecOnly n.val ma w).mono (by simp)))
    rw [cable_settle]
    exact ⟨hcontract, hmv, hma, hbook, hpod, onlyPort_of_only hall (fun k hk => by simp [Part.seenIn, hk.symm]) rfl⟩
  · rw [if_neg (by push_cast at hshort; exact not_le.mpr hshort)] at heff
    refine answers_of_effect rfl heff ?_
    obtain ⟨hgate, hbook, hrefused⟩ := unsupplied_off n.val w
    have hall := hsettles _ _ (only_unsupplied n.val w)
    rw [cable_settle, settle_shep]
    exact ⟨hgate, hbook, hrefused, fenced_settle (fenced_unsupplied n.val w), stepDue_unsupplied n.val w,
      onlyPort_of_only hall (fun k hk => by simp [Part.seenIn, hk.symm]) rfl⟩

end

end Sys2Proof.Proofs.SourceTimes


/-! SUPPORT. What a message without its GoodCRC, and a PPS contract without its keep-alive, end in (chapter 7, R236, R254, R268). -/

namespace Sys2Proof.Proofs.Unacknowledged

open Sys2Proof Sys2Proof.Machine Sys2Proof.Safety
open Sys2Proof.Proofs.StepAndTimers
open Sys2Proof.Proofs.ShapersAndTally
open Sys2Proof.Proofs.Frames
open Sys2Proof.Proofs.Running
open Sys2Proof.Proofs.Shepherd
open Sys2Proof.Proofs.CriticalComparator
open Sys2Proof.Proofs.PdMessages
open Sys2Proof.Proofs.PortEvents
open Sys2Proof.Proofs.Detach
open Sys2Proof.Proofs.PdReceiving
open Sys2Proof.Proofs.HardReset
open Sys2Proof.Proofs.SourceSide
open Sys2Proof.Proofs.SourceContracts
open Sys2Proof.Proofs.SourceTimes

section
variable {S : List Part} {t u v d e : Dev} {n : CPort} {m : PdMsg} {c : Instr} {s : State} {tm : Timer}

/-! ### Hard Reset at a time-out -/

/-- What a Hard Reset leaves that a time-out makes a port send. -/
theorem sendHardReset_settles (n : CPort) (tm : Timer) (hruns : portRuns s.dev n.val = true) (hreach : Only [.cable n.val] u (expired tm s.dev)) :
    let t := settle (sendHardReset n.val u)
    Emission.pdHardReset n ∈ t.out ∧ Reset (cable t n.val) (cable u n.val) ∧ runsFor (.hardDone n.val) (5 * ms) t ∧
      runsFor (.noResponse n.val) (5 * sec) t ∧ OnlyPort n.val t s.dev := by
  have hheld := (portHeld_congr (hreach.otp rfl) n.val).trans (portHeld_expired (tm := tm) hruns)
  have hall := only_settled_expired (d := s.dev) (((only_sendHardReset n.val (S := hardResetParts n.val) (by simp)).mpr (.refl _ u)).trans
    (hreach.mono (by simp)))
  obtain ⟨hwaits, hdone⟩ := runsFor_sendHardReset n.val u
  have hsaid := mem_out_sendHardReset n hheld
  have hreset := reset_sendHardReset n.val u
  generalize sendHardReset n.val u = w at hall hwaits hdone hsaid hreset
  dsimp only
  rw [cable_settle, settle_out]
  exact ⟨hsaid, hreset, runsFor_settle.mpr hdone, runsFor_settle.mpr hwaits, onlyPort_of_only hall (fun k hk => by simp [Part.seenIn, hk.symm]) rfl⟩

theorem sourcePps_answered (harmed : armed (.srcPps n.val) s.dev = true) (hruns : portRuns s.dev n.val = true) :
    Answers (.sourcePpsTimeout n) s fun t => Emission.pdHardReset n ∈ t.out ∧ (cable t n.val).contract = .none ∧
      (cable t n.val).ppsTimeoutCount = inc16 (cable s.dev n.val).ppsTimeoutCount ∧
      (cable t n.val).hardResetCount = inc16 (cable s.dev n.val).hardResetCount ∧ runsFor (.hardDone n.val) (5 * ms) t ∧
      runsFor (.noResponse n.val) (5 * sec) t ∧ OnlyPort n.val t s.dev := by
  refine answers_of_effect rfl (onExpiry_hush_of_armed harmed) ?_
  have hcable := cable_setCable_self n.val (fun c => { c with ppsTimeoutCount := inc16 c.ppsTimeoutCount }) (expired (.srcPps n.val) s.dev)
  obtain ⟨hsaid, hreset, hdone, hwaits, honly⟩ := sendHardReset_settles (s := s) n (.srcPps n.val) hruns (only_setCable (d := expired (.srcPps n.val) s.dev)
    (S := [.cable n.val]) n.val (fun c => { c with ppsTimeoutCount := inc16 c.ppsTimeoutCount }) (by simp) |>.mpr (.refl _ _))
  have hpps := hreset.pps
  have hcount := hreset.count
  rw [hcable] at hpps hcount
  exact ⟨hsaid, hreset.contract, hpps, hcount, hdone, hwaits, honly⟩

/-! ### A message without GoodCRC -/

/-- A port that has counted a message which none answered. -/
def failed (c : Cable) : Cable := { c with retryFailCount := inc16 c.retryFailCount }

/-- The device of a port whose message has failed. -/
def unheard (n : Nat) (d : Dev) : Dev := setCable n failed (expired (.crcRx n) d)

theorem cable_unheard (n : Nat) (d : Dev) : cable (unheard n d) n = failed (cable d n) := by
  rw [unheard, cable_setCable_self, cable_expired]

theorem only_unheard (n : Nat) (d : Dev) : Only [.cable n] (unheard n d) (expired (.crcRx n) d) := by simp [unheard]

/-- A port that tries once more. -/
def retrying (c : Cable) : Cable := { c with retries := c.retries + 1 }

/-- The device on which it does. -/
def repeated (n : CPort) (m : PdMsg) (d : Dev) : Dev :=
  arm (.crcRx n.val) ms (emit (.pd n m) (setCable n.val retrying (expired (.crcRx n.val) d)))

theorem crcReceive_repeats (harmed : armed (.crcRx n.val) s.dev = true) (hsent : (cable s.dev n.val).lastSent = some m)
    (hfew : (cable s.dev n.val).retries < 2) : crcReceiveTimeout n.val (hush s.dev) = repeated n m s.dev := by
  unfold crcReceiveTimeout
  rw [onExpiry_hush_of_armed harmed]
  dsimp only
  rw [cable_expired, hsent]
  dsimp only
  rw [if_pos hfew, ofNat_val]
  rfl

theorem out_repeated (hruns : portRuns d n.val = true) : (repeated n m d).out = [.pd n m] := by
  have hheld := portHeld_expired (tm := .crcRx n.val) hruns
  have hheld' : portHeld (setCable n.val retrying (expired (.crcRx n.val) d)) n.val = false := (portHeld_congr rfl n.val).trans hheld
  unfold repeated
  rw [emit_pd hheld']
  rfl

theorem cable_repeated (n : CPort) (m : PdMsg) (d : Dev) :
    cable (repeated n m d) n.val = { cable d n.val with retries := (cable d n.val).retries + 1 } := by
  rw [repeated, cable_arm, cable_emit, cable_setCable_self, cable_expired]
  rfl

theorem only_repeated (n : CPort) (m : PdMsg) (d : Dev) : Only (wireParts n.val) (repeated n m d) (expired (.crcRx n.val) d) := by
  simp [repeated]

theorem crcReceive_hardReset (harmed : armed (.crcRx n.val) s.dev = true) (hsent : (cable s.dev n.val).lastSent = some .softReset)
    (hmany : 2 ≤ (cable s.dev n.val).retries) : crcReceiveTimeout n.val (hush s.dev) = sendHardReset n.val (unheard n.val s.dev) := by
  unfold crcReceiveTimeout
  rw [onExpiry_hush_of_armed harmed]
  dsimp only
  rw [cable_expired, hsent]
  dsimp only
  rw [if_neg (by omega)]
  rfl

theorem crcReceive_caps {pdos : List Word} (harmed : armed (.crcRx n.val) s.dev = true)
    (hsent : (cable s.dev n.val).lastSent = some (.sourceCaps pdos)) (hmany : 2 ≤ (cable s.dev n.val).retries)
    (hnone : explicit (cable s.dev n.val) = false) : crcReceiveTimeout n.val (hush s.dev) =
      arm (.srcCap n.val) (150 * ms) (setAwait n.val .nothing (sendDone n.val (unheard n.val s.dev))) := by
  unfold crcReceiveTimeout
  rw [onExpiry_hush_of_armed harmed]
  dsimp only
  rw [cable_expired, hsent]
  dsimp only
  rw [if_neg (by omega), hnone, if_neg (by decide)]
  rfl

theorem inTransition_expired (n : Nat) (d : Dev) : inTransition (expired (.crcRx n) d) n = inTransition d n := by
  have hback : Only [.now, .tm, .timer (.crcRx n), .odBook, .out] (expired (.crcRx n) d) d := by simp
  unfold inTransition
  dsimp only
  rw [hback.armed (.tsrc n) (by simp [Part.seenIn]), hback.armed (.psTrans n) (by simp [Part.seenIn]), cable_expired]

theorem crcReceive_softReset (harmed : armed (.crcRx n.val) s.dev = true) (hsent : (cable s.dev n.val).lastSent = some m)
    (hmany : 2 ≤ (cable s.dev n.val).retries) (hsoft : m ≠ .softReset) (hcaps : ∀ pdos, m ≠ .sourceCaps pdos)
    (hcable : ∀ b, m ≠ .cableIdentity b) (htrans : inTransition s.dev n.val = false) (halert : (cable s.dev n.val).ladder.alertReset = false) :
    crcReceiveTimeout n.val (hush s.dev) = sendSoftReset n.val (unheard n.val s.dev) := by
  unfold crcReceiveTimeout
  rw [onExpiry_hush_of_armed harmed]
  dsimp only
  rw [cable_expired, hsent]
  dsimp only
  rw [if_neg (by omega), inTransition_expired, htrans, halert]
  split
  · exact absurd rfl (hcable _)
  · exact absurd rfl hsoft
  · exact absurd rfl (hcaps _)
  · exact if_neg (by decide)

/-! ### Soft Reset goes out -/

/-- A port that starts its engine again. -/
def restarted (c : Cable) : Cable :=
  { c with softResetCount := inc16 c.softResetCount, nego := none, lastSent := none, txQueue := [], retries := 0, swapping := 0, reserved := 0,
           chunks := Chunks.none, authBusy := false, awaiting := .softResetAnswer, txId := 0, txIdP := 0, txIdPP := 0, rxId := none,
           rxIdP := none, rxIdPP := none }

/-- The device on which it has, before Soft_Reset goes out. -/
def restarting (n : Nat) (d : Dev) : Dev :=
  let d := disarm (.sender n) (disarm (.srcCap n) (disarm (.psTrans n) (disarm (.sinkReq n) (disarm (.tsrc n) (disarm (.crcRx n)
    (disarm (.chunk n) (disarm (.chunkResp n) (disarm (.auth n) d))))))))
  pdIdsReset n (setCable n (fun c =>
    { c with softResetCount := inc16 c.softResetCount, nego := none, lastSent := none, txQueue := [], retries := 0,
             swapping := 0, reserved := 0, chunks := Chunks.none, authBusy := false, awaiting := .softResetAnswer }) d)

theorem sendSoftReset_eq (n : Nat) (d : Dev) : sendSoftReset n d = pdSend n .softReset (restarting n d) := rfl

theorem cable_restarting (n : Nat) (d : Dev) : cable (restarting n d) n = restarted (cable d n) := by
  unfold restarting
  dsimp only
  rw [cable_pdIdsReset, cable_setCable_self]
  simp only [cable_disarm]
  rfl

theorem only_restarting (n : Nat) (d : Dev) : Only (portParts n) (restarting n d) d := by simp [restarting]

/-- What a Soft_Reset leaves that a time-out makes a port send. -/
theorem sendSoftReset_settles (n : CPort) (tm : Timer) (hruns : portRuns s.dev n.val = true) (hreach : Only [.cable n.val] u (expired tm s.dev)) :
    let t := settle (sendSoftReset n.val u)
    Says n .softReset t ∧ unsaid (cable t n.val) = unsaid (restarted (cable u n.val)) ∧ OnlyPort n.val t s.dev ∧ SameSwitch t s.dev := by
  rw [sendSoftReset_eq]
  have hcable := cable_restarting n.val u
  have hback := ((only_restarting n.val u).mono (S := exchangeParts n.val) (by simp)).trans (hreach.mono (by simp))
  generalize restarting n.val u = w at hcable hback
  have hquiet : (cable w n.val).lastSent = none := by rw [hcable]; rfl
  have hsays := says_pdSend n .softReset ((portHeld_congr (hback.otp rfl) n.val).trans (portHeld_expired hruns)) hquiet
  have hsame := unsaid_pdSend n.val .softReset w n.val
  rw [hcable] at hsame
  dsimp only
  rw [cable_settle]
  exact ⟨says_settle hsays, hsame, only_of_expiry (((only_pdSend_exchange n.val _ w).trans hback).mono (by simp))⟩

theorem restarted_of_unsaid {x y : Cable} (h : unsaid x = unsaid (restarted (failed y))) : x.softResetCount = inc16 y.softResetCount ∧
    x.retryFailCount = inc16 y.retryFailCount ∧ x.booked = y.booked ∧ x.gateOn = y.gateOn :=
  ⟨(congrArg Cable.softResetCount h :), (congrArg Cable.retryFailCount h :), (congrArg Cable.booked h :), (congrArg Cable.gateOn h :)⟩

theorem softReset_sent (harmed : armed (.crcRx n.val) s.dev = true) (hruns : portRuns s.dev n.val = true)
    (hsent : (cable s.dev n.val).lastSent = some m) (hmany : 2 ≤ (cable s.dev n.val).retries) (hsoft : m ≠ .softReset)
    (hcaps : ∀ pdos, m ≠ .sourceCaps pdos) (hident : ∀ b, m ≠ .cableIdentity b) (htrans : inTransition s.dev n.val = false)
    (halert : (cable s.dev n.val).ladder.alertReset = false) :
    Answers (.crcReceiveTimeout n) s fun t => Says n .softReset t ∧
      (cable t n.val).softResetCount = inc16 (cable s.dev n.val).softResetCount ∧
      (cable t n.val).retryFailCount = inc16 (cable s.dev n.val).retryFailCount ∧
      (cable t n.val).booked = (cable s.dev n.val).booked ∧ (cable t n.val).gateOn = (cable s.dev n.val).gateOn ∧
      OnlyPort n.val t s.dev ∧ SameSwitch t s.dev := by
  refine answers_of_effect rfl (crcReceive_softReset harmed hsent hmany hsoft hcaps hident htrans halert) ?_
  obtain ⟨hsays, hsame, honly, hswitch⟩ := sendSoftReset_settles (s := s) n (.crcRx n.val) hruns (only_unheard n.val s.dev)
  rw [cable_unheard] at hsame
  obtain ⟨hsoftly, hfailed, hbooked, hgate⟩ := restarted_of_unsaid hsame
  exact ⟨hsays, hsoftly, hfailed, hbooked, hgate, honly, hswitch⟩

theorem caps_failed {pdos : List Word} (harmed : armed (.crcRx n.val) s.dev = true)
    (hsent : (cable s.dev n.val).lastSent = some (.sourceCaps pdos)) (hmany : 2 ≤ (cable s.dev n.val).retries)
    (hnone : explicit (cable s.dev n.val) = false) :
    Answers (.crcReceiveTimeout n) s fun t => runsFor (.srcCap n.val) (150 * ms) t ∧
      (cable t n.val).awaiting = .nothing ∧ (cable t n.val).capsSent = (cable s.dev n.val).capsSent ∧
      (cable t n.val).retryFailCount = inc16 (cable s.dev n.val).retryFailCount ∧ OnlyPort n.val t s.dev ∧ SameSwitch t s.dev := by
  refine answers_of_effect rfl (crcReceive_caps harmed hsent hmany hnone) ?_
  have hsent' : (cable (unheard n.val s.dev) n.val).lastSent = some (.sourceCaps pdos) := by rw [cable_unheard]; exact hsent
  have hsame := sent_plain hsent' (by simp)
  have hreach := ((only_sendDone_wire n.val (unheard n.val s.dev)).mono (S := exchangeParts n.val) (by simp)).trans
    ((only_unheard n.val s.dev).mono (by simp))
  rw [cable_unheard] at hsame
  generalize sendDone n.val (unheard n.val s.dev) = u at hsame hreach ⊢
  rw [cable_settle, cable_arm, setAwait, cable_setCable_self]
  exact ⟨runsFor_settle.mpr runsFor_arm_self, rfl, (congrArg Cable.capsSent hsame :), (congrArg Cable.retryFailCount hsame :),
    only_of_expiry (((only_arm _ _ (by simp)).mpr ((only_setCable _ _ (by simp)).mpr hreach)).mono (S := .timer .overrun :: exchangeParts n.val) (by simp))⟩

theorem crcReceive_answered (harmed : armed (.crcRx n.val) s.dev = true) (hruns : portRuns s.dev n.val = true)
    (hsent : (cable s.dev n.val).lastSent = some m) :
    ((cable s.dev n.val).retries < 2 →
      Answers (.crcReceiveTimeout n) s fun t => t.out = [.pd n m] ∧ runsFor (.crcRx n.val) ms t ∧
        cable t n.val = { cable s.dev n.val with retries := (cable s.dev n.val).retries + 1 } ∧ OnlyPort n.val t s.dev ∧
        SameSwitch t s.dev) ∧
    (2 ≤ (cable s.dev n.val).retries →
      (m = .softReset →
        Answers (.crcReceiveTimeout n) s fun t => Emission.pdHardReset n ∈ t.out ∧ (cable t n.val).contract = .none ∧
          (cable t n.val).retryFailCount = inc16 (cable s.dev n.val).retryFailCount ∧ OnlyPort n.val t s.dev) ∧
      ((∃ pdos, m = .sourceCaps pdos) → explicit (cable s.dev n.val) = false →
        Answers (.crcReceiveTimeout n) s fun t => runsFor (.srcCap n.val) (150 * ms) t ∧
          (cable t n.val).awaiting = .nothing ∧ (cable t n.val).capsSent = (cable s.dev n.val).capsSent ∧
          (cable t n.val).retryFailCount = inc16 (cable s.dev n.val).retryFailCount ∧ OnlyPort n.val t s.dev ∧
          SameSwitch t s.dev) ∧
      (m ≠ .softReset → (∀ pdos, m ≠ .sourceCaps pdos) → (∀ b, m ≠ .cableIdentity b) → inTransition s.dev n.val = false →
        (cable s.dev n.val).ladder.alertReset = false →
        Answers (.crcReceiveTimeout n) s fun t => Says n .softReset t ∧
          (cable t n.val).softResetCount = inc16 (cable s.dev n.val).softResetCount ∧
          (cable t n.val).retryFailCount = inc16 (cable s.dev n.val).retryFailCount ∧
          (cable t n.val).booked = (cable s.dev n.val).booked ∧ (cable t n.val).gateOn = (cable s.dev n.val).gateOn ∧
          OnlyPort n.val t s.dev ∧ SameSwitch t s.dev)) := by
  refine ⟨fun hfew => ?_, fun hmany => ⟨?_, ?_, fun hsoft hcaps hident htrans halert =>
    softReset_sent harmed hruns hsent hmany hsoft hcaps hident htrans halert⟩⟩
  · refine answers_of_effect rfl (crcReceive_repeats harmed hsent hfew) ?_
    rw [settle_out, cable_settle, cable_repeated]
    exact ⟨out_repeated hruns, runsFor_settle.mpr runsFor_arm_self, rfl, only_of_expiry ((only_repeated n m s.dev).mono (by simp))⟩
  · rintro rfl
    refine answers_of_effect rfl (crcReceive_hardReset harmed hsent hmany) ?_
    obtain ⟨hsaid, hreset, -, -, honly⟩ := sendHardReset_settles (s := s) n (.crcRx n.val) hruns (only_unheard n.val s.dev)
    have hfailed := hreset.failed
    rw [cable_unheard] at hfailed
    exact ⟨hsaid, hreset.contract, hfailed, honly⟩
  · rintro ⟨pdos, rfl⟩ hnone
    exact caps_failed harmed hsent hmany hnone

end

/-- Settles O38. -/
theorem sourceContracts : Obligations.SourceContracts := by
  unfold Obligations.SourceContracts
  refine ⟨fun s n id rdo hears hrole htrans => request_answered hears hrole htrans,
    fun s n g hlistens hnego => ⟨goodcrc_accept hlistens hnego, goodcrc_psRdy hlistens hnego⟩,
    fun s n => goodcrc_wait, fun s n => goodcrc_cable, fun s n id m hlistens hsent hident hid => ?_,
    fun s n g => tsrcTransition_answered, fun s n c timer hc harmed hlistens hrole hpower hpending =>
      caps_answered hc harmed hlistens hrole hpower hpending,
    fun s n => nonPd_answered, fun s n => sourcePps_answered, fun s n m harmed hruns hsent => crcReceive_answered harmed hruns hsent⟩
  exact answers_became rfl (goodcrc_of_stale (d := hush s.dev) hlistens hsent hident hid)

end Sys2Proof.Proofs.Unacknowledged


/-! SUPPORT. A sink's choice and its Request (chapter 7, R237 to R241, R249, R265): what they depend on, and what they reach. -/

namespace Sys2Proof.Proofs.SinkRequests

open Sys2Proof Sys2Proof.Machine Sys2Proof.Safety
open Sys2Proof.Proofs.StepAndTimers
open Sys2Proof.Proofs.ShapersAndTally
open Sys2Proof.Proofs.Frames
open Sys2Proof.Proofs.Running
open Sys2Proof.Proofs.Shepherd
open Sys2Proof.Proofs.PdMessages
open Sys2Proof.Proofs.PortEvents
open Sys2Proof.Proofs.SinkSide
open Sys2Proof.Proofs.FaultLadder (cable_setBooked)
open Sys2Proof.Proofs.PdReceiving
open Sys2Proof.Proofs.PodSteps
open Sys2Proof.Proofs.SourceSide
open Sys2Proof.Proofs.SourceContracts

section
variable {S : List Part} {t u v d e : Dev} {n : Nat} {g : Nego} {tm : Timer}

/-! ### What a choice depends on -/

/-- What of a device and of its port a sink's choice reads stands. -/
structure SameChoice (n : Nat) (t d : Dev) : Prop where
  cfg : ∀ obj el, cfg t obj el = cfg d obj el
  halted : isHalted t = isHalted d
  caps : (cable t n).partnerCaps = (cable d n).partnerCaps
  epr : (cable t n).epr = (cable d n).epr
  guard : (cable t n).guard = (cable d n).guard
  bits : (cable t n).cableBits = (cable d n).cableBits
  ceil : (cable t n).sinkCeil = (cable d n).sinkCeil

theorem sinkPick_congr (h : SameChoice n t d) : sinkPick t n = sinkPick d n := by
  have hcfg : Machine.cfg t = Machine.cfg d := funext fun _ => funext fun _ => h.cfg _ _
  have hvmax : sinkVmax t n = sinkVmax d n := by simp only [sinkVmax, cableMv, h.bits, hcfg]
  have himax : sinkImax t n = sinkImax d n := by simp only [sinkImax, cableMa, h.bits, hcfg]
  have hchoose : chooseAt t n = chooseAt d n := by
    funext pos kind mv ma
    simp only [chooseAt, h.epr]
  have hcool : coolChoice (cable t n) = coolChoice (cable d n) := by
    funext g
    simp only [coolChoice, heatCap, h.ceil]
  have hwet : pickWet t n = pickWet d n := by simp only [pickWet, h.caps, hchoose]
  have hmax : pickMax t n = pickMax d n := by simp only [pickMax, h.caps, hchoose, hvmax, himax]
  have hprog : pickProgrammable t n = pickProgrammable d n := by
    simp only [pickProgrammable, h.caps, h.epr, hchoose, hvmax, himax, hcfg]
  simp only [sinkPick, h.guard, h.halted, hwet, hmax, hprog, hcfg, hcool]

theorem rdoOf_congr (h : ∀ obj el, cfg t obj el = cfg d obj el) (g : Nego) : rdoOf t n g = rdoOf d n g := by
  have hcfg : Machine.cfg t = Machine.cfg d := funext fun _ => funext fun _ => h _ _
  unfold rdoOf cfgOn
  rw [hcfg]

theorem sameChoice_of_cable {f : Cable → Cable} (hcfg : ∀ obj el, cfg t obj el = cfg d obj el) (hboot : t.boot = d.boot)
    (hcable : cable t n = f (cable d n)) (hf : ∀ c, (f c).partnerCaps = c.partnerCaps ∧ (f c).epr = c.epr ∧ (f c).guard = c.guard ∧
      (f c).cableBits = c.cableBits ∧ (f c).sinkCeil = c.sinkCeil) : SameChoice n t d := by
  obtain ⟨hcaps, hepr, hguard, hbits, hceil⟩ := hf (cable d n)
  refine ⟨hcfg, ?_, by rw [hcable, hcaps], by rw [hcable, hepr], by rw [hcable, hguard], by rw [hcable, hbits], by rw [hcable, hceil]⟩
  unfold isHalted
  rw [hboot]

/-! ### A Request goes out -/

/-- A sink that awaits the answer to its Request. -/
def requesting (g : Nego) (c : Cable) : Cable := { c with nego := some g, awaiting := .requestAnswer }

/-- The device of a sink before its Request goes out. -/
def readied (n : Nat) (g : Nego) (d : Dev) : Dev := disarm (.sender n) (setCable n (requesting g) d)

/-- What its Request is. -/
def requestMsg (n : Nat) (g : Nego) (d : Dev) : PdMsg :=
  if g.epr then .eprRequest (rdoOf d n g) ((cable d n).partnerCaps.getD (g.pos - 1) 0) else .request (rdoOf d n g)

theorem sendRequest_eq (n : Nat) (g : Nego) (d : Dev) : sendRequest n g d = pdSend n (requestMsg n g d) (readied n g d) := rfl

theorem cable_readied (n : Nat) (g : Nego) (d : Dev) : cable (readied n g d) n = requesting g (cable d n) := by
  rw [readied, cable_disarm, cable_setCable_self]

theorem unsaid_sendRequest (n : Nat) (g : Nego) (d : Dev) : unsaid (cable (sendRequest n g d) n) = unsaid (requesting g (cable d n)) := by
  rw [sendRequest_eq, unsaid_pdSend, cable_readied]

/-- What a Request reaches. -/
@[simp] def requestParts (n : Nat) : List Part := .timer (.sender n) :: wireParts n

theorem only_readied (n : Nat) (g : Nego) (d : Dev) : Only [.cable n, .timer (.sender n)] (readied n g d) d := by simp [readied]

theorem only_sendRequest_wire (n : Nat) (g : Nego) (d : Dev) : Only (requestParts n) (sendRequest n g d) d := by
  rw [sendRequest_eq]
  exact ((only_pdSend_wire n _ _).mono (by simp)).trans ((only_readied n g d).mono (by simp))

theorem says_sendRequest {n : CPort} (hheld : portHeld d n.val = false) (hquiet : (cable d n.val).lastSent = none) (hepr : g.epr = false) :
    Says n (.request (rdoOf d n.val g)) (sendRequest n.val g d) := by
  have hmsg : requestMsg n.val g d = .request (rdoOf d n.val g) := if_neg (by simp [hepr])
  rw [sendRequest_eq, hmsg]
  refine says_pdSend n _ ((portHeld_congr ((only_readied n.val g d).otp rfl) n.val).trans hheld) ?_
  rw [cable_readied]
  exact hquiet

theorem sinkRequest_of_pick (hpick : sinkPick d n = some g) (hnot : ¬ ((cable d n).guard = .wet ∧ (cable d n).epr = .inEpr)) :
    sinkRequest n d = sendRequest n g d := by
  unfold sinkRequest
  dsimp only
  rw [if_neg hnot, hpick]

/-- What a sink's choice reaches at most. -/
@[simp] def choiceParts (n : Nat) : List Part := .timer (.eprKeep n) :: requestParts n

theorem only_eprExit_choice (n : Nat) (d : Dev) : Only (choiceParts n) (eprExit n d) d := by
  unfold eprExit
  dsimp only
  rw [only_disarm _ (by simp), only_disarm _ (by simp)]
  exact ((only_pdSend_wire n _ _).mono (by simp)).trans (by simp)

theorem only_sinkRequest_choice (n : Nat) (d : Dev) : Only (choiceParts n) (sinkRequest n d) d := by
  unfold sinkRequest
  dsimp only
  split
  · exact only_eprExit_choice n d
  · split
    · exact (only_sendRequest_wire n _ d).mono (by simp)
    · exact .refl _ d

theorem only_sinkReview_choice (n : Nat) (d : Dev) : Only (choiceParts n) (sinkReview n d) d := by
  unfold sinkReview followSinkCeil
  dsimp only
  split
  · exact .refl _ d
  split
  · exact only_sinkRequest_choice n d
  split
  · exact .refl _ d
  split
  · exact (only_sendRequest_wire n _ d).mono (by simp)
  · exact .refl _ d

/-! ### A negotiation ends without a contract -/

/-- Whether the end of a negotiation leaves a port's contract alone: it sources, has none, or is a sink whose contract its guard and
its thermal ceiling allow. -/
def ContractHolds (c : Cable) : Prop :=
  c.powerRole = .source ∨ explicit c = false ∨ (c.guard ≠ .wet ∧ c.sinkCeil = none ∧ c.ma % 50 = 0)

theorem coolChoice_of_free {c : Cable} {ma : Nat} (hceil : c.sinkCeil = none) (hma : ma % 50 = 0) :
    (coolChoice c (sameChoice c ma)).ma = ma := by
  have hcap : heatCap c c.mv ma = ma := by
    unfold heatCap
    rw [hceil]
  show heatCap c c.mv ma / (if c.pdoKind = .fixed then 10 else 50) * (if c.pdoKind = .fixed then 10 else 50) = ma
  rw [hcap]
  split <;> omega

theorem sinkReview_of_holds (h : ContractHolds (cable d n)) : sinkReview n d = d := by
  unfold sinkReview
  dsimp only
  obtain hrole | hnone | ⟨hdry, hceil, hma⟩ := h
  · exact if_pos (by simp [hrole])
  · exact if_pos (by simp [hnone])
  · split
    · rfl
    · rw [if_neg (by simp [wetExcess, hdry])]
      unfold followSinkCeil
      dsimp only
      rw [coolChoice_of_free hceil hma, if_neg (lt_irrefl _)]
      exact ite_self _

theorem negoOver_of_holds (h : ContractHolds (cable d n)) : negoOver n d = setCable n concluded d := by
  have hcable := cable_setCable_self n concluded d
  have hholds : ContractHolds (cable (setCable n concluded d) n) := by
    rw [hcable]
    exact h
  show (if (cable (setCable n concluded d) n).powerRole = .source then setCable n concluded d else sinkReview n (setCable n concluded d)) = _
  rw [sinkReview_of_holds hholds]
  exact ite_self _

/-! ### A sink's contract comes into force -/

/-- A port beside all that the end of a sink's negotiation may change. -/
def settled (c : Cable) : Cable :=
  { c with rpNow := 0, presentRp := false, lastSent := none, txQueue := [], retries := 0, cableAsk := .notAsked, offer := [], offerMw := 0,
           offerHeld := false, capsSent := 0, awaiting := .nothing, nego := none, epr := .off, frs := .off, vctl := 0, ilim := 0,
           pod := .none, vdm := .idle, vdmTries := 0, identBuf := [], identTries := 0, muxRoute := .nothing, ceiling := none, rank := 0,
           profileId := 0, profileOn := false, profRate := 0, profStream := 0, ng := NgShare.none }

theorem settled_of_unasked {x y : Cable} (h : unasked x = unasked y) : settled x = settled y :=
  show settled (unasked x) = settled (unasked y) by rw [h]

theorem settled_of_unstepped {x y : Cable} (h : unstepped x = unstepped y) : settled x = settled y :=
  show settled (unstepped x) = settled (unstepped y) by rw [h]

theorem settled_of_unprofiled {x y : Cable} (h : unprofiled x = unprofiled y) : settled x = settled y :=
  show settled (unprofiled x) = settled (unprofiled y) by rw [h]

theorem settled_of_unoffered {x y : Cable} (h : unoffered x = unoffered y) : settled x = settled y := settled_of_unasked (unasked_of_unoffered h)

/-- What the end of a negotiation, and the steps of a port's identification, reach. -/
@[simp] def closingParts (n : Nat) : List Part :=
  .timer (.srcCap n) :: .timer (.vdm n) :: .timersOf .switch :: .fence n :: .irq :: .shepDue :: .timer .overrun :: switchParts ++ choiceParts n

theorem only_recomputeOffer_caps (n : Nat) (d : Dev) : Only (capsParts n) (recomputeOffer n d) d := by
  unfold recomputeOffer
  dsimp only
  split
  · split <;> simp
  split
  · simp
  split
  · simp [lowOffer]
  split
  · exact .refl _ d
  split
  · exact ((only_pdSend_wire n _ _).mono (by simp)).trans (only_sendCaps_caps n d)
  · exact only_sendCaps_caps n d

theorem only_endNego_closing (n : Nat) (d : Dev) : Only (closingParts n) (endNego n d) d := by
  have hset : Only (closingParts n) (setCable n concluded d) d := by simp
  unfold endNego
  refine Only.trans ?_ hset
  show Only (closingParts n) (if (cable (setCable n concluded d) n).powerRole = .source then
    if (cable (setCable n concluded d) n).offerHeld then recomputeOffer n (setCable n (fun c => { c with offerHeld := false }) (setCable n concluded d))
    else setCable n concluded d else sinkReview n (setCable n concluded d)) (setCable n concluded d)
  generalize setCable n concluded d = u
  split
  · split
    · exact ((only_recomputeOffer_caps n _).mono (by simp)).trans (by simp)
    · exact .refl _ u
  · exact (only_sinkReview_choice n u).mono (by simp)

theorem settled_endNego (n : Nat) (d : Dev) : settled (cable (endNego n d) n) = settled (cable d n) := by
  have hset : settled (cable (setCable n concluded d) n) = settled (cable d n) := by
    rw [cable_setCable_self]
    rfl
  rw [← hset]
  show settled (cable (if (cable (setCable n concluded d) n).powerRole = .source then
    if (cable (setCable n concluded d) n).offerHeld then recomputeOffer n (setCable n (fun c => { c with offerHeld := false }) (setCable n concluded d))
    else setCable n concluded d else sinkReview n (setCable n concluded d)) n) = _
  generalize setCable n concluded d = u
  split
  · split
    · rw [settled_of_unoffered (unoffered_recomputeOffer n _ n), cable_setCable_self]
      rfl
    · rfl
  · exact settled_of_unasked (unasked_sinkReview n u)

theorem only_vdmAgain_wire (n : Nat) (d : Dev) : Only (wireParts n) (vdmAgain n d) d :=
  Only.foldl _ (fun u m _ => only_pdSend_wire n m u) d

theorem only_vdmSend_wire (n : Nat) (step : VdmStep) (d : Dev) : Only (.timer (.vdm n) :: wireParts n) (vdmSend n step d) d := by
  unfold vdmSend
  exact ((only_vdmAgain_wire n _).mono (by simp)).trans (by simp)

theorem only_startDiscovery_wire (n : Nat) (d : Dev) : Only (.timer (.vdm n) :: wireParts n) (startDiscovery n d) d := by
  unfold startDiscovery
  exact (only_vdmSend_wire n _ _).trans (by simp)

theorem only_afterContract_wire (n : Nat) (d : Dev) : Only (.timer (.vdm n) :: wireParts n) (afterContract n d) d := by
  unfold afterContract
  dsimp only
  split
  · exact only_startDiscovery_wire n d
  · exact .refl _ d

theorem only_provision_caps (n p : Nat) (d : Dev) : Only (switchParts ++ capsParts n) (provision n p d) d := by
  rw [provision_eq]
  exact ((only_recomputeOffer_caps n _).mono (by simp)).trans ((only_provided n p d).mono (by simp))

theorem only_tryProfile_caps (n p : Nat) (d : Dev) : Only (.irq :: switchParts ++ capsParts n) (tryProfile n p d).2 d := by
  by_cases h : CeilingFits d n p
  · rw [tryProfile_of_fits h]
    dsimp only
    exact (only_provision_caps n p d).mono (by simp)
  · rw [tryProfile_of_short h]
    dsimp only
    exact (only_raiseIrqPort _ (by simp)).mpr (.refl _ d)

/-- Where a sink's first contract leads its port. -/
def identifiesNext (n : Nat) (first : Bool) (d : Dev) : Dev :=
  if !first || (cable d n).pod != .none then d
  else if (cable d n).dataRole = .dfp then afterContract n d
  else liftFence n (tryProfile n 0 d).2

theorem only_identifiesNext (n : Nat) (first : Bool) (d : Dev) : Only (closingParts n) (identifiesNext n first d) d := by
  unfold identifiesNext
  split
  · exact .refl _ d
  split
  · exact (only_afterContract_wire n d).mono (by simp)
  · exact (only_liftFence n (by simp)).mpr ((only_tryProfile_caps n 0 d).mono (by simp))

theorem settled_identifiesNext (n : Nat) (first : Bool) (d : Dev) : settled (cable (identifiesNext n first d) n) = settled (cable d n) := by
  unfold identifiesNext
  split
  · rfl
  split
  · exact settled_of_unstepped (unstepped_afterContract n d)
  · rw [cable_liftFence]
    exact settled_of_unprofiled (unprofiled_tryProfile n 0 d)

theorem only_askSinkCap_wire (n : Nat) (now : Bool) (d : Dev) : Only (wireParts n) (askSinkCap n now d) d := by
  unfold askSinkCap
  dsimp only
  split
  · exact (only_pdSend_wire n _ _).trans (by simp)
  · exact .refl _ d

theorem settled_askSinkCap (n : Nat) (now : Bool) (d : Dev) : settled (cable (askSinkCap n now d) n) = settled (cable d n) := by
  unfold askSinkCap
  dsimp only
  split
  · refine (settled_of_unoffered (unoffered_of_unsaid (unsaid_pdSend n _ _ n))).trans ?_
    rw [setAwait, cable_setCable_self]
    rfl
  · rfl

/-- A sink's port under a contract. -/
def sinking (g : Nego) (c : Cable) : Cable :=
  { c with contract := if g.epr then .epr else .spr, pdoKind := g.kind, pos := g.pos, mv := g.mv, ma := g.ma, booked := g.booking, swapping := 0,
           swapOpen := false, hardResets := 0, recoveries := 0 }

/-- The device on which it is, with its keep-alive. -/
def sinksUnder (n : Nat) (g : Nego) (d : Dev) : Dev :=
  let d := responded n (contractUnfences n (setCable n (fun c =>
    { c with contract := if g.epr then .epr else .spr, pdoKind := g.kind, pos := g.pos, mv := g.mv, ma := g.ma }) (setBooked n g.booking d)))
  if g.kind = .fixed then disarm (.sinkKeep n) d else arm (.sinkKeep n) (8 * sec) d

theorem cable_sinksUnder (n : Nat) (g : Nego) (d : Dev) : cable (sinksUnder n g d) n = sinking g (cable d n) := by
  have hall : cable (responded n (contractUnfences n (setCable n (fun c =>
      { c with contract := if g.epr then .epr else .spr, pdoKind := g.kind, pos := g.pos, mv := g.mv, ma := g.ma }) (setBooked n g.booking d)))) n =
      sinking g (cable d n) := by
    rw [cable_responded, cable_contractUnfences, cable_setCable_self, cable_setBooked]
    rfl
  unfold sinksUnder
  dsimp only
  split
  · rw [cable_disarm, hall]
  · rw [cable_arm, hall]

theorem only_sinksUnder (n : Nat) (g : Nego) (d : Dev) : Only (stepParts ++ portParts n ++ fenceParts n) (sinksUnder n g d) d := by
  simp [sinksUnder]

theorem runsFor_sinksUnder (hkind : g.kind ≠ .fixed) : runsFor (.sinkKeep n) (8 * sec) (sinksUnder n g d) := by
  unfold sinksUnder
  dsimp only
  rw [if_neg hkind]
  exact runsFor_arm_self

theorem sinkContract_eq (n : Nat) (g : Nego) (d : Dev) : sinkContract n g d = askSinkCap n (!explicit (cable d n))
    (frsUpdate n (identifiesNext n (!explicit (cable d n)) (endNego n (sinksUnder n g d)))) := rfl

theorem sinkContract_follows (n : Nat) (g : Nego) (d : Dev) : Only (closingParts n) (sinkContract n g d) (sinksUnder n g d) ∧
    settled (cable (sinkContract n g d) n) = settled (sinking g (cable d n)) := by
  rw [sinkContract_eq, ← cable_sinksUnder]
  generalize (!explicit (cable d n)) = first
  generalize sinksUnder n g d = u
  constructor
  · refine ((only_askSinkCap_wire n first _).mono (by simp)).trans ?_
    rw [only_frsUpdate n (by simp)]
    exact (only_identifiesNext n first _).trans (only_endNego_closing n u)
  · rw [settled_askSinkCap, settled_of_unasked (unasked_frsUpdate n _), settled_identifiesNext, settled_endNego]

end

end Sys2Proof.Proofs.SinkRequests


/-! SUPPORT. The sink's contract (chapter 7, R237 to R246, R249, R255). -/

namespace Sys2Proof.Proofs.SinkContracts

open Sys2Proof Sys2Proof.Machine Sys2Proof.Safety
open Sys2Proof.Proofs.StepAndTimers
open Sys2Proof.Proofs.ShapersAndTally
open Sys2Proof.Proofs.Frames
open Sys2Proof.Proofs.Running
open Sys2Proof.Proofs.Shepherd
open Sys2Proof.Proofs.PdMessages
open Sys2Proof.Proofs.PortEvents
open Sys2Proof.Proofs.SinkSide
open Sys2Proof.Proofs.PdReceiving
open Sys2Proof.Proofs.SourceSide
open Sys2Proof.Proofs.SourceContracts
open Sys2Proof.Proofs.SourceTimes
open Sys2Proof.Proofs.SinkRequests

section
variable {S : List Part} {t u v d e : Dev} {n : CPort} {id : BitVec 3} {g : Nego} {pdos : List Word} {c : Instr} {s : State} {tm : Timer}
  {f : Dev → Dev} {P : Dev → Prop}

/-! ### A heard message, settled -/

/-- What a message that a port heard may reach, beside a step that waits. -/
theorem only_of_heard (h : Only (answerParts n.val) u (heard n id (hush d))) :
    OnlyPort n.val (settle u) d ∧ SameSwitch (settle u) d ∧ SameAon (settle u) d :=
  only_of_exchange (h.trans ((only_heard n id (hush d)).mono (by simp)))

theorem cable_heard_hush (n : CPort) (id : BitVec 3) (d : Dev) : cable (heard n id (hush d)) n.val = { cable d n.val with rxId := some id } :=
  cable_heard n id (hush d)

/-! ### Source_Capabilities -/

/-- A sink that keeps what its source offers, with its gates on. -/
def keeping (pdos : List Word) (c : Cable) : Cable :=
  if c.gateOn || c.path == .latched then { c with partnerCaps := pdos.take 11 }
  else { c with partnerCaps := pdos.take 11, gateOn := true, path := .on, contract := .implicit, mv := 5000 }

theorem keeping_eq (pdos : List Word) (c : Cable) : (keeping pdos c).partnerCaps = pdos.take 11 ∧ (keeping pdos c).booked = c.booked ∧
    (c.path ≠ .latched → (keeping pdos c).gateOn = true) ∧ (keeping pdos c).epr = c.epr ∧ (keeping pdos c).guard = c.guard ∧
    (keeping pdos c).cableBits = c.cableBits ∧ (keeping pdos c).sinkCeil = c.sinkCeil := by
  unfold keeping
  split
  · next h =>
    refine ⟨rfl, rfl, fun hpath => ?_, rfl, rfl, rfl, rfl⟩
    simpa [hpath] using h
  · exact ⟨rfl, rfl, fun _ => rfl, rfl, rfl, rfl, rfl⟩

theorem cable_takeCaps (n : Nat) (pdos : List Word) (d : Dev) : cable (takeCaps n pdos d) n = keeping pdos (cable d n) := by
  have hcable : cable (disarm (.psTrans n) (disarm (.sinkReq n) (disarm (.sender n) (disarm (.noResponse n) d)))) n = cable d n := by
    simp only [cable_disarm]
  unfold takeCaps keeping
  dsimp only
  generalize disarm (.psTrans n) (disarm (.sinkReq n) (disarm (.sender n) (disarm (.noResponse n) d))) = w at hcable ⊢
  rw [← hcable]
  split
  · rw [cable_setCable_self]
  · rw [cable_setCable_self, cable_setCable_self]

theorem only_takeCaps (n : Nat) (pdos : List Word) (d : Dev) : Only (portParts n) (takeCaps n pdos d) d := by simp [takeCaps]

/-- A sink outside EPR mode. -/
def eprOver (c : Cable) : Cable := { c with epr := if c.epr = .refused then .refused else .off }

/-- The device of a sink that has taken its source's capabilities. -/
def caught (n : Nat) (pdos : List Word) (d : Dev) : Dev := disarm (.eprKeep n) (setCable n eprOver (takeCaps n pdos d))

theorem cable_caught (n : Nat) (pdos : List Word) (d : Dev) : cable (caught n pdos d) n = eprOver (keeping pdos (cable d n)) := by
  rw [caught, cable_disarm, cable_setCable_self, cable_takeCaps]

theorem only_caught (n : Nat) (pdos : List Word) (d : Dev) : Only (portParts n) (caught n pdos d) d := by
  rw [caught, only_disarm _ (by simp), only_setCable _ _ (by simp)]
  exact only_takeCaps n pdos d

/-- What a sink's choice from what it has taken leaves. -/
theorem chosen {w : Dev} (hreach : Only (portParts n.val) w (heard n id (hush d))) {y : Cable} (hcable : cable w n.val = y)
    (hcaps : y.partnerCaps = pdos.take 11) (hbooked : y.booked = (cable d n.val).booked)
    (hgate : (cable d n.val).path ≠ .latched → y.gateOn = true) (hnot : ¬ (y.guard = .wet ∧ y.epr = .inEpr)) :
    let t := settle (sinkRequest n.val w)
    ((cable t n.val).partnerCaps = pdos.take 11 ∧ (cable t n.val).booked = (cable d n.val).booked ∧
      ((cable d n.val).path ≠ .latched → (cable t n.val).gateOn = true) ∧ OnlyPort n.val t d ∧ SameSwitch t d ∧ SameAon t d) ∧
    ∀ g, sinkPick w n.val = some g → (cable t n.val).nego = some g ∧ (cable t n.val).awaiting = .requestAnswer := by
  have hsame := unasked_sinkRequest n.val w
  have honly := only_of_heard (((only_sinkRequest_choice n.val w).mono (S := answerParts n.val) (by simp)).trans (hreach.mono (by simp)))
  have hpick : ∀ g, sinkPick w n.val = some g → unsaid (cable (sinkRequest n.val w) n.val) = unsaid (requesting g (cable w n.val)) := by
    intro g hpick
    rw [sinkRequest_of_pick hpick (by rw [hcable]; exact hnot)]
    exact unsaid_sendRequest n.val g w
  rw [hcable] at hsame
  dsimp only
  rw [cable_settle]
  generalize sinkRequest n.val w = x at hsame honly hpick ⊢
  exact ⟨⟨(congrArg Cable.partnerCaps hsame :).trans hcaps, (congrArg Cable.booked hsame :).trans hbooked,
    fun hpath => (congrArg Cable.gateOn hsame :).trans (hgate hpath), honly⟩,
    fun g hg => ⟨(congrArg Cable.nego (hpick g hg) :), (congrArg Cable.awaiting (hpick g hg) :)⟩⟩

theorem eprOver_not (c : Cable) : (eprOver c).epr ≠ .inEpr := by
  show (if c.epr = .refused then EprState.refused else EprState.off) ≠ .inEpr
  split
  · exact fun h => nomatch h
  · exact fun h => nomatch h

/-- The terms of a sink's choice are the device's, where its port reads as another's does. -/
theorem sameChoice_heard {w left : Dev} {y z : Cable} (hreach : Only (portParts n.val) w (heard n id (hush d))) (hw : cable w n.val = y)
    (hleft : Only [.cable n.val] left d) (hz : cable left n.val = z) (hcaps : y.partnerCaps = z.partnerCaps) (hepr : y.epr = z.epr)
    (hguard : y.guard = z.guard) (hbits : y.cableBits = z.cableBits) (hceil : y.sinkCeil = z.sinkCeil) : SameChoice n.val w left := by
  have hback : Only (.out :: portParts n.val) w (hush d) := (hreach.mono (by simp)).trans ((only_heard n id (hush d)).mono (by simp))
  have hboot : w.boot = left.boot := (hback.boot rfl).trans (hleft.boot rfl).symm
  refine ⟨fun obj el => (hback.cfg rfl obj el).trans (hleft.cfg rfl obj el).symm, by unfold isHalted; rw [hboot], ?_, ?_, ?_, ?_, ?_⟩
  · rw [hw, hz, hcaps]
  · rw [hw, hz, hepr]
  · rw [hw, hz, hguard]
  · rw [hw, hz, hbits]
  · rw [hw, hz, hceil]

/-- What a sink keeps of what its source offers. -/
def leftWith (pdos : List Word) (c : Cable) : Cable := { c with partnerCaps := pdos.take 11, epr := if c.epr = .refused then .refused else .off }

theorem eprOver_keeping {x c : Cable} (hx : x = { c with rxId := some id }) : (eprOver (keeping pdos x)).partnerCaps = pdos.take 11 ∧
    (eprOver (keeping pdos x)).booked = c.booked ∧ (c.path ≠ .latched → (eprOver (keeping pdos x)).gateOn = true) ∧
    (eprOver (keeping pdos x)).epr = (leftWith pdos c).epr ∧ (eprOver (keeping pdos x)).guard = c.guard ∧
    (eprOver (keeping pdos x)).cableBits = c.cableBits ∧ (eprOver (keeping pdos x)).sinkCeil = c.sinkCeil := by
  subst hx
  obtain ⟨hcaps, hbooked, hgate, hepr, hguard, hbits, hceil⟩ := keeping_eq pdos { c with rxId := some id }
  generalize keeping pdos { c with rxId := some id } = y at hcaps hbooked hgate hepr hguard hbits hceil ⊢
  exact ⟨hcaps, hbooked, hgate, congrArg (fun e => if e = EprState.refused then EprState.refused else EprState.off) hepr, hguard, hbits, hceil⟩

theorem keeping_heard {x c : Cable} (hx : x = { c with rxId := some id }) : (keeping pdos x).partnerCaps = pdos.take 11 ∧
    (keeping pdos x).booked = c.booked ∧ (c.path ≠ .latched → (keeping pdos x).gateOn = true) ∧ (keeping pdos x).epr = c.epr ∧
    (keeping pdos x).guard = c.guard ∧ (keeping pdos x).cableBits = c.cableBits ∧ (keeping pdos x).sinkCeil = c.sinkCeil := by
  subst hx
  exact keeping_eq pdos { c with rxId := some id }

theorem sourceCapabilities_eq (hears : Hears s.dev n.val id) (hrole : (cable s.dev n.val).powerRole = .sink) :
    sourceCapabilities n.val id pdos (hush s.dev) = sinkRequest n.val (caught n.val pdos (heard n id (hush s.dev))) := by
  unfold sourceCapabilities
  rw [pdReceive_new (d := hush s.dev) hears]
  dsimp only
  rw [if_pos (by rw [cable_heard]; exact hrole)]
  rfl

theorem sourceCapabilities_answered (hears : Hears s.dev n.val id) (hrole : (cable s.dev n.val).powerRole = .sink) :
    Answers (.sourceCapabilities n id pdos) s fun t => ((cable t n.val).partnerCaps = pdos.take 11 ∧
      (cable t n.val).booked = (cable s.dev n.val).booked ∧
      ((cable s.dev n.val).path ≠ .latched → (cable t n.val).gateOn = true) ∧ OnlyPort n.val t s.dev ∧ SameSwitch t s.dev ∧
      SameAon t s.dev) ∧
      ∀ g, sinkPick (setCable n.val (leftWith pdos) s.dev) n.val = some g →
        (cable t n.val).nego = some g ∧ (cable t n.val).awaiting = .requestAnswer := by
  refine answers_of_effect rfl (sourceCapabilities_eq hears hrole) ?_
  have hreach := only_caught n.val pdos (heard n id (hush s.dev))
  have hcable := cable_caught n.val pdos (heard n id (hush s.dev))
  obtain ⟨hcaps, hbooked, hgate, hepr, hguard, hbits, hceil⟩ := eprOver_keeping (pdos := pdos) (cable_heard_hush n id s.dev)
  have hnot := eprOver_not (keeping pdos (cable (heard n id (hush s.dev)) n.val))
  generalize eprOver (keeping pdos (cable (heard n id (hush s.dev)) n.val)) = y at hcable hcaps hbooked hgate hepr hguard hbits hceil hnot
  generalize caught n.val pdos (heard n id (hush s.dev)) = w at hreach hcable ⊢
  obtain ⟨hkept, hpick⟩ := chosen hreach hcable hcaps hbooked hgate fun h => hnot h.2
  have hleft := cable_setCable_self n.val (leftWith pdos) s.dev
  exact ⟨hkept, fun g hg => hpick g ((sinkPick_congr (sameChoice_heard hreach hcable (by simp) hleft hcaps hepr hguard hbits hceil)).trans hg)⟩

/-- A port whose partner's capabilities are known. -/
def withCaps (pdos : List Word) (c : Cable) : Cable := { c with partnerCaps := pdos.take 11 }

theorem eprSourceCapabilities_eq (hears : Hears s.dev n.val id) (hmode : (cable s.dev n.val).epr = .inEpr) :
    eprSourceCapabilities n.val id pdos (hush s.dev) = sinkRequest n.val (takeCaps n.val pdos (heard n id (hush s.dev))) := by
  unfold eprSourceCapabilities
  rw [pdReceive_new (d := hush s.dev) hears]
  exact if_pos (by rw [cable_heard]; exact hmode)

theorem eprSourceCapabilities_answered (hears : Hears s.dev n.val id) (hmode : (cable s.dev n.val).epr = .inEpr)
    (hdry : (cable s.dev n.val).guard ≠ .wet) :
    Answers (.eprSourceCapabilities n id pdos) s fun t => ((cable t n.val).partnerCaps = pdos.take 11 ∧
      (cable t n.val).booked = (cable s.dev n.val).booked ∧
      ((cable s.dev n.val).path ≠ .latched → (cable t n.val).gateOn = true) ∧ OnlyPort n.val t s.dev ∧ SameSwitch t s.dev ∧
      SameAon t s.dev) ∧
      ∀ g, sinkPick (setCable n.val (withCaps pdos) s.dev) n.val = some g →
        (cable t n.val).nego = some g ∧ (cable t n.val).awaiting = .requestAnswer := by
  refine answers_of_effect rfl (eprSourceCapabilities_eq hears hmode) ?_
  have hreach := only_takeCaps n.val pdos (heard n id (hush s.dev))
  have hcable := cable_takeCaps n.val pdos (heard n id (hush s.dev))
  obtain ⟨hcaps, hbooked, hgate, hepr, hguard, hbits, hceil⟩ := keeping_heard (pdos := pdos) (cable_heard_hush n id s.dev)
  generalize keeping pdos (cable (heard n id (hush s.dev)) n.val) = y at hcable hcaps hbooked hgate hepr hguard hbits hceil
  generalize takeCaps n.val pdos (heard n id (hush s.dev)) = w at hreach hcable ⊢
  obtain ⟨hkept, hpick⟩ := chosen hreach hcable hcaps hbooked hgate fun h => hdry (hguard.symm.trans h.1)
  have hleft := cable_setCable_self n.val (withCaps pdos) s.dev
  exact ⟨hkept, fun g hg => hpick g ((sinkPick_congr (sameChoice_heard hreach hcable (by simp) hleft hcaps hepr hguard hbits hceil)).trans hg)⟩

/-! ### The answer to a Request -/

/-- The device of a sink that has the answer to its Request. -/
def answered (n : CPort) (id : BitVec 3) (d : Dev) : Dev := disarm (.sender n.val) (heard n id (hush d))

theorem cable_answered (n : CPort) (id : BitVec 3) (d : Dev) : cable (answered n id d) n.val = { cable d n.val with rxId := some id } :=
  (cable_disarm _ _ _).trans (cable_heard_hush n id d)

theorem only_answered (n : CPort) (id : BitVec 3) (d : Dev) : Only [.timer (.sender n.val)] (answered n id d) (heard n id (hush d)) := by
  simp [answered]

theorem accept_answered (hears : Hears s.dev n.val id) (hawait : (cable s.dev n.val).awaiting = .requestAnswer)
    (hnego : (cable s.dev n.val).nego = some g) :
    Answers (.accept n id) s fun t => (cable t n.val).awaiting = .psRdy ∧ runsFor (.psTrans n.val) (500 * ms) t ∧
      (cable t n.val).booked = min (cable s.dev n.val).booked g.booking ∧
      (cable t n.val).contract = (cable s.dev n.val).contract ∧ OnlyPort n.val t s.dev ∧ SameSwitch t s.dev ∧
      SameAon t s.dev := by
  refine answers_hearing (u := arm (.psTrans n.val) (500 * ms) (setAwait n.val .psRdy (lowered n.val g (answered n id s.dev)))) rfl hears ?_ ?_
  · dsimp only
    rw [cable_heard_hush, show ({ cable s.dev n.val with rxId := some id } : Cable).awaiting = .requestAnswer from hawait]
    dsimp only
    rw [hnego]
    dsimp only
    unfold lowered
    rw [cable_answered]
    rfl
  · have hcable := cable_lowered n.val g (answered n id s.dev)
    rw [cable_answered] at hcable
    have hreach := (only_lowered n.val g (answered n id s.dev)).mono (S := answerParts n.val) (by simp)
      |>.trans ((only_answered n id s.dev).mono (by simp))
    generalize lowered n.val g (answered n id s.dev) = w at hcable hreach ⊢
    rw [cable_settle, cable_arm, setAwait, cable_setCable_self, hcable]
    exact ⟨rfl, runsFor_settle.mpr runsFor_arm_self, rfl, rfl, only_of_heard ((only_arm _ _ (by simp)).mpr ((only_setCable _ _ (by simp)).mpr hreach))⟩

/-- What a sink whose Request is over keeps. -/
theorem over_stands (hears : Hears s.dev n.val id) (hholds : ContractHolds (cable s.dev n.val)) :
    negoOver n.val (answered n id s.dev) = setCable n.val concluded (answered n id s.dev) :=
  negoOver_of_holds (by rw [cable_answered]; exact hholds)

theorem concluded_stands (h : Only (answerParts n.val) u (setCable n.val concluded (answered n id d)))
    (hcable : cable u n.val = cable (setCable n.val concluded (answered n id d)) n.val) :
    let t := settle u
    (cable t n.val).nego = none ∧ (cable t n.val).awaiting = .nothing ∧
      (cable t n.val).contract = (cable d n.val).contract ∧ (cable t n.val).mv = (cable d n.val).mv ∧
      (cable t n.val).ma = (cable d n.val).ma ∧ (cable t n.val).booked = (cable d n.val).booked ∧
      OnlyPort n.val t d ∧ SameSwitch t d ∧ SameAon t d := by
  have hset : Only (answerParts n.val) (setCable n.val concluded (answered n id d)) (heard n id (hush d)) :=
    (only_setCable _ _ (by simp)).mpr ((only_answered n id d).mono (by simp))
  have hall := only_of_heard (h.trans hset)
  rw [cable_setCable_self, cable_answered] at hcable
  dsimp only
  rw [cable_settle, hcable]
  exact ⟨rfl, rfl, rfl, rfl, rfl, rfl, hall⟩

theorem refusal_answered (hears : Hears s.dev n.val id) (hawait : (cable s.dev n.val).awaiting = .requestAnswer)
    (hholds : ContractHolds (cable s.dev n.val)) :
    let stands (t : Dev) : Prop := (cable t n.val).nego = none ∧ (cable t n.val).awaiting = .nothing ∧
      (cable t n.val).contract = (cable s.dev n.val).contract ∧ (cable t n.val).mv = (cable s.dev n.val).mv ∧
      (cable t n.val).ma = (cable s.dev n.val).ma ∧ (cable t n.val).booked = (cable s.dev n.val).booked ∧
      OnlyPort n.val t s.dev ∧ SameSwitch t s.dev ∧ SameAon t s.dev
    (Answers (.wait n id) s fun t => runsFor (.sinkReq n.val) (100 * ms) t ∧ stands t) ∧ (Answers (.reject n id) s fun t => stands t) := by
  have hover : negoOver n.val (answered n id s.dev) = setCable n.val concluded (answered n id s.dev) := over_stands hears hholds
  constructor
  · refine answers_hearing (u := arm (.sinkReq n.val) (100 * ms) (setCable n.val concluded (answered n id s.dev))) rfl hears ?_ ?_
    · dsimp only
      rw [cable_heard_hush, show ({ cable s.dev n.val with rxId := some id } : Cable).awaiting = .requestAnswer from hawait]
      exact congrArg (arm (.sinkReq n.val) (100 * ms)) hover
    · exact ⟨runsFor_settle.mpr runsFor_arm_self, concluded_stands ((only_arm _ _ (by simp)).mpr (.refl _ _)) (cable_arm _ _ _ _)⟩
  · refine answers_hearing (u := setCable n.val concluded (answered n id s.dev)) rfl hears ?_ (concluded_stands (.refl _ _) rfl)
    dsimp only
    rw [cable_heard_hush, show ({ cable s.dev n.val with rxId := some id } : Cable).awaiting = .requestAnswer from hawait]
    exact hover

/-! ### PS_RDY -/

/-- The device of a sink whose transition is over. -/
def powered (n : CPort) (id : BitVec 3) (d : Dev) : Dev := setAwait n.val .nothing (disarm (.psTrans n.val) (heard n id (hush d)))

theorem cable_powered (n : CPort) (id : BitVec 3) (d : Dev) :
    cable (powered n id d) n.val = { cable d n.val with rxId := some id, awaiting := .nothing } := by
  rw [powered, setAwait, cable_setCable_self, cable_disarm, cable_heard_hush]

theorem only_powered (n : CPort) (id : BitVec 3) (d : Dev) : Only (portParts n.val) (powered n id d) (heard n id (hush d)) := by
  simp [powered]

theorem sinking_of_settled {x y : Cable} (h : SinkRequests.settled x = SinkRequests.settled (sinking g y)) : x.contract = (if g.epr then .epr else .spr) ∧ x.pos = g.pos ∧
    x.mv = g.mv ∧ x.ma = g.ma ∧ x.booked = g.booking :=
  ⟨(congrArg Cable.contract h :), (congrArg Cable.pos h :), (congrArg Cable.mv h :), (congrArg Cable.ma h :), (congrArg Cable.booked h :)⟩

theorem psRdy_answered (hears : Hears s.dev n.val id) (hawait : (cable s.dev n.val).awaiting = .psRdy)
    (hnego : (cable s.dev n.val).nego = some g) :
    Answers (.psRdy n id) s fun t =>
      (cable t n.val).contract = (if g.epr then .epr else .spr) ∧ (cable t n.val).pos = g.pos ∧ (cable t n.val).mv = g.mv ∧
      (cable t n.val).ma = g.ma ∧ (cable t n.val).booked = g.booking ∧
      (g.kind ≠ .fixed → runsFor (.sinkKeep n.val) (8 * sec) t) ∧ OnlyPort n.val t s.dev ∧ SameAon t s.dev := by
  refine answers_hearing (u := sinkContract n.val g (powered n id s.dev)) rfl hears ?_ ?_
  · dsimp only
    rw [cable_heard_hush, if_neg (fun h => h hawait)]
    dsimp only
    rw [hnego]
    rfl
  · have hpowered := only_powered n id s.dev
    generalize powered n id s.dev = w at hpowered
    obtain ⟨hfollows, hsame⟩ := sinkContract_follows n.val g w
    have hunder := only_sinksUnder n.val g w
    have hruns := fun hkind => runsFor_sinksUnder (n := n.val) (d := w) (g := g) hkind
    generalize sinksUnder n.val g w = x at hfollows hunder hruns
    have hall := only_settled_heard (S := portParts n.val ++ closingParts n.val) (d := s.dev)
      ((hfollows.mono (by simp)).trans ((hunder.mono (by simp)).trans (hpowered.mono (by simp))))
    generalize sinkContract n.val g w = y at hfollows hsame hall
    obtain ⟨hcontract, hpos, hmv, hma, hbooked⟩ := sinking_of_settled hsame
    rw [cable_settle]
    exact ⟨hcontract, hpos, hmv, hma, hbooked,
      fun hkind => runsFor_settle.mpr ((hfollows.runsFor _ (by simp [Part.seenIn]) (hfollows.now rfl)).mpr (hruns hkind)),
      onlyPort_of_only hall (fun k hk => by simp [Part.seenIn, hk.symm]) rfl, hall.sameAon rfl⟩

end

end Sys2Proof.Proofs.SinkContracts


/-! SUPPORT. What a sink does of itself, EPR, and the answers that a sink misses (chapter 7, R241 to R246, R249, R255). -/

namespace Sys2Proof.Proofs.SinkTimes

open Sys2Proof Sys2Proof.Machine Sys2Proof.Safety
open Sys2Proof.Proofs.StepAndTimers
open Sys2Proof.Proofs.ShapersAndTally
open Sys2Proof.Proofs.Frames
open Sys2Proof.Proofs.Running
open Sys2Proof.Proofs.Shepherd
open Sys2Proof.Proofs.PdMessages
open Sys2Proof.Proofs.PortEvents
open Sys2Proof.Proofs.SinkSide
open Sys2Proof.Proofs.HardReset
open Sys2Proof.Proofs.PdReceiving
open Sys2Proof.Proofs.SourceSide
open Sys2Proof.Proofs.SourceContracts
open Sys2Proof.Proofs.SourceTimes
open Sys2Proof.Proofs.Unacknowledged
open Sys2Proof.Proofs.SinkRequests
open Sys2Proof.Proofs.SinkContracts

section
variable {S : List Part} {t u v d e : Dev} {n : CPort} {id : BitVec 3} {g : Nego} {pdos : List Word} {c : Instr} {s : State} {tm : Timer}
  {f : Dev → Dev} {P : Dev → Prop}

/-! ### Requests of its own -/

theorem sameChoice_expired (n : Nat) (tm : Timer) (d : Dev) : SameChoice n (expired tm d) d := by
  have hback : Only [.now, .tm, .timer tm, .odBook, .out] (expired tm d) d := by simp
  exact ⟨hback.cfg rfl, by unfold isHalted; rw [hback.boot rfl], rfl, rfl, rfl, rfl, rfl⟩

theorem sinkRequestTimer_eq (harmed : armed (.sinkReq n.val) s.dev = true) (hlistens : pdListens s.dev n.val = true)
    (hrole : (cable s.dev n.val).powerRole = .sink) (hidle : negotiating (cable s.dev n.val) = false) (hdry : (cable s.dev n.val).guard ≠ .wet)
    (hpick : sinkPick s.dev n.val = some g) :
    sinkRequestTimer n.val (hush s.dev) = sendRequest n.val g (expired (.sinkReq n.val) s.dev) := by
  unfold sinkRequestTimer
  rw [onExpiry_hush_of_armed harmed, pdListens_expired, hlistens, cable_expired, hrole, hidle, if_pos (by decide)]
  exact sinkRequest_of_pick ((sinkPick_congr (sameChoice_expired n.val _ s.dev)).trans hpick) fun h => hdry h.1

/-- What a sink's Request leaves at the expiry of a timer. -/
theorem request_settles (hreach : Only [.timer (.sinkKeep n.val)] u (expired tm d)) (hcable : cable u n.val = cable d n.val) :
    let t := settle (sendRequest n.val g u)
    (cable t n.val).nego = some g ∧ (cable t n.val).awaiting = .requestAnswer ∧ (cable t n.val).contract = (cable d n.val).contract ∧
      (cable t n.val).booked = (cable d n.val).booked ∧ OnlyPort n.val t d ∧ SameSwitch t d := by
  have hsame := unsaid_sendRequest n.val g u
  have honly := only_of_expiry (((only_sendRequest_wire n.val g u).mono (S := .timer .overrun :: exchangeParts n.val) (by simp)).trans
    (hreach.mono (by simp)))
  rw [hcable] at hsame
  dsimp only
  rw [cable_settle]
  generalize sendRequest n.val g u = w at hsame honly ⊢
  exact ⟨(congrArg Cable.nego hsame :), (congrArg Cable.awaiting hsame :), (congrArg Cable.contract hsame :), (congrArg Cable.booked hsame :), honly⟩

theorem sinkRequestTimer_answered (harmed : armed (.sinkReq n.val) s.dev = true) (hlistens : pdListens s.dev n.val = true)
    (hrole : (cable s.dev n.val).powerRole = .sink) (hidle : negotiating (cable s.dev n.val) = false) (hdry : (cable s.dev n.val).guard ≠ .wet)
    (hpick : sinkPick s.dev n.val = some g) :
    Answers (.sinkRequestTimer n) s fun t => (cable t n.val).nego = some g ∧ (cable t n.val).awaiting = .requestAnswer ∧
      ((cable s.dev n.val).lastSent = none → g.epr = false → Says n (.request (rdoOf s.dev n.val g)) t) ∧
      (cable t n.val).contract = (cable s.dev n.val).contract ∧ (cable t n.val).booked = (cable s.dev n.val).booked ∧
      OnlyPort n.val t s.dev ∧ SameSwitch t s.dev := by
  refine answers_of_effect rfl (sinkRequestTimer_eq harmed hlistens hrole hidle hdry hpick) ?_
  obtain ⟨hnego, hawait, hcontract, hbooked, honly⟩ := request_settles (g := g) (u := expired (.sinkReq n.val) s.dev) (d := s.dev) (.refl _ _) rfl
  refine ⟨hnego, hawait, fun hquiet hepr => ?_, hcontract, hbooked, honly⟩
  rw [← rdoOf_congr (sameChoice_expired n.val (.sinkReq n.val) s.dev).cfg]
  exact says_settle (says_sendRequest (portHeld_expired (runs_of_listens hlistens)) hquiet hepr)

theorem keepalive_eq (harmed : armed (.sinkKeep n.val) s.dev = true) (hrole : (cable s.dev n.val).powerRole = .sink)
    (hexplicit : explicit (cable s.dev n.val) = true) (hkind : (cable s.dev n.val).pdoKind ≠ .fixed)
    (hidle : negotiating (cable s.dev n.val) = false) (hdry : (cable s.dev n.val).guard ≠ .wet) :
    sinkPpsKeepalive n.val (hush s.dev) = sendRequest n.val (sameChoice (cable s.dev n.val) (cable s.dev n.val).ma)
      (arm (.sinkKeep n.val) (8 * sec) (expired (.sinkKeep n.val) s.dev)) := by
  unfold sinkPpsKeepalive
  rw [onExpiry_hush_of_armed harmed]
  dsimp only
  rw [cable_expired, if_neg (by simp [hrole, hexplicit, hkind]), hidle, if_neg (by decide)]
  exact if_neg (by simp [wetExcess, hdry])

theorem keepalive_answered (harmed : armed (.sinkKeep n.val) s.dev = true) (hrole : (cable s.dev n.val).powerRole = .sink)
    (hexplicit : explicit (cable s.dev n.val) = true) (hkind : (cable s.dev n.val).pdoKind ≠ .fixed)
    (hidle : negotiating (cable s.dev n.val) = false) (hdry : (cable s.dev n.val).guard ≠ .wet) :
    Answers (.sinkPpsKeepalive n) s fun t => runsFor (.sinkKeep n.val) (8 * sec) t ∧
      (cable t n.val).nego = some (sameChoice (cable s.dev n.val) (cable s.dev n.val).ma) ∧
      (cable t n.val).booked = (cable s.dev n.val).booked ∧ OnlyPort n.val t s.dev ∧ SameSwitch t s.dev := by
  refine answers_of_effect rfl (keepalive_eq harmed hrole hexplicit hkind hidle hdry) ?_
  have hruns : runsFor (.sinkKeep n.val) (8 * sec) (arm (.sinkKeep n.val) (8 * sec) (expired (.sinkKeep n.val) s.dev)) := runsFor_arm_self
  have hreach : Only [.timer (.sinkKeep n.val)] (arm (.sinkKeep n.val) (8 * sec) (expired (.sinkKeep n.val) s.dev)) (expired (.sinkKeep n.val) s.dev) := by
    simp
  have hcable : cable (arm (.sinkKeep n.val) (8 * sec) (expired (.sinkKeep n.val) s.dev)) n.val = cable s.dev n.val := rfl
  generalize arm (.sinkKeep n.val) (8 * sec) (expired (.sinkKeep n.val) s.dev) = w at hruns hreach hcable
  obtain ⟨hnego, -, -, hbooked, honly⟩ := request_settles (g := sameChoice (cable s.dev n.val) (cable s.dev n.val).ma) hreach hcable
  have hwire := only_sendRequest_wire n.val (sameChoice (cable s.dev n.val) (cable s.dev n.val).ma) w
  exact ⟨runsFor_settle.mpr ((hwire.runsFor _ (by simp [Part.seenIn]) (hwire.now rfl)).mpr hruns), hnego, hbooked, honly⟩

/-! ### Sink_Capabilities -/

/-- A port beside Fast Role Swap. -/
def unready (c : Cable) : Cable := { c with frs := .off, vctl := 0, ilim := 0 }

theorem unready_frsUpdate (n : Nat) (d : Dev) : unready (cable (frsUpdate n d) n) = unready (cable d n) := by
  unfold frsUpdate
  dsimp only
  split
  · rfl
  split
  · rw [cable_setCable_self]
    rfl
  split
  · rw [cable_setCable_self]
    rfl
  · rfl

/-- A port that knows its partner's FRS current. -/
def frsKnown (code : Nat) (c : Cable) : Cable := { c with frsPartner := code }

/-- The device on which it does. -/
def partnerKnown (n : CPort) (id : BitVec 3) (pdos : List Word) (d : Dev) : Dev :=
  setCable n.val (frsKnown (bits (pdos.headD 0).toNat 24 23)) (setAwait n.val .nothing (answered n id d))

theorem cable_partnerKnown (n : CPort) (id : BitVec 3) (pdos : List Word) (d : Dev) : cable (partnerKnown n id pdos d) n.val =
    { cable d n.val with rxId := some id, awaiting := .nothing, frsPartner := bits (pdos.headD 0).toNat 24 23 } := by
  rw [partnerKnown, cable_setCable_self, setAwait, cable_setCable_self, cable_answered]
  rfl

theorem sinkCapabilities_eq (hears : Hears s.dev n.val id) (hawait : (cable s.dev n.val).awaiting = .sinkCaps) :
    sinkCapabilities n.val id pdos (hush s.dev) = frsUpdate n.val (partnerKnown n id pdos s.dev) := by
  unfold sinkCapabilities
  rw [pdReceive_new (d := hush s.dev) hears]
  dsimp only
  rw [if_neg fun h => h (by rw [cable_heard]; exact hawait)]
  rfl

theorem sinkCapabilities_answered (hears : Hears s.dev n.val id) (hawait : (cable s.dev n.val).awaiting = .sinkCaps) :
    Answers (.sinkCapabilities n id pdos) s fun t => (cable t n.val).awaiting = .nothing ∧
      (cable t n.val).frsPartner = (pdos.headD 0).toNat / 2 ^ 23 % 4 ∧ (cable t n.val).booked = (cable s.dev n.val).booked ∧
      OnlyPort n.val t s.dev ∧ SameSwitch t s.dev ∧ SameAon t s.dev := by
  refine answers_of_effect rfl (sinkCapabilities_eq hears hawait) ?_
  have hcable := cable_partnerKnown n id pdos s.dev
  have hreach : Only (answerParts n.val) (partnerKnown n id pdos s.dev) (heard n id (hush s.dev)) := by
    rw [partnerKnown, only_setCable _ _ (by simp), only_setAwait _ _ (by simp)]
    exact (only_answered n id s.dev).mono (by simp)
  have hsame := unready_frsUpdate n.val (partnerKnown n id pdos s.dev)
  have honly := only_of_heard (((only_frsUpdate n.val (by simp)).mpr (.refl (answerParts n.val) (partnerKnown n id pdos s.dev))).trans hreach)
  rw [hcable] at hsame
  rw [cable_settle]
  generalize frsUpdate n.val (partnerKnown n id pdos s.dev) = w at hsame honly ⊢
  exact ⟨(congrArg Cable.awaiting hsame :), (congrArg Cable.frsPartner hsame :), (congrArg Cable.booked hsame :), honly⟩

/-! ### Answers that are missing -/

/-- What a Hard Reset leaves that a time-out makes a port send, once the device follows TARGET. -/
theorem sendHardReset_target (n : CPort) (tm : Timer) (hruns : portRuns s.dev n.val = true) :
    let t := settle (followTarget (sendHardReset n.val (expired tm s.dev)))
    Emission.pdHardReset n ∈ t.out ∧ (cable t n.val).contract = .none ∧
      (cable t n.val).hardResetCount = inc16 (cable s.dev n.val).hardResetCount ∧ OnlyPort n.val t s.dev := by
  have hsaid := mem_out_sendHardReset n (portHeld_expired (tm := tm) hruns)
  have hall := only_settled_target_expired (d := s.dev) ((only_sendHardReset n.val (S := hardResetParts n.val) (by simp)).mpr
    (.refl _ (expired tm s.dev)))
  have hreset := reset_sendHardReset n.val (expired tm s.dev)
  rw [cable_expired] at hreset
  generalize sendHardReset n.val (expired tm s.dev) = w at hsaid hall hreset
  have hout : (followTarget w).out = w.out := (show Only targetParts (followTarget w) w by simp).out rfl
  dsimp only
  rw [settle_out, cable_settle, cable_followTarget, hout]
  exact ⟨hsaid, hreset.contract, hreset.count, onlyPort_of_only hall (fun k hk => by simp [Part.seenIn, hk.symm]) rfl⟩

theorem psTransitionTimeout_answered (hruns : portRuns s.dev n.val = true) (harmed : armed (.psTrans n.val) s.dev = true)
    (hnego : (cable s.dev n.val).nego.isSome = true) :
    Answers (.psTransitionTimeout n) s fun t => Emission.pdHardReset n ∈ t.out ∧ (cable t n.val).contract = .none ∧
      (cable t n.val).hardResetCount = inc16 (cable s.dev n.val).hardResetCount ∧ OnlyPort n.val t s.dev := by
  have heff : psTransitionTimeout n.val (hush s.dev) = sendHardReset n.val (expired (.psTrans n.val) s.dev) := by
    unfold psTransitionTimeout
    rw [onExpiry_hush_of_armed harmed]
    exact if_pos hnego
  exact answers_of_target rfl heff (sendHardReset_target n (.psTrans n.val) hruns)

theorem senderTimeout_request (hruns : portRuns s.dev n.val = true) (harmed : armed (.sender n.val) s.dev = true)
    (hawait : (cable s.dev n.val).awaiting = .requestAnswer) (hfew : (cable s.dev n.val).hardResets < 2) :
    Answers (.senderResponseTimeout n) s fun t => Emission.pdHardReset n ∈ t.out ∧ (cable t n.val).contract = .none ∧
      (cable t n.val).hardResetCount = inc16 (cable s.dev n.val).hardResetCount ∧ OnlyPort n.val t s.dev := by
  have heff : senderResponseTimeout n.val (hush s.dev) = sendHardReset n.val (expired (.sender n.val) s.dev) := by
    unfold senderResponseTimeout
    dsimp only
    rw [cable_hush, hawait, if_neg (by simp), onExpiry_hush_of_armed harmed]
    exact if_pos hfew
  exact answers_of_target rfl heff (sendHardReset_target n (.sender n.val) hruns)

theorem senderTimeout_sinkCaps (harmed : armed (.sender n.val) s.dev = true) (hawait : (cable s.dev n.val).awaiting = .sinkCaps) :
    Answers (.senderResponseTimeout n) s fun t => (cable t n.val).awaiting = .nothing ∧
      (cable t n.val).contract = (cable s.dev n.val).contract ∧ (cable t n.val).booked = (cable s.dev n.val).booked ∧
      OnlyPort n.val t s.dev := by
  have heff : senderResponseTimeout n.val (hush s.dev) = setAwait n.val .nothing (expired (.sender n.val) s.dev) := by
    unfold senderResponseTimeout
    dsimp only
    rw [cable_hush, hawait, if_neg (by simp), onExpiry_hush_of_armed harmed]
  refine answers_of_target rfl heff ?_
  have hall := only_settled_target_expired (d := s.dev) ((only_setAwait n.val .nothing (S := [.cable n.val]) (by simp)).mpr
    (.refl _ (expired (.sender n.val) s.dev)))
  rw [cable_settle, cable_followTarget, setAwait, cable_setCable_self, cable_expired]
  exact ⟨rfl, rfl, rfl, onlyPort_of_only hall (fun k hk => by simp [Part.seenIn, hk.symm]) rfl⟩

theorem eprAckTimeout_answered (hruns : portRuns s.dev n.val = true) (harmed : armed (.sender n.val) s.dev = true)
    (hawait : (cable s.dev n.val).awaiting = .eprAck) :
    Answers (.eprKeepaliveAckTimeout n) s fun t => Emission.pdHardReset n ∈ t.out ∧ (cable t n.val).contract = .none ∧
      (cable t n.val).hardResetCount = inc16 (cable s.dev n.val).hardResetCount ∧ OnlyPort n.val t s.dev := by
  have heff : eprKeepaliveAckTimeout n.val (hush s.dev) = sendHardReset n.val (expired (.sender n.val) s.dev) := by
    unfold eprKeepaliveAckTimeout
    rw [cable_hush, hawait, if_pos rfl, onExpiry_hush_of_armed harmed]
  refine answers_of_effect rfl heff ?_
  obtain ⟨hsaid, hreset, -, -, honly⟩ := sendHardReset_settles (s := s) n (.sender n.val) hruns (.refl _ _)
  exact ⟨hsaid, hreset.contract, hreset.count, honly⟩

/-! ### EPR -/

/-- A sink that asks to enter EPR mode. -/
def entering (c : Cable) : Cable := { c with epr := .entering, awaiting := .eprAnswer }

theorem listens_of_mayEnter {n : Nat} (h : eprMayEnter d n = true) : pdListens d n = true := by
  simp only [eprMayEnter, Bool.and_eq_true] at h
  tauto

theorem eprModeEnter_answered (hmay : eprMayEnter s.dev n.val = true) (hquiet : (cable s.dev n.val).lastSent = none) :
    Answers (.eprModeEnter n) s fun t => (cable t n.val).epr = .entering ∧ (cable t n.val).awaiting = .eprAnswer ∧
      Says n (.eprMode true (min (cfg s.dev (contractObj n.val) 12 * cfg s.dev (contractObj n.val) 13 / 1000000) 240)) t ∧
      (cable t n.val).booked = (cable s.dev n.val).booked ∧ OnlyPort n.val t s.dev ∧ SameSwitch t s.dev ∧
      SameAon t s.dev := by
  have heff : eprModeEnter n.val (hush s.dev) = pdSend n.val
      (.eprMode true (min (cfg s.dev (contractObj n.val) 12 * cfg s.dev (contractObj n.val) 13 / 1000000) 240))
      (setCable n.val entering (hush s.dev)) := if_neg (by rw [show eprMayEnter (hush s.dev) n.val = true from hmay]; decide)
  refine answers_of_effect rfl heff ?_
  generalize min (cfg s.dev (contractObj n.val) 12 * cfg s.dev (contractObj n.val) 13 / 1000000) 240 = pdp
  have hcable := cable_setCable_self n.val entering (hush s.dev)
  have hreach : Only (exchangeParts n.val) (setCable n.val entering (hush s.dev)) (hush s.dev) := by simp
  rw [cable_hush] at hcable
  generalize setCable n.val entering (hush s.dev) = u at hcable hreach ⊢
  have hsame := unsaid_pdSend n.val (.eprMode true pdp) u n.val
  have hheld : portHeld u n.val = false := (portHeld_congr (hreach.otp rfl) n.val).trans (held_of_listens (d := s.dev) (listens_of_mayEnter hmay))
  rw [hcable] at hsame
  rw [cable_settle]
  exact ⟨(congrArg Cable.epr hsame :), (congrArg Cable.awaiting hsame :),
    says_settle (says_pdSend n _ hheld (by rw [hcable]; exact hquiet)), (congrArg Cable.booked hsame :),
    only_of_exchange (((only_pdSend_exchange n.val _ u).trans hreach).mono (by simp))⟩

/-- A sink in EPR mode, refused it, or out of it. -/
def inMode (epr : EprState) (await : Await) (c : Cable) : Cable := { c with epr := epr, awaiting := await }

/-- What an EPR_Mode message leaves of a port. -/
theorem mode_stands {epr : EprState} {await : Await} (hreach : Only [.timer (.eprKeep n.val)] u (setCable n.val (inMode epr await) v))
    (hv : Only [.timer (.sender n.val)] v (heard n id (hush d))) :
    (cable (settle u) n.val).epr = epr ∧ (cable (settle u) n.val).awaiting = await ∧ (cable (settle u) n.val).booked = (cable d n.val).booked ∧
      (cable (settle u) n.val).contract = (cable d n.val).contract ∧ OnlyPort n.val (settle u) d ∧ SameSwitch (settle u) d ∧
      SameAon (settle u) d := by
  have hall := only_of_heard (id := id) (d := d) ((hreach.mono (S := answerParts n.val) (by simp)).trans
    ((only_setCable _ _ (by simp)).mpr (hv.mono (by simp))))
  have hcable : cable u n.val = inMode epr await { cable d n.val with rxId := some id } := by
    rw [hreach.cable n.val rfl, cable_setCable_self, hv.cable n.val rfl, cable_heard_hush]
  rw [cable_settle, hcable]
  exact ⟨rfl, rfl, rfl, rfl, hall⟩

theorem eprMode_entry (hears : Hears s.dev n.val id) (hmode : (cable s.dev n.val).epr = .entering) :
    eprMode n.val id .enterSucceeded (hush s.dev) = arm (.eprKeep n.val) (375 * ms) (setCable n.val (inMode .inEpr .sourceCaps) (answered n id s.dev)) ∧
    eprMode n.val id .enterFailed (hush s.dev) = setCable n.val (inMode .refused .nothing) (answered n id s.dev) := by
  have hnow : (cable (heard n id (hush s.dev)) n.val).epr = .entering := by rw [cable_heard]; exact hmode
  constructor
  · unfold eprMode
    rw [pdReceive_new (d := hush s.dev) hears]
    dsimp only
    rw [if_neg (by simp [hmode]), eprEntry, if_neg fun h => h hnow]
    rfl
  · unfold eprMode
    rw [pdReceive_new (d := hush s.dev) hears]
    dsimp only
    rw [if_neg (by simp [hmode]), eprEntry, if_neg fun h => h hnow]
    rfl

theorem eprMode_exit (hears : Hears s.dev n.val id) (hmode : (cable s.dev n.val).epr = .inEpr) :
    eprMode n.val id .exit (hush s.dev) = disarm (.eprKeep n.val) (setCable n.val (inMode .off .sourceCaps) (heard n id (hush s.dev))) := by
  have hnow : (cable (heard n id (hush s.dev)) n.val).epr = .inEpr := by rw [cable_heard]; exact hmode
  unfold eprMode
  rw [pdReceive_new (d := hush s.dev) hears]
  exact if_pos hnow

theorem eprMode_answered (hears : Hears s.dev n.val id) :
    let stands (t : Dev) : Prop := (cable t n.val).booked = (cable s.dev n.val).booked ∧
      (cable t n.val).contract = (cable s.dev n.val).contract ∧ OnlyPort n.val t s.dev ∧ SameSwitch t s.dev ∧ SameAon t s.dev
    ((cable s.dev n.val).epr = .entering →
      (Answers (.eprMode n id .enterSucceeded) s fun t => (cable t n.val).epr = .inEpr ∧
        runsFor (.eprKeep n.val) (375 * ms) t ∧ stands t) ∧
      (Answers (.eprMode n id .enterFailed) s fun t => (cable t n.val).epr = .refused ∧
        (cable t n.val).awaiting = .nothing ∧ stands t)) ∧
    ((cable s.dev n.val).epr = .inEpr →
      Answers (.eprMode n id .exit) s fun t => (cable t n.val).epr = .off ∧ (cable t n.val).awaiting = .sourceCaps ∧
        armed (.eprKeep n.val) t = false ∧ stands t) := by
  refine ⟨fun hmode => ⟨?_, ?_⟩, fun hmode => ?_⟩
  · refine answers_of_effect rfl (eprMode_entry hears hmode).1 ?_
    obtain ⟨hepr, -, hstands⟩ := mode_stands (n := n) (id := id) (d := s.dev) (epr := .inEpr) (await := .sourceCaps) (v := answered n id s.dev)
      (u := arm (.eprKeep n.val) (375 * ms) (setCable n.val (inMode .inEpr .sourceCaps) (answered n id s.dev))) (by simp) (only_answered n id s.dev)
    exact ⟨hepr, runsFor_settle.mpr runsFor_arm_self, hstands⟩
  · refine answers_of_effect rfl (eprMode_entry hears hmode).2 ?_
    exact mode_stands (n := n) (id := id) (d := s.dev) (.refl _ _) (only_answered n id s.dev)
  · refine answers_of_effect rfl (eprMode_exit hears hmode) ?_
    obtain ⟨hepr, hawait, hstands⟩ := mode_stands (n := n) (id := id) (d := s.dev) (epr := .off) (await := .sourceCaps) (v := heard n id (hush s.dev))
      (u := disarm (.eprKeep n.val) (setCable n.val (inMode .off .sourceCaps) (heard n id (hush s.dev)))) (by simp) (.refl _ _)
    refine ⟨hepr, hawait, ?_, hstands⟩
    rw [armed_settle]
    exact armed_disarm_self _ _

/-- A sink that keeps EPR alive. -/
def keepingEpr (n : Nat) (d : Dev) : Dev := setAwait n .eprAck (arm (.eprKeep n) (375 * ms) (expired (.eprKeep n) d))

theorem eprKeepalive_eq (harmed : armed (.eprKeep n.val) s.dev = true) (hmode : (cable s.dev n.val).epr = .inEpr)
    (hidle : negotiating (cable s.dev n.val) = false) :
    eprKeepalive n.val (hush s.dev) = pdSend n.val .eprKeepAlive (keepingEpr n.val s.dev) := by
  unfold eprKeepalive
  rw [onExpiry_hush_of_armed harmed]
  dsimp only
  rw [cable_expired, if_neg fun h => h hmode, hidle]
  rfl

theorem cable_keepingEpr (n : Nat) (d : Dev) : cable (keepingEpr n d) n = { cable d n with awaiting := .eprAck } := by
  rw [keepingEpr, setAwait, cable_setCable_self, cable_arm, cable_expired]

theorem runsFor_keepingEpr (n : Nat) (d : Dev) : runsFor (.eprKeep n) (375 * ms) (keepingEpr n d) :=
  runsFor_setCable.mpr runsFor_arm_self

theorem eprKeepalive_answered (harmed : armed (.eprKeep n.val) s.dev = true) (hmode : (cable s.dev n.val).epr = .inEpr)
    (hidle : negotiating (cable s.dev n.val) = false) :
    Answers (.eprKeepalive n) s fun t => runsFor (.eprKeep n.val) (375 * ms) t ∧ (cable t n.val).awaiting = .eprAck ∧
      (portRuns s.dev n.val = true → (cable s.dev n.val).lastSent = none → Says n .eprKeepAlive t) ∧
      (cable t n.val).booked = (cable s.dev n.val).booked ∧ OnlyPort n.val t s.dev ∧ SameSwitch t s.dev := by
  refine answers_of_effect rfl (eprKeepalive_eq harmed hmode hidle) ?_
  have hcable := cable_keepingEpr n.val s.dev
  have hruns := runsFor_keepingEpr n.val s.dev
  have hreach : Only (exchangeParts n.val) (keepingEpr n.val s.dev) (expired (.eprKeep n.val) s.dev) := by simp [keepingEpr]
  generalize keepingEpr n.val s.dev = u at hcable hruns hreach ⊢
  have hwire := only_pdSend_wire n.val .eprKeepAlive u
  have hsame := unsaid_pdSend n.val .eprKeepAlive u n.val
  rw [hcable] at hsame
  rw [cable_settle]
  exact ⟨runsFor_settle.mpr ((hwire.runsFor _ (by simp [Part.seenIn]) (hwire.now rfl)).mpr hruns), (congrArg Cable.awaiting hsame :),
    fun hport hquiet => says_settle (says_pdSend n _ ((portHeld_congr (hreach.otp rfl) n.val).trans (portHeld_expired hport)) (by rw [hcable]; exact hquiet)),
    (congrArg Cable.booked hsame :), only_of_expiry (((only_pdSend_exchange n.val _ u).trans hreach).mono (by simp))⟩

end

/-- Settles O39. -/
theorem sinkContracts : Obligations.SinkContracts := by
  unfold Obligations.SinkContracts
  refine ⟨fun s n id pdos hears hrole => ⟨sourceCapabilities_answered hears hrole, eprSourceCapabilities_answered hears⟩,
    fun s n id g hears hawait hnego => ⟨accept_answered hears hawait hnego, refusal_answered hears hawait⟩,
    fun s n id g => psRdy_answered, fun s n g => sinkRequestTimer_answered, fun s n => keepalive_answered,
    fun s n id pdos => sinkCapabilities_answered,
    fun s n hruns => ⟨psTransitionTimeout_answered hruns, fun harmed => ⟨senderTimeout_sinkCaps harmed, senderTimeout_request hruns harmed,
      eprAckTimeout_answered hruns harmed⟩⟩,
    fun s n => eprModeEnter_answered, fun s n id => eprMode_answered, fun s n => eprKeepalive_answered⟩

end Sys2Proof.Proofs.SinkTimes


/-! SUPPORT. An exchange of the pod link (chapter 6, R207, R208, R215, R216, R220, R222): the answer that a port heard, the step that it
goes on with, and the profile that the exchange ends in. -/

namespace Sys2Proof.Proofs.PodExchange

open Sys2Proof Sys2Proof.Machine Sys2Proof.Safety
open Sys2Proof.Proofs.StepAndTimers
open Sys2Proof.Proofs.ShapersAndTally
open Sys2Proof.Proofs.Frames
open Sys2Proof.Proofs.Running
open Sys2Proof.Proofs.Shepherd
open Sys2Proof.Proofs.PdMessages
open Sys2Proof.Proofs.PortEvents
open Sys2Proof.Proofs.PdReceiving
open Sys2Proof.Proofs.PodSteps
open Sys2Proof.Proofs.SourceSide
open Sys2Proof.Proofs.SourceContracts
open Sys2Proof.Proofs.SinkRequests
open Sys2Proof.Proofs.SinkContracts (cable_heard_hush)

section
variable {t u d : Dev} {n : CPort} {id : BitVec 3} {m : PdMsg} {c : Instr} {s : State} {f : Dev → Dev} {step : VdmStep} {p : Nat}
  {b : List Byte}

/-! ### An answer is heard -/

/-- A port beside its messages and their MessageIDs. -/
def untold (c : Cable) : Cable := { unsaid c with txId := 0, txIdP := 0, txIdPP := 0 }

theorem untold_of_unsaid {x y : Cable} (h : unsaid x = unsaid y) : untold x = untold y := by
  unfold untold
  rw [h]

theorem untold_counted (c : Cable) : untold (counted c) = untold c := by
  unfold counted
  split
  · rfl
  · rfl
  · rfl

/-- A port whose messages of a step are off its queue. -/
def unqueued (asked : List PdMsg) (c : Cable) : Cable := { c with txQueue := c.txQueue.filter fun m => !asked.contains m }

/-- The device on which they are. -/
def dequeued (n : Nat) (d : Dev) : Dev := disarm (.vdm n) (setCable n (unqueued (vdmMessages d (cable d n).vdm)) d)

theorem vdmAnswered_eq (n : Nat) (d : Dev) : vdmAnswered n d = match (cable (dequeued n d) n).lastSent with
    | some m => if (vdmMessages d (cable d n).vdm).contains m then sendDone n (dequeued n d) else dequeued n d
    | none => dequeued n d := rfl

theorem cable_dequeued (n : Nat) (d : Dev) : cable (dequeued n d) n = unqueued (vdmMessages d (cable d n).vdm) (cable d n) := by
  rw [dequeued, cable_disarm, cable_setCable_self]

theorem untold_vdmAnswered (n : Nat) (d : Dev) : untold (cable (vdmAnswered n d) n) = untold (cable d n) := by
  have hcable := cable_dequeued n d
  rw [vdmAnswered_eq]
  generalize dequeued n d = u at hcable ⊢
  have hsame : untold (cable u n) = untold (cable d n) := by
    rw [hcable]
    rfl
  split
  · split
    · rw [untold_of_unsaid (unsaid_sendDone n u), untold_counted, hsame]
    · exact hsame
  · exact hsame

/-- What the answer to a vendor-defined message reaches. -/
@[simp] def vdmParts (n : Nat) : List Part := .timer (.vdm n) :: wireParts n

theorem only_vdmAnswered (n : Nat) (d : Dev) : Only (vdmParts n) (vdmAnswered n d) d := by
  have hreach : Only (vdmParts n) (dequeued n d) d := by simp [dequeued]
  rw [vdmAnswered_eq]
  generalize dequeued n d = u at hreach ⊢
  split
  · split
    · exact ((only_sendDone_wire n u).mono (by simp)).trans hreach
    · exact hreach
  · exact hreach

theorem vdmAnswered_of_quiet {n : Nat} (h : (cable d n).lastSent = none) : vdmAnswered n d = dequeued n d := by
  have hquiet : (cable (dequeued n d) n).lastSent = none := by
    rw [cable_dequeued]
    exact h
  rw [vdmAnswered_eq, hquiet]

/-- The device of a port that has heard the answer to its step. -/
def told (n : CPort) (id : BitVec 3) (d : Dev) : Dev := vdmAnswered n.val (heard n id (hush d))

theorem untold_told (n : CPort) (id : BitVec 3) (d : Dev) :
    untold (cable (told n id d) n.val) = untold { cable d n.val with rxId := some id } := by
  rw [told, untold_vdmAnswered, cable_heard_hush]

theorem quiet_told (h : (cable d n.val).lastSent = none) : (cable (told n id d) n.val).lastSent = none := by
  have hheard : (cable (heard n id (hush d)) n.val).lastSent = none := by
    rw [cable_heard_hush]
    exact h
  rw [told, vdmAnswered_of_quiet hheard, cable_dequeued]
  exact hheard

theorem only_told (n : CPort) (id : BitVec 3) (d : Dev) : Only (vdmParts n.val) (told n id d) (hush d) :=
  (only_vdmAnswered n.val _).trans ((only_heard n id (hush d)).mono (by simp))

/-- An answer to the step that a port is in acts. -/
theorem vdmReceive_told {a : VdmStep → Bool} (h : HearsVdm s.dev n.val id step) (ha : a step = true) :
    vdmReceive n.val id a f (hush s.dev) = f (told n id s.dev) := by
  obtain ⟨hears, hstep⟩ := h
  have hvdm : (cable (heard n id (hush s.dev)) n.val).vdm = step := by
    rw [cable_heard_hush]
    exact hstep
  unfold vdmReceive
  rw [pdReceive_new (d := hush s.dev) hears, hvdm]
  exact if_pos ha

theorem vdm_told (h : (cable d n.val).vdm = step) : (cable (told n id d) n.val).vdm = step := by
  have hsame := untold_told n id d
  generalize told n id d = u at hsame ⊢
  exact (congrArg Cable.vdm hsame :).trans h

/-! ### What the device knows stands -/

theorem podSvid_congr (h : t.otp = d.otp) : podSvid t = podSvid d := by
  have hwalk : walk t .customer = walk d .customer := FuseBurns.walk_congr ⟨by rw [h], by rw [h]⟩ _
  unfold podSvid recordOf
  rw [hwalk]

theorem preId_congr (h : ∀ obj el, cfg t obj el = cfg d obj el) : preId t = preId d := h _ _

theorem profCeiling_congr (h : ∀ obj el, cfg t obj el = cfg d obj el) (p : Nat) : profCeiling t p = profCeiling d p := by
  simp only [profCeiling, preId, h]

theorem ngShare_congr (h : ∀ obj el, cfg t obj el = cfg d obj el) (p : Nat) : ngShare t p = ngShare d p := by
  simp only [ngShare, h]

theorem matchProfile_congr (h : ∀ obj el, cfg t obj el = cfg d obj el) (b : List Byte) (place : Nat) :
    matchProfile t b place = matchProfile d b place := by
  have hcfg : Machine.cfg t = Machine.cfg d := funext fun _ => funext fun _ => h _ _
  unfold matchProfile
  rw [hcfg]

/-- What the ledger holds of a port stands, and its part in it. -/
theorem ceilingFits_congr {n p : Nat} (hcfg : ∀ obj el, cfg t obj el = cfg d obj el) (hslots : t.slots = d.slots)
    (hother : ∀ m, m ≠ n → cable t m = cable d m) (hrole : (cable t n).powerRole = (cable d n).powerRole)
    (hbooked : (cable t n).booked = (cable d n).booked) (hout : portOut (cable t n) = portOut (cable d n))
    (hin : portIn (cable t n) = portIn (cable d n)) : CeilingFits t n p ↔ CeilingFits d n p := by
  have hports (m : Nat) : portOut (cable t m) = portOut (cable d m) ∧ portIn (cable t m) = portIn (cable d m) := by
    by_cases hm : m = n
    · subst hm
      exact ⟨hout, hin⟩
    · rw [hother m hm]
      exact ⟨rfl, rfl⟩
  obtain ⟨hfree, -, -⟩ := ledgerFree_of_entries hcfg hslots (fun m => (hports m).1) fun m => (hports m).2
  unfold CeilingFits
  rw [profCeiling_congr hcfg, hrole, hbooked, hfree]

/-- A port beside its messages and its identification, whose profile stands. -/
def bare (c : Cable) : Cable :=
  { untold c with rxId := none, pod := .none, podOpen := false, vdm := .idle, vdmTries := 0, modeVdo := 0, identBuf := [], identTries := 0,
                  identity := [], muxRoute := .nothing }

theorem bare_of_untold {x y : Cable} (h : untold x = untold y) : bare x = bare y := by
  unfold bare
  rw [h]

/-- Devices between which an exchange runs: the profiles, the ledger and the other ports stand. -/
structure Along (n : CPort) (u d : Dev) : Prop where
  only : Only (.free :: vdmParts n.val) u (hush d)
  bare : bare (cable u n.val) = bare (cable d n.val)

theorem Along.cfg (h : Along n u d) (obj el : Nat) : Machine.cfg u obj el = Machine.cfg d obj el := (h.only.cfg rfl obj el).trans rfl

theorem Along.svid (h : Along n u d) : podSvid u = podSvid d := podSvid_congr ((h.only.otp rfl).trans rfl)

theorem Along.held (h : Along n u d) : portHeld u n.val = portHeld d n.val := portHeld_congr ((h.only.otp rfl).trans rfl) n.val

theorem Along.fits (h : Along n u d) : CeilingFits u n.val p ↔ CeilingFits d n.val p := by
  refine ceilingFits_congr h.cfg ((h.only.slots rfl).trans rfl) (fun m hm => (h.only.cable m (by simp [Part.seenIn, hm.symm])).trans rfl) ?_ ?_ ?_ ?_
  · exact (congrArg Cable.powerRole h.bare :)
  · exact (congrArg Cable.booked h.bare :)
  · exact (congrArg portOut h.bare :)
  · exact (congrArg portIn h.bare :)

theorem along_told (n : CPort) (id : BitVec 3) (d : Dev) : Along n (told n id d) d :=
  ⟨(only_told n id d).mono (by simp), (bare_of_untold (untold_told n id d)).trans rfl⟩

theorem Along.setCable (h : Along n u d) {f : Cable → Cable} (hf : ∀ c, PodExchange.bare (f c) = PodExchange.bare c) : Along n (setCable n.val f u) d :=
  ⟨(only_setCable _ _ (by simp)).mpr h.only, by rw [cable_setCable_self, hf, h.bare]⟩

theorem Along.mux (h : Along n u d) : Along n (muxUpdate n.val u) d :=
  ⟨(only_muxUpdate _ (by simp)).mpr h.only,
    (show PodExchange.bare (unrouted (cable (muxUpdate n.val u) n.val)) = PodExchange.bare (unrouted (cable u n.val)) by rw [unrouted_muxUpdate]).trans
      h.bare⟩

/-! ### The next step -/

/-- What a step of R208 leaves of a port. -/
structure Steps (n : CPort) (step : VdmStep) (y : Cable) (t d : Dev) : Prop where
  port : unsaid (cable t n.val) = unsaid (stepped step y)
  only : OnlyPort n.val t d
  switch : SameSwitch t d
  aon : SameAon t d

theorem steps_vdmSend (h : Along n u d) : Steps n step (cable u n.val) (settle (vdmSend n.val step u)) d := by
  have hport := unsaid_vdmSend n.val step u
  have hall := only_settled (((only_vdmSend_wire n.val step u).mono (by simp)).trans h.only)
  exact ⟨by rw [cable_settle]; exact hport, onlyPort_of_only hall (fun k hk => by simp [Part.seenIn, hk.symm]) rfl, hall.sameSwitch rfl,
    hall.sameAon rfl⟩

theorem Steps.of_cable {y z : Cable} (h : Steps n step y t d) (hy : y = z) : Steps n step z t d := hy ▸ h

theorem Steps.vdm {y : Cable} (h : Steps n step y t d) : (cable t n.val).vdm = step ∧ (cable t n.val).vdmTries = 0 :=
  ⟨(congrArg Cable.vdm h.port :), (congrArg Cable.vdmTries h.port :)⟩

/-- A step that one message makes up is said at once on a port that waits for nothing. -/
theorem says_vdmSend (hm : vdmMessages u step = [m]) (hheld : portHeld u n.val = false) (hquiet : (cable u n.val).lastSent = none) :
    Says n m (vdmSend n.val step u) := by
  have hreach : Only [.cable n.val, .timer (.vdm n.val)] (disarm (.vdm n.val) (setCable n.val (stepped step) u)) u := by simp
  have hcable : cable (disarm (.vdm n.val) (setCable n.val (stepped step) u)) n.val = stepped step (cable u n.val) := by
    rw [cable_disarm, cable_setCable_self]
  refine says_vdmAgain ((portHeld_congr (hreach.otp rfl) n.val).trans hheld) ?_ ?_
  · exact (congrArg Cable.lastSent hcable).trans hquiet
  · rw [← hm]
    exact (congrArg (vdmMessages _) (congrArg Cable.vdm hcable)).trans (vdmMessages_congr (hreach.cfg rfl) (podSvid_congr (hreach.otp rfl)) _)

/-! ### The profile -/

theorem inForce_of_unoffered {n p : Nat} (hcfg : ∀ obj el, cfg u obj el = cfg d obj el)
    (h : unstepped (cable t n) = unstepped (provisioned u p (cable u n))) : InForce n p t d := by
  refine ⟨(congrArg Cable.profileId h :), (congrArg Cable.profileOn h :), ?_, ?_, ?_⟩
  · rw [← profCeiling_congr hcfg]
    exact (congrArg Cable.ceiling h :)
  · rw [← hcfg]
    exact (congrArg Cable.rank h :)
  · rw [← ngShare_congr hcfg]
    exact (congrArg Cable.ng h :)

theorem inForce_settle {n p : Nat} (h : InForce n p t d) : InForce n p (settle t) d := by
  unfold InForce at h ⊢
  rwa [cable_settle]

theorem inForce_congr {n p : Nat} (hcable : cable t n = cable u n) (h : InForce n p u d) : InForce n p t d := by
  unfold InForce at h ⊢
  rwa [hcable]

/-- What a profile that is tried leaves: it is in force, or the host hears that it is not and nothing else changes. -/
theorem tryProfile_leaves (n : CPort) (p : Nat) (d : Dev) :
    (CeilingFits d n.val p → (tryProfile n.val p d).1 = true ∧ unstepped (cable (tryProfile n.val p d).2 n.val) =
      unstepped (provisioned d p (cable d n.val)) ∧ unoffered (cable (tryProfile n.val p d).2 n.val) = unoffered (provisioned d p (cable d n.val))) ∧
    (¬ CeilingFits d n.val p → (tryProfile n.val p d).1 = false ∧ cable (tryProfile n.val p d).2 n.val = cable d n.val ∧
      (tryProfile n.val p d).2.hw.irqPort.getLsbD (8 + n.val) = true) := by
  constructor
  · intro hfits
    rw [tryProfile_of_fits hfits]
    dsimp only
    exact ⟨rfl, unstepped_of_unoffered (unoffered_provision n.val p d), unoffered_provision n.val p d⟩
  · intro hshort
    rw [tryProfile_of_short hshort]
    dsimp only
    exact ⟨rfl, rfl, irqPort_raiseIrqPort (8 + n.val) (by have := n.isLt; omega) d⟩

/-- What an attempt at a profile reaches once the device has settled. -/
theorem profile_settles (h : Along n u d) (hreach : Only (identParts n.val ++ vdmParts n.val) t u) :
    OnlyPort n.val (settle t) d ∧ SameAon (settle t) d := by
  have hall := only_settled (hreach.trans (h.only.mono (by simp)))
  exact ⟨onlyPort_of_only hall (fun k hk => by simp [Part.seenIn, hk.symm]) rfl, hall.sameAon rfl⟩

theorem fenced_stands (h : Along n u d) (hreach : Only (.free :: .irq :: profileParts n.val ++ vdmParts n.val) t u) :
    (swPort (settle t) n.val).fenced = (swPort d n.val).fenced :=
  ((only_settled (hreach.trans (h.only.mono (by simp)))).fenced n.val rfl)

theorem Along.podless (h : Along n u d) : Along n (podless n.val u) d :=
  (h.setCable (f := fun c => { c with pod := .notAPod, vdm := .idle }) fun _ => rfl).mux

theorem podless_of_unprofiled {x y : Cable} (h : unprofiled x = unprofiled { y with pod := .notAPod, vdm := .idle }) :
    x.pod = .notAPod ∧ x.vdm = .idle ∧ x.podOpen = y.podOpen :=
  ⟨(congrArg Cable.pod h :), (congrArg Cable.vdm h :), (congrArg Cable.podOpen h :)⟩

theorem profileId_podless (n : Nat) (d : Dev) : (cable (podless n d) n).profileId = (cable d n).profileId := by
  have h := unrouted_podless n d
  generalize podless n d = u at h ⊢
  exact (congrArg Cable.profileId h :)

/-- What is left of a port whose partner is no pod. -/
theorem notAPod_settles (h : Along n u d) :
    let t := settle (notAPod n.val u)
    (cable t n.val).pod = .notAPod ∧ (cable t n.val).vdm = .idle ∧ (cable t n.val).podOpen = (cable u n.val).podOpen ∧
      (CeilingFits d n.val 0 → InForce n.val 0 t d ∧ (swPort t n.val).fenced = false ∧ t.hw.irqPort.getLsbD n.val = true) ∧
      (¬ CeilingFits d n.val 0 → (cable t n.val).profileId = (cable u n.val).profileId ∧
        (swPort t n.val).fenced = (swPort d n.val).fenced ∧ t.hw.irqPort.getLsbD (8 + n.val) = true) ∧
      OnlyPort n.val t d ∧ SameAon t d := by
  obtain ⟨hpod, hvdm, hopen⟩ := podless_of_unprofiled (unprofiled_notAPod n.val u)
  have hsettles := profile_settles (t := notAPod n.val u) h (by simp)
  dsimp only
  rw [cable_settle]
  refine ⟨hpod, hvdm, hopen, ?_, ?_, hsettles⟩
  · intro hfits
    obtain ⟨hdone, hforce, -⟩ := (tryProfile_leaves n 0 (podless n.val u)).1 (h.podless.fits.mpr hfits)
    rw [notAPod_eq, if_pos hdone]
    refine ⟨inForce_settle (inForce_congr (cable_liftFence _ _ _) (inForce_of_unoffered h.podless.cfg hforce)), fenced_settle (fenced_liftFence _ _), ?_⟩
    rw [settle_hw_irqPort]
    exact irqPort_liftFence n _
  · intro hshort
    obtain ⟨hdone, hcable, hirq⟩ := (tryProfile_leaves n 0 (podless n.val u)).2 fun hfits => hshort (h.podless.fits.mp hfits)
    rw [notAPod_eq, if_neg (by simp [hdone]), settle_hw_irqPort, hcable]
    exact ⟨profileId_podless n.val u, fenced_stands h.podless (by simp), hirq⟩

/-! ### A pod whose identification fails -/

/-- A port whose identification has failed, before its profile. -/
def failedPod (n : Nat) (d : Dev) : Dev :=
  disarm (.vdm n) (disarm (.linkUp n) (setCable n (fun c => { c with pod := .failed, vdm := .idle }) d))

theorem podFailed_eq (n : Nat) (d : Dev) : podFailed n d =
    if (tryProfile n 0 (failedPod n d)).1 then raiseIrqPort n (tryProfile n 0 (failedPod n d)).2 else (tryProfile n 0 (failedPod n d)).2 := rfl

theorem cable_failedPod (n : Nat) (d : Dev) : cable (failedPod n d) n = { cable d n with pod := .failed, vdm := .idle } := by
  rw [failedPod, cable_disarm, cable_disarm, cable_setCable_self]

theorem unprofiled_podFailed (n : Nat) (d : Dev) :
    unprofiled (cable (podFailed n d) n) = unprofiled { cable d n with pod := .failed, vdm := .idle } := by
  rw [podFailed_eq, ← cable_failedPod, ← unprofiled_tryProfile n 0 (failedPod n d)]
  split
  · rfl
  · rfl

theorem inForce_podFailed (hcfg : ∀ obj el, cfg (failedPod n.val u) obj el = cfg d obj el) (hfits : CeilingFits (failedPod n.val u) n.val 0) :
    InForce n.val 0 (podFailed n.val u) d := by
  obtain ⟨hdone, hforce, -⟩ := (tryProfile_leaves n 0 (failedPod n.val u)).1 hfits
  rw [podFailed_eq, if_pos hdone]
  exact inForce_congr (Shepherd.cable_raiseIrqPort _ _ _) (inForce_of_unoffered hcfg hforce)

end

end Sys2Proof.Proofs.PodExchange


/-! SUPPORT. A pod is discovered, entered and read (chapter 6, R205, R208, R212, R215, R224). -/

namespace Sys2Proof.Proofs.PodDiscovery

open Sys2Proof Sys2Proof.Machine Sys2Proof.Safety
open Sys2Proof.Proofs.StepAndTimers
open Sys2Proof.Proofs.ShapersAndTally
open Sys2Proof.Proofs.Frames
open Sys2Proof.Proofs.Running
open Sys2Proof.Proofs.Shepherd
open Sys2Proof.Proofs.PdMessages
open Sys2Proof.Proofs.PortEvents
open Sys2Proof.Proofs.PdReceiving
open Sys2Proof.Proofs.PodSteps
open Sys2Proof.Proofs.SourceSide
open Sys2Proof.Proofs.SourceContracts
open Sys2Proof.Proofs.SinkRequests
open Sys2Proof.Proofs.PodExchange

section
variable {t u v w d : Dev} {n : CPort} {id : BitVec 3} {m : PdMsg} {c : Instr} {s : State} {f : Dev → Dev} {step : VdmStep}
  {vdos : List Word}

/-! ### Discovery -/

/-- What the next step of discovery leaves. -/
theorem discovery_settles (hears : HearsVdm s.dev n.val id step) {next : VdmStep} (hu : Along n u s.dev)
    (hquiet : (cable s.dev n.val).lastSent = none → (cable u n.val).lastSent = none) (hm : vdmMessages u next = [m]) :
    let t := settle (vdmSend n.val next u)
    (cable t n.val).vdm = next ∧ (cable t n.val).vdmTries = 0 ∧ ((cable s.dev n.val).lastSent = none → Says n m t) ∧
      (cable t n.val).booked = (cable s.dev n.val).booked ∧ OnlyPort n.val t s.dev ∧ SameSwitch t s.dev ∧ SameAon t s.dev := by
  obtain ⟨⟨hlistens, -, -⟩, -⟩ := hears
  have hsteps := steps_vdmSend (step := next) hu
  have hheld : portHeld u n.val = false := hu.held.trans (held_of_listens hlistens)
  obtain ⟨hvdm, htries⟩ := hsteps.vdm
  have hbooked : (cable u n.val).booked = (cable s.dev n.val).booked := (congrArg Cable.booked hu.bare :)
  have hport := hsteps.port
  refine ⟨hvdm, htries, fun hq => says_settle (says_vdmSend hm hheld (hquiet hq)), ?_, hsteps.only, hsteps.switch, hsteps.aon⟩
  generalize cable (settle (vdmSend n.val next u)) n.val = x at hport
  exact (congrArg Cable.booked hport :).trans hbooked

theorem identity_answered (hears : HearsVdm s.dev n.val id .discoverIdentity) :
    Answers (.discoverModes n ⟨id, .identity, .ack vdos⟩) s fun t =>
        (cable t n.val).vdm = .discoverSvids ∧ (cable t n.val).vdmTries = 0 ∧
        ((cable s.dev n.val).lastSent = none → Says n (.vdm (vdmHeader 0xFF00 0 2) []) t) ∧
        (cable t n.val).booked = (cable s.dev n.val).booked ∧ OnlyPort n.val t s.dev ∧ SameSwitch t s.dev ∧ SameAon t s.dev := by
  have heff : discoverModes n.val id .identity (.ack vdos) (hush s.dev) = vdmSend n.val .discoverSvids (told n id s.dev) :=
    vdmReceive_told hears (by decide)
  exact answers_of_effect rfl heff (discovery_settles hears (along_told n id s.dev) quiet_told rfl)

theorem svids_answered (hears : HearsVdm s.dev n.val id .discoverSvids) (hlists : listsSvid (podSvid s.dev) vdos = true) :
    Answers (.discoverModes n ⟨id, .svids, .ack vdos⟩) s fun t =>
        (cable t n.val).vdm = .discoverModes ∧ (cable t n.val).vdmTries = 0 ∧
        ((cable s.dev n.val).lastSent = none → Says n (.vdm (vdmHeader (podSvid s.dev) 0 3) []) t) ∧
        (cable t n.val).booked = (cable s.dev n.val).booked ∧ OnlyPort n.val t s.dev ∧ SameSwitch t s.dev ∧ SameAon t s.dev := by
  have halong := along_told n id s.dev
  have heff : discoverModes n.val id .svids (.ack vdos) (hush s.dev) = vdmSend n.val .discoverModes (told n id s.dev) := by
    refine (vdmReceive_told hears (by decide)).trans (if_pos ?_)
    rw [halong.svid]
    exact hlists
  exact answers_of_effect rfl heff (discovery_settles hears halong quiet_told (by rw [vdmMessages, halong.svid]))

/-- A port that keeps the Mode VDO. -/
def inVdo (v : Word) (c : Cable) : Cable := { c with modeVdo := v }

theorem lastSent_inVdo (v : Word) (c : Cable) : (inVdo v c).lastSent = c.lastSent := rfl

theorem along_inVdo (v : Word) (h : Along n u d) : Along n (setCable n.val (inVdo v) u) d := h.setCable fun _ => rfl

theorem modes_answered {v : Word} {rest : List Word} (hears : HearsVdm s.dev n.val id .discoverModes) :
    Answers (.discoverModes n ⟨id, .modes, .ack (v :: rest)⟩) s fun t =>
        (cable t n.val).modeVdo = v ∧ (cable t n.val).vdm = .enterMode ∧ (cable t n.val).vdmTries = 0 ∧
        ((cable s.dev n.val).lastSent = none → Says n (.vdm (vdmHeader (podSvid s.dev) 1 4) []) t) ∧
        (cable t n.val).booked = (cable s.dev n.val).booked ∧ OnlyPort n.val t s.dev ∧ SameSwitch t s.dev ∧ SameAon t s.dev := by
  have halong : Along n (setCable n.val (inVdo v) (told n id s.dev)) s.dev := along_inVdo v (along_told n id s.dev)
  have hcable := cable_setCable_self n.val (inVdo v) (told n id s.dev)
  have hquiet : (cable s.dev n.val).lastSent = none → (cable (setCable n.val (inVdo v) (told n id s.dev)) n.val).lastSent = none := by
    rw [hcable, lastSent_inVdo]
    exact quiet_told
  have heff : discoverModes n.val id .modes (.ack (v :: rest)) (hush s.dev) =
      vdmSend n.val .enterMode (setCable n.val (inVdo v) (told n id s.dev)) := vdmReceive_told hears (by decide)
  refine answers_of_effect rfl heff ⟨?_, discovery_settles hears halong hquiet (by rw [vdmMessages, halong.svid])⟩
  have hport := (steps_vdmSend (step := .enterMode) halong).port
  rw [hcable] at hport
  generalize cable (told n id s.dev) n.val = y at hport
  generalize cable (settle (vdmSend n.val .enterMode (setCable n.val (inVdo v) (told n id s.dev)))) n.val = x at hport ⊢
  exact (congrArg Cable.modeVdo hport :)

/-! ### Not a pod -/

/-- An answer of discovery that shows no pod. -/
def ShowsNoPod (d : Dev) (what : Discovery) (a : VdmAnswer) : Prop :=
  a = .nak ∨ a = .notSupported ∨ (what = .modes ∧ a = .ack []) ∨
    (∃ vdos, what = .svids ∧ a = .ack vdos ∧ listsSvid (podSvid d) vdos = false)

theorem noPod_eq {what : Discovery} {a : VdmAnswer} (hears : HearsVdm s.dev n.val id (discoveryStep what)) (h : ShowsNoPod s.dev what a) :
    discoverModes n.val id what a (hush s.dev) = notAPod n.val (told n id s.dev) := by
  have hnow {f : Dev → Dev} : vdmReceive n.val id (fun x => x == discoveryStep what) f (hush s.dev) = f (told n id s.dev) :=
    vdmReceive_told hears (beq_self_eq_true _)
  obtain rfl | rfl | ⟨rfl, rfl⟩ | ⟨vdos, rfl, rfl, hlists⟩ := h
  · refine hnow.trans ?_
    cases what <;> rfl
  · refine hnow.trans ?_
    cases what <;> rfl
  · exact hnow
  · refine hnow.trans (if_neg ?_)
    rw [(along_told n id s.dev).svid, hlists]
    decide

/-- What a port has of its partner's identification. -/
def identification (c : Cable) : Bool × Nat × List Byte × Nat × Word := (c.podOpen, c.profileId, c.identBuf, c.identTries, c.modeVdo)

theorem identification_told (n : CPort) (id : BitVec 3) (d : Dev) :
    identification (cable (told n id d) n.val) = identification (cable d n.val) := by
  have h := untold_told n id d
  generalize cable (told n id d) n.val = x at h ⊢
  exact (congrArg identification h :)

theorem told_keeps (n : CPort) (id : BitVec 3) (d : Dev) : (cable (told n id d) n.val).podOpen = (cable d n.val).podOpen ∧
    (cable (told n id d) n.val).profileId = (cable d n.val).profileId ∧ (cable (told n id d) n.val).identBuf = (cable d n.val).identBuf ∧
    (cable (told n id d) n.val).identTries = (cable d n.val).identTries ∧ (cable (told n id d) n.val).modeVdo = (cable d n.val).modeVdo := by
  simpa only [identification, Prod.mk.injEq] using identification_told n id d

/-- What a port has of its lane. -/
def laneOf (c : Cable) : Bool × MuxRoute := (c.laneOn, c.muxRoute)

theorem lane_told (n : CPort) (id : BitVec 3) (d : Dev) : laneOf (cable (told n id d) n.val) = laneOf (cable d n.val) := by
  have h := untold_told n id d
  generalize cable (told n id d) n.val = x at h ⊢
  exact (congrArg laneOf h :)

theorem noPod_answered {what : Discovery} {a : VdmAnswer} (hears : HearsVdm s.dev n.val id (discoveryStep what)) (h : ShowsNoPod s.dev what a) :
    Answers (.discoverModes n ⟨id, what, a⟩) s fun t =>
        (cable t n.val).pod = .notAPod ∧ (cable t n.val).vdm = .idle ∧ (cable t n.val).podOpen = (cable s.dev n.val).podOpen ∧
        (CeilingFits s.dev n.val 0 → InForce n.val 0 t s.dev ∧ (swPort t n.val).fenced = false ∧
          t.hw.irqPort.getLsbD n.val = true) ∧
        (¬ CeilingFits s.dev n.val 0 → (cable t n.val).profileId = (cable s.dev n.val).profileId ∧
          (swPort t n.val).fenced = (swPort s.dev n.val).fenced ∧ t.hw.irqPort.getLsbD (8 + n.val) = true) ∧
        OnlyPort n.val t s.dev ∧ SameAon t s.dev := by
  obtain ⟨hopen, hid, -⟩ := told_keeps n id s.dev
  obtain ⟨hpod, hvdm, hleft, hforce, hshort, hsettles⟩ := notAPod_settles (along_told n id s.dev)
  have heff := noPod_eq hears h
  generalize told n id s.dev = u at hopen hid hpod hvdm hleft hforce hshort hsettles heff
  refine answers_of_effect rfl heff ?_
  generalize settle (notAPod n.val u) = t at hpod hvdm hleft hforce hshort hsettles ⊢
  refine ⟨hpod, hvdm, hleft.trans hopen, hforce, fun h => ?_, hsettles⟩
  obtain ⟨hprofile, hfence, hirq⟩ := hshort h
  exact ⟨hprofile.trans hid, hfence, hirq⟩

/-! ### The mode is entered -/

/-- A port whose pod link is open. -/
def linked (c : Cable) : Cable := { c with podOpen := true }

/-- The device on which its mux follows. -/
def routed (n : CPort) (id : BitVec 3) (d : Dev) : Dev := muxUpdate n.val (setCable n.val linked (told n id d))

/-- The device on which its session is. -/
def entered (n : CPort) (id : BitVec 3) (d : Dev) : Dev :=
  setSession (2 + n.val) (fun _ => { Session.fresh with isOpen := true }) (routed n id d)

theorem muxRoute_muxUpdate {n : Nat} (hwant : muxWanted d n = .lane) (hoff : (cable d n).laneOn = false) (hroute : (cable d n).muxRoute ≠ .usb3) :
    (cable (muxUpdate n d) n).muxRoute = .lane := by
  unfold muxUpdate
  dsimp only
  rw [hwant, hoff]
  by_cases hlane : (cable d n).muxRoute = .lane
  · rw [if_pos (by simp [hlane])]
    exact hlane
  · rw [if_neg (by simp [hlane]), if_neg hroute, cable_setCable_self]

theorem cable_entered (n : CPort) (id : BitVec 3) (d : Dev) : cable (entered n id d) n.val = cable (routed n id d) n.val :=
  (show Only [.sessions] (entered n id d) (routed n id d) by simp [entered]).cable n.val rfl

theorem muxRoute_entered (hdual : isDual n.val = true) (hoff : (cable d n.val).laneOn = false) (hroute : (cable d n.val).muxRoute ≠ .usb3) :
    (cable (entered n id d) n.val).muxRoute = .lane := by
  obtain ⟨hlane, hmux⟩ := Prod.mk.inj (lane_told n id d)
  have hcable := cable_setCable_self n.val linked (told n id d)
  rw [cable_entered, routed]
  generalize cable (told n id d) n.val = y at hlane hmux hcable
  generalize setCable n.val linked (told n id d) = u at hcable ⊢
  refine muxRoute_muxUpdate ?_ ?_ ?_
  · unfold muxWanted
    dsimp only
    rw [hcable, hdual]
    rfl
  · rw [hcable]
    exact hlane.trans hoff
  · rw [hcable]
    exact fun h => hroute (hmux.symm.trans h)

theorem podOpen_entered (n : CPort) (id : BitVec 3) (d : Dev) : (cable (entered n id d) n.val).podOpen = true := by
  have h := unrouted_muxUpdate n.val (setCable n.val linked (told n id d))
  rw [cable_setCable_self] at h
  rw [cable_entered, routed]
  generalize cable (told n id d) n.val = y at h
  generalize muxUpdate n.val (setCable n.val linked (told n id d)) = w at h ⊢
  exact (congrArg Cable.podOpen h :)

theorem only_entered (n : CPort) (id : BitVec 3) (d : Dev) : Only (.sessions :: .free :: vdmParts n.val) (entered n id d) (hush d) := by
  rw [entered, routed, only_setSession _ _ (by simp), only_muxUpdate _ (by simp), only_setCable _ _ (by simp)]
  exact (only_told n id d).mono (by simp)

theorem session_entered (n : CPort) (id : BitVec 3) (d : Dev) :
    sessionOf (entered n id d) (2 + n.val) = { Session.fresh with isOpen := true } := HostWindow.sessionOf_setSession_self _ _ _

theorem enterMode_acked (hears : HearsVdm s.dev n.val id .enterMode) :
    Answers (.enterMode n ⟨id, .ack vdos⟩) s fun t =>
        (cable t n.val).podOpen = true ∧ (cable t n.val).pod = .reading ∧ (cable t n.val).vdm = .identity 0 ∧
        (cable t n.val).identBuf = [] ∧
        (isDual n.val = true → (cable s.dev n.val).laneOn = false → (cable s.dev n.val).muxRoute ≠ .usb3 →
          (cable t n.val).muxRoute = .lane) ∧
        (sessionOf t (2 + n.val)).isOpen = true ∧ (sessionOf t (2 + n.val)).highest = 0 ∧ OnlyPort n.val t s.dev ∧
        SameSwitch t s.dev ∧ SameAon t s.dev := by
  have heff : enterMode n.val id (.ack vdos) (hush s.dev) = startRead n.val (entered n id s.dev) := vdmReceive_told hears (by decide)
  refine answers_of_effect rfl heff ?_
  have hroute := muxRoute_entered (n := n) (id := id) (d := s.dev)
  have hopen := podOpen_entered n id s.dev
  have hreach := only_entered n id s.dev
  have hsession := session_entered n id s.dev
  generalize entered n id s.dev = u at hroute hopen hreach hsession
  have hport := unsaid_startRead n.val u
  have hread : Only (vdmParts n.val) (startRead n.val u) u := by
    unfold startRead
    exact (only_vdmSend_wire n.val _ _).trans (by simp)
  have hall := only_settled (d := s.dev) ((hread.mono (by simp)).trans hreach)
  have hkept : sessionOf (startRead n.val u) (2 + n.val) = { Session.fresh with isOpen := true } := by
    rw [← hsession]
    exact congrArg (fun l => tget Session.fresh l (2 + n.val)) (hread.sessions rfl)
  rw [cable_settle, HostWindow.sessionOf_settle, hkept]
  generalize cable (startRead n.val u) n.val = x at hport
  exact ⟨(congrArg Cable.podOpen hport :).trans hopen, (congrArg Cable.pod hport :), (congrArg Cable.vdm hport :), (congrArg Cable.identBuf hport :),
    fun hdual hoff hmux => (congrArg Cable.muxRoute hport :).trans (hroute hdual hoff hmux), rfl, rfl,
    onlyPort_of_only hall (fun k hk => by simp [Part.seenIn, hk.symm]) rfl, hall.sameSwitch rfl, hall.sameAon rfl⟩

/-! ### Identification fails -/

theorem along_failedPod (h : Along n u d) (hvdm : Only (.timer (.linkUp n.val) :: vdmParts n.val) (failedPod n.val u) u) :
    (∀ obj el, cfg (failedPod n.val u) obj el = cfg d obj el) ∧ (CeilingFits (failedPod n.val u) n.val 0 ↔ CeilingFits d n.val 0) := by
  have hback : Only (.free :: .timer (.linkUp n.val) :: vdmParts n.val) (failedPod n.val u) (hush d) := (hvdm.mono (by simp)).trans (h.only.mono (by simp))
  have hcable := cable_failedPod n.val u
  have hbare : PodExchange.bare (cable (failedPod n.val u) n.val) = PodExchange.bare (cable d n.val) := by
    rw [hcable, ← h.bare]
    rfl
  have hcfg : ∀ obj el, cfg (failedPod n.val u) obj el = cfg d obj el := fun obj el => (hback.cfg rfl obj el).trans rfl
  generalize failedPod n.val u = w at hback hbare hcfg
  refine ⟨hcfg, ceilingFits_congr hcfg ((hback.slots rfl).trans rfl) (fun m hm => (hback.cable m (by simp [Part.seenIn, hm.symm])).trans rfl) ?_ ?_ ?_ ?_⟩
  · exact (congrArg Cable.powerRole hbare :)
  · exact (congrArg Cable.booked hbare :)
  · exact (congrArg portOut hbare :)
  · exact (congrArg portIn hbare :)

theorem failed_of_unprofiled {x y : Cable} (h : unprofiled x = unprofiled { y with pod := .failed, vdm := .idle }) :
    x.pod = .failed ∧ x.vdm = .idle ∧ x.podOpen = y.podOpen :=
  ⟨(congrArg Cable.pod h :), (congrArg Cable.vdm h :), (congrArg Cable.podOpen h :)⟩

theorem enterMode_refused {a : VdmAnswer} (hears : HearsVdm s.dev n.val id .enterMode) (ha : a = .nak ∨ a = .notSupported) :
    Answers (.enterMode n ⟨id, a⟩) s fun t =>
        (cable t n.val).pod = .failed ∧ (cable t n.val).vdm = .idle ∧ (cable t n.val).podOpen = (cable s.dev n.val).podOpen ∧
        (swPort t n.val).fenced = (swPort s.dev n.val).fenced ∧ (CeilingFits s.dev n.val 0 → InForce n.val 0 t s.dev) ∧
        OnlyPort n.val t s.dev ∧ SameAon t s.dev := by
  have heff : enterMode n.val id a (hush s.dev) = podFailed n.val (told n id s.dev) := by
    obtain rfl | rfl := ha
    · exact vdmReceive_told hears (by decide)
    · exact vdmReceive_told hears (by decide)
  refine answers_of_effect rfl heff ?_
  obtain ⟨hpod, hvdm, hopen⟩ := failed_of_unprofiled (unprofiled_podFailed n.val (told n id s.dev))
  obtain ⟨hkept, -⟩ := told_keeps n id s.dev
  have halong := along_told n id s.dev
  obtain ⟨hcfg, hfits⟩ := along_failedPod halong (by simp [failedPod])
  have hforce := fun h => inForce_podFailed (n := n) (u := told n id s.dev) hcfg (hfits.mpr h)
  have hfence := fenced_stands (t := podFailed n.val (told n id s.dev)) halong (by simp)
  have hsettles := profile_settles (t := podFailed n.val (told n id s.dev)) halong (by simp)
  rw [cable_settle]
  exact ⟨hpod, hvdm, hopen.trans hkept, hfence, fun h => inForce_settle (hforce h), hsettles⟩

end

end Sys2Proof.Proofs.PodDiscovery


/-! SUPPORT. A pod's identity block is read, checked and matched (chapter 6, R208, R212, R215, R224). -/

namespace Sys2Proof.Proofs.PodReading

open Sys2Proof Sys2Proof.Machine Sys2Proof.Safety
open Sys2Proof.Proofs.StepAndTimers
open Sys2Proof.Proofs.ShapersAndTally
open Sys2Proof.Proofs.Frames
open Sys2Proof.Proofs.Running
open Sys2Proof.Proofs.Shepherd
open Sys2Proof.Proofs.PdMessages
open Sys2Proof.Proofs.PortEvents
open Sys2Proof.Proofs.PdReceiving
open Sys2Proof.Proofs.PodSteps
open Sys2Proof.Proofs.SourceSide
open Sys2Proof.Proofs.SourceContracts
open Sys2Proof.Proofs.SinkRequests
open Sys2Proof.Proofs.PodExchange
open Sys2Proof.Proofs.PodDiscovery

section
variable {t u v w d : Dev} {n : CPort} {id : BitVec 3} {c : Instr} {s : State} {step : VdmStep} {p off : Nat} {b : List Byte}
  {vdos : List Word}

/-! ### A block is matched -/

/-- The rate of a link: the lower of a profile's and the fastest of the Mode VDO. -/
def linkRateOf (c : Cable) : Nat := min c.profRate (if c.modeVdo.getLsbD 25 then 2 else 1)

theorem unsaid_startLink (n : Nat) (d : Dev) :
    unsaid (cable (startLink n d) n) = unsaid (stepped (.linkRate (linkRateOf (cable d n))) (cable d n)) := unsaid_vdmSend n _ d

/-- A port without a step of its pod link. -/
def idled (c : Cable) : Cable := { c with vdm := .idle }

theorem identified_eq (n : Nat) (b : List Byte) (d : Dev) : identified n b d =
    if (tryProfile n (matchProfile d b n) d).1 then startLink n (tryProfile n (matchProfile d b n) d).2
    else setCable n idled (tryProfile n (matchProfile d b n) d).2 := rfl

theorem identified_of_fits (h : CeilingFits d n.val (matchProfile d b n.val)) :
    identified n.val b d = startLink n.val (provision n.val (matchProfile d b n.val) d) := by
  obtain ⟨hdone, hthen⟩ := Prod.ext_iff.mp (tryProfile_of_fits h)
  rw [identified_eq, if_pos hdone, hthen]

theorem identified_of_short (h : ¬ CeilingFits d n.val (matchProfile d b n.val)) :
    identified n.val b d = setCable n.val idled (raiseIrqPort (8 + n.val) d) := by
  obtain ⟨hdone, hthen⟩ := Prod.ext_iff.mp (tryProfile_of_short h)
  rw [identified_eq, if_neg (by rw [hdone]; exact Bool.false_ne_true), hthen]

/-- What a port keeps while its block is matched. -/
theorem kept_of_unoffered {x y : Cable} (h : unoffered x = unoffered (provisioned d p y)) : x.identity = y.identity ∧ x.pod = y.pod ∧
    linkRateOf x = min (if p = 0 then 1 else cfg d (0x2400 + p) 14) (if y.modeVdo.getLsbD 25 then 2 else 1) :=
  ⟨(congrArg Cable.identity h :), (congrArg Cable.pod h :), (congrArg linkRateOf h :)⟩

theorem kept_of_unsaid {x y : Cable} (h : unsaid x = unsaid (stepped step y)) : x.identity = y.identity ∧ x.pod = y.pod ∧ x.vdm = step :=
  ⟨(congrArg Cable.identity h :), (congrArg Cable.pod h :), (congrArg Cable.vdm h :)⟩

/-- A port whose block matches a profile that is admitted goes on to its link. -/
theorem identified_fits (h : Along n w d) (hp : matchProfile w b n.val = p) (hfits : CeilingFits d n.val p) :
    let t := identified n.val b w
    (cable t n.val).identity = (cable w n.val).identity ∧ (cable t n.val).pod = (cable w n.val).pod ∧ InForce n.val p t d ∧
      (cable t n.val).vdm = .linkRate (min (if p = 0 then 1 else cfg d (0x2400 + p) 14)
        (if (cable w n.val).modeVdo.getLsbD 25 then 2 else 1)) := by
  dsimp only
  subst hp
  rw [identified_of_fits (h.fits.mpr hfits), ← h.cfg]
  have hoffer := unoffered_provision n.val (matchProfile w b n.val) w
  have hcfg := h.cfg
  generalize matchProfile w b n.val = p at hoffer ⊢
  generalize provision n.val p w = v at hoffer ⊢
  have hlink := unsaid_startLink n.val v
  obtain ⟨hid, hpod, hrate⟩ := kept_of_unoffered hoffer
  obtain ⟨hid', hpod', hvdm⟩ := kept_of_unsaid hlink
  refine ⟨hid'.trans hid, hpod'.trans hpod, inForce_of_unoffered hcfg ?_, ?_⟩
  · rw [← unstepped_of_unoffered hoffer]
    exact (unstepped_of_unoffered (unoffered_of_unsaid hlink)).trans rfl
  · rw [hvdm, hrate]

/-- A port whose block matches a profile that is not admitted keeps what it had, and the host hears it. -/
theorem identified_short (h : Along n w d) (hp : matchProfile w b n.val = p) (hshort : ¬ CeilingFits d n.val p) :
    let t := identified n.val b w
    (cable t n.val).identity = (cable w n.val).identity ∧ (cable t n.val).pod = (cable w n.val).pod ∧
      (cable t n.val).profileId = (cable w n.val).profileId ∧ (cable t n.val).vdm = .idle ∧ t.hw.irqPort.getLsbD (8 + n.val) = true := by
  dsimp only
  subst hp
  rw [identified_of_short fun hfits => hshort (h.fits.mp hfits), cable_setCable_self, cable_raiseIrqPort]
  exact ⟨rfl, rfl, rfl, rfl, irqPort_raiseIrqPort (8 + n.val) (by have := n.isLt; omega) w⟩

theorem identified_keeps (h : Along n w d) (hp : matchProfile w b n.val = p) :
    (cable (identified n.val b w) n.val).identity = (cable w n.val).identity ∧ (cable (identified n.val b w) n.val).pod = (cable w n.val).pod := by
  by_cases hfits : CeilingFits d n.val p
  · obtain ⟨hid, hpod, -⟩ := identified_fits h hp hfits
    exact ⟨hid, hpod⟩
  · obtain ⟨hid, hpod, -⟩ := identified_short h hp hfits
    exact ⟨hid, hpod⟩

/-! ### A chunk arrives -/

/-- A chunk of the block at `off`. -/
def chunkOf (len : Nat) (vdos : List Word) : List Byte := ((vdos.flatMap fun (w : Word) => leBytes 4 w.toNat) ++ List.replicate len 0).take len

/-- A port that has a chunk more. -/
def holding (b : List Byte) (c : Cable) : Cable := { c with identBuf := b }

theorem identityRead_told (hears : HearsVdm s.dev n.val id (.identity off)) :
    identityRead n.val id (.ack vdos) (hush s.dev) = identChunk n.val off vdos (told n id s.dev) := by
  refine (vdmReceive_told hears rfl).trans ?_
  rw [vdm_told hears.2]
  rfl

theorem identChunk_of_more (h : off < 240) (hbuf : (cable d n.val).identBuf = b) :
    identChunk n.val off vdos d = vdmSend n.val (.identity (off + 24)) (setCable n.val (holding (b ++ chunkOf 24 vdos)) d) := by
  subst hbuf
  unfold identChunk
  dsimp only
  rw [if_neg (show ¬ off = 240 by omega), if_pos h]
  rfl

/-- A port whose block is whole. -/
def blockRead (b : List Byte) (c : Cable) : Cable := { c with identity := b, identBuf := [] }

theorem identChunk_of_valid (hbuf : (cable d n.val).identBuf ++ chunkOf 16 vdos = b) (h : identValid b = true) :
    identChunk n.val 240 vdos d = identified n.val b (setCable n.val (blockRead b) (setCable n.val (holding b) d)) := by
  subst hbuf
  exact if_pos h

theorem identChunk_of_invalid (hbuf : (cable d n.val).identBuf ++ chunkOf 16 vdos = b) (h : identValid b = false) :
    identChunk n.val 240 vdos d = badBlock n.val (setCable n.val (holding b) d) := by
  subst hbuf
  exact if_neg (by rw [← Bool.not_eq_true] at h; exact h)

theorem identTries_holding (b : List Byte) (c : Cable) : (holding b c).identTries = c.identTries := rfl

theorem along_holding (b : List Byte) (h : Along n u d) : Along n (setCable n.val (holding b) u) d := h.setCable fun _ => rfl

theorem along_blockRead (b : List Byte) (h : Along n u d) : Along n (setCable n.val (blockRead b) u) d := h.setCable fun _ => rfl

theorem chunk_read (hears : HearsVdm s.dev n.val id (.identity off)) (hoff : off < 240) :
    Answers (.identityRead n ⟨id, .ack vdos⟩) s fun t =>
        (cable t n.val).vdm = .identity (off + 24) ∧
        (cable t n.val).identBuf = (cable s.dev n.val).identBuf ++
          ((vdos.flatMap fun (w : Word) => leBytes 4 w.toNat) ++ List.replicate 24 0).take 24 ∧
        OnlyPort n.val t s.dev ∧ SameSwitch t s.dev ∧ SameAon t s.dev := by
  obtain ⟨-, -, hbuf, -⟩ := told_keeps n id s.dev
  have hsteps := steps_vdmSend (step := .identity (off + 24)) (along_holding ((cable s.dev n.val).identBuf ++ chunkOf 24 vdos) (along_told n id s.dev))
  refine answers_of_effect rfl ((identityRead_told hears).trans (identChunk_of_more hoff hbuf)) ?_
  generalize told n id s.dev = u at hsteps ⊢
  rw [cable_setCable_self] at hsteps
  have hport := hsteps.port
  refine ⟨hsteps.vdm.1, ?_, hsteps.only, hsteps.switch, hsteps.aon⟩
  generalize settle (vdmSend n.val (.identity (off + 24)) (setCable n.val (holding ((cable s.dev n.val).identBuf ++ chunkOf 24 vdos)) u)) = t at hport
  exact (congrArg Cable.identBuf hport :)

/-! ### The whole block -/

theorem block_matched (hears : HearsVdm s.dev n.val id (.identity 240)) (hbuf : (cable s.dev n.val).identBuf ++ chunkOf 16 vdos = b)
    (hp : matchProfile s.dev b n.val = p) (hvalid : identValid b = true) :
    Answers (.identityRead n ⟨id, .ack vdos⟩) s fun t =>
          (cable t n.val).identity = b ∧
          (CeilingFits s.dev n.val p → InForce n.val p t s.dev ∧
            (cable t n.val).vdm = .linkRate (min (if p = 0 then 1 else cfg s.dev (0x2400 + p) 14)
              (if (cable s.dev n.val).modeVdo.getLsbD 25 then 2 else 1))) ∧
          (¬ CeilingFits s.dev n.val p → (cable t n.val).profileId = (cable s.dev n.val).profileId ∧
            (cable t n.val).vdm = .idle ∧ t.hw.irqPort.getLsbD (8 + n.val) = true) ∧
          (swPort t n.val).fenced = (swPort s.dev n.val).fenced ∧ OnlyPort n.val t s.dev ∧ SameAon t s.dev := by
  obtain ⟨-, hprofile, hold, -, hmode⟩ := told_keeps n id s.dev
  have halong := along_blockRead b (along_holding b (along_told n id s.dev))
  have heff := (identityRead_told (vdos := vdos) hears).trans (identChunk_of_valid (by rw [hold]; exact hbuf) hvalid)
  have hcable : cable (setCable n.val (blockRead b) (setCable n.val (holding b) (told n id s.dev))) n.val =
      blockRead b (holding b (cable (told n id s.dev) n.val)) := by rw [cable_setCable_self, cable_setCable_self]
  generalize cable (told n id s.dev) n.val = y at hprofile hmode hcable
  generalize setCable n.val (blockRead b) (setCable n.val (holding b) (told n id s.dev)) = w at halong heff hcable
  have hmatch : matchProfile w b n.val = p := (matchProfile_congr halong.cfg b n.val).trans hp
  have hfits := identified_fits halong hmatch
  have hshort := identified_short halong hmatch
  obtain ⟨hid, -⟩ := identified_keeps halong hmatch
  have hfence := fenced_stands (t := identified n.val b w) halong (by simp)
  obtain ⟨hport, haon⟩ := profile_settles (t := identified n.val b w) halong (by simp)
  rw [hcable] at hfits hshort hid
  refine answers_of_effect rfl heff ?_
  generalize identified n.val b w = t at hfits hshort hid hfence hport haon ⊢
  rw [cable_settle]
  refine ⟨hid, fun h => ?_, fun h => ?_, hfence, hport, haon⟩
  · obtain ⟨-, -, hforce, hvdm⟩ := hfits h
    exact ⟨inForce_settle hforce, by rw [hvdm, ← hmode]; rfl⟩
  · obtain ⟨-, -, hkept, hvdm, hirq⟩ := hshort h
    rw [settle_hw_irqPort]
    exact ⟨hkept.trans hprofile, hvdm, hirq⟩

/-- A port that reads its block once more. -/
def rereading (c : Cable) : Cable := { c with identTries := 1 }

/-- A port whose block is invalid once more. -/
def badlyRead (c : Cable) : Cable := { c with pod := .identBad, identBuf := [] }

theorem badBlock_of_first (h : (cable d n.val).identTries = 0) : badBlock n.val d = startRead n.val (setCable n.val rereading d) := if_pos h

theorem badBlock_of_second (h : (cable d n.val).identTries ≠ 0) : badBlock n.val d = identified n.val [] (setCable n.val badlyRead d) := if_neg h

theorem block_reread (hears : HearsVdm s.dev n.val id (.identity 240)) (hbuf : (cable s.dev n.val).identBuf ++ chunkOf 16 vdos = b)
    (hbad : identValid b = false) (htries : (cable s.dev n.val).identTries = 0) :
    Answers (.identityRead n ⟨id, .ack vdos⟩) s fun t =>
          (cable t n.val).pod = .reading ∧ (cable t n.val).vdm = .identity 0 ∧ (cable t n.val).identTries = 1 ∧
          (cable t n.val).identBuf = [] ∧ OnlyPort n.val t s.dev ∧ SameSwitch t s.dev ∧ SameAon t s.dev := by
  obtain ⟨-, -, hold, htold, -⟩ := told_keeps n id s.dev
  have halong := along_holding b (along_told n id s.dev)
  have heff := (identityRead_told (vdos := vdos) hears).trans (identChunk_of_invalid (by rw [hold]; exact hbuf) hbad)
  have hzero : (cable (setCable n.val (holding b) (told n id s.dev)) n.val).identTries = 0 := by
    rw [cable_setCable_self, identTries_holding, htold, htries]
  generalize setCable n.val (holding b) (told n id s.dev) = w at halong heff hzero
  rw [badBlock_of_first hzero] at heff
  have hagain : Along n (setCable n.val rereading w) s.dev := halong.setCable fun _ => rfl
  have hcable := cable_setCable_self n.val rereading w
  generalize setCable n.val rereading w = v at heff hagain hcable
  have hport := unsaid_startRead n.val v
  have hread : Only (vdmParts n.val) (startRead n.val v) v := by
    unfold startRead
    exact (only_vdmSend_wire n.val _ _).trans (by simp)
  have hall := only_settled ((hread.mono (by simp)).trans hagain.only)
  rw [hcable] at hport
  refine answers_of_effect rfl heff ?_
  rw [cable_settle]
  generalize cable (startRead n.val v) n.val = x at hport
  exact ⟨(congrArg Cable.pod hport :), (congrArg Cable.vdm hport :), (congrArg Cable.identTries hport :), (congrArg Cable.identBuf hport :),
    onlyPort_of_only hall (fun k hk => by simp [Part.seenIn, hk.symm]) rfl, hall.sameSwitch rfl, hall.sameAon rfl⟩

theorem matchProfile_nil (d : Dev) (place : Nat) : matchProfile d [] place = 0 := if_pos (by decide)

theorem block_bad (hears : HearsVdm s.dev n.val id (.identity 240)) (hbuf : (cable s.dev n.val).identBuf ++ chunkOf 16 vdos = b)
    (hbad : identValid b = false) (htries : (cable s.dev n.val).identTries ≠ 0) :
    Answers (.identityRead n ⟨id, .ack vdos⟩) s fun t =>
          (cable t n.val).pod = .identBad ∧
          (CeilingFits s.dev n.val 0 → InForce n.val 0 t s.dev ∧ (cable t n.val).vdm = .linkRate 1) ∧
          (swPort t n.val).fenced = (swPort s.dev n.val).fenced ∧ OnlyPort n.val t s.dev ∧ SameAon t s.dev := by
  obtain ⟨-, -, hold, htold, -⟩ := told_keeps n id s.dev
  have halong := along_holding b (along_told n id s.dev)
  have heff := (identityRead_told (vdos := vdos) hears).trans (identChunk_of_invalid (by rw [hold]; exact hbuf) hbad)
  have hnot : (cable (setCable n.val (holding b) (told n id s.dev)) n.val).identTries ≠ 0 := by
    rwa [cable_setCable_self, identTries_holding, htold]
  generalize setCable n.val (holding b) (told n id s.dev) = w at halong heff hnot
  rw [badBlock_of_second hnot] at heff
  have hbadly : Along n (setCable n.val badlyRead w) s.dev := halong.setCable fun _ => rfl
  have hcable := cable_setCable_self n.val badlyRead w
  generalize setCable n.val badlyRead w = v at heff hbadly hcable
  have hfits := identified_fits hbadly (matchProfile_nil v n.val)
  obtain ⟨-, hpod⟩ := identified_keeps hbadly (matchProfile_nil v n.val)
  have hfence := fenced_stands (t := identified n.val [] v) hbadly (by simp)
  obtain ⟨hport, haon⟩ := profile_settles (t := identified n.val [] v) hbadly (by simp)
  rw [hcable] at hpod
  refine answers_of_effect rfl heff ?_
  generalize identified n.val [] v = t at hfits hpod hfence hport haon ⊢
  rw [cable_settle]
  refine ⟨hpod, fun h => ?_, hfence, hport, haon⟩
  obtain ⟨-, -, hforce, hvdm⟩ := hfits h
  refine ⟨inForce_settle hforce, hvdm.trans ?_⟩
  rw [if_pos rfl]
  split
  · rfl
  · rfl

end

end Sys2Proof.Proofs.PodReading


/-! SUPPORT. A pod link comes up, is missed and is left (chapter 6, R208, R210, R211, R220). -/

namespace Sys2Proof.Proofs.PodLink

open Sys2Proof Sys2Proof.Machine Sys2Proof.Safety
open Sys2Proof.Proofs.StepAndTimers
open Sys2Proof.Proofs.ShapersAndTally
open Sys2Proof.Proofs.Frames
open Sys2Proof.Proofs.Running
open Sys2Proof.Proofs.Shepherd
open Sys2Proof.Proofs.PdMessages
open Sys2Proof.Proofs.PortEvents
open Sys2Proof.Proofs.PdReceiving
open Sys2Proof.Proofs.PodSteps
open Sys2Proof.Proofs.SourceSide
open Sys2Proof.Proofs.SourceContracts
open Sys2Proof.Proofs.SinkRequests
open Sys2Proof.Proofs.PodExchange
open Sys2Proof.Proofs.PodDiscovery
open Sys2Proof.Proofs.SourceTimes
open Sys2Proof.Proofs.Detach
open Sys2Proof.Proofs.HardReset (podClosed closeParts only_podClose_close)

section
variable {S : List Part} {t u v d : Dev} {n : CPort} {id : BitVec 3} {m : PdMsg} {c : Instr} {s : State} {f : Dev → Dev} {r : Nat}
  {vdos : List Word} {y : Cable}

theorem setCable_congr {f g : Cable → Cable} (h : f (cable d n.val) = g (cable d n.val)) : setCable n.val f d = setCable n.val g d := by
  unfold setCable
  rw [h]

/-! ### The mode is left -/

/-- The device of a port whose pod link is closed, fenced. -/
def closedPod (n : Nat) (d : Dev) : Dev := muxUpdate n (setFence n true (podClose n d))

theorem exitPod_of_open {n : Nat} (h : (cable d n).podOpen = true) : exitPod n d = vdmSend n .exitMode (closedPod n d) :=
  if_neg (by rw [h]; decide)

theorem unrouted_closedPod (n : Nat) (d : Dev) : unrouted (cable (closedPod n d) n) = unrouted (podClosed (cable d n)) := by
  rw [closedPod, unrouted_muxUpdate, cable_setFence, cable_podClose]
  rfl

/-- What the end of a pod link may reach. -/
@[simp] def exitParts (n : Nat) : List Part := .free :: closeParts n ++ vdmParts n

theorem only_closedPod (n : Nat) (d : Dev) : Only (exitParts n) (closedPod n d) d := by
  rw [closedPod, only_muxUpdate _ (by simp)]
  exact (only_setFence n true (by simp)).mpr ((only_podClose_close n d).mono (by simp))

theorem fenced_closedPod (n : Nat) (d : Dev) : (swPort (closedPod n d) n).fenced = true :=
  ((show Only [.cable n, .free] (closedPod n d) (setFence n true (podClose n d)) by simp [closedPod]).fenced n rfl).trans (fenced_setFence n true _)

theorem only_exitPod_wire (n : Nat) (d : Dev) : Only (exitParts n) (exitPod n d) d := by
  unfold exitPod
  split
  · exact .refl _ d
  · exact ((only_vdmSend_wire n .exitMode _).mono (by simp)).trans (only_closedPod n d)

/-- A port beside its messages and its mux. -/
def unplaced (c : Cable) : Cable := { unsaid c with muxRoute := .nothing }

theorem unplaced_of_unrouted {x y : Cable} (h : unrouted x = unrouted y) : unplaced x = unplaced y :=
  show unplaced (unrouted x) = unplaced (unrouted y) by rw [h]

theorem unplaced_exitPod {n : Nat} (h : (cable d n).podOpen = true) :
    unplaced (cable (exitPod n d) n) = unplaced (stepped .exitMode (podClosed (cable d n))) := by
  have hclosed := unrouted_closedPod n d
  rw [exitPod_of_open h]
  generalize closedPod n d = u at hclosed
  have hsent := unsaid_vdmSend n .exitMode u
  generalize cable (vdmSend n .exitMode u) n = x at hsent
  generalize cable u n = z at hclosed hsent
  exact (congrArg (fun c => { c with muxRoute := .nothing }) hsent).trans
    (congrArg (fun c => unsaid (stepped .exitMode c)) hclosed)

theorem fenced_exitPod {n : Nat} (h : (cable d n).podOpen = true) : (swPort (exitPod n d) n).fenced = true := by
  rw [exitPod_of_open h, (only_vdmSend_wire n .exitMode _).fenced n rfl]
  exact fenced_closedPod n d

/-- What a pod whose mode is left keeps. -/
theorem left_of_unplaced {x : Cable} (h : unplaced x = unplaced (stepped .exitMode (podClosed y))) :
    x.pod = y.pod ∧ x.podOpen = false ∧ x.laneOn = false ∧ x.vdm = .exitMode ∧ x.booked = y.booked ∧ x.contract = y.contract :=
  ⟨(congrArg Cable.pod h :), (congrArg Cable.podOpen h :), (congrArg Cable.laneOn h :), (congrArg Cable.vdm h :), (congrArg Cable.booked h :),
    (congrArg Cable.contract h :)⟩

/-! ### The link is missed -/

/-- A port whose lane has stopped. -/
def laneStopped (c : Cable) : Cable := { c with laneOn := false, laneRate := 0 }

/-- A port whose link has failed. -/
def linkFailed (c : Cable) : Cable := { c with pod := .linkFail }

theorem failed_of_unplaced {x : Cable} (h : unplaced x = unplaced (stepped .exitMode (podClosed (linkFailed (laneStopped y))))) :
    x.pod = .linkFail ∧ x.podOpen = false ∧ x.laneOn = false ∧ x.vdm = .exitMode ∧ x.booked = y.booked ∧ x.contract = y.contract :=
  left_of_unplaced h

theorem linkMissed_of_fast {n : Nat} (h : (cable d n).laneRate = 2) :
    linkMissed n d = vdmSend n (.linkRate 1) (setCable n laneStopped d) := if_pos h

theorem linkMissed_of_slow {n : Nat} (h : (cable d n).laneRate ≠ 2) :
    linkMissed n d = exitPod n (setCable n linkFailed (setCable n laneStopped d)) := if_neg h

theorem only_linkMissed (n : Nat) (d : Dev) : Only (exitParts n) (linkMissed n d) d := by
  by_cases h : (cable d n).laneRate = 2
  · rw [linkMissed_of_fast h]
    exact ((only_vdmSend_wire n _ _).mono (by simp)).trans (by simp)
  · rw [linkMissed_of_slow h]
    exact (only_exitPod_wire n _).trans (by simp)

/-- At rate 2 the link is tried again at rate 1. -/
theorem missed_fast (h : (cable d n.val).laneRate = 2) :
    unsaid (cable (linkMissed n.val d) n.val) = unsaid (stepped (.linkRate 1) (laneStopped (cable d n.val))) := by
  rw [linkMissed_of_fast h, unsaid_vdmSend, cable_setCable_self]

/-- At rate 1 the pod's mode is left. -/
theorem missed_slow (h : (cable d n.val).laneRate ≠ 2) (hopen : (cable d n.val).podOpen = true) :
    unplaced (cable (linkMissed n.val d) n.val) = unplaced (stepped .exitMode (podClosed (linkFailed (laneStopped (cable d n.val))))) ∧
      (swPort (linkMissed n.val d) n.val).fenced = true := by
  have hcable : cable (setCable n.val linkFailed (setCable n.val laneStopped d)) n.val = linkFailed (laneStopped (cable d n.val)) := by
    rw [cable_setCable_self, cable_setCable_self]
  rw [linkMissed_of_slow h]
  generalize setCable n.val linkFailed (setCable n.val laneStopped d) = u at hcable ⊢
  have hopen' : (cable u n.val).podOpen = true := by
    rw [hcable]
    exact hopen
  exact ⟨(unplaced_exitPod hopen').trans (by rw [hcable]), fenced_exitPod hopen'⟩

/-- A pod whose mode is not entered stays as it is. -/
theorem missed_shut (h : (cable d n.val).laneRate ≠ 2) (hshut : ¬ (cable d n.val).podOpen = true) :
    cable (linkMissed n.val d) n.val = linkFailed (laneStopped (cable d n.val)) := by
  have hcable : cable (setCable n.val linkFailed (setCable n.val laneStopped d)) n.val = linkFailed (laneStopped (cable d n.val)) := by
    rw [cable_setCable_self, cable_setCable_self]
  rw [linkMissed_of_slow h, ← hcable]
  generalize setCable n.val linkFailed (setCable n.val laneStopped d) = u at hcable ⊢
  exact congrArg (fun u => cable u n.val) (if_pos (by rw [hcable]; simpa [linkFailed, laneStopped] using hshut))

/-- What a missed link leaves. -/
theorem missed_settles (h : Along n u d) (hreach : Only [.cable n.val] v u) :
    OnlyPort n.val (settle (linkMissed n.val v)) d ∧ SameAon (settle (linkMissed n.val v)) d := by
  have hall := only_settled (((only_linkMissed n.val v).trans (hreach.mono (by simp))).trans (h.only.mono (by simp)))
  exact ⟨onlyPort_of_only hall (fun k hk => by simp [Part.seenIn, hk.symm]) rfl, hall.sameAon rfl⟩

/-! ### The rate is agreed -/

/-- A port whose rate is agreed. -/
def rated (r : Nat) (c : Cable) : Cable := { c with vdm := .idle, laneRate := r }

/-- A port whose lane runs. -/
def laneStarted (c : Cable) : Cable := { c with laneOn := true }

theorem linkRate_acked_eq (hears : HearsVdm s.dev n.val id (.linkRate r)) : linkRate n.val id (.ack vdos) (hush s.dev) =
    arm (.linkUp n.val) (20 * ms) (setCable n.val laneStarted (setCable n.val (rated r) (told n id s.dev))) := by
  have hvdm := vdm_told hears.2 (id := id)
  unfold linkRate
  refine (vdmReceive_told hears rfl).trans ?_
  generalize told n id s.dev = u at hvdm ⊢
  dsimp only
  refine congrArg (fun u => arm (.linkUp n.val) (20 * ms) (setCable n.val laneStarted u)) (setCable_congr ?_)
  rw [hvdm]
  rfl

theorem linkRate_refused_eq (hears : HearsVdm s.dev n.val id (.linkRate r)) : linkRate n.val id .nak (hush s.dev) =
    linkMissed n.val (setCable n.val (rated r) (told n id s.dev)) := by
  have hvdm := vdm_told hears.2 (id := id)
  unfold linkRate
  refine (vdmReceive_told hears rfl).trans ?_
  generalize told n id s.dev = u at hvdm ⊢
  dsimp only
  refine congrArg (linkMissed n.val) (setCable_congr ?_)
  rw [hvdm]
  rfl

theorem linkRate_acked (hears : HearsVdm s.dev n.val id (.linkRate r)) :
    Answers (.linkRate n ⟨id, .ack vdos⟩) s fun t =>
        (cable t n.val).laneOn = true ∧ (cable t n.val).laneRate = r ∧ (cable t n.val).vdm = .idle ∧
        runsFor (.linkUp n.val) (20 * ms) t ∧ OnlyPort n.val t s.dev ∧ SameSwitch t s.dev ∧ SameAon t s.dev := by
  refine answers_of_effect rfl (linkRate_acked_eq hears) ?_
  have hreach := (along_told n id s.dev).only
  generalize told n id s.dev = u at hreach ⊢
  have hall := only_settled (S := .timer (.linkUp n.val) :: .free :: vdmParts n.val)
    ((show Only [.timer (.linkUp n.val), .cable n.val] (arm (.linkUp n.val) (20 * ms) (setCable n.val laneStarted (setCable n.val (rated r) u))) u by
      simp).mono (by simp) |>.trans (hreach.mono (by simp)))
  have hruns := runsFor_settle.mpr (runsFor_arm_self (t := .linkUp n.val) (ns := 20 * ms)
    (d := setCable n.val laneStarted (setCable n.val (rated r) u)))
  rw [cable_settle, cable_arm, cable_setCable_self, cable_setCable_self]
  exact ⟨rfl, rfl, rfl, hruns, onlyPort_of_only hall (fun k hk => by simp [Part.seenIn, hk.symm]) rfl, hall.sameSwitch rfl, hall.sameAon rfl⟩

theorem linkRate_slower (hears : HearsVdm s.dev n.val id (.linkRate 2)) :
    Answers (.linkRate n ⟨id, .nak⟩) s fun t =>
        (cable t n.val).laneOn = false ∧ (cable t n.val).vdm = .linkRate 1 ∧ OnlyPort n.val t s.dev ∧ SameSwitch t s.dev ∧
        SameAon t s.dev := by
  have hreach := (along_told n id s.dev).only
  have heff := linkRate_refused_eq hears
  generalize told n id s.dev = u at hreach heff
  have hcable := cable_setCable_self n.val (rated 2) u
  have hwire : Only (.free :: vdmParts n.val) (setCable n.val (rated 2) u) (hush s.dev) := (only_setCable _ _ (by simp)).mpr hreach
  generalize setCable n.val (rated 2) u = v at hcable hwire heff
  have hrate : (cable v n.val).laneRate = 2 := by
    rw [hcable]
    rfl
  have hport := missed_fast hrate
  have hall := only_settled (((show Only (vdmParts n.val) (linkMissed n.val v) v by
    rw [linkMissed_of_fast hrate]
    exact (only_vdmSend_wire n.val _ _).trans (by simp)).mono (by simp)).trans hwire)
  refine answers_of_effect rfl heff ?_
  rw [cable_settle]
  generalize cable (linkMissed n.val v) n.val = x at hport ⊢
  exact ⟨(congrArg Cable.laneOn hport :), (congrArg Cable.vdm hport :),
    onlyPort_of_only hall (fun k hk => by simp [Part.seenIn, hk.symm]) rfl, hall.sameSwitch rfl, hall.sameAon rfl⟩

theorem linkRate_failed (hears : HearsVdm s.dev n.val id (.linkRate r)) (hslow : r ≠ 2) (hopen : (cable s.dev n.val).podOpen = true) :
    Answers (.linkRate n ⟨id, .nak⟩) s fun t =>
        (cable t n.val).pod = .linkFail ∧ (cable t n.val).podOpen = false ∧ (cable t n.val).vdm = .exitMode ∧
        (cable t n.val).booked = (cable s.dev n.val).booked ∧ (swPort t n.val).fenced = true ∧ OnlyPort n.val t s.dev ∧
        SameAon t s.dev := by
  obtain ⟨hold, -⟩ := told_keeps n id s.dev
  have halong := along_told n id s.dev
  have heff := linkRate_refused_eq hears
  generalize told n id s.dev = u at hold halong heff
  have hcable := cable_setCable_self n.val (rated r) u
  have hreach : Only [.cable n.val] (setCable n.val (rated r) u) u := by simp
  generalize setCable n.val (rated r) u = v at hcable hreach heff
  have hrate : (cable v n.val).laneRate ≠ 2 := by
    rw [hcable]
    exact hslow
  have hopen' : (cable v n.val).podOpen = true := by
    rw [hcable]
    exact hold.trans hopen
  have hbooked : (cable v n.val).booked = (cable s.dev n.val).booked := by
    rw [hcable]
    exact (congrArg Cable.booked halong.bare :)
  obtain ⟨hport, hfence⟩ := missed_slow hrate hopen'
  have hsettles := missed_settles halong hreach
  refine answers_of_effect rfl heff ?_
  rw [cable_settle]
  obtain ⟨hpod, hshut, -, hvdm, hbook, -⟩ := failed_of_unplaced hport
  exact ⟨hpod, hshut, hvdm, hbook.trans hbooked, fenced_settle hfence, hsettles⟩

/-! ### A timer of the pod link ends -/

theorem linkUp_timed_out (harmed : armed (.linkUp n.val) s.dev = true) :
    Answers (.linkUpTimeout n) s fun t =>
        (cable t n.val).laneOn = false ∧
        ((cable s.dev n.val).laneRate = 2 → (cable t n.val).vdm = .linkRate 1) ∧
        ((cable s.dev n.val).laneRate ≠ 2 → (cable s.dev n.val).podOpen = true →
          (cable t n.val).pod = .linkFail ∧ (cable t n.val).podOpen = false ∧ (cable t n.val).vdm = .exitMode ∧
          (swPort t n.val).fenced = true) ∧
        (cable t n.val).booked = (cable s.dev n.val).booked ∧ (cable t n.val).contract = (cable s.dev n.val).contract ∧
        OnlyPort n.val t s.dev := by
  refine answers_of_effect rfl (onExpiry_hush_of_armed harmed) ?_
  have hcable := cable_expired (.linkUp n.val) s.dev n.val
  have hall := only_settled_expired (only_linkMissed n.val (expired (.linkUp n.val) s.dev))
  have honly := onlyPort_of_only (n := n.val) hall (fun k hk => by simp [Part.seenIn, hk.symm]) rfl
  clear hall
  generalize expired (.linkUp n.val) s.dev = u at hcable honly ⊢
  rw [← hcable, cable_settle]
  by_cases hrate : (cable u n.val).laneRate = 2
  · have hport := missed_fast hrate
    generalize cable (linkMissed n.val u) n.val = x at hport ⊢
    exact ⟨(congrArg Cable.laneOn hport :), fun _ => (congrArg Cable.vdm hport :), fun h => absurd hrate h, (congrArg Cable.booked hport :),
      (congrArg Cable.contract hport :), honly⟩
  · by_cases hopen : (cable u n.val).podOpen = true
    · obtain ⟨hport, hfence⟩ := missed_slow hrate hopen
      generalize cable (linkMissed n.val u) n.val = x at hport ⊢
      obtain ⟨hpod, hshut, hlane, hvdm, hbook, hcontract⟩ := failed_of_unplaced hport
      exact ⟨hlane, fun h => absurd h hrate, fun _ _ => ⟨hpod, hshut, hvdm, fenced_settle hfence⟩, hbook, hcontract, honly⟩
    · have hport := missed_shut hrate hopen
      rw [hport]
      exact ⟨rfl, fun h => absurd h hrate, fun _ h => absurd h hopen, rfl, rfl, honly⟩

/-- A port that sends its message once more. -/
def again (c : Cable) : Cable := { c with vdmTries := c.vdmTries + 1 }

theorem vdm_timed_out (harmed : armed (.vdm n.val) s.dev = true) (hruns : portRuns s.dev n.val = true) :
    Answers (.vdmResponseTimeout n) s fun t =>
        ((cable s.dev n.val).vdmTries < 2 → (cable t n.val).vdmTries = (cable s.dev n.val).vdmTries + 1 ∧
          (cable t n.val).vdm = (cable s.dev n.val).vdm ∧ (cable t n.val).pod = (cable s.dev n.val).pod ∧
          (∀ m : PdMsg, vdmMessages s.dev (cable s.dev n.val).vdm = [m] → (cable s.dev n.val).lastSent = none → Says n m t)) ∧
        (2 ≤ (cable s.dev n.val).vdmTries → (cable t n.val).pod = .failed ∧ (cable t n.val).vdm = .idle ∧
          (swPort t n.val).fenced = (swPort s.dev n.val).fenced) ∧
        OnlyPort n.val t s.dev := by
  by_cases htries : (cable s.dev n.val).vdmTries < 2
  · have heff : vdmTimeout n.val (hush s.dev) = vdmAgain n.val (setCable n.val again (expired (.vdm n.val) s.dev)) :=
      (onExpiry_hush_of_armed harmed).trans (if_pos htries)
    have hcable : cable (setCable n.val again (expired (.vdm n.val) s.dev)) n.val = again (cable s.dev n.val) := by
      rw [cable_setCable_self, cable_expired]
    have hback : Only [.cable n.val, .now, .tm, .timer (.vdm n.val), .odBook, .out] (setCable n.val again (expired (.vdm n.val) s.dev)) s.dev := by simp
    have hall := only_settled_expired ((only_vdmAgain_wire n.val (setCable n.val again (expired (.vdm n.val) s.dev))).trans
      (show Only (wireParts n.val) _ (expired (.vdm n.val) s.dev) by simp))
    have hheld : portHeld (setCable n.val again (expired (.vdm n.val) s.dev)) n.val = false :=
      (portHeld_congr (hback.otp rfl) n.val).trans (portHeld_of_runs hruns)
    have hmessages := vdmMessages_congr (hback.cfg rfl) (podSvid_congr (hback.otp rfl)) (cable s.dev n.val).vdm
    refine answers_of_effect rfl heff ?_
    generalize setCable n.val again (expired (.vdm n.val) s.dev) = u at hcable hall hheld hmessages ⊢
    have hport := unsaid_vdmAgain n.val u
    rw [cable_settle]
    refine ⟨fun _ => ?_, fun h => absurd htries (by omega), onlyPort_of_only hall (fun k hk => by simp [Part.seenIn, hk.symm]) rfl⟩
    rw [hcable] at hport
    refine ⟨(congrArg Cable.vdmTries hport :), (congrArg Cable.vdm hport :), (congrArg Cable.pod hport :), fun m hm hquiet => says_settle (says_vdmAgain hheld ?_ ?_)⟩
    · rw [hcable]
      exact hquiet
    · rw [hcable, ← hm, ← hmessages]
      rfl
  · have heff : vdmTimeout n.val (hush s.dev) = podFailed n.val (expired (.vdm n.val) s.dev) :=
      (onExpiry_hush_of_armed harmed).trans (if_neg htries)
    obtain ⟨hpod, hvdm, -⟩ := failed_of_unprofiled (unprofiled_podFailed n.val (expired (.vdm n.val) s.dev))
    have hall := only_settled_expired (show Only (.irq :: profileParts n.val) (podFailed n.val (expired (.vdm n.val) s.dev))
      (expired (.vdm n.val) s.dev) by simp)
    refine answers_of_effect rfl heff ⟨fun h => absurd h htries, fun _ => ?_,
      onlyPort_of_only hall (fun k hk => by simp [Part.seenIn, hk.symm]) rfl⟩
    rw [cable_settle]
    exact ⟨hpod, hvdm, hall.fenced n.val rfl⟩

end

end Sys2Proof.Proofs.PodLink


/-! A pod is linked and subscribed, and the clauses of identification together (chapter 6, R208, R210, R371). -/

namespace Sys2Proof.Proofs.PodIdentification

open Sys2Proof Sys2Proof.Machine Sys2Proof.Safety
open Sys2Proof.Proofs.StepAndTimers
open Sys2Proof.Proofs.ShapersAndTally
open Sys2Proof.Proofs.Frames
open Sys2Proof.Proofs.Running
open Sys2Proof.Proofs.Shepherd
open Sys2Proof.Proofs.PdMessages
open Sys2Proof.Proofs.PortEvents
open Sys2Proof.Proofs.PdReceiving
open Sys2Proof.Proofs.PodSteps
open Sys2Proof.Proofs.SourceSide
open Sys2Proof.Proofs.SourceContracts
open Sys2Proof.Proofs.SinkRequests
open Sys2Proof.Proofs.PodExchange
open Sys2Proof.Proofs.PodDiscovery
open Sys2Proof.Proofs.PodReading
open Sys2Proof.Proofs.PodLink
open Sys2Proof.Proofs.PinsAndEpochs (epochOf_podIdle only_podIdle)

section
variable {S : List Part} {t u v w d e : Dev} {n : CPort} {id : BitVec 3} {c : Instr} {s : State} {f : Dev → Dev} {step : VdmStep}
  {r k : Nat} {vdos : List Word} {y : Cable}

/-! ### The end of a port's messages to its pod -/

/-- A port beside its messages and the step that it is in. -/
def unsent (c : Cable) : Cable := { unsaid c with vdm := .idle, vdmTries := 0, restored := false }

theorem unsent_of_unsaid {x y : Cable} (h : unsaid x = unsaid y) : unsent x = unsent y := by
  unfold unsent
  rw [h]

theorem unsent_stepped (step : VdmStep) (c : Cable) : unsent (stepped step c) = unsent c := rfl

theorem unsent_vdmSend (n : Nat) (step : VdmStep) (d : Dev) : unsent (cable (vdmSend n step d) n) = unsent (cable d n) :=
  (unsent_of_unsaid (unsaid_vdmSend n step d)).trans (unsent_stepped step _)

theorem unsent_podIdle (n : Nat) (d : Dev) : unsent (cable (podIdle n d) n) = unsent (cable d n) := by
  unfold podIdle
  dsimp only
  split
  · rfl
  · split
    · rw [unsent_vdmSend]
      rfl
    · rfl

/-- The device of a port whose messages to its pod are through. -/
def freed (n : Nat) (d : Dev) : Dev :=
  if (swPort d n).fenced || (cable d n).restored then liftFence n (setCable n (fun c => { c with restored := false }) d) else d

theorem podDone_eq (n : Nat) (d : Dev) : podDone n d = podIdle n (freed n (setCable n idled d)) := rfl

theorem unsent_freed (n : Nat) (d : Dev) : unsent (cable (freed n d) n) = unsent (cable d n) := by
  unfold freed
  split
  · rw [cable_liftFence, cable_setCable_self]
    rfl
  · rfl

theorem unsent_podDone (n : Nat) (d : Dev) : unsent (cable (podDone n d) n) = unsent (cable d n) := by
  rw [podDone_eq, unsent_podIdle, unsent_freed, cable_setCable_self]
  rfl

/-- What the end of the messages may reach. -/
@[simp] def doneParts (n : Nat) : List Part := .tm :: liftParts n ++ Frames.sendParts n

theorem only_freed (n : Nat) (d : Dev) : Only (doneParts n) (freed n d) d := by
  unfold freed
  split
  · simp
  · exact .refl _ d

theorem only_podDone (n : Nat) (d : Dev) : Only (doneParts n) (podDone n d) d := by
  rw [podDone_eq]
  exact (only_podIdle (by simp)).mpr ((only_freed n _).trans (by simp))

theorem fenced_freed (n : Nat) (d : Dev) : (swPort (freed n d) n).fenced = false := by
  unfold freed
  split
  · exact fenced_liftFence n _
  · next h =>
    rw [Bool.or_eq_true, not_or] at h
    exact Bool.eq_false_of_not_eq_true h.1

theorem fab_podIdle (n : Nat) (d : Dev) : (podIdle n d).fab = d.fab :=
  (show Only (.tm :: Frames.sendParts n) (podIdle n d) d from (only_podIdle (by simp)).mpr (.refl _ d)).fab rfl

theorem hw_podIdle (n : Nat) (d : Dev) : (podIdle n d).hw = d.hw :=
  (show Only (.tm :: Frames.sendParts n) (podIdle n d) d from (only_podIdle (by simp)).mpr (.refl _ d)).hw rfl

theorem fenced_podDone (n : Nat) (d : Dev) : (swPort (podDone n d) n).fenced = false := by
  have h := fenced_freed n (setCable n idled d)
  rw [podDone_eq]
  generalize freed n (setCable n idled d) = u at h ⊢
  unfold swPort at h ⊢
  rwa [fab_podIdle]

theorem irqPort_podDone (n : CPort) (h : (swPort d n.val).fenced = true) : (podDone n.val d).hw.irqPort.getLsbD n.val = true := by
  have hfenced : (swPort (setCable n.val idled d) n.val).fenced = true := h
  rw [podDone_eq, hw_podIdle, freed, hfenced, if_pos (by simp)]
  exact irqPort_liftFence n _

theorem setFence_false (n : Nat) (d : Dev) : setFence n false d = setSwPort n (fun w => { w with fenced := false }) d := by
  unfold setFence
  dsimp only
  split
  · simp
  · rfl

/-- What a port has of its link. -/
def linkOf (w : SwPort) : Bool × Nat := (w.link, w.speed)

theorem linkOf_liftFence (n : Nat) (d : Dev) : linkOf (swPort (liftFence n d) n) = linkOf (swPort d n) := by
  have hfab : (liftFence n d).fab = (setFence n false d).fab :=
    (show Only [.irq] (liftFence n d) (setFence n false d) by simp [liftFence]).fab rfl
  have hsame : swPort (liftFence n d) n = swPort (setFence n false d) n := by
    unfold swPort
    rw [hfab]
  rw [hsame, setFence_false]
  exact swPort_setSwPort_apply (part := linkOf) (f := fun w => { w with fenced := false }) (fun _ => rfl) n

theorem linkOf_freed (n : Nat) (d : Dev) : linkOf (swPort (freed n d) n) = linkOf (swPort d n) := by
  unfold freed
  split
  · exact linkOf_liftFence n _
  · rfl

theorem linkOf_podDone (n : Nat) (d : Dev) : linkOf (swPort (podDone n d) n) = linkOf (swPort d n) := by
  have h := linkOf_freed n (setCable n idled d)
  rw [podDone_eq]
  generalize freed n (setCable n idled d) = u at h ⊢
  unfold swPort at h ⊢
  rw [fab_podIdle]
  exact h

/-! ### A pod is subscribed -/

theorem marks_podDone (n : Nat) (d : Dev) (j : Nat) : (epochOf (podDone n d) j).marks = (epochOf d j).marks := by
  have hfreed : Only (.cable n :: liftParts n) (freed n (setCable n idled d)) d := by
    unfold freed
    split
    · simp
    · simp
  have h : epochOf (freed n (setCable n idled d)) j = epochOf d j := by
    unfold epochOf
    rw [hfreed.tm rfl]
  obtain ⟨r, hr⟩ := epochOf_podIdle (n := n) (d := freed n (setCable n idled d)) j
  rw [podDone_eq, hr, h]

theorem epochOf_along (h : Along n u d) (j : Nat) : epochOf u j = epochOf d j := by
  unfold epochOf
  rw [h.only.tm rfl]
  rfl

/-- What the end of the messages leaves. -/
theorem podDone_settles (h : Along n u d) (hreach : Only [.tm] v u) : (swPort (settle (podDone n.val v)) n.val).fenced = false ∧
    OnlyPort n.val (settle (podDone n.val v)) d ∧ SameAon (settle (podDone n.val v)) d := by
  have hall := only_settled (S := .free :: doneParts n.val ++ vdmParts n.val)
    ((((only_podDone n.val v).mono (by simp)).trans (hreach.mono (by simp))).trans (h.only.mono (by simp)))
  exact ⟨fenced_settle (fenced_podDone n.val v), onlyPort_of_only hall (fun k hk => by simp [Part.seenIn, hk.symm]) rfl, hall.sameAon rfl⟩

/-- A stream that marks a port. -/
def marking (n : Nat) (e : Epoch) : Epoch := { e with marks := e.marks ||| BitVec.ofNat 8 (2 ^ n) }

theorem epochSubscribe_acked_eq (hears : HearsVdm s.dev n.val id (.epoch k)) :
    epochSubscribe n.val id (.ack vdos) (hush s.dev) = podDone n.val (setEpoch k (marking n.val) (told n id s.dev)) := by
  have hvdm := vdm_told hears.2 (id := id)
  unfold epochSubscribe
  refine (vdmReceive_told hears rfl).trans ?_
  generalize told n id s.dev = u at hvdm ⊢
  dsimp only
  rw [hvdm]
  rfl

theorem epochSubscribe_refused_eq (hears : HearsVdm s.dev n.val id (.epoch k)) :
    epochSubscribe n.val id .nak (hush s.dev) = podDone n.val (told n id s.dev) := by
  unfold epochSubscribe
  exact vdmReceive_told hears rfl

theorem subscribed (hears : HearsVdm s.dev n.val id (.epoch k)) :
    Answers (.epochSubscribe n ⟨id, .ack vdos⟩) s fun t =>
        (epochOf t k).marks.getLsbD n.val = true ∧ (∀ j : Nat, j ≠ k → (epochOf t j).marks = (epochOf s.dev j).marks) ∧
        (swPort t n.val).fenced = false ∧ OnlyPort n.val t s.dev ∧ SameAon t s.dev := by
  refine answers_of_effect rfl (epochSubscribe_acked_eq hears) ?_
  have halong := along_told n id s.dev
  generalize told n id s.dev = u at halong ⊢
  have hepochs (j : Nat) : (epochOf (settle (podDone n.val (setEpoch k (marking n.val) u))) j).marks =
      (epochOf (setEpoch k (marking n.val) u) j).marks := by
    rw [← marks_podDone n.val (setEpoch k (marking n.val) u) j]
    unfold epochOf
    rw [settle_tm]
  have hbefore (j : Nat) : epochOf u j = epochOf s.dev j := epochOf_along halong j
  refine ⟨?_, fun j hj => ?_, podDone_settles halong (by simp)⟩
  · rw [hepochs, epochOf, setEpoch, tget_tset_self]
    show (_ ||| _ : BitVec 8).getLsbD n.val = true
    rw [BitVec.getLsbD_or, BitVec.getLsbD_ofNat, Nat.testBit_two_pow_self, decide_eq_true n.isLt]
    simp
  · rw [hepochs, ← hbefore, epochOf, setEpoch, tget_tset_other _ _ _ hj]
    rfl

theorem unsubscribed (hears : HearsVdm s.dev n.val id (.epoch k)) :
    Answers (.epochSubscribe n ⟨id, .nak⟩) s fun t =>
        (∀ j : Nat, (epochOf t j).marks = (epochOf s.dev j).marks) ∧ (swPort t n.val).fenced = false ∧ OnlyPort n.val t s.dev ∧
        SameAon t s.dev := by
  refine answers_of_effect rfl (epochSubscribe_refused_eq hears) ?_
  have halong := along_told n id s.dev
  generalize told n id s.dev = u at halong ⊢
  refine ⟨fun j => ?_, podDone_settles halong (.refl _ u)⟩
  rw [← epochOf_along halong, ← marks_podDone n.val u j]
  unfold epochOf
  rw [settle_tm]

/-! ### The link is up -/

/-- A port whose pod is linked. -/
def podUp (c : Cable) : Cable := { c with pod := if c.pod = .identBad then .identBad else .linkUp }

/-- A port of the switch whose link is up. -/
def linkedAt (rate : Nat) (w : SwPort) : SwPort := { w with link := true, speed := if rate = 2 then 2500 else 1000 }

/-- The device of a port whose link is up. -/
def upLinked (n : Nat) (d : Dev) : Dev := setCable n podUp (disarm (.linkUp n) (setSwPort n (linkedAt (cable d n).laneRate) d))

theorem podLinkUp_eq {n : Nat} (harmed : armed (.linkUp n) d = true) (hlane : (cable d n).laneOn = true) : podLinkUp n d =
    if (cable d n).profStream < 16 ∧ (cable d n).modeVdo.getLsbD 0 then vdmSend n (.epoch (cable d n).profStream) (upLinked n d)
    else podDone n (upLinked n d) := by
  unfold podLinkUp
  dsimp only
  rw [harmed, hlane, if_neg (by decide)]
  rfl

theorem only_upLinked (n : Nat) (d : Dev) : Only (.fab :: .timer (.linkUp n) :: vdmParts n) (upLinked n d) d := by
  rw [upLinked, only_setCable _ _ (by simp), only_disarm _ (by simp), only_setSwPort_of_kept (f := linkedAt (cable d n).laneRate) (fun _ => rfl) (fun _ => rfl) (by simp)]
  exact .refl _ d

theorem swPort_upLinked (n : Nat) (d : Dev) : swPort (upLinked n d) n = linkedAt (cable d n).laneRate (swPort d n) := by
  unfold swPort
  rw [(show Only [.cable n, .timer (.linkUp n)] (upLinked n d) (setSwPort n (linkedAt (cable d n).laneRate) d) by simp [upLinked]).fab rfl]
  unfold setSwPort
  rw [tget_tset_self]
  rfl

theorem linkOf_upLinked (n : Nat) (d : Dev) :
    linkOf (swPort (upLinked n d) n) = (true, if (cable d n).laneRate = 2 then 2500 else 1000) := by
  rw [swPort_upLinked]
  rfl

theorem fenced_upLinked (n : Nat) (d : Dev) : (swPort (upLinked n d) n).fenced = (swPort d n).fenced := by
  rw [swPort_upLinked]
  rfl

theorem linked_up (harmed : armed (.linkUp n.val) s.dev = true) (hlane : (cable s.dev n.val).laneOn = true) :
    Answers (.podLinkUp n) s fun t =>
        (swPort t n.val).link = true ∧ (swPort t n.val).speed = (if (cable s.dev n.val).laneRate = 2 then 2500 else 1000) ∧
        (cable t n.val).pod = (if (cable s.dev n.val).pod = .identBad then .identBad else .linkUp) ∧
        ((cable s.dev n.val).profStream < 16 → (cable s.dev n.val).modeVdo.getLsbD 0 = true →
          (cable t n.val).vdm = .epoch (cable s.dev n.val).profStream ∧
          (swPort t n.val).fenced = (swPort s.dev n.val).fenced) ∧
        (¬ ((cable s.dev n.val).profStream < 16 ∧ (cable s.dev n.val).modeVdo.getLsbD 0 = true) →
          (swPort t n.val).fenced = false ∧ ((swPort s.dev n.val).fenced = true → t.hw.irqPort.getLsbD n.val = true)) ∧
        OnlyPort n.val t s.dev ∧ SameAon t s.dev := by
  refine answers_of_effect rfl (podLinkUp_eq (d := hush s.dev) harmed hlane) ?_
  have hcable : cable (upLinked n.val (hush s.dev)) n.val = podUp (cable s.dev n.val) := by
    rw [upLinked, cable_setCable_self]
    rfl
  have hreach : Only (.fab :: .timer (.linkUp n.val) :: vdmParts n.val) (upLinked n.val (hush s.dev)) (hush s.dev) := only_upLinked n.val _
  have hlink : linkOf (swPort (upLinked n.val (hush s.dev)) n.val) = (true, if (cable s.dev n.val).laneRate = 2 then 2500 else 1000) :=
    linkOf_upLinked n.val _
  have hfenced : (swPort (upLinked n.val (hush s.dev)) n.val).fenced = (swPort s.dev n.val).fenced :=
    fenced_upLinked n.val _
  generalize upLinked n.val (hush s.dev) = u at hcable hreach hlink hfenced ⊢
  by_cases hsub : (cable s.dev n.val).profStream < 16 ∧ (cable s.dev n.val).modeVdo.getLsbD 0 = true
  · have hport := unsaid_vdmSend n.val (.epoch (cable s.dev n.val).profStream) u
    have hwire := only_vdmSend_wire n.val (.epoch (cable s.dev n.val).profStream) u
    have hfab := hwire.fab rfl
    have hall := only_settled ((hwire.mono (S := .fab :: .timer (.linkUp n.val) :: vdmParts n.val) (by simp)).trans hreach)
    rw [hcable] at hport
    rw [cable_hush, if_pos hsub, cable_settle]
    generalize vdmSend n.val (.epoch (cable s.dev n.val).profStream) u = v at hport hfab hall ⊢
    have hswitch : swPort (settle v) n.val = swPort u n.val := by
      unfold swPort
      rw [settle_fab, hfab]
    obtain ⟨hup, hspeed⟩ := Prod.mk.inj hlink
    rw [hswitch]
    exact ⟨hup, hspeed, (congrArg Cable.pod hport :), fun _ _ => ⟨(congrArg Cable.vdm hport :), hfenced⟩, fun h => absurd hsub h,
      onlyPort_of_only hall (fun k hk => by simp [Part.seenIn, hk.symm]) rfl, hall.sameAon rfl⟩
  · have hport := unsent_podDone n.val u
    have hall := only_settled (S := .fab :: .timer (.linkUp n.val) :: doneParts n.val ++ vdmParts n.val)
      (((only_podDone n.val u).mono (by simp)).trans (hreach.mono (by simp)))
    have hkept := linkOf_podDone n.val u
    have hfree := fenced_podDone n.val u
    have hirq := irqPort_podDone (d := u) n
    rw [hcable] at hport
    rw [hlink] at hkept
    rw [cable_hush, if_neg hsub, cable_settle]
    generalize podDone n.val u = v at hport hkept hfree hirq hall ⊢
    have hswitch : swPort (settle v) n.val = swPort v n.val := by
      unfold swPort
      rw [settle_fab]
    obtain ⟨hup, hspeed⟩ := Prod.mk.inj hkept
    rw [hswitch, settle_hw_irqPort]
    exact ⟨hup, hspeed, (congrArg Cable.pod hport :), fun h h' => absurd ⟨h, h'⟩ hsub, fun _ => ⟨hfree, fun h => hirq (hfenced.trans h)⟩,
      onlyPort_of_only hall (fun k hk => by simp [Part.seenIn, hk.symm]) rfl, hall.sameAon rfl⟩

end

/-- Settles O36, by the command that each answer of the pod is. -/
theorem podIdentification : Obligations.PodIdentification := by
  unfold Obligations.PodIdentification
  intro s n
  refine ⟨fun id vdos hears => identity_answered hears, fun id vdos hears hlists => svids_answered hears hlists,
    fun id v rest hears => modes_answered hears, fun id what a hears hnone => noPod_answered hears hnone,
    fun id vdos hears => enterMode_acked hears, fun id a hears ha => enterMode_refused hears ha,
    fun id off vdos hears hoff => chunk_read hears hoff,
    fun id vdos hears => ⟨fun hvalid => block_matched hears rfl rfl hvalid, fun hbad hfirst => block_reread hears rfl hbad hfirst,
      fun hbad hsecond => block_bad hears rfl hbad hsecond⟩,
    fun id r hears => ⟨fun vdos => linkRate_acked hears, fun hfast => ?_, fun hslow hopen => linkRate_failed hears hslow hopen⟩,
    fun harmed hlane => linked_up harmed hlane, fun harmed => linkUp_timed_out harmed,
    fun id k hears => ⟨fun vdos => subscribed hears, unsubscribed hears⟩, fun harmed hruns => vdm_timed_out harmed hruns⟩
  subst hfast
  exact linkRate_slower hears

end Sys2Proof.Proofs.PodIdentification


/-! SUPPORT. REAPPLY on a cable port and on a slot (chapter 6, R205, R215, R217). -/

namespace Sys2Proof.Proofs.Reapply

open Sys2Proof Sys2Proof.Machine Sys2Proof.Safety
open Sys2Proof.Proofs.StepAndTimers
open Sys2Proof.Proofs.ShapersAndTally
open Sys2Proof.Proofs.Frames
open Sys2Proof.Proofs.Running
open Sys2Proof.Proofs.Shepherd
open Sys2Proof.Proofs.PdMessages
open Sys2Proof.Proofs.PortEvents
open Sys2Proof.Proofs.PdReceiving
open Sys2Proof.Proofs.PodSteps
open Sys2Proof.Proofs.SourceSide
open Sys2Proof.Proofs.SourceContracts
open Sys2Proof.Proofs.SinkRequests
open Sys2Proof.Proofs.PodExchange
open Sys2Proof.Proofs.RowWrites
open Sys2Proof.Proofs.SlotIdentification

section
variable {S : List Part} {t u v w d : Dev} {n : CPort} {m : PdMsg} {c : Instr} {s : State} {x : Slot} {p : Nat}

/-! ### A write that is served has settled -/

/-- The device once an action is reported and what follows has settled. -/
def served (d : Dev) : Dev := settle (emit (.status 0) d)

theorem cable_served (d : Dev) (n : Nat) : cable (served d) n = cable d n := by
  rw [served, cable_settle, cable_emit]

theorem fenced_served {n : Nat} {b : Bool} (h : (swPort d n).fenced = b) : (swPort (served d) n).fenced = b := fenced_settle (d := emit (.status 0) d) h

theorem says_served (h : Says n m d) : Says n m (served d) := by
  obtain ⟨hout, hlast⟩ := h
  refine says_settle ⟨?_, ?_⟩
  · rw [emit_status]
    exact List.mem_append_left _ hout
  · rwa [cable_emit]

theorem slotOf_served (d : Dev) (x : Nat) : slotOf (served d) x = slotOf d x := by
  rw [served, slotOf_settle, slotOf_emit]

theorem out_served {a : Emission} (h : a ∈ d.out) : a ∈ (served d).out := by
  rw [served, settle_out, emit_status]
  exact List.mem_append_left _ h

theorem irqPort_served (d : Dev) : (served d).hw.irqPort = d.hw.irqPort := by
  rw [served, settle_hw_irqPort, emit_status]

theorem only_served (h : Only S u (hush d)) : Only (.odBook :: .irq :: .out :: S) (served u) d :=
  (only_settle (by simp [Part.covers])).mpr ((only_emit _ (by simp [Part.covers])).mpr
    ((only_of_subset h fun q hq => by simp [hq]).trans ((only_hush (by simp [Part.covers])).mpr (.refl _ d))))

/-- A command that is an action, seen once the device has settled. -/
theorem serves_served {obj el v n : Nat} {k : ObjKind} {P : Dev → Prop} (hexec : exec c s = run (rowValue 1 obj el v) s)
    (h : AdmittedValue s.dev 1 obj el v) (hobj : objAt obj = some (k, n)) (hact : isAction k el = true) (hplain : journaledAction k el = false)
    (hu : act (hush s.dev) 1 k n el v (octetsOf s.dev obj el v) = u) (hP : P (served u)) : Serves c s P :=
  serves_action hexec h hobj hact hplain hu hP

theorem objAt_cable (n : CPort) : objAt (cableObj n.val) = some (.cable, n.val) := by
  revert n
  decide

theorem objAt_slot (x : Slot) : objAt (slotObj x.val) = some (.slot, x.val) := by
  revert x
  decide

/-! ### Discovery again -/

theorem says_startDiscovery (hheld : portHeld d n.val = false) (hquiet : (cable d n.val).lastSent = none) :
    Says n (.vdm (vdmHeader 0xFF00 0 1) []) (startDiscovery n.val d) := by
  unfold startDiscovery
  refine says_vdmSend rfl hheld ?_
  rw [cable_setCable_self]
  exact hquiet

/-- The device whose port is fenced for its identification. -/
def refenced (n : Nat) (d : Dev) : Dev := setFence n true (hush d)

theorem cable_refenced (n m : Nat) (d : Dev) : cable (refenced n d) m = cable d m := by
  rw [refenced, cable_setFence, cable_hush]

theorem only_refenced (n : Nat) (d : Dev) : Only (fenceParts n) (refenced n d) (hush d) := by simp [refenced]

/-- A port that waits for nothing but its profile. -/
def Idles (d : Dev) (n : Nat) : Prop := portRuns d n = true ∧ explicit (cable d n) = true ∧ isShed (cable d n) = false

/-- A port whose pod is to be discovered again. -/
def Rediscovers (c : Cable) : Prop :=
  (c.pod = .none ∧ c.dataRole = .dfp) ∨
    (c.podOpen = false ∧ (c.pod = .failed ∨ c.pod = .linkFail ∨ c.pod = .identBad ∨ c.pod = .linkUp))

theorem idles_hush (h : Idles d n.val) : ¬ (!portRuns (hush d) n.val || !explicit (cable d n.val) || isShed (cable d n.val)) = true := by
  obtain ⟨hruns, hexplicit, hshed⟩ := h
  rw [show portRuns (hush d) n.val = true from hruns, hexplicit, hshed]
  decide

theorem reapplyPort_discovers (h : Idles d n.val) (hpod : Rediscovers (cable d n.val)) :
    reapplyPort n.val (hush d) = startDiscovery n.val (refenced n.val d) := by
  unfold reapplyPort
  dsimp only
  rw [cable_hush, if_neg (idles_hush h)]
  obtain ⟨hpod, hrole⟩ | ⟨hshut, hpod⟩ := hpod
  · rw [hpod, hrole]
    rfl
  · rw [hshut]
    obtain hpod | hpod | hpod | hpod := hpod
    all_goals
      rw [hpod]
      rfl

theorem reapplyPort_notAPod (h : Idles d n.val) (hpod : (cable d n.val).pod = .notAPod) :
    reapplyPort n.val (hush d) = notAPod n.val (refenced n.val d) := by
  unfold reapplyPort
  dsimp only
  rw [cable_hush, if_neg (idles_hush h), hpod]
  rfl

theorem reapply_discovers (h : AdmittedValue s.dev 1 (cableObj n.val) 16 1) (hidles : Idles s.dev n.val) (hpod : Rediscovers (cable s.dev n.val)) :
    Serves (.reapply (.port n) true) s fun t =>
          (swPort t n.val).fenced = true ∧ (cable t n.val).pod = .discovering ∧ (cable t n.val).vdm = .discoverIdentity ∧
          (cable t n.val).identTries = 0 ∧ ((cable s.dev n.val).lastSent = none → Says n (.vdm (vdmHeader 0xFF00 0 1) []) t) ∧
          (cable t n.val).booked = (cable s.dev n.val).booked ∧ (∀ m : Nat, m ≠ n.val → cable t m = cable s.dev m) ∧
          t.slots = s.dev.slots ∧ t.od.cfg = s.dev.od.cfg ∧ SameStores t s.dev ∧ SameAon t s.dev := by
  refine serves_served rfl h (objAt_cable n) rfl rfl (reapplyPort_discovers hidles hpod) (?_ : _ ∧ _)
  have hcable := cable_refenced n.val n.val s.dev
  have hreach := only_refenced n.val s.dev
  have hfence : (swPort (refenced n.val s.dev) n.val).fenced = true := fenced_setFence n.val true _
  generalize refenced n.val s.dev = u at hcable hreach hfence ⊢
  have hport := unsaid_startDiscovery n.val u
  have hwire := only_startDiscovery_wire n.val u
  have hall := only_served ((hwire.mono (S := fenceParts n.val ++ vdmParts n.val) (by simp)).trans (hreach.mono (by simp)))
  have hsays := says_startDiscovery (n := n) (d := u) ((portHeld_congr (hreach.otp rfl) n.val).trans (portHeld_of_runs (d := hush s.dev) hidles.1))
  rw [hcable] at hport hsays
  have hfenced := fenced_served ((hwire.fenced n.val rfl).trans hfence)
  rw [cable_served]
  generalize cable (startDiscovery n.val u) n.val = x at hport ⊢
  exact ⟨hfenced, (congrArg Cable.pod hport :), (congrArg Cable.vdm hport :), (congrArg Cable.identTries hport :),
    fun hq => says_served (hsays hq), (congrArg Cable.booked hport :), fun k hk => hall.cable k (by simp [Part.seenIn, hk.symm]), hall.slots rfl,
    hall.odCfg rfl, hall.sameStores rfl, hall.sameAon rfl⟩

/-! ### A partner that is no pod -/

theorem cable_podless_other (n : Nat) {m : Nat} (hm : m ≠ n) (d : Dev) : cable (podless n d) m = cable d m :=
  (show Only [.cable n, .free] (podless n d) d by simp [podless]).cable m (by simp [Part.seenIn, hm.symm])

theorem booked_of_unprofiled {x y : Cable} (h : unprofiled x = unprofiled { y with pod := .notAPod, vdm := .idle }) : x.booked = y.booked :=
  (congrArg Cable.booked h :)

theorem profileId_of_unoffered {x y : Cable} (h : unoffered x = unoffered (provisioned d 0 y)) :
    x.profileId = 0 ∧ x.profileOn = true ∧ x.ceiling = none :=
  ⟨(congrArg Cable.profileId h :), (congrArg Cable.profileOn h :), (congrArg Cable.ceiling h :)⟩

theorem bare_of_unrouted {y z : Cable} (h : unrouted y = unrouted { z with pod := .notAPod, vdm := .idle }) : PodExchange.bare y = PodExchange.bare z :=
  (show PodExchange.bare (unrouted y) = PodExchange.bare (unrouted { z with pod := .notAPod, vdm := .idle }) by rw [h]).trans rfl

/-- The ceiling that profile 0 asks for is admitted behind the fence as before it. -/
theorem fits_podless (n : CPort) (d : Dev) : CeilingFits (podless n.val (refenced n.val d)) n.val 0 ↔ CeilingFits d n.val 0 := by
  have hreach : Only (.free :: .cable n.val :: fenceParts n.val) (podless n.val (refenced n.val d)) (hush d) := by simp [podless, refenced]
  have hbare := bare_of_unrouted (unrouted_podless n.val (refenced n.val d))
  rw [cable_refenced] at hbare
  generalize podless n.val (refenced n.val d) = w at hreach hbare
  refine ceilingFits_congr (fun obj el => (hreach.cfg rfl obj el).trans rfl) ((hreach.slots rfl).trans rfl)
    (fun m hm => (hreach.cable m (by simp [Part.seenIn, hm.symm])).trans rfl) ?_ ?_ ?_ ?_
  · exact (congrArg Cable.powerRole hbare :)
  · exact (congrArg Cable.booked hbare :)
  · exact (congrArg portOut hbare :)
  · exact (congrArg portIn hbare :)

theorem ceilingFits_zero {n : Nat} : CeilingFits d n 0 ↔ (cable d n).powerRole = .sink ∨ (preId d : Int) - (cable d n).booked ≤ ledgerFree d :=
  Iff.rfl

theorem reapply_admitted (h : AdmittedValue s.dev 1 (cableObj n.val) 16 1) (hidles : Idles s.dev n.val) (hpod : (cable s.dev n.val).pod = .notAPod)
    (hfits : CeilingFits s.dev n.val 0) :
    Serves (.reapply (.port n) true) s fun t =>
            (swPort t n.val).fenced = false ∧ (cable t n.val).profileId = 0 ∧ (cable t n.val).profileOn = true ∧
            (cable t n.val).ceiling = none ∧ (cable t n.val).booked = (cable s.dev n.val).booked ∧
            t.hw.irqPort.getLsbD n.val = true ∧ t.slots = s.dev.slots ∧ SameStores t s.dev ∧ SameAon t s.dev := by
  refine serves_served rfl h (objAt_cable n) rfl rfl (reapplyPort_notAPod hidles hpod) (?_ : _ ∧ _)
  have hbooked := booked_of_unprofiled (unprofiled_notAPod n.val (refenced n.val s.dev))
  have hreach : Only (fenceParts n.val ++ identParts n.val) (notAPod n.val (refenced n.val s.dev)) (hush s.dev) := by simp [refenced]
  have hall := only_served hreach
  obtain ⟨hdone, -, hoffer⟩ := (tryProfile_leaves n 0 (podless n.val (refenced n.val s.dev))).1 ((fits_podless n s.dev).mpr hfits)
  obtain ⟨hid, hon, hceil⟩ := profileId_of_unoffered hoffer
  have hlift : notAPod n.val (refenced n.val s.dev) = liftFence n.val (tryProfile n.val 0 (podless n.val (refenced n.val s.dev))).2 := by
    rw [notAPod_eq, if_pos hdone]
  rw [cable_refenced] at hbooked
  rw [cable_served, irqPort_served]
  rw [hlift] at hbooked hall ⊢
  rw [cable_liftFence] at hbooked ⊢
  exact ⟨fenced_served (fenced_liftFence n.val _), hid, hon, hceil, hbooked, irqPort_liftFence n _, hall.slots rfl, hall.sameStores rfl,
    hall.sameAon rfl⟩

theorem reapply_refused (h : AdmittedValue s.dev 1 (cableObj n.val) 16 1) (hidles : Idles s.dev n.val) (hpod : (cable s.dev n.val).pod = .notAPod)
    (hshort : ¬ CeilingFits s.dev n.val 0) :
    Serves (.reapply (.port n) true) s fun t =>
            (swPort t n.val).fenced = true ∧ (cable t n.val).profileId = (cable s.dev n.val).profileId ∧
            (cable t n.val).booked = (cable s.dev n.val).booked ∧ t.hw.irqPort.getLsbD (8 + n.val) = true ∧
            (∀ m : Nat, m ≠ n.val → cable t m = cable s.dev m) ∧ t.slots = s.dev.slots ∧ SameStores t s.dev ∧
            SameAon t s.dev := by
  refine serves_served rfl h (objAt_cable n) rfl rfl (reapplyPort_notAPod hidles hpod) (?_ : _ ∧ _)
  have hbooked := booked_of_unprofiled (unprofiled_notAPod n.val (refenced n.val s.dev))
  obtain ⟨hdone, hcable, hirq⟩ := (tryProfile_leaves n 0 (podless n.val (refenced n.val s.dev))).2
    fun hfits => hshort ((fits_podless n s.dev).mp hfits)
  have heff : notAPod n.val (refenced n.val s.dev) = (tryProfile n.val 0 (podless n.val (refenced n.val s.dev))).2 := by
    rw [notAPod_eq, if_neg (by simp [hdone])]
  have hreach : Only (.irq :: .free :: .cable n.val :: fenceParts n.val) (tryProfile n.val 0 (podless n.val (refenced n.val s.dev))).2 (hush s.dev) := by
    rw [tryProfile_of_short fun hfits => hshort ((fits_podless n s.dev).mp hfits)]
    simp [podless, refenced]
  have hfence : Only [.irq, .free, .cable n.val] (tryProfile n.val 0 (podless n.val (refenced n.val s.dev))).2 (refenced n.val s.dev) := by
    rw [tryProfile_of_short fun hfits => hshort ((fits_podless n s.dev).mp hfits)]
    simp [podless]
  have hall := only_served hreach
  have hprofile := profileId_podless n.val (refenced n.val s.dev)
  rw [cable_refenced] at hbooked hprofile
  rw [cable_served, irqPort_served]
  rw [heff] at hbooked ⊢
  exact ⟨fenced_served ((hfence.fenced n.val rfl).trans (fenced_setFence n.val true _)), (congrArg Cable.profileId hcable).trans hprofile, hbooked, hirq,
    fun k hk => hall.cable k (by simp [Part.seenIn, hk.symm]), hall.slots rfl, hall.sameStores rfl, hall.sameAon rfl⟩

/-! ### A port under no contract -/

theorem reapplyPort_idle (h : explicit (cable d n.val) = false) : reapplyPort n.val (hush d) = hush d := by
  unfold reapplyPort
  dsimp only
  rw [cable_hush, h]
  exact if_pos (by simp)

/-- An action that changes nothing reports OK and no more. -/
theorem became_of_nothing {obj el v n : Nat} {k : ObjKind} (hexec : exec c s = run (rowValue 1 obj el v) s) (h : AdmittedValue s.dev 1 obj el v)
    (hobj : objAt obj = some (k, n)) (hact : isAction k el = true) (hplain : journaledAction k el = false)
    (hu : act (hush s.dev) 1 k n el v (octetsOf s.dev obj el v) = hush s.dev) :
    Answers c s fun t => Became t { hush s.dev with out := [.status 0] } :=
  answers_action_became hexec h hobj hact hplain hu (emit_status 0 (hush s.dev))

/-! ### A slot -/

/-- The profile that REAPPLY on a slot takes. -/
def reapplied (d : Dev) (x : Slot) : Nat :=
  if (slotOf d x.val).state = 2 then matchProfile d (slotOf d x.val).identity (8 + x.val) else 0

theorem reapplySlot_eq (hready : d.boot.stage = .ready) (hstate : (slotOf d x.val).state ≠ 0) :
    reapplySlot x.val (hush d) = slotProfile x.val (reapplied d x) (slotOf d x.val).state (hush d) := by
  have hrun : isReady (hush d) = true := by
    show (d.boot.stage == .ready) = true
    rw [hready]
    rfl
  unfold reapplySlot reapplied
  dsimp only
  rw [hrun, if_neg (by decide), show slotOf (hush d) x.val = slotOf d x.val from rfl]
  by_cases hpod : (slotOf d x.val).state = 2
  · rw [if_pos hpod, if_pos hpod, hpod]
    rfl
  · rw [if_neg hpod, if_neg hpod, if_neg hstate]

theorem reapply_slot (h : AdmittedValue s.dev 1 (slotObj x.val) 7 1) (hready : s.dev.boot.stage = .ready) (hstate : (slotOf s.dev x.val).state ≠ 0)
    (hp : reapplied s.dev x = p) :
    Serves (.reapply (.slot x) true) s fun t =>
      (Fits s.dev x.val p → (slotOf t x.val).booked = slotCeiling s.dev x.val p ∧ (slotOf t x.val).profileId = p ∧
        (slotOf t x.val).ng = ngShare s.dev p ∧ Emission.notice (.slotProfile x.val true) ∈ t.out) ∧
      (¬ Fits s.dev x.val p → (slotOf t x.val).booked = (slotOf s.dev x.val).booked ∧
        (slotOf t x.val).profileId = (slotOf s.dev x.val).profileId ∧
        Emission.notice (.slotProfile x.val false) ∈ t.out) ∧
      (slotOf t x.val).state = (slotOf s.dev x.val).state ∧ (∀ y : Nat, y ≠ x.val → slotOf t y = slotOf s.dev y) ∧
      t.cables = s.dev.cables ∧ t.od.cfg = s.dev.od.cfg ∧ SameSwitch t s.dev ∧ SameTime t s.dev ∧ SameStores t s.dev ∧
      SameAon t s.dev := by
  subst hp
  refine serves_served rfl h (objAt_slot x) rfl rfl (reapplySlot_eq hready hstate) (?_ : _ ∧ _)
  have hbooks : SameBooks (hush s.dev) s.dev := ⟨fun _ _ => rfl, rfl, fun _ => rfl⟩
  obtain ⟨hkept, htook, hleft⟩ := told_slotProfile (p := reapplied s.dev x) (state := (slotOf s.dev x.val).state) hbooks rfl
  have hall := only_served (only_slotProfile x.val (reapplied s.dev x) (slotOf s.dev x.val).state (hush s.dev))
  generalize slotProfile x.val (reapplied s.dev x) (slotOf s.dev x.val).state (hush s.dev) = u at hkept htook hleft hall ⊢
  rw [slotOf_served]
  refine ⟨fun hfits => ?_, fun hshort => ?_, hkept, fun y hy => hall.slot y (by simp [Part.seenIn, hy.symm]), hall.cables rfl, hall.odCfg rfl,
    hall.sameSwitch rfl, hall.sameTime rfl, hall.sameStores rfl, hall.sameAon rfl⟩
  · obtain ⟨⟨hid, -, hbooked, hng⟩, hout⟩ := htook hfits
    exact ⟨hbooked, hid, hng, out_served hout⟩
  · obtain ⟨⟨hid, hbooked⟩, hout⟩ := hleft hshort
    exact ⟨hbooked, hid, out_served hout⟩

end

end Sys2Proof.Proofs.Reapply


/-! Writes of EXIT_MODE, RENEGOTIATE and FAULT_CLEAR, with those of REAPPLY (chapter 6, R211; chapter 7, R229; chapter 8, R302). -/

namespace Sys2Proof.Proofs.PowerWrites

open Sys2Proof Sys2Proof.Machine Sys2Proof.Safety
open Sys2Proof.Proofs.StepAndTimers
open Sys2Proof.Proofs.ShapersAndTally
open Sys2Proof.Proofs.Frames
open Sys2Proof.Proofs.Running
open Sys2Proof.Proofs.Shepherd
open Sys2Proof.Proofs.PdMessages
open Sys2Proof.Proofs.PortEvents
open Sys2Proof.Proofs.PdReceiving
open Sys2Proof.Proofs.PodSteps
open Sys2Proof.Proofs.SourceSide
open Sys2Proof.Proofs.SourceContracts
open Sys2Proof.Proofs.SinkRequests
open Sys2Proof.Proofs.SourceTimes
open Sys2Proof.Proofs.PodExchange
open Sys2Proof.Proofs.PodReading (idled)
open Sys2Proof.Proofs.PodLink
open Sys2Proof.Proofs.Detach
open Sys2Proof.Proofs.HardReset (podClosed Outlasts outlasts_pdSend outlasts_sendDone)
open Sys2Proof.Proofs.SwapsAndResets (applyVbus_waits)
open Sys2Proof.Proofs.RowWrites
open Sys2Proof.Proofs.Subscriptions (closed_stands)
open Sys2Proof.Proofs.SlotIdentification
open Sys2Proof.Proofs.Reapply

section
variable {t u w d : Dev} {n : CPort} {id : BitVec 3} {m : PdMsg} {c : Instr} {s : State} {g : Nego} {a : VdmAnswer}

/-! ### EXIT_MODE -/

theorem sessionOf_served (d : Dev) (k : Nat) : sessionOf (served d) k = sessionOf d k := by
  rw [served, HostWindow.sessionOf_settle]
  rfl

theorem link_served (d : Dev) (p : Nat) : (swPort (served d) p).link = (swPort d p).link := SameLinks.of_fab (by rw [served, settle_fab]; rfl) p

theorem sameLinks_setFence (p : Nat) (b : Bool) (d : Dev) : SameLinks (setFence p b d) d := by
  unfold setFence
  dsimp only
  have hset : SameLinks (setSwPort p (fun w => { w with fenced := b }) d) d := sameLinks_setSwPort fun _ => rfl
  split
  · split
    · refine SameLinks.trans ?_ hset
      exact (SameLinks.of_fab (emit_fab _ _)).trans (sameLinks_endSending.trans sameLinks_dropCopy)
    · exact hset
  · exact hset

theorem link_closedPod (n : Nat) (d : Dev) : (swPort (closedPod n d) n).link = false := by
  have hmux : SameLinks (closedPod n d) (setFence n true (podClose n d)) :=
    .of_fab ((show Only [.cable n, .free] (closedPod n d) (setFence n true (podClose n d)) by simp [closedPod]).fab rfl)
  exact (hmux n).trans ((sameLinks_setFence n true _ n).trans (link_podClose n d))

theorem session_closedPod {n : Nat} (h : (cable d n).podOpen = true) : (sessionOf (closedPod n d) (2 + n)).isOpen = false := by
  obtain ⟨hshut, -⟩ := closed_stands (2 + n) d
  have hrest : Only (.free :: .fence n :: .timer (.vdm n) :: .timer (.linkUp n) :: .cable n :: .st :: [.fab, .sends, .timersOf .switch, .out])
      (closedPod n d) (closeSession (2 + n) d) := by
    unfold closedPod podClose
    dsimp only
    rw [if_pos h]
    simp
  rw [← hshut]
  exact congrArg (fun l => (tget Session.fresh l (2 + n)).isOpen) (hrest.sessions rfl)

theorem link_exitPod {n : Nat} (h : (cable d n).podOpen = true) : (swPort (exitPod n d) n).link = false := by
  rw [exitPod_of_open h, SameLinks.of_fab ((only_vdmSend_wire n .exitMode _).fab rfl) n]
  exact link_closedPod n d

theorem session_exitPod {n : Nat} (h : (cable d n).podOpen = true) : (sessionOf (exitPod n d) (2 + n)).isOpen = false := by
  rw [exitPod_of_open h, ← session_closedPod h]
  exact congrArg (fun l => (tget Session.fresh l (2 + n)).isOpen) ((only_vdmSend_wire n .exitMode _).sessions rfl)

theorem exitMode_written (h : AdmittedValue s.dev 1 (cableObj n.val) 17 1) (hopen : (cable s.dev n.val).podOpen = true) :
    Serves (.exitMode n (.written true)) s fun t =>
        (cable t n.val).podOpen = false ∧ (cable t n.val).laneOn = false ∧ (cable t n.val).vdm = .exitMode ∧
        (swPort t n.val).fenced = true ∧ (swPort t n.val).link = false ∧ (sessionOf t (2 + n.val)).isOpen = false ∧
        (cable t n.val).booked = (cable s.dev n.val).booked ∧ (cable t n.val).contract = (cable s.dev n.val).contract ∧
        t.slots = s.dev.slots ∧ t.od.cfg = s.dev.od.cfg ∧ SameStores t s.dev ∧ SameAon t s.dev := by
  refine serves_served rfl h (objAt_cable n) rfl rfl (u := exitPod n.val (hush s.dev)) rfl (?_ : _ ∧ _)
  have hall := only_served (only_exitPod_wire n.val (hush s.dev))
  have hport := unplaced_exitPod (d := hush s.dev) hopen
  have hfence := fenced_served (fenced_exitPod (d := hush s.dev) hopen)
  have hlink := link_exitPod (d := hush s.dev) hopen
  have hsession := session_exitPod (d := hush s.dev) hopen
  rw [cable_hush] at hport
  rw [cable_served, sessionOf_served, link_served]
  generalize exitPod n.val (hush s.dev) = u at hall hport hfence hlink hsession ⊢
  obtain ⟨-, hshut, hlane, hvdm, hbooked, hcontract⟩ := left_of_unplaced hport
  exact ⟨hshut, hlane, hvdm, hfence, hlink, hsession, hbooked, hcontract, hall.slots rfl, hall.odCfg rfl, hall.sameStores rfl, hall.sameAon rfl⟩

theorem exitMode_shut (h : AdmittedValue s.dev 1 (cableObj n.val) 17 1) (hshut : (cable s.dev n.val).podOpen = false) :
    Answers (.exitMode n (.written true)) s fun t => Became t { hush s.dev with out := [.status 0] } :=
  became_of_nothing rfl h (objAt_cable n) rfl rfl (if_pos (by rw [cable_hush, hshut]; rfl))

theorem armed_vdm_told (n : CPort) (id : BitVec 3) (d : Dev) : armed (.vdm n.val) (told n id d) = false := by
  have h : armed (.vdm n.val) (dequeued n.val (heard n id (hush d))) = false := armed_disarm_self _ _
  rw [told, vdmAnswered_eq]
  generalize dequeued n.val (heard n id (hush d)) = u at h ⊢
  split
  · split
    · exact ((only_sendDone_wire n.val u).armed _ rfl).trans h
    · exact h
  · exact h

theorem outlasts_vdmAnswered (n : Nat) (d : Dev) : Outlasts (vdmAnswered n d) d := by
  have h : Outlasts (dequeued n d) d := .of_out rfl
  rw [vdmAnswered_eq]
  generalize dequeued n d = u at h ⊢
  split
  · split
    · exact (outlasts_sendDone n u).trans h
    · exact h
  · exact h

theorem goodCrc_told (n : CPort) (id : BitVec 3) (d : Dev) : Emission.pd n (.goodCrc id) ∈ (told n id d).out := by
  refine outlasts_vdmAnswered n.val _ _ ?_
  rw [out_heard]
  exact List.mem_singleton.mpr rfl

theorem exit_answered (hears : HearsVdm s.dev n.val id .exitMode) :
    Answers (.exitMode n (.answered ⟨id, a⟩)) s fun t =>
      (cable t n.val).vdm = .idle ∧ armed (.vdm n.val) t = false ∧ (cable t n.val).rxId = some id ∧
      Emission.pd n (.goodCrc id) ∈ t.out ∧ (cable t n.val).contract = (cable s.dev n.val).contract ∧
      (cable t n.val).booked = (cable s.dev n.val).booked ∧ (cable t n.val).podOpen = (cable s.dev n.val).podOpen ∧
      (∀ m : Nat, m ≠ n.val → cable t m = cable s.dev m) ∧ t.slots = s.dev.slots ∧ t.shep = s.dev.shep ∧
      SameSwitch t s.dev ∧ SameTime t s.dev ∧ SameStores t s.dev ∧ SameAon t s.dev := by
  have heff : exitAnswered n.val id (hush s.dev) = setCable n.val idled (told n id s.dev) := vdmReceive_told hears rfl
  refine answers_of_effect rfl heff ?_
  have hport := untold_told n id s.dev
  have harmed := armed_vdm_told n id s.dev
  have hout := goodCrc_told n id s.dev
  have hall := only_settled ((only_setCable n.val idled (by simp)).mpr (only_told n id s.dev))
  generalize told n id s.dev = u at hport harmed hout hall ⊢
  rw [cable_settle, cable_setCable_self, armed_settle, settle_out]
  generalize cable u n.val = x at hport ⊢
  exact ⟨rfl, harmed, (congrArg Cable.rxId hport :), hout, (congrArg Cable.contract hport :), (congrArg Cable.booked hport :),
    (congrArg Cable.podOpen hport :), fun k hk => hall.cable k (by simp [Part.seenIn, hk.symm]), hall.slots rfl, hall.shep rfl, hall.sameSwitch rfl,
    hall.sameTime rfl, hall.sameStores rfl, hall.sameAon rfl⟩

/-! ### RENEGOTIATE -/

theorem objAt_contract (n : CPort) : objAt (contractObj n.val) = some (.contract, n.val) := by
  revert n
  decide

theorem renegotiate_deaf (h : pdListens d n.val = false) : renegotiate n.val (hush d) = hush d :=
  if_pos (show (!pdListens (hush d) n.val) = true by rw [show pdListens (hush d) n.val = false from h]; rfl)

theorem renegotiate_source (hlistens : pdListens d n.val = true) (hrole : (cable d n.val).powerRole = .source) :
    renegotiate n.val (hush d) = recomputeOffer n.val (hush d) := by
  unfold renegotiate
  dsimp only
  rw [show pdListens (hush d) n.val = true from hlistens, if_neg (by decide), cable_hush, if_pos hrole]

theorem renegotiate_sink (hlistens : pdListens d n.val = true) (hrole : (cable d n.val).powerRole ≠ .source)
    (hexplicit : explicit (cable d n.val) = true) (hidle : negotiating (cable d n.val) = false) :
    renegotiate n.val (hush d) = sinkRequest n.val (hush d) := by
  unfold renegotiate
  dsimp only
  rw [show pdListens (hush d) n.val = true from hlistens, if_neg (by decide), cable_hush, if_neg hrole, hexplicit, hidle]
  rfl

theorem unshed_of_listens (h : pdListens d n.val = true) : isShed (cable d n.val) = false := by
  unfold pdListens at h
  dsimp only at h
  simp only [Bool.and_eq_true, Bool.not_eq_true'] at h
  obtain ⟨⟨⟨-, hshed⟩, -⟩, -⟩ := h
  exact hshed

/-- What a write to a port's contract or path may reach. -/
@[simp] def portWriteParts (n : Nat) : List Part := .timer (.sender n) :: .timer (.srcCap n) :: wireParts n

/-- What it leaves of the rest of the device. -/
theorem portWrite_leaves (h : Only (portWriteParts n.val) u (hush d)) : (∀ m : Nat, m ≠ n.val → cable (served u) m = cable d m) ∧
    (served u).slots = d.slots ∧ (served u).shep = d.shep ∧ SameSwitch (served u) d ∧ SameTime (served u) d ∧ SameStores (served u) d ∧
    SameAon (served u) d := by
  have hall := only_served h
  exact ⟨fun k hk => hall.cable k (by simp [Part.seenIn, hk.symm]), hall.slots rfl, hall.shep rfl, hall.sameSwitch rfl,
    hall.sameTime rfl, hall.sameStores rfl, hall.sameAon rfl⟩

/-- A port that holds its offer back. -/
def withheld (c : Cable) : Cable := { c with offerHeld := true }

theorem recomputeOffer_held (hrole : (cable d n.val).powerRole = .source) (hexplicit : explicit (cable d n.val) = true)
    (hshed : isShed (cable d n.val) = false) (hbusy : negotiating (cable d n.val) = true) :
    recomputeOffer n.val d = setCable n.val withheld d := by
  unfold recomputeOffer
  dsimp only
  rw [if_neg (by simp [hrole, hexplicit, hshed]), hbusy]
  exact if_pos (by simp)

theorem renegotiate_held (h : AdmittedValue s.dev 1 (contractObj n.val) 20 1) (hlistens : pdListens s.dev n.val = true)
    (hexplicit : explicit (cable s.dev n.val) = true) (hrole : (cable s.dev n.val).powerRole = .source)
    (hbusy : negotiating (cable s.dev n.val) = true) :
    Serves (.renegotiate n true) s fun t => cable t n.val = { cable s.dev n.val with offerHeld := true } ∧
          (∀ m : Nat, m ≠ n.val → cable t m = cable s.dev m) ∧ t.slots = s.dev.slots ∧ t.shep = s.dev.shep ∧
          SameSwitch t s.dev ∧ SameTime t s.dev ∧ SameStores t s.dev ∧ SameAon t s.dev := by
  have heff : renegotiate n.val (hush s.dev) = setCable n.val withheld (hush s.dev) :=
    (renegotiate_source hlistens hrole).trans (recomputeOffer_held (d := hush s.dev) hrole hexplicit (unshed_of_listens hlistens) hbusy)
  refine serves_served rfl h (objAt_contract n) rfl rfl heff ⟨?_, portWrite_leaves (by simp)⟩
  rw [cable_served, cable_setCable_self, cable_hush]
  rfl

theorem says_pdSend_after {m' : PdMsg} (h : Says n m d) : Says n m (pdSend n.val m' d) := by
  obtain ⟨hout, hlast⟩ := h
  refine ⟨outlasts_pdSend n.val m' d _ hout, ?_⟩
  unfold pdSend
  rw [hlast, if_neg (show ¬ (some m).isNone = true from Bool.false_ne_true), cable_setCable_self]
  exact hlast

/-- The device of a port whose offer is out, before it is sent. -/
def offered (n : Nat) (pdos : List Word) (mw : Nat) (d : Dev) : Dev :=
  disarm (.sender n) (disarm (.srcCap n) (setCable n (openedWith pdos mw) d))

theorem only_sendCaps_of_open (hpower : 500 ≤ offerPower d n.val) (hpending : cablePending (cable d n.val) = false)
    (hasks : asksCable (cable d n.val) (buildOffer d n.val (offerPower d n.val).toNat) = false) :
    Only (portWriteParts n.val) (sendCaps n.val d) d := by
  have heff : sendCaps n.val d = pdSend n.val (.sourceCaps (buildOffer d n.val (offerPower d n.val).toNat))
      (offered n.val (buildOffer d n.val (offerPower d n.val).toNat) (offerPower d n.val).toNat d) := by
    unfold sendCaps
    dsimp only
    rw [if_neg (not_lt.mpr hpower), hpending, if_neg (by decide), hasks, if_neg (by decide)]
    rfl
  rw [heff]
  exact ((only_pdSend_wire n.val _ _).mono (by simp)).trans (by simp [offered])

/-- A source's offer that has changed goes out, and an Alert after it when it has shrunk. -/
theorem recomputeOffer_sends (hrole : (cable d n.val).powerRole = .source) (hexplicit : explicit (cable d n.val) = true)
    (hshed : isShed (cable d n.val) = false) (hidle : negotiating (cable d n.val) = false) (hpending : cablePending (cable d n.val) = false)
    (hwait : armed (.waitReoffer n.val) d = false) (hpower : 500 ≤ offerPower d n.val)
    (hnew : buildOffer d n.val (offerPower d n.val).toNat ≠ (cable d n.val).offer) :
    recomputeOffer n.val d = sendCaps n.val d ∨
      recomputeOffer n.val d = pdSend n.val (.alert (alertWord adoOpCond)) (sendCaps n.val d) := by
  unfold recomputeOffer
  dsimp only
  rw [if_neg (by simp [hrole, hexplicit, hshed]), if_neg (by simp [hidle, hpending, hwait]), if_neg (not_lt.mpr hpower), if_neg hnew]
  split
  · exact .inr rfl
  · exact .inl rfl

/-- What has gone out has, and an Alert after it changes no more. -/
theorem sends_then {x : Dev} (hreach : Only (portWriteParts n.val) u d)
    (heff : x = u ∨ x = pdSend n.val (.alert (alertWord adoOpCond)) u) :
    ∃ w, x = w ∧ Only (portWriteParts n.val) w d ∧ unsaid (cable w n.val) = unsaid (cable u n.val) ∧ ∀ m, Says n m u → Says n m w := by
  obtain rfl | rfl := heff
  · exact ⟨_, rfl, hreach, rfl, fun _ h => h⟩
  · exact ⟨_, rfl, ((only_pdSend_wire n.val _ u).mono (by simp)).trans hreach, unsaid_pdSend n.val _ u n.val, fun _ h => says_pdSend_after h⟩

theorem renegotiate_offers (h : AdmittedValue s.dev 1 (contractObj n.val) 20 1) (hlistens : pdListens s.dev n.val = true)
    (hexplicit : explicit (cable s.dev n.val) = true) (hrole : (cable s.dev n.val).powerRole = .source)
    (hidle : negotiating (cable s.dev n.val) = false) (hpending : cablePending (cable s.dev n.val) = false)
    (hwait : armed (.waitReoffer n.val) s.dev = false) (hpower : 500 ≤ offerPower s.dev n.val)
    (hnew : buildOffer s.dev n.val (offerPower s.dev n.val).toNat ≠ (cable s.dev n.val).offer)
    (hasks : asksCable (cable s.dev n.val) (buildOffer s.dev n.val (offerPower s.dev n.val).toNat) = false) :
    Serves (.renegotiate n true) s fun t =>
          (cable t n.val).offer = buildOffer s.dev n.val (offerPower s.dev n.val).toNat ∧ (cable t n.val).awaiting = .capsAnswer ∧
          (cable t n.val).contract = (cable s.dev n.val).contract ∧ (cable t n.val).booked = (cable s.dev n.val).booked ∧
          ((cable s.dev n.val).lastSent = none → Says n (.sourceCaps (buildOffer s.dev n.val (offerPower s.dev n.val).toNat)) t) ∧
          (∀ m : Nat, m ≠ n.val → cable t m = cable s.dev m) ∧ t.slots = s.dev.slots ∧ t.shep = s.dev.shep ∧
          SameSwitch t s.dev ∧ SameTime t s.dev ∧ SameStores t s.dev ∧ SameAon t s.dev := by
  have hterms := sameTerms_hush n.val s.dev
  have hpower' := offerPower_congr hterms
  have hoffer := buildOffer_congr hterms
  rw [← hpower'] at hpower
  rw [← hpower', ← hoffer] at hnew hasks ⊢
  have hreach := only_sendCaps_of_open hpower hpending hasks
  have hport := unsaid_sendCaps_of_open hpower hpending hasks
  have hsays := says_sendCaps n (held_of_listens (d := hush s.dev) hlistens) hpower hpending hasks
  have heff := recomputeOffer_sends (d := hush s.dev) hrole hexplicit (unshed_of_listens hlistens) hidle hpending hwait hpower hnew
  rw [← renegotiate_source hlistens hrole] at heff
  generalize buildOffer (hush s.dev) n.val (offerPower (hush s.dev) n.val).toNat = pdos at hport hsays
  generalize sendCaps n.val (hush s.dev) = u at hreach hport hsays heff
  obtain ⟨w, heff, hall, hsame, hsaid⟩ := sends_then hreach heff
  rw [hport] at hsame
  refine serves_served rfl h (objAt_contract n) rfl rfl heff (?_ : _ ∧ _)
  have hleaves := portWrite_leaves hall
  rw [cable_served]
  generalize cable w n.val = x at hsame ⊢
  exact ⟨(congrArg Cable.offer hsame :), (congrArg Cable.awaiting hsame :), (congrArg Cable.contract hsame :), (congrArg Cable.booked hsame :),
    fun hq => says_served (hsaid _ (hsays hq)), hleaves⟩

theorem renegotiate_requests (h : AdmittedValue s.dev 1 (contractObj n.val) 20 1) (hlistens : pdListens s.dev n.val = true)
    (hexplicit : explicit (cable s.dev n.val) = true) (hrole : (cable s.dev n.val).powerRole ≠ .source)
    (hidle : negotiating (cable s.dev n.val) = false) (hnot : ¬ ((cable s.dev n.val).guard = .wet ∧ (cable s.dev n.val).epr = .inEpr))
    (hpick : sinkPick s.dev n.val = some g) :
    Serves (.renegotiate n true) s fun t =>
          (cable t n.val).nego = some g ∧ (cable t n.val).awaiting = .requestAnswer ∧
          (cable t n.val).contract = (cable s.dev n.val).contract ∧ (cable t n.val).booked = (cable s.dev n.val).booked ∧
          ((cable s.dev n.val).lastSent = none → g.epr = false → Says n (.request (rdoOf s.dev n.val g)) t) ∧
          (∀ m : Nat, m ≠ n.val → cable t m = cable s.dev m) ∧ t.slots = s.dev.slots ∧ t.shep = s.dev.shep ∧
          SameSwitch t s.dev ∧ SameTime t s.dev ∧ SameStores t s.dev ∧ SameAon t s.dev := by
  have hchoice : SameChoice n.val (hush s.dev) s.dev := ⟨fun _ _ => rfl, rfl, rfl, rfl, rfl, rfl, rfl⟩
  have heff : renegotiate n.val (hush s.dev) = sendRequest n.val g (hush s.dev) :=
    (renegotiate_sink hlistens hrole hexplicit hidle).trans (sinkRequest_of_pick ((sinkPick_congr hchoice).trans hpick) hnot)
  refine serves_served rfl h (objAt_contract n) rfl rfl heff (?_ : _ ∧ _)
  have hport := unsaid_sendRequest n.val g (hush s.dev)
  have hleaves := portWrite_leaves (n := n) ((only_sendRequest_wire n.val g (hush s.dev)).mono (by simp))
  have hsays := says_sendRequest (n := n) (g := g) (d := hush s.dev) (held_of_listens (d := hush s.dev) hlistens)
  rw [cable_hush] at hport
  rw [cable_served, ← rdoOf_congr hchoice.cfg]
  generalize sendRequest n.val g (hush s.dev) = u at hport hleaves hsays ⊢
  generalize cable u n.val = x at hport ⊢
  exact ⟨(congrArg Cable.nego hport :), (congrArg Cable.awaiting hport :), (congrArg Cable.contract hport :), (congrArg Cable.booked hport :),
    fun hq hepr => says_served (hsays hq hepr), hleaves⟩

/-! ### FAULT_CLEAR -/

theorem objAt_path (n : CPort) : objAt (pathObj n.val) = some (.path, n.val) := by
  revert n
  decide

/-- A port that has left LATCHED. -/
def unlatched (c : Cable) : Cable := { c with path := .off, retriesLeft := 3, ladder := { c.ladder with short := false } }

/-- A port whose VBUS waits. -/
def vbusAwaited (c : Cable) : Cable := { c with vbusWait := true }

theorem faultClear_eq (hlatched : (cable d n.val).path = .latched) : faultClear n.val true d =
    if (cable d n.val).typec = .attachedSrc then applyVbus n.val (setCable n.val unlatched d) else setCable n.val unlatched d :=
  if_neg (by simp [hlatched])

/-- A port that nothing supplies is free. -/
theorem faultClear_frees (h : AdmittedValue s.dev 1 (pathObj n.val) 17 1) (hlatched : (cable s.dev n.val).path = .latched)
    (hunattached : (cable s.dev n.val).typec ≠ .attachedSrc) :
    Serves (.faultClear n true) s fun t => cable t n.val = unlatched (cable s.dev n.val) ∧
        (∀ m : Nat, m ≠ n.val → cable t m = cable s.dev m) ∧ t.slots = s.dev.slots ∧
        t.shep = s.dev.shep ∧ SameSwitch t s.dev ∧ SameTime t s.dev ∧ SameStores t s.dev ∧ SameAon t s.dev := by
  have heff : faultClear n.val true (hush s.dev) = setCable n.val unlatched (hush s.dev) :=
    (faultClear_eq (d := hush s.dev) hlatched).trans (if_neg hunattached)
  refine serves_served rfl h (objAt_path n) rfl rfl heff ⟨?_, portWrite_leaves (by simp)⟩
  rw [cable_served, cable_setCable_self, cable_hush]

/-- An attached sink partner waits for its VBUS. -/
theorem faultClear_waits (h : AdmittedValue s.dev 1 (pathObj n.val) 17 1) (hlatched : (cable s.dev n.val).path = .latched)
    (hattached : (cable s.dev n.val).typec = .attachedSrc) (hdry : (cable s.dev n.val).guard ≠ .wet) (hstale : (cable s.dev n.val).guardFresh = false) :
    Serves (.faultClear n true) s fun t => cable t n.val = vbusAwaited (unlatched (cable s.dev n.val)) ∧
        (∀ m : Nat, m ≠ n.val → cable t m = cable s.dev m) ∧
        t.slots = s.dev.slots ∧ t.shep = s.dev.shep ∧ SameSwitch t s.dev ∧ SameTime t s.dev ∧ SameStores t s.dev ∧
        SameAon t s.dev := by
  have hcable := cable_setCable_self n.val unlatched (hush s.dev)
  have hreach : Only (portWriteParts n.val) (setCable n.val unlatched (hush s.dev)) (hush s.dev) := by simp
  have hclear : faultClear n.val true (hush s.dev) = applyVbus n.val (setCable n.val unlatched (hush s.dev)) :=
    (faultClear_eq (d := hush s.dev) hlatched).trans (if_pos hattached)
  rw [cable_hush] at hcable
  generalize setCable n.val unlatched (hush s.dev) = u at hcable hreach hclear
  have heff : faultClear n.val true (hush s.dev) = setCable n.val vbusAwaited u :=
    hclear.trans (applyVbus_waits (by rw [hcable]; simp [unlatched]) (by rw [hcable]; exact hstale) (by rw [hcable]; exact hdry))
  refine serves_served rfl h (objAt_path n) rfl rfl heff ⟨?_, portWrite_leaves ((only_setCable _ _ (by simp)).mpr hreach)⟩
  rw [cable_served, cable_setCable_self, hcable]

theorem faultClear_idle (h : AdmittedValue s.dev 1 (pathObj n.val) 17 1) (hfree : (cable s.dev n.val).path ≠ .latched) :
    Answers (.faultClear n true) s fun t => Became t { hush s.dev with out := [.status 0] } :=
  became_of_nothing rfl h (objAt_path n) rfl rfl (if_pos (by simp [hfree]))

end

/-- Settles O32, by the element that each write is of. -/
theorem powerWrites : Obligations.PowerWrites := by
  unfold Obligations.PowerWrites
  refine ⟨fun s n h => ⟨fun hruns hexplicit hshed => ⟨fun hpod => reapply_discovers h ⟨hruns, hexplicit, hshed⟩ hpod,
      fun hpod => ⟨fun hfits => reapply_admitted h ⟨hruns, hexplicit, hshed⟩ hpod hfits,
        fun hrole hshort => reapply_refused h ⟨hruns, hexplicit, hshed⟩ hpod fun hfits => hfits.elim hrole (not_le.mpr hshort)⟩⟩,
      fun hfree => became_of_nothing rfl h (objAt_cable n) rfl rfl (reapplyPort_idle hfree)⟩,
    fun s x h hready hstate => reapply_slot h hready hstate rfl,
    fun s n h => ⟨fun hopen => exitMode_written h hopen, fun hshut => exitMode_shut h hshut⟩,
    fun s n id a hears hstep => exit_answered ⟨hears, hstep⟩,
    fun s n h => ⟨fun hdeaf => became_of_nothing rfl h (objAt_contract n) rfl rfl (renegotiate_deaf hdeaf), fun hlistens hexplicit =>
      ⟨fun hrole hbusy => renegotiate_held h hlistens hexplicit hrole hbusy,
        fun hrole hidle hpending hwait hpower hnew hasks =>
          renegotiate_offers h hlistens hexplicit hrole hidle hpending hwait hpower hnew hasks,
        fun g hrole hidle hnot hpick => renegotiate_requests h hlistens hexplicit hrole hidle hnot hpick⟩⟩,
    fun s n h => ⟨fun hlatched hunattached => faultClear_frees h hlatched hunattached,
      fun hlatched hattached hdry hstale => faultClear_waits h hlatched hattached hdry hstale,
      fun hfree => faultClear_idle h hfree⟩⟩

end Sys2Proof.Proofs.PowerWrites
